-- ==== Sys2Proof/Word.lean ====
section
/-!
DEFINITION. The word types of the SNX-4144 model and its unit of time.

Registers are 32 bits wide (R3); a counter register of 64 bits is read as two words (R18).  Counts, sizes, indices
and addresses are natural numbers.
-/

namespace Sys2Proof

/-- One byte of a structure, a frame or a memory. -/
abbrev Byte := BitVec 8

/-- One 32-bit register (R3). -/
abbrev Word := BitVec 32

/-- A byte string: a frame, an operand, a key value, a record. -/
abbrev Bytes := List Byte

/-- A moment or a length of time, in units of 1/216 ns.

DESIGN CHOICE (assumption 3): 1 µs is 216,000 of these units, and every generated clock of R13 has a whole number of
them in a cycle: CCLK 160, XCLK 135, NCLK 180, MCLK 216. -/
abbrev Time := Nat

/-- A sparse table: the entries that differ from what an unlisted index reads as, by rising index. -/
abbrev Tbl (α : Type) := List (Nat × α)

end Sys2Proof
end

