-- ==== Sys2Proof/Syntax.lean ====
section
/-!
DEFINITION. The commands of the SNX-4144: one constructor of `Instr` per row of the table of operations and events, and
the types of their operands.

An operand is what the world outside the block supplies: a frame, an envelope, a register write, the outcome of an
access to host memory, a physical event, or the moment at which a unit's own clock makes a step happen.
-/

namespace Sys2Proof

/-- The status codes of R7. -/
inductive Status
  | ok | pending | busyLocked | notReady | invalidCommand | invalidLength | lengthMismatch | invalidParameter
  | invalidKey | invalidSignature | invalidInput | curveRejected | tagMismatch | notPermitted | quorumMissing
  | lifecycleForbids | resultNotReady | aborted | rngDegraded | rngStarting | vaultReadOnly | vaultIntegrity
  | vaultFull | faultDetected | secureWorldDown | queueDisabled | suspended | internal
  deriving DecidableEq, Repr

/-- The roles of R265, and normal-world firmware as R360 names it. -/
inductive Role
  | officer | operator | tenant | firmware
  deriving DecidableEq, Repr

/-- Who makes a register access: a control processor in one world, or one of the two windows of R20, or a debug access
port reaching the register fabric (R414). -/
inductive Master
  | secure (core : Fin 4)
  | normal (core : Fin 4)
  | pf0 | i3c | dap
  deriving DecidableEq, Repr

/-- The access is one of the secure world. -/
def Master.isSecure : Master → Bool
  | .secure _ => true
  | .normal _ => false
  | .pf0 => false
  | .i3c => false
  | .dap => false

/-- The access is one of the normal world. -/
def Master.isNormal : Master → Bool
  | .normal _ => true
  | .secure _ => false
  | .pf0 => false
  | .i3c => false
  | .dap => false

/-- Who sends a command: a mailbox session (session 0 included), a host function through one of its queues, normal-world
firmware on a core pair, the secure world on a core pair, or the TAP's envelope channel. -/
inductive Caller
  | session (mb : Nat) (n : Nat)
  | function (f : Nat) (queue : Nat)
  | firmware (pair : Nat)
  | secure (pair : Nat)
  | tap
  deriving DecidableEq, Repr

/-- Where the answer to a command goes: a mailbox envelope the device holds as outstanding, a ring job, a secure call of
a core pair, or only the log of outputs. -/
inductive Reply
  | log
  | envelope (id : Nat)
  | ring (job : Nat)
  | call (token : Nat)
  deriving DecidableEq, Repr

/-- An approval record (R271), its fields as they stand in its 128-byte header, and its signature. -/
structure Approval where
  magic : Nat
  format : Nat
  sigLen : Nat
  domain : Nat
  officer : Nat
  sigAlg : Nat
  code : Nat
  reserved : Nat
  digest : Bytes
  nonce : Bytes
  expiry : Nat
  serial : Bytes
  reserved2 : Nat
  signature : Bytes
  deriving DecidableEq, Repr

/-- One item of a command body (R354): its TYPE and its value. -/
structure Item where
  type : Nat
  value : Bytes
  deriving DecidableEq, Repr

/-- A command body: a sequence of items (R354), or one of the fixed layouts of the first row of R356. -/
inductive Body
  | items (l : List Item)
  | raw (bytes : Bytes)
  deriving DecidableEq, Repr

/-- What reaches the owning chapter of a command: who sent it, the envelope's DOMAIN, where the answer goes, the command
body, the approval records in submission order, and the physical faults, if any, that strike while its quorum is judged:
how many of its verifications end with FAULT_DETECTED, and whether the two comparators of R276 are made to differ.
`facts` are the physical outcomes that the command meets, in the order its meaning names them (a test that passes is 1), and
`data` is what the carrier's reads of the addresses in the body deliver, in order. -/
structure Cmd where
  caller : Caller
  domain : Nat
  reply : Reply
  body : Body
  records : List Approval
  coreFaults : Nat
  upset : Bool
  facts : List Nat := []
  data : List Bytes := []
  deriving DecidableEq, Repr

/-- The 16-byte attribute word of a key (R250), by its fields. -/
structure Attr where
  type : Nat
  usage : BitVec 8
  length : Nat
  domain : Nat
  origin : Nat
  exportable : Bool
  quorum : Bool
  session : Bool
  maskRef : Nat
  curveIndex : Nat
  notAfter : Nat
  usesLeft : Nat
  deriving DecidableEq, Repr


/-- Where a register access goes: an address of the device register space through a master (R20), or an offset of a host function's
BAR2 (R311), or of its MSI-X table and Pending Bit Array in BAR4 (R310). -/
inductive RegTarget
  | device (master : Master) (address : Nat)
  | function (f : Fin 1024) (offset : Nat)
  | vectors (f : Fin 1024) (offset : Nat)
  deriving DecidableEq, Repr

/-- One operand descriptor of a job block (R151), with the bytes its carrier delivers for an input operand. -/
structure Operand where
  id : Nat
  output : Bool
  address : Nat
  length : Nat
  reserved : Nat
  data : Bytes
  deriving DecidableEq, Repr

/-- A public-key job block (R150): its header fields and operand descriptors.  `reserved` is the sum of its reserved
fields. -/
structure JobBlock where
  op : Nat
  algo : Nat
  flags : Nat
  curveIndex : Nat
  hash : Nat
  sizeWords : Nat
  keyHandle : Nat
  destHandle : Nat
  destAttr : Attr
  saltLen : Nat
  reserved : Nat
  operands : List Operand
  deriving DecidableEq, Repr

/-- What a public-key operation finds and computes (R146, R158, R159): the exclusions it meets, whether it ends without a
result, its output operands, its secret result, and its counts of attempts, candidates and survivors. -/
structure PkeResult where
  keyBad : Bool := false
  signatureBad : Bool := false
  inputBad : Bool := false
  noResult : Bool := false
  outs : List Bytes := []
  secret : Bytes := []
  attempts : Nat := 1
  candidates : Nat := 0
  survivors : Nat := 0
  deriving DecidableEq, Repr, Inhabited

/-- A fragment descriptor (R207), with the bytes a read of it delivers. -/
structure Frag where
  address : Nat
  length : Nat
  last : Bool
  reserved : Nat
  data : Bytes
  deriving DecidableEq, Repr

/-- A service MAC segment (R193), its fragment list, and the expected tag that a LAST MAC_VERIFY segment reads. -/
structure SegBlock where
  op : Nat
  algo : Nat
  flags : Nat
  engine : Nat
  ticket : Nat
  tagLen : Nat
  keyHandle : Nat
  iv : Bytes
  segLen : Nat
  fragCount : Nat
  listAddress : Nat := 0
  tagAddress : Nat
  reserved : Nat
  frags : List Frag
  expected : Bytes
  deriving DecidableEq, Repr

/-- A service digest job (R206), its fragment list, and the expected tag that HMAC_VERIFY reads. -/
structure DigBlock where
  op : Nat
  algo : Nat
  flags : Nat
  outLen : Nat
  fragCount : Nat
  totalLen : Nat
  keyHandle : Nat
  destHandle : Nat
  destAttr : Attr
  listAddress : Nat := 0
  dataAddress : Nat
  reserved : Nat
  frags : List Frag
  expected : Bytes
  deriving DecidableEq, Repr

/-- An engine that tests itself (R190, R202, R215): lane 2n + l for lane l of port Pn, a service MAC engine, or a digest
engine. -/
inductive EngineId
  | lane (l : Fin 288)
  | svc (e : Fin 32)
  | digest (d : Fin 64)
  deriving DecidableEq, Repr

/-- A message between chamber members (R124, R130 to R137). -/
inductive ChamberMsg
  | hello (serial : Bytes) (chamberId : Nat) (nonce : Bytes)
  | proof (mac : Bytes)
  | heartbeat (advert : Bytes)
  | heartbeatRequest
  | pairQuery (wire : Nat)
  | pairAnswer (wire : Nat) (mode pair : Word)
  | job (id keyRef alg budget : Nat) (fingerprint digest sig : Bytes)
  | jobAnswer (id : Nat) (status : Option Status)
  deriving DecidableEq, Repr


/-- What the reading of a cell finds (R296): it verifies; it verifies by reconstruction from its stripe, with the channel of the page that
failed, whether that was a flash error, and the stripe's live cells; or nothing verifies: the cell, and whether it is a node. -/
inductive CellRead
  | good
  | repaired (channel : Nat) (flash : Bool) (cells : List Nat)
  | lost (cell : Nat) (node : Bool)
  deriving DecidableEq, Repr

/-- A flash target that answered a mount's probe with a sound parameter page (R283, R284): its channel and number, identity and
geometry (LUNs, and of each its blocks and planes; a page's data and spare bytes), and the rates in 100 MT/s that it advertises for
NV-LPDDR4 (0 for none) and NV-DDR3 (0 for none up to 1,200 MT/s). -/
structure Target where
  channel : Nat
  number : Nat
  maker : Nat
  model : Nat
  pageSize : Nat
  spareBytes : Nat
  luns : Nat
  blocks : Nat
  planes : Nat
  pagesPerBlock : Nat
  lpddr4 : Nat
  ddr3 : Nat
  deriving DecidableEq, Repr

/-- What a mount finds (R284, R293): the targets, the channels whose training passes for NV-LPDDR4 and for NV-DDR3, the epoch and
root of the newest commit record that authenticates, and the reading of the pinned nodes, or of FAIL_CELL. -/
structure MountFacts where
  targets : List Target
  trainsLpddr4 : BitVec 8
  trainsDdr3 : BitVec 8
  found : Option (Nat × Bytes)
  nodes : CellRead
  deriving DecidableEq, Repr

/-- The physical outcomes that a command carried by a ring, an envelope or a WCALL meets, and what its carrier's reads deliver: the
fields of `Cmd` that its bytes do not give. -/
structure Carry where
  coreFaults : Nat
  upset : Bool
  facts : List Nat
  data : List Bytes
  deriving DecidableEq, Repr


/-- What the debug access port asks for (R413, R414): control memory at an offset, the register fabric, halting, stepping or resuming the
contexts of a world, bits of a context's registers, or the trace buffer. -/
inductive DapOp
  | read (offset length : Nat)
  | write (offset : Nat) (bytes : Bytes)
  | readRegister (address : Nat)
  | writeRegister (address : Nat) (value : Word)
  | halt (secure : Bool)
  | step (secure : Bool)
  | resume (secure : Bool)
  | readContext (secure : Bool) (bits : Nat)
  | readTrace
  deriving DecidableEq, Repr

/-- What one detector reads at a sample (R424): its source, the rail, clock or sensor it watches, whether it is detector B, the
value, and where that lies: 2 in window, 1 or 3 between the window and its hysteresis, 0 or 4 out of window. -/
structure Reading where
  source : Nat
  unit : Nat
  second : Bool
  zone : Fin 5
  value : Nat
  deriving DecidableEq, Repr

/-- What Lantern senses at one sample: the level detectors' readings, the event detectors that tripped (source, unit, detector B),
the levels of the tamper pins, and whether an upset makes comparator A of R433 miss a zeroize. -/
structure Sample where
  levels : List Reading
  trips : List (Nat × Nat × Bool)
  pins : BitVec 8
  upset : Bool
  deriving DecidableEq, Repr
/-- An Announce (R438), by the fields that the default best master clock algorithm compares. -/
structure Announce where
  domain : Nat
  sourceId : Nat
  grandmaster : Nat
  priority1 : Nat
  clockClass : Nat
  clockAccuracy : Nat
  variance : Nat
  priority2 : Nat
  stepsRemoved : Nat
  deriving DecidableEq, Repr

/-- A Sync (R439): its domain, sender and sequence, the interval it announces in units of 2^n s, whether a Follow_Up completes it,
and its origin timestamp and correction in nanoseconds. -/
structure Sync where
  domain : Nat
  sourceId : Nat
  seq : Nat
  logInterval : Int
  twoStep : Bool
  origin : Nat
  correction : Int
  deriving DecidableEq, Repr

/-- A Follow_Up (R439). -/
structure FollowUp where
  domain : Nat
  sourceId : Nat
  seq : Nat
  origin : Nat
  correction : Int
  deriving DecidableEq, Repr

/-- A Pdelay_Resp, or the Pdelay_Resp_Follow_Up of a two-step one (R438): `stamp` is the request's receipt time or the
response's origin time, in nanoseconds. -/
structure PdelayResp where
  domain : Nat
  seq : Nat
  followUp : Bool
  twoStep : Bool
  stamp : Nat
  correction : Int
  deriving DecidableEq, Repr


/-- A key as the vault or the in-package die keeps it. -/
structure KeyRec where
  attr : Attr
  value : Bytes
  deriving DecidableEq, Repr

/-- An officer's, operator's or tenant's public key (R264). -/
structure Credential where
  sigAlg : Nat
  key : Bytes
  deriving DecidableEq, Repr

/-- The states of a domain record (R264). -/
inductive DomainState
  | free | active | destroying
  deriving DecidableEq, Repr

/-- A domain record (R264).  Officers, operators, tenants and masks stand under their numbers. -/
structure Domain where
  state : DomainState := .free
  officers : Tbl Credential := []
  operators : Tbl Credential := []
  tenants : Tbl Credential := []
  functions : List Nat := []
  mCrit : Nat := 0
  mRoutine : Nat := 0
  policy : Nat := 0
  masks : Tbl (BitVec 64) := []
  slotQuota : Nat := 0
  longQuota : Nat := 0
  master : Bytes := []
  deriving DecidableEq, Repr

/-- One change of a domain record (R264, R268, R281). -/
inductive DomainEdit
  | create (rec : Domain)
  | destroy
  | thresholds (crit routine : Nat)
  | quotas (slots longKib : Nat)
  | mask (m : Nat) (v : BitVec 64)
  | officer (n : Nat) (c : Option Credential)
  | credential (tenant : Bool) (n : Nat) (c : Option Credential)
  | function (f : Nat) (assigned : Bool)
  | policy (p : Nat)
  deriving DecidableEq, Repr

/-- One change of the vault (R289, R292, R302). -/
inductive VaultOp
  | putKey (handle : Nat) (rec : KeyRec)
  | eraseKey (handle : Nat)
  | setAttr (handle : Nat) (attr : Attr)
  | reserve (handle n : Nat)
  | rewrite (cells : List Nat)
  | editDomain (d : Nat) (e : DomainEdit)
  | setReadOnly
  deriving DecidableEq, Repr

/-- A roster entry (R464): the member's number and serial, the SHA-384 of its two public keys, whether it is ACTIVE, and the roster
version at admission. -/
structure RosterEntry where
  member : Nat
  serial : Bytes
  keyDigest : Bytes
  live : Bool
  version : Nat
  deriving DecidableEq, Repr

/-- The body of a change record (R473): a command's changes of the vault with the command that made them; a new replica list, with
the domain's record and keys for the replicas that it adds; roster entries; or the handles or members revoked. -/
inductive ChangeBody
  | command (code : Nat) (cmd : Option Cmd) (ops : List VaultOp)
  | replicaSet (members : List Nat) (content : Option (Domain × Tbl KeyRec))
  | roster (entries : List RosterEntry)
  | revoke (handles members : List Nat)
  deriving DecidableEq, Repr

/-- A change record (R473) without its signature entries. -/
structure Change where
  karstId : Bytes
  domain : Nat
  proposer : Nat
  version : Nat
  term : Nat
  prev : Bytes
  body : ChangeBody
  deriving DecidableEq, Repr

/-- A signature entry (R473): a member and its signature over the header. -/
structure SigEntry where
  member : Nat
  sig : Bytes
  deriving DecidableEq, Repr

/-- The fields of OFFER and ACCEPT (R468); an ACCEPT's `kem` is its ciphertext. -/
structure KarHello where
  member : Nat
  serial : Bytes
  karstId : Bytes
  rosterVersion : Nat
  nonce : Bytes
  kem : Bytes
  xKey : Bytes
  sig : Bytes
  deriving DecidableEq, Repr

/-- The Karst messages by TYPE (R469). -/
inductive KarMsg
  | offer (h : KarHello)
  | accept (h : KarHello)
  | heartbeat (domain term version : Nat)
  | propose (c : Change) (sig : SigEntry)
  | signed (domain version term : Nat) (sig : SigEntry) (urgent : Bool)
  | commit (c : Change) (sigs : List SigEntry)
  | decline (domain version : Nat) (status : Status) (holder : Nat)
  | forward (id domain : Nat) (body : Option ChangeBody) (result : Option Status)
  | voteRequest (domain term signedTerm signedVersion : Nat)
  | vote (domain term : Nat)
  | catchupRequest (domain version : Nat)
  | catchup (domain : Nat) (records : List (Change × List SigEntry))
  | revoke (c : Change) (sigs : List SigEntry)
  | rosterPoll (version : Nat)
  | roster (version : Nat) (entries : List RosterEntry) (replicated : List Nat)
  deriving DecidableEq, Repr


/-- What is latched at the release of the internal reset (R22, R342, R507): CHAMBER_ID and MGMT_EN, and whether SYSREF lets the core
PLLs lock (R505). -/
structure Straps where
  chamberId : BitVec 4
  mgmtEn : Bool
  locks : Bool
  deriving DecidableEq, Repr

/-- The commands: one constructor per row of the table of operations and events. -/
inductive Instr
  /-- FRAME_RECEIVE (R35). A frame's last byte and FCS arrive at a port, and the front end applies its receive discards, timestamps the frame and queues it for parsing. -/
  | frameReceive (port : Fin 144) (frame : Bytes) (sfd : Time) (overflow : Bool) (t : Time)
  /-- WALK_START (R50). A free parser lane begins walking the next frame of its parse queue, taking any pending commit swap at this frame boundary. -/
  | walkStart (port : Fin 144) (t : Time)
  /-- WALK_END (R60). A walk ends in CLASS or a walk fault, and the frame is handled by its class, a COMMAND frame going through the trailer, admission and pre-check stages. -/
  | walkEnd (port : Fin 144) (t : Time)
  /-- PAGE_IN_REQUEST (R300). Secure-world firmware takes a page-in request from its queue and reads the key from the vault into a slot. -/
  | pageInRequest (t : Time)
  /-- PAGE_IN_COMPLETE (R91). A page-in completes or fails, and every frame waiting on it is resolved again or refused. -/
  | pageInComplete (handle : Nat) (cell : CellRead) (t : Time)
  /-- PAGE_IN_TIMEOUT (R300). A page-in still incomplete 500 µs after its request fails and its frames get PAGE_FAILED. -/
  | pageInTimeout (handle : Nat) (t : Time)
  /-- LANE_JOB_START (R189). A keyed-check lane takes the next job of its queue and fetches its key. -/
  | laneJobStart (lane : Fin 288) (t : Time)
  /-- LANE_TAG_RESULT (R189). A lane finishes a CMAC or GMAC computation and reports match or no match. -/
  | laneTagResult (lane : Fin 288) (t : Time)
  /-- LANE_KNOWN_ANSWER (R190). Every 10 ms a lane runs its known-answer AES block between jobs. -/
  | laneKnownAnswer (lane : Fin 288) (correct : Bool) (t : Time)
  /-- LANE_PARITY_ERROR (R190). A parity error puts a lane into FAILED, raises FAULT and moves its jobs to the other lane. -/
  | laneParityError (lane : Fin 288) (t : Time)
  /-- DIGEST_BLOCK_END (R204). A digest engine reaches a block boundary and picks the next context to run. -/
  | digestBlockEnd (engine : Fin 64) (t : Time)
  /-- DIGEST_JOB_ASSIGN (R205). A waiting Passage or service digest job takes a free context on the least loaded engine. -/
  | digestJobAssign (passage : Bool) (t : Time)
  /-- DIGEST_JOB_COMPLETE (R214). A digest or HMAC job finishes, and its result is returned, written to a slot or handed to Passage. -/
  | digestJobComplete (engine : Fin 64) (context : Fin 8) (t : Time)
  /-- CORE_JOB_START (R145). A public-key core starts its staged job once the previous status is delivered and staging is complete. -/
  | coreJobStart (core : Fin 96) (t : Time)
  /-- CORE_STATUS_DELIVERED (R155). A core delivers its job's status exactly T cycles after the start, after its invariant check. -/
  | coreStatusDelivered (core : Fin 96) (invariant : Fin 12) (t : Time)
  /-- CORE_WATCHDOG (R126). A core gives no status 64 NCLK cycles after its fixed time and is taken out of the pool with its jobs rebound. -/
  | coreWatchdog (core : Fin 96) (t : Time)
  /-- CORE_ZEROING_END (R166). A core finishes zeroing after an abort or stop, delivers ABORTED or SUSPENDED and becomes IDLE. -/
  | coreZeroingEnd (core : Fin 96) (t : Time)
  /-- CORE_SELF_TEST_END (R179). A core's self-test ends, making the core ready or OFFLINE. -/
  | coreSelfTestEnd (core : Fin 96) (passes : Bool) (t : Time)
  /-- CORE_POOL_SWITCH (R171). A moving core runs out its jobs and switches pool, and when all have switched the pool ACTIVE map and GENERATION update. -/
  | corePoolSwitch (core : Fin 96) (t : Time)
  /-- SERVICE_JOB_STAGE (R172). The dispatcher stages the oldest waiting service job on the lowest SERVICE core with an empty staging buffer. -/
  | serviceJobStage (t : Time)
  /-- TWIN_DECISION (R108). An engine result reaches Passage and comparator A decides the frame's verdict. -/
  | twinDecision (frame : Nat) (t : Time)
  /-- COMPARATOR_B_DECIDE (R108). Comparator B decides k cycles after A, the verdicts are compared and the frame is released or refused. -/
  | comparatorBDecide (frame : Nat) (k : Fin 15) (upset : Bool)
  /-- HOLD_TIMER_TICK (R101). The 1 µs hold timer ticks and every frame past its deadline is refused with REJECT_HOLD_TIMEOUT. -/
  | holdTimerTick (t : Time)
  /-- FRAME_TRANSMIT (R40). A port's egress queue sends its next frame on the wire. -/
  | frameTransmit (port : Fin 144) (t : Time)
  /-- FLOW_RETIRE_CHECK (R58). The once-a-second check retires every unpinned idle live context that meets the retirement conditions. -/
  | flowRetireCheck (t : Time)
  /-- LINK_STATE_CHANGE (R34). A port's PCS gains or loses lock, changing LINK_UP. -/
  | linkStateChange (port : Fin 144) (locked : Bool) (t : Time)
  /-- PORT_CFG_WRITE (R42). A write to PSG_PORT_CFG enables or disables a port, retrains it on a speed or FEC change, or sets MAX_FRAME. -/
  | portCfgWrite (master : Master) (port : Fin 144) (value : Word)
  /-- WIRE_COMMIT (R65). A write of COMMIT to PSG_WIRE_COMMIT requests a bank swap, judged by the commit checks. -/
  | wireCommit (master : Master) (wire : Fin 72)
  /-- WIRE_DISCARD (R63). A write of DISCARD to PSG_WIRE_COMMIT copies ACTIVE into SHADOW. -/
  | wireDiscard (master : Master) (wire : Fin 72)
  /-- PSG_TABLE_LOAD (R45). Loads a signed Flowstone table image under quorum. -/
  | psgTableLoad (c : Cmd) (table : Fin 16)
  /-- PSG_TABLE_UNLOAD (R77). Frees a resident table that no bank selects. -/
  | psgTableUnload (c : Cmd)
  /-- PSG_WIRE_STAGE (R64). Writes fields of a wire's SHADOW bank. -/
  | psgWireStage (c : Cmd)
  /-- PSG_WIRE_COMMIT (R77). Presents approval records, writes COMMIT and returns the new generation once both directions switch. -/
  | psgWireCommit (c : Cmd)
  /-- PSG_WIRE_DISCARD (R77). Copies a wire's ACTIVE bank into SHADOW. -/
  | psgWireDiscard (c : Cmd)
  /-- PSG_FLOW_READ (R57). Returns one whole flow context taken at one instant. -/
  | psgFlowRead (c : Cmd)
  /-- PSG_FLOW_FLUSH (R59). Frees the flow contexts of named wires under quorum if none is busy. -/
  | psgFlowFlush (c : Cmd)
  /-- PSG_INJECT (R61). Normal-world firmware injects a frame into a side's parse queue. -/
  | psgInject (c : Cmd)
  /-- PSG_COUNTERS_READ (R119). Returns one wire's 32 verdict counters taken at one instant. -/
  | psgCountersRead (c : Cmd)
  /-- PSG_KEY_PREFETCH (R119). Asks for up to 64 keys to be paged into slots. -/
  | psgKeyPrefetch (c : Cmd)
  /-- PSG_PUNT_FORWARD (R89). Sends a punted frame out of the opposite side unchanged. -/
  | psgPuntForward (c : Cmd)
  /-- PSG_DNP3_CHALLENGE (R88). Writes the stored challenge message of one DNP3 association. -/
  | psgDnp3Challenge (c : Cmd)
  /-- CHAMBER_MESSAGE_RECEIVE (R130). A chamber message arrives on a link and is checked by CMAC and sequence, including the handshake messages that bring a link up. -/
  | chamberMessageReceive (port : Fin 144) (msg : ChamberMsg) (seq : Nat) (mac : Bytes) (t : Time)
  /-- HEARTBEAT_SEND (R131). Every 10 µs a member sends a heartbeat with its lending advertisement on each link that is up. -/
  | heartbeatSend (t : Time)
  /-- HEARTBEAT_MISS (R131). Three missed heartbeats take a chamber link DOWN. -/
  | heartbeatMiss (port : Fin 144) (t : Time)
  /-- LINK_RETRY (R131). Every 1 ms a member tries to bring a DOWN chamber link up again. -/
  | linkRetry (t : Time)
  /-- CHAMBER_ALERT_EDGE (R133). A falling CHAMBER_ALERT edge makes the member send a heartbeat request on every link. -/
  | chamberAlertEdge (t : Time)
  /-- HEARTBEAT_REQUEST_TIMEOUT (R133). A link with no answer within 5 µs of a heartbeat request goes DOWN at once. -/
  | heartbeatRequestTimeout (port : Fin 144) (t : Time)
  /-- CHAMBER_SYNC_CHANGE (R133). The shared CHAMBER_SYNC line changes level and SYNC_ALL_READY follows it. -/
  | chamberSyncChange (high : Bool) (t : Time)
  /-- PAIR_CHECK (R124). Every 1 ms a member queries the partner of each paired wire. -/
  | pairCheck (t : Time)
  /-- PAIR_CHECK_ANSWER (R124). A partner's answer arrives and PAIR_OK is set or cleared. -/
  | pairCheckAnswer (port : Fin 144) (msg : ChamberMsg) (seq : Nat) (mac : Bytes) (t : Time)
  /-- PAIR_CHECK_TIMEOUT (R124). No partner answer within 100 µs marks the partner UNREACHABLE. -/
  | pairCheckTimeout (wire : Fin 72) (t : Time)
  /-- LENT_JOB_ARRIVAL (R136). A lender receives a lent signature job and accepts it or answers DECLINED. -/
  | lentJobArrival (port : Fin 144) (msg : ChamberMsg) (seq : Nat) (mac : Bytes) (t : Time)
  /-- LENT_RESULT_ARRIVAL (R137). A borrower receives a lender's answer and acts on it. -/
  | lentResultArrival (port : Fin 144) (msg : ChamberMsg) (seq : Nat) (mac : Bytes) (t : Time)
  /-- KAR_CHAMBER_SET (R139). Sets the chamber key slot and enable under quorum. -/
  | karChamberSet (cmd : Cmd)
  /-- KAR_LEND_SET (R139). Writes KAR_LEND_CFG. -/
  | karLendSet (cmd : Cmd)
  /-- KAR_CHAMBER_READ (R139). Returns the chamber registers and every wire's pair status. -/
  | karChamberRead (cmd : Cmd)
  /-- PKE_JOB (R153). Carries one public-key job block through admission to a SERVICE core and returns its result block. -/
  | pkeJob (cmd : Cmd)
  /-- PKE_JOB_ABORT (R166). Aborts a service public-key job. -/
  | pkeJobAbort (cmd : Cmd)
  /-- PKE_CURVE_LOAD (R174). Checks a curve record and enters it in the loaded-curve table. -/
  | pkeCurveLoad (cmd : Cmd)
  /-- PKE_CURVE_UNLOAD (R177). Frees a loaded-curve entry no key names. -/
  | pkeCurveUnload (cmd : Cmd)
  /-- PKE_CURVE_READ (R182). Returns the curve record of one index. -/
  | pkeCurveRead (cmd : Cmd)
  /-- PKE_POLICY_SET (R173). Sets a domain's curve policy under quorum. -/
  | pkePolicySet (cmd : Cmd)
  /-- PKE_POLICY_GET (R182). Returns a domain's curve policy. -/
  | pkePolicyGet (cmd : Cmd)
  /-- PKE_POOL_STAGE (R182). Writes the SHADOW pool map. -/
  | pkePoolStage (cmd : Cmd)
  /-- PKE_POOL_COMMIT (R182). Presents approval records, writes the pool COMMIT and returns once every core has switched. -/
  | pkePoolCommit (cmd : Cmd)
  /-- PKE_POOL_DISCARD (R182). Copies the ACTIVE pool map into SHADOW. -/
  | pkePoolDiscard (cmd : Cmd)
  /-- PKE_CORE_RETEST (R182). Sets RETEST on one core. -/
  | pkeCoreRetest (cmd : Cmd)
  /-- PKE_STATUS_READ (R182). Returns every core's status and the pool registers. -/
  | pkeStatusRead (cmd : Cmd)
  /-- POOL_COMMIT (R170). A write of COMMIT to PKE_POOL_COMMIT requests a pool commit, judged by its checks. -/
  | poolCommit (master : Master)
  /-- POOL_DISCARD (R181). A write of DISCARD to PKE_POOL_COMMIT copies ACTIVE into SHADOW. -/
  | poolDiscard (master : Master)
  /-- CORE_RETEST (R180). A write of RETEST runs the self-test on a FAILED or idle unbound core. -/
  | coreRetest (master : Master) (core : Fin 96)
  /-- CORE_TAKE_OFFLINE (R180). A write of TAKE_OFFLINE sets a core OFFLINE after its running job. -/
  | coreTakeOffline (master : Master) (core : Fin 96)
  /-- SVC_MAC (R196). Carries one service MAC segment, a FIRST segment taking the engine's lock. -/
  | svcMac (cmd : Cmd)
  /-- SVC_SEGMENT_START (R197). A holder's next waiting segment starts on its locked engine. -/
  | svcSegmentStart (engine : Fin 32) (t : Time)
  /-- SVC_SEGMENT_END (R201). A service MAC segment ends and returns its result block, a LAST segment releasing the lock. -/
  | svcSegmentEnd (engine : Fin 32) (t : Time)
  /-- SVC_IDLE_TIMEOUT (R198). The idle timer of a held engine expires and the lock is released. -/
  | svcIdleTimeout (engine : Fin 32) (t : Time)
  /-- SVC_ABORT (R199). Aborts a service MAC message and releases its lock. -/
  | svcAbort (cmd : Cmd)
  /-- FORCE_RELEASE (R198). A write of FORCE_RELEASE releases a service engine's lock. -/
  | forceRelease (master : Master) (engine : Fin 32)
  /-- DGS_JOB (R206). Carries one service digest or HMAC job. -/
  | dgsJob (cmd : Cmd)
  /-- DGS_RESULT_READ (R211). Returns a digest job's result block or RESULT_NOT_READY. -/
  | dgsResultRead (cmd : Cmd)
  /-- DGS_ABORT (R217). Ends a running digest job at its next block boundary. -/
  | dgsAbort (cmd : Cmd)
  /-- DGS_CFG_SET (R217). Writes SVC_SLICE. -/
  | dgsCfgSet (cmd : Cmd)
  /-- SVC_CFG_SET (R217). Writes IDLE_100US. -/
  | svcCfgSet (cmd : Cmd)
  /-- ENG_STATUS_READ (R217). Returns every lane, service engine and digest engine status. -/
  | engStatusRead (cmd : Cmd)
  /-- LANE_RETEST (R192). A write of RETEST runs a lane's self-test. -/
  | laneRetest (master : Master) (lane : Fin 288)
  /-- LANE_TAKE_OFFLINE (R192). A write of TAKE_OFFLINE sets a lane OFFLINE and moves its queue. -/
  | laneTakeOffline (master : Master) (lane : Fin 288)
  /-- DGS_RETEST (R215). A write of RETEST self-tests a digest engine once its contexts are free. -/
  | dgsRetest (master : Master) (engine : Fin 64)
  /-- DGS_TAKE_OFFLINE (R215). A write of TAKE_OFFLINE sets a digest engine OFFLINE once its contexts are free. -/
  | dgsTakeOffline (master : Master) (engine : Fin 64)
  /-- ENGINE_SELF_TEST_END (R216). A digest engine, service MAC engine or lane ends its self-test and becomes ready or OFFLINE. -/
  | engineSelfTestEnd (unit : EngineId) (passes : Bool) (t : Time)
  /-- MASK_RESEED_REQUEST (R186). A lane mask generator reaches 65,536 blocks, or a further 4,096 after a refusal, and asks its DRBG for a seed. -/
  | maskReseedRequest (engine : Fin 320) (t : Time)
  /-- MASK_RESEED_LOAD (R186). A new mask seed takes effect at the next block boundary. -/
  | maskReseedLoad (engine : Fin 320) (t : Time)
  /-- MASK_GENERATOR_STARVED (R186). A generator reaches 1,048,576 blocks without a seed and its engine becomes starved. -/
  | maskGeneratorStarved (engine : Fin 320) (t : Time)
  /-- NOISE_SAMPLE (R219). Every 1 µs each noise cell delivers a sample that passes through the health tests. -/
  | noiseSample (bits : BitVec 16) (t : Time)
  /-- SPAN_END (R225). A 65,536-sample span ends and a cell's bias and correlation estimators are replaced. -/
  | spanEnd (cell : Fin 16) (t : Time)
  /-- DRBG_GENERATE_CALL (R227). An instance serves a generate request of up to 512 bytes per call. -/
  | drbgGenerateCall (inst : Fin 8) (t : Time)
  /-- DRBG_RESEED (R230). An instance takes a FIFO result between calls and reseeds. -/
  | drbgReseed (inst : Fin 8) (t : Time)
  /-- RNG_STARTUP (R233). The RNG runs its start-up sequence to instantiation and sets its ID_READY bit. -/
  | rngStartup (conditionerOk : Bool) (instancesOk : BitVec 8) (t : Time)
  /-- RNG_STARTUP_TIMEOUT (R234). The RNG bit is still clear 8 ms after main power good and the RNG enters FAILED. -/
  | rngStartupTimeout (t : Time)
  /-- KAT_START (R241). A write of START to RNG_KAT_CTRL runs the known-answer test of one unit. -/
  | katStart (master : Master) (unit : Nat) (passes : Bool)
  /-- TEST_SRC_ENABLE (R238). A write to RNG_TEST_SRC.ENABLE puts the pattern memory in place of the cells or removes it. -/
  | testSrcEnable (master : Master) (enable : Bool)
  /-- RNG_GENERATE (R242). Returns random bytes from the caller's home instance. -/
  | rngGenerate (cmd : Cmd)
  /-- RNG_STATUS_READ (R242). Returns the RNG registers. -/
  | rngStatusRead (cmd : Cmd)
  /-- RNG_CFG_SET (R242). Writes RNG_CFG and RNG_RESEED_CFG under quorum. -/
  | rngCfgSet (cmd : Cmd)
  /-- RNG_CELL_RETEST (R242). Runs the start-up test on one REMOVED cell. -/
  | rngCellRetest (cmd : Cmd)
  /-- RNG_KAT_RUN (R242). Runs the known-answer test of one unit. -/
  | rngKatRun (cmd : Cmd)
  /-- RNG_TEST_SOURCE (R242). Loads the pattern memory and sets or clears ENABLE. -/
  | rngTestSource (cmd : Cmd)
  /-- KST_GENERATE (R255). Makes a symmetric key into an empty handle. -/
  | kstGenerate (cmd : Cmd)
  /-- KST_DESTROY (R281). Erases a key from its slot and the vault. -/
  | kstDestroy (cmd : Cmd)
  /-- KST_ATTR_SET (R266). Narrows a key's attributes. -/
  | kstAttrSet (cmd : Cmd)
  /-- KST_ATTR_GET (R281). Returns a key's attribute word. -/
  | kstAttrGet (cmd : Cmd)
  /-- KST_ATTEST (R263). Returns a signed attestation record. -/
  | kstAttest (cmd : Cmd)
  /-- KST_CERT_READ (R262). Returns the four attestation certificates. -/
  | kstCertRead (cmd : Cmd)
  /-- KST_TRANSPORT_OPEN (R256). Opens a transport and returns a signed transport offer. -/
  | kstTransportOpen (cmd : Cmd)
  /-- KST_TRANSPORT_ACCEPT (R256). Takes the sender's ciphertext and key and forms the transport key. -/
  | kstTransportAccept (cmd : Cmd)
  /-- KST_IMPORT (R258). Imports one wrapped-key blob. -/
  | kstImport (cmd : Cmd)
  /-- KST_TRANSPORT_CLOSE (R259). Closes a transport and zeroes its keys. -/
  | kstTransportClose (cmd : Cmd)
  /-- TRANSPORT_EXPIRY (R259). A transport closes 600 s after it was opened. -/
  | transportExpiry (id : Nat) (t : Time)
  /-- KST_EXPORT (R260). Wraps an exportable key for another SNX-4144's transport offer. -/
  | kstExport (cmd : Cmd)
  /-- KST_DERIVE (R261). Derives a key with SP 800-108 into an empty handle. -/
  | kstDerive (cmd : Cmd)
  /-- KST_DOMAIN_CREATE (R268). Creates a domain with officers, thresholds and quotas. -/
  | kstDomainCreate (cmd : Cmd)
  /-- KST_DOMAIN_DESTROY (R268). Destroys a domain, its master, slots and curves. -/
  | kstDomainDestroy (cmd : Cmd)
  /-- KST_DOMAIN_READ (R281). Returns a domain record without its master. -/
  | kstDomainRead (cmd : Cmd)
  /-- KST_DOMAIN_SET (R281). Sets a domain's thresholds and quotas. -/
  | kstDomainSet (cmd : Cmd)
  /-- KST_MASK_SET (R269). Writes one command-class mask. -/
  | kstMaskSet (cmd : Cmd)
  /-- KST_OFFICER_ENROL (R274). Enrols an officer key. -/
  | kstOfficerEnrol (cmd : Cmd)
  /-- KST_OFFICER_REMOVE (R274). Removes an officer. -/
  | kstOfficerRemove (cmd : Cmd)
  /-- KST_CRED_SET (R281). Adds or removes an operator or tenant credential. -/
  | kstCredSet (cmd : Cmd)
  /-- KST_FUNC_ASSIGN (R281). Assigns or unassigns a host function to a domain. -/
  | kstFuncAssign (cmd : Cmd)
  /-- KST_QUORUM_OPEN (R270). Opens a quorum and returns a nonce and its deadline. -/
  | kstQuorumOpen (cmd : Cmd)
  /-- KST_QUORUM_CANCEL (R281). Frees an open nonce. -/
  | kstQuorumCancel (cmd : Cmd)
  /-- NONCE_EXPIRY (R270). An unbound quorum nonce is freed at its deadline. -/
  | nonceExpiry (t : Time)
  /-- KST_DOMAIN0_SETUP (R267). Installs the domain-0 roster once in PROVISION. -/
  | kstDomain0Setup (cmd : Cmd)
  /-- KST_ROOT_RENEW (R247). Makes a new root and domain-0 master under quorum. -/
  | kstRootRenew (cmd : Cmd)
  /-- KST_STATUS_READ (R281). Returns the key store registers. -/
  | kstStatusRead (cmd : Cmd)
  /-- KEY_STORE_READY (R280). The key store reads the root, restores the domain-0 roster, master and slots 1–255, and becomes ready. -/
  | keyStoreReady (t : Time)
  /-- GEO_COMMIT (R292). The Geode controller starts a commit of the gathered vault changes in one stripe. -/
  | geoCommit (t : Time)
  /-- GEO_COMMIT_COMPLETE (R292). SELECT names the new anchor slot, or a failed commit is undone, and the commands of the commit return. -/
  | geoCommitComplete (t : Time)
  /-- GEO_MOUNT (R293). The vault mounts, deciding rollback and integrity and loading domain records. -/
  | geoMount (facts : MountFacts) (t : Time)
  /-- SCRUB_STRIPE (R295). The scrubber reads and checks a written stripe, reconstructing any failing page. -/
  | scrubStripe (outcome : CellRead) (last : Bool) (t : Time)
  /-- FLASH_BLOCK_FAILURE (R297). A program or erase fails and the block is retired, the vault entering READ_ONLY when no spare remains. -/
  | flashBlockFailure (channel : Fin 8) (t : Time)
  /-- FLASH_CHANNEL_FAILURE (R286). A flash channel fails and reads are served by reconstruction, or the vault unmounts. -/
  | flashChannelFailure (channel : Fin 8) (t : Time)
  /-- GEO_STATUS_READ (R307). Returns the Geode registers. -/
  | geoStatusRead (cmd : Cmd)
  /-- GEO_FORMAT (R307). Erases the vault, fixes its capacity and commits epoch 1. -/
  | geoFormat (cmd : Cmd)
  /-- GEO_REMOUNT (R307). Runs mount again from NOT_MOUNTED or INTEGRITY_FAILED. -/
  | geoRemount (cmd : Cmd)
  /-- GEO_SCRUB_SET (R307). Writes SCRUB_MBPS. -/
  | geoScrubSet (cmd : Cmd)
  /-- GEO_FLASH_INFO (R307). Returns each flash target's identity and interface. -/
  | geoFlashInfo (cmd : Cmd)
  /-- SQ_DOORBELL (R313). A write to HQ_SQ_DOORBELL sets DOORBELL_PENDING of an enabled queue. -/
  | sqDoorbell (function : Fin 1024) (queue : Fin 4096)
  /-- PRODUCER_WORD_READ (R313). The device reads a queue's producer word into PI_SEEN once the fetcher has caught up. -/
  | producerWordRead (function : Fin 1024) (queue : Fin 4096) (word : Option Word) (t : Time)
  /-- ENTRY_FETCH (R317). A request entry read completes and the fetcher judges it into a chain. -/
  | entryFetch (function : Fin 1024) (queue : Fin 4096) (entry : Option Bytes) (t : Time)
  /-- DMA_READ_TIMEOUT (R309). A device read not completed within 50 ms becomes a DMA read error. -/
  | dmaReadTimeout (function : Fin 1024) (queue : Fin 4096) (t : Time)
  /-- JOB_ADMISSION (R327). The dispatcher admits the next job of a source by deficit round robin. -/
  | jobAdmission (t : Time)
  /-- COMPLETION_WRITE (R325). A finished job's result block and completion entry are written in queue order when the ring has room. -/
  | completionWrite (function : Fin 1024) (queue : Fin 4096) (outputFails : Bool) (entryFails : Bool) (t : Time)
  /-- MSIX_MESSAGE (R336). A completion queue sends its MSI-X message when its coalescing count or time is reached. -/
  | msixMessage (function : Fin 1024) (queue : Fin 4096) (t : Time)
  /-- CQ_HEAD_WRITE (R323). A write to HQ_CQ_HEAD frees completion ring space. -/
  | cqHeadWrite (function : Fin 1024) (queue : Fin 4096) (value : Word)
  /-- QP_ENABLE (R330). A write to HQ_QP_CTRL.ENABLE starts or stops a queue's fetching. -/
  | qpEnable (function : Fin 1024) (queue : Fin 4096) (value : Word)
  /-- PUBLIC_KEY_JOB (R318). A ring chain of opcode 0x01 carries a public-key job. -/
  | publicKeyJob (function : Fin 1024) (queue : Fin 4096) (data : Option (List Bytes)) (t : Time)
  /-- SERVICE_MAC_SEGMENT (R318). A ring chain of opcode 0x02 carries a service MAC segment. -/
  | serviceMacSegment (function : Fin 1024) (queue : Fin 4096) (data : Option (List Bytes)) (t : Time)
  /-- DIGEST_JOB (R318). A ring chain of opcode 0x03 carries a digest job. -/
  | digestJob (function : Fin 1024) (queue : Fin 4096) (data : Option (List Bytes)) (t : Time)
  /-- RANDOM_BYTES (R318). A ring entry of opcode 0x04 draws random bytes and writes them to host memory. -/
  | randomBytes (function : Fin 1024) (queue : Fin 4096) (t : Time)
  /-- COMMAND_ENTRY (R319). A ring entry of opcode 0x05 carries an admitted management command. -/
  | commandEntry (function : Fin 1024) (queue : Fin 4096) (body : Option Bytes) (carry : Carry) (t : Time)
  /-- ABORT_ENTRY (R321). A ring entry of opcode 0x06 aborts the jobs of a queue bearing a TAG. -/
  | abortEntry (function : Fin 1024) (queue : Fin 4096) (t : Time)
  /-- QP_CREATE (R329). Creates a disabled queue pair. -/
  | qpCreate (function : Fin 1024) (t : Time)
  /-- QP_DESTROY (R329). Aborts a queue's jobs and frees its context. -/
  | qpDestroy (function : Fin 1024) (t : Time)
  /-- QP_MODIFY (R329). Changes a queue's interrupt fields. -/
  | qpModify (function : Fin 1024) (t : Time)
  /-- QP_QUERY (R329). Writes a queue record to host memory. -/
  | qpQuery (function : Fin 1024) (t : Time)
  /-- VF_LIMITS (R329). Sets a VF's queue limit and weight. -/
  | vfLimits (t : Time)
  /-- VF_FREEZE (R332). Stops a VF's queues, aborts its jobs and sets it FROZEN. -/
  | vfFreeze (t : Time)
  /-- VF_SAVE (R332). Writes a frozen VF's migration blob. -/
  | vfSave (t : Time)
  /-- VF_RESTORE (R335). Checks a migration blob and restores the VF on this device. -/
  | vfRestore (blob : Option Bytes) (t : Time)
  /-- VF_RESUME (R329). Returns a frozen VF's queues to their earlier states. -/
  | vfResume (t : Time)
  /-- VF_RESET (R329). Resets a VF as a Function Level Reset, optionally unassigning it. -/
  | vfReset (t : Time)
  /-- FUNCTION_LEVEL_RESET (R331). A Function Level Reset aborts a function's jobs and frees its queues and session keys. -/
  | functionLevelReset (function : Fin 1024) (t : Time)
  /-- PCIE_PERST (R489). PCIE_PERST_N low resets the host interface only. -/
  | pciePerst (t : Time)
  /-- PCIE_LINK_UP (R492). The PCIe link reaches DL_Active and the HOST bit rises. -/
  | pcieLinkUp (vfs : Fin 1024) (t : Time)
  /-- HQ_FUNC_READ (R339). Returns one function's registers and queue records. -/
  | hqFuncRead (cmd : Cmd)
  /-- HQ_STATUS_READ (R339). Returns the host interface's link and function states. -/
  | hqStatusRead (cmd : Cmd)
  /-- REQUEST_PACKET_WRITE (R345). An I3C private write carries one request packet into a mailbox FIFO, committed or rewound at its CRC. -/
  | requestPacketWrite (command : Byte) (words : List Word) (whole : Bool) (fault : Bool) (t : Time)
  /-- RESPONSE_PACKET_READ (R347). An I3C private read takes one whole response or notice packet from a mailbox. -/
  | responsePacketRead (mailbox : Fin 8) (words : Nat) (t : Time)
  /-- I3C_REGISTER_WRITE (R343). An I3C transfer with command byte 0x20 sets a register address and writes words. -/
  | i3cRegisterWrite (address : Word) (values : List Word) (t : Time)
  /-- I3C_REGISTER_READ (R343). An I3C read with command byte 0x20 returns words from the address set, rising by 4. -/
  | i3cRegisterRead (words : Nat) (t : Time)
  /-- REQ_HDR_WRITE (R348). A write to MBX_REQ_HDR opens a request packet over PF0. -/
  | reqHdrWrite (master : Master) (mailbox : Fin 8) (value : Word)
  /-- REQ_DATA_WRITE (R348). A write to MBX_REQ_DATA adds the next word of the open packet. -/
  | reqDataWrite (master : Master) (mailbox : Fin 8) (value : Word)
  /-- RSP_DATA_READ (R347). A read of MBX_RSP_DATA returns the next response word, advancing the read pointer after the CRC word. -/
  | rspDataRead (master : Master) (mailbox : Fin 8)
  /-- REWIND (R347). A write of REWIND returns the tentative read position to the read pointer. -/
  | rspRewind (master : Master) (mailbox : Fin 8)
  /-- ENVELOPE_REASSEMBLY (R353). The secure world takes a committed request packet and adds it to the mailbox's envelope assembly. -/
  | envelopeReassembly (mailbox : Fin 6) (carry : Carry) (t : Time)
  /-- REASSEMBLY_TIMEOUT (R353). An assembly with no fragment for 1 s is discarded. -/
  | reassemblyTimeout (mailbox : Fin 6) (t : Time)
  /-- INTERIM_RESPONSE (R363). A command without a final response 1 ms after its envelope gets one interim response. -/
  | interimResponse (mailbox : Fin 6) (t : Time)
  /-- FINAL_RESPONSE_WRITE (R362). A finished command's final response is written in request order once it fits. -/
  | finalResponseWrite (mailbox : Fin 6) (t : Time)
  /-- NOTICE_WRITE (R350). The secure world writes an alarm or Strata notice to MB6 or MB7, or drops it with a gap marker. -/
  | noticeWrite (strata : Bool) (t : Time)
  /-- SESSION_IDLE_TIMEOUT (R359). A session without a verified envelope for SESSION_IDLE_S closes. -/
  | sessionIdleTimeout (mailbox : Fin 6) (session : Nat) (t : Time)
  /-- OFFER_EXPIRY (R357). An unused session offer closes after 60 s. -/
  | offerExpiry (offer : Nat) (t : Time)
  /-- MBX_INFO (R367). Returns device identity, readiness, state and mailbox bindings. -/
  | mbxInfo (cmd : Cmd)
  /-- MBX_SESSION_OFFER (R357). Returns a signed session offer. -/
  | mbxSessionOffer (cmd : Cmd)
  /-- MBX_SESSION_OPEN (R357). Opens a session with a proof record and forms its keys. -/
  | mbxSessionOpen (cmd : Cmd)
  /-- MBX_SESSION_CLOSE (R359). Closes the session. -/
  | mbxSessionClose (cmd : Cmd)
  /-- MBX_SESSION_LIST (R367). Returns every open session. -/
  | mbxSessionList (cmd : Cmd)
  /-- MBX_PORT_SET (R367). Binds a mailbox to a port, emptying it and closing its sessions. -/
  | mbxPortSet (cmd : Cmd)
  /-- MBX_CFG_SET (R367). Writes SESSION_IDLE_S. -/
  | mbxCfgSet (cmd : Cmd)
  /-- MBX_STATUS_READ (R367). Returns the mailbox registers. -/
  | mbxStatusRead (cmd : Cmd)
  /-- ENTDAA (R342). I3C dynamic address assignment. -/
  | entdaa (address : BitVec 7) (t : Time)
  /-- SETDASA (R342). Assigns a dynamic address from the static address. -/
  | setdasa (static : BitVec 7) (address : BitVec 7) (t : Time)
  /-- SETNEWDA (R342). Changes the dynamic address. -/
  | setnewda (address : BitVec 7) (t : Time)
  /-- RSTDAA (R342). Clears the dynamic address. -/
  | rstdaa (t : Time)
  /-- ENEC (R342). Enables in-band interrupts. -/
  | enec (t : Time)
  /-- DISEC (R342). Disables in-band interrupts. -/
  | disec (t : Time)
  /-- GETPID (R342). Returns the provisional ID. -/
  | getpid (t : Time)
  /-- GETBCR (R342). Returns the BCR. -/
  | getbcr (t : Time)
  /-- GETDCR (R342). Returns the DCR. -/
  | getdcr (t : Time)
  /-- GETSTATUS (R342). Returns the target status. -/
  | getstatus (t : Time)
  /-- GETMWL (R342). Returns the maximum write length. -/
  | getmwl (t : Time)
  /-- GETMRL (R342). Returns the maximum read length. -/
  | getmrl (t : Time)
  /-- SETMWL (R342). Sets the maximum write length, refusing values below the device's. -/
  | setmwl (length : BitVec 16) (t : Time)
  /-- SETMRL (R342). Sets the maximum read length, refusing values below the device's. -/
  | setmrl (length : BitVec 16) (t : Time)
  /-- GETMXDS (R342). Returns the maximum data speed. -/
  | getmxds (t : Time)
  /-- GETCAPS (R342). Returns the target capabilities. -/
  | getcaps (t : Time)
  /-- ENTHDR0 (R342). Enters HDR-DDR mode. -/
  | enthdr0 (t : Time)
  /-- RSTACT (R489). Resets the I3C target front end only. -/
  | rstact (action : Byte) (t : Time)
  /-- POLL (R376). WCALL that polls a PENDING secure call by its token. -/
  | worldPoll (pair : Fin 4) (token : Nat) (t : Time)
  /-- FW_CONFIRM (R397). WCALL that confirms a normal image in trial. -/
  | fwConfirm (pair : Fin 4) (t : Time)
  /-- COMMAND (R376). WCALL that passes an envelope from the normal world to the secure world. -/
  | worldCall (pair : Fin 4) (envelope : Bytes) (address responseAddress responseMax : Nat) (carry : Carry) (t : Time)
  /-- RETURN (R376). WCALL that returns from the secure service in progress. -/
  | worldReturn (pair : Fin 4) (t : Time)
  /-- CALL_LIMIT_EXPIRY (R377). A secure service running past CALL_LIMIT_US on a normal pair is moved and the WCALL returns PENDING. -/
  | callLimitExpiry (pair : Fin 4) (t : Time)
  /-- SHARED_QUANTUM_END (R373). A 500 µs quantum ends on a shared pair and the other world runs. -/
  | sharedQuantumEnd (pair : Fin 4) (t : Time)
  /-- LOCKSTEP_MISMATCH (R372). A lockstep mismatch or parity error stops a pair and its work is re-homed. -/
  | lockstepMismatch (pair : Fin 4) (carried : List Reply) (t : Time)
  /-- ECC_DOUBLE_ERROR (R374). A double-bit control memory error gives a machine check or an error completion. -/
  | eccDoubleError (source : Fin 13) (secure : Bool) (t : Time)
  /-- PAGE_OWNER_WRITE (R382). A write to the page owner table changes a page's owner, zeroing it if it leaves SECURE. -/
  | pageOwnerWrite (master : Master) (page : Fin 8192) (value : Word)
  /-- SW_KICK (R388). A write of KICK restarts the secure watchdog. -/
  | swKick (master : Master) (t : Time)
  /-- SW_READY (R388). A write of READY sets SECURE_UP. -/
  | swReady (master : Master) (t : Time)
  /-- SW_RESTART (R388). A write of RESTART takes the secure world down for restart. -/
  | swRestart (master : Master) (t : Time)
  /-- NW_KICK (R390). A normal-world write of KICK restarts the normal watchdog. -/
  | nwKick (master : Master) (t : Time)
  /-- SECURE_WATCHDOG_EXPIRY (R388). The secure watchdog expires and the monitor restarts the secure world. -/
  | secureWatchdogExpiry (t : Time)
  /-- SECURE_EXCEPTION (R388). A secure context takes an exception it cannot return from and the secure world restarts. -/
  | secureException (t : Time)
  /-- NORMAL_WATCHDOG_EXPIRY (R390). The normal watchdog expires and the normal world restarts. -/
  | normalWatchdogExpiry (t : Time)
  /-- NORMAL_EXCEPTION (R390). A normal context takes an exception it cannot return from and the normal world restarts. -/
  | normalException (t : Time)
  /-- CLOCK_OFF (R392). WLD_PWR_REQ action that gates a unit's clock or stores the request while the unit is held. -/
  | clockOff (master : Master) (unit : Fin 256) (t : Time)
  /-- CLOCK_ON (R392). WLD_PWR_REQ action that ungates a unit's clock. -/
  | clockOn (master : Master) (unit : Fin 256) (t : Time)
  /-- POWER_OFF (R392). WLD_PWR_REQ action that powers a unit off or stores the request. -/
  | powerOff (master : Master) (unit : Fin 256) (t : Time)
  /-- POWER_ON (R392). WLD_PWR_REQ action that powers a unit on. -/
  | powerOn (master : Master) (unit : Fin 256) (t : Time)
  /-- POWER_REQUEST_TAKEN (R392). A pending power request is taken in the first cycle its unit is no longer held. -/
  | powerRequestTaken (unit : Fin 192) (t : Time)
  /-- PWR_OWNER_WRITE (R393). A write to WLD_PWR_OWNER holds units, turning gated ones on again. -/
  | pwrOwnerWrite (master : Master) (word : Fin 6) (value : Word) (t : Time)
  /-- CONFIRM (R397). A write of CONFIRM confirms a secure image in trial and raises its SVN floor. -/
  | fwConfirmWrite (master : Master) (t : Time)
  /-- NORMAL_WORLD_START (R396). After secure READY the normal image is loaded, checked and started. -/
  | normalWorldStart (t : Time)
  /-- WLD_STATUS_READ (R399). Returns the worlds registers. -/
  | wldStatusRead (cmd : Cmd)
  /-- WLD_FW_STAGE (R397). Writes a firmware image chunk into the spare slot and checks it on FINAL. -/
  | wldFwStage (cmd : Cmd)
  /-- WLD_FW_ACTIVATE (R397). Sets NEXT to a STAGED_OK slot. -/
  | wldFwActivate (cmd : Cmd)
  /-- WLD_NW_RESTART (R390). Restarts the normal world. -/
  | wldNwRestart (cmd : Cmd)
  /-- WLD_FW_KEY_SET (R399). Installs the owner's LMS public key. -/
  | wldFwKeySet (cmd : Cmd)
  /-- WLD_VIOL_READ (R399). Returns the violation records. -/
  | wldViolRead (cmd : Cmd)
  /-- LCY_STATUS_READ (R420). Returns the life-cycle registers and the Lantern tick. -/
  | lcyStatusRead (cmd : Cmd)
  /-- LCY_NONCE (R402). Issues the nonce for a vendor grant. -/
  | lcyNonce (cmd : Cmd)
  /-- LCY_TRANSITION (R409). Judges and carries out a life-cycle transition, ending in a reset. -/
  | lcyTransition (cmd : Cmd)
  /-- LCY_TEST_EXIT (R405). Leaves TEST n for its origin state. -/
  | lcyTestExit (cmd : Cmd)
  /-- LCY_DEBUG_UNLOCK (R416). Installs a debug certificate. -/
  | lcyDebugUnlock (cmd : Cmd)
  /-- LCY_DEBUG_LOCK (R420). Ends the live debug certificate. -/
  | lcyDebugLock (cmd : Cmd)
  /-- LCY_LOG_READ (R420). Returns the life-cycle word copies and the transition log. -/
  | lcyLogRead (cmd : Cmd)
  /-- DBG_LOCK (R419). A write of LOCK to LCY_DBG_CTRL ends the live certificate. -/
  | dbgLock (master : Master) (value : Word) (t : Time)
  /-- DEBUG_CERT_EXPIRY (R417). The Lantern tick passes NOT_AFTER and the live certificate ends. -/
  | debugCertExpiry (t : Time)
  /-- EXTEST (R412). TAP instruction for boundary test. -/
  | tapExtest (shift pins : List Bool) (t : Time)
  /-- SAMPLE_PRELOAD (R412). TAP instruction that samples or preloads the boundary. -/
  | samplePreload (shift pins : List Bool) (t : Time)
  /-- IDCODE (R412). TAP instruction that reads the IDCODE. -/
  | tapIdcode (shift : List Bool) (t : Time)
  /-- CLAMP (R412). TAP instruction that clamps outputs. -/
  | tapClamp (shift : List Bool) (t : Time)
  /-- HIGHZ (R412). TAP instruction that floats outputs. -/
  | tapHighz (shift : List Bool) (t : Time)
  /-- LCY_CMD (R412). TAP instruction giving the envelope channel for life-cycle commands. -/
  | lcyCmd (t : Time)
  /-- DAP (R412). TAP instruction selecting the debug access port. -/
  | tapDap (shift : List Bool) (t : Time)
  /-- SCAN_CTRL (R412). TAP instruction for internal scan chains. -/
  | scanCtrl (shift : List Bool) (t : Time)
  /-- BYPASS (R412). TAP bypass instruction. -/
  | tapBypass (shift : List Bool) (t : Time)
  /-- DAP_ACCESS (R414). A debug access port access is checked against the debug rights and page rules. -/
  | dapAccess (op : DapOp) (t : Time)
  /-- LANTERN_SAMPLE (R424). At 1,024 Hz Lantern samples every source, decides activity and severity, and acts. -/
  | lanternSample (sample : Sample) (t : Time)
  /-- ZEROIZE_SECOND_DECISION (R433). Comparator B decides after its random delay, a disagreement setting DISAGREE and raising FAULT. -/
  | zeroizeSecondDecision (calls : Bool) (t : Time)
  /-- DETECTOR_SELF_TEST (R425). Every 1,024 samples each detector gets its test stimulus. -/
  | detectorSelfTest (fails : List (Nat × Bool)) (t : Time)
  /-- HOLD_EXPIRY (R431). HOLD_MS passes after a source ceases to be active and the severity in force falls. -/
  | holdExpiry (t : Time)
  /-- FAULT_ALARM (R434). A block sends a FAULT alarm to Lantern, taken at the next sample. -/
  | faultAlarm (block : Fin 256) (unit : Fin 65536) (t : Time)
  /-- PLL_LOCK_LOST (R19). A generated clock loses lock and its LOST bit is set. -/
  | pllLockLost (clock : Fin 8) (t : Time)
  /-- LAN_STATUS_READ (R445). Returns the Lantern registers. -/
  | lanStatusRead (cmd : Cmd)
  /-- LAN_ALARM_SET (R445). Writes one source's severity and latch. -/
  | lanAlarmSet (cmd : Cmd)
  /-- LAN_PIN_SET (R445). Configures a tamper pin or pair. -/
  | lanPinSet (cmd : Cmd)
  /-- LAN_CLEAR (R445). Clears the latches of sources not active. -/
  | lanClear (cmd : Cmd)
  /-- LAN_BATLOG_READ (R445). Returns the battery log and correlation record. -/
  | lanBatlogRead (cmd : Cmd)
  /-- LAN_DETECTOR_TEST (R445). Runs every detector self-test at once. -/
  | lanDetectorTest (cmd : Cmd)
  /-- SYNC_RECEIVE (R439). A Sync from the chosen master gives an offset that steps or steers the counter and moves the lock. -/
  | syncReceive (port : Fin 144) (msg : Sync) (t : Time)
  /-- FOLLOW_UP_RECEIVE (R439). A Follow_Up supplies the origin timestamp of a two-step Sync. -/
  | followUpReceive (port : Fin 144) (msg : FollowUp) (t : Time)
  /-- ANNOUNCE_RECEIVE (R438). An Announce is taken into the best master choice. -/
  | announceReceive (port : Fin 144) (msg : Announce) (t : Time)
  /-- PDELAY_REQ_RECEIVE (R438). A Pdelay_Req is answered in two-step form. -/
  | pdelayReqReceive (port : Fin 144) (domain seq : Nat) (t : Time)
  /-- PDELAY_RESP_RECEIVE (R438). A Pdelay_Resp or its follow-up updates the port's peer delay. -/
  | pdelayRespReceive (port : Fin 144) (msg : PdelayResp) (t : Time)
  /-- PDELAY_REQ_SEND (R438). Once per second each PTP port sends Pdelay_Req. -/
  | pdelayReqSend (port : Fin 144) (t : Time)
  /-- HOLDOVER_START (R439). 1.5 Sync intervals pass without a Sync and HOLDOVER reads 1. -/
  | holdoverStart (t : Time)
  /-- HOLDOVER_EXPIRY (R439). HOLDOVER_S passes since the last Sync or edge and TIM_LOCKED falls. -/
  | holdoverExpiry (t : Time)
  /-- PPS_IN_EDGE (R440). A PPS_IN edge is timestamped and its offset steers the counter. -/
  | ppsInEdge (rising : Bool) (t : Time)
  /-- PPS_MISSING (R440). 2 s pass without a PPS_IN edge. -/
  | ppsMissing (t : Time)
  /-- WHOLE_SECOND (R441). The counter reaches a whole second, driving PPS_OUT and latching TIM_CORR. -/
  | wholeSecond (t : Time)
  /-- CORRELATION_WRITE (R442). The time correlation record is written at lock and every 1,024 s while locked. -/
  | correlationWrite (t : Time)
  /-- TIM_STATUS_READ (R445). Returns the time registers. -/
  | timStatusRead (cmd : Cmd)
  /-- TIM_CFG_SET (R445). Writes the time configuration registers. -/
  | timCfgSet (cmd : Cmd)
  /-- TIM_SET (R445). Sets the counter's seconds at the next PPS_IN edge. -/
  | timSet (cmd : Cmd)
  /-- ACCUMULATOR_CLOSE (R449). An accumulator reaches its close instant and closes when a token is free. -/
  | accumulatorClose (t : Time)
  /-- TOKEN_REFILL (R450). The record token bucket gains a token and a waiting accumulator may close. -/
  | tokenRefill (t : Time)
  /-- STRATA_RECORD_WRITE (R454). A closed record is programmed, read back and marked VALID, erasing the next unit where needed. -/
  | strataRecordWrite (readsBack erases : Bool) (t : Time)
  /-- STRATA_SCAN (R455). At boot Strata scans its slots, counts torn and corrupt ones and sets READY. -/
  | strataScan (t : Time)
  /-- STR_STATUS_READ (R460). Returns the Strata registers. -/
  | strStatusRead (cmd : Cmd)
  /-- STR_READ (R460). Returns up to 64 held records. -/
  | strRead (cmd : Cmd)
  /-- STR_ACCUM_READ (R460). Returns every open accumulator without closing it. -/
  | strAccumRead (cmd : Cmd)
  /-- STR_CFG_SET (R460). Writes BUDGET_PER_HOUR. -/
  | strCfgSet (cmd : Cmd)
  /-- STR_CODE_SET (R460). Writes one code's interval and notify bit. -/
  | strCodeSet (cmd : Cmd)
  /-- KAR_FOUND (R465). Founds a Karst with this device as member 0. -/
  | karFound (cmd : Cmd)
  /-- KAR_JOIN (R465). Creates the member key and returns a join request. -/
  | karJoin (cmd : Cmd)
  /-- KAR_ADMIT (R465). Checks a join request and proposes the joiner's roster entry. -/
  | karAdmit (cmd : Cmd)
  /-- KAR_REVOKE_MEMBER (R484). Proposes a member's revocation. -/
  | karRevokeMember (cmd : Cmd)
  /-- KAR_LEAVE (R467). Proposes this member's revocation and clears its Karst state. -/
  | karLeave (cmd : Cmd)
  /-- KAR_DOMAIN_REPLICATE (R484). Makes a local domain replicated on named members. -/
  | karDomainReplicate (cmd : Cmd)
  /-- KAR_REPLICA_SET (R478). Proposes a replica set change. -/
  | karReplicaSet (cmd : Cmd)
  /-- KAR_DOMAIN_READ (R484). Returns a domain's replication state. -/
  | karDomainRead (cmd : Cmd)
  /-- KAR_STATUS_READ (R484). Returns the Karst registers. -/
  | karStatusRead (cmd : Cmd)
  /-- KAR_CFG_SET (R484). Writes the Karst configuration registers. -/
  | karCfgSet (cmd : Cmd)
  /-- KAR_OUT_TAKE (R471). Returns the next outbound Karst message and a send handle. -/
  | karOutTake (cmd : Cmd)
  /-- KAR_IN_GIVE (R471). Hands one received Karst message to the unit. -/
  | karInGive (cmd : Cmd)
  /-- KAR_FRAME_SEND (R471). Sends a Karst message in a device-originated frame. -/
  | karFrameSend (cmd : Cmd)
  /-- OFFER (R468). A Karst session offer is received and checked. -/
  | karOffer (sender : Nat) (hello : KarHello) (t : Time)
  /-- ACCEPT (R468). A Karst session accept is received and the session keys are formed. -/
  | karAccept (sender : Nat) (hello : KarHello) (t : Time)
  /-- HEARTBEAT (R472). A primary's heartbeat is received by a replica. -/
  | karHeartbeat (sender domain term version : Nat) (t : Time)
  /-- PROPOSE (R474). A replica receives a change record and signs or declines it. -/
  | karPropose (sender : Nat) (change : Change) (sig : SigEntry) (t : Time)
  /-- SIGNED (R475). The primary receives a replica signature and commits once a majority has signed. -/
  | karSigned (sender domain version term : Nat) (sig : SigEntry) (t : Time)
  /-- COMMIT (R475). A replica receives a committed change and applies it in version order. -/
  | karCommit (sender : Nat) (change : Change) (sigs : List SigEntry) (t : Time)
  /-- DECLINE (R474). The primary receives a replica's refusal to sign. -/
  | karDecline (sender domain version : Nat) (status : Status) (holder : Nat) (t : Time)
  /-- FORWARD (R472). A command or its response is carried between a replica and the primary. -/
  | karForward (sender id domain : Nat) (body : Option ChangeBody) (result : Option Status) (t : Time)
  /-- VOTE_REQUEST (R476). A replica receives a candidate's vote request and grants or withholds its vote. -/
  | voteRequest (sender domain term signedTerm signedVersion : Nat) (t : Time)
  /-- VOTE (R476). A candidate receives a vote and becomes primary on a majority. -/
  | karVote (sender domain term : Nat) (t : Time)
  /-- CATCHUP_REQUEST (R477). The primary receives a catch-up request and sends committed records. -/
  | catchupRequest (sender domain version : Nat) (t : Time)
  /-- CATCHUP (R477). A lagging replica receives committed records and applies them. -/
  | karCatchup (sender domain : Nat) (records : List (Change × List SigEntry)) (t : Time)
  /-- REVOKE (R480). A member receives a committed roster revocation, applies it and forwards it once. -/
  | karRevoke (sender : Nat) (change : Change) (sigs : List SigEntry) (t : Time)
  /-- ROSTER_POLL (R480). A council member receives a roster poll and answers with newer entries. -/
  | rosterPoll (sender version : Nat) (t : Time)
  /-- ROSTER (R480). A member receives roster entries and applies them. -/
  | karRoster (sender version : Nat) (entries : List RosterEntry) (replicated : List Nat) (t : Time)
  /-- PRIMARY_HEARTBEAT_SEND (R472). The primary heartbeats its replicas every PRIMARY_TIMEOUT_MS / 4. -/
  | primaryHeartbeatSend (domain : Nat) (t : Time)
  /-- PRIMARY_TIMEOUT (R476). A replica that hears no primary for the timeout starts a new term. -/
  | primaryTimeout (domain jitter : Nat) (t : Time)
  /-- MESSAGE_RESEND (R470). An unanswered PROPOSE, VOTE_REQUEST or CATCHUP_REQUEST is resent after 200 ms. -/
  | messageResend (t : Time)
  /-- COMMIT_TIMEOUT (R478). A replicated change reaches no commit within COMMIT_MS and returns NOT_READY. -/
  | commitTimeout (t : Time)
  /-- ROSTER_POLL_TIMER (R480). Every ROSTER_POLL_S a member polls a council member. -/
  | rosterPollTimer (t : Time)
  /-- SESSION_RENEWAL (R468). A Karst session is renewed after 24 h or 2^32 messages. -/
  | sessionRenewal (peer : Nat) (t : Time)
  /-- OLD_KEY_EXPIRY (R468). Old Karst session keys are zeroed 10 s after renewal. -/
  | oldKeyExpiry (peer : Nat) (t : Time)
  /-- MAIN_PG_RISE (R496). MAIN_PG rises and the power-up timeline starts with cause POWER_ON. -/
  | mainPgRise (straps : Straps) (t : Time)
  /-- MAIN_PG_FALL (R504). MAIN_PG falls and Lantern passes to STANDBY. -/
  | mainPgFall (t : Time)
  /-- VSTBY_WINDOW_CHANGE (R503). VSTBY enters or leaves its window and the battery domain switches supply or state. -/
  | vstbyWindowChange (inWindow : Bool) (t : Time)
  /-- SYS_RESET (R487). SYS_RESET_N held low starts a reset that keeps main power. -/
  | sysReset (t : Time)
  /-- SOFTWARE_RESET (R490). A keyed write of RESET to ID_RESET_CTRL starts a SOFTWARE reset. -/
  | softwareReset (master : Master) (value : Word) (t : Time)
  /-- CONFIG_RESTORE (R494). After SECURE_UP the secure world restores the approved Passage configuration and enables the ports. -/
  | configRestore (sound : Bool) (t : Time)
  /-- REGISTER_WRITE (R21). A write to a register with no row of its own stores its fields or is refused. -/
  | registerWrite (target : RegTarget) (size : Nat) (value : Word) (t : Time)
  /-- REGISTER_READ (R18). A register read latches a counter's high word into its snapshot shadow, clears an RC field, or is refused and counted. -/
  | registerRead (target : RegTarget) (size : Nat) (t : Time)
  /-- INTERNAL_RESET_RELEASE (R487). The internal reset is released at the later of the Strata close and SYS_RESET_N returning high, and the boot ROM runs the power-up timeline. -/
  | internalResetRelease (straps : Straps) (t : Time)
  /-- VBAT_WINDOW_CHANGE (R503). VBAT is applied or falls below 2.0 V, moving Lantern between DEAD and BATTERY when VSTBY is out of window. -/
  | vbatWindowChange (present : Bool) (t : Time)
  /-- PCIE_LINK_DOWN (R492). The PCIe link leaves DL_Active and the HOST bit of ID_READY falls. -/
  | pcieLinkDown (t : Time)
  /-- PLL_LOCK_GAINED (R19). A generated clock's PLL regains lock and its LOCK bit in ID_CLK_STATUS rises again. -/
  | pllLockGained (clock : Fin 8) (t : Time)
  /-- ENGINE_PARITY_ERROR (R215). A parity error in a digest or service MAC engine puts it into FAILED, raises FAULT and ends or moves its running jobs. -/
  | engineParityError (unit : EngineId) (t : Time)
  /-- ENGINE_KNOWN_ANSWER (R215). The periodic known-answer test of a digest or service MAC engine runs between jobs and fails the engine on a wrong answer. -/
  | engineKnownAnswer (unit : EngineId) (correct : Bool) (t : Time)
  /-- TAP_RESET (R412). A TAP reset through TRST_N or TMS returns the TAP to Test-Logic-Reset and selects IDCODE. -/
  | tapReset (t : Time)
  deriving DecidableEq, Repr

end Sys2Proof
end

