-- ==== Sys2Proof/Decode.lean ====
section
/-!
DEFINITION. Words and commands: no row of the table of operations and events gives an encoding in bits.
-/

namespace Sys2Proof

/-- The command that a word spells by the table's bits: none, since every row of the table has an empty list of fields. -/
def decodeTableWord (_nbits _w : Nat) : Option Instr := none

end Sys2Proof
end

