-- ==== Sys2Proof/Config.lean ====
section
/-!
DEFINITION. What the spec leaves to another standard, to an implementation, or open: uninterpreted functions with no
body, so that every claim holds whatever they are.

The cryptographic functions are those of the standards the spec names (R82, R83, R95, R148, R206, R246, R256, R261);
the model takes them as functions of their inputs and nothing more (assumption 6).
-/

namespace Sys2Proof.Config

/-- AES-CMAC of SP 800-38B: key, message; 16 bytes. -/
opaque cmac : Bytes → Bytes → Bytes
/-- AES-GMAC of SP 800-38D with an empty plaintext: key, IV, additional data; 16 bytes. -/
opaque gmac : Bytes → Bytes → Bytes → Bytes
/-- The digests of R95 and R206, by the code of R206: the message and the number of output bytes (fixed for SHA-2). -/
opaque digest : Nat → Bytes → Nat → Bytes
/-- SHA-384 of a byte string (48 bytes), as R44, R263 and R272 use it. -/
def sha384 (b : Bytes) : Bytes := digest 2 b 48
/-- The block cipher AES-256 (R226): key, block; 16 bytes. -/
opaque aes256 : Bytes → Bytes → Bytes
/-- Verification of an ML-DSA or LMS signature by its code of R82: public key, digest of R95, signature. -/
opaque verify : Nat → Bytes → Bytes → Bytes → Bool
/-- A hedged signature of an attestation key (R263): which key (0 ECDSA P-384, 1 ML-DSA-65), the secret, the message, and
the number of the draw that hedges it. -/
opaque sign : Nat → Bytes → Bytes → Nat → Bytes
/-- What a public-key operation of R146 finds and computes: operation code, algorithm code, key value, its input operands
each after its ID, and the random bytes drawn for it. -/
opaque pke : Nat → Nat → Bytes → List (Nat × Bytes) → Bytes → PkeResult
/-- The attempts that ML-DSA SIGN of an ALGO takes, without bound: μ and the random bytes (R155, R158). -/
opaque signAttempts : Nat → Bytes → Bytes → Nat
/-- The search of RSA KEYGEN for its two primes, without bound, by the words of the modulus and the random bytes (R155, R158): candidates
and survivors of the first, then of the second. -/
opaque rsaSearch : Nat → Bytes → (Nat × Nat) × Nat × Nat
/-- The bytes of a chamber message between its EtherType and its sequence, for the messages whose layout the spec leaves open (R130,
R135). -/
opaque chamberBody : ChamberMsg → Bytes
/-- The source address of a chamber frame (R129 gives none). -/
opaque chamberSource : Bytes
/-- The check word of an area of battery-backed RAM, over the area's bytes (R244, R291 give its width). -/
opaque checkWord : Bytes → BitVec 32
/-- The cell-kind byte of a logical cell (R288). -/
opaque cellKind : Nat → Byte
/-- The IV of a key's or a domain master's wrapping in the vault (R245): the object's number, and the epoch of the commit. -/
opaque wrapIv : Nat → Nat → Bytes
/-- Where a long key's extent cells lie (R289): the handle, and the epoch of the commit that wrote them; 8 bytes. -/
opaque extentAt : Nat → Nat → Bytes
/-- The public key that goes with a private key of an ALGO. -/
opaque publicKey : Nat → Bytes → Bytes
/-- ML-KEM-768 decapsulation: secret, ciphertext; the shared secret. -/
opaque kemDecaps : Bytes → Bytes → Bytes
/-- ML-KEM-768 encapsulation: encapsulation key, randomness; ciphertext and shared secret. -/
opaque kemEncaps : Bytes → Bytes → Bytes × Bytes
/-- The encapsulation key of an ML-KEM-768 secret (1,184 bytes). -/
opaque kemPublic : Bytes → Bytes
/-- The keyed hash that gives a flow key's set in one way of the flow table (R54): seed, flow key. -/
opaque flowHash : Bytes → Bytes → Nat
/-- Which way of a full candidate set is displaced next (R54 leaves the choice open): flow key, displacement number. -/
opaque cuckooWay : Bytes → Nat → Nat
/-- The rate adjustment the servo of R439 chooses, in 2^−16 ppm: offset in ns, present adjustment. -/
opaque servo : Int → Int → Int
/-- The next state of the 32-bit LFSR of a dynamic pin pair (R427). -/
opaque lfsr : BitVec 32 → BitVec 32
/-- A number the spec leaves open: the draw's number. -/
opaque freeNat : Nat → Nat
/-- Bytes the spec leaves open: the draw's number and how many. -/
opaque freeBytes : Nat → Nat → Bytes
/-- The vendor life-cycle public key's SHA-384, and the vendor root, as the boot ROM holds them (R260, R402). -/
opaque vendorDigest : Bytes
/-- Whether a transport offer's signatures verify under certificates chained to the vendor root (R260). -/
opaque offerValid : Bytes → Bool
/-- Whether a firmware image's signatures verify: world, owner's LMS key, image bytes (R394, R395). -/
opaque imageValid : Nat → Bytes → Bytes → Bool
/-- The ML-DSA-65 device certificate among the four certificates of R262. -/
opaque deviceCert : Bytes → Bytes
/-- The body of a Karst message (R469). -/
opaque karBody : KarMsg → Bytes
/-- What follows the command body in a change record of KIND 1 (R473): its approval records, and its new key records wrapped under the
domain master. -/
opaque changeTail : List Approval → List VaultOp → Bytes
/-- The domain's record and keys that a change of KIND 2 brings the replicas it adds (R472, R473), wrapped for their way. -/
opaque replicaContent : Domain → Tbl KeyRec → Bytes
/-- The roster entries of a change of KIND 3 (R473). -/
opaque rosterBody : List RosterEntry → Bytes
/-- Whether a payload of a TYPE carries a change record whose KIND is REVOKE (R471). -/
opaque karRevokes : Nat → Bytes → Bool
/-- A member signature verifies under the public keys of the roster entry with this digest (R463, R464): digest, message, signature. -/
opaque memberVerify : Bytes → Bytes → Bytes → Bool
/-- Whether the signatures of an OFFER or ACCEPT verify under certificates chained to the vendor root (R468); for an ACCEPT with the
digest of its offer. -/
opaque helloValid : KarHello → Bytes → Bool
/-- Whether a join request's member signature and its attestation record with its chain verify (R465). -/
opaque joinValid : Bytes → Bool
/-- Whether the signature block that ends a migration blob verifies, with certificates chained to the vendor root (R335). -/
opaque migrationValid : Bytes → Bool
/-- The BCH code of a life-cycle entry's first eight bytes (R408). -/
opaque bch : Bytes → Bytes
/-- The 16 bytes of an entry whose programming was cut short, by what it was to hold. -/
opaque tornEntry : Bytes → Bytes
/-- The bytes of the time correlation record of a tick and a second of device time, its check word among them (R442). -/
opaque corrRecord : Nat → Nat → Bytes
/-- The number and the colour key that the I3C window has as a master of the register fabric (R383 lists neither). -/
opaque i3cMaster : Nat × Nat
/-- What GETSTATUS, GETMXDS and GETCAPS of the I3C specification answer (R342): with an interrupt pending, a protocol error. -/
opaque i3cStatus : Bool → Bool → Bytes
/-- The answer to GETMXDS. -/
opaque i3cSpeed : Bytes
/-- The answer to GETCAPS. -/
opaque i3cCaps : Bytes

end Sys2Proof.Config
end

