-- ==== Sys2Proof/Machine/Bits.lean ====
section
/-!
DEFINITION. Bit fields of registers, byte order, and the CRC-32 of IEEE 802.3.

Structures in device and host memory are little-endian; fields on a network wire are most significant byte first (R5).
-/

namespace Sys2Proof

/-- Bits `hi` down to `lo` of a register, as a number. -/
def field (w : Word) (hi lo : Nat) : Nat := (w.toNat / 2 ^ lo) % 2 ^ (hi + 1 - lo)

/-- One bit of a register. -/
def bit (w : Word) (i : Nat) : Bool := (w.toNat / 2 ^ i) % 2 == 1

/-- The register with bits `hi` down to `lo` replaced. -/
def setField (w : Word) (hi lo v : Nat) : Word :=
  BitVec.ofNat 32 (w.toNat - field w hi lo * 2 ^ lo + (v % 2 ^ (hi + 1 - lo)) * 2 ^ lo)

/-- The register with one bit set or cleared. -/
def setBit (w : Word) (i : Nat) (b : Bool) : Word := setField w i i (if b then 1 else 0)

/-- One bit as a number, to build a register's value from its fields. -/
def bitAt (b : Bool) (i : Nat) : Nat := if b then 2 ^ i else 0

/-- The register stored by a write of `v` where only the bits of `mask` are writable: the others keep their value and a 1
written to a reserved bit is ignored (R3, R4). -/
def storeMasked (old v mask : Word) : Word := (old &&& ~~~ mask) ||| (v &&& mask)

/-- The register after a write to write-1-to-clear bits (R3). -/
def storeW1C (old v mask : Word) : Word := old &&& ~~~ (v &&& mask)

/-- Little-endian value of a byte string (R5). -/
def leNat : Bytes → Nat
  | [] => 0
  | b :: t => b.toNat + 256 * leNat t

/-- The low `n` bytes of a number, little-endian. -/
def leBytes : Nat → Nat → Bytes
  | 0, _ => []
  | n + 1, v => BitVec.ofNat 8 v :: leBytes n (v / 256)

/-- Wire-order value of a byte string: most significant byte first (R5). -/
def beNat (bs : Bytes) : Nat := bs.foldl (fun a b => a * 256 + b.toNat) 0

/-- The low `n` bytes of a number, most significant first. -/
def beBytes (n v : Nat) : Bytes := (leBytes n v).reverse

/-- `n` bytes of `bs` from offset `off`. -/
def slice (bs : Bytes) (off n : Nat) : Bytes := (bs.drop off).take n

/-- `n` zero bytes. -/
def zeros (n : Nat) : Bytes := List.replicate n 0

/-- The byte string zero-padded to a multiple of `m`. -/
def padTo (m : Nat) (bs : Bytes) : Bytes := bs ++ zeros ((m - bs.length % m) % m)

/-- The length `n` rounded up to a multiple of `m`. -/
def roundUp (m n : Nat) : Nat := (n + m - 1) / m * m

/-- The bytes of a label: one per character. -/
def asciiBytes (l : String) : Bytes := l.toList.map fun ch => BitVec.ofNat 8 ch.toNat

/-- Every byte of the string is zero. -/
def allZero (bs : Bytes) : Bool := bs.all (· == 0)

/-- Eight shifts of the reflected CRC-32 register. -/
def crcShift : Nat → BitVec 32 → BitVec 32
  | 0, c => c
  | n + 1, c => crcShift n (if c.getLsbD 0 then (c >>> 1) ^^^ 0xEDB88320#32 else c >>> 1)

/-- The CRC-32 register after one more byte. -/
def crcByte (c : BitVec 32) (b : Byte) : BitVec 32 := crcShift 8 (c ^^^ b.setWidth 32)

/-- CRC-32 of IEEE 802.3 over a byte string: the polynomial, preset and complement that the standard R345 names gives. -/
def crc32 (bs : Bytes) : BitVec 32 := ~~~ (bs.foldl crcByte 0xFFFFFFFF#32)

/-- The next value of a counter of `w` bits that saturates. -/
def satAdd (w n k : Nat) : Nat := min (n + k) (2 ^ w - 1)

/-- A counter of 64 bits that saturates, one step on. -/
def sat64 (n : Nat) : Nat := satAdd 64 n 1

/-- A counter of 32 bits that saturates, one step on. -/
def sat32 (n : Nat) : Nat := satAdd 32 n 1

/-- One microsecond in units of `Time`. -/
def usT : Nat := 216000
/-- One millisecond in units of `Time`. -/
def msT : Nat := 216000000
/-- One second in units of `Time`. -/
def secT : Nat := 216000000000
/-- One nanosecond in units of `Time`. -/
def nsT : Nat := 216
/-- One CCLK cycle in units of `Time` (R13). -/
def cclkT : Nat := 160
/-- One XCLK cycle in units of `Time` (R13). -/
def xclkT : Nat := 135
/-- One NCLK cycle in units of `Time` (R13). -/
def nclkT : Nat := 180
/-- One MCLK cycle in units of `Time` (R13). -/
def mclkT : Nat := 216
/-- One Lantern sample period, 1/1,024 s, in units of `Time` (R424). -/
def sampleT : Nat := 210937500

end Sys2Proof
end

