-- ==== Sys2Proof/Machine/Arith.lean ====
section
/-!
DEFINITION. The arithmetic behind the checks of R159 and R176: modular powers, short Weierstrass, Edwards and Montgomery curves, and
Miller–Rabin rounds.

The domain parameters are those of the standards that R147 names: SP 800-186, RFC 5639, RFC 7748 and RFC 8032.
-/

namespace Sys2Proof

/-! ## Modular arithmetic -/

/-- The loop of a modular power: `n` more bits of the exponent `e`, the square `b`, and the product so far. -/
def powLoop (m : Nat) : Nat → Nat → Nat → Nat → Nat
  | 0, _, _, acc => acc
  | n + 1, b, e, acc => powLoop m n (b * b % m) (e / 2) (if e % 2 = 1 then acc * b % m else acc)

/-- `b ^ e mod m`. -/
@[irreducible] def powMod (b e m : Nat) : Nat := powLoop m (Nat.log2 e + 1) (b % m) e (1 % m)

/-- The inverse of `a` modulo a prime. -/
def invMod (a p : Nat) : Nat := powMod a (p - 2) p

/-- `a − b` modulo `m`. -/
def subMod (a b m : Nat) : Nat := (a % m + (m - b % m)) % m

/-- A square root of `z` modulo a prime that is 3 modulo 4 or 5 modulo 8, if it has one. -/
def sqrtMod (z p : Nat) : Option Nat :=
  let r := if p % 4 = 3 then powMod z ((p + 1) / 4) p else powMod z ((p + 3) / 8) p
  let r := if r * r % p = z % p then r else r * powMod 2 ((p - 1) / 4) p % p
  if r * r % p = z % p then some r else none

/-- The odd part of `n` and how often 2 divides it, at most `fuel` times. -/
def oddPart : Nat → Nat → Nat × Nat
  | 0, n => (n, 0)
  | fuel + 1, n => if n % 2 = 0 && n ≠ 0 then ((oddPart fuel (n / 2)).1, (oddPart fuel (n / 2)).2 + 1) else (n, 0)

/-- One of the `k` squarings of a Miller–Rabin round meets −1. -/
def meetsMinusOne (p : Nat) : Nat → Nat → Bool
  | 0, _ => false
  | k + 1, x => x == p - 1 || meetsMinusOne p k (x * x % p)

/-- `p` is odd and passes a Miller–Rabin round under each base. -/
def passesMillerRabin (p : Nat) (bases : List Nat) : Bool :=
  let (d, k) := oddPart (Nat.log2 p + 1) (p - 1)
  p % 2 == 1 && decide (3 < p) && bases.all fun b =>
    let x := powMod (2 + b % (p - 3)) d p
    x == 1 || meetsMinusOne p k x

/-! ## Short Weierstrass curves -/

/-- A curve y² = x³ + ax + b over the field of p, with a base point of order n and cofactor h. -/
structure ECurve where
  p : Nat
  a : Nat
  b : Nat
  gx : Nat
  gy : Nat
  n : Nat
  h : Nat := 1
  deriving DecidableEq, Repr

/-- A point of a curve; none is the point at infinity. -/
abbrev EPoint := Option (Nat × Nat)

/-- Both coordinates are below p and meet the curve equation. -/
def ECurve.holds (c : ECurve) (x y : Nat) : Bool :=
  decide (x < c.p) && decide (y < c.p) && y * y % c.p == (x * x * x + c.a * x + c.b) % c.p

/-- The sum of two points. -/
def ECurve.add (c : ECurve) : EPoint → EPoint → EPoint
  | none, q => q
  | p, none => p
  | some (x1, y1), some (x2, y2) =>
    if x1 = x2 && (y1 + y2) % c.p = 0 then none
    else
      let l := if x1 = x2 then (3 * x1 * x1 + c.a) * invMod (2 * y1 % c.p) c.p % c.p
        else subMod y2 y1 c.p * invMod (subMod x2 x1 c.p) c.p % c.p
      let x := subMod (l * l) (x1 + x2) c.p
      some (x, subMod (l * subMod x1 x c.p) y1 c.p)

/-- The loop of a scalar multiple. -/
def ECurve.mulLoop (c : ECurve) : Nat → Nat → EPoint → EPoint → EPoint
  | 0, _, _, acc => acc
  | n + 1, k, q, acc => mulLoop c n (k / 2) (c.add q q) (if k % 2 = 1 then c.add acc q else acc)

/-- `k` times a point. -/
@[irreducible] def ECurve.mul (c : ECurve) (k : Nat) (q : EPoint) : EPoint := c.mulLoop (Nat.log2 k + 1) k q none

/-- The base point. -/
def ECurve.base (c : ECurve) : EPoint := some (c.gx, c.gy)

/-- Bytes of a field element. -/
def ECurve.fieldLen (c : ECurve) : Nat := (Nat.log2 c.p + 8) / 8

/-- Bytes of an integer modulo the order. -/
def ECurve.orderLen (c : ECurve) : Nat := (Nat.log2 c.n + 8) / 8

/-- X ‖ Y of a point (R251); none where it is the point at infinity. -/
def ECurve.encode (c : ECurve) (q : EPoint) : Option Bytes :=
  q.map fun (x, y) => beBytes c.fieldLen x ++ beBytes c.fieldLen y

/-- The coordinates that X ‖ Y spells. -/
def ECurve.coords (c : ECurve) (b : Bytes) : Nat × Nat := (beNat (b.take c.fieldLen), beNat (b.drop c.fieldLen))

/-- The public points that R159 excludes: off the curve, or, where the cofactor exceeds 1, not of order n. -/
def ECurve.excludes (c : ECurve) (b : Bytes) : Bool :=
  let (x, y) := c.coords b
  !c.holds x y || (decide (1 < c.h) && c.mul c.n (some (x, y)) != none)

/-- The private keys that R159 excludes: outside [1, n − 1]. -/
def ECurve.excludesPrivate (c : ECurve) (d : Bytes) : Bool := beNat d == 0 || decide (c.n ≤ beNat d)

/-- The integer that ECDSA takes from a digest: its leading bits, as many as the order has. -/
def ECurve.hashInt (c : ECurve) (digest : Bytes) : Nat := beNat digest / 2 ^ (8 * digest.length - (Nat.log2 c.n + 1))

/-- ECDSA verification of r ‖ s under the point X ‖ Y (R159). -/
def ECurve.verify (c : ECurve) (key digest sig : Bytes) : Bool :=
  let r := beNat (sig.take c.orderLen)
  let t := beNat (sig.drop c.orderLen)
  let w := invMod t c.n
  if r = 0 || t = 0 || decide (c.n ≤ r) || decide (c.n ≤ t) then false
  else match c.add (c.mul (c.hashInt digest * w % c.n) c.base) (c.mul (r * w % c.n) (some (c.coords key))) with
    | none => false
    | some (x, _) => x % c.n == r

/-- The curves of ALGO 0x01 to 0x05 (R147). -/
def namedCurve (algo : Nat) : Option ECurve :=
  if algo = 1 then some {
    p := 0xFFFFFFFF00000001000000000000000000000000FFFFFFFFFFFFFFFFFFFFFFFF
    a := 0xFFFFFFFF00000001000000000000000000000000FFFFFFFFFFFFFFFFFFFFFFFC
    b := 0x5AC635D8AA3A93E7B3EBBD55769886BC651D06B0CC53B0F63BCE3C3E27D2604B
    gx := 0x6B17D1F2E12C4247F8BCE6E563A440F277037D812DEB33A0F4A13945D898C296
    gy := 0x4FE342E2FE1A7F9B8EE7EB4A7C0F9E162BCE33576B315ECECBB6406837BF51F5
    n := 0xFFFFFFFF00000000FFFFFFFFFFFFFFFFBCE6FAADA7179E84F3B9CAC2FC632551 }
  else if algo = 2 then some {
    p := 2 ^ 384 - 2 ^ 128 - 2 ^ 96 + 2 ^ 32 - 1
    a := 2 ^ 384 - 2 ^ 128 - 2 ^ 96 + 2 ^ 32 - 4
    b := 0xB3312FA7E23EE7E4988E056BE3F82D19181D9C6EFE8141120314088F5013875AC656398D8A2ED19D2A85C8EDD3EC2AEF
    gx := 0xAA87CA22BE8B05378EB1C71EF320AD746E1D3B628BA79B9859F741E082542A385502F25DBF55296C3A545E3872760AB7
    gy := 0x3617DE4A96262C6F5D9E98BF9292DC29F8F41DBD289A147CE9DA3113B5F0B8C00A60B1CE1D7E819D7A431D7C90EA0E5F
    n := 0xFFFFFFFFFFFFFFFFFFFFFFFFFFFFFFFFFFFFFFFFFFFFFFFFC7634D81F4372DDF581A0DB248B0A77AECEC196ACCC52973 }
  else if algo = 3 then some {
    p := 2 ^ 521 - 1
    a := 2 ^ 521 - 4
    b := 0x51953EB9618E1C9A1F929A21A0B68540EEA2DA725B99B315F3B8B489918EF109E156193951EC7E937B1652C0BD3BB1BF073573DF883D2C34F1EF451FD46B503F00
    gx := 0xC6858E06B70404E9CD9E3ECB662395B4429C648139053FB521F828AF606B4D3DBAA14B5E77EFE75928FE1DC127A2FFA8DE3348B3C1856A429BF97E7E31C2E5BD66
    gy := 0x11839296A789A3BC0045C8A5FB42C7D1BD998F54449579B446817AFBD17273E662C97EE72995EF42640C550B9013FAD0761353C7086A272C24088BE94769FD16650
    n := 0x1FFFFFFFFFFFFFFFFFFFFFFFFFFFFFFFFFFFFFFFFFFFFFFFFFFFFFFFFFFFFFFFFFA51868783BF2F966B7FCC0148F709A5D03BB5C9B8899C47AEBB6FB71E91386409 }
  else if algo = 4 then some {
    p := 0xA9FB57DBA1EEA9BC3E660A909D838D726E3BF623D52620282013481D1F6E5377
    a := 0x7D5A0975FC2C3057EEF67530417AFFE7FB8055C126DC5C6CE94A4B44F330B5D9
    b := 0x26DC5C6CE94A4B44F330B5D9BBD77CBF958416295CF7E1CE6BCCDC18FF8C07B6
    gx := 0x8BD2AEB9CB7E57CB2C4B482FFC81B7AFB9DE27E1E3BD23C23A4453BD9ACE3262
    gy := 0x547EF835C3DAC4FD97F8461A14611DC9C27745132DED8E545C1D54C72F046997
    n := 0xA9FB57DBA1EEA9BC3E660A909D838D718C397AA3B561A6F7901E0E82974856A7 }
  else if algo = 5 then some {
    p := 0x8CB91E82A3386D280F5D6F7E50E641DF152F7109ED5456B412B1DA197FB71123ACD3A729901D1A71874700133107EC53
    a := 0x7BC382C63D8C150C3C72080ACE05AFA0C2BEA28E4FB22787139165EFBA91F90F8AA5814A503AD4EB04A8C7DD22CE2826
    b := 0x4A8C7DD22CE28268B39B55416F0447C2FB77DE107DCD2A62E880EA53EEB62D57CB4390295DBC9943AB78696FA504C11
    gx := 0x1D1C64F068CF45FFA2A63A81B7C13F6B8847A3E77EF14FE3DB7FCAFE0CBD10E8E826E03436D646AAEF87B2E247D4AF1E
    gy := 0x8ABE1D7520F9C2A45CB1EB8E95CFD55262B70B29FEEC5864E19C054FF99129280E4646217791811142820341263C5315
    n := 0x8CB91E82A3386D280F5D6F7E50E641DF152F7109ED5456B31F166E6CAC0425A7CF3AB6AF6B7FC3103B883202E9046565 }
  else none

/-- The curve of a 448-byte record (R174). -/
def recordCurve (r : Bytes) : ECurve :=
  let at_ (off : Nat) : Nat := leNat (slice r off 72)
  { p := at_ 0x10, a := at_ 0x58, b := at_ 0xA0, gx := at_ 0xE8, gy := at_ 0x130, n := at_ 0x178, h := leNat (slice r 2 1) }

/-- The checks of R176 on a curve, in their order; `ps` and `ns` are the bases of the Miller–Rabin rounds on p and on n. -/
def ECurve.checks (c : ECurve) (ps ns : List Nat) : List Bool :=
  let off := if c.p + 1 ≤ c.h * c.n then c.h * c.n - (c.p + 1) else c.p + 1 - c.h * c.n
  [passesMillerRabin c.p ps, passesMillerRabin c.n ns, decide (c.a < c.p) && decide (c.b < c.p),
   (4 * c.a * c.a * c.a + 27 * c.b * c.b) % c.p != 0, c.holds c.gx c.gy, c.mul c.n c.base == none,
   decide (1 ≤ c.h) && decide (c.h ≤ 4) && decide (off * off ≤ 4 * c.p), c.n != c.p,
   (List.range 20).all fun k => powMod c.p (k + 1) c.n != 1]

/-- The numbers of `k` bytes that a byte string spells, little-endian, at most `n` of them. -/
def chunkNats (k : Nat) : Nat → Bytes → List Nat
  | 0, _ => []
  | n + 1, b => leNat (b.take k) :: chunkNats k n (b.drop k)

/-- The lowest check of R176 that a curve record fails under the bases drawn for it, 64 for p and 64 for n; 0 where none fails. -/
def curveCheck (record random : Bytes) : Nat :=
  let k := (leNat (slice record 0 2) + 7) / 8
  let l := (recordCurve record).checks (chunkNats k 64 random) (chunkNats k 64 (random.drop (64 * k)))
  match l.findIdx? (!·) with
  | some i => i + 1
  | none => 0

/-! ## Edwards curves -/

/-- A curve ax² + y² = 1 + dx²y² over the field of p, with a base point of order l, its cofactor and the bytes of an encoding. -/
structure EdCurve where
  p : Nat
  a : Nat
  d : Nat
  bx : Nat
  by_ : Nat
  l : Nat
  cofactor : Nat
  len : Nat
  deriving DecidableEq, Repr

/-- Ed25519 and Ed448. -/
def edCurve (algo : Nat) : EdCurve :=
  if algo = 0x10 then {
    p := 2 ^ 255 - 19
    a := 2 ^ 255 - 20
    d := 0x52036CEE2B6FFE738CC740797779E89800700A4D4141D8AB75EB4DCA135978A3
    bx := 0x216936D3CD6E53FEC0A4E231FDD6DC5C692CC7609525A7B2C9562D608F25D51A
    by_ := 0x6666666666666666666666666666666666666666666666666666666666666658
    l := 0x1000000000000000000000000000000014DEF9DEA2F79CD65812631A5CF5D3ED
    cofactor := 8
    len := 32 }
  else {
    p := 2 ^ 448 - 2 ^ 224 - 1
    a := 1
    d := 2 ^ 448 - 2 ^ 224 - 39082
    bx := 224580040295924300187604334099896036246789641632564134246125461686950415467406032909029192869357953282578032075146446173674602635247710
    by_ := 298819210078481492676017930443930673437544040154080242095928241372331506189835876003536878655418784733982303233503462500531545062832660
    l := 0x3FFFFFFFFFFFFFFFFFFFFFFFFFFFFFFFFFFFFFFFFFFFFFFFFFFFFFFF7CCA23E9C44EDB49AED63690216CC2728DC58F552378C292AB5844F3
    cofactor := 4
    len := 57 }

/-- The sum of two points. -/
def EdCurve.add (c : EdCurve) (u v : Nat × Nat) : Nat × Nat :=
  let t := c.d * u.1 * v.1 * u.2 * v.2 % c.p
  ((u.1 * v.2 + u.2 * v.1) * invMod ((1 + t) % c.p) c.p % c.p,
   subMod (u.2 * v.2) (c.a * u.1 * v.1) c.p * invMod (subMod 1 t c.p) c.p % c.p)

/-- The loop of a scalar multiple. -/
def EdCurve.mulLoop (c : EdCurve) : Nat → Nat → Nat × Nat → Nat × Nat → Nat × Nat
  | 0, _, _, acc => acc
  | n + 1, k, q, acc => mulLoop c n (k / 2) (c.add q q) (if k % 2 = 1 then c.add acc q else acc)

/-- `k` times a point. -/
@[irreducible] def EdCurve.mul (c : EdCurve) (k : Nat) (q : Nat × Nat) : Nat × Nat := c.mulLoop (Nat.log2 k + 1) k q (0, 1)

/-- The base point. -/
def EdCurve.base (c : EdCurve) : Nat × Nat := (c.bx, c.by_)

/-- The encoding of a point (RFC 8032): y, with the low bit of x as the top bit. -/
def EdCurve.encode (c : EdCurve) (q : Nat × Nat) : Bytes := leBytes c.len (q.2 + q.1 % 2 * 2 ^ (8 * c.len - 1))

/-- The point that an encoding stands for: none where it is not canonical or not on the curve. -/
def EdCurve.decode (c : EdCurve) (b : Bytes) : Option (Nat × Nat) :=
  let w := leNat b
  let y := w % 2 ^ (8 * c.len - 1)
  let sign := w / 2 ^ (8 * c.len - 1) % 2
  if c.p ≤ y || b.length ≠ c.len then none
  else
    match sqrtMod (subMod (y * y) 1 c.p * invMod (subMod (c.d * y * y) c.a c.p) c.p) c.p with
    | none => none
    | some x =>
      if x = 0 && sign = 1 then none
      else some (if x % 2 = sign then x else c.p - x, y)

/-- The public keys that R159 excludes: not canonical, not on the curve, or of small order. -/
def EdCurve.excludes (c : EdCurve) (key : Bytes) : Bool :=
  match c.decode key with
  | none => true
  | some q => c.mul c.cofactor q == (0, 1)

/-- The cofactored verification of R ‖ S, where `digest` is the hash over R, the key and the message (R159). -/
def EdCurve.verify (c : EdCurve) (key digest sig : Bytes) : Bool :=
  let t := leNat (sig.drop c.len)
  match c.decode (sig.take c.len), c.decode key with
  | some r, some q =>
    decide (t < c.l) && c.mul (c.cofactor * t) c.base == c.mul c.cofactor (c.add r (c.mul (leNat digest % c.l) q))
  | _, _ => false

/-! ## Montgomery curves (RFC 7748) -/

/-- The loop of the ladder over the bits of a scalar from bit `n` − 1 down. -/
def ladder (p a24 u k : Nat) : Nat → Nat × Nat × Nat × Nat → Nat × Nat × Nat × Nat
  | 0, st => st
  | n + 1, (x2, z2, x3, z3) =>
    let swap := k / 2 ^ n % 2 = 1
    let (x2, z2, x3, z3) := if swap then (x3, z3, x2, z2) else (x2, z2, x3, z3)
    let a := (x2 + z2) % p
    let b := subMod x2 z2 p
    let e := subMod (a * a) (b * b) p
    let da := subMod x3 z3 p * a % p
    let cb := (x3 + z3) % p * b % p
    let (x2, z2, x3, z3) :=
      (a * a * (b * b) % p, e * (a * a + a24 * e) % p, (da + cb) * (da + cb) % p,
       u * (subMod da cb p * subMod da cb p) % p)
    ladder p a24 u k n (if swap then (x3, z3, x2, z2) else (x2, z2, x3, z3))

/-- The function of a Montgomery curve: a scalar of `bits` bits and a u-coordinate, as `len` bytes. -/
@[irreducible] def montgomery (p a24 bits len k u : Nat) : Bytes :=
  let (x, z, _, _) := ladder p a24 (u % p) k bits (1, 0, u % p, 1)
  leBytes len (x * invMod z p % p)

/-- X25519: secret, public key; the shared secret. -/
def x25519 (k u : Bytes) : Bytes :=
  let n := leNat k
  montgomery (2 ^ 255 - 19) 121665 255 32 (n / 8 * 8 % 2 ^ 254 + 2 ^ 254) (leNat u % 2 ^ 255)

/-- X448: secret, public key; the shared secret. -/
def x448 (k u : Bytes) : Bytes :=
  montgomery (2 ^ 448 - 2 ^ 224 - 1) 39081 448 56 (leNat k / 4 * 4 % 2 ^ 447 + 2 ^ 447) (leNat u)

/-- The function of X25519 or X448 by ALGO. -/
def xShared (algo : Nat) (k u : Bytes) : Bytes := if algo = 0x12 then x25519 k u else x448 k u

/-- The public key of an X25519 or X448 secret. -/
def xPublic (algo : Nat) (k : Bytes) : Bytes :=
  if algo = 0x12 then x25519 k (leBytes 32 9) else x448 k (leBytes 56 5)

end Sys2Proof
end

