-- ==== Sys2Proof/Machine/Crypto.lean ====
section
/-!
DEFINITION. The constructions that the spec builds from the primitives of `Config`: HMAC (R210), the derivations of SP 800-108 (R246,
R261), CTR_DRBG (R226), the stored forms of keys (R251), and the exclusions of R159 on keys and signatures.
-/

namespace Sys2Proof

/-- The bitwise exclusive or of two byte strings, as long as the shorter. -/
def xorBytes (a b : Bytes) : Bytes := List.zipWith (· ^^^ ·) a b

/-! ## HMAC and derivation -/

/-- The bytes a digest code gives by default (R206). -/
def digestLen (algo : Nat) : Nat := [0, 32, 48, 64, 32, 48, 64, 0, 0].getD algo 0

/-- Bytes that one block of a digest code takes in (R213). -/
def blockRate (algo : Nat) : Nat := [0, 64, 128, 128, 136, 104, 72, 168, 136].getD algo 1

/-- The key of an HMAC over a digest code, brought to the block's size: a longer one is hashed first (R210, R261). -/
def hmacKey (algo : Nat) (key : Bytes) : Bytes :=
  let k := if blockRate algo < key.length then Config.digest algo key (digestLen algo) else key
  k ++ zeros (blockRate algo - k.length)

/-- HMAC of FIPS 198-1 over a digest code, both passes (R210): key ⊕ ipad and the message, then key ⊕ opad and the inner digest. -/
def hmac (algo : Nat) (key msg : Bytes) : Bytes :=
  let k := hmacKey algo key
  let inner := Config.digest algo (k.map (· ^^^ 0x36) ++ msg) (digestLen algo)
  Config.digest algo (k.map (· ^^^ 0x5C) ++ inner) (digestLen algo)

/-- A pseudorandom function by its code of R355: HMAC-SHA-256, HMAC-SHA-384, HMAC-SHA-512, or AES-256-CMAC. -/
def prf (code : Nat) (key msg : Bytes) : Bytes := if code = 4 then Config.cmac key msg else hmac code key msg

/-- The fixed input of round `i` of a derivation of `n` bytes (R261): counter, label, a zero byte, context, and the length in bits. -/
def kdfInput (label context : Bytes) (n i : Nat) : Bytes := beBytes 4 i ++ label ++ [0] ++ context ++ beBytes 4 (8 * n)

/-- SP 800-108 in counter mode: `n` bytes from a key under a label and a context (R246, R261). -/
def kdf (code : Nat) (key label context : Bytes) (n : Nat) : Bytes :=
  let len := if code = 4 then 16 else digestLen code
  (((List.range ((n + len - 1) / len)).map fun i => prf code key (kdfInput label context n (i + 1))).flatten).take n

/-! ## AES-256-GCM (R245, R257, R288) -/

/-- One block of AES-256. -/
def aesBlock (key block : Bytes) : Bytes := (Config.aes256 key block ++ zeros 16).take 16

/-- A product in the field of GHASH, whose first bit is the most significant. -/
@[irreducible] def gfMul (x y : BitVec 128) : BitVec 128 :=
  ((List.range 128).foldl (fun (a : BitVec 128 × BitVec 128) i =>
    (if x.getLsbD (127 - i) then a.1 ^^^ a.2 else a.1,
     if a.2.getLsbD 0 then (a.2 >>> 1) ^^^ (0xE1#128 <<< 120) else a.2 >>> 1)) (0, y)).1

/-- A byte string padded with zeros to whole blocks of 16 bytes. -/
def padBlocks (b : Bytes) : Bytes := b ++ zeros ((16 - b.length % 16) % 16)

/-- GHASH of whole blocks under a hash key. -/
def ghash (h : BitVec 128) (b : Bytes) : BitVec 128 :=
  (List.range (b.length / 16)).foldl (fun y i => gfMul (y ^^^ BitVec.ofNat 128 (beNat (slice b (16 * i) 16))) h) 0

/-- The stream that covers `n` bytes under a 96-bit IV. -/
def gcmStream (key iv : Bytes) (n : Nat) : Bytes :=
  ((List.range ((n + 15) / 16)).flatMap fun i => aesBlock key (iv ++ beBytes 4 (i + 2))).take n

/-- The tag of a ciphertext with its additional data. -/
def gcmTag (key iv aad ct : Bytes) : Bytes :=
  let h := BitVec.ofNat 128 (beNat (aesBlock key (zeros 16)))
  let lens := beBytes 8 (8 * aad.length) ++ beBytes 8 (8 * ct.length)
  xorBytes (aesBlock key (iv ++ beBytes 4 1)) (beBytes 16 (ghash h (padBlocks aad ++ padBlocks ct ++ lens)).toNat)

/-- Sealing: the ciphertext and its tag. -/
def gcmSeal (key iv aad text : Bytes) : Bytes × Bytes :=
  let ct := xorBytes text (gcmStream key iv text.length)
  (ct, gcmTag key iv aad ct)

/-- Opening: the plaintext if the tag verifies. -/
def gcmOpen (key iv aad ct tag : Bytes) : Option Bytes :=
  if gcmTag key iv aad ct = tag then some (xorBytes ct (gcmStream key iv ct.length)) else none

/-- A value wrapped under a key, with the IV it was wrapped under. -/
structure Sealed where
  iv : Bytes
  cipher : Bytes
  tag : Bytes
  deriving DecidableEq, Repr

/-- Wrap a value. -/
def wrap (key iv value : Bytes) : Sealed :=
  let (c, t) := gcmSeal key iv [] value
  { iv := iv, cipher := c, tag := t }

/-- Unwrap a value, if its tag verifies. -/
def Sealed.unwrap (x : Sealed) (key : Bytes) : Option Bytes := gcmOpen key x.iv [] x.cipher x.tag

/-- The bytes of a wrapped value. -/
def Sealed.bytes (x : Sealed) : Bytes := x.iv ++ x.cipher ++ x.tag

/-! ## CTR_DRBG (R226) -/

/-- The working state of a DRBG: Key and V. -/
structure DrbgState where
  key : Bytes := zeros 32
  v : Bytes := zeros 16
  deriving DecidableEq, Repr

/-- V after `k` increments. -/
def DrbgState.count (d : DrbgState) (k : Nat) : Bytes := beBytes 16 (beNat d.v + k)

/-- The first `n` blocks that the cipher gives from V + 1 on. -/
def DrbgState.stream (d : DrbgState) (n : Nat) : Bytes :=
  ((List.range n).map fun i => aesBlock d.key (d.count (i + 1))).flatten

/-- The update step, with 48 bytes of provided data. -/
def DrbgState.update (d : DrbgState) (data : Bytes) : DrbgState :=
  let t := xorBytes (d.stream 3) data
  { key := t.take 32, v := t.drop 32 }

/-- The personalisation string of an instance: the serial, the instance's number, and zeros. -/
def personalisation (serial : Bytes) (i : Nat) : Bytes := serial ++ leBytes 1 i ++ zeros 31

/-- Instantiation from one entropy input. -/
def drbgInstantiate (entropy serial : Bytes) (i : Nat) : DrbgState :=
  ({} : DrbgState).update (xorBytes entropy (personalisation serial i))

/-- One generate call of `n` bytes: its output and the state after it. -/
def DrbgState.call (d : DrbgState) (n : Nat) : Bytes × DrbgState :=
  let k := (n + 15) / 16
  ((d.stream k).take n, ({ d with v := d.count k } : DrbgState).update (zeros 48))

/-- A request of `n` bytes as calls of up to 512 bytes in immediate succession (R227), at most `fuel` of them. -/
def DrbgState.request : Nat → DrbgState → Nat → Bytes × DrbgState
  | 0, d, _ => ([], d)
  | fuel + 1, d, n =>
    if n = 0 then ([], d)
    else
      let (b, d) := d.call (min n 512)
      let (t, d) := DrbgState.request fuel d (n - min n 512)
      (b ++ t, d)

/-! ## Stored forms of keys (R147, R148, R251) -/

/-- An RSA exponent that R147 allows. -/
def exponentOk (e : Nat) : Bool := e % 2 == 1 && decide (3 ≤ e) && decide (e < 2 ^ 32)

/-- An odd modulus of `8 w` bytes with its top bit set. -/
def modulusOk (n w : Nat) : Bool := n % 2 == 1 && decide (2 ^ (64 * w - 1) ≤ n)

/-- An RSA or finite-field key of a type has a size of `w` words at a stored length.  R251 leaves the layouts to their standards; the
model takes an RSA public key as e and the modulus, the private key as e, modulus, private exponent, two primes and the three values
of their residues, and a finite-field private key as p, g, the 64-byte exponent and, if carried, q (PRESUMED, assumption 119). -/
def sizeFits (type length w : Nat) : Bool :=
  if type = 0x60 then length == 4 + 36 * w
  else if type = 0xA0 then length == 4 + 8 * w
  else if type = 0x68 then length == 16 * w + 64 || length == 24 * w + 64
  else length == 8 * w

/-- An RSA public key that R159 excludes: e outside R147, or the modulus even or with its top bit clear. -/
def rsaPublicBad (v : Bytes) : Bool :=
  !exponentOk (beNat (v.take 4)) || !modulusOk (beNat (v.drop 4)) ((v.length - 4) / 8)

/-- An RSA private key that is none of R147's: its exponent, or two primes of exactly half the words each that make up the modulus. -/
def rsaPrivateBad (v : Bytes) : Bool :=
  let w := (v.length - 4) / 36
  let p := beNat (slice v (4 + 16 * w) (4 * w))
  let q := beNat (slice v (4 + 20 * w) (4 * w))
  let short (x : Nat) : Bool := decide (x < 2 ^ (32 * w - 64))
  !exponentOk (beNat (v.take 4)) || short p || short q || p * q != beNat (slice v 4 (8 * w))

/-- The parts of a finite-field private key of `w` words: p, g, the exponent, and q where it is carried. -/
def groupOf (w : Nat) (v : Bytes) : Nat × Nat × Nat × Option Nat :=
  (beNat (v.take (8 * w)), beNat (slice v (8 * w) (8 * w)), beNat (slice v (16 * w) 64),
   if v.length = 24 * w + 64 then some (beNat (v.drop (16 * w + 64))) else none)

/-- A coefficient of an ML-KEM encapsulation key, 12 bits each, is at or above q; the last 32 bytes are the seed. -/
def kemPublicBad (v : Bytes) : Bool :=
  (List.range ((v.length - 32) / 3)).any fun i =>
    let x := leNat (slice v (3 * i) 3)
    decide (3329 ≤ x % 4096) || decide (3329 ≤ x / 4096)

/-- An ML-KEM decapsulation key fails the hash check of FIPS 203: it carries its encapsulation key and that key's SHA3-256 before the
last 32 bytes. -/
def kemPrivateBad (v : Bytes) : Bool :=
  let k := (v.length - 96) / 768
  Config.digest 4 (slice v (384 * k) (384 * k + 32)) 32 != slice v (768 * k + 32) 32

/-- The elliptic curve of an ALGO: a named one, or the one whose record is given (R147). -/
def curveFor (algo : Nat) (record : Bytes) : ECurve := (namedCurve algo).getD (recordCurve record)

/-- A key value that the exclusions of R159 and the checks of FIPS 203 turn away, by its type; `record` is the loaded curve of types
0x4F and 0x8F.  A hybrid key is judged by its classical part. -/
def keyExcluded (record : Bytes) (type : Nat) (v : Bytes) : Bool :=
  let algo := type % 64
  let weierstrass := (1 ≤ algo && algo ≤ 5) || algo == 0x0F
  if type < 0x40 then false
  else if 0xC0 ≤ type then
    if type ≤ 0xC1 then (curveFor 1 []).excludes (v.take 64) else (curveFor 2 []).excludes (v.take 96)
  else if type < 0x80 then
    if weierstrass then (curveFor algo record).excludesPrivate v
    else if algo = 0x20 then rsaPrivateBad v
    else if 0x38 ≤ algo then kemPrivateBad v
    else false
  else if weierstrass then (curveFor algo record).excludes v
  else if algo = 0x10 || algo = 0x11 then (edCurve algo).excludes v
  else if algo = 0x20 then rsaPublicBad v
  else if 0x38 ≤ algo then kemPublicBad v
  else false

/-- A signature check under a single-signature code of R82: whether the key is one R159 admits, and whether the signature verifies over
the digest of R95.  An ML-DSA key is never excluded. -/
def sigCheck (alg : Nat) (key digest sig : Bytes) : Bool × Bool :=
  let on (c : ECurve) : Bool × Bool := (!c.excludes key, c.verify key digest sig)
  if alg = 0x30 then on (curveFor 1 [])
  else if alg = 0x31 then on (curveFor 2 [])
  else if alg = 0x32 then (!(edCurve 0x10).excludes key, (edCurve 0x10).verify key digest sig)
  else (true, Config.verify alg key digest sig)

end Sys2Proof
end

