-- ==== Sys2Proof/Machine/Table.lean ====
section
/-!
DEFINITION. Sparse tables: how a numbered array of the device (slots, contexts, wires, ports) is held in the state.

A table lists its entries by rising index.  An index with no entry reads as the default its owner names.
-/

namespace Sys2Proof

/-- The entry at index `k`, if one is listed. -/
def Tbl.look {α : Type} : Tbl α → Nat → Option α
  | [], _ => none
  | (j, a) :: t, k => if j = k then some a else Tbl.look t k

/-- The value at index `k`, `d` where none is listed. -/
def Tbl.get {α : Type} (t : Tbl α) (d : α) (k : Nat) : α := (t.look k).getD d

/-- List `a` at index `k`, in the place that keeps the indices rising. -/
def Tbl.put {α : Type} : Tbl α → Nat → α → Tbl α
  | [], k, a => [(k, a)]
  | (j, b) :: t, k, a =>
    if k < j then (k, a) :: (j, b) :: t
    else if j = k then (k, a) :: t
    else (j, b) :: Tbl.put t k a

/-- Remove whatever is listed at index `k`. -/
def Tbl.del {α : Type} : Tbl α → Nat → Tbl α
  | [], _ => []
  | (j, b) :: t, k => if j = k then Tbl.del t k else (j, b) :: Tbl.del t k

/-- Give index `k` the value `a`, listing it only where it differs from the default `d`. -/
def Tbl.set {α : Type} [DecidableEq α] (t : Tbl α) (d : α) (k : Nat) (a : α) : Tbl α :=
  if a = d then t.del k else t.put k a

/-- Change the value at index `k`. -/
def Tbl.upd {α : Type} (t : Tbl α) (d : α) (k : Nat) (f : α → α) : Tbl α := t.put k (f (t.get d k))

/-- The least index from `start` on, of `n` candidates, that has no entry. -/
def Tbl.free {α : Type} (t : Tbl α) (start : Nat) : Nat → Option Nat
  | 0 => none
  | n + 1 => if (t.look start).isNone then some start else Tbl.free t (start + 1) n

/-- The first listed entry that meets `p`. -/
def Tbl.search {α : Type} (t : Tbl α) (p : Nat → α → Bool) : Option (Nat × α) := t.find? fun e => p e.1 e.2

/-- Keep only the entries that meet `p`. -/
def Tbl.keep {α : Type} (t : Tbl α) (p : Nat → α → Bool) : Tbl α := t.filter fun e => p e.1 e.2

/-- The number of listed entries that meet `p`. -/
def Tbl.count {α : Type} (t : Tbl α) (p : Nat → α → Bool) : Nat := (t.keep p).length

/-- The indices rise strictly from entry to entry. -/
def Tbl.sorted {α : Type} : Tbl α → Bool
  | [] => true
  | [_] => true
  | (j, _) :: (k, b) :: t => decide (j < k) && Tbl.sorted ((k, b) :: t)

end Sys2Proof
end

