-- ==== Sys2Proof/Machine/State.lean ====
section
/-!
DEFINITION. The state of the SNX-4144: every register, queue, buffer, counter, mode and pin the spec gives the block,
as plain data, block by block in the order of R9; and the machine right after reset.

Registers that software writes whole are kept as 32-bit words; counters, levels and identities that the hardware alone
moves are numbers, and the register that shows them is computed where it is read.
-/

namespace Sys2Proof.Machine

/-! ## Outcomes -/

/-- The reasons a step can stop with a fault.  No rule of the spec makes a command stop the block, so no meaning raises
this one: it stands here because the outcome type asks for a closed list.  Safe: it is never answered. -/
inductive Fault
  | halted
  deriving DecidableEq, Repr

/-- The reasons a step can refuse.  `notModelled` is answered by an arm of `exec` whose command has no meaning yet
(safe: the model stops where the device goes on). -/
inductive Refusal
  | notModelled (mnemonic : String)
  deriving DecidableEq, Repr

/-! ## Answers and outputs -/

/-- One returned value of a response (R354, R355). -/
inductive RItem
  | reg (addr : Nat) (value : Word)
  | holder (n : Nat)
  | handle (n : Nat)
  | number (n : Nat)
  | generation (n : Nat)
  | nonce (bytes : Bytes)
  | timeSec (n : Nat)
  | blob (bytes : Bytes)
  | statuses (l : List Status)
  | item (type : Nat) (bytes : Bytes)
  deriving DecidableEq, Repr

/-- The answer to a command or a job: its status, the values it returns, and the reason codes of R275. -/
structure Answer where
  status : Status
  items : List RItem := []
  reasons : List Nat := []
  deriving DecidableEq, Repr

/-- What the device sends out: the model's own log of everything that leaves the block. -/
inductive Out
  | answer (a : Answer)
  | read (v : Word)
  | frame (port : Nat) (bytes : Bytes) (sec ns : Nat)
  | toTimeUnit (port : Nat) (bytes : Bytes)
  | toFirmware (port : Nat) (bytes : Bytes)
  | punted (handle : Nat)
  | packet (mailbox : Nat) (words : List Word)
  | ibi (data : Nat)
  | msix (function vector : Nat)
  | requestInterrupt (mailbox : Nat)
  | hostWrite (function addr : Nat) (bytes : Bytes)
  | chamber (port : Nat) (message : Bytes)
  | karst (member : Nat) (message : Bytes)
  | interrupt (pair : Nat) (cause : Nat)
  | machineCheck (pair : Nat)
  | errorCompletion (master : Nat)
  | pin (name : String) (level : Bool)
  | pulse (offsetNs : Int) (widthMs : Nat)
  | ptp (port kind seq stamp : Nat)
  | i3c (bytes : Bytes)
  | tap (bits : List Bool)
  deriving DecidableEq, Repr

/-! ## Device identity and clocks (R19, R22) -/

/-- The ID block: straps and serial latched at reset, readiness and clock status.  `romAt` is when the boot ROM became ready, from
which the self-tests after reset count (R179, R216), and `lostAt` when each clock that stands was lost. -/
structure IdBlock where
  chamberId : Nat := 0
  ready : Word := 1
  serial : Bytes := zeros 16
  clk : Word := 8
  resetCause : Word := 0
  bootAt : Time := 0
  romAt : Option Time := none
  lostAt : Tbl Time := []
  deriving DecidableEq, Repr

/-! ## Passage: wires, ports, frames and flows (R30 to R77, R100 to R119) -/

/-- One configuration bank of a wire (R63): four registers, and 64 class entries of two registers each.  An unlisted
class entry reads as its value after reset. -/
structure Bank where
  mode : Word := 0x8
  tables : Word := 0x8080
  quota : Word := 256
  pair : Word := 0
  cls : Tbl Word := []
  skew : Tbl Word := []
  deriving DecidableEq, Repr

/-- A swap that a wire's directions have still to take: a commit (R66), or the hardware commit of ISOLATE (R68). -/
structure Swap where
  bank : Bank
  gen : Nat
  takenA : Bool
  takenB : Bool
  deriving DecidableEq, Repr

/-- The judgment codes of R111. -/
inductive Verdict
  | accept | passUnchecked | noTrailer | malformed | length | keyUnknown | tag | signature | replay | staleTime | role
  | holdFull | holdTimeout | fault
  deriving DecidableEq, Repr

/-- A verdict with its cause code (R112; 0 where the verdict has no cause). -/
structure Ruling where
  verdict : Verdict
  cause : Nat := 0
  deriving DecidableEq, Repr

/-- One wire: its banks, control registers and status block (R63, R118, R124). -/
structure Wire where
  shadow : Bank := {}
  active : Bank := {}
  gen : Nat := 1
  pending : Option Swap := none
  isolating : Option Swap := none
  locked : Bool := false
  grant : Bool := false
  commitStatus : Nat := 0
  commitField : Nat := 0
  waiter : Option Reply := none
  reasons : List Nat := []
  verdictsAB : Tbl Nat := []
  verdictsBA : Tbl Nat := []
  holdUsed : Nat := 0
  holdPeak : Nat := 0
  lanMismatch : Nat := 0
  pairOk : Bool := false
  pairLocal : Bool := false
  unreachable : Bool := false
  partnerMode : Nat := 0
  pairAskedAt : Option Time := none
  deriving DecidableEq, Repr

/-- A frame the front end has passed on: its bytes from destination address to FCS, its timestamp, the flags the front
end sets, its place in the arrival order, and the Lantern tick at its arrival (R35 to R39, R69). -/
structure RxFrame where
  bytes : Bytes
  sec : Nat
  ns : Nat
  unlocked : Bool
  injected : Bool
  severity : Nat
  deriving DecidableEq, Repr

/-- The frame descriptor of R51, field by field. -/
structure Desc where
  frameLen : Nat
  port : Nat
  lan : Nat := 0
  hsr : Bool := false
  tagCount : Nat := 0
  outerVid : Nat := 0
  outerPcp : Nat := 0
  innerVid : Nat := 0
  innerPcp : Nat := 0
  prpSeq : Nat := 0
  table : Nat := 0
  chains : Nat := 0
  steps : Nat := 0
  gen : Nat := 1
  unlocked : Bool := false
  injected : Bool := false
  fenced : Bool := false
  sec : Nat := 0
  ns : Nat := 0
  kind : Nat := 0
  classCode : Nat := 0
  reason : Nat := 0
  walkFault : Bool := false
  destination : Nat := 0
  keyInput : Bytes := []
  trailerFormat : Nat := 0
  trailerOffset : Nat := 0
  trailerLength : Nat := 0
  stored : Bytes := zeros 48
  deriving DecidableEq, Repr

/-- What the trailer stage took from the frame (R80 to R88). -/
structure Trailer where
  format : Nat := 0
  alg : Nat := 0
  keyRef : Nat := 0
  seq : Nat := 0
  time : Option Nat := none
  iv : Bytes := []
  covered : Bytes := []
  auth : Bytes := []
  assoc : Option Nat := none
  deriving DecidableEq, Repr

/-- Where one signature check of a frame stands: a hybrid frame has two (R95 to R97). -/
inductive PartState
  | digesting
  | bound (core : Nat)
  | lent (port : Nat)
  | done (status : Status)
  deriving DecidableEq, Repr

/-- One signature check of a frame: its algorithm code, its public key and signature, its digest once made, whether it
has been offered for lending (once only, R134), and where it stands. -/
structure Part where
  alg : Nat
  key : Bytes
  sig : Bytes
  digest : Bytes := []
  offered : Bool := false
  core : Option Nat := none
  state : PartState := .digesting
  deriving DecidableEq, Repr

/-- Where a frame that Passage holds stands. -/
inductive Stage
  | paging
  | onLane (lane : Nat)
  | hmac
  | signature (parts : List Part)
  | result (r : Ruling)
  | decidedA (a : Ruling) (at_ : Time)
  | accepted (at_ : Time)
  | failed (r : Ruling) (at_ : Time)
  | unjudged
  deriving DecidableEq, Repr

/-- A frame between the end of its walk and its leaving (R60, R69 to R74, R100). -/
structure Held where
  id : Nat
  rx : RxFrame
  desc : Desc
  bank : Bank
  walkEnd : Time
  deadline : Time
  charge : Nat := 0
  flow : Option Bytes := none
  ticket : Nat := 0
  trailer : Trailer := {}
  keyAttr : Option Attr := none
  keyAt : Time := 0
  lent : Bool := false
  slotMiss : Bool := false
  severity : Nat := 0
  keyNotReady : Bool := false
  stage : Stage
  deriving DecidableEq, Repr

/-- A frame being walked: the configuration it is judged under is the one in force when its walk began (R67). -/
structure Walk where
  frame : RxFrame
  bank : Bank
  gen : Nat
  deriving DecidableEq, Repr

/-- A tag job on a keyed-check lane (R94): the frame it serves and the 16-byte blocks it covers. -/
structure LaneJob where
  frame : Nat
  blocks : Nat
  deriving DecidableEq, Repr

/-- A lane mask generator (R186): blocks of ended jobs served since its last seed, the blocks that the running job had done when that
seed took effect, refused draws, the number of blocks at which it asks next, a request outstanding, a seed loaded in the background,
and the seed in use. -/
structure Mask where
  blocks : Nat := 0
  before : Nat := 0
  askAt : Nat := 65536
  refused : Nat := 0
  asked : Bool := false
  next : Option Bytes := none
  seed : Option Bytes := none
  deriving DecidableEq, Repr

/-- The states of PSG_LANE_STATUS.STATE (R192); service MAC engines share them (R202). -/
inductive LaneState
  | selfTest | idle | busy | zeroing | failed | offline | unseeded
  deriving DecidableEq, Repr

/-- The job a lane is running: whether it is a GMAC, its key as fetched, and the covered bytes with the DNP3 challenge its job began
with. -/
structure LaneRun where
  job : LaneJob
  gmac : Bool
  handle : Nat
  key : Bytes
  covered : Bytes
  startedAt : Time
  deriving DecidableEq, Repr

/-- A keyed-check lane (R189 to R192).  `testFrom` is when its self-test began, where that is not the one after reset. -/
structure Lane where
  state : LaneState := .selfTest
  queue : List LaneJob := []
  running : Option LaneRun := none
  mask : Mask := {}
  katAt : Time := 0
  zeroUntil : Time := 0
  testFrom : Option Time := none
  faults : Nat := 0
  katFails : Nat := 0
  blocks : Nat := 0
  leaving : Bool := false
  deriving DecidableEq, Repr

/-- A frame waiting in an egress queue (R40): one that the device originates is stamped as it leaves.  A frame released from its
direction's line keeps its number there and the CCLK cycle in which it joined, for the order of R75. -/
structure Egress where
  bytes : Bytes
  own : Bool
  released : Option (Nat × Nat) := none
  deriving DecidableEq, Repr

/-- A frame that the receive queue of R15 holds while CCLK stands: its bytes, the moment of its start-of-frame delimiter, and its
timestamp there. -/
structure RxWait where
  bytes : Bytes
  sfd : Time
  stamp : Nat
  deriving DecidableEq, Repr

/-- One port: its window's registers (R42), its front end, its direction's parse queue, walk, configuration and held
frames, its egress queue and its two keyed-check lanes. -/
structure Port where
  cfg : Word := 0x08000004
  linkUp : Bool := false
  speedActive : Nat := 2
  fecActive : Bool := false
  event : Word := 0
  counters : Tbl Nat := []
  maxHistory : List (Time × Nat) := []
  rxQ : List RxWait := []
  parseQ : List RxFrame := []
  walk : Option Walk := none
  bank : Bank := {}
  gen : Nat := 1
  line : List Held := []
  egress : List Egress := []
  lane0 : Lane := {}
  lane1 : Lane := {}
  deriving DecidableEq, Repr

/-- A resident Flowstone table (R43, R44): its header figures and its steps, each as the 128-bit word of R47. -/
structure Table where
  stepCount : Nat
  entry : Nat
  maxWalk : Nat
  version : Nat
  digest : Bytes := []
  steps : List (BitVec 128)
  deriving DecidableEq, Repr

/-- A flow context (R56).  A listed context is LIVE. -/
structure Flow where
  key : Bytes
  wire : Nat
  sideLan : Nat
  classCode : Nat := 0
  pinned : Bool := false
  gen : Nat := 1
  keyRef : Nat := 0
  inFlight : Nat := 0
  floor : Nat := 0
  lastActivity : Nat := 0
  lastArrival : Time := 0
  bitmap : BitVec 1024 := 0
  acceptSec : Nat := 0
  acceptNs : Nat := 0
  accepts : Nat := 0
  rejects : Nat := 0
  monitorFails : Nat := 0
  head : Nat := 0
  tail : Nat := 0
  freshUntil : Nat := 0
  deriving DecidableEq, Repr

/-- One entry of the DNP3 association table (R88). -/
structure Assoc where
  count : Nat := 0
  message : Bytes := []
  deriving DecidableEq, Repr

/-- A frame in the punt queue (R61, R89). -/
structure Punt where
  handle : Nat
  port : Nat
  bytes : Bytes
  deriving DecidableEq, Repr

/-- A page-in asked for and not yet answered (R91, R300). -/
structure PageIn where
  handle : Nat
  askedAt : Time
  taken : Bool := false
  stale : Bool := false
  deriving DecidableEq, Repr

/-- A job in the Passage digest queue or on a digest context: which frame and which of its parts it serves (R95). -/
structure FrameRef where
  frame : Nat
  part : Nat
  deriving DecidableEq, Repr

/-- A signature job bound to a core of the PASSAGE pool and not yet begun (R96): its frame and part, its core, and the
predicted start and end. -/
structure BoundJob where
  frame : Nat
  part : Nat
  core : Nat
  start : Time
  finish : Time
  lentFrom : Option Nat := none
  deadline : Time := 0
  alg : Nat := 0
  key : Bytes := []
  digest : Bytes := []
  sig : Bytes := []
  deriving DecidableEq, Repr

/-- Passage as a whole (R76, R117).  `restored` says that the restore of R494 has run since reset. -/
structure Passage where
  restored : Bool := false
  seeded : Bool := false
  seeds : List Bytes := []
  resident : Word := 0
  tables : Tbl Table := []
  flwCfg : Word := 600
  insertFail : Nat := 0
  flows : Tbl Flow := []
  assocs : Tbl Assoc := []
  puntQ : List Punt := []
  nextPunt : Nat := 0
  nextFrame : Nat := 0
  pageIns : List PageIn := []
  digestQ : List FrameRef := []
  bound : List BoundJob := []
  vlogCfg : Word := 0
  vlogHead : Nat := 0
  vlogTail : Nat := 0
  vlogLost : Nat := 0
  vlogGap : Bool := false
  keyMiss : Nat := 0
  pageMax : Nat := 0
  twinFault : Nat := 0
  flowCheckAt : Time := 0
  holdTickAt : Time := 0
  skewDraws : Nat := 0
  skewSeed : Bytes := []
  wires : Tbl Wire := []
  ports : Tbl Port := []
  deriving DecidableEq, Repr

/-! ## The chamber (R128 to R139) -/

/-- The latest lending advertisement of a member (R132), as its heartbeat carried it. -/
structure Advert where
  acceptEn : Bool
  suspended : Bool
  readyCores : Nat
  room : Nat
  startDelay : Nat
  arrivedAt : Time
  deriving DecidableEq, Repr

/-- A chamber link, kept under the number of its port (R130, R131, R138). -/
structure Link where
  peer : Nat := 0
  state : Nat := 0
  reason : Nat := 0
  ownNonce : Bytes := []
  peerNonce : Bytes := []
  peerSerial : Bytes := []
  key : Bytes := []
  txSeq : Nat := 0
  rxSeq : Nat := 0
  missed : Nat := 0
  askedAt : Option Time := none
  heardAt : Time := 0
  deriving DecidableEq, Repr

/-- A signature job lent to, or borrowed from, another member (R134 to R137). -/
structure LentJob where
  frame : Nat
  part : Nat
  port : Nat
  accepted : Bool := false
  deriving DecidableEq, Repr

/-- The chamber block (R138), with the latest advertisement of each member under its CHAMBER_ID (R132). -/
structure Chamber where
  cfg : Word := 0
  syncHigh : Bool := false
  syncReleased : Bool := false
  event : Word := 0
  lend : Word := 0x00040100
  links : Tbl Link := []
  adverts : Tbl Advert := []
  lentOut : Nat := 0
  lentIn : Nat := 0
  declined : Nat := 0
  lost : Nat := 0
  authFail : Nat := 0
  out : List LentJob := []
  alertLowUntil : Time := 0
  deriving DecidableEq, Repr

/-! ## How jobs end -/

/-- How a job ended, as its carrier returns it (R152, R201, R214, R322): its status, the engine, ticket, holder and lengths of
a completion, its 32-byte result block, its outputs by address, the values of a command's response, and for a digest job its engine and
context, with the result that the context keeps. -/
structure JobEnd where
  status : Status
  engine : Nat := 0xFF
  ticket : Nat := 0
  holder : Nat := 0
  outLen : Nat := 0
  aux : Nat := 0
  block : Bytes := []
  outs : List (Nat × Bytes) := []
  items : List RItem := []
  ctx : Option (Nat × Nat) := none
  result : Bytes := []
  deriving DecidableEq, Repr

/-! ## The public-key pool (R143 to R182) -/

/-- A job of the dispatcher's service queue for the public-key cores (R153, R172): a job block or the checks of a curve
record, what its carrier's reads deliver, who sent it and where its answer goes, its number among its carrier's jobs, whether it was read wrongly from host
memory (R324), the digests made for it so far (R150), its key once it stands in a staging buffer (R145), and the randomness drawn for
it as it is bound to a core (R154). -/
structure PkeJob where
  id : Nat
  block : JobBlock
  curve : Option Bytes := none
  caller : Caller
  domain : Nat
  reply : Reply
  dmaError : Bool := false
  data : List Bytes := []
  digests : List Bytes := []
  key : Option Bytes := none
  random : Bytes := []
  drawFailed : Bool := false
  deriving DecidableEq, Repr

/-- Whom the running job of a core serves: a check of a Passage frame, a job borrowed by another member over a chamber
port, or a service job. -/
inductive CoreUser
  | passage (frame part : Nat)
  | borrowed (port job : Nat)
  | service (job : PkeJob)
  deriving DecidableEq, Repr

/-- A running job (R155): its start, its time class in cycles, its operation and algorithm, its input as fetched with the record of a
loaded curve, and the status that stops it early, if any (R166, R168). -/
structure CoreRun where
  user : CoreUser
  startAt : Time
  cycles : Nat
  op : Nat
  algo : Nat
  key : Bytes
  record : Bytes := []
  digest : Bytes := []
  sig : Bytes := []
  attempts : Nat := 0
  candidates : Nat := 0
  survivors : Nat := 0
  stop : Option Status := none
  stopAt : Time := 0
  deriving DecidableEq, Repr

/-- The states of PKE_CORE_STATUS.STATE (R180). -/
inductive CoreState
  | selfTest | idle | busy | zeroing | failed | offline
  deriving DecidableEq, Repr

/-- A core (R143, R163, R171, R180).  `testFrom` is when its self-test begins, where that is not the one after reset (R163, R179). -/
structure Core where
  state : CoreState := .selfTest
  moving : Bool := false
  switched : Bool := false
  running : Option CoreRun := none
  staged : Option PkeJob := none
  takeOffline : Bool := false
  testFrom : Option Time := none
  busyUntil : Time := 0
  faults : Nat := 0
  watchdogs : Nat := 0
  lastInvariant : Nat := 0
  jobs : Nat := 0
  busy : Nat := 0
  deriving DecidableEq, Repr

/-- An entry of the loaded-curve table (R174): its owner and the record. -/
structure Curve where
  domain : Nat
  record : Bytes
  deriving DecidableEq, Repr

/-- The public-key engine (R180, R181): the SHADOW and ACTIVE pool maps, a commit under way with the map it brings, the
cores, the jobs waiting in the dispatcher, and the loaded curves. -/
structure Pke where
  shadow : List Word := [0xFFFFFFFF, 0xFFFFFFFF, 0x00FFFFFF]
  active : List Word := [0xFFFFFFFF, 0xFFFFFFFF, 0x00FFFFFF]
  target : Option (List Word) := none
  waiter : Option Reply := none
  reasons : List Nat := []
  grant : Bool := false
  gen : Nat := 1
  commitErr : Nat := 0
  cores : Tbl Core := []
  waiting : List PkeJob := []
  nextJob : Nat := 0
  curves : Tbl Curve := []
  faultTotal : Nat := 0
  deriving DecidableEq, Repr

/-! ## Service MAC and digest engines, and the job dispatcher (R193 to R217, R327) -/

/-- A derivation that runs as an engine job (R261): its PRF code, its destination, label and context. -/
structure DeriveSpec where
  prf : Nat
  dest : Nat
  attr : Attr
  label : Bytes
  context : Bytes
  deriving DecidableEq, Repr

/-- A service MAC segment on its way (R193): its block, who sent it, the base key of a derivation it serves (R261), and where
its answer goes. -/
structure SvcJob where
  id : Nat
  block : SegBlock
  caller : Caller
  domain : Nat
  reply : Reply
  dmaError : Bool := false
  data : List Bytes := []
  derive : Option DeriveSpec := none
  deriving DecidableEq, Repr

/-- A segment that runs: when its status is due, the AES blocks it takes, whether it is a GMAC and the rounds of a block, and whether its
fragments add up (R209). -/
structure SvcRun where
  job : SvcJob
  startAt : Time
  endAt : Time
  blocks : Nat
  gmac : Bool := false
  rounds : Nat := 14
  mismatch : Bool
  iv : Bytes := []
  deriving DecidableEq, Repr

/-- The message that holds a service MAC engine (R196): its user and ticket, what its FIRST segment fixed, its key once
fetched, the bytes taken so far, and its waiting segments.  The first eight of `queue` wait at the engine, the others in the
dispatcher (R197). -/
structure Hold where
  user : Nat
  caller : Caller
  ticket : Nat
  op : Nat
  algo : Nat
  tagLen : Nat
  handle : Nat
  key : Option Bytes := none
  data : Bytes := []
  iv : Bytes := []
  queue : List SvcJob := []
  running : Option SvcRun := none
  idleFrom : Option Time := none
  deriving DecidableEq, Repr

/-- A service MAC engine (R202). -/
structure Svc where
  state : LaneState := .selfTest
  hold : Option Hold := none
  ticket : Nat := 0
  zeroUntil : Time := 0
  testFrom : Option Time := none
  mask : Mask := {}
  katAt : Time := 0
  faults : Nat := 0
  blocks : Nat := 0
  deriving DecidableEq, Repr

/-- A service digest or HMAC job (R206), a derivation that runs as one (R261), or a digest that the public-key job `pke` waits for
(R150). -/
structure DigJob where
  id : Nat
  block : DigBlock
  caller : Caller
  domain : Nat
  reply : Reply
  dmaError : Bool := false
  data : List Bytes := []
  derive : Option DeriveSpec := none
  pke : Option Nat := none
  deriving DecidableEq, Repr

/-- Whom a digest context serves: a part of a Passage frame, or a service job. -/
inductive DigestUser
  | passage (ref : FrameRef)
  | service (job : DigJob)
  deriving DecidableEq, Repr

/-- A digest context in use (R203, R215): the blocks it has still to run, when its key is in place (R205), what its job ends
with, whether its result waits for a slot to be written (R212), and its status and result once it is DONE. -/
structure Ctx where
  user : DigestUser
  algo : Nat
  handle : Nat := 0
  key : Bytes := []
  msg : Bytes := []
  blocks : Nat
  ran : Nat := 0
  readyAt : Time
  abort : Bool := false
  final : Status := .ok
  storing : Bool := false
  done : Option (Status × Bytes) := none
  deriving DecidableEq, Repr

/-- The states of DGS_STATUS.STATE. -/
inductive DigestState
  | selfTest | idle | busy | failed | offline
  deriving DecidableEq, Repr

/-- A digest engine (R203, R204, R215). -/
structure Digest where
  state : DigestState := .selfTest
  ctxs : Tbl Ctx := []
  current : Option Nat := none
  blockEnd : Time := 0
  nextPassage : Nat := 0
  nextService : Nat := 0
  passageRun : Nat := 0
  retest : Bool := false
  takeOffline : Bool := false
  testFrom : Option Time := none
  katAt : Time := 0
  faults : Nat := 0
  blocks : Nat := 0
  deriving DecidableEq, Repr

/-- A job that waits at a source of the dispatcher (R327). -/
inductive WaitJob
  | pke (j : PkeJob)
  | svc (j : SvcJob)
  | digest (j : DigJob)
  deriving DecidableEq, Repr

/-- A source of the dispatcher: a host function, or the mailboxes and firmware together.  Each job stands with its queue (0
for the mailbox source), and `lastQueue` had the last turn. -/
structure Source where
  jobs : List (Nat × WaitJob) := []
  lastQueue : Nat := 0
  deriving DecidableEq, Repr

/-- A finished digest job whose result block its submitter may still read (R211). -/
structure DigResult where
  caller : Caller
  seq : Nat
  block : Bytes
  result : Bytes
  deriving DecidableEq, Repr

/-- The service engines and the dispatcher.  Source 0 is the mailbox source, source f + 1 function f; `turn` is the source
whose round goes on and `taken` the jobs it has admitted in it. -/
structure Engines where
  svcs : Tbl Svc := []
  digests : Tbl Digest := []
  svcCfg : Word := 100
  svcTimeouts : Nat := 0
  dgsCfg : Word := 8
  sources : Tbl Source := []
  turn : Nat := 0
  taken : Nat := 0
  digestWait : List DigJob := []
  results : List DigResult := []
  nextJob : Nat := 0
  deriving DecidableEq, Repr

/-! ## Random numbers (R219 to R242) -/

/-- A noise cell (R222 to R225, R240): its state (0 STARTUP, 1 ACTIVE, 2 REMOVED, 3 RETEST), its counters, and the running
tests and estimators. -/
structure Cell where
  state : Nat := 0
  span : Nat := 0
  recent : List Bool := []
  rct : Nat := 0
  apt : Nat := 0
  bad : Nat := 0
  ones : Nat := 0
  agree : List Nat := List.replicate 8 0
  block : List Bool := []
  blockFails : Bool := false
  skip : Bool := false
  runBit : Bool := false
  runLen : Nat := 0
  aptFirst : Bool := false
  aptHits : Nat := 0
  aptPos : Nat := 0
  spanPos : Nat := 0
  onesNow : Nat := 0
  agreeNow : List Nat := List.replicate 8 0
  lastBits : List Bool := []
  testPos : Nat := 0
  testFails : Bool := false
  retestFor : Option Reply := none
  deriving DecidableEq, Repr

/-- Whom a random request serves: a mask generator by engine number (R186), a command, or a host ring job. -/
inductive DrawFor
  | mask (engine : Nat)
  | reply (r : Reply)
  deriving DecidableEq, Repr

/-- A waiting random request: how many bytes it asks, and those its calls have delivered (R227). -/
structure DrawReq where
  who : DrawFor
  size : Nat
  addr : Nat := 0
  got : Bytes := []
  deriving DecidableEq, Repr

/-- A DRBG instance (R226 to R231, R240): state 0 STARTUP, 1 READY, 2 STRETCHING, 3 EXHAUSTED, 4 FAILED,
5 UNINSTANTIATED. -/
structure Instance where
  state : Nat := 0
  askedAt : Option Time := none
  calls : Nat := 0
  total : Nat := 0
  drbg : DrbgState := {}
  reseeds : Nat := 0
  refused : Nat := 0
  priority : List DrawReq := []
  normal : List DrawReq := []
  deriving DecidableEq, Repr

/-- A known-answer test on request that still runs (R236, R241): its unit, whether it will pass, when it ends, and the command that
waits for it. -/
structure KatRun where
  unit : Nat
  passes : Bool
  endsAt : Time
  reply : Option Reply := none
  deriving DecidableEq, Repr

/-- The random number generator (R239, R241).  `sampling` holds from the first rise of XCLK_LOCK (R219), and `resumed` once FAILED was left through retests (R234), `stopped` from a
recorded stop of seeding until its resumption (R224). -/
structure Rng where
  ready : Bool := false
  sampling : Bool := false
  seeding : Bool := false
  failed : Bool := false
  resumed : Bool := false
  stopped : Bool := false
  testSource : Bool := false
  condFailed : Bool := false
  katDone : Bool := false
  cfg : Word := 0x10000010
  reseedCfg : Word := 64
  fifo : List Bytes := []
  condBlocks : Nat := 0
  condDropped : Nat := 0
  cells : Tbl Cell := []
  instances : Tbl Instance := []
  testCond : Bytes := zeros 48
  pattern : List Host.Cell := []
  patternPos : Nat := 0
  katStatus : Nat := 0
  katUnit : Nat := 0
  katRun : Option KatRun := none
  deriving DecidableEq, Repr

/-! ## The key store (R244 to R281) -/

/-- One working slot (R249): the handle it carries, the attribute word and the value.  The value of a key longer than 64
bytes lies in the long-key area; the state keeps it with its slot and counts the units it takes (KST_LONG_USED).  `reserved` are the uses reserved in
advance for a vault key (R302). -/
structure Slot where
  handle : Nat
  attr : Attr
  value : Bytes
  lastUse : Nat := 0
  reserved : Nat := 0
  deriving DecidableEq, Repr

/-- An open quorum nonce (R270): its deadline is a Lantern tick. -/
structure Nonce where
  value : Bytes
  domain : Nat
  code : Nat
  digest : Bytes
  deadline : Nat
  opener : Caller
  deriving DecidableEq, Repr

/-- An open transport (R256, R259). -/
structure Transport where
  id : Nat
  owner : Caller
  domain : Nat
  offer : Bytes
  kemSecret : Bytes
  xSecret : Bytes
  key : Option Bytes := none
  lastSeq : Option Nat := none
  tagFails : Nat := 0
  imports : Nat := 0
  openedAt : Time
  deriving DecidableEq, Repr

/-- The key store (R279): readiness, the root as it was read at reset, the slots, the domain records and their open
quorums and transports. -/
structure KeyStore where
  ready : Bool := false
  root : Option Bytes := none
  rootCheckFailed : Bool := false
  domainsLoaded : Bool := false
  slots : Tbl Slot := []
  domains : Tbl Domain := []
  nonces : List Nonce := []
  transports : List Transport := []
  nextTransport : Nat := 1
  quorumFault : Nat := 0
  importFail : Nat := 0
  evictions : Nat := 0
  cfg : Word := 3600
  attests : Nat := 0
  absent : List Nat := []
  useStamp : Nat := 0
  deriving DecidableEq, Repr

/-! ## The Geode vault (R283 to R307) -/

/-- The changes of one command, which go into one commit, with the answer it is to have (R292), and the command itself where
it is a command's.  `decided` marks a change of a replicated domain that has committed in its replica set (R475). -/
structure VaultChange where
  ops : List VaultOp
  reply : Option Reply
  items : List RItem := []
  reasons : List Nat := []
  job : Option JobEnd := none
  caller : Option Caller := none
  cmd : Option Cmd := none
  decided : Bool := false
  deriving DecidableEq, Repr

/-- The states of GEO_STATUS.STATE. -/
inductive VaultState
  | notMounted | mounting | normal | readOnly | integrityFailed
  deriving DecidableEq, Repr

/-- A flash channel (R284, R306). -/
structure Channel where
  state : Nat := 0
  rate : Nat := 0
  found : Nat := 0
  unused : Nat := 0
  retired : Nat := 0
  deriving DecidableEq, Repr

/-- The Geode controller (R305): `mountAt` is when the mount that goes on began, `remount` the GEO_REMOUNT it answers, and `targets`
what the last mount found. -/
structure Geode where
  state : VaultState := .notMounted
  reason : Nat := 0
  degraded : Bool := false
  low25 : Bool := false
  low10 : Bool := false
  scrubbing : Bool := false
  cfg : Word := 1000
  chanCfg : Word := 0x001804FF
  locked : Bool := false
  channels : Tbl Channel := []
  gathered : List VaultChange := []
  committing : List VaultChange := []
  pageInMax : Nat := 0
  pageInFail : Nat := 0
  retired : Nat := 0
  repaired : Nat := 0
  passes : Nat := 0
  mountMs : Nat := 0
  mountAt : Time := 0
  remount : Option Reply := none
  targets : List Target := []
  deriving DecidableEq, Repr

/-- A cell as it lies in flash (R288): sealed, with the epoch of the commit that wrote it; its number is the key it stands under. -/
structure SealedCell where
  epoch : Nat
  cipher : Bytes
  tag : Bytes
  deriving DecidableEq, Repr

/-- What a commit in progress writes (R292): the content that it brings, and its cells sealed. -/
structure Stripe where
  objects : Tbl KeyRec
  domains : Tbl Domain
  readOnly : Bool
  cells : Tbl SealedCell
  deriving DecidableEq, Repr

/-- A replicated domain as a replica holds it (R472 to R476), the roster as domain 0xFFFF: its committed version, term and primary,
the replica set, the digest of the last committed header, the records signed and not yet committed, the committed records, and the
last term that it voted in. -/
structure RepDomain where
  version : Nat := 0
  term : Nat := 1
  primary : Nat := 0
  replicas : List Nat := []
  head : Bytes := zeros 48
  signed : List (Change × List SigEntry) := []
  log : List (Change × List SigEntry) := []
  voted : Nat := 0
  deriving DecidableEq, Repr

/-- A device's membership of a Karst (R462 to R464): state 0 NONE, 1 JOINING, 2 MEMBER, 3 REVOKED.  `withdrawn` are the handles of
revocations signed and not yet committed (R479). -/
structure KarStore where
  state : Nat := 0
  id : Bytes := zeros 16
  member : Nat := 0
  nextMember : Nat := 0
  roster : Tbl RosterEntry := []
  domains : Tbl RepDomain := []
  withdrawn : List Nat := []
  deriving DecidableEq, Repr

/-- What the flash holds (R286 to R298): the sealed cells, with the content that opening them gives (assumption 127), the newest commit
record's figures and what format fixed.  Spares and reserve count blocks; a reserve block is taken on each of the `width` channels at once,
and `reservePages` are what is left of those in use.  `next` is the stripe of a commit under way. -/
structure Flash where
  formatted : Bool := false
  epoch : Nat := 0
  root : Bytes := zeros 48
  objects : Tbl KeyRec := []
  domains : Tbl Domain := []
  cells : Tbl SealedCell := []
  readOnly : Bool := false
  capacityMib : Nat := 0
  spareTotal : Nat := 0
  spareLeft : Nat := 0
  reserveTotal : Nat := 0
  reserveLeft : Nat := 0
  reservePages : Nat := 0
  pagesPerBlock : Nat := 0
  width : Nat := 8
  next : Option Stripe := none
  karst : KarStore := {}
  deriving DecidableEq, Repr

/-! ## The host interface (R308 to R339) -/

/-- A job fetched through a ring (R316 to R326).  `presented` once its own row has put it forward, `finished` once its
outcome stands. -/
structure RingJob where
  id : Nat
  opcode : Nat
  tag : Nat
  relaxed : Bool
  fence : Bool
  resultAddr : Nat
  bytes : Bytes
  presented : Bool := false
  dmaError : Bool := false
  finished : Option JobEnd := none
  deriving DecidableEq, Repr

/-- A chain being fetched (R317): its FIRST entry's fields, the entries so far, and its job bytes. -/
structure Chain where
  opcode : Nat
  tag : Nat
  relaxed : Bool
  fence : Bool
  resultAddr : Nat
  entries : Nat
  bytes : Bytes
  reservedBad : Bool
  deriving DecidableEq, Repr

/-- A queue pair (R312 to R330, R334).  `closing` is the admin job of the QP_DESTROY that waits for its last completion. -/
structure Queue where
  created : Bool := false
  enabled : Bool := false
  intEn : Bool := false
  doorbell : Bool := false
  error : Bool := false
  errorDue : Bool := false
  closing : Option Nat := none
  phase : Bool := true
  sqLog : Nat := 4
  cqLog : Nat := 4
  vector : Nat := 0
  sqBase : Nat := 0
  cqBase : Nat := 0
  piAddr : Nat := 0
  sqFetch : Nat := 0
  cqTail : Nat := 0
  cqHead : Nat := 0
  piSeen : Nat := 0
  coalesceCount : Nat := 0
  coalesceUs : Nat := 0
  completed : Nat := 0
  chain : Option Chain := none
  skipping : Bool := false
  jobs : List RingJob := []
  unsignalled : Nat := 0
  firstUnsignalled : Time := 0
  deriving DecidableEq, Repr

/-- What a migration blob says of the function that it carries (R333). -/
structure Migrated where
  weight : Nat
  queues : List (Nat × Queue)
  handles : List Nat
  deriving DecidableEq, Repr

/-- A host function (R338): its queues, limits, latest error, and what migration needs (R332, R333): the keys written through it,
its session keys, and those lost; `freezing` is the admin job of the VF_FREEZE that waits for its last completion, and `restoring` what a
VF_RESTORE brings once its assignment has committed.  `vectors` are the words of its MSI-X table and `pba` its pending bits (R310,
R336). -/
structure Func where
  frozen : Bool := false
  freezing : Option Nat := none
  saved : Bool := false
  restoring : Option Migrated := none
  vectors : Tbl Word := []
  pba : BitVec 64 := 0
  err : Word := 0
  maxQueues : Nat := 4095
  weight : Nat := 1
  ignored : Nat := 0
  low : Tbl Word := []
  queues : Tbl Queue := []
  handles : List Nat := []
  sessions : List Nat := []
  lost : List Nat := []
  deriving DecidableEq, Repr

/-- The endpoint: its link, the VFs that the host's configuration enables, and the functions. -/
structure HostIf where
  linkUp : Bool := false
  vfs : Nat := 0
  funcs : Tbl Func := []
  nextId : Nat := 0
  deriving DecidableEq, Repr

/-! ## Mailboxes and the I3C target (R341 to R370) -/

/-- One FIFO (R345): the committed words between the read and the write pointer, the words of the packet being written
behind the tentative pointer, both pointers, and how far a reader has come into the packet at its front. -/
structure Fifo where
  words : List Word := []
  tentative : List Word := []
  wr : Nat := 0
  rd : Nat := 0
  readPos : Nat := 0
  deriving DecidableEq, Repr

/-- An envelope being reassembled (R353). -/
structure Assembly where
  tag : Nat
  code : Nat
  bytes : Bytes
  fragments : Nat
  lastAt : Time
  deriving DecidableEq, Repr

/-- A command taken from a mailbox and not yet answered (R362): its envelope fields, the session whose response key closes its
response (0 for none), its approval records, whether its service is one that R365 does not approve, when its envelope completed, whether
its interim response is written, and its answer once it has one. -/
structure Outstanding where
  id : Nat
  tag : Nat
  code : Nat
  seq : Nat
  domain : Nat
  session : Nat
  macSession : Nat
  records : Nat := 0
  unapproved : Bool := false
  takenAt : Time
  rngWait : Bool := false
  interim : Bool := false
  answer : Option Answer := none
  deriving DecidableEq, Repr

/-- A session (R357 to R359). -/
structure Session where
  domain : Nat
  role : Role
  credential : Nat
  requestKey : Bytes
  responseKey : Bytes
  lastSeq : Option Nat := none
  macFails : Nat := 0
  lastAt : Time
  closing : Bool := false
  deriving DecidableEq, Repr

/-- An open session offer (R357). -/
structure Offer where
  id : Nat
  nonce : Bytes
  offer : Bytes
  kemSecret : Bytes
  xSecret : Bytes
  openedAt : Time
  deriving DecidableEq, Repr

/-- The packet that a port is writing (R345, R348): its header, how many words have come, and whether it is already bad. -/
structure OpenPacket where
  header : Word
  count : Nat
  bad : Bool
  deriving DecidableEq, Repr

/-- One mailbox (R344, R368).  `sending` are the packets of a response still to be written, and `moveTo` the port that a
MBX_PORT_SET sent through the mailbox itself moves it to, with the number of that command, once its answer has been read.  `port` is MBX_CFG.PORT: 0 I3C, 1 PF0, 2 NONE. -/
structure Mailbox where
  port : Nat := 0
  req : Fifo := {}
  rsp : Fifo := {}
  packet : Option OpenPacket := none
  overrun : Bool := false
  badPacket : Bool := false
  wrongPort : Bool := false
  gapLast : Bool := false
  noticeDropped : Bool := false
  badCount : Nat := 0
  noticeLost : Nat := 0
  ibiMerged : Nat := 0
  ibiWaiting : Bool := false
  noticeSeq : Nat := 0
  assembly : Option Assembly := none
  outstanding : List Outstanding := []
  sending : List (List Word) := []
  moveTo : Option (Nat × Nat) := none
  sessions : Tbl Session := []
  nextSession : Nat := 1
  deriving DecidableEq, Repr

/-- The mailbox block and the I3C target front end (R341 to R343, R369). -/
structure MailboxBlock where
  boxes : Tbl Mailbox := []
  nextId : Nat := 0
  offers : List Offer := []
  nextOffer : Nat := 1
  dynAddr : Nat := 0
  addrValid : Bool := false
  ibiEn : Bool := false
  mgmtEn : Bool := false
  protocolErr : Bool := false
  hdr : Bool := false
  regAddr : Nat := 0
  mwl : Nat := 4105
  mrl : Nat := 4104
  sessionCfg : Word := 900
  deriving DecidableEq, Repr

/-! ## Worlds and protection (R371 to R399) -/

/-- A violation record (R387). -/
structure Violation where
  number : Nat
  master : Nat
  sec : Bool
  coreClass : Bool
  key : Nat
  access : Nat
  reason : Nat
  address : Nat
  length : Nat
  page : Nat
  tick : Nat
  deriving DecidableEq, Repr

/-- A secure call that a pair's WCALL began (R376, R377): its token, its pair, what its envelope named, where its response goes,
when it began, whether the WCALL has returned PENDING, whether the normal world has restarted since, and its answer once it
stands. -/
structure SecureCall where
  token : Nat
  pair : Nat
  seq : Nat
  code : Nat
  domain : Nat
  unapproved : Bool
  address : Nat
  room : Nat
  startAt : Time
  pending : Bool := false
  dropped : Bool := false
  answer : Option Answer := none
  deriving DecidableEq, Repr

/-- A lockstep pair (R371 to R373): whether it is online, and for a shared pair which world runs and when its quantum began. -/
structure Pair where
  online : Bool := true
  secureRuns : Bool := true
  quantumAt : Time := 0
  deriving DecidableEq, Repr

/-- The world monitor, the control processors and their protection (R372 to R399).  `running` says that the secure world has
been started, and `restarting` that it was started by a restart and has not yet written READY; `booted` says that the boot of
R396 has tried the secure slots.  Page owner entries and protection units are kept where they differ from reset; a pending
power request holds its action and whether the normal world made it. -/
structure Worlds where
  secureUp : Bool := false
  normalUp : Bool := false
  halted : Bool := false
  running : Bool := false
  restarting : Bool := false
  booted : Bool := false
  trialSecure : Bool := false
  trialNormal : Bool := false
  pairs : Tbl Pair := []
  home : Word := 3
  cfg : Word := 100
  cfg2 : Word := 0x000101F4
  restarts : Nat := 0
  restartTimes : List Time := []
  secureKick : Time := 0
  normalKick : Time := 0
  bootedSecure : Nat := 0
  bootedNormal : Nat := 0
  resultSecure : Nat := 0
  resultNormal : Nat := 0
  normalTried : Bool := false
  calls : List SecureCall := []
  nextToken : Nat := 1
  mpu : Tbl Nat := []
  pages : Tbl Word := []
  pwrPending : Tbl (Nat × Bool) := []
  clkOff : List Nat := []
  pwrOff : List Nat := []
  powering : Tbl Time := []
  owner : Tbl Word := []
  violations : List Violation := []
  violationNo : Nat := 0
  violationCount : Nat := 0
  violationPending : Bool := false
  deriving DecidableEq, Repr

/-! ## Lantern and battery-backed RAM (R422 to R443) -/

/-- The power states of R422. -/
inductive Power
  | run | standby | battery | dead
  deriving DecidableEq, Repr

/-- A zeroize whose second decision is still to come (R433): its source and detail, and the log entry of the first decision, if that
one called for it. -/
structure Zeroize where
  source : Nat
  entry : Option Nat
  deriving DecidableEq, Repr

/-- Lantern (R423 to R435, R443).  Per-detector data stand under source × 1,024 + unit × 2 + detector; per-source and
per-pin data under the source's or pin's number.  The tick counter is its value at `tickEpoch` and counts on at
32,768 Hz.  `skewSeed` is the seed of R433's skew generator, `skewDue` says that a fresh one is due, and `decisions` counts since the
last.  `history` holds the last five zones of a detector, newest first, and `holds` the samples that a flag still stands. -/
structure Lantern where
  power : Power := .run
  mainGood : Bool := true
  standbyOk : Bool := true
  vbat : Bool := true
  tickBase : Nat := 0
  tickEpoch : Time := 0
  severity : Nat := 0
  active : Word := 0
  latched : Word := 0
  raised : Word := 0
  endedAt : Tbl Time := []
  history : Tbl (List Nat) := []
  holds : Tbl Nat := []
  values : Tbl Nat := []
  failed : List Nat := []
  samples : Nat := 0
  sampledAt : Time := 0
  cfg : Word := 0x00040064
  srcCfg : Tbl Word := []
  srcCount : Tbl Nat := []
  tmpCfg : Tbl Word := []
  lfsr : Tbl (BitVec 32) := []
  driven : Tbl Bool := []
  faultQ : List (Nat × Nat) := []
  faultTimes : List Time := []
  burstHigh : Bool := false
  notices : List Bytes := []
  noticeSeq : Nat := 0
  noticeLost : Nat := 0
  zeroizing : Option Zeroize := none
  skewDue : Bool := true
  skewSeed : Bytes := []
  decisions : Nat := 0
  deriving DecidableEq, Repr

/-- One battery log entry (R429). -/
structure BatLog where
  tick : Nat
  source : Nat
  action : Nat
  power : Nat
  zeroized : Bool
  disagree : Bool
  seq : Nat
  deriving DecidableEq, Repr

/-- A slot of the vault anchor in battery-backed RAM (R291): a root and its epoch. -/
structure AnchorSlot where
  root : Bytes := zeros 48
  epoch : Nat := 0
  deriving DecidableEq, Repr

/-- Battery-backed RAM (R244, R291, R429): the root secret with its check word; the vault anchor's two slots, its SELECT word,
FAIL_CELL, its INTEGRITY flag with the reason stored beside it, and its check word; and the secure-world area, a memory of bytes. -/
structure BbRam where
  root : Bytes := zeros 32
  rootCheck : Word := 0
  anchorCheck : Word := 0
  anchor0 : AnchorSlot := {}
  anchor1 : AnchorSlot := {}
  anchorSelect : Nat := 0
  failCell : Nat := 0xFFFFFFFF
  integrity : Option Nat := none
  area : List Host.Cell := []
  log : Tbl BatLog := []
  logSeq : Nat := 0
  logReported : Nat := 0
  corrTick : Nat := 0
  corrSec : Nat := 0
  corrCheck : Word := 0
  deriving DecidableEq, Repr

/-! ## The time unit (R437 to R444) -/

/-- The latest Announce of a port, and when it came (R438). -/
structure Heard where
  announce : Announce
  receivedAt : Time
  deriving DecidableEq, Repr

/-- The peer-delay measurement of one PTP port (R438): the request outstanding with its time of sending, the response to it that
waits for its follow-up, the last delay found in nanoseconds, and the intervals that have passed without one. -/
structure PeerDelay where
  seq : Nat := 0
  sentAt : Option Nat := none
  response : Option (Nat × Nat × Int) := none
  delay : Option Int := none
  missed : Nat := 0
  lastSend : Option Time := none
  deriving DecidableEq, Repr

/-- A two-step Sync that waits for its Follow_Up: its sender, sequence, ingress time and correction. -/
structure PendingSync where
  sourceId : Nat
  seq : Nat
  ingress : Nat
  correction : Int
  deriving DecidableEq, Repr

/-- The time unit.  `count` is device time in units of 1/(216 · 65,536 · 10^6) ns at the moment `State.now`;
`lastUsed` is when the last Sync or edge was used, `setSec` what TIM_SET left for the next edge, `sourceAt` when SOURCE was last
set, and `gmSource` the chosen master's
port identity. -/
structure TimeUnit where
  locked : Bool := false
  estimated : Bool := true
  holdover : Bool := false
  freeStart : Bool := false
  goodCount : Nat := 0
  badRun : Nat := 0
  gmPort : Nat := 255
  event : Word := 0
  count : Nat := 0
  offset : Int := 0
  freq : Int := 0
  path : Int := 0
  cfg : Word := 0
  ptpPorts : Word := 0xFFFFFFFF
  lockCfg : Word := 0x001003E8
  holdCfg : Word := 0x0064003C
  ppsCfg : Word := 0x00006402
  ppsComp : Word := 0
  gmId : Nat := 0
  gmSource : Nat := 0
  corrTick : Nat := 0
  corrSec : Nat := 0
  syncRx : Nat := 0
  discard : Nat := 0
  lastUsed : Option Time := none
  syncInterval : Time := 0
  sourceAt : Time := 0
  pendingSync : Option PendingSync := none
  heard : Tbl Heard := []
  delays : Tbl PeerDelay := []
  setSec : Option Nat := none
  corrWrittenAt : Option Time := none
  bootFloor : Option Nat := none
  deriving DecidableEq, Repr

/-! ## Strata (R447 to R460) -/

/-- An open accumulator (R449, R452). -/
structure Accum where
  openTick : Nat
  closeAt : Time
  interval : Nat
  prompt : Bool
  late : Bool := false
  unlocked : Bool := false
  saturated : Bool := false
  count : Nat := 0
  sum : Nat := 0
  min : Nat := 0
  max : Nat := 0
  firstSec : Nat
  firstNs : Nat
  firstDetail : Nat
  lastSec : Nat
  lastNs : Nat
  lastDetail : Nat
  bins : Tbl Nat := []
  deriving DecidableEq, Repr

/-- A closed record on its way to the die: its code index and its bytes 0x00–0xFB, but for its number. -/
structure Closed where
  index : Nat
  accum : Accum
  closeTick : Nat
  resetClose : Bool
  lcyState : Nat
  deriving DecidableEq, Repr

/-- The Strata recorder in its SRAM (R459); what the die holds stands in `Die`. -/
structure Strata where
  ready : Bool := false
  cfg : Word := 2048
  tokens : Nat := 64
  refillAt : Time := 0
  accums : Tbl Accum := []
  lastClose : Tbl Time := []
  codeCfg : Tbl Word := []
  closed : List Closed := []
  next : Nat := 0
  torn : Nat := 0
  corrupt : Nat := 0
  noticeLost : Nat := 0
  notices : List (Nat × Bytes) := []
  deriving DecidableEq, Repr

/-- One 256-byte slot of the Strata areas: the record's bytes, and whether its VALID word is programmed (R452, R454). -/
structure StrataSlot where
  number : Nat
  bytes : Bytes
  valid : Bool
  deriving DecidableEq, Repr

/-! ## Karst (R468 to R484) -/

/-- The keys that a renewal replaced (R468): their session, the last sequence accepted under them, and the moment they end. -/
structure KarOldKeys where
  id : Nat
  keys : Bytes
  rxSeq : Nat
  ends : Time
  deriving DecidableEq, Repr

/-- A Karst session, kept under its peer's member number (R468): both keys in one string, the sequences of both directions, and the
keys that a renewal replaced. -/
structure KarSession where
  id : Nat
  keys : Bytes
  txSeq : Nat := 0
  rxSeq : Nat := 0
  openedAt : Time
  old : Option KarOldKeys := none
  deriving DecidableEq, Repr

/-- An offer made to a peer (R468), with the secrets it was made from and the moment it was made. -/
structure KarOffering where
  madeAt : Time
  hello : KarHello
  kemSecret : Bytes
  xSecret : Bytes
  deriving DecidableEq, Repr

/-- A message that waits to be taken: its destination and, once parts of a long payload have gone, how far. -/
structure KarOut where
  dest : Nat
  msg : KarMsg
  session : Nat := 0
  sent : Nat := 0
  deriving DecidableEq, Repr

/-- A payload that the unit has checked and queued for the secure world. -/
structure KarIn where
  sender : Nat
  dest : Nat
  type : Nat
  session : Nat
  urgent : Bool
  payload : Bytes
  deriving DecidableEq, Repr

/-- A payload being assembled from its parts (R470). -/
structure KarParts where
  sender : Nat
  type : Nat
  next : Nat
  bytes : Bytes
  deriving DecidableEq, Repr

/-- A change that waits for its replica set (R478): the version proposed for it, or the number under which it was forwarded to the
primary, and for one forwarded here the member and number it came under. -/
structure KarWait where
  domain : Nat
  version : Nat
  forwarded : Nat := 0
  origin : Option (Nat × Nat) := none
  deadline : Time
  change : VaultChange
  deriving DecidableEq, Repr

/-- A message that is resent until it is answered (R470). -/
structure KarAsk where
  dest : Nat
  domain : Nat
  msg : KarMsg
  sentAt : Time
  ends : Time
  deriving DecidableEq, Repr

/-- What a replica knows of a domain's primary and its own candidacy (R476). -/
structure KarDomain where
  lastHeard : Time := 0
  lastSend : Time := 0
  candidate : Nat := 0
  votes : List Nat := []
  deriving DecidableEq, Repr

/-- The Karst unit and the secure world's work on it (R483). -/
structure Karst where
  cfg : Word := 4144
  timing : Word := 0x07D00BB8
  poll : Word := 60
  ports : Word := 0xFFFFFFFF
  sessions : Tbl KarSession := []
  offering : Tbl KarOffering := []
  nextSession : Nat := 1
  outUrgent : List KarOut := []
  outNormal : List KarOut := []
  taken : Tbl Bytes := []
  nextHandle : Nat := 1
  parts : List KarParts := []
  inbound : List KarIn := []
  waits : List KarWait := []
  nextForward : Nat := 1
  asks : List KarAsk := []
  domains : Tbl KarDomain := []
  polledAt : Time := 0
  leaving : Bool := false
  msgRx : Nat := 0
  authFail : Nat := 0
  commits : Nat := 0
  timeouts : Nat := 0
  revokes : Nat := 0
  deriving DecidableEq, Repr

/-! ## Life cycle, debug and the in-package die (R244, R267, R401 to R420, R493) -/

/-- One entry of a copy of the life-cycle word (R408); `sound` is whether its BCH code decodes it. -/
structure LcyEntry where
  state : Nat
  origin : Nat
  seq : Nat
  sound : Bool := true
  deriving DecidableEq, Repr

/-- One record of the transition log (R408), with its four one-way marks. -/
structure LcyLog where
  seq : Nat
  source : Nat
  target : Nat
  token : Nat
  auth : Bytes
  intent : Bool := false
  wipeDone : Bool := false
  wordStart : Bool := false
  complete : Bool := false
  deriving DecidableEq, Repr

/-- A live debug certificate (R415). -/
structure LiveCert where
  rights : Nat
  id : Nat
  dapKey : Nat
  notAfter : Nat
  wires : BitVec 128
  deriving DecidableEq, Repr

/-- The TAP (R412): the instruction acted on, and the boundary register. -/
structure Tap where
  ir : Nat := 2
  boundary : List Bool := []
  deriving DecidableEq, Repr

/-- Life cycle and debug (R419).  `isolateAll` is the hardware's hold of every wire in ISOLATE (R407), `trace` the trace buffer of
R413, and `halted` says since when a probe halts contexts of the normal (0) or secure (1) world. -/
structure LifeCycle where
  state : Nat := 1
  origin : Nat := 0
  copyFault : Bool := false
  resumed : Bool := false
  cert : Option LiveCert := none
  refused : Nat := 0
  twinFault : Nat := 0
  nonce : Option Nonce := none
  isolateAll : Bool := false
  tap : Tap := {}
  trace : List Bytes := []
  halted : Tbl Time := []
  deriving DecidableEq, Repr

/-- The settings a restore record keeps (R493). -/
structure Restore where
  tables : Tbl Table
  banks : Tbl Bank
  bypassByCert : List Nat
  ports : Tbl Word
  poolMap : List Word
  chamber : Word
  lend : Word
  tim : List Word
  vlog : Word
  deriving DecidableEq, Repr

/-- A key of domain 0 numbered 1 to 255 as the in-package die holds it (R245): its value wrapped under the domain's master. -/
structure WrappedKey where
  attr : Attr
  box : Sealed
  deriving DecidableEq, Repr

/-- A slot for a firmware image (R394, R397): its bytes as staged, whether they passed the checks on FINAL, and whether the image
is yet to be confirmed. -/
structure Image where
  bytes : Bytes := []
  stagedOk : Bool := false
  trial : Bool := false
  deriving DecidableEq, Repr

/-- The in-package non-volatile die and the fuses: what outlives main power and the battery.  Secrets lie wrapped (R245): the two
attestation keys under the identity secret, domain 0's master under the store key; the restore record lies with its seal (R493), and
domain 0's roster with its SHA-384 (R267). -/
structure Die where
  serialFused : Bool := true
  identity : Option Bytes := none
  attestation : Option (Sealed × Sealed) := none
  certificates : Bytes := []
  copyA : List LcyEntry := []
  copyB : List LcyEntry := []
  log : List LcyLog := []
  tokens : Word := 0
  boots : Nat := 0
  domain0 : Option Domain := none
  rosterDigest : Bytes := []
  master0 : Option Sealed := none
  keys : Tbl WrappedKey := []
  restore : Option (Restore × Sealed) := none
  secureA : Image := {}
  secureB : Image := {}
  normalA : Image := {}
  normalB : Image := {}
  secureNext : Nat := 0
  normalNext : Nat := 0
  svnSecure : Nat := 0
  svnNormal : Nat := 0
  lmsKey : Bytes := []
  strata : Tbl StrataSlot := []
  retired : List Nat := []
  erases : Tbl Nat := []
  deriving DecidableEq, Repr

/-! ## The machine -/

/-- The whole block.  `pending` holds the commands that wait, first in, first out; `now` is the moment the model has come
to; `fresh` numbers the free values drawn so far; `out` is the log of everything sent out.  These four are the model's
own fields. -/
structure State where
  pending : List Instr := []
  now : Time := 0
  fresh : Nat := 0
  out : List Out := []
  snaps : Tbl Word := []
  id : IdBlock := {}
  psg : Passage := {}
  cham : Chamber := {}
  kst : KeyStore := {}
  mbx : MailboxBlock := {}
  str : Strata := {}
  lan : Lantern := {}
  bb : BbRam := {}
  tim : TimeUnit := {}
  lcy : LifeCycle := {}
  die : Die := {}
  rng : Rng := {}
  pke : Pke := {}
  eng : Engines := {}
  host : HostIf := {}
  geo : Geode := {}
  flash : Flash := {}
  wld : Worlds := {}
  kar : Karst := {}
  ctl : List Host.Cell := []
  deriving DecidableEq, Repr

/-- The machine right after reset: every field at the value the spec gives for reset, and at the value the assumption
log names where the spec gives none. -/
def State.reset : State := {}

end Sys2Proof.Machine
end

