-- ==== Sys2Proof/Machine/Ops.lean ====
section
/-!
DEFINITION. Operations that every family shares: the passing of time, device time and the Lantern tick, outputs and
answers, Strata events, FAULT alarms, violation records, and memory.
-/

namespace Sys2Proof.Machine

/-- The outcome of every step of this block. -/
abbrev Outcome := Host.Outcome State Fault Refusal

/-! ## Time -/

/-- How far device time moves in one unit of `Time`: the servo adjusts the rate in steps of 2^−16 ppm (R437). -/
def clockRate (s : State) : Nat := (65536000000 + s.tim.freq).toNat

/-- The clock domain of a lock bit of ID_CLK_STATUS stands without its clock: 0 CCLK, 1 XCLK, 2 NCLK, 4 PCIe core clock (R17, R19).  The
model takes a domain to run exactly while its PLL is locked (assumption 104). -/
def stopped (s : State) (i : Nat) : Bool := !bit s.id.clk i

/-- Come to the moment `t`: device time, which the time unit counts in CCLK (R9), runs on at the servo's rate.  Time never goes back. -/
def advance (s : State) (t : Time) : State :=
  if t ≤ s.now then s
  else { s with now := t, tim := { s.tim with count := s.tim.count + (if stopped s 0 then 0 else (t - s.now) * clockRate s) } }

/-- Units of the device time counter in one nanosecond. -/
def countPerNs : Nat := 14155776000000

/-- Device time in nanoseconds (R437). -/
def devTime (s : State) : Nat := s.tim.count / countPerNs

/-- Seconds of device time. -/
def devSec (s : State) : Nat := devTime s / 1000000000

/-- Nanoseconds of device time. -/
def devNs (s : State) : Nat := devTime s % 1000000000

/-- Device time in nanoseconds at the moment `t`, read back from the counter's present value and rate; it has not moved while CCLK
stands. -/
def devTimeAt (s : State) (t : Time) : Nat :=
  (s.tim.count - (if stopped s 0 then 0 else (s.now - t) * clockRate s)) / countPerNs

/-- The Lantern tick counter, 48 bits at 32,768 Hz (R422, R443). -/
def lanternTick (s : State) : Nat := (s.lan.tickBase + (s.now - s.lan.tickEpoch) * 32768 / secT) % 2 ^ 48

/-- Take the next free value's number. -/
def drawFree (s : State) : Nat × State := (s.fresh, { s with fresh := s.fresh + 1 })

/-! ## Conditions that many rules ask for -/

/-- A tamper response of S2 or above stands (R430). -/
def suspended (s : State) : Bool := 2 ≤ s.lan.severity

/-- The secure world is up (R388). -/
def secureUp (s : State) : Bool := s.wld.secureUp

/-- A lockstep pair is online: with all four OFFLINE no firmware runs, the world monitor's included (R372). -/
def firmwareRuns (s : State) : Bool := (List.range 4).any fun p => (s.wld.pairs.get {} p).online

/-- A life-cycle state of TEST n (R401). -/
def inTest (s : State) : Bool := 0x10 ≤ s.lcy.state && s.lcy.state ≤ 0x1F

/-- The life-cycle states in which one vendor grant meets every domain-0 quorum (R402). -/
def vendorState (s : State) : Bool := s.lcy.state == 2 || s.lcy.state == 5 || inTest s

/-! ## Outputs and answers -/

/-- Send one output. -/
def emit (s : State) (o : Out) : State := { s with out := s.out ++ [o] }

/-- The mailbox's record at number `n`, as it stands after reset where unlisted (R344): MB0–MB2 and MB6 on I3C, MB3–MB5
and MB7 on PF0. -/
def mailboxReset (n : Nat) : Mailbox := { port := if n ≤ 2 || n == 6 then 0 else 1 }

/-- Mailbox `n`. -/
def mailbox (s : State) (n : Nat) : Mailbox := s.mbx.boxes.get (mailboxReset n) n

/-- Change mailbox `n`. -/
def updMailbox (s : State) (n : Nat) (f : Mailbox → Mailbox) : State :=
  { s with mbx := { s.mbx with boxes := s.mbx.boxes.put n (f (mailbox s n)) } }

/-- The reason codes of an answer to a command that carried `n` approval records: NOT_CHECKED for each where the command failed before
its quorum check (R275). -/
def withReasons (n : Nat) (a : Answer) : Answer :=
  if a.reasons.isEmpty && a.status != .ok then { a with reasons := List.replicate n 11 } else a

/-- Record the answer of the outstanding command `id` in whichever mailbox holds it (R362). -/
def answerEnvelope (s : State) (id : Nat) (a : Answer) : State :=
  { s with mbx := { s.mbx with boxes := s.mbx.boxes.map fun e =>
      (e.1, { e.2 with outstanding := e.2.outstanding.map fun o =>
        if o.id == id && o.answer.isNone then { o with answer := some (withReasons o.records a) } else o }) } }

/-! ## The root and what is derived from it (R244, R246, R291) -/

/-- The vault key: 256 bits derived from a root secret, with the device serial as context (R246). -/
def geodeKeyOf (root serial : Bytes) : Bytes := kdf 2 root (asciiBytes "GEODE-VAULT") serial 32

/-- The store key (R246). -/
def wrapKeyOf (root serial : Bytes) : Bytes := kdf 2 root (asciiBytes "KEYSTORE-WRAP") serial 32

/-- The vault key under the root as it was read. -/
def geodeKey (s : State) : Bytes := geodeKeyOf (s.kst.root.getD []) s.id.serial

/-- The store key under the root as it was read. -/
def wrapKey (s : State) : Bytes := wrapKeyOf (s.kst.root.getD []) s.id.serial

/-- Write a root secret with its check word (R244). -/
def BbRam.putRoot (b : BbRam) (root : Bytes) : BbRam := { b with root := root, rootCheck := Config.checkWord root }

/-- The 124 bytes of the vault anchor before its check word (R291). -/
def BbRam.anchorBytes (b : BbRam) : Bytes :=
  let slot (a : AnchorSlot) : Bytes := a.root ++ leBytes 8 a.epoch
  slot b.anchor0 ++ slot b.anchor1 ++ leBytes 4 b.anchorSelect ++ leBytes 4 b.failCell ++ leBytes 4 (b.integrity.getD 0)

/-- Renew the check word of the vault anchor, after any write of it. -/
def BbRam.check (b : BbRam) : BbRam := { b with anchorCheck := Config.checkWord b.anchorBytes }

/-- Wrap a value under a key, with an IV of the key store's choosing. -/
def wrapNew (s : State) (key value : Bytes) : Sealed × State :=
  let (n, s) := drawFree s
  (wrap key (Config.freeBytes n 12) value, s)

/-! ## Strata events (R447 to R451) -/

/-- The default configuration of a code: INTERVAL_S 60, NOTIFY 0 (R459). -/
def codeCfg (s : State) (i : Nat) : Word := s.str.codeCfg.get 60 i

/-- INTERVAL_S of a code. -/
def codeInterval (s : State) (i : Nat) : Nat := field (codeCfg s i) 11 0

/-- The prompt codes of R447. -/
def codePrompt (i : Nat) : Bool :=
  [0, 2, 5, 6, 7, 8, 9, 10, 11, 13, 14, 15, 33, 35, 36, 37, 38, 41, 43].contains i

/-- The event code of an index (R447). -/
def codeOf (i : Nat) : Nat :=
  if 16 ≤ i && i ≤ 29 then 0x0700 + (i - 16)
  else Tbl.get [(0, 0x0001), (1, 0x0002), (2, 0x0003), (3, 0x0101), (4, 0x0102), (5, 0x0103), (6, 0x0104), (7, 0x0105),
    (8, 0x0106), (9, 0x0201), (10, 0x0501), (11, 0x0502), (12, 0x0503), (13, 0x0601), (14, 0x0602), (15, 0x0603),
    (30, 0x0710), (31, 0x0711), (32, 0x0712), (33, 0x0713), (34, 0x0714), (35, 0x0715), (36, 0x0801), (37, 0x0802),
    (38, 0x0803), (39, 0x0804), (40, 0x0901), (41, 0x0902), (42, 0x0903), (43, 0x0B01)] 0 i

/-- The bin rule of a code: 0 INDEX, 1 LINEAR, 2 LOG2, with the width of LINEAR (R447, R448). -/
def codeBins (i : Nat) : Nat × Nat :=
  if 16 ≤ i && i ≤ 29 then (2, 0)
  else if i == 2 || i == 38 || i == 42 then (2, 0)
  else if i == 13 then (1, 64)
  else if i == 30 || i == 31 then (1, 9)
  else if 32 ≤ i && i ≤ 35 then (1, 5)
  else (0, 0)

/-- The bin a value falls in (R448). -/
def binOf (i v : Nat) : Nat :=
  match codeBins i with
  | (1, w) => min (v / w) 15
  | (2, _) => if v = 0 then 0 else min (Nat.log2 v + 1) 15
  | _ => min v 15

/-- Close an accumulator into a record that waits for the die (R449, R450, R456). -/
def closeAccum (s : State) (i : Nat) (a : Accum) (late resetClose : Bool) : State :=
  { s with str := { s.str with
      accums := s.str.accums.del i
      lastClose := s.str.lastClose.put i s.now
      closed := s.str.closed ++ [{
        index := i
        accum := { a with late := late }
        closeTick := lanternTick s
        resetClose := resetClose
        lcyState := s.lcy.state }] } }

/-- Close accumulator `i` if its close instant has come and a token is free, taking the token (R449, R450). -/
def closeIfDue (s : State) (i : Nat) : State :=
  match s.str.accums.look i with
  | none => s
  | some a =>
    if a.closeAt ≤ s.now && 0 < s.str.tokens then
      let s := { s with str := { s.str with tokens := s.str.tokens - 1 } }
      closeAccum s i a a.late false
    else s

/-- Count one event into an open accumulator (R449, R452). -/
def countInto (s : State) (i v detail : Nat) (a : Accum) : Accum :=
  let top := 2 ^ 64 - 1
  let b := binOf i v
  { a with
    count := min (a.count + 1) top
    sum := min (a.sum + v) top
    min := if a.count = 0 then v else min a.min v
    max := max a.max v
    bins := a.bins.upd 0 b fun n => min (n + 1) top
    saturated := a.saturated || decide (top ≤ a.count + 1) && decide (a.count = top) || decide (top < a.sum + v)
    unlocked := a.unlocked || !s.tim.locked
    firstSec := if a.count = 0 then devSec s else a.firstSec
    firstNs := if a.count = 0 then devNs s else a.firstNs
    firstDetail := if a.count = 0 then detail else a.firstDetail
    lastSec := devSec s
    lastNs := devNs s
    lastDetail := detail }

/-- The accumulator that an event of a code opens (R449).  A prompt code in a quiet period closes at the opening event:
when no record of it has been written since reset, or when its last close lies an interval or more back. -/
def openAccum (s : State) (i : Nat) : Accum :=
  let iv := codeInterval s i
  let quiet := match s.str.lastClose.look i with
    | none => true
    | some t => decide (t + iv * secT ≤ s.now)
  let p := codePrompt i && quiet
  { openTick := lanternTick s, closeAt := if p then s.now else s.now + iv * secT, interval := iv, prompt := p,
    firstSec := 0, firstNs := 0, firstDetail := 0, lastSec := 0, lastNs := 0, lastDetail := 0 }

/-- An event of code index `i` with its value and 32-bit detail (R449).  An accumulator past its close instant closes
first, if a token is free; else the event goes on counting into it and it is late (R450). -/
def event (s : State) (i v detail : Nat) : State :=
  let s := closeIfDue s i
  let a := match s.str.accums.look i with
    | some a => { a with late := a.late || decide (a.closeAt < s.now) }
    | none => openAccum s i
  { s with str := { s.str with accums := s.str.accums.put i (countInto s i v (detail % 2 ^ 32) a) } }

/-- Function `f` of the host interface. -/
def func (s : State) (f : Nat) : Func := s.host.funcs.get {} f
/-- Change function `f`. -/
def updFunc (s : State) (f : Nat) (g : Func → Func) : State :=
  { s with host := { s.host with funcs := s.host.funcs.put f (g (func s f)) } }
/-- A vector of a function's MSI-X table is masked: the mask bit of its control word, which MSI-X sets at reset (assumption 132). -/
def vectorMasked (x : Func) (v : Nat) : Bool := bit (x.vectors.get 1 (4 * v + 3)) 0
/-- Send a function's MSI-X message, or set the pending bit of a masked vector (R336). -/
def sendVector (s : State) (f v : Nat) : State :=
  if vectorMasked (func s f) v then updFunc s f fun x => { x with pba := x.pba ||| (1#64 <<< v) } else emit s (.msix f v)
/-- Queue pair `q` of function `f`. -/
def queue (s : State) (f q : Nat) : Queue := (func s f).queues.get {} q
/-- Change queue pair `q` of function `f`. -/
def updQueue (s : State) (f q : Nat) (g : Queue → Queue) : State :=
  updFunc s f fun x => { x with queues := x.queues.put q (g (x.queues.get {} q)) }

/-- Record how the ring job `id` ended, in whichever queue holds it; its completion is written in the order of R325. -/
def endRing (s : State) (id : Nat) (e : JobEnd) : State :=
  { s with host := { s.host with funcs := s.host.funcs.map fun f => (f.1, { f.2 with
      queues := f.2.queues.map fun q => (q.1, { q.2 with
        jobs := q.2.jobs.map fun j => if j.id == id && j.finished.isNone then { j with finished := some e } else j }) }) } }

/-- The holder that an answer names; 0 where it names none. -/
def holderOf : List RItem → Nat
  | [] => 0
  | .holder n :: _ => n
  | _ :: t => holderOf t

/-- Answer a secure call (R376, R377): the answer waits for RETURN, or for POLL once the WCALL has returned PENDING; one whose
world has restarted is dropped (R390). -/
def answerCall (s : State) (token : Nat) (a : Answer) : State :=
  { s with wld := { s.wld with calls := (s.wld.calls.filter fun c => c.token != token || !c.dropped).map fun c =>
    if c.token == token && c.answer.isNone then { c with answer := some a } else c } }

/-- Answer a command or job.  A command from a mailbox has its answer kept until it is written in request order (R362), a
ring job until its completion is written, a secure call until it is polled; other answers go out.  Every status INTERNAL is
recorded by Strata (R7, R447). -/
def answer (s : State) (r : Reply) (a : Answer) : State :=
  match r with
  | .envelope id => answerEnvelope s id a
  | .ring id => endRing s id { status := a.status, holder := holderOf a.items, items := a.items }
  | .call token => answerCall s token a
  | .log => emit s (.answer a)

/-- Answer with a status alone. -/
def answerStatus (s : State) (r : Reply) (st : Status) : State := answer s r { status := st }

/-! ## Alarms, refusals and pins -/

/-- A block sends a FAULT alarm to Lantern, which takes it at its next sample (R434): block code and unit. -/
def faultAlarm (s : State) (block unit : Nat) : State :=
  { s with lan := { s.lan with faultQ := s.lan.faultQ ++ [(block, unit)] } }

/-- Drive CHAMBER_ALERT low for 1 µs (R133). -/
def chamberAlert (s : State) : State :=
  emit { s with cham := { s.cham with alertLowUntil := s.now + usT } } (.pin "CHAMBER_ALERT" false)

/-- A master of the bus with the security attribute of its transaction (R380, R383). -/
structure BusMaster where
  number : Nat
  sec : Bool
  core : Bool
  key : Nat
  deriving DecidableEq, Repr

/-- KEY and SEC of WLD_MPU[m] after reset (R383): KEY in bits 3:0, SEC in bit 4. -/
def mpuReset (m : Nat) : Nat :=
  if m ≤ 3 then 0x10 else if m ≤ 7 then 0x1E else if m = 8 then 0x12 else if m = 9 then 0x13 else if m = 10 then 0x04 else 0

/-- A device master with the settings of its protection unit. -/
def deviceMaster (s : State) (m : Nat) : BusMaster :=
  let v := s.wld.mpu.get (mpuReset m) m
  { number := m, sec := v / 16 % 2 == 1, core := false, key := v % 16 }

/-- NW_KEY of WLD_CFG2. -/
def nwKey (s : State) : Nat := field s.wld.cfg2 19 16

/-- The debug access port's key: the live debug certificate's, else that of the normal world (R414). -/
def dapKey (s : State) : Nat := (s.lcy.cert.map (·.dapKey)).getD (nwKey s)

/-- The master of R383 that makes a register access.  R383 gives the I3C window no number and no key: they are free values
(assumption 67). -/
def busMaster (s : State) : Master → BusMaster
  | .secure n => { number := n, sec := true, core := true, key := 0 }
  | .normal n => { number := n, sec := false, core := true, key := nwKey s }
  | .pf0 => deviceMaster s 10
  | .i3c => { number := Config.i3cMaster.1, sec := false, core := false, key := Config.i3cMaster.2 }
  | .dap => { number := 12, sec := false, core := false, key := dapKey s }

/-- Write a violation record, raise the secure world's interrupt and count the refusal (R386, R387). -/
def violation (s : State) (v : Violation) : State :=
  let v := { v with number := s.wld.violationNo, tick := lanternTick s }
  let s := { s with wld := { s.wld with
    violations := (s.wld.violations ++ [v]).drop ((s.wld.violations.length + 1) - 16)
    violationNo := (s.wld.violationNo + 1) % 2 ^ 32
    violationCount := sat32 s.wld.violationCount
    violationPending := true } }
  event s 4 v.reason v.master

/-- A register access refused under R21: it moves nothing, is reported to the world monitor under R386 and counted by
Strata as REG_REFUSED. -/
def refuseAccess (s : State) (m : Master) (addr : Nat) (write : Bool) (len : Nat := 4) : State :=
  let b := busMaster s m
  let s := violation s {
    number := 0
    master := b.number
    sec := b.sec
    coreClass := b.core
    key := b.key
    access := if write then 1 else 0
    reason := 4
    address := addr
    length := len
    page := 0xFFFF
    tick := 0 }
  event s 3 (addr / 2 ^ 22 % 16) addr

/-- A write that a lock turns away is reported as a violation (R64, R379). -/
def lockedWrite (s : State) (m : Master) (addr : Nat) : State :=
  let b := busMaster s m
  violation s {
    number := 0
    master := b.number
    sec := b.sec
    coreClass := b.core
    key := b.key
    access := 1
    reason := 5
    address := addr
    length := 4
    page := 0xFFFF
    tick := 0 }

/-! ## Memory: control memory and the secure-world area -/

/-- The byte at an address of a memory; one that is not listed reads as 0 (assumption 5). -/
def memRead (m : List Host.Cell) (a : Nat) : Byte :=
  match m.find? (·.1 == a) with
  | some c => c.2
  | none => 0

/-- Write one byte, keeping the list in its canonical form: rising addresses and no byte that an unlisted address reads
as. -/
def memWrite : List Host.Cell → Nat → Byte → List Host.Cell
  | [], a, b => if b = 0 then [] else [(a, b)]
  | (k, v) :: t, a, b =>
    if a < k then (if b = 0 then (k, v) :: t else (a, b) :: (k, v) :: t)
    else if k = a then (if b = 0 then t else (a, b) :: t)
    else (k, v) :: memWrite t a b

/-- Write a byte string from an address on. -/
def memStore (m : List Host.Cell) (a : Nat) : Bytes → List Host.Cell
  | [] => m
  | b :: t => memStore (memWrite m a b) (a + 1) t

/-- Read `n` bytes from an address on. -/
def memLoad (m : List Host.Cell) (a : Nat) : Nat → Bytes
  | 0 => []
  | n + 1 => memRead m a :: memLoad m (a + 1) n

/-- The canonical form of a memory: addresses strictly rising, and no listed byte is 0. -/
def Memory.wf : List Host.Cell → Bool
  | [] => true
  | [(_, b)] => decide (b ≠ 0)
  | (a, b) :: (c, d) :: t => decide (b ≠ 0) && decide (a < c) && Memory.wf ((c, d) :: t)

/-! ## Protection of control memory (R379 to R387) -/

/-- The entry of the page owner table for page `p`: LOCKED for pages 0 to 15 and 0 elsewhere after reset (R379). -/
def pageEntry (s : State) (p : Nat) : Word := s.wld.pages.get (if p < 16 then 0x100 else 0) p

/-- The owner check of R380.  Access: 0 read, 1 write, 2 instruction fetch. -/
def ownerAllows (e : Word) (m : BusMaster) (access : Nat) : Bool :=
  let owner := field e 1 0
  if m.core && m.sec then access != 2 || owner == 0
  else if m.core then
    (owner == 1 && (access != 2 || !bit e 3)) || (owner == 2 && access == 0) || (owner == 3 && access == 0 && bit e 2)
  else access != 2 && (if owner = 0 then m.sec else if owner = 2 then access == 0 else true)

/-- The colour check of R384. -/
def colourAllows (e : Word) (m : BusMaster) : Bool := m.key == 0 || field e 7 4 == 0xF || field e 7 4 == m.key

/-- Why a transfer of `n` bytes at a control-memory offset is refused, if it is: the reason of R387 and the first forbidden
page (R384). -/
def transferFault (s : State) (m : BusMaster) (a n access : Nat) : Option (Nat × Nat) :=
  let pages := (List.range (if n = 0 then 0 else (a + n - 1) / 4096 - a / 4096 + 1)).map (a / 4096 + ·)
  pages.findSome? fun p =>
    if 8192 ≤ p then some (3, p)
    else if !ownerAllows (pageEntry s p) m access then some (1, p)
    else if !colourAllows (pageEntry s p) m then some (2, p)
    else none

/-- Record a refused transfer (R386). -/
def refuseTransfer (s : State) (m : BusMaster) (a n access : Nat) (why : Nat × Nat) : State :=
  violation s {
    number := 0
    master := m.number
    sec := m.sec
    coreClass := m.core
    key := m.key
    access := access
    reason := why.1
    address := 0x100000000 + a
    length := n
    page := why.2
    tick := 0 }

/-- Read control memory as a master: a refused read gives zeros for its whole length (R386). -/
def ctlRead (s : State) (m : BusMaster) (a n : Nat) : State × Bytes :=
  match transferFault s m a n 0 with
  | some why => (refuseTransfer s m a n 0 why, zeros n)
  | none => (s, memLoad s.ctl a n)

/-- Write control memory as a master: a refused write stores nothing (R386). -/
def ctlWrite (s : State) (m : BusMaster) (a : Nat) (b : Bytes) : State :=
  match transferFault s m a b.length 1 with
  | some why => refuseTransfer s m a b.length 1 why
  | none => { s with ctl := memStore s.ctl a b }

end Sys2Proof.Machine
end

