-- ==== Sys2Proof/Machine/Operands.lean ====
section
/-!
DEFINITION. Operand forms: the fields of a wire's bank, of a frame's headers and trailers, and of the tables of R82 and
R92, as the commands of Passage use them.
-/

namespace Sys2Proof.Machine

/-! ## Banks (R63) -/

/-- MODE: 0 ENFORCE, 1 MONITOR, 2 ISOLATE, 3 BYPASS. -/
def Bank.modeOf (b : Bank) : Nat := field b.mode 1 0
/-- LAN_STRICT. -/
def Bank.lanStrict (b : Bank) : Bool := bit b.mode 3
/-- PRP_LAN: 0 none, 1 A, 2 B. -/
def Bank.prpLan (b : Bank) : Nat := field b.mode 5 4
/-- CHAMBER_A or CHAMBER_B of a side. -/
def Bank.chamber (b : Bank) (side : Nat) : Bool := bit b.mode (8 + side)
/-- The table a side selects, if it selects one (R32). -/
def Bank.table (b : Bank) (side : Nat) : Option Nat :=
  if bit b.tables (7 + 8 * side) then none else some (field b.tables (3 + 8 * side) (8 * side))
/-- QUOTA_KIB. -/
def Bank.quotaKib (b : Bank) : Nat := field b.quota 15 0
/-- PARTNER_WIRE. -/
def Bank.partnerWire (b : Bank) : Nat := field b.pair 6 0
/-- PARTNER_MEMBER. -/
def Bank.partnerMember (b : Bank) : Nat := field b.pair 11 8
/-- PAIRED. -/
def Bank.paired (b : Bank) : Bool := bit b.pair 15
/-- PSG_CLASS_CFG after reset: HOLD_TIME_US 400, TIME_REQUIRED 1, ENABLED 1. -/
def classCfgReset : Word := 0x00050190
/-- PSG_CLASS_CFG of class `c`. -/
def Bank.classCfg (b : Bank) (c : Nat) : Word := b.cls.get classCfgReset c
/-- HOLD_TIME_US of class `c`. -/
def Bank.holdUs (b : Bank) (c : Nat) : Nat := field (b.classCfg c) 10 0
/-- TIME_REQUIRED of class `c`. -/
def Bank.timeRequired (b : Bank) (c : Nat) : Bool := bit (b.classCfg c) 16
/-- STRICT_WIRE_ORDER of class `c`. -/
def Bank.strict (b : Bank) (c : Nat) : Bool := bit (b.classCfg c) 17
/-- ENABLED of class `c`. -/
def Bank.enabled (b : Bank) (c : Nat) : Bool := bit (b.classCfg c) 18
/-- SKEW_100US of class `c`. -/
def Bank.skew100us (b : Bank) (c : Nat) : Nat := field (b.skew.get 500 c) 15 0

/-- The writable bits of PSG_WIRE_MODE. -/
def wireModeMask : Word := 0x33B
/-- The writable bits of PSG_WIRE_TABLES. -/
def wireTablesMask : Word := 0x8F8F
/-- The writable bits of PSG_WIRE_PAIR. -/
def wirePairMask : Word := 0x8F7F
/-- The writable bits of PSG_CLASS_CFG. -/
def classCfgMask : Word := 0x000707FF

/-- The register at a bank offset (R63); none where the offset is unassigned. -/
def Bank.read (b : Bank) (off : Nat) : Option Word :=
  if off = 0 then some b.mode
  else if off = 4 then some b.tables
  else if off = 8 then some b.quota
  else if off = 0xC then some b.pair
  else if 0x200 ≤ off && off < 0x400 && off % 8 == 0 then some (b.classCfg ((off - 0x200) / 8))
  else if 0x200 ≤ off && off < 0x400 && off % 8 == 4 then some (b.skew.get 500 ((off - 0x200) / 8))
  else none

/-- Write the register at a bank offset: its writable fields take the value (R3, R4, R63). -/
def Bank.write (b : Bank) (off : Nat) (v : Word) : Option Bank :=
  if off = 0 then some { b with mode := storeMasked b.mode v wireModeMask }
  else if off = 4 then some { b with tables := storeMasked b.tables v wireTablesMask }
  else if off = 8 then some { b with quota := storeMasked b.quota v 0xFFFF }
  else if off = 0xC then some { b with pair := storeMasked b.pair v wirePairMask }
  else if 0x200 ≤ off && off < 0x400 && off % 8 == 0 then
    let c := (off - 0x200) / 8
    some { b with cls := b.cls.set classCfgReset c (storeMasked (b.classCfg c) v classCfgMask) }
  else if 0x200 ≤ off && off < 0x400 && off % 8 == 4 then
    let c := (off - 0x200) / 8
    some { b with skew := b.skew.set 500 c (storeMasked (b.skew.get 500 c) v 0xFFFF) }
  else none

/-- The 1,024 bytes of a bank, as R272 digests them: unassigned words are 0. -/
def Bank.bytes (b : Bank) : Bytes :=
  (List.range 256).flatMap fun i => leBytes 4 ((b.read (4 * i)).getD 0).toNat

/-! ## Ports and wires -/

/-- The wire a port belongs to (R30). -/
def wireOf (p : Nat) : Nat := p / 2
/-- The side of a port: 0 A, 1 B (R30). -/
def sideOf (p : Nat) : Nat := p % 2
/-- The port at the other side of the wire (R30). -/
def otherPort (p : Nat) : Nat := if p % 2 = 0 then p + 1 else p - 1

/-- Wire `w`. -/
def wire (s : State) (w : Nat) : Wire := s.psg.wires.get {} w
/-- Change wire `w`. -/
def updWire (s : State) (w : Nat) (f : Wire → Wire) : State :=
  { s with psg := { s.psg with wires := s.psg.wires.put w (f (wire s w)) } }
/-- Port `p`. -/
def port (s : State) (p : Nat) : Port := s.psg.ports.get {} p
/-- Change port `p`. -/
def updPort (s : State) (p : Nat) (f : Port → Port) : State :=
  { s with psg := { s.psg with ports := s.psg.ports.put p (f (port s p)) } }
/-- Step a port counter, named by its offset in the port window (R42). -/
def bumpPort (s : State) (p off : Nat) : State :=
  updPort s p fun q => { q with counters := q.counters.upd 0 off sat64 }
/-- ENABLE of PSG_PORT_CFG. -/
def Port.enable (q : Port) : Bool := bit q.cfg 0
/-- SPEED of PSG_PORT_CFG. -/
def Port.speed (q : Port) : Nat := field q.cfg 2 1
/-- MAX_FRAME of PSG_PORT_CFG. -/
def Port.maxFrame (q : Port) : Nat := field q.cfg 29 16
/-- A port is a chamber link when its wire's ACTIVE bank marks it (R33). -/
def isChamber (s : State) (p : Nat) : Bool := (wire s (wireOf p)).active.chamber (sideOf p)

/-! ## Frame headers (R36 to R38) -/

/-- The two bytes at an offset, in wire order. -/
def be16 (bs : Bytes) (off : Nat) : Nat := beNat (slice bs off 2)

/-- A TPID the front end recognises (R37). -/
def isTpid (n : Nat) : Bool := n == 0x8100 || n == 0x88A8 || n == 0x9100

/-- How many stacked tags the front end recognises: at most two (R37). -/
def tagCountOf (bs : Bytes) : Nat :=
  if isTpid (be16 bs 12) then (if isTpid (be16 bs 16) then 2 else 1) else 0

/-- V1: the offset of the first byte after the addresses, the recognised tags and the EtherType (R46). -/
def v1Of (bs : Bytes) : Nat := 14 + 4 * tagCountOf bs

/-- FRAME_LEN: the frame without its FCS (R51). -/
def frameLenOf (bs : Bytes) : Nat := bs.length - 4

/-- The FCS checks: the last four bytes are the CRC-32 of the bytes before them (R35). -/
def fcsOk (bs : Bytes) : Bool :=
  4 ≤ bs.length && leNat (bs.drop (frameLenOf bs)) == (crc32 (bs.take (frameLenOf bs))).toNat

/-- A MAC control frame: type 0x8808 directly after the source address (R36). -/
def isMacControl (bs : Bytes) : Bool := be16 bs 12 == 0x8808

/-- The PRP trailer, if the front end recognises one: LAN (1 A, 2 B) and sequence (R38). -/
def prpOf (bs : Bytes) : Option (Nat × Nat) :=
  let n := frameLenOf bs
  let lanSize := be16 bs (n - 4)
  let nibble := lanSize / 0x1000
  if 6 ≤ n && be16 bs (n - 2) == 0x88FB && (nibble == 0xA || nibble == 0xB)
      && lanSize % 0x1000 == n - (v1Of bs - 2) then
    some (if nibble == 0xA then 1 else 2, be16 bs (n - 6))
  else none

/-- The descriptor fields that the front end fills (R51). -/
def frontEnd (p : Nat) (f : RxFrame) : Desc :=
  let bs := f.bytes
  let prp := prpOf bs
  let tags := tagCountOf bs
  let outer := if 1 ≤ tags then be16 bs 14 else 0
  let inner := if 2 ≤ tags then be16 bs 18 else 0
  { frameLen := frameLenOf bs, port := p, lan := (prp.map (·.1)).getD 0, hsr := be16 bs (v1Of bs - 2) == 0x892F,
    tagCount := tags, outerVid := outer % 0x1000, outerPcp := outer / 0x2000, innerVid := inner % 0x1000,
    innerPcp := inner / 0x2000, prpSeq := (prp.map (·.2)).getD 0, unlocked := f.unlocked, injected := f.injected,
    sec := f.sec, ns := f.ns }

/-- The side-and-LAN byte of the flow key and of verdict records (R52, R115). -/
def sideLan (d : Desc) : Nat := sideOf d.port + 2 * d.lan

/-- The 32-byte flow key (R52). -/
def flowKey (d : Desc) : Bytes :=
  [BitVec.ofNat 8 (wireOf d.port), BitVec.ofNat 8 (sideLan d), BitVec.ofNat 8 d.keyInput.length, 0]
    ++ d.keyInput ++ zeros (24 - d.keyInput.length) ++ zeros 4

/-! ## Algorithms (R82, R92) -/

/-- The AUTH length of an algorithm code (R82); none where the code is not in the table. -/
def authLen (alg : Nat) : Option Nat :=
  ([(0x10, 16), (0x11, 8), (0x12, 16), (0x13, 8), (0x14, 12), (0x20, 32), (0x21, 16), (0x22, 10), (0x23, 8),
    (0x30, 64), (0x31, 96), (0x32, 64), (0x40, 2420), (0x41, 3309), (0x42, 4627), (0x50, 2484), (0x51, 3373),
    (0x52, 3405), (0x53, 4723)] : List (Nat × Nat)).lookup alg

/-- Which trailer formats may use a code (R82). -/
def algFormats (alg : Nat) : List Nat :=
  if alg = 0x12 || alg = 0x13 || alg = 0x20 then [1, 2]
  else if alg = 0x14 || alg = 0x23 then [3]
  else if alg = 0x21 then [1, 2, 3]
  else if alg = 0x22 then [2]
  else if (authLen alg).isSome then [1]
  else []

/-- A keyed-check-lane code. -/
def isLaneAlg (alg : Nat) : Bool := 0x10 ≤ alg && alg ≤ 0x14
/-- A GMAC code. -/
def isGmac (alg : Nat) : Bool := 0x12 ≤ alg && alg ≤ 0x14
/-- An HMAC code. -/
def isHmacAlg (alg : Nat) : Bool := 0x20 ≤ alg && alg ≤ 0x23
/-- A signature code. -/
def isSigAlg (alg : Nat) : Bool := 0x30 ≤ alg

/-- The key types a code requires (R82, R251). -/
def algKeyTypes (alg : Nat) : List Nat :=
  if isLaneAlg alg then [0x01, 0x02]
  else if isHmacAlg alg then [0x03]
  else (([(0x30, [0x81]), (0x31, [0x82]), (0x32, [0x90]), (0x40, [0xB0]), (0x41, [0xB1]), (0x42, [0xB2]),
    (0x50, [0xC0]), (0x51, [0xC1]), (0x52, [0xC2]), (0x53, [0xC3])] : List (Nat × List Nat)).lookup alg).getD []

/-- The single-signature checks a signature code asks for (R82): code, and how many bytes of the key and of AUTH each
takes.  A hybrid holds the classical part first. -/
def sigParts (alg : Nat) : List (Nat × Nat × Nat) :=
  let pair (c k a m : Nat) := [(c, k, a), (m, 0, (authLen m).getD 0)]
  if alg = 0x50 then pair 0x30 64 64 0x40
  else if alg = 0x51 then pair 0x30 64 64 0x41
  else if alg = 0x52 then pair 0x31 96 96 0x41
  else if alg = 0x53 then pair 0x31 96 96 0x42
  else [(alg, 0, (authLen alg).getD 0)]

/-- The parts of a frame's signature check, its key and AUTH split as R82 and R251 lay them out. -/
def partsOf (alg : Nat) (key auth : Bytes) : List Part :=
  match sigParts alg with
  | [(a, _, _)] => [{ alg := a, key := key, sig := auth }]
  | [(a, k, n), (b, _, _)] =>
    [{ alg := a, key := key.take k, sig := auth.take n }, { alg := b, key := key.drop k, sig := auth.drop n }]
  | _ => []

/-! ## Keys -/

/-- The domain of a key reference or handle (R80, R248). -/
def handleDomain (h : Nat) : Nat := h / 2 ^ 22 % 1024
/-- The key number of a key reference or handle. -/
def handleNumber (h : Nat) : Nat := h % 2 ^ 22
/-- A usage bit of an attribute word: 0 SIGN, 1 VERIFY, 2 MAC_GEN, 3 MAC_VERIFY, 4 DERIVE, 5 AGREE, 6 ENCAPS, 7 PASSAGE
(R250). -/
def useBit (a : Attr) (i : Nat) : Bool := a.usage.getLsbD i
/-- Seconds of device time at which NOT_AFTER counts from 0 (R437). -/
def notAfterEpoch : Nat := 1577836800
/-- A key's lifetime has ended: device time has passed its last usable second (R92, R253). -/
def expired (s : State) (a : Attr) : Bool := a.notAfter != 0 && decide (a.notAfter + notAfterEpoch < devSec s)

/-- The slot that carries a handle (R248). -/
def slotOf (s : State) (h : Nat) : Option (Nat × Slot) := s.kst.slots.search fun _ x => x.handle == h

/-- A domain record. -/
def domain (s : State) (d : Nat) : Domain := s.kst.domains.get {} d

/-- Change a domain record. -/
def updDomain (s : State) (d : Nat) (f : Domain → Domain) : State :=
  { s with kst := { s.kst with domains := s.kst.domains.put d (f (domain s d)) } }

/-- The answers of the key store to a resolution (R90, R299). -/
inductive Resolution
  | hit (slot : Nat) (attr : Attr) (value : Bytes)
  | miss
  | absent
  | unavailable (cause : Nat)
  deriving DecidableEq, Repr

/-- The vault serves page-ins: it is NORMAL or READ_ONLY (R299). -/
def vaultServes (s : State) : Bool := bit s.id.ready 9

/-- Resolve a key reference (R90, R299).  UNAVAILABLE carries its cause code: 7 KEYSTORE_NOT_READY, 8 SUSPENDED,
6 PAGE_FAILED.  A standing response gives SUSPENDED whether the key store is ready or not (R141). -/
def resolve (s : State) (h : Nat) : Resolution :=
  if suspended s then .unavailable 8
  else if !s.kst.ready then .unavailable 7
  else match slotOf s h with
    | some (n, x) => .hit n x.attr x.value
    | none =>
      let d := handleDomain h
      if s.kst.root.isNone then .absent
      else if d = 0 && 1 ≤ handleNumber h && handleNumber h ≤ 255 then .absent
      else if d ≠ 0 && !s.kst.domainsLoaded then .unavailable 6
      else if (domain s d).state ≠ .active then .absent
      else if s.kst.absent.contains h then .absent
      else if !secureUp s || !vaultServes s || 256 ≤ s.psg.pageIns.length then .unavailable 6
      else .miss

/-- Mark a key as just used (R301). -/
def touchSlot (s : State) (n : Nat) : State :=
  match s.kst.slots.look n with
  | none => s
  | some x => { s with kst := { s.kst with
      slots := s.kst.slots.put n { x with lastUse := s.kst.useStamp + 1 }
      useStamp := s.kst.useStamp + 1 } }

/-- The mask a key's attribute word refers to (R269). -/
def maskOf (s : State) (a : Attr) : BitVec 64 := (domain s a.domain).masks.get 0 a.maskRef

/-- The checks of R92 on a HIT, in order; none where the key passes. -/
def keyChecks (s : State) (alg classCode : Nat) (a : Attr) : Option Ruling :=
  if !(useBit a 7 && (if isSigAlg alg then useBit a 1 else useBit a 3)) then some { verdict := .keyUnknown, cause := 2 }
  else if !(algKeyTypes alg).contains a.type then some { verdict := .keyUnknown, cause := 3 }
  else if expired s a then some { verdict := .keyUnknown, cause := 4 }
  else if !(maskOf s a).getLsbD classCode then some { verdict := .role, cause := 0x29 }
  else none

end Sys2Proof.Machine
end

