-- ==== Sys2Proof/Machine/Flowstone.lean ====
section
/-!
DEFINITION. The Flowstone sequencer: the steps of R47 and R48, the load checks of R44 to R48, and a whole walk.
-/

namespace Sys2Proof.Machine

/-- A field of a 128-bit step (R47): bits `hi` down to `lo`. -/
def stepField (w : BitVec 128) (hi lo : Nat) : Nat := (w.toNat / 2 ^ lo) % 2 ^ (hi + 1 - lo)

/-- The fields of a step (R47). -/
structure StepWord where
  op : Nat
  va : Nat
  base : Nat
  vb : Nat
  len : Nat
  cc : Nat
  off : Nat
  nextT : Nat
  nextF : Nat
  imm : Nat
  reserved : Nat
  deriving DecidableEq, Repr

/-- Read a step's fields (R47). -/
def stepWord (w : BitVec 128) : StepWord :=
  { op := stepField w 7 0, va := stepField w 10 8, base := stepField w 11 11, vb := stepField w 14 12,
    len := stepField w 19 16, cc := stepField w 23 20, off := stepField w 47 32, nextT := stepField w 59 48,
    nextF := stepField w 75 64, imm := stepField w 127 80,
    reserved := stepField w 15 15 + stepField w 31 24 + stepField w 63 60 + stepField w 79 76 }

/-- The CC values an operation defines: below this number (R48); TRAILER takes 1 to 3. -/
def ccOk (op cc : Nat) : Bool :=
  if op = 0x02 || op = 0x03 then cc ≤ 7
  else if op = 0x04 then cc ≤ 6
  else if op = 0x08 then 1 ≤ cc && cc ≤ 3
  else if op = 0x0C then cc ≤ 4
  else cc == 0

/-- An operation uses NEXT_F (R48). -/
def usesNextF (op : Nat) : Bool := op == 0x01 || op == 0x02 || op == 0x03 || op == 0x05 || op == 0x07

/-- An operation takes a byte count in LEN: 1 to 8 for EXTRACT, STORE and KEYADD, 0 to 8 for ALU and SEEK, where 0
chooses the other operand, and 0 for the rest (R47, R48). -/
def lenOk (op len : Nat) : Bool :=
  if op = 0x01 || op = 0x06 || op = 0x07 then 1 ≤ len && len ≤ 8
  else if op = 0x04 || op = 0x05 then len ≤ 8
  else len == 0

/-- The reason and destination of a CLASS step fit its class (R48): a reason stands with COMMAND alone, and a destination
with MANAGEMENT alone. -/
def classImmOk (w : StepWord) : Bool :=
  let reason := w.imm / 2 ^ 8 % 4
  let dest := w.imm / 2 ^ 12 % 4
  reason ≤ 2 && dest ≤ 1 && (reason == 0 || w.cc == 1) && (dest == 0 || w.cc == 2)

/-- A step meets the load rules of R47 and R48 in a table of `count` steps. -/
def stepOk (count : Nat) (w : StepWord) : Bool :=
  1 ≤ w.op && w.op ≤ 0x0C && w.reserved == 0 && ccOk w.op w.cc && lenOk w.op w.len
    && (if w.op = 0x0C then w.nextT == 0 else if w.op = 0x0B then w.nextT < 4096 else w.nextT < count)
    && (if usesNextF w.op then decide (w.nextF < count) else w.nextF == 0)
    && (w.op != 0x06 || (0x50 ≤ w.imm % 128 && w.imm % 128 + w.len - 1 ≤ 0x7F))
    && (w.op != 0x0C || classImmOk w)

/-- The first step of an image that breaks a load rule (R45 check 6). -/
def badStep (count : Nat) : Nat → List (BitVec 128) → Option Nat
  | _, [] => none
  | i, w :: t => if stepOk count (stepWord w) then badStep count (i + 1) t else some i

/-- The state of the lane's data path during a walk: V0–V7, the cursor, and the table in use (R46). -/
structure WalkState where
  v : List Nat
  cursor : Nat
  table : Nat
  step : Nat
  desc : Desc
  deriving DecidableEq, Repr

/-- Value register `i`. -/
def WalkState.reg (w : WalkState) (i : Nat) : Nat := w.v.getD i 0
/-- Value register `i` set, modulo 2^64. -/
def WalkState.setReg (w : WalkState) (i n : Nat) : WalkState := { w with v := w.v.set i (n % 2 ^ 64) }

/-- The value registers at the start of a walk (R46). -/
def startRegs (f : RxFrame) (d : Desc) : List Nat :=
  [d.frameLen, v1Of f.bytes, be16 f.bytes (v1Of f.bytes - 2),
   (if d.lan = 0 then 0 else 1) + 2 * d.lan + bitAt d.hsr 3 + d.prpSeq * 2 ^ 16,
   d.outerVid + d.outerPcp * 2 ^ 12 + d.innerVid * 2 ^ 16 + d.innerPcp * 2 ^ 28 + d.tagCount * 2 ^ 32, 0, 0, 0]

/-- Bytes `off` to `off + len − 1` lie inside the frame and inside the head or tail window (R46). -/
def visible (n off len : Nat) : Bool :=
  off + len ≤ n && (off + len ≤ 512 || n ≤ off + 256 || (n ≤ 768))

/-- The comparison of CMPI and CMPV (R48). -/
def cmpHolds (cc a b : Nat) : Bool :=
  if cc = 0 then a == b
  else if cc = 1 then a != b
  else if cc = 2 then decide (a < b)
  else if cc = 3 then decide (b ≤ a)
  else if cc = 4 then decide (a ≤ b)
  else if cc = 5 then decide (b < a)
  else if cc = 6 then a &&& b != 0
  else a &&& b == 0

/-- The ALU of R48, modulo 2^64. -/
def aluOp (cc a x : Nat) : Nat :=
  if cc = 0 then (a + x) % 2 ^ 64
  else if cc = 1 then (a + 2 ^ 64 - x % 2 ^ 64) % 2 ^ 64
  else if cc = 2 then a &&& x
  else if cc = 3 then a ||| x
  else if cc = 4 then (if 64 ≤ x then 0 else a * 2 ^ x % 2 ^ 64)
  else if cc = 5 then (if 64 ≤ x then 0 else a / 2 ^ x)
  else x % 2 ^ 64

/-- What one step of a walk leads to: the next step, the end of the walk, or a walk fault. -/
inductive WalkNext
  | go (w : WalkState)
  | done (d : Desc)
  | fault (d : Desc)
  deriving DecidableEq, Repr

/-- Go on at a step of the table in use. -/
def WalkState.goto (w : WalkState) (n : Nat) : WalkNext := .go { w with step := n }

/-- The descriptor at a walk fault: COMMAND, reason MALFORMED, command class code 0 (R49). -/
def faultDesc (w : WalkState) : Desc :=
  { w.desc with kind := 1, classCode := 0, reason := 1, walkFault := true, table := w.table }

/-- The address EXTRACT reads at: from the cursor, or back from the end of the frame (R47); none before the start. -/
def extractAt (w : WalkState) (x : StepWord) (n : Nat) : Option Nat :=
  if x.base = 0 then some (w.cursor + x.off) else if x.off ≤ n then some (n - x.off) else none

/-- Execute one step (R48). -/
def walkStep (tables : Tbl Table) (resident : Word) (f : RxFrame) (w : WalkState) (x : StepWord) : WalkNext :=
  let n := w.desc.frameLen
  if x.op = 0x01 then
    match extractAt w x n with
    | some o =>
      if visible n o x.len then
        let raw := beNat (slice f.bytes o x.len)
        (w.setReg x.va (if x.imm = 0 then raw else raw &&& x.imm)).goto x.nextT
      else w.goto x.nextF
    | none => w.goto x.nextF
  else if x.op = 0x02 then w.goto (if cmpHolds x.cc (w.reg x.va) x.imm then x.nextT else x.nextF)
  else if x.op = 0x03 then w.goto (if cmpHolds x.cc (w.reg x.va) (w.reg x.vb) then x.nextT else x.nextF)
  else if x.op = 0x04 then
    (w.setReg x.va (aluOp x.cc (w.reg x.va) (if x.len = 0 then w.reg x.vb else x.imm))).goto x.nextT
  else if x.op = 0x05 then
    let c := w.cursor + x.off + (if x.len = 0 then 0 else w.reg x.va * x.len)
    if c ≤ w.reg 0 then { w with cursor := c, step := x.nextT } |> WalkNext.go else w.goto x.nextF
  else if x.op = 0x06 then
    let o := x.imm % 128 - 0x50
    let d := w.desc
    let st := d.stored.take o ++ leBytes x.len (w.reg x.va) ++ d.stored.drop (o + x.len)
    { w with desc := { d with stored := st } }.goto x.nextT
  else if x.op = 0x07 then
    let k := w.desc.keyInput ++ leBytes x.len (w.reg x.va)
    if k.length ≤ 24 then { w with desc := { w.desc with keyInput := k } }.goto x.nextT else w.goto x.nextF
  else if x.op = 0x08 then
    let len := w.reg x.va
    let o : Option Nat := if x.base = 0 then some (w.cursor + x.off) else if x.off ≤ n then some (n - x.off) else none
    let (o, len) := match o with
      | some o => if 65535 < o || 65535 < len then (0xFFFF, 0xFFFF) else (o, len)
      | none => (0xFFFF, 0xFFFF)
    { w with desc := { w.desc with trailerFormat := x.cc, trailerOffset := o, trailerLength := len } }.goto x.nextT
  else if x.op = 0x09 then { w with desc := { w.desc with fenced := true } }.goto x.nextT
  else if x.op = 0x0A then w.goto x.nextT
  else if x.op = 0x0B then
    let t := x.imm % 16
    if 3 ≤ w.desc.chains then .fault (faultDesc w)
    else match (if bit resident t then tables.look t else none) with
      | none => .fault (faultDesc w)
      | some tb =>
        if tb.stepCount ≤ x.nextT then .fault (faultDesc w)
        else .go { w with table := t, step := x.nextT, desc := { w.desc with chains := w.desc.chains + 1 } }
  else
    .done { w.desc with
      kind := x.cc, classCode := x.imm % 64, reason := x.imm / 2 ^ 8 % 4, destination := x.imm / 2 ^ 12 % 4,
      table := w.table }

/-- Walk on: at most `fuel` more steps, the step after them being the 513th (R49). -/
def walkLoop (tables : Tbl Table) (resident : Word) (f : RxFrame) : Nat → WalkState → Desc
  | 0, w => faultDesc w
  | fuel + 1, w =>
    match (tables.look w.table).bind fun t => t.steps[w.step]? with
    | none => faultDesc w
    | some x =>
      match walkStep tables resident f { w with desc := { w.desc with steps := w.desc.steps + 1 } } (stepWord x) with
      | .go w => walkLoop tables resident f fuel w
      | .done d => d
      | .fault d => d

/-- The whole walk of a frame through its side's table: at most 512 steps (R46, R49). -/
def walkFrame (tables : Tbl Table) (resident : Word) (t : Nat) (f : RxFrame) (d : Desc) : Desc :=
  let entry := ((tables.look t).map (·.entry)).getD 0
  walkLoop tables resident f 512 { v := startRegs f d, cursor := 0, table := t, step := entry, desc := d }

end Sys2Proof.Machine
end

