-- ==== Sys2Proof/Machine/Trailer.lean ====
section
/-!
DEFINITION. Stage 1 of judgment: the trailer formats of R80, R86 and R87 and their checks in order.
-/

namespace Sys2Proof.Machine

/-- REJECT_MALFORMED with a cause of R112. -/
def malformed (c : Nat) : Ruling := { verdict := .malformed, cause := c }
/-- REJECT_LENGTH with a cause of R112. -/
def badLength (c : Nat) : Ruling := { verdict := .length, cause := c }

/-- What follows a trailer that ends at `e`: nothing, or at most 14 zero bytes, then optionally the recognised PRP
trailer (R81 check 2). -/
def tailOk (bs : Bytes) (n e : Nat) (prp : Bool) : Bool :=
  let rest := slice bs e (n - e)
  let z (r : Bytes) := decide (r.length ≤ 14) && allZero r
  z rest || (prp && decide (6 ≤ rest.length) && z (rest.take (rest.length - 6)))

/-- What a parse gives: the trailer, or the refusal with the fields that had been found when it came (R115). -/
abbrev Parsed := Except (Ruling × Trailer) Trailer

/-- A refusal before any field of the trailer is found. -/
def refuseBare (r : Ruling) : Parsed := .error (r, {})

/-- The checks of R81 on an ST1 trailer, in order, and the fields of R80.  The fields are found once the version is known. -/
def parseST1 (bs : Bytes) (d : Desc) : Parsed :=
  let n := d.frameLen
  let prp := decide (d.lan ≠ 0)
  let o := d.trailerOffset
  let len := if d.trailerLength = 0 then n - (if prp then 6 else 0) - o else d.trailerLength
  if o < v1Of bs - 2 || n < o + len then refuseBare (badLength 0x3D)
  else if !tailOk bs n (o + len) prp then refuseBare (badLength 0x3E)
  else if len < 24 then refuseBare (badLength 0x3F)
  else if beNat (slice bs o 1) ≠ 1 then refuseBare (malformed 0x32)
  else
    let alg := beNat (slice bs (o + 1) 1)
    let found : Trailer := {
      format := 1
      alg := alg
      keyRef := beNat (slice bs (o + 4) 4)
      seq := beNat (slice bs (o + 8) 8)
      time := some (beNat (slice bs (o + 16) 8)) }
    match authLen alg with
    | none => .error (malformed 0x33, found)
    | some a =>
      if !(algFormats alg).contains 1 then .error (malformed 0x34, found)
      else if be16 bs (o + 2) ≠ a then .error (malformed 0x35, found)
      else if len ≠ 24 + a then .error (badLength 0x3F, found)
      else .ok { found with
        iv := slice bs (o + 4) 12
        covered := slice bs (v1Of bs - 2) (o + 24 - (v1Of bs - 2))
        auth := slice bs (o + 24) a }

/-- A field of the freshness block (R85), little-endian as STORE wrote it: descriptor offset and size. -/
def fblock (d : Desc) (off n : Nat) : Nat := leNat (slice d.stored (off - 0x50) n)

/-- A flag of FB_FLAGS: 0 SEQ_VALID, 1 TS_VALID, 2 KEY_VALID, 3 IV_VALID (R85). -/
def fbFlag (d : Desc) (i : Nat) : Bool := fblock d 0x64 1 / 2 ^ i % 2 == 1

/-- The checks of R86 on an IEC 62351-6 trailer, in order.  The table has found what the flags of the freshness block say is valid. -/
def parse62351 (bs : Bytes) (d : Desc) : Parsed :=
  let alg := fblock d 0x65 1
  let o := d.trailerOffset
  let cover := fblock d 0x66 2
  let ivAt := fblock d 0x68 2
  let found : Trailer := {
    format := 2
    alg := alg
    keyRef := if fbFlag d 2 then fblock d 0x60 4 else 0
    seq := if fbFlag d 0 then fblock d 0x50 8 else 0
    time := if fbFlag d 1 then some (fblock d 0x58 8) else none }
  if !(fbFlag d 2 && fbFlag d 0) then .error (malformed 0x36, found)
  else if !(algFormats alg).contains 2 then .error (malformed 0x34, found)
  else if some d.trailerLength ≠ authLen alg then .error (badLength 0x3F, found)
  else if cover < v1Of bs - 2 || o ≤ cover || d.frameLen < o + d.trailerLength then .error (badLength 0x3D, found)
  else if isGmac alg && !(fbFlag d 3 && decide (ivAt + 12 ≤ o)) then .error (malformed 0x36, found)
  else .ok { found with
    iv := slice bs ivAt 12
    covered := slice bs cover (o - cover)
    auth := slice bs o d.trailerLength }

/-! ### DNP3 link frames (R87)

R87 names the link header, the link CRCs, the transport header and the two objects, whose layouts are those of the DNP3 standard
(assumption 106). -/

/-- One shift of the reflected CRC-16 of a DNP3 link frame. -/
def dnpShift (c : BitVec 16) : BitVec 16 := if c.getLsbD 0 then (c >>> 1) ^^^ 0xA6BC#16 else c >>> 1

/-- The CRC-16 of a DNP3 block, as the two octets that follow it. -/
def dnpCrc (bs : Bytes) : Bytes :=
  leBytes 2 (~~~ bs.foldl (fun c b => (List.range 8).foldl (fun c _ => dnpShift c) (c ^^^ b.setWidth 16)) 0#16).toNat

/-- The data octets of the blocks that follow a link header, at most 16 to a block; none where a CRC is wrong. -/
def dnpBlocks : Nat → Bytes → Option Bytes
  | 0, bs => if bs.isEmpty then some [] else none
  | n + 1, bs =>
    if bs.isEmpty then some []
    else
      let data := bs.take (min 16 (bs.length - 2))
      if dnpCrc data ≠ slice bs data.length 2 then none
      else (dnpBlocks n (bs.drop (data.length + 2))).map (data ++ ·)

/-- De-block a link frame: its user data, where the header and every block have their CRC and the length octet fits. -/
def dnpUserData (bs : Bytes) : Option Bytes :=
  if leBytes 2 0x6405 ≠ bs.take 2 || dnpCrc (bs.take 8) ≠ slice bs 8 2 then none
  else (dnpBlocks 16 (bs.drop 10)).filter fun d => d.length + 5 == leNat (slice bs 2 1)

/-- The g120v3 object at the start of a fragment gives the 32-bit challenge sequence number. -/
def dnpSequence (frag : Bytes) : Option Nat :=
  if slice frag 2 4 = [0x78, 0x03, 0x07, 0x01] && 12 ≤ frag.length then some (leNat (slice frag 6 4)) else none

/-- Where the MAC value of the g120v9 object at a fragment's end begins. -/
def dnpMacAt (frag : Bytes) : Option Nat :=
  ((List.range (frag.length - 17)).map (12 + ·)).findSome? fun k =>
    if slice frag k 4 = [0x78, 0x09, 0x5B, 0x01] && k + 6 + leNat (slice frag (k + 4) 2) == frag.length then some (k + 6)
    else none

/-- The checks of R87 on a DNP3 SAv5 aggressive-mode link frame, in order.  The covered bytes here are the de-blocked
fragment; the association's challenge message goes before them when the job begins (R88).  The table has found ALG, and KEY_REF where
KEY_VALID is 1; SEQUENCE is found with g120v3. -/
def parseDnp3 (bs : Bytes) (d : Desc) (assocs : Tbl Assoc) : Parsed :=
  let o := d.trailerOffset
  let alg := fblock d 0x65 1
  let assoc := fblock d 0x6A 2
  let found : Trailer := { format := 3, alg := alg, keyRef := if fbFlag d 2 then fblock d 0x60 4 else 0 }
  if o < v1Of bs - 2 || d.frameLen < o + d.trailerLength then .error (badLength 0x3D, found)
  else match dnpUserData (slice bs o d.trailerLength) with
    | none => .error (malformed 0x37, found)
    | some [] => .error (malformed 0x34, found)
    | some (transport :: frag) =>
      if !(transport.getLsbD 7 && transport.getLsbD 6) then .error (malformed 0x34, found)
      else match dnpSequence frag, dnpMacAt frag with
        | some csq, some k =>
          let found := { found with seq := csq }
          if !(algFormats alg).contains 3 then .error (malformed 0x34, found)
          else if some (frag.length - k) ≠ authLen alg then .error (badLength 0x3F, found)
          else if !(fbFlag d 2) || 1024 ≤ assoc then .error (malformed 0x36, found)
          else if (assocs.get {} assoc).message.isEmpty then .error (malformed 0x38, found)
          else .ok { found with
            iv := slice bs (fblock d 0x68 2) 12
            covered := frag.take k
            auth := frag.drop k
            assoc := some assoc }
        | _, _ => .error (malformed 0x36, found)

/-- Parse the trailer a walk recorded (R81, R86, R87). -/
def parseTrailer (bs : Bytes) (d : Desc) (assocs : Tbl Assoc) : Parsed :=
  if d.trailerFormat = 1 then parseST1 bs d
  else if d.trailerFormat = 2 then parse62351 bs d
  else parseDnp3 bs d assocs

/-- Stage 1 (R78): the walk's reason, the LAN where LAN_STRICT applies, the trailer, and the class's ENABLED bit. -/
def stage1 (bs : Bytes) (d : Desc) (b : Bank) (assocs : Tbl Assoc) : Parsed :=
  if d.walkFault then refuseBare (malformed 0x30)
  else if d.reason = 1 then refuseBare (malformed 0x31)
  else if d.reason = 2 then refuseBare (badLength 0x3C)
  else if b.lanStrict && b.prpLan ≠ 0 && d.lan ≠ b.prpLan then refuseBare (malformed 0x39)
  else if d.trailerFormat = 0 then refuseBare { verdict := .noTrailer }
  else match parseTrailer bs d assocs with
    | .error r => .error r
    | .ok t => if !b.enabled d.classCode then .error ({ verdict := .role, cause := 0x28 }, t) else .ok t

/-- A sequence is fresh in a flow: above the floor, and its bit clear where the bitmap covers it (R102). -/
def fresh (f : Flow) (seq : Nat) : Bool :=
  decide (f.floor < seq) && (decide (f.floor + 1024 < seq) || !f.bitmap.getLsbD (seq - f.floor - 1))

/-- The replay state after an ACCEPT of `seq` (R103). -/
def markSeen (f : Flow) (seq : Nat) : Flow :=
  if seq ≤ f.floor + 1024 then { f with bitmap := f.bitmap ||| (1#1024 <<< (seq - f.floor - 1)) }
  else
    let floor := seq - 1024
    { f with floor := floor, bitmap := (f.bitmap >>> (floor - f.floor)) ||| (1#1024 <<< 1023) }

/-- Δ of R105: the signed 64-bit difference TIMESTAMP − ingress time in nanoseconds. -/
def timeDelta (ts sec ns : Nat) : Int := (BitVec.ofNat 64 ts - BitVec.ofNat 64 (sec * 1000000000 + ns)).toInt

/-- Stage 3 (R104, R105, R497): the timestamp against the class skew and the boot time floor, and the sequence against the
replay state, read only.  None where the frame passes. -/
def stage3 (d : Desc) (b : Bank) (t : Trailer) (f : Flow) (bootFloor : Option Nat) : Option Ruling :=
  let stale (c : Nat) : Option Ruling := some { verdict := .staleTime, cause := c }
  let replay : Option Ruling :=
    if t.seq ≤ f.floor then some { verdict := .replay, cause := 0x40 }
    else if !fresh f t.seq then some { verdict := .replay, cause := 0x41 }
    else none
  if b.timeRequired d.classCode then
    if d.unlocked then stale 0x20
    else match t.time with
      | none => stale 0x21
      | some ts =>
        let skew : Int := (b.skew100us d.classCode * 100000 : Nat)
        if timeDelta ts d.sec d.ns < -skew then stale 0x22
        else if skew < timeDelta ts d.sec d.ns then stale 0x23
        else match bootFloor with
          | some fl => if ts ≤ fl then some { verdict := .replay, cause := 0x40 } else replay
          | none => replay
  else replay

end Sys2Proof.Machine
end

