-- ==== Sys2Proof/Machine/PassageOps.lean ====
section
/-!
DEFINITION. Operations that the steps of Passage share: verdicts and their records, the hold line of a direction, its
flow order, refusal and release, key resolution and dispatch to engines, and the taking of a configuration swap.
-/

namespace Sys2Proof.Machine

/-! ## Verdicts (R111, R112, R115, R116, R118) -/

/-- The verdict code of R111. -/
def Verdict.code : Verdict → Nat
  | .accept => 0x00 | .passUnchecked => 0x01 | .noTrailer => 0x10 | .malformed => 0x11 | .length => 0x12
  | .keyUnknown => 0x13 | .tag => 0x14 | .signature => 0x15 | .replay => 0x16 | .staleTime => 0x17 | .role => 0x18
  | .holdFull => 0x19 | .holdTimeout => 0x1A | .fault => 0x1B

/-- The counter index of R111. -/
def Verdict.index : Verdict → Nat
  | .accept => 0 | .passUnchecked => 1 | .noTrailer => 2 | .malformed => 3 | .length => 4 | .keyUnknown => 5
  | .tag => 6 | .signature => 7 | .replay => 8 | .staleTime => 9 | .role => 10 | .holdFull => 11
  | .holdTimeout => 12 | .fault => 13

/-- Step the verdict counter of a frame's direction (R118). -/
def countVerdict (s : State) (p i : Nat) : State :=
  updWire s (wireOf p) fun w =>
    if sideOf p = 0 then { w with verdictsAB := w.verdictsAB.upd 0 i sat64 }
    else { w with verdictsBA := w.verdictsBA.upd 0 i sat64 }

/-- The flow context with a key. -/
def findFlow (s : State) (key : Bytes) : Option (Nat × Flow) := s.psg.flows.search fun _ f => f.key == key

/-- Change the flow context with a key, if it is live. -/
def updFlow (s : State) (key : Option Bytes) (f : Flow → Flow) : State :=
  match key.bind (findFlow s) with
  | none => s
  | some (i, fl) => { s with psg := { s.psg with flows := s.psg.flows.put i (f fl) } }

/-- Microseconds from the end of a frame's walk to its verdict, saturating (R115). -/
def verdictUs (h : Held) (at_ : Time) : Nat := min ((at_ - h.walkEnd) / usT) 65535

/-- Byte 0x07 of a verdict record (R115), GAP apart. -/
def recordFlags (h : Held) (forwarded : Bool) : Nat :=
  sideLan h.desc + bitAt forwarded 3 + bitAt h.lent 5 + bitAt h.slotMiss 6 + bitAt h.desc.unlocked 7

/-- The 64 bytes of a verdict record (R115). -/
def recordBytes (s : State) (h : Held) (r : Ruling) (forwarded : Bool) (at_ : Time) : Bytes :=
  let d := h.desc
  let idx := ((h.flow.bind (findFlow s)).map (·.1)).getD 0xFFFF
  let b (n : Nat) : Bytes := leBytes 1 n
  leBytes 4 s.psg.vlogHead ++ b r.verdict.code ++ b r.cause ++ b (wireOf d.port)
    ++ b (recordFlags h forwarded + bitAt s.psg.vlogGap 4) ++ b h.bank.modeOf ++ b d.classCode ++ b h.trailer.alg
    ++ b (bitAt h.keyNotReady 0 + h.severity * 2 + bitAt h.bank.paired 4) ++ leBytes 4 d.gen
    ++ leBytes 6 d.sec ++ leBytes 4 d.ns ++ leBytes 2 (verdictUs h at_) ++ leBytes 4 h.trailer.keyRef
    ++ leBytes 8 h.trailer.seq ++ leBytes 8 (h.trailer.time.getD 0) ++ leBytes 2 idx ++ leBytes 2 d.frameLen
    ++ leBytes 2 d.prpSeq ++ zeros 10

/-- Records that the verdict ring holds: 1,024 × 2^SIZE (R117). -/
def ringSize (s : State) : Nat := 1024 * 2 ^ field s.psg.vlogCfg 18 16

/-- The 128 bytes of a frame descriptor (R51). -/
def descBytes (d : Desc) : Bytes :=
  let b (n : Nat) : Bytes := leBytes 1 n
  let flags := sideOf d.port + bitAt (d.lan != 0) 1 + d.lan * 4 + bitAt d.hsr 4 + d.tagCount * 32 + bitAt d.injected 7
  leBytes 2 d.frameLen ++ b d.port ++ b (wireOf d.port) ++ b flags ++ b (d.table + d.chains * 16) ++ leBytes 2 d.steps
    ++ leBytes 4 d.gen ++ leBytes 2 d.prpSeq ++ leBytes 2 (bitAt d.unlocked 0 + bitAt d.fenced 1) ++ leBytes 6 d.sec
    ++ leBytes 4 d.ns ++ b d.kind ++ b d.classCode ++ b d.reason ++ b d.destination ++ zeros 2 ++ flowKey d
    ++ b d.trailerFormat ++ [0] ++ leBytes 2 d.trailerOffset ++ leBytes 2 d.trailerLength ++ zeros 10 ++ d.stored

/-- Drop the oldest entries of the trace buffer until 64 KiB hold the rest. -/
def trimTrace : List Bytes → List Bytes
  | [] => []
  | b :: t => if 65536 < ((b :: t).map List.length).sum then trimTrace t else b :: t

/-- TRACE_PASSAGE: copies of descriptors and verdict records of the wires that the live certificate names (R413, R418). -/
def trace (s : State) (w : Nat) (b : Bytes) : State :=
  let named := match s.lcy.cert with
    | some x => x.rights / 8 % 2 == 1 && x.wires.getLsbD w
    | none => false
  if named then { s with lcy := { s.lcy with trace := trimTrace (s.lcy.trace ++ [b]) } } else s

/-- Write a verdict record to the ring in control memory, or count it lost when the ring is full (R116). -/
def writeRecord (s : State) (h : Held) (r : Ruling) (forwarded : Bool) (at_ : Time) : State :=
  let s := trace s (wireOf h.desc.port) (recordBytes s h r forwarded at_)
  if !bit s.psg.vlogCfg 31 then s
  else if (s.psg.vlogHead + 2 ^ 32 - s.psg.vlogTail) % 2 ^ 32 = ringSize s then
    { s with psg := { s.psg with vlogLost := sat64 s.psg.vlogLost, vlogGap := true } }
  else
    let addr := field s.psg.vlogCfg 12 0 * 4096 + s.psg.vlogHead % ringSize s * 64
    let s := ctlWrite s (deviceMaster s 8) addr (recordBytes s h r forwarded at_)
    { s with psg := { s.psg with vlogHead := (s.psg.vlogHead + 1) % 2 ^ 32, vlogGap := false } }

/-- Strata counts a verdict under its code (R115, R447). -/
def verdictEvent (s : State) (h : Held) (r : Ruling) (forwarded : Bool) (at_ : Time) : State :=
  let v := if r.verdict = .passUnchecked then 0 else verdictUs h at_
  event s (16 + r.verdict.index) v (wireOf h.desc.port + r.cause * 2 ^ 8 + recordFlags h forwarded * 2 ^ 16)

/-- A final verdict, given at the moment `at_`, is counted by wire and by Strata, and recorded where R115 asks for a record. -/
def finalVerdict (s : State) (p : Nat) (h : Held) (r : Ruling) (forwarded : Bool) (at_ : Time) : State :=
  let s := countVerdict s p r.verdict.index
  let s := if forwarded && r.verdict ≠ .accept then countVerdict s p 14 else s
  let wanted := r.verdict ≠ .passUnchecked && (r.verdict ≠ .accept || h.bank.modeOf == 1)
  let s := if wanted then writeRecord s h r forwarded at_ else s
  verdictEvent s h r forwarded at_

/-! ## Egress (R40) -/

/-- A port's egress queue of 32 KiB has room for a frame, and the port is enabled (R40, R42). -/
def egressFits (s : State) (p : Nat) (bytes : Bytes) : Bool :=
  (port s p).enable && decide (((port s p).egress.map (·.bytes.length)).sum + bytes.length ≤ 32768)

/-- `x` was released in the same CCLK cycle as `e` and arrived after it (R75). -/
def arrivedAfter (e x : Egress) : Bool :=
  match e.released, x.released with
  | some (n, c), some (m, d) => c == d && decide (n < m)
  | _, _ => false

/-- A frame joins the end of a queue, ahead of those at its end that were released in the same CCLK cycle and arrived later (R75). -/
def joinQueue : List Egress → Egress → List Egress
  | [], e => [e]
  | x :: t, e => if (x :: t).all (arrivedAfter e) then e :: x :: t else x :: joinQueue t e

/-- A frame joins a port's egress queue of 32 KiB, or is dropped whole and counted.  A frame the device originates goes
ahead of any forwarded frame not yet started.  A frame for a disabled port is discarded as those in flight there are (R42).
`number` is the frame's place in the arrival order of its direction, where it has one. -/
def egressJoin (s : State) (p : Nat) (bytes : Bytes) (own : Bool) (number : Option Nat := none) : State :=
  if !(port s p).enable then s
  else if egressFits s p bytes then
    updPort s p fun q =>
      let e : Egress := { bytes := bytes, own := own, released := number.map fun n => (n, s.now / cclkT) }
      { q with egress := if own then q.egress.takeWhile (·.own) ++ e :: q.egress.dropWhile (·.own)
        else joinQueue q.egress e }
  else
    let s := bumpPort s p 0x148
    updPort s p fun q => { q with event := q.event ||| 2 }

/-! ## Delivery inside the device (R60, R61, R438) -/

/-- The port is one of TIM_PTP_PORTS (R444). -/
def isPtpPort (s : State) (p : Nat) : Bool :=
  [field s.tim.ptpPorts 7 0, field s.tim.ptpPorts 15 8, field s.tim.ptpPorts 23 16, field s.tim.ptpPorts 31 24].contains p

/-- The messageType of an IEEE 1588 frame with EtherType 0x88F7, tagged or untagged: the low four bits of its header's first octet (R438). -/
def ptpType (b : Bytes) : Nat := (b.getD (if beNat (slice b 12 2) = 0x8100 then 18 else 14) 0).toNat % 16

/-- The time unit processes Sync, Pdelay_Req, Pdelay_Resp, Follow_Up, Pdelay_Resp_Follow_Up and Announce. -/
def ptpTaken (bytes : Bytes) : Bool := [0, 2, 3, 8, 10, 11].contains (ptpType bytes)

/-- Deliver a MANAGEMENT frame to its destination: the time unit discards and counts frames of other ports and other
messages (R438). -/
def deliverManagement (s : State) (p dest : Nat) (bytes : Bytes) : State :=
  if dest = 0 then
    if isPtpPort s p && ptpTaken bytes then emit s (.toTimeUnit p bytes)
    else { s with tim := { s.tim with discard := sat64 s.tim.discard } }
  else emit s (.toFirmware p bytes)

/-- Deliver a PUNT frame through the punt queue of 1 MiB, or drop and count it when it does not fit (R61). -/
def deliverPunt (s : State) (p : Nat) (bytes : Bytes) : State :=
  if (s.psg.puntQ.map (·.bytes.length)).sum + bytes.length ≤ 1048576 then
    let n := s.psg.nextPunt
    emit { s with psg := { s.psg with
      puntQ := s.psg.puntQ ++ [{ handle := n, port := p, bytes := bytes }]
      nextPunt := (n + 1) % 2 ^ 32 } } (.punted n)
  else event s 32 (wireOf p) (wireOf p)

/-! ## The hold line of a direction -/

/-- The frame with a number in a direction's line. -/
def findHeld (s : State) (p id : Nat) : Option Held := (port s p).line.find? (·.id == id)

/-- The port on whose line a frame is held. -/
def portOfFrame (s : State) (id : Nat) : Option Nat :=
  (s.psg.ports.find? fun e => e.2.line.any (·.id == id)).map (·.1)

/-- Change a held frame. -/
def updHeld (s : State) (p id : Nat) (f : Held → Held) : State :=
  updPort s p fun q => { q with line := q.line.map fun h => if h.id == id then f h else h }

/-- The generations of the frames of a wire that are held or being walked. -/
def liveGens (s : State) (w : Nat) : List Nat :=
  ([2 * w, 2 * w + 1].flatMap fun p => (port s p).line.map (·.desc.gen) ++ ((port s p).walk.map (·.gen)).toList)

/-- The generations a wire is or will be judged under. -/
def currentGens (w : Wire) : List Nat :=
  w.gen :: (w.pending.map (·.gen)).toList ++ (w.isolating.map (·.gen)).toList

/-- SHADOW_LOCKED falls once no frame of an earlier generation is held (R67). -/
def refreshLocked (s : State) (w : Nat) : State :=
  updWire s w fun x => { x with locked := x.locked && (liveGens s w).any fun g => !(currentGens x).contains g }

/-- Remove the jobs of a frame that have not begun (R98). -/
def cancelJobs (s : State) (p id : Nat) : State :=
  let s := updPort s p fun q => { q with
    lane0 := { q.lane0 with queue := q.lane0.queue.filter (·.frame != id) }
    lane1 := { q.lane1 with queue := q.lane1.queue.filter (·.frame != id) } }
  { s with psg := { s.psg with
    digestQ := s.psg.digestQ.filter (·.frame != id)
    bound := s.psg.bound.filter fun b => b.frame != id || b.lentFrom.isSome } }

/-- Take a frame out of its line: its charge ends, and its flow's order moves on (R69, R70, R100). -/
def dropHeld (s : State) (p : Nat) (h : Held) : State :=
  let s := cancelJobs s p h.id
  let s := updPort s p fun q => { q with line := q.line.filter (·.id != h.id) }
  let s := updWire s (wireOf p) fun w => { w with holdUsed := w.holdUsed - h.charge }
  let oldest := (((port s p).line.find? fun x => x.charge != 0 && x.flow == h.flow).map (·.ticket))
  let s := updFlow s h.flow fun f =>
    if h.charge = 0 then f else { f with inFlight := f.inFlight - 1, head := oldest.getD f.tail }
  refreshLocked s (wireOf p)

/-- A MONITOR frame is forwarded whatever its verdict, except under a response of S2 or above (R31, R141). -/
def monitors (h : Held) : Bool := h.bank.modeOf == 1 && decide (h.severity < 2)

/-- The frame waits as a fenced frame does: it is fenced, or its class has STRICT_WIRE_ORDER (R72, R73). -/
def isStrict (h : Held) : Bool := h.desc.kind == 1 && h.bank.strict h.desc.classCode

/-- Nothing but order keeps the frame. -/
def isDone (h : Held) : Bool :=
  match h.stage with
  | .accepted _ | .failed _ _ | .unjudged => true
  | _ => false

/-- Which frames of a line, in arrival order, may leave now (R70 to R73): what is ahead is kept as whether a strict frame
stays, whether any frame stays, and the flows that stay. -/
def mayLeave : List Held → Bool → Bool → List Bytes → List Held
  | [], _, _, _ => []
  | h :: t, strictAhead, anyAhead, flows =>
    let waits := h.desc.fenced || isStrict h
    let flowAhead := match h.flow with
      | some k => h.charge ≠ 0 && flows.contains k
      | none => false
    if isDone h && !strictAhead && !(waits && anyAhead) && !flowAhead then
      h :: mayLeave t strictAhead anyAhead flows
    else mayLeave t (strictAhead || isStrict h) true ((h.flow.filter fun _ => h.charge ≠ 0).toList ++ flows)

/-- The cause of a refusal at the deadline: where the frame was at that moment (R101).  A frame whose twin decision gave ACCEPT only at
or after it was still being verified. -/
def timeoutCause (h : Held) : Nat :=
  match h.stage with
  | .paging => 0x19
  | .accepted at_ => if h.deadline ≤ at_ then 0x1A else 0x1B
  | _ => 0x1A

/-- Count a refusal or a forwarded failure in a frame's flow context (R113). -/
def countFailure (s : State) (h : Held) (forwarded : Bool) : State :=
  updFlow s h.flow fun f =>
    if forwarded then { f with monitorFails := sat64 f.monitorFails } else { f with rejects := sat64 f.rejects }

/-- A released frame leaves: it is forwarded to the other side's egress queue, or delivered, as its class and its wire's
mode say; an accepted frame at or after its deadline is refused instead (R31, R60, R101, R113).  PASS_UNCHECKED is given when the
frame joins its egress queue (R111); a frame that no class was chosen for carries no verdict. -/
def leave (s : State) (p : Nat) (h : Held) : State :=
  let s := dropHeld s p h
  let forward (s : State) := egressJoin s (otherPort p) h.rx.bytes false (some h.id)
  match h.stage with
  | .accepted at_ =>
    if h.deadline ≤ s.now then
      let fw := h.bank.modeOf == 1
      let s := finalVerdict (countFailure s h fw) p h { verdict := .holdTimeout, cause := timeoutCause h } fw s.now
      if fw then forward s else s
    else
      let s := updFlow s h.flow fun f => { f with accepts := sat64 f.accepts }
      forward (finalVerdict s p h { verdict := .accept } (h.bank.modeOf == 1) at_)
  | .failed r at_ => forward (finalVerdict (countFailure s h true) p h r true at_)
  | _ =>
    let s := if h.desc.kind = 2 then deliverManagement s p h.desc.destination h.rx.bytes
      else if h.desc.kind = 3 then deliverPunt s p h.rx.bytes
      else s
    if h.desc.kind = 5 then forward s
    else if h.desc.kind = 0 || monitors h then
      let s := if egressFits s (otherPort p) h.rx.bytes then
          finalVerdict s p h { verdict := .passUnchecked } (h.bank.modeOf == 1) s.now
        else s
      forward s
    else s

/-- Release every frame of a direction that may leave (R70 to R75): frames released together join the egress queue in
arrival order. -/
def releaseLine (s : State) (p : Nat) : State :=
  (mayLeave (port s p).line false false []).foldl (fun s h => leave s p h) s

/-- Refuse a held frame with a ruling (R113): on an ENFORCE wire it is freed and releases the order at once; on a MONITOR
wire it stays in the line and is forwarded in order.  `suspend` refuses it in MONITOR too (R142). -/
def refuseHeld (s : State) (p : Nat) (h : Held) (r : Ruling) (suspend : Bool) : State :=
  if monitors h && !suspend then
    releaseLine (updHeld (cancelJobs s p h.id) p h.id fun x => { x with stage := .failed r s.now }) p
  else
    releaseLine (dropHeld (finalVerdict (countFailure s h false) p h r false s.now) p h) p

/-! ## Stage 2: admission (R54, R69, R100) -/

/-- The index of a flow context in one way of the table (R54).  Before the seeds are drawn the hash is taken under empty seeds: the spec
says that they are drawn as Passage starts, and not what a frame meets before (assumption 105). -/
def flowIndex (s : State) (key : Bytes) (way : Nat) : Nat :=
  way * 4096 + Config.flowHash (s.psg.seeds.getD way []) key % 4096

/-- Place a context in the table, displacing at most `fuel` others (R54); none where room is still not found. -/
def cuckoo (s : State) : Nat → Tbl Flow → Flow → Option (Tbl Flow)
  | 0, t, f =>
    ((List.range 4).find? fun w => (t.look (flowIndex s f.key w)).isNone).map fun w => t.put (flowIndex s f.key w) f
  | n + 1, t, f =>
    match (List.range 4).find? fun w => (t.look (flowIndex s f.key w)).isNone with
    | some w => some (t.put (flowIndex s f.key w) f)
    | none =>
      let i := flowIndex s f.key (Config.cuckooWay f.key n % 4)
      match t.look i with
      | none => some (t.put i f)
      | some g => cuckoo s n (t.put i f) g

/-- Find the flow of a key, or insert it (R54).  A failed insert leaves every context as it was and is counted. -/
def findOrInsert (s : State) (d : Desc) (key : Bytes) : Option State :=
  match findFlow s key with
  | some _ => some s
  | none =>
    (cuckoo s 32 s.psg.flows { key := key, wire := wireOf d.port, sideLan := sideLan d }).map fun t =>
      { s with psg := { s.psg with flows := t } }

/-- The charge of a frame against its wire's hold quota (R100). -/
def chargeOf (frameLen : Nat) : Nat := (frameLen + 4 + 127) / 128 * 128

/-! ## Stages 4 and 5: key resolution and dispatch (R90 to R95) -/

/-- 16-byte blocks of a job's covered bytes; a DNP3 job begins with its association's challenge (R88, R94). -/
def blocksOf (s : State) (t : Trailer) : Nat :=
  let pre := match t.assoc with
    | some a => (s.psg.assocs.get {} a).message.length
    | none => 0
  (pre + t.covered.length + 15) / 16

/-- AES rounds under a key of the given length (R184). -/
def aesRounds (key : Bytes) : Nat := if key.length = 16 then 10 else 14

/-- Blocks of a running tag job of `n` covered blocks that are computed by now: after the key's 64 cycles a CMAC takes the AES rounds for
its subkey and then for each block, a GMAC twice the rounds and then one cycle for each (R94, R189). -/
def tagDone (s : State) (startedAt : Time) (gmac : Bool) (key : Bytes) (n : Nat) : Nat :=
  let cycles := (s.now - startedAt) / xclkT - 64
  min n (if gmac then cycles - 2 * aesRounds key else cycles / aesRounds key - 1)

/-- Blocks that a lane's running job has still to compute (R94). -/
def remaining (s : State) (r : LaneRun) : Nat := r.job.blocks - tagDone s r.startedAt r.gmac r.key r.job.blocks

/-- AES blocks of a running tag computation that are computed by now: a CMAC's subkey block and its covered blocks, a GMAC's two blocks. -/
def aesDone (s : State) (startedAt : Time) (gmac : Bool) (key : Bytes) (n : Nat) : Nat :=
  let turns := ((s.now - startedAt) / xclkT - 64) / aesRounds key
  min turns (if gmac then 2 else n + 1)

/-- Blocks that a lane's generator has served since its last seed, the running job's among them (R186). -/
def laneServed (s : State) (l : Lane) : Nat :=
  l.mask.blocks + ((l.running.map fun r => aesDone s r.startedAt r.gmac r.key r.job.blocks).getD 0) - l.mask.before

/-- Results that wait for Passage in the crossing to CCLK. -/
def resultsWaiting (s : State) : Nat :=
  (s.psg.ports.map fun p => p.2.line.countP fun h => match h.stage with
    | .result _ => true
    | _ => false).sum

/-- The results' crossing holds off the engines: CCLK stands and its 1,024 entries are full (R15, R17). -/
def resultsHeld (s : State) : Bool := stopped s 0 && decide (1024 ≤ resultsWaiting s)

/-- A lane can take jobs: it is neither out of service, nor unseeded, nor starved (R186, R191). -/
def laneTakes (s : State) (l : Lane) : Bool :=
  (l.state == .idle || l.state == .busy || l.state == .zeroing) && l.mask.seed.isSome && decide (laneServed s l < 1048576)

/-- A lane's outstanding blocks (R94). -/
def laneLoad (s : State) (l : Lane) : Nat :=
  (l.queue.map (·.blocks)).sum + ((l.running.map (remaining s)).getD 0)

/-- The lane a new tag job goes to, or none where it is refused with LANE_QUEUE (R94, R190, R191). -/
def chooseLane (s : State) (q : Port) : Option Nat :=
  let can0 := laneTakes s q.lane0
  let can1 := laneTakes s q.lane1
  let room0 := decide (q.lane0.queue.length < 32) && (can0 || !can1)
  let room1 := decide (q.lane1.queue.length < 32) && (can1 || !can0)
  if room0 && room1 then some (if laneLoad s q.lane1 < laneLoad s q.lane0 then 1 else 0)
  else if room0 then some 0
  else if room1 then some 1
  else none

/-- Change lane `l` of a port. -/
def updLane (s : State) (p l : Nat) (f : Lane → Lane) : State :=
  updPort s p fun q => if l = 0 then { q with lane0 := f q.lane0 } else { q with lane1 := f q.lane1 }

/-- Lane `l` of a port. -/
def lane (s : State) (p l : Nat) : Lane := if l = 0 then (port s p).lane0 else (port s p).lane1

/-- Dispatch a frame whose key passed its checks to the engine of its algorithm (R94, R95): the frame's new stage, or the
refusal for want of queue room. -/
def dispatch (s : State) (p : Nat) (h : Held) (key : Bytes) : State × Except Ruling Stage :=
  let t := h.trailer
  if isLaneAlg t.alg then
    match chooseLane s (port s p) with
    | none => (s, .error { verdict := .holdFull, cause := 0x12 })
    | some l =>
      (updLane s p l fun x => { x with queue := x.queue ++ [{ frame := h.id, blocks := blocksOf s t }] }, .ok (.onLane l))
  else
    let parts := if isHmacAlg t.alg then 1 else (partsOf t.alg key t.auth).length
    if 1024 < s.psg.digestQ.length + parts then (s, .error { verdict := .holdFull, cause := 0x13 })
    else
      let refs := (List.range parts).map fun i => ({ frame := h.id, part := i } : FrameRef)
      ({ s with psg := { s.psg with digestQ := s.psg.digestQ ++ refs } },
       .ok (if isHmacAlg t.alg then .hmac else .signature (partsOf t.alg key t.auth)))

/-- Ask for a page-in, or join the one outstanding for the handle (R91). -/
def askPageIn (s : State) (h : Nat) : State :=
  if s.psg.pageIns.any (·.handle == h) then s
  else { s with psg := { s.psg with pageIns := s.psg.pageIns ++ [{ handle := h, askedAt := s.now }] } }

/-- Stage 4 (R90, R92) and the dispatch that follows it, for a frame already in its direction's line. -/
def judgeKey (s : State) (p : Nat) (h : Held) : State :=
  let h := { h with severity := s.lan.severity, keyNotReady := !s.kst.ready }
  let s := updHeld s p h.id fun _ => h
  match resolve s h.trailer.keyRef with
  | .unavailable c => refuseHeld s p h { verdict := .keyUnknown, cause := c } (c == 8)
  | .absent => refuseHeld s p h { verdict := .keyUnknown, cause := 1 } false
  | .miss =>
    let s := { s with psg := { s.psg with keyMiss := sat64 s.psg.keyMiss } }
    updHeld (askPageIn s h.trailer.keyRef) p h.id fun x => { x with stage := .paging, slotMiss := true }
  | .hit n a v =>
    let s := updHeld (touchSlot s n) p h.id fun x => { x with keyAt := s.now }
    match keyChecks s h.trailer.alg h.desc.classCode a with
    | some r => refuseHeld s p h r false
    | none =>
      let s := updHeld s p h.id fun x => { x with keyAttr := some a }
      match dispatch s p h v with
      | (s, .error r) => refuseHeld s p h r false
      | (s, .ok st) => updHeld s p h.id fun x => { x with stage := st }

/-! ## Configuration swaps (R66, R68) -/

/-- A direction takes a swap at its frame boundary: the mark of its side is set. -/
def takeSide (w : Swap) (side : Nat) : Swap :=
  if side = 0 then { w with takenA := true } else { w with takenB := true }

/-- Whether a side has taken a swap. -/
def taken (w : Swap) (side : Nat) : Bool := if side = 0 then w.takenA else w.takenB

end Sys2Proof.Machine
end

