-- ==== Sys2Proof/Machine/Swap.lean ====
section
/-!
DEFINITION. Staged configuration: commit checks, the taking of a swap at a frame boundary, the hardware commit of
ISOLATE, and the restore record that follows a commit (R63 to R68, R493).
-/

namespace Sys2Proof.Machine

/-- The life-cycle states in which BYPASS needs no certificate (R65 check 3, R418). -/
def bypassOpen (s : State) : Bool := s.lcy.state == 2 || s.lcy.state == 3 || s.lcy.state == 5 || inTest s

/-- Whether the life cycle allows BYPASS on a wire: in FIELD only under a live certificate that grants BYPASS_WIRE and
names the wire (R65 check 3, R413, R418). -/
def bypassAllowed (s : State) (w : Nat) : Bool :=
  if s.lcy.state = 4 then
    match s.lcy.cert with
    | some c => bit (BitVec.ofNat 32 c.rights) 5 && c.wires.getLsbD w
    | none => false
  else bypassOpen s

/-- The approved configuration as a restore record holds it (R493). -/
def restoreRecord (s : State) : Restore :=
  let banks := (List.range 72).map fun w => (w, (wire s w).active)
  let bypassed := (List.range 72).filter fun w => (wire s w).active.modeOf == 3
  { tables := s.psg.tables.keep fun t _ => bit s.psg.resident t
    banks := banks.filter fun e => e.2 ≠ {}
    bypassByCert := if s.lcy.state = 4 then bypassed else []
    ports := (s.psg.ports.map fun e => (e.1, e.2.cfg)).filter fun e => e.2 ≠ ({} : Port).cfg
    poolMap := s.pke.active
    chamber := s.cham.cfg
    lend := s.cham.lend
    tim := [s.tim.cfg, s.tim.ptpPorts, s.tim.lockCfg, s.tim.holdCfg, s.tim.ppsCfg, s.tim.ppsComp]
    vlog := s.psg.vlogCfg }

/-- The step array of a table, as its image holds it. -/
def stepBytes (t : Table) : Bytes := t.steps.flatMap fun x => leBytes 16 x.toNat

/-- The bytes of a restore record.  Its layout is the device's own: field after field, each list after its length (assumption 127). -/
def Restore.bytes (r : Restore) : Bytes :=
  let word (w : Word) : Bytes := leBytes 4 w.toNat
  let words (l : List Word) : Bytes := leBytes 4 l.length ++ l.flatMap word
  let row (e : Nat × Word) : Bytes := leBytes 4 e.1 ++ word e.2
  let rows (l : Tbl Word) : Bytes := leBytes 4 l.length ++ l.flatMap row
  let table (e : Nat × Table) : Bytes :=
    leBytes 4 e.1 ++ leBytes 4 e.2.entry ++ leBytes 4 e.2.maxWalk ++ leBytes 4 e.2.version ++ e.2.digest
      ++ leBytes 4 e.2.steps.length ++ stepBytes e.2
  let bank (e : Nat × Bank) : Bytes :=
    leBytes 4 e.1 ++ words [e.2.mode, e.2.tables, e.2.quota, e.2.pair] ++ rows e.2.cls ++ rows e.2.skew
  leBytes 4 r.tables.length ++ r.tables.flatMap table ++ leBytes 4 r.banks.length ++ r.banks.flatMap bank
    ++ leBytes 4 r.bypassByCert.length ++ r.bypassByCert.flatMap (leBytes 4) ++ rows r.ports ++ words r.poolMap
    ++ words [r.chamber, r.lend, r.vlog] ++ words r.tim

/-- Rewrite the restore record with the approved configuration (R493), sealed under the store key: without a root there is none, and no
record to write. -/
def writeRestore (s : State) : State :=
  if s.kst.root.isNone then s
  else
    let r := restoreRecord s
    let (box, s) := wrapNew s (wrapKey s) r.bytes
    { s with die := { s.die with restore := some (r, box) } }

/-- A restore record passes its tag under the present store key (R493, R494). -/
def restoreSound (s : State) (r : Restore × Sealed) : Bool := r.2.unwrap (wrapKey s) == some r.1.bytes

/-- A direction takes the swaps that wait for its frame boundary (R66, R68): an ISOLATE commit after a pending one. -/
def takeSwaps (s : State) (p : Nat) : State :=
  let w := wireOf p
  let side := sideOf p
  let take (s : State) (sw : Swap) : State := updPort s p fun q => { q with bank := sw.bank, gen := sw.gen }
  let s := match (wire s w).pending with
    | some sw => if taken sw side then s
      else updWire (take s sw) w fun x => { x with pending := some (takeSide sw side) }
    | none => s
  match (wire s w).isolating with
  | some sw => if taken sw side then s
    else updWire (take s sw) w fun x => { x with isolating := some (takeSide sw side) }
  | none => s

/-- Once both directions have taken a swap it stands: a commit swaps the banks and leaves the old content in SHADOW
(R66); an ISOLATE commit puts its content in ACTIVE alone (R68).  SHADOW_LOCKED then stands while a frame of an earlier
generation is held (R67).  The command that asked for the commit is answered with the new generation, after the restore
record is rewritten (R77, R493). -/
def finishSwaps (s : State) (w : Nat) : State :=
  let s := match (wire s w).pending with
    | some sw =>
      if sw.takenA && sw.takenB then
        let reply := (wire s w).waiter
        let s := updWire s w fun x => { x with
          active := sw.bank, shadow := x.active, gen := sw.gen, pending := none, commitStatus := 0, commitField := 0,
          locked := (liveGens s w).any (· != sw.gen), waiter := none }
        match reply with
        | some r => answer (writeRestore s) r {
            status := .ok, items := [.generation sw.gen], reasons := (wire s w).reasons }
        | none => s
      else s
    | none => s
  match (wire s w).isolating with
  | some sw =>
    if sw.takenA && sw.takenB then
      let s := updWire s w fun x => { x with active := sw.bank, gen := sw.gen, isolating := none }
      let s := updWire s w fun x => { x with locked := x.locked && (liveGens s w).any (· != sw.gen) }
      writeRestore s
    else s
  | none => s

/-- The lane of a direction is idle, or its link is down: it takes a swap at once (R66). -/
def atBoundary (s : State) (p : Nat) : Bool := (port s p).walk.isNone || !(port s p).linkUp

/-- Let both directions of a wire take what they can take at once. -/
def settleSwaps (s : State) (w : Nat) : State :=
  let s := if atBoundary s (2 * w) then takeSwaps s (2 * w) else s
  let s := if atBoundary s (2 * w + 1) then takeSwaps s (2 * w + 1) else s
  finishSwaps s w

/-! ## Commit checks (R65, R121) -/

/-- The banks of another wire that the sums of check 2 take (R65): ACTIVE, and SHADOW while its commit is pending. -/
def countedBanks (x : Wire) : List Bank := if x.pending.isSome then [x.active, x.shadow] else [x.active]

/-- The banks the sums of check 2 take for each wire when wire `w` commits. -/
def banksFor (s : State) (w v : Nat) : List Bank := if v = w then [(wire s w).shadow] else countedBanks (wire s v)

/-- Chamber-link ports after the swap: a port marked in either bank counts once. -/
def chamberCount (s : State) (w : Nat) : Nat :=
  ((List.range 72).map fun v =>
    (if (banksFor s w v).any (·.chamber 0) then 1 else 0) + (if (banksFor s w v).any (·.chamber 1) then 1 else 0)).sum

/-- The total of all wires' quotas after the swap, each at the larger of its values, in KiB. -/
def quotaTotal (s : State) (w : Nat) : Nat :=
  ((List.range 72).map fun v => ((banksFor s w v).map (·.quotaKib)).foldl max 0).sum

/-- A table a side selects is not resident. -/
def tableMissing (s : State) (b : Bank) (side : Nat) : Bool :=
  match b.table side with
  | some t => !bit s.psg.resident t
  | none => false

/-- The pair rules of R121 are broken. -/
def pairBroken (s : State) (w : Nat) (b : Bank) : Bool :=
  b.paired && (b.prpLan == 0 || decide (71 < b.partnerWire)
    || (b.partnerMember == s.id.chamberId && b.partnerWire == w))

/-- Check 2 of R65: the bank offset of the first offending register, if any. -/
def badField (s : State) (w : Nat) : Option Nat :=
  let b := (wire s w).shadow
  if b.prpLan = 3 || 16 < chamberCount s w then some 0
  else if tableMissing s b 0 || tableMissing s b 1 then some 4
  else if 40 * 1024 < quotaTotal s w then some 8
  else if pairBroken s w b then some 0xC
  else
    let classes := (List.range 64).filterMap fun c =>
      if b.holdUs c = 0 || 2000 < b.holdUs c then some (0x200 + 8 * c)
      else if b.skew100us c = 0 then some (0x204 + 8 * c)
      else none
    classes.head?

/-- What a swap changes beyond MODE to ENFORCE or ISOLATE, QUOTA_KIB and HOLD_TIME_US (R65 check 4). -/
def needsGrant (old new : Bank) : Bool :=
  let free := new.modeOf == 0 || new.modeOf == 2
  let strip (b : Bank) : List Word :=
    [if free then setField b.mode 1 0 0 else b.mode, b.tables, b.pair]
      ++ (List.range 64).flatMap fun c => [setField (b.classCfg c) 10 0 0, b.skew.get 500 c]
  strip old != strip new

/-- The checks of R65 in order: the status and offending field of the first that fails.  DESIGN CHOICE: check 1 counts an outstanding
hardware commit of ISOLATE with the pending ones (assumption 109). -/
def commitCheck (s : State) (w : Nat) : Option (Status × Nat) :=
  let x := wire s w
  if x.pending.isSome || x.locked || x.isolating.isSome || !s.psg.restored then some (.busyLocked, 0)
  else match badField s w with
    | some f => some (.invalidParameter, f)
    | none =>
      if x.shadow.modeOf = 3 && !bypassAllowed s w then some (.lifecycleForbids, 0)
      else if needsGrant x.active x.shadow && !x.grant then some (.quorumMissing, 0)
      else none

/-- The numeric code of a status (R7). -/
def Status.code : Status → Nat
  | .ok => 0x0000 | .pending => 0x0001 | .busyLocked => 0x0010 | .notReady => 0x0011 | .invalidCommand => 0x0020
  | .invalidLength => 0x0021 | .lengthMismatch => 0x0022 | .invalidParameter => 0x0023 | .invalidKey => 0x0030
  | .invalidSignature => 0x0031 | .invalidInput => 0x0032 | .curveRejected => 0x0033 | .tagMismatch => 0x0034
  | .notPermitted => 0x0040 | .quorumMissing => 0x0041 | .lifecycleForbids => 0x0042 | .resultNotReady => 0x0050
  | .aborted => 0x0051 | .rngDegraded => 0x0060 | .rngStarting => 0x0061 | .vaultReadOnly => 0x0070
  | .vaultIntegrity => 0x0071 | .vaultFull => 0x0072 | .faultDetected => 0x0080 | .secureWorldDown => 0x0081
  | .queueDisabled => 0x0090 | .suspended => 0x00A0 | .internal => 0x00FF

/-- The number of the generation after `g`: never 0 (R66). -/
def nextGen (g : Nat) : Nat := if g = 2 ^ 32 - 1 then 1 else g + 1

/-- Answer a commit that does not go ahead, with the reason codes of its records. -/
def answerCommit (s : State) (r : Reply) (st : Status) (reasons : List Nat) : State :=
  answer s r { status := st, items := if st = .busyLocked then [.holder 0xFFFFFFFF] else [], reasons := reasons }

/-- A commit request on a wire (R65, R66): the checks, and on success the pending swap, which each direction takes at its
frame boundary.  GRANT clears whether it succeeds or fails.  `reply` is the command that waits for it. -/
def requestCommit (s : State) (w : Nat) (reply : Option Reply) : State :=
  let stop (st : Status) (f : Nat) : State :=
    let s := updWire s w fun x => { x with grant := false, commitStatus := Status.code st, commitField := f }
    match reply with
    | some r => answerCommit s r st (wire s w).reasons
    | none => s
  if s.lcy.state = 6 then stop .secureWorldDown 0
  else match commitCheck s w with
    | some (st, f) => stop st f
    | none =>
      let s := updWire s w fun x => { x with
        grant := false, waiter := reply,
        pending := some { bank := x.shadow, gen := nextGen x.gen, takenA := false, takenB := false } }
      settleSwaps s w

/-- Copy ACTIVE into SHADOW, unless a commit is pending or SHADOW is locked (R63). -/
def discardShadow (s : State) (w : Nat) : State :=
  updWire s w fun x => if x.pending.isSome || x.locked then x else { x with shadow := x.active }

/-- The hardware commit of ISOLATE to a BYPASS wire whose authority has ended (R68): it passes no check, cancels a pending
commit, leaves SHADOW as staged, and takes the generation after every number given out. -/
def isolateWire (s : State) (w : Nat) : State :=
  let x := wire s w
  let started := match x.pending with
    | some sw => sw.takenA || sw.takenB
    | none => false
  let last := match x.pending with
    | some sw => if started then sw.gen else x.gen
    | none => x.gen
  let content : Bank := { x.active with mode := setField x.active.mode 1 0 2 }
  let s := match x.waiter with
    | some r => answerCommit s r .busyLocked x.reasons
    | none => s
  let s := updWire s w fun x => { x with
    pending := none, waiter := none, grant := if x.pending.isSome then false else x.grant,
    commitStatus := if x.pending.isSome then Status.code .busyLocked else x.commitStatus,
    locked := x.locked || started,
    isolating := some { bank := content, gen := nextGen last, takenA := false, takenB := false } }
  let s := event s 35 w (nextGen last)
  settleSwaps s w

/-- Every wire in BYPASS, or with a commit to BYPASS accepted and pending, that the present life-cycle state and certificate no longer
allow goes to ISOLATE (R68; assumption 110). -/
def endBypass (s : State) : State :=
  (List.range 72).foldl (fun s w =>
    let x := wire s w
    let bypass := x.active.modeOf == 3 || x.pending.any fun p => p.bank.modeOf == 3
    if bypass && x.isolating.isNone && !bypassAllowed s w then isolateWire s w else s) s

end Sys2Proof.Machine
end

