-- ==== Sys2Proof/Machine/RngOps.lean ====
section
/-!
DEFINITION. The random number generator's shared operations: cells and their tests, the entropy FIFO, instances and
draws (R219 to R238).
-/

namespace Sys2Proof.Machine

/-- Set or clear a bit of ID_READY (R492). -/
def setReady (s : State) (i : Nat) (b : Bool) : State := { s with id := { s.id with ready := setBit s.id.ready i b } }

/-- Noise cell `c`. -/
def cell (s : State) (c : Nat) : Cell := s.rng.cells.get {} c
/-- Change noise cell `c`. -/
def updCell (s : State) (c : Nat) (f : Cell → Cell) : State :=
  { s with rng := { s.rng with cells := s.rng.cells.put c (f (cell s c)) } }
/-- DRBG instance `i`. -/
def inst (s : State) (i : Nat) : Instance := s.rng.instances.get {} i
/-- Change DRBG instance `i`. -/
def updInst (s : State) (i : Nat) (f : Instance → Instance) : State :=
  { s with rng := { s.rng with instances := s.rng.instances.put i (f (inst s i)) } }

/-- ACTIVE cells (R224). -/
def activeCells (s : State) : Nat := ((List.range 16).filter fun c => (cell s c).state == 1).length

/-- Seeding goes on: at least 4 ACTIVE cells, a sound conditioner, and no test source (R224, R237, R238). -/
def maySeed (s : State) : Bool := decide (4 ≤ activeCells s) && !s.rng.condFailed && !s.rng.testSource

/-- Follow a change of the ACTIVE cells: a stop of seeding zeroes the FIFO, and Strata records each stop and each
resumption; each cell credits blocks again from its next block boundary (R224). -/
def refreshSeeding (s : State) : State :=
  if maySeed s = s.rng.seeding then s
  else if maySeed s then
    let s := (List.range 16).foldl (fun s c => updCell s c fun x => { x with skip := !x.block.isEmpty }) s
    let t := { s with rng := { s.rng with seeding := true, stopped := false } }
    if s.rng.stopped then event t 12 (activeCells s) 0 else t
  else
    let s := { s with rng := { s.rng with seeding := false, fifo := [] } }
    if s.rng.testSource then s
    else event { s with rng := { s.rng with stopped := true } } 11 (activeCells s) 0

/-- The RNG bit of ID_READY is set at the end of start-up (R233): the known-answer tests done, at least 4 ACTIVE cells, every
instance that has not FAILED instantiated, and at least one instantiated. -/
def refreshReady (s : State) : State :=
  let live := (List.range 8).filter fun i => (inst s i).state != 4
  let all := live.all fun i => (inst s i).state == 1 || (inst s i).state == 2 || (inst s i).state == 3
  let ok := s.rng.katDone && !s.rng.testSource && !s.rng.failed && !live.isEmpty && all && decide (4 ≤ activeCells s)
  if ok then setReady { s with rng := { s.rng with ready := true } } 3 true else s

/-- Calls a request of `n` bytes takes (R227). -/
def callsFor (n : Nat) : Nat := (n + 511) / 512

/-- The instance a request homed on `h` goes to: the next that is not FAILED, in ascending order modulo 8 (R228). -/
def homeOf (s : State) (h : Nat) : Option Nat :=
  ((List.range 8).map fun k => (h + k) % 8).find? fun i => (inst s i).state != 4

/-- RESEED_INTERVAL in calls (R230). -/
def reseedInterval (s : State) : Nat := field s.rng.reseedCfg 14 0 * 1024

/-- Count calls served by an instance: at RESEED_INTERVAL it asks for a reseed and enters STRETCHING; at 2^24 it is
EXHAUSTED (R230, R231). -/
def countCalls (s : State) (i k : Nat) : State :=
  updInst s i fun x =>
    let c := x.calls + k
    { x with
      calls := c, total := x.total + k,
      askedAt := if reseedInterval s ≤ c && x.askedAt.isNone then some s.now else x.askedAt,
      state := if 2 ^ 24 ≤ c then 3 else if reseedInterval s ≤ c then 2 else x.state }

/-- An instance gives `n` bytes in `k` calls (R226, R227). -/
def instCalls (s : State) (i k n : Nat) : Bytes × State :=
  let (b, d) := (inst s i).drbg.request k n
  (b, countCalls (updInst s i fun x => { x with drbg := d }) i k)

/-- Count `k` requests that an instance has refused (R240). -/
def countRefused (s : State) (i k : Nat) : State := updInst s i fun x => { x with refused := satAdd 32 x.refused k }

/-! ## Mask generators (R186) -/

/-- Service MAC engine `e`. -/
def svc (s : State) (e : Nat) : Svc := s.eng.svcs.get {} e
/-- Change service MAC engine `e`. -/
def updSvc (s : State) (e : Nat) (f : Svc → Svc) : State :=
  { s with eng := { s.eng with svcs := s.eng.svcs.put e (f (svc s e)) } }

/-- Change the mask generator of an engine by its number: lane 2n + l, or service MAC engine 288 + s. -/
def updMask (s : State) (e : Nat) (f : Mask → Mask) : State :=
  if e < 288 then updLane s (e / 2) (e % 2) fun x => { x with mask := f x.mask }
  else updSvc s (e - 288) fun x => { x with mask := f x.mask }

/-- AES blocks of a running segment that are computed by now. -/
def svcDone (s : State) (r : SvcRun) : Nat :=
  let cycles := (s.now - r.startAt) / xclkT - (if r.job.block.flags % 2 = 1 then 64 else 0)
  min r.blocks (cycles / r.rounds)

/-- Blocks that a service engine's generator has served since its last seed, the running segment's among them. -/
def svcServed (s : State) (x : Svc) : Nat :=
  x.mask.blocks + ((x.hold.bind (·.running)).map (svcDone s)).getD 0 - x.mask.before

/-- Blocks that the generator of an engine has served since its last seed. -/
def maskServed (s : State) (e : Nat) : Nat :=
  if e < 288 then laneServed s (lane s (e / 2) (e % 2)) else svcServed s (svc s (e - 288))

/-- A generator is starved. -/
def starved (s : State) (e : Nat) : Bool := decide (1048576 ≤ maskServed s e)

/-- Count the blocks of an ended job: those the present seed has served. -/
def countMask (s : State) (e n : Nat) : State := updMask s e fun m => { m with blocks := m.blocks + n - m.before, before := 0 }

/-- A refused draw: the generator carries on and retries after a further 4,096 blocks. -/
def maskRefused (s : State) (e : Nat) : State :=
  let n := maskServed s e
  updMask s e fun m => { m with refused := sat32 m.refused, askAt := n + 4096, asked := false }

/-! ## The queues of an instance (R229, R231) -/

/-- Deliver the bytes of a served request. -/
def deliverDraw (s : State) (r : DrawReq) (b : Bytes) : State :=
  match r.who with
  | .mask e => updMask s e fun m => { m with next := some b }
  | .reply (.ring id) => endRing s id { status := .ok, outLen := b.length, outs := [(r.addr, b)] }
  | .reply rp => answer s rp { status := .ok, items := [.blob b] }

/-- Answer a request with RNG_DEGRADED and no bytes. -/
def refuseDraw (s : State) (r : DrawReq) : State :=
  match r.who with
  | .mask e => maskRefused s e
  | .reply rp => answerStatus s rp .rngDegraded

/-- The request that an instance serves next: one whose calls have begun, else the oldest of the priority queue, else of the
normal queue; and whether it stands in the priority queue. -/
def nextDraw (x : Instance) : Option (DrawReq × Bool) :=
  match x.priority, x.normal with
  | p :: _, n :: _ => if n.got.isEmpty then some (p, true) else some (n, false)
  | p :: _, [] => some (p, true)
  | [], n :: _ => some (n, false)
  | [], [] => none

/-- Take the request just served, or refused, off its queue; or put it back with what it has got. -/
def putDraw (s : State) (i : Nat) (priority : Bool) (r : Option DrawReq) : State :=
  updInst s i fun x =>
    if priority then { x with priority := r.toList ++ x.priority.drop 1 } else { x with normal := r.toList ++ x.normal.drop 1 }

/-- Answer every request that waits at an instance with RNG_DEGRADED. -/
def refuseWaiting (s : State) (i : Nat) : State :=
  let l := (inst s i).priority ++ (inst s i).normal
  l.foldl refuseDraw (countRefused (updInst s i fun x => { x with priority := [], normal := [] }) i l.length)

/-- An instance that has become EXHAUSTED answers every waiting request with RNG_DEGRADED (R231). -/
def drainExhausted (s : State) (i : Nat) : State := if (inst s i).state = 3 then refuseWaiting s i else s

/-- No command that runs now is approved: those without a final response (R365). -/
def disapprove (s : State) : State :=
  { s with
    mbx := { s.mbx with boxes := s.mbx.boxes.map fun e =>
      (e.1, { e.2 with outstanding := e.2.outstanding.map fun o => { o with unapproved := o.unapproved || o.answer.isNone } }) }
    wld := { s.wld with calls := s.wld.calls.map fun k => { k with unapproved := k.unapproved || k.answer.isNone } } }

/-- The RNG enters FAILED: every waiting request is answered RNG_DEGRADED, FAULT rises, and no command that runs is approved (R234,
R365). -/
def failRng (s : State) : State :=
  if s.rng.failed then s
  else
    let s := disapprove (setReady { s with rng := { s.rng with failed := true, ready := false } } 3 false)
    (List.range 8).foldl refuseWaiting (faultAlarm s 6 0)

/-- One generate call of up to 512 bytes for the next request of an instance; a request whose calls would take CALLS past 2^24 is refused
whole (R227, R231). -/
def serveCall (s : State) (i : Nat) : State :=
  match nextDraw (inst s i) with
  | none => s
  | some (r, priority) =>
    if r.got.isEmpty && decide (2 ^ 24 < (inst s i).calls + callsFor r.size) then
      refuseDraw (countRefused (putDraw s i priority none) i 1) r
    else
      let (b, s) := instCalls s i 1 (min 512 (r.size - r.got.length))
      let b := r.got ++ b
      let s := if r.size ≤ b.length then deliverDraw (putDraw s i priority none) r b
        else putDraw s i priority (some { r with got := b })
      drainExhausted s i

/-- The calls that stand before a new request at an instance: those of the request being served and of its own queue, and for the normal
queue those of the priority queue too (R229). -/
def callsAhead (x : Instance) (priority : Bool) : Nat :=
  let calls (l : List DrawReq) : Nat := (l.map fun r => callsFor (r.size - r.got.length)).sum
  calls x.priority + calls (if priority then x.normal.filter (!·.got.isEmpty) else x.normal)

/-- Serve what stands before a new request, up to `fuel` calls. -/
def serveAhead (priority : Bool) : Nat → State → Nat → State
  | 0, s, _ => s
  | n + 1, s, i => if callsAhead (inst s i) priority = 0 then s else serveAhead priority n (serveCall s i) i

/-- Draw `n` bytes for a consumer homed on instance `h` (R227 to R231): the bytes, once the requests before it have had theirs, or
RNG_STARTING while the instance is not yet serving, or RNG_DEGRADED. -/
def draw (s : State) (h : Nat) (priority : Bool) (n : Nat) : State × Except Status Bytes :=
  let i := (homeOf s h).getD h
  let x := inst s i
  if s.rng.failed || x.state = 4 then (countRefused s i 1, .error .rngDegraded)
  else if x.state = 0 || x.state = 5 then (s, .error .rngStarting)
  else
    let s := serveAhead priority (callsAhead x priority) s i
    if (inst s i).state = 3 || 2 ^ 24 < (inst s i).calls + callsFor n then (countRefused s i 1, .error .rngDegraded)
    else
      let (b, s) := instCalls s i (callsFor n) n
      (drainExhausted s i, .ok b)

/-- Queue a request at its home instance (R228, R229), or answer it at once where it is refused whole (R231, R234). -/
def queueDraw (s : State) (h : Nat) (priority : Bool) (r : DrawReq) : State :=
  let i := (homeOf s h).getD h
  let x := inst s i
  if s.rng.failed || x.state = 4 || x.state = 3 || 2 ^ 24 < x.calls + callsFor r.size then refuseDraw (countRefused s i 1) r
  else updInst s i fun x =>
    if priority then { x with priority := x.priority ++ [r] } else { x with normal := x.normal ++ [r] }

/-- A request of a reply waits at an instance that is not serving: a status poll of it reads RNG_STARTING (R233). -/
def drawHeld (s : State) (r : Reply) : Bool :=
  s.rng.instances.any fun e => !(e.2.state == 1 || e.2.state == 2) && (e.2.priority ++ e.2.normal).any (·.who == .reply r)

/-! ## Health tests (R222, R225) -/

/-- The repetition count test on one sample: the cell after it, and whether it fails here (R222). -/
def rctStep (c : Cell) (b : Bool) : Cell × Bool :=
  let n := if c.runLen ≠ 0 && c.runBit == b then c.runLen + 1 else 1
  if n = 41 then ({ c with runBit := b, runLen := 0, rct := min (c.rct + 1) 65535 }, true)
  else ({ c with runBit := b, runLen := n }, false)

/-- The adaptive proportion test on one sample: windows of 1,024 samples (R222). -/
def aptStep (c : Cell) (b : Bool) : Cell × Bool :=
  let c := if c.aptPos = 0 then { c with aptFirst := b, aptHits := 0 } else c
  let hits := c.aptHits + (if b == c.aptFirst then 1 else 0)
  if c.aptPos = 1023 then
    let fails := decide (792 ≤ hits)
    ({ c with aptPos := 0, aptHits := 0, apt := if fails then min (c.apt + 1) 65535 else c.apt }, fails)
  else ({ c with aptPos := c.aptPos + 1, aptHits := hits }, false)

/-- The estimators' running counts after one sample (R225). -/
def estimate (c : Cell) (b : Bool) : Cell :=
  { c with
    spanPos := c.spanPos + 1
    onesNow := c.onesNow + (if b then 1 else 0)
    agreeNow := c.agreeNow.mapIdx fun k n => match c.lastBits[k]? with
      | some x => if x == b then n + 1 else n
      | none => n
    lastBits := (b :: c.lastBits).take 8 }

/-- The end of a span: the nine values are replaced together and SPAN rises (R225). -/
def endSpan (c : Cell) : Cell :=
  { c with
    ones := c.onesNow, agree := c.agreeNow, span := (c.span + 1) % 256, spanPos := 0, onesNow := 0,
    agreeNow := List.replicate 8 0, lastBits := [] }

/-- The bytes of a block's 768 samples, sample 0 being bit 0 of the first byte (R220, R241). -/
def packBits : Nat → List Bool → Bytes
  | 0, _ => []
  | n + 1, l => BitVec.ofNat 8 ((l.take 8).foldr (fun b a => a * 2 + (if b then 1 else 0)) 0) :: packBits n (l.drop 8)

/-- A credited block is conditioned into the FIFO; at a full FIFO it is discarded and counted (R220).  With the test source
in use the result goes to RNG_TEST_COND alone (R238). -/
def creditBlock (s : State) (block : List Bool) : State :=
  if s.rng.testSource then
    { s with rng := { s.rng with testCond := Config.sha384 (packBits 96 block), condBlocks := s.rng.condBlocks + 1 } }
  else if 8 ≤ s.rng.fifo.length then { s with rng := { s.rng with condDropped := sat32 s.rng.condDropped } }
  else { s with rng := { s.rng with
    fifo := s.rng.fifo ++ [Config.sha384 (packBits 96 block)]
    condBlocks := s.rng.condBlocks + 1 } }

/-- Step 4 of start-up has ended with fewer than 4 cells (R234). -/
def failFewCells (s : State) : State :=
  if (List.range 16).all (fun c => (cell s c).state != 0) && decide (activeCells s < 4) then failRng s else s

/-- A retest that brings the ACTIVE count to 4 with a sound conditioner ends FAILED (R234). -/
def leaveFailed (s : State) : State :=
  if s.rng.failed && decide (4 ≤ activeCells s) && !s.rng.condFailed then
    { s with rng := { s.rng with failed := false, resumed := true } }
  else s

/-- A cell ends its 1,024 start-up or retest samples (R233, R242): without a failure it becomes ACTIVE, else REMOVED. -/
def endCellTest (s : State) (c : Nat) : State :=
  let x := cell s c
  let ok := !x.testFails
  let reply := x.retestFor
  let starts := x.state == 0
  let s := updCell s c fun x => { x with
    state := if ok then 1 else 2, testPos := 0, testFails := false, block := [], blockFails := false,
    retestFor := none }
  let s := refreshSeeding s
  let s := if starts then failFewCells s else if ok then leaveFailed s else s
  match reply with
  | some r => answerStatus s r (if ok then .ok else .faultDetected)
  | none => s

/-- Blocks are credited (R224): while seeding goes on, or with the test source in use, with at least 4 ACTIVE cells and a sound
conditioner. -/
def credits (s : State) : Bool :=
  if s.rng.testSource then decide (4 ≤ activeCells s) && !s.rng.condFailed else s.rng.seeding

/-- A cell's block ends (R220, R223): credited if it passed, the cell is ACTIVE and seeding goes on; else it counts as bad,
and a cell whose RECENT exceeds FAIL_LIMIT is REMOVED. -/
def endBlock (s : State) (c : Nat) : State :=
  let x := cell s c
  let limit := field s.rng.cfg 7 0
  let window := field s.rng.cfg 31 16
  let recent := (x.blockFails :: x.recent).take window
  let removed := x.state = 1 && decide (limit < recent.count true)
  let s := updCell s c fun y => { y with
    block := [], blockFails := false, skip := false, recent := recent, bad := if x.blockFails then sat32 y.bad else y.bad,
    state := if removed then 2 else y.state }
  let s := if !x.blockFails && !x.skip && x.state == 1 && credits s then
      creditBlock s x.block.reverse
    else s
  if removed then refreshSeeding (event s 10 c (recent.count true)) else s

/-- One sample of one cell passes through the tests (R219 to R225, R233). -/
def cellSample (s : State) (c : Nat) (b : Bool) : State :=
  let x := if (cell s c).spanPos = 65536 then endSpan (cell s c) else cell s c
  let (x, f1) := rctStep x b
  let (x, f2) := aptStep x b
  let x := estimate x b
  if x.state = 0 || x.state = 3 then
    let s := updCell s c fun _ => { x with testPos := x.testPos + 1, testFails := x.testFails || f1 || f2 }
    if x.testPos + 1 = 1024 then endCellTest s c else s
  else
    let s := updCell s c fun _ => { x with block := b :: x.block, blockFails := x.blockFails || f1 || f2 }
    if x.block.length + 1 = 768 then endBlock s c else s

/-- Take the oldest FIFO result for an instance (R221): instantiation or reseed (R226), CALLS starting from 0. -/
def seedInstance (s : State) (i : Nat) : State :=
  match s.rng.fifo with
  | [] => s
  | e :: rest =>
    let s := { s with rng := { s.rng with fifo := rest } }
    updInst s i fun x => { x with
      drbg := if x.state = 0 then drbgInstantiate e s.id.serial i else x.drbg.update e
      state := 1, calls := 0, askedAt := none,
      reseeds := if x.state = 0 then x.reseeds else sat64 x.reseeds }

/-- S3 or S4: every working state and FIFO result is zeroed, and each instance becomes STARTUP (R235). -/
def zeroRng (s : State) : State :=
  let s := (List.range 8).foldl (fun s i => updInst s i fun x =>
    if x.state = 4 then x else { x with state := 0, drbg := {}, calls := 0, askedAt := none }) s
  { s with rng := { s.rng with fifo := [] } }

end Sys2Proof.Machine
end

