-- ==== Sys2Proof/Machine/Bodies.lean ====
section
/-!
DEFINITION. Command bodies: the item types of R355, the items each command takes (R356), the attribute word of R250, and
the byte strings that digests cover.
-/

namespace Sys2Proof

/-! ## Items (R354, R355) -/

/-- An item as it stands in an envelope: TYPE, LEN, value, padding (R354). -/
def itemBytes (i : Item) : Bytes := padTo 4 (leBytes 2 i.type ++ leBytes 2 i.value.length ++ i.value)

/-- The bytes of a command body. -/
def Body.bytes : Body → Bytes
  | .items l => l.flatMap itemBytes
  | .raw b => b

/-- The items of a command. -/
def Cmd.itemList (c : Cmd) : List Item :=
  match c.body with
  | .items l => l
  | .raw _ => []

/-- The value of the first item of a type, if the command carries one. -/
def Cmd.value (c : Cmd) (ty : Nat) : Option Bytes := (c.itemList.find? (·.type == ty)).map (·.value)

/-- The values of every item of a type, in order. -/
def Cmd.values (c : Cmd) (ty : Nat) : List Bytes := (c.itemList.filter (·.type == ty)).map (·.value)

/-- The value of an item as a little-endian number; 0 where the command carries none. -/
def Cmd.nat (c : Cmd) (ty : Nat) : Nat := leNat ((c.value ty).getD [])

/-- The bytes of an item; none where the command carries none. -/
def Cmd.bytes (c : Cmd) (ty : Nat) : Bytes := (c.value ty).getD []

/-- The REG_WRITE items of a command: offset and value (R355). -/
def Cmd.regWrites (c : Cmd) : List (Nat × Word) :=
  (c.values 0x16).map fun v => (leNat (v.take 4), BitVec.ofNat 32 (leNat (v.drop 4)))

namespace Machine

/-- A returned value as an item of a response body (R354, R355): a value that fits no type is a BLOB, and so are several statuses
together, two bytes each (assumption 118). -/
def RItem.bytes : RItem → Bytes
  | .reg a v => itemBytes { type := 0x38, value := leBytes 4 a ++ leBytes 4 v.toNat }
  | .holder n => itemBytes { type := 0x3A, value := leBytes 4 n }
  | .handle n => itemBytes { type := 0x01, value := leBytes 4 n }
  | .number n => itemBytes { type := 0x3A, value := leBytes 4 n }
  | .generation n => itemBytes { type := 0x39, value := leBytes 4 n }
  | .nonce b => itemBytes { type := 0x13, value := b }
  | .timeSec n => itemBytes { type := 0x32, value := leBytes 8 n }
  | .blob b => itemBytes { type := 0x3A, value := b }
  | .statuses l => itemBytes { type := 0x3A, value := l.flatMap fun st => leBytes 2 (Status.code st) }
  | .item ty b => itemBytes { type := ty, value := b }

end Machine

end Sys2Proof

namespace Sys2Proof.Machine

/-- The length of a credential's public key by SIG_ALG, in its R148 encoding (R271, R355); a hybrid key is P-384 X ‖ Y and
the ML-DSA-65 key. -/
def credKeyLen (alg : Nat) : Nat :=
  if alg = 0x31 then 97 else if alg = 0x32 then 32 else if alg = 0x41 then 1952 else if alg = 0x52 then 2048 else 0

/-- The stored form of a credential's key: a P-384 key without its 0x04 prefix (R148, R251). -/
def storedCred (alg : Nat) (key : Bytes) : Bytes := if alg = 0x31 then key.drop 1 else key

/-- The fixed lengths of R355 that are one number. -/
def itemFixed : List (Nat × Nat) :=
  [(0x01, 4), (0x02, 4), (0x03, 16), (0x04, 2), (0x05, 2), (0x06, 1), (0x07, 2), (0x08, 1), (0x09, 1), (0x0A, 1),
   (0x0B, 1), (0x0C, 1), (0x0D, 1), (0x0E, 2), (0x0F, 2), (0x10, 4), (0x11, 8), (0x12, 4), (0x13, 32), (0x14, 2),
   (0x15, 48), (0x16, 8), (0x17, 12), (0x18, 1), (0x1B, 4), (0x1C, 1), (0x1D, 1), (0x1F, 1), (0x21, 4), (0x22, 8),
   (0x23, 12), (0x24, 4673), (0x26, 32), (0x27, 4), (0x28, 1), (0x29, 2), (0x2A, 16), (0x2C, 4),
   (0x2D, 2), (0x30, 2), (0x31, 56), (0x32, 8), (0x33, 16), (0x34, 4), (0x36, 1), (0x37, 4096)]

/-- A LEN that an item's type allows (R355).  The lengths of LABEL and CONTEXT are judged by KST_DERIVE itself
(R261), that of CIPHERTEXT by KST_TRANSPORT_ACCEPT (R256), those of FRAME and CHALLENGE by PSG_INJECT and PSG_DNP3_CHALLENGE (R77,
R119). -/
def itemLenOk (i : Item) : Bool :=
  let n := i.value.length
  if i.type = 0x19 then true
  else if i.type = 0x1A then true
  else if i.type = 0x1E then n == 4 + credKeyLen (leNat (slice i.value 1 1)) && 4 < n
  else if i.type = 0x20 then n == 4 + credKeyLen (leNat (slice i.value 2 1)) && 4 < n
  else if i.type = 0x25 then true
  else if i.type = 0x2B then true
  else if i.type = 0x2E then true
  else if i.type = 0x2F then 9 ≤ n && n ≤ 65544
  else if i.type = 0x35 then 14 ≤ n && n ≤ 128
  else itemFixed.lookup i.type == some n

/-- Items a command takes: type, least and greatest count (R356). -/
abbrev ItemRules := List (Nat × Nat × Nat)

/-- The items of the management and key commands. -/
def itemRulesKeys : List (Nat × ItemRules) :=
  [(0x0110, [(0x0C, 1, 1), (0x0D, 1, 1)]), (0x0111, [(0x16, 1, 1)]),
   (0x0201, [(0x02, 1, 1), (0x03, 1, 1)]), (0x0202, [(0x01, 1, 1)]), (0x0204, [(0x01, 1, 1)]),
   (0x0203, [(0x01, 1, 1), (0x03, 1, 1)]), (0x0205, [(0x01, 0, 1), (0x12, 0, 1), (0x13, 1, 1)]),
   (0x0211, [(0x12, 1, 1), (0x25, 1, 1), (0x26, 1, 1)]), (0x0213, [(0x12, 1, 1)]),
   (0x0214, [(0x01, 1, 1), (0x24, 1, 1)]),
   (0x0220, [(0x01, 1, 1), (0x02, 1, 1), (0x03, 1, 1), (0x18, 1, 1), (0x19, 1, 1), (0x1A, 0, 1)]),
   (0x0230, [(0x04, 1, 1), (0x1E, 2, 16), (0x21, 1, 1), (0x22, 1, 1)]), (0x0231, [(0x04, 1, 1)]),
   (0x0233, [(0x21, 0, 1), (0x22, 0, 1)]), (0x0234, [(0x23, 1, 1)]), (0x0238, [(0x1E, 1, 1)]),
   (0x0239, [(0x1F, 1, 1)]), (0x023A, [(0x20, 1, 1), (0x27, 1, 1)]), (0x023C, [(0x0E, 1, 1), (0x27, 1, 1)]),
   (0x0240, [(0x04, 1, 1), (0x14, 1, 1), (0x15, 1, 1)]), (0x0241, [(0x13, 1, 1)]),
   (0x0250, [(0x1E, 2, 16), (0x21, 1, 1)])]

/-- The items of the engine, random number and vault commands. -/
def itemRulesEngines : List (Nat × ItemRules) :=
  [(0x0302, [(0x11, 1, 1)]), (0x0411, [(0x11, 1, 1)]), (0x0412, [(0x11, 1, 1)]), (0x0311, [(0x1D, 1, 1)]),
   (0x0312, [(0x1D, 1, 1)]), (0x0320, [(0x1C, 1, 1)]), (0x0330, [(0x17, 1, 1)]), (0x0340, [(0x09, 1, 1)]),
   (0x0402, [(0x10, 1, 1)]), (0x0420, [(0x16, 1, 1)]), (0x0421, [(0x16, 1, 1)]), (0x0501, [(0x1B, 1, 1)]),
   (0x0511, [(0x16, 1, 2)]), (0x0512, [(0x0A, 1, 1)]), (0x0513, [(0x0B, 1, 1)]),
   (0x0514, [(0x36, 1, 1), (0x37, 0, 1)]), (0x0602, [(0x28, 1, 1)]), (0x0604, [(0x16, 1, 1)])]

/-- The items of the other commands. -/
def itemRulesRest : List (Nat × ItemRules) :=
  [(0x0702, [(0x08, 1, 1)]), (0x0710, [(0x05, 1, 1), (0x16, 1, 132)]), (0x0711, [(0x05, 1, 1)]),
   (0x0712, [(0x05, 1, 1)]), (0x0730, [(0x05, 1, 1)]), (0x0720, [(0x29, 1, 1)]), (0x0721, [(0x27, 1, 1), (0x2A, 1, 1)]),
   (0x0731, [(0x01, 1, 65536)]), (0x0740, [(0x05, 1, 1), (0x06, 1, 1), (0x2B, 1, 1)]), (0x0741, [(0x2C, 1, 1)]),
   (0x0742, [(0x2D, 1, 1), (0x2E, 1, 1)]), (0x0881, [(0x2F, 1, 1)]), (0x0882, [(0x30, 1, 1)]),
   (0x0884, [(0x31, 1, 1)]), (0x0902, [(0x16, 1, 1)]), (0x0903, [(0x16, 1, 4)]), (0x0911, [(0x16, 1, 8)]),
   (0x0912, [(0x32, 1, 1)]), (0x0A10, [(0x16, 1, 1)]), (0x0A11, [(0x16, 1, 1)]), (0x0B02, [(0x33, 1, 1)]),
   (0x0B04, [(0x0F, 1, 1)]), (0x0B10, [(0x0F, 3, 9)]), (0x0B11, [(0x0F, 3, 9)]), (0x0B21, [(0x16, 1, 4)]),
   (0x0B42, [(0x07, 1, 1), (0x34, 1, 1), (0x35, 1, 1)]), (0x0B80, [(0x16, 1, 1)]), (0x0B81, [(0x16, 1, 1)]),
   (0x0C01, [(0x0E, 1, 1)])]

/-- The commands whose body a rule lays out byte by byte (the first row of R356). -/
def rawBodies : List Nat :=
  [0x0103, 0x0701, 0x0301, 0x0310, 0x0401, 0x0410, 0x0212, 0x0810, 0x0820, 0x0A02, 0x0B03, 0x0B41]

/-- The items a command takes; a command of no row takes none. -/
def itemRules (code : Nat) : ItemRules :=
  ((itemRulesKeys ++ itemRulesEngines ++ itemRulesRest).lookup code).getD []

/-- Types rise, or repeat, from item to item (R354). -/
def typesRise : List Item → Bool
  | [] => true
  | [_] => true
  | a :: b :: t => decide (a.type ≤ b.type) && typesRise (b :: t)

/-- The items of a body have a fault of R354: out of order, of a type the command does not take, too many, of a wrong
length, or missing.  KST_DOMAIN_SET takes at least one of its two optional items (R356). -/
def itemsFault (code : Nat) (b : Body) : Bool :=
  match b with
  | .raw _ => !rawBodies.contains code
  | .items l =>
    let rules := itemRules code
    rawBodies.contains code || !typesRise l
      || l.any (fun i => !(rules.map (·.1)).contains i.type || !itemLenOk i)
      || rules.any (fun r => decide (l.countP (·.type == r.1) < r.2.1) || decide (r.2.2 < l.countP (·.type == r.1)))
      || (code == 0x0233 && l.isEmpty)

/-- Read items from a body (R354), at most `fuel` of them: none where they do not fill it exactly. -/
def readItems : Nat → Bytes → Option (List Item)
  | _, [] => some []
  | 0, _ => none
  | n + 1, b =>
    let len := leNat (slice b 2 2)
    let size := roundUp 4 (4 + len)
    if b.length < size || !allZero (slice b (4 + len) (size - 4 - len)) then none
    else (readItems n (b.drop size)).map fun l => { type := leNat (b.take 2), value := slice b 4 len } :: l

/-! ## The attribute word (R250) -/

/-- Read an attribute word from its 16 bytes. -/
def attrOf (b : Bytes) : Attr :=
  let w := leNat (slice b 4 2)
  { type := leNat (slice b 0 1), usage := BitVec.ofNat 8 (leNat (slice b 1 1)), length := leNat (slice b 2 2),
    domain := w % 1024, origin := w / 1024 % 4, exportable := w / 4096 % 2 == 1, quorum := w / 8192 % 2 == 1,
    session := w / 16384 % 2 == 1, maskRef := leNat (slice b 6 1), curveIndex := leNat (slice b 7 1),
    notAfter := leNat (slice b 8 4), usesLeft := leNat (slice b 12 3) }

/-- The 16 bytes of an attribute word. -/
def attrBytes (a : Attr) : Bytes :=
  leBytes 1 a.type ++ leBytes 1 a.usage.toNat ++ leBytes 2 a.length
    ++ leBytes 2 (a.domain + a.origin * 1024 + bitAt a.exportable 12 + bitAt a.quorum 13 + bitAt a.session 14)
    ++ leBytes 1 a.maskRef ++ leBytes 1 a.curveIndex ++ leBytes 4 a.notAfter ++ leBytes 3 a.usesLeft ++ [0]

/-- USES_LEFT of a key that may be used without limit (R250). -/
def unlimited : Nat := 0xFFFFFF

/-! ## Approval records (R271) -/

/-- The 128 header bytes that an approval record's signature covers. -/
def approvalHeader (r : Approval) : Bytes :=
  leBytes 4 r.magic ++ leBytes 2 r.format ++ leBytes 2 r.sigLen ++ leBytes 2 r.domain ++ leBytes 1 r.officer
    ++ leBytes 1 r.sigAlg ++ leBytes 2 r.code ++ leBytes 2 r.reserved ++ r.digest ++ r.nonce ++ leBytes 8 r.expiry
    ++ r.serial ++ leBytes 8 r.reserved2

/-- The SIG_ALG values an officer or credential may have (R271). -/
def credAlgs : List Nat := [0x31, 0x32, 0x41, 0x52]

/-- The digest that the signature check of a single-signature code takes (R95): the key, the signature and the message. -/
def sigDigest (alg : Nat) (key sig msg : Bytes) : Bytes :=
  if alg = 0x30 then Config.digest 1 msg 32
  else if alg = 0x31 then Config.digest 2 msg 48
  else if alg = 0x32 then Config.digest 3 (sig.take 32 ++ key ++ msg) 64
  else Config.digest 8 (Config.digest 8 key 64 ++ [0, 0] ++ msg) 64

/-- A signature under a code of R82 verifies: each of its parts does (R97). -/
def signatureOk (alg : Nat) (key msg sig : Bytes) : Bool :=
  (partsOf alg key sig).all fun p => sigCheck p.alg p.key (sigDigest p.alg p.key p.sig msg) p.sig == (true, true)

end Sys2Proof.Machine
end

