-- ==== Sys2Proof/Machine/Cores.lean ====
section
/-!
DEFINITION. The public-key cores as other blocks see them: the pool a core serves, readiness, and a core's failure
(R163, R169 to R172, R178).
-/

namespace Sys2Proof.Machine

/-- Core `n`. -/
def core (s : State) (n : Nat) : Core := s.pke.cores.get {} n

/-- Change core `n`. -/
def updCore (s : State) (n : Nat) (f : Core → Core) : State :=
  { s with pke := { s.pke with cores := s.pke.cores.put n (f (core s n)) } }

/-- The bit of a pool map for core `n`: set for PASSAGE (R169). -/
def mapBit (m : List Word) (n : Nat) : Bool := bit (m.getD (n / 32) 0) (n % 32)

/-- The pool in force for core `n` is PASSAGE: a core that a commit moves keeps its pool until it has switched (R171). -/
def inPassage (s : State) (n : Nat) : Bool :=
  if (core s n).switched then mapBit (s.pke.target.getD s.pke.active) n else mapBit s.pke.active n

/-- A unit of R391 is clock-gated or powered off, or has not yet come back (R393). -/
def gated (s : State) (u : Nat) : Bool :=
  s.wld.clkOff.contains u || s.wld.pwrOff.contains u || (match s.wld.powering.look u with
    | some t => decide (s.now < t)
    | none => false)

/-- A core is ready: its self-test has passed, it is neither FAILED nor OFFLINE (R178), and it is not gated (R393). -/
def coreReady (s : State) (n : Nat) : Bool :=
  let st := (core s n).state
  (st == .idle || st == .busy || st == .zeroing) && !gated s (96 + n)

/-- The SERVICE cores that take service jobs, in ascending order (R171, R172). -/
def serviceCores (s : State) : List Nat :=
  (List.range 96).filter fun n => coreReady s n && !inPassage s n && !(core s n).moving

/-- At least one core is ready whose pool in force is SERVICE, a moving one among them (R153 check 3, R178, R180). -/
def serviceReady (s : State) : Bool := (List.range 96).any fun n => coreReady s n && !inPassage s n

/-- The PASSAGE cores that accept bindings, in ascending order (R96, R171). -/
def passageCores (s : State) : List Nat :=
  (List.range 96).filter fun n => coreReady s n && inPassage s n && !(core s n).moving

/-- The PKE bit of ID_READY: the self-tests after reset have ended, and at least one core of each pool is ready (R492). -/
def refreshPke (s : State) : State :=
  let tested := (List.range 96).all fun n => (core s n).state ≠ .selfTest
  let ready (passage : Bool) := (List.range 96).any fun n => coreReady s n && inPassage s n == passage
  setReady s 4 ((bit s.id.ready 4 || tested) && ready true && ready false)

/-- The 2,048 cycles in which a core zeroes its memories (R163, R166). -/
def zeroingTime : Time := 2048 * nclkT

/-- A staged job as it goes back to the dispatcher: what its staging buffer held is zeroed. -/
def unstaged (j : PkeJob) : PkeJob := { j with key := none, random := [], drawFailed := false }

/-- A core has failed: it leaves its pool as FAILED, or as OFFLINE at the third of its faults and watchdog events together or where it was
to be taken out, its self-test follows its zeroing, and its staged service job returns to the head of the dispatcher's queue (R163). -/
def dropCore (s : State) (n : Nat) (fault : Bool) : State :=
  let c := core s n
  let f := if fault then satAdd 8 c.faults 1 else c.faults
  let w := if fault then c.watchdogs else satAdd 8 c.watchdogs 1
  let s := updCore s n fun c => { c with
    state := if 3 ≤ f + w || c.takeOffline then .offline else .failed, faults := f, watchdogs := w, running := none, staged := none,
    takeOffline := false, testFrom := some (s.now + zeroingTime) }
  refreshPke { s with pke := { s.pke with waiting := (c.staged.map unstaged).toList ++ s.pke.waiting } }

/-- An invariant failure on a core (R162): FAULT_COUNT rises, a FAULT alarm goes to Lantern, and the core fails. -/
def faultCore (s : State) (n row : Nat) : State :=
  let s := updCore s n fun c => { c with lastInvariant := row }
  let s := { s with pke := { s.pke with faultTotal := sat32 s.pke.faultTotal } }
  dropCore (faultAlarm s 2 n) n true

/-- `k` verifications of the quorum unit end with FAULT_DETECTED, each on the lowest SERVICE core then ready (R275). -/
def faultVerifiers (s : State) : Nat → State
  | 0 => s
  | k + 1 =>
    match (serviceCores s).head? with
    | none => s
    | some n => faultVerifiers (faultCore s n 11) k

/-- T_core: NCLK cycles of a verification under a single-signature code of R82 (R156). -/
def verifyCycles (alg : Nat) : Nat :=
  (([(0x30, 92000), (0x31, 312000), (0x32, 66000), (0x40, 20000), (0x41, 30000), (0x42, 44000)] :
    List (Nat × Nat)).lookup alg).getD 0

/-- A job of `cycles` cycles has delivered its status on a core (R180). -/
def countJob (s : State) (n cycles : Nat) : State :=
  updCore s n fun c => { c with jobs := satAdd 64 c.jobs 1, busy := satAdd 64 c.busy cycles }

/-- The verifications of the quorum unit run on the ready SERVICE cores in turn (R275). -/
def countVerifications (s : State) (algs : List Nat) : State :=
  let cores := serviceCores s
  (algs.zipIdx).foldl (fun s e => countJob s (cores.getD (e.2 % cores.length) 0) (verifyCycles e.1)) s

end Sys2Proof.Machine
end

