-- ==== Sys2Proof/Machine/Quorum.lean ====
section
/-!
DEFINITION. Who may send a command, and the quorum unit: roles (R265, R281), the screening of approval records, their
count, and the consumption of nonces (R270 to R276, R402).
-/

namespace Sys2Proof.Machine

/-! ## Roles -/

/-- The role, domain and credential number a caller acts with (R265, R320, R358). -/
def callerRole (s : State) (c : Caller) : Option (Role × Nat × Nat) :=
  match c with
  | .session mb n => ((mailbox s mb).sessions.look n).map fun x => (x.role, x.domain, x.credential)
  | .function f _ =>
    (s.kst.domains.search fun _ d => d.state == .active && d.functions.contains f).map fun e => (.tenant, e.1, f)
  | .firmware _ => some (.firmware, 0, 0)
  | .secure _ => none
  | .tap => none

/-- Officers alone. -/
def officer : List Role := [.officer]
/-- Officers and operators. -/
def staff : List Role := [.officer, .operator]
/-- Officers and tenants. -/
def owners : List Role := [.officer, .tenant]
/-- Every role of a domain. -/
def anyRole : List Role := [.officer, .operator, .tenant]
/-- Every role, and normal-world firmware. -/
def anyCaller : List Role := [.officer, .operator, .tenant, .firmware]

/-- The commands of domain 0, with the roles that may send them (R77, R119, R139, R182, R217, R242, R281, R307, R339,
R367, R399, R420, R445, R460, R484). -/
def commandsOfZero : List (Nat × List Role) :=
  [(0x0105, staff), (0x0110, officer), (0x0111, officer), (0x0112, staff), (0x0230, officer), (0x0231, officer),
   (0x0251, officer), (0x0260, staff), (0x0330, officer), (0x0331, officer), (0x0332, officer), (0x0340, staff),
   (0x0341, staff), (0x0420, officer), (0x0421, officer), (0x0430, staff), (0x0510, staff), (0x0511, officer),
   (0x0512, staff), (0x0513, staff), (0x0514, officer), (0x0601, staff), (0x0602, officer), (0x0603, staff),
   (0x0604, officer), (0x0605, staff), (0x0701, officer), (0x0702, officer), (0x0710, staff), (0x0711, staff),
   (0x0712, staff), (0x0720, staff), (0x0721, officer), (0x0730, staff), (0x0731, staff)]
  ++ [(0x0801, staff), (0x0802, officer), (0x0810, officer), (0x0820, officer), (0x0821, staff), (0x0830, staff),
   (0x0880, staff), (0x0881, officer), (0x0882, officer), (0x0883, staff), (0x0884, officer), (0x0885, staff),
   (0x0901, staff), (0x0902, officer), (0x0903, officer), (0x0904, officer), (0x0905, staff), (0x0906, staff),
   (0x0910, staff), (0x0911, officer), (0x0912, officer), (0x0A01, staff), (0x0A02, staff), (0x0A03, staff),
   (0x0A10, officer), (0x0A11, officer), (0x0B01, officer), (0x0B02, officer), (0x0B03, officer), (0x0B04, officer),
   (0x0B05, officer), (0x0B20, staff), (0x0B21, officer), (0x0B80, officer), (0x0B81, staff), (0x0B82, staff),
   (0x0C01, staff), (0x0C02, staff)]

/-- The commands of any domain, with the roles that may send them. -/
def commandsOfDomain : List (Nat × List Role) :=
  [(0x0101, anyRole), (0x0104, anyRole), (0x0201, owners), (0x0202, owners), (0x0203, owners), (0x0204, anyRole),
   (0x0205, anyRole), (0x0206, anyRole), (0x0210, owners), (0x0211, owners), (0x0212, owners), (0x0213, owners),
   (0x0214, officer), (0x0220, owners), (0x0232, anyRole), (0x0233, officer), (0x0234, officer), (0x0238, officer),
   (0x0239, officer), (0x023A, officer), (0x023C, officer), (0x0240, staff), (0x0241, staff), (0x0301, anyRole),
   (0x0302, anyRole), (0x0310, officer), (0x0311, officer), (0x0312, anyRole), (0x0320, officer), (0x0321, anyRole),
   (0x0401, anyRole), (0x0402, anyRole), (0x0410, anyCaller), (0x0411, anyCaller), (0x0412, anyCaller),
   (0x0501, anyCaller), (0x0B10, officer), (0x0B11, officer), (0x0B12, anyRole), (0x0740, [.firmware]),
   (0x0741, [.firmware]), (0x0742, [.firmware]), (0x0B40, [.firmware]), (0x0B41, [.firmware]), (0x0B42, [.firmware])]

/-- The commands that session 0 admits (R360). -/
def sessionZero : List Nat := [0x0101, 0x0102, 0x0103, 0x0250]

/-- The commands of the TAP's envelope channel (R420). -/
def tapCommands : List Nat := [0x0101, 0x0801, 0x0802, 0x0810, 0x0811, 0x0820, 0x0821, 0x0830]

/-- The codes a ring entry may carry (R319). -/
def ringCommands : List Nat :=
  [0x0201, 0x0202, 0x0203, 0x0204, 0x0205, 0x0206, 0x0210, 0x0211, 0x0212, 0x0213, 0x0220, 0x0232, 0x0312, 0x0321]

/-- The engine commands that secure-world firmware carries through the same path (R193, R206, R214). -/
def firmwareCommands : List Nat := [0x0401, 0x0402, 0x0410, 0x0411, 0x0412, 0x0501]

/-- The code is a command of the device (R361 check 7). -/
def isCommand (code : Nat) : Bool :=
  (commandsOfZero.map (·.1)).contains code || (commandsOfDomain.map (·.1)).contains code
    || sessionZero.contains code || tapCommands.contains code

/-- The caller's role admits the command in the envelope's domain (R361 check 9, R319, R360, R376): the status of the
refusal, or none.  Jobs of a ring (0x0301 to 0x0501) are its entries of their own opcodes. -/
def gate (s : State) (c : Cmd) (code : Nat) : Option Status :=
  let ok (b : Bool) : Option Status := if b then none else some .notPermitted
  match c.caller with
  | .tap => ok (tapCommands.contains code)
  | .secure _ => ok (firmwareCommands.contains code)
  | .session _ 0 => ok (sessionZero.contains code)
  | .firmware _ =>
    ok (((commandsOfDomain.lookup code).getD []).contains Role.firmware)
  | caller =>
    match callerRole s caller with
    | none => ok false
    | some (role, d, _) =>
      ok (d == c.domain && ((d == 0 && ((commandsOfZero.lookup code).getD []).contains role)
        || ((commandsOfDomain.lookup code).getD []).contains role))

/-- Domains 1 to 1023 are usable from the moment DOMAINS_LOADED is 1 (R264). -/
def domainKnown (s : State) (d : Nat) : Bool := d == 0 || s.kst.domainsLoaded

/-- Judge a command's carrier and items, then carry it out: while the secure world is down the monitor answers for it
(R364, R378), except MBX_INFO and what it judges itself on the TAP (R404), whose channel is open while LCY_CMD is selected (R412). -/
def command (s : State) (c : Cmd) (code : Nat) (k : State → State) : State :=
  if c.caller = .tap && (s.lcy.tap.ir ≠ 0x20 || !firmwareRuns s) then s
  else if !secureUp s && code ≠ 0x0101 && c.caller ≠ .tap then answerStatus s c.reply .secureWorldDown
  else match gate s c code with
    | some st => answerStatus s c.reply st
    | none =>
      if !domainKnown s c.domain && code ≠ 0x0101 then answerStatus s c.reply .notReady
      else if itemsFault code c.body then answerStatus s c.reply .invalidParameter
      else k s

/-- The command's role is officer. -/
def isOfficer (s : State) (c : Cmd) : Bool :=
  match callerRole s c.caller with
  | some (.officer, _, _) => true
  | _ => false

/-! ## Screening (R275, R402) -/

/-- A quorum that a command needs: the approving domain and how many VALID records it asks for. -/
structure Need where
  domain : Nat
  count : Nat
  deriving DecidableEq, Repr

/-- A vendor grant, by its fixed fields (R402). -/
def isGrant (r : Approval) : Bool := r.domain == 0xFFFF && r.officer == 0xFF && r.sigAlg == 0x52

/-- The signature of a record, without the public key that follows a grant's (R402). -/
def grantSig (r : Approval) : Bytes := r.signature.take 3405
/-- The vendor key that follows a grant (R402), after the padding of its 3,405-byte signature. -/
def grantKey (r : Approval) : Bytes := (r.signature.drop 3405).drop ((8 - (128 + 3405) % 8) % 8)

/-- The quorum whose command is being judged: its code, its needs, whether a grant stands for domain 0, the digest's input
by approving domain, and the officers it enrols, each with its domain and number, who prove possession.  `grantNeeded` asks for a
grant beside the needs (R403). -/
structure Quorum where
  code : Nat
  needs : List Need
  grants : Bool
  input : Nat → Bytes
  newcomers : List (Nat × Nat × Credential)
  grantNeeded : Bool := false

/-- The credential a record is judged under: an enrolled officer of its domain, or one the command enrols. -/
def recordKey (s : State) (q : Quorum) (r : Approval) : Option Credential :=
  match (q.newcomers.find? fun n => n.1 == r.domain && n.2.1 == r.officer).map (·.2.2) with
  | some c => some c
  | none => (domain s r.domain).officers.look r.officer

/-- The record proves possession for an officer the command enrols; it is not counted (R274). -/
def isPossession (q : Quorum) (r : Approval) : Bool := q.newcomers.any fun n => n.1 == r.domain && n.2.1 == r.officer

/-- A nonce is open for a record's domain and the command (R270).  A possession record names any nonce open for the
command; while no roster exists (R267) none can be open, and it names none. -/
def nonceOk (s : State) (q : Quorum) (r : Approval) : Bool :=
  let stands (n : Nonce) : Bool := n.value == r.nonce && n.code == q.code && decide (lanternTick s < n.deadline)
  if isPossession q r then q.needs.isEmpty || s.kst.nonces.any fun n => stands n && q.needs.any (·.domain == n.domain)
  else s.kst.nonces.any fun n => stands n && n.domain == r.domain

/-- The record's fixed fields stand (R275 code 1). -/
def recordFormed (r : Approval) : Bool :=
  r.magic == 0x52505041 && r.format == 1 && some r.sigLen == authLen r.sigAlg && credAlgs.contains r.sigAlg
    && r.reserved == 0 && r.reserved2 == 0 && decide (r.sigLen ≤ r.signature.length)

/-- The screening of one record without its signature: the first of codes 1 to 8, or 0 (R275). -/
def screenRecord (s : State) (q : Quorum) (r : Approval) : Nat :=
  let grant := isGrant r && q.grants
  let d := if grant then 0 else r.domain
  if !recordFormed r then 1
  else if !grant && !(q.needs.any (·.domain == r.domain)) && !isPossession q r then 2
  else if r.code ≠ q.code then 3
  else if r.digest ≠ Config.sha384 (q.input d) then 4
  else if !(if grant then s.lcy.nonce.any (fun n => n.value == r.nonce && decide (lanternTick s < n.deadline))
      else nonceOk s q r) then 5
  else if r.expiry % 2 ^ 48 < devSec s then 6
  else if r.serial ≠ s.id.serial && (grant || !allZero r.serial) then 7
  else if grant then (if Config.sha384 (grantKey r) = Config.vendorDigest then 0 else 8)
  else match recordKey s q r with
    | some c => if c.sigAlg = r.sigAlg then 0 else 8
    | none => 8

/-- The signature of a screened record verifies. -/
def recordVerifies (s : State) (q : Quorum) (r : Approval) : Bool :=
  if isGrant r && q.grants then signatureOk 0x52 (grantKey r) (approvalHeader r) (grantSig r)
  else match recordKey s q r with
    | some c => signatureOk c.sigAlg (storedCred c.sigAlg c.key) (approvalHeader r) (r.signature.take r.sigLen)
    | none => false

/-- The reason code of each record but for duplicates: codes 1 to 8, then 10 where its signature fails. -/
def screenAll (s : State) (q : Quorum) (rs : List Approval) : List (Approval × Nat) :=
  rs.map fun r =>
    let c := screenRecord s q r
    (r, if c = 0 && !recordVerifies s q r then 10 else c)

/-- Code 9, decided last in submission order: a record is DUPLICATE where an earlier one of the same officer is VALID. -/
def markDuplicates : List (Approval × Nat) → List (Nat × Nat) → List (Approval × Nat)
  | [], _ => []
  | (r, c) :: t, seen =>
    let who := (r.domain, r.officer)
    if c = 0 then (if seen.contains who then (r, 9) :: markDuplicates t seen else (r, 0) :: markDuplicates t (who :: seen))
    else (r, c) :: markDuplicates t seen

/-- VALID records that count for a domain. -/
def countFor (q : Quorum) (l : List (Approval × Nat)) (d : Nat) : Nat :=
  l.countP fun e => e.2 == 0 && e.1.domain == d && !isPossession q e.1

/-- Every need is met: by its count of VALID records, or for domain 0 by one valid grant where grants stand (R402).  A grant that is
asked for beside the needs meets none of them. -/
def needsMet (q : Quorum) (l : List (Approval × Nat)) : Bool :=
  let granted := q.grants && l.any fun e => e.2 == 0 && isGrant e.1
  (!q.grantNeeded || granted)
    && q.needs.all fun n => decide (n.count ≤ countFor q l n.domain) || (n.domain == 0 && granted && !q.grantNeeded)

/-- Every officer the command enrols has proved possession. -/
def possessionMet (q : Quorum) (l : List (Approval × Nat)) : Bool :=
  q.newcomers.all fun n => l.any fun e => e.2 == 0 && e.1.domain == n.1 && e.1.officer == n.2.1

/-- Consume every open nonce that the records name for an approving domain and the command (R270, R402). -/
def consumeNonces (s : State) (q : Quorum) (rs : List Approval) : State :=
  let named (n : Nonce) : Bool :=
    n.code == q.code && q.needs.any (·.domain == n.domain) && rs.any (·.nonce == n.value)
  { s with
    kst := { s.kst with nonces := s.kst.nonces.filter fun n => !named n }
    lcy := { s.lcy with nonce := s.lcy.nonce.filter fun n => !(rs.any fun r => isGrant r && r.nonce == n.value) } }

/-- Records for one domain that a command carries at most (R271). -/
def tooManyRecords (rs : List Approval) : Bool := rs.any fun r => decide (16 < rs.countP (·.domain == r.domain))

/-- The two comparators of R276, on the reason codes: the count's outcome. -/
def countOutcome (q : Quorum) (l : List (Approval × Nat)) (upset : Bool) : Option Status :=
  if upset then some .faultDetected
  else if needsMet q l && possessionMet q l then none
  else some .quorumMissing

/-- Judge a command's quorum (R275, R276): the state after it, the reason codes in submission order, and the status where
the quorum is not met.  The key store's readiness and severity apply first (R277). -/
def judgeQuorum (s : State) (c : Cmd) (q : Quorum) : State × List Nat × Option Status :=
  let rs := c.records
  if !s.kst.ready && !(inTest s && q.grants) then (s, rs.map fun _ => 11, some .notReady)
  else if 4 ≤ s.lan.severity && q.needs.any (·.domain ≠ 0) then (s, rs.map fun _ => 11, some .notReady)
  else if tooManyRecords rs then (s, [], some .invalidLength)
  else
    let pre := rs.map fun r => (r, screenRecord s q r)
    let due := pre.any (·.2 == 0)
    let stop (s : State) : State × List Nat × Option Status :=
      (s, pre.map fun e => if e.2 = 0 then 11 else e.2, some .notReady)
    if due && (serviceCores s).isEmpty then stop s
    else
      let faulted := if due then faultVerifiers s c.coreFaults else s
      if due && (serviceCores faulted).isEmpty then stop faulted
      else
        let algs := (pre.filter (·.2 == 0)).flatMap fun e => (partsOf e.1.sigAlg [] []).map (·.alg)
        let faulted := countVerifications faulted algs
        let l := markDuplicates (screenAll s q rs) []
        let s := consumeNonces faulted q rs
        let s := if c.upset then
            faultAlarm { s with kst := { s.kst with quorumFault := sat32 s.kst.quorumFault } } 7 0
          else s
        (s, l.map (·.2), countOutcome q l c.upset)

/-- The digest input of R272 for a command with no form of its own: code, approving domain, body. -/
def plainInput (code : Nat) (b : Body) (d : Nat) : Bytes := leBytes 2 code ++ leBytes 2 d ++ b.bytes

/-- Carry out `k` under a quorum: where it is not met the command ends with its status and the reason codes. -/
def withQuorum (s : State) (c : Cmd) (q : Quorum) (k : State → List Nat → State) : State :=
  match judgeQuorum s c q with
  | (s, reasons, some st) => answer s c.reply { status := st, reasons := reasons }
  | (s, reasons, none) => k s reasons

/-- The plain quorum of a command: its needs, with grants where the life cycle lets one stand (R402). -/
def plainQuorum (s : State) (c : Cmd) (code : Nat) (needs : List Need) : Quorum :=
  { code := code, needs := needs, grants := vendorState s, input := plainInput code c.body, newcomers := [] }

/-- The critical need of a domain: its M_CRIT, which is at least 2 (R273, R274). -/
def critical (s : State) (d : Nat) : Need := { domain := d, count := max 2 (domain s d).mCrit }
/-- The routine need of a domain: its M_ROUTINE, which is at least 1. -/
def routine (s : State) (d : Nat) : Need := { domain := d, count := max 1 (domain s d).mRoutine }

/-- Carry out a command under the critical quorum of one domain. -/
def withCritical (s : State) (c : Cmd) (code d : Nat) (k : State → List Nat → State) : State :=
  withQuorum s c (plainQuorum s c code [critical s d]) k

/-- Carry out a command under the routine quorum of one domain. -/
def withRoutine (s : State) (c : Cmd) (code d : Nat) (k : State → List Nat → State) : State :=
  withQuorum s c (plainQuorum s c code [routine s d]) k

/-- Answer OK with the reason codes of a met quorum. -/
def answerOk (s : State) (c : Cmd) (reasons : List Nat) (items : List RItem) : State :=
  answer s c.reply { status := .ok, items := items, reasons := reasons }

end Sys2Proof.Machine
end

