-- ==== Sys2Proof/Machine/KeyOps.lean ====
section
/-!
DEFINITION. Keys in slots and in the vault: what an attribute word may say (R251, R252, R254), slots and their eviction
(R249, R301), the use counter and its reservations (R253, R302), the vault's answer to each key operation (R303), and the
changes a command gathers for the next commit (R292).
-/

namespace Sys2Proof.Machine

/-! ## Statuses where several conditions fail -/

/-- The status of the first failing check of an ordered list (R8). -/
def firstOf : List (Bool × Status) → Option Status
  | [] => none
  | (bad, st) :: t => if bad then some st else firstOf t

/-- The failing check whose status has the lowest code, where the chapter gives no order (R8). -/
def leastOf (l : List (Bool × Status)) : Option Status :=
  ((l.filter (·.1)).map (·.2)).foldl (fun best st => match best with
    | none => some st
    | some b => if Status.code st < Status.code b then some st else some b) none

/-- Carry out `k`, or answer with the status that stands in its way. -/
def refuseOr (s : State) (r : Reply) (o : Option Status) (k : State) : State :=
  match o with
  | some st => answerStatus s r st
  | none => k

/-! ## Types, lengths and usage (R251, R252) -/

/-- The stored lengths of the asymmetric types whose standards fix one (R251). -/
def fixedLengths : List (Nat × Nat) :=
  [(0x41, 32), (0x42, 48), (0x43, 66), (0x44, 32), (0x45, 48), (0x50, 32), (0x51, 57), (0x52, 32), (0x53, 56),
   (0x70, 2560), (0x71, 4032), (0x72, 4896), (0x78, 1632), (0x79, 2400), (0x7A, 3168),
   (0x81, 64), (0x82, 96), (0x83, 132), (0x84, 64), (0x85, 96), (0x90, 32), (0x91, 57), (0x92, 32), (0x93, 56),
   (0xB0, 1312), (0xB1, 1952), (0xB2, 2592), (0xB8, 800), (0xB9, 1184), (0xBA, 1568),
   (0xC0, 1376), (0xC1, 2016), (0xC2, 2048), (0xC3, 2688)]

/-- The bytes of a field element and of the order of a loaded curve that a domain owns (R174, R251). -/
def curveLengths (s : State) (d i : Nat) : Option (Nat × Nat) :=
  (s.pke.curves.look i).bind fun c =>
    if c.domain = d then some ((recordCurve c.record).fieldLen, (recordCurve c.record).orderLen) else none

/-- The words of an RSA or finite-field key that R147 allows for a type. -/
def wordsOk (type w : Nat) : Bool :=
  if type = 0xA0 then 16 ≤ w && w ≤ 128 else 32 ≤ w && w ≤ 128 && (type != 0x60 || w % 2 == 0)

/-- TYPE is one of R251 and LENGTH one it allows; a key on a loaded curve takes the lengths of that curve. -/
def typeLengthOk (s : State) (a : Attr) : Bool :=
  let length := a.length
  let curve := curveLengths s a.domain a.curveIndex
  if a.type = 0x01 then length == 16
  else if a.type = 0x02 then length == 32
  else if a.type = 0x03 then 32 ≤ length && length ≤ 64
  else if a.type = 0x04 then 16 ≤ length && length ≤ 1024
  else if a.type = 0x4F then curve.map (·.2) == some length
  else if a.type = 0x8F then curve.map (2 * ·.1) == some length
  else if [0x60, 0x68, 0xA0, 0xA8].contains a.type then
    (List.range 129).any fun w => wordsOk a.type w && sizeFits a.type length w
  else fixedLengths.lookup a.type == some length

/-- The usage bits a type may carry (R252). -/
def usageAllowed (type : Nat) : BitVec 8 :=
  if [0x01, 0x02, 0x03].contains type then 0x9C
  else if type = 0x04 then 0x10
  else if [0x41, 0x42, 0x43, 0x44, 0x45, 0x4F].contains type then 0x21
  else if [0x50, 0x51, 0x60, 0x70, 0x71, 0x72].contains type then 0x01
  else if [0x52, 0x53, 0x68].contains type then 0x20
  else if [0x78, 0x79, 0x7A, 0xB8, 0xB9, 0xBA].contains type then 0x40
  else if [0x81, 0x82, 0x83, 0x84, 0x85, 0x8F, 0x90, 0x91, 0xA0, 0xB0, 0xB1, 0xB2, 0xC0, 0xC1, 0xC2, 0xC3].contains type
  then 0x82
  else 0

/-- The types an algorithm of R82 requires, which alone may carry PASSAGE (R252). -/
def passageTypes : List Nat := [0x01, 0x02, 0x03, 0x81, 0x82, 0x90, 0xB0, 0xB1, 0xB2, 0xC0, 0xC1, 0xC2, 0xC3]

/-- USAGE meets R252. -/
def usageOk (a : Attr) : Bool :=
  a.usage &&& ~~~ usageAllowed a.type == 0
    && (!useBit a 7 || ((useBit a 3 || useBit a 1) && passageTypes.contains a.type))
    && !(useBit a 7 && useBit a 2 && !a.quorum) && !(useBit a 0 && useBit a 5)

/-- A handle of domain 0, key numbers 1 to 255 (R249). -/
def isDieHandle (h : Nat) : Bool := handleDomain h == 0 && 1 ≤ handleNumber h && handleNumber h ≤ 255

/-- The rules of R254 whose breach is INVALID_PARAMETER, for a result of the given origin (0 INSIDE, 1 IMPORTED,
2 DERIVED) whose source key, if any, has the given EXPORTABLE. -/
def attrOk (s : State) (a : Attr) (h origin : Nat) (sourceExportable : Bool) : Bool :=
  typeLengthOk s a && (a.type == 0x4F || a.type == 0x8F || a.curveIndex == 0)
    && a.domain == handleDomain h && usageOk a && (a.maskRef == 0 || useBit a 7)
    && !(a.exportable && (origin == 0 || (origin == 2 && !sourceExportable))) && !(a.session && isDieHandle h)

/-- Domain-0 keys 254 and 255 are the member key while this device belongs to a Karst (R463). -/
def memberKey (s : State) (h : Nat) : Bool := (h == 254 || h == 255) && s.kst.root.isSome && s.flash.karst.state != 0

/-- PASSAGE, QUORUM or EXPORTABLE is set, which only an officer may ask for (R254). -/
def attrPrivileged (a : Attr) : Bool := useBit a 7 || a.quorum || a.exportable

/-! ## The key a handle names -/

/-- A revocation of the key has been signed (R479). -/
def withdrawn (s : State) (h : Nat) : Bool := s.flash.karst.withdrawn.contains h

/-- The record of a key in the vault, while the vault serves (R299); a withdrawn key resolves ABSENT (R479). -/
def vaultRecord (s : State) (h : Nat) : Option KeyRec :=
  if vaultServes s && !withdrawn s h then s.flash.objects.look h else none

/-- The attribute word of the live key that carries a handle, in a slot or in the vault. -/
def keyAttr (s : State) (h : Nat) : Option Attr :=
  match slotOf s h with
  | some (_, x) => some x.attr
  | none => (vaultRecord s h).map (·.attr)

/-- The changes that wait for a commit of the vault or of a replica set. -/
def waitingChanges (s : State) : List VaultChange := s.geo.gathered ++ s.geo.committing ++ s.kar.waits.map (·.change)

/-- A new key under the handle waits for its commit. -/
def coming (s : State) (h : Nat) : Bool :=
  (waitingChanges s).any fun c => c.ops.any fun o => match o with
    | .putKey k _ => k == h
    | _ => false

/-- A handle is empty when no live key carries it, nor will once a change commits; handle 0 is never a key's (R248). -/
def emptyHandle (s : State) (h : Nat) : Bool := h != 0 && h < 2 ^ 32 && (keyAttr s h).isNone && !coming s h

/-- A change of the key is gathered or being committed. -/
def changing (s : State) (h : Nat) : Bool :=
  (waitingChanges s).any fun c => c.ops.any fun o => match o with
    | .eraseKey k => k == h
    | .setAttr k _ => k == h
    | _ => false

/-! ## Slots (R249, R301) -/

/-- 128-byte units of the long-key area that a value takes (R249). -/
def longUnits (n : Nat) : Nat := if n ≤ 64 then 0 else (n + 127) / 128

/-- Slots from 256 on that hold keys of a domain. -/
def domainSlots (s : State) (d : Nat) : Nat := s.kst.slots.count fun n x => decide (256 ≤ n) && handleDomain x.handle == d

/-- Long-key units that a domain's keys take. -/
def domainLong (s : State) (d : Nat) : Nat :=
  ((s.kst.slots.filter fun e => handleDomain e.2.handle == d).map fun e => longUnits e.2.value.length).sum

/-- Long-key units in use on the device. -/
def longUsed (s : State) : Nat := (s.kst.slots.map fun e => longUnits e.2.value.length).sum

/-- A job names the key: it runs on a core, is staged there or waits for one. -/
def coreUses (s : State) (h : Nat) : Bool :=
  s.pke.cores.any fun e =>
    (match e.2.running.map fun r => r.user with
      | some (CoreUser.service j) => j.block.keyHandle == h
      | _ => false) || (match e.2.staged with
      | some j => j.block.keyHandle == h
      | none => false)

/-- A keyed-check lane runs under the key. -/
def laneUses (s : State) (h : Nat) : Bool :=
  s.psg.ports.any fun e => (e.2.lane0.running.toList ++ e.2.lane1.running.toList).any (·.handle == h)

/-- A started job, or a key fetch that goes on, uses the key (R301). -/
def inUse (s : State) (h : Nat) : Bool :=
  coreUses s h || laneUses s h || s.eng.digests.any (fun e => e.2.ctxs.any (·.2.handle == h))
    || s.eng.svcs.any fun e => match e.2.hold with
      | some x => x.handle == h
      | none => false

/-- A key that may be evicted (R301): in a slot from 256 on, not a session key, used by no started job or pending fetch,
and with no destroy or attribute change outstanding. -/
def evictable (s : State) (n : Nat) (x : Slot) : Bool :=
  decide (256 ≤ n) && !x.attr.session && !inUse s x.handle && !changing s x.handle

/-- Of two keys, the one taken first: keys without PASSAGE, then the least recently used. -/
def olderKey (a b : Nat × Slot) : Nat × Slot :=
  if useBit a.2.attr 7 ≠ useBit b.2.attr 7 then (if useBit a.2.attr 7 then b else a)
  else if b.2.lastUse < a.2.lastUse then b else a

/-- The victim among the evictable keys that meet `p`. -/
def victim (s : State) (p : Slot → Bool) : Option (Nat × Slot) :=
  match s.kst.slots.filter fun e => evictable s e.1 e.2 && p e.2 with
  | [] => none
  | e :: t => some (t.foldl olderKey e)

/-- Evict a victim: nothing is written to flash (R301). -/
def evict (s : State) (p : Slot → Bool) : Option State :=
  (victim s p).map fun e => { s with kst := { s.kst with
    slots := s.kst.slots.del e.1
    evictions := sat64 s.kst.evictions } }

/-- Free long-key units for a key of domain `d` that takes `u`, at most `fuel` evictions (R249, R301). -/
def makeLongRoom (d u : Nat) : Nat → State → Option State
  | 0, _ => none
  | n + 1, s =>
    if (domain s d).longQuota * 8 < domainLong s d + u then
      (evict s fun x => handleDomain x.handle == d && decide (64 < x.value.length)).bind (makeLongRoom d u n)
    else if 65536 < longUsed s + u then (evict s fun x => decide (64 < x.value.length)).bind (makeLongRoom d u n)
    else some s

/-- A slot for a key of domain `d`: a free one below the domain's quota, else one whose key is evicted (R249, R301). -/
def makeSlotRoom (s : State) (d : Nat) : Option State :=
  if (domain s d).slotQuota ≤ domainSlots s d then evict s fun x => handleDomain x.handle == d
  else if 65280 ≤ s.kst.slots.count (fun n _ => decide (256 ≤ n)) then evict s fun _ => true
  else some s

/-- Room for a key of `len` bytes under a handle: the state after any eviction and the slot; none where no room can be
made.  Keys 1 to 255 of domain 0 have their own slots, and share the long-key area (R249). -/
def makeRoom (s : State) (h len : Nat) : Option (State × Nat) :=
  if isDieHandle h then (makeLongRoom 0 (longUnits len) (s.kst.slots.length + 1) s).map fun s => (s, handleNumber h)
  else
    let d := handleDomain h
    ((makeSlotRoom s d).bind (makeLongRoom d (longUnits len) (s.kst.slots.length + 1))).bind fun s =>
      (s.kst.slots.free 256 65280).map fun n => (s, n)

/-- Write a key into a slot. -/
def writeSlot (s : State) (n h : Nat) (k : KeyRec) (reserved : Nat) : State :=
  { s with kst := { s.kst with
    slots := s.kst.slots.put n { handle := h, attr := k.attr, value := k.value, lastUse := s.kst.useStamp + 1,
                                 reserved := reserved }
    useStamp := s.kst.useStamp + 1
    absent := s.kst.absent.filter (· != h) } }

/-- Erase the slot that carries a handle. -/
def eraseSlot (s : State) (h : Nat) : State :=
  { s with kst := { s.kst with slots := s.kst.slots.keep fun _ x => x.handle != h } }

/-- Enter a handle into the absent cache of 4,096 (R299). -/
def enterAbsent (s : State) (h : Nat) : State :=
  { s with kst := { s.kst with absent := (h :: s.kst.absent.filter (· != h)).take 4096 } }

/-! ## The in-package die (R245, R249, R267) -/

/-- Write a key of domain 0 numbered 1 to 255 into the die, its value wrapped under the domain's master. -/
def putDieKey (s : State) (n : Nat) (k : KeyRec) : State :=
  let (box, s) := wrapNew s (domain s 0).master k.value
  { s with die := { s.die with keys := s.die.keys.put n { attr := k.attr, box := box } } }

/-- Write the attribute word of a key in the die. -/
def putDieAttr (s : State) (n : Nat) (a : Attr) : State :=
  match s.die.keys.look n with
  | some k => { s with die := { s.die with keys := s.die.keys.put n { k with attr := a } } }
  | none => s

/-- The value of a key in the die, unwrapped. -/
def dieValue (s : State) (n : Nat) : Option Bytes := (s.die.keys.look n).bind (·.box.unwrap (domain s 0).master)

/-- The bytes of a domain record but for its master (R264). -/
def domainBytes (d : Domain) : Bytes :=
  let cred (t : Tbl Credential) : Bytes := t.flatMap fun e => leBytes 1 e.1 ++ leBytes 1 e.2.sigAlg ++ e.2.key
  let st : Nat := match d.state with
    | .free => 0
    | .active => 1
    | .destroying => 2
  leBytes 1 st ++ cred d.officers ++ cred d.operators ++ cred d.tenants ++ d.functions.flatMap (leBytes 2)
    ++ leBytes 1 d.mCrit ++ leBytes 1 d.mRoutine ++ leBytes 1 d.policy
    ++ d.masks.flatMap (fun e => leBytes 1 e.1 ++ leBytes 8 e.2.toNat) ++ leBytes 4 d.slotQuota ++ leBytes 2 d.longQuota

/-- The bytes of the domain-0 roster: its officers, M_CRIT and M_ROUTINE (R267). -/
def rosterBytes (d : Domain) : Bytes :=
  d.officers.flatMap (fun e => leBytes 1 e.1 ++ leBytes 1 e.2.sigAlg ++ e.2.key) ++ leBytes 1 d.mCrit ++ leBytes 1 d.mRoutine

/-- Write domain 0's record into the die, with the SHA-384 of its roster; the master lies there apart, wrapped. -/
def putDomain0 (s : State) (d : Domain) : State :=
  { s with die := { s.die with domain0 := some { d with master := [] }, rosterDigest := Config.sha384 (rosterBytes d) } }

/-! ## The vault and key operations (R287, R303) -/

/-- 4 KiB cells that the vault's objects take: one key-table cell per 32 key numbers in use, and the extent cells of long
keys (R289). -/
def usedCells (objects : Tbl KeyRec) : Nat :=
  ((objects.map fun e => e.1 / 32).eraseDups).length
    + (objects.map fun e => if e.2.value.length ≤ 64 then 0 else (e.2.value.length + 4095) / 4096).sum

/-- A new key of `len` bytes under a handle would take used capacity above U (R287). -/
def vaultFull (s : State) (h len : Nat) : Bool :=
  decide (s.flash.capacityMib * 256 <
    usedCells (s.flash.objects.put h { attr := attrOf [], value := zeros len }))

/-- Storing a new key (R303). -/
def storeGate (s : State) (h len : Nat) : Option Status :=
  match s.geo.state with
  | .notMounted => some .notReady
  | .mounting => some .notReady
  | .normal => if vaultFull s h len then some .vaultFull else none
  | .readOnly => some .vaultReadOnly
  | .integrityFailed => some .vaultIntegrity

/-- Destroying, narrowing, and new use reservations (R298, R303). -/
def changeGate (s : State) : Option Status :=
  match s.geo.state with
  | .notMounted => some .notReady
  | .mounting => some .notReady
  | .normal => none
  | .readOnly => if s.flash.reserveLeft < s.flash.width && s.flash.reservePages = 0 then some .vaultReadOnly else none
  | .integrityFailed => some .vaultIntegrity

/-- The key is a session key, or one of domain 0's keys 1 to 255: the vault has no part in it (R303). -/
def outsideVault (h : Nat) (a : Attr) : Bool := a.session || isDieHandle h

/-- Gather a command's changes for the next commit (R292). -/
def gather (s : State) (c : VaultChange) : State := { s with geo := { s.geo with gathered := s.geo.gathered ++ [c] } }

/-- What stands in the way of a new key under a handle: the slot's room, then the vault (R249, R258 check 8). -/
def roomGate (s : State) (h : Nat) (a : Attr) (len : Nat) : Option Status :=
  if (makeRoom s h len).isNone then some .busyLocked
  else if outsideVault h a then none
  else storeGate s h len

/-- What stands in the way of commands that need a domain master: an absent root (R247). -/
def rootMissing (s : State) : Bool := s.kst.root.isNone

/-- A new key needs its domain's master, which wraps every key but a session key (R245), and the root is absent. -/
def rootNeeded (s : State) (a : Attr) : Bool := rootMissing s && !a.session

/-- Answer with BUSY_LOCKED and its HOLDER (R7, R249). -/
def answerBusy (s : State) (r : Reply) (holder : Nat) : State :=
  answer s r { status := .busyLocked, items := [.holder holder] }

/-- Answer with a status, naming HOLDER 0xFFFF_FFFF where it is BUSY_LOCKED for want of room. -/
def answerRoom (s : State) (r : Reply) (st : Status) : State :=
  if st = .busyLocked then answerBusy s r 0xFFFFFFFF else answerStatus s r st

/-- The host function whose ring carries a job. -/
def ringFunc (s : State) : Reply → Option Nat
  | .ring id => (s.host.funcs.search fun _ f => f.queues.any fun q => q.2.jobs.any (·.id == id)).map (·.1)
  | _ => none

/-- Note a key written through a host function: the newest 4,096 handles of non-session keys, and every session key's (R331 to
R333). -/
def noteKey (s : State) (r : Reply) (h : Nat) (a : Attr) : State :=
  match ringFunc s r with
  | none => s
  | some f =>
    let add (l : List Nat) : List Nat := l.filter (· != h) ++ [h]
    updFunc s f fun x =>
      if a.session then { x with sessions := add x.sessions }
      else { x with handles := (add x.handles).drop ((add x.handles).length - 4096) }

/-- Write a new key whose checks have passed: at once for a key outside the vault, else through a commit, with the answer
that then goes out. -/
def storeKey (s : State) (r : Reply) (h : Nat) (k : KeyRec) (a : Answer) : State :=
  match roomGate s h k.attr k.value.length with
  | some st => answerRoom s r st
  | none =>
    if outsideVault h k.attr then
      match makeRoom s h k.value.length with
      | none => answerBusy s r 0xFFFFFFFF
      | some (s, n) =>
        let s := noteKey (writeSlot s n h k 0) r h k.attr
        let s := if isDieHandle h then putDieKey s (handleNumber h) k else s
        answer s r a
    else gather s { ops := [.putKey h k], reply := some r, items := a.items, reasons := a.reasons }

/-! ## Uses and reservations (R253, R302) -/

/-- What an admission that fetches a key gets: the use is granted, it waits for a page-in or a reservation commit, or it is
refused. -/
inductive UseGrant
  | granted
  | waits
  | refused (st : Status)
  deriving DecidableEq, Repr

/-- The key's lifetime and use counter permit use (R253). -/
def usable (s : State) (a : Attr) : Bool := a.usesLeft != 0 && !expired s a

/-- Change the slot that carries a handle. -/
def updSlotOf (s : State) (h : Nat) (f : Slot → Slot) : State :=
  match slotOf s h with
  | none => s
  | some (n, x) => { s with kst := { s.kst with slots := s.kst.slots.put n (f x) } }

/-- A reservation of the key's uses is gathered or being committed. -/
def reserving (s : State) (h : Nat) : Bool :=
  (s.geo.gathered ++ s.geo.committing).any fun c => c.ops.any fun o => match o with
    | .reserve k _ => k == h
    | _ => false

/-- Take one use of a key for an admission (R253, R302).  A key of the vault draws on its reservation of up to 64 uses, and
where that is spent the admission waits for a new reservation commit. -/
def takeUse (s : State) (h : Nat) : State × UseGrant :=
  match slotOf s h with
  | none => (s, .waits)
  | some (_, x) =>
    if !usable s x.attr then (s, .refused .invalidKey)
    else if x.attr.usesLeft = unlimited then (touchSlot s (((slotOf s h).map (·.1)).getD 0), .granted)
    else if outsideVault h x.attr then
      let a := { x.attr with usesLeft := x.attr.usesLeft - 1 }
      let s := updSlotOf s h fun x => { x with attr := a }
      (if isDieHandle h then putDieAttr s (handleNumber h) a else s, .granted)
    else if 0 < x.reserved then
      let one (x : Slot) : Slot :=
        { x with attr := { x.attr with usesLeft := x.attr.usesLeft - 1 }, reserved := x.reserved - 1 }
      (updSlotOf s h one, .granted)
    else if reserving s h then (s, .waits)
    else match changeGate s with
      | some st => (s, .refused st)
      | none => (gather s { ops := [.reserve h (min 64 x.attr.usesLeft)], reply := none }, .waits)

/-- What a key fetch finds (R11, R145, R188): the key in its slot, a key that has left its slot and must be paged in again, or a status
where a completed change bars the use (R25, R266). -/
inductive KeyFetch
  | got (slot : Nat) (value : Bytes)
  | away
  | barred (st : Status)
  deriving DecidableEq, Repr

/-- Fetch a key for a job already admitted, whose use has been counted: the usage, type and lifetime of the word now in the slot
govern. -/
def fetchFor (s : State) (h : Nat) (use type : Attr → Bool) : KeyFetch :=
  match slotOf s h with
  | some (n, x) =>
    if !use x.attr then .barred .notPermitted
    else if !type x.attr || expired s x.attr then .barred .invalidKey
    else .got n x.value
  | none => if (keyAttr s h).isSome then .away else .barred .invalidKey

/-- Whether a key is in a slot or can be paged in (check 9 of R153 and R208, R299, R303). -/
def pageGate (s : State) (h : Nat) : Option Status :=
  if (slotOf s h).isSome then none
  else if !secureUp s then some .secureWorldDown
  else match s.geo.state with
    | .notMounted => some .notReady
    | .mounting => some .notReady
    | .integrityFailed => some .vaultIntegrity
    | _ => none

/-- The new word narrows the old one and changes nothing else (R266). -/
def narrows (old new : Attr) : Bool :=
  new.type == old.type && new.length == old.length && new.domain == old.domain && new.maskRef == old.maskRef
    && new.curveIndex == old.curveIndex && new.session == old.session && (new.usage &&& ~~~ old.usage == 0)
    && (!new.exportable || old.exportable) && (new.quorum || !old.quorum)
    && (new.notAfter == old.notAfter || (new.notAfter != 0 && (old.notAfter == 0 || decide (new.notAfter < old.notAfter))))
    && decide (new.usesLeft ≤ old.usesLeft)

/-! ## Domain records (R264) -/

/-- Apply one change to a domain record. -/
def applyEdit (d : Domain) : DomainEdit → Domain
  | .create r => r
  | .destroy => {}
  | .thresholds c r => { d with mCrit := c, mRoutine := r }
  | .quotas q l => { d with slotQuota := q, longQuota := l }
  | .mask m v => { d with masks := d.masks.put m v }
  | .officer n (some c) => { d with officers := d.officers.put n c }
  | .officer n none => { d with officers := d.officers.del n }
  | .credential true n (some c) => { d with tenants := d.tenants.put n c }
  | .credential true n none => { d with tenants := d.tenants.del n }
  | .credential false n (some c) => { d with operators := d.operators.put n c }
  | .credential false n none => { d with operators := d.operators.del n }
  | .function f true => { d with functions := if d.functions.contains f then d.functions else d.functions ++ [f] }
  | .function f false => { d with functions := d.functions.filter (· != f) }
  | .policy p => { d with policy := p }

/-- Close sessions (R359): what they opened closes with them.  A session with commands outstanding stays, closing, until they
are answered; its keys go with it. -/
def closeSessionsBy (s : State) (p : Nat → Nat → Session → Bool) : State :=
  let hit (mb n : Nat) : Bool := ((mailbox s mb).sessions.look n).any (p mb n)
  let opened : Caller → Bool
    | .session mb n => hit mb n
    | _ => false
  { s with
    kst := { s.kst with
      transports := s.kst.transports.filter fun t => !opened t.owner
      nonces := s.kst.nonces.filter fun n => !opened n.opener }
    mbx := { s.mbx with boxes := s.mbx.boxes.map fun e =>
      let busy (n : Nat) : Bool := e.2.outstanding.any fun o => o.session == n || o.macSession == n
      (e.1, { e.2 with sessions := (e.2.sessions.map fun x =>
          (x.1, if p e.1 x.1 x.2 then { x.2 with closing := true } else x.2)).filter fun x => !x.2.closing || busy x.1 }) } }

/-- Close the sessions that a change of a domain's credentials ends. -/
def closeSessions (s : State) (p : Nat → Session → Bool) : State := closeSessionsBy s fun mb _ x => p mb x

/-- A function's domain changes: what it wrote under the old assignment is forgotten, it takes what a VF_RESTORE brings, left FROZEN, and
its event vector is raised (R310, R333, R335). -/
def reassign (s : State) (f : Nat) : State :=
  let take (x : Func) : Func := match x.restoring with
    | some m => { x with
        restoring := none, frozen := true, weight := m.weight, handles := m.handles, sessions := [], lost := []
        queues := m.queues.foldl (fun t e => t.put e.1 e.2) x.queues }
    | none => { x with handles := [], sessions := [], lost := [] }
  sendVector (updFunc s f take) f (if f = 0 then 8 else 0)

/-- What a change of a domain record brings with it beyond the record: sessions of a removed credential close (R359). -/
def afterEdit (s : State) (d : Nat) (e : DomainEdit) : State :=
  let close (role : Role) (n : Nat) : State :=
    closeSessions s fun _ x => x.domain == d && x.role == role && x.credential == n
  match e with
  | .officer n none => close .officer n
  | .credential true n none => close .tenant n
  | .credential false n none => close .operator n
  | .destroy => closeSessions s fun _ x => x.domain == d
  | .function f _ => reassign s f
  | _ => s

/-- Change a domain record: domain 0 in the in-package die at once (R267), any other through a commit. -/
def editDomain (s : State) (c : Cmd) (d : Nat) (edits : List DomainEdit) (reasons : List Nat) : State :=
  if d = 0 then
    let rec0 := edits.foldl applyEdit (domain s 0)
    let s := putDomain0 (updDomain s 0 fun _ => rec0) rec0
    answerOk (edits.foldl (fun s e => afterEdit s 0 e) s) c reasons []
  else match changeGate s with
    | some st => answer s c.reply { status := st, reasons := reasons }
    | none => gather s { ops := edits.map (.editDomain d), reply := some c.reply, reasons := reasons, cmd := some c }

end Sys2Proof.Machine
end

