-- ==== Sys2Proof/Machine/Jobs.lean ====
section
/-!
DEFINITION. Jobs on their way to the engines: user identities (R195), job blocks and segments as they are read
(R150, R193, R206, R207), how a job ends at its carrier (R152, R324), and the dispatcher's sources (R327).
-/

namespace Sys2Proof.Machine

/-! ## Users -/

/-- The 32-bit user identity (R195). -/
def userId : Caller → Nat
  | .function f q => 2 ^ 28 + f * 2 ^ 16 + q
  | .session mb n => 2 * 2 ^ 28 + mb * 2 ^ 16 + n
  | .secure pair => 3 * 2 ^ 28 + pair * 2 ^ 16
  | .firmware pair => 4 * 2 ^ 28 + pair * 2 ^ 16
  | .tap => 0

/-- The home instance of a caller's own draws (R228). -/
def userHome : Caller → Nat
  | .function f _ => f % 8
  | .session mb _ => mb % 8
  | .firmware pair => (4 + pair) % 8
  | _ => 0

/-- The dispatcher source of a caller (R327). -/
def sourceOf : Caller → Nat
  | .function f _ => f + 1
  | _ => 0

/-- The queue of a caller at its source. -/
def queueOf : Caller → Nat
  | .function _ q => q
  | _ => 0

/-- The dispatcher as a master of control memory for a caller's job (R383, R385): SEC and KEY of the world that submitted
it. -/
def dispatcherFor (s : State) (c : Caller) : BusMaster :=
  match c with
  | .firmware _ => { number := 11, sec := false, core := false, key := nwKey s }
  | _ => { number := 11, sec := true, core := false, key := 0 }

/-- The job's addresses are in control memory: firmware of either world submitted it (R207). -/
def inControl : Caller → Bool
  | .firmware _ => true
  | .secure _ => true
  | _ => false

/-- Record a refused transfer at an address below control memory, which lies in no page of it (R386, R387). -/
def refuseBelow (s : State) (m : BusMaster) (addr n access : Nat) : State :=
  violation s {
    number := 0
    master := m.number
    sec := m.sec
    coreClass := m.core
    key := m.key
    access := access
    reason := 3
    address := addr
    length := n
    page := 0xFFFF
    tick := 0 }

/-- What the reads of `n` bytes at an address deliver: control memory for firmware's jobs (R207, R385), else what the
carrier's reads delivered, taken from the front of `data`. -/
def jobRead (s : State) (c : Caller) (addr n : Nat) (data : List Bytes) : State × Bytes × List Bytes :=
  if !inControl c then (s, data.headD [], data.tail)
  else if addr < 2 ^ 32 then (refuseBelow s (dispatcherFor s c) addr n 0, zeros n, data)
  else
    let (s, b) := ctlRead s (dispatcherFor s c) (addr - 2 ^ 32) n
    (s, b, data)

/-- Write an output of firmware's job in control memory (R207, R385). -/
def jobWrite (s : State) (c : Caller) (addr : Nat) (b : Bytes) : State :=
  if addr < 2 ^ 32 then refuseBelow s (dispatcherFor s c) addr b.length 1
  else ctlWrite s (dispatcherFor s c) (addr - 2 ^ 32) b

/-! ## Reading job blocks -/

/-- The little-endian number at an offset of a block. -/
def leAt (b : Bytes) (off n : Nat) : Nat := leNat (slice b off n)

/-- An operand descriptor (R151); its bytes are read later. -/
def operandAt (d : Bytes) : Operand :=
  { id := leAt d 12 1, output := leAt d 13 1 == 1, address := leAt d 0 8, length := leAt d 8 4,
    reserved := leAt d 14 2 + (if 1 < leAt d 13 1 then 1 else 0), data := [] }

/-- Read the input operands of an admitted job. -/
def readOperands (s : State) (c : Caller) : List Operand → List Bytes → State × List Operand
  | [], _ => (s, [])
  | o :: t, data =>
    let (s, b, data) := if o.output then (s, [], data) else jobRead s c o.address o.length data
    let (s, l) := readOperands s c t data
    (s, { o with data := b } :: l)

/-- The 16-byte pieces of a byte string, at most `n`. -/
def pieces : Nat → Bytes → List Bytes
  | 0, _ => []
  | n + 1, b => b.take 16 :: pieces n (b.drop 16)

/-- A public-key job block (R150).  A count of operands outside 1 to 8 stands as a broken reserved field. -/
def readJobBlock (b : Bytes) : JobBlock :=
  let n := leAt b 0x20 1
  let ops := (pieces (min n 8) (b.drop 64)).map operandAt
  { op := leAt b 0 1, algo := leAt b 1 1, flags := leAt b 2 2, curveIndex := leAt b 4 1, hash := leAt b 5 1,
    sizeWords := leAt b 6 2, keyHandle := leAt b 8 4, destHandle := leAt b 0x0C 4,
    destAttr := attrOf (slice b 0x10 16), saltLen := leAt b 0x22 2,
    reserved := leAt b 0x21 1 + leAt b 0x24 28 + (ops.map (·.reserved)).sum + (if n = 0 || 8 < n then 1 else 0)
      + leAt b 2 2 / 8,
    operands := ops }

/-- Read a fragment list (R207): its descriptors, each with its data. -/
def readFrags (s : State) (c : Caller) : List Bytes → List Bytes → State × List Frag × List Bytes
  | [], data => (s, [], data)
  | d :: t, data =>
    let len := leAt d 8 4
    let (s, b, data) := if len = 0 then (s, [], data) else jobRead s c (leAt d 0 8) len data
    let (s, l, data) := readFrags s c t data
    (s, { address := leAt d 0 8, length := len, last := leAt d 12 2 % 2 == 1,
          reserved := leAt d 12 2 / 2 + leAt d 14 2, data := b } :: l, data)

/-- Read the fragment list at an address, and the data of its fragments. -/
def readList (s : State) (c : Caller) (addr count : Nat) (data : List Bytes) : State × List Frag × List Bytes :=
  let (s, list, data) := jobRead s c addr (16 * count) data
  readFrags s c (pieces (min count 256) list) data

/-- A service MAC segment (R193); its list and its tag are read later. -/
def readSegment (b : Bytes) : SegBlock :=
  let flags := leAt b 2 1
  { op := leAt b 0 1, algo := leAt b 1 1, flags := flags, engine := leAt b 3 1, ticket := leAt b 4 2,
    tagLen := leAt b 6 1, keyHandle := leAt b 8 4, iv := slice b 0x0C 12, segLen := leAt b 0x18 8,
    fragCount := leAt b 0x20 2, listAddress := leAt b 0x28 8, tagAddress := leAt b 0x30 8,
    reserved := leAt b 7 1 + leAt b 0x22 6 + leAt b 0x38 8 + flags / 8, frags := [], expected := [] }

/-- A service digest job block (R206); its list and its tag are read later. -/
def readDigest (b : Bytes) : DigBlock :=
  let flags := leAt b 2 2
  { op := leAt b 0 1, algo := leAt b 1 1, flags := flags, outLen := leAt b 4 2, fragCount := leAt b 6 2,
    totalLen := leAt b 8 8, keyHandle := leAt b 0x10 4, destHandle := leAt b 0x14 4,
    destAttr := attrOf (slice b 0x18 16), listAddress := leAt b 0x28 8, dataAddress := leAt b 0x30 8,
    reserved := leAt b 0x38 8 + flags / 2, frags := [], expected := [] }

/-! ## What an admitted job reads (R207) -/

/-- The operands of a public-key job. -/
def fetchPke (s : State) (j : PkeJob) : State × PkeJob :=
  let (s, ops) := readOperands s j.caller j.block.operands j.data
  (s, { j with block := { j.block with operands := ops }, data := [] })

/-- The list, the data and the expected tag of a segment; a derivation's are its own. -/
def fetchSvc (s : State) (j : SvcJob) : State × SvcJob :=
  if j.derive.isSome then (s, j)
  else
    let b := j.block
    let (s, frags, data) := readList s j.caller b.listAddress b.fragCount j.data
    let (s, tag, _) := if b.flags / 2 % 2 == 1 && b.op == 2 then jobRead s j.caller b.tagAddress b.tagLen data else (s, [], data)
    (s, { j with block := { b with frags := frags, expected := tag }, data := [] })

/-- The list, the data and the expected tag of a digest job; a derivation's are its own. -/
def fetchDigest (s : State) (j : DigJob) : State × DigJob :=
  if j.derive.isSome then (s, j)
  else
    let b := j.block
    let (s, frags, data) := readList s j.caller b.listAddress b.fragCount j.data
    let (s, tag, _) := if b.op = 3 then jobRead s j.caller b.dataAddress b.outLen data else (s, [], data)
    (s, { j with block := { b with frags := frags, expected := tag }, data := [] })

/-- A reserved field of a fragment descriptor is not 0. -/
def fragsReserved (l : List Frag) : Bool := l.any (·.reserved != 0)

/-- The bytes of fragments up to the first that breaks R209, and whether one does: the sum of lengths must reach `total`
exactly at the one LAST descriptor, which must be the last of the list. -/
def fragsFault (total : Nat) : Nat → List Frag → Bytes × Bool
  | _, [] => ([], true)
  | seen, f :: t =>
    let sum := seen + f.length
    if total < sum || (f.last && (decide (sum < total) || !t.isEmpty)) || (!f.last && t.isEmpty) then ([], true)
    else if f.last then (f.data, false)
    else
      let (b, bad) := fragsFault total sum t
      (f.data ++ b, bad)

/-! ## Ending a job -/

/-- The SEQUENCE under which a reply's command was sent. -/
def replySeq (s : State) (r : Reply) : Nat :=
  match r with
  | .envelope id =>
    ((s.mbx.boxes.findSome? fun e => (e.2.outstanding.find? (·.id == id)).map (·.seq))).getD 0
  | .call k => ((s.wld.calls.find? (·.token == k)).map (·.seq)).getD 0
  | _ => 0

/-- Digest engine `d`. -/
def digestEngine (s : State) (d : Nat) : Digest := s.eng.digests.get {} d
/-- Change digest engine `d`. -/
def updDigest (s : State) (d : Nat) (f : Digest → Digest) : State :=
  { s with eng := { s.eng with digests := s.eng.digests.put d (f (digestEngine s d)) } }

/-- A digest job ends: its result block, where it has one, is kept for DGS_RESULT_READ, among the last 128, and its context is DONE until its result block
has been delivered (R211, R215). -/
def keepEnd (s : State) (c : Caller) (r : Reply) (e : JobEnd) : State :=
  match e.ctx with
  | none => s
  | some (d, k) =>
    let kept : DigResult := { caller := c, seq := replySeq s r, block := e.block, result := e.result }
    let s := if e.block.isEmpty then s
      else { s with eng := { s.eng with results := (s.eng.results ++ [kept]).drop (s.eng.results.length + 1 - 128) } }
    updDigest s d fun x => { x with ctxs := x.ctxs.map fun y =>
      (y.1, if y.1 = k then { y.2 with done := some (e.status, e.result), storing := false, key := [] } else y.2) }

/-- Return a job's outcome to its carrier: a ring job's completion carries it; any other answer carries the result block and
the outputs, which firmware's jobs have written to control memory (R152, R207, R324). -/
def endJob (s : State) (c : Caller) (r : Reply) (e : JobEnd) : State :=
  let s := keepEnd s c r e
  match r with
  | .ring id => endRing s id e
  | _ =>
    let firmware := inControl c
    let s := if firmware then e.outs.foldl (fun s o => jobWrite s c o.1 o.2) s else s
    let held : List RItem := if e.status = .busyLocked then [.holder e.holder] else []
    let block : List RItem := if e.block.isEmpty then [] else [.blob e.block]
    let outs : List RItem := if firmware then [] else e.outs.map fun o => RItem.blob o.2
    answer s r { status := e.status, items := held ++ block ++ outs ++ e.items }

/-- The reply of the job that a JOB_REF names (R355): the outstanding command of the same session, or the secure call of the
same pair, whose envelope carried the SEQUENCE. -/
def jobRef (s : State) (c : Caller) (seq : Nat) : Option Reply :=
  match c with
  | .session mb n => ((mailbox s mb).outstanding.find? fun o => o.session == n && o.seq == seq).map fun o => .envelope o.id
  | .firmware p => (s.wld.calls.find? fun k => k.pair == p && k.seq == seq).map fun k => .call k.token
  | _ => none

/-- The same outcome with another status: its outputs are zeroed and no slot was written (R152, R212). -/
def failedEnd (e : JobEnd) (st : Status) : JobEnd :=
  { e with
    status := st
    result := []
    outs := e.outs.map fun o => (o.1, zeros o.2.length)
    block := if e.block.isEmpty then []
      else leBytes 2 (Status.code st) ++ slice e.block 2 18 ++ leBytes 4 (if e.outs.isEmpty then 0 else e.outLen) ++ zeros 8 }

/-- A new number for a job of the engines. -/
def newJob (s : State) : Nat × State := (s.eng.nextJob, { s with eng := { s.eng with nextJob := s.eng.nextJob + 1 } })

/-- Store a job's key-type result: at once outside the vault, else through a commit; the job ends with it (R149, R212). -/
def storeResult (s : State) (c : Caller) (r : Reply) (h : Nat) (k : KeyRec) (e : JobEnd) : State :=
  match roomGate s h k.attr k.value.length with
  | some st => endJob s c r (failedEnd { e with holder := 0xFFFFFFFF } st)
  | none =>
    if !emptyHandle s h then endJob s c r (failedEnd e .invalidParameter)
    else if outsideVault h k.attr then
      match makeRoom s h k.value.length with
      | none => endJob s c r (failedEnd { e with holder := 0xFFFFFFFF } .busyLocked)
      | some (s, n) =>
        let s := noteKey (writeSlot s n h k 0) r h k.attr
        let s := if isDieHandle h then putDieKey s (handleNumber h) k else s
        endJob s c r e
    else gather s { ops := [.putKey h k], reply := some r, job := some e, caller := some c }

/-! ## The dispatcher's sources (R327) -/

/-- A source of the dispatcher. -/
def source (s : State) (n : Nat) : Source := s.eng.sources.get {} n

/-- Put a job at the end of its caller's source. -/
def submit (s : State) (c : Caller) (j : WaitJob) : State :=
  let n := sourceOf c
  let src := { source s n with jobs := (source s n).jobs ++ [(queueOf c, j)] }
  { s with eng := { s.eng with sources := s.eng.sources.put n src } }

/-- Take a waiting job off its source. -/
def unsubmit (s : State) (n : Nat) (p : WaitJob → Bool) : State :=
  let src := { source s n with jobs := (source s n).jobs.filter fun e => !p e.2 }
  { s with eng := { s.eng with sources := s.eng.sources.put n src } }

/-- The number of a waiting job. -/
def WaitJob.id : WaitJob → Nat
  | .pke j => j.id
  | .svc j => j.id
  | .digest j => j.id

/-- Where a waiting job's outcome goes. -/
def WaitJob.reply : WaitJob → Reply
  | .pke j => j.reply
  | .svc j => j.reply
  | .digest j => j.reply

/-- Who submitted a waiting job. -/
def WaitJob.caller : WaitJob → Caller
  | .pke j => j.caller
  | .svc j => j.caller
  | .digest j => j.caller

/-- The key that a waiting job fetches; 0 where it fetches none. -/
def WaitJob.handle : WaitJob → Nat
  | .pke j => j.block.keyHandle
  | .svc j => j.block.keyHandle
  | .digest j => j.block.keyHandle

/-- A ring job with FENCE waits until the completions of all earlier jobs of its queue are written (R326). -/
def fenced (s : State) (j : WaitJob) : Bool :=
  match j.caller, j.reply with
  | .function f q, .ring id =>
    let jobs := (queue s f q).jobs
    (jobs.any fun x => x.id == id && x.fence) && jobs.any fun x => decide (x.id < id)
  | _, _ => false

/-- The next job of a source: queues take turns one job at a time, each in fetch order (R327). -/
def nextOf (s : State) (n : Nat) : Option (Nat × WaitJob) :=
  let src := source s n
  let open_ := src.jobs.filter fun e => !fenced s e.2
  match open_.map (·.1) with
  | [] => none
  | q :: qs =>
    let later := (q :: qs).filter fun x => decide (src.lastQueue < x)
    let pick := match later with
      | [] => qs.foldl min q
      | y :: ys => ys.foldl min y
    open_.find? fun e => e.1 == pick

/-- Jobs a source may admit in a round: WEIGHT of a function, 16 for the mailbox source. -/
def weightOf (s : State) (n : Nat) : Nat := if n = 0 then 16 else (func s (n - 1)).weight

end Sys2Proof.Machine
end

