-- ==== Sys2Proof/Machine/Admission.lean ====
section
/-!
DEFINITION. Admission of service jobs: the checks of R153 and R208 in order, the lock attempt of R196, and the dispatcher's
round (R327).
-/

namespace Sys2Proof

/-! ## Flags of job blocks -/

/-- PREHASHED, KEY_INLINE and DETERMINISTIC of a job block. -/
def JobBlock.flag (b : JobBlock) (i : Nat) : Bool := b.flags / 2 ^ i % 2 == 1

/-- What an input operand of a job holds, by its ID; nothing where it is absent. -/
def JobBlock.input (b : JobBlock) (id : Nat) : Bytes := ((b.operands.find? (·.id == id)).map (·.data)).getD []

/-- A FIRST segment. -/
def SegBlock.first (b : SegBlock) : Bool := b.flags % 2 == 1

/-- A LAST segment. -/
def SegBlock.last (b : SegBlock) : Bool := b.flags / 2 % 2 == 1

/-- IV_RANDOM. -/
def SegBlock.ivRandom (b : SegBlock) : Bool := b.flags / 4 % 2 == 1

/-- TO_SLOT of a digest job. -/
def DigBlock.toSlot (b : DigBlock) : Bool := b.flags % 2 == 1

/-- The output length of a digest job. -/
def DigBlock.outBytes (b : DigBlock) : Nat := if b.algo = 7 || b.algo = 8 then b.outLen else digestLen b.algo

end Sys2Proof

namespace Sys2Proof.Machine

/-! ## Checks on keys that the families share -/

/-- The caller may write keys into its domain: an operator may not (R265). -/
def mayStore (s : State) (c : Caller) : Bool :=
  match callerRole s c with
  | some (.operator, _, _) => false
  | _ => true

/-- The caller is an officer. -/
def officerCaller (s : State) (c : Caller) : Bool :=
  match callerRole s c with
  | some (.officer, _, _) => true
  | _ => false

/-- Normal-world firmware holds no role in any domain (R265). -/
def roleless : Caller → Bool
  | .firmware _ => true
  | _ => false

/-- Check 4 on a destination: its domain, the role, and the rule of R254 on PASSAGE, QUORUM and EXPORTABLE. -/
def destRefused (s : State) (c : Caller) (d h : Nat) (a : Attr) : Bool :=
  handleDomain h != d || roleless c || memberKey s h || !mayStore s c || (attrPrivileged a && !officerCaller s c)

/-- Checks 4 to 6 on a key that a job fetches, in order: its domain and the caller's role there, its usage, and its type, lifetime and uses.  A key in no
slot is known by its vault record; a handle that carries no live key fails the last. -/
def keyRefused (s : State) (c : Caller) (d h : Nat) (usage type : Attr → Bool) : List (Bool × Status) :=
  let known := keyAttr s h
  let fails (p : Attr → Bool) : Bool := match known with
    | some a => !p a
    | none => false
  [(handleDomain h != d || roleless c, .notPermitted), (fails usage, .notPermitted),
   ((known.isNone && (pageGate s h).isNone) || fails (fun a => type a && usable s a), .invalidKey)]

/-- Check 9: the key is in a slot or can be paged in. -/
def pageRefused (s : State) (h : Nat) : List (Bool × Status) := (pageGate s h).toList.map fun st => (true, st)

/-- A destination's handle and attribute word stand (check 8), and there is room for the key and a vault that takes it. -/
def destStands (s : State) (h : Nat) (a : Attr) (ok : Bool) : List (Bool × Status) :=
  (!emptyHandle s h || !ok, .invalidParameter) :: (roomGate s h a a.length).toList.map fun st => (true, st)

/-! ## Public-key jobs (R146 to R153) -/

/-- Elliptic curves of R147 in Weierstrass form. -/
def isWeierstrass (algo : Nat) : Bool := (1 ≤ algo && algo ≤ 5) || algo == 0x0F
/-- Ed25519 and Ed448. -/
def isEdwards (algo : Nat) : Bool := algo == 0x10 || algo == 0x11
/-- RSA signatures. -/
def isRsa (algo : Nat) : Bool := algo == 0x20 || algo == 0x21
/-- ML-DSA. -/
def isMlDsa (algo : Nat) : Bool := 0x30 ≤ algo && algo ≤ 0x32
/-- ML-KEM. -/
def isMlKem (algo : Nat) : Bool := 0x38 ≤ algo && algo ≤ 0x3A

/-- OP and ALGO stand together in the table of R147.  Operations: 1 SIGN, 2 VERIFY, 3 KEYGEN, 4 DERIVE, 5 ENCAPS, 6 DECAPS. -/
def opListed (op algo : Nat) : Bool :=
  if isWeierstrass algo then 1 ≤ op && op ≤ 4
  else if isEdwards algo || isMlDsa algo then 1 ≤ op && op ≤ 3
  else if algo = 0x12 || algo = 0x13 || algo = 0x28 then op == 3 || op == 4
  else if isRsa algo then op == 1 || op == 2
  else if algo = 0x22 then op == 3
  else if isMlKem algo then op == 3 || op == 5 || op == 6
  else false


/-- HASH fits ALGO and OP (R150). -/
def hashFits (b : JobBlock) : Bool :=
  let signs := b.op == 1 || b.op == 2
  if isWeierstrass b.algo && signs then 1 ≤ b.hash && b.hash ≤ 6
  else if isRsa b.algo then 1 ≤ b.hash && b.hash ≤ 3
  else b.hash == 0

/-- The lengths of a hash code of R150. -/
def hashLen (h : Nat) : Nat := [0, 32, 48, 64, 32, 48, 64].getD h 0

/-- Check 2 of R153: the pair, the hash, the flags that the operation gives a meaning, and the fields that must be 0. -/
def pkeHeaderBad (b : JobBlock) : Bool :=
  !opListed b.op b.algo || !hashFits b || b.reserved != 0
    || (b.flag 0 && (isEdwards b.algo || !(b.op == 1 || b.op == 2)))
    || (b.flag 1 && !(b.op == 2 || b.op == 5))
    || (b.algo != 0x0F && b.curveIndex != 0)
    || (!(0x20 ≤ b.algo && b.algo ≤ 0x28) && b.sizeWords != 0)
    || ((b.flag 1 || b.op == 3) && b.keyHandle != 0)
    || (b.op < 3 && b.destAttr != attrOf [])
    || (if b.algo = 0x21 then decide (hashLen b.hash < b.saltLen) else b.saltLen != 0)

/-- The record of a loaded curve. -/
def curve (s : State) (i : Nat) : Option Curve := s.pke.curves.look i

/-- The record of the loaded curve that a job names; none for another algorithm. -/
def jobCurve (s : State) (b : JobBlock) : Bytes :=
  if b.algo = 0x0F then ((curve s b.curveIndex).map (·.record)).getD [] else []

/-- FIELD_BITS of a curve record. -/
def fieldBits (r : Bytes) : Nat := leAt r 0 2

/-- Bytes of a field element of a curve's algorithm. -/
def fieldBytes (s : State) (b : JobBlock) : Nat :=
  if b.algo = 0x0F then (match curve s b.curveIndex with
    | some c => (fieldBits c.record + 7) / 8
    | none => 0)
  else (([(1, 32), (2, 48), (3, 66), (4, 32), (5, 48), (0x10, 32), (0x11, 57), (0x12, 32), (0x13, 56)] :
    List (Nat × Nat)).lookup b.algo).getD (8 * b.sizeWords)

/-- Bytes of the order of a curve's base point. -/
def orderBytes (s : State) (b : JobBlock) : Nat :=
  if b.algo = 0x0F then (match curve s b.curveIndex with
    | some c => (Nat.log2 (leAt c.record 0x178 72) + 8) / 8
    | none => 0)
  else fieldBytes s b

/-- The length of a signature of an algorithm (R148). -/
def signatureLen (s : State) (b : JobBlock) : Nat :=
  if isWeierstrass b.algo then 2 * orderBytes s b
  else (([(0x10, 64), (0x11, 114), (0x30, 2420), (0x31, 3309), (0x32, 4627)] : List (Nat × Nat)).lookup b.algo).getD
    (8 * b.sizeWords)

/-- The length of a public key as an operand (R148, R151). -/
def publicLen (s : State) (b : JobBlock) (inline : Bool) : Nat :=
  if isWeierstrass b.algo then 1 + 2 * fieldBytes s b
  else if isRsa b.algo || b.algo = 0x22 then (if inline || b.algo = 0x22 then 4 else 0) + 8 * b.sizeWords
  else (([(0x30, 1312), (0x31, 1952), (0x32, 2592), (0x38, 800), (0x39, 1184), (0x3A, 1568)] :
    List (Nat × Nat)).lookup b.algo).getD (fieldBytes s b)

/-- The length of an ML-KEM ciphertext. -/
def ciphertextLen (algo : Nat) : Nat := if algo = 0x38 then 768 else if algo = 0x39 then 1088 else 1568

/-- A digest, μ or message as MESSAGE: the exact length with PREHASHED, else any. -/
def messageOk (b : JobBlock) (n : Nat) : Bool :=
  !b.flag 0 || n == (if isMlDsa b.algo then 64 else hashLen b.hash)

/-- An operand of an operation: its ID, whether the operation needs it (else it may be absent), whether it is an output, and
the lengths it may have. -/
structure OperandRule where
  id : Nat
  needed : Bool
  output : Bool
  lengthOk : Nat → Bool

/-- The operands of a job (R151). -/
def operandRules (s : State) (b : JobBlock) : List OperandRule :=
  let exact (n : Nat) : Nat → Bool := fun m => m == n
  let rule (id : Nat) (needed output : Bool) (ok : Nat → Bool) : OperandRule :=
    { id := id, needed := needed, output := output, lengthOk := ok }
  let context : List OperandRule :=
    if b.algo = 0x11 || isMlDsa b.algo then [rule 6 false false fun n => n ≤ 255] else []
  if b.op = 1 then [rule 1 true false (messageOk b), rule 0x10 true true (exact (signatureLen s b))] ++ context
  else if b.op = 2 then
    [rule 1 true false (messageOk b), rule 2 true false (exact (signatureLen s b))] ++ context
      ++ (if b.flag 1 then [rule 3 true false (exact (publicLen s b true))] else [])
  else if b.op = 3 then
    rule 0x11 true true (exact (publicLen s b false)) ::
      (if b.algo = 0x22 then [rule 7 true false (exact 4)]
       else if b.algo = 0x28 then
         [rule 8 true false (exact (8 * b.sizeWords)), rule 9 true false (exact (8 * b.sizeWords)),
          rule 0x0A false false fun n => 1 ≤ n && n ≤ 8 * b.sizeWords]
       else [])
  else if b.op = 4 then [rule 4 true false (exact (publicLen s b false))]
  else if b.op = 5 then
    rule 0x12 true true (exact (ciphertextLen b.algo)) ::
      (if b.flag 1 then [rule 3 true false (exact (publicLen s b true))] else [])
  else [rule 5 true false (exact (ciphertextLen b.algo))]

/-- SIZE_WORDS is within its range (R147). -/
def sizeInRange (b : JobBlock) : Bool :=
  let n := b.sizeWords
  if isRsa b.algo && b.op = 2 then 16 ≤ n && n ≤ 128
  else if isRsa b.algo || b.algo = 0x22 then 32 ≤ n && n ≤ 128 && n % 2 == 0
  else if b.algo = 0x28 then 32 ≤ n && n ≤ 128
  else true

/-- Check 7 of R153: every operand the operation needs is there once, with the length its encoding requires, and no other. -/
def operandsBad (s : State) (b : JobBlock) : Bool :=
  let rules := operandRules s b
  !sizeInRange b
    || rules.any (fun r => decide (1 < b.operands.countP (·.id == r.id)) || (r.needed && !b.operands.any (·.id == r.id)))
    || b.operands.any fun o => !rules.any fun r => r.id == o.id && r.output == o.output && r.lengthOk o.length

/-- The type of the private key of an algorithm; the public one is 0x40 above (R251). -/
def privateType (algo : Nat) : Nat := 0x40 + (if algo = 0x21 || algo = 0x22 then 0x20 else algo)

/-- The usage bit that an operation needs (check 5). -/
def opUse (op : Nat) : Nat := if op = 1 then 0 else if op = 2 then 1 else if op = 4 then 5 else 6

/-- The key has the usage bit for OP (check 5). -/
def pkeKeyUse (b : JobBlock) (a : Attr) : Bool := useBit a (opUse b.op)

/-- The key's type, size and curve match the job (check 6). -/
def pkeKeyFits (b : JobBlock) (a : Attr) : Bool :=
  a.type == privateType b.algo + (if b.op = 2 || b.op = 5 then 0x40 else 0)
    && (!(isRsa b.algo || b.algo == 0x28) || sizeFits a.type a.length b.sizeWords)
    && (b.algo != 0x0F || a.curveIndex == b.curveIndex)

/-- Bytes of the shared secret that an operation gives. -/
def secretLen (s : State) (b : JobBlock) : Nat := if isMlKem b.algo then 32 else fieldBytes s b

/-- The length of a KEYGEN's private key fits the job's size: a finite-field key carries q where the job gives it. -/
def keygenLengthOk (b : JobBlock) (n : Nat) : Bool :=
  if b.algo = 0x22 then sizeFits 0x60 n b.sizeWords
  else if b.algo = 0x28 then n == (if b.operands.any (·.id == 0x0A) then 24 else 16) * b.sizeWords + 64
  else true

/-- The attribute word fits the operation's result (R149, R254): the private key of KEYGEN, else the shared secret. -/
def pkeDestFits (s : State) (b : JobBlock) : Bool :=
  let a := b.destAttr
  let exportable := match keyAttr s b.keyHandle with
    | some k => k.exportable
    | none => false
  attrOk s a b.destHandle (if b.op = 3 then 0 else 2) exportable
    && (if b.op = 3 then
          a.type == privateType b.algo && keygenLengthOk b a.length && (b.algo != 0x0F || a.curveIndex == b.curveIndex)
        else a.type == 0x04 && a.length == secretLen s b)

/-- The operation gives a key-type result. -/
def hasDest (op : Nat) : Bool := 3 ≤ op

/-- Checks 1 to 9 of R153 in order: the first failure.  The checks of a curve record (R174) need no more than a SERVICE core. -/
def pkeGate (s : State) (j : PkeJob) : Option Status :=
  let b := j.block
  if j.curve.isSome then firstOf [(suspended s, .suspended), (!serviceReady s, .notReady)] else
  let keyed := !b.flag 1 && b.op != 3
  let curveBad := b.algo == 0x0F && ((domain s j.domain).policy != 1 || (match curve s b.curveIndex with
    | some c => c.domain != j.domain
    | none => true))
  let onKey := keyRefused s j.caller j.domain b.keyHandle (pkeKeyUse b) (pkeKeyFits b)
  firstOf ([(suspended s, .suspended), (pkeHeaderBad b, .invalidParameter),
      (!s.kst.ready || !domainKnown s j.domain || !serviceReady s, .notReady),
      (hasDest b.op && rootNeeded s b.destAttr, .notReady)]
    ++ (if keyed then onKey.take 1 else [])
    ++ [(hasDest b.op && destRefused s j.caller j.domain b.destHandle b.destAttr, .notPermitted), (curveBad, .notPermitted)]
    ++ (if keyed then onKey.drop 1 else [])
    ++ [(operandsBad s b, .invalidLength)]
    ++ (if hasDest b.op then destStands s b.destHandle b.destAttr (pkeDestFits s b)
        else [(b.destHandle != 0, .invalidParameter)])
    ++ (if keyed then pageRefused s b.keyHandle else []))

/-- The result block of R152. -/
def pkeBlock (st : Status) (op algo core check attempts candidates survivors cycles outLen dest : Nat) : Bytes :=
  leBytes 2 (Status.code st) ++ leBytes 1 op ++ leBytes 1 algo ++ leBytes 1 core ++ leBytes 1 check
    ++ leBytes 2 attempts ++ leBytes 4 candidates ++ leBytes 4 survivors ++ leBytes 4 (min cycles 0xFFFFFFFF)
    ++ leBytes 4 outLen ++ leBytes 4 dest ++ zeros 4

/-- A public-key job that ends with a status given before it starts: CORE 0xFF and no output (R152, R153). -/
def endPkeEarly (s : State) (j : PkeJob) (st : Status) : State :=
  endJob s j.caller j.reply {
    status := st
    holder := if st = .busyLocked then 0xFFFFFFFF else 0
    block := pkeBlock st j.block.op j.block.algo 0xFF 0 0 0 0 0 0 0 }

/-- The zeroed outputs of a job that ends without OK (R152). -/
def zeroOuts (b : JobBlock) : List (Nat × Bytes) :=
  (b.operands.filter (·.output)).map fun o => (o.address, zeros o.length)

/-- Bytes of a list of outputs. -/
def outsLen (l : List (Nat × Bytes)) : Nat := (l.map (·.2.length)).sum

/-- A public-key job that ends after its admission, but before a core has started it: CORE 0xFF, and every output zeroed (R152, R166).
The checks of a curve record have no block. -/
def endPkeUnstarted (s : State) (j : PkeJob) (st : Status) : State :=
  if j.curve.isSome then answerStatus s j.reply st
  else
    let outs := zeroOuts j.block
    endJob s j.caller j.reply {
      status := st
      outLen := outsLen outs
      block := pkeBlock st j.block.op j.block.algo 0xFF 0 0 0 0 0 (outsLen outs) 0
      outs := outs }

/-! ## The digests of public-key jobs (R150) -/

/-- A digest that a public-key job takes on the digest engines: its code, its bytes, whether its input needs the job's key, and whether
the secret prefix of an EdDSA nonce is part of it. -/
structure DigestStep where
  algo : Nat
  out : Nat
  keyed : Bool
  secret : Bool := false

/-- The digests of a job, in the order in which they are made: that of the MESSAGE for ECDSA and RSA, those of EdDSA, and tr and μ of
ML-DSA, whose private key holds its tr. -/
def digestPlan (b : JobBlock) : List DigestStep :=
  if b.flag 0 || !(b.op == 1 || b.op == 2) then []
  else if isEdwards b.algo then
    let h : DigestStep := if b.algo = 0x10 then { algo := 3, out := 64, keyed := true } else { algo := 8, out := 114, keyed := true }
    if b.op = 1 then [{ h with secret := true }, h] else [h]
  else if isMlDsa b.algo then
    { algo := 8, out := 64, keyed := true } :: (if b.op = 2 then [{ algo := 8, out := 64, keyed := false }] else [])
  else [{ algo := b.hash, out := hashLen b.hash, keyed := false }]

/-- Every digest of a job is made. -/
def digestsDone (j : PkeJob) : Bool := (digestPlan j.block).length ≤ j.digests.length

/-- Send the next digest of a job to the digest engines, if one is left. -/
def pushDigest (s : State) (j : PkeJob) : State :=
  match (digestPlan j.block)[j.digests.length]? with
  | none => s
  | some d =>
    let (id, s) := newJob s
    let b : DigBlock := { op := 1, algo := d.algo, flags := 0, outLen := d.out, fragCount := 0, totalLen := 0,
                          keyHandle := if d.keyed then j.block.keyHandle else 0, destHandle := 0, destAttr := attrOf [],
                          dataAddress := 0, reserved := 0, frags := [], expected := [] }
    let w : DigJob := { id := id, block := b, caller := j.caller, domain := j.domain, reply := .log, pke := some j.id }
    { s with eng := { s.eng with digestWait := s.eng.digestWait ++ [w] } }

/-! ## Service MAC segments and digest jobs (R193 to R208) -/


/-- SVC_READY: the engine has passed its self-test, is seeded and is not gated (R202, R393). -/
def svcReady (s : State) (e : Nat) : Bool :=
  let x := svc s e
  (x.state == .idle || x.state == .busy) && x.mask.seed.isSome && !gated s e

/-- DGS_READY: the engine has passed its self-test and is neither FAILED nor OFFLINE nor gated (R215, R393). -/
def digestReady (s : State) (d : Nat) : Bool :=
  let x := digestEngine s d
  (x.state == .idle || x.state == .busy) && !gated s (32 + d)

/-- An engine is free: no message holds it.  Its zeroing delays no job (R188, R202). -/
def svcFree (s : State) (e : Nat) : Bool := (svc s e).hold.isNone

/-- The message that a later segment names by engine and ticket. -/
def namedHold (s : State) (b : SegBlock) : Option Hold :=
  if b.first || 31 < b.engine then none else (svc s b.engine).hold.filter (·.ticket == b.ticket)

/-- The fields of a segment stand under R193 (check 2).  TAG_LEN is that of the FIRST segment but on the LAST, which alone carries one
(assumption 35). -/
def segmentBad (s : State) (b : SegBlock) : Bool :=
  let differs := match namedHold s b with
    | some h => h.op != b.op || h.algo != b.algo || (!b.last && h.tagLen != b.tagLen)
    | none => false
  !(b.op == 1 || b.op == 2) || !(b.algo == 1 || b.algo == 2) || b.reserved != 0
    || (b.ivRandom && !(b.op == 1 && b.algo == 2))
    || (if b.first then (31 < b.engine && b.engine != 0xFF) || b.ticket != 0
        else 31 < b.engine || b.keyHandle != 0)
    || (!(b.first && b.algo == 2 && !b.ivRandom) && !allZero b.iv)
    || (!b.last && b.tagAddress != 0) || differs

/-- TAG_LEN, FRAG_COUNT and SEG_LEN meet their rules (check 7, R193, R194). -/
def segmentLengthBad (b : SegBlock) : Bool :=
  let tagOk := if !b.last then b.tagLen == 0
    else if b.algo = 1 then 8 ≤ b.tagLen && b.tagLen ≤ 16
    else [4, 8, 12, 13, 14, 15, 16].contains b.tagLen
  let segOk := if b.last then !(b.first && b.segLen == 0) else b.segLen != 0 && b.segLen % 16 == 0
  !tagOk || !segOk || b.fragCount < 1 || 256 < b.fragCount

/-- An engine that can take no segment: in self-test, FAILED, OFFLINE or gated (R202, R393). -/
def svcOut (s : State) (e : Nat) : Bool :=
  let st := (svc s e).state
  st == .selfTest || st == .failed || st == .offline || gated s e

/-- An engine of the family is ready; the engine that a FIRST segment names must be able to take it (R393). -/
def svcFamilyReady (s : State) (b : SegBlock) : Bool :=
  (List.range 32).any (svcReady s) && !(b.first && decide (b.engine < 32) && svcOut s b.engine)

/-- The usage, type and range rules of a derivation's base key (R261), or those of a MAC key. -/
def segKeyUse (j : SvcJob) (a : Attr) : Bool :=
  if j.derive.isSome then useBit a 4 else useBit a (if j.block.op = 1 then 2 else 3)

/-- A service MAC key is AES-128 or AES-256; a derivation's base key is AES-256. -/
def segKeyType (j : SvcJob) (a : Attr) : Bool := if j.derive.isSome then a.type == 2 else a.type == 1 || a.type == 2

/-- The attribute word of a derived key fits (R254, R261). -/
def deriveFits (s : State) (a : Attr) (h : Nat) (exportable : Bool) : Bool :=
  attrOk s a h 2 exportable && [1, 2, 3, 4].contains a.type && 16 ≤ a.length && a.length ≤ 64

/-- The destination of a derivation: check 4, then check 8 (R254, R261). -/
def deriveDest (s : State) (c : Caller) (d base : Nat) : Option DeriveSpec → List (Bool × Status) × List (Bool × Status)
  | none => ([], [])
  | some ⟨_, h, a, _, _⟩ =>
    let exportable := match keyAttr s base with
      | some k => k.exportable
      | none => false
    ([(destRefused s c d h a, .notPermitted)],
     destStands s h a (deriveFits s a h exportable))

/-- The checks of R208 on a segment but for the lock: a later segment runs checks 1, 2 and 7. -/
def svcGate (s : State) (j : SvcJob) : Option Status :=
  let b := j.block
  let start : List (Bool × Status) := [(suspended s, .suspended), (segmentBad s b, .invalidParameter)]
  if b.first then
    let onKey := keyRefused s j.caller j.domain b.keyHandle (segKeyUse j) (segKeyType j)
    let dest := deriveDest s j.caller j.domain b.keyHandle j.derive
    let rootless := match j.derive with
      | some d => rootNeeded s d.attr
      | none => false
    firstOf (start ++ [(!s.kst.ready || !domainKnown s j.domain || rootless || !svcFamilyReady s b, .notReady)] ++ onKey.take 1 ++ dest.1 ++ onKey.drop 1
      ++ [(segmentLengthBad b, .invalidLength)] ++ dest.2 ++ pageRefused s b.keyHandle)
  else firstOf (start ++ [(segmentLengthBad b, .invalidLength)])

/-- The result block of R201. -/
def svcBlock (st : Status) (op algo engine ticket holder bytes : Nat) (iv : Bytes) : Bytes :=
  leBytes 2 (Status.code st) ++ leBytes 1 op ++ leBytes 1 algo ++ leBytes 1 engine ++ [0] ++ leBytes 2 ticket
    ++ leBytes 4 holder ++ leBytes 8 bytes ++ iv ++ zeros (12 - iv.length)

/-- End a segment with a status and what R201 returns. -/
def endSvc (s : State) (j : SvcJob) (st : Status) (engine ticket holder bytes : Nat) (iv : Bytes) (tag : Bytes) : State :=
  let gen := st == .ok && j.block.last && j.block.op == 1
  endJob s j.caller j.reply {
    status := st
    engine := engine
    ticket := ticket
    holder := holder
    outLen := if gen then tag.length else 0
    block := svcBlock st j.block.op j.block.algo engine ticket holder bytes iv
    outs := if gen then [(j.block.tagAddress, tag)] else [] }

/-- What a refused later segment returns of the message it names: its ticket and the bytes taken so far, while the message stands; 0
and 0 for any other segment. -/
def standing (s : State) (j : SvcJob) : Nat × Nat :=
  match namedHold s j.block with
  | some h => (h.ticket, h.data.length)
  | none => (0, 0)

/-- Engines a FIRST segment may take, lowest first (R196, R200): the one named, or with 0xFF every ready one that is neither
starved nor unseeded. -/
def lockable (s : State) (b : SegBlock) : List Nat :=
  if b.engine = 0xFF then (List.range 32).filter fun e => svcReady s e && !starved s (288 + e)
  else [b.engine]

/-- The lock attempt of a FIRST segment (R196): the engine is locked under a new ticket, or BUSY_LOCKED names the holder. -/
def lockEngine (s : State) (j : SvcJob) : State :=
  let b := j.block
  match (lockable s b).find? (svcFree s) with
  | some e =>
    let (s, j) := fetchSvc s j
    if fragsReserved j.block.frags then endSvc s j .invalidParameter 0xFF 0 0 0 [] []
    else
      let t := if (svc s e).ticket = 65535 then 1 else (svc s e).ticket + 1
      let h : Hold := { user := userId j.caller, caller := j.caller, ticket := t, op := b.op, algo := b.algo, tagLen := b.tagLen,
                        handle := b.keyHandle, iv := b.iv, queue := [j] }
      updSvc s e fun x => { x with hold := some h, ticket := t }
  | none =>
    let holder := if b.engine = 0xFF then 0xFFFFFFFF else (((svc s b.engine).hold.map (·.user)).getD 0xFFFFFFFF)
    endSvc s j .busyLocked 0xFF 0 holder 0 [] []

/-- The judgment of a later segment (R197). -/
def laterSegment (s : State) (j : SvcJob) : State :=
  let b := j.block
  match namedHold s b with
  | none => endSvc s j .aborted 0xFF 0 0 0 [] []
  | some h =>
    if h.user ≠ userId j.caller then endSvc s j .busyLocked 0xFF h.ticket h.user h.data.length [] []
    else
      let (s, j) := fetchSvc s j
      if fragsReserved j.block.frags then endSvc s j .invalidParameter 0xFF h.ticket 0 h.data.length [] []
      else updSvc s b.engine fun x => { x with hold := some { h with queue := h.queue ++ [j], idleFrom := none } }


/-- The fields of a digest job stand under R206 (check 2). -/
def digestBad (b : DigBlock) : Bool :=
  !(1 ≤ b.op && b.op ≤ 3) || !(1 ≤ b.algo && b.algo ≤ 8) || b.reserved != 0
    || (b.op != 1 && 6 < b.algo) || (b.toSlot && b.op == 3)
    || (b.op == 1 && b.keyHandle != 0) || (!b.toSlot && (b.destHandle != 0 || !allZero (attrBytes b.destAttr)))

/-- FRAG_COUNT, OUT_LEN and TOTAL_LEN meet their rules (check 7). -/
def digestLengthBad (b : DigBlock) : Bool :=
  let outOk := if b.algo = 7 || b.algo = 8 then 1 ≤ b.outLen && b.outLen ≤ 512
    else if b.op = 3 then 8 ≤ b.outLen && b.outLen ≤ digestLen b.algo
    else b.outLen == 0
  !outOk || b.fragCount < 1 || 256 < b.fragCount || 2 ^ 40 ≤ b.totalLen

/-- The key of an HMAC job, or the base key of a derivation through the HMAC PRFs (R208, R261). -/
def digKeyUse (j : DigJob) (a : Attr) : Bool :=
  if j.derive.isSome then useBit a 4 else useBit a (if j.block.op = 2 then 2 else 3)

/-- Types of an HMAC job's key. -/
def digKeyType (j : DigJob) (a : Attr) : Bool :=
  a.type == 3 || (j.derive.isSome && a.type == 4)

/-- The attribute word of a job sent to a slot fits: a symmetric type, at most as long as the output (R208 check 8, R212,
R254). -/
def digDestFits (s : State) (j : DigJob) : Bool :=
  let a := j.block.destAttr
  let exportable := match keyAttr s j.block.keyHandle with
    | some k => k.exportable
    | none => false
  if j.derive.isSome then deriveFits s a j.block.destHandle exportable
  else attrOk s a j.block.destHandle 2 exportable && [1, 2, 3, 4].contains a.type && decide (a.length ≤ j.block.outBytes)

/-- The checks of R208 on a digest job. -/
def digestGate (s : State) (j : DigJob) : Option Status :=
  let b := j.block
  let keyed := b.op != 1
  let onKey := keyRefused s j.caller j.domain b.keyHandle (digKeyUse j) (digKeyType j)
  let dest := b.toSlot
  firstOf ([(suspended s, .suspended), (digestBad b, .invalidParameter),
      ((keyed && (!s.kst.ready || !domainKnown s j.domain)) || !(List.range 64).any (digestReady s), .notReady),
      (dest && (!s.kst.ready || rootNeeded s b.destAttr), .notReady)]
    ++ (if keyed then onKey.take 1 else [])
    ++ [(dest && destRefused s j.caller j.domain b.destHandle b.destAttr, .notPermitted)]
    ++ (if keyed then onKey.drop 1 else [])
    ++ [(digestLengthBad b, .invalidLength)]
    ++ (if dest then destStands s b.destHandle b.destAttr (digDestFits s j) else [])
    ++ (if keyed then pageRefused s b.keyHandle else []))

/-- The result block of R214. -/
def digestBlock (st : Status) (op algo engine context bytes outLen dest : Nat) : Bytes :=
  leBytes 2 (Status.code st) ++ leBytes 1 op ++ leBytes 1 algo ++ leBytes 1 engine ++ leBytes 1 context ++ zeros 2
    ++ leBytes 8 bytes ++ leBytes 4 outLen ++ leBytes 4 dest ++ zeros 8

/-- A digest job that ends before a context is taken. -/
def endDigestEarly (s : State) (j : DigJob) (st : Status) : State :=
  endJob s j.caller j.reply {
    status := st
    holder := if st = .busyLocked then 0xFFFFFFFF else 0
    block := digestBlock st j.block.op j.block.algo 0xFF 0 0 0 0 }

/-! ## The dispatcher's round (R327) -/

/-- The family queue of a job's engine is full at 4,096. -/
def familyFull (s : State) : WaitJob → Bool
  | .pke _ => decide (4096 ≤ s.pke.waiting.length)
  | .digest _ => decide (4096 ≤ s.eng.digestWait.length)
  | .svc _ => decide (4096 ≤ (s.eng.svcs.map fun e => (e.2.hold.map fun h => h.queue.length - 8).getD 0).sum)

/-- The job of a ring whose data was read wrongly ends with INVALID_PARAMETER before any engine starts (R324). -/
def WaitJob.dmaError : WaitJob → Bool
  | .pke j => j.dmaError
  | .svc j => j.dmaError
  | .digest j => j.dmaError

/-- A host function with no domain assigned runs no job (R320). -/
def unassigned (s : State) (c : Caller) : Bool :=
  match c with
  | .function _ _ => (callerRole s c).isNone
  | _ => false

/-- The status that admission ends a job with, if it fails: R320, then the checks of its family, then a DMA read error. -/
def admissionGate (s : State) (j : WaitJob) : Option Status :=
  if unassigned s j.caller then some .notPermitted
  else
    let st := match j with
      | .pke j => pkeGate s j
      | .svc j => svcGate s j
      | .digest j => digestGate s j
    match st with
    | some st => some st
    | none => if j.dmaError then some .invalidParameter else none

/-- End a job that admission refuses. -/
def endEarly (s : State) (j : WaitJob) (st : Status) : State :=
  match j with
  | .pke j => endPkeEarly s j st
  | .svc j =>
    endSvc s j st 0xFF (standing s j).1 (if st = .busyLocked then 0xFFFFFFFF else 0) (standing s j).2 [] []
  | .digest j => endDigestEarly s j st

/-- End a job that an abort takes off its source (R166, R199, R217). -/
def endAbortedAtSource (s : State) (j : WaitJob) : State :=
  match j with
  | .pke j => endPkeUnstarted s j .aborted
  | j => endEarly s j .aborted

/-- A page-in found no victim: each job that waits for the key at the head of its queue ends with BUSY_LOCKED (R249, R301). -/
def refuseAtSources (s : State) (h : Nat) : State :=
  s.eng.sources.foldl (fun s e =>
    let waits := e.2.jobs.filter fun j => j.2.handle == h && (e.2.jobs.find? (·.1 == j.1)).any fun k => k.2.id == j.2.id
    waits.foldl (fun s j => endEarly (unsubmit s e.1 fun x => x.id == j.2.id) j.2 .busyLocked) s) s

/-- Put an admitted job into its family, with what it reads and, for a public-key job, its first digest. -/
def enterFamily (s : State) (j : WaitJob) : State :=
  match j with
  | .pke j =>
    let (s, j) := fetchPke s j
    pushDigest { s with pke := { s.pke with waiting := s.pke.waiting ++ [j] } } j
  | .digest j =>
    let (s, j) := fetchDigest s j
    if fragsReserved j.block.frags then endDigestEarly s j .invalidParameter
    else { s with eng := { s.eng with digestWait := s.eng.digestWait ++ [j] } }
  | .svc j => if j.block.first then lockEngine s j else laterSegment s j

/-- The lock check comes before a use of the key is taken: a held engine refuses the attempt (R196, R208). -/
def lockRefused (s : State) : WaitJob → Bool
  | .svc j => j.block.first && !(lockable s j.block).any (svcFree s)
  | _ => false

/-- What the admission of a source's next job comes to: it is done with, one way or the other, or it waits for its key. -/
def admitJob (s : State) (n : Nat) (j : WaitJob) : State × Bool :=
  let off (s : State) : State := unsubmit s n fun x => x.id == j.id
  match admissionGate s j with
  | some st => (endEarly (off s) j st, true)
  | none =>
    if j.handle = 0 || lockRefused s j then (enterFamily (off s) j, true)
    else if (slotOf s j.handle).isNone then (askPageIn s j.handle, false)
    else match takeUse s j.handle with
      | (s, .waits) => (s, false)
      | (s, .refused st) => (endEarly (off s) j st, true)
      | (s, .granted) => (enterFamily (off s) j, true)

/-- A job that waits for its key is passed over: the source's turn moves to its next queue. -/
def passQueue (s : State) (n q : Nat) : State :=
  { s with eng := { s.eng with sources := s.eng.sources.put n { source s n with lastQueue := q } } }

/-- The sources in the order in which they are asked: the one whose turn goes on, the others by rising number, and at last
the first again with a turn of its own.  Each stands with whether its turn begins. -/
def roundFrom (turn : Nat) : List (Nat × Bool) :=
  (turn, false) :: (List.range 1025).map fun k => ((turn + 1 + k) % 1025, true)

/-- The first source that has a job to admit: one that has not used up its turn, whose next job's family has room, and
which admits it or ends it now. -/
def admitNext (s : State) : List (Nat × Bool) → State
  | [] => s
  | (n, begins) :: t =>
    if !begins && decide (weightOf s n ≤ s.eng.taken) then admitNext s t
    else match nextOf s n with
      | none => admitNext s t
      | some (q, j) =>
        if familyFull s j then admitNext s t
        else match admitJob s n j with
          | (s, true) =>
            let s := passQueue s n q
            let k := if begins then 1 else s.eng.taken + 1
            { s with eng := { s.eng with turn := n, taken := k } }
          | (s, false) => admitNext (passQueue s n q) t

/-- JOB_ADMISSION: the dispatcher admits the next job of its sources by deficit round robin (R327). -/
def execJobAdmission (t : Time) (s : State) : Outcome :=
  let s := advance s t
  .next (admitNext s (roundFrom s.eng.turn))

end Sys2Proof.Machine
end

