-- ==== Sys2Proof/Machine/KeyCmds.lean ====
section
/-!
DEFINITION. The key commands that touch one key: generation, destruction, narrowing, transports, import and export
(R255 to R260, R266, R281).
-/

namespace Sys2Proof.Machine

/-! ## Conditions (R277) -/

/-- Use, generation, import and export: the key store must be ready and no response of S2 or above may stand. -/
def useConditions (s : State) : List (Bool × Status) :=
  [(!s.kst.ready, .notReady), (suspended s, .suspended)]

/-- Destroying and narrowing: the key store must be ready, and S4 refuses them. -/
def changeConditions (s : State) : List (Bool × Status) := [(!s.kst.ready || decide (4 ≤ s.lan.severity), .notReady)]

/-- A command waits for the RNG, which its interim response says (R363). -/
def waitDraw (s : State) (r : Reply) : State :=
  match r with
  | .envelope id => { s with mbx := { s.mbx with boxes := s.mbx.boxes.map fun e =>
      (e.1, { e.2 with outstanding := e.2.outstanding.map fun o => if o.id == id then { o with rngWait := true } else o }) } }
  | _ => s

/-- The instance that would serve a draw is not yet serving (R233). -/
def drawWaits (s : State) (home n : Nat) : Bool :=
  match (draw s home false n).2 with
  | .error .rngStarting => true
  | _ => false

/-- Carry on with a command that will draw once its quorum is met: while the instance is not yet serving it waits, before any
nonce is consumed. -/
def untilServing (s : State) (r : Reply) (home n : Nat) (k : State) : State := if drawWaits s home n then waitDraw s r else k

/-- A draw for a command: while the instance is not yet serving the command waits (R233, R363), and a refused draw ends it
with RNG_DEGRADED (R232). -/
def withDraw (s : State) (r : Reply) (home n : Nat) (k : State → Bytes → State) : State :=
  match draw s home false n with
  | (s, .ok b) => k s b
  | (s, .error .rngStarting) => waitDraw s r
  | (s, .error st) => answerStatus s r st

/-! ## Generation and destruction -/

/-- The checks of KST_GENERATE (R249, R254, R255, R277). -/
def generateGate (s : State) (c : Cmd) (h : Nat) (a : Attr) : Option Status :=
  leastOf (useConditions s ++
    [(rootNeeded s a, .notReady), (!attrOk s a h 0 false, .invalidParameter),
     (!([1, 2, 3, 4].contains a.type), .invalidParameter), (!emptyHandle s h, .invalidParameter),
     (handleDomain h ≠ c.domain || memberKey s h, .notPermitted), (attrPrivileged a && !isOfficer s c, .notPermitted)]
    ++ (roomGate s h a a.length).toList.map fun st => (true, st))

/-- KST_GENERATE. -/
def execKstGenerate (c : Cmd) (s : State) : Outcome :=
  .next (command s c 0x0201 fun s =>
    let h := c.nat 2
    let a := { attrOf (c.bytes 3) with origin := 0 }
    match generateGate s c h a with
    | some st => answerRoom s c.reply st
    | none => withDraw s c.reply 1 a.length fun s b => storeKey s c.reply h { attr := a, value := b } { status := .ok })

/-- Erase a key whose destruction is permitted: at once outside the vault, else through a commit. -/
def eraseKey (s : State) (c : Cmd) (h : Nat) (a : Attr) (reasons : List Nat) : State :=
  if outsideVault h a then
    let s := enterAbsent (eraseSlot s h) h
    let s := if isDieHandle h then { s with die := { s.die with keys := s.die.keys.del (handleNumber h) } } else s
    answerOk s c reasons []
  else gather s { ops := [.eraseKey h], reply := some c.reply, reasons := reasons, cmd := some c }

/-- The checks of KST_DESTROY and KST_ATTR_SET before their quorum (R265, R277, R303); `barred` are those of the one command alone. -/
def changeKeyGate (s : State) (c : Cmd) (h : Nat) (barred : Attr → Bool) : Option Status :=
  let quorumKey := match keyAttr s h with
    | some a => a.quorum
    | none => false
  let inVault := match keyAttr s h with
    | some a => !outsideVault h a
    | none => false
  leastOf (changeConditions s ++
    [((keyAttr s h).isNone, .invalidKey), (handleDomain h ≠ c.domain, .notPermitted),
     (quorumKey && !isOfficer s c, .notPermitted), ((keyAttr s h).any barred, .notPermitted)]
    ++ (if inVault then (changeGate s).toList.map fun st => (true, st) else []))

/-- Carry out a change of a key, under the routine quorum where it is a QUORUM key (R273). -/
def withKeyQuorum (s : State) (c : Cmd) (code : Nat) (a : Attr) (k : State → List Nat → State) : State :=
  if a.quorum then withRoutine s c code c.domain k else k s []

/-- KST_DESTROY. -/
def execKstDestroy (c : Cmd) (s : State) : Outcome :=
  .next (command s c 0x0202 fun s =>
    let h := c.nat 1
    match changeKeyGate s c h (fun _ => memberKey s h), keyAttr s h with
    | some st, _ => answerStatus s c.reply st
    | none, none => answerStatus s c.reply .invalidKey
    | none, some a => withKeyQuorum s c 0x0202 a fun s reasons => eraseKey s c h a reasons)

/-- Set a key's attribute word: at once outside the vault, else through a commit. -/
def setAttr (s : State) (c : Cmd) (h : Nat) (a : Attr) (reasons : List Nat) : State :=
  if outsideVault h a then
    let s := updSlotOf s h fun x => { x with attr := a }
    let s := if isDieHandle h then putDieAttr s (handleNumber h) a else s
    answerOk s c reasons []
  else gather s { ops := [.setAttr h a], reply := some c.reply, reasons := reasons, cmd := some c }

/-- KST_ATTR_SET. -/
def execKstAttrSet (c : Cmd) (s : State) : Outcome :=
  .next (command s c 0x0203 fun s =>
    let h := c.nat 1
    let word (old : Attr) : Attr := { attrOf (c.bytes 3) with origin := old.origin }
    match changeKeyGate s c h (fun old => !narrows old (word old)), keyAttr s h with
    | some st, _ => answerStatus s c.reply st
    | none, none => answerStatus s c.reply .invalidKey
    | none, some old => withKeyQuorum s c 0x0203 old fun s reasons => setAttr s c h (word old) reasons)

/-- KST_ATTR_GET. -/
def execKstAttrGet (c : Cmd) (s : State) : Outcome :=
  .next (command s c 0x0204 fun s =>
    let h := c.nat 1
    let gate := leastOf [(!s.kst.ready || decide (4 ≤ s.lan.severity), .notReady), ((keyAttr s h).isNone, .invalidKey),
      (handleDomain h ≠ c.domain, .notPermitted)]
    match gate, keyAttr s h with
    | some st, _ => answerStatus s c.reply st
    | none, none => answerStatus s c.reply .invalidKey
    | none, some a => answerOk s c [] [.item 3 (attrBytes a)])

/-- KST_CERT_READ: the four attestation certificates (R262). -/
def execKstCertRead (c : Cmd) (s : State) : Outcome :=
  .next (command s c 0x0206 fun s =>
    refuseOr s c.reply (leastOf [(!s.kst.ready || s.die.attestation.isNone, .notReady)])
      (answerOk s c [] [.blob s.die.certificates]))

/-! ## Transports (R256, R259) -/

/-- The attestation keys, unwrapped under the identity secret (R245). -/
def attestationKeys (s : State) : Option (Bytes × Bytes) :=
  match s.die.attestation, s.die.identity with
  | some (p, m), some i => (p.unwrap i).bind fun p => (m.unwrap i).map fun m => (p, m)
  | _, _ => none

/-- The signature block of R263 over a message under both attestation keys: ECDSA P-384, then ML-DSA-65. -/
def signBlock (s : State) (msg : Bytes) : Bytes × State :=
  let (n, s) := drawFree s
  match attestationKeys s with
  | some (p, m) => (Config.sign 0 p msg n ++ Config.sign 1 m msg n, s)
  | none => ([], s)

/-- An offer of R256: an identity, the device serial, a nonce and two public keys, and the signature block over them; with
the secrets it was made from. -/
def makeOffer (s : State) (id : Nat) (b : Bytes) : (Bytes × Bytes × Bytes × Bytes) × State :=
  let kem := b.take 64
  let x := slice b 64 32
  let nonce := slice b 96 32
  let body := leBytes 4 id ++ s.id.serial ++ nonce ++ Config.kemPublic kem ++ xPublic 0x12 x
  let (sig, s) := signBlock s body
  ((body, sig, kem, x), s)

/-- KST_TRANSPORT_OPEN. -/
def execKstTransportOpen (c : Cmd) (s : State) : Outcome :=
  .next (command s c 0x0210 fun s =>
    match leastOf (useConditions s ++ [(s.die.attestation.isNone, .notReady),
        (decide (8 ≤ s.kst.transports.length), .busyLocked)]) with
    | some st => answerRoom s c.reply st
    | none => withDraw s c.reply 1 128 fun s b =>
      let id := s.kst.nextTransport
      let ((body, sig, kem, x), s) := makeOffer s id b
      let t : Transport := { id := id, owner := c.caller, domain := c.domain, offer := body, kemSecret := kem,
                             xSecret := x, openedAt := s.now }
      let s := { s with kst := { s.kst with
        transports := s.kst.transports ++ [t], nextTransport := (id + 1) % 2 ^ 32 } }
      answerOk s c [] [.blob (body ++ sig)])

/-- The open transport with an identity. -/
def findTransport (s : State) (id : Nat) : Option Transport := s.kst.transports.find? (·.id == id)

/-- Change an open transport. -/
def updTransport (s : State) (id : Nat) (f : Transport → Transport) : State :=
  { s with kst := { s.kst with transports := s.kst.transports.map fun t => if t.id == id then f t else t } }

/-- Close a transport: its key pairs and its transport key are gone (R259). -/
def closeTransport (s : State) (id : Nat) : State :=
  { s with kst := { s.kst with transports := s.kst.transports.filter (·.id != id) } }

/-- Close every transport that a session or queue opened (R259, R320, R359). -/
def closeTransportsOf (s : State) (p : Caller → Bool) : State :=
  { s with kst := { s.kst with
    transports := s.kst.transports.filter fun t => !p t.owner
    nonces := s.kst.nonces.filter fun n => !p n.opener } }

/-- The checks on a transport that a command names: it is open, and the caller opened it (R281). -/
def transportGate (s : State) (c : Cmd) (id : Nat) : Option Status :=
  match findTransport s id with
  | none => some .invalidParameter
  | some t => if t.owner = c.caller then none else some .notPermitted

/-- KST_TRANSPORT_ACCEPT: the transport key is formed, or the transport closes with INVALID_KEY (R256). -/
def execKstTransportAccept (c : Cmd) (s : State) : Outcome :=
  .next (command s c 0x0211 fun s =>
    let id := c.nat 0x12
    match leastOf (useConditions s ++ (transportGate s c id).toList.map fun st => (true, st)), findTransport s id with
    | some st, _ => answerStatus s c.reply st
    | none, none => answerStatus s c.reply .invalidParameter
    | none, some t =>
      if t.key.isSome then answerStatus s c.reply .invalidParameter
      else
        let x := x25519 t.xSecret (c.bytes 0x26)
        if allZero x || (c.bytes 0x25).length ≠ 1088 then answerStatus (closeTransport s id) c.reply .invalidKey
        else
          let ctx := Config.sha384 (t.offer ++ c.bytes 0x25 ++ c.bytes 0x26)
          let key := kdf 2 (Config.kemDecaps t.kemSecret (c.bytes 0x25) ++ x) (asciiBytes "SNX4144 TRANSPORT") ctx 32
          answerOk (updTransport s id fun t => { t with key := some key }) c [] [])

/-- KST_TRANSPORT_CLOSE. -/
def execKstTransportClose (c : Cmd) (s : State) : Outcome :=
  .next (command s c 0x0213 fun s =>
    let id := c.nat 0x12
    refuseOr s c.reply (leastOf ((!s.kst.ready, .notReady) :: (transportGate s c id).toList.map fun st => (true, st)))
      (answerOk (closeTransport s id) c [] []))

/-- TRANSPORT_EXPIRY: a transport closes 600 s after it was opened (R259). -/
def execTransportExpiry (id : Nat) (t : Time) (s : State) : Outcome :=
  let s := advance s t
  .next (match findTransport s id with
    | some x => if x.openedAt + 600 * secT ≤ s.now then closeTransport s id else s
    | none => s)

/-! ## Import (R257, R258) -/

/-- The fields of a wrapped-key blob (R257). -/
structure KeyBlob where
  magic : Nat
  format : Nat
  keyLen : Nat
  transport : Nat
  seq : Nat
  attr : Attr
  handle : Nat
  iv : Bytes
  wrapped : Bytes
  tag : Bytes
  aad : Bytes
  deriving DecidableEq, Repr

/-- Read a wrapped-key blob. -/
def readBlob (b : Bytes) : KeyBlob :=
  let n := leNat (slice b 6 2)
  { magic := leNat (slice b 0 4), format := leNat (slice b 4 2), keyLen := n, transport := leNat (slice b 8 4),
    seq := leNat (slice b 12 4), attr := { attrOf (slice b 16 16) with origin := 1 }, handle := leNat (slice b 0x20 4),
    iv := slice b 0x24 12, wrapped := slice b 0x30 n, tag := slice b (0x30 + n) 16, aad := b.take 0x30 }

/-- Checks 1 to 5 of R258, in order. -/
def importGate (s : State) (c : Cmd) (n : Nat) (b : KeyBlob) : Option Status :=
  let seqOld := match (findTransport s b.transport).bind (·.lastSeq) with
    | some l => decide (b.seq ≤ l)
    | none => false
  let mine := match findTransport s b.transport with
    | some t => t.key.isSome && t.owner == c.caller
    | none => false
  firstOf [(!mine, .invalidParameter), (n ≠ 0x40 + b.keyLen, .lengthMismatch),
    (b.magic ≠ 0x50574B53 || b.format ≠ 1 || b.keyLen < 16 || 4608 < b.keyLen || seqOld, .invalidParameter),
    (handleDomain b.handle ≠ c.domain || memberKey s b.handle || (attrPrivileged b.attr && !isOfficer s c), .notPermitted),
    (!attrOk s b.attr b.handle 1 false || b.attr.length ≠ b.keyLen || !emptyHandle s b.handle, .invalidParameter)]

/-- An import refused at check 6 or 7 is counted (R279). -/
def importFailed (s : State) : State := { s with kst := { s.kst with importFail := sat64 s.kst.importFail } }

/-- Checks 6 to 8 of R258: the tag, the value, and room; then the key is stored. -/
def importValue (s : State) (c : Cmd) (b : KeyBlob) : State :=
  let key := ((findTransport s b.transport).bind (·.key)).getD []
  match gcmOpen key b.iv b.aad b.wrapped b.tag with
  | none =>
    let s := updTransport (importFailed s) b.transport fun t => { t with tagFails := t.tagFails + 1 }
    let s := match findTransport s b.transport with
      | some t => if 3 ≤ t.tagFails then closeTransport s t.id else s
      | none => s
    answerStatus s c.reply .tagMismatch
  | some v =>
    let s := updTransport s b.transport fun t => { t with lastSeq := some b.seq }
    let record := ((s.pke.curves.look b.attr.curveIndex).map (·.record)).getD []
    if keyExcluded record b.attr.type v then answerStatus (importFailed s) c.reply .invalidKey
    else match (if rootNeeded s b.attr then some .notReady else roomGate s b.handle b.attr v.length) with
      | some st => answerRoom s c.reply st
      | none =>
        let s := updTransport s b.transport fun t => { t with imports := t.imports + 1 }
        let s := match findTransport s b.transport with
          | some t => if 1024 ≤ t.imports then closeTransport s t.id else s
          | none => s
        storeKey s c.reply b.handle { attr := b.attr, value := v } { status := .ok }

/-- KST_IMPORT. -/
def execKstImport (c : Cmd) (s : State) : Outcome :=
  .next (command s c 0x0212 fun s =>
    let bytes := c.body.bytes
    let b := readBlob bytes
    match leastOf (useConditions s) with
    | some st => answerStatus s c.reply st
    | none =>
      match importGate s c bytes.length b with
      | some st => answerStatus s c.reply st
      | none => importValue s c b)

/-! ## Export (R260) -/

/-- The checks of KST_EXPORT before its quorum, the key's lifetime and uses among them (R253). -/
def exportGate (s : State) (c : Cmd) : Option Status :=
  let h := c.nat 1
  let offer := c.bytes 0x24
  let fixed := match keyAttr s h with
    | some a => !a.exportable
    | none => false
  leastOf (useConditions s ++
    [((keyAttr s h).isNone || (keyAttr s h).any (!usable s ·), .invalidKey), (handleDomain h ≠ c.domain, .notPermitted),
     (fixed, .notPermitted),
     (!Config.offerValid offer, .invalidSignature), (slice offer 4 16 == s.id.serial, .invalidParameter),
     ((slotOf s h).isNone && (vaultRecord s h).any fun k => (makeRoom s h k.value.length).isNone, .busyLocked)]
    ++ (if (keyAttr s h).isSome then (pageGate s h).toList.map fun st => (true, st) else []))

/-- The exported blob, as the sender of step 2 of R256 makes it: ciphertext, X25519 public key, and the wrapped key. -/
def exportBlob (offer : Bytes) (h : Nat) (k : KeyRec) (b : Bytes) : Bytes × Bytes × Bytes :=
  let (ct, kem) := Config.kemEncaps (slice offer 52 1184) (b.take 32)
  let xs := slice b 32 32
  let xp := xPublic 0x12 xs
  let secret := kem ++ x25519 xs (slice offer 1236 32)
  let key := kdf 2 secret (asciiBytes "SNX4144 TRANSPORT") (Config.sha384 (offer.take 1268 ++ ct ++ xp)) 32
  let aad := leBytes 4 0x50574B53 ++ leBytes 2 1 ++ leBytes 2 k.value.length ++ offer.take 4 ++ leBytes 4 1
    ++ attrBytes k.attr ++ leBytes 4 h ++ slice b 64 12
  let (w, tag) := gcmSeal key (slice b 64 12) aad k.value
  (ct, xp, aad ++ w ++ tag)

/-- KST_EXPORT: a key not in a slot is paged in first, and a use that needs a reservation waits for its commit (R302); the
command is then still to be answered and is presented again. -/
def execKstExport (c : Cmd) (s : State) : Outcome :=
  .next (command s c 0x0214 fun s =>
    let h := c.nat 1
    match exportGate s c with
    | some st => answerRoom s c.reply st
    | none =>
      match slotOf s h with
      | none => askPageIn s h
      | some (_, x) =>
        match takeUse s h with
        | (s, .waits) => s
        | (_, .refused st) => answerStatus s c.reply st
        | (_, .granted) =>
          withCritical s c 0x0214 c.domain fun s reasons =>
            withDraw (takeUse s h).1 c.reply 1 76 fun s b =>
              let (ct, xp, blob) := exportBlob (c.bytes 0x24) h { attr := x.attr, value := x.value } b
              answerOk s c reasons [.item 0x25 ct, .item 0x26 xp, .blob blob])

end Sys2Proof.Machine
end

