-- ==== Sys2Proof/Machine/ChamberOps.lean ====
section
/-!
DEFINITION. Chamber links as other blocks use them: ports, messages sent under a link's key, and the lending advertisement
(R129 to R132, R138).
-/

namespace Sys2Proof.Machine

/-- The status block of wire `w` (R118). -/
def wireStatusBase (w : Nat) : Nat := 0x00280000 + w * 0x200

/-- ENABLE of KAR_CHAMBER_CFG. -/
def chamberOn (s : State) : Bool := bit s.cham.cfg 8

/-- KEY_SLOT of KAR_CHAMBER_CFG. -/
def chamberSlot (s : State) : Nat := field s.cham.cfg 7 0

/-- The chamber-link ports, in ascending order. -/
def chamberPorts (s : State) : List Nat := (List.range 144).filter (isChamber s)

/-- The link at a port. -/
def link (s : State) (p : Nat) : Link := s.cham.links.get {} p

/-- Change the link at a port. -/
def updLink (s : State) (p : Nat) (f : Link → Link) : State :=
  { s with cham := { s.cham with links := s.cham.links.put p (f (link s p)) } }

/-- A link is UP. -/
def linkUp (s : State) (p : Nat) : Bool := (link s p).state == 2

/-- The ports whose links are UP. -/
def upLinks (s : State) : List Nat := (chamberPorts s).filter (linkUp s)

/-- The port of the link to member `m` that is UP, the lowest of several. -/
def linkTo (s : State) (m : Nat) : Option Nat := (upLinks s).find? fun p => (link s p).peer == m

/-- A chamber message before its CMAC: a frame of EtherType 0x88B6 to the link-local group address (R129), its body, which for a
heartbeat is the advertisement of R132, and its 64-bit sequence (assumption 115). -/
def chamberBytes (msg : ChamberMsg) (seq : Nat) : Bytes :=
  let body := match msg with
    | .heartbeat advert => advert
    | m => Config.chamberBody m
  beBytes 6 0x0180C200000E ++ Config.chamberSource ++ beBytes 2 0x88B6 ++ body ++ beBytes 8 seq

/-- The frame that goes out: padded to the least length of a frame, with its FCS. -/
def chamberFrame (b : Bytes) : Bytes :=
  let f := b ++ zeros (60 - b.length)
  f ++ leBytes 4 (crc32 f).toNat

/-- The CMAC of a message under a link's key (R130). -/
def messageMac (key : Bytes) (msg : ChamberMsg) (seq : Nat) : Bytes := Config.cmac key (chamberBytes msg seq)

/-- Send a message on a link that is up: it carries the link's next sequence and a CMAC (R130). -/
def sendMessage (s : State) (p : Nat) (msg : ChamberMsg) : State :=
  if linkUp s p then
    let n := (link s p).txSeq + 1
    let s := updLink s p fun l => { l with txSeq := n }
    emit s (.chamber p (chamberFrame (chamberBytes msg n ++ messageMac (link s p).key msg n)))
  else s

/-- Send a message of the handshake, which carries no CMAC (R130). -/
def sendPlain (s : State) (p : Nat) (msg : ChamberMsg) : State := emit s (.chamber p (chamberFrame (chamberBytes msg 0)))

/-- Bytes of a message's frame on a link, its CMAC with it. -/
def messageSize (msg : ChamberMsg) : Nat := (chamberFrame (chamberBytes msg 0 ++ zeros 16)).length

/-- The time a message of `m` bytes takes to the far member: 0.8 µs and 0.32 or 0.8 ns a byte (R129). -/
def flightTime (s : State) (p m : Nat) : Time :=
  800 * nsT + (if (port s p).speedActive = 1 then m * nsT * 4 / 5 else m * nsT * 8 / 25)

/-- QUEUED of PSG_POOL_STATUS: bound jobs that wait to start. -/
def poolQueued (s : State) : Nat := s.psg.bound.length

/-- OFFER_MARK, ACCEPT_LIMIT, OFFER_EN and ACCEPT_EN of KAR_LEND_CFG. -/
def offerMark (s : State) : Nat := field s.cham.lend 10 0
/-- ACCEPT_LIMIT. -/
def acceptLimit (s : State) : Nat := field s.cham.lend 22 12
/-- OFFER_EN. -/
def offerEn (s : State) : Bool := bit s.cham.lend 30
/-- ACCEPT_EN, which a response of S2 or above clears (R132). -/
def acceptEn (s : State) : Bool := bit s.cham.lend 31 && !suspended s

/-- The moment from which a core is free: its busy-until, or now where that has passed (R96). -/
def freeAt (s : State) (n : Nat) : Time := max s.now (core s n).busyUntil

/-- START_DELAY_NS: nanoseconds until the earliest busy-until among the PASSAGE cores (R132). -/
def startDelay (s : State) : Nat :=
  match passageCores s with
  | [] => 0xFFFFFFFF
  | n :: t => ((t.foldl (fun a k => min a (freeAt s k)) (freeAt s n)) - s.now) / nsT

/-- The 16-byte lending advertisement of R132. -/
def advertBytes (s : State) : Bytes :=
  leBytes 1 (bitAt (acceptEn s) 0 + bitAt (suspended s) 1) ++ leBytes 1 (passageCores s).length
    ++ leBytes 2 (acceptLimit s - poolQueued s) ++ leBytes 4 (startDelay s) ++ zeros 8

/-- Read a lending advertisement. -/
def readAdvert (b : Bytes) (t : Time) : Advert :=
  let flags := leNat (slice b 0 1)
  { acceptEn := flags % 2 == 1, suspended := flags / 2 % 2 == 1, readyCores := leNat (slice b 1 1),
    room := leNat (slice b 2 2), startDelay := leNat (slice b 4 4), arrivedAt := t }

end Sys2Proof.Machine
end

