-- ==== Sys2Proof/Machine/Passage.lean ====
section
/-!
DEFINITION. Passage: the meanings of the steps that frames, ports and wires take (chapters 02 and 03 of the spec).
-/

namespace Sys2Proof.Machine

/-! ## FRAME_RECEIVE (R16, R31 to R39, R50) -/

/-- MAX_FRAME in force when the first byte of a frame arrived (R42). -/
def maxFrameAt (q : Port) (first : Time) : Nat :=
  (q.maxHistory.takeWhile fun e => first < e.1).foldl (fun _ e => e.2) q.maxFrame

/-- The receive discards of R35 in order: the counter of the first test the frame meets. -/
def receiveDiscard (q : Port) (bs : Bytes) (sfd : Time) : Option Nat :=
  if maxFrameAt q sfd < bs.length then some 0x118
  else if !fcsOk bs then some 0x108
  else if bs.length < 64 then some 0x110
  else if isMacControl bs then some 0x130
  else none

/-- The frame is counted in RX_FRAMES: its FCS checked (R35). -/
def countsRx (q : Port) (bs : Bytes) (sfd : Time) : Bool := decide (bs.length ≤ maxFrameAt q sfd) && fcsOk bs

/-- Bytes of frame data that count towards a parse queue's 16 KiB, the frame being walked included (R50). -/
def parseBytes (q : Port) : Nat :=
  (q.parseQ.map (·.bytes.length)).sum + (q.walk.map (·.frame.bytes.length)).getD 0

/-- Frames that count towards a parse queue's 64 (R50). -/
def parseFrames (q : Port) : Nat := q.parseQ.length + (if q.walk.isSome then 1 else 0)

/-- A parse queue has room for a frame of `n` bytes (R50). -/
def parseRoom (q : Port) (n : Nat) : Bool := parseFrames q < 64 && parseBytes q + n ≤ 16384

/-- Drop a frame under R32 or R33: the port's NO_TABLE counter and Strata count it. -/
def dropNoTable (s : State) (p : Nat) : State := event (bumpPort s p 0x138) 30 p p

/-- Forward a frame that no class is chosen for: it leaves at once, unless a frame of an earlier generation with
STRICT_WIRE_ORDER is still held, which nothing passes (R71, R73). -/
def passUnclassed (s : State) (p : Nat) (f : RxFrame) : State :=
  let q := port s p
  let h : Held := { id := s.psg.nextFrame, rx := f, desc := { frontEnd p f with kind := 5, gen := q.gen }, bank := q.bank,
                    walkEnd := s.now, deadline := s.now, stage := .unjudged }
  let s := { s with psg := { s.psg with nextFrame := s.psg.nextFrame + 1 } }
  releaseLine (updPort s p fun q => { q with line := q.line ++ [h] }) p

/-- A frame that its direction's configuration judges without a walk (R28, R31 to R33, R141): the state after it, or none
where it is to be parsed.  ISOLATE drops; BYPASS forwards unchanged, and drops under a response of S2 or above; a side
with no table drops in ENFORCE, and in MONITOR under S2 or above, and else forwards in MONITOR. -/
def unparsed (s : State) (p : Nat) (f : RxFrame) : Option State :=
  let b := (port s p).bank
  let forward (s : State) := passUnclassed s p f
  if isChamber s p then some s
  else if isChamber s (otherPort p) then some (dropNoTable s p)
  else if s.lcy.isolateAll || s.lcy.state == 6 || b.modeOf == 2 then some s
  else if b.modeOf = 3 then some (if 2 ≤ f.severity then s else forward s)
  else match b.table (sideOf p) with
    | some _ => none
    | none =>
      if b.modeOf = 1 && f.severity < 2 then some (event (forward s) 30 p p) else some (dropNoTable s p)

/-- A frame past the front end reaches its direction: judged at once where it needs no walk and nothing waits before it,
or queued for the parser lane, or discarded at a full parse queue (R50). -/
def enterDirection (s : State) (p : Nat) (f : RxFrame) : State :=
  let q := port s p
  let queue (s : State) : State :=
    if parseRoom q f.bytes.length then updPort s p fun q => { q with parseQ := q.parseQ ++ [f] }
    else
      let s := bumpPort s p 0x128
      updPort s p fun q => { q with event := q.event ||| 4 }
  if q.walk.isSome || !q.parseQ.isEmpty then queue s
  else match unparsed s p f with
    | some s => s
    | none => queue s

/-- A whole frame passes a port's front end: the receive counters and discards of R35 and R36, and entry to its direction. -/
def receiveFrame (s : State) (p : Nat) (w : RxWait) : State :=
  let q := port s p
  let s := if countsRx q w.bytes w.sfd then bumpPort s p 0x100 else s
  match receiveDiscard q w.bytes w.sfd with
  | some c => bumpPort s p c
  | none => enterDirection s p {
      bytes := w.bytes, sec := w.stamp / 1000000000, ns := w.stamp % 1000000000, unlocked := !s.tim.locked, injected := false,
      severity := s.lan.severity }

/-- Entries of 8 bytes that the frames waiting in a port's receive queue take (R15). -/
def rxEntries (l : List RxWait) : Nat := (l.map fun w => (w.bytes.length + 7) / 8).sum

/-- The frames that waited for CCLK in a port's receive queue pass its front end, oldest first (R17). -/
def drainRx (s : State) (p : Nat) : State :=
  (port s p).rxQ.foldl (fun s w => receiveFrame s p w) (updPort s p fun q => { q with rxQ := [] })

/-- FRAME_RECEIVE: a frame's last byte and FCS arrive at a port (R16, R35, R36, R39, R50).  While CCLK stands the frame waits in the
receive queue of 64 entries; one that does not fit is discarded whole and counted (R15 to R17). -/
def execFrameReceive (p : Fin 144) (bs : Bytes) (sfd : Time) (overflow : Bool) (t : Time) (s : State) : Outcome :=
  let s := advance (advance s sfd) t
  let q := port s p
  let w : RxWait := { bytes := bs, sfd := sfd, stamp := devTimeAt s sfd }
  if !q.enable || !q.linkUp then .next s
  else if overflow || (stopped s 0 && decide (64 < rxEntries (q.rxQ ++ [w]))) then .next (bumpPort s p 0x120)
  else if stopped s 0 then .next (updPort s p fun q => { q with rxQ := q.rxQ ++ [w] })
  else .next (receiveFrame s p w)

/-! ## WALK_START (R46, R50, R66, R67) -/

/-- WALK_START: a free lane takes any swap that waits, then begins walking the next frame of its parse queue under the
generation now in force.  A frame that the new configuration judges unparsed is done with at once. -/
def execWalkStart (p : Fin 144) (t : Time) (s : State) : Outcome :=
  let s := advance s t
  if stopped s 0 then .next s else
  match (port s p).walk, (port s p).parseQ with
  | some _, _ => .next s
  | none, [] => .next s
  | none, f :: rest =>
    let s := finishSwaps (takeSwaps s p) (wireOf p)
    let s := updPort s p fun q => { q with parseQ := rest }
    match unparsed s p f with
    | some s => .next s
    | none => .next (updPort s p fun q => { q with walk := some { frame := f, bank := q.bank, gen := q.gen } })

/-! ## WALK_END (R49, R60, R78 to R107) -/

/-- A frame refused in stage 1 or 2 (R79): in ENFORCE it is freed, in MONITOR it is forwarded subject only to R72 and
R73. -/
def refuseEarly (s : State) (p : Nat) (h : Held) (r : Ruling) : State :=
  if monitors h then
    releaseLine (updPort s p fun q => { q with line := q.line ++ [{ h with stage := .failed r s.now }] }) p
  else finalVerdict (countFailure s h false) p h r false s.now

/-- Stages 2 to 5 for a COMMAND frame whose trailer stands (R78, R100, R104, R90 to R95). -/
def holdFrame (s : State) (p : Nat) (h : Held) (tr : Trailer) : State :=
  let key := flowKey h.desc
  let h := { h with trailer := tr }
  match findOrInsert s h.desc key with
  | none =>
    refuseEarly { s with psg := { s.psg with insertFail := sat64 s.psg.insertFail } } p h
      { verdict := .holdFull, cause := 0x11 }
  | some s =>
    let s := updFlow s (some key) fun f => { f with
      classCode := h.desc.classCode, gen := h.desc.gen, lastActivity := lanternTick s, lastArrival := s.now }
    let c := chargeOf h.desc.frameLen
    let w := wire s (wireOf p)
    let h := { h with flow := some key }
    if h.bank.quotaKib * 1024 < w.holdUsed + c then refuseEarly s p h { verdict := .holdFull, cause := 0x10 }
    else
      let fl := ((findFlow s key).map (·.2)).getD { key := key, wire := wireOf p, sideLan := 0 }
      let h := { h with charge := c, ticket := fl.tail }
      let s := updWire s (wireOf p) fun w => { w with
        holdUsed := w.holdUsed + c, holdPeak := max w.holdPeak (w.holdUsed + c) }
      let s := updFlow s (some key) fun f => { f with
        tail := (f.tail + 1) % 2 ^ 32, head := if f.inFlight = 0 then f.tail else f.head, inFlight := f.inFlight + 1 }
      let s := updPort s p fun q => { q with line := q.line ++ [h] }
      match stage3 h.desc h.bank tr fl s.tim.bootFloor with
      | some r => refuseHeld s p h r false
      | none => judgeKey s p h

/-- A COMMAND frame at the end of its walk: the LAN count of R123, then the stages of R78. -/
def judgeCommand (s : State) (p : Nat) (h : Held) : State :=
  let s := if h.bank.prpLan ≠ 0 && h.desc.lan ≠ h.bank.prpLan then
      updWire s (wireOf p) fun w => { w with lanMismatch := sat64 w.lanMismatch }
    else s
  match stage1 h.rx.bytes h.desc h.bank s.psg.assocs with
  | .error (r, tr) => refuseEarly s p { h with trailer := tr } r
  | .ok tr => holdFrame s p h tr

/-- Handle a frame by its class at the end of its walk (R60, R61). -/
def classify (s : State) (p : Nat) (h : Held) : State :=
  if h.desc.kind = 1 then judgeCommand s p h
  else if h.desc.kind = 3 && h.desc.injected then event s 32 (wireOf p) (wireOf p)
  else
    let s := if h.desc.kind = 4 then event s 31 p p else s
    if h.desc.kind = 4 && !monitors h then s
    else releaseLine (updPort s p fun q => { q with line := q.line ++ [h] }) p

/-- WALK_END: the walk ends in CLASS or a walk fault, and the frame leaves the parse queue and is handled by its
class.  A lane that is then idle takes a swap that waits (R66). -/
def execWalkEnd (p : Fin 144) (t : Time) (s : State) : Outcome :=
  let s := advance s t
  if stopped s 0 then .next s else
  match (port s p).walk with
  | none => .next s
  | some w =>
    let d0 := { frontEnd p w.frame with gen := w.gen }
    let d := walkFrame s.psg.tables s.psg.resident ((w.bank.table (sideOf p)).getD 0) w.frame d0
    let h : Held := { id := s.psg.nextFrame, rx := w.frame, desc := d, bank := w.bank, walkEnd := s.now,
                      deadline := s.now + w.bank.holdUs d.classCode * usT, severity := s.lan.severity,
                      keyNotReady := !s.kst.ready, stage := .unjudged }
    let s := updPort s p fun q => { q with walk := none }
    let s := trace { s with psg := { s.psg with nextFrame := s.psg.nextFrame + 1 } } (wireOf p) (descBytes d)
    let s := refreshLocked (classify s p h) (wireOf p)
    .next (if (port s p).parseQ.isEmpty then settleSwaps s (wireOf p) else s)

/-! ## Page-ins as Passage sees them (R91) -/

/-- The frames that wait on a page-in: the ports they are held at, and their numbers. -/
def pagingFrames (s : State) (handle : Nat) : List (Nat × Nat) :=
  s.psg.ports.flatMap fun e =>
    (e.2.line.filter fun h => h.stage == .paging && h.trailer.keyRef == handle).map fun h => (e.1, h.id)

/-- Do something to each of the listed frames that is still held. -/
def forFrames (s : State) (l : List (Nat × Nat)) (f : State → Nat → Held → State) : State :=
  l.foldl (fun s e => match findHeld s e.1 e.2 with
    | some h => f s e.1 h
    | none => s) s

/-- A page-in leaves the list of those outstanding; the longest is kept for PSG_PAGE_MAX_US (R117). -/
def closePageIn (s : State) (pg : PageIn) : State :=
  { s with psg := { s.psg with
    pageIns := s.psg.pageIns.filter (·.handle != pg.handle)
    pageMax := max s.psg.pageMax (min ((s.now - pg.askedAt) / usT) 65535) } }

/-- A page-in has failed (R305). -/
def countPageFail (s : State) : State := { s with geo := { s.geo with pageInFail := sat64 s.geo.pageInFail } }

/-- A page-in has ended: each frame that waits on it and has not reached its deadline is handled by `k`, and one whose deadline came
first is refused as still paging then (R91, R101). -/
def endPaging (s : State) (handle : Nat) (k : State → Nat → Held → State) : State :=
  forFrames s (pagingFrames s handle) fun s p h =>
    if h.deadline ≤ s.now then refuseHeld s p h { verdict := .holdTimeout, cause := timeoutCause h } false else k s p h

/-- A page-in has failed: its waiting frames get PAGE_FAILED (R91, R300). -/
def failPaging (s : State) (handle : Nat) : State :=
  endPaging s handle fun s p h => refuseHeld s p h { verdict := .keyUnknown, cause := 6 } false

/-- PAGE_IN_TIMEOUT: a page-in still incomplete 500 µs after its request fails, and its frames get PAGE_FAILED (R91,
R300). -/
def execPageInTimeout (handle : Nat) (t : Time) (s : State) : Outcome :=
  let s := advance s t
  match s.psg.pageIns.find? (·.handle == handle) with
  | none => .next s
  | some pg =>
    if s.now < pg.askedAt + 500 * usT then .next s
    else
      .next (failPaging (closePageIn (countPageFail s) pg) handle)

/-! ## The decision (R101 to R110) -/

/-- Comparator A's decision on a frame's inputs (R101, R104, R108): the engine's result, the deadline flag, and the
sequence against the replay state. -/
def decideFrame (s : State) (h : Held) (r : Ruling) : Ruling :=
  if h.deadline ≤ s.now then { verdict := .holdTimeout, cause := 0x1A }
  else if r.verdict ≠ .accept then r
  else match h.flow.bind (findFlow s) with
    | some (_, f) => if fresh f h.trailer.seq then { verdict := .accept } else { verdict := .replay, cause := 0x42 }
    | none => { verdict := .replay, cause := 0x42 }

/-- A frame of the same flow is between its two decisions (R110). -/
def flowDeciding (q : Port) (h : Held) : Bool :=
  q.line.any fun x => x.id != h.id && x.flow == h.flow && (match x.stage with
    | .decidedA _ _ => true
    | _ => false)

/-- TWIN_DECISION: comparator A decides a frame whose engine result has arrived; a frame of a flow in which a decision is
under way waits (R108, R110). -/
def execTwinDecision (frame : Nat) (t : Time) (s : State) : Outcome :=
  let s := advance s t
  if stopped s 0 then .next s else
  match portOfFrame s frame with
  | none => .next s
  | some p =>
    match findHeld s p frame with
    | none => .next s
    | some h =>
      match h.stage with
      | .result r =>
        if flowDeciding (port s p) h then .next s
        else .next (updHeld s p frame fun x => { x with stage := .decidedA (decideFrame s h r) s.now })
      | _ => .next s

/-- On ACCEPT the flow's replay state and facts are updated (R58, R103, R106). -/
def acceptFlow (h : Held) (f : Flow) : Flow :=
  let f := markSeen f h.trailer.seq
  let ts := h.trailer.time.getD 0
  { f with
    keyRef := h.trailer.keyRef
    acceptSec := ts / 1000000000 % 2 ^ 48
    acceptNs := ts % 1000000000
    freshUntil := match h.trailer.time with
      | some x => max f.freshUntil (x + 6553500000)
      | none => f.freshUntil
    pinned := f.pinned || !h.bank.timeRequired h.desc.classCode }

/-- The skew generator counts a decision: at 65,536 decisions it takes a fresh seed of 256 bits from a DRBG (R108), and where that is
refused it asks again at the next decision (assumption 107). -/
def countSkew (s : State) : State :=
  if s.psg.skewDraws + 1 < 65536 then { s with psg := { s.psg with skewDraws := s.psg.skewDraws + 1 } }
  else match draw s 0 true 32 with
    | (s, .ok b) => { s with psg := { s.psg with skewDraws := 0, skewSeed := b } }
    | (s, .error _) => { s with psg := { s.psg with skewDraws := s.psg.skewDraws + 1 } }

/-- COMPARATOR_B_DECIDE: comparator B decides k + 1 CCLK cycles after A; differing verdicts refuse the frame and raise a
FAULT alarm; an agreed ACCEPT updates the flow and releases in order; any other verdict refuses (R103, R108, R109). -/
def execComparatorBDecide (frame : Nat) (k : Fin 15) (upset : Bool) (s : State) : Outcome :=
  if stopped s 0 then .next s else
  match portOfFrame s frame with
  | none => .next s
  | some p =>
    match findHeld s p frame with
    | none => .next s
    | some h =>
      match h.stage with
      | .decidedA a at_ =>
        let s := countSkew (advance s (at_ + (k.val + 1) * cclkT))
        if upset then
          let s := { s with psg := { s.psg with twinFault := sat32 s.psg.twinFault } }
          .next (refuseHeld (faultAlarm s 1 p) p h { verdict := .fault } false)
        else if a.verdict = .accept then
          let s := updFlow s h.flow (acceptFlow h)
          .next (releaseLine (updHeld s p frame fun x => { x with stage := .accepted s.now }) p)
        else .next (refuseHeld s p h a (a.cause == 8 && a.verdict == .keyUnknown))
      | _ => .next s

/-- Held COMMAND frames at or past their deadline that no verdict has yet ended. -/
def overdue (s : State) : List (Nat × Nat) :=
  s.psg.ports.flatMap fun e =>
    (e.2.line.filter fun h => h.charge != 0 && decide (h.deadline ≤ s.now) && (match h.stage with
      | .failed _ _ => false
      | _ => true)).map fun h => (e.1, h.id)

/-- The jobs of a frame that wait for a lender's answer (R137). -/
def lentJobs (h : Held) : Nat :=
  match h.stage with
  | .signature ps => ps.countP fun q => match q.state with
    | .lent _ => true
    | _ => false
  | _ => 0

/-- Refuse a held frame at or after its deadline; the jobs of it that wait for a lender are counted in LEND_LOST (R101, R137). -/
def expire (s : State) (p : Nat) (h : Held) : State :=
  let s := { s with cham := { s.cham with lost := satAdd 64 s.cham.lost (lentJobs h) } }
  refuseHeld s p h { verdict := .holdTimeout, cause := timeoutCause h } false

/-- HOLD_TIMER_TICK: every frame at or past its deadline is refused with REJECT_HOLD_TIMEOUT, the cause naming where it
was; the jobs of it that wait for a lender are counted in LEND_LOST (R101, R137). -/
def execHoldTimerTick (t : Time) (s : State) : Outcome :=
  let s := advance s t
  if stopped s 0 then .next s else
  let s := { s with psg := { s.psg with holdTickAt := s.now } }
  .next (forFrames s (overdue s) expire)

/-! ## Ports (R34, R40, R42) -/

/-- FRAME_TRANSMIT: the port's egress queue sends its next frame whole, byte for byte; a frame the device originates is
timestamped as it leaves (R35, R39, R40).  With CCLK stopped no frame leaves (R17). -/
def execFrameTransmit (p : Fin 144) (t : Time) (s : State) : Outcome :=
  let s := advance s t
  let q := port s p
  match q.egress with
  | [] => .next s
  | e :: rest =>
    if !q.enable || !q.linkUp || stopped s 0 then .next s
    else
      let s := bumpPort (updPort s p fun q => { q with egress := rest }) p 0x140
      .next (emit s (.frame p e.bytes (if e.own then devSec s else 0) (if e.own then devNs s else 0)))

/-- A port's link goes up or down (R34, R42): a fall is kept in LINK_DOWN_SEEN, and a direction whose link is down takes a
waiting swap at once (R66). -/
def setLink (s : State) (p : Nat) (up : Bool) : State :=
  let was := (port s p).linkUp
  let s := updPort s p fun q => { q with
    linkUp := up, event := if was && !up then q.event ||| 1 else q.event }
  if up then s else settleSwaps s (wireOf p)

/-- Disable a port: its link falls and its frames in flight are discarded (R42). -/
def disablePort (s : State) (p : Nat) : State :=
  let s := updPort s p fun q => { q with rxQ := [], parseQ := [], walk := none, egress := [] }
  refreshLocked (setLink s p false) (wireOf p)

/-- A write of PSG_PORT_CFG by the secure world (R42): a SPEED of 0b11 or a MAX_FRAME outside 64 to 9,600 makes it ignored
whole; a change of SPEED or RSFEC on an enabled port retrains the link.  DESIGN CHOICE: SPEED_ACTIVE and FEC_ACTIVE follow the write
at once, with ENABLE 0 or the link down too (assumption 108). -/
def writePortCfg (s : State) (p : Nat) (v : Word) : State :=
  let mf := field v 29 16
  if field v 2 1 = 3 || mf < 64 || 9600 < mf then s
  else
    let old := port s p
    let s := updPort s p fun q => { q with
      cfg := storeMasked q.cfg v 0x3FFF000F, speedActive := field v 2 1,
      fecActive := bit v 3 && field v 2 1 == 2, maxHistory := (s.now, old.maxFrame) :: q.maxHistory }
    if !bit v 0 then disablePort s p
    else if old.enable && (old.speed ≠ field v 2 1 || bit old.cfg 3 ≠ bit v 3) then setLink s p false
    else s

/-! ## Wires (R65, R66) -/

/-- WIRE_COMMIT: a write of COMMIT to PSG_WIRE_COMMIT. -/
def execWireCommit (m : Master) (w : Fin 72) (s : State) : Outcome :=
  if m.isSecure then .next (requestCommit s w none) else .next (refuseAccess s m (0x00201800 + w * 0x1000) true)

/-- WIRE_DISCARD: a write of DISCARD to PSG_WIRE_COMMIT. -/
def execWireDiscard (m : Master) (w : Fin 72) (s : State) : Outcome :=
  if m.isSecure then .next (discardShadow s w) else .next (refuseAccess s m (0x00201800 + w * 0x1000) true)

/-! ## Flows (R58) -/

/-- A context meets every condition of retirement at a check (R58). -/
def retires (s : State) (f : Flow) : Bool :=
  !f.pinned && f.inFlight == 0 && decide (f.lastArrival + field s.psg.flwCfg 11 0 * secT ≤ s.now) && s.tim.locked
    && decide (f.freshUntil < devTime s)

/-- FLOW_RETIRE_CHECK: the once-a-second check frees every context that meets the conditions of R58. -/
def execFlowRetireCheck (t : Time) (s : State) : Outcome :=
  let s := advance s t
  if stopped s 0 then .next s else
  .next { s with psg := { s.psg with flows := s.psg.flows.keep fun _ f => !retires s f, flowCheckAt := s.now } }

end Sys2Proof.Machine
end

