-- ==== Sys2Proof/Machine/Binding.lean ====
section
/-!
DEFINITION. Signature jobs of Passage: their binding to cores (R96), their offer to other members (R134, R135), and the
outcome of a frame from the statuses of its jobs (R97).
-/

namespace Sys2Proof.Machine

/-- The time of a verification. -/
def coreTime (alg : Nat) : Time := verifyCycles alg * nclkT

/-- Key delivery to a core for a key of `n` bytes (R99). -/
def deliveryTime (n : Nat) : Time := (if n ≤ 64 then 64 else 608 + n / 4) * xclkT

/-- The decision time of 18 ns (R96). -/
def decisionTime : Time := 18 * nsT

/-! ## Parts of a frame -/

/-- Part `i` of a frame's signature check. -/
def partAt (h : Held) (i : Nat) : Option Part :=
  match h.stage with
  | .signature ps => ps[i]?
  | _ => none

/-- Change part `i` of a frame's signature check. -/
def updPart (s : State) (p id i : Nat) (f : Part → Part) : State :=
  updHeld s p id fun h => match h.stage with
    | .signature ps => { h with stage := .signature (ps.mapIdx fun k x => if k = i then f x else x) }
    | _ => h

/-- The core that the other part of a hybrid frame has been bound to, which its first may not use (R96). -/
def otherCore (h : Held) (i : Nat) : Option Nat :=
  match h.stage with
  | .signature ps => if ps.length = 2 then (ps[1 - i]?).bind (·.core) else none
  | _ => none

/-! ## Binding (R96) -/

/-- The core with the earliest busy-until among those that accept bindings, the lower number winning a tie. -/
def bindCore (s : State) (barred : Option Nat) : Option Nat :=
  match (passageCores s).filter fun n => some n ≠ barred with
  | [] => none
  | n :: t => some (t.foldl (fun a k => if freeAt s k < freeAt s a then k else a) n)

/-- What a binding comes to: a core with its start and end, or the cause of the refusal and its verdict. -/
def tryBind (s : State) (barred : Option Nat) (ready deadline : Time) (cycles : Time) :
    Except Ruling (Nat × Time × Time) :=
  match bindCore s barred with
  | none => .error { verdict := .holdTimeout, cause := 0x18 }
  | some n =>
    let start := max ready (freeAt s n)
    if deadline ≤ start + cycles + decisionTime then .error { verdict := .holdTimeout, cause := 0x18 }
    else if 1024 ≤ poolQueued s then .error { verdict := .holdFull, cause := 0x14 }
    else .ok (n, start, start + cycles)

/-- Enter a bound job, which its core begins in its turn. -/
def enterBound (s : State) (b : BoundJob) : State :=
  let s := updCore s b.core fun c => { c with busyUntil := b.finish }
  { s with psg := { s.psg with bound := s.psg.bound ++ [b] } }

/-- The key of a frame's signature check, which its parts hold between them. -/
def wholeKey (h : Held) : Bytes :=
  match h.stage with
  | .signature ps => ps.flatMap (·.key)
  | _ => []

/-- When a frame's key is delivered: a hybrid key goes whole to both cores (R84, R99). -/
def keyReady (h : Held) : Time := h.keyAt + deliveryTime (wholeKey h).length

/-- What the binding of part `x`, number `i` of its frame, comes to. -/
def tryPart (s : State) (h : Held) (i : Nat) (x : Part) : Except Ruling (Nat × Time × Time) :=
  tryBind s (otherCore h i) (keyReady h) h.deadline (coreTime x.alg)

/-- Bind a part of a frame, or refuse the frame with the verdict and cause of the part that cannot be bound. -/
def bindLocally (s : State) (p : Nat) (h : Held) (i : Nat) (x : Part) : State :=
  match tryPart s h i x with
  | .error r => refuseHeld s p h r false
  | .ok (n, start, finish) =>
    let s := enterBound s { frame := h.id, part := i, core := n, start := start, finish := finish }
    updPart s p h.id i fun y => { y with state := .bound n, core := some n }

/-! ## Lending (R134, R135) -/

/-- The number by which a lent job is known to borrower and lender. -/
def lentId (frame i : Nat) : Nat := frame * 2 + i

/-- The message of a lent job, its budget apart (R135). -/
def lentMessage (h : Held) (i : Nat) (x : Part) (budget : Time) : ChamberMsg :=
  .job (lentId h.id i) h.trailer.keyRef x.alg budget ((Config.sha384 (wholeKey h)).take 16) x.digest x.sig

/-- The advertised delay of a member: its START_DELAY_NS less the time since the heartbeat (R132). -/
def advertisedDelay (s : State) (a : Advert) : Time := a.startDelay * nsT - (s.now - a.arrivedAt)

/-- Times of a lent job on the wire of a link: out and back. -/
def lendingTimes (s : State) (h : Held) (i : Nat) (x : Part) (p : Nat) : Time × Time :=
  (flightTime s p (messageSize (lentMessage h i x 0)), flightTime s p (messageSize (.jobAnswer (lentId h.id i) (some .ok))))

/-- The latest advertisement of the member at the far end of a link, over whichever link it came (R132). -/
def advertAt (s : State) (p : Nat) : Option Advert := s.cham.adverts.look (link s p).peer

/-- A member qualifies for a job (R132, R134). -/
def qualifies (s : State) (h : Held) (i : Nat) (x : Part) (p : Nat) : Bool :=
  match advertAt s p with
  | none => false
  | some a =>
    let (out, back) := lendingTimes s h i x p
    a.acceptEn && a.room != 0 && a.startDelay != 0xFFFFFFFF && decide (s.now ≤ a.arrivedAt + 30 * usT)
      && decide (s.now + advertisedDelay s a + out + 340 * nsT + coreTime x.alg + back + decisionTime < h.deadline)

/-- The member a job is offered to: the one with the least advertised delay, the lower CHAMBER_ID winning a tie. -/
def lenderFor (s : State) (h : Held) (i : Nat) (x : Part) : Option Nat :=
  let delay (p : Nat) : Time := match advertAt s p with
    | some a => advertisedDelay s a
    | none => 0
  let better (p q : Nat) : Bool := delay q < delay p || (delay q == delay p && decide ((link s q).peer < (link s p).peer))
  match (upLinks s).filter (qualifies s h i x) with
  | [] => none
  | p :: t => some (t.foldl (fun a q => if better a q then q else a) p)

/-- Send a job to a lender. -/
def lend (s : State) (p : Nat) (h : Held) (i : Nat) (x : Part) (via : Nat) : State :=
  let (out, back) := lendingTimes s h i x via
  let budget := h.deadline - s.now - out - back - decisionTime
  let s := sendMessage s via (lentMessage h i x budget)
  let s := { s with cham := { s.cham with
    adverts := s.cham.adverts.map fun (e : Nat × Advert) => (e.1, if e.1 = (link s via).peer then { e.2 with room := e.2.room - 1 } else e.2) } }
  let s := { s with cham := { s.cham with out := s.cham.out ++ [{ frame := h.id, part := i, port := via }] } }
  updPart s p h.id i fun y => { y with state := .lent via, offered := true }

/-- The job is to be offered before it is bound: QUEUED exceeds OFFER_MARK, or it cannot be bound here (R96, R134). -/
def wantsOffer (s : State) (h : Held) (i : Nat) (x : Part) : Bool :=
  offerEn s && !x.offered && (decide (offerMark s < poolQueued s) ||
    (match tryPart s h i x with
     | .error _ => true
     | .ok _ => false))

/-- Bind a part whose digest is ready, or lend it, or refuse its frame (R96, R134). -/
def bindPart (s : State) (p : Nat) (h : Held) (i : Nat) (x : Part) : State :=
  if wantsOffer s h i x then
    match lenderFor s h i x with
    | some via => lend s p h i x via
    | none => bindLocally s p h i { x with offered := true }
  else bindLocally s p h i x

/-- A part that waited on a lender is bound here, unless its frame's deadline has come with no answer (R137). -/
def bindAgain (s : State) (frame i : Nat) : State :=
  match portOfFrame s frame with
  | none => s
  | some p =>
    match findHeld s p frame with
    | none => s
    | some h =>
      match partAt h i with
      | none => s
      | some x => if h.deadline ≤ s.now then expire s p h else bindLocally s p h i x

/-- A part whose core failed is offered if it has not been, or bound to another core, or its frame is refused with PREDICTED (R97, R126,
R134). -/
def rebindPart (s : State) (frame i : Nat) : State :=
  match portOfFrame s frame with
  | none => s
  | some p =>
    match findHeld s p frame with
    | none => s
    | some h =>
      match partAt h i with
      | none => s
      | some x =>
        let lender := if wantsOffer s h i x then lenderFor s h i x else none
        match lender, tryPart s h i x with
        | some via, _ => lend s p h i x via
        | none, .error _ => refuseHeld s p h { verdict := .holdTimeout, cause := 0x18 } false
        | none, .ok _ => bindLocally s p h i x

/-! ## The outcome of a frame (R97) -/

/-- The final statuses of all parts, once each has one. -/
def finalStatuses : List Part → Option (List Status)
  | [] => some []
  | x :: t => match x.state with
    | .done st => (finalStatuses t).map (st :: ·)
    | _ => none

/-- The outcome of a signature check from the final statuses of its parts. -/
def signatureRuling (l : List Status) : Ruling :=
  if l.contains .suspended then { verdict := .keyUnknown, cause := 8 }
  else if l.contains .invalidKey then { verdict := .keyUnknown, cause := 5 }
  else if l.contains .invalidSignature then { verdict := .signature }
  else { verdict := .accept }

/-- Enter the final status of a part; once every part has one, the frame's result stands. -/
def partDone (s : State) (frame i : Nat) (st : Status) (lent : Bool) : State :=
  match portOfFrame s frame with
  | none => s
  | some p =>
    let s := updPart s p frame i fun x => { x with state := .done st }
    updHeld s p frame fun h => match h.stage with
      | .signature ps => match finalStatuses ps with
        | some l => { h with stage := .result (signatureRuling l), lent := h.lent || lent }
        | none => { h with lent := h.lent || lent }
      | _ => h

end Sys2Proof.Machine
end

