-- ==== Sys2Proof/Machine/PkeMath.lean ====
section
/-!
DEFINITION. What public-key operations find and compute: their digests, the exclusions of R159, and their results (R146 to R159).  What
the spec leaves to a standard's own choices (signatures, padding, primes, lattice keys) is `Config.pke`.
-/

namespace Sys2Proof.Machine

/-! ## Inputs -/

/-- The key in a job's PUBLIC_KEY operand, in its stored form: a Weierstrass key without its prefix byte (R148). -/
def inlineKey (b : JobBlock) : Bytes := if isWeierstrass b.algo then (b.input 3).drop 1 else b.input 3

/-- The inputs of a job as the standards' own functions take them: its header's hash, flags, sizes and curve under ID 0, then its input
operands, the MESSAGE as its digest. -/
def jobInputs (b : JobBlock) (record digest : Bytes) : List (Nat × Bytes) :=
  (0, leBytes 1 b.hash ++ leBytes 2 b.flags ++ leBytes 2 b.sizeWords ++ leBytes 2 b.saltLen ++ record)
    :: (b.operands.filter fun o => !o.output).map fun o => (o.id, if o.id = 1 then digest else o.data)

/-! ## EdDSA (RFC 8032) -/

/-- The hash of an EdDSA algorithm: SHA-512 to 64 bytes, or SHAKE256 to 114. -/
def edHash (algo : Nat) (b : Bytes) : Bytes := if algo = 0x10 then Config.digest 3 b 64 else Config.digest 8 b 114

/-- The secret scalar of a private key. -/
def edScalar (algo : Nat) (key : Bytes) : Nat :=
  let c := edCurve algo
  let n := leNat ((edHash algo key).take c.len)
  if algo = 0x10 then n % 2 ^ 254 / 8 * 8 + 2 ^ 254 else n % 2 ^ 447 / 4 * 4 + 2 ^ 447

/-- The public key of a private key. -/
def edPublic (algo : Nat) (key : Bytes) : Bytes :=
  let c := edCurve algo
  c.encode (c.mul (edScalar algo key % c.l) c.base)

/-- The secret prefix of the nonce hash. -/
def edPrefix (algo : Nat) (key : Bytes) : Bytes := (edHash algo key).drop (edCurve algo).len

/-- What Ed448 puts before each hash: its name, the pure form and the context. -/
def edDomain (b : JobBlock) : Bytes :=
  if b.algo = 0x11 then asciiBytes "SigEd448" ++ [0] ++ leBytes 1 (b.input 6).length ++ b.input 6 else []

/-- The encoding of the point R that a nonce hash gives. -/
def edR (algo : Nat) (nonce : Bytes) : Bytes := (edCurve algo).encode ((edCurve algo).mul (leNat nonce % (edCurve algo).l) (edCurve algo).base)

/-- A signature, from the nonce hash and the challenge. -/
def edSign (algo : Nat) (key nonce challenge : Bytes) : Bytes :=
  let c := edCurve algo
  edR algo nonce ++ leBytes c.len ((leNat nonce + leNat challenge * edScalar algo key) % c.l)

/-! ## The digests of a job (R150) -/

/-- What the next digest of a job hashes, under its key. -/
def digestMessage (j : PkeJob) (key : Bytes) : Bytes :=
  let b := j.block
  let msg := b.input 1
  let context := [0] ++ leBytes 1 (b.input 6).length ++ b.input 6
  if isEdwards b.algo then
    if b.op = 2 then edDomain b ++ (b.input 2).take (edCurve b.algo).len ++ key ++ msg
    else match j.digests with
      | [] => edDomain b ++ edPrefix b.algo key ++ msg
      | nonce :: _ => edDomain b ++ edR b.algo nonce ++ edPublic b.algo key ++ msg
  else if isMlDsa b.algo then
    if b.op = 1 then slice key 64 64 ++ context ++ msg
    else match j.digests with
      | [] => key
      | tr :: _ => tr ++ context ++ msg
  else msg

/-- The digest that a job's operation takes: the last one made for it, or its MESSAGE where that is the finished digest. -/
def jobDigest (j : PkeJob) : Bytes := if j.block.flag 0 then j.block.input 1 else j.digests.getLastD []

/-! ## Exclusions (R159) -/

/-- A point operand is excluded: its first byte is not 0x04, or its coordinates are. -/
def pointBad (c : ECurve) (b : Bytes) : Bool := b.headD 0 != 4 || c.excludes (b.drop 1)

/-- The shared point of a key agreement: the private key times the cofactor times the peer's point. -/
def sharedPoint (c : ECurve) (key peer : Bytes) : EPoint := c.mul (c.h * beNat key) (some (c.coords (peer.drop 1)))

/-- A value is outside [2, p − 2]. -/
def outsideGroup (p x : Nat) : Bool := decide (x < 2) || decide (p < x + 2)

/-- A finite-field peer value is excluded: outside [2, p − 2], or, where q is stored, y^q ≠ 1. -/
def peerBad (w : Nat) (key peer : Bytes) : Bool :=
  let (p, _, _, q) := groupOf w key
  let y := beNat peer
  outsideGroup p y || (match q with
    | some q => powMod y q p != 1
    | none => false)

/-- The inputs of a job that end it with INVALID_KEY. -/
def keyBad (b : JobBlock) (record key : Bytes) : Bool :=
  let c := curveFor b.algo record
  if isWeierstrass b.algo then
    if b.op = 2 then (if b.flag 1 then pointBad c (b.input 3) else c.excludes key)
    else if b.op = 4 then
      c.excludesPrivate key || pointBad c (b.input 4) || (sharedPoint c key (b.input 4)).isNone
    else b.op == 1 && c.excludesPrivate key
  else if isEdwards b.algo then b.op == 2 && (edCurve b.algo).excludes key
  else if b.algo = 0x12 || b.algo = 0x13 then b.op == 4 && allZero (xShared b.algo key (b.input 4))
  else if isRsa b.algo then
    if b.flag 1 then rsaPublicBad key else !exponentOk (beNat (key.take 4))
  else if b.algo = 0x22 then !exponentOk (beNat (b.input 7))
  else if b.algo = 0x28 then b.op == 4 && peerBad b.sizeWords key (b.input 4)
  else if isMlKem b.algo then (if b.op = 5 then kemPublicBad key else b.op == 6 && kemPrivateBad key)
  else false

/-- A signature that a VERIFY turns away; `other` is what the padding or encoding of an RSA signature comes to. -/
def signatureBad (b : JobBlock) (record key digest : Bytes) (other : Bool) : Bool :=
  if b.op ≠ 2 then false
  else if isWeierstrass b.algo then !(curveFor b.algo record).verify key digest (b.input 2)
  else if isEdwards b.algo then !(edCurve b.algo).verify key digest (b.input 2)
  else if isMlDsa b.algo then !Config.verify (b.algo + 0x10) key digest (b.input 2)
  else other

/-- Another input that ends a job with INVALID_INPUT: the integer of an RSA signature, or the group of a finite-field KEYGEN; `other` is
what the message integer of an RSA SIGN comes to. -/
def inputBad (b : JobBlock) (key : Bytes) (other : Bool) : Bool :=
  if isRsa b.algo then
    if b.op = 2 then
      let n := beNat (key.drop 4)
      let x := beNat (b.input 2)
      x == 0 || x == 1 || decide (n ≤ x + 1)
    else other
  else if b.algo = 0x28 && b.op = 3 then
    let p := beNat (b.input 8)
    !modulusOk p b.sizeWords || outsideGroup p (beNat (b.input 9))
  else false

/-! ## Counts (R155, R158) -/

/-- A search for one prime of `w` words' modulus within its 160 w candidates: the candidates and survivors it counts, and whether it ends
without a prime. -/
def primeSearch (w : Nat) (r : Nat × Nat) : Nat × Nat × Bool :=
  let c := min r.1 (160 * w)
  (c, min r.2 c, decide (160 * w < r.1))

/-- Candidates and survivors of an RSA KEYGEN, and whether it ends without a key. -/
def rsaCounts (w : Nat) (random : Bytes) : Nat × Nat × Bool :=
  let (r1, r2) := Config.rsaSearch w random
  let (c1, m1, bad1) := primeSearch w r1
  let (c2, m2, bad2) := primeSearch w r2
  if bad1 then (c1, m1, true) else (c1 + c2, m1 + m2, bad2)

/-- The counts of a job, and whether it ends without a result: attempts of ML-DSA SIGN, at most 1,000, and candidates and survivors of
RSA KEYGEN.  A job whose draw failed counts one attempt and no candidate (R154). -/
def jobCounts (j : PkeJob) : Nat × Nat × Nat × Bool :=
  let b := j.block
  if isMlDsa b.algo && b.op = 1 then
    let a := Config.signAttempts b.algo (jobDigest j) j.random
    if j.drawFailed then (1, 0, 0, false) else (max 1 (min a 1000), 0, 0, decide (1000 < a))
  else if b.algo = 0x22 && !j.drawFailed then
    let (c, m, bad) := rsaCounts b.sizeWords j.random
    (0, c, m, bad)
  else (0, 0, 0, false)

/-! ## Results -/

/-- The private key of a Weierstrass KEYGEN, in [1, n − 1], from its random bytes. -/
def ecPrivate (c : ECurve) (random : Bytes) : Nat := 1 + beNat random % (c.n - 1)

/-- The outputs and the secret of an operation, where the algorithm fixes them; `other` holds those that a standard's own choices
decide. -/
def jobOutputs (j : PkeJob) (record key : Bytes) (other : List Bytes × Bytes) : List Bytes × Bytes :=
  let b := j.block
  let c := curveFor b.algo record
  if isWeierstrass b.algo && b.op = 3 then
    let d := ecPrivate c j.random
    ([[4] ++ (c.encode (c.mul d c.base)).getD []], beBytes c.orderLen d)
  else if isWeierstrass b.algo && b.op = 4 then
    ([], (((c.encode (sharedPoint c key (b.input 4)))).getD []).take c.fieldLen)
  else if isEdwards b.algo && b.op = 3 then ([edPublic b.algo j.random], j.random)
  else if isEdwards b.algo && b.op = 1 then ([edSign b.algo key (j.digests.headD []) (jobDigest j)], [])
  else if (b.algo = 0x12 || b.algo = 0x13) && b.op = 3 then ([xPublic b.algo j.random], j.random)
  else if (b.algo = 0x12 || b.algo = 0x13) && b.op = 4 then ([], xShared b.algo key (b.input 4))
  else if b.algo = 0x28 && b.op = 3 then
    let (p, g) := (b.input 8, b.input 9)
    let q := if b.operands.any (·.id == 0x0A) then beBytes (8 * b.sizeWords) (beNat (b.input 0x0A)) else []
    ([beBytes (8 * b.sizeWords) (powMod (beNat g) (beNat j.random) (beNat p))], p ++ g ++ j.random ++ q)
  else if b.algo = 0x28 && b.op = 4 then
    let (p, _, x, _) := groupOf b.sizeWords key
    ([], beBytes (8 * b.sizeWords) (powMod (beNat (b.input 4)) x p))
  else other

/-- What the operation of a job finds and computes under its key, on the loaded curve of `record`. -/
def jobResult (j : PkeJob) (record key : Bytes) : PkeResult :=
  let b := j.block
  let digest := jobDigest j
  let other := Config.pke b.op b.algo key (jobInputs b record digest) j.random
  let (a, c, m, failed) := jobCounts j
  let (outs, secret) := jobOutputs j record key (other.outs, other.secret)
  { keyBad := keyBad b record key
    signatureBad := signatureBad b record key digest other.signatureBad
    inputBad := inputBad b key other.inputBad
    noResult := failed
    outs := outs
    secret := secret
    attempts := a
    candidates := c
    survivors := m }

/-- Random bytes that a job draws as it is bound to a core; 0 where it draws none (R154).  A Weierstrass KEYGEN draws eight bytes beyond
the order's length, and the other widths are those of the keys (assumption 122). -/
def drawSize (j : PkeJob) (record : Bytes) : Nat :=
  let b := j.block
  match j.curve with
  | some r => 2 * 64 * ((fieldBits r + 7) / 8)
  | none =>
    if b.op = 3 then
      if isWeierstrass b.algo then (curveFor b.algo record).orderLen + 8
      else if isEdwards b.algo then (edCurve b.algo).len
      else if b.algo = 0x12 then 32
      else if b.algo = 0x13 then 56
      else if isMlDsa b.algo then 32
      else 64
    else if b.op = 1 && (isWeierstrass b.algo || isMlDsa b.algo) then (if b.flag 2 then 0 else 32)
    else if b.op = 1 && b.algo = 0x21 then b.saltLen
    else if b.op = 5 then 32
    else 0

end Sys2Proof.Machine
end

