-- ==== Sys2Proof/Machine/Lanes.lean ====
section
/-!
DEFINITION. Keyed-check lanes and the mask generators of lanes and service MAC engines (R184 to R192, R216).
-/

namespace Sys2Proof.Machine

/-! ## Engines by number (R186) -/

/-- The mask generator of engine `e`: lane 2n + l, or service MAC engine 288 + s. -/
def maskGen (s : State) (e : Nat) : Mask := if e < 288 then (lane s (e / 2) (e % 2)).mask else (svc s (e - 288)).mask

/-! ## Readiness (R216, R492) -/

/-- The LANES bit: every lane has ended its self-test, and drawn its first seed or failed. -/
def refreshLanes (s : State) : State :=
  setReady s 7 ((List.range 288).all fun e =>
    let x := lane s (e / 2) (e % 2)
    x.state != .selfTest && (x.mask.seed.isSome || x.state == .failed || x.state == .offline))

/-- The SVC_MAC bit: every service MAC engine has ended its self-test, and at least one is ready and seeded. -/
def refreshSvc (s : State) : State :=
  setReady s 6 (((List.range 32).all fun e => (svc s e).state != .selfTest) && (List.range 32).any (svcReady s))

/-- The DIGEST bit: every digest engine has ended its self-test, and at least one is ready. -/
def refreshDigest (s : State) : State :=
  setReady s 5 (((List.range 64).all fun d => (digestEngine s d).state != .selfTest) && (List.range 64).any (digestReady s))

/-! ## Queues of a port's two lanes (R190, R191) -/

/-- Move the jobs of a lane that can take none to the port's other lane if that one can: they go behind its own. -/
def moveQueue (s : State) (p l : Nat) : State :=
  if laneTakes s (lane s p l) || !laneTakes s (lane s p (1 - l)) then s
  else
    let jobs := (lane s p l).queue
    let s := updHeldAll s p (jobs.map (·.frame)) (1 - l)
    let s := updLane s p l fun x => { x with queue := [] }
    updLane s p (1 - l) fun x => { x with queue := x.queue ++ jobs }
where
  /-- The frames of moved jobs that still stand wait on their new lane. -/
  updHeldAll (s : State) (p : Nat) (ids : List Nat) (l : Nat) : State :=
    let move (h : Held) : Held := match h.stage with
      | .onLane _ => if ids.contains h.id then { h with stage := .onLane l } else h
      | _ => h
    updPort s p fun q => { q with line := q.line.map move }

/-- Let waiting jobs move to the first lane of a port that can take jobs (R191). -/
def settleLanes (s : State) (p : Nat) : State := moveQueue (moveQueue s p 0) p 1

/-- AES blocks that a lane's running job has computed by now. -/
def runDone (s : State) (x : Lane) : Nat := (x.running.map fun r => aesDone s r.startedAt r.gmac r.key r.job.blocks).getD 0

/-- Count the AES blocks that a lane has computed for a job (R186, R192). -/
def countLane (s : State) (p l n : Nat) : State :=
  countMask (updLane s p l fun x => { x with blocks := satAdd 64 x.blocks n }) (2 * p + l) n

/-- A self-test of `n` XCLK cycles has run its time, from its own start or from that of the tests after reset (R216). -/
def testDue (s : State) (from_ : Option Time) (n : Nat) : Bool :=
  match from_ <|> s.id.romAt with
  | some f => decide (f + n * xclkT ≤ s.now)
  | none => false

/-- The 32 cycles in which an engine zeroes its key shares and state (R188). -/
def zeroTime : Time := 32 * xclkT

/-- A lane fails (R190): FAULT_COUNT rises, a FAULT alarm goes to Lantern, the running job goes to the front of the lane's
queue, and the jobs move if the other lane can take them.  The third failure leaves the lane OFFLINE. -/
def failLane (s : State) (e : Nat) (kat : Bool) : State :=
  let p := e / 2
  let l := e % 2
  let s := countLane s p l (runDone s (lane s p l))
  let s := updLane s p l fun x => { x with
    faults := satAdd 8 x.faults 1
    katFails := if kat then satAdd 8 x.katFails 1 else x.katFails
    state := if 3 ≤ x.faults + 1 then .offline else .failed
    queue := (x.running.map (·.job)).toList ++ x.queue
    running := none
    leaving := false
    zeroUntil := s.now + zeroTime
    testFrom := some (s.now + zeroTime) }
  refreshLanes (settleLanes (faultAlarm s 3 e) p)

/-! ## Jobs (R93, R189) -/

/-- The key that a frame's engine job fetches: the slot's present value, if it still holds a key of the type resolved
(R93). -/
def fetchKey (s : State) (h : Held) : Option Bytes :=
  match slotOf s h.trailer.keyRef, h.keyAttr with
  | some (_, x), some a => if x.attr.type = a.type then some x.value else none
  | _, _ => none

/-- The bytes that a frame's tag covers: a DNP3 job begins with the association's challenge message (R88). -/
def coveredBytes (s : State) (t : Trailer) : Bytes :=
  match t.assoc with
  | some a => (s.psg.assocs.get {} a).message ++ t.covered
  | none => t.covered

/-- A lane is due for its known-answer block, which comes before its next job (R190). -/
def katDue (s : State) (at_ : Time) : Bool := decide (at_ + 10 * msT ≤ s.now)

/-- LANE_JOB_START: an idle lane takes the next job of its queue and fetches its key (R93, R188, R189).  No key fetch begins
under a response of S2 or above (R12). -/
def execLaneJobStart (e : Fin 288) (t : Time) (s : State) : Outcome :=
  let s := advance s t
  let p := e.val / 2
  let l := e.val % 2
  let x := lane s p l
  match x.queue with
  | [] => .next s
  | j :: rest =>
    if x.state ≠ .idle || starved s e.val || x.mask.seed.isNone || suspended s || katDue s x.katAt || stopped s 1 then .next s
    else
      let s := updLane s p l fun x => { x with queue := rest }
      match findHeld s p j.frame with
      | none => .next s
      | some h =>
        match fetchKey s h with
        | none => .next (refuseHeld s p h { verdict := .keyUnknown, cause := 1 } false)
        | some k =>
          let r : LaneRun := { job := j, gmac := isGmac h.trailer.alg, handle := h.trailer.keyRef, key := k, covered := coveredBytes s h.trailer,
                               startedAt := s.now }
          .next (updLane s p l fun x => { x with state := .busy, running := some r })

/-- XCLK cycles of a tag computation over `n` blocks (R189). -/
def tagCycles (gmac : Bool) (rounds n : Nat) : Nat := if gmac then 2 * rounds + n + 4 else rounds * (n + 1)

/-- AES blocks of a tag computation. -/
def tagBlocks (gmac : Bool) (n : Nat) : Nat := if gmac then 2 else n + 1

/-- The tag of a frame (R82, R83, R86, R87). -/
def frameTag (t : Trailer) (key covered : Bytes) : Bytes :=
  if isGmac t.alg then Config.gmac key t.iv covered else Config.cmac key covered

/-- A lane ends its job after `n` AES blocks: it zeroes itself and is IDLE, or OFFLINE where it was to be taken out. -/
def laneDone (s : State) (p l n : Nat) : State :=
  let off := (lane s p l).leaving
  let s := countLane s p l n
  let s := updLane s p l fun x => { x with
    running := none
    state := if off then .offline else .idle
    leaving := false
    zeroUntil := s.now + zeroTime }
  if off then refreshLanes (settleLanes s p) else s

/-- LANE_TAG_RESULT: a lane's job ends once its cycles have passed, and reports match or no match; the result for a frame already
refused is discarded (R98, R189). -/
def execLaneTagResult (e : Fin 288) (t : Time) (s : State) : Outcome :=
  let s := advance s t
  let p := e.val / 2
  let l := e.val % 2
  match (lane s p l).running with
  | none => .next s
  | some r =>
    if s.now < r.startedAt + (64 + tagCycles r.gmac (aesRounds r.key) r.job.blocks) * xclkT || stopped s 1 || resultsHeld s then .next s
    else
      let s := laneDone s p l (tagBlocks r.gmac r.job.blocks)
      match findHeld s p r.job.frame with
      | none => .next s
      | some h =>
        let tag := frameTag h.trailer r.key r.covered
        let ok := tag.take h.trailer.auth.length == h.trailer.auth
        let v : Ruling := { verdict := if ok then .accept else .tag }
        .next (match h.stage with
          | .onLane _ => updHeld s p h.id fun x => { x with stage := .result v }
          | _ => s)

/-- LANE_KNOWN_ANSWER: every 10 ms, between two jobs, a lane runs a known-answer block; a wrong answer fails the lane
(R190). -/
def execLaneKnownAnswer (e : Fin 288) (correct : Bool) (t : Time) (s : State) : Outcome :=
  let s := advance s t
  let x := lane s (e.val / 2) (e.val % 2)
  .next (if x.state ≠ .idle || !katDue s x.katAt || stopped s 1 then s
    else if correct then
      countLane (updLane s (e.val / 2) (e.val % 2) fun x => { x with katAt := s.now }) (e.val / 2) (e.val % 2) 1
    else failLane s e.val true)

/-- LANE_PARITY_ERROR: a parity error puts a lane into FAILED (R190). -/
def execLaneParityError (e : Fin 288) (t : Time) (s : State) : Outcome :=
  let s := advance s t
  let x := lane s (e.val / 2) (e.val % 2)
  if x.state = .failed || x.state = .offline then .next s else .next (failLane s e.val false)

/-- The register-space address of a lane's window (R192). -/
def laneBase (e : Nat) : Nat := 0x00400000 + e / 2 * 0x4000 + 0x2000 + e % 2 * 0x800

/-- A write of RETEST runs the self-test on an IDLE or FAILED lane (R192). -/
def retestLane (s : State) (p l : Nat) : State :=
  let x := lane s p l
  if x.state = .idle || x.state = .failed then
    refreshLanes (settleLanes (updLane s p l fun x => { x with state := .selfTest, testFrom := some s.now }) p)
  else s

/-- A write of TAKE_OFFLINE: a lane goes OFFLINE after its running job, and its queue moves (R192). -/
def takeLaneOffline (s : State) (p l : Nat) : State :=
  if (lane s p l).running.isSome then updLane s p l fun x => { x with leaving := true }
  else refreshLanes (settleLanes (updLane s p l fun x => { x with state := .offline }) p)

/-- LANE_RETEST. -/
def execLaneRetest (m : Master) (e : Fin 288) (s : State) : Outcome :=
  if !m.isSecure then .next (refuseAccess s m (laneBase e.val + 4) true) else .next (retestLane s (e.val / 2) (e.val % 2))

/-- LANE_TAKE_OFFLINE. -/
def execLaneTakeOffline (m : Master) (e : Fin 288) (s : State) : Outcome :=
  if !m.isSecure then .next (refuseAccess s m (laneBase e.val + 4) true)
  else .next (takeLaneOffline s (e.val / 2) (e.val % 2))

/-! ## Mask generators (R186) -/

/-- A generator asks for a seed: it has none and the RNG is ready, or it has served the blocks at which it asks. -/
def maskWants (s : State) (e : Nat) : Bool :=
  let m := maskGen s e
  !m.asked && m.next.isNone && (if m.seed.isNone then bit s.id.ready 3 else decide (m.askAt ≤ maskServed s e))

/-- MASK_RESEED_REQUEST: a generator asks its DRBG instance for 256 bits, which waits in the priority queue; an instance that has not
started refuses with RNG_STARTING, and one that is EXHAUSTED or FAILED with RNG_DEGRADED (R186, R228 to R231). -/
def execMaskReseedRequest (e : Fin 320) (t : Time) (s : State) : Outcome :=
  let s := advance s t
  let starting := match homeOf s (e.val % 8) with
    | some i => !s.rng.failed && ((inst s i).state == 0 || (inst s i).state == 5)
    | none => false
  .next (if !maskWants s e.val || stopped s 1 then s
    else if starting then maskRefused s e.val
    else queueDraw (updMask s e.val fun m => { m with asked := true }) (e.val % 8) true { who := .mask e.val, size := 32 })

/-- MASK_RESEED_LOAD: a new seed takes effect at the next block boundary; a starved or unseeded engine serves again (R186,
R191). -/
def execMaskReseedLoad (e : Fin 320) (t : Time) (s : State) : Outcome :=
  let s := advance s t
  match (if stopped s 1 then none else (maskGen s e.val).next) with
  | none => .next s
  | some b =>
    let done (m : Mask) : Nat := maskServed s e.val + m.before - m.blocks
    let s := updMask s e.val fun m =>
      { m with seed := some b, next := none, asked := false, blocks := 0, before := done m, askAt := 65536 }
    if e.val < 288 then
      let s := updLane s (e.val / 2) (e.val % 2) fun x => { x with state := if x.state = .unseeded then .idle else x.state }
      .next (refreshLanes (settleLanes s (e.val / 2)))
    else
      .next (refreshSvc (updSvc s (e.val - 288) fun x => { x with state := if x.state = .unseeded then .idle else x.state }))

/-- MASK_GENERATOR_STARVED: a generator that has served 1,048,576 blocks since its seed is starved: the refusal is counted,
and a lane's waiting jobs move if the port's other lane can take them (R186, R191). -/
def execMaskGeneratorStarved (e : Fin 320) (t : Time) (s : State) : Outcome :=
  let s := advance s t
  if !starved s e.val || stopped s 1 then .next s
  else
    let s := updMask s e.val fun m => { m with refused := sat32 m.refused }
    .next (if e.val < 288 then settleLanes s (e.val / 2) else s)

/-! ## A response of S2 or above (R12) -/

/-- Stop a lane's running job; its frame was refused as the response took effect (R12, R142). -/
def stopLane (s : State) (e : Nat) : State :=
  match (lane s (e / 2) (e % 2)).running with
  | none => s
  | some _ => laneDone s (e / 2) (e % 2) (runDone s (lane s (e / 2) (e % 2)))

end Sys2Proof.Machine
end

