-- ==== Sys2Proof/Machine/SvcEngines.lean ====
section
/-!
DEFINITION. Service MAC engines: messages, segments, locks and their ends (R193 to R202).
-/

namespace Sys2Proof.Machine

/-- A body of a fixed layout has its length, or the command ends with INVALID_LENGTH. -/
def withLength (s : State) (c : Cmd) (n : Nat) (k : State) : State :=
  if c.body.bytes.length = n then k else answerStatus s c.reply .invalidLength

/-- SVC_MAC: one segment goes to the dispatcher (R193, R208). -/
def execSvcMac (c : Cmd) (s : State) : Outcome :=
  .next (command s c 0x0401 fun s => withLength s c 64 <|
    let (id, s) := newJob s
    submit s c.caller (.svc { id := id, block := readSegment c.body.bytes, caller := c.caller, domain := c.domain, reply := c.reply,
                              data := c.data }))

/-! ## The end of a message (R198) -/

/-- End segments that will not run, with a status and no engine. -/
def endSegments (s : State) (h : Hold) (st : Status) (l : List SvcJob) : State :=
  l.foldl (fun s j => endSvc s j st 0xFF h.ticket 0 h.data.length [] []) s

/-- Count the AES blocks that an engine has computed for a segment (R186, R202). -/
def countSvc (s : State) (e n : Nat) : State :=
  countMask (updSvc s e fun x => { x with blocks := satAdd 64 x.blocks n }) (288 + e) n

/-- Release an engine's lock: its ticket ends, its queued segments end with a status, and it zeroes itself (R188, R198). -/
def releaseSvc (s : State) (e : Nat) (st : Status) : State :=
  match (svc s e).hold with
  | none => s
  | some h =>
    let s := updSvc s e fun x => { x with
      hold := none
      state := if x.state = .busy then .idle else x.state
      zeroUntil := s.now + zeroTime }
    endSegments s h st h.queue

/-- Stop an engine's running segment with a status and end its message. -/
def stopSvc (s : State) (e : Nat) (st queued : Status) : State :=
  match (svc s e).hold with
  | none => s
  | some h =>
    let s := match h.running with
      | some r => endSvc (countSvc s e (svcDone s r)) r.job st e h.ticket 0 h.data.length [] []
      | none => s
    releaseSvc s e queued

/-! ## Segments (R197, R200, R201) -/

/-- XCLK cycles of `n` blocks of a segment: the subkey or H and E(J0) with the first, the length block and final XOR with the last
(R189, R193). -/
def segmentCycles (b : SegBlock) (rounds n : Nat) : Nat :=
  if b.algo = 1 then rounds * (n + (if b.first then 1 else 0))
  else (if b.first then 2 * rounds else 0) + n + (if b.last then 4 else 0)

/-- AES blocks of `n` blocks of a segment. -/
def segmentBlocks (b : SegBlock) (n : Nat) : Nat :=
  if b.algo = 1 then n + (if b.first then 1 else 0) else if b.first then 2 else 0

/-- Begin a segment whose key and IV stand: one whose fragments do not add up runs those before the offending one (R209). -/
def beginSegment (s : State) (e : Nat) (h : Hold) (j : SvcJob) (rest : List SvcJob) (key iv : Bytes) : State :=
  let (taken, bad) := fragsFault j.block.segLen 0 j.block.frags
  let n := if bad then taken.length / 16 else (j.block.segLen + 15) / 16
  let cycles := (if j.block.first then 64 else 0) + segmentCycles j.block (aesRounds key) n
  let r : SvcRun := { job := j, startAt := s.now, endAt := s.now + cycles * xclkT, blocks := segmentBlocks j.block n,
                      gmac := j.block.algo == 2, rounds := aesRounds key, mismatch := bad,
                      iv := if j.block.first && j.block.ivRandom then iv else [] }
  let h := { h with key := some key, iv := iv, queue := rest, running := some r, idleFrom := none }
  updSvc s e fun x => { x with state := .busy, hold := some h }

/-- End a segment that cannot begin, and its message with it. -/
def failSegment (s : State) (e : Nat) (h : Hold) (j : SvcJob) (rest : List SvcJob) (st : Status) : State :=
  let s := updSvc s e fun x => { x with hold := some { h with queue := rest } }
  releaseSvc (endSvc s j st e h.ticket 0 h.data.length [] []) e .aborted

/-- Begin the FIRST segment of a message under the key its slot now holds, with an IV drawn where it asks for one: the segment waits while
the instance is not yet serving (R233), or while its key is paged in again. -/
def beginFirst (s : State) (e : Nat) (h : Hold) (j : SvcJob) (rest : List SvcJob) : State :=
  match fetchFor s h.handle (segKeyUse j) (segKeyType j) with
  | .away => askPageIn s h.handle
  | .barred st => failSegment s e h j rest st
  | .got n key =>
    if !j.block.ivRandom then beginSegment (touchSlot s n) e h j rest key h.iv
    else match draw s (e % 8) false 12 with
      | (s, .ok iv) => beginSegment (touchSlot s n) e h j rest key iv
      | (s, .error .rngStarting) => s
      | (s, .error st) => failSegment s e h j rest st

/-- SVC_SEGMENT_START: the holder's next segment starts on its engine.  A FIRST segment takes its key, once for the whole
message, and its random IV; a starved or unseeded engine ends it (R188, R197, R200, R232). -/
def execSvcSegmentStart (e : Fin 32) (t : Time) (s : State) : Outcome :=
  let s := advance s t
  let x := svc s e.val
  match x.hold with
  | none => .next s
  | some h =>
    match h.running, h.queue with
    | some _, _ => .next s
    | none, [] => .next s
    | none, j :: rest =>
      if suspended s || stopped s 1 || !(x.state == .idle || x.state == .unseeded) then .next s
      else if x.mask.seed.isNone then .next (failSegment s e.val h j rest .rngStarting)
      else if starved s (288 + e.val) then .next (failSegment s e.val h j rest .rngDegraded)
      else if katDue s x.katAt then .next s
      else
        match h.key with
        | some k => .next (beginSegment s e.val h j rest k h.iv)
        | none => .next (beginFirst s e.val h j rest)

/-- The tag of a whole message. -/
def messageTag (h : Hold) (data : Bytes) : Bytes :=
  let key := h.key.getD []
  if h.algo = 1 then Config.cmac key data else Config.gmac key h.iv data

/-- The status and tag that a segment ends with (R201, R209). -/
def segmentOutcome (h : Hold) (r : SvcRun) (data : Bytes) : Status × Bytes :=
  if r.mismatch then (.lengthMismatch, [])
  else if !r.job.block.last then (.ok, [])
  else
    let tag := (messageTag h data).take r.job.block.tagLen
    if r.job.block.op = 1 then (.ok, tag)
    else if tag = r.job.block.expected then (.ok, []) else (.tagMismatch, [])

/-- End the running segment of an engine: its result block goes out, a derivation's key is stored, and a LAST segment, or one
whose fragments do not add up, ends the message (R198, R201, R209, R261). -/
def endSegment (s : State) (e : Nat) (h : Hold) (r : SvcRun) : State :=
  let data := h.data ++ (fragsFault r.job.block.segLen 0 r.job.block.frags).1
  let (st, tag) := segmentOutcome h r data
  let done := r.job.block.last || st = .lengthMismatch
  let idle : Option Time := if h.queue.isEmpty then some s.now else none
  let s := countSvc (updSvc s e fun x => { x with
    state := .idle
    hold := some { h with data := data, running := none, idleFrom := idle } }) e r.blocks
  let s := match r.job.derive with
    | none => endSvc s r.job st e h.ticket 0 data.length r.iv tag
    | some d =>
      let v := kdf d.prf (h.key.getD []) d.label d.context d.attr.length
      storeResult s r.job.caller r.job.reply d.dest { attr := { d.attr with origin := 2 }, value := v } { status := .ok }
  if done then releaseSvc s e .aborted else s

/-- SVC_SEGMENT_END: a segment's cycles have passed. -/
def execSvcSegmentEnd (e : Fin 32) (t : Time) (s : State) : Outcome :=
  let s := advance s t
  match (svc s e.val).hold with
  | none => .next s
  | some h =>
    match h.running with
    | none => .next s
    | some r => if s.now < r.endAt || stopped s 1 then .next s else .next (endSegment s e.val h r)

/-- IDLE_100US of SVC_CFG. -/
def idleLimit (s : State) : Time := field s.eng.svcCfg 13 0 * 100 * usT

/-- SVC_IDLE_TIMEOUT: the idle timer of a held engine expires, and its lock is released (R198). -/
def execSvcIdleTimeout (e : Fin 32) (t : Time) (s : State) : Outcome :=
  let s := advance s t
  match (svc s e.val).hold.bind (·.idleFrom) with
  | none => .next s
  | some f =>
    if s.now < f + idleLimit s || stopped s 1 then .next s
    else
      let s := { s with eng := { s.eng with svcTimeouts := sat32 s.eng.svcTimeouts } }
      .next (releaseSvc s e.val .aborted)

/-- A holder's abort ends its running segment unless its commit cycle has come, and every queued segment, and releases the lock
(R199). -/
def abortMessage (s : State) (e : Nat) (h : Hold) : State :=
  match h.running with
  | some r => if r.endAt ≤ s.now then releaseSvc (endSegment s e h r) e .aborted else stopSvc s e .aborted .aborted
  | none => releaseSvc s e .aborted

/-- SVC_ABORT: the holder's abort ends the running segment unless its commit cycle has come, and every queued segment, and
releases the lock (R199). -/
def execSvcAbort (c : Cmd) (s : State) : Outcome :=
  .next (command s c 0x0402 fun s =>
    let b := c.bytes 0x10
    let e := leAt b 0 1
    match (if e < 32 then (svc s e).hold.filter (·.ticket == leAt b 2 2) else none) with
    | none => answerStatus s c.reply .invalidParameter
    | some h =>
      if h.user ≠ userId c.caller then answerStatus s c.reply .notPermitted
      else answerOk (abortMessage s e h) c [] [])

/-- FORCE_RELEASE: a write by the secure world releases an engine's lock (R198, R202). -/
def execForceRelease (m : Master) (e : Fin 32) (s : State) : Outcome :=
  if !m.isSecure then .next (refuseAccess s m (0x00070008 + e.val * 0x400) true)
  else .next (stopSvc s e.val .aborted .aborted)

/-- Release every lock that a carrier's queue holds (R198): the segments end with ABORTED. -/
def releaseHoldsOf (s : State) (p : Caller → Bool) : State :=
  (List.range 32).foldl (fun s e => match (svc s e).hold with
    | some h => if p h.caller then stopSvc s e .aborted .aborted else s
    | none => s) s

/-- A response of S2 or above stops every running segment with SUSPENDED and ends every message (R12, R200). -/
def suspendSvcs (s : State) : State := (List.range 32).foldl (fun s e => stopSvc s e .suspended .suspended) s

/-- A service MAC engine fails (R190, R202): its running segment ends with FAULT_DETECTED and its message ends. -/
def failSvc (s : State) (e : Nat) : State :=
  let s := stopSvc s e .faultDetected .aborted
  let s := updSvc s e fun x => { x with
    faults := satAdd 8 x.faults 1
    state := if 3 ≤ x.faults + 1 then .offline else .failed
    testFrom := some (s.now + zeroTime) }
  refreshSvc (faultAlarm s 4 e)

/-! ## Configuration -/

/-- SVC_CFG_SET: writes IDLE_100US (R217). -/
def execSvcCfgSet (c : Cmd) (s : State) : Outcome :=
  .next (command s c 0x0421 fun s =>
    match c.regWrites with
    | [(0x8000, v)] =>
      let n := field v 13 0
      if 1 ≤ n && n ≤ 10000 then answerOk { s with eng := { s.eng with svcCfg := BitVec.ofNat 32 n } } c [] []
      else answerStatus s c.reply .invalidParameter
    | _ => answerStatus s c.reply .invalidParameter)

end Sys2Proof.Machine
end

