-- ==== Sys2Proof/Machine/Digests.lean ====
section
/-!
DEFINITION. Digest engines: contexts, blocks and their order, Passage and service jobs, derivation, and the engines'
self-checks (R203 to R217, R261).
-/

namespace Sys2Proof.Machine

/-! ## Blocks (R203, R213) -/

/-- XCLK cycles of one block of a digest code. -/
def blockCycles (algo : Nat) : Nat := if algo = 1 then 64 else if algo = 2 || algo = 3 then 80 else 24

/-- Blocks of a digest over `n` bytes with `out` bytes of output. -/
def digestBlocks (algo n out : Nat) : Nat :=
  if algo = 1 then (n + 9 + 63) / 64
  else if algo = 2 || algo = 3 then (n + 17 + 127) / 128
  else if algo ≤ 6 then n / blockRate algo + 1
  else n / blockRate algo + (out + blockRate algo - 1) / blockRate algo

/-- Blocks of an HMAC over `n` bytes. -/
def hmacBlocks (algo n : Nat) : Nat := digestBlocks algo n 0 + 3

/-! ## Contexts (R203 to R205) -/

/-- The eight contexts: C0 to C5 serve Passage, C6 and C7 service jobs. -/
def ctxRange (passage : Bool) : List Nat := if passage then [0, 1, 2, 3, 4, 5] else [6, 7]

/-- A context is waiting for a block: its job runs, its key is in place, and blocks remain. -/
def ctxWaits (s : State) (c : Ctx) : Bool := c.done.isNone && decide (c.readyAt ≤ s.now) && decide (0 < c.blocks)

/-- Blocks outstanding on an engine for one side. -/
def outstanding (x : Digest) (passage : Bool) : Nat :=
  ((ctxRange passage).map fun c => ((x.ctxs.look c).map (·.blocks)).getD 0).sum

/-- An engine may take a context. -/
def digestTakes (s : State) (d : Nat) : Bool :=
  digestReady s d && !(digestEngine s d).retest && !(digestEngine s d).takeOffline

/-- The lowest free context of a side. -/
def freeCtx (x : Digest) (passage : Bool) : Option Nat := (ctxRange passage).find? fun c => (x.ctxs.look c).isNone

/-- The engine with the fewest blocks outstanding for a side among those with a free context, and that context. -/
def chooseCtx (s : State) (passage : Bool) : Option (Nat × Nat) :=
  let free := (List.range 64).filterMap fun d =>
    if digestTakes s d then (freeCtx (digestEngine s d) passage).map fun c => (d, c) else none
  match free with
  | [] => none
  | e :: t => some (t.foldl (fun a b =>
      if outstanding (digestEngine s b.1) passage < outstanding (digestEngine s a.1) passage then b else a) e)

/-- Put a context to work. -/
def takeCtx (s : State) (d c : Nat) (x : Ctx) : State :=
  updDigest s d fun e => { e with state := .busy, ctxs := e.ctxs.put c x }

/-- An engine whose contexts are all free does what waited on that: OFFLINE, a self-test, or IDLE. -/
def settleDigest (s : State) (d : Nat) : State :=
  let x := digestEngine s d
  if !x.ctxs.isEmpty || x.state ≠ .busy && x.state ≠ .idle then s
  else
    let st : DigestState := if x.takeOffline then .offline else if x.retest then .selfTest else .idle
    let s := updDigest s d fun e => { e with
      state := st
      takeOffline := false
      retest := false
      current := none
      testFrom := if st = .selfTest then some s.now else e.testFrom }
    if st = .idle then s else refreshDigest s

/-- The carrier of a reply has not yet taken its answer. -/
def replyStands (s : State) : Reply → Bool
  | .ring id => s.host.funcs.any fun f => f.2.queues.any fun q => q.2.jobs.any (·.id == id)
  | .envelope id => s.mbx.boxes.any fun b => b.2.outstanding.any (·.id == id)
  | .call k => s.wld.calls.any (·.token == k)
  | .log => false

/-- Free a context. -/
def freeContext (s : State) (d c : Nat) : State :=
  settleDigest (updDigest s d fun e => { e with
    ctxs := e.ctxs.del c
    current := if e.current = some c then none else e.current }) d

/-- A DONE context whose result block has been delivered. -/
def ctxDelivered (s : State) (x : Ctx) : Bool :=
  x.done.isSome && (match x.user with
    | .service j => !replyStands s j.reply
    | .passage _ => false)

/-- Free every DONE context whose result block has been delivered (R215). -/
def freeDelivered (s : State) : State :=
  s.eng.digests.foldl (fun s e => e.2.ctxs.foldl (fun s k => if ctxDelivered s k.2 then freeContext s e.1 k.1 else s) s) s

/-! ## Passage jobs (R95) -/

/-- The digest code of an algorithm of R82: the hash of its HMAC, or the digest its signature takes (R95). -/
def algDigest (alg : Nat) : Nat :=
  if isHmacAlg alg || alg = 0x30 then 1 else if alg = 0x31 then 2 else if alg = 0x32 then 3 else 8

/-- Bytes that the digest of a signature job hashes (R95). -/
def sigMessageLen (x : Part) (covered : Nat) : Nat :=
  if x.alg = 0x32 then 32 + x.key.length + covered else if 0x40 ≤ x.alg then 66 + covered else covered

/-- The context of a Passage job; none where its key is gone (R93). -/
def passageCtx (s : State) (h : Held) (r : FrameRef) : Option Ctx :=
  let msg := coveredBytes s h.trailer
  match h.stage with
  | .signature _ =>
    (partAt h r.part).map fun x =>
      { user := .passage r, algo := algDigest x.alg, msg := msg, readyAt := s.now,
        blocks := digestBlocks (algDigest x.alg) (sigMessageLen x msg.length) 64 }
  | _ =>
    (fetchKey s h).map fun k =>
      { user := .passage r, algo := 1, handle := h.trailer.keyRef, key := k, msg := msg, readyAt := s.now + 64 * xclkT,
        blocks := hmacBlocks 1 msg.length }

/-- Give the oldest Passage job to a context. -/
def assignPassage (s : State) : State :=
  match s.psg.digestQ, chooseCtx s true with
  | r :: rest, some (d, c) =>
    let s := { s with psg := { s.psg with digestQ := rest } }
    match portOfFrame s r.frame with
    | none => s
    | some p =>
      match findHeld s p r.frame with
      | none => s
      | some h =>
        match passageCtx s h r with
        | some x => takeCtx s d c x
        | none => refuseHeld s p h { verdict := .keyUnknown, cause := 1 } false
  | _, _ => s

/-- The end of a Passage job: an HMAC's comparison is the frame's result; a digest goes to the binder (R96). -/
def endPassage (s : State) (x : Ctx) (r : FrameRef) : State :=
  match portOfFrame s r.frame with
  | none => s
  | some p =>
    match findHeld s p r.frame with
    | none => s
    | some h =>
      match h.stage with
      | .hmac =>
        let ok := (hmac 1 x.key x.msg).take h.trailer.auth.length == h.trailer.auth
        updHeld s p h.id fun y => { y with stage := .result { verdict := if ok then .accept else .tag } }
      | .signature _ =>
        match partAt h r.part with
        | none => s
        | some q =>
          let d := sigDigest q.alg q.key q.sig x.msg
          let s := updPart s p h.id r.part fun y => { y with digest := d }
          match findHeld s p h.id with
          | none => s
          | some h => bindPart s p h r.part { q with digest := d }
      | _ => s

/-! ## Service jobs (R206 to R214) -/

/-- Blocks that a service job runs, and the bytes it hashes (R209, R213, R261). -/
def serviceBlocks (j : DigJob) (key msg : Bytes) : Nat :=
  let b := j.block
  let long := if blockRate b.algo < key.length then digestBlocks b.algo key.length 0 else 0
  match j.derive with
  | some d =>
    let rounds := (d.attr.length + digestLen b.algo - 1) / digestLen b.algo
    long + rounds * hmacBlocks b.algo b.totalLen
  | none => if b.op = 1 then digestBlocks b.algo msg.length b.outBytes else hmacBlocks b.algo msg.length

/-! ### Digests of public-key jobs (R150) -/

/-- The public-key job that a digest serves, while it still waits in the dispatcher. -/
def digestOwner (s : State) (j : DigJob) : Option PkeJob := j.pke.bind fun id => s.pke.waiting.find? (·.id == id)

/-- Take a public-key job out of the dispatcher's queue. -/
def unwait (s : State) (id : Nat) : State := { s with pke := { s.pke with waiting := s.pke.waiting.filter (·.id != id) } }

/-- A public-key job whose digest cannot be made ends before a core has started it. -/
def failPkeDigest (s : State) (j : DigJob) (st : Status) : State :=
  match digestOwner s j with
  | none => s
  | some o => endPkeUnstarted (unwait s o.id) o st

/-- A digest of a public-key job is made: the job's next one follows. -/
def endPkeDigest (s : State) (j : DigJob) (out : Bytes) : State :=
  match digestOwner s j with
  | none => s
  | some o =>
    let o := { o with digests := o.digests ++ [out] }
    pushDigest { s with pke := { s.pke with waiting := s.pke.waiting.map fun x => if x.id = o.id then o else x } } o

/-- The step of a public-key job's plan that its next digest makes needs the secret prefix of an EdDSA nonce. -/
def digestSecret (o : PkeJob) : Bool := ((digestPlan o.block)[o.digests.length]?).any (·.secret)

/-- The key that a digest job takes: none for a plain digest, the inline key of a public-key job, or the one its slot now holds. -/
def digestKey (s : State) (j : DigJob) : KeyFetch :=
  let h := j.block.keyHandle
  match digestOwner s j with
  | some o => if h = 0 then .got 0 (inlineKey o.block) else fetchFor s h (pkeKeyUse o.block) (pkeKeyFits o.block)
  | none => if h = 0 then .got 0 [] else fetchFor s h (digKeyUse j) (digKeyType j)

/-- The context of a public-key job's digest: the secret prefix comes over the key bus (R150, R213). -/
def pkeCtx (s : State) (j : DigJob) (o : PkeJob) (key : Bytes) : Ctx :=
  let msg := digestMessage o key
  { user := .service j, algo := j.block.algo, handle := j.block.keyHandle, msg := msg,
    readyAt := if digestSecret o then s.now + 64 * xclkT else s.now,
    blocks := digestBlocks j.block.algo msg.length j.block.outLen }

/-! ### Service jobs -/

/-- The context of a service job under its key. -/
def serviceCtx (s : State) (j : DigJob) (key : Bytes) : Ctx :=
  let (msg, bad) := fragsFault j.block.totalLen 0 j.block.frags
  let keyed := j.block.op != 1
  { user := .service j, algo := j.block.algo, handle := if keyed then j.block.keyHandle else 0, key := key, msg := msg,
    readyAt := if keyed then s.now + 64 * xclkT else s.now,
    blocks := if bad then msg.length / blockRate j.block.algo else serviceBlocks j key msg,
    final := if bad then .lengthMismatch else .ok }

/-- Take a waiting digest job out of the dispatcher's queue. -/
def unwaitDigest (s : State) (id : Nat) : State :=
  { s with eng := { s.eng with digestWait := s.eng.digestWait.filter (·.id != id) } }

/-- Put a waiting digest job to work on a context under its key; one whose public-key job is gone is dropped. -/
def beginDigest (s : State) (d c : Nat) (j : DigJob) (n : Nat) (key : Bytes) : State :=
  let s := unwaitDigest s j.id
  let s := if j.block.keyHandle = 0 then s else touchSlot s n
  match j.pke, digestOwner s j with
  | none, _ => takeCtx s d c (serviceCtx s j key)
  | some _, some o => takeCtx s d c (pkeCtx s j o key)
  | some _, none => s

/-- Give a context to the first of the waiting service jobs whose key is there.  A job whose key has left its slot since its admission
waits for it to be paged in again and is passed over; one that a completed change bars ends (R11, R25). -/
def assignService (d c : Nat) : List DigJob → State → State
  | [], s => s
  | j :: t, s =>
    if j.block.keyHandle ≠ 0 && suspended s then assignService d c t s
    else match digestKey s j with
      | .got n key => beginDigest s d c j n key
      | .away => assignService d c t (askPageIn s j.block.keyHandle)
      | .barred st =>
        let s := unwaitDigest s j.id
        if j.pke.isSome then failPkeDigest s j st else endDigestEarly s j st

/-- DIGEST_JOB_ASSIGN: the oldest waiting job of a side takes a free context on the engine with the fewest blocks outstanding
(R205).  No key fetch begins under a response of S2 or above (R12). -/
def execDigestJobAssign (passage : Bool) (t : Time) (s : State) : Outcome :=
  let s := advance s t
  .next (if stopped s 1 then s
    else if passage then (if suspended s then s else assignPassage s)
    else match chooseCtx s false with
      | some (d, c) => assignService d c s.eng.digestWait s
      | none => s)

/-- Bytes that a context has hashed. -/
def bytesRun (x : Ctx) : Nat := min x.msg.length ((x.ran - (if x.key.isEmpty then 0 else 1)) * blockRate x.algo)

/-- End a service job on context `c` of engine `d` with a status other than OK: no result is written. -/
def failService (s : State) (d c : Nat) (x : Ctx) (j : DigJob) (st : Status) : State :=
  if j.pke.isSome then failPkeDigest (freeContext s d c) j st
  else
    let block := if j.derive.isSome then [] else digestBlock st j.block.op j.block.algo d c (bytesRun x) 0 0
    freeDelivered (endJob s j.caller j.reply { status := st, engine := d, block := block, ctx := some (d, c) })

/-- End a service job that has run to its end. -/
def endService (s : State) (d c : Nat) (x : Ctx) (j : DigJob) : State :=
  let b := j.block
  let out : Bytes := match j.derive with
    | some v => kdf v.prf x.key v.label v.context v.attr.length
    | none => if b.op = 1 then Config.digest b.algo x.msg b.outBytes else hmac b.algo x.key x.msg
  if j.pke.isSome then endPkeDigest (freeContext s d c) j out
  else if b.op = 3 && out.take b.outLen != b.expected then failService s d c x j .tagMismatch
  else
    let shown := b.op != 3 && !b.toSlot
    let n := if shown then out.length else 0
    let dest := if b.toSlot then b.destHandle else 0
    let block := if j.derive.isSome then [] else digestBlock .ok b.op b.algo d c x.msg.length n dest
    let e : JobEnd := { status := .ok, engine := d, outLen := n, block := block,
                        outs := if shown then [(b.dataAddress, out)] else [], ctx := some (d, c),
                        result := if shown then out else [] }
    freeDelivered (if b.toSlot || j.derive.isSome then
      let s := updDigest s d fun e => { e with ctxs := e.ctxs.put c { x with storing := true, key := [] } }
      storeResult s j.caller j.reply b.destHandle
        { attr := { b.destAttr with origin := 2 }, value := out.take b.destAttr.length } e
    else endJob s j.caller j.reply e)

/-- DIGEST_JOB_COMPLETE: a job whose blocks have all run finishes (R98, R209 to R214). -/
def execDigestJobComplete (d : Fin 64) (c : Fin 8) (t : Time) (s : State) : Outcome :=
  let s := advance s t
  match (digestEngine s d.val).ctxs.look c.val with
  | none => .next s
  | some x =>
    let running := (digestEngine s d.val).current == some c.val
    if x.done.isSome || x.storing || 0 < x.blocks || s.now < x.readyAt || running || stopped s 1 then .next s
    else match x.user with
      | .passage r => .next (if resultsHeld s then s else endPassage (freeContext s d.val c.val) x r)
      | .service j =>
        if x.final = .ok then .next (endService s d.val c.val x j) else .next (failService s d.val c.val x j x.final)

/-! ## Block boundaries (R204) -/

/-- SVC_SLICE of DGS_CFG. -/
def svcSlice (s : State) : Nat := field s.eng.dgsCfg 6 0

/-- The next waiting context of a side after `from_`, round robin. -/
def nextCtx (s : State) (x : Digest) (passage : Bool) (from_ : Nat) : Option Nat :=
  let l := ctxRange passage
  let waits (c : Nat) : Bool := match x.ctxs.look c with
    | some y => ctxWaits s y
    | none => false
  ((l.filter fun c => decide (from_ ≤ c)) ++ l.filter fun c => decide (c < from_)).find? waits

/-- Choose the context that runs the next block: whether it serves Passage, and its number. -/
def pickCtx (s : State) (x : Digest) : Option (Bool × Nat) :=
  let p := nextCtx s x true x.nextPassage
  let v := nextCtx s x false x.nextService
  match p, v with
  | none, none => none
  | some c, none => some (true, c)
  | none, some c => some (false, c)
  | some c, some k => if svcSlice s - 1 ≤ x.passageRun then some (false, k) else some (true, c)

/-- Start the next block of an engine. -/
def startBlock (s : State) (d : Nat) : State :=
  let x := digestEngine s d
  match pickCtx s x with
  | none => updDigest s d fun e => { e with current := none }
  | some (passage, c) =>
    let cycles := blockCycles (((x.ctxs.look c).map (·.algo)).getD 0)
    updDigest s d fun e => { e with
      current := some c
      blockEnd := s.now + cycles * xclkT
      passageRun := if passage then e.passageRun + 1 else 0
      nextPassage := if passage then (c + 1) % 6 else e.nextPassage
      nextService := if passage then e.nextService else if c = 6 then 7 else 6 }

/-- The block that runs on an engine ends. -/
def finishBlock (s : State) (d : Nat) : State :=
  match (digestEngine s d).current with
  | none => s
  | some c => updDigest s d fun e => { e with
      current := none
      blocks := satAdd 64 e.blocks 1
      ctxs := e.ctxs.map fun k => (k.1, if k.1 = c then { k.2 with blocks := k.2.blocks - 1, ran := k.2.ran + 1 } else k.2) }

/-- End every aborted job of an engine at its block boundary (R217). -/
def endAborted (s : State) (d : Nat) : State :=
  (digestEngine s d).ctxs.foldl (fun s e => match e.2.user with
    | .service j => if e.2.abort && e.2.done.isNone && !e.2.storing then failService s d e.1 e.2 j .aborted else s
    | .passage _ => s) s

/-- DIGEST_BLOCK_END: an engine reaches a block boundary and picks the next context to run; an engine that ran none may start. -/
def execDigestBlockEnd (d : Fin 64) (t : Time) (s : State) : Outcome :=
  let s := advance s t
  let x := digestEngine s d.val
  if x.state ≠ .busy || (x.current.isSome && decide (s.now < x.blockEnd)) || stopped s 1 then .next s
  else .next (startBlock (endAborted (finishBlock s d.val) d.val) d.val)

/-! ## Commands (R211, R217) -/

/-- DGS_JOB: one job goes to the dispatcher. -/
def execDgsJob (c : Cmd) (s : State) : Outcome :=
  .next (command s c 0x0410 fun s => withLength s c 64 <|
    let (id, s) := newJob s
    submit s c.caller (.digest { id := id, block := readDigest c.body.bytes, caller := c.caller, domain := c.domain,
                                 reply := c.reply, data := c.data }))

/-- A service digest job that a reply names and that has not finished: where it waits or runs. -/
def digestPending (s : State) (r : Reply) : Bool :=
  ((source s 0).jobs.any fun e => match e.2 with
    | .digest j => j.reply == r
    | _ => false) || s.eng.digestWait.any (·.reply == r) || s.eng.digests.any fun e => e.2.ctxs.any fun x => match x.2.user with
      | .service j => j.reply == r && x.2.done.isNone
      | .passage _ => false

/-- DGS_RESULT_READ: the result block, or RESULT_NOT_READY with zeros. -/
def execDgsResultRead (c : Cmd) (s : State) : Outcome :=
  .next (command s c 0x0411 fun s =>
    let seq := c.nat 0x11
    match jobRef s c.caller seq with
    | some r =>
      if digestPending s r then answer s c.reply { status := .resultNotReady, items := [.blob (zeros 32)] } else done s seq
    | none => done s seq)
where
  /-- The kept result of a finished job. -/
  done (s : State) (seq : Nat) : State :=
    match s.eng.results.reverse.find? fun x => x.caller == c.caller && x.seq == seq with
    | some x => answerOk s c [] [.blob x.block]
    | none => answerStatus s c.reply .invalidParameter

/-- Abort a service digest job that a reply names: a waiting job at once, a running one at its next block boundary; none where
it is unknown or finished. -/
def abortDigest (s : State) (n : Nat) (r : Reply) : Option State :=
  let mine : WaitJob → Option DigJob := fun w => match w with
    | .digest j => if j.reply == r then some j else none
    | _ => none
  match (source s n).jobs.findSome? fun e => mine e.2 with
  | some j => some (endDigestEarly (unsubmit s n fun w => w.id == j.id) j .aborted)
  | none =>
    match s.eng.digestWait.find? (·.reply == r) with
    | some j =>
      let s := { s with eng := { s.eng with digestWait := s.eng.digestWait.filter (·.id != j.id) } }
      some (endDigestEarly s j .aborted)
    | none =>
      if digestPending s r then
        let mark (x : Ctx) : Ctx := match x.user with
          | .service j => if j.reply == r then { x with abort := true } else x
          | .passage _ => x
        some { s with eng := { s.eng with
          digests := s.eng.digests.map fun e => (e.1, { e.2 with ctxs := e.2.ctxs.map fun k => (k.1, mark k.2) }) } }
      else none

/-- DGS_ABORT. -/
def execDgsAbort (c : Cmd) (s : State) : Outcome :=
  .next (command s c 0x0412 fun s =>
    match (jobRef s c.caller (c.nat 0x11)).bind (abortDigest s 0) with
    | some s => answerOk s c [] []
    | none => answerStatus s c.reply .invalidParameter)

/-- DGS_CFG_SET: writes SVC_SLICE. -/
def execDgsCfgSet (c : Cmd) (s : State) : Outcome :=
  .next (command s c 0x0420 fun s =>
    match c.regWrites with
    | [(0x1800, v)] =>
      let n := field v 6 0
      if 2 ≤ n && n ≤ 64 then answerOk { s with eng := { s.eng with dgsCfg := BitVec.ofNat 32 n } } c [] []
      else answerStatus s c.reply .invalidParameter
    | _ => answerStatus s c.reply .invalidParameter)

/-! ## Derivation (R261) -/

/-- The attribute word, destination and PRF of a KST_DERIVE. -/
def deriveSpec (c : Cmd) : DeriveSpec :=
  { prf := c.nat 0x18, dest := c.nat 2, attr := attrOf (c.bytes 3), label := c.bytes 0x19, context := c.bytes 0x1A }

/-- Bytes of the fixed input of one round. -/
def fixedInput (d : DeriveSpec) : Nat := 9 + d.label.length + d.context.length

/-- The digest job of a derivation with an HMAC PRF. -/
def deriveDigest (c : Cmd) (id : Nat) (d : DeriveSpec) : DigJob :=
  let n := fixedInput d
  { id := id, caller := c.caller, domain := c.domain, reply := c.reply, derive := some d,
    block := { op := 2, algo := d.prf, flags := 1, outLen := 0, fragCount := 1, totalLen := n, keyHandle := c.nat 1,
               destHandle := d.dest, destAttr := d.attr, dataAddress := 0, reserved := 0, expected := [],
               frags := [{ address := 0, length := n, last := true, reserved := 0, data := zeros n }] } }

/-- The service MAC segment of a derivation with the CMAC PRF. -/
def deriveSegment (c : Cmd) (id : Nat) (d : DeriveSpec) : SvcJob :=
  let n := (d.attr.length + 15) / 16 * roundUp 16 (fixedInput d)
  { id := id, caller := c.caller, domain := c.domain, reply := c.reply, derive := some d,
    block := { op := 1, algo := 1, flags := 3, engine := 0xFF, ticket := 0, tagLen := 16, keyHandle := c.nat 1, iv := zeros 12,
               segLen := n, fragCount := 1, tagAddress := 0, reserved := 0, expected := [],
               frags := [{ address := 0, length := n, last := true, reserved := 0, data := zeros n }] } }

/-- KST_DERIVE: a derivation goes to the dispatcher as the engine job of its PRF. -/
def execKstDerive (c : Cmd) (s : State) : Outcome :=
  .next (command s c 0x0220 fun s =>
    let d := deriveSpec c
    if d.label.isEmpty || 64 < d.label.length || 256 < d.context.length then answerStatus s c.reply .invalidLength
    else if d.prf = 0 || 4 < d.prf then answerStatus s c.reply .invalidParameter
    else
      let (id, s) := newJob s
      submit s c.caller (if d.prf = 4 then .svc (deriveSegment c id d) else .digest (deriveDigest c id d)))

/-! ## Self-checks (R190, R202, R215, R216) -/

/-- The register-space address of a digest engine's window (R215). -/
def digestBase (d : Nat) : Nat := 0x00080000 + d * 0x2000

/-- A write of RETEST: a self-test once every context is free; a FAILED engine has none. -/
def retestDigest (s : State) (d : Nat) : State :=
  let x := digestEngine s d
  if x.state = .failed then refreshDigest (updDigest s d fun e => { e with state := .selfTest, testFrom := some s.now })
  else if x.state = .offline || x.state = .selfTest then s
  else settleDigest (updDigest s d fun e => { e with retest := true }) d

/-- A write of TAKE_OFFLINE: OFFLINE once every context is free. -/
def takeDigestOffline (s : State) (d : Nat) : State :=
  let x := digestEngine s d
  if x.state = .failed || x.state = .selfTest then refreshDigest (updDigest s d fun e => { e with state := .offline })
  else if x.state = .offline then s
  else settleDigest (updDigest s d fun e => { e with takeOffline := true }) d

/-- DGS_RETEST. -/
def execDgsRetest (m : Master) (d : Fin 64) (s : State) : Outcome :=
  if !m.isSecure then .next (refuseAccess s m (digestBase d.val + 4) true) else .next (retestDigest s d)

/-- DGS_TAKE_OFFLINE. -/
def execDgsTakeOffline (m : Master) (d : Fin 64) (s : State) : Outcome :=
  if !m.isSecure then .next (refuseAccess s m (digestBase d.val + 4) true) else .next (takeDigestOffline s d)

/-- Empty an engine's contexts: its running service jobs end with a status, and its Passage jobs are kept or dropped. -/
def clearContexts (s : State) (d : Nat) (st : Status) (keepPassage : Bool) : State :=
  let l := (digestEngine s d).ctxs
  let refs := l.filterMap fun e => match e.2.user with
    | .passage r => some r
    | .service _ => none
  let s := if keepPassage then { s with psg := { s.psg with digestQ := refs ++ s.psg.digestQ } } else s
  l.foldl (fun s e => match e.2.user with
    | .passage _ => updDigest s d fun x => { x with ctxs := x.ctxs.del e.1, current := none }
    | .service j =>
      if e.2.done.isNone && !e.2.storing then failService (updDigest s d fun x => { x with current := none }) d e.1 e.2 j st else s) s

/-- A digest engine fails (R215): its running jobs end with FAULT_DETECTED, and its Passage jobs go to another engine. -/
def failDigest (s : State) (d : Nat) : State :=
  let s := clearContexts s d .faultDetected true
  let s := updDigest s d fun x => { x with
    faults := satAdd 8 x.faults 1
    state := if 3 ≤ x.faults + 1 then .offline else .failed
    retest := false
    takeOffline := false
    testFrom := some s.now }
  refreshDigest (faultAlarm s 5 d)

/-- A response of S2 or above stops every running digest job with SUSPENDED (R12); Passage's frames were refused. -/
def suspendDigests (s : State) : State :=
  (List.range 64).foldl (fun s d => if (digestEngine s d).ctxs.isEmpty then s
    else settleDigest (clearContexts s d .suspended false) d) s

/-- ENGINE_SELF_TEST_END: a lane, service MAC engine or digest engine ends its self-test: with a pass it is ready, or waits for
its first seed; with a fail it is OFFLINE (R190, R191, R216). -/
def execEngineSelfTestEnd (u : EngineId) (passes : Bool) (t : Time) (s : State) : Outcome :=
  let s := advance s t
  if !bit s.id.ready 1 || stopped s 1 then .next s
  else match u with
    | .lane e =>
      let p := e.val / 2
      let l := e.val % 2
      let x := lane s p l
      if (x.state ≠ .selfTest && x.state ≠ .failed) || !testDue s x.testFrom 2048 then .next s
      else
        let st : LaneState := if !passes then .offline else if x.mask.seed.isSome then .idle else .unseeded
        .next (refreshLanes (settleLanes (updLane s p l fun x => { x with state := st, katAt := s.now }) p))
    | .svc e =>
      let x := svc s e.val
      if (x.state ≠ .selfTest && x.state ≠ .failed) || !testDue s x.testFrom 2048 then .next s
      else
        let st : LaneState := if !passes then .offline else if x.mask.seed.isSome then .idle else .unseeded
        .next (refreshSvc (updSvc s e.val fun x => { x with state := st, katAt := s.now }))
    | .digest d =>
      let x := digestEngine s d.val
      if (x.state ≠ .selfTest && x.state ≠ .failed) || !testDue s x.testFrom 4096 then .next s
      else
        let st : DigestState := if passes then .idle else .offline
        .next (refreshDigest (updDigest s d.val fun x => { x with state := st, katAt := s.now }))

/-- A parity error or a wrong known answer of an engine. -/
def failEngine (s : State) (u : EngineId) (kat : Bool) : State :=
  match u with
  | .lane e =>
    let st := (lane s (e.val / 2) (e.val % 2)).state
    if st = .failed || st = .offline then s else failLane s e.val kat
  | .svc e => if (svc s e.val).state = .failed || (svc s e.val).state = .offline then s else failSvc s e.val
  | .digest d =>
    if (digestEngine s d.val).state = .failed || (digestEngine s d.val).state = .offline then s else failDigest s d.val

/-- ENGINE_PARITY_ERROR: a parity error puts an engine into FAILED (R190, R202, R215). -/
def execEngineParityError (u : EngineId) (t : Time) (s : State) : Outcome := .next (failEngine (advance s t) u false)

/-- ENGINE_KNOWN_ANSWER: the known-answer block of an engine that runs nothing, due every 10 ms; a wrong answer fails it. -/
def execEngineKnownAnswer (u : EngineId) (correct : Bool) (t : Time) (s : State) : Outcome :=
  let s := advance s t
  match u with
  | .lane e =>
    let x := lane s (e.val / 2) (e.val % 2)
    if x.state ≠ .idle || !katDue s x.katAt || stopped s 1 then .next s
    else if !correct then .next (failLane s e.val true)
    else .next (countLane (updLane s (e.val / 2) (e.val % 2) fun x => { x with katAt := s.now }) (e.val / 2) (e.val % 2) 1)
  | .svc e =>
    let x := svc s e.val
    if x.state ≠ .idle || !katDue s x.katAt || stopped s 1 then .next s
    else if !correct then .next (failSvc s e.val)
    else .next (countSvc (updSvc s e.val fun x => { x with katAt := s.now }) e.val 1)
  | .digest d =>
    let x := digestEngine s d.val
    if !(x.state == .idle || x.state == .busy) || x.current.isSome || !katDue s x.katAt || stopped s 1 then .next s
    else if !correct then .next (failDigest s d.val)
    else .next (updDigest s d.val fun x => { x with katAt := s.now, blocks := satAdd 64 x.blocks 1 })

end Sys2Proof.Machine
end

