-- ==== Sys2Proof/Machine/HostOps.lean ====
section
/-!
DEFINITION. Operations on host functions and queue pairs that several commands share (R310 to R330, R334, R338).
-/

namespace Sys2Proof.Machine

/-! ## Functions -/

/-- The event vector of a function (R310). -/
def eventVector (f : Nat) : Nat := if f = 0 then 8 else 0

/-- Raise a function's event vector. -/
def raiseEvent (s : State) (f : Nat) : State := sendVector s f (eventVector f)

/-- A new cause in HQ_FUNC_ERR: 1 PI_RANGE, 2 CQ_WRITE_FAILED, 3 CQ_HEAD_INVALID, 4 DMA_READ, 5 DMA_WRITE (R338). -/
def hostCause (s : State) (f q c : Nat) : State :=
  raiseEvent (updFunc s f fun x => { x with err := BitVec.ofNat 32 (c + q * 2 ^ 8 + 2 ^ 31) }) f

/-- A function that the host's configuration enables: PF0 and VF1 to VF NumVFs (R308). -/
def funcEnabled (s : State) (f : Nat) : Bool := decide (f ≤ s.host.vfs)

/-- The domain a function is assigned to. -/
def funcDomain (s : State) (f : Nat) : Option Nat := (callerRole s (.function f 0)).map (·.2.1)

/-- HQ_FUNC_STATUS.STATE (R338). -/
def funcState (s : State) (f : Nat) : Nat :=
  if (func s f).frozen then 2 else if (funcDomain s f).isSome then 1 else 0

/-- Queues a function has created, QP0 excluded (R338). -/
def createdQueues (s : State) (f : Nat) : Nat := (func s f).queues.count fun q x => q != 0 && x.created

/-- Queue-pair contexts still free, of 16,384 (R311, R329). -/
def freeContexts (s : State) : Nat :=
  16384 - (s.host.funcs.map fun f => f.2.queues.count fun _ x => x.created).sum

/-! ## Queues -/

/-- Fetching is barred on a function: it is frozen or being frozen (R332). -/
def fetchBarred (s : State) (f : Nat) : Bool := (func s f).frozen || (func s f).freezing.isSome

/-- Completions in a ring that the host has not consumed (R323). -/
def cqUsed (x : Queue) : Nat := (x.cqTail + 65536 - x.cqHead) % 65536

/-- The completion ring is full (R323). -/
def cqFull (x : Queue) : Bool := decide (2 ^ x.cqLog ≤ cqUsed x)

/-- HQ_QP_STATUS.IDLE (R330). -/
def queueIdle (x : Queue) : Bool := x.jobs.isEmpty && !x.errorDue

/-- The queue record (R334), 128 bytes. -/
def queueRecord (q : Nat) (x : Queue) : Bytes :=
  leBytes 2 q
    ++ leBytes 2 (bitAt x.enabled 0 + bitAt x.intEn 1 + bitAt x.doorbell 2 + bitAt x.error 3 + bitAt x.phase 4)
    ++ leBytes 1 x.sqLog ++ leBytes 1 x.cqLog ++ leBytes 2 x.vector ++ leBytes 8 x.sqBase ++ leBytes 8 x.cqBase
    ++ leBytes 8 x.piAddr ++ leBytes 2 x.sqFetch ++ leBytes 2 x.cqTail ++ leBytes 2 x.cqHead ++ leBytes 2 x.piSeen
    ++ leBytes 1 x.coalesceCount ++ [0] ++ leBytes 2 x.coalesceUs ++ zeros 4 ++ leBytes 8 x.completed ++ zeros 72

/-- Read a queue record (R334): the queue's number and what it carries. -/
def readQueue (b : Bytes) : Nat × Queue :=
  let w := leAt b 2 2
  (leAt b 0 2, { created := true, enabled := w % 2 == 1, intEn := w / 2 % 2 == 1, doorbell := w / 4 % 2 == 1,
                 error := w / 8 % 2 == 1, phase := w / 16 % 2 == 1, sqLog := leAt b 4 1, cqLog := leAt b 5 1,
                 vector := leAt b 6 2, sqBase := leAt b 8 8, cqBase := leAt b 0x10 8, piAddr := leAt b 0x18 8,
                 sqFetch := leAt b 0x20 2, cqTail := leAt b 0x22 2, cqHead := leAt b 0x24 2, piSeen := leAt b 0x26 2,
                 coalesceCount := leAt b 0x28 1, coalesceUs := leAt b 0x2A 2, completed := leAt b 0x30 8 })

/-- End a ring job with a status alone: no engine ran it. -/
def endRingStatus (s : State) (id : Nat) (st : Status) : State := endRing s id { status := st }

/-- The engine job that a ring chain of opcodes 0x01 to 0x03 carries (R318): its block, and what the reads of its data deliver; none where
the chain is too short for it. -/
def ringWork (s : State) (f q : Nat) (j : RingJob) (id : Nat) (data : List Bytes) : Option WaitJob :=
  let c : Caller := .function f q
  let d := (funcDomain s f).getD 0
  let r : Reply := .ring j.id
  if j.opcode = 1 then
    if j.bytes.length < 64 + 16 * leAt j.bytes 0x20 1 then none
    else some (.pke { id := id, block := readJobBlock j.bytes, caller := c, domain := d, reply := r, dmaError := j.dmaError, data := data })
  else if j.bytes.length < 64 then none
  else if j.opcode = 2 then
    some (.svc { id := id, block := readSegment j.bytes, caller := c, domain := d, reply := r, dmaError := j.dmaError, data := data })
  else if j.opcode = 3 then
    some (.digest { id := id, block := readDigest j.bytes, caller := c, domain := d, reply := r, dmaError := j.dmaError, data := data })
  else none

/-- End a ring job that has not been put forward, with a status and the block of its family. -/
def endRingEarly (s : State) (f q : Nat) (j : RingJob) (st : Status) : State :=
  match ringWork s f q j 0 [] with
  | some w => if st = .aborted then endAbortedAtSource s w else endEarly s w st
  | none => endRingStatus s j.id st

/-- Jobs of the rings that the crossing to the job fabric holds: fetched, and not yet admitted (R15). -/
def hostWaiting (s : State) : Nat :=
  (s.host.funcs.map fun f => (f.2.queues.map fun q => q.2.jobs.countP fun j => !j.presented && j.finished.isNone).sum).sum
    + (s.eng.sources.map fun e => if e.1 = 0 then 0 else e.2.jobs.length).sum

/-- The device clears ENABLE of every queue of a function whose domain is unassigned or destroyed: jobs fetched and not yet
admitted complete with QUEUE_DISABLED (R268, R330). -/
def disableQueues (s : State) (f : Nat) : State :=
  let waiting := (source s (f + 1)).jobs.map (·.2)
  let s := { s with eng := { s.eng with sources := s.eng.sources.put (f + 1) { source s (f + 1) with jobs := [] } } }
  let s := waiting.foldl (fun s j => endEarly s j .queueDisabled) s
  let s := (func s f).queues.foldl (fun s q => q.2.jobs.foldl (fun s j =>
    if j.presented || j.finished.isSome then s else endRingEarly s f q.1 j .queueDisabled) s) s
  updFunc s f fun x => { x with queues := x.queues.map fun q => (q.1, { q.2 with enabled := false }) }

end Sys2Proof.Machine
end

