-- ==== Sys2Proof/Machine/Domains.lean ====
section
/-!
DEFINITION. The commands on domains, officers, credentials and quorums, the root secret, and the key store's start
(R244 to R247, R264 to R274, R280, R281).
-/

namespace Sys2Proof.Machine

/-! ## Items of the domain commands (R355) -/

/-- An OFFICER_KEY item: number, credential, and whether its fixed fields stand. -/
def officerKey (b : Bytes) : Nat × Credential × Bool :=
  let alg := leNat (slice b 1 1)
  (leNat (slice b 0 1), { sigAlg := alg, key := b.drop 4 },
   leNat (slice b 0 1) < 16 && credAlgs.contains alg && allZero (slice b 2 2))

/-- The OFFICER_KEY items of a command are well formed and name different numbers. -/
def officerKeysOk (l : List (Nat × Credential × Bool)) : Bool := l.all (·.2.2) && (l.map (·.1)).eraseDups.length == l.length

/-- M_CRIT and M_ROUTINE of a THRESHOLDS item. -/
def thresholds (b : Bytes) : Nat × Nat := (leNat (slice b 0 1), leNat (slice b 1 1))

/-- The thresholds fit a number of enrolled officers (R274). -/
def thresholdsOk (t : Nat × Nat) (officers : Nat) : Bool :=
  2 ≤ t.1 && t.1 ≤ officers && t.1 ≤ 16 && 1 ≤ t.2 && t.2 ≤ officers && t.2 ≤ 16

/-- SLOT_QUOTA and LONG_QUOTA_KIB of a QUOTAS item. -/
def quotas (b : Bytes) : Nat × Nat := (leNat (slice b 0 4), leNat (slice b 4 2))

/-- The quotas lie in their ranges (R264). -/
def quotasOk (q : Nat × Nat) : Bool := q.1 ≤ 65280 && q.2 ≤ 8192

/-- The conditions of a command on a domain record: a ready key store, the record loaded, and below S4 for a domain other
than 0 (R264, R277). -/
def domainConditions (s : State) (d : Nat) : List (Bool × Status) :=
  [(!s.kst.ready || !domainKnown s d || (decide (4 ≤ s.lan.severity) && d ≠ 0), .notReady)]

/-- A domain record that a commit would change is writable: domain 0's always, another's as the vault allows (R303). -/
def recordGate (s : State) (d : Nat) : List (Bool × Status) :=
  if d = 0 then [] else (changeGate s).toList.map fun st => (true, st)

/-! ## Creation and destruction (R268) -/

/-- The checks of KST_DOMAIN_CREATE before its quorum. -/
def createGate (s : State) (c : Cmd) : Option Status :=
  let d := c.nat 4
  let offs := (c.values 0x1E).map officerKey
  leastOf (domainConditions s d ++
    [(rootMissing s, .notReady),
     (d = 0 || 1023 < d || (domain s d).state ≠ .free || !officerKeysOk offs
        || !thresholdsOk (thresholds (c.bytes 0x21)) offs.length || !quotasOk (quotas (c.bytes 0x22)), .invalidParameter)]
    ++ (match s.geo.state with
      | .normal => []
      | .readOnly => [(true, .vaultReadOnly)]
      | .integrityFailed => [(true, .vaultIntegrity)]
      | _ => [(true, .notReady)]))

/-- The record a creation makes, with the domain master drawn for it. -/
def newDomain (c : Cmd) (master : Bytes) : Domain :=
  let offs := (c.values 0x1E).map officerKey
  { state := .active, officers := offs.foldl (fun t o => t.put o.1 o.2.1) [],
    mCrit := (thresholds (c.bytes 0x21)).1, mRoutine := (thresholds (c.bytes 0x21)).2,
    slotQuota := (quotas (c.bytes 0x22)).1, longQuota := (quotas (c.bytes 0x22)).2, master := master }

/-- The quorum of a command that also enrols officers, who prove possession. -/
def enrolQuorum (s : State) (c : Cmd) (code d : Nat) (needs : List Need) : Quorum :=
  { plainQuorum s c code needs with
    newcomers := ((c.values 0x1E).map officerKey).map fun o => (d, o.1, o.2.1) }

/-- KST_DOMAIN_CREATE. -/
def execKstDomainCreate (c : Cmd) (s : State) : Outcome :=
  .next (command s c 0x0230 fun s =>
    let d := c.nat 4
    match createGate s c with
    | some st => answerStatus s c.reply st
    | none => untilServing s c.reply 1 32 <| withQuorum s c (enrolQuorum s c 0x0230 d [critical s 0]) fun s reasons =>
        withDraw s c.reply 1 32 fun s b => editDomain s c d [.create (newDomain c b)] reasons)

/-- The needs of KST_DOMAIN_DESTROY: the domain's own is waived when fewer than its M_CRIT officers remain (R273). -/
def destroyNeeds (s : State) (d : Nat) : List Need :=
  if (domain s d).officers.length < (domain s d).mCrit then [critical s 0] else [critical s 0, critical s d]

/-- KST_DOMAIN_DESTROY: DESTROYING is set, open quorums are cancelled and transports close at once; the rest follows with
the commit (R268, R278). -/
def execKstDomainDestroy (c : Cmd) (s : State) : Outcome :=
  .next (command s c 0x0231 fun s =>
    let d := c.nat 4
    match leastOf (domainConditions s d ++ [(d = 0 || (domain s d).state ≠ .active, .invalidParameter)] ++ recordGate s d) with
    | some st => answerStatus s c.reply st
    | none => withQuorum s c (plainQuorum s c 0x0231 (destroyNeeds s d)) fun s reasons =>
        let s := updDomain s d fun x => { x with state := .destroying }
        let s := { s with kst := { s.kst with
          nonces := s.kst.nonces.filter (·.domain != d), transports := s.kst.transports.filter (·.domain != d) } }
        editDomain s c d [.destroy] reasons)

/-- The record of a domain without its master, field by field (R264, R281). -/
def domainItems (d : Domain) : List RItem :=
  let cred (role : Nat) (e : Nat × Credential) : RItem :=
    .item 0x20 (leBytes 1 role ++ leBytes 1 e.1 ++ leBytes 1 e.2.sigAlg ++ [0] ++ e.2.key)
  let st := match d.state with
    | .free => 0
    | .active => 1
    | .destroying => 2
  [.number st]
    ++ d.officers.map (fun e => .item 0x1E (leBytes 1 e.1 ++ leBytes 1 e.2.sigAlg ++ zeros 2 ++ e.2.key))
    ++ d.operators.map (cred 2) ++ d.tenants.map (cred 3) ++ d.functions.map (fun f => .item 0x0E (leBytes 2 f))
    ++ [.item 0x21 (leBytes 1 d.mCrit ++ leBytes 1 d.mRoutine ++ zeros 2), .item 0x1C (leBytes 1 d.policy)]
    ++ d.masks.map (fun e => .item 0x23 (leBytes 1 e.1 ++ zeros 3 ++ leBytes 8 e.2.toNat))
    ++ [.item 0x22 (leBytes 4 d.slotQuota ++ leBytes 2 d.longQuota ++ zeros 2)]

/-- The vault is not mounted or is mounting: records that lie in it are not read (R303). -/
def vaultAway (s : State) : Bool := s.geo.state == .notMounted || s.geo.state == .mounting

/-- KST_DOMAIN_READ. -/
def execKstDomainRead (c : Cmd) (s : State) : Outcome :=
  .next (command s c 0x0232 fun s =>
    refuseOr s c.reply
      (leastOf [(!s.kst.ready || decide (4 ≤ s.lan.severity) || !domainKnown s c.domain || (c.domain != 0 && vaultAway s),
        .notReady)])
      (answerOk s c [] (domainItems (domain s c.domain))))

/-! ## Settings of a domain (R269, R274, R281) -/

/-- KST_DOMAIN_SET: thresholds and quotas. -/
def execKstDomainSet (c : Cmd) (s : State) : Outcome :=
  .next (command s c 0x0233 fun s =>
    let d := c.domain
    let ts := (c.value 0x21).map thresholds
    let qs := (c.value 0x22).map quotas
    let badT := match ts with
      | some t => !thresholdsOk t (domain s d).officers.length
      | none => false
    let badQ := match qs with
      | some q => !quotasOk q
      | none => false
    let low := match qs with
      | some q => decide (q.1 < domainSlots s d) || decide (q.2 * 8 < domainLong s d)
      | none => false
    match leastOf (domainConditions s d ++ [(low, .busyLocked), (badT || badQ, .invalidParameter)] ++ recordGate s d) with
    | some st => answerRoom s c.reply st
    | none => withCritical s c 0x0233 d fun s reasons =>
        editDomain s c d ((ts.map fun t => DomainEdit.thresholds t.1 t.2).toList
          ++ (qs.map fun q => DomainEdit.quotas q.1 q.2).toList) reasons)

/-- KST_MASK_SET: one command-class mask (R269). -/
def execKstMaskSet (c : Cmd) (s : State) : Outcome :=
  .next (command s c 0x0234 fun s =>
    let d := c.domain
    let b := c.bytes 0x23
    match leastOf (domainConditions s d ++ [(!allZero (slice b 1 3), .invalidParameter)] ++ recordGate s d) with
    | some st => answerStatus s c.reply st
    | none => withCritical s c 0x0234 d fun s reasons =>
        editDomain s c d [.mask (leNat (slice b 0 1)) (BitVec.ofNat 64 (leNat (slice b 4 8)))] reasons)

/-- KST_OFFICER_ENROL: the new officer proves possession, and its record is not counted (R274). -/
def execKstOfficerEnrol (c : Cmd) (s : State) : Outcome :=
  .next (command s c 0x0238 fun s =>
    let d := c.domain
    let (n, cred, ok) := officerKey (c.bytes 0x1E)
    let offs := (domain s d).officers
    match leastOf (domainConditions s d ++
        [(!ok || decide (16 ≤ offs.length) || (offs.look n).isSome, .invalidParameter)] ++ recordGate s d) with
    | some st => answerStatus s c.reply st
    | none => withQuorum s c (enrolQuorum s c 0x0238 d [critical s d]) fun s reasons =>
        editDomain s c d [.officer n (some cred)] reasons)

/-- KST_OFFICER_REMOVE: refused where it would leave fewer officers than a threshold asks (R274). -/
def execKstOfficerRemove (c : Cmd) (s : State) : Outcome :=
  .next (command s c 0x0239 fun s =>
    let d := c.domain
    let n := c.nat 0x1F
    let x := domain s d
    match leastOf (domainConditions s d ++
        [((x.officers.look n).isNone || !thresholdsOk (x.mCrit, x.mRoutine) (x.officers.length - 1), .invalidParameter)]
        ++ recordGate s d) with
    | some st => answerStatus s c.reply st
    | none => withCritical s c 0x0239 d fun s reasons => editDomain s c d [.officer n none] reasons)

/-- KST_CRED_SET: adds or removes an operator's or tenant's credential. -/
def execKstCredSet (c : Cmd) (s : State) : Outcome :=
  .next (command s c 0x023A fun s =>
    let d := c.domain
    let b := c.bytes 0x20
    let role := leNat (slice b 0 1)
    let n := leNat (slice b 1 1)
    let alg := leNat (slice b 2 1)
    let remove := c.nat 0x27 == 1
    let held := if role = 3 then (domain s d).tenants.look n else (domain s d).operators.look n
    let bad := (role ≠ 2 && role ≠ 3) || (role == 2 && decide (16 ≤ n)) || decide (64 ≤ n) || !credAlgs.contains alg
      || !allZero (slice b 3 1) || 1 < c.nat 0x27 || (remove && held.isNone)
    match leastOf (domainConditions s d ++ [(bad, .invalidParameter)] ++ recordGate s d) with
    | some st => answerStatus s c.reply st
    | none => withRoutine s c 0x023A d fun s reasons =>
        editDomain s c d [.credential (role == 3) n (if remove then none else some { sigAlg := alg, key := b.drop 4 })] reasons)

/-- The domain a function is assigned to. -/
def functionDomain (s : State) (f : Nat) : Option Nat :=
  (s.kst.domains.search fun _ d => d.state == .active && d.functions.contains f).map (·.1)

/-- KST_FUNC_ASSIGN: assigns or unassigns a host function. -/
def execKstFuncAssign (c : Cmd) (s : State) : Outcome :=
  .next (command s c 0x023C fun s =>
    let d := c.domain
    let f := c.nat 0x0E
    let remove := c.nat 0x27 == 1
    let other := match functionDomain s f with
      | some e => e != d
      | none => false
    match leastOf (domainConditions s d ++ [(other, .busyLocked),
        (1023 < f || 1 < c.nat 0x27 || (remove && functionDomain s f ≠ some d), .invalidParameter)] ++ recordGate s d) with
    | some .busyLocked => answerBusy s c.reply ((functionDomain s f).getD 0)
    | some st => answerStatus s c.reply st
    | none => withRoutine s c 0x023C d fun s reasons =>
        let s := editDomain s c d [.function f (!remove)] reasons
        if remove && d == 0 then disableQueues s f else s)

/-! ## Quorums (R270) -/

/-- NONCE_LIFE_S (R279). -/
def nonceLife (s : State) : Nat := field s.kst.cfg 16 0

/-- KST_QUORUM_OPEN: a nonce from instance 1, its deadline kept as a Lantern tick. -/
def execKstQuorumOpen (c : Cmd) (s : State) : Outcome :=
  .next (command s c 0x0240 fun s =>
    let d := c.nat 4
    match leastOf (domainConditions s d ++
        [(decide (64 ≤ s.kst.nonces.length), .busyLocked), ((domain s d).state ≠ .active, .invalidParameter),
         (d ≠ c.domain, .notPermitted)]) with
    | some st => answerRoom s c.reply st
    | none => withDraw s c.reply 1 32 fun s b =>
        let n : Nonce := { value := b, domain := d, code := c.nat 0x14, digest := c.bytes 0x15,
                           deadline := lanternTick s + nonceLife s * 32768, opener := c.caller }
        answerOk { s with kst := { s.kst with nonces := s.kst.nonces ++ [n] } } c []
          [.nonce b, .timeSec (devSec s + nonceLife s)])

/-- KST_QUORUM_CANCEL: frees a nonce of the caller's domain. -/
def execKstQuorumCancel (c : Cmd) (s : State) : Outcome :=
  .next (command s c 0x0241 fun s =>
    let v := c.bytes 0x13
    let mine (n : Nonce) : Bool := n.value == v && n.domain == c.domain
    refuseOr s c.reply (leastOf [(!s.kst.ready, .notReady), (!s.kst.nonces.any mine, .invalidParameter)])
      (answerOk { s with kst := { s.kst with nonces := s.kst.nonces.filter fun n => !mine n } } c [] []))

/-- NONCE_EXPIRY: an unbound nonce is freed at its deadline, a Lantern tick (R270, R402). -/
def execNonceExpiry (t : Time) (s : State) : Outcome :=
  let s := advance s t
  let live (n : Nonce) : Bool := lanternTick s < n.deadline
  .next { s with
    kst := { s.kst with nonces := s.kst.nonces.filter live }
    lcy := { s.lcy with nonce := s.lcy.nonce.filter live } }

/-! ## Domain 0 and the root (R244, R247, R267) -/

/-- KST_DOMAIN0_SETUP: installs the roster once, in PROVISION, with each officer proving possession. -/
def execKstDomain0Setup (c : Cmd) (s : State) : Outcome :=
  .next (command s c 0x0250 fun s =>
    let offs := (c.values 0x1E).map officerKey
    let t := thresholds (c.bytes 0x21)
    match leastOf [(!s.kst.ready, .notReady), (!officerKeysOk offs || !thresholdsOk t offs.length, .invalidParameter),
        (s.die.domain0.isSome, .notPermitted), (s.lcy.state ≠ 3, .lifecycleForbids)] with
    | some st => answerStatus s c.reply st
    | none => withQuorum s c { enrolQuorum s c 0x0250 0 [] with grants := false } fun s reasons =>
        let d : Domain := { domain s 0 with
          state := .active, officers := offs.foldl (fun t o => t.put o.1 o.2.1) [], mCrit := t.1, mRoutine := t.2,
          slotQuota := 65280, longQuota := 8192 }
        answerOk (putDomain0 (updDomain s 0 fun _ => d) d) c reasons [])

/-- The root and all that it protected are replaced (R247): keys 1 to 255 of domain 0 are emptied, every other domain is
gone, and the vault has no anchor until it is formatted again. -/
def renewRoot (s : State) (root master : Bytes) : State :=
  let gone (d : Nat) : Bool := d != 0
  let s := closeSessions s fun _ x => gone x.domain
  let (box, s) := wrapNew s (wrapKeyOf root s.id.serial) master
  { s with
    bb := ({ s.bb.putRoot root with
      anchor0 := {}, anchor1 := {}, anchorSelect := 0, failCell := 0xFFFFFFFF, integrity := none } : BbRam).check
    die := { s.die with master0 := some box, keys := [] }
    kst := { s.kst with
      root := some root, rootCheckFailed := false, domainsLoaded := false,
      domains := (s.kst.domains.keep fun d _ => !gone d).put 0 { domain s 0 with master := master }
      slots := s.kst.slots.keep fun _ x => handleDomain x.handle == 0 && x.attr.session
      nonces := s.kst.nonces.filter fun n => !gone n.domain
      transports := s.kst.transports.filter fun t => !gone t.domain
      absent := [] }
    pke := { s.pke with curves := s.pke.curves.keep fun _ x => !gone x.domain }
    geo := { s.geo with state := .notMounted, reason := 3, gathered := [], committing := [] }
    flash := { s.flash with karst := {} }
    id := { s.id with ready := setBit (setBit s.id.ready 9 false) 11 false } }

/-- KST_ROOT_RENEW. -/
def execKstRootRenew (c : Cmd) (s : State) : Outcome :=
  .next (command s c 0x0251 fun s =>
    match leastOf [(!s.kst.ready, .notReady), (s.lcy.state ≠ 3 && s.lcy.state ≠ 4, .lifecycleForbids)] with
    | some st => answerStatus s c.reply st
    | none => untilServing s c.reply 1 64 <| withCritical s c 0x0251 0 fun s reasons =>
        withDraw s c.reply 1 64 fun s b => answerOk (renewRoot s (b.take 32) (b.drop 32)) c reasons [])

/-! ## Start (R247, R280) -/

/-- The life-cycle states in which the key store becomes ready (R280, R418). -/
def keyStoreState (s : State) : Bool := 2 ≤ s.lcy.state && s.lcy.state ≤ 5

/-- Read the root (R247): it is absent when the RAM holds zeros or its check word fails, and Strata records the cause. -/
def readRoot (s : State) : State :=
  let zero := allZero s.bb.root
  if zero && s.bb.rootCheck = 0 then
    event { s with kst := { s.kst with root := none, rootCheckFailed := false } } 9 2 0
  else if s.bb.rootCheck ≠ Config.checkWord s.bb.root then
    event { s with kst := { s.kst with root := none, rootCheckFailed := true } } 9 1 0
  else if zero then
    event { s with kst := { s.kst with root := none, rootCheckFailed := false } } 9 2 0
  else { s with kst := { s.kst with root := some s.bb.root, rootCheckFailed := false } }

/-- Restore slots 1 to 255 from the in-package die, each key unwrapped under domain 0's master (R245, R249). -/
def restoreDieKeys (s : State) : State :=
  s.die.keys.foldl (fun s e => match dieValue s e.1 with
    | some v => writeSlot s e.1 e.1 { attr := e.2.attr, value := v } 0
    | none => s) s

/-- The root and the master of domain 0 that the first entry to PROVISION makes are still to be drawn (R244, R245): the RNG did not serve
at that transition, or the boot ROM carried it out. -/
def rootDue (s : State) : Bool := s.lcy.state == 3 && s.die.master0.isNone

/-- Enter a first root and domain-0 master: the root with its check word, the master wrapped under the store key. -/
def enterRoot (s : State) (root master : Bytes) : State :=
  let (box, s) := wrapNew s (wrapKeyOf root s.id.serial) master
  { s with bb := s.bb.putRoot root, die := { s.die with master0 := some box } }

/-- Draw what the first entry to PROVISION owes, once instance 1 serves. -/
def drawRoot (s : State) : State :=
  if rootDue s then
    match draw s 1 false 64 with
    | (s, .ok b) => enterRoot s (b.take 32) (b.drop 32)
    | (s, .error _) => s
  else s

/-- Take a root that has just been drawn into use. -/
def adoptRoot (s : State) : State :=
  let t := drawRoot s
  if t.die.master0.isSome && s.die.master0.isNone then
    let t := { t with kst := { t.kst with root := some t.bb.root, rootCheckFailed := false } }
    updDomain t 0 fun d => { d with master := ((t.die.master0.bind (·.unwrap (wrapKey t))).getD []) }
  else t

/-- The identity secret and the attestation keys are made in MANUFACTURE, when none exist; the keys are wrapped under the secret (R245,
R262). -/
def makeIdentity (s : State) : State :=
  if s.lcy.state = 2 && s.die.attestation.isNone then
    let (i, s) := drawFree s
    let (j, s) := drawFree s
    let (k, s) := drawFree s
    let id := Config.freeBytes i 32
    let (p, s) := wrapNew s id (Config.freeBytes j 48)
    let (m, s) := wrapNew s id (Config.freeBytes k 4032)
    { s with die := { s.die with identity := some id, attestation := some (p, m) } }
  else s

/-- KEY_STORE_READY: the root is read, and the domain-0 roster, master and slots 1 to 255 are restored as far as they
exist (R280), and the vault's mount begins (R293).  Domain 0 is ACTIVE from PROVISION onward (R264).  A root that is still to be drawn
is drawn here, or by a later such row once the RNG serves (assumption 124). -/
def execKeyStoreReady (t : Time) (s : State) : Outcome :=
  let s := advance s t
  if stopped s 1 || !keyStoreState s || !bit s.id.ready 1 then .next s
  else if s.kst.ready then .next (adoptRoot s)
  else
    let s := readRoot (drawRoot (makeIdentity s))
    let d0 : Domain := match s.die.domain0 with
      | some d => d
      | none => if s.lcy.state = 3 || s.lcy.state = 4 then { ({} : Domain) with state := .active } else {}
    let master := if s.kst.root.isSome then (s.die.master0.bind (·.unwrap (wrapKey s))).getD [] else []
    let s := updDomain s 0 fun _ => { d0 with master := master }
    let s := if s.kst.root.isSome then restoreDieKeys s else s
    let s := { s with geo := { s.geo with state := .mounting, locked := true, mountAt := s.now } }
    .next (setReady { s with kst := { s.kst with ready := true } } 2 true)

end Sys2Proof.Machine
end

