-- ==== Sys2Proof/Machine/Rng.lean ====
section
/-!
DEFINITION. Random numbers: samples, spans, generate calls, reseeds, start-up, known-answer tests, the test source, and the
commands of the generator (R219 to R242).
-/

namespace Sys2Proof.Machine

/-! ## Known-answer tests (R236, R237) -/

/-- Give the waiting requests of a FAILED instance to the next that has not FAILED (R228, R237). -/
def moveDraws (s : State) (i : Nat) : State :=
  let p := (inst s i).priority
  let n := (inst s i).normal
  let s := updInst s i fun x => { x with priority := [], normal := [] }
  let s := p.foldl (fun s r => queueDraw s i true { r with got := [] }) s
  n.foldl (fun s r => queueDraw s i false { r with got := [] }) s

/-- A known-answer test has failed: its unit is FAILED and a FAULT alarm rises.  With every instance FAILED so is the RNG
(R234). -/
def failUnit (s : State) (u : Nat) : State :=
  let s := faultAlarm s 6 u
  if u = 8 then refreshSeeding { s with rng := { s.rng with condFailed := true } }
  else
    let s := moveDraws (updInst s u fun x => { x with state := 4, drbg := {}, askedAt := none }) u
    if (List.range 8).all fun i => (inst s i).state == 4 then failRng s else s

/-- Start the known-answer test of a unit: 512 XCLK cycles for an instance, 128 for the conditioner. -/
def startKat (s : State) (u : Nat) (passes : Bool) (r : Option Reply) : State :=
  { s with rng := { s.rng with
    katStatus := Status.code .pending
    katUnit := u
    katRun := some { unit := u, passes := passes, endsAt := s.now + (if u = 8 then 128 else 512) * xclkT, reply := r } } }

/-- A known-answer test whose cycles have passed ends, at the first event of the generator from then on (R241, assumption 120). -/
def settleKat (s : State) : State :=
  match s.rng.katRun with
  | none => s
  | some k =>
    if s.now < k.endsAt then s
    else
      let st : Status := if k.passes then .ok else .faultDetected
      let s := { s with rng := { s.rng with katStatus := Status.code st, katRun := none } }
      let s := if k.passes then s else failUnit s k.unit
      match k.reply with
      | some r => answerStatus s r st
      | none => s

/-! ## Noise (R219 to R225, R238) -/

/-- The sample of the test pattern at its present position: sample 0 is bit 0 of the first byte (R241). -/
def patternBit (s : State) : Bool := (memRead s.rng.pattern (s.rng.patternPos / 8)).getLsbD (s.rng.patternPos % 8)

/-- NOISE_SAMPLE: from the first rise of XCLK_LOCK until main power is lost each cell delivers a sample every 1 µs, which the test pattern replaces while the test
source is in use. -/
def execNoiseSample (bits : BitVec 16) (t : Time) (s : State) : Outcome :=
  let s := settleKat (advance s t)
  if !s.rng.sampling then .next s
  else
    let test := s.rng.testSource
    let b := patternBit s
    let s := (List.range 16).foldl (fun s c => cellSample s c (if test then b else bits.getLsbD c)) s
    .next (if test then { s with rng := { s.rng with patternPos := (s.rng.patternPos + 1) % 32768 } } else s)

/-- SPAN_END: a cell's span of 65,536 samples ends, and its nine estimates are replaced together. -/
def execSpanEnd (c : Fin 16) (t : Time) (s : State) : Outcome :=
  let s := advance s t
  if (cell s c.val).spanPos = 65536 then .next (updCell s c.val endSpan) else .next s

/-! ## Generate calls (R227 to R232) -/

/-- A known-answer test delays the calls that wait at its instance (R236). -/
def katHolds (s : State) (i : Nat) : Bool := s.rng.katRun.any (·.unit == i)

/-- DRBG_GENERATE_CALL: a serving instance makes one call of up to 512 bytes for its next request. -/
def execDrbgGenerateCall (i : Fin 8) (t : Time) (s : State) : Outcome :=
  let s := settleKat (advance s t)
  let x := inst s i.val
  if stopped s 1 || !(x.state == 1 || x.state == 2) || s.rng.failed || s.rng.testSource || katHolds s i.val then .next s
  else .next (serveCall s i.val)

/-- Instances that ask for a FIFO result, and since when: those to be instantiated from reset or a tamper response, and those
whose interval has run out. -/
def asksSeed (s : State) (i : Nat) : Option Time :=
  let x := inst s i
  if x.state = 0 then some 0 else if x.state = 4 || x.state = 5 then none else x.askedAt

/-- The instance whose request has waited longest, the lower number winning a tie (R221). -/
def seedNext (s : State) : Option Nat :=
  ((List.range 8).foldl (fun best i => match best, asksSeed s i with
    | none, some t => some (i, t)
    | some (j, u), some t => if t < u then some (i, t) else some (j, u)
    | b, none => b) (none : Option (Nat × Time))).map (·.1)

/-- DRBG_RESEED: the instance whose turn it is takes the oldest FIFO result between two calls. -/
def execDrbgReseed (i : Fin 8) (t : Time) (s : State) : Outcome :=
  let s := settleKat (advance s t)
  if stopped s 1 || seedNext s ≠ some i.val || s.rng.fifo.isEmpty || !s.rng.katDone || s.rng.failed then .next s
  else .next (refreshReady (seedInstance s i.val))

/-! ## Start-up (R233, R234, R237) -/

/-- The known-answer tests of start-up: steps 2 and 3 of R233. -/
def startTests (s : State) (conditionerOk : Bool) (instancesOk : BitVec 8) : State :=
  let s := { s with rng := { s.rng with katDone := true } }
  let s := if conditionerOk then s else failUnit s 8
  let s := (List.range 8).foldl (fun s i => if instancesOk.getLsbD i then s else failUnit s i) s
  if conditionerOk then s else failRng s

/-- Instantiate instances in ascending order while FIFO results last (step 6 of R233). -/
def instantiate (s : State) : State :=
  (List.range 8).foldl (fun s i => if (inst s i).state = 0 then seedInstance s i else s) s

/-- RNG_STARTUP: the steps of R233 that are due: the known-answer tests once, the outcome of the cells' start-up tests, and
instantiation; the ID_READY bit follows. -/
def execRngStartup (conditionerOk : Bool) (instancesOk : BitVec 8) (t : Time) (s : State) : Outcome :=
  let s := settleKat (advance s t)
  if stopped s 1 || s.rng.testSource then .next s
  else
    let s := if s.rng.katDone then s else startTests s conditionerOk instancesOk
    let tested := (List.range 16).all fun c => (cell s c).state ≠ 0
    if !tested || s.rng.failed then .next s else .next (refreshReady (instantiate s))

/-- RNG_STARTUP_TIMEOUT: the RNG bit is still clear 8 ms after main power good. -/
def execRngStartupTimeout (t : Time) (s : State) : Outcome :=
  let s := advance s t
  if bit s.id.ready 3 || s.rng.testSource || s.rng.resumed || s.now < s.id.bootAt + 8 * msT then .next s else .next (failRng s)

/-! ## Test access (R236 to R238, R241) -/

/-- KAT_START: a write of START to RNG_KAT_CTRL; units 9 to 15 ignore it, and so does a test that runs (assumption 120). -/
def execKatStart (m : Master) (u : Nat) (passes : Bool) (s : State) : Outcome :=
  if !m.isSecure then .next (refuseAccess s m 0x00050D00 true)
  else if 8 < u || s.rng.katRun.isSome then .next s
  else .next (startKat s u passes none)

/-- Put the pattern memory in place of the cells, or take it away: then the FIFO and RNG_TEST_COND are zeroed and start-up runs
again from step 4. -/
def setTestSource (s : State) (on : Bool) : State :=
  if s.rng.testSource = on then s
  else
    let state := if on then 5 else 0
    let s := (List.range 8).foldl (fun s i => if (inst s i).state = 4 then s else
      updInst s i fun x => { x with state := state, drbg := {}, calls := 0, askedAt := none }) s
    let s := { s with rng := { s.rng with testSource := on, fifo := [], ready := false, patternPos := 0 } }
    let s := if on then s
      else
        let s := { s with rng := { s.rng with testCond := zeros 48 } }
        (List.range 16).foldl (fun s c => updCell s c fun x => { x with
          state := 0, testPos := 0, testFails := false, block := [], blockFails := false }) s
    refreshSeeding (setReady s 3 false)

/-- TEST_SRC_ENABLE: a write to RNG_TEST_SRC; refused outside MANUFACTURE. -/
def execTestSrcEnable (m : Master) (on : Bool) (s : State) : Outcome :=
  if !m.isSecure || s.lcy.state ≠ 2 then .next (refuseAccess s m 0x00050C00 true) else .next (setTestSource s on)

/-! ## Commands (R242) -/

/-- Queue a request for random bytes for a caller at its home instance. -/
def askRandom (s : State) (c : Caller) (r : Reply) (n addr : Nat) : State :=
  queueDraw s (userHome c) false { who := .reply r, size := n, addr := addr }

/-- RNG_GENERATE. -/
def execRngGenerate (c : Cmd) (s : State) : Outcome :=
  .next (command s c 0x0501 fun s =>
    let n := c.nat 0x1B
    if n = 0 || 4096 < n then answerStatus s c.reply .invalidLength else askRandom s c.caller c.reply n 0)

/-- A write of RNG_CFG_SET stands: its register and its ranges (R239). -/
def rngWriteOk (e : Nat × Word) : Bool :=
  if e.1 = 4 then 1 ≤ field e.2 7 0 && 256 ≤ field e.2 31 16
  else if e.1 = 8 then 1 ≤ field e.2 14 0 && field e.2 14 0 ≤ 16384
  else false

/-- Carry out one register write of RNG_CFG_SET: a change of FAIL_WINDOW clears every cell's RECENT. -/
def rngWrite (s : State) (e : Nat × Word) : State :=
  if e.1 = 8 then { s with rng := { s.rng with reseedCfg := storeMasked s.rng.reseedCfg e.2 0x7FFF } }
  else
    let changed := field s.rng.cfg 31 16 ≠ field e.2 31 16
    let s := { s with rng := { s.rng with cfg := storeMasked s.rng.cfg e.2 0xFFFF00FF } }
    if changed then (List.range 16).foldl (fun s c => updCell s c fun x => { x with recent := [] }) s else s

/-- RNG_CFG_SET: under the routine quorum of domain 0. -/
def execRngCfgSet (c : Cmd) (s : State) : Outcome :=
  .next (command s c 0x0511 fun s =>
    if !c.regWrites.all rngWriteOk then answerStatus s c.reply .invalidParameter
    else withRoutine s c 0x0511 0 fun s reasons => answerOk (c.regWrites.foldl rngWrite s) c reasons [])

/-- RNG_CELL_RETEST: the start-up test of a REMOVED cell, answered after its 1,024 samples. -/
def execRngCellRetest (c : Cmd) (s : State) : Outcome :=
  .next (command s c 0x0512 fun s =>
    let n := c.nat 0x0A
    if 15 < n || (cell s n).state ≠ 2 then answerStatus s c.reply .invalidParameter
    else updCell s n fun x => { x with
      state := 3, testPos := 0, testFails := false, block := [], blockFails := false, retestFor := some c.reply })

/-- RNG_KAT_RUN: runs the test of one unit, whose outcome is the command's first physical fact; the answer follows its end. -/
def execRngKatRun (c : Cmd) (s : State) : Outcome :=
  .next (command s c 0x0513 fun s =>
    let u := c.nat 0x0B
    if s.rng.katRun.isSome then answerBusy s c.reply 0xFFFFFFFF
    else if 8 < u then answerStatus s c.reply .invalidParameter
    else startKat s u (c.facts.headD 1 == 1) (some c.reply))

/-- RNG_TEST_SOURCE: loads the pattern memory and sets or clears ENABLE. -/
def execRngTestSource (c : Cmd) (s : State) : Outcome :=
  .next (command s c 0x0514 fun s =>
    if s.lcy.state ≠ 2 then answerStatus s c.reply .lifecycleForbids
    else
      let s := match c.value 0x37 with
        | some b => { s with rng := { s.rng with pattern := memStore [] 0 b } }
        | none => s
      answerOk (setTestSource s (c.nat 0x36 % 2 == 1)) c [] [])

/-- S3 or S4 zeroes the generator, and the seeds of every lane mask generator (R235). -/
def zeroMasks (s : State) : State :=
  let s := (List.range 320).foldl (fun s e => updMask s e fun m => { m with seed := none, next := none, asked := false, before := 0 }) s
  let s := (List.range 288).foldl (fun s e => updLane s (e / 2) (e % 2) fun x =>
    { x with state := if x.state = .idle then .unseeded else x.state }) s
  let s := (List.range 32).foldl (fun s e => updSvc s e fun x =>
    { x with state := if x.state = .idle then .unseeded else x.state }) s
  refreshSvc (refreshLanes s)

end Sys2Proof.Machine
end

