-- ==== Sys2Proof/Machine/Geode.lean ====
section
/-!
DEFINITION. The Geode key vault: page-ins, commits, mount, format, scrub, wear and failures (R283 to R307).
-/

namespace Sys2Proof.Machine

/-! ## Content (R289, R290) -/

/-- The master of a domain in a content; domain 0's lies in the in-package die. -/
def masterIn (s : State) (x : Stripe) (d : Nat) : Bytes := if d = 0 then (domain s 0).master else (x.domains.get {} d).master

/-- The 128-byte record of a key in its table cell (R289): its attribute word, and its value wrapped under the domain's master, or for a
long key where its extent cells lie and their SHA-384.  `e` is the epoch of the commit that writes it. -/
def tableRecord (s : State) (x : Stripe) (e h : Nat) (k : KeyRec) : Bytes :=
  let box := (wrap (masterIn s x (handleDomain h)) (Config.wrapIv h e) k.value).bytes
  let b := attrBytes k.attr ++ if k.value.length ≤ 64 then box else Config.extentAt h e ++ Config.sha384 box
  b ++ zeros (128 - b.length)

/-- Cell `t` of a domain's key table, 32 records; none while it holds no record. -/
def tablePlain (s : State) (x : Stripe) (e d t : Nat) : Option Bytes :=
  let h (i : Nat) : Nat := d * 2 ^ 22 + 32 * t + i
  if (List.range 32).all fun i => (x.objects.look (h i)).isNone then none
  else some ((List.range 32).flatMap fun i => match x.objects.look (h i) with
    | some k => tableRecord s x e (h i) k
    | none => zeros 128)

/-- Cell `k` of a domain's record, its master wrapped under the store key; none past the record's end. -/
def recordPlain (s : State) (x : Stripe) (e d k : Nat) : Option Bytes :=
  (x.domains.look d).bind fun r =>
    let b := domainBytes r ++ (wrap (wrapKey s) (Config.wrapIv (2 ^ 32 + d) e) r.master).bytes
    if 4096 * k < b.length then some (slice (b ++ zeros 4096) (4096 * k) 4096) else none

/-- The first cell of a domain's record (R289). -/
def recordCell (d : Nat) : Nat := 0x01000000 + 16 * d
/-- The cell of a key's record (R289). -/
def tableCell (h : Nat) : Nat := 0x08000000 + handleDomain h * 2 ^ 17 + handleNumber h / 32
/-- The domain whose record or key table a cell belongs to. -/
def cellDomain (n : Nat) : Nat := if n < 0x08000000 then (n - 0x01000000) / 16 else (n - 0x08000000) / 2 ^ 17

/-- What a logical cell holds in a content. -/
def cellPlain (s : State) (x : Stripe) (e n : Nat) : Option Bytes :=
  if n < 0x08000000 then recordPlain s x e (cellDomain n) ((n - 0x01000000) % 16)
  else tablePlain s x e (cellDomain n) ((n - 0x08000000) % 2 ^ 17)

/-- Seal a cell (R288): AES-256-GCM under the vault key; the IV is the cell number and the epoch, the additional data these and the cell's
kind. -/
def sealCell (s : State) (e n : Nat) (text : Bytes) : SealedCell :=
  let iv := leBytes 4 n ++ leBytes 8 e
  let (c, t) := gcmSeal (geodeKey s) iv (iv ++ [Config.cellKind n]) text
  { epoch := e, cipher := c, tag := t }

/-- Write a cell anew, or leave it unwritten where it holds nothing. -/
def reseal (s : State) (x : Stripe) (e : Nat) (cells : Tbl SealedCell) (n : Nat) : Tbl SealedCell :=
  match cellPlain s x e n with
  | some b => cells.put n (sealCell s e n b)
  | none => cells.del n

/-- The cells that a change writes. -/
def opWrites : VaultOp → List Nat
  | .putKey h _ => [tableCell h]
  | .eraseKey h => [tableCell h]
  | .setAttr h _ => [tableCell h]
  | .reserve h _ => [tableCell h]
  | .rewrite l => l
  | .editDomain d _ => (List.range 16).map (recordCell d + ·)
  | .setReadOnly => []

/-- A content with the cells that its changes write sealed under the new epoch; the cells of a destroyed domain are gone. -/
def sealChanges (s : State) (x : Stripe) (e : Nat) (ops : List VaultOp) : Stripe :=
  let kept := x.cells.keep fun n _ => !ops.contains (.editDomain (cellDomain n) .destroy)
  { x with cells := ((ops.flatMap opWrites).eraseDups).foldl (reseal s x e) kept }

/-! ## The tree (R290) -/

/-- The leaf value of a written cell. -/
def leafHash (n : Nat) (c : SealedCell) : Bytes := Config.sha384 (leBytes 4 n ++ leBytes 8 c.epoch ++ c.tag)

/-- The value of an empty subtree at a level; at level 0 that of an unwritten cell (assumption 128). -/
def emptyHash : Nat → Bytes
  | 0 => Config.sha384 (zeros 64)
  | k + 1 => Config.sha384 ((List.replicate 16 (emptyHash k)).flatten)

/-- A node's hash: SHA-384 over its 16 child hashes, of which those listed are not empty. -/
def nodeHash (k : Nat) (l : List (Nat × Bytes)) (i : Nat) : Bytes :=
  Config.sha384 ((List.range 16).flatMap fun j => (l.lookup (16 * i + j)).getD (emptyHash k))

/-- The nodes one level up from level `k` that are not empty. -/
def levelUp (k : Nat) (l : List (Nat × Bytes)) : List (Nat × Bytes) :=
  ((l.map (·.1 / 16)).eraseDups).map fun i => (i, nodeHash k l i)

/-- The nodes at level `k`. -/
def treeLevel (cells : Tbl SealedCell) : Nat → List (Nat × Bytes)
  | 0 => cells.map fun e => (e.1, leafHash e.1 e.2)
  | k + 1 => levelUp k (treeLevel cells k)

/-- The vault root: the hash of the level-8 node over the 2^32 logical cells. -/
def vaultRoot (cells : Tbl SealedCell) : Bytes := ((treeLevel cells 8).lookup 0).getD (emptyHash 8)

/-! ## The anchor (R291) -/

/-- The committed slot of the vault anchor. -/
def anchorNow (b : BbRam) : AnchorSlot := if b.anchorSelect = 0 then b.anchor0 else b.anchor1
/-- The other slot. -/
def anchorOther (b : BbRam) : AnchorSlot := if b.anchorSelect = 0 then b.anchor1 else b.anchor0
/-- Write the other slot. -/
def setOther (b : BbRam) (a : AnchorSlot) : BbRam :=
  (if b.anchorSelect = 0 then { b with anchor1 := a } else { b with anchor0 := a } : BbRam).check
/-- SELECT names the other slot. -/
def swapAnchor (b : BbRam) : BbRam := ({ b with anchorSelect := 1 - b.anchorSelect } : BbRam).check
/-- Write FAIL_CELL and the INTEGRITY flag with its reason. -/
def setIntegrity (b : BbRam) (cell : Nat) (reason : Option Nat) : BbRam :=
  ({ b with failCell := cell, integrity := reason } : BbRam).check

/-! ## The state of the vault -/

/-- Follow GEO_STATUS.STATE in the VAULT bit of ID_READY (R492). -/
def refreshVault (s : State) : State :=
  let up := s.geo.state == .normal || s.geo.state == .readOnly
  setReady (setReady s 9 up) 11 (up && bit s.id.ready 11)

/-- A change will not stand: its command is answered, a domain that it was to destroy is ACTIVE again, and a function that it was to assign
takes nothing. -/
def failOne (s : State) (c : VaultChange) (st : Status) : State :=
  let reopen (s : State) : VaultOp → State
    | .editDomain d .destroy => updDomain s d fun x => { x with state := if x.state = .destroying then .active else x.state }
    | .editDomain _ (.function f true) => updFunc s f fun x => { x with restoring := none }
    | _ => s
  let s := c.ops.foldl reopen s
  match c.reply with
  | none => s
  | some r => match c.job, c.caller with
    | some e, some k => endJob s k r (failedEnd e st)
    | _, _ => answer s r { status := st, reasons := c.reasons,
                           items := if st = .busyLocked then [.holder 0xFFFFFFFF] else [] }

/-- Changes will not stand, for one status. -/
def failChanges (s : State) (l : List VaultChange) (st : Status) : State := freeDelivered (l.foldl (fun s c => failOne s c st) s)

/-- Abandon every gathered change and the commit under way, with a status. -/
def abandonChanges (s : State) (st : Status) : State :=
  let l := s.geo.committing ++ s.geo.gathered
  let s := { s with
    geo := { s.geo with committing := [], gathered := [] }
    flash := { s.flash with next := none }
    bb := if s.geo.committing.isEmpty then s.bb else setOther s.bb {} }
  failChanges s l st

/-- The vault enters INTEGRITY_FAILED because nothing verifies (R296). -/
def integrityFail (s : State) (c : Nat) (node : Bool) : State :=
  let reason := if node then 10 else 11
  let s := { s with
    geo := { s.geo with state := .integrityFailed, reason := reason, scrubbing := false }
    bb := setIntegrity s.bb c (some reason) }
  abandonChanges (refreshVault (event s 15 reason c)) .vaultIntegrity

/-- The vault unmounts for a reason (R286, R304). -/
def unmount (s : State) (reason : Nat) : State :=
  let s := { s with geo := { s.geo with state := .notMounted, reason := reason, scrubbing := false } }
  abandonChanges (refreshVault s) .notReady

/-! ## Wear (R297, R298) -/

/-- Thousandths of ordinary spares remaining. -/
def sparePermille (s : State) : Nat := if s.flash.spareTotal = 0 then 0 else s.flash.spareLeft * 1000 / s.flash.spareTotal
/-- Thousandths of the destroy reserve remaining. -/
def reservePermille (s : State) : Nat :=
  if s.flash.reserveTotal = 0 then 0 else s.flash.reserveLeft * 1000 / s.flash.reserveTotal

/-- Channel `c` of the flash. -/
def channel (s : State) (c : Nat) : Channel := s.geo.channels.get {} c
/-- Change channel `c`. -/
def updChannel (s : State) (c : Nat) (f : Channel → Channel) : State :=
  { s with geo := { s.geo with channels := s.geo.channels.put c (f (channel s c)) } }

/-- A change that removes or narrows, which READ_ONLY still commits. -/
def removes : VaultOp → Bool
  | .putKey _ _ => false
  | .rewrite _ => false
  | .editDomain _ (.create _) => false
  | .editDomain _ .destroy => true
  | .editDomain _ _ => false
  | _ => true

/-- The vault enters READ_ONLY (R298): the commit under way fails, requests that store fail, and one commit carries the flag. -/
def enterReadOnly (s : State) : State :=
  let s := event s 14 0 (anchorNow s.bb).epoch
  let lost := s.geo.committing ++ s.geo.gathered.filter fun c => !c.ops.all removes
  let kept := s.geo.gathered.filter fun c => c.ops.all removes
  let s := { s with
    geo := { s.geo with state := .readOnly, committing := [], gathered := { ops := [.setReadOnly], reply := none } :: kept }
    flash := { s.flash with next := none }
    bb := if s.geo.committing.isEmpty then s.bb else setOther s.bb {} }
  failChanges s lost .vaultReadOnly

/-- SPARE_LOW25 and SPARE_LOW10 are set in turn, each crossing recorded. -/
def refreshSpares (s : State) : State :=
  let p := sparePermille s
  let s := if p ≤ 250 && !s.geo.low25 then event { s with geo := { s.geo with low25 := true } } 13 p 25 else s
  if p ≤ 100 && !s.geo.low10 then event { s with geo := { s.geo with low10 := true } } 13 p 10 else s

/-- Retire a block of a channel and replace it from ordinary spares; with none left the vault enters READ_ONLY. -/
def retireBlock (s : State) (c : Nat) : State :=
  let s := updChannel s c fun x => { x with retired := x.retired + 1 }
  let s := { s with geo := { s.geo with retired := s.geo.retired + 1 } }
  if 0 < s.flash.spareLeft then refreshSpares { s with flash := { s.flash with spareLeft := s.flash.spareLeft - 1 } }
  else if s.geo.state = .normal then enterReadOnly s
  else s

/-- FLASH_BLOCK_FAILURE: a program or erase fails and the block is retired (R297, R298). -/
def execFlashBlockFailure (c : Fin 8) (t : Time) (s : State) : Outcome := .next (retireBlock (advance s t) c.val)

/-- Channels in use. -/
def usableChannels (s : State) : Nat :=
  ((List.range 8).filter fun c => (channel s c).state == 1 || (channel s c).state == 2).length

/-- FLASH_CHANNEL_FAILURE: a channel fails; reads are served by reconstruction, or with a second one FAILED the vault unmounts
(R286). -/
def execFlashChannelFailure (c : Fin 8) (t : Time) (s : State) : Outcome :=
  let s := advance s t
  if !((channel s c.val).state == 1 || (channel s c.val).state == 2) then .next s
  else
    let s := updChannel s c.val fun x => { x with state := 3 }
    if !(s.geo.state == .normal || s.geo.state == .readOnly) then .next s
    else if usableChannels s ≤ 6 then .next (unmount s 4)
    else .next { s with geo := { s.geo with degraded := true } }

/-! ## Page-ins (R300, R301, R304) -/

/-- PAGE_IN_REQUEST: secure-world firmware takes the oldest request of the page-in queue. -/
def execPageInRequest (t : Time) (s : State) : Outcome :=
  let s := advance s t
  if !secureUp s then .next s
  else
    match s.psg.pageIns.find? (!·.taken) with
    | none => .next s
    | some pg =>
      let mark (x : PageIn) : PageIn := if x.handle == pg.handle then { x with taken := true } else x
      .next { s with psg := { s.psg with pageIns := s.psg.pageIns.map mark } }

/-- A page-in ends without a key: it is counted, and its frames get PAGE_FAILED (R91). -/
def failPageIn (s : State) (pg : PageIn) : State := failPaging (closePageIn (countPageFail s) pg) pg.handle

/-- A page-in ends, and the frames that wait on it are resolved again (R91). -/
def resolveWaiting (s : State) (pg : PageIn) : State :=
  let us := min ((s.now - pg.askedAt) / usT) 65535
  endPaging (closePageIn { s with geo := { s.geo with pageInMax := max s.geo.pageInMax us } } pg) pg.handle judgeKey

/-- The reading of a cell that verifies only by reconstruction is counted; in NORMAL a block that gave a flash error is retired, and the
stripe's live cells are rewritten in the next commit (R296). -/
def repairCell (s : State) (ch : Nat) (flash : Bool) (cells : List Nat) : State :=
  let s := { s with geo := { s.geo with repaired := sat64 s.geo.repaired } }
  if s.geo.state = .normal then
    let s := if flash then retireBlock s ch else s
    if s.geo.state = .normal && !cells.isEmpty then gather s { ops := [.rewrite cells], reply := none } else s
  else s

/-- The record of a handle has been read: the key goes into a slot, or the handle into the absent cache. -/
def pageRecord (s : State) (pg : PageIn) : State :=
  let record := if (domain s (handleDomain pg.handle)).state == .active && !withdrawn s pg.handle then
      s.flash.objects.look pg.handle else none
  if suspended s then resolveWaiting s pg
  else match record with
    | none => resolveWaiting (enterAbsent s pg.handle) pg
    | some k =>
      if (slotOf s pg.handle).isSome then resolveWaiting s pg
      else match makeRoom s pg.handle k.value.length with
        | none => failPageIn (refuseAtSources s pg.handle) pg
        | some (s, n) => resolveWaiting (writeSlot s n pg.handle k 0) pg

/-- PAGE_IN_COMPLETE: a page-in that has been taken completes or fails.  One whose cell a commit has replaced runs once more
(R304). -/
def execPageInComplete (handle : Nat) (r : CellRead) (t : Time) (s : State) : Outcome :=
  let s := advance s t
  match s.psg.pageIns.find? (·.handle == handle) with
  | none => .next s
  | some pg =>
    if !pg.taken || stopped s 1 then .next s
    else if !secureUp s || !vaultServes s then .next (failPageIn s pg)
    else if pg.stale then
      let again (x : PageIn) : PageIn := if x.handle == handle then { x with stale := false } else x
      .next { s with psg := { s.psg with pageIns := s.psg.pageIns.map again } }
    else match r with
      | .good => .next (pageRecord s pg)
      | .repaired c f l => .next (pageRecord (repairCell s c f l) pg)
      | .lost c node => .next (failPageIn (integrityFail s c node) pg)

/-- Every outstanding page-in fails: the secure world is down (R304). -/
def failPageIns (s : State) : State := s.psg.pageIns.foldl failPageIn s

/-! ## Commits (R292) -/

/-- Cells that one change writes, with the nodes on its path. -/
def opCells : VaultOp → Nat
  | .putKey _ k => 9 + (if k.value.length ≤ 64 then 0 else (k.value.length + 4095) / 4096)
  | .editDomain _ _ => 24
  | .rewrite l => l.length
  | .setReadOnly => 0
  | _ => 9

/-- The changes that fit one stripe of 28 cells, oldest first: at least one. -/
def fitStripe : Nat → List VaultChange → List VaultChange × List VaultChange
  | _, [] => ([], [])
  | used, c :: t =>
    let n := (c.ops.map opCells).sum
    if used ≠ 0 && 28 < used + n then ([], c :: t)
    else
      let (a, b) := fitStripe (used + n + 1) t
      (c :: a, b)

/-- One change of the content. -/
def applyOp (x : Stripe) (op : VaultOp) : Stripe :=
  let withKey (h : Nat) (f : KeyRec → KeyRec) : Stripe := match x.objects.look h with
    | some k => { x with objects := x.objects.put h (f k) }
    | none => x
  match op with
  | .putKey h k => { x with objects := x.objects.put h k }
  | .eraseKey h => { x with objects := x.objects.del h }
  | .setAttr h a => withKey h fun k => { k with attr := a }
  | .reserve h n => withKey h fun k => { k with attr := { k.attr with usesLeft := k.attr.usesLeft - n } }
  | .editDomain d .destroy =>
    { x with objects := x.objects.keep fun h _ => handleDomain h != d, domains := x.domains.del d }
  | .editDomain d e => { x with domains := x.domains.put d (applyEdit (x.domains.get {} d) e) }
  | .rewrite _ => x
  | .setReadOnly => { x with readOnly := true }

/-- The present content of the flash. -/
def flashContent (f : Flash) : Stripe := { objects := f.objects, domains := f.domains, readOnly := f.readOnly, cells := f.cells }

/-- Take the page that a commit of READ_ONLY writes on each channel, from the blocks in use or new ones of the reserve (R298). -/
def takeReserve (f : Flash) : Option Flash :=
  if 0 < f.reservePages then some { f with reservePages := f.reservePages - 1 }
  else if f.width ≤ f.reserveLeft then some { f with reserveLeft := f.reserveLeft - f.width, reservePages := f.pagesPerBlock - 1 }
  else none

/-! ### The changes to one domain complete one at a time (R278) -/

/-- An edit of a domain record that the content, as the changes before it leave it, refuses (R264, R268, R274, R281). -/
def editRefused (s : State) (x : Stripe) (d : Nat) (e : DomainEdit) : Option Status :=
  let r := x.domains.get {} d
  let after := applyEdit r e
  let bad (b : Bool) : Option Status := if b then some .invalidParameter else none
  match e with
  | .create _ => bad (r.state != .free)
  | .destroy => bad (r.state != .active)
  | .officer n (some _) => bad (r.state != .active || (r.officers.look n).isSome || decide (16 ≤ r.officers.length))
  | .officer n none => bad (r.state != .active || (r.officers.look n).isNone
      || !thresholdsOk (after.mCrit, after.mRoutine) after.officers.length)
  | .thresholds c m => bad (r.state != .active || !thresholdsOk (c, m) r.officers.length)
  | .quotas q l =>
    if r.state != .active then some .invalidParameter
    else if q < domainSlots s d || l * 8 < domainLong s d then some .busyLocked
    else none
  | .credential tenant n none => bad (r.state != .active || (if tenant then r.tenants.look n else r.operators.look n).isNone)
  | .function f true =>
    if r.state != .active then some .invalidParameter
    else if x.domains.any fun k => k.1 != d && k.2.functions.contains f then some .busyLocked
    else none
  | .function f false => bad (r.state != .active || !r.functions.contains f)
  | _ => bad (r.state != .active)

/-- The word that an attribute change leaves in the vault: the uses that the slot's reservation keeps are outside it (R302). -/
def vaultWord (s : State) (h : Nat) (a : Attr) : Attr :=
  if a.usesLeft = unlimited then a
  else { a with usesLeft := a.usesLeft - min (((slotOf s h).map (·.2.reserved)).getD 0) a.usesLeft }

/-- A key's word as it is used: the vault's uses and those reserved to its slot. -/
def wholeWord (s : State) (h : Nat) (a : Attr) : Attr :=
  if a.usesLeft = unlimited then a else { a with usesLeft := a.usesLeft + ((slotOf s h).map (·.2.reserved)).getD 0 }

/-- The key's change needs the routine quorum, since the key became a QUORUM key, and its command was judged without one (R273). -/
def quorumLacks (c : VaultChange) (a : Attr) : Bool := a.quorum && c.cmd.isSome && c.reasons.isEmpty

/-- Judge one change of a command against the content as the changes before it leave it: the change as it is written, or a status. -/
def judgeOp (s : State) (c : VaultChange) (x : Stripe) (op : VaultOp) : Except Status VaultOp :=
  match op with
  | .putKey h _ =>
    if (x.objects.look h).isSome then .error .invalidParameter
    else if handleDomain h ≠ 0 && (x.domains.get {} (handleDomain h)).state ≠ .active then .error .notPermitted
    else .ok op
  | .eraseKey h => match x.objects.look h with
    | none => .error .invalidKey
    | some k => if quorumLacks c k.attr then .error .quorumMissing else .ok op
  | .setAttr h a => match x.objects.look h with
    | none => .error .invalidKey
    | some k =>
      if quorumLacks c k.attr then .error .quorumMissing
      else if !narrows (wholeWord s h k.attr) a then .error .notPermitted
      else .ok op
  | .reserve h n => match x.objects.look h with
    | none => .ok (.reserve h 0)
    | some k => .ok (.reserve h (min n k.attr.usesLeft))
  | .editDomain d e => match editRefused s x d e with
    | some st => .error st
    | none => .ok op
  | _ => .ok op

/-- One change of the content, an attribute word as the vault keeps it. -/
def writeOp (s : State) (x : Stripe) : VaultOp → Stripe
  | .setAttr h a => applyOp x (.setAttr h (vaultWord s h a))
  | op => applyOp x op

/-- Judge the changes of one command in turn; those decided in a replica set stand (R475). -/
def judgeOps (s : State) (c : VaultChange) : List VaultOp → Stripe → Except Status (List VaultOp × Stripe)
  | [], x => .ok ([], x)
  | op :: t, x =>
    match if c.decided then .ok op else judgeOp s c x op with
    | .error st => .error st
    | .ok op => match judgeOps s c t (writeOp s x op) with
      | .error st => .error st
      | .ok (l, x) => .ok (op :: l, x)

/-- Judge commands' changes in the order in which they were gathered: those that stand, those refused with their status, and the
content. -/
def judgeChanges (s : State) : List VaultChange → Stripe → List VaultChange × List (VaultChange × Status) × Stripe
  | [], x => ([], [], x)
  | c :: t, x =>
    match judgeOps s c c.ops x with
    | .error st =>
      let (l, no, x) := judgeChanges s t x
      (l, (c, st) :: no, x)
    | .ok (ops, x) =>
      let (l, no, x) := judgeChanges s t x
      ({ c with ops := ops } :: l, no, x)

/-- Start a commit of changes: they are judged once more, one at a time (R278); the cells of those that stand are sealed under the next
epoch, the other anchor slot is written with the new root and that epoch, and the stripe goes out. -/
def startCommit (s : State) (l rest : List VaultChange) : State :=
  let (kept, refused, x) := judgeChanges s l (flashContent s.flash)
  let e := (anchorNow s.bb).epoch + 1
  let x := sealChanges s x e (kept.flatMap (·.ops))
  let t := { s with geo := { s.geo with gathered := rest } }
  let t := if kept.isEmpty then t else { t with
    geo := { t.geo with committing := kept }
    flash := { t.flash with next := some x }
    bb := setOther t.bb { root := vaultRoot x.cells, epoch := e } }
  freeDelivered (refused.foldl (fun s c => failOne s c.1 c.2) t)

/-- Page-ins that are reading a cell which a commit has replaced will run once more (R304). -/
def stalePageIns (s : State) (ops : List VaultOp) : State :=
  let cells := ops.flatMap opWrites
  let mark (x : PageIn) : PageIn := if x.taken && cells.contains (tableCell x.handle) then { x with stale := true } else x
  { s with psg := { s.psg with pageIns := s.psg.pageIns.map mark } }

/-- The destruction of a domain takes effect (R268). -/
def finishDestroy (s : State) (d : Nat) : State :=
  let fs := (domain s d).functions
  let s := fs.foldl reassign (afterEdit s d .destroy)
  let s := { s with
    kst := { s.kst with
      domains := s.kst.domains.del d
      slots := s.kst.slots.keep fun _ x => handleDomain x.handle != d }
    pke := { s.pke with curves := s.pke.curves.keep fun _ x => x.domain != d } }
  fs.foldl disableQueues s

/-- What a committed change does outside the flash. -/
def afterOp (s : State) (op : VaultOp) : State :=
  match op with
  | .putKey h k =>
    (match makeRoom s h k.value.length with
    | some (s, n) => writeSlot s n h k 0
    | none => { s with kst := { s.kst with absent := s.kst.absent.filter (· != h) } })
  | .eraseKey h => enterAbsent (eraseSlot s h) h
  | .setAttr h a =>
    let left := ((s.flash.objects.look h).map (·.attr.usesLeft)).getD 0
    updSlotOf s h fun x =>
      let kept := min x.reserved a.usesLeft
      if a.usesLeft = unlimited then { x with attr := a } else { x with attr := { a with usesLeft := left + kept }, reserved := kept }
  | .reserve h n => updSlotOf s h fun x => { x with reserved := x.reserved + n }
  | .editDomain d .destroy => finishDestroy s d
  | .editDomain d (.function f b) =>
    let s := afterEdit (updDomain s d fun x => applyEdit x (.function f b)) d (.function f b)
    if b then s else disableQueues s f
  | .editDomain d e => afterEdit (updDomain s d fun x => applyEdit x e) d e
  | .rewrite _ => s
  | .setReadOnly => s

/-- Answer the commands of a commit that stands. -/
def answerChange (s : State) (c : VaultChange) : State :=
  match c.reply with
  | none => s
  | some r =>
    let note (s : State) : VaultOp → State
      | .putKey h k => noteKey s r h k.attr
      | _ => s
    let s := c.ops.foldl note s
    match c.job, c.caller with
    | some e, some k => endJob s k r e
    | _, _ => answer s r { status := .ok, items := c.items, reasons := c.reasons }

/-- GEO_COMMIT_COMPLETE: SELECT names the new anchor slot, the content stands, and the commands of the commit return OK.  (A commit
that fails is undone as its block fails, R298.) -/
def execGeoCommitComplete (t : Time) (s : State) : Outcome :=
  let s := advance s t
  match if stopped s 1 then none else s.flash.next with
  | none => .next s
  | some x =>
    let l := s.geo.committing
    let a := anchorOther s.bb
    let s := { s with
      flash := { s.flash with
        objects := x.objects, domains := x.domains, cells := x.cells, readOnly := x.readOnly, epoch := a.epoch, root := a.root
        next := none }
      bb := swapAnchor s.bb
      geo := { s.geo with committing := [] } }
    let ops := l.flatMap (·.ops)
    .next (freeDelivered (l.foldl answerChange (ops.foldl afterOp (stalePageIns s ops))))

/-! ## Mount (R284, R293, R294) -/

/-- The targets of a channel that a mount probes: those below TARGETS, where the channel is enabled (R284, R305). -/
def probed (s : State) (l : List Target) (c : Nat) : List Target :=
  if bit s.geo.chanCfg c then l.filter fun x => x.channel == c && decide (x.number < field s.geo.chanCfg 10 8) else []

/-- A target of a geometry that the controller supports (R283). -/
def supportedPart (x : Target) : Bool :=
  x.pageSize == 16384 && decide (1536 ≤ x.spareBytes) && 1 ≤ x.luns && x.luns ≤ 4 && 1 ≤ x.planes && x.planes ≤ 4

/-- The first target found on channel 0, which the others must match. -/
def firstTarget (s : State) (l : List Target) : Option Target := (probed s l 0).find? supportedPart

/-- A target is the same part as another. -/
def samePart (a b : Target) : Bool :=
  a.maker == b.maker && a.model == b.model && a.pageSize == b.pageSize && a.blocks == b.blocks && a.planes == b.planes

/-- A target is used: its geometry is supported, and it is the part found first on channel 0.  DESIGN CHOICE: a target of another
geometry is left unused like a differing one (assumption 130). -/
def usablePart (s : State) (l : List Target) (x : Target) : Bool := supportedPart x && (firstTarget s l).all (samePart x ·)

/-- What the probe and training of a channel give (R284). -/
def mountChannel (s : State) (f : MountFacts) (c : Nat) : Channel :=
  let l := probed s f.targets c
  let used := l.filter (usablePart s f.targets)
  let rate := field s.geo.chanCfg 23 16
  let slowest := used.foldl (fun m x => min m x.ddr3) 12
  let base : Channel := { (channel s c) with
    state := 0, rate := 0, found := l.length
    unused := ((l.filter fun x => !usablePart s f.targets x).map fun x => 2 ^ x.number).sum }
  if used.isEmpty then base
  else if !bit s.geo.chanCfg 24 && used.all (fun x => 0 < x.lpddr4) && f.trainsLpddr4.getLsbD c then
    { base with state := 1, rate := rate }
  else if 0 < slowest && f.trainsDdr3.getLsbD c then { base with state := 2, rate := slowest }
  else { base with state := 3 }

/-- The decision of R294: the vault's new state and reason, or none where the mount continues; and whether the other anchor slot
becomes the committed one. -/
def mountDecision (s : State) (f : MountFacts) (remount : Bool) : Option (VaultState × Nat) × Bool :=
  let e := anchorNow s.bb
  let o := anchorOther s.bb
  if s.kst.root.isNone then (some (.notMounted, 2), false)
  else if usableChannels s = 0 then (some (.notMounted, 1), false)
  else if usableChannels s ≤ 6 then (some (.notMounted, 4), false)
  else if e.epoch = 0 then (some (.notMounted, 3), false)
  else if s.bb.integrity.isSome && !remount then (some (.integrityFailed, s.bb.integrity.getD 0), false)
  else match f.found with
    | none => (some (.integrityFailed, 12), false)
    | some (fe, q) =>
      if fe = e.epoch && q = e.root then (none, false)
      else if fe = e.epoch + 1 && q = o.root then (none, true)
      else if fe < e.epoch then (some (.integrityFailed, 8), false)
      else (some (.integrityFailed, 9), false)

/-- Load the records of domains 1 to 1023 (step 6 of R293). -/
def loadDomains (s : State) : State :=
  let zero := domain s 0
  { s with kst := { s.kst with domains := (s.flash.domains.del 0).put 0 zero, domainsLoaded := true } }

/-- Answer the GEO_REMOUNT that a mount serves. -/
def answerRemount (s : State) : State :=
  match s.geo.remount with
  | none => s
  | some r =>
    let st : Status := match s.geo.state with
      | .normal => .ok
      | .readOnly => .ok
      | .integrityFailed => .vaultIntegrity
      | _ => .notReady
    answerStatus { s with geo := { s.geo with remount := none } } r st

/-- The mount continues past R294: nodes and FAIL_CELL verify, or the vault fails; then the domain records are loaded. -/
def finishMount (s : State) (f : MountFacts) : State :=
  match f.nodes with
  | .lost c node => integrityFail s c node
  | r =>
    let s := loadDomains { s with bb := setIntegrity s.bb 0xFFFFFFFF none }
    let st : VaultState := if s.flash.readOnly then .readOnly else .normal
    let s := refreshSpares { s with geo := { s.geo with state := st, reason := 0, degraded := decide (usableChannels s < 8) } }
    match r with
    | .repaired c f l => repairCell s c f l
    | _ => s

/-- GEO_MOUNT: a mount that has begun ends with what it found. -/
def execGeoMount (f : MountFacts) (t : Time) (s : State) : Outcome :=
  let s := advance s t
  if s.geo.state ≠ .mounting || stopped s 1 then .next s
  else
    let remount := s.geo.remount.isSome
    let s := { s with geo := { s.geo with
      channels := (List.range 8).map fun c => (c, mountChannel s f c)
      targets := f.targets
      mountMs := min ((s.now - s.geo.mountAt) / msT) 65535 } }
    let s := match mountDecision s f remount with
      | (some (st, reason), _) => { s with geo := { s.geo with state := st, reason := reason } }
      | (none, false) => finishMount s f
      | (none, true) =>
        let x := s.flash.next.getD (flashContent s.flash)
        let s := { s with
          bb := swapAnchor s.bb
          flash := { s.flash with
            objects := x.objects, domains := x.domains, cells := x.cells, readOnly := x.readOnly, epoch := (anchorOther s.bb).epoch
            root := (anchorOther s.bb).root } }
        finishMount s f
    .next (answerRemount (refreshVault { s with flash := { s.flash with next := none } }))

/-- GEO_REMOUNT: runs mount from NOT_MOUNTED or INTEGRITY_FAILED; it is answered when the mount ends. -/
def execGeoRemount (c : Cmd) (s : State) : Outcome :=
  .next (command s c 0x0603 fun s =>
    match s.geo.state with
    | .mounting => answerStatus s c.reply .notReady
    | .normal => answerStatus s c.reply .invalidParameter
    | .readOnly => answerStatus s c.reply .invalidParameter
    | _ =>
      if !s.kst.ready then answerStatus s c.reply .notReady
      else { s with geo := { s.geo with state := .mounting, locked := true, mountAt := s.now, remount := some c.reply } })

/-! ## Scrub (R295, R296) -/

/-- SCRUB_MBPS. -/
def scrubMbps (s : State) : Nat := field s.geo.cfg 13 0

/-- SCRUB_STRIPE: the scrubber reads and checks a written stripe; `last` ends a pass. -/
def execScrubStripe (r : CellRead) (last : Bool) (t : Time) (s : State) : Outcome :=
  let s := advance s t
  if !vaultServes s || scrubMbps s = 0 || stopped s 1 then .next s
  else
    let s := { s with geo := { s.geo with
      scrubbing := !last, passes := if last then sat32 s.geo.passes else s.geo.passes } }
    match r with
    | .good => .next s
    | .repaired c f l => .next (repairCell s c f l)
    | .lost c node => .next (integrityFail s c node)

/-- Write SCRUB_MBPS: 0 ends a pass that runs. -/
def writeScrub (s : State) (v : Word) : State :=
  let cfg : Word := BitVec.ofNat 32 (field v 13 0)
  { s with geo := { s.geo with cfg := cfg, scrubbing := s.geo.scrubbing && cfg != 0 } }

/-- GEO_SCRUB_SET. -/
def execGeoScrubSet (c : Cmd) (s : State) : Outcome :=
  .next (command s c 0x0604 fun s =>
    match c.regWrites with
    | [(4, v)] =>
      if 10000 < field v 13 0 then answerStatus s c.reply .invalidParameter
      else
        answerOk (writeScrub s v) c [] []
    | _ => answerStatus s c.reply .invalidParameter)

/-! ## Format (R287, R297, R307) -/

/-- Raw capacity of a channel in MiB, and its good blocks, over the targets in use. -/
def channelRaw (s : State) (c : Nat) : Nat × Nat :=
  let used := (probed s s.geo.targets c).filter (usablePart s s.geo.targets)
  ((used.map fun x => x.luns * x.blocks * x.pagesPerBlock * x.pageSize / 1048576).sum, (used.map fun x => x.luns * x.blocks).sum)

/-- A figure of the smallest channel in use, on every channel in use: what the others have beyond it stays unused (R285). -/
def overChannels (s : State) (f : Nat → Nat) : Nat :=
  let l := (List.range 8).filter fun c => (channel s c).state == 1 || (channel s c).state == 2
  match l.map f with
  | [] => 0
  | x :: t => l.length * t.foldl min x

/-- The usable raw capacity R in MiB (R285, R287). -/
def rawMib (s : State) : Nat := overChannels s fun c => (channelRaw s c).1

/-- U in MiB, a whole number of GiB (R287). -/
def userMib (r pct : Nat) : Nat := min 2048 (r * 7 * (6300 - 64 * pct) / (8 * 6400) / 1024) * 1024

/-- The lowest ACTIVE domain above 0. -/
def activeDomain (s : State) : Option Nat := (s.kst.domains.search fun d x => d != 0 && x.state == .active).map (·.1)

/-- The checks of GEO_FORMAT (R303, R307). -/
def formatGate (s : State) (pct : Nat) : Option Status :=
  let barred := match s.geo.state with
    | .notMounted => !(s.geo.reason == 2 || s.geo.reason == 3)
    | .mounting => true
    | _ => false
  let held := (s.geo.state == .normal || s.geo.state == .readOnly) && (activeDomain s).isSome
  leastOf [(s.lcy.state ≠ 3 && s.lcy.state ≠ 4, .lifecycleForbids), (pct < 7 || 20 < pct, .invalidParameter),
    (barred || rootMissing s || usableChannels s ≤ 6, .notReady), (held, .busyLocked)]

/-- Format the vault: every object and domain record is erased, and epoch 1 is committed. -/
def formatVault (s : State) (pct : Nat) : State :=
  let root := vaultRoot []
  let blocks := overChannels s fun c => (channelRaw s c).2
  let pool := blocks * pct / 100
  let s := closeSessions s fun _ y => y.domain != 0
  let s := abandonChanges s .notReady
  let s := { s with
    flash := { s.flash with
      formatted := true, epoch := 1, root := root, objects := [], domains := [], cells := [], readOnly := false, next := none
      karst := {}, width := usableChannels s
      capacityMib := userMib (rawMib s) pct, spareTotal := pool - pool / 8, spareLeft := pool - pool / 8,
      reserveTotal := pool / 8, reserveLeft := pool / 8, reservePages := 0,
      pagesPerBlock := ((firstTarget s s.geo.targets).map (·.pagesPerBlock)).getD 0 }
    bb := ({ s.bb with
      anchor0 := { root := root, epoch := 1 }, anchor1 := {}, anchorSelect := 0, failCell := 0xFFFFFFFF, integrity := none } : BbRam).check
    kst := { s.kst with
      domains := s.kst.domains.keep fun d _ => d == 0
      slots := s.kst.slots.keep fun _ y => handleDomain y.handle == 0 && outsideVault y.handle y.attr
      nonces := s.kst.nonces.filter (·.domain == 0)
      transports := s.kst.transports.filter (·.domain == 0)
      domainsLoaded := true }
    pke := { s.pke with curves := s.pke.curves.keep fun _ y => y.domain == 0 }
    geo := { s.geo with
      state := .normal, reason := 0, low25 := false, low10 := false, retired := 0, degraded := decide (usableChannels s < 8)
      channels := s.geo.channels.map fun e => (e.1, { e.2 with retired := 0 }) } }
  refreshVault s

/-- GEO_FORMAT. -/
def execGeoFormat (c : Cmd) (s : State) : Outcome :=
  .next (command s c 0x0602 fun s =>
    match formatGate s (c.nat 0x28) with
    | some .busyLocked => answerBusy s c.reply ((activeDomain s).getD 0)
    | some st => answerStatus s c.reply st
    | none => answerOk (formatVault s (c.nat 0x28)) c [] [])

/-- What GEO_FLASH_INFO returns of a target: channel, number, manufacturer, model, geometry, and the interface in force. -/
def targetBytes (s : State) (x : Target) : Bytes :=
  leBytes 1 x.channel ++ leBytes 1 x.number ++ leBytes 2 x.maker ++ leBytes 2 x.model ++ leBytes 4 x.pageSize
    ++ leBytes 4 x.spareBytes ++ leBytes 1 x.luns ++ leBytes 4 x.blocks ++ leBytes 1 x.planes ++ leBytes 4 x.pagesPerBlock ++ leBytes 1 (channel s x.channel).state
    ++ leBytes 1 (channel s x.channel).rate

/-- GEO_FLASH_INFO. -/
def execGeoFlashInfo (c : Cmd) (s : State) : Outcome :=
  .next (command s c 0x0605 fun s => answerOk s c [] (s.geo.targets.map fun x => .blob (targetBytes s x)))

/-- S4 zeroes the root: the commit under way is abandoned and the vault is NOT_MOUNTED, NO_ROOT (R304). -/
def loseVault (s : State) : State := if s.geo.state = .notMounted then s else unmount s 2

end Sys2Proof.Machine
end

