-- ==== Sys2Proof/Machine/Chamber.lean ====
section
/-!
DEFINITION. Chambers and redundant wires: the handshake, heartbeats and alerts of chamber links, pair checks, and lending
between members (R124, R128 to R139).
-/

namespace Sys2Proof.Machine

/-! ## Links (R130, R131) -/

/-- Reasons of KAR_LINK_STATUS: 1 NO_LINK, 2 SPEED, 3 AUTH, 4 DUPLICATE_ID, 5 HEARTBEAT, 6 DISABLED. -/
def setEvent (s : State) (i : Nat) : State :=
  { s with cham := { s.cham with event := s.cham.event ||| BitVec.ofNat 32 (2 ^ i) } }

/-- The lent jobs of a link count as DECLINED as it goes DOWN (R137). -/
def declineLent (s : State) (p : Nat) : State :=
  let lost := s.cham.out.filter (·.port == p)
  let s := { s with cham := { s.cham with out := s.cham.out.filter (·.port != p) } }
  lost.foldl (fun s j => bindAgain s j.frame j.part) s

/-- A link goes DOWN for a reason: one that was UP is recorded (R131, R138). -/
def linkDown (s : State) (p reason : Nat) : State :=
  let was := linkUp s p
  let s := updLink s p fun l => { peer := l.peer, reason := reason }
  if was then declineLent (event (setEvent s 1) 43 reason p) p else s

/-- Why a link may not come up, if anything stands in its way; a link set to 1000BASE-X reports SPEED before anything else (R129). -/
def linkBar (s : State) (p : Nat) : Option Nat :=
  if (port s p).speedActive = 0 then some 2
  else if !chamberOn s then some 6
  else if !(port s p).linkUp then some 1
  else none

/-- A link that may not be up goes DOWN, or stays DOWN, with the reason that stands in its way. -/
def refreshLink (s : State) (p : Nat) : State :=
  match linkBar s p with
  | some r => if (link s p).state = 0 then updLink s p fun l => { l with reason := r } else linkDown s p r
  | none => s

/-- Take DOWN every link that may no longer be up, and forget those of ports that carry no chamber link. -/
def refreshLinks (s : State) : State :=
  let s := (chamberPorts s).foldl refreshLink s
  let s := ((s.cham.links.map (·.1)).filter fun p => !isChamber s p).foldl (fun s p => linkDown s p 6) s
  { s with cham := { s.cham with links := s.cham.links.keep fun p _ => isChamber s p } }

/-- The nonce of a handshake, from instance 3 (R228); none while it cannot be drawn. -/
def handshakeNonce (s : State) : State × Option Bytes :=
  match draw s 3 false 32 with
  | (s, .ok b) => (s, some b)
  | (s, .error _) => (s, none)

/-- Begin the handshake on a DOWN link (R130 step 1). -/
def startHandshake (s : State) (p : Nat) : State :=
  match linkBar s p with
  | some r => updLink s p fun l => { l with reason := r }
  | none =>
    match handshakeNonce s with
    | (s, none) => s
    | (s, some n) =>
      let s := updLink s p fun l => { l with state := 1, ownNonce := n, peerNonce := [], peerSerial := [], key := [] }
      sendPlain s p (.hello s.id.serial s.id.chamberId n)

/-- The context of a link key: the two nonces and the two serial numbers, in ascending order of CHAMBER_ID (R130). -/
def linkContext (s : State) (l : Link) : Bytes :=
  if s.id.chamberId < l.peer then l.ownNonce ++ l.peerNonce ++ s.id.serial ++ l.peerSerial
  else l.peerNonce ++ l.ownNonce ++ l.peerSerial ++ s.id.serial

/-- The chamber key: the AES-256 key with DERIVE that stands in KEY_SLOT of domain 0. -/
def chamberKey (s : State) (n : Nat) : Option Bytes :=
  match slotOf s n with
  | some (_, x) => if n ≠ 0 && x.attr.type = 2 && useBit x.attr 4 then some x.value else none
  | none => none

/-- What a member sends to prove the link key: a CMAC over its own serial number and the context. -/
def proofMac (key serial context : Bytes) : Bytes := Config.cmac key (serial ++ context)

/-- A hello arrives (R128, R130): the two members' identities are compared, the link key is derived, and the proof goes out.  DESIGN CHOICE: the
link key is 32 bytes long (assumption 117).  A
member whose link is DOWN answers with its own hello first. -/
def helloArrives (s : State) (p : Nat) (serial : Bytes) (peer : Nat) (nonce : Bytes) : State :=
  if (linkBar s p).isSome || linkUp s p then s
  else if peer = s.id.chamberId then
    setEvent (updLink s p fun _ => { peer := peer, state := 0, reason := 4 }) 2
  else
    let s := if (link s p).state = 1 then s else startHandshake s p
    if (link s p).state ≠ 1 then s
    else
      let s := updLink s p fun l => { l with peer := peer, peerNonce := nonce, peerSerial := serial }
      match chamberKey s (chamberSlot s) with
      | none => updLink s p fun l => { l with state := 0, reason := 3 }
      | some k =>
        let ctx := linkContext s (link s p)
        let key := kdf 4 k [] ctx 32
        sendPlain (updLink s p fun l => { l with key := key }) p (.proof (proofMac key s.id.serial ctx))

/-- A proof arrives (R130 step 3): the link is UP, or DOWN with reason AUTH. -/
def proofArrives (s : State) (p : Nat) (mac : Bytes) : State :=
  let l := link s p
  if l.state ≠ 1 || l.key.isEmpty then s
  else if mac = proofMac l.key l.peerSerial (linkContext s l) then
    let up : Link := { l with state := 2, reason := 0, txSeq := 0, rxSeq := 0, missed := 0, askedAt := none,
                              heardAt := s.now }
    updLink s p fun _ => up
  else updLink s p fun l => { l with state := 0, reason := 3, key := [] }

/-- A message on a link that is up passes its CMAC and sequence, or is discarded and counted (R130). -/
def authentic (s : State) (p : Nat) (msg : ChamberMsg) (seq : Nat) (mac : Bytes) : Bool :=
  let l := link s p
  mac == messageMac l.key msg seq && decide (l.rxSeq < seq)

/-- Discard a message that fails its CMAC or sequence. -/
def discardMessage (s : State) : State :=
  setEvent { s with cham := { s.cham with authFail := sat64 s.cham.authFail } } 3

/-! ## The ports of chamber links (R34, R42, R129) -/

/-- LINK_STATE_CHANGE: a port's PCS gains or loses lock; a disabled port never reports LINK_UP (R34).  A chamber link follows its port. -/
def execLinkStateChange (p : Fin 144) (locked : Bool) (t : Time) (s : State) : Outcome :=
  let s := advance s t
  .next (refreshLinks (setLink s p (locked && (port s p).enable)))

/-- PORT_CFG_WRITE: the secure world alone may write PSG_PORT_CFG; a write through any other master is refused (R21,
R42).  A chamber link follows its port's speed (R129). -/
def execPortCfgWrite (m : Master) (p : Fin 144) (v : Word) (s : State) : Outcome :=
  if m.isSecure then .next (refreshLinks (writePortCfg s p v)) else .next (refuseAccess s m (0x00400000 + p * 0x4000) true)

/-! ## Pair checks (R124) -/

/-- PSG_WIRE_PAIR_STATUS (R124). -/
def pairStatus (s : State) (w : Nat) : Word :=
  let x := wire s w
  BitVec.ofNat 32 (bitAt x.pairOk 0 + bitAt x.pairLocal 1 + bitAt x.unreachable 2 + x.partnerMode * 16)

/-- The partner's answer meets every condition of R124. -/
def pairSound (s : State) (w : Nat) (mode pair : Word) : Bool :=
  let own := (wire s w).active
  let lan := field mode 5 4
  bit pair 15 && field pair 6 0 == w && field pair 11 8 == s.id.chamberId && (lan == 1 || lan == 2) && lan != own.prpLan
    && field mode 1 0 ≤ 1

/-- Set PAIR_OK; a change is recorded by Strata. -/
def setPairOk (s : State) (w : Nat) (ok : Bool) : State :=
  let was := (wire s w).pairOk
  let s := updWire s w fun x => { x with pairOk := ok, pairAskedAt := none }
  if was = ok then s else event s (if ok then 34 else 33) w (pairStatus s w).toNat

/-- The result of a pair check that was answered. -/
def pairAnswered (s : State) (w : Nat) (isLocal : Bool) (mode pair : Word) : State :=
  let s := updWire s w fun x => { x with pairLocal := isLocal, unreachable := false, partnerMode := field mode 1 0 }
  setPairOk s w (pairSound s w mode pair)

/-- Check one wire: a partner in this device at once, another over its link. -/
def checkPair (s : State) (w : Nat) : State :=
  let b := (wire s w).active
  if !b.paired then s
  else if b.partnerMember = s.id.chamberId then
    let other := (wire s b.partnerWire).active
    pairAnswered s w true other.mode other.pair
  else
    let s := updWire s w fun x => { x with pairLocal := false, pairAskedAt := some s.now }
    match linkTo s b.partnerMember with
    | some p => sendMessage s p (.pairQuery b.partnerWire)
    | none => s

/-- PAIR_CHECK: every 1 ms each paired wire is checked. -/
def execPairCheck (t : Time) (s : State) : Outcome :=
  let s := advance s t
  if stopped s 0 then .next s else .next ((List.range 72).foldl checkPair s)

/-- The answer to a pair query arrives, if one is outstanding for a wire whose partner it is. -/
def pairAnswerArrives (s : State) (p partner : Nat) (mode pair : Word) : State :=
  let mine := (List.range 72).filter fun w =>
    let b := (wire s w).active
    b.paired && b.partnerWire == partner && b.partnerMember == (link s p).peer && (match (wire s w).pairAskedAt with
      | some t => decide (s.now ≤ t + 100 * usT)
      | none => false)
  mine.foldl (fun s w => pairAnswered s w false mode pair) s

/-- PAIR_CHECK_TIMEOUT: no answer within 100 µs: the partner is UNREACHABLE and PAIR_OK is cleared. -/
def execPairCheckTimeout (w : Fin 72) (t : Time) (s : State) : Outcome :=
  let s := advance s t
  match (wire s w.val).pairAskedAt with
  | none => .next s
  | some a =>
    if stopped s 0 || s.now < a + 100 * usT then .next s
    else .next (setPairOk (updWire s w.val fun x => { x with unreachable := true }) w.val false)

/-! ## Lending (R136, R137) -/

/-- The key piece that a job's algorithm takes of a key: the whole of a single-signature key, a part of a hybrid one. -/
def lentKeyPiece (alg : Nat) (a : Attr) (value : Bytes) : Option Bytes :=
  if (algKeyTypes alg).contains a.type then some value
  else match [0x50, 0x51, 0x52, 0x53].find? fun h => (algKeyTypes h).contains a.type && (sigParts h).any (·.1 == alg) with
    | none => none
    | some h => ((partsOf h value []).find? (·.alg == alg)).map (·.key)

/-- The key of a lent job, where the lender's key store has it and its fingerprint matches. -/
def lentKey (s : State) (ref alg : Nat) (fingerprint : Bytes) : Option Bytes :=
  match resolve s ref with
  | .hit _ a v =>
    if useBit a 7 && useBit a 1 && (Config.sha384 v).take 16 == fingerprint then lentKeyPiece alg a v else none
  | _ => none

/-- Answer a lent job; none is DECLINED. -/
def answerLent (s : State) (p job : Nat) (st : Option Status) : State := sendMessage s p (.jobAnswer job st)

/-- A lent job arrives: the lender binds it as its own, or answers DECLINED at once (R136).  DESIGN CHOICE: the budget already leaves out
the 18 ns of the borrower's decision, so the test of R96 does not take them off again (assumption 116). -/
def lentArrives (s : State) (p job ref alg : Nat) (budget : Time) (fingerprint digest sig : Bytes) : State :=
  if !acceptEn s || acceptLimit s ≤ poolQueued s || !isSigAlg alg then answerLent s p job none
  else match lentKey s ref alg fingerprint with
    | none => answerLent s p job none
    | some k =>
      let deadline := s.now + budget
      match tryBind s none (s.now + 340 * nsT) (deadline + decisionTime) (coreTime alg) with
      | .error _ => answerLent s p job none
      | .ok (n, start, finish) =>
        let s := { s with cham := { s.cham with lentIn := sat64 s.cham.lentIn } }
        enterBound s { frame := job, part := 0, core := n, start := start, finish := finish, lentFrom := some p,
                       deadline := deadline, alg := alg, key := k, digest := digest, sig := sig }

/-- A lender's final status for a part, unless its frame's deadline came first. -/
def answeredPart (s : State) (frame i : Nat) (st : Status) : State :=
  match (portOfFrame s frame).bind fun p => (findHeld s p frame).map fun h => (p, h) with
  | some (p, h) => if h.deadline ≤ s.now then expire s p h else partDone s frame i st true
  | none => s

/-- A lender's answer arrives (R137).  One that comes at or after the deadline finds its frame refused with no answer. -/
def lentAnswerArrives (s : State) (p job : Nat) (st : Option Status) : State :=
  let frame := job / 2
  let i := job % 2
  if !s.cham.out.any fun j => j.frame == frame && j.part == i && j.port == p then s
  else
    let s := { s with cham := { s.cham with out := s.cham.out.filter fun j => !(j.frame == frame && j.part == i && j.port == p) } }
    let s := if st.isSome then { s with cham := { s.cham with lentOut := sat64 s.cham.lentOut } }
      else { s with cham := { s.cham with declined := sat64 s.cham.declined } }
    match st with
    | some .ok => answeredPart s frame i .ok
    | some .invalidSignature => answeredPart s frame i .invalidSignature
    | some .invalidKey => answeredPart s frame i .invalidKey
    | _ => bindAgain s frame i

/-! ## Messages -/

/-- What a message that has passed its checks does. -/
def messageEffect (s : State) (p : Nat) : ChamberMsg → State
  | .hello _ _ _ => s
  | .proof _ => s
  | .heartbeat b =>
    let s := updLink s p fun l => { l with missed := 0, askedAt := none, heardAt := s.now }
    { s with cham := { s.cham with adverts := s.cham.adverts.put (link s p).peer (readAdvert b s.now) } }
  | .heartbeatRequest => sendMessage s p (.heartbeat (advertBytes s))
  | .pairQuery w => sendMessage s p (.pairAnswer w (wire s w).active.mode (wire s w).active.pair)
  | .pairAnswer w m q => pairAnswerArrives s p w m q
  | .job id ref alg budget fp d sg => lentArrives s p id ref alg budget fp d sg
  | .jobAnswer id st => lentAnswerArrives s p id st

/-- A message arrives at a chamber port: handshake messages carry no CMAC; a later one on a link that is up is checked by CMAC
and sequence (R130). -/
def receiveMessage (s : State) (p : Nat) (msg : ChamberMsg) (seq : Nat) (mac : Bytes) : State :=
  if !isChamber s p then s
  else match msg with
    | .hello serial peer nonce => helloArrives s p serial peer nonce
    | .proof m => proofArrives s p m
    | _ =>
      if !linkUp s p then s
      else if !authentic s p msg seq mac then discardMessage s
      else messageEffect (updLink s p fun l => { l with rxSeq := seq }) p msg

/-- CHAMBER_MESSAGE_RECEIVE. -/
def execChamberMessageReceive (p : Fin 144) (msg : ChamberMsg) (seq : Nat) (mac : Bytes) (t : Time) (s : State) : Outcome :=
  let s := advance s t
  if stopped s 0 then .next s else .next (receiveMessage (refreshLinks s) p.val msg seq mac)

/-- PAIR_CHECK_ANSWER: the message is a pair answer. -/
def execPairCheckAnswer (p : Fin 144) (msg : ChamberMsg) (seq : Nat) (mac : Bytes) (t : Time) (s : State) : Outcome :=
  let s := advance s t
  match msg with
  | .pairAnswer _ _ _ => .next (if stopped s 0 then s else receiveMessage (refreshLinks s) p.val msg seq mac)
  | _ => .next s

/-- LENT_JOB_ARRIVAL: the message is a lent job. -/
def execLentJobArrival (p : Fin 144) (msg : ChamberMsg) (seq : Nat) (mac : Bytes) (t : Time) (s : State) : Outcome :=
  let s := advance s t
  match msg with
  | .job _ _ _ _ _ _ _ => .next (if stopped s 0 then s else receiveMessage (refreshLinks s) p.val msg seq mac)
  | _ => .next s

/-- LENT_RESULT_ARRIVAL: the message is a lender's answer. -/
def execLentResultArrival (p : Fin 144) (msg : ChamberMsg) (seq : Nat) (mac : Bytes) (t : Time) (s : State) : Outcome :=
  let s := advance s t
  match msg with
  | .jobAnswer _ _ => .next (if stopped s 0 then s else receiveMessage (refreshLinks s) p.val msg seq mac)
  | _ => .next s

/-! ## Heartbeats and board signals (R131, R133) -/

/-- HEARTBEAT_SEND: a heartbeat with its advertisement goes out on each link that is up. -/
def execHeartbeatSend (t : Time) (s : State) : Outcome :=
  let s := refreshLinks (advance s t)
  if stopped s 0 then .next s
  else .next ((upLinks s).foldl (fun s p => sendMessage s p (.heartbeat (advertBytes s))) s)

/-- HEARTBEAT_MISS: a heartbeat has failed to arrive; at the third in a row the link goes DOWN. -/
def execHeartbeatMiss (p : Fin 144) (t : Time) (s : State) : Outcome :=
  let s := advance s t
  let l := link s p.val
  if !linkUp s p.val || stopped s 0 || s.now < l.heardAt + (l.missed + 1) * 10 * usT then .next s
  else if 3 ≤ l.missed + 1 then .next (linkDown s p.val 5)
  else .next (updLink s p.val fun l => { l with missed := l.missed + 1 })

/-- LINK_RETRY: every 1 ms a member tries to bring each DOWN link up again; a handshake that has not ended is begun anew.  A link
kept down with DUPLICATE_ID passes nothing (R128). -/
def execLinkRetry (t : Time) (s : State) : Outcome :=
  let s := refreshLinks (advance s t)
  if stopped s 0 then .next s
  else .next (((chamberPorts s).filter fun p => !linkUp s p && (link s p).reason != 4).foldl startHandshake s)

/-- CHAMBER_ALERT_EDGE: a falling edge, driven by another member, brings a heartbeat request on every link (R133). -/
def execChamberAlertEdge (t : Time) (s : State) : Outcome :=
  let s := advance s t
  let s := setEvent s 0
  if s.now < s.cham.alertLowUntil || stopped s 0 then .next s
  else .next ((upLinks s).foldl (fun s p =>
    updLink (sendMessage s p .heartbeatRequest) p fun l => { l with askedAt := some s.now }) s)

/-- HEARTBEAT_REQUEST_TIMEOUT: a link with no answer within 5 µs goes DOWN at once. -/
def execHeartbeatRequestTimeout (p : Fin 144) (t : Time) (s : State) : Outcome :=
  let s := advance s t
  match (link s p.val).askedAt with
  | none => .next s
  | some a => if !linkUp s p.val || stopped s 0 || s.now < a + 5 * usT then .next s else .next (linkDown s p.val 5)

/-- CHAMBER_SYNC_CHANGE: the shared line changes level, and SYNC_ALL_READY follows it.  It cannot rise while this member
holds it low. -/
def execChamberSyncChange (high : Bool) (t : Time) (s : State) : Outcome :=
  let s := advance s t
  .next { s with cham := { s.cham with syncHigh := high && s.cham.syncReleased } }

/-! ## Commands (R139) -/

/-- Write KAR_CHAMBER_CFG: every link that is UP goes down, and comes up again under the new key. -/
def writeChamberCfg (s : State) (v : Word) : State :=
  let s := { s with cham := { s.cham with cfg := BitVec.ofNat 32 (field v 8 0) } }
  let s := (upLinks s).foldl (fun s p => linkDown s p (if bit v 8 then 0 else 6)) s
  refreshLinks s

/-- KAR_CHAMBER_SET: sets KEY_SLOT and ENABLE under the critical quorum of domain 0; links in use go DOWN and come up again
under the new key. -/
def execKarChamberSet (c : Cmd) (s : State) : Outcome :=
  .next (command s c 0x0B80 fun s =>
    match c.regWrites with
    | [(0, v)] =>
      if (chamberKey s (field v 7 0)).isNone then answerStatus s c.reply .invalidKey
      else withCritical s c 0x0B80 0 fun s reasons =>
        answerOk (writeRestore (writeChamberCfg s v)) c reasons []
    | _ => answerStatus s c.reply .invalidParameter)

/-- The writable fields of KAR_LEND_CFG. -/
def lendMask : Word := 0xC07FF7FF

/-- OFFER_MARK and ACCEPT_LIMIT of a value lie within 1,024 (R138). -/
def lendOk (v : Word) : Bool := field v 10 0 ≤ 1024 && field v 22 12 ≤ 1024

/-- KAR_LEND_SET: writes KAR_LEND_CFG. -/
def execKarLendSet (c : Cmd) (s : State) : Outcome :=
  .next (command s c 0x0B81 fun s =>
    match c.regWrites with
    | [(0x10, v)] =>
      if !lendOk v then answerStatus s c.reply .invalidParameter
      else answerOk (writeRestore { s with cham := { s.cham with lend := storeMasked s.cham.lend v lendMask } }) c [] []
    | _ => answerStatus s c.reply .invalidParameter)

/-- KAR_LINK_STATUS of chamber link `l` (R138). -/
def linkStatus (s : State) (l : Nat) : Word :=
  match (chamberPorts s)[l]? with
  | none => 0xFF
  | some p => BitVec.ofNat 32 (p + (link s p).peer % 16 * 2 ^ 8 + (link s p).state * 2 ^ 12 + (link s p).reason * 2 ^ 16)

/-- KAR_CHAMBER_STATUS. -/
def chamberStatus (s : State) : Word :=
  let up := ((upLinks s).map fun p => (link s p).peer % 16).eraseDups
  BitVec.ofNat 32 (s.id.chamberId % 16 + bitAt s.cham.syncHigh 4 + (up.map fun m => 2 ^ (16 + m)).sum)

/-- The low word of a counter. -/
def lowWord (n : Nat) : Word := BitVec.ofNat 32 n
/-- The high word of a counter. -/
def highWord (n : Nat) : Word := BitVec.ofNat 32 (n / 2 ^ 32)

/-- The registers of the chamber block by offset (R138): their values, whole counters as two words. -/
def chamberRegs (s : State) : List (Nat × Word) :=
  let wide (off n : Nat) : List (Nat × Word) := [(off, lowWord n), (off + 4, highWord n)]
  [(0x00, s.cham.cfg), (0x04, chamberStatus s), (0x08, s.cham.event), (0x10, s.cham.lend)]
    ++ (List.range 16).map (fun l => (0x20 + 4 * l, linkStatus s l))
    ++ wide 0x60 s.cham.lentOut ++ wide 0x68 s.cham.lentIn ++ wide 0x70 s.cham.declined ++ wide 0x78 s.cham.lost
    ++ wide 0x80 s.cham.authFail

/-- KAR_CHAMBER_READ: the chamber registers and every wire's pair status, at one instant. -/
def execKarChamberRead (c : Cmd) (s : State) : Outcome :=
  .next (command s c 0x0B82 fun s =>
    answerOk s c [] ((chamberRegs s).map (fun e => .reg (0x02200000 + e.1) e.2)
      ++ (List.range 72).map fun w => RItem.reg (wireStatusBase w + 0x118) (pairStatus s w)))

end Sys2Proof.Machine
end

