-- ==== Sys2Proof/Machine/Pke.lean ====
section
/-!
DEFINITION. The public-key engine: cores and their jobs, fixed times, aborts, pools, loaded curves, and the engine's commands
(R143 to R182).
-/

namespace Sys2Proof.Machine

/-! ## Fixed times (R156, R157, R175) -/

/-- Cycles of SIGN, VERIFY, KEYGEN and DERIVE of the algorithms whose time is one number; ML-DSA SIGN is listed for no
attempt. -/
def fixedTable : List (Nat × List Nat) :=
  [(0x01, [156000, 92000, 62000, 64000]), (0x02, [528000, 312000, 212000, 216000]),
   (0x03, [1604000, 948000, 644000, 652000]), (0x04, [176000, 104000, 70000, 72000]),
   (0x05, [596000, 352000, 240000, 244000]), (0x10, [112000, 66000, 44000, 0]), (0x11, [356000, 210000, 142000, 0]),
   (0x12, [0, 0, 40000, 40000]), (0x13, [0, 0, 128000, 128000]), (0x30, [36000, 20000, 24000, 0]),
   (0x31, [54000, 30000, 38000, 0]), (0x32, [78000, 44000, 54000, 0]),
   (0x38, [0, 0, 9000, 0, 11000, 14000]), (0x39, [0, 0, 14000, 0, 17000, 22000]), (0x3A, [0, 0, 20000, 0, 24000, 31000])]

/-- Cycles that each attempt of ML-DSA SIGN adds. -/
def attemptCycles (algo : Nat) : Nat := if algo = 0x30 then 22000 else if algo = 0x31 then 32000 else 44000

/-- Cycles of an RSA operation of `w` words. -/
def rsaCycles (op w c m : Nat) : Nat :=
  let verify := 140 * w * w + 2000
  let sign := 68 * w * w * w + 140 * w * w + 10000
  if op = 2 then verify
  else if op = 1 then sign
  else 200000 + 24000 * c + 1350 * (w / 2) * (w / 2) * (w / 2) * m + sign + verify

/-- Words of a loaded curve's field. -/
def curveWords (record : Bytes) : Nat := (fieldBits record + 63) / 64

/-- T of a job (R155): `c` and `m` are the candidates and survivors of RSA KEYGEN, `a` the attempts of ML-DSA SIGN, `hasQ` whether
a finite-field group carries q, and `record` the loaded curve.  A KEYGEN whose draw failed takes the base time alone (R154). -/
def jobCycles (b : JobBlock) (a c m : Nat) (hasQ : Bool) (record : Bytes) (drawFailed : Bool) : Nat :=
  let w := b.sizeWords
  if b.algo = 0x0F then
    let k := curveWords record
    (if b.op = 2 then 1700 else if b.op = 1 then 2850 else 1200) * k * k * k
  else if isRsa b.algo || b.algo = 0x22 then
    (if b.op = 3 && drawFailed then 200000 else rsaCycles b.op w c m)
  else if b.algo = 0x28 then 2200 * w * w + 5000 + (if b.op = 4 && hasQ then 270 * w * w * w else 0)
  else
    let base := ((fixedTable.lookup b.algo).getD []).getD (b.op - 1) 0
    if isMlDsa b.algo && b.op = 1 then base + attemptCycles b.algo * (if drawFailed then 1 else a) else base

/-- Cycles of the checks of a curve record (R175). -/
def curveCheckCycles (record : Bytes) : Nat := 18000 * curveWords record * curveWords record * curveWords record

/-! ## Staging (R145, R154, R172) -/

/-- The key that a job stages: none for KEYGEN and for the checks of a curve record, the inline one, or the one its slot now holds. -/
def pkeKey (s : State) (j : PkeJob) : KeyFetch :=
  let b := j.block
  if b.op = 3 || j.curve.isSome then .got 0 []
  else if b.flag 1 then .got 0 (inlineKey b)
  else if suspended s then .away
  else fetchFor s b.keyHandle (pkeKeyUse b) (pkeKeyFits b)

/-- What the filling of a staging buffer comes to. -/
inductive Staging
  | full (j : PkeJob)
  | ends (st : Status)
  | waits
  deriving DecidableEq, Repr

/-- Draw a job's randomness from the home instance of core `n`; a refused draw leaves zeros (R154). -/
def stageDraw (s : State) (n : Nat) (j : PkeJob) (size : Nat) : State × Staging :=
  if size = 0 then (s, .full j)
  else if !bit s.id.ready 3 && !s.rng.failed then (s, .waits)
  else match draw s (n % 8) false size with
    | (s, .ok b) => (s, .full { j with random := b })
    | (s, .error .rngDegraded) => (s, .full { j with random := zeros size, drawFailed := true })
    | (s, .error _) => (s, .waits)

/-- Fill the staging buffer of core `n` for a job whose digests are made: its key under the word its slot now carries, then its randomness.
A key that has left its slot is paged in again; no key fetch begins under a response of S2 or above (R12). -/
def fillStaging (s : State) (n : Nat) (j : PkeJob) : State × Staging :=
  if !digestsDone j then (s, .waits)
  else match pkeKey s j with
    | .away => (if suspended s then s else askPageIn s j.block.keyHandle, .waits)
    | .barred st => (s, .ends st)
    | .got slot key =>
      let s := if j.block.keyHandle = 0 then s else touchSlot s slot
      stageDraw s n { j with key := some key } (drawSize j (jobCurve s j.block))

/-- Stage the first of the waiting jobs that can be staged on core `n`, or end one that cannot run. -/
def stageFrom (n : Nat) : List PkeJob → State → State
  | [], s => s
  | j :: t, s => match fillStaging s n j with
    | (s, .full k) => updCore (unwait s j.id) n fun c => { c with staged := some k }
    | (s, .ends st) => endPkeUnstarted (unwait s j.id) j st
    | (s, .waits) => stageFrom n t s

/-- Stage again, after the zeroing, the job whose buffer on core `n` an abort has zeroed (R166). -/
def restage (s : State) (n : Nat) : State :=
  let c := core s n
  match c.staged with
  | none => s
  | some j =>
    if j.key.isSome || c.state == .zeroing then s
    else match fillStaging s n j with
      | (s, .full k) => updCore s n fun c => { c with staged := some k }
      | (s, .ends st) => endPkeUnstarted (updCore s n fun c => { c with staged := none }) j st
      | (s, .waits) => s

/-- SERVICE_JOB_STAGE: the oldest waiting service job that may start goes to the lowest SERVICE core whose staging buffer is empty, with
its key and the randomness of that core's home instance; a job whose buffer was zeroed is staged again. -/
def execServiceJobStage (t : Time) (s : State) : Outcome :=
  let s := advance s t
  .next (if stopped s 2 then s
    else
      let s := (s.pke.cores.map (·.1)).foldl restage s
      match (serviceCores s).find? fun n => (core s n).staged.isNone with
      | some n => stageFrom n s.pke.waiting s
      | none => s)

/-- The RNG holds the command or job of a reply: its request waits at an instance, it waits in the dispatcher for randomness that it will
draw, or its segment waits for a random IV (R154, R232, R233). -/
def heldForRng (s : State) (r : Reply) : Bool :=
  let waits (j : PkeJob) : Bool :=
    j.reply == r && drawSize j (jobCurve s j.block) != 0 && !bit s.id.ready 3 && !s.rng.failed
  let serving (h : Nat) : Bool := (homeOf s h).any fun i => (inst s i).state == 1 || (inst s i).state == 2
  drawHeld s r || s.pke.waiting.any waits || s.pke.cores.any (fun e => e.2.staged.any fun j => j.key.isNone && waits j)
    || s.eng.svcs.any fun e => match e.2.hold with
      | some h => h.running.isNone && h.queue.head?.any fun j => j.reply == r && j.block.first && j.block.ivRandom && !serving (e.1 % 8)
      | none => false

/-! ## Starting -/

/-- Begin a job on a core. -/
def beginCore (s : State) (n : Nat) (r : CoreRun) : State :=
  updCore s n fun c => { c with state := .busy, running := some r }

/-- Take a bound job off the list. -/
def unbind (s : State) (b : BoundJob) : State :=
  { s with psg := { s.psg with bound := s.psg.bound.filter fun x =>
      !(x.frame == b.frame && x.part == b.part && x.lentFrom == b.lentFrom) } }

/-- Begin a bound job: a borrowed one under the key resolved at its arrival, a frame's own under the key its slot now
holds (R93). -/
def startBound (s : State) (n : Nat) (b : BoundJob) : State :=
  let s := unbind s b
  match b.lentFrom with
  | some p => beginCore s n { user := .borrowed p b.frame, startAt := s.now, cycles := verifyCycles b.alg, op := 2, algo := b.alg,
                              key := b.key, digest := b.digest, sig := b.sig, stopAt := b.deadline }
  | none =>
    match portOfFrame s b.frame with
    | none => s
    | some p =>
      match findHeld s p b.frame with
      | none => s
      | some h =>
        match partAt h b.part, fetchKey s h with
        | some x, some v =>
          let key := (((partsOf h.trailer.alg v []).find? (·.alg == x.alg)).map (·.key)).getD v
          beginCore s n { user := .passage b.frame b.part, startAt := s.now, cycles := verifyCycles x.alg, op := 2,
                          algo := x.alg, key := key, digest := x.digest, sig := x.sig }
        | some _, none => refuseHeld s p h { verdict := .keyUnknown, cause := 1 } false
        | none, _ => s

/-- Begin a staged service job under the key and the randomness in its staging buffer (R145, R155). -/
def startStaged (s : State) (n : Nat) (j : PkeJob) (key : Bytes) : State :=
  let record := jobCurve s j.block
  let (a, c, m, _) := jobCounts j
  let cycles := match j.curve with
    | some rec => curveCheckCycles rec
    | none =>
      jobCycles j.block a c m (j.block.algo == 0x28 && (groupOf j.block.sizeWords key).2.2.2.isSome) record j.drawFailed
  beginCore (updCore s n fun c => { c with staged := none }) n {
    user := .service j
    startAt := s.now
    cycles := cycles
    op := j.block.op
    algo := j.block.algo
    key := key
    record := record
    attempts := a
    candidates := c
    survivors := m }

/-- CORE_JOB_START: an IDLE core starts the next job bound to it, whose predicted start has come, or the service job whose staging is
complete.  No key fetch begins under a response of S2 or above (R12). -/
def execCoreJobStart (n : Fin 96) (t : Time) (s : State) : Outcome :=
  let s := advance s t
  let c := core s n.val
  if c.state ≠ .idle || c.running.isSome || stopped s 2 then .next s
  else match s.psg.bound.find? (·.core == n.val) with
    | some b => if s.now < b.start || suspended s then .next s else .next (startBound s n.val b)
    | none =>
      match c.staged.bind fun j => j.key.map fun k => (j, k) with
      | some (j, k) => .next (startStaged s n.val j k)
      | none => .next s

/-! ## Failures of cores (R97, R126, R163) -/

/-- A borrowed job is bound again; where its deadline cannot be met, its borrower hears FAULT_DETECTED. -/
def rebindBorrowed (s : State) (b : BoundJob) (p : Nat) : State :=
  match tryBind s none s.now (b.deadline + decisionTime) (coreTime b.alg) with
  | .error _ => answerLent s p b.frame (some .faultDetected)
  | .ok (n, start, finish) => enterBound s { b with core := n, start := start, finish := finish }

/-- Bind again the jobs that a failed core held, the running one first. -/
def rebindJobs (s : State) (n : Nat) (running : Option CoreRun) : State :=
  let queued := s.psg.bound.filter (·.core == n)
  let s := { s with psg := { s.psg with bound := s.psg.bound.filter (·.core != n) } }
  let s := updCore s n fun c => { c with busyUntil := 0 }
  let first : List BoundJob := match running with
    | some r => match r.user with
      | .passage f i => [{ frame := f, part := i, core := n, start := 0, finish := 0 }]
      | .borrowed p j => [{ frame := j, part := 0, core := n, start := 0, finish := 0, lentFrom := some p, deadline := r.stopAt,
                            alg := r.algo, key := r.key, digest := r.digest, sig := r.sig }]
      | .service _ => []
    | none => []
  (first ++ queued).foldl (fun s b => match b.lentFrom with
    | some p => rebindBorrowed s b p
    | none => rebindPart s b.frame b.part) s

/-! ## Statuses (R152, R159, R160) -/

/-- End a started service job with a status other than OK. -/
def failPke (s : State) (n : Nat) (r : CoreRun) (j : PkeJob) (st : Status) (cycles : Nat) : State :=
  let outs := zeroOuts j.block
  endJob s j.caller j.reply {
    status := st
    engine := n
    outLen := outsLen outs
    block := pkeBlock st j.block.op j.block.algo n 0 r.attempts r.candidates r.survivors cycles (outsLen outs) 0
    outs := outs }

/-- The status of a service job's operation (R160). -/
def resultStatus (j : PkeJob) (p : PkeResult) : Status :=
  if p.keyBad then .invalidKey
  else if p.signatureBad then .invalidSignature
  else if p.inputBad then .invalidInput
  else if j.drawFailed then .rngDegraded
  else if p.noResult then .internal
  else .ok

/-- End a service job that has run to its time (R149, R152). -/
def finishPke (s : State) (n : Nat) (r : CoreRun) (j : PkeJob) : State :=
  let b := j.block
  let p := jobResult j r.record r.key
  let st := resultStatus j p
  if st ≠ .ok then
    let s := if st = .internal then event s 1 3 0x0301 else s
    failPke s n r j st r.cycles
  else
    let outs := ((b.operands.filter (·.output)).zip p.outs).map fun e => (e.1.address, e.2)
    let dest := if hasDest b.op then b.destHandle else 0
    let e : JobEnd := {
      status := .ok
      engine := n
      outLen := outsLen outs
      block := pkeBlock .ok b.op b.algo n 0 r.attempts r.candidates r.survivors r.cycles (outsLen outs) dest
      outs := outs }
    if hasDest b.op then
      storeResult s j.caller j.reply b.destHandle
        { attr := { b.destAttr with origin := if b.op = 3 then 0 else 2 }, value := p.secret } e
    else endJob s j.caller j.reply e

/-- End the checks of a curve record (R174, R176). -/
def finishCurve (s : State) (j : PkeJob) (record : Bytes) : State :=
  let k := curveCheck record j.random
  if j.drawFailed then answerStatus s j.reply .rngDegraded
  else if k ≠ 0 then answer s j.reply { status := .curveRejected, items := [.blob (leBytes 1 k)] }
  else match s.pke.curves.free 0 256 with
    | none => answerStatus s j.reply .invalidParameter
    | some i =>
      let s := { s with pke := { s.pke with curves := s.pke.curves.put i { domain := j.domain, record := record } } }
      answer s j.reply { status := .ok, items := [.item 0x1D (leBytes 1 i)] }

/-- The staged job of a core goes back to the head of the dispatcher's queue. -/
def unloadCore (s : State) (n : Nat) : State :=
  let j := (core s n).staged.map unstaged
  let s := updCore s n fun c => { c with staged := none }
  { s with pke := { s.pke with waiting := j.toList ++ s.pke.waiting } }

/-- A core is done with its job. -/
def coreFree (s : State) (n : Nat) (busy : Nat) : State :=
  let off := (core s n).takeOffline
  let s := updCore (countJob s n busy) n fun c => { c with
    running := none
    state := if off then .offline else .idle
    takeOffline := false }
  if off then refreshPke (rebindJobs (unloadCore s n) n none) else s

/-- The status of a verification under R97 (R159). -/
def verifyStatus (r : CoreRun) : Status :=
  match sigCheck r.algo r.key r.digest r.sig with
  | (false, _) => .invalidKey
  | (true, false) => .invalidSignature
  | (true, true) => .ok

/-- Deliver a job's status to its user. -/
def deliver (s : State) (n : Nat) (r : CoreRun) : State :=
  match r.user with
  | .passage f i => partDone s f i (verifyStatus r) false
  | .borrowed p j => answerLent s p j (some (verifyStatus r))
  | .service j => match j.curve with
    | some rec => finishCurve s j rec
    | none => finishPke s n r j

/-- A row of R161 names the operation of a running job; row 11 names every one. -/
def rowFits (r : CoreRun) (row : Nat) : Bool :=
  row == 11 || (match r.user with
    | .service j =>
      let op := j.block.op
      let a := j.block.algo
      j.curve.isNone && (
        if row = 1 then op == 1 && (isWeierstrass a || isEdwards a)
        else if row = 2 then isWeierstrass a && (op == 3 || op == 4)
        else if row = 3 then a == 0x12 || a == 0x13
        else if row = 4 then isRsa a && op == 1
        else if row = 5 then a == 0x22
        else if row = 6 then a == 0x28
        else if row = 7 then isMlDsa a && op == 1
        else if row = 8 then isMlDsa a && op == 3
        else if row = 9 then isMlKem a && (op == 3 || op == 5)
        else isMlKem a && op == 6 && row == 10)
    | _ => false)

/-- CORE_STATUS_DELIVERED: exactly T cycles after its start a job's status is delivered; `invariant` is the row of R161 that fails, and 0,
or a row that does not name the job's operation, says that all hold (R155, R161, R162).  A failed invariant raises a FAULT alarm, and
the job ends with FAULT_DETECTED, or with SUSPENDED where a response of S2 or above took effect in the same NCLK cycle (R164); of the
two in one cycle the model takes the one commanded first as having come first (assumption 121). -/
def execCoreStatusDelivered (n : Fin 96) (invariant : Fin 12) (t : Time) (s : State) : Outcome :=
  let s := advance s t
  match (core s n.val).running with
  | none => .next s
  | some r =>
    let due := r.startAt + r.cycles * nclkT
    let fails := rowFits r invariant.val
    let both := r.stop == some .suspended && decide (due < r.stopAt + nclkT) && fails
    if (r.stop.isSome && !both) || s.now ≠ due || stopped s 2 then .next s
    else if fails then
      let s := faultCore (countJob s n.val r.cycles) n.val invariant.val
      let st : Status := if both then .suspended else .faultDetected
      let s := match r.user with
        | .service j => match j.curve with
          | some _ => answerStatus s j.reply st
          | none => failPke s n.val r j st r.cycles
        | .borrowed p j => if both then answerLent s p j (some .suspended) else s
        | .passage _ _ => s
      .next (rebindJobs s n.val (if both then none else some r))
    else .next (deliver (coreFree s n.val r.cycles) n.val r)

/-- CORE_WATCHDOG: no status came within 64 cycles of a job's time; the core is taken out of the pool and its jobs are bound
again (R126, R163). -/
def execCoreWatchdog (n : Fin 96) (t : Time) (s : State) : Outcome :=
  let s := advance s t
  match (core s n.val).running with
  | none => .next s
  | some r =>
    if r.stop.isSome || s.now < r.startAt + (r.cycles + 64) * nclkT || stopped s 2 then .next s
    else
      let s := updCore s n.val fun c => { c with busy := satAdd 64 c.busy (r.cycles + 64) }
      let s := dropCore s n.val false
      let s := match r.user with
        | .service j => match j.curve with
          | some _ => answerStatus s j.reply .faultDetected
          | none => failPke s n.val r j .faultDetected (r.cycles + 64)
        | _ => s
      .next (rebindJobs s n.val (some r))

/-! ## Aborts and stops (R165 to R168) -/

/-- Stop a running job: the core zeroes itself and its staging buffer, then delivers the status.  SUSPENDED overrides ABORTED. -/
def stopCore (s : State) (n : Nat) (st : Status) : State :=
  match (core s n).running with
  | none => s
  | some r =>
    let at_ := if r.stop.isSome then r.stopAt else s.now
    updCore s n fun c => { c with
      state := .zeroing
      running := some { r with stop := some st, stopAt := at_ }
      staged := c.staged.map unstaged }

/-- What a stopped job counted before it stopped, which the spec leaves open within the counts of its whole run: free values. -/
def stoppedCounts (s : State) (r : CoreRun) : State × CoreRun :=
  let (k, s) := drawFree s
  let part (i n : Nat) : Nat := Config.freeNat (4 * k + i) % (n + 1)
  (s, { r with attempts := part 0 r.attempts, candidates := part 1 r.candidates, survivors := part 2 r.survivors })

/-- CORE_ZEROING_END: the zeroing of a stopped core ends, and its job's ABORTED or SUSPENDED is delivered (R166, R168). -/
def execCoreZeroingEnd (n : Fin 96) (t : Time) (s : State) : Outcome :=
  let s := advance s t
  match (core s n.val).running with
  | none => .next s
  | some r =>
    match r.stop with
    | none => .next s
    | some st =>
      if s.now < r.stopAt + zeroingTime || stopped s 2 then .next s
      else
        let cycles := (s.now - r.startAt) / nclkT
        let (s, r) := stoppedCounts (coreFree s n.val cycles) r
        match r.user with
        | .passage _ _ => .next s
        | .borrowed p j => .next (answerLent s p j (some .suspended))
        | .service j => match j.curve with
          | some _ => .next (answerStatus s j.reply st)
          | none => .next (failPke s n.val r j st cycles)

/-- A response of S2 or above stops every started job, and the borrowed jobs that wait (R12, R136, R168). -/
def suspendCores (s : State) : State :=
  let s := (List.range 96).foldl (fun s n => stopCore s n .suspended) s
  let lent := s.psg.bound.filter (·.lentFrom.isSome)
  let s := { s with psg := { s.psg with bound := s.psg.bound.filter (·.lentFrom.isNone) } }
  lent.foldl (fun s b => match b.lentFrom with
    | some p => answerLent s p b.frame (some .suspended)
    | none => s) s

/-- The public-key job that a reply names, if it waits at a source. -/
def pkeAtSource (s : State) (n : Nat) (r : Reply) : Option PkeJob :=
  (source s n).jobs.findSome? fun e => match e.2 with
    | .pke j => if j.reply == r then some j else none
    | _ => none

/-- The core that runs the job a reply names. -/
def coreRunning (s : State) (r : Reply) : Option Nat :=
  (List.range 96).find? fun n => match (core s n).running.map (·.user) with
    | some (CoreUser.service j) => j.reply == r
    | _ => false

/-- Abort the public-key job that a reply names (R166, R167): one that has not started ends at once, one that runs is stopped
unless its status is due; none where it is unknown or finished. -/
def abortPke (s : State) (n : Nat) (r : Reply) : Option State :=
  match pkeAtSource s n r with
  | some j => some (endPkeUnstarted (unsubmit s n fun w => w.id == j.id) j .aborted)
  | none =>
    match s.pke.waiting.find? (·.reply == r) with
    | some j => some (endPkeUnstarted (unwait s j.id) j .aborted)
    | none =>
      match (List.range 96).find? fun k => match (core s k).staged with
          | some j => j.reply == r
          | none => false with
      | some k =>
        match (core s k).staged with
        | some j => some (endPkeUnstarted (updCore s k fun c => { c with staged := none }) j .aborted)
        | none => none
      | none =>
        match coreRunning s r with
        | none => none
        | some k =>
          match (core s k).running with
          | none => none
          | some x =>
            if x.stop.isSome || x.startAt + x.cycles * nclkT ≤ s.now then some s else some (stopCore s k .aborted)

/-! ## Self-tests and pools (R169 to R172, R179 to R181) -/

/-- NCLK cycles of a core's self-test (R179). -/
def selfTestCycles : Nat := 1800000

/-- When the self-test of core `n` ends: after its zeroing or its RETEST, or in its turn of sixteen after the boot ROM (R163, R179). -/
def coreTestEnd (s : State) (n : Nat) : Option Time :=
  match (core s n).testFrom with
  | some f => some (f + selfTestCycles * nclkT)
  | none => s.id.romAt.map fun f => f + (n / 16 + 1) * selfTestCycles * nclkT

/-- CORE_SELF_TEST_END: a self-test ends in its time, and the core is ready or OFFLINE (R163, R179). -/
def execCoreSelfTestEnd (n : Fin 96) (passes : Bool) (t : Time) (s : State) : Outcome :=
  let s := advance s t
  let c := core s n.val
  let due := (coreTestEnd s n.val).any fun e => decide (e ≤ s.now)
  if !due || !(c.state == .selfTest || c.state == .failed) || stopped s 2 then .next s
  else .next (refreshPke (updCore s n.val fun c => { c with state := if passes then .idle else .offline }))

/-- Complete a pool commit once every moving core has switched (R171). -/
def settlePool (s : State) : State :=
  match s.pke.target with
  | none => s
  | some m =>
    if (List.range 96).any fun n => (core s n).moving then s
    else
      let reply := s.pke.waiter
      let s := (List.range 96).foldl (fun s n => if (core s n).switched then updCore s n fun c => { c with switched := false }
        else s) s
      let s := { s with pke := { s.pke with active := m, target := none, gen := nextGen s.pke.gen, waiter := none } }
      let s := writeRestore (refreshPke s)
      match reply with
      | some r => answer s r { status := .ok, items := [.generation s.pke.gen], reasons := s.pke.reasons }
      | none => s

/-- CORE_POOL_SWITCH: a moving core that has run out its jobs switches pool. -/
def execCorePoolSwitch (n : Fin 96) (t : Time) (s : State) : Outcome :=
  let s := advance s t
  let c := core s n.val
  if !c.moving || c.running.isSome || c.staged.isSome || s.psg.bound.any (·.core == n.val) || stopped s 2 then .next s
  else .next (settlePool (refreshPke (updCore s n.val fun c => { c with moving := false, switched := true })))

/-- The checks of R170, in order. -/
def poolCheck (s : State) : Option Status :=
  let service := (List.range 96).countP fun n => !mapBit s.pke.shadow n
  firstOf [(s.pke.target.isSome, .busyLocked), (decide (service < 8), .invalidParameter), (!s.pke.grant, .quorumMissing)]

/-- A commit request, with the reason codes of the approval records that came with it (R170, R171). -/
def requestPool (s : State) (reply : Option Reply) (reasons : List Nat) : State :=
  match poolCheck s with
  | some st =>
    let s := { s with pke := { s.pke with commitErr := Status.code st, grant := false } }
    match reply with
    | some r => answerCommit s r st reasons
    | none => s
  | none =>
    let m := s.pke.shadow
    let s := { s with pke := { s.pke with commitErr := 0, grant := false, target := some m, waiter := reply, reasons := reasons } }
    let s := (List.range 96).foldl (fun s n => if mapBit s.pke.active n ≠ mapBit m n then
        updCore s n fun c => { c with moving := true } else s) s
    settlePool (refreshPke s)

/-- Copy ACTIVE into SHADOW, unless a commit is pending. -/
def discardPool (s : State) : State :=
  if s.pke.target.isSome then s else { s with pke := { s.pke with shadow := s.pke.active } }

/-- POOL_COMMIT: a write of COMMIT to PKE_POOL_COMMIT. -/
def execPoolCommit (m : Master) (s : State) : Outcome :=
  if !m.isSecure then .next (refuseAccess s m 0x00100820 true) else .next (requestPool s none [])

/-- POOL_DISCARD: a write of DISCARD to PKE_POOL_COMMIT. -/
def execPoolDiscard (m : Master) (s : State) : Outcome :=
  if !m.isSecure then .next (refuseAccess s m 0x00100820 true) else .next (discardPool s)

/-- A core with a job bound to it or staged on it. -/
def coreLoaded (s : State) (n : Nat) : Bool := (core s n).staged.isSome || s.psg.bound.any (·.core == n)

/-- RETEST on a core: a FAILED one, or an IDLE one with no job bound or staged, runs its self-test. -/
def retestCore (s : State) (n : Nat) : State :=
  let c := core s n
  if c.state = .failed || (c.state = .idle && !coreLoaded s n) then
    refreshPke (updCore s n fun c => { c with
      state := .selfTest, testFrom := some (max s.now (if c.state = .failed then c.testFrom.getD 0 else 0)) })
  else s

/-- CORE_RETEST: a write of RETEST to PKE_CORE_CTRL. -/
def execCoreRetest (m : Master) (n : Fin 96) (s : State) : Outcome :=
  if !m.isSecure then .next (refuseAccess s m (0x00100004 + n.val * 0x1000) true) else .next (retestCore s n.val)

/-- A write of TAKE_OFFLINE: OFFLINE after the running job ends; jobs bound to the core or staged on it go to others (R163,
R180). -/
def takeCoreOffline (s : State) (n : Nat) : State :=
  if (core s n).running.isSome then updCore s n fun c => { c with takeOffline := true }
  else
    refreshPke (rebindJobs (unloadCore (updCore s n fun c => { c with state := .offline }) n) n none)

/-- CORE_TAKE_OFFLINE. -/
def execCoreTakeOffline (m : Master) (n : Fin 96) (s : State) : Outcome :=
  if !m.isSecure then .next (refuseAccess s m (0x00100004 + n.val * 0x1000) true) else .next (takeCoreOffline s n)

/-! ## Commands (R182) -/

/-- PKE_JOB: one job block goes to the dispatcher. -/
def execPkeJob (c : Cmd) (s : State) : Outcome :=
  .next (command s c 0x0301 fun s =>
    let bytes := c.body.bytes
    if bytes.length ≠ 64 + 16 * leAt bytes 0x20 1 then answerStatus s c.reply .invalidLength
    else
      let (id, s) := newJob s
      submit s c.caller (.pke { id := id, block := readJobBlock bytes, caller := c.caller, domain := c.domain, reply := c.reply,
                                data := c.data }))

/-- PKE_JOB_ABORT. -/
def execPkeJobAbort (c : Cmd) (s : State) : Outcome :=
  .next (command s c 0x0302 fun s =>
    match (jobRef s c.caller (c.nat 0x11)).bind (abortPke s 0) with
    | some s => answerOk s c [] []
    | none => answerStatus s c.reply .invalidParameter)

/-- A curve record's fixed fields stand (R174). -/
def curveFormed (r : Bytes) : Bool :=
  let n := fieldBits r
  160 ≤ n && n ≤ 576 && allZero (slice r 3 13) && Nat.log2 (leAt r 0x10 72) + 1 == n

/-- A block of no operation, for a job that checks a curve record. -/
def noBlock : JobBlock :=
  { op := 0, algo := 0, flags := 0, curveIndex := 0, hash := 0, sizeWords := 0, keyHandle := 0, destHandle := 0,
    destAttr := attrOf [], saltLen := 0, reserved := 0, operands := [] }

/-- PKE_CURVE_LOAD: the record's checks run on a SERVICE core (R174 to R176). -/
def execPkeCurveLoad (c : Cmd) (s : State) : Outcome :=
  .next (command s c 0x0310 fun s =>
    let r := c.body.bytes
    match leastOf [(r.length ≠ 448, .invalidLength), (r.length == 448 && !curveFormed r, .invalidParameter),
        ((domain s c.domain).policy ≠ 1, .notPermitted), ((s.pke.curves.free 0 256).isNone, .invalidParameter)] with
    | some st => answerStatus s c.reply st
    | none =>
      let (id, s) := newJob s
      submit s c.caller (.pke { id := id, block := noBlock, curve := some r, caller := c.caller, domain := c.domain,
                                reply := c.reply }))

/-- A key's attribute word names a loaded curve of a domain. -/
def namesCurve (a : Attr) (d i : Nat) : Bool := a.domain == d && a.curveIndex == i && (a.type == 0x4F || a.type == 0x8F)

/-- A key of the domain, in a slot or in the vault, names the curve (R177). -/
def curveUsed (s : State) (d i : Nat) : Bool :=
  s.kst.slots.any (fun e => namesCurve e.2.attr d i) || s.flash.objects.any fun e => namesCurve e.2.attr d i

/-- A loaded curve of the caller's domain: the checks on its index. -/
def curveGate (s : State) (c : Cmd) (i : Nat) : List (Bool × Status) :=
  match curve s i with
  | none => [(true, .invalidParameter)]
  | some x => [(x.domain ≠ c.domain, .notPermitted)]

/-- PKE_CURVE_UNLOAD. -/
def execPkeCurveUnload (c : Cmd) (s : State) : Outcome :=
  .next (command s c 0x0311 fun s =>
    let i := c.nat 0x1D
    match leastOf (curveGate s c i ++ [(curveUsed s c.domain i, .busyLocked)]) with
    | some st => answerRoom s c.reply st
    | none => answerOk { s with pke := { s.pke with curves := s.pke.curves.del i } } c [] [])

/-- PKE_CURVE_READ. -/
def execPkeCurveRead (c : Cmd) (s : State) : Outcome :=
  .next (command s c 0x0312 fun s =>
    let i := c.nat 0x1D
    match leastOf (curveGate s c i), curve s i with
    | some st, _ => answerStatus s c.reply st
    | none, some x => answerOk s c [] [.blob x.record]
    | none, none => answerStatus s c.reply .invalidParameter)

/-- PKE_POLICY_SET: under the domain's critical quorum (R173, R273). -/
def execPkePolicySet (c : Cmd) (s : State) : Outcome :=
  .next (command s c 0x0320 fun s =>
    let p := c.nat 0x1C
    if 1 < p then answerStatus s c.reply .invalidParameter
    else withCritical s c 0x0320 c.domain fun s reasons => editDomain s c c.domain [.policy p] reasons)

/-- PKE_POLICY_GET. -/
def execPkePolicyGet (c : Cmd) (s : State) : Outcome :=
  .next (command s c 0x0321 fun s => answerOk s c [] [.item 0x1C (leBytes 1 (domain s c.domain).policy)])

/-- The three map words of a POOL_MAP item. -/
def mapWords (b : Bytes) : List Word := [leAt b 0 4, leAt b 4 4, leAt b 8 4].map (BitVec.ofNat 32)

/-- PKE_POOL_STAGE: writes the SHADOW map. -/
def execPkePoolStage (c : Cmd) (s : State) : Outcome :=
  .next (command s c 0x0330 fun s =>
    if s.pke.target.isSome then answerBusy s c.reply 0xFFFFFFFF
    else answerOk { s with pke := { s.pke with shadow := mapWords (c.bytes 0x17) } } c [] [])

/-- The quorum of PKE_POOL_COMMIT: its digest covers the three SHADOW words (R272). -/
def poolQuorum (s : State) (c : Cmd) : Quorum :=
  { plainQuorum s c 0x0331 [critical s 0] with
    input := fun _ => leBytes 2 0x0331 ++ s.pke.shadow.flatMap fun w => leBytes 4 w.toNat }

/-- PKE_POOL_COMMIT: where its earlier checks pass, the approval records are judged and set GRANT; then COMMIT is written, and
the answer follows the last switch. -/
def execPkePoolCommit (c : Cmd) (s : State) : Outcome :=
  .next (command s c 0x0331 fun s =>
    let ask (s : State) (grant : Bool) (reasons : List Nat) : State :=
      requestPool { s with pke := { s.pke with grant := grant } } (some c.reply) reasons
    if (poolCheck { s with pke := { s.pke with grant := true } }).isSome then ask s false []
    else match judgeQuorum s c (poolQuorum s c) with
      | (s, reasons, none) => ask s true reasons
      | (s, reasons, some .quorumMissing) => ask s false reasons
      | (s, reasons, some st) => answer s c.reply { status := st, reasons := reasons })

/-- PKE_POOL_DISCARD. -/
def execPkePoolDiscard (c : Cmd) (s : State) : Outcome :=
  .next (command s c 0x0332 fun s =>
    if s.pke.target.isSome then answerBusy s c.reply 0xFFFFFFFF else answerOk (discardPool s) c [] [])

/-- PKE_CORE_RETEST. -/
def execPkeCoreRetest (c : Cmd) (s : State) : Outcome :=
  .next (command s c 0x0340 fun s =>
    let n := c.nat 9
    let x := core s n
    if 95 < n then answerStatus s c.reply .invalidParameter
    else if x.state = .busy || x.state = .zeroing || coreLoaded s n then answerBusy s c.reply 0xFFFFFFFF
    else answerOk (retestCore s n) c [] [])

end Sys2Proof.Machine
end

