-- ==== Sys2Proof/Machine/Rings.lean ====
section
/-!
DEFINITION. Rings: doorbells, the fetcher, the jobs of a ring, aborts, completions and interrupts (R312 to R328, R336).
-/

namespace Sys2Proof.Machine

/-! ## Doorbells and the producer word (R313, R315) -/

/-- Put a queue into ERROR: fetching stops and ENABLE clears, and a last completion will follow the fetched jobs (R315). -/
def queueError (s : State) (f q cause : Nat) : State :=
  hostCause (updQueue s f q fun x => { x with enabled := false, error := true, errorDue := true }) f q cause

/-- A write of any value to HQ_SQ_DOORBELL rings a queue. -/
def ringDoorbell (s : State) (f q : Nat) : State :=
  let x := queue s f q
  if x.created && (x.enabled || (func s f).frozen) then updQueue s f q fun x => { x with doorbell := true }
  else updFunc s f fun y => { y with ignored := sat32 y.ignored }

/-- SQ_DOORBELL. -/
def execSqDoorbell (f : Fin 1024) (q : Fin 4096) (s : State) : Outcome :=
  .next (if funcEnabled s f then ringDoorbell s f q else s)

/-- The queue fetches: it is enabled, and nothing bars its function or it (R328). -/
def fetches (s : State) (f q : Nat) : Bool :=
  let x := queue s f q
  x.created && x.enabled && !x.error && !fetchBarred s f && x.closing.isNone && s.host.linkUp

/-- PRODUCER_WORD_READ: the producer word becomes PI_SEEN, and a value out of range puts the queue into ERROR. -/
def execProducerWordRead (f : Fin 1024) (q : Fin 4096) (w : Option Word) (t : Time) (s : State) : Outcome :=
  let s := advance s t
  let x := queue s f q
  if !fetches s f q || !x.doorbell || x.sqFetch ≠ x.piSeen || stopped s 4 then .next s
  else
    let s := updQueue s f q fun x => { x with doorbell := false }
    match w with
    | none => .next (hostCause s f q 4)
    | some w =>
      let n := field w 15 0
      let s := updQueue s f q fun x => { x with piSeen := n }
      if 2 ^ x.sqLog < (n + 65536 - x.sqFetch) % 65536 then .next (queueError s f q 1) else .next s

/-! ## The fetcher (R314, R316 to R318) -/

/-- An opcode on the wrong kind of queue or function, or of no job (R318, R329). -/
def opcodeBad (f q op : Nat) : Bool :=
  if q = 0 then !((0x80 ≤ op && op ≤ 0x83) || (0x90 ≤ op && op ≤ 0x95 && f == 0)) else op < 1 || 6 < op

/-- Put a job into its queue, with its outcome where it has one. -/
def addJob (s : State) (f q : Nat) (c : Chain) (st : Option Status) : State :=
  let end_ : Option JobEnd := st.map fun v => { status := v }
  let j : RingJob := { id := s.host.nextId, opcode := c.opcode, tag := c.tag, relaxed := c.relaxed, fence := c.fence,
                       resultAddr := c.resultAddr, bytes := c.bytes, finished := end_ }
  let s := { s with host := { s.host with nextId := s.host.nextId + 1 } }
  updQueue s f q fun x => { x with jobs := x.jobs ++ [j] }

/-- A chain is complete: its job goes on, or ends for its opcode or a reserved field. -/
def completeChain (s : State) (f q : Nat) (c : Chain) : State :=
  let s := updQueue s f q fun x => { x with chain := none }
  addJob s f q c (leastOf [(opcodeBad f q c.opcode, .invalidCommand), (c.reservedBad, .invalidParameter)])

/-- An open chain ends with a status; where `skip` stands, later entries are consumed up to its end. -/
def breakChain (s : State) (f q : Nat) (c : Chain) (st : Status) (skip : Bool) : State :=
  addJob (updQueue s f q fun x => { x with chain := none, skipping := skip }) f q c (some st)

/-- The chain that a FIRST entry opens. -/
def openChain (b : Bytes) : Chain :=
  let flags := leAt b 1 1
  { opcode := leAt b 0 1, tag := leAt b 4 4, relaxed := flags / 4 % 2 == 1, fence := flags / 8 % 2 == 1,
    resultAddr := leAt b 8 8, entries := 1, bytes := slice b 0x10 48, reservedBad := 16 ≤ flags || leAt b 3 1 != 0 }

/-- Judge an entry by the first matching row of R317. -/
def judgeEntry (s : State) (f q : Nat) (b : Bytes) : State :=
  let flags := leAt b 1 1
  let first := flags % 2 == 1
  let last := flags / 2 % 2 == 1
  let pos := leAt b 2 1
  let x := queue s f q
  if first then
    let s := match x.chain with
      | some c => breakChain s f q c .invalidParameter false
      | none => s
    let c := openChain b
    let s := updQueue s f q fun x => { x with skipping := false }
    if pos ≠ 0 then breakChain s f q c .invalidParameter (!last)
    else if last then completeChain s f q c
    else updQueue s f q fun x => { x with chain := some c }
  else match x.chain with
    | none =>
      if x.skipping then updQueue s f q fun x => { x with skipping := !last }
      else addJob s f q (openChain b) (some .invalidParameter)
    | some c =>
      if pos ≠ c.entries || leAt b 0 1 ≠ c.opcode then breakChain s f q c .invalidParameter (!last)
      else if c.entries = 8 then breakChain s f q c .invalidLength (!last)
      else
        let bad := c.reservedBad || 16 ≤ flags || leAt b 3 1 != 0
        let c := { c with entries := c.entries + 1, bytes := c.bytes ++ slice b 8 56, reservedBad := bad }
        if last then completeChain s f q c else updQueue s f q fun x => { x with chain := some c }

/-- ENTRY_FETCH: the read of the next request entry completes; a read that fails is a DMA read error and takes no entry. -/
def execEntryFetch (f : Fin 1024) (q : Fin 4096) (e : Option Bytes) (t : Time) (s : State) : Outcome :=
  let s := advance s t
  let x := queue s f q
  if !fetches s f q || x.sqFetch = x.piSeen || 256 ≤ x.jobs.length || 256 ≤ hostWaiting s || cqFull x || stopped s 4 then .next s
  else match e with
    | none => .next (hostCause s f q 4)
    | some b =>
      let s := updQueue s f q fun x => { x with sqFetch := (x.sqFetch + 1) % 65536 }
      .next (judgeEntry s f q (b ++ zeros (64 - b.length)))

/-- DMA_READ_TIMEOUT: a read not completed within 50 ms is a DMA read error: that of the next job's data, where a job waits for
them (R309, R324). -/
def execDmaReadTimeout (f : Fin 1024) (q : Fin 4096) (t : Time) (s : State) : Outcome :=
  let s := advance s t
  if !(queue s f q).created then .next s
  else
    let waits (j : RingJob) : Bool := !j.presented && j.finished.isNone
    let id := ((queue s f q).jobs.find? waits).map (·.id)
    let mark (j : RingJob) : RingJob := if some j.id = id then { j with dmaError := true } else j
    .next (hostCause (updQueue s f q fun x => { x with jobs := x.jobs.map mark }) f q 4)

/-! ## Jobs on their way to admission (R318 to R321, R326, R327) -/

/-- The next job of a queue to be put forward: in fetch order, but that a job with FENCE waits until it is the oldest of its queue
and holds back no later one. -/
def nextJob (s : State) (f q : Nat) : Option RingJob :=
  let l := (queue s f q).jobs
  let oldest := (l.head?).map (·.id)
  l.find? fun j => !j.presented && j.finished.isNone && (!j.fence || some j.id == oldest)

/-- Change a job of a queue. -/
def updJob (s : State) (f q id : Nat) (g : RingJob → RingJob) : State :=
  updQueue s f q fun x => { x with jobs := x.jobs.map fun j => if j.id == id then g j else j }

/-- Put forward the next job of a queue if it has the opcode: it is marked, and a read of its data that failed is a DMA read
error. -/
def present (s : State) (f q op : Nat) (readFails : Bool) (k : State → RingJob → State) : State :=
  match nextJob s f q with
  | none => s
  | some j =>
    if j.opcode ≠ op then s
    else
      let j := { j with presented := true, dmaError := j.dmaError || readFails }
      let s := updJob s f q j.id fun _ => j
      k (if readFails then hostCause s f q 4 else s) j

/-- Put forward a ring chain of an engine's opcode: its job goes to the function's source (R318). -/
def presentWork (s : State) (f q op : Nat) (data : Option (List Bytes)) : State :=
  present s f q op data.isNone fun s j =>
    let (id, s) := newJob s
    match ringWork s f q j id (data.getD []) with
    | some w => submit s (.function f q) w
    | none => endRingStatus s j.id .invalidLength

/-- PUBLIC_KEY_JOB: a ring chain of opcode 0x01. -/
def execPublicKeyJob (f : Fin 1024) (q : Fin 4096) (data : Option (List Bytes)) (t : Time) (s : State) : Outcome :=
  .next (presentWork (advance s t) f q 1 data)

/-- SERVICE_MAC_SEGMENT: a ring chain of opcode 0x02. -/
def execServiceMacSegment (f : Fin 1024) (q : Fin 4096) (data : Option (List Bytes)) (t : Time) (s : State) : Outcome :=
  .next (presentWork (advance s t) f q 2 data)

/-- DIGEST_JOB: a ring chain of opcode 0x03. -/
def execDigestJob (f : Fin 1024) (q : Fin 4096) (data : Option (List Bytes)) (t : Time) (s : State) : Outcome :=
  .next (presentWork (advance s t) f q 3 data)

/-- RANDOM_BYTES: a ring entry of opcode 0x04 draws from the function's home instance. -/
def execRandomBytes (f : Fin 1024) (q : Fin 4096) (t : Time) (s : State) : Outcome :=
  let s := advance s t
  .next (present s f q 4 false fun s j =>
    let n := leAt j.bytes 0 4
    match leastOf [(n = 0 || 4096 < n, .invalidLength), (leAt j.bytes 4 4 ≠ 0, .invalidParameter),
        ((funcDomain s f).isNone, .notPermitted)] with
    | some st => endRingStatus s j.id st
    | none => askRandom s (.function f q) (.ring j.id) n (leAt j.bytes 8 8))

/-! ## Aborts (R165 to R167, R199, R321) -/

/-- The service MAC engine whose message holds the segment that a reply names. -/
def segmentEngine (s : State) (r : Reply) : Option (Nat × Hold) :=
  (List.range 32).findSome? fun e => (svc s e).hold.bind fun h =>
    if h.queue.any (·.reply == r) || (h.running.map (·.job.reply)) == some r then some (e, h) else none

/-- Abort the segment that a reply names, and its message with it. -/
def abortSegment (s : State) (n : Nat) (r : Reply) : Option State :=
  match (source s n).jobs.find? fun e => e.2.reply == r with
  | some e => some (endAbortedAtSource (unsubmit s n fun w => w.id == e.2.id) e.2)
  | none => (segmentEngine s r).map fun e => abortMessage s e.1 e.2

/-- Withdraw the random request that a reply waits for. -/
def abortDraw (s : State) (r : Reply) : Option State :=
  let mine (d : DrawReq) : Bool := d.who == .reply r
  if (List.range 8).any fun i => ((inst s i).priority ++ (inst s i).normal).any mine then
    let s := (List.range 8).foldl (fun s i => updInst s i fun x => { x with
      priority := x.priority.filter fun d => !mine d, normal := x.normal.filter fun d => !mine d }) s
    some (answerStatus s r .aborted)
  else none

/-- Abort one job of queue `q` of a function, wherever it is; a job that has its outcome keeps it. -/
def abortRing (s : State) (f q : Nat) (j : RingJob) : State :=
  let r : Reply := .ring j.id
  if j.finished.isSome then s
  else if !j.presented then endRingEarly s f q j .aborted
  else match abortPke s (f + 1) r with
    | some s => s
    | none => match abortDigest s (f + 1) r with
      | some s => s
      | none => match abortSegment s (f + 1) r with
        | some s => s
        | none => (abortDraw s r).getD s

/-- Abort every job of a queue that meets `p`. -/
def abortJobs (s : State) (f q : Nat) (p : RingJob → Bool) : State :=
  ((queue s f q).jobs.filter p).foldl (fun s j => abortRing s f q (((queue s f q).jobs.find? (·.id == j.id)).getD j)) s

/-- ABORT_ENTRY: a ring entry of opcode 0x06, which takes effect when it is fetched. -/
def execAbortEntry (f : Fin 1024) (q : Fin 4096) (t : Time) (s : State) : Outcome :=
  let s := advance s t
  match (queue s f q).jobs.find? fun j => j.opcode == 6 && !j.presented && j.finished.isNone with
  | none => .next s
  | some a =>
    let s := updJob s f q a.id fun j => { j with presented := true }
    let target := leAt a.bytes 0 2
    let hit (j : RingJob) : Bool := j.tag == leAt a.bytes 4 4 && j.id != a.id
    if a.relaxed || a.fence || leAt a.bytes 2 2 ≠ 0 || !(queue s f target).jobs.any hit then
      .next (endRingStatus s a.id .invalidParameter)
    else .next (endRingStatus (abortJobs s f target hit) a.id .ok)

/-! ## The life of queues that end (R329, R332) -/

/-- Stop everything that a queue has under way: its jobs are aborted and its MAC locks released (R165, R198). -/
def abortQueue (s : State) (f q : Nat) : State :=
  releaseHoldsOf (abortJobs s f q fun _ => true) fun c => c == .function f q

/-- A queue being destroyed has written its last completion: its transports close, its context is freed, and QP_DESTROY is
answered. -/
def settleClosing (s : State) (f q : Nat) : State :=
  let x := queue s f q
  match x.closing with
  | none => s
  | some id =>
    if !queueIdle x then s
    else
      let s := closeTransportsOf s fun c => c == .function f q
      endRingStatus (updFunc s f fun y => { y with queues := y.queues.del q }) id .ok

/-- The caller is a queue of a function. -/
def ofFunction (f : Nat) : Caller → Bool
  | .function g _ => g == f
  | _ => false

/-- A VF being frozen has written its last completion: its transports close, it is FROZEN, and VF_FREEZE is answered. -/
def settleFreezing (s : State) (f : Nat) : State :=
  match (func s f).freezing with
  | none => s
  | some id =>
    if !(func s f).queues.all fun q => queueIdle q.2 then s
    else
      let s := closeTransportsOf s (ofFunction f)
      let s := updFunc s f fun y => { y with freezing := none, frozen := true, saved := false }
      endRingStatus (raiseEvent s f) id .ok

/-! ## Completions (R322 to R325) -/

/-- The job whose completion may be written now: the oldest, once it has finished, or a finished RELAXED one. -/
def writable : List RingJob → Option RingJob
  | [] => none
  | j :: t => if j.finished.isSome then some j else t.find? fun j => j.relaxed && j.finished.isSome

/-- The 32 bytes of a completion (R322). -/
def completionBytes (x : Queue) (q op tag : Nat) (e : JobEnd) (written dma relaxed : Bool) : Bytes :=
  leBytes 2 (Status.code e.status) ++ leBytes 2 x.sqFetch ++ leBytes 2 q ++ leBytes 1 op
    ++ leBytes 1 (bitAt x.phase 0 + bitAt written 1 + bitAt dma 2 + bitAt relaxed 3) ++ leBytes 4 tag
    ++ leBytes 1 e.engine ++ [0] ++ leBytes 2 e.ticket ++ leBytes 4 e.holder ++ leBytes 4 e.outLen ++ leBytes 4 e.aux
    ++ zeros 4

/-- Write a completion at CQ_TAIL. -/
def putCompletion (s : State) (f q : Nat) (b : Bytes) : State :=
  let x := queue s f q
  let size := 2 ^ x.cqLog
  let s := emit s (.hostWrite f (x.cqBase + x.cqTail % size * 32) b)
  updQueue s f q fun x => { x with
    cqTail := (x.cqTail + 1) % 65536
    phase := if (x.cqTail + 1) % size = 0 then !x.phase else x.phase
    completed := sat64 x.completed
    unsignalled := x.unsignalled + 1
    firstUnsignalled := if x.unsignalled = 0 then s.now else x.firstUnsignalled }

/-- The response of a command entry: its body is an output, unless it is longer than RESPONSE_MAX (R319). -/
def withResponse (j : RingJob) (e : JobEnd) : JobEnd :=
  let body := e.items.flatMap RItem.bytes
  if j.opcode ≠ 5 || body.isEmpty then e
  else if leAt j.bytes 0x18 4 < body.length then { e with status := .invalidLength, outLen := body.length }
  else { e with outs := [(leAt j.bytes 0x10 8, body)], outLen := body.length }

/-- Write what a finished job gives: its outputs, then its result block (R324); a failed write leaves the status and sets
DMA_ERROR. -/
def writeOutputs (s : State) (f q : Nat) (j : RingJob) (e : JobEnd) (fails : Bool) : State :=
  let block := j.resultAddr ≠ 0 && !e.block.isEmpty
  if fails && (block || !e.outs.isEmpty) then hostCause s f q 5
  else
    let s := e.outs.foldl (fun s o => if o.2.isEmpty then s else emit s (.hostWrite f o.1 o.2)) s
    if block then emit s (.hostWrite f j.resultAddr e.block) else s

/-- COMPLETION_WRITE: the next completion of a queue is written, if its ring has room; the completion of R315 follows the
last job of a queue in ERROR. -/
def execCompletionWrite (f : Fin 1024) (q : Fin 4096) (outputFails entryFails : Bool) (t : Time) (s : State) : Outcome :=
  let s := advance s t
  let x := queue s f q
  let settle (s : State) : State := settleFreezing (settleClosing s f q) f
  if !x.created || cqFull x || stopped s 4 then .next s
  else match writable x.jobs with
    | none =>
      if x.jobs.isEmpty && x.errorDue then
        let e : JobEnd := { status := .invalidParameter }
        let s := if entryFails then hostCause s f q 2 else putCompletion s f q (completionBytes x q 0 0xFFFFFFFF e false false false)
        .next (settle (updQueue s f q fun x => { x with errorDue := false }))
      else .next s
    | some j =>
      let e := withResponse j (j.finished.getD { status := .internal })
      let writes := (j.resultAddr ≠ 0 && !e.block.isEmpty) || !e.outs.isEmpty
      let dma := j.dmaError || (outputFails && writes)
      let written := j.resultAddr ≠ 0 && !e.block.isEmpty && !outputFails
      let s := writeOutputs s f q j e outputFails
      let s := if entryFails then queueError s f q 2
        else putCompletion s f q (completionBytes x q j.opcode j.tag e written dma j.relaxed)
      .next (settle (freeDelivered (updQueue s f q fun x => { x with jobs := x.jobs.filter (·.id != j.id) })))

/-- A write of HQ_CQ_HEAD: a value beyond CQ_TAIL or behind the last one is discarded (R323); a FROZEN function discards every
write. -/
def writeCqHead (s : State) (f q : Nat) (v : Word) : State :=
  let x := queue s f q
  if (func s f).frozen || !x.created then s
  else if cqUsed x < (field v 15 0 + 65536 - x.cqHead) % 65536 then hostCause s f q 3
  else updQueue s f q fun x => { x with cqHead := field v 15 0 }

/-- CQ_HEAD_WRITE. -/
def execCqHeadWrite (f : Fin 1024) (q : Fin 4096) (v : Word) (s : State) : Outcome :=
  .next (if funcEnabled s f then writeCqHead s f q v else s)

/-- MSIX_MESSAGE: the message of a completion queue, once its count or its time is reached (R336). -/
def execMsixMessage (f : Fin 1024) (q : Fin 4096) (t : Time) (s : State) : Outcome :=
  let s := advance s t
  let x := queue s f q
  let due := x.coalesceUs = 0 || x.coalesceCount ≤ x.unsignalled || x.firstUnsignalled + x.coalesceUs * usT ≤ s.now
  if x.created && x.intEn && 0 < x.unsignalled && due && !stopped s 4 then
    .next (sendVector (updQueue s f q fun x => { x with unsignalled := 0 }) f x.vector)
  else .next s

end Sys2Proof.Machine
end

