-- ==== Sys2Proof/Machine/Functions.lean ====
section
/-!
DEFINITION. Host functions: BAR2 registers, the admin commands of QP0, resets of functions and the PCIe link, and the mailbox
commands on the host interface (R310, R328 to R332, R338, R339, R489, R492).
-/

namespace Sys2Proof.Machine

/-! ## BAR2 registers (R338) -/

/-- HQ_FUNC_STATUS. -/
def funcStatusWord (s : State) (f : Nat) : Word := BitVec.ofNat 32 (funcState s f + (funcDomain s f).getD 0 * 2 ^ 16)

/-- HQ_QP_STATUS of a queue. -/
def queueStatusWord (s : State) (f q : Nat) : Word :=
  let x := queue s f q
  BitVec.ofNat 32 (bitAt x.created 0 + bitAt (queueIdle x) 1 + bitAt x.error 2 + bitAt (x.created && (func s f).frozen) 3
    + min x.jobs.length 256 * 2 ^ 16)

/-- A readable register of a function's BAR2, by its offset; none where the offset holds none. -/
def bar2Read (s : State) (f off : Nat) : Option Word :=
  let y := func s f
  let a := queue s f 0
  let word (v k : Nat) : Option Word := some (BitVec.ofNat 32 (v / 2 ^ (32 * k)))
  if off % 4 ≠ 0 then none
  else if off = 0 then some (funcStatusWord s f)
  else if off = 4 then some y.err
  else if off = 8 then some (BitVec.ofNat 32 (y.maxQueues + createdQueues s f * 2 ^ 16))
  else if off = 0xC then some (BitVec.ofNat 32 y.ignored)
  else if off = 0x10 || off = 0x14 then word a.sqBase (off / 4 % 2)
  else if off = 0x18 || off = 0x1C then word a.cqBase (off / 4 % 2)
  else if off = 0x20 || off = 0x24 then word a.piAddr (off / 4 % 2)
  else if off = 0x28 then some (BitVec.ofNat 32 (a.sqLog + a.cqLog * 16 + a.vector % 256 * 256))
  else if 0x8000 ≤ off && off < 0x10000 then
    let q := (off - 0x8000) / 8
    if off % 8 = 0 then some (BitVec.ofNat 32 (bitAt (queue s f q).enabled 0 + bitAt (queue s f q).intEn 1))
    else some (queueStatusWord s f q)
  else none

/-- Write a register of a function's BAR2 that has no row of its own; none where the offset holds no such register.  A 64-bit
register takes effect when its high word is written, HQ_ADMIN_ fields stand while QP0 is enabled, and all stand while the function is
FROZEN (R332). -/
def bar2Write (s : State) (f off : Nat) (v : Word) : Option State :=
  if (func s f).frozen && (off = 4 || (0x10 ≤ off && off ≤ 0x28)) then some s else
  let low := (func s f).low.get 0 off
  let admin (g : Queue → Queue) : Option State := some (if (queue s f 0).enabled then s else updQueue s f 0 g)
  let keep : Option State := some (updFunc s f fun y => { y with low := y.low.put (off + 4) v })
  let full := v.toNat * 2 ^ 32 + low.toNat
  if off = 4 then some (updFunc s f fun y => { y with err := storeW1C y.err v 0x80000000 })
  else if off = 0x10 || off = 0x18 || off = 0x20 then keep
  else if off = 0x14 then admin fun x => { x with sqBase := full }
  else if off = 0x1C then admin fun x => { x with cqBase := full }
  else if off = 0x24 then admin fun x => { x with piAddr := full }
  else if off = 0x28 then
    let sq := field v 3 0
    let cq := field v 7 4
    if sq < 4 || cq < 4 then some s else admin fun x => { x with sqLog := sq, cqLog := cq, vector := field v 15 8 }
  else none

/-! ## The MSI-X table and the Pending Bit Array (R310, R336) -/

/-- Vectors of a function, and where its Pending Bit Array begins in BAR4. -/
def vectorRoom (f : Nat) : Nat × Nat := if f = 0 then (64, 0x2000) else (16, 0x1000)

/-- A word of BAR4; none where it holds none. -/
def bar4Read (s : State) (f off : Nat) : Option Word :=
  let (n, p) := vectorRoom f
  if off < 16 * n then some ((func s f).vectors.get (if off % 16 = 12 then 1 else 0) (off / 4))
  else if off = p then some (BitVec.ofNat 32 (func s f).pba.toNat)
  else if off = p + 4 then some (BitVec.ofNat 32 ((func s f).pba.toNat / 2 ^ 32))
  else none

/-- Write a word of the MSI-X table: a vector unmasked with its bit pending sends its message. -/
def bar4Write (s : State) (f off : Nat) (v : Word) : State :=
  if off < 16 * (vectorRoom f).1 then
    let k := off / 16
    let s := updFunc s f fun x => { x with vectors := x.vectors.put (off / 4) v }
    if (func s f).pba.getLsbD k && !vectorMasked (func s f) k then
      sendVector (updFunc s f fun x => { x with pba := x.pba &&& ~~~ (1#64 <<< k) }) f k
    else s
  else s

/-- A write of HQ_QP_CTRL.  QP0 takes its context when its ENABLE is first set (R329). -/
def writeQpCtrl (s : State) (f q : Nat) (v : Word) : State :=
  let x := queue s f q
  let on := bit v 0
  let takes := q == 0 && on && !x.created && 0 < freeContexts s
  if (func s f).frozen || !(x.created || q == 0) then s
  else updQueue s f q fun x => { x with
    created := x.created || takes, enabled := on && (x.created || takes) && !x.error, intEn := bit v 1 }

/-- QP_ENABLE. -/
def execQpEnable (f : Fin 1024) (q : Fin 4096) (v : Word) (s : State) : Outcome :=
  .next (if funcEnabled s f then writeQpCtrl s f q v else s)

/-! ## Admin commands (R329) -/

/-- Carry out an admin command of QP0: `n` bytes of fields, all other job bytes reserved. -/
def admin (s : State) (f op n : Nat) (k : State → Bytes → Nat → State) : State :=
  present s f 0 op false fun s j =>
    if allZero (j.bytes.drop n) then k s j.bytes j.id else endRingStatus s j.id .invalidParameter

/-- Vectors that a completion queue may use: neither an event nor a mailbox vector (R310). -/
def vectorOk (f v : Nat) : Bool := if f = 0 then 8 < v && v < 64 else 0 < v && v < 16

/-- The lowest free queue number of a function. -/
def freeQueue (s : State) (f : Nat) : Option Nat := ((List.range 4095).map (· + 1)).find? fun q => !(queue s f q).created

/-- QP_CREATE. -/
def execQpCreate (f : Fin 1024) (t : Time) (s : State) : Outcome :=
  .next (admin (advance s t) f 0x80 34 fun s b id =>
    let q := leAt b 0 2
    let sq := leAt b 2 1
    let cq := leAt b 3 1
    let bad := 4095 < q || sq < 4 || 15 < sq || cq < 4 || 15 < cq || !vectorOk f (leAt b 4 2) || leAt b 6 1 = 0
      || 1000 < leAt b 8 2 || leAt b 10 8 % 4096 ≠ 0 || leAt b 18 8 % 4096 ≠ 0 || leAt b 26 8 % 4 ≠ 0
    let number := if q = 0 then freeQueue s f else if (queue s f q).created then none else some q
    let full := (func s f).maxQueues ≤ createdQueues s f || freeContexts s = 0
    if number.isNone || full then endRing s id { status := .busyLocked, holder := 0xFFFFFFFF }
    else if bad || leAt b 7 1 ≠ 0 then endRingStatus s id .invalidParameter
    else
      let n := number.getD 0
      let x : Queue := { created := true, sqLog := sq, cqLog := cq, vector := leAt b 4 2, coalesceCount := leAt b 6 1,
                         coalesceUs := leAt b 8 2, sqBase := leAt b 10 8, cqBase := leAt b 18 8, piAddr := leAt b 26 8 }
      endRing (updQueue s f n fun _ => x) id { status := .ok, aux := n })

/-- QP_DESTROY: the queue's jobs are aborted, and the context is freed once their completions are written. -/
def execQpDestroy (f : Fin 1024) (t : Time) (s : State) : Outcome :=
  .next (admin (advance s t) f 0x81 2 fun s b id =>
    let q := leAt b 0 2
    if q = 0 || 4095 < q || !(queue s f q).created || (queue s f q).closing.isSome then endRingStatus s id .invalidParameter
    else
      let s := updQueue s f q fun x => { x with enabled := false, chain := none, closing := some id }
      settleClosing (abortQueue s f q) f q)

/-- QP_MODIFY. -/
def execQpModify (f : Fin 1024) (t : Time) (s : State) : Outcome :=
  .next (admin (advance s t) f 0x82 7 fun s b id =>
    let q := leAt b 0 2
    if !(queue s f q).created || !vectorOk f (leAt b 2 2) || leAt b 4 1 = 0 || 1000 < leAt b 5 2 then
      endRingStatus s id .invalidParameter
    else endRingStatus (updQueue s f q fun x => { x with
      vector := leAt b 2 2, coalesceCount := leAt b 4 1, coalesceUs := leAt b 5 2 }) id .ok)

/-- QP_QUERY. -/
def execQpQuery (f : Fin 1024) (t : Time) (s : State) : Outcome :=
  .next (admin (advance s t) f 0x83 10 fun s b id =>
    let q := leAt b 0 2
    if !(queue s f q).created then endRingStatus s id .invalidParameter
    else endRing s id { status := .ok, outs := [(leAt b 2 8, queueRecord q (queue s f q))], outLen := 128 })

/-- A VF's number. -/
def isVf (n : Nat) : Bool := 1 ≤ n && n ≤ 1023

/-- VF_LIMITS. -/
def execVfLimits (t : Time) (s : State) : Outcome :=
  .next (admin (advance s t) 0 0x90 5 fun s b id =>
    let v := leAt b 0 2
    if !isVf v || 4095 < leAt b 2 2 || leAt b 4 1 = 0 || 16 < leAt b 4 1 then endRingStatus s id .invalidParameter
    else endRingStatus (updFunc s v fun y => { y with maxQueues := leAt b 2 2, weight := leAt b 4 1 }) id .ok)

/-- VF_FREEZE: fetching stops and every job is aborted; it is answered once the last completion is written (R332). -/
def execVfFreeze (t : Time) (s : State) : Outcome :=
  .next (admin (advance s t) 0 0x91 2 fun s b id =>
    let v := leAt b 0 2
    if !isVf v || (func s v).freezing.isSome then endRingStatus s id .invalidParameter
    else
      let s := updFunc s v fun y => { y with freezing := some id }
      let s := (func s v).queues.foldl (fun s q => abortQueue s v q.1) s
      settleFreezing s v)

/-- VF_RESUME. -/
def execVfResume (t : Time) (s : State) : Outcome :=
  .next (admin (advance s t) 0 0x94 2 fun s b id =>
    let v := leAt b 0 2
    if !isVf v || !(func s v).frozen then endRingStatus s id .invalidParameter
    else endRingStatus (raiseEvent (updFunc s v fun y => { y with frozen := false }) v) id .ok)

/-! ## Resets (R331, R489) -/

/-- Reset one function (R331): its jobs end without completions, its queues and registers go, its transports close and its session
keys are destroyed.  Its domain stays. -/
def resetFunction (s : State) (f : Nat) : State :=
  let qs := (func s f).queues
  let s := qs.foldl (fun s q => abortQueue s f q.1) s
  let s := match (func s f).freezing with
    | some id => endRingStatus s id .aborted
    | none => s
  let s := closeTransportsOf s (ofFunction f)
  let s := (func s f).sessions.foldl eraseSlot s
  let s := if (func s f).frozen then raiseEvent s f else s
  freeDelivered (updFunc s f fun y => { y with
    frozen := false, freezing := none, saved := false, restoring := none, vectors := [], pba := 0, err := 0, maxQueues := 4095
    ignored := 0, low := [], queues := [], sessions := [] })

/-- Reset a function; a reset of PF0 clears VF Enable and resets every VF. -/
def resetFunctions (s : State) (f : Nat) : State :=
  if f ≠ 0 then resetFunction s f
  else
    let s := s.host.funcs.foldl (fun s y => resetFunction s y.1) s
    { s with host := { s.host with vfs := 0 } }

/-- VF_RESET: a Function Level Reset of a VF, which UNASSIGN also takes from its domain without quorum. -/
def execVfReset (t : Time) (s : State) : Outcome :=
  .next (admin (advance s t) 0 0x95 3 fun s b id =>
    let v := leAt b 0 2
    let unassign := leAt b 2 1 == 1
    if !isVf v || 1 < leAt b 2 1 || (unassign && !(func s v).saved) then endRingStatus s id .invalidParameter
    else
      let s := resetFunction s v
      match (if unassign then funcDomain s v else none) with
      | none => endRingStatus s id .ok
      | some d =>
        let c : Cmd := { caller := .function 0 0, domain := d, reply := .ring id, body := .items [], records := [],
                         coreFaults := 0, upset := false }
        editDomain s c d [.function v false] [])

/-- FUNCTION_LEVEL_RESET. -/
def execFunctionLevelReset (f : Fin 1024) (t : Time) (s : State) : Outcome := .next (resetFunctions (advance s t) f)

/-- The PCIe link falls, and the HOST bit with it (R492). -/
def dropPcie (s : State) : State := setReady { s with host := { s.host with linkUp := false } } 10 false

/-- PCIE_PERST: PCIE_PERST_N low resets the host interface only, as a Function Level Reset of PF0. -/
def execPciePerst (t : Time) (s : State) : Outcome := .next (dropPcie (resetFunctions (advance s t) 0))

/-- PCIE_LINK_UP: the link reaches DL_Active, with the VFs that the host enables. -/
def execPcieLinkUp (vfs : Fin 1024) (t : Time) (s : State) : Outcome :=
  let s := advance s t
  .next (setReady { s with host := { s.host with linkUp := true, vfs := vfs } } 10 true)

/-- PCIE_LINK_DOWN. -/
def execPcieLinkDown (t : Time) (s : State) : Outcome := .next (dropPcie (advance s t))

/-! ## Commands (R339) -/

/-- HQ_FUNC_READ: the function's registers, those of its queues, and their records. -/
def execHqFuncRead (c : Cmd) (s : State) : Outcome :=
  .next (command s c 0x0C01 fun s =>
    let f := c.nat 0x0E
    if 1023 < f then answerStatus s c.reply .invalidParameter
    else
      let qs := (func s f).queues.keep fun _ x => x.created
      let offs := (List.range 11).map (4 * ·) ++ qs.flatMap fun q => [0x8000 + 8 * q.1, 0x8004 + 8 * q.1]
      let regs := offs.filterMap fun o => (bar2Read s f o).map fun v => RItem.reg o v
      answerOk s c [] (regs ++ qs.map fun q => .blob (queueRecord q.1 q.2)))

/-- HQ_STATUS_READ: link state, VF Enable, NumVFs, free contexts, and each function's HQ_FUNC_STATUS. -/
def execHqStatusRead (c : Cmd) (s : State) : Outcome :=
  .next (command s c 0x0C02 fun s =>
    let head := leBytes 1 (bitAt s.host.linkUp 0) ++ leBytes 1 (bitAt (s.host.vfs != 0) 0) ++ leBytes 2 s.host.vfs
      ++ leBytes 4 (freeContexts s)
    answerOk s c [] [.blob (head ++ (List.range 1024).flatMap fun f => leBytes 4 (funcStatusWord s f).toNat)])

end Sys2Proof.Machine
end

