-- ==== Sys2Proof/Machine/Mailboxes.lean ====
section
/-!
DEFINITION. Mailboxes: packets and FIFOs, notices, notification, and responses (R344 to R352, R362 to R365).
-/

namespace Sys2Proof.Machine

/-! ## FIFOs and packets (R344 to R346) -/

/-- Words a FIFO of a mailbox holds: 4,096, and 2,048 for MB6 and MB7. -/
def fifoWords (n : Nat) : Nat := if n ≤ 5 then 4096 else 2048

/-- The words of a byte string, the last one padded with zeros. -/
def wordsOf (b : Bytes) : List Word := (List.range ((b.length + 3) / 4)).map fun i => BitVec.ofNat 32 (leNat (slice b (4 * i) 4))

/-- The bytes of words. -/
def bytesOf (ws : List Word) : Bytes := ws.flatMap fun w => leBytes 4 w.toNat

/-- Words of a packet with the given header: header, payload and CRC. -/
def packetWords (h : Word) : Nat := field h 10 0 + 2

/-- A header that a request packet may have (R345). -/
def headerOk (h : Word) : Bool :=
  !bit h 11 && field h 15 14 == 0 && 1 ≤ field h 10 0 && field h 10 0 ≤ 1024 && field h 31 24 == 1

/-- Build a packet: header, payload words and CRC. -/
def packetOf (kind tag : Nat) (first last : Bool) (payload : List Word) : List Word :=
  let h := BitVec.ofNat 32 (payload.length + bitAt first 12 + bitAt last 13 + tag * 2 ^ 16 + kind * 2 ^ 24)
  let body := h :: payload
  body ++ [crc32 (bytesOf body)]

/-- A written packet is sound: its header, its CRC, and none of its words ignored. -/
def packetSound (p : OpenPacket) (ws : List Word) : Bool :=
  !p.bad && headerOk p.header && p.count == packetWords p.header && ws.length == p.count
    && ws.getLastD 0 == crc32 (bytesOf ws.dropLast)

/-- Write the next word of the open packet: at a full FIFO it is ignored, and the packet is bad (R346). -/
def takeWord (b : Mailbox) (v : Word) : Mailbox :=
  match b.packet with
  | none => b
  | some p =>
    let full := 4096 ≤ b.req.words.length + b.req.tentative.length
    { b with
      req := if full then b.req else { b.req with tentative := b.req.tentative ++ [v] }
      overrun := b.overrun || full
      packet := some { p with count := p.count + 1, bad := p.bad || full } }

/-- Rewind a bad packet. -/
def rewindPacket (b : Mailbox) : Mailbox :=
  { b with req := { b.req with tentative := [] }, packet := none, badPacket := true, badCount := sat32 b.badCount }

/-- Commit a sound packet. -/
def commitPacket (b : Mailbox) : Mailbox :=
  let ws := b.req.tentative
  { b with
    req := { b.req with words := b.req.words ++ ws, tentative := [], wr := (b.req.wr + ws.length) % 8192 }
    packet := none }

/-- The open packet ends: it is committed, and the secure world's interrupt rises, or it is rewound. -/
def endPacket (s : State) (n : Nat) : State :=
  match (mailbox s n).packet with
  | none => s
  | some p =>
    if packetSound p (mailbox s n).req.tentative then emit (updMailbox s n commitPacket) (.requestInterrupt n)
    else updMailbox s n rewindPacket

/-- An access through another port than the mailbox's is refused, and WRONG_PORT is set (R344). -/
def wrongPort (s : State) (m : Master) (n addr : Nat) (write : Bool) : State :=
  let s := refuseAccess s m addr write
  if m = .pf0 || m = .i3c || m.isNormal then updMailbox s n fun b => { b with wrongPort := true } else s

/-- The port a master uses is the mailbox's; the secure world reaches every mailbox, and the normal world what PF0 reaches (R20,
R344, R381). -/
def reaches (s : State) (m : Master) (n : Nat) : Bool :=
  match m with
  | .secure _ => true
  | .pf0 => (mailbox s n).port == 1
  | .normal _ => (mailbox s n).port == 1
  | .i3c => (mailbox s n).port == 0
  | _ => false

/-- The I3C target takes part in transfers: MGMT_EN was 1 at reset, and it has its dynamic address (R341, R342). -/
def i3cOn (s : State) : Bool := s.mbx.mgmtEn && s.mbx.addrValid

/-- The base of a mailbox's registers. -/
def boxBase (n : Nat) : Nat := 0x00010000 + n * 0x100

/-- A private write over I3C that carries one packet to a mailbox. -/
def takePacket (s : State) (n : Nat) (ws : List Word) (whole : Bool) : State :=
  if (mailbox s n).port ≠ 0 then wrongPort s .i3c n (boxBase n + 8) true
  else
    let start (b : Mailbox) : Mailbox := { b with packet := some { header := ws.headD 0, count := 0, bad := !whole } }
    endPacket (updMailbox s n fun b => ws.foldl takeWord (start b)) n

/-- The command bytes of R343 that the other transfers open with: reads of packets, and the register path. -/
def otherTransfer (c : Nat) : Bool := (0x10 ≤ c && c ≤ 0x17) || c == 0x20 || (0x90 ≤ c && c ≤ 0x97) || c == 0xA0

/-- REQUEST_PACKET_WRITE: an I3C private write; its command byte names the mailbox, and one that R343 does not list sets PROTOCOL_ERR.
`whole` is false where bytes follow the last word or it is cut, `fault` where the bus saw a framing or parity error: PROTOCOL_ERR is
set and the packet is bad (assumption 68). -/
def execRequestPacketWrite (c : Byte) (ws : List Word) (whole fault : Bool) (t : Time) (s : State) : Outcome :=
  let s := advance s t
  if !i3cOn s then .next s
  else
    let s : State := { s with mbx := { s.mbx with
      protocolErr := s.mbx.protocolErr || fault || !(c.toNat < 6 || otherTransfer c.toNat) } }
    .next (if c.toNat < 6 then takePacket s c.toNat ws (whole && !fault) else s)

/-- End the open packet once its CRC word has come (R348). -/
def settlePacket (s : State) (n : Nat) : State :=
  match (mailbox s n).packet with
  | some p => if packetWords p.header ≤ p.count then endPacket s n else s
  | none => s

/-- A write of MBX_REQ_HDR opens a packet; one that is open becomes bad. -/
def writeHdr (s : State) (n : Nat) (v : Word) : State :=
  let s := if (mailbox s n).packet.isSome then updMailbox s n rewindPacket else s
  settlePacket (updMailbox s n fun b => takeWord { b with packet := some { header := v, count := 0, bad := false } } v) n

/-- A write of MBX_REQ_DATA is the next word of the open packet; with none open it is ignored and BAD_PACKET is set. -/
def writeData (s : State) (n : Nat) (v : Word) : State :=
  if (mailbox s n).packet.isNone then updMailbox s n fun b => { b with badPacket := true }
  else settlePacket (updMailbox s n fun b => takeWord b v) n

/-- REQ_HDR_WRITE. -/
def execReqHdrWrite (m : Master) (n : Fin 8) (v : Word) (s : State) : Outcome :=
  let a := boxBase n + 8
  if !reaches s m n then .next (wrongPort s m n a true)
  else if 5 < n.val then .next (refuseAccess s m a true)
  else .next (writeHdr s n v)

/-- REQ_DATA_WRITE. -/
def execReqDataWrite (m : Master) (n : Fin 8) (v : Word) (s : State) : Outcome :=
  let a := boxBase n + 0xC
  if !reaches s m n then .next (wrongPort s m n a true)
  else if 5 < n.val then .next (refuseAccess s m a true)
  else .next (writeData s n v)

/-! ## Notification (R341, R351) -/

/-- MGMT_ALERT_N follows MB6: low while it holds a packet (R341). -/
def alertPin (s : State) (was : Bool) : State :=
  let now := !(mailbox s 6).rsp.words.isEmpty
  if was = now then s else emit s (.pin "MGMT_ALERT_N" (!now))

/-- A committed packet gives rise to its notice of arrival (R351). -/
def notify (s : State) (n : Nat) : State :=
  let b := mailbox s n
  if b.port = 1 then sendVector s 0 n
  else if b.port ≠ 0 || !s.mbx.ibiEn || !i3cOn s then s
  else if b.ibiWaiting then updMailbox s n fun b => { b with ibiMerged := sat32 b.ibiMerged }
  else emit (updMailbox s n fun b => { b with ibiWaiting := true }) (.ibi (0xA0 + n))

/-- Commit a packet to a response FIFO that has room for it. -/
def putPacket (s : State) (n : Nat) (ws : List Word) : State :=
  let was := !(mailbox s 6).rsp.words.isEmpty
  let s := updMailbox s n fun b => { b with
    rsp := { b.rsp with words := b.rsp.words ++ ws, wr := (b.rsp.wr + ws.length) % (2 * fifoWords n) } }
  notify (alertPin s was) n

/-- Free words of a response FIFO. -/
def rspFree (s : State) (n : Nat) : Nat := fifoWords n - (mailbox s n).rsp.words.length

/-! ## Moving a mailbox (R367) -/

/-- Bind a mailbox to a port: its FIFOs are emptied, its sessions close, and what it has outstanding is discarded. -/
def movePort (s : State) (n p : Nat) : State :=
  let was := !(mailbox s 6).rsp.words.isEmpty
  let s := updMailbox s n fun b => { b with
    port := p, outstanding := [], sending := [], moveTo := none, assembly := none, packet := none, ibiWaiting := false,
    req := { wr := b.req.wr, rd := b.req.wr }, rsp := { wr := b.rsp.wr, rd := b.rsp.wr }, gapLast := false }
  alertPin (closeSessionsBy s fun mb _ _ => mb == n) was

/-- A mailbox that MBX_PORT_SET moves itself goes to its new port once its answer has been read. -/
def settleMove (s : State) (n : Nat) : State :=
  let b := mailbox s n
  match b.moveTo with
  | some (p, id) =>
    if b.rsp.words.isEmpty && b.sending.isEmpty && !b.outstanding.any (·.id == id) then movePort s n p else s
  | none => s

/-! ## Reading responses and notices (R347) -/

/-- The packet at the front of a FIFO. -/
def frontPacket (f : Fifo) : List Word := f.words.take (packetWords (f.words.headD 0))

/-- The packet at the front has been read to its CRC word. -/
def dropFront (s : State) (n : Nat) : State :=
  let was := !(mailbox s 6).rsp.words.isEmpty
  let k := (frontPacket (mailbox s n).rsp).length
  let s := updMailbox s n fun b => { b with
    rsp := { b.rsp with words := b.rsp.words.drop k, rd := (b.rsp.rd + k) % (2 * fifoWords n), readPos := 0 } }
  settleMove (alertPin s was) n

/-- RESPONSE_PACKET_READ: one private read over I3C of at most `k` words; a read that stops early leaves the packet. -/
def execResponsePacketRead (n : Fin 8) (k : Nat) (t : Time) (s : State) : Outcome :=
  let s := advance s t
  if !i3cOn s then .next s
  else if (mailbox s n).port ≠ 0 then .next (wrongPort s .i3c n (boxBase n + 0x10) false)
  else
    let s := updMailbox s n fun b => { b with ibiWaiting := false }
    let ws := frontPacket (mailbox s n).rsp
    if ws.isEmpty then .next (emit s (.packet n [0]))
    else
      let s := emit s (.packet n (ws.take k))
      .next (if k < ws.length then s else dropFront s n)

/-- MBX_RSP_DATA: the next word of the packet at the front, 0 with none, and what its reading does. -/
def takeRspWord (s : State) (n : Nat) : State × Word :=
  let b := mailbox s n
  let ws := frontPacket b.rsp
  if ws.isEmpty then (s, 0)
  else if ws.length ≤ b.rsp.readPos + 1 then (dropFront s n, ws.getD b.rsp.readPos 0)
  else (updMailbox s n fun b => { b with rsp := { b.rsp with readPos := b.rsp.readPos + 1 } }, ws.getD b.rsp.readPos 0)

/-- RSP_DATA_READ. -/
def execRspDataRead (m : Master) (n : Fin 8) (s : State) : Outcome :=
  if !reaches s m n then .next (emit (wrongPort s m n (boxBase n + 0x10) false) (.read 0))
  else
    let (s, v) := takeRspWord s n
    .next (emit s (.read v))

/-- A write of REWIND: the tentative read position returns to the read pointer. -/
def rewindRsp (s : State) (n : Nat) : State := updMailbox s n fun b => { b with rsp := { b.rsp with readPos := 0 } }

/-- REWIND. -/
def execRspRewind (m : Master) (n : Fin 8) (s : State) : Outcome :=
  if !reaches s m n then .next (wrongPort s m n (boxBase n + 0x14) true) else .next (rewindRsp s n)

/-! ## Notices (R349, R350) -/

/-- Write a notice, or drop it and mark the gap (R350). -/
def writeNotice (s : State) (n seq : Nat) (payload : List Word) : State :=
  let ws := packetOf 3 0 false false payload
  if ws.length + 3 ≤ rspFree s n then putPacket (updMailbox s n fun b => { b with gapLast := false }) n ws
  else
    let gap := !(mailbox s n).gapLast
    let s := updMailbox s n fun b => { b with noticeLost := sat32 b.noticeLost, noticeDropped := true, gapLast := true }
    if gap then putPacket s n (packetOf 4 0 false false [BitVec.ofNat 32 seq]) else s

/-- NOTICE_WRITE: the secure world writes the oldest notice of Lantern to MB6, or of Strata to MB7. -/
def execNoticeWrite (strata : Bool) (t : Time) (s : State) : Outcome :=
  let s := advance s t
  if !secureUp s then .next s
  else if strata then
    match s.str.notices with
    | [] => .next s
    | (source, r) :: l =>
      let seq := (mailbox s 7).noticeSeq
      let s := { s with str := { s.str with notices := l } }
      let s := updMailbox s 7 fun b => { b with noticeSeq := (b.noticeSeq + 1) % 65536 }
      .next (writeNotice s 7 seq (BitVec.ofNat 32 (seq + source * 2 ^ 16) :: wordsOf r))
  else
    match s.lan.notices with
    | [] => .next s
    | p :: l => .next (writeNotice { s with lan := { s.lan with notices := l } } 6 (leNat (p.take 2)) (wordsOf p))

/-! ## Responses (R352, R362, R363) -/

/-- A response envelope. -/
def responseBytes (s : State) (n : Nat) (o : Outstanding) (st : Status) (flags : Nat) (body : Bytes) (reasons : List Nat) :
    Bytes :=
  let key := ((mailbox s n).sessions.look o.macSession).map (·.responseKey)
  let rest := padTo 8 (body ++ reasons.map fun r => BitVec.ofNat 8 r)
  let len := 32 + rest.length + (if key.isSome then 16 else 0)
  let head := leBytes 4 0x4E45564D ++ leBytes 2 o.code ++ leBytes 2 flags ++ leBytes 4 len ++ leBytes 4 body.length
    ++ leBytes 8 o.seq ++ leBytes 2 o.domain ++ leBytes 2 o.session ++ leBytes 2 (Status.code st) ++ leBytes 2 reasons.length
  match key with
  | some k => head ++ rest ++ Config.cmac k (head ++ rest)
  | none => head ++ rest

/-- The packets that carry an envelope: every one but the last is full, the first carries FIRST_FRAG and the last LAST_FRAG. -/
def envelopePackets (tag : Nat) (b : Bytes) : List (List Word) :=
  let ws := wordsOf b
  let n := (ws.length + 1023) / 1024
  (List.range n).map fun i => packetOf 2 tag (i == 0) (i + 1 == n) ((ws.drop (1024 * i)).take 1024)

/-- FLAGS of a final response: RESPONSE, and APPROVED where R365 gives it. -/
def finalFlags (o : Outstanding) (a : Answer) : Nat := 1 + bitAt (a.status == .ok && !o.unapproved) 1

/-- Sessions that were only waiting for their last response go (R359). -/
def dropClosing (s : State) : State := closeSessionsBy s fun _ _ _ => false

/-- Write the next packet of a response that fits (R346). -/
def sendNext (s : State) (n : Nat) : State :=
  match (mailbox s n).sending with
  | [] => s
  | ws :: l =>
    if ws.length ≤ rspFree s n then putPacket (updMailbox s n fun b => { b with sending := l }) n ws else s

/-- FINAL_RESPONSE_WRITE: the oldest command's final response, once it has one, is written packet by packet as each
fits; with no pair online no firmware writes it (R372). -/
def execFinalResponseWrite (n : Fin 6) (t : Time) (s : State) : Outcome :=
  let s := advance s t
  let b := mailbox s n
  if !firmwareRuns s then .next s
  else if !b.sending.isEmpty then .next (sendNext s n)
  else match b.outstanding with
    | [] => .next s
    | o :: l =>
      match o.answer with
      | none => .next s
      | some a =>
        let bytes := responseBytes s n o a.status (finalFlags o a) (a.items.flatMap RItem.bytes) a.reasons
        let s := updMailbox s n fun b => { b with outstanding := l, sending := envelopePackets o.tag bytes }
        .next (sendNext (freeDelivered (dropClosing s)) n)

/-- INTERIM_RESPONSE: 1 ms after its envelope, the oldest command without a final response gets its one interim response; the
monitor writes none (R363, R364). -/
def execInterimResponse (n : Fin 6) (t : Time) (s : State) : Outcome :=
  let s := advance s t
  let b := mailbox s n
  match b.outstanding with
  | [] => .next s
  | o :: l =>
    if o.answer.isSome || o.interim || s.now < o.takenAt + msT || !b.sending.isEmpty || !secureUp s then .next s
    else
      let bytes := responseBytes s n o (if o.rngWait || heldForRng s (.envelope o.id) then .rngStarting else .pending) 5 [] []
      let s := updMailbox s n fun b => { b with
        outstanding := { o with interim := true } :: l, sending := envelopePackets o.tag bytes }
      .next (sendNext s n)

/-- REASSEMBLY_TIMEOUT: an assembly with no fragment for 1 s is discarded and counted (R353). -/
def execReassemblyTimeout (n : Fin 6) (t : Time) (s : State) : Outcome :=
  let s := advance s t
  match (mailbox s n).assembly with
  | none => .next s
  | some a =>
    if s.now < a.lastAt + secT || !firmwareRuns s then .next s
    else .next (updMailbox s n fun b => { b with assembly := none, badCount := sat32 b.badCount })

end Sys2Proof.Machine
end

