-- ==== Sys2Proof/Machine/Sessions.lean ====
section
/-!
DEFINITION. Sessions of the mailboxes, the commands that open, list and move them, and the I3C target (R341 to R343, R357 to R360,
R367).
-/

namespace Sys2Proof.Machine

/-! ## Sessions (R357 to R359) -/

/-- SESSION_IDLE_S. -/
def sessionIdle (s : State) : Nat := field s.mbx.sessionCfg 16 0

/-- The code of a role (R357). -/
def roleCode : Role → Nat
  | .officer => 1
  | .operator => 2
  | .tenant => 3
  | .firmware => 0

/-- The role of a code. -/
def roleOf (n : Nat) : Option Role :=
  if n = 1 then some Role.officer else if n = 2 then some Role.operator else if n = 3 then some Role.tenant else none

/-- A session that is open: one that is closing is not. -/
def openSession (s : State) (mb n : Nat) : Option Session := ((mailbox s mb).sessions.look n).filter (!·.closing)

/-- Sessions open on a mailbox. -/
def openCount (s : State) (mb : Nat) : Nat := (mailbox s mb).sessions.count fun _ x => !x.closing

/-- SESSION_IDLE_TIMEOUT: SESSION_IDLE_S without an envelope whose MAC verifies. -/
def execSessionIdleTimeout (n : Fin 6) (k : Nat) (t : Time) (s : State) : Outcome :=
  let s := advance s t
  match openSession s n k with
  | none => .next s
  | some x =>
    if s.now < x.lastAt + sessionIdle s * secT then .next s
    else .next (closeSessionsBy s fun mb j _ => mb == n.val && j == k)

/-- OFFER_EXPIRY: an unused offer closes after 60 s. -/
def execOfferExpiry (id : Nat) (t : Time) (s : State) : Outcome :=
  let s := advance s t
  let stays (o : Offer) : Bool := o.id != id || decide (s.now < o.openedAt + 60 * secT)
  .next { s with mbx := { s.mbx with offers := s.mbx.offers.filter stays } }

/-- MBX_SESSION_OFFER: an offer of two new public keys under both attestation signatures, and the certificates.  Its signature block is a use of the
attestation keys, which a severity of S2 or above suspends (R277; assumption 134). -/
def execMbxSessionOffer (c : Cmd) (s : State) : Outcome :=
  .next (command s c 0x0102 fun s =>
    match leastOf (useConditions s ++ [(s.die.attestation.isNone, .notReady), (decide (8 ≤ s.mbx.offers.length), .busyLocked)]) with
    | some st => answerRoom s c.reply st
    | none => withDraw s c.reply 1 128 fun s b =>
      let id := s.mbx.nextOffer
      let ((body, sig, kem, x), s) := makeOffer s id b
      let o : Offer := { id := id, nonce := slice b 96 32, offer := body, kemSecret := kem, xSecret := x, openedAt := s.now }
      let s := { s with mbx := { s.mbx with offers := s.mbx.offers ++ [o], nextOffer := (id + 1) % 2 ^ 32 } }
      answerOk s c [] [.blob (body ++ sig ++ s.die.certificates)])

/-- The credential of a role and number in a domain (R264). -/
def credentialOf (s : State) (d : Nat) (r : Role) (n : Nat) : Option Credential :=
  match r with
  | .officer => (domain s d).officers.look n
  | .operator => (domain s d).operators.look n
  | .tenant => (domain s d).tenants.look n
  | .firmware => none

/-- The proof record's reason code (R275, R357), but for its signature: 0 where it screens VALID. -/
def proofCode (s : State) (o : Offer) (d index : Nat) (k : Credential) (body : Bytes) (r : Approval) : Nat :=
  if !recordFormed r then 1
  else if r.domain ≠ d || r.officer ≠ index then 2
  else if r.code ≠ 0x0103 then 3
  else if r.digest ≠ Config.sha384 (leBytes 2 0x0103 ++ leBytes 2 d ++ body) then 4
  else if r.nonce ≠ o.nonce then 5
  else if r.expiry % 2 ^ 48 < devSec s then 6
  else if r.serial ≠ s.id.serial && !allZero r.serial then 7
  else if k.sigAlg ≠ r.sigAlg then 8
  else 0

/-- Judge the proof record: the state after its verification, and its reason code (R12, R275, R357 check 4). -/
def judgeProof (s : State) (c : Cmd) (o : Offer) (d index : Nat) (k : Credential) : State × Nat :=
  match c.records with
  | [r] =>
    let code := proofCode s o d index k c.body.bytes r
    if code ≠ 0 then (s, code)
    else
      let s := faultVerifiers s c.coreFaults
      if (serviceCores s).isEmpty then (s, 11)
      else (countVerifications s ((partsOf r.sigAlg [] []).map (·.alg)), if signatureOk k.sigAlg (storedCred k.sigAlg k.key) (approvalHeader r) (r.signature.take r.sigLen) then 0 else 10)
  | _ => (s, 1)

/-- Open a session whose checks have passed: its two keys, its number, and the answer under its response key. -/
def openNew (s : State) (c : Cmd) (mb d index : Nat) (role : Role) (keys : Bytes) : State :=
  let n := (mailbox s mb).nextSession
  let x : Session := { domain := d, role := role, credential := index, requestKey := keys.take 32, responseKey := keys.drop 32,
                       lastAt := s.now }
  let s := updMailbox s mb fun b => { b with
    sessions := b.sessions.put n x, nextSession := n + 1
    outstanding := b.outstanding.map fun o => if c.reply = .envelope o.id then { o with macSession := n } else o }
  answerOk s c [0] [.number n]

/-- MBX_SESSION_OPEN: its checks in the order of R357; the offer is consumed whatever the outcome. -/
def execMbxSessionOpen (c : Cmd) (s : State) : Outcome :=
  .next (command s c 0x0103 fun s =>
    let b := c.body.bytes
    let d := leAt b 4 2
    let index := leAt b 7 1
    let mb := match c.caller with
      | .session mb _ => mb
      | _ => 0
    if b.length ≠ 1128 then answerStatus s c.reply .invalidLength
    else match s.mbx.offers.find? (·.id == leAt b 0 4) with
      | none => answerStatus s c.reply .invalidParameter
      | some o =>
        let s := { s with mbx := { s.mbx with offers := s.mbx.offers.filter (·.id != o.id) } }
        if (domain s d).state ≠ .active || !domainKnown s d then answerStatus s c.reply .notReady
        else match (roleOf (leAt b 6 1)).bind fun r => (credentialOf s d r index).map fun k => (r, k) with
          | none => answerStatus s c.reply .notPermitted
          | some (role, k) =>
            match judgeProof s c o d index k with
            | (s, 0) =>
              let x := x25519 o.xSecret (slice b 1096 32)
              if allZero x then answerStatus s c.reply .invalidKey
              else if 16 ≤ openCount s mb || 65535 < (mailbox s mb).nextSession then answerBusy s c.reply 0xFFFFFFFF
              else
                let ct := slice b 8 1088
                let ctx := Config.sha384 (o.offer ++ ct ++ slice b 1096 32)
                openNew s c mb d index role (kdf 2 (Config.kemDecaps o.kemSecret ct ++ x) (asciiBytes "SNX4144 SESSION") ctx 64)
            | (s, code) => answer s c.reply { status := .notPermitted, reasons := [code] })

/-- MBX_SESSION_CLOSE: the session itself closes; its answer is the last under its keys. -/
def execMbxSessionClose (c : Cmd) (s : State) : Outcome :=
  .next (command s c 0x0104 fun s =>
    match c.caller with
    | .session mb n => closeSessionsBy (answerOk s c [] []) fun k j _ => k == mb && j == n
    | _ => answerStatus s c.reply .notPermitted)

/-- MBX_SESSION_LIST: mailbox, number, domain, role, credential and idle seconds of each open session. -/
def execMbxSessionList (c : Cmd) (s : State) : Outcome :=
  .next (command s c 0x0105 fun s =>
    let row (mb n : Nat) (x : Session) : Bytes :=
      leBytes 1 mb ++ leBytes 2 n ++ leBytes 2 x.domain ++ leBytes 1 (roleCode x.role) ++ leBytes 1 x.credential
        ++ leBytes 4 ((s.now - x.lastAt) / secT)
    answerOk s c [] ((List.range 6).flatMap fun mb =>
      ((mailbox s mb).sessions.filter fun e => !e.2.closing).map fun e => RItem.blob (row mb e.1 e.2)))

/-- MBX_PORT_SET: a command that moves its own mailbox is answered on the old port before the change. -/
def execMbxPortSet (c : Cmd) (s : State) : Outcome :=
  .next (command s c 0x0110 fun s =>
    let n := c.nat 0x0C
    let p := c.nat 0x0D
    if 7 < n || 2 < p then answerStatus s c.reply .invalidParameter
    else withRoutine s c 0x0110 0 fun s reasons =>
      let s := answerOk s c reasons []
      match c.reply with
      | .envelope id =>
        if (mailbox s n).outstanding.any (·.id == id) then updMailbox s n fun b => { b with moveTo := some (p, id) }
        else movePort s n p
      | _ => movePort s n p)

/-- MBX_CFG_SET. -/
def execMbxCfgSet (c : Cmd) (s : State) : Outcome :=
  .next (command s c 0x0111 fun s =>
    match c.regWrites with
    | [(4, v)] =>
      if 60 ≤ field v 16 0 && field v 16 0 ≤ 86400 then
        answerOk { s with mbx := { s.mbx with sessionCfg := storeMasked s.mbx.sessionCfg v 0x1FFFF } } c [] []
      else answerStatus s c.reply .invalidParameter
    | _ => answerStatus s c.reply .invalidParameter)

/-! ## The I3C target (R342) -/

/-- Give the target a dynamic address. -/
def setDynamic (s : State) (a : Nat) : State := { s with mbx := { s.mbx with dynAddr := a, addrValid := true } }

/-- A common command code that the target answers once it has its address: with MGMT_EN at 0 it takes part in none. -/
def ccc (s : State) (t : Time) (k : State → State) : Outcome :=
  let s := advance s t
  .next (if i3cOn s then k s else s)

/-- ENTDAA: a target without a dynamic address takes the one assigned. -/
def execEntdaa (a : BitVec 7) (t : Time) (s : State) : Outcome :=
  let s := advance s t
  .next (if s.mbx.mgmtEn && !s.mbx.addrValid then setDynamic s a.toNat else s)

/-- SETDASA: an address from the static address 0x50 + CHAMBER_ID. -/
def execSetdasa (st a : BitVec 7) (t : Time) (s : State) : Outcome :=
  let s := advance s t
  .next (if s.mbx.mgmtEn && !s.mbx.addrValid && st.toNat == 0x50 + s.id.chamberId then setDynamic s a.toNat else s)

/-- SETNEWDA. -/
def execSetnewda (a : BitVec 7) (t : Time) (s : State) : Outcome := ccc s t fun s => setDynamic s a.toNat

/-- RSTDAA: the dynamic address is cleared. -/
def execRstdaa (t : Time) (s : State) : Outcome :=
  ccc s t fun s => { s with mbx := { s.mbx with dynAddr := 0, addrValid := false } }

/-- ENEC: in-band interrupts are enabled. -/
def execEnec (t : Time) (s : State) : Outcome := ccc s t fun s => { s with mbx := { s.mbx with ibiEn := true } }

/-- DISEC: in-band interrupts are disabled. -/
def execDisec (t : Time) (s : State) : Outcome := ccc s t fun s => { s with mbx := { s.mbx with ibiEn := false } }

/-- The provisional ID (R342). -/
def provisionalId (s : State) : Nat := 0x0A5E * 2 ^ 33 + 0x4144 * 2 ^ 16 + s.id.chamberId * 2 ^ 12

/-- GETPID. -/
def execGetpid (t : Time) (s : State) : Outcome := ccc s t fun s => emit s (.i3c (beBytes 6 (provisionalId s)))

/-- GETBCR. -/
def execGetbcr (t : Time) (s : State) : Outcome := ccc s t fun s => emit s (.i3c [0x26])

/-- GETDCR. -/
def execGetdcr (t : Time) (s : State) : Outcome := ccc s t fun s => emit s (.i3c [0])

/-- GETSTATUS: the standard's form, from whether an interrupt waits and whether a protocol error stands. -/
def execGetstatus (t : Time) (s : State) : Outcome :=
  ccc s t fun s => emit s (.i3c (Config.i3cStatus (s.mbx.boxes.any fun e => e.2.ibiWaiting) s.mbx.protocolErr))

/-- GETMWL. -/
def execGetmwl (t : Time) (s : State) : Outcome := ccc s t fun s => emit s (.i3c (beBytes 2 s.mbx.mwl))

/-- GETMRL: the length, and the one mandatory byte of an in-band interrupt. -/
def execGetmrl (t : Time) (s : State) : Outcome := ccc s t fun s => emit s (.i3c (beBytes 2 s.mbx.mrl ++ [1]))

/-- SETMWL: a value below 4,105 is refused. -/
def execSetmwl (v : BitVec 16) (t : Time) (s : State) : Outcome :=
  ccc s t fun s => if v.toNat < 4105 then s else { s with mbx := { s.mbx with mwl := v.toNat } }

/-- SETMRL: a value below 4,104 is refused. -/
def execSetmrl (v : BitVec 16) (t : Time) (s : State) : Outcome :=
  ccc s t fun s => if v.toNat < 4104 then s else { s with mbx := { s.mbx with mrl := v.toNat } }

/-- GETMXDS. -/
def execGetmxds (t : Time) (s : State) : Outcome := ccc s t fun s => emit s (.i3c Config.i3cSpeed)

/-- GETCAPS. -/
def execGetcaps (t : Time) (s : State) : Outcome := ccc s t fun s => emit s (.i3c Config.i3cCaps)

/-- ENTHDR0: the bus enters HDR-DDR. -/
def execEnthdr0 (t : Time) (s : State) : Outcome := ccc s t fun s => { s with mbx := { s.mbx with hdr := true } }

/-- RSTACT: actions 0x01 and 0x02 reset the target front end only, and its dynamic address is cleared (R489). -/
def execRstact (a : Byte) (t : Time) (s : State) : Outcome :=
  ccc s t fun s =>
    if a = 1 || a = 2 then
      { s with mbx := { s.mbx with
        dynAddr := 0, addrValid := false, ibiEn := false, protocolErr := false, hdr := false, regAddr := 0, mwl := 4105, mrl := 4104 } }
    else s

end Sys2Proof.Machine
end

