-- ==== Sys2Proof/Machine/Worlds.lean ====
section
/-!
DEFINITION. The world monitor: pairs and secure calls, the page owner table, firmware images, restarts of both worlds, and clock
and power control (R371 to R399).
-/

namespace Sys2Proof.Machine

/-! ## Pairs (R371 to R373) -/

/-- Pair `p`. -/
def pair (s : State) (p : Nat) : Pair := s.wld.pairs.get {} p
/-- Change pair `p`. -/
def updPair (s : State) (p : Nat) (f : Pair → Pair) : State :=
  { s with wld := { s.wld with pairs := s.wld.pairs.put p (f (pair s p)) } }

/-- The pair's home world is secure. -/
def secureHome (s : State) (p : Nat) : Bool := bit s.wld.home p

/-- The pairs that are online. -/
def onlinePairs (s : State) : List Nat := (List.range 4).filter fun p => (pair s p).online

/-- The shared pair: where a world has no home pair online, the lowest online pair of the other home (R373). -/
def sharedPair (s : State) : Option Nat :=
  let on := onlinePairs s
  if on.all (secureHome s) || on.all (fun p => !secureHome s p) then on.head? else none

/-- The call that a pair's WCALL waits for. -/
def callOf (s : State) (p : Nat) : Option SecureCall := s.wld.calls.find? fun c => c.pair == p && !c.pending && !c.dropped

/-- The secure world, or the monitor, runs on the pair: a shared pair's by its quantum, a normal home's while its WCALL runs or before the
normal world is up (R373, R376, R383). -/
def secureOn (s : State) (p : Nat) : Bool :=
  if sharedPair s = some p then (pair s p).secureRuns else secureHome s p || (callOf s p).isSome || !s.wld.normalUp

/-- The normal world is up and has the pair: its home, or the shared pair in a normal quantum. -/
def normalRuns (s : State) (p : Nat) : Bool :=
  s.wld.normalUp && (pair s p).online && (if sharedPair s = some p then !(pair s p).secureRuns else !secureHome s p)

/-- CALL_LIMIT_US in units of `Time`. -/
def callLimit (s : State) : Time := field s.wld.cfg2 13 0 * usT

/-- The worlds block's register at an offset. -/
def wldAddr (off : Nat) : Nat := 0x03000000 + off

/-! ## Pages (R379, R382) -/

/-- Drop the content of the pages that meet `p`: they read as zeros. -/
def zeroPages (s : State) (p : Nat → Bool) : State :=
  { s with ctl := s.ctl.filter fun c => !p (c.1 / 4096) }

/-- Set a page's entry. -/
def setPage (s : State) (p : Nat) (e : Word) : State :=
  { s with wld := { s.wld with pages := s.wld.pages.set (if p < 16 then 0x100 else 0) p e } }

/-- The secure world's write to a page's entry: one that is LOCKED stands, and the write is a violation.  A page that leaves SECURE
is zeroed first. -/
def writePage (s : State) (m : Master) (p : Nat) (v : Word) : State :=
  let old := pageEntry s p
  let new := storeMasked old v 0x1FF
  if bit old 8 then lockedWrite s m (wldAddr 0x10000 + 4 * p)
  else
    let leaves := field old 1 0 == 0 && field new 1 0 != 0
    setPage (if leaves then zeroPages s (· == p) else s) p new

/-- PAGE_OWNER_WRITE: only the secure world writes an entry. -/
def execPageOwnerWrite (m : Master) (page : Fin 8192) (v : Word) (s : State) : Outcome :=
  if !m.isSecure then .next (refuseAccess s m (wldAddr 0x10000 + 4 * page.val) true) else .next (writePage s m page v)

/-! ## Firmware images (R394, R395) -/

/-- Bytes of a slot of `size` bytes: what no chunk has written since the erase reads as 0xFF. -/
def slotBytes (b : Bytes) (off n : Nat) : Bytes := slice b off n ++ List.replicate (n - (slice b off n).length) 0xFF

/-- Bytes of a slot: 6 MiB for the secure world, 8 MiB for the normal. -/
def slotSize (world : Nat) : Nat := if world = 1 then 6 * 2 ^ 20 else 8 * 2 ^ 20

/-- The image in a slot of a world (1 secure, 2 normal). -/
def image (s : State) (world slot : Nat) : Image :=
  if world = 1 then (if slot = 0 then s.die.secureA else s.die.secureB)
  else if slot = 0 then s.die.normalA else s.die.normalB

/-- Change the image in a slot. -/
def updImage (s : State) (world slot : Nat) (f : Image → Image) : State :=
  let x := f (image s world slot)
  { s with die :=
    if world = 1 then (if slot = 0 then { s.die with secureA := x } else { s.die with secureB := x })
    else if slot = 0 then { s.die with normalA := x } else { s.die with normalB := x } }

/-- IMAGE_LEN. -/
def imageLen (b : Bytes) : Nat := leNat (slotBytes b 0x10 4)
/-- SVN. -/
def imageSvn (b : Bytes) : Nat := leNat (slotBytes b 0xC 4)
/-- The control-memory pages that an image's code is loaded into. -/
def imagePages (b : Bytes) : List Nat :=
  (List.range ((imageLen b + 4095) / 4096)).map (leNat (slotBytes b 0x18 2) + ·)

/-- A world's SVN floor. -/
def svnFloor (s : State) (world : Nat) : Nat := if world = 1 then s.die.svnSecure else s.die.svnNormal

/-- The index of the first check of R395 that an image fails, 0 if it passes them all. -/
def imageCheck (s : State) (world : Nat) (b : Bytes) : Nat :=
  let n := imageLen b
  let reserved := slotBytes b 7 1 ++ slotBytes b 0x1A 6 ++ slotBytes b 0x60 160
  let serial := slotBytes b 0x50 16
  let pages := imagePages b
  if leNat (slotBytes b 0 4) ≠ 0x4D524946 || leNat (slotBytes b 4 2) ≠ 1 || leNat (slotBytes b 6 1) ≠ world || !allZero reserved then 1
  else if slotSize world < n + 0x100 + 2668 || n ≤ leNat (slotBytes b 0x14 4)
      || pages.any fun p => decide (8191 < p) || bit (pageEntry s p) 8 then 2
  else if !allZero serial && serial ≠ s.id.serial then 3
  else if imageSvn b < svnFloor s world then 4
  else if Config.sha384 (slotBytes b 0x100 n) ≠ slotBytes b 0x20 48 then 5
  else if (world = 2 && s.die.lmsKey.isEmpty)
      || !Config.imageValid world (if world = 2 then s.die.lmsKey else []) (slotBytes b 0 (n + 0x100 + 2668)) then 6
  else 0

/-- NW_KEY's place in a page entry of the normal world: OWNER NORMAL, NX 0. -/
def normalEntry (s : State) : Word := BitVec.ofNat 32 (1 + nwKey s * 16)

/-- Load an image's code into its pages, which become SECURE, colour 0, or NORMAL, colour NW_KEY (R395). -/
def loadImage (s : State) (world : Nat) (b : Bytes) : State :=
  let pages := imagePages b
  let s := pages.foldl (fun s p => setPage s p (if world = 1 then 0 else normalEntry s)) s
  let s := zeroPages s pages.contains
  { s with ctl := memStore s.ctl (4096 * leNat (slotBytes b 0x18 2)) (slotBytes b 0x100 (imageLen b)) }

/-- The life-cycle state whose firmware row governs: the origin's in TEST n (R401). -/
def firmwareState (s : State) : Nat := if inTest s then s.lcy.origin else s.lcy.state

/-- The life cycle lets the secure image be loaded (R401). -/
def secureAllowed (s : State) : Bool := [2, 3, 4, 5].contains (firmwareState s)
/-- The life cycle lets the normal image be loaded (R401). -/
def normalAllowed (s : State) : Bool := [3, 4].contains (firmwareState s)

/-! ## The secure world: boot, restart and halt (R388, R389, R396) -/

/-- Start the secure world from a slot whose image has passed. -/
def startSecure (s : State) (slot : Nat) (again : Bool) : State :=
  let x := image s 1 slot
  let s := loadImage s 1 x.bytes
  { s with wld := { s.wld with
    running := true, restarting := again, bootedSecure := slot, resultSecure := 0, secureKick := s.now, trialSecure := x.trial } }

/-- Boot the secure world: the slot named NEXT, then the other (R396). -/
def bootSecure (s : State) : State :=
  let s := { s with wld := { s.wld with booted := true } }
  if !secureAllowed s then s
  else
    let a := s.die.secureNext
    let r := imageCheck s 1 (image s 1 a).bytes
    if r = 0 then startSecure s a false
    else
      let q := imageCheck s 1 (image s 1 (1 - a)).bytes
      if q = 0 then startSecure s (1 - a) false else { s with wld := { s.wld with resultSecure := q } }

/-- The secure world stays down until reset (R389). -/
def haltSecure (s : State) : State :=
  event (faultAlarm { s with wld := { s.wld with halted := true } } 9 0) 7 0 0

/-- Ring commands that the secure world has taken end with SECURE_WORLD_DOWN (R388). -/
def downRings (s : State) : State :=
  let down (j : RingJob) : RingJob :=
    if j.presented && j.opcode == 5 && j.finished.isNone then { j with finished := some { status := .secureWorldDown } } else j
  { s with host := { s.host with funcs := s.host.funcs.map fun f => (f.1, { f.2 with
      queues := f.2.queues.map fun q => (q.1, { q.2 with jobs := q.2.jobs.map down }) }) } }

/-- Stop the secure world (step 1 of R388): what it had taken is answered SECURE_WORLD_DOWN, without a MAC, and outstanding page-ins
fail.  Changes gathered for a commit that has not begun are not made (R304). -/
def stopSecure (s : State) : State :=
  let a : Answer := { status := .secureWorldDown }
  let s := setReady { s with wld := { s.wld with secureUp := false, running := false } } 12 false
  let lost := s.geo.gathered
  let s := failChanges { s with geo := { s.geo with gathered := [] } } lost .secureWorldDown
  let down (b : Mailbox) : Mailbox := { b with
    assembly := none
    moveTo := none
    outstanding := b.outstanding.map fun o => { o with answer := some a, macSession := 0 } }
  let s := { s with
    mbx := { s.mbx with boxes := s.mbx.boxes.map fun e => (e.1, down e.2) }
    wld := { s.wld with calls := (s.wld.calls.filter (!·.dropped)).map fun c => { c with answer := some a } } }
  failPageIns (downRings s)

/-- SECURE pages that are not LOCKED. -/
def zeroSecure (s : State) : State :=
  zeroPages s fun p => field (pageEntry s p) 1 0 == 0 && !bit (pageEntry s p) 8

/-- The restart that follows (R388, R389, R397): a world in trial falls back to the other slot. -/
def restartSecure (s : State) (cause : Nat) : State :=
  let trial := s.wld.trialSecure
  let slot := if trial then 1 - s.wld.bootedSecure else s.wld.bootedSecure
  let s := if trial then event { s with die := { s.die with secureNext := slot } } 8 1 slot else s
  let s := event s 6 s.wld.restarts cause
  let s := { s with wld := { s.wld with
    restartTimes := (s.wld.restartTimes ++ [s.now]).drop (s.wld.restartTimes.length - 2), trialSecure := false } }
  let r := imageCheck s 1 (image s 1 slot).bytes
  if r = 0 then startSecure s slot true else haltSecure { s with wld := { s.wld with resultSecure := r } }

/-- Three restarts have been made, the first of them within 600 s. -/
def restartBarred (s : State) : Bool :=
  match s.wld.restartTimes with
  | [a, _, _] => decide (s.now ≤ a + 600 * secT)
  | _ => false

/-- The secure world goes down: cause 1 watchdog, 2 exception, 3 RESTART (R388). -/
def secureDown (s : State) (cause : Nat) : State :=
  if !s.wld.running then s
  else
    let s := zeroSecure (stopSecure s)
    if restartBarred s then haltSecure s else restartSecure s cause

/-- A write of WLD_SW_KICK or WLD_FW_CTRL comes from the secure world only. -/
def bySecure (s : State) (m : Master) (off : Nat) (k : State → State) : Outcome :=
  .next (if !m.isSecure then refuseAccess s m (wldAddr off) true else k s)

/-- SW_KICK. -/
def execSwKick (m : Master) (t : Time) (s : State) : Outcome :=
  bySecure (advance s t) m 0x10 fun s => { s with wld := { s.wld with secureKick := s.now } }

/-- A write of READY: SECURE_UP is set, and RESTARTS rises after a restart. -/
def secureReady (s : State) : State :=
  if !s.wld.running then s
  else
    let n := if s.wld.restarting then satAdd 8 s.wld.restarts 1 else s.wld.restarts
    setReady { s with wld := { s.wld with secureUp := true, restarting := false, restarts := n } } 12 true

/-- SW_READY. -/
def execSwReady (m : Master) (t : Time) (s : State) : Outcome := bySecure (advance s t) m 0x10 secureReady

/-- SW_RESTART. -/
def execSwRestart (m : Master) (t : Time) (s : State) : Outcome :=
  bySecure (advance s t) m 0x10 fun s => secureDown s 3

/-- SECURE_WATCHDOG_EXPIRY: SW_WDOG_MS after the last kick; it pauses while a probe halts a secure context (R413). -/
def execSecureWatchdogExpiry (t : Time) (s : State) : Outcome :=
  let s := advance s t
  if (s.lcy.halted.look 1).isSome || s.now < s.wld.secureKick + field s.wld.cfg 13 0 * msT then .next s
  else .next (secureDown s 1)

/-- SECURE_EXCEPTION. -/
def execSecureException (t : Time) (s : State) : Outcome := .next (secureDown (advance s t) 2)

/-! ## The normal world (R390, R396, R397) -/

/-- Start the normal world from a slot whose image has passed. -/
def startNormal (s : State) (slot : Nat) : State :=
  let x := image s 2 slot
  let s := loadImage s 2 x.bytes
  setReady { s with wld := { s.wld with
    normalUp := true, bootedNormal := slot, resultNormal := 0, normalKick := s.now, trialNormal := x.trial } } 13 true

/-- Load and start the normal world: the slot named NEXT, then the other. -/
def bootNormal (s : State) : State :=
  if !normalAllowed s then s
  else
    let a := s.die.normalNext
    let r := imageCheck s 2 (image s 2 a).bytes
    if r = 0 then startNormal s a
    else
      let q := imageCheck s 2 (image s 2 (1 - a)).bytes
      if q = 0 then startNormal s (1 - a) else { s with wld := { s.wld with resultNormal := q } }

/-- The normal world stops: its pages are zeroed, its calls' results will be discarded, and its tokens and pending power requests
are dropped (R390). -/
def stopNormal (s : State) : State :=
  let s := zeroPages s fun p => field (pageEntry s p) 1 0 == 1
  setReady { s with wld := { s.wld with
    normalUp := false
    calls := (s.wld.calls.filter (·.answer.isNone)).map fun c => { c with dropped := true }
    pwrPending := s.wld.pwrPending.keep fun _ r => !r.2 } } 13 false

/-- Restart the normal world: an image in trial that goes down before it is confirmed gives way to the other slot (R397). -/
def restartNormal (s : State) : State :=
  let slot := 1 - s.wld.bootedNormal
  let s := if s.wld.normalUp && s.wld.trialNormal then
      event { s with die := { s.die with normalNext := slot }, wld := { s.wld with trialNormal := false } } 8 2 slot
    else s
  bootNormal (stopNormal s)

/-- NW_KICK: accepted from the normal world only. -/
def execNwKick (m : Master) (t : Time) (s : State) : Outcome :=
  let s := advance s t
  if !m.isNormal then .next (refuseAccess s m (wldAddr 0x14) true)
  else .next { s with wld := { s.wld with normalKick := s.now } }

/-- NORMAL_WATCHDOG_EXPIRY: with NW_WDOG_MS at 0 there is none; it pauses while a probe halts a normal context (R413). -/
def execNormalWatchdogExpiry (t : Time) (s : State) : Outcome :=
  let s := advance s t
  let ms := field s.wld.cfg 29 16
  if ms = 0 || !s.wld.normalUp || (s.lcy.halted.look 0).isSome || s.now < s.wld.normalKick + ms * msT then .next s
  else .next (restartNormal s)

/-- NORMAL_EXCEPTION. -/
def execNormalException (t : Time) (s : State) : Outcome :=
  let s := advance s t
  if s.wld.normalUp then .next (restartNormal s) else .next s

/-- NORMAL_WORLD_START: step 6 of the boot, at READY or once both secure slots have failed (R396). -/
def execNormalWorldStart (t : Time) (s : State) : Outcome :=
  let s := advance s t
  let failed := s.wld.booted && !s.wld.running && s.wld.resultSecure ≠ 0
  if s.wld.normalUp || s.wld.normalTried || !firmwareRuns s || !(secureUp s || failed) then .next s
  else .next (bootNormal { s with wld := { s.wld with normalTried := true } })

/-! ## Confirming an image (R397) -/

/-- Confirm a world's image in trial: its floor rises to the image's SVN. -/
def confirm (s : State) (world : Nat) : State :=
  let slot := if world = 1 then s.wld.bootedSecure else s.wld.bootedNormal
  let floor := max (svnFloor s world) (min 63 (imageSvn (image s world slot).bytes))
  let s := updImage s world slot fun x => { x with trial := false }
  if world = 1 then
    { s with die := { s.die with svnSecure := floor }, wld := { s.wld with trialSecure := false } }
  else { s with die := { s.die with svnNormal := floor }, wld := { s.wld with trialNormal := false } }

/-- A write of CONFIRM confirms the secure image in trial. -/
def confirmSecure (s : State) : State := if s.wld.running && s.wld.trialSecure then confirm s 1 else s

/-- CONFIRM: a write to WLD_FW_CTRL. -/
def execFwConfirmWrite (m : Master) (t : Time) (s : State) : Outcome := bySecure (advance s t) m 0x1C confirmSecure

/-- FW_CONFIRM: the normal world confirms its image; with none in trial there is nothing to confirm. -/
def execFwConfirm (p : Fin 4) (t : Time) (s : State) : Outcome :=
  let s := advance s t
  if !normalRuns s p then .next s
  else if s.wld.trialNormal then .next (emit (confirm s 2) (.answer { status := .ok }))
  else .next (emit s (.answer { status := .invalidParameter }))

/-! ## Secure calls (R376, R377) -/

/-- Write a call's response envelope to where its WCALL asked for it, and give its status back.  A response longer than the room
for it is not written. -/
def deliverCall (s : State) (c : SecureCall) (a : Answer) : State :=
  let o : Outstanding := { id := 0, tag := 0, code := c.code, seq := c.seq, domain := c.domain, session := 0, macSession := 0,
                           unapproved := c.unapproved, takenAt := c.startAt }
  let b := responseBytes s 0 o a.status (finalFlags o a) (a.items.flatMap RItem.bytes) a.reasons
  if c.room < b.length then emit s (.answer { status := .invalidLength })
  else
    let m : BusMaster := { number := c.pair, sec := false, core := true, key := nwKey s }
    emit (ctlWrite s m (c.address - 0x100000000) b) (.answer a)

/-- Forget a call. -/
def dropCall (s : State) (token : Nat) : State :=
  freeDelivered { s with wld := { s.wld with calls := s.wld.calls.filter (·.token != token) } }

/-- RETURN: the secure service in progress on a pair returns, once it has its answer. -/
def execWorldReturn (p : Fin 4) (t : Time) (s : State) : Outcome :=
  let s := advance s t
  match callOf s p with
  | none => .next s
  | some c =>
    match c.answer with
    | none => .next s
    | some a => .next (deliverCall (dropCall s c.token) c a)

/-- CALL_LIMIT_EXPIRY: a service that has run CALL_LIMIT_US on a normal home pair goes on elsewhere, and its WCALL returns
PENDING with its token. -/
def execCallLimitExpiry (p : Fin 4) (t : Time) (s : State) : Outcome :=
  let s := advance s t
  match callOf s p with
  | none => .next s
  | some c =>
    if c.answer.isSome || secureHome s p || s.now < c.startAt + callLimit s then .next s
    else
      let mark (x : SecureCall) : SecureCall := if x.token == c.token then { x with pending := true } else x
      .next (emit { s with wld := { s.wld with calls := s.wld.calls.map mark } }
        (.answer { status := .pending, items := [.number c.token] }))

/-- POLL: PENDING, or the final status and data of a call that has returned PENDING; a token of none is INVALID_PARAMETER. -/
def execWorldPoll (p : Fin 4) (token : Nat) (t : Time) (s : State) : Outcome :=
  let s := advance s t
  if !normalRuns s p then .next s
  else match s.wld.calls.find? fun c => c.token == token && c.pending && !c.dropped with
    | none => .next (emit s (.answer { status := .invalidParameter }))
    | some c =>
      match c.answer with
      | none =>
        let st : Status := if heldForRng s (.call token) then .rngStarting else .pending
        .next (emit s (.answer { status := st, items := [.number token] }))
      | some a => .next (deliverCall (dropCall s token) c a)

/-! ## Pair faults and memory errors (R372 to R374) -/

/-- SHARED_QUANTUM_END: 500 µs after it began, the quantum of a shared pair goes to the other world. -/
def execSharedQuantumEnd (p : Fin 4) (t : Time) (s : State) : Outcome :=
  let s := advance s t
  if sharedPair s ≠ some p.val || s.now < (pair s p).quantumAt + 500 * usT then .next s
  else .next (updPair s p fun x => { x with secureRuns := !x.secureRuns, quantumAt := s.now })

/-- The command code behind a carrier's answer, where it has one. -/
def codeOfReply (s : State) : Reply → Nat
  | .envelope id => ((s.mbx.boxes.findSome? fun e => e.2.outstanding.find? (·.id == id)).map (·.code)).getD 0
  | .call k => ((s.wld.calls.find? (·.token == k)).map (·.code)).getD 0
  | _ => 0

/-- Answer a command with INTERNAL, which Strata records (R7, R447). -/
def answerInternal (s : State) (r : Reply) : State :=
  let code := codeOfReply s r
  event (answerStatus s r .internal) 1 (code / 256) code

/-- No firmware runs any more (R372): both worlds are down, and what they hold stays. -/
def stopFirmware (s : State) : State :=
  setReady (setReady { s with wld := { s.wld with secureUp := false, running := false, normalUp := false } } 12 false) 13 false

/-- LOCKSTEP_MISMATCH: the pair stays OFFLINE until reset, the commands its thread carried are answered INTERNAL, and a call that it
waited for is abandoned.  With no pair left no firmware runs. -/
def execLockstepMismatch (p : Fin 4) (carried : List Reply) (t : Time) (s : State) : Outcome :=
  let s := advance s t
  if !(pair s p).online then .next s
  else
    let was := sharedPair s
    let s := updPair s p fun x => { x with online := false }
    let s := event (faultAlarm s 8 p) 5 p 0
    let waits (c : SecureCall) : SecureCall := if c.pair == p.val && !c.pending then { c with dropped := true } else c
    let s := { s with wld := { s.wld with calls := s.wld.calls.map waits } }
    if !firmwareRuns s then .next (stopFirmware s)
    else
    let s := emit (carried.foldl answerInternal s) (.interrupt p 0)
    if sharedPair s = was then .next s
    else match sharedPair s with
      | some q => .next (updPair s q fun x => { x with secureRuns := true, quantumAt := s.now })
      | none => .next s

/-- ECC_DOUBLE_ERROR: a core takes a machine check, which in the secure world is a crash; another master gets an error
completion. -/
def execEccDoubleError (m : Fin 13) (secure : Bool) (t : Time) (s : State) : Outcome :=
  let s := advance s t
  if 3 < m.val then .next (emit s (.errorCompletion m))
  else
    let s := emit s (.machineCheck m)
    .next (if secure then secureDown s 2 else s)

/-! ## Clock and power control (R391 to R393) -/

/-- A unit's OWNER bit. -/
def ownerBit (s : State) (u : Nat) : Bool := bit (s.wld.owner.get 0 (u / 32)) (u % 32)

/-- A job, segment, context, lock or staged job is on the unit. -/
def unitUsed (s : State) (u : Nat) : Bool :=
  if u < 32 then (svc s u).hold.isSome
  else if u < 96 then !(digestEngine s (u - 32)).ctxs.isEmpty
  else
    let c := core s (u - 96)
    c.running.isSome || c.staged.isSome || s.psg.bound.any (·.core == u - 96)

/-- A unit is held (R391). -/
def unitHeld (s : State) (u : Nat) : Bool := ownerBit s u || (96 ≤ u && inPassage s (u - 96)) || unitUsed s u

/-- The readiness bits of the engines after a unit has come or gone; one that comes back takes work 64 MCLK cycles later. -/
def refreshUnits (s : State) : State :=
  let r := refreshPke (refreshDigest (refreshSvc { s with now := s.now + 64 * mclkT }))
  { r with now := s.now }

/-- The action would not change the unit's state: 0 CLOCK_OFF, 1 CLOCK_ON, 2 POWER_OFF, 3 POWER_ON. -/
def powerIdle (s : State) (u a : Nat) : Bool :=
  if a = 0 then s.wld.clkOff.contains u
  else if a = 1 then !s.wld.clkOff.contains u
  else if a = 2 then s.wld.pwrOff.contains u
  else !s.wld.pwrOff.contains u

/-- A unit that is powered on begins with its self-test (R393). -/
def startUnit (s : State) (u : Nat) : State :=
  if u < 32 then updSvc s u fun x => { x with state := .selfTest, mask := {}, zeroUntil := 0, testFrom := some s.now }
  else if u < 96 then updDigest s (u - 32) fun x => { x with state := .selfTest, testFrom := some s.now }
  else updCore s (u - 96) fun x => { x with state := .selfTest, testFrom := some s.now }

/-- Take an action on a unit. -/
def takePower (s : State) (u a : Nat) : State :=
  let w := s.wld
  let s := { s with wld := { w with pwrPending := w.pwrPending.del u } }
  let w := s.wld
  refreshUnits (
    if a = 0 then { s with wld := { w with clkOff := u :: w.clkOff } }
    else if a = 1 then
      { s with wld := { w with clkOff := w.clkOff.filter (· != u), powering := w.powering.put u (s.now + 64 * mclkT) } }
    else if a = 2 then { s with wld := { w with pwrOff := u :: w.pwrOff } }
    else startUnit { s with wld := { w with pwrOff := w.pwrOff.filter (· != u) } } u)

/-- A write of WLD_PWR_REQ: a request on a unit that is held waits, and replaces one that waits already (R392). -/
def powerRequest (s : State) (m : Master) (u a : Nat) : State :=
  if !m.isSecure && !m.isNormal then refuseAccess s m (wldAddr 0x100) true
  else if 191 < u then s
  else if powerIdle s u a then { s with wld := { s.wld with pwrPending := s.wld.pwrPending.del u } }
  else if unitHeld s u then { s with wld := { s.wld with pwrPending := s.wld.pwrPending.put u (a, m.isNormal) } }
  else takePower s u a

/-- CLOCK_OFF. -/
def execClockOff (m : Master) (u : Fin 256) (t : Time) (s : State) : Outcome := .next (powerRequest (advance s t) m u 0)
/-- CLOCK_ON. -/
def execClockOn (m : Master) (u : Fin 256) (t : Time) (s : State) : Outcome := .next (powerRequest (advance s t) m u 1)
/-- POWER_OFF. -/
def execPowerOff (m : Master) (u : Fin 256) (t : Time) (s : State) : Outcome := .next (powerRequest (advance s t) m u 2)
/-- POWER_ON. -/
def execPowerOn (m : Master) (u : Fin 256) (t : Time) (s : State) : Outcome := .next (powerRequest (advance s t) m u 3)

/-- POWER_REQUEST_TAKEN: a pending request is taken once its unit is no longer held. -/
def execPowerRequestTaken (u : Fin 192) (t : Time) (s : State) : Outcome :=
  let s := advance s t
  match s.wld.pwrPending.look u with
  | none => .next s
  | some (a, _) => if unitHeld s u then .next s else .next (takePower s u a)

/-- A write of WLD_PWR_OWNER: a gated unit whose OWNER becomes 1 is turned on again, and its pending request is dropped. -/
def writeOwner (s : State) (j : Nat) (v : Word) : State :=
  let old := s.wld.owner.get 0 j
  let s := { s with wld := { s.wld with owner := s.wld.owner.set 0 j v } }
  let rises := (List.range 32).filter fun i => bit v i && !bit old i
  (rises.map (32 * j + ·)).foldl (fun s u =>
    let s := if s.wld.clkOff.contains u then takePower s u 1 else s
    if s.wld.pwrOff.contains u then takePower s u 3 else s) s

/-- PWR_OWNER_WRITE. -/
def execPwrOwnerWrite (m : Master) (j : Fin 6) (v : Word) (t : Time) (s : State) : Outcome :=
  let s := advance s t
  if !m.isSecure then .next (refuseAccess s m (wldAddr (0x170 + 4 * j.val)) true) else .next (writeOwner s j v)

/-! ## Commands (R397, R399) -/

/-- WLD_FW_STAGE: a chunk of the slot that was not booted; on FINAL the image is checked. -/
def execWldFwStage (c : Cmd) (s : State) : Outcome :=
  .next (command s c 0x0881 fun s =>
    let b := c.bytes 0x2F
    let world := leNat (b.take 1)
    let flags := leNat (slice b 1 1)
    let off := leNat (slice b 4 4)
    let data := b.drop 8
    if world = 0 || 2 < world || 1 < flags || leNat (slice b 2 2) ≠ 0 || slotSize world < off + data.length then
      answerStatus s c.reply .invalidParameter
    else
      let slot := 1 - (if world = 1 then s.wld.bootedSecure else s.wld.bootedNormal)
      let s := updImage s world slot fun x =>
        let old := if off = 0 then [] else x.bytes
        { bytes := slotBytes old 0 off ++ data ++ old.drop (off + data.length), stagedOk := false, trial := x.trial && off != 0 }
      if flags = 0 then answerOk s c [] []
      else
        let r := imageCheck s world (image s world slot).bytes
        if r = 0 then answerOk (updImage s world slot fun x => { x with stagedOk := true }) c [] []
        else answer s c.reply { status := if r = 6 then .invalidSignature else .invalidParameter, items := [.number r] })

/-- WLD_FW_ACTIVATE. -/
def execWldFwActivate (c : Cmd) (s : State) : Outcome :=
  .next (command s c 0x0882 fun s =>
    let world := leNat ((c.bytes 0x30).take 1)
    let slot := leNat ((c.bytes 0x30).drop 1)
    let bad := world = 0 || 2 < world || 1 < slot
    let barred := s.lcy.state = 1 || s.lcy.state = 6 || inTest s
    match leastOf [(bad || !(image s world slot).stagedOk, .invalidParameter), (barred, .lifecycleForbids)] with
    | some st => answerStatus s c.reply st
    | none => withCritical s c 0x0882 0 fun s reasons =>
      let s := updImage s world slot fun x => { x with trial := true }
      let die := if world = 1 then { s.die with secureNext := slot } else { s.die with normalNext := slot }
      answerOk { s with die := die } c reasons [])

/-- WLD_NW_RESTART. -/
def execWldNwRestart (c : Cmd) (s : State) : Outcome :=
  .next (command s c 0x0883 fun s => answerOk (restartNormal s) c [] [])

/-- The typecodes of LMS_SHA256_M32_H15 and LMOTS_SHA256_N32_W4, as RFC 8554 numbers them. -/
def lmsKeyOk (b : Bytes) : Bool := beNat (b.take 4) == 7 && beNat (slice b 4 4) == 3

/-- WLD_FW_KEY_SET. -/
def execWldFwKeySet (c : Cmd) (s : State) : Outcome :=
  .next (command s c 0x0884 fun s =>
    let k := c.bytes 0x31
    if !lmsKeyOk k then answerStatus s c.reply .invalidKey
    else withCritical s c 0x0884 0 fun s reasons => answerOk { s with die := { s.die with lmsKey := k } } c reasons [])

/-- The 32 bytes of a violation record (R387). -/
def violationBytes (v : Violation) : Bytes :=
  leBytes 4 v.number ++ leBytes 1 v.master ++ leBytes 1 (bitAt v.sec 0 + bitAt v.coreClass 1 + v.key * 16)
    ++ leBytes 1 v.access ++ leBytes 1 v.reason ++ leBytes 8 v.address ++ leBytes 4 v.length ++ leBytes 2 v.page ++ zeros 2
    ++ leBytes 6 v.tick ++ zeros 2

/-- Entry `r` of the violation log: the latest record whose number is `r` modulo 16. -/
def violationEntry (s : State) (r : Nat) : Bytes :=
  ((s.wld.violations.find? fun v => v.number % 16 == r).map violationBytes).getD (zeros 32)

/-- WLD_VIOL_READ. -/
def execWldViolRead (c : Cmd) (s : State) : Outcome :=
  .next (command s c 0x0885 fun s =>
    let log := (List.range 16).map fun r => RItem.blob (violationEntry s r)
    answerOk { s with wld := { s.wld with violationPending := false } } c []
      (log ++ [.reg (wldAddr 0x24) (BitVec.ofNat 32 s.wld.violationNo)]))

end Sys2Proof.Machine
end

