-- ==== Sys2Proof/Machine/Strata.lean ====
section
/-!
DEFINITION. The Strata recorder: closing accumulators, writing records into the in-package die, the scan at boot, and its
commands (R447 to R460).
-/

namespace Sys2Proof.Machine

/-! ## Closing (R449, R450, R456) -/

/-- Of two waiting accumulators, the one that closes first: the earlier close instant, then the lower code index. -/
def firstDue (best : Option (Nat × Accum)) (e : Nat × Accum) : Option (Nat × Accum) :=
  match best with
  | none => some e
  | some b => if e.2.closeAt < b.2.closeAt then some e else some b

/-- Accumulators that reach their close instant while the bucket is empty are LATE. -/
def markLate (s : State) : State :=
  if s.str.tokens ≠ 0 then s
  else { s with str := { s.str with accums := s.str.accums.map fun e =>
    (e.1, if e.2.closeAt ≤ s.now then { e.2 with late := true } else e.2) } }

/-- Close the first of the accumulators that have reached their close instant, if a token is free. -/
def closeNext (s : State) : State :=
  match (s.str.accums.filter fun e => decide (e.2.closeAt ≤ s.now)).foldl firstDue none with
  | none => s
  | some (i, _) => closeIfDue s i

/-- ACCUMULATOR_CLOSE. -/
def execAccumulatorClose (t : Time) (s : State) : Outcome :=
  let s := markLate (advance s t)
  .next (closeNext s)

/-- BUDGET_PER_HOUR. -/
def strBudget (s : State) : Nat := field s.str.cfg 13 0

/-- TOKEN_REFILL: a token each 3,600 s / BUDGET_PER_HOUR, up to 64. -/
def execTokenRefill (t : Time) (s : State) : Outcome :=
  let s := advance s t
  let period := 3600 * secT / strBudget s
  if s.now < s.str.refillAt + period then .next s
  else
    let s := markLate s
    let at_ := if 64 ≤ s.str.tokens then s.now else s.str.refillAt + period
    .next (closeNext { s with str := { s.str with tokens := min 64 (s.str.tokens + 1), refillAt := at_ } })

/-! ## Records (R452 to R454) -/

/-- The first 248 bytes of a record: code index, number, accumulator, close tick, its flags and the life-cycle state. -/
def recordHead (i number : Nat) (a : Accum) (closeTick : Nat) (resetClose : Bool) (lcy : Nat) : Bytes :=
  let flags := bitAt a.prompt 0 + bitAt a.late 1 + bitAt resetClose 2 + bitAt a.saturated 3 + bitAt a.unlocked 4
  let time (sec ns : Nat) : Bytes := leBytes 6 sec ++ leBytes 4 ns
  leBytes 4 0x41545253 ++ leBytes 2 1 ++ leBytes 2 (codeOf i) ++ leBytes 8 number ++ leBytes 1 flags
    ++ leBytes 1 (codeBins i).1 ++ leBytes 1 (codeBins i).2 ++ leBytes 1 lcy ++ leBytes 2 a.interval ++ zeros 2
    ++ leBytes 8 a.count ++ leBytes 8 a.sum ++ leBytes 8 a.min ++ leBytes 8 a.max
    ++ leBytes 6 a.openTick ++ zeros 2 ++ leBytes 6 closeTick ++ zeros 2
    ++ time a.firstSec a.firstNs ++ leBytes 4 a.firstDetail ++ zeros 2
    ++ time a.lastSec a.lastNs ++ leBytes 4 a.lastDetail ++ zeros 2
    ++ (List.range 16).flatMap (fun b => leBytes 8 (a.bins.get 0 b)) ++ zeros 16

/-- Bytes 0x00 to 0xFB of a record, CRC included. -/
def strataBytes (number : Nat) (c : Closed) : Bytes :=
  let b := recordHead c.index number c.accum c.closeTick c.resetClose c.lcyState
  b ++ leBytes 4 (crc32 b).toNat

/-- The die slot of a record number: bedrock slots 0 to 255, then the circulating area from slot 256 on. -/
def strataSlot (n : Nat) : Nat := if n < 256 then n else 256 + (n - 256) % 4224

/-- The erase unit of a circulating record. -/
def strataUnit (n : Nat) : Nat := (n - 256) % 4224 / 64

/-- The first unit after `u`, at most `fuel` on, that is not retired. -/
def liveUnit (retired : List Nat) (u : Nat) : Nat → Nat
  | 0 => u
  | k + 1 => if retired.contains ((u + 1) % 66) then liveUnit retired ((u + 1) % 66) k else (u + 1) % 66

/-- A record number past every retired unit it would fall in, at most `fuel` units on. -/
def skipRetired (retired : List Nat) (n : Nat) : Nat → Nat
  | 0 => n
  | k + 1 => if 256 ≤ n && retired.contains (strataUnit n) then skipRetired retired (n + 64 - (n - 256) % 64) k else n

/-- Erase a unit. -/
def eraseUnit (s : State) (u : Nat) : State :=
  { s with die := { s.die with
    strata := s.die.strata.keep fun k _ => k < 256 || (k - 256) / 64 != u
    erases := s.die.erases.upd 0 u fun n => min (n + 1) (2 ^ 32 - 1) } }

/-- A record that takes the first slot of a unit has the following unit erased; one whose erase fails is retired, and the next
one is taken in its place (R453). -/
def eraseAhead (s : State) (n : Nat) (erases : Bool) : State :=
  if n < 256 || (n - 256) % 64 ≠ 0 then s
  else
    let u := liveUnit s.die.retired (strataUnit n) 66
    if erases then eraseUnit s u
    else
      let s := { s with die := { s.die with retired := u :: s.die.retired } }
      eraseUnit s (liveUnit s.die.retired (strataUnit n) 66)

/-- Queue the notice of a written record whose code has NOTIFY set (R457). -/
def strataNotice (s : State) (i number : Nat) (bytes : Bytes) : State :=
  if !bit (codeCfg s i) 12 then s
  else if 16 ≤ s.str.notices.length then { s with str := { s.str with noticeLost := sat32 s.str.noticeLost } }
  else { s with str := { s.str with notices := s.str.notices ++ [(if number < 256 then 1 else 2, bytes)] } }

/-- Write the oldest closed record into the die.  A read-back that differs leaves the slot torn, and the record waits for the
next slot. -/
def writeStrata (s : State) (readsBack erases : Bool) : State :=
  match s.str.closed with
  | [] => s
  | c :: rest =>
    let n := s.str.next
    let b := strataBytes n c
    let s := eraseAhead s n erases
    let slot : StrataSlot := { number := n, bytes := b, valid := readsBack }
    let s := { s with
      die := { s.die with strata := s.die.strata.put (strataSlot n) slot }
      str := { s.str with next := skipRetired s.die.retired (n + 1) 66 } }
    if readsBack then strataNotice { s with str := { s.str with closed := rest } } c.index n (b ++ zeros 4) else s

/-- STRATA_RECORD_WRITE. -/
def execStrataRecordWrite (readsBack erases : Bool) (t : Time) (s : State) : Outcome :=
  let s := advance s t
  if s.str.ready then .next (writeStrata s readsBack erases) else .next s

/-- Write every closed record. -/
def flushStrata : Nat → State → State
  | 0, s => s
  | k + 1, s => if s.str.closed.isEmpty then s else flushStrata k (writeStrata s true true)

/-- A reset that keeps main power closes every open accumulator and writes its record (R456). -/
def resetClose (s : State) : State :=
  if !s.str.ready then s
  else
    let s := s.str.accums.foldl (fun s e => closeAccum s e.1 e.2 e.2.late true) s
    flushStrata s.str.closed.length s

/-! ## The scan at boot (R455) -/

/-- A slot whose VALID is set but whose CRC fails. -/
def StrataSlot.corrupt (x : StrataSlot) : Bool := x.valid && leNat (x.bytes.drop 0xF8) != (crc32 (x.bytes.take 0xF8)).toNat

/-- STRATA_SCAN. -/
def execStrataScan (t : Time) (s : State) : Outcome :=
  let s := advance s t
  if s.str.ready || !bit s.id.ready 1 then .next s
  else
    let torn := s.die.strata.count fun _ x => !x.valid
    let corrupt := s.die.strata.count fun _ x => x.corrupt
    let last := s.die.strata.foldl (fun m e => max m (e.2.number + 1)) 0
    let s := setReady { s with str := { s.str with
      ready := true, torn := torn, corrupt := corrupt, next := skipRetired s.die.retired last 66 } } 14 true
    .next (if torn + corrupt = 0 then s else event s 2 (torn + corrupt) (min torn 65535 + min corrupt 65535 * 65536))

/-! ## Commands (R460) -/

/-- The valid record of a number, as its 256 bytes. -/
def heldRecord (s : State) (n : Nat) : Option Bytes :=
  match s.die.strata.look (strataSlot n) with
  | some x => if x.number == n && x.valid && !x.corrupt then some (x.bytes ++ zeros 4) else none
  | none => none

/-- STR_READ. -/
def execStrRead (c : Cmd) (s : State) : Outcome :=
  .next (command s c 0x0A02 fun s => withLength s c 10 <|
    let b := c.body.bytes
    let from_ := leAt b 0 8
    let n := leAt b 8 2
    match leastOf [(!s.str.ready, .notReady), (n = 0 || 64 < n, .invalidParameter)] with
    | some st => answerStatus s c.reply st
    | none =>
      let l := (List.range n).filterMap fun i => heldRecord s (from_ + i)
      answerOk s c [] [.blob (leBytes 2 l.length ++ zeros 6 ++ l.flatten)])

/-- STR_ACCUM_READ: every open accumulator in the layout of a record, without closing it. -/
def execStrAccumRead (c : Cmd) (s : State) : Outcome :=
  .next (command s c 0x0A03 fun s =>
    let row (i : Nat) (a : Accum) : Bytes :=
      let b := recordHead i (2 ^ 64 - 1) a (lanternTick s) false s.lcy.state
      b ++ leBytes 4 (crc32 b).toNat ++ leBytes 4 0xFFFFFFFF
    answerOk s c [] (s.str.accums.map fun e => .blob (row e.1 e.2)))

/-- STR_CFG_SET. -/
def execStrCfgSet (c : Cmd) (s : State) : Outcome :=
  .next (command s c 0x0A10 fun s =>
    match c.regWrites with
    | [(4, v)] =>
      if field v 13 0 < 64 || 8192 < field v 13 0 then answerStatus s c.reply .invalidParameter
      else withRoutine s c 0x0A10 0 fun s reasons =>
        answerOk { s with str := { s.str with cfg := storeMasked s.str.cfg v 0x3FFF } } c reasons []
    | _ => answerStatus s c.reply .invalidParameter)

/-- STR_CODE_SET: the new interval governs the next accumulator to open (R451). -/
def execStrCodeSet (c : Cmd) (s : State) : Outcome :=
  .next (command s c 0x0A11 fun s =>
    match c.regWrites with
    | [(a, v)] =>
      let i := (a - 0x100) / 4
      if a < 0x100 || a % 4 ≠ 0 || 43 < i || field v 11 0 = 0 || 3600 < field v 11 0 then
        answerStatus s c.reply .invalidParameter
      else withRoutine s c 0x0A11 0 fun s reasons =>
        answerOk { s with str := { s.str with codeCfg := s.str.codeCfg.set 60 i (storeMasked (codeCfg s i) v 0x1FFF) } } c reasons []
    | _ => answerStatus s c.reply .invalidParameter)

end Sys2Proof.Machine
end

