-- ==== Sys2Proof/Machine/LifeOps.lean ====
section
/-!
DEFINITION. Debug rights and the live certificate (R413, R417).
-/

namespace Sys2Proof.Machine

/-- The rights open in a life-cycle state (R413). -/
def openRights (s : State) : Nat :=
  if s.lcy.state = 1 || inTest s then 0xDF
  else if s.lcy.state = 2 || s.lcy.state = 5 then 0x1F
  else 0

/-- The rights that a certificate may grant in a life-cycle state (R413, R415). -/
def grantableRights (s : State) : Nat :=
  if s.lcy.state = 2 || s.lcy.state = 5 then 0x40 else if s.lcy.state = 3 || s.lcy.state = 4 then 0x3F else 0

/-- The rights in force: those open in the state, and those of the live certificate. -/
def rightsInForce (s : State) : Nat := openRights s ||| (s.lcy.cert.map (·.rights)).getD 0

/-- A right is in force. -/
def hasRight (s : State) (i : Nat) : Bool := rightsInForce s / 2 ^ i % 2 == 1

/-- A halted world resumes: its watchdog counts on from where it stood (R413). -/
def resumeWorld (s : State) (w : Nat) : State :=
  match s.lcy.halted.look w with
  | none => s
  | some since =>
    let s := { s with lcy := { s.lcy with halted := s.lcy.halted.del w } }
    if w = 1 then { s with wld := { s.wld with secureKick := s.wld.secureKick + (s.now - since) } }
    else { s with wld := { s.wld with normalKick := s.wld.normalKick + (s.now - since) } }

/-- The live certificate ends: 1 expiry, 2 lock, 3 transition, 4 tamper, 5 reset.  Halted contexts resume, the trace buffer is
zeroed, and wires in BYPASS under it go to ISOLATE (R68, R417). -/
def endCertificate (s : State) (cause : Nat) : State :=
  match s.lcy.cert with
  | none => s
  | some x =>
    let s := { s with lcy := { s.lcy with cert := none, trace := [] } }
    let s := if hasRight s 0 then s else resumeWorld s 0
    let s := if hasRight s 6 then s else resumeWorld s 1
    endBypass (event s 39 cause x.id)

end Sys2Proof.Machine
end

