-- ==== Sys2Proof/Machine/Lantern.lean ====
section
/-!
DEFINITION. Lantern: sampling, severity, responses, zeroize, the battery log and notices (R422 to R436, R443, R445), and the
clock status of R19.
-/

namespace Sys2Proof.Machine

/-! ## Sources and their configuration (R423, R427, R428) -/

/-- The sources of R423. -/
def lanternSources : List Nat := List.range 10 ++ (List.range 8).map (16 + ·)

/-- LAN_SRC_CFG after reset: severity in bits 2:0, LATCH in bit 3. -/
def srcReset (x : Nat) : Word :=
  if x ≤ 2 then 2 else if x = 3 || x = 4 then 12 else if x = 5 || x = 9 then 11 else if x = 6 || x = 8 then 1
  else if x = 7 then 9 else if 16 ≤ x && x ≤ 23 then 12 else 0

/-- LAN_SRC_CFG of a source. -/
def srcCfg (s : State) (x : Nat) : Word := s.lan.srcCfg.get (srcReset x) x

/-- The configured severity of a source. -/
def srcSeverity (s : State) (x : Nat) : Nat := field (srcCfg s x) 2 0

/-- LAN_TMP_CFG of a pin. -/
def tmpCfg (s : State) (n : Nat) : Word := s.lan.tmpCfg.get 0 n

/-- MODE of a pin. -/
def pinMode (s : State) (n : Nat) : Nat := field (tmpCfg s n) 2 0

/-- The severity in force is capped at S1 (R426). -/
def capped (s : State) : Bool := s.lcy.state == 1 || s.lcy.state == 2 || inTest s

/-- A source's severity under the cap. -/
def cappedSeverity (s : State) (x : Nat) : Nat := if capped s then min 1 (srcSeverity s x) else srcSeverity s x

/-- HOLD_MS in units of `Time`. -/
def holdTime (s : State) : Time := field s.lan.cfg 9 0 * msT

/-- The source counts for the severity in force: active, latched, or within HOLD_MS of ceasing to be active (R431). -/
def stands (s : State) (x : Nat) : Bool :=
  bit s.lan.active x || bit s.lan.latched x || (match s.lan.endedAt.look x with
    | some t => decide (s.now < t + holdTime s)
    | none => false)

/-- The severity in force (R431). -/
def severityNow (s : State) : Nat :=
  lanternSources.foldl (fun m x => if stands s x then max m (cappedSeverity s x) else m) 0

/-! ## Responses (R430 to R433) -/

/-- Refuse the held COMMAND frames that have passed stage 4 and whose twin decision has not given ACCEPT, a MONITOR frame that has
failed after stage 4 and waits to leave among them (R142).  Only an accepted frame gets EXPIRED_WAITING_ORDER. -/
def refuseSuspended (s : State) : State :=
  let passed (h : Held) : Bool := match h.stage with
    | .onLane _ | .hmac | .signature _ | .result _ | .decidedA _ _ => true
    | .failed r _ => h.keyAttr.isSome && r.cause != 0x1B
    | _ => false
  s.psg.ports.foldl (fun s e => (e.2.line.filter passed).foldl (fun s h =>
    refuseHeld s e.1 h { verdict := .keyUnknown, cause := 8 } true) s) s

/-- A response of S2 or above takes effect (R12, R133, R142, R417). -/
def takeSuspend (s : State) : State :=
  let s := refuseSuspended s
  let s := (List.range 288).foldl stopLane s
  let s := suspendCores (suspendDigests (suspendSvcs s))
  endCertificate (chamberAlert s) 4

/-- S3: working slots, session keys, keys staged at cores, transports and open nonces go, and the RNG and the masks are zeroed (R235, R277). -/
def clearWorking (s : State) : State :=
  let s := { s with
    kst := { s.kst with slots := [], transports := [], nonces := [] }
    pke := { s.pke with cores := s.pke.cores.map fun e => (e.1, { e.2 with staged := e.2.staged.map unstaged }) }
    host := { s.host with funcs := s.host.funcs.map fun e => (e.1, { e.2 with sessions := [] }) } }
  zeroMasks (zeroRng s)

/-- The bulk clear of battery-backed RAM outside the battery log area (R429, R433). -/
def clearRam (s : State) : State :=
  { s with bb := { s.bb with
    root := zeros 32, rootCheck := 0, anchorCheck := 0, anchor0 := {}, anchor1 := {}, anchorSelect := 0, failCell := 0xFFFFFFFF,
    integrity := none, area := [] } }

/-- The domain masters go with the root (R245). -/
def forgetMasters (k : KeyStore) : KeyStore := { k with domains := k.domains.map fun e => (e.1, { e.2 with master := [] }) }

/-- The root is gone while main power is on: it is absent under R247, the vault loses it (R304), and with it the roster copy goes
(R482). -/
def loseRoot (s : State) : State :=
  loseVault { s with kst := forgetMasters { s.kst with root := none, domainsLoaded := false }, flash := { s.flash with karst := {} } }

/-- A zeroize of battery-backed RAM, with what it takes along in RUN. -/
def zeroizeRam (s : State) : State :=
  let s := clearRam s
  if s.lan.power = .run then loseRoot s else s

/-- The number that a power state has in log entries and notices. -/
def Power.code : Power → Nat
  | .run => 0
  | .standby => 1
  | .battery => 2
  | .dead => 3

/-- Write a battery log entry: action 0 to 4 for a severity, 0x10 RECORD, 0x11 ZEROIZE (R429). -/
def logBattery (s : State) (source action : Nat) (zeroized disagree : Bool) : State :=
  let seq := (s.bb.logSeq + 1) % 65536
  let e : BatLog := { tick := lanternTick s, source := source, action := action, power := s.lan.power.code,
                      zeroized := zeroized, disagree := disagree, seq := seq }
  { s with bb := { s.bb with log := s.bb.log.put (seq % 32) e, logSeq := seq } }

/-- The skew generator counts a decision; 65,536 of them make a fresh seed due (R433). -/
def countDecision (s : State) : State :=
  let n := s.lan.decisions + 1
  { s with lan := { s.lan with decisions := n, skewDue := s.lan.skewDue || n % 65536 == 0 } }

/-- The skew generator takes the seed that is due from DRBG instance 1, once that serves in RUN (R433; assumption 107). -/
def seedSkew (s : State) : State :=
  if !s.lan.skewDue || s.lan.power ≠ .run || !((inst s 1).state == 1 || (inst s 1).state == 2) then s
  else match draw s 1 false 32 with
    | (s, .ok b) => { s with lan := { s.lan with skewDue := false, skewSeed := b } }
    | (s, .error _) => s

/-- Comparator A decides a zeroize (R433): the clear starts and the second decision is due; an upset makes it miss. -/
def zeroize (s : State) (source : Nat) (upset : Bool) : State :=
  let s := countDecision s
  if upset then { s with lan := { s.lan with zeroizing := some { source := source, entry := none } } }
  else
    let s := logBattery (zeroizeRam s) source 0x11 true false
    { s with lan := { s.lan with zeroizing := some { source := source, entry := some s.bb.logSeq } } }

/-- ZEROIZE_SECOND_DECISION: comparator B decides.  If only one of the two calls for the zeroize it stands, and the disagreement
raises FAULT. -/
def execZeroizeSecondDecision (calls : Bool) (t : Time) (s : State) : Outcome :=
  let s := advance s t
  match s.lan.zeroizing with
  | none => .next s
  | some z =>
    let s := { s with lan := { s.lan with zeroizing := none } }
    match z.entry, calls with
    | some _, true => .next s
    | none, false => .next s
    | some q, false =>
      let mark (e : BatLog) : BatLog := if e.seq == q then { e with disagree := true } else e
      .next (faultAlarm { s with bb := { s.bb with log := s.bb.log.map fun e => (e.1, mark e.2) } } 11 0)
    | none, true => .next (faultAlarm (logBattery (zeroizeRam s) z.source 0x11 true true) 11 0)

/-! ## Notices (R435) -/

/-- What a notice tells beyond the device's own state. -/
structure NoticeFacts where
  source : Nat
  event : Nat
  trips : Nat := 0
  actions : Nat := 0
  valueA : Nat := 0
  valueB : Nat := 0
  detail : Nat := 0

/-- Queue a notice of 64 bytes; in a full queue it is dropped and counted, and its SEQ is used all the same. -/
def putNotice (s : State) (f : NoticeFacts) (power tick : Nat) (time : Bytes) : State :=
  let b := leBytes 2 s.lan.noticeSeq ++ leBytes 1 f.source ++ leBytes 1 f.event ++ leBytes 1 (srcSeverity s f.source)
    ++ leBytes 1 s.lan.severity ++ leBytes 1 f.trips ++ leBytes 1 power ++ leBytes 6 tick ++ leBytes 1 (bitAt s.tim.locked 0)
    ++ leBytes 1 s.lcy.state ++ time ++ zeros 2 ++ leBytes 4 f.actions ++ leBytes 4 f.valueA ++ leBytes 4 f.valueB
    ++ leBytes 4 f.detail ++ leBytes 4 (s.lan.srcCount.get 0 f.source) ++ zeros 16
  let s := { s with lan := { s.lan with noticeSeq := (s.lan.noticeSeq + 1) % 65536 } }
  if 32 ≤ s.lan.notices.length then { s with lan := { s.lan with noticeLost := sat32 s.lan.noticeLost } }
  else { s with lan := { s.lan with notices := s.lan.notices ++ [b] } }

/-- A notice of a raise or a clear, at the present moment. -/
def noticeNow (s : State) (f : NoticeFacts) : State :=
  putNotice s f s.lan.power.code (lanternTick s) (leBytes 6 (devSec s) ++ leBytes 4 (devNs s))

/-! ## Raising and clearing (R424, R428, R430 to R432) -/

/-- A source that rises, with what its notice tells. -/
structure Rise where
  source : Nat
  detail : Nat := 0
  trips : Nat := 0
  valueA : Nat := 0
  valueB : Nat := 0

/-- The action bits of a raise: notice, suspend, clear working, zeroize, CHAMBER_ALERT, CAPPED. -/
def riseActions (s : State) (x : Nat) : Nat :=
  let v := cappedSeverity s x
  bitAt (1 ≤ v) 0 + bitAt (2 ≤ v) 1 + bitAt (3 ≤ v) 2 + bitAt (v == 4) 3 + bitAt (2 ≤ v || x == 2) 4
    + bitAt (capped s) 5

/-- Count, record, latch and notify one raise in RUN. -/
def raiseOne (s : State) (r : Rise) : State :=
  let x := r.source
  let latch := bit (srcCfg s x) 3
  let s := { s with lan := { s.lan with
    active := setBit s.lan.active x true
    latched := if latch then setBit s.lan.latched x true else s.lan.latched
    raised := setBit s.lan.raised x true
    srcCount := s.lan.srcCount.upd 0 x sat32 } }
  let s := { s with lan := { s.lan with severity := max s.lan.severity (severityNow s) } }
  let s := event s 40 s.lan.severity x
  if srcSeverity s x = 0 then s
  else noticeNow s { source := x, event := 1, trips := r.trips, actions := riseActions s x, valueA := r.valueA,
                     valueB := r.valueB, detail := r.detail }

/-- Slots 1 to 255 come back from the die when the severity has fallen below S2 (R277). -/
def leaveSuspend (s : State) : State := if s.kst.root.isSome then restoreDieKeys s else s

/-- Bring the severity in force up to date, with what follows when it falls below S2, or when a new configuration lifts a source that stands
to S2 or above (R12, R431). -/
def settleSeverity (s : State) : State :=
  let old := s.lan.severity
  let s := { s with lan := { s.lan with severity := severityNow s } }
  if 2 ≤ old && s.lan.severity < 2 then leaveSuspend s
  else if old < 2 && 2 ≤ s.lan.severity then takeSuspend s
  else s

/-- The raises of one sample in RUN: each counted, recorded and notified in ascending source order, then the union of their
actions (R431, R432). -/
def raiseAll (s : State) (l : List Rise) (upset : Bool) : State :=
  let before := s.lan.severity
  let s := l.foldl raiseOne s
  let top := l.foldl (fun m r => max m (cappedSeverity s r.source)) 0
  let s := if before < 2 && 2 ≤ s.lan.severity then takeSuspend s
    else if 2 ≤ top || l.any (·.source == 2) then chamberAlert s
    else s
  let s := if 3 ≤ top then clearWorking s else s
  match l.find? fun r => cappedSeverity s r.source == 4 with
  | some r => zeroize s r.source upset
  | none => s

/-- Pin alarms in RUN go to the battery log with their severity, but for the one whose zeroize is logged (R428, R429; assumption 138). -/
def logPins (s : State) (l : List Rise) : State :=
  let zeroizing := (l.find? fun r => cappedSeverity s r.source == 4).map (·.source)
  l.foldl (fun s r =>
    if r.source < 16 || zeroizing = some r.source then s else logBattery s r.source (cappedSeverity s r.source) false false) s

/-- The raises of one sample in STANDBY or BATTERY (R428): each latched and logged, and a zeroize where a pin asks for one, or in
STANDBY another source of S4. -/
def raiseBattery (s : State) (l : List Rise) (upset : Bool) : State :=
  let wipes (x : Nat) : Bool :=
    if 16 ≤ x then bit (tmpCfg s (x - 16)) 3 else s.lan.power == .standby && srcSeverity s x == 4
  l.foldl (fun s r =>
    let x := r.source
    let s := { s with lan := { s.lan with
      active := setBit s.lan.active x true
      latched := if bit (srcCfg s x) 3 then setBit s.lan.latched x true else s.lan.latched } }
    if wipes x then (if s.lan.zeroizing.isSome then logBattery s x 0x11 true false else zeroize s x upset)
    else logBattery s x 0x10 false false) s

/-- A source ceases to be active. -/
def clearOne (s : State) (x : Nat) : State :=
  let s := { s with lan := { s.lan with active := setBit s.lan.active x false, endedAt := s.lan.endedAt.put x s.now } }
  if s.lan.power = .run && srcSeverity s x ≠ 0 then noticeNow s { source := x, event := 2 } else s

/-! ## Detectors (R423 to R425, R427) -/

/-- A detector's number. -/
def detector (x unit : Nat) (second : Bool) : Nat := x * 1024 + unit * 2 + (if second then 1 else 0)

/-- The reading's source runs in the present power state: the standby rail and the crystal check go on in STANDBY. -/
def runsNow (s : State) (x unit : Nat) : Bool :=
  match s.lan.power with
  | .run => true
  | .standby => x == 1 || x == 3 || x == 4 || x == 6 || x == 7 || (x == 0 && unit == 10) || (x == 2 && unit == 5) || 16 ≤ x
  | .battery => 16 ≤ x
  | .dead => false

/-- Insert into a list of zones in rising order. -/
def insertZone (z : Nat) : List Nat → List Nat
  | [] => [z]
  | a :: t => if z ≤ a then z :: a :: t else a :: insertZone z t

/-- The median of a detector's last five zones; before the fifth sample it counts as having been in window. -/
def medianZone (h : List Nat) : Nat := ((h ++ List.replicate (5 - h.length) 2).foldr insertZone []).getD 2 2

/-- A new zone of a detector. -/
def pushZone (s : State) (k z : Nat) : State :=
  { s with lan := { s.lan with history := s.lan.history.put k ((z :: s.lan.history.get [] k).take 5) } }

/-- A pin's alarm condition at this sample: a static pin off its level, or a DYN_IN pin that reads other than the bit driven one
sample earlier. -/
def pinTrips (s : State) (pins : BitVec 8) (n : Nat) : Bool :=
  let high := pins.getLsbD n
  let m := pinMode s n
  if m = 1 then high else if m = 2 then !high
  else if m = 4 then (match s.lan.driven.look (n / 2) with
    | some b => b != high
    | none => false)
  else false

/-- Samples for which an event detector's flag holds. -/
def flagHold (k : Nat) : Nat := if 16 ≤ k / 1024 then 64 else 5

/-- Take the trips of this sample and step the event detectors' flags. -/
def stepFlags (s : State) (trips : List Nat) : State :=
  let holds := trips.foldl (fun (t : Tbl Nat) k => t.put k (flagHold k)) s.lan.holds
  let s := holds.foldl (fun s e => pushZone s e.1 (if e.2 = 0 then 2 else 4)) s
  { s with lan := { s.lan with holds := holds.map fun e => (e.1, e.2 - 1) } }

/-- The next bit of each armed pair's LFSR goes out (R427). -/
def driveLoops (s : State) : State :=
  (List.range 4).foldl (fun s k =>
    if pinMode s (2 * k) ≠ 3 then s
    else
      let x := Config.lfsr (s.lan.lfsr.get 0 k)
      { s with lan := { s.lan with lfsr := s.lan.lfsr.put k x, driven := s.lan.driven.put k (x.getLsbD 0) } }) s

/-- The detectors of a source with their medians. -/
def medians (s : State) (x : Nat) : List (Nat × Nat) :=
  (s.lan.history.filter fun e => e.1 / 1024 == x).map fun e => (e.1, medianZone e.2)

/-- The detector has failed its self-test. -/
def detectorFailed (s : State) (k : Nat) : Bool := s.lan.failed.contains (k / 1024 * 2 + k % 2)

/-- Whether a source is active after this sample.  While a detector is failed its partner alone brings the source back. -/
def activeNext (s : State) (x : Nat) : Bool :=
  let out (e : Nat × Nat) : Bool := e.2 == 0 || e.2 == 4
  let m := medians s x
  if x = 7 then !s.lan.failed.isEmpty
  else if x = 8 || x = 9 then 0 < s.lan.holds.get 0 (detector x 0 false)
  else if m.any out then true
  else if m.all fun e => detectorFailed s e.1 || e.2 == 2 then false
  else bit s.lan.active x

/-- What a raise tells: the first unit out of window, which detectors tripped, and the two values read there. -/
def riseOf (s : State) (x : Nat) : Rise :=
  let out := ((medians s x).filter fun e => e.2 == 0 || e.2 == 4).map (·.1)
  let unit := (out.headD 0) % 1024 / 2
  { source := x
    detail := if 16 ≤ x then x - 16 else unit
    trips := bitAt (out.any (· % 2 == 0)) 0 + bitAt (out.any (· % 2 == 1)) 1
    valueA := s.lan.values.get 0 (detector x unit false)
    valueB := s.lan.values.get 0 (detector x unit true) }

/-- FAULT_BURST. -/
def faultBurst (s : State) : Nat := field s.lan.cfg 19 16

/-- Take the FAULT alarms that have arrived (R434): each is a raise of source 8, and their number in a window of 1 s may raise
source 9. -/
def takeFaults (s : State) : State × List Rise :=
  let q := s.lan.faultQ
  let times := (s.lan.faultTimes ++ q.map fun _ => s.now).filter fun t => decide (s.now < t + secT)
  let high := faultBurst s ≤ times.length
  let flag (t : Tbl Nat) (x : Nat) : Tbl Nat := t.put (detector x 0 false) 5
  let holds := if q.isEmpty then s.lan.holds else flag s.lan.holds 8
  let holds := if high && !q.isEmpty then flag holds 9 else holds
  let crosses := high && !s.lan.burstHigh
  let s := { s with lan := { s.lan with faultQ := [], faultTimes := times, burstHigh := high, holds := holds } }
  (s, (q.map fun a => { source := 8, detail := a.1 * 65536 + a.2 }) ++ (if crosses then [{ source := 9 }] else []))

/-- Compare two raises by source. -/
def insertRise (r : Rise) : List Rise → List Rise
  | [] => [r]
  | a :: t => if r.source < a.source then r :: a :: t else a :: insertRise r t

/-- LANTERN_SAMPLE: one sample of every source that runs in the present power state. -/
def execLanternSample (x : Sample) (t : Time) (s : State) : Outcome :=
  let s : State := advance s t
  if s.lan.power = .dead || s.now < s.lan.sampledAt + sampleT then .next s
  else
    let levels := x.levels.filter fun r => runsNow s r.source r.unit && r.source < 7
    let s : State := levels.foldl (fun (s : State) r =>
      let k := detector r.source r.unit r.second
      let s : State := pushZone s k r.zone
      { s with lan := { s.lan with values := s.lan.values.put k r.value } }) s
    let pinDet (n : Nat) : Nat := detector (16 + n) n false
    let s : State := (List.range 8).foldl (fun s n =>
      if pinMode s n = 4 then s else pushZone s (pinDet n) (if pinTrips s x.pins n then 4 else 2)) s
    let dyn := (List.range 8).filter fun n => pinMode s n == 4 && pinTrips s x.pins n
    let trips := (x.trips.filter fun e => runsNow s e.1 e.2.1 && (e.1 == 2 || e.1 == 4 || e.1 == 5)).map fun e =>
      detector e.1 (512 + e.2.1 % 256) e.2.2
    let r : State × List Rise := if s.lan.power = .run then takeFaults s else (s, [])
    let s : State := r.1
    let faults := r.2
    let blocks := s.lan.holds.filter fun e => e.1 / 1024 == 8 || e.1 / 1024 == 9
    let others := s.lan.holds.filter fun e => !(e.1 / 1024 == 8 || e.1 / 1024 == 9)
    let s : State := stepFlags { s with lan := { s.lan with holds := others } } (trips ++ dyn.map pinDet)
    let s : State := driveLoops s
    let s : State := blocks.foldl (fun (s : State) e => { s with lan := { s.lan with holds := s.lan.holds.put e.1 e.2 } }) s
    let goes (x : Nat) : Bool := activeNext s x && !bit s.lan.active x && x ≠ 8 && x ≠ 9
    let ends := lanternSources.filter fun x => bit s.lan.active x && !activeNext s x
    let rises := (lanternSources.filter goes).foldl (fun l x => insertRise (riseOf s x) l) faults
    let s : State := ends.foldl clearOne s
    let s : State := blocks.foldl (fun (s : State) e => { s with lan := { s.lan with holds := s.lan.holds.put e.1 (e.2 - 1) } }) s
    let s : State := { s with lan := { s.lan with sampledAt := s.now, samples := s.lan.samples + 1 } }
    .next (if s.lan.power == .run then settleSeverity (raiseAll (logPins (seedSkew s) rises) rises x.upset) else raiseBattery s rises x.upset)

/-- Record which detectors failed their self-test; a first failure raises DETECTOR_FAIL, and it ends when all pass again. -/
def detectorTest (s : State) (fails : List Nat) : State :=
  let s := { s with lan := { s.lan with failed := fails } }
  if fails.isEmpty then (if bit s.lan.active 7 then settleSeverity (clearOne s 7) else s)
  else if bit s.lan.active 7 then s
  else if s.lan.power = .run then settleSeverity (raiseAll s [{ source := 7, detail := fails.headD 0 / 2 }] false)
  else raiseBattery s [{ source := 7 }] false

/-- DETECTOR_SELF_TEST: every 1,024 samples, of each detector of sources 0 to 5. -/
def execDetectorSelfTest (fails : List (Nat × Bool)) (t : Time) (s : State) : Outcome :=
  let s := advance s t
  if s.lan.samples < 1024 || !(s.lan.power == .run || s.lan.power == .standby) then .next s
  else
    let s := { s with lan := { s.lan with samples := 0 } }
    .next (detectorTest s ((fails.filter (·.1 ≤ 5)).map fun e => e.1 * 2 + (if e.2 then 1 else 0)))

/-- HOLD_EXPIRY: HOLD_MS after a source ceased to be active the severity in force falls. -/
def execHoldExpiry (t : Time) (s : State) : Outcome :=
  let s := advance s t
  if s.lan.power = .run then .next (settleSeverity s) else .next s

/-- FAULT_ALARM: a block's alarm, taken at the next sample. -/
def execFaultAlarm (block : Fin 256) (unit : Fin 65536) (t : Time) (s : State) : Outcome :=
  .next (faultAlarm (advance s t) block unit)

/-! ## Clock status (R19) -/

/-- PLL_LOCK_LOST: the lock bit falls and the LOST bit is set, for ONFI whichever enabled channel's PLL it is; a read of MCLK_LOCK always
returns 1.  A domain without its clock stands (R17). -/
def execPllLockLost (c : Fin 8) (t : Time) (s : State) : Outcome :=
  let s := advance s t
  if c = 3 || (!bit s.id.clk c && c ≠ 7) then .next s
  else .next { s with id := { s.id with
    clk := setBit (setBit s.id.clk c false) (16 + c.val) true, lostAt := s.id.lostAt.put c s.now } }

/-- What runs on a lane when XCLK comes back after `d`. -/
def laterLane (d : Time) (x : Lane) : Lane :=
  { x with
    running := x.running.map fun r => { r with startedAt := r.startedAt + d }
    zeroUntil := x.zeroUntil + d
    testFrom := x.testFrom.map (· + d) }

/-- XCLK has stood for `d`: what its lanes, service MAC engines and digest engines have under way ends so much later (R17). -/
def delayXclk (s : State) (d : Time) : State :=
  let svc (x : Svc) : Svc := { x with
    hold := x.hold.map fun h => { h with running := h.running.map fun r => { r with startAt := r.startAt + d, endAt := r.endAt + d } }
    zeroUntil := x.zeroUntil + d
    testFrom := x.testFrom.map (· + d) }
  let digest (x : Digest) : Digest := { x with
    ctxs := x.ctxs.map fun e => (e.1, { e.2 with readyAt := e.2.readyAt + d })
    blockEnd := x.blockEnd + d
    testFrom := x.testFrom.map (· + d) }
  { s with
    psg := { s.psg with ports := s.psg.ports.map fun e =>
      (e.1, { e.2 with lane0 := laterLane d e.2.lane0, lane1 := laterLane d e.2.lane1 }) }
    eng := { s.eng with
      svcs := s.eng.svcs.map fun e => (e.1, svc e.2)
      digests := s.eng.digests.map fun e => (e.1, digest e.2) } }

/-- NCLK has stood for `d`: the jobs and self-tests of the cores end so much later. -/
def delayNclk (s : State) (d : Time) : State :=
  let later (x : Core) : Core := { x with
    running := x.running.map fun r => { r with startAt := r.startAt + d, stopAt := r.stopAt + d }
    testFrom := x.testFrom.map (· + d) }
  { s with pke := { s.pke with cores := s.pke.cores.map fun e => (e.1, later e.2) } }

/-- A clock is back: what stood without it goes on, and the frames that wait in the ports' receive queues come in (R15, R17). -/
def resumeClock (s : State) (c : Nat) : State :=
  let d := match s.id.lostAt.look c with
    | some f => s.now - f
    | none => 0
  if c = 0 then (s.psg.ports.map (·.1)).foldl drainRx s
  else if c = 1 then { delayXclk s d with rng := { s.rng with sampling := true } }
  else if c = 2 then delayNclk s d
  else s

/-- PLL_LOCK_GAINED. -/
def execPllLockGained (c : Fin 8) (t : Time) (s : State) : Outcome :=
  let s := advance s t
  if bit s.id.clk c then .next s
  else
    let s := resumeClock { s with id := { s.id with clk := setBit s.id.clk c true } } c
    .next { s with id := { s.id with lostAt := s.id.lostAt.del c } }

/-! ## Commands (R445) -/

/-- A write to LAN_SRC_CFG lowers the severity or clears LATCH. -/
def lowersSource (s : State) (x : Nat) (v : Word) : Bool :=
  decide (field v 2 0 < srcSeverity s x) || (bit (srcCfg s x) 3 && !bit v 3)

/-- Write LAN_SRC_CFG of a source. -/
def writeSource (s : State) (x : Nat) (v : Word) : State :=
  let s := { s with lan := { s.lan with srcCfg := s.lan.srcCfg.set (srcReset x) x (storeMasked (srcCfg s x) v 0xF) } }
  if s.lan.power = .run then settleSeverity s else s

/-- A LAN_SRC_CFG address of an assigned source, with a severity in range. -/
def sourceOk (a : Nat) (v : Word) : Bool :=
  0x100 ≤ a && a < 0x180 && a % 4 == 0 && lanternSources.contains ((a - 0x100) / 4) && field v 2 0 ≤ 4

/-- LAN_ALARM_SET. -/
def execLanAlarmSet (c : Cmd) (s : State) : Outcome :=
  .next (command s c 0x0902 fun s =>
    match c.regWrites with
    | [(a, v)] =>
      let x := (a - 0x100) / 4
      if !sourceOk a v then answerStatus s c.reply .invalidParameter
      else if lowersSource s x v then withCritical s c 0x0902 0 fun s reasons => answerOk (writeSource s x v) c reasons []
      else answerOk (writeSource s x v) c [] []
    | _ => answerStatus s c.reply .invalidParameter)

/-- LAN_TMP_CFG of both pins of a pair stands together: DYN_OUT on the even pin, DYN_IN on the odd one only with it (R427). -/
def pairOk (even odd : Word) : Bool :=
  let a := field even 2 0
  let b := field odd 2 0
  a ≤ 3 && b ≤ 4 && b != 3 && (b != 4 || a == 3)

/-- Write LAN_TMP_CFG of a pin. -/
def setTmp (s : State) (n : Nat) (v : Word) : State :=
  { s with lan := { s.lan with tmpCfg := s.lan.tmpCfg.set 0 n (storeMasked (tmpCfg s n) v 0xF) } }

/-- The pair `k` is armed: its even pin drives and its odd pin reads. -/
def pairArmed (s : State) (k : Nat) : Bool := pinMode s (2 * k) == 3 && pinMode s (2 * k + 1) == 4

/-- The LFSR of a pair takes its seed. -/
def seedPair (s : State) (k : Nat) (b : Bytes) : State :=
  { s with lan := { s.lan with lfsr := s.lan.lfsr.put k (BitVec.ofNat 32 (leNat b)), driven := s.lan.driven.del k } }

/-- A write of LAN_PIN_SET addresses a pin's LAN_TMP_CFG or its LAN_SRC_CFG: the pin. -/
def pinOf (a : Nat) : Option Nat :=
  if 0x200 ≤ a && a < 0x220 && a % 4 = 0 then some ((a - 0x200) / 4)
  else if 0x140 ≤ a && a < 0x160 && a % 4 = 0 then some ((a - 0x140) / 4)
  else none

/-- Write one register of LAN_PIN_SET. -/
def writePin (s : State) (e : Nat × Word) : State :=
  if e.1 < 0x200 then writeSource s ((e.1 - 0x100) / 4) e.2 else setTmp s ((e.1 - 0x200) / 4) e.2

/-- A write of LAN_PIN_SET disarms a pin, lowers its severity or clears BATTERY_ZEROIZE. -/
def lowersPin (s : State) (e : Nat × Word) : Bool :=
  if e.1 < 0x200 then decide (field e.2 2 0 < srcSeverity s ((e.1 - 0x100) / 4))
  else
    let n := (e.1 - 0x200) / 4
    (pinMode s n != 0 && field e.2 2 0 == 0) || (bit (tmpCfg s n) 3 && !bit e.2 3)

/-- LAN_PIN_SET: a pin or a pair; arming a pair draws the seed of its LFSR. -/
def execLanPinSet (c : Cmd) (s : State) : Outcome :=
  .next (command s c 0x0903 fun s =>
    let l := c.regWrites
    let pins := l.map fun e => pinOf e.1
    let k := ((pins.headD none).getD 0) / 2
    let new := l.foldl writePin s
    let bad := pins.any (fun p => p.isNone || p.map (· / 2) != some k) || l.any (fun e => e.1 < 0x200 && 4 < field e.2 2 0)
      || !pairOk (tmpCfg new (2 * k)) (tmpCfg new (2 * k + 1))
    let arms := pairArmed new k && !pairArmed s k
    let finish (s : State) (reasons : List Nat) : State :=
      if arms then withDraw s c.reply 1 4 fun s b => answerOk (seedPair (l.foldl writePin s) k b) c reasons []
      else answerOk (l.foldl writePin s) c reasons []
    if bad then answerStatus s c.reply .invalidParameter
    else if arms && drawWaits s 1 4 then waitDraw s c.reply
    else if l.any (lowersPin s) then withCritical s c 0x0903 0 finish
    else finish s [])

/-- LAN_CLEAR: latches of sources that are still active stay, and the answer names them. -/
def execLanClear (c : Cmd) (s : State) : Outcome :=
  .next (command s c 0x0904 fun s => withRoutine s c 0x0904 0 fun s reasons =>
    let stay := s.lan.latched &&& s.lan.active
    let s := settleSeverity { s with lan := { s.lan with latched := stay } }
    answerOk s c reasons [.number stay.toNat])

/-- The 16 bytes of a battery log entry. -/
def batLogBytes (e : BatLog) : Bytes :=
  leBytes 6 e.tick ++ leBytes 1 e.source ++ leBytes 1 e.action ++ leBytes 1 e.power
    ++ leBytes 1 (bitAt e.zeroized 0 + bitAt e.disagree 1) ++ leBytes 2 e.seq ++ zeros 4

/-- The 32 bytes of the time correlation record: R442 says what it holds and not where it stands (assumption 70). -/
def corrBytes (s : State) : Bytes := slice (Config.corrRecord s.bb.corrTick s.bb.corrSec ++ zeros 32) 0 32

/-- LAN_BATLOG_READ: the 32 entries, and the correlation record. -/
def execLanBatlogRead (c : Cmd) (s : State) : Outcome :=
  .next (command s c 0x0905 fun s =>
    answerOk s c [] (((List.range 32).map fun i => .blob (((s.bb.log.look i).map batLogBytes).getD (zeros 16)))
      ++ [.blob (corrBytes s)]))

/-- LAN_DETECTOR_TEST: every self-test at once; the command's facts say which of the 12 detectors pass. -/
def execLanDetectorTest (c : Cmd) (s : State) : Outcome :=
  .next (command s c 0x0906 fun s =>
    let fails := (List.range 12).filter fun k => c.facts.getD k 1 == 0
    answerOk (detectorTest s fails) c [] [.blob ((List.range 12).map fun k => if fails.contains k then 0 else 1)])

end Sys2Proof.Machine
end

