-- ==== Sys2Proof/Machine/Clock.lean ====
section
/-!
DEFINITION. The time unit: the slave clock of IEEE 1588, the pulse input and output, the lock, and the time correlation record
(R437 to R442, R444, R445, R497).
-/

namespace Sys2Proof.Machine

/-! ## Configuration (R444) -/

/-- SOURCE: 0 NONE, 1 PTP, 2 PPS. -/
def timSource (s : State) : Nat := field s.tim.cfg 1 0
/-- DOMAIN_NUM. -/
def timDomain (s : State) : Nat := field s.tim.cfg 15 8
/-- LOCK_NS. -/
def lockNs (s : State) : Nat := field s.tim.lockCfg 15 0
/-- LOCK_COUNT. -/
def lockCount (s : State) : Nat := field s.tim.lockCfg 23 16
/-- HOLDOVER_S in units of `Time`. -/
def holdover (s : State) : Time := field s.tim.holdCfg 11 0 * secT
/-- STEP_US in nanoseconds. -/
def stepNs (s : State) : Nat := field s.tim.holdCfg 31 16 * 1000

/-- Set a bit of TIM_EVENT: 0 LOCK_GAINED, 1 LOCK_LOST, 2 STEPPED, 3 GM_CHANGED, 4 PPS_MISSING. -/
def timEvent (s : State) (i : Nat) : State := { s with tim := { s.tim with event := setBit s.tim.event i true } }

/-- A PTP message or domain that the time unit does not process is discarded and counted. -/
def discardPtp (s : State) : State := { s with tim := { s.tim with discard := sat64 s.tim.discard } }

/-- Process a PTP message that arrives at `t` on a port of TIM_PTP_PORTS in DOMAIN_NUM. -/
def ptpMessage (s : State) (t : Time) (p domain : Nat) (k : State → State) : Outcome :=
  let s := advance s t
  .next (if isPtpPort s p && domain == timDomain s then k s else discardPtp s)

/-! ## Peer delay (R438) -/

/-- The peer-delay measurement of a port. -/
def peerDelay (s : State) (p : Nat) : PeerDelay := s.tim.delays.get {} p
/-- Change it. -/
def updDelay (s : State) (p : Nat) (f : PeerDelay → PeerDelay) : State :=
  { s with tim := { s.tim with delays := s.tim.delays.put p (f (peerDelay s p)) } }

/-- A port with a valid peer delay in its last 3 intervals. -/
def delayValid (s : State) (p : Nat) : Bool := (peerDelay s p).delay.isSome && (peerDelay s p).missed < 3

/-- PDELAY_REQ_SEND: once a second on each PTP port; an interval that brought no delay counts as missed. -/
def execPdelayReqSend (port : Fin 144) (t : Time) (s : State) : Outcome :=
  let s := advance s t
  let p := port.val
  let x := peerDelay s p
  let early := match x.lastSend with
    | some u => decide (s.now < u + secT)
    | none => false
  if !isPtpPort s p || early then .next s
  else
    let seq := (x.seq + 1) % 65536
    let s := updDelay s p fun d => { d with
      seq := seq, sentAt := some (devTime s), response := none, lastSend := some s.now
      missed := if d.sentAt.isSome then min 3 (d.missed + 1) else d.missed }
    .next (emit s (.ptp p 2 seq (devTime s)))

/-- PDELAY_REQ_RECEIVE: answered in two-step form, with the request's receipt time and the response's time of sending. -/
def execPdelayReqReceive (port : Fin 144) (domain seq : Nat) (t : Time) (s : State) : Outcome :=
  ptpMessage s t port domain fun s => emit (emit s (.ptp port 3 seq (devTime s))) (.ptp port 10 seq (devTime s))

/-- The mean link delay of an exchange: request sent, received, response sent, received, and the sum of the corrections. -/
def linkDelay (t1 t2 t3 t4 : Nat) (correction : Int) : Int := ((t4 : Int) - t1 - ((t3 : Int) - t2) - correction) / 2

/-- A new peer delay of a port. -/
def newDelay (s : State) (p : Nat) (d : Int) : State :=
  updDelay s p fun x => { x with delay := some d, missed := 0, sentAt := none, response := none }

/-- PDELAY_RESP_RECEIVE: a response to the outstanding request, or its follow-up. -/
def execPdelayRespReceive (port : Fin 144) (m : PdelayResp) (t : Time) (s : State) : Outcome :=
  ptpMessage s t port m.domain fun s =>
    let p := port.val
    let x := peerDelay s p
    match x.sentAt with
    | none => s
    | some t1 =>
      if m.seq ≠ x.seq then s
      else if !m.followUp then
        if m.twoStep then updDelay s p fun x => { x with response := some (m.stamp, devTime s, m.correction) }
        else newDelay s p (linkDelay t1 0 0 (devTime s) m.correction)
      else match x.response with
        | some (t2, t4, c) => newDelay s p (linkDelay t1 t2 m.stamp t4 (c + m.correction))
        | none => s

/-! ## Lock (R439, R497) -/

/-- TIM_LOCKED falls: 1 offsets, 2 holdover, 3 grandmaster, 4 source. -/
def dropLock (s : State) (cause : Nat) : State :=
  let s := { s with tim := { s.tim with goodCount := 0, badRun := 0 } }
  if !s.tim.locked then s
  else
    let s := timEvent { s with tim := { s.tim with locked := false, corrWrittenAt := none } } 1
    event (setReady s 15 false) 41 cause s.tim.gmPort

/-- The check word of a correlation record (R442). -/
def corrWord (tick sec : Nat) : Word := Config.checkWord (leBytes 6 tick ++ leBytes 6 sec)

/-- The correlation record passes its check. -/
def corrSound (b : BbRam) : Bool := b.corrCheck == corrWord b.corrTick b.corrSec

/-- Write the time correlation record: what TIM_CORR latched at the latest whole second (R442). -/
def writeCorrelation (s : State) (at_ : Time) : State :=
  { s with
    bb := { s.bb with corrTick := s.tim.corrTick, corrSec := s.tim.corrSec, corrCheck := corrWord s.tim.corrTick s.tim.corrSec }
    tim := { s.tim with corrWrittenAt := some at_ } }

/-- TIM_LOCKED rises: the first rise after reset sets the boot time floor, and the correlation record is written. -/
def gainLock (s : State) : State :=
  let floor := s.tim.bootFloor.getD (devTime s)
  let s := timEvent { s with tim := { s.tim with locked := true, estimated := false, bootFloor := some floor } } 0
  writeCorrelation (setReady s 15 true) s.now

/-- Move the counter by nanoseconds; it does not go below 0. -/
def moveCount (s : State) (ns : Int) : State :=
  { s with tim := { s.tim with count := ((s.tim.count : Int) + ns * countPerNs).toNat } }

/-- An offset above STEP_US: the counter is stepped by it, and the lock falls with no cause of its own. -/
def stepCounter (s : State) (off : Int) : State :=
  let was := s.tim.locked
  let s := moveCount s (-off)
  let s := { s with tim := { s.tim with locked := false, goodCount := 0, badRun := 0, corrWrittenAt := none } }
  let s := if was then timEvent (setReady s 15 false) 1 else s
  let detail := BitVec.ofInt 32 (max (-(2 ^ 31)) (min (2 ^ 31 - 1) off))
  event (timEvent s 2) 42 (off.natAbs / 1000) detail.toNat

/-- Steer by an offset up to STEP_US. -/
def steer (s : State) (off : Int) : State :=
  let good := decide (off.natAbs ≤ lockNs s)
  let s := { s with tim := { s.tim with
    freq := Config.servo off s.tim.freq
    goodCount := if good then min 255 (s.tim.goodCount + 1) else 0
    badRun := if 10 * lockNs s < off.natAbs then s.tim.badRun + 1 else 0 } }
  if s.tim.locked then (if 4 ≤ s.tim.badRun then dropLock s 1 else s)
  else if lockCount s ≤ s.tim.goodCount then gainLock s
  else s

/-- Apply an offset (R439). -/
def applyOffset (s : State) (off : Int) : State :=
  let s := { s with tim := { s.tim with offset := off, lastUsed := some s.now, holdover := false } }
  if stepNs s < off.natAbs then stepCounter s off else steer s off

/-! ## The best master (R438) -/

/-- What the default algorithm compares, in its order; lower is better. -/
def announceRank (a : Announce) : List Nat :=
  [a.priority1, a.clockClass, a.clockAccuracy, a.variance, a.priority2, a.grandmaster, a.stepsRemoved, a.sourceId]

/-- One rank comes before another. -/
def rankBelow : List Nat → List Nat → Bool
  | a :: t, b :: u => decide (a < b) || (a == b && rankBelow t u)
  | _, _ => false

/-- A port's latest Announce may be chosen: its port is enabled and has a valid peer delay, and the Announce is no older than
three of its intervals of 1 s. -/
def mayChoose (s : State) (p : Nat) (h : Heard) : Bool :=
  isPtpPort s p && delayValid s p && h.announce.stepsRemoved < 255 && decide (s.now ≤ h.receivedAt + 3 * secT)

/-- The best master: between equal ones the lower port number wins. -/
def bestMaster (s : State) : Option (Nat × Announce) :=
  (s.tim.heard.filter fun e => mayChoose s e.1 e.2).foldl (fun best e =>
    match best with
    | none => some (e.1, e.2.announce)
    | some b => if rankBelow (announceRank e.2.announce) (announceRank b.2) then some (e.1, e.2.announce) else some b) none

/-- Choose the master anew.  A change of port under the same grandmaster keeps the lock; while none can be chosen the last one
stands. -/
def chooseMaster (s : State) : State :=
  match bestMaster s with
  | none => s
  | some (p, a) =>
    if s.tim.gmPort = p && s.tim.gmId = a.grandmaster && s.tim.gmSource = a.sourceId then s
    else
      let change := s.tim.gmPort ≠ 255 && s.tim.gmId ≠ a.grandmaster
      let s := { s with tim := { s.tim with gmPort := p, gmId := a.grandmaster, gmSource := a.sourceId, pendingSync := none } }
      if !change then s
      else
        let s := timEvent s 3
        if timSource s = 1 then dropLock s 3 else s

/-- ANNOUNCE_RECEIVE. -/
def execAnnounceReceive (port : Fin 144) (m : Announce) (t : Time) (s : State) : Outcome :=
  ptpMessage s t port m.domain fun s =>
    chooseMaster { s with tim := { s.tim with heard := s.tim.heard.put port { announce := m, receivedAt := s.now } } }

/-- A Sync of the chosen master is complete: its offset is applied while SOURCE is PTP. -/
def useSync (s : State) (p ingress origin : Nat) (correction : Int) : State :=
  match (peerDelay s p).delay with
  | none => s
  | some d =>
    let s := { s with tim := { s.tim with path := d, syncRx := sat64 s.tim.syncRx, pendingSync := none } }
    applyOffset s ((ingress : Int) - origin - correction - d)

/-- The message comes from the chosen master. -/
def fromMaster (s : State) (p source : Nat) : Bool := s.tim.gmPort == p && s.tim.gmSource == source

/-- A Sync interval of 2^n s in units of `Time`. -/
def syncTime (n : Int) : Time := if n < 0 then secT / 2 ^ n.natAbs else secT * 2 ^ n.natAbs

/-- SYNC_RECEIVE: the command's moment is its ingress timestamp. -/
def execSyncReceive (port : Fin 144) (m : Sync) (t : Time) (s : State) : Outcome :=
  ptpMessage s t port m.domain fun s =>
    let s := chooseMaster s
    if timSource s ≠ 1 || !fromMaster s port m.sourceId || !delayValid s port then s
    else
      let s := { s with tim := { s.tim with syncInterval := syncTime m.logInterval } }
      if m.twoStep then
        let p : PendingSync := { sourceId := m.sourceId, seq := m.seq, ingress := devTime s, correction := m.correction }
        { s with tim := { s.tim with pendingSync := some p } }
      else useSync s port (devTime s) m.origin m.correction

/-- FOLLOW_UP_RECEIVE: it completes the two-step Sync of its sender and sequence. -/
def execFollowUpReceive (port : Fin 144) (m : FollowUp) (t : Time) (s : State) : Outcome :=
  ptpMessage s t port m.domain fun s =>
    match s.tim.pendingSync with
    | none => s
    | some p =>
      if timSource s ≠ 1 || !fromMaster s port m.sourceId || p.sourceId ≠ m.sourceId || p.seq ≠ m.seq then s
      else useSync s port p.ingress m.origin (p.correction + m.correction)

/-! ## Holdover (R439, R440) -/

/-- HOLDOVER_START: 1.5 Sync intervals since the last Sync used. -/
def execHoldoverStart (t : Time) (s : State) : Outcome :=
  let s := advance s t
  match s.tim.lastUsed with
  | none => .next s
  | some u =>
    if timSource s ≠ 1 || s.now < u + s.tim.syncInterval * 3 / 2 then .next s
    else .next { s with tim := { s.tim with holdover := true } }

/-- HOLDOVER_EXPIRY: HOLDOVER_S since the last Sync or edge used. -/
def execHoldoverExpiry (t : Time) (s : State) : Outcome :=
  let s := advance s t
  match s.tim.lastUsed with
  | none => .next s
  | some u => if !s.tim.locked || s.now < u + holdover s then .next s else .next (dropLock s 2)

/-! ## The pulse input and output (R440, R441) -/

/-- The offset of a time in nanoseconds from the nearest whole second. -/
def nearOffset (ns : Nat) : Int :=
  let r := ns % 1000000000
  if r ≤ 500000000 then r else (r : Int) - 1000000000

/-- PPS_IN_EDGE: an edge of the direction that IN_FALLING sets; the seconds that TIM_SET left go into the counter first. -/
def execPpsInEdge (rising : Bool) (t : Time) (s : State) : Outcome :=
  let s := advance s t
  if timSource s ≠ 2 || rising == bit s.tim.ppsCfg 2 then .next s
  else
    let off := nearOffset (devTime s)
    let s := match s.tim.setSec with
      | none => s
      | some v =>
        let s := moveCount s ((v : Int) * 1000000000 + off - devTime s)
        { s with tim := { s.tim with setSec := none } }
    .next (applyOffset s off)

/-- PPS_MISSING: 2 s since the last edge, or since the source was set while none has come. -/
def execPpsMissing (t : Time) (s : State) : Outcome :=
  let s := advance s t
  if timSource s ≠ 2 || s.tim.holdover || s.now < s.tim.lastUsed.getD s.tim.sourceAt + 2 * secT then .next s
  else .next (timEvent { s with tim := { s.tim with holdover := true } } 4)

/-- The tick at the latest whole second of device time. -/
def wholeSecondTick (s : State) : Nat :=
  let past := s.tim.count % (1000000000 * countPerNs) / clockRate s
  (s.lan.tickBase + (s.now - past - s.lan.tickEpoch) * 32768 / secT) % 2 ^ 48

/-- COMP_NS, signed. -/
def ppsComp (s : State) : Int := (BitVec.ofNat 16 (field s.tim.ppsComp 15 0)).toInt

/-- WHOLE_SECOND: TIM_CORR latches the tick and the seconds, and PPS_OUT pulses while OUT_EN is 1 and OUT_GATE does not forbid it. -/
def execWholeSecond (t : Time) (s : State) : Outcome :=
  let s := advance s t
  if devSec s = s.tim.corrSec then .next s
  else
    let s := { s with tim := { s.tim with corrTick := wholeSecondTick s, corrSec := devSec s % 2 ^ 48 } }
    if bit s.tim.ppsCfg 0 && (s.tim.locked || !bit s.tim.ppsCfg 1) then
      .next (emit s (.pulse (ppsComp s) (field s.tim.ppsCfg 16 8)))
    else .next s

/-- CORRELATION_WRITE: every 1,024 s from the rise of TIM_LOCKED, for as long as it stays 1. -/
def execCorrelationWrite (t : Time) (s : State) : Outcome :=
  let s := advance s t
  match s.tim.corrWrittenAt with
  | none => .next s
  | some u => if !s.tim.locked || s.now < u + 1024 * secT then .next s else .next (writeCorrelation s (u + 1024 * secT))

/-! ## Commands (R445) -/

/-- A write of the time configuration is within its ranges (R444). -/
def timRangeOk (a : Nat) (v : Word) : Bool :=
  let port (n : Nat) : Bool := n == 255 || n ≤ 143
  if a = 0x20 then field v 1 0 ≤ 2
  else if a = 0x24 then port (field v 7 0) && port (field v 15 8) && port (field v 23 16) && port (field v 31 24)
  else if a = 0x28 then 10 ≤ field v 15 0 && 2 ≤ field v 23 16
  else if a = 0x2C then 1 ≤ field v 11 0 && field v 11 0 ≤ 3600 && 1 ≤ field v 31 16
  else if a = 0x30 then 1 ≤ field v 16 8 && field v 16 8 ≤ 500
  else if a = 0x34 then (BitVec.ofNat 16 (field v 15 0)).toInt.natAbs ≤ 1000
  else false

/-- Write one of the time configuration registers; a change of SOURCE drops the lock (R439). -/
def writeTim (s : State) (a : Nat) (v : Word) : State :=
  if a = 0x20 then
    let old := timSource s
    let s := { s with tim := { s.tim with cfg := storeMasked s.tim.cfg v 0xFF03 } }
    if timSource s = old then s
    else dropLock { s with tim := { s.tim with
      sourceAt := s.now, lastUsed := none, holdover := false, setSec := none, pendingSync := none } } 4
  else if a = 0x24 then { s with tim := { s.tim with ptpPorts := v } }
  else if a = 0x28 then { s with tim := { s.tim with lockCfg := storeMasked s.tim.lockCfg v 0xFFFFFF } }
  else if a = 0x2C then { s with tim := { s.tim with holdCfg := storeMasked s.tim.holdCfg v 0xFFFF0FFF } }
  else if a = 0x30 then { s with tim := { s.tim with ppsCfg := storeMasked s.tim.ppsCfg v 0x1FF07 } }
  else if a = 0x34 then { s with tim := { s.tim with ppsComp := storeMasked s.tim.ppsComp v 0xFFFF } }
  else s

/-- TIM_CFG_SET. -/
def execTimCfgSet (c : Cmd) (s : State) : Outcome :=
  .next (command s c 0x0911 fun s =>
    let l := c.regWrites
    if l.any fun e => !timRangeOk e.1 e.2 then answerStatus s c.reply .invalidParameter
    else withRoutine s c 0x0911 0 fun s reasons =>
      answerOk (writeRestore (l.foldl (fun s e => writeTim s e.1 e.2) s)) c reasons [])

/-- TIM_SET: the seconds of the counter at the next edge; each one drops the lock (R440). -/
def execTimSet (c : Cmd) (s : State) : Outcome :=
  .next (command s c 0x0912 fun s =>
    if timSource s ≠ 2 then answerStatus s c.reply .invalidParameter
    else withCritical s c 0x0912 0 fun s reasons =>
      answerOk (dropLock { s with tim := { s.tim with setSec := some (c.nat 0x32 % 2 ^ 48) } } 4) c reasons [])

end Sys2Proof.Machine
end

