-- ==== Sys2Proof/Machine/ResetOps.lean ====
section
/-!
DEFINITION. The life-cycle record and what a transition destroys (R405 to R411), and what a reset keeps and how the device boots
(R442, R486 to R488, R490, R496).
-/

namespace Sys2Proof.Machine

/-! ## What a reset keeps (R488) -/

/-- The Lantern block through a reset: its registers outside the battery domain return to their values after reset, and queued
notices go. -/
def keptLantern (l : Lantern) : Lantern :=
  let new : Lantern := {}
  { l with
    raised := 0, cfg := new.cfg, srcCount := [], notices := [], noticeSeq := 0, noticeLost := 0 }

/-- The state as a reset leaves it: the battery domain, the in-package die, the flash, the fuses, the TAP and the life-cycle state
are kept, the noise cells sample on (R219), and all else has its value after reset. -/
def wiped (s : State) : State :=
  { pending := s.pending
    now := s.now
    fresh := s.fresh
    out := s.out
    id := { serial := s.id.serial }
    lan := keptLantern s.lan
    bb := s.bb
    die := s.die
    flash := s.flash
    tim := { count := s.tim.count }
    rng := { sampling := s.rng.sampling }
    lcy := { state := s.lcy.state, origin := s.lcy.origin, tap := s.lcy.tap } }

/-- A reset that keeps main power (R487): ports stop, Strata closes, and the internal reset is asserted with its cause latched. -/
def startReset (s : State) (cause : Nat) : State :=
  let s := emit (wiped (resetClose (chamberAlert (endCertificate s 5)))) (.pin "CHAMBER_SYNC" false)
  { s with id := { s.id with resetCause := BitVec.ofNat 32 cause } }

/-! ## Power states (R422, R503, R504) -/

/-- The power state that the supplies give: without VSTBY and VBAT the battery domain is lost (R502). -/
def powerOf (mainGood standby vbat : Bool) : Power :=
  if !standby && !vbat then .dead else if mainGood then .run else if standby then .standby else .battery

/-- DEAD: battery-backed RAM and what the battery domain stores are lost. -/
def loseBattery (s : State) : State :=
  let s := { s with
    bb := {}
    lan := { s.lan with
      tickBase := 0, tickEpoch := s.now, severity := 0, active := 0, latched := 0, endedAt := [], history := [], holds := []
      values := [], failed := [], srcCfg := [], tmpCfg := [], lfsr := [], driven := [], faultQ := [], faultTimes := []
      burstHigh := false, zeroizing := none, skewSeed := [], decisions := 0 } }
  if s.lan.mainGood then loseRoot s else s

/-- Lantern passes to the power state that its supplies give. -/
def setPower (s : State) : State :=
  let p := powerOf s.lan.mainGood s.lan.standbyOk s.lan.vbat
  let s := { s with lan := { s.lan with power := p } }
  if p = .dead then loseBattery s else s

/-- A source that is not latched is forgotten, and will be judged afresh (R436). -/
def forgetSources (s : State) : State :=
  { s with lan := { s.lan with active := 0, endedAt := [], history := [], holds := [], values := [], faultQ := [] } }

/-- Main power is lost: everything that it held is lost, and CHAMBER_SYNC is released (R133, R507). -/
def losePower (s : State) : State :=
  let s := wiped (forgetSources s)
  let s := emit { s with rng := {}, cham := { s.cham with syncReleased := true } } (.pin "CHAMBER_SYNC" true)
  setPower { s with lan := { s.lan with mainGood := false } }

/-! ## The life-cycle record (R408, R410) -/

/-- A copy of the life-cycle word is sound: its highest entry decodes. -/
def copySound (l : List LcyEntry) : Bool :=
  match l.getLast? with
  | some e => e.sound
  | none => false

/-- The copies show the same entry at the same index. -/
def copiesAgree (a b : List LcyEntry) : Bool := a.length == b.length && a.getLast? == b.getLast?

/-- The state and origin that a copy shows; wholly erased it shows BLANK. -/
def shown (l : List LcyEntry) : Nat × Nat :=
  match l.getLast? with
  | some e => (e.state, e.origin)
  | none => (1, 0)

/-- Change the latest log record. -/
def markLog (s : State) (f : LcyLog → LcyLog) : State :=
  match s.die.log.reverse with
  | [] => s
  | r :: t => { s with die := { s.die with log := (f r :: t).reverse } }

/-- The origin that an entry for `goal` stores: the state that a TEST state is entered from. -/
def originFor (from_ goal : Nat) : Nat := if 0x10 ≤ goal then from_ else 0

/-- Append an entry to the copies; entry to TEST n consumes token n (R405).  `a` and `b` say whether each copy's programming was
sound. -/
def programEntry (s : State) (from_ goal : Nat) (a b : Bool) : State :=
  let e : LcyEntry := { state := goal, origin := originFor from_ goal, seq := s.die.copyA.length + 1 }
  { s with die := { s.die with
    copyA := s.die.copyA ++ [{ e with sound := a }]
    copyB := s.die.copyB ++ [{ e with sound := b }]
    tokens := if 0x10 ≤ goal then setBit s.die.tokens (goal - 0x10) true else s.die.tokens } }

/-! ## What a transition destroys (R407) -/

/-- Root secret, vault anchor and battery-backed RAM, and what the key store works with. -/
def wipeSecrets (s : State) : State :=
  let s := logBattery (clearRam s) 0xFF 0x11 true false
  { s with kst := forgetMasters { s.kst with slots := [], transports := [], nonces := [], root := none } }

/-- User flash: normal images, the owner's key, domain 0's roster and master, keys 1 to 255, and the restore record. -/
def wipeUserFlash (s : State) : State :=
  { s with die := { s.die with
    normalA := {}, normalB := {}, normalNext := 0, lmsKey := [], domain0 := none, rosterDigest := [], master0 := none, keys := [], restore := none } }

/-- The actions of R407 for a target state. -/
def wipeFor (s : State) (goal : Nat) : State :=
  if 0x10 ≤ goal then wipeSecrets s
  else if goal = 5 then wipeUserFlash (wipeSecrets s)
  else if goal = 6 then
    let s := wipeUserFlash (wipeSecrets s)
    { s with die := { s.die with attestation := none, identity := none } }
  else s

/-- Clear every latch (R426). -/
def clearLatches (s : State) : State := settleSeverity { s with lan := { s.lan with latched := 0 } }

/-- COMPLETE is written: the transition stands, its latches are cleared, and Strata records it (R409, R426). -/
def completeRecord (s : State) : State :=
  match s.die.log.getLast? with
  | none => s
  | some r =>
    event (clearLatches (markLog s fun r => { r with complete := true })) 36 r.target (r.source + r.target * 2 ^ 8 + r.token * 2 ^ 16)

/-- Step 3 of R409 on. -/
def completeFrom (s : State) (from_ goal : Nat) : State :=
  let s := markLog (wipeFor s goal) fun r => { r with wipeDone := true, wordStart := true }
  completeRecord (programEntry s from_ goal true true)

/-- The device is in a state. -/
def enterState (s : State) (st : Nat × Nat) : State := { s with lcy := { s.lcy with state := st.1, origin := st.2 } }

/-- SCRAP: the boot ROM performs the SCRAP column before anything else, and every wire is held in ISOLATE. -/
def enterScrap (s : State) : State :=
  let s := wipeFor s 6
  { s with lcy := { s.lcy with state := 6, origin := 0, isolateAll := true } }

/-- The boot ROM's decision where both copies are sound and agree (R410).  Both wholly erased show BLANK, with or without a log record: only
step 5 can make the unit SCRAP (R411; assumption 137). -/
def decideSound (s : State) : State :=
  let st := shown s.die.copyA
  match s.die.log.getLast? with
  | none => enterState s st
  | some r =>
    if r.complete || !r.intent then enterState s st
    else if st.1 = r.source && !r.wordStart then
      let s := completeFrom s r.source r.target
      enterState { s with lcy := { s.lcy with resumed := true } } (shown s.die.copyA)
    else if st.1 = r.source then
      let s := completeRecord (programEntry s r.source r.target true true)
      enterState s (shown s.die.copyA)
    else if st.1 = r.target && r.wordStart then enterState (completeRecord s) st
    else enterScrap s

/-- One copy unsound: the sound copy's state stands unless the record was being written. -/
def decideOne (s : State) (sound : List LcyEntry) (bad : Nat) : State :=
  let writing := match s.die.log.getLast? with
    | some r => r.wordStart && !r.complete
    | none => false
  if writing then enterScrap s
  else event (enterState { s with lcy := { s.lcy with copyFault := true } } (shown sound)) 37 bad 0

/-- LIFECYCLE_DECISION: the first matching row of R410. -/
def decideLife (s : State) : State :=
  let a := s.die.copyA
  let b := s.die.copyB
  let s := if (copySound a && copySound b && copiesAgree a b) || (a.isEmpty && b.isEmpty) then decideSound s
    else if copySound a && !copySound b then decideOne s a 1
    else if copySound b && !copySound a then decideOne s b 0
    else enterScrap s
  if s.lcy.state = 6 then enterScrap s else s

/-! ## Boot (R396, R442, R490, R496) -/

/-- Load the time counter from the correlation record (R442). -/
def loadCounter (s : State) : State :=
  if !corrSound s.bb then { s with tim := { s.tim with count := 0, freeStart := true } }
  else
    let d := (lanternTick s + 2 ^ 48 - s.bb.corrTick) % 2 ^ 48
    let ns := (s.bb.corrSec + d / 32768) * 1000000000 + d % 32768 * 1000000000 / 32768
    { s with tim := { s.tim with count := ns * countPerNs, freeStart := false } }

/-- The boot ROM: straps latched, the life-cycle state decided, the monitor installed, the secure world loaded. -/
def boot (s : State) (x : Straps) : State :=
  let s := loadCounter s
  let s := { s with
    mbx := { s.mbx with mgmtEn := x.mgmtEn }
    id := { s.id with chamberId := x.chamberId.toNat, bootAt := s.now } }
  if !x.locks then s
  else
    let s := decideLife s
    let boots := min 65535 (s.die.boots + 1)
    let cause := field s.id.resetCause 3 0
    let s := { s with
      die := { s.die with boots := boots }
      id := { s.id with
        resetCause := BitVec.ofNat 32 (cause + boots * 2 ^ 16)
        clk := s.id.clk ||| 7
        romAt := some s.now }
      rng := { s.rng with sampling := true } }
    bootSecure (setReady (event s 0 cause 0) 1 true)

end Sys2Proof.Machine
end

