-- ==== Sys2Proof/Machine/Life.lean ====
section
/-!
DEFINITION. Life-cycle transitions, debug certificates, the TAP and the debug access port (R401 to R420).
-/

namespace Sys2Proof.Machine

/-! ## Transitions (R403, R404, R409) -/

/-- The transition exists (R403). -/
def reachable (s : State) (goal : Nat) : Bool :=
  let from_ := s.lcy.state
  let test := 0x10 ≤ goal && goal ≤ 0x1F
  if inTest s then goal == s.lcy.origin
  else if from_ = 1 then goal == 2
  else if from_ = 2 then goal == 3 || test
  else if from_ = 3 then goal == 4 || goal == 5 || test
  else if from_ = 4 then goal == 5
  else if from_ = 5 then goal == 6 || test
  else false

/-- The transition may come over a mailbox session. -/
def mailboxCarries (s : State) (goal : Nat) : Bool :=
  (s.lcy.state == 3 && (goal == 4 || goal == 5)) || (s.lcy.state == 4 && goal == 5)

/-- ROSTER_SET. -/
def rosterSet (s : State) : Bool := s.die.domain0.isSome

/-- The preconditions of check 4. -/
def preconditionsMet (s : State) (goal : Nat) : Bool :=
  if goal = 2 then s.die.serialFused
  else if goal = 3 then inTest s || s.die.attestation.isSome
  else if goal = 4 then rosterSet s
  else true

/-- The quorum that a transition needs, if it needs one (R403). -/
def transitionQuorum (s : State) (c : Cmd) (goal : Nat) : Option Quorum :=
  let base : Quorum := { plainQuorum s c 0x0810 [] with grants := true }
  let grant := { base with grantNeeded := true }
  if inTest s || s.lcy.state = 1 then none
  else if goal = 4 then some { base with needs := [critical s 0], grants := false }
  else if goal = 5 then some { base with needs := [critical s 0], grants := c.caller == .tap }
  else if s.lcy.state = 3 && rosterSet s then some { grant with needs := [critical s 0] }
  else some grant

/-- The checks 1 to 5 of R404, in order. -/
def transitionGate (s : State) (c : Cmd) (goal : Nat) : Option Status :=
  firstOf
    [(reachable s goal && c.caller ≠ .tap && !mailboxCarries s goal, .notPermitted),
     (!reachable s goal, .lifecycleForbids),
     (0x10 ≤ goal && bit s.die.tokens (goal - 0x10), .lifecycleForbids),
     (!preconditionsMet s goal, .notReady),
     (suspended s && goal ≠ 5, .suspended)]

/-- The first entry to PROVISION makes the root and the master of domain 0 (R244, R245); a draw that is refused makes none. -/
def firstProvision (s : State) (goal : Nat) : State :=
  if s.lcy.state = 2 && goal = 3 then
    match draw s 1 false 64 with
    | (s, .ok b) => enterRoot s (b.take 32) (b.drop 32)
    | (s, .error _) => s
  else s

/-- Hardware holds every wire in ISOLATE from the INTENT on, where the target calls for it (R407). -/
def holdWires (s : State) (goal : Nat) : State :=
  { s with lcy := { s.lcy with isolateAll := s.lcy.isolateAll || goal == 5 || goal == 6 || decide (0x10 ≤ goal) } }

/-- The steps of R409.  `stop` says where power is lost, or 10 where the read-back of step 6 fails: 2 before INTENT, 3 before
WIPE_DONE, 4 before WORD_START, 5 with nothing of the new entry programmed, 6 with both copies programmed, 7 to 9 with copy A, copy B
or both unsound. -/
def carryOut (s : State) (reply : Reply) (goal token : Nat) (auth : Bytes) (stop : Nat) : State :=
  let from_ := s.lcy.state
  let rec_ : LcyLog := { seq := s.die.log.length + 1, source := from_, target := goal, token := token, auth := auth }
  let s := { s with die := { s.die with log := s.die.log ++ [rec_] } }
  if stop = 2 then losePower s
  else
    let s := markLog s fun r => { r with intent := true }
    let s := endCertificate (firstProvision (wipeFor (holdWires s goal) goal) goal) 3
    if stop = 3 then losePower s
    else
      let s := markLog s fun r => { r with wipeDone := true }
      if stop = 4 then losePower s
      else
        let s := markLog s fun r => { r with wordStart := true }
        if stop = 5 then losePower s
        else
          let s := programEntry s from_ goal (stop != 7 && stop != 9 && stop != 10) (stop != 8 && stop != 9)
          if stop = 10 then startReset s 3
          else if 6 ≤ stop then losePower s
          else
            let s := completeRecord s
            let a : Answer := { status := .ok }
            let s := answer s reply a
            let s := if reply = .log then s else emit s (.answer a)
            startReset s 3

/-- The twice-taken decision of R404 and R416: a disagreement raises FAULT and is counted. -/
def twinDecides (s : State) (c : Cmd) (k : State → State) : State :=
  if c.facts.headD 1 = 1 then k s
  else
    let s := { s with lcy := { s.lcy with twinFault := sat32 s.lcy.twinFault } }
    answerStatus (faultAlarm s 10 0) c.reply .faultDetected

/-- The first 16 bytes of a command's digest. -/
def authOf (c : Cmd) (code : Nat) : Bytes := (Config.sha384 (plainInput code c.body 0)).take 16

/-- LCY_TRANSITION. -/
def execLcyTransition (c : Cmd) (s : State) : Outcome :=
  .next (command s c 0x0810 fun s => withLength s c 8 <|
    let b := c.body.bytes
    let goal := leAt b 0 1
    let token := leAt b 1 1
    let test := 0x10 ≤ goal && goal ≤ 0x1F
    if !allZero (b.drop 2) || (test && token ≠ goal - 0x10) then answerStatus s c.reply .invalidParameter
    else match transitionGate s c goal with
      | some st => answerStatus s c.reply st
      | none =>
        let go (s : State) : State :=
          twinDecides s c fun s => carryOut s c.reply goal (if test then token else 0xFF) (authOf c 0x0810) (c.facts.getD 1 0)
        match transitionQuorum s c goal with
        | none => go s
        | some q => withQuorum s c q fun s _ => go s)

/-- LCY_TEST_EXIT. -/
def execLcyTestExit (c : Cmd) (s : State) : Outcome :=
  .next (command s c 0x0811 fun s =>
    if !inTest s then answerStatus s c.reply .lifecycleForbids
    else carryOut s c.reply s.lcy.origin 0xFF (authOf c 0x0811) (c.facts.getD 1 0))

/-- LCY_NONCE: the nonce of a vendor grant, which replaces any open one and lives 3,600 s (R402). -/
def execLcyNonce (c : Cmd) (s : State) : Outcome :=
  .next (command s c 0x0802 fun s => withDraw s c.reply 1 32 fun s b =>
    let n : Nonce := { value := b, domain := 0xFFFF, code := 0, digest := [], deadline := lanternTick s + 3600 * 32768,
                       opener := c.caller }
    answerOk { s with lcy := { s.lcy with nonce := some n } } c [] [.nonce b])

/-! ## The record (R408, R420) -/

/-- The 16 bytes of an entry. -/
def entryBytes (e : LcyEntry) : Bytes :=
  let b := leBytes 1 e.state ++ leBytes 1 e.origin ++ leBytes 2 e.seq ++ zeros 4
  if e.sound then b ++ Config.bch b else (Config.tornEntry b).take 16

/-- The 32 bytes of a log record. -/
def logBytes (r : LcyLog) : Bytes :=
  let b := leBytes 4 r.seq ++ leBytes 1 r.source ++ leBytes 1 r.target ++ leBytes 1 r.token ++ [0] ++ r.auth
  let mark (x : Bool) : Byte := if x then 0 else 0xFF
  b ++ leBytes 4 (crc32 b).toNat ++ [mark r.intent, mark r.wipeDone, mark r.wordStart, mark r.complete]

/-- An array of `n` bytes whose unwritten tail is erased. -/
def erasedTail (n : Nat) (b : Bytes) : Bytes := b ++ List.replicate (n - b.length) 0xFF

/-- LCY_LOG_READ: both copies of the life-cycle word and all 64 log records. -/
def execLcyLogRead (c : Cmd) (s : State) : Outcome :=
  .next (command s c 0x0830 fun s =>
    answerOk s c [] [.blob (erasedTail 1024 (s.die.copyA.flatMap entryBytes)), .blob (erasedTail 1024 (s.die.copyB.flatMap entryBytes)),
      .blob (erasedTail 2048 (s.die.log.flatMap logBytes))])

/-! ## Debug certificates (R415 to R417) -/

/-- RIGHTS of a certificate body. -/
def certRights (b : Bytes) : Nat := leAt b 6 2
/-- NOT_BEFORE. -/
def certFrom (b : Bytes) : Nat := leAt b 0x20 6
/-- NOT_AFTER. -/
def certTo (b : Bytes) : Nat := leAt b 0x28 6

/-- MAGIC, FORMAT and the reserved fields are valid, and DAP_KEY is in its range (check 1). -/
def certFormed (b : Bytes) : Bool :=
  leAt b 0 4 == 0x54434244 && leAt b 4 2 == 1 && certRights b < 256 && leAt b 0x1E 2 == 0
    && leAt b 0x30 16 < 2 ^ 72 && allZero (b.drop 0x40) && 1 ≤ leAt b 0x1D 1 && leAt b 0x1D 1 ≤ 14

/-- The checks 1 to 5 of R416, in order. -/
def unlockGate (s : State) (b : Bytes) : Option Status :=
  let tick := lanternTick s
  firstOf
    [(!certFormed b, .invalidParameter),
     (slice b 8 16 ≠ s.id.serial || leAt b 0x1C 1 ≠ s.lcy.state, .notPermitted),
     (certRights b &&& grantableRights s ≠ certRights b, .lifecycleForbids),
     (tick < certFrom b || certTo b < tick || certFrom b + 19818086400 < certTo b, .invalidParameter),
     (suspended s, .suspended)]

/-- The certificate of a body. -/
def certOf (b : Bytes) : LiveCert :=
  { rights := certRights b, id := leAt b 0x18 4, dapKey := leAt b 0x1D 1, notAfter := certTo b,
    wires := BitVec.ofNat 128 (leAt b 0x30 16) }

/-- Contexts that no right in force lets a probe halt resume, and wires in BYPASS whose authority has gone go to ISOLATE. -/
def applyRights (s : State) : State :=
  let s := if hasRight s 0 then s else resumeWorld s 0
  let s := if hasRight s 6 then s else resumeWorld s 1
  endBypass s

/-- LCY_DEBUG_UNLOCK: the new certificate replaces a live one. -/
def execLcyDebugUnlock (c : Cmd) (s : State) : Outcome :=
  .next (command s c 0x0820 fun s => withLength s c 128 <|
    let b := c.body.bytes
    match unlockGate s b with
    | some st => answerStatus s c.reply st
    | none =>
      withCritical s c 0x0820 0 fun s reasons => twinDecides s c fun s =>
        let x := certOf b
        let s := event { s with lcy := { s.lcy with cert := some x } } 38 x.rights x.id
        answerOk (applyRights s) c reasons [])

/-- LCY_DEBUG_LOCK. -/
def execLcyDebugLock (c : Cmd) (s : State) : Outcome :=
  .next (command s c 0x0821 fun s =>
    if s.lcy.cert.isNone then answerStatus s c.reply .invalidParameter else answerOk (endCertificate s 2) c [] [])

/-- DBG_LOCK: a write of LOCK to LCY_DBG_CTRL, by the secure world only (R419). -/
def execDbgLock (m : Master) (v : Word) (t : Time) (s : State) : Outcome :=
  let s := advance s t
  if !m.isSecure then .next (refuseAccess s m 0x00040040 true)
  else .next (if bit v 0 then endCertificate s 2 else s)

/-- DEBUG_CERT_EXPIRY: the tick passes NOT_AFTER. -/
def execDebugCertExpiry (t : Time) (s : State) : Outcome :=
  let s := advance s t
  match s.lcy.cert with
  | none => .next s
  | some x => if x.notAfter < lanternTick s then .next (endCertificate s 1) else .next s

/-! ## The TAP (R412) -/

/-- Act on an instruction. -/
def selectIr (s : State) (ir : Nat) : State := { s with lcy := { s.lcy with tap := { s.lcy.tap with ir := ir } } }

/-- The one-bit bypass register: what comes out is what went in, one bit later. -/
def bypassOut (shift : List Bool) : List Bool := (false :: shift).take shift.length

/-- Act as BYPASS. -/
def actBypass (s : State) (shift : List Bool) : State := emit (selectIr s 0xFF) (.tap (bypassOut shift))

/-- The states in which the boundary instructions are allowed. -/
def boundaryAllowed (s : State) : Bool := s.lcy.state == 1 || s.lcy.state == 2 || inTest s

/-- Capture the pins into the boundary register, shift them out, and shift the next content in. -/
def shiftBoundary (s : State) (shift pins : List Bool) : State :=
  emit { s with lcy := { s.lcy with tap := { s.lcy.tap with boundary := shift } } } (.tap (pins.take shift.length))

/-- EXTEST: outputs are driven from the boundary register. -/
def execTapExtest (shift pins : List Bool) (t : Time) (s : State) : Outcome :=
  let s := advance s t
  .next (if boundaryAllowed s then shiftBoundary (selectIr s 0) shift pins else actBypass s shift)

/-- SAMPLE/PRELOAD. -/
def execSamplePreload (shift pins : List Bool) (t : Time) (s : State) : Outcome :=
  .next (shiftBoundary (selectIr (advance s t) 1) shift pins)

/-- The IDCODE, least significant bit first. -/
def idcodeBits : List Bool := (List.range 32).map fun i => bit 0x1414447B i

/-- IDCODE: 32 bits, then what was shifted in. -/
def execTapIdcode (shift : List Bool) (t : Time) (s : State) : Outcome :=
  .next (emit (selectIr (advance s t) 2) (.tap ((idcodeBits ++ shift).take shift.length)))

/-- CLAMP: outputs are held from the boundary register, and the bypass register is shifted. -/
def execTapClamp (shift : List Bool) (t : Time) (s : State) : Outcome :=
  let s := advance s t
  .next (if boundaryAllowed s then emit (selectIr s 3) (.tap (bypassOut shift)) else actBypass s shift)

/-- HIGHZ: outputs float, and the bypass register is shifted. -/
def execTapHighz (shift : List Bool) (t : Time) (s : State) : Outcome :=
  let s := advance s t
  .next (if boundaryAllowed s then emit (selectIr s 4) (.tap (bypassOut shift)) else actBypass s shift)

/-- LCY_CMD: the envelope channel of the life-cycle commands is open. -/
def execLcyCmd (t : Time) (s : State) : Outcome := .next (selectIr (advance s t) 0x20)

/-- DAP: the debug access port is selected while any right is in force. -/
def execTapDap (shift : List Bool) (t : Time) (s : State) : Outcome :=
  let s := advance s t
  .next (if rightsInForce s ≠ 0 then selectIr s 0x21 else actBypass s shift)

/-- Bits that the spec leaves open come out of the TAP: each is a free value. -/
def shiftFree (s : State) (bits : Nat) : State :=
  let (n, s) := drawFree s
  emit s (.tap ((List.range bits).map fun i => (Config.freeNat n).testBit i))

/-- SCAN_CTRL: the internal scan chains, with SCAN. -/
def execScanCtrl (shift : List Bool) (t : Time) (s : State) : Outcome :=
  let s := advance s t
  if hasRight s 7 then
    .next (shiftFree (selectIr s 0x22) shift.length)
  else .next (actBypass s shift)

/-- BYPASS. -/
def execTapBypass (shift : List Bool) (t : Time) (s : State) : Outcome := .next (actBypass (advance s t) shift)

/-- TAP_RESET: Test-Logic-Reset selects IDCODE. -/
def execTapReset (t : Time) (s : State) : Outcome := .next (selectIr (advance s t) 2)

end Sys2Proof.Machine
end

