-- ==== Sys2Proof/Machine/Resets.lean ====
section
/-!
DEFINITION. Power, reset and the restore of the approved configuration (R422, R486 to R496, R502 to R505).
-/

namespace Sys2Proof.Machine

/-! ## Power (R422, R428, R503, R504) -/

/-- The battery log entries newer than the last one reported, oldest first. -/
def unreported (s : State) : List BatLog :=
  let n := min 32 ((s.bb.logSeq + 65536 - s.bb.logReported) % 65536)
  ((List.range n).map fun k => (s.bb.logSeq + 65536 + k + 1 - n) % 65536).filterMap fun q =>
    (s.bb.log.look (q % 32)).filter (·.seq == q)

/-- A BATTERY_REPLAY notice of a log entry (R435). -/
def replayEntry (s : State) (e : BatLog) : State :=
  putNotice s { source := e.source, event := 3, actions := bitAt e.zeroized 3 + bitAt e.disagree 6 } e.power e.tick (zeros 10)

/-- Notify the log entries that main power good finds unreported. -/
def replayLog (s : State) : State :=
  let s := (unreported s).foldl replayEntry s
  { s with bb := { s.bb with logReported := s.bb.logSeq } }

/-- Latched sources take their main severity: each counts as raised, whether or not it is sensed active (R428, R431). -/
def takeLatched (s : State) : State :=
  let l := (lanternSources.filter fun x => bit s.lan.latched x).map fun x =>
    ({ source := x, detail := if 16 ≤ x then x - 16 else 0 } : Rise)
  let r := raiseAll s l false
  settleSeverity { r with lan := { r.lan with active := s.lan.active } }

/-- MAIN_PG_RISE: Lantern enters RUN, reports what the battery log gained without main power, gives latched sources their severity, and the
timeline of R496 begins with cause POWER_ON. -/
def execMainPgRise (x : Straps) (t : Time) (s : State) : Outcome :=
  let s := advance s t
  if s.lan.mainGood then .next s
  else
    let s := emit (forgetSources (wiped s)) (.pin "CHAMBER_SYNC" false)
    let s := setPower { s with lan := { s.lan with mainGood := true, severity := 0, skewDue := true } }
    .next (takeLatched (replayLog (boot s x)))

/-- MAIN_PG_FALL. -/
def execMainPgFall (t : Time) (s : State) : Outcome :=
  let s := advance s t
  if s.lan.mainGood then .next (losePower s) else .next s

/-- VSTBY_WINDOW_CHANGE: the battery domain runs from VSTBY whenever it lies within its window (R503). -/
def execVstbyWindowChange (inWindow : Bool) (t : Time) (s : State) : Outcome :=
  let s := advance s t
  .next (setPower { s with lan := { s.lan with standbyOk := inWindow } })

/-- VBAT_WINDOW_CHANGE: VBAT is applied, or falls below 2.0 V. -/
def execVbatWindowChange (present : Bool) (t : Time) (s : State) : Outcome :=
  let s := advance s t
  .next (setPower { s with lan := { s.lan with vbat := present } })

/-! ## Reset (R486, R487, R490, R491) -/

/-- SYS_RESET: cause PIN. -/
def execSysReset (t : Time) (s : State) : Outcome :=
  let s := advance s t
  if s.lan.mainGood then .next (startReset s 1) else .next s

/-- A reset is asked for with its KEY (R490). -/
def softReset (s : State) (v : Word) : State :=
  if bit v 0 && field v 31 16 == 0xB007 then startReset s 2 else s

/-- SOFTWARE_RESET: a write of ID_RESET_CTRL, by the secure world only; without its KEY it is ignored whole. -/
def execSoftwareReset (m : Master) (v : Word) (t : Time) (s : State) : Outcome :=
  let s := advance s t
  if !m.isSecure then .next (refuseAccess s m 0x18 true) else .next (softReset s v)

/-- INTERNAL_RESET_RELEASE: the boot ROM runs. -/
def execInternalResetRelease (x : Straps) (t : Time) (s : State) : Outcome :=
  let s := advance s t
  if s.lan.mainGood && !bit s.id.ready 1 then .next (boot s x) else .next s

/-! ## The restore (R493, R494) -/

/-- The flow-table seeds are drawn, once the RNG bit is set (R54). -/
def drawSeeds (s : State) : State :=
  if s.psg.seeded || !bit s.id.ready 3 then s
  else match draw s 0 true 32 with
    | (s, .ok b) => { s with psg := { s.psg with seeded := true, seeds := (List.range 4).map fun i => slice b (8 * i) 8 } }
    | (s, .error _) => s

/-- A wire's bank stands in ACTIVE, SHADOW and both directions as generation 1. -/
def restoreBank (s : State) (w : Nat) (b : Bank) : State :=
  let s := updWire s w fun x => { x with active := b, shadow := b, gen := 1 }
  [2 * w, 2 * w + 1].foldl (fun s p => updPort s p fun q => { q with bank := b, gen := 1 }) s

/-- Restore one wire: BYPASS whose authority has gone becomes ISOLATE, which Strata records. -/
def restoreWire (s : State) (byCert : Bool) (w : Nat) (b : Bank) : State :=
  if b.modeOf = 3 && (byCert || !bypassOpen s) then
    event (restoreBank s w { b with mode := setField b.mode 1 0 2 }) 35 w 1
  else restoreBank s w b

/-- The tables of a restore record whose STEP_DIGEST matches their steps (R494); one that does not match is not loaded (assumption 135). -/
def soundTables (r : Restore) : Tbl Table := r.tables.keep fun _ t => Config.sha384 (stepBytes t) == t.digest

/-- The tables and wire banks of a restore record. -/
def restorePassage (s : State) (r : Restore) : State :=
  let tables := soundTables r
  let s := { s with psg := { s.psg with
    tables := tables, resident := tables.foldl (fun m e => setBit m e.1 true) 0, vlogCfg := r.vlog } }
  r.banks.foldl (fun s e => restoreWire s (r.bypassByCert.contains e.1) e.1 e.2) s

/-- The other settings of a restore record. -/
def restoreSettings (s : State) (r : Restore) : State :=
  let s := refreshPke { s with
    pke := { s.pke with active := r.poolMap, shadow := r.poolMap }
    cham := { s.cham with cfg := r.chamber, lend := r.lend } }
  ([0x20, 0x24, 0x28, 0x2C, 0x30, 0x34].zip r.tim).foldl (fun s e => writeTim s e.1 e.2) s

/-- Release CHAMBER_SYNC (R133). -/
def releaseSync (s : State) : State :=
  emit (setReady { s with cham := { s.cham with syncReleased := true } } 16 true) (.pin "CHAMBER_SYNC" true)

/-- CONFIG_RESTORE: after SECURE_UP the secure world restores the record and enables the ports.  With the root absent or a record
that fails its tag nothing is restored.  Seeds that could not be drawn yet follow once the RNG serves. -/
def execConfigRestore (sound : Bool) (t : Time) (s : State) : Outcome :=
  let s := advance s t
  if !secureUp s then .next s
  else if s.psg.restored then .next (drawSeeds s)
  else
    let s := drawSeeds { s with psg := { s.psg with restored := true } }
    if s.kst.root.isNone || s.die.restore.any (fun r => !sound || !restoreSound s r) then .next (event s 1 0 0)
    else match s.die.restore with
      | none => .next (releaseSync s)
      | some (r, _) =>
        let s := restoreSettings (restorePassage s r) r
        .next (releaseSync (refreshLinks (r.ports.foldl (fun s e => writePortCfg s e.1 e.2) s)))

end Sys2Proof.Machine
end

