-- ==== Sys2Proof/Machine/Attest.lean ====
section
/-!
DEFINITION. Attestation records (R263).
-/

namespace Sys2Proof.Machine

/-- VERSION of the image a world runs; 0 while none does. -/
def firmwareVersion (s : State) (world : Nat) : Nat :=
  let up := if world = 1 then s.wld.running else s.wld.normalUp
  let slot := if world = 1 then s.wld.bootedSecure else s.wld.bootedNormal
  if up then leNat (slotBytes (image s world slot).bytes 8 4) else 0

/-- The key that a handle names, from its slot or its vault record. -/
def keyRecord (s : State) (h : Nat) : Option KeyRec :=
  match slotOf s h with
  | some (_, x) => some { attr := x.attr, value := x.value }
  | none => vaultRecord s h

/-- SHA-384 of a key's public key: a private key's counterpart, a public key itself, zeros for a symmetric key. -/
def publicDigest (k : KeyRec) : Bytes :=
  if k.attr.type < 0x40 then zeros 48
  else if k.attr.type < 0x80 then Config.sha384 (Config.publicKey (k.attr.type - 0x40) k.value)
  else Config.sha384 k.value

/-- The 256 bytes of an attestation record: KIND, DOMAIN, the key if one is named, the digest at 0x34 and the caller's nonce. -/
def attestBytes (s : State) (kind d h : Nat) (k : Option KeyRec) (digest nonce : Bytes) : Bytes :=
  let attr := (k.map fun x => attrBytes x.attr).getD (zeros 16)
  let print := if kind = 1 then (k.map fun x => (Config.sha384 x.value).take 16).getD (zeros 16) else zeros 16
  leBytes 4 0x54535441 ++ leBytes 2 1 ++ leBytes 2 kind ++ s.id.serial ++ leBytes 4 0xB1 ++ leBytes 1 s.lcy.state ++ [0]
    ++ leBytes 2 d ++ leBytes 4 h ++ attr ++ digest ++ print ++ leBytes 6 (devSec s) ++ leBytes 4 (devNs s)
    ++ leBytes 1 (bitAt s.tim.locked 0) ++ [0] ++ nonce ++ leBytes 4 (firmwareVersion s 1) ++ leBytes 4 (firmwareVersion s 2)
    ++ leBytes 8 s.kst.attests ++ Config.sha384 (Config.deviceCert s.die.certificates) ++ zeros 32

/-- Make an attestation record with its signature block; the counter rises by 1. -/
def attest (s : State) (kind d h : Nat) (k : Option KeyRec) (digest nonce : Bytes) : Bytes × State :=
  let s := { s with kst := { s.kst with attests := (s.kst.attests + 1) % 2 ^ 64 } }
  let b := attestBytes s kind d h k digest nonce
  let (sig, s) := signBlock s b
  (b ++ sig, s)

/-- KST_ATTEST: KIND 3 where a transport is named, KIND 1 where a key is, else KIND 2. -/
def execKstAttest (c : Cmd) (s : State) : Outcome :=
  .next (command s c 0x0205 fun s =>
    let h := c.nat 1
    let key := c.value 1
    let transport := (c.value 0x12).bind fun b => (findTransport s (leNat b)).filter (·.domain == c.domain)
    let known := keyAttr s h
    match leastOf (useConditions s ++
        [(s.die.attestation.isNone, .notReady), (key.isSome && known.isNone, .invalidKey),
         (key.isSome && handleDomain h ≠ c.domain, .notPermitted),
         ((c.value 0x12).isSome && transport.isNone, .invalidParameter)]) with
    | some st => answerStatus s c.reply st
    | none =>
      let k := if key.isSome then keyRecord s h else none
      let kind := if transport.isSome then 3 else if key.isSome then 1 else 2
      let digest := match transport with
        | some t => Config.sha384 t.offer
        | none => (k.map publicDigest).getD (zeros 48)
      let (b, s) := attest s kind c.domain (if kind = 2 then 0 else h) k digest (c.bytes 0x13)
      answerOk s c [] [.blob b])

end Sys2Proof.Machine
end

