-- ==== Sys2Proof/Machine/KarstOps.lean ====
section
/-!
DEFINITION. Karst operations that several messages and commands share: membership, the message queues, change records, commits of
replicated domains, and revocations (R462 to R479).
-/

namespace Sys2Proof.Machine

/-! ## Membership (R462, R464, R482) -/

/-- KAR_STATUS.STATE: with the root gone the membership is too (R482). -/
def karState (s : State) : Nat := if s.kst.root.isSome then s.flash.karst.state else 0

/-- This device takes part in Karst work: it is a member, and its vault serves with the domains loaded (R464). -/
def karActive (s : State) : Bool := karState s == 2 && vaultServes s && s.kst.domainsLoaded

/-- This device's member number. -/
def selfNo (s : State) : Nat := s.flash.karst.member

/-- Change the stored membership. -/
def updKarst (s : State) (f : KarStore → KarStore) : State := { s with flash := { s.flash with karst := f s.flash.karst } }

/-- Change the Karst unit. -/
def updUnit (s : State) (f : Karst → Karst) : State := { s with kar := f s.kar }

/-- Change a Karst session. -/
def updSession (s : State) (m : Nat) (f : KarSession → KarSession) : State :=
  match s.kar.sessions.look m with
  | some x => updUnit s fun u => { u with sessions := u.sessions.put m (f x) }
  | none => s

/-- The domain number under which the roster is replicated. -/
def rosterNo : Nat := 0xFFFF

/-- A replicated domain. -/
def repDomain (s : State) (d : Nat) : Option RepDomain := s.flash.karst.domains.look d

/-- Change a replicated domain. -/
def updRep (s : State) (d : Nat) (f : RepDomain → RepDomain) : State :=
  updKarst s fun k => { k with domains := k.domains.put d (f (k.domains.get {} d)) }

/-- What this device knows of a domain's primary. -/
def karDomain (s : State) (d : Nat) : KarDomain := s.kar.domains.get {} d
/-- Change it. -/
def updKarDomain (s : State) (d : Nat) (f : KarDomain → KarDomain) : State :=
  updUnit s fun u => { u with domains := u.domains.put d (f (u.domains.get {} d)) }

/-- The council: the roster's replica set (R464). -/
def council (s : State) : List Nat := ((repDomain s rosterNo).map (·.replicas)).getD []

/-- The roster's committed version. -/
def rosterVersion (s : State) : Nat := ((repDomain s rosterNo).map (·.version)).getD 0

/-- The roster entry of a member that is ACTIVE. -/
def liveMember (s : State) (m : Nat) : Option RosterEntry := (s.flash.karst.roster.look m).filter (·.live)

/-- More than half of a set. -/
def isMajority (l : List Nat) (k : Nat) : Bool := l.length < 2 * k

/-- READY: the roster is loaded, and sessions are up with a majority of the council, this member counted (R477). -/
def refreshKarst (s : State) : State :=
  let up := (council s).countP fun m => m == selfNo s || (s.kar.sessions.look m).isSome
  setReady s 11 (karActive s && isMajority (council s) up)

/-- End a change that has been made: its command is answered. -/
def passChange (s : State) (c : VaultChange) : State :=
  match c.reply, c.job, c.caller with
  | some r, some e, some k => endJob s k r e
  | some r, _, _ => answer s r { status := .ok, items := c.items, reasons := c.reasons }
  | none, _, _ => s

/-- The membership is gone (R467, R482): what waits for a replica set stays undecided, but for a leaver's own command. -/
def clearKarst (s : State) (state : Nat) : State :=
  let u : Karst := {}
  let waits := s.kar.waits.filter (·.origin.isNone)
  let left := s.kar.leaving
  let s := updKarst s fun k => if state = 0 then {} else { k with state := state, domains := [] }
  let s := { s with kar := { s.kar with
    sessions := u.sessions, offering := u.offering, waits := [], asks := [], domains := [], parts := [], inbound := []
    outUrgent := [], outNormal := [], leaving := false } }
  let s := refreshKarst s
  waits.foldl (fun s w => if left && w.domain == rosterNo then passChange s w.change else failOne s w.change .notReady) s

/-! ## Messages out (R469 to R471) -/

/-- The message uses the priority queue (R471). -/
def urgent : KarMsg → Bool
  | .revoke _ _ => true
  | .propose c _ => match c.body with
    | .revoke _ _ => true
    | _ => false
  | .commit c _ => match c.body with
    | .revoke _ _ => true
    | _ => false
  | .signed _ _ _ _ u => u
  | _ => false

/-- Queue a message to a member. -/
def sendKar (s : State) (dest : Nat) (m : KarMsg) : State :=
  let e : KarOut := { dest := dest, msg := m }
  updUnit s fun u => if urgent m then { u with outUrgent := u.outUrgent ++ [e] } else { u with outNormal := u.outNormal ++ [e] }

/-- Queue a message to several members. -/
def sendAll (s : State) (l : List Nat) (m : KarMsg) : State := l.foldl (fun s d => sendKar s d m) s

/-- COMMIT_MS in units of `Time`. -/
def commitTime (s : State) : Time := field s.kar.timing 31 16 * msT
/-- PRIMARY_TIMEOUT_MS in units of `Time`. -/
def primaryTime (s : State) : Time := field s.kar.timing 15 0 * msT

/-- Queue a message that is resent until it is answered or its time ends (R470). -/
def askKar (s : State) (dest d : Nat) (m : KarMsg) : State :=
  let a : KarAsk := { dest := dest, domain := d, msg := m, sentAt := s.now, ends := s.now + commitTime s }
  updUnit (sendKar s dest m) fun u => { u with asks := u.asks ++ [a] }

/-- What a member was asked about a domain has been answered. -/
def answered (s : State) (dest d : Nat) (p : KarMsg → Bool) : State :=
  updUnit s fun u => { u with asks := u.asks.filter fun a => !(a.dest == dest && a.domain == d && p a.msg) }

/-- A message is the proposal of a version. -/
def isProposal (v : Nat) : KarMsg → Bool
  | .propose c _ => c.version == v
  | _ => false

/-! ## Change records and member signatures (R463, R473) -/

/-- KIND of a change. -/
def kindOf : ChangeBody → Nat
  | .command _ _ _ => 1
  | .replicaSet _ _ => 2
  | .roster _ => 3
  | .revoke _ _ => 4

/-- The body of a change record, of which R473 gives the content (assumption 139): members as 2 bytes, handles as 4. -/
def changeBody : ChangeBody → Bytes
  | .command code cmd ops =>
    leBytes 2 code ++ zeros 2 ++ (cmd.map fun c => c.body.bytes).getD [] ++ Config.changeTail ((cmd.map (·.records)).getD []) ops
  | .replicaSet members content =>
    members.flatMap (leBytes 2) ++ (content.map fun x => Config.replicaContent x.1 x.2).getD []
  | .roster entries => Config.rosterBody entries
  | .revoke handles members => handles.flatMap (leBytes 4) ++ members.flatMap (leBytes 2)

/-- The 160-byte header of a change record. -/
def changeHeader (c : Change) : Bytes :=
  let b := changeBody c.body
  leBytes 4 0x474E4843 ++ leBytes 2 1 ++ leBytes 1 (kindOf c.body) ++ [0] ++ c.karstId ++ leBytes 2 c.domain
    ++ leBytes 2 c.proposer ++ zeros 4 ++ leBytes 8 c.version ++ leBytes 8 c.term ++ c.prev ++ Config.sha384 b
    ++ leBytes 4 b.length ++ zeros 12

/-- The digest of a record's header. -/
def changeDigest (c : Change) : Bytes := Config.sha384 (changeHeader c)

/-- A member signature of this device over a message, by domain-0 keys 254 and 255. -/
def memberSign (s : State) (msg : Bytes) : SigEntry × State :=
  let (n, s) := drawFree s
  let key (k : Nat) : Bytes := (dieValue s k).getD []
  ({ member := selfNo s, sig := Config.sign 0 (key 254) msg n ++ Config.sign 1 (key 255) msg n }, s)

/-- A signature entry verifies against its member's roster entry. -/
def sigOk (s : State) (c : Change) (e : SigEntry) : Bool :=
  match s.flash.karst.roster.look e.member with
  | some r => Config.memberVerify r.keyDigest (changeHeader c) e.sig
  | none => false

/-- The highest signed version of a domain, and the digest of that record's header (R474). -/
def signedHead (r : RepDomain) : Nat × Bytes :=
  match r.signed.getLast? with
  | some e => (e.1.version, changeDigest e.1)
  | none => (r.version, r.head)

/-- The (term, version) of the highest signed record (R476). -/
def signedRank (r : RepDomain) : Nat × Nat :=
  match r.signed.getLast? with
  | some e => (e.1.term, e.1.version)
  | none => match r.log.getLast? with
    | some e => (e.1.term, e.1.version)
    | none => (0, r.version)

/-- Members that a KIND 2 change adds to a replica set. -/
def added (r : RepDomain) : ChangeBody → List Nat
  | .replicaSet l _ => l.filter fun m => !r.replicas.contains m
  | _ => []

/-! ## Revocations (R479, R480) -/

/-- A revocation of keys takes effect as soon as it is signed. -/
def withdraw (s : State) : ChangeBody → State
  | .revoke l _ =>
    let s := updKarst s fun k => { k with withdrawn := k.withdrawn ++ l.filter fun h => !k.withdrawn.contains h }
    l.foldl (fun s h => enterAbsent (eraseSlot s h) h) s
  | _ => s

/-- A revocation signed here was replaced, or has committed: its keys are withdrawn no more. -/
def unwithdraw (s : State) : ChangeBody → State
  | .revoke l _ =>
    { updKarst s (fun k => { k with withdrawn := k.withdrawn.filter fun h => !l.contains h }) with
      kst := { s.kst with absent := s.kst.absent.filter fun h => !l.contains h } }
  | _ => s

/-- The council is every ACTIVE member while there are fewer than 3, else the three with the lowest numbers (assumption 60). -/
def refreshCouncil (s : State) : State :=
  let live := (s.flash.karst.roster.filter fun e => e.2.live).map (·.1)
  if (repDomain s rosterNo).isSome then updRep s rosterNo fun r => { r with replicas := live.take 3 } else s

/-- Close the session with a member. -/
def closeSession (s : State) (m : Nat) : State :=
  refreshKarst (updUnit s fun u => { u with
    sessions := u.sessions.del m, offering := u.offering.del m, parts := u.parts.filter (·.sender != m) })

/-- Members revoked by a roster change: their entries stay as REVOKED, their sessions close, and every replica set loses them
(R467, R478, R479). -/
def revokeMembers (s : State) (l : List Nat) : State :=
  let s := updKarst s fun k => { k with
    roster := k.roster.map fun e => (e.1, if l.contains e.1 then { e.2 with live := false } else e.2)
    domains := k.domains.map fun e => (e.1, { e.2 with replicas := e.2.replicas.filter fun m => !l.contains m }) }
  let s := l.foldl closeSession (refreshCouncil s)
  if l.contains (selfNo s) then clearKarst s (if s.kar.leaving then 0 else 3) else s

/-- Enter roster entries (R464). -/
def enterRoster (s : State) (l : List RosterEntry) : State :=
  refreshCouncil (updKarst s fun k => { k with
    roster := l.foldl (fun t e => t.put e.member e) k.roster
    nextMember := l.foldl (fun n e => max n (e.member + 1)) k.nextMember })

/-- Numbers of the domains that this member holds as a replica. -/
def replicatedHere (s : State) : List Nat := (s.flash.karst.domains.map (·.1)).filter (· != rosterNo)

/-! ## Commit (R475) -/

/-- The changes of the vault that a committed record makes here; one that becomes a replica takes the domain's record and keys. -/
def bodyOps (r : RepDomain) (self d : Nat) : ChangeBody → List VaultOp
  | .command _ _ ops => ops
  | .replicaSet l (some (x, keys)) =>
    if l.contains self && !r.replicas.contains self then .editDomain d (.create x) :: keys.map fun e => .putKey e.1 e.2 else []
  | .replicaSet _ none => []
  | .roster _ => []
  | .revoke l _ => l.map .eraseKey

/-- What a committed record does beside its changes of the vault. -/
def applyKind (s : State) (c : Change) (sigs : List SigEntry) : State :=
  match c.body with
  | .command _ _ _ => s
  | .replicaSet l _ =>
    if l.contains (selfNo s) then updRep s c.domain fun r => { r with replicas := l }
    else updKarst s fun k => { k with domains := k.domains.del c.domain }
  | .roster l =>
    let s := enterRoster s l
    let all := s.flash.karst.roster.map (·.2)
    if c.proposer = selfNo s then sendAll s (l.map (·.member)) (.roster (rosterVersion s) all (replicatedHere s)) else s
  | .revoke _ members =>
    let s := unwithdraw s c.body
    let s := updUnit s fun u => { u with revokes := sat32 u.revokes }
    if members.isEmpty then s else revokeMembers (sendAll s (s.kar.sessions.map (·.1)) (.revoke c sigs)) members

/-- Apply a committed record in version order: the domain moves to its version, what was signed for it goes, and its changes go into
the next commit of the vault, with the answer that waits for them. -/
def applyCommit (s : State) (c : Change) (sigs : List SigEntry) (w : Option KarWait) : State :=
  let r := (repDomain s c.domain).getD {}
  let stale := r.signed.filter fun e => e.1.version ≤ c.version
  let s := stale.foldl (fun s e => if e.1.body = c.body then s else unwithdraw s e.1.body) s
  let s := updRep s c.domain fun r => { r with
    version := c.version, head := changeDigest c, log := r.log ++ [(c, sigs)]
    signed := r.signed.filter fun e => c.version < e.1.version }
  let s := updUnit s fun u => { u with commits := sat64 u.commits }
  let ops := bodyOps r (selfNo s) c.domain c.body
  let change : VaultChange := match w with
    | some x => if x.origin.isSome then { ops := ops, reply := none } else { x.change with ops := ops }
    | none => { ops := ops, reply := none }
  let s := if change.ops.isEmpty && change.reply.isNone then s else gather s { change with decided := true }
  refreshKarst (applyKind s c sigs)

/-- The primary commits its first signed record once more than half of the replica set has signed, and every replica that it adds
(R475, R484); `fuel` bounds how many follow. -/
def commitSigned (d : Nat) : Nat → State → State
  | 0, s => s
  | n + 1, s =>
    match repDomain s d with
    | none => s
    | some r =>
      match r.signed with
      | [] => s
      | (c, sigs) :: _ =>
        let signers := sigs.map (·.member)
        let votes := r.replicas.countP signers.contains
        if r.primary ≠ selfNo s || c.term ≠ r.term || !isMajority r.replicas votes || !(added r c.body).all signers.contains then s
        else
          let w := s.kar.waits.find? fun w => w.domain == d && w.version == c.version
          let s := updUnit s fun u => { u with waits := u.waits.filter fun w => !(w.domain == d && w.version == c.version) }
          let others := (r.replicas ++ added r c.body).filter (· != selfNo s)
          let s := match w.bind (·.origin) with
            | some (m, id) => sendKar s m (.forward id d none (some .ok))
            | none => s
          commitSigned d n (applyCommit (sendAll s others (.commit c sigs)) c sigs w)

/-- Commit whatever can commit. -/
def tryCommit (s : State) (d : Nat) : State := commitSigned d (((repDomain s d).map (·.signed.length)).getD 0 + 1) s

/-! ## Proposals (R474, R476) -/

/-- Sign a record, keep it as signed, and send it to the other replicas (R474, R475). -/
def proposeRecord (s : State) (c : Change) : State :=
  let d := c.domain
  let r := (repDomain s d).getD {}
  let (sig, s) := memberSign s (changeHeader c)
  let s := withdraw (updRep s d fun r => { r with signed := r.signed ++ [(c, [sig])] }) c.body
  let others := (r.replicas ++ added r c.body).filter (· != selfNo s)
  others.foldl (fun s m => askKar s m d (.propose c sig)) s

/-- Propose a change of a domain whose primary this member is, with what waits for it. -/
def propose (s : State) (d : Nat) (body : ChangeBody) (change : VaultChange) (origin : Option (Nat × Nat)) : State :=
  let r := (repDomain s d).getD {}
  let (v, prev) := signedHead r
  let c : Change := { karstId := s.flash.karst.id, domain := d, proposer := selfNo s, version := v + 1, term := r.term, prev := prev,
                      body := body }
  let w : KarWait := { domain := d, version := v + 1, deadline := s.now + commitTime s, change := change, origin := origin }
  tryCommit (proposeRecord (updUnit s fun u => { u with waits := u.waits ++ [w] }) c) d

/-- Carry a change to the primary in a FORWARD message (R472). -/
def forwardChange (s : State) (d primary : Nat) (body : ChangeBody) (change : VaultChange) : State :=
  let id := s.kar.nextForward
  let w : KarWait := { domain := d, version := 0, forwarded := id, deadline := s.now + commitTime s, change := change }
  let s := updUnit s fun u => { u with waits := u.waits ++ [w], nextForward := id + 1 }
  sendKar s primary (.forward id d (some body) none)

/-- Propose a change, or carry it to the primary. -/
def submitChange (s : State) (d : Nat) (body : ChangeBody) (change : VaultChange) : State :=
  match repDomain s d with
  | none => s
  | some r => if r.primary = selfNo s then propose s d body change none else forwardChange s d r.primary body change

/-- Fewer than 3 of the replicas are ACTIVE members (R478). -/
def underReplicated (s : State) (d : Nat) : Bool :=
  d != rosterNo && decide ((((repDomain s d).map (·.replicas)).getD []).countP (fun m => (liveMember s m).isSome) < 3)

/-! ## Changes of replicated domains (R472, R478) -/

/-- The domain that a change of the vault concerns. -/
def changeDomain (c : VaultChange) : Option Nat :=
  c.ops.findSome? fun o => match o with
    | .putKey h _ => some (handleDomain h)
    | .eraseKey h => some (handleDomain h)
    | .setAttr h _ => some (handleDomain h)
    | .editDomain d _ => some d
    | _ => none

/-- The body of a change: destroying keys is a revocation (R479), all else a command. -/
def bodyOf (s : State) (c : VaultChange) : ChangeBody :=
  let handles := c.ops.filterMap fun o => match o with
    | .eraseKey h => some h
    | _ => none
  if handles.length = c.ops.length then .revoke handles []
  else .command ((c.reply.map (codeOfReply s)).getD 0) c.cmd c.ops

/-- A gathered change belongs to a replicated domain and has not been decided there. -/
def replicatedIn (s : State) (c : VaultChange) : Option Nat :=
  if c.decided || karState s ≠ 2 then none else (changeDomain c).filter fun d => (repDomain s d).isSome

/-- Take the gathered changes of replicated domains to their replica sets. -/
def submitGathered (s : State) : State :=
  let l := s.geo.gathered
  let s := { s with geo := { s.geo with gathered := l.filter fun c => (replicatedIn s c).isNone } }
  l.foldl (fun s c =>
    match replicatedIn s c with
    | none => s
    | some d => if underReplicated s d then failOne s c .busyLocked else submitChange s d (bodyOf s c) c) s

/-- GEO_COMMIT: a commit starts of the changes gathered, while none runs and the secure world is up.  An epoch of 2^64 − 1 is
never passed (R291); in READ_ONLY a commit draws on the reserve (R298).  Changes of replicated domains go to their replica sets first
(R472). -/
def execGeoCommit (t : Time) (s : State) : Outcome :=
  let s := submitGathered (advance s t)
  if !s.geo.committing.isEmpty || s.geo.gathered.isEmpty || !secureUp s || stopped s 1 then .next s
  else
    let (l, rest) := fitStripe 0 s.geo.gathered
    if !(s.geo.state == .normal || s.geo.state == .readOnly) then .next s
    else if 2 ^ 64 - 1 ≤ (anchorNow s.bb).epoch then
      (if s.geo.state = .normal then
        .next (enterReadOnly { s with geo := { s.geo with gathered := s.geo.gathered } })
      else
        .next (failChanges { s with geo := { s.geo with gathered := [] } } s.geo.gathered .vaultReadOnly))
    else if s.geo.state = .readOnly then
      match takeReserve s.flash with
      | some f => .next (startCommit { s with flash := f } l rest)
      | none => .next (failChanges { s with geo := { s.geo with gathered := [] } } s.geo.gathered .vaultReadOnly)
    else .next (startCommit s l rest)

end Sys2Proof.Machine
end

