-- ==== Sys2Proof/Machine/KarstUnit.lean ====
section
/-!
DEFINITION. The Karst unit: the layout of messages, sessions and their handshakes, and the three commands of the network path
(R468 to R471).
-/

namespace Sys2Proof.Machine

/-! ## Messages (R469) -/

/-- TYPE of a message. -/
def karType : KarMsg → Nat
  | .offer _ => 0x01
  | .accept _ => 0x02
  | .heartbeat _ _ _ => 0x10
  | .propose _ _ => 0x20
  | .signed _ _ _ _ _ => 0x21
  | .commit _ _ => 0x22
  | .decline _ _ _ _ => 0x23
  | .forward _ _ _ _ => 0x24
  | .voteRequest _ _ _ _ => 0x30
  | .vote _ _ => 0x31
  | .catchupRequest _ _ => 0x40
  | .catchup _ _ => 0x41
  | .revoke _ _ => 0x50
  | .rosterPoll _ => 0x51
  | .roster _ _ _ => 0x52

/-- A message that opens a session, and carries no CMAC. -/
def isHandshake (type : Nat) : Bool := type == 0x01 || type == 0x02

/-- The bytes of a message before its CMAC. -/
def karBytes (type session seq src dst part : Nat) (last : Bool) (body : Bytes) : Bytes :=
  beBytes 2 0x4B41 ++ [1] ++ beBytes 1 type ++ beBytes 4 session ++ beBytes 8 seq ++ beBytes 2 src ++ beBytes 2 dst
    ++ beBytes 2 (part + bitAt last 15) ++ beBytes 2 body.length ++ body

/-- The half of the session keys for messages from one member to another: the first for those from the lower number to the higher. -/
def halfKey (keys : Bytes) (src dst : Nat) : Bytes := if src < dst then keys.take 32 else keys.drop 32

/-- The greatest body of one part (R470). -/
def partBytes : Nat := 8192

/-! ## Sessions (R468) -/

/-- The bytes that the signatures of an OFFER cover. -/
def offerFields (h : KarHello) : Bytes := Config.karBody (.offer { h with sig := [] })

/-- The bytes that the signatures of an ACCEPT cover: the offer's digest and its own fields. -/
def acceptFields (offer : Bytes) (h : KarHello) : Bytes := offer ++ Config.karBody (.accept { h with sig := [] })

/-- SHA-384 of an OFFER. -/
def offerDigest (h : KarHello) : Bytes := Config.sha384 (Config.karBody (.offer h))

/-- Draw for a handshake from DRBG instance 3, as far as it serves. -/
def drawHello (s : State) : Option (Bytes × State) :=
  match draw s 3 false 128 with
  | (s, .ok b) => some (b, s)
  | (_, .error _) => none

/-- This member's fields of a handshake message. -/
def ownHello (s : State) (nonce kem x : Bytes) : KarHello :=
  { member := selfNo s, serial := s.id.serial, karstId := s.flash.karst.id, rosterVersion := rosterVersion s, nonce := nonce, kem := kem,
    xKey := x, sig := [] }

/-- The message is an OFFER. -/
def isOffer : KarMsg → Bool
  | .offer _ => true
  | _ => false

/-- Offer a session to a member, unless an offer made within the last second stands (assumption 62) or nothing can be drawn. -/
def offerTo (s : State) (m : Nat) : State :=
  if (s.kar.offering.look m).any fun o => decide (s.now < o.madeAt + secT) then s
  else match drawHello s with
    | none => s
    | some (b, s) =>
      let kem := slice b 32 64
      let x := slice b 96 32
      let h := ownHello s (b.take 32) (Config.kemPublic kem) (xPublic 0x12 x)
      let (sig, s) := signBlock s (offerFields h)
      let o : KarOffering := { madeAt := s.now, hello := { h with sig := sig }, kemSecret := kem, xSecret := x }
      let s := updUnit s fun u => { u with
        offering := u.offering.put m o, outNormal := u.outNormal.filter fun e => !(e.dest == m && isOffer e.msg) }
      sendKar s m (.offer o.hello)

/-- The keys of a session, formed as the transport key of R256 is. -/
def karKeys (kem x : Bytes) (offer accept : KarHello) : Bytes :=
  kdf 2 (kem ++ x) (asciiBytes "SNX4144 KARST") (Config.sha384 (Config.karBody (.offer offer) ++ Config.karBody (.accept accept))) 64

/-- Open a session with a member, or renew it: the old keys stand for 10 s more. -/
def openKarst (s : State) (m id : Nat) (keys : Bytes) : State :=
  let old := (s.kar.sessions.look m).map fun x => ({ id := x.id, keys := x.keys, rxSeq := x.rxSeq, ends := s.now + 10 * secT } : KarOldKeys)
  let x : KarSession := { id := id, keys := keys, openedAt := s.now, old := old }
  refreshKarst (updUnit s fun u => { u with sessions := u.sessions.put m x, offering := u.offering.del m })

/-- A handshake fails: the exchange is discarded and counted. -/
def authFail (s : State) : State := updUnit s fun u => { u with authFail := sat64 u.authFail }

/-- The session table has room for a session with a member: it holds 256. -/
def sessionRoom (s : State) (m : Nat) : Bool := (s.kar.sessions.look m).isSome || decide (s.kar.sessions.length < 256)

/-- The peer of a handshake is who it says: same Karst, an ACTIVE member with that serial, and signatures that verify.  A joiner, which
has no roster yet, takes the first for granted (DEDUCED, assumption 61). -/
def helloOk (s : State) (h : KarHello) (digest : Bytes) : Bool :=
  let known := match liveMember s h.member with
    | some e => e.serial == h.serial
    | none => karState s == 1
  h.karstId == s.flash.karst.id && known && Config.helloValid h digest

/-- SESSION_RENEWAL: after 24 h or 2^32 messages in either direction a new handshake begins. -/
def execSessionRenewal (peer : Nat) (t : Time) (s : State) : Outcome :=
  let s := advance s t
  match s.kar.sessions.look peer with
  | none => .next s
  | some x =>
    if secureUp s && karState s != 0 && (decide (x.openedAt + 86400 * secT ≤ s.now) || decide (2 ^ 32 ≤ max x.txSeq x.rxSeq)) then .next (offerTo s peer)
    else .next s

/-- OLD_KEY_EXPIRY: the old keys of a renewed session are zeroed after 10 s. -/
def execOldKeyExpiry (peer : Nat) (t : Time) (s : State) : Outcome :=
  let s := advance s t
  .next (updSession s peer fun x => { x with old := x.old.filter fun o => decide (s.now < o.ends) })

/-! ## KAR_OUT_TAKE -/

/-- The message can go out: it opens a session, or its session is open. -/
def sendable (s : State) (e : KarOut) : Bool := isHandshake (karType e.msg) || (s.kar.sessions.look e.dest).isSome

/-- The messages in the unit's two outbound queues, the priority queue first: the secure world holds back what is beyond the 1,024 of
each (R471). -/
def outQueues (s : State) : List KarOut := s.kar.outUrgent.take 1024 ++ s.kar.outNormal.take 1024

/-- Offer sessions for the messages that wait for one. -/
def offerForWaiting (s : State) : State :=
  let waiting := ((outQueues s).filter fun e => !sendable s e).map (·.dest)
  waiting.eraseDups.foldl offerTo s

/-- The message goes: its next part, with its number, and whether that is the last. -/
def nextPart (e : KarOut) : Nat × Bool × Bytes :=
  let b := Config.karBody e.msg
  (e.sent / partBytes, decide (b.length ≤ e.sent + partBytes), slice b e.sent partBytes)

/-- A queue after the next part of a message has been taken from it. -/
def afterPart (l : List KarOut) (e : KarOut) (last : Bool) : List KarOut :=
  if last then l.erase e else l.map fun x => if x = e then { x with sent := x.sent + partBytes } else x

/-- The bytes of a message's next part with its CMAC, and the session after it. -/
def sealPart (s : State) (e : KarOut) : Bytes × State :=
  let type := karType e.msg
  let (part, last, body) := nextPart e
  match isHandshake type, s.kar.sessions.look e.dest with
  | false, some x =>
    let b := karBytes type x.id (x.txSeq + 1) (selfNo s) e.dest part last body
    (b ++ Config.cmac (halfKey x.keys (selfNo s) e.dest) b, updSession s e.dest fun x => { x with txSeq := x.txSeq + 1 })
  | _, _ => (karBytes type e.session 0 (selfNo s) e.dest part last body, s)

/-- Take a message from the queues: its bytes are kept under a send handle. -/
def takeOut (s : State) (c : Cmd) (e : KarOut) : State :=
  let (b, s) := sealPart s e
  let last := (nextPart e).2.1
  let h := s.kar.nextHandle
  let s := updUnit s fun u => { u with
    outUrgent := afterPart u.outUrgent e last, outNormal := afterPart u.outNormal e last
    taken := u.taken.put h b, nextHandle := (h + 1) % 2 ^ 32 }
  answerOk s c [] [.item 0x0F (leBytes 2 e.dest), .item 0x34 (leBytes 4 h), .blob b]

/-- KAR_OUT_TAKE: the priority queue is emptied before the normal one; OK with nothing when both have nothing to send. -/
def execKarOutTake (c : Cmd) (s : State) : Outcome :=
  .next (command s c 0x0B40 fun s =>
    let s := offerForWaiting s
    match (outQueues s).find? (sendable s) with
    | none => answerOk s c [] []
    | some e => takeOut s c e)

/-! ## KAR_IN_GIVE (R470) -/

/-- A payload is complete: it waits for the secure world. -/
def payloadIn (s : State) (sender dest type session : Nat) (b : Bytes) : State :=
  let urgent := type == 0x50 || Config.karRevokes type b
  let e : KarIn := { sender := sender, dest := dest, type := type, session := session, urgent := urgent, payload := b }
  updUnit s fun u => { u with inbound := u.inbound ++ [e] }

/-- Take one part of a payload: parts come in order from 0, at most 64, and a gap discards the payload. -/
def partIn (s : State) (sender dest type session part : Nat) (last : Bool) (b : Bytes) : State :=
  let mine (x : KarParts) : Bool := x.sender == sender && x.type == type
  let before := s.kar.parts.find? mine
  let s := updUnit s fun u => { u with parts := u.parts.filter fun x => !mine x }
  let start := if part = 0 then some [] else (before.filter (·.next == part)).map (·.bytes)
  match start with
  | none => s
  | some got =>
    if last then payloadIn s sender dest type session (got ++ b)
    else if 63 ≤ part then s
    else updUnit s fun u => { u with parts := u.parts ++ [{ sender := sender, type := type, next := part + 1, bytes := got ++ b }] }

/-- The key and the last sequence under which a session accepts a message, if it is open: a renewed session's old keys serve until they
end. -/
def sessionKeys (s : State) (src id : Nat) : Option (Bytes × Nat) :=
  (s.kar.sessions.look src).bind fun x =>
    if x.id = id then some (x.keys, x.rxSeq)
    else (x.old.filter fun o => o.id == id && decide (s.now < o.ends)).map fun o => (o.keys, o.rxSeq)

/-- A session has accepted a sequence number. -/
def acceptSeq (s : State) (src id seq : Nat) : State :=
  let s := updSession s src fun x =>
    if x.id = id then { x with rxSeq := seq } else { x with old := x.old.map fun o => { o with rxSeq := seq } }
  updUnit s fun u => { u with msgRx := sat64 u.msgRx }

/-- KAR_IN_GIVE: one message is checked and queued for the secure world; discards are counted. -/
def execKarInGive (c : Cmd) (s : State) : Outcome :=
  .next (command s c 0x0B41 fun s =>
    let b := c.body.bytes
    let type := beNat (slice b 3 1)
    let id := beNat (slice b 4 4)
    let seq := beNat (slice b 8 8)
    let src := beNat (slice b 16 2)
    let dst := beNat (slice b 18 2)
    let part := beNat (slice b 20 2)
    let n := beNat (slice b 22 2)
    let size := 24 + n + (if isHandshake type then 0 else 16)
    let take (s : State) : State :=
      answerOk (partIn s src dst type id (part % 2 ^ 15) (decide (2 ^ 15 ≤ part)) (slice b 24 n)) c [] []
    if b.length ≠ size || partBytes < n then answerStatus s c.reply .invalidLength
    else if be16 b 0 ≠ 0x4B41 || beNat (slice b 2 1) ≠ 1 then answerStatus s c.reply .invalidParameter
    else if isHandshake type then take s
    else match sessionKeys s src id with
      | none => answerStatus (authFail s) c.reply .notPermitted
      | some (keys, rx) =>
        let forged := Config.cmac (halfKey keys src (selfNo s)) (b.take (24 + n)) ≠ b.drop (24 + n)
        refuseOr (if forged || seq ≤ rx then authFail s else s) c.reply
          (leastOf [(forged, .tagMismatch), (seq ≤ rx, .invalidParameter)]) (take (acceptSeq s src id seq)))

/-! ## KAR_FRAME_SEND (R471) -/

/-- The ones' complement sum of 16-bit words. -/
def onesSum (b : Bytes) : Nat :=
  let rec words : Bytes → Nat
    | [] => 0
    | [x] => x.toNat * 256
    | x :: y :: t => x.toNat * 256 + y.toNat + words t
  let n := words b
  let n := n / 65536 + n % 65536
  let n := n / 65536 + n % 65536
  n / 65536 + n % 65536

/-- The Internet checksum of a byte string. -/
def checksum (b : Bytes) : Nat := 65535 - onesSum b

/-- Replace bytes from an offset on. -/
def putBytes (b : Bytes) (off : Nat) (v : Bytes) : Bytes := b.take off ++ v ++ b.drop (off + v.length)

/-- The IP header of a header string: its version and offset, and where its UDP header begins. -/
def udpPlace (h : Bytes) : Option (Nat × Nat × Nat) :=
  let ip := v1Of h
  let ty := be16 h (ip - 2)
  let ihl := beNat (slice h ip 1) % 16 * 4
  if ty = 0x0800 && beNat (slice h (ip + 9) 1) = 17 && h.length = ip + ihl + 8 then some (4, ip, ip + ihl)
  else if ty = 0x86DD && beNat (slice h (ip + 6) 1) = 17 && h.length = ip + 48 then some (6, ip, ip + 40)
  else none

/-- The frame of a message behind its headers, with IP and UDP lengths and checksums filled in, but for its FCS. -/
def karFrame (h msg : Bytes) (v ip udp : Nat) : Bytes :=
  let n := 8 + msg.length
  let h := putBytes h (udp + 4) (beBytes 2 n ++ [0, 0])
  let h := if v = 4 then
      let h := putBytes (putBytes h (ip + 2) (beBytes 2 (udp - ip + n))) (ip + 10) [0, 0]
      putBytes h (ip + 10) (beBytes 2 (checksum (slice h ip (udp - ip))))
    else putBytes h (ip + 4) (beBytes 2 n)
  let addresses := if v = 4 then slice h (ip + 12) 8 else slice h (ip + 8) 32
  let ck := checksum (addresses ++ beBytes 2 17 ++ beBytes 2 n ++ slice h udp 8 ++ msg)
  putBytes h (udp + 6) (beBytes 2 (if ck = 0 then 65535 else ck)) ++ msg

/-- The ports of KAR_PORTS. -/
def karPort (s : State) (p : Nat) : Bool :=
  p != 0xFF && ((List.range 4).map fun k => field s.kar.ports (8 * k + 7) (8 * k)).contains p

/-- KAR_FRAME_SEND: the message of a handle goes out behind the given headers as a device-originated frame, once. -/
def execKarFrameSend (c : Cmd) (s : State) : Outcome :=
  .next (command s c 0x0B42 fun s =>
    let p := c.nat 7
    let h := c.bytes 0x35
    let msg := (s.kar.taken.look (c.nat 0x34)).getD []
    let mode := (wire s (wireOf p)).active.modeOf
    let place := udpPlace h
    let toPort := match place with
      | some (_, _, udp) => be16 h (udp + 2) == field s.kar.cfg 15 0
      | none => false
    match leastOf [
        ((s.kar.taken.look (c.nat 0x34)).isNone, .invalidParameter),
        (!karPort s p || isChamber s p || 2 ≤ mode || !toPort, .notPermitted),
        (decide ((port s p).maxFrame < h.length + msg.length + 4), .invalidLength)], place with
    | some st, _ => answerStatus s c.reply st
    | none, none => answerStatus s c.reply .notPermitted
    | none, some (v, ip, udp) =>
      let f := karFrame h msg v ip udp
      let s := updUnit s fun u => { u with taken := u.taken.del (c.nat 0x34) }
      answerOk (egressJoin s p (f ++ leBytes 4 (crc32 f).toNat) true) c [] [])

end Sys2Proof.Machine
end

