-- ==== Sys2Proof/Machine/KarstMsgs.lean ====
section
/-!
DEFINITION. What a member does with each Karst message, and the timers of primaries and candidates (R468, R470 to R480).
-/

namespace Sys2Proof.Machine

/-! ## Receiving -/

/-- The secure world takes a message from the unit's inbound queue and acts on it: one whose revocation has priority comes before every
other (R471).  A device that takes no part (R464) drops it. -/
def receive (s : State) (t : Time) (sender : Nat) (m : KarMsg) (k : State → KarIn → State) : State :=
  let s := advance s t
  let front := if s.kar.inbound.any (·.urgent) then s.kar.inbound.filter (·.urgent) else s.kar.inbound
  match front.find? fun e => e.sender == sender && e.type == karType m && e.payload == Config.karBody m with
  | none => s
  | some e =>
    if !secureUp s then s
    else
      let s := updUnit s fun u => { u with inbound := u.inbound.erase e }
      if (karState s == 1 || karState s == 2) && vaultServes s && s.kst.domainsLoaded then refreshKarst (k s e) else s

/-! ## Handshakes (R468) -/

/-- The fields of an ACCEPT and the keys it opens, from an OFFER and what was drawn; none where the X25519 result is all zeros. -/
def acceptOf (s : State) (o : KarHello) (b : Bytes) : Option (KarHello × Bytes × State) :=
  let (ct, kem) := Config.kemEncaps o.kem (slice b 32 32)
  let xs := slice b 64 32
  let x := x25519 xs o.xKey
  if allZero x then none
  else
    let h := ownHello s (b.take 32) ct (xPublic 0x12 xs)
    let (sig, s) := signBlock s (acceptFields (offerDigest o) h)
    let a := { h with sig := sig }
    some (a, karKeys kem x o a, s)

/-- OFFER: the acceptor checks it, answers and holds the session.  Of two offers that cross, the lower member's is kept. -/
def execKarOffer (sender : Nat) (hello : KarHello) (t : Time) (s : State) : Outcome :=
  .next (receive s t sender (.offer hello) fun s e =>
    if hello.member ≠ sender || !helloOk s hello [] then authFail s
    else
      let s := if karState s = 1 then updKarst s fun k => { k with member := e.dest } else s
      if (s.kar.offering.look sender).isSome && selfNo s < sender then s
      else if !sessionRoom s sender then s
      else match drawHello s with
        | none => s
        | some (b, s) =>
          match acceptOf s hello b with
          | none => authFail s
          | some (a, keys, s) =>
            let id := s.kar.nextSession
            let out : KarOut := { dest := sender, msg := .accept a, session := id }
            let s := updUnit s fun u => { u with nextSession := id % (2 ^ 32 - 1) + 1, outNormal := u.outNormal ++ [out] }
            openKarst s sender id keys)

/-- ACCEPT: the initiator checks it and holds the session. -/
def execKarAccept (sender : Nat) (hello : KarHello) (t : Time) (s : State) : Outcome :=
  .next (receive s t sender (.accept hello) fun s e =>
    match s.kar.offering.look sender with
    | none => authFail s
    | some o =>
      let x := x25519 o.xSecret hello.xKey
      if hello.member ≠ sender || !helloOk s hello (offerDigest o.hello) || allZero x then
        authFail (updUnit s fun u => { u with offering := u.offering.del sender })
      else if !sessionRoom s sender then s
      else openKarst s sender e.session (karKeys (Config.kemDecaps o.kemSecret hello.kem) x o.hello hello))

/-! ## Terms and primaries (R472, R476, R477) -/

/-- A replica of a domain. -/
def isReplica (s : State) (d m : Nat) : Bool := (((repDomain s d).map (·.replicas)).getD []).contains m

/-- Move a domain to a term and its primary. -/
def toTerm (s : State) (d term primary : Nat) : State :=
  updKarDomain (updRep s d fun r => { r with term := term, primary := primary }) d fun k => { k with candidate := 0, votes := [] }

/-- Ask for the committed records after the version held here, unless that has been asked. -/
def catchUp (s : State) (d dest : Nat) : State :=
  let m : KarMsg := .catchupRequest d (((repDomain s d).map (·.version)).getD 0)
  if s.kar.asks.any fun a => a.dest == dest && a.domain == d && a.msg == m then s else askKar s dest d m

/-- The primary has been heard. -/
def heardPrimary (s : State) (d : Nat) : State := updKarDomain s d fun k => { k with lastHeard := s.now }

/-- A replica that names a higher term than this one holds is its primary (DEDUCED, assumption 63). -/
def followTerm (s : State) (d term sender : Nat) : State :=
  match repDomain s d with
  | none => s
  | some r => if r.term < term && isReplica s d sender then toTerm s d term sender else s

/-- HEARTBEAT: the primary of the term is heard; a replica that is behind catches up. -/
def execKarHeartbeat (sender domain term version : Nat) (t : Time) (s : State) : Outcome :=
  .next (receive s t sender (.heartbeat domain term version) fun s _ =>
    let s := followTerm s domain term sender
    match repDomain s domain with
    | none => s
    | some r =>
      if r.term ≠ term || r.primary ≠ sender then s
      else
        let s := heardPrimary s domain
        if r.version < version then catchUp s domain sender else s)

/-- The other replicas of a domain. -/
def otherReplicas (s : State) (d : Nat) : List Nat := (((repDomain s d).map (·.replicas)).getD []).filter (· != selfNo s)

/-- Heartbeat every replica of a domain. -/
def heartbeatAll (s : State) (d : Nat) : State :=
  match repDomain s d with
  | none => s
  | some r =>
    updKarDomain (sendAll s (otherReplicas s d) (.heartbeat d r.term r.version)) d fun k => { k with lastSend := s.now }

/-- PRIMARY_HEARTBEAT_SEND: the primary heartbeats every PRIMARY_TIMEOUT_MS / 4. -/
def execPrimaryHeartbeatSend (domain : Nat) (t : Time) (s : State) : Outcome :=
  let s := refreshKarst (advance s t)
  match repDomain s domain with
  | none => .next s
  | some r =>
    if secureUp s && karActive s && r.primary == selfNo s && decide ((karDomain s domain).lastSend + primaryTime s / 4 ≤ s.now) then
      .next (heartbeatAll s domain)
    else .next s

/-- Propose a signed record again under this member's term (R476). -/
def reproposeRecord (s : State) (c : Change) : State :=
  match repDomain s c.domain with
  | none => s
  | some r =>
    let (v, prev) := signedHead r
    proposeRecord s { c with proposer := selfNo s, term := r.term, version := v + 1, prev := prev }

/-- A candidate with a majority becomes primary, and proposes again what it holds signed and uncommitted. -/
def becomePrimary (s : State) (d term : Nat) : State :=
  match repDomain s d with
  | none => s
  | some r =>
    let s := toTerm (updRep s d fun r => { r with signed := [] }) d term (selfNo s)
    tryCommit (heartbeatAll (r.signed.foldl (fun s e => reproposeRecord s e.1) s) d) d

/-- Count the votes of a candidacy. -/
def countVotes (s : State) (d : Nat) : State :=
  let k := karDomain s d
  match repDomain s d with
  | none => s
  | some r =>
    if k.candidate ≠ 0 && isMajority r.replicas (r.replicas.countP k.votes.contains) then becomePrimary s d k.candidate else s

/-- PRIMARY_TIMEOUT: a replica that has heard nothing for PRIMARY_TIMEOUT_MS and a random delay of up to half of it starts a new
term. -/
def execPrimaryTimeout (domain jitter : Nat) (t : Time) (s : State) : Outcome :=
  let s := advance s t
  match repDomain s domain with
  | none => .next s
  | some r =>
    let since := max (karDomain s domain).lastHeard s.id.bootAt
    if !secureUp s || !karActive s || suspended s || !isReplica s domain (selfNo s) || r.primary == selfNo s
        || decide (primaryTime s / 2 < jitter) || decide (s.now < since + primaryTime s + jitter) then .next s
    else
      let term := max r.term r.voted + 1
      let s := updRep s domain fun r => { r with voted := term }
      let s := updKarDomain s domain fun k => { k with candidate := term, votes := [selfNo s], lastHeard := s.now }
      let (st, sv) := signedRank r
      let s := (otherReplicas s domain).foldl (fun s m => askKar s m domain (.voteRequest domain term st sv)) s
      .next (countVotes s domain)

/-- The rank of a candidate is at least another. -/
def rankAtLeast (a b : Nat × Nat) : Bool := decide (b.1 < a.1) || (a.1 == b.1 && decide (b.2 ≤ a.2))

/-- VOTE_REQUEST: at most one vote a term, and only for a candidate whose highest signed record is at least this replica's. -/
def execVoteRequest (sender domain term signedTerm signedVersion : Nat) (t : Time) (s : State) : Outcome :=
  .next (receive s t sender (.voteRequest domain term signedTerm signedVersion) fun s _ =>
    match repDomain s domain with
    | none => s
    | some r =>
      if isReplica s domain sender && r.term < term && r.voted < term && rankAtLeast (signedTerm, signedVersion) (signedRank r) then
        sendKar (updRep s domain fun r => { r with voted := term }) sender (.vote domain term)
      else s)

/-- A message asks for a vote. -/
def isVoteRequest : KarMsg → Bool
  | .voteRequest _ _ _ _ => true
  | _ => false

/-- VOTE: a vote for this candidate's term. -/
def execKarVote (sender domain term : Nat) (t : Time) (s : State) : Outcome :=
  .next (receive s t sender (.vote domain term) fun s _ =>
    let s := answered s sender domain isVoteRequest
    if (karDomain s domain).candidate ≠ term || (karDomain s domain).votes.contains sender then s
    else countVotes (updKarDomain s domain fun k => { k with votes := k.votes ++ [sender] }) domain)

/-! ## Signing (R474) -/

/-- The VALID records of the domain's own officers that a command needs (R273). -/
def ownNeed (s : State) (code d : Nat) (cmd : Cmd) : List Need :=
  let quorumKey := (keyAttr s (cmd.nat 1)).any (·.quorum)
  if [0x0231, 0x0233, 0x0234, 0x0238, 0x0239, 0x0320, 0x0B10, 0x0B11].contains code then [critical s d]
  else if [0x023A, 0x023C].contains code || ([0x0202, 0x0203].contains code && quorumKey) then [routine s d]
  else []

/-- The approval records of a change, screened and counted here with the openness of the nonce taken as judged by the proposer
(R474). -/
def approvalsStand (s : State) (code d : Nat) (cmd : Cmd) : Bool :=
  let open_ (r : Approval) : Nonce := { value := r.nonce, domain := d, code := code, digest := [], deadline := 0, opener := .secure 0 }
  let joined := if code = 0x0238 then [officerKey (cmd.bytes 0x1E)] else []
  let q := { plainQuorum s cmd code (ownNeed s code d cmd) with newcomers := joined.map fun o => (d, o.1, o.2.1) }
  let l := markDuplicates (screenAll { s with kst := { s.kst with nonces := cmd.records.map open_ } } q cmd.records) []
  q.needs.isEmpty || (needsMet q l && possessionMet q l)

/-- What stands in the way of new keys that a change brings (R303). -/
def newKeyGate (s : State) (ops : List VaultOp) : Option Status :=
  ops.findSome? fun o => match o with
    | .putKey h k => storeGate s h k.value.length
    | _ => none

/-- Whether a change would be allowed locally (R474 check 4, R482): its status where it is not. -/
def localCheck (s : State) (d : Nat) (body : ChangeBody) : Option Status :=
  if suspended s then some .suspended
  else if s.geo.state = .readOnly && kindOf body ≠ 4 then some .vaultReadOnly
  else if s.geo.state = .readOnly && (takeReserve s.flash).isNone then some .vaultReadOnly
  else match body with
    | .command code (some cmd) ops => if approvalsStand s code d cmd then newKeyGate s ops else some .quorumMissing
    | .command _ none ops => newKeyGate s ops
    | .replicaSet l content =>
      if isReplica s d (selfNo s) || !l.contains (selfNo s) then none
      else if !bit s.kar.cfg 16 then some .notPermitted
      else if (domain s d).state ≠ .free then some .invalidParameter
      else if 256 ≤ s.kar.sessions.length then some .busyLocked
      else if content.isNone then some .invalidParameter
      else none
    | .roster l => if l.any fun e => (s.flash.karst.roster.look e.member).any (·.serial != e.serial) then some .invalidParameter else none
    | .revoke _ _ => none

/-- Decline a change. -/
def decline (s : State) (m : Nat) (c : Change) (st : Status) (holder : Nat) : State := sendKar s m (.decline c.domain c.version st holder)

/-- A signed record of the same version or later under a lower term gives way to this one (R476). -/
def replaceSigned (s : State) (c : Change) : State :=
  let r := (repDomain s c.domain).getD {}
  let gone := r.signed.filter fun e => decide (c.version ≤ e.1.version) && decide (e.1.term < c.term)
  let s := gone.foldl (fun s e => unwithdraw s e.1.body) s
  updRep s c.domain fun r => { r with signed := r.signed.filter fun e => !gone.contains e }

/-- Sign a change: the record goes to the vault as signed, and then SIGNED to the proposer. -/
def signChange (s : State) (c : Change) (sig : SigEntry) : State :=
  let (own, s) := memberSign s (changeHeader c)
  let s := match s.geo.state, takeReserve s.flash with
    | .readOnly, some f => { s with flash := f }
    | _, _ => s
  let s := withdraw (updRep s c.domain fun r => { r with signed := r.signed ++ [(c, [sig, own])] }) c.body
  sendKar s c.proposer (.signed c.domain c.version c.term own (urgent (.propose c sig)))

/-- A change that makes this member a replica: it holds the domain from the record on, as the proposer had it. -/
def newReplica (s : State) (c : Change) (sig : SigEntry) : State :=
  match c.body with
  | .replicaSet l _ =>
    if sigOk s c sig && (repDomain s c.domain).isNone && l.contains (selfNo s) && (localCheck s c.domain c.body).isNone then
      updRep s c.domain fun r => { r with version := c.version - 1, term := c.term, primary := c.proposer, head := c.prev }
    else s
  | _ => s

/-- The checks of R474 in order. -/
def execKarPropose (sender : Nat) (change : Change) (sig : SigEntry) (t : Time) (s : State) : Outcome :=
  .next (receive s t sender (.propose change sig) fun s _ =>
    let d := change.domain
    let s := newReplica (followTerm s d change.term sender) change sig
    match repDomain s d with
    | none => decline s sender change ((localCheck s d change.body).getD .invalidSignature) 0xFFFFFFFF
    | some r =>
      if change.term ≠ r.term || change.proposer ≠ r.primary || change.karstId ≠ s.flash.karst.id then
        decline s sender change .busyLocked r.primary
      else
        let s := heardPrimary (replaceSigned s change) d
        let head := signedHead ((repDomain s d).getD r)
        if r.signed.any fun e => e.1 == change then s
        else if change.version ≠ head.1 + 1 || change.prev ≠ head.2 then catchUp (decline s sender change .notReady 0xFFFFFFFF) d sender
        else if sig.member ≠ change.proposer || !sigOk s change sig then decline s sender change .invalidSignature 0xFFFFFFFF
        else match localCheck s d change.body with
          | some st => decline s sender change st 0xFFFFFFFF
          | none => signChange s change sig)

/-- SIGNED: a member signature over a proposed record is verified and counted (R475). -/
def execKarSigned (sender domain version term : Nat) (sig : SigEntry) (t : Time) (s : State) : Outcome :=
  let m (u : Bool) : KarMsg := .signed domain version term sig u
  let act (s : State) (_ : KarIn) : State :=
    let s := answered s sender domain (isProposal version)
    match repDomain s domain with
    | none => s
    | some r =>
      let add (e : Change × List SigEntry) : Change × List SigEntry :=
        if e.1.version = version && e.1.term = term && sig.member = sender && sigOk s e.1 sig && !(e.2.map (·.member)).contains sender then
          (e.1, e.2 ++ [sig])
        else e
      tryCommit (updRep s domain fun _ => { r with signed := r.signed.map add }) domain
  let u := s.kar.inbound.any fun e => e.sender == sender && e.type == 0x21 && e.payload == Config.karBody (m true)
  .next (receive s t sender (m u) act)

/-! ## Committed records (R475, R477, R480) -/

/-- The signature entries of a record verify for more than half of its replica set; a new replica, which does not know the set, asks that
all of them verify. -/
def majoritySigned (s : State) (r : RepDomain) (c : Change) (sigs : List SigEntry) : Bool :=
  if r.replicas.isEmpty then !sigs.isEmpty && sigs.all (sigOk s c)
  else isMajority r.replicas (r.replicas.countP fun m => sigs.any fun e => e.member == m && sigOk s c e)

/-- Apply a committed record if it is the next; tell whether one before it is missing. -/
def takeCommitted (s : State) (c : Change) (sigs : List SigEntry) : State × Bool :=
  match repDomain s c.domain with
  | none => (s, false)
  | some r =>
    if c.version ≤ r.version then (s, false)
    else if c.version = r.version + 1 && c.prev = r.head && majoritySigned s r c sigs then (applyCommit s c sigs none, false)
    else (s, decide (r.version + 1 < c.version))

/-- COMMIT: the record is applied in version order; a replica that cannot apply it yet catches up. -/
def execKarCommit (sender : Nat) (change : Change) (sigs : List SigEntry) (t : Time) (s : State) : Outcome :=
  .next (receive s t sender (.commit change sigs) fun s _ =>
    let s := followTerm s change.domain change.term sender
    match takeCommitted s change sigs with
    | (s, true) => catchUp s change.domain sender
    | (s, false) => s)

/-- CATCHUP_REQUEST: the committed records from a version on. -/
def execCatchupRequest (sender domain version : Nat) (t : Time) (s : State) : Outcome :=
  .next (receive s t sender (.catchupRequest domain version) fun s _ =>
    match repDomain s domain with
    | none => s
    | some r => sendKar s sender (.catchup domain (r.log.filter fun e => decide (version < e.1.version))))

/-- A message asks for committed records. -/
def isCatchupRequest : KarMsg → Bool
  | .catchupRequest _ _ => true
  | _ => false

/-- CATCHUP: each record's signatures and PREV_DIGEST are checked, and the records are applied in order. -/
def execKarCatchup (sender domain : Nat) (records : List (Change × List SigEntry)) (t : Time) (s : State) : Outcome :=
  .next (receive s t sender (.catchup domain records) fun s _ =>
    let s := answered s sender domain isCatchupRequest
    records.foldl (fun s e => if e.1.domain = domain then (takeCommitted s e.1 e.2).1 else s) s)

/-- REVOKE: a roster revocation is applied, its sessions close, and it is forwarded once on every session (R479, R480). -/
def execKarRevoke (sender : Nat) (change : Change) (sigs : List SigEntry) (t : Time) (s : State) : Outcome :=
  .next (receive s t sender (.revoke change sigs) fun s _ =>
    match change.body, repDomain s rosterNo with
    | .revoke _ members, some r =>
      if change.domain ≠ rosterNo || !majoritySigned s r change sigs || !(members.any fun m => (liveMember s m).isSome) then s
      else match takeCommitted s change sigs with
        | (s, true) =>
          if isReplica s rosterNo (selfNo s) then catchUp (members.foldl closeSession s) rosterNo r.primary
          else
            let s := updRep s rosterNo fun r => { r with version := change.version, head := changeDigest change }
            let s := updUnit s fun u => { u with revokes := sat32 u.revokes }
            revokeMembers (sendAll s (s.kar.sessions.map (·.1)) (.revoke change sigs)) members
        | (s, false) => s
    | _, _ => s)

/-! ## Answers to proposals and forwarded changes (R472, R474, R478) -/

/-- Answer what waits for a change: its command here, or the member that forwarded it. -/
def endWait (s : State) (w : KarWait) (st : Status) : State :=
  let s := updUnit s fun u => { u with waits := u.waits.erase w }
  match w.origin with
  | some (m, id) => sendKar s m (.forward id w.domain none (some st))
  | none => if st = .ok then passChange s w.change else failOne s w.change st

/-- A replica that would have been added declines: the change is given up under a new term, and its command gets the status
(DESIGN CHOICE, assumption 64). -/
def abandonAdded (s : State) (d version : Nat) (st : Status) : State :=
  match repDomain s d with
  | none => s
  | some r =>
    let term := max r.term r.voted + 1
    let later (r : RepDomain) : RepDomain :=
      { r with term := term, voted := term, signed := r.signed.filter fun e => e.1.version < version }
    let s := if r.version = 0 then updKarst s fun k => { k with domains := k.domains.del d } else updRep s d later
    let s := { s with kar := { s.kar with asks := s.kar.asks.filter fun a => a.domain != d } }
    let s := (s.kar.waits.filter fun w => w.domain == d && w.version == version).foldl (fun s w => endWait s w st) s
    if r.version = 0 then s
    else heartbeatAll (((r.signed.filter fun e => decide (version < e.1.version)).foldl (fun s e => reproposeRecord s e.1) s)) d

/-- DECLINE: a replica has not signed.  One that catches up will be asked again; a member to be added that refuses ends the
change. -/
def execKarDecline (sender domain version : Nat) (status : Status) (holder : Nat) (t : Time) (s : State) : Outcome :=
  .next (receive s t sender (.decline domain version status holder) fun s _ =>
    if status = .notReady then s
    else
      let s := answered s sender domain (isProposal version)
      match repDomain s domain with
      | none => s
      | some r =>
        match r.signed.find? fun e => e.1.version == version with
        | some e => if r.primary = selfNo s && (added r e.1.body).contains sender then abandonAdded s domain version status else s
        | none => s)

/-- Whether a change of a domain is taken at the primary (R478): its status where it is not. -/
def takeGate (s : State) (d : Nat) (body : ChangeBody) : Option Status :=
  let adds := !(added ((repDomain s d).getD {}) body).isEmpty
  if underReplicated s d && !adds then some .busyLocked
  else match body with
    | .replicaSet _ _ => if suspended s then some .suspended else none
    | _ => localCheck s d body

/-- FORWARD: at the primary a carried change is proposed, elsewhere it is carried on; coming back, it ends what waits here. -/
def execKarForward (sender id domain : Nat) (body : Option ChangeBody) (result : Option Status) (t : Time) (s : State) : Outcome :=
  .next (receive s t sender (.forward id domain body result) fun s _ =>
    match body, result with
    | some b, _ =>
      let back (st : Status) : State := sendKar s sender (.forward id domain none (some st))
      match repDomain s domain with
      | none => back .notPermitted
      | some r =>
        if !isReplica s domain (selfNo s) then back .notPermitted
        else match takeGate s domain b with
          | some st => back st
          | none =>
            let change : VaultChange := { ops := [], reply := none }
            if r.primary = selfNo s then propose s domain b change (some (sender, id))
            else if r.primary = sender then back .busyLocked
            else
              let s := forwardChange s domain r.primary b change
              let mine (w : KarWait) : KarWait := if w.forwarded + 1 = s.kar.nextForward then { w with origin := some (sender, id) } else w
              updUnit s fun u => { u with waits := u.waits.map mine }
    | none, some st =>
      (match s.kar.waits.find? fun w => w.forwarded == id && w.domain == domain && id != 0 with
      | none => s
      | some w => endWait s w st)
    | none, none => s)

/-- MESSAGE_RESEND: unanswered proposals, vote requests and catch-up requests go out again every 200 ms until their time ends
(R470). -/
def execMessageResend (t : Time) (s : State) : Outcome :=
  let s := advance s t
  if !secureUp s || !karActive s then .next s
  else
    let live := s.kar.asks.filter fun a => decide (s.now < a.ends)
    let due (a : KarAsk) : Bool := decide (a.sentAt + 200 * msT ≤ s.now)
    let mark (a : KarAsk) : KarAsk := if due a then { a with sentAt := s.now } else a
    let waits (s : State) (a : KarAsk) : Bool :=
      (s.kar.outUrgent ++ s.kar.outNormal).any fun e => e.dest == a.dest && e.msg == a.msg
    let s := updUnit s fun u => { u with asks := live.map mark }
    .next ((live.filter due).foldl (fun s a => if waits s a then s else sendKar s a.dest a.msg) s)

/-- COMMIT_TIMEOUT: changes that reached no commit within COMMIT_MS return NOT_READY, and their outcome stays open (R478). -/
def execCommitTimeout (t : Time) (s : State) : Outcome :=
  let s := advance s t
  if !secureUp s then .next s
  else .next ((s.kar.waits.filter fun w => decide (w.deadline ≤ s.now)).foldl (fun s w =>
    updUnit (endWait s w .notReady) fun u => { u with timeouts := sat32 u.timeouts }) s)

/-! ## The roster (R465, R466, R480) -/

/-- ROSTER_POLL_TIMER: every member asks a council member for newer entries every ROSTER_POLL_S. -/
def execRosterPollTimer (t : Time) (s : State) : Outcome :=
  let s := refreshKarst (advance s t)
  if !secureUp s || !karActive s || decide (s.now < s.kar.polledAt + field s.kar.poll 11 0 * secT) then .next s
  else
    let s := updUnit s fun u => { u with polledAt := s.now }
    match (council s).find? (· != selfNo s) with
    | none => .next s
    | some m => .next (sendKar s m (.rosterPoll (rosterVersion s)))

/-- ROSTER_POLL: the roster goes to a member whose version is behind. -/
def execRosterPoll (sender version : Nat) (t : Time) (s : State) : Outcome :=
  .next (receive s t sender (.rosterPoll version) fun s _ =>
    if version < rosterVersion s then
      sendKar s sender (.roster (rosterVersion s) (s.flash.karst.roster.map (·.2)) (replicatedHere s))
    else s)

/-- A join that cannot be finished: STATE returns to NONE, and the number is revoked, which the council member that sent the roster is
asked to propose on the session they share (R466; the way the number is revoked is assumption 141). -/
def giveUpJoin (s : State) (sender member : Nat) : State :=
  let kept := s.kar.sessions.keep fun m _ => m == sender
  let s := updKarst (clearKarst s 0) fun k => { k with member := member }
  sendKar (updUnit s fun u => { u with sessions := kept }) sender (.forward 0 rosterNo (some (.revoke [] [member])) none)

/-- A joiner finds its entry in the roster: it is a member, unless a replicated domain also exists here (R465, R466). -/
def finishJoin (s : State) (sender : Nat) (replicated : List Nat) : State :=
  match s.flash.karst.roster.find? fun e => e.2.live && e.2.serial == s.id.serial with
  | none => s
  | some e =>
    if replicated.any fun d => (domain s d).state != .free then giveUpJoin s sender e.1
    else refreshKarst (updKarst s fun k => { k with state := 2, member := e.1 })

/-- ROSTER: newer entries are entered, and members they show as REVOKED are dropped. -/
def execKarRoster (sender version : Nat) (entries : List RosterEntry) (replicated : List Nat) (t : Time) (s : State) : Outcome :=
  .next (receive s t sender (.roster version entries replicated) fun s _ =>
    if version ≤ rosterVersion s then s
    else
      let primary := if (repDomain s rosterNo).isSome then ((repDomain s rosterNo).getD {}).primary else sender
      let lost := (entries.filter fun e => !e.live && (liveMember s e.member).isSome).map (·.member)
      let s := updRep s rosterNo fun r => if r.replicas.contains (selfNo s) && karState s = 2 then r
        else { r with version := version, primary := primary }
      let s := enterRoster s entries
      let s := if lost.isEmpty then s else revokeMembers s lost
      if karState s = 1 then finishJoin s sender replicated else refreshKarst s)

end Sys2Proof.Machine
end

