-- ==== Sys2Proof/Machine/KarstCmds.lean ====
section
/-!
DEFINITION. The Karst commands of officers: founding, joining, admitting, revoking and leaving, replica sets, and the registers
(R465 to R467, R478, R483, R484).
-/

namespace Sys2Proof.Machine

/-! ## The member key (R463) -/

/-- The attribute word of half of the member key. -/
def memberAttr (type length : Nat) : Attr :=
  { attrOf [] with type := type, usage := 1, length := length, usesLeft := unlimited }

/-- Put half of the member key into its slot and the in-package die. -/
def putMember (s : State) (h type : Nat) (v : Bytes) : State :=
  let k : KeyRec := { attr := memberAttr type v.length, value := v }
  writeSlot (putDieKey s h k) h h k 0

/-- Make the member key with KEYGEN from 128 random bytes: its public keys, and the state that holds it. -/
def makeMember (s : State) (b : Bytes) : Bytes × State :=
  let p := Config.pke 3 0x02 [] [] (b.take 64)
  let m := Config.pke 3 0x31 [] [] (b.drop 64)
  (p.outs.flatten ++ m.outs.flatten, putMember (putMember s 254 0x42 p.secret) 255 0x71 m.secret)

/-- Conditions of making the member key. -/
def memberConditions (s : State) : List (Bool × Status) :=
  useConditions s ++ [(rootMissing s || !vaultServes s, .notReady)]

/-! ## Founding, joining and leaving (R465 to R467) -/

/-- KAR_FOUND: KARST_ID and the member key are made, and the founder is member 0 and sole council member. -/
def execKarFound (c : Cmd) (s : State) : Outcome :=
  .next (command s c 0x0B01 fun s =>
    match leastOf (memberConditions s ++ [(s.geo.state != .normal, .notReady), (karState s != 0, .busyLocked)]) with
    | some st => answerRoom s c.reply st
    | none => untilServing s c.reply 3 16 (untilServing s c.reply 1 128 (withCritical s c 0x0B01 0 fun s reasons =>
      withDraw s c.reply 3 16 fun s id => withDraw s c.reply 1 128 fun s b =>
        let (keys, s) := makeMember s b
        let e : RosterEntry := { member := 0, serial := s.id.serial, keyDigest := Config.sha384 keys, live := true, version := 1 }
        let r : RepDomain := { version := 1, replicas := [0] }
        let s := updKarst (clearKarst s 0) fun _ => { state := 2, id := id, nextMember := 1, roster := [(0, e)], domains := [(rosterNo, r)] }
        answerOk (refreshKarst s) c reasons [])))

/-- KAR_JOIN: the member key is made, and the join request goes back. -/
def execKarJoin (c : Cmd) (s : State) : Outcome :=
  .next (command s c 0x0B02 fun s =>
    match leastOf (memberConditions s ++ [(karState s == 1 || karState s == 2, .busyLocked), (s.die.attestation.isNone, .notReady)]) with
    | some st => answerRoom s c.reply st
    | none => untilServing s c.reply 1 128 (withCritical s c 0x0B02 0 fun s reasons => withDraw s c.reply 1 128 fun s b =>
      let (keys, s) := makeMember s b
      let s := updKarst (clearKarst s 0) fun _ => { state := 1, id := c.bytes 0x33 }
      let request := c.bytes 0x33 ++ s.id.serial ++ keys
      let (sig, s) := memberSign s request
      let (record, s) := attest s 2 0 0 none (zeros 48) (zeros 32)
      answerOk s c reasons [.blob (request ++ sig.sig ++ record)]))

/-- This member sits in the council. -/
def inCouncil (s : State) : Bool := karState s == 2 && (council s).contains (selfNo s)

/-- The change of a domain goes to its replica set, or its command ends with what stands in its way there (R478). -/
def karChange (s : State) (d : Nat) (body : ChangeBody) (change : VaultChange) : State :=
  match repDomain s d with
  | none => failOne s change .notReady
  | some r =>
    let to_ := if isReplica s d (selfNo s) then r.primary else (r.replicas.head?).getD r.primary
    if to_ ≠ selfNo s then forwardChange s d to_ body change
    else match takeGate s d body with
      | some st => failOne s change st
      | none => propose s d body change none

/-- The lowest member number not used nor proposed. -/
def freeMember (s : State) : Nat :=
  let signed := (((repDomain s rosterNo).map (·.signed)).getD []).map fun e => e.1.body
  signed.foldl (fun n b => match b with
    | .roster l => l.foldl (fun n e => max n (e.member + 1)) n
    | _ => n) s.flash.karst.nextMember

/-- KAR_ADMIT: the join request is judged, and a roster change proposed that gives the joiner the lowest number never used.  A serial
whose entry is REVOKED may be admitted again, under a new number (R467, R482; DEDUCED, assumption 140). -/
def execKarAdmit (c : Cmd) (s : State) : Outcome :=
  .next (command s c 0x0B03 fun s =>
    let b := c.body.bytes
    let serial := slice b 16 16
    let m := freeMember s
    match leastOf [
        (!karActive s, .notReady), (!inCouncil s, .notPermitted), (!Config.joinValid b, .invalidSignature),
        (b.take 16 ≠ s.flash.karst.id, .invalidParameter),
        (s.flash.karst.roster.any fun e => e.2.live && e.2.serial == serial, .invalidParameter), (decide (16384 ≤ m), .busyLocked)] with
    | some st => answerRoom s c.reply st
    | none => withCritical s c 0x0B03 0 fun s reasons =>
      let e : RosterEntry := { member := m, serial := serial, keyDigest := Config.sha384 (slice b 32 2049), live := true
                               version := (signedHead ((repDomain s rosterNo).getD {})).1 + 1 }
      karChange s rosterNo (.roster [e]) { ops := [], reply := some c.reply, reasons := reasons, items := [.item 0x0F (leBytes 2 m)] })

/-- KAR_REVOKE_MEMBER: a KIND 4 roster change. -/
def execKarRevokeMember (c : Cmd) (s : State) : Outcome :=
  .next (command s c 0x0B04 fun s =>
    let m := c.nat 0x0F
    match leastOf [(!karActive s, .notReady), (!inCouncil s, .notPermitted), ((liveMember s m).isNone, .invalidParameter)] with
    | some st => answerStatus s c.reply st
    | none => withCritical s c 0x0B04 0 fun s reasons =>
      karChange s rosterNo (.revoke [] [m]) { ops := [], reply := some c.reply, reasons := reasons })

/-- KAR_LEAVE: the leaver's own revocation goes through the council; when it is applied here, Karst state is cleared. -/
def execKarLeave (c : Cmd) (s : State) : Outcome :=
  .next (command s c 0x0B05 fun s =>
    if !karActive s then answerStatus s c.reply .notReady
    else withCritical s c 0x0B05 0 fun s reasons =>
      let s := updUnit s fun u => { u with leaving := true }
      karChange s rosterNo (.revoke [] [selfNo s]) { ops := [], reply := some c.reply, reasons := reasons })

/-! ## Replica sets (R478, R484) -/

/-- The members that a command names. -/
def namedMembers (c : Cmd) : List Nat := (c.values 0x0F).map leNat

/-- The named members are 3 to 9 ACTIVE members, each once. -/
def membersOk (s : State) (l : List Nat) : Bool :=
  decide (3 ≤ l.length) && decide (l.length ≤ 9) && l.all (fun m => (liveMember s m).isSome) && decide (l.eraseDups = l)

/-- The record and the keys of a domain, for replicas that a change adds. -/
def domainContent (s : State) (d : Nat) : Domain × Tbl KeyRec := (domain s d, s.flash.objects.keep fun h _ => handleDomain h == d)

/-- KAR_DOMAIN_REPLICATE: a local domain becomes replicated, this member primary of term 1. -/
def execKarDomainReplicate (c : Cmd) (s : State) : Outcome :=
  .next (command s c 0x0B10 fun s =>
    let d := c.domain
    let l := namedMembers c
    match leastOf [(!karActive s, .notReady),
        (d = 0 || (repDomain s d).isSome || !membersOk s l || !l.contains (selfNo s), .invalidParameter)] with
    | some st => answerStatus s c.reply st
    | none => withCritical s c 0x0B10 d fun s reasons =>
      let s := updRep s d fun _ => { primary := selfNo s, replicas := [selfNo s] }
      karChange s d (.replicaSet l (some (domainContent s d))) { ops := [], reply := some c.reply, reasons := reasons })

/-- KAR_REPLICA_SET: a KIND 2 change. -/
def execKarReplicaSet (c : Cmd) (s : State) : Outcome :=
  .next (command s c 0x0B11 fun s =>
    let d := c.domain
    let l := namedMembers c
    match leastOf [(!karActive s, .notReady), (!isReplica s d (selfNo s) || !membersOk s l, .invalidParameter)] with
    | some st => answerStatus s c.reply st
    | none => withCritical s c 0x0B11 d fun s reasons =>
      let grows := l.any fun m => !isReplica s d m
      let body : ChangeBody := .replicaSet l (if grows then some (domainContent s d) else none)
      karChange s d body { ops := [], reply := some c.reply, reasons := reasons })

/-- A replica can be reached: it is this member, or its session is open. -/
def reachable_ (s : State) (m : Nat) : Bool := m == selfNo s || (s.kar.sessions.look m).isSome

/-- KAR_DOMAIN_READ: LOCAL or replicated, version, term, primary, and each replica with its reachability (assumption 65). -/
def execKarDomainRead (c : Cmd) (s : State) : Outcome :=
  .next (command s c 0x0B12 fun s =>
    match if karState s = 2 then repDomain s c.domain else none with
    | none => answerOk s c [] [.blob [0]]
    | some r => answerOk s c [] [.blob (1 :: leBytes 8 r.version ++ leBytes 8 r.term ++ leBytes 2 r.primary
        ++ r.replicas.flatMap fun m => leBytes 2 m ++ leBytes 1 (bitAt (reachable_ s m) 0))])

/-! ## Registers (R483) -/

/-- KAR_STATUS. -/
def karStatus (s : State) : Word :=
  BitVec.ofNat 32 (karState s + bitAt (bit s.id.ready 11) 2 + bitAt (inCouncil s) 3 + s.flash.karst.member * 2 ^ 16)

/-- A half of a 64-bit count. -/
def halfOf (n k : Nat) : Word := BitVec.ofNat 32 (n / 2 ^ (32 * k))

/-- The Karst register at an offset of the chamber and Karst block; none where it is unassigned. -/
def karReg (s : State) (off : Nat) : Option Word :=
  let u := s.kar
  let n (v : Nat) : Option Word := some (BitVec.ofNat 32 v)
  if off = 0x1000 then some (karStatus s)
  else if 0x1010 ≤ off && off ≤ 0x101C && off % 4 = 0 then n (leNat (slice s.flash.karst.id (off - 0x1010) 4))
  else if off = 0x1020 then some u.cfg
  else if off = 0x1024 then some u.timing
  else if off = 0x1028 then some u.poll
  else if off = 0x102C then some u.ports
  else if off = 0x1030 then n u.sessions.length
  else if off = 0x1034 then n (min u.outUrgent.length 1024 + min u.outNormal.length 1024 * 2 ^ 16)
  else if off = 0x1038 || off = 0x103C then some (halfOf (rosterVersion s) ((off - 0x1038) / 4))
  else if off = 0x1040 || off = 0x1044 then some (halfOf u.msgRx ((off - 0x1040) / 4))
  else if off = 0x1048 || off = 0x104C then some (halfOf u.authFail ((off - 0x1048) / 4))
  else if off = 0x1050 || off = 0x1054 then some (halfOf u.commits ((off - 0x1050) / 4))
  else if off = 0x1058 then n u.timeouts
  else if off = 0x105C then n u.revokes
  else none

/-- The offsets of the Karst registers. -/
def karOffsets : List Nat := 0x1000 :: (List.range 20).map fun k => 0x1010 + 4 * k

/-- KAR_STATUS_READ. -/
def execKarStatusRead (c : Cmd) (s : State) : Outcome :=
  .next (command s c 0x0B20 fun s =>
    answerOk s c [] (karOffsets.map fun o => .reg (0x02200000 + o) ((karReg s o).getD 0)))

/-- Whether a register may be written, with its writable bits, and the value lies in the fields' ranges. -/
def karWriteMask (off : Nat) (v : Word) : Option Word :=
  if off = 0x1020 then (if 1024 ≤ field v 15 0 then some 0x1FFFF else none)
  else if off = 0x1024 then
    if 500 ≤ field v 15 0 && field v 15 0 ≤ 60000 && 100 ≤ field v 31 16 && field v 31 16 ≤ 60000 then some 0xFFFFFFFF else none
  else if off = 0x1028 then (if 10 ≤ field v 11 0 && field v 11 0 ≤ 3600 then some 0xFFF else none)
  else if off = 0x102C then
    if (List.range 4).all fun k => field v (8 * k + 7) (8 * k) ≤ 143 || field v (8 * k + 7) (8 * k) == 255 then some 0xFFFFFFFF else none
  else none

/-- Write a Karst register; a write outside a field's range is ignored whole. -/
def karWrite (s : State) (e : Nat × Word) : State :=
  match karWriteMask e.1 e.2 with
  | none => s
  | some m => updUnit s fun u =>
    if e.1 = 0x1020 then { u with cfg := storeMasked u.cfg e.2 m }
    else if e.1 = 0x1024 then { u with timing := storeMasked u.timing e.2 m }
    else if e.1 = 0x1028 then { u with poll := storeMasked u.poll e.2 m }
    else { u with ports := storeMasked u.ports e.2 m }

/-- KAR_CFG_SET. -/
def execKarCfgSet (c : Cmd) (s : State) : Outcome :=
  .next (command s c 0x0B21 fun s =>
    if c.regWrites.any fun e => (karWriteMask e.1 e.2).isNone then answerStatus s c.reply .invalidParameter
    else withRoutine s c 0x0B21 0 fun s reasons => answerOk (c.regWrites.foldl karWrite s) c reasons [])

end Sys2Proof.Machine
end

