-- ==== Sys2Proof/Machine/Migration.lean ====
section
/-!
DEFINITION. Migration of a host function: the blob, VF_SAVE and VF_RESTORE (R332 to R335, R481).
-/

namespace Sys2Proof.Machine

/-- The migration key of a domain (R333). -/
def migrationKey (master nonce serial : Bytes) : Bytes :=
  kdf 2 master (asciiBytes "SNX4144 VF MIGRATE") (nonce ++ serial) 32

/-- The plaintext body of a blob (R333): function record, queue records, handles, lost handles. -/
def migrationBody (s : State) (v : Nat) : Bytes :=
  let y := func s v
  let qs := y.queues.keep fun _ x => x.created
  leBytes 2 v ++ leBytes 2 y.maxQueues ++ leBytes 1 y.weight ++ [0] ++ leBytes 2 qs.length ++ leBytes 2 y.handles.length
    ++ leBytes 2 y.lost.length ++ zeros 4 ++ qs.flatMap (fun e => queueRecord e.1 e.2) ++ y.handles.flatMap (leBytes 4)
    ++ y.lost.flatMap (leBytes 4)

/-- The 128 header bytes of a blob. -/
def migrationHeader (s : State) (d : Nat) (nonce : Bytes) (n : Nat) : Bytes :=
  leBytes 4 0x4D475656 ++ leBytes 2 1 ++ leBytes 2 d ++ s.id.serial ++ s.flash.karst.id
    ++ leBytes 8 (((repDomain s d).map (·.version)).getD 0) ++ leBytes 8 (devSec s + 300) ++ nonce ++ leBytes 4 n ++ zeros 36

/-- A migration blob with its signature block. -/
def migrationBlob (s : State) (v d : Nat) (nonce : Bytes) : Bytes × State :=
  let body := migrationBody s v
  let head := migrationHeader s d nonce body.length
  let (ct, tag) := gcmSeal (migrationKey (domain s d).master nonce s.id.serial) (nonce.take 12) head body
  let (sig, s) := signBlock s (head ++ ct ++ tag)
  (head ++ ct ++ tag ++ sig, s)

/-- The session keys made through a VF are destroyed, and their handles recorded as lost (R332). -/
def loseSessions (s : State) (v : Nat) : State :=
  let s := (func s v).sessions.foldl eraseSlot s
  updFunc s v fun y => { y with lost := y.lost ++ y.sessions, sessions := [] }

/-- VF_SAVE: the blob of a FROZEN VF is written to the host.  While instance 1 is not yet serving the job waits to be put forward
again (R233). -/
def execVfSave (t : Time) (s : State) : Outcome :=
  .next (admin (advance s t) 0 0x92 14 fun s b id =>
    let v := leAt b 0 2
    match firstOf [(!isVf v || !(func s v).frozen || (funcDomain s v).isNone, .invalidParameter), (!secureUp s, .secureWorldDown)] with
    | some st => endRingStatus s id st
    | none => if drawWaits s 1 32 then updJob s 0 0 id fun j => { j with presented := false } else match draw s 1 false 32 with
      | (s, .error st) => endRingStatus s id st
      | (s, .ok nonce) =>
        let s := loseSessions s v
        let (blob, s) := migrationBlob s v ((funcDomain s v).getD 0) nonce
        if leAt b 10 4 < blob.length then endRing s id { status := .invalidLength, outLen := blob.length }
        else
          let s := updFunc s v fun y => { y with saved := true }
          endRing s id { status := .ok, outs := [(leAt b 2 8, blob)], outLen := blob.length })

/-- Numbers of 4 bytes, `n` of them. -/
def readHandles (b : Bytes) (n : Nat) : List Nat := (List.range n).map fun k => leAt b (4 * k) 4

/-- Read a plaintext body. -/
def readMigration (b : Bytes) : Migrated :=
  let q := leAt b 6 2
  { weight := leAt b 4 1, queues := (List.range q).map fun k => readQueue (slice b (16 + 128 * k) 128)
    handles := readHandles (b.drop (16 + 128 * q)) (leAt b 8 2) }

/-- The source device is an ACTIVE member of this device's Karst (R335 check 6). -/
def sourceKnown (s : State) (serial karstId : Bytes) : Bool :=
  karState s == 2 && karstId == s.flash.karst.id && s.flash.karst.roster.any fun e => e.2.live && e.2.serial == serial

/-- Checks 1 to 8 of R335, in order. -/
def restoreGate (s : State) (v len : Nat) (b : Bytes) : Option Status :=
  let d := leAt b 6 2
  let n := leAt b 0x58 4
  firstOf [
    (!isVf v || !funcEnabled s v || (funcDomain s v).isSome || (func s v).restoring.isSome || (func s v).queues.any fun e => e.2.created, .invalidParameter),
    (!secureUp s, .secureWorldDown),
    (len ≠ 0x90 + n + 3405, .lengthMismatch),
    (leAt b 0 4 ≠ 0x4D475656 || leAt b 4 2 ≠ 1 || leAt b 0x30 8 < devSec s, .invalidParameter),
    (!Config.migrationValid b, .invalidSignature),
    (!sourceKnown s (slice b 8 16) (slice b 0x18 16), .notPermitted),
    (!isReplica s d (selfNo s) || (domain s d).state != .active, .notPermitted),
    (decide (((repDomain s d).map (·.version)).getD 0 < leAt b 0x28 8), .notReady)]

/-- What the blob carries waits for the VF's assignment. -/
def restoreFunction (s : State) (v : Nat) (m : Migrated) : State := updFunc s v fun y => { y with restoring := some m }

/-- VF_RESTORE: the blob is judged by R335 in order, and the VF is assigned to its domain without quorum. -/
def execVfRestore (blob : Option Bytes) (t : Time) (s : State) : Outcome :=
  let s := advance s t
  .next (present s 0 0 0x93 blob.isNone fun s j =>
    let v := leAt j.bytes 0 2
    let len := leAt j.bytes 10 4
    let b := (blob.getD []).take len
    let n := leAt b 0x58 4
    let d := leAt b 6 2
    match firstOf [(!allZero (j.bytes.drop 14), .invalidParameter)], restoreGate s v len b with
    | some st, _ => endRingStatus s j.id st
    | none, some st => endRingStatus s j.id st
    | none, none =>
      let key := migrationKey (domain s d).master (slice b 0x38 32) (slice b 8 16)
      match gcmOpen key (slice b 0x38 12) (b.take 0x80) (slice b 0x80 n) (slice b (0x80 + n) 16) with
      | none => endRingStatus s j.id .tagMismatch
      | some body =>
        let m := readMigration body
        match m.handles.find? fun h => (s.flash.objects.look h).isNone || withdrawn s h with
        | some h => endRing s j.id { status := .invalidKey, aux := h }
        | none =>
          let extra := m.queues.countP fun e => e.1 != 0
          if freeContexts s < m.queues.length || (func s v).maxQueues < extra then
            endRing s j.id { status := .busyLocked, holder := 0xFFFFFFFF }
          else
            let c : Cmd := { caller := .function 0 0, domain := d, reply := .ring j.id, body := .items [], records := []
                             coreFaults := 0, upset := false }
            editDomain (restoreFunction s v m) c d [.function v true] [])

end Sys2Proof.Machine
end

