-- ==== Sys2Proof/Machine/PassageCmds.lean ====
section
/-!
DEFINITION. The commands of Passage: table loads (R43 to R45), staging and commits (R63 to R66), flow reads and flushes (R57,
R59), injection and punts (R61, R89), counters, prefetch and the DNP3 challenges (R88, R119).
-/

namespace Sys2Proof.Machine

/-! ## Flowstone tables (R43 to R45) -/

/-- The lowest wire whose ACTIVE or SHADOW bank selects table `t`. -/
def selectingWire (s : State) (t : Nat) : Option Nat :=
  (List.range 72).find? fun w => [(wire s w).active, (wire s w).shadow].any fun b =>
    b.table 0 == some t || b.table 1 == some t

/-- STEP_COUNT of a table image. -/
def imageSteps (b : Bytes) : Nat := leAt b 6 2

/-- The steps of a table image, each as its 128-bit word. -/
def readSteps : Nat → Bytes → List (BitVec 128)
  | 0, _ => []
  | n + 1, b => BitVec.ofNat 128 (leNat (b.take 16)) :: readSteps n (b.drop 16)

/-- The header fields meet their rules (R44). -/
def imageHeaderOk (b : Bytes) : Bool :=
  leAt b 0 4 == 0x464C5354 && leAt b 4 2 == 1 && decide (1 ≤ imageSteps b) && decide (imageSteps b ≤ 4096)
    && decide (leAt b 8 2 < imageSteps b) && decide (1 ≤ leAt b 0xA 2) && decide (leAt b 0xA 2 ≤ 512)
    && allZero (slice b 0x10 16) && allZero (slice b 0x50 16)

/-- Checks 3 to 6 of R45 on an image without its approval records: the status and the step index of the first failure. -/
def imageFault (b : Bytes) : Option (Status × Option Nat) :=
  let steps := b.drop 0x60
  if b.length < 0x60 || b.length ≠ 0x60 + 16 * imageSteps b then some (.lengthMismatch, none)
  else if !imageHeaderOk b then some (.invalidParameter, none)
  else if Config.sha384 steps ≠ slice b 0x20 48 then some (.invalidSignature, none)
  else (badStep (imageSteps b) 0 (readSteps (imageSteps b) steps)).map fun i => (.invalidParameter, some i)

/-- The table that an image gives. -/
def imageTable (b : Bytes) : Table :=
  { stepCount := imageSteps b, entry := leAt b 8 2, maxWalk := leAt b 0xA 2, version := leAt b 0xC 4, digest := slice b 0x20 48,
    steps := readSteps (imageSteps b) (b.drop 0x60) }

/-- The quorum of PSG_TABLE_LOAD: its digest covers the code and the image (R272). -/
def tableQuorum (s : State) (c : Cmd) : Quorum :=
  { plainQuorum s c 0x0701 [critical s 0] with input := fun _ => leBytes 2 0x0701 ++ c.body.bytes }

/-- PSG_TABLE_LOAD.  The image names no table number: the row's operand gives it (assumption 30).  DESIGN CHOICE: a load over a number
that is resident and that no bank selects replaces the table there (assumption 111). -/
def execPsgTableLoad (c : Cmd) (t : Fin 16) (s : State) : Outcome :=
  .next (command s c 0x0701 fun s =>
    let b := c.body.bytes
    match selectingWire s t with
    | some w => answerBusy s c.reply w
    | none =>
      match imageFault b with
      | some (st, i) => answer s c.reply { status := st, items := i.toList.map .number }
      | none => withQuorum s c (tableQuorum s c) fun s reasons =>
          let s := { s with psg := { s.psg with
            resident := setBit s.psg.resident t true
            tables := s.psg.tables.put t (imageTable b) } }
          answerOk (writeRestore s) c reasons [])

/-- PSG_TABLE_UNLOAD; a table that is not resident is INVALID_PARAMETER (assumption 31), after the lower status of check 2 (R8). -/
def execPsgTableUnload (c : Cmd) (s : State) : Outcome :=
  .next (command s c 0x0702 fun s =>
    let t := c.nat 8
    match selectingWire s t with
    | some w => answerBusy s c.reply w
    | none =>
      if 15 < t || !bit s.psg.resident t then answerStatus s c.reply .invalidParameter
      else
        let s := { s with psg := { s.psg with
          resident := setBit s.psg.resident t false
          tables := s.psg.tables.del t } }
        answerOk (writeRestore s) c [] [])

/-! ## Staged configuration (R63 to R66) -/

/-- Carry out a command on the wire that its WIRE item names: 0 to 71 (R355). -/
def onWire (s : State) (c : Cmd) (k : Nat → State) : State :=
  if 71 < c.nat 5 then answerStatus s c.reply .invalidParameter else k (c.nat 5)

/-- SHADOW takes no writes (R64). -/
def shadowClosed (x : Wire) : Bool := x.pending.isSome || x.locked

/-- A bank offset that PSG_WIRE_STAGE may name (R356). -/
def stageOffset (off : Nat) : Bool := off % 4 == 0 && (off ≤ 0xC || (0x200 ≤ off && off ≤ 0x3FC))

/-- Write several registers of a bank. -/
def Bank.writes (b : Bank) : List (Nat × Word) → Bank
  | [] => b
  | (off, v) :: t => Bank.writes ((b.write off v).getD b) t

/-- PSG_WIRE_STAGE. -/
def execPsgWireStage (c : Cmd) (s : State) : Outcome :=
  .next (command s c 0x0710 fun s => onWire s c fun w =>
    if c.regWrites.any fun e => !stageOffset e.1 then answerStatus s c.reply .invalidParameter
    else if shadowClosed (wire s w) then answerBusy s c.reply 0xFFFFFFFF
    else answerOk (updWire s w fun x => { x with shadow := x.shadow.writes c.regWrites }) c [] [])

/-- The quorum of PSG_WIRE_COMMIT: its digest covers the wire's number and its SHADOW bank (R272). -/
def wireQuorum (s : State) (c : Cmd) (w : Nat) : Quorum :=
  { plainQuorum s c 0x0711 [critical s 0] with
    input := fun _ => leBytes 2 0x0711 ++ leBytes 2 w ++ (wire s w).shadow.bytes }

/-- PSG_WIRE_COMMIT: where check 4 of R65 asks for a grant, or records are presented, and the earlier checks pass, the quorum
unit judges the records and a met quorum sets GRANT; then COMMIT is written, and the answer follows the last switch. -/
def execPsgWireCommit (c : Cmd) (s : State) : Outcome :=
  .next (command s c 0x0711 fun s => onWire s c fun w =>
    let ask (s : State) (grant : Bool) (reasons : List Nat) : State :=
      requestCommit (updWire s w fun x => { x with grant := grant, reasons := reasons }) w (some c.reply)
    let granted := updWire s w fun x => { x with grant := true }
    let judged := needsGrant (wire s w).active (wire s w).shadow || !c.records.isEmpty
    if !judged || (commitCheck granted w).isSome then ask s false []
    else match judgeQuorum s c (wireQuorum s c w) with
      | (s, reasons, none) => ask s true reasons
      | (s, reasons, some .quorumMissing) => ask s false reasons
      | (s, reasons, some st) => answer s c.reply { status := st, reasons := reasons })

/-- PSG_WIRE_DISCARD. -/
def execPsgWireDiscard (c : Cmd) (s : State) : Outcome :=
  .next (command s c 0x0712 fun s => onWire s c fun w =>
    if shadowClosed (wire s w) then answerBusy s c.reply 0xFFFFFFFF else answerOk (discardShadow s w) c [] [])

/-! ## Flows (R56 to R59) -/

/-- The 256 bytes of a flow context (R56); a context that is not live reads as zeros. -/
def flowBytes (s : State) (i : Nat) : Bytes :=
  match s.psg.flows.look i with
  | none => zeros 256
  | some f =>
    f.key ++ leBytes 1 f.wire ++ leBytes 1 f.sideLan ++ leBytes 1 f.classCode ++ leBytes 1 (1 + bitAt f.pinned 1)
      ++ leBytes 4 f.gen ++ leBytes 4 f.keyRef ++ leBytes 2 f.inFlight ++ zeros 2 ++ leBytes 8 f.floor
      ++ leBytes 8 f.lastActivity ++ leBytes 128 f.bitmap.toNat ++ leBytes 6 f.acceptSec ++ leBytes 4 f.acceptNs ++ zeros 6
      ++ leBytes 8 f.accepts ++ leBytes 8 f.rejects ++ leBytes 8 f.monitorFails ++ leBytes 4 f.head ++ leBytes 4 f.tail
      ++ leBytes 8 f.freshUntil ++ zeros 8

/-- PSG_FLOW_READ. -/
def execPsgFlowRead (c : Cmd) (s : State) : Outcome :=
  .next (command s c 0x0720 fun s =>
    if 16383 < c.nat 0x29 then answerStatus s c.reply .invalidParameter
    else answerOk s c [] [.blob (flowBytes s (c.nat 0x29))])

/-- The lowest named wire that has a context with a frame in flight (R59). -/
def busyFlowWire (s : State) (mask : Nat) : Option Nat :=
  (List.range 72).find? fun w => mask / 2 ^ w % 2 == 1 && s.psg.flows.any fun e => e.2.wire == w && decide (0 < e.2.inFlight)

/-- PSG_FLOW_FLUSH. -/
def execPsgFlowFlush (c : Cmd) (s : State) : Outcome :=
  .next (command s c 0x0721 fun s =>
    let mask := c.nat 0x2A
    let flags := c.nat 0x27
    if 2 ^ 72 ≤ mask || 1 < flags then answerStatus s c.reply .invalidParameter
    else match busyFlowWire s mask with
      | some w => answerBusy s c.reply w
      | none => withRoutine s c 0x0721 0 fun s reasons =>
          let flows := s.psg.flows.keep fun _ f => !(mask / 2 ^ f.wire % 2 == 1 && (flags == 0 || f.pinned))
          answerOk { s with psg := { s.psg with flows := flows } } c reasons [])

/-! ## Injection and punts (R61, R89) -/

/-- A parse queue refuses a frame of `n` bytes. -/
def parseFull (s : State) (p n : Nat) : Bool := !parseRoom (port s p) n

/-- PSG_INJECT: the frame enters the parse queue of the wire's side at the moment of the command.  Of several failures the lowest
status answers (R8).  DESIGN CHOICE: a MAC control frame meets no front end here, so the table walks it (assumption 112). -/
def execPsgInject (c : Cmd) (s : State) : Outcome :=
  .next (command s c 0x0740 fun s => onWire s c fun w =>
    let p := 2 * w + c.nat 6
    let b := c.bytes 0x2B
    if c.nat 6 ≤ 1 && parseFull s p b.length then answerBusy s c.reply 0xFFFFFFFF
    else if c.nat 6 ≤ 1 && (b.length < 64 || (port s p).maxFrame < b.length) then answerStatus s c.reply .invalidLength
    else if 1 < c.nat 6 then answerStatus s c.reply .invalidParameter
    else
      let f : RxFrame := { bytes := b, sec := devSec s, ns := devNs s, unlocked := !s.tim.locked, injected := true,
                           severity := s.lan.severity }
      answerOk (enterDirection s p f) c [] [])

/-- PSG_PUNT_FORWARD.  DESIGN CHOICE: a port that has become a chamber link since bars nothing (assumption 113). -/
def execPsgPuntForward (c : Cmd) (s : State) : Outcome :=
  .next (command s c 0x0741 fun s =>
    match s.psg.puntQ.find? (·.handle == c.nat 0x2C) with
    | none => answerStatus s c.reply .invalidParameter
    | some x =>
      let m := (wire s (wireOf x.port)).active.modeOf
      if m = 2 || m = 3 || s.lcy.isolateAll then answerStatus s c.reply .notPermitted
      else
        let s := { s with psg := { s.psg with puntQ := s.psg.puntQ.filter (·.handle != x.handle) } }
        answerOk (egressJoin s (otherPort x.port) x.bytes false) c [] [])

/-! ## Counters, prefetch and challenges (R88, R118, R119) -/

/-- Counter `i` of a wire: 0 to 15 for A→B, 16 to 31 for B→A (R118). -/
def verdictCount (s : State) (w i : Nat) : Nat :=
  if i < 16 then (wire s w).verdictsAB.get 0 i else (wire s w).verdictsBA.get 0 (i - 16)

/-- PSG_COUNTERS_READ: both words of each counter. -/
def execPsgCountersRead (c : Cmd) (s : State) : Outcome :=
  .next (command s c 0x0730 fun s => onWire s c fun w =>
    answerOk s c [] ((List.range 64).map fun k =>
      .reg (0x280000 + w * 0x200 + 4 * k) (BitVec.ofNat 32 (verdictCount s w (k / 2) / 2 ^ (32 * (k % 2))))))

/-- Ask for one key to be paged into a slot: its status, and the state with the request (R119).  A HIT marks the key as just used (R301).
DESIGN CHOICE: a reference that a response or the limit of outstanding page-ins makes unavailable gets NOT_READY (assumption 114). -/
def prefetch (s : State) (h : Nat) : State × Status :=
  match resolve s h with
  | .hit n _ _ => (touchSlot s n, .ok)
  | .absent => (s, .invalidKey)
  | .miss => if (vaultRecord s h).isSome then (askPageIn s h, .ok) else (askPageIn s h, .invalidKey)
  | .unavailable _ => (s, if !s.kst.ready || suspended s then .notReady else (pageGate s h).getD .notReady)

/-- Ask for several keys. -/
def prefetchAll (s : State) : List Nat → State × List Status
  | [] => (s, [])
  | h :: t =>
    let r := prefetch s h
    let q := prefetchAll r.1 t
    (q.1, r.2 :: q.2)

/-- PSG_KEY_PREFETCH. -/
def execPsgKeyPrefetch (c : Cmd) (s : State) : Outcome :=
  .next (command s c 0x0731 fun s =>
    if 64 < (c.values 1).length then answerStatus s c.reply .invalidLength
    else
      let r := prefetchAll s ((c.values 1).map leNat)
      answerOk r.1 c [] [.statuses r.2])

/-- PSG_DNP3_CHALLENGE: jobs that begin after it take the new message.  Of two failures the lower status answers (R8). -/
def execPsgDnp3Challenge (c : Cmd) (s : State) : Outcome :=
  .next (command s c 0x0742 fun s =>
    let a := c.nat 0x2D
    let m := c.bytes 0x2E
    if 248 < m.length then answerStatus s c.reply .invalidLength
    else if 1024 ≤ a then answerStatus s c.reply .invalidParameter
    else
      let e : Assoc := { count := ((s.psg.assocs.get {} a).count + 1) % 2 ^ 32, message := m }
      answerOk { s with psg := { s.psg with assocs := s.psg.assocs.put a e } } c [] [])

end Sys2Proof.Machine
end

