-- ==== Sys2Proof/Machine/RegRead.lean ====
section
/-!
DEFINITION. Reads of the register space: the value of every register, block by block in the order of R20, the snapshots of R18, and
which master reaches which block (R20, R21, R381).
-/

namespace Sys2Proof.Machine

/-- A number as a register value. -/
def numWord (n : Nat) : Word := BitVec.ofNat 32 n

/-- Word `k` of a byte string. -/
def wordAt (b : Bytes) (k : Nat) : Word := numWord (leNat (slice b (4 * k) 4))

/-- The index of an offset in a row of registers from `base` on, `n` of them `step` bytes apart. -/
def regIndex (off base step n : Nat) : Option Nat :=
  if base ≤ off && off < base + step * n && (off - base) % step = 0 then some ((off - base) / step) else none

/-- A number of bits set from the indices that meet `p`. -/
def bitsOf (n : Nat) (p : Nat → Bool) : Nat := ((List.range n).map fun i => bitAt (p i) i).sum

/-! ## ID and readiness (R19, R22, R490, R492, R495) -/

/-- The side of a port's wire selects a resident table. -/
def tableResident (s : State) (p : Nat) : Bool :=
  match (wire s (wireOf p)).active.table (sideOf p) with
  | some t => bit s.psg.resident t
  | none => false

/-- A port is ready (R495). -/
def portReady (s : State) (p : Nat) : Bool :=
  let q := port s p
  let mode := (wire s (wireOf p)).active.modeOf
  let served := if isChamber s p then (link s p).state == 2 else mode == 2 || mode == 3 || tableResident s p
  q.enable && q.linkUp && served && s.psg.seeded && bit s.id.ready 2

/-- The PASSAGE bit: at least one port is enabled, and every enabled port is ready. -/
def passageReady (s : State) : Bool :=
  let on := (List.range 144).filter fun p => (port s p).enable
  !on.isEmpty && on.all (portReady s)

/-- The ID and readiness block. -/
def idReg (s : State) (off : Nat) : Option Word :=
  if off = 0 then some 0x4144
  else if off = 4 then some 0xB1
  else if off = 8 then some (numWord (s.id.chamberId % 16))
  else if off = 0x10 then some (setBit s.id.ready 8 (passageReady s))
  else if off = 0x14 then some s.id.resetCause
  else if off = 0x18 then some 0
  else if off = 0x40 then some (setBit s.id.clk 3 true)
  else match regIndex off 0x20 4 4, regIndex off 0x50 4 5 with
    | some k, _ => some (wordAt s.id.serial k)
    | none, some j => some (numWord (bitsOf 32 fun i => decide (32 * j + i < 144) && portReady s (32 * j + i)))
    | none, none => none

/-! ## Mailboxes (R368, R369) -/

/-- A register of mailbox `n`, but for MBX_RSP_DATA. -/
def boxReg (s : State) (n off : Nat) : Option Word :=
  let b := mailbox s n
  let noReq := 5 < n
  if off = 0 then
    if noReq then some 0
    else some (numWord ((4096 - (b.req.words.length + b.req.tentative.length)) % 8192 + bitAt b.packet.isSome 13 + bitAt b.overrun 16
      + bitAt b.badPacket 17 + bitAt b.wrongPort 18))
  else if off = 4 then
    some (numWord (b.rsp.words.length % 8192 + bitAt (!b.rsp.words.isEmpty) 13 + bitAt b.gapLast 14 + bitAt b.noticeDropped 16))
  else if off = 8 || off = 0xC || off = 0x14 then some 0
  else if off = 0x18 then some (if noReq then 0 else numWord (b.req.wr % 8192 + b.req.rd % 8192 * 2 ^ 16))
  else if off = 0x1C then some (numWord (b.rsp.wr % 8192 + b.rsp.rd % 8192 * 2 ^ 16))
  else if off = 0x20 then some (numWord b.port)
  else if off = 0x24 then some (numWord b.badCount)
  else if off = 0x28 then some (numWord b.noticeLost)
  else if off = 0x2C then some (numWord b.ibiMerged)
  else none

/-- Sessions open on all mailboxes. -/
def openSessions (s : State) : Nat := ((List.range 8).map (openCount s)).sum

/-- The global mailbox registers. -/
def mbxGlobal (s : State) (off : Nat) : Option Word :=
  if off = 0 then
    some (numWord (s.mbx.dynAddr + bitAt s.mbx.addrValid 7 + bitAt s.mbx.ibiEn 8 + bitAt s.mbx.mgmtEn 9 + bitAt s.mbx.protocolErr 10))
  else if off = 4 then some s.mbx.sessionCfg
  else if off = 8 then some (numWord (openSessions s + s.mbx.offers.length * 2 ^ 8))
  else none

/-! ## Lantern (R429, R443) -/

/-- What a detector of a source last read: 0 before its first sample. -/
def sensed (s : State) (source unit : Nat) (b : Bool) : Nat := s.lan.values.get 0 (detector source unit b)

/-- The rails that Lantern measures (R501). -/
def railCount : Nat := 12

/-- A word of battery-backed RAM that the window shows: the secure-world area, and the battery log area. -/
def bbramWord (s : State) (o : Nat) : Option Word :=
  if 0x200 ≤ o && o < 0x1C00 then some (numWord (leNat (memLoad s.bb.area o 4)))
  else if 0x1C00 ≤ o && o < 0x1E00 then
    some (wordAt (((s.bb.log.look ((o - 0x1C00) / 16)).map batLogBytes).getD (zeros 16)) ((o - 0x1C00) % 16 / 4))
  else if 0x1E00 ≤ o && o < 0x1E20 then some (wordAt (corrBytes s) ((o - 0x1E00) / 4))
  else if 0x1E20 ≤ o && o < 0x2000 then some 0
  else none

/-- The Lantern block. -/
def lanReg (s : State) (off : Nat) : Option Word :=
  if off = 0 then
    some (numWord (s.lan.severity + bitAt (capped s) 3 + bitAt (!bit s.lan.active 6) 4 + bitAt s.lan.standbyOk 5
      + min s.lan.notices.length 32 * 2 ^ 8))
  else if off = 4 then some s.lan.active
  else if off = 8 then some s.lan.latched
  else if off = 0xC then some s.lan.raised
  else if off = 0x18 then some s.lan.cfg
  else if off = 0x1C then some (numWord s.lan.noticeLost)
  else if off = 0x20 then some (numWord (s.bb.logSeq % 65536 + s.bb.logReported % 65536 * 2 ^ 16))
  else if off = 0x380 then some (numWord (sensed s 1 0 false % 65536 + sensed s 1 0 true % 65536 * 2 ^ 16))
  else match regIndex off 0x100 4 32, regIndex off 0x180 4 32, regIndex off 0x200 4 8, regIndex off 0x300 4 16 with
    | some x, _, _, _ => if lanternSources.contains x then some (srcCfg s x) else none
    | _, some x, _, _ => if lanternSources.contains x then some (numWord (s.lan.srcCount.get 0 x)) else none
    | _, _, some n, _ => some (tmpCfg s n)
    | _, _, _, some r => if railCount ≤ r then none else some (numWord (sensed s 0 r false % 65536 + sensed s 0 r true % 65536 * 2 ^ 16))
    | _, _, _, _ => if 0x8000 ≤ off && off < 0xA000 then bbramWord s (off - 0x8000) else none

/-- The counters of the Lantern block read under R18. -/
def lanWide (s : State) (off : Nat) : Option Nat := if off = 0x10 then some (lanternTick s) else none

/-! ## Strata (R459) -/

/-- The Strata block. -/
def strReg (s : State) (off : Nat) : Option Word :=
  if off = 0 then
    let late := s.str.accums.countP fun e => decide (e.2.closeAt ≤ s.now)
    some (numWord (bitAt s.str.ready 0 + bitAt (s.str.ready && !s.str.closed.isEmpty) 1 + s.str.accums.length * 2 ^ 8 + late * 2 ^ 16
      + s.die.retired.length % 128 * 2 ^ 24))
  else if off = 4 then some s.str.cfg
  else if off = 0x10 then some (numWord (if s.str.ready then s.die.strata.countP fun e => decide (e.1 < 256) && e.2.valid else 0))
  else if off = 0x14 then some (numWord s.str.torn)
  else if off = 0x18 then some (numWord s.str.corrupt)
  else if off = 0x1C then some (numWord s.str.noticeLost)
  else if off = 0x20 then some (numWord ((s.die.erases.map (·.2)).foldl max 0))
  else (regIndex off 0x100 4 44).map fun i => codeCfg s i

/-- The counters of the Strata block read under R18. -/
def strWide (s : State) (off : Nat) : Option Nat := if off = 8 then some s.str.next else none

/-! ## Life cycle and debug (R419) -/

/-- Rights in force: a live certificate's, and those that stand open. -/
def lcyReg (s : State) (off : Nat) : Option Word :=
  let cert := s.lcy.cert
  if off = 0 then
    let test := 0x10 ≤ s.lcy.state && s.lcy.state ≤ 0x1F
    some (numWord (s.lcy.state % 256 + (if test then s.lcy.origin % 256 else 0) * 2 ^ 8 + (16 - bitsOf16 s.die.tokens) * 2 ^ 16
      + bitAt s.lcy.copyFault 21 + bitAt s.lcy.resumed 22))
  else if off = 4 then some (s.die.tokens &&& 0xFFFF)
  else if off = 8 then some (numWord s.die.log.length)
  else if off = 0x20 then
    some (numWord (bitAt cert.isSome 0 + rightsInForce s % 256 * 2 ^ 8 + dapKey s % 16 * 2 ^ 16))
  else if off = 0x24 then some (numWord ((cert.map (·.id)).getD 0))
  else if off = 0x40 then some 0
  else if off = 0x44 then some (numWord s.lcy.refused)
  else if off = 0x48 then some (numWord s.lcy.twinFault)
  else (regIndex off 0x30 4 3).map fun k => numWord (((cert.map fun c => c.wires.toNat).getD 0) / 2 ^ (32 * k))
where
  /-- Bits set among the low 16. -/
  bitsOf16 (w : Word) : Nat := (List.range 16).countP fun i => bit w i

/-- The counters of the life-cycle block read under R18. -/
def lcyWide (s : State) (off : Nat) : Option Nat := if off = 0x28 then some ((s.lcy.cert.map (·.notAfter)).getD 0) else none

/-! ## RNG (R239 to R241) -/

/-- A register of a noise cell. -/
def cellReg (s : State) (c off : Nat) : Option Word :=
  let x := cell s c
  if off = 0 then some (numWord (x.state + x.span % 256 * 2 ^ 8 + min (x.recent.countP id) 65535 * 2 ^ 16))
  else if off = 4 then some (numWord (x.rct % 65536 + x.apt % 65536 * 2 ^ 16))
  else if off = 8 then some (numWord x.bad)
  else if off = 0xC then some (numWord x.ones)
  else (regIndex off 0x10 4 8).map fun k => numWord (x.agree.getD k 0)

/-- A register of a DRBG instance. -/
def instReg (s : State) (i off : Nat) : Option Word :=
  let x := inst s i
  if off = 0 then
    some (numWord (x.state + bitAt x.askedAt.isSome 3 + min (x.priority.length + x.normal.length) 255 * 2 ^ 8))
  else if off = 4 then some (numWord (min x.calls (2 ^ 24)))
  else if off = 0x10 then some (numWord x.refused)
  else none

/-- RNG_STATUS. -/
def rngStatus (s : State) : Word :=
  let r := s.rng
  numWord (bitAt r.ready 0 + bitAt r.seeding 1 + bitAt r.failed 2 + bitAt r.testSource 3 + bitAt r.condFailed 4 + activeCells s * 2 ^ 8
    + bitsOf 8 (fun i => (inst s i).state == 1 || (inst s i).state == 2) * 2 ^ 16 + bitsOf 8 (fun i => (inst s i).state == 4) * 2 ^ 24)

/-- The RNG block. -/
def rngReg (s : State) (off : Nat) : Option Word :=
  if off = 0 then some (rngStatus s)
  else if off = 4 then some s.rng.cfg
  else if off = 8 then some s.rng.reseedCfg
  else if off = 0xC then some (numWord s.rng.fifo.length)
  else if off = 0x18 then some (numWord s.rng.condDropped)
  else if off = 0xC00 then some (numWord (bitAt (s.rng.testSource && s.lcy.state == 2) 0))
  else if off = 0xD00 then some 0
  else if off = 0xD04 then some (numWord (s.rng.katStatus + s.rng.katUnit % 16 * 2 ^ 16))
  else if 0x100 ≤ off && off < 0x500 then cellReg s ((off - 0x100) / 0x40) ((off - 0x100) % 0x40)
  else if 0x800 ≤ off && off < 0xA00 then instReg s ((off - 0x800) / 0x40) ((off - 0x800) % 0x40)
  else if 0x1000 ≤ off && off < 0x2000 then some (numWord (leNat (memLoad s.rng.pattern (off - 0x1000) 4)))
  else (regIndex off 0xC40 4 12).map fun k => wordAt s.rng.testCond k

/-- The counters of the RNG block read under R18. -/
def rngWide (s : State) (off : Nat) : Option Nat :=
  if off = 0x10 then some s.rng.condBlocks
  else (regIndex off 0x808 0x40 8).map fun i => (inst s i).reseeds

/-! ## Key store (R279) -/

/-- The key store block. -/
def kstReg (s : State) (off : Nat) : Option Word :=
  let k := s.kst
  if off = 0 then
    some (numWord (bitAt k.ready 0 + bitAt k.root.isSome 1 + bitAt k.rootCheckFailed 2 + bitAt (suspended s) 3
      + bitAt (!(domain s 0).officers.isEmpty) 4 + bitAt k.domainsLoaded 5))
  else if off = 4 then some (numWord k.slots.length)
  else if off = 8 then some (numWord (k.slots.countP fun e => e.2.attr.session))
  else if off = 0xC then some (numWord (longUsed s))
  else if off = 0x10 then some (numWord (k.domains.countP fun e => e.2.state == .active))
  else if off = 0x14 then some (numWord (k.nonces.length + k.transports.length * 2 ^ 8))
  else if off = 0x18 then some (numWord k.quorumFault)
  else if off = 0x30 then some k.cfg
  else none

/-- The counters of the key store block read under R18. -/
def kstWide (s : State) (off : Nat) : Option Nat :=
  if off = 0x20 then some s.kst.importFail else if off = 0x28 then some s.kst.evictions else none

/-! ## Engines (R192, R202, R215) -/

/-- The code of a lane's or service engine's state. -/
def laneCode : LaneState → Nat
  | .selfTest => 0
  | .idle => 1
  | .busy => 2
  | .zeroing => 3
  | .failed => 4
  | .offline => 5
  | .unseeded => 6

/-- STATE of a lane or service MAC engine: ZEROING while an engine that runs nothing zeroes itself (R188, R192). -/
def engineCode (s : State) (st : LaneState) (zeroUntil : Time) : Nat :=
  laneCode (if st = .idle && s.now < zeroUntil then .zeroing else st)

/-- A register of a keyed-check lane. -/
def laneReg (s : State) (p l off : Nat) : Option Word :=
  let x := lane s p l
  if off = 0 then
    some (numWord (engineCode s x.state x.zeroUntil + bitAt (starved s (2 * p + l)) 3 + min x.queue.length 32 * 2 ^ 8))
  else if off = 4 then some 0
  else if off = 8 then some (numWord (x.faults % 256 + x.katFails % 256 * 2 ^ 8))
  else if off = 0x18 then some (numWord (min (laneServed s x) (2 ^ 21 - 1)))
  else if off = 0x1C then some (numWord x.mask.refused)
  else none

/-- The state of a service engine's lock: 0 FREE, 1 HELD, 2 ZEROING. -/
def lockState (s : State) (x : Svc) : Nat := if x.hold.isSome then 1 else if s.now < x.zeroUntil then 2 else 0

/-- A register of service MAC engine `e`. -/
def svcReg (s : State) (e off : Nat) : Option Word :=
  let x := svc s e
  if off = 0 then some (numWord (lockState s x + ((x.hold.map (·.ticket)).getD 0) % 65536 * 2 ^ 16))
  else if off = 4 then some (numWord ((x.hold.map (·.user)).getD 0))
  else if off = 8 then some 0
  else if off = 0xC then
    some (numWord (engineCode s x.state x.zeroUntil + bitAt (starved s (288 + e)) 3 + min ((x.hold.map (·.queue.length)).getD 0) 8 * 2 ^ 4))
  else if off = 0x10 then some (numWord (x.faults % 256))
  else none

/-- The service MAC block. -/
def svcSpace (s : State) (off : Nat) : Option Word :=
  if off < 0x8000 then svcReg s (off / 0x400) (off % 0x400)
  else if off = 0x8000 then some s.eng.svcCfg
  else if off = 0x8004 then some (numWord (bitsOf 32 (svcReady s)))
  else if off = 0x8008 then some (numWord s.eng.svcTimeouts)
  else none

/-- The counters of the service MAC block read under R18: a running segment's blocks count as they are computed. -/
def svcWide (s : State) (off : Nat) : Option Nat := (regIndex off 0x18 0x400 32).map fun e =>
  satAdd 64 (svc s e).blocks ((((svc s e).hold.bind (·.running)).map (svcDone s)).getD 0)

/-- The code of a digest engine's state. -/
def digestCode : DigestState → Nat
  | .selfTest => 0
  | .idle => 1
  | .busy => 2
  | .failed => 4
  | .offline => 5

/-- A context's job is one of Passage. -/
def ofPassage : DigestUser → Bool
  | .passage _ => true
  | .service _ => false

/-- DGS_CTX_STATUS and DGS_RESULT of context `c` of engine `d` (R211): a result is shown only while the context is DONE, and not for
Passage or a job sent to a slot.  STATUS of a FREE context reads 0, as after reset (assumption 71). -/
def ctxReg (s : State) (d c off : Nat) : Option Word :=
  let x := (digestEngine s d).ctxs.look c
  let done := x.bind (·.done)
  if off = 0 then
    let st := if x.isNone then 0 else if done.isSome then 2 else 1
    let owner := match x with
      | some y => ofPassage y.user
      | none => decide (c < 6)
    some (numWord (st + bitAt owner 2 + ((x.map (·.algo)).getD 0) * 2 ^ 8
      + (if x.isNone then 0 else Status.code ((done.map (·.1)).getD .resultNotReady)) * 2 ^ 16))
  else (regIndex off 0x40 4 16).map fun k => match x, done with
    | some y, some (_, b) => if ofPassage y.user then 0 else wordAt (b ++ zeros (64 - b.length)) k
    | _, _ => 0

/-- The digest block. -/
def dgsSpace (s : State) (off : Nat) : Option Word :=
  let d := off / 0x2000
  let o := off % 0x2000
  let x := digestEngine s d
  if o = 0 then some (numWord (digestCode x.state + bitsOf 8 (fun c => (x.ctxs.look c).isSome) * 2 ^ 8))
  else if o = 4 then some 0
  else if o = 8 then some (numWord (x.faults % 256))
  else if 0x100 ≤ o && o < 0x900 then ctxReg s d ((o - 0x100) / 0x100) ((o - 0x100) % 0x100)
  else if off = 0x1800 then some s.eng.dgsCfg
  else if off = 0x1804 then some (numWord (bitsOf 32 (digestReady s)))
  else if off = 0x1808 then some (numWord (bitsOf 32 fun i => digestReady s (32 + i)))
  else if off = 0x180C then some (numWord (s.eng.digestWait.length % 65536))
  else none

/-- The counters of the digest block read under R18. -/
def dgsWide (s : State) (off : Nat) : Option Nat := (regIndex off 0x10 0x2000 64).map fun d => (digestEngine s d).blocks

/-! ## Public-key cores (R180, R181) -/

/-- The code of a core's state. -/
def coreCode : CoreState → Nat
  | .selfTest => 0
  | .idle => 1
  | .busy => 2
  | .zeroing => 3
  | .failed => 4
  | .offline => 5

/-- PKE_CORE_STATUS. -/
def coreStatus (s : State) (n : Nat) : Word :=
  let x := core s n
  numWord (coreCode x.state + bitAt (inPassage s n) 3 + bitAt x.moving 4 + ((x.running.map (·.op)).getD 0) % 256 * 2 ^ 8
    + ((x.running.map (·.algo)).getD 0) % 256 * 2 ^ 16)

/-- The pool registers. -/
def poolReg (s : State) (off : Nat) : Option Word :=
  let p := s.pke
  let readyIn (b : Bool) : Nat := (List.range 96).countP fun n => coreReady s n && inPassage s n == b
  if off = 0x820 then some 0
  else if off = 0x824 then some (numWord (bitAt p.target.isSome 0 + bitAt p.grant 1))
  else if off = 0x828 then some (numWord p.gen)
  else if off = 0x82C then some (numWord (p.commitErr % 65536))
  else if off = 0x840 then
    let down := (List.range 96).countP fun n => (core s n).state == .failed || (core s n).state == .offline
    some (numWord (readyIn true + readyIn false * 2 ^ 8 + down * 2 ^ 16))
  else if off = 0x844 then some (numWord (p.waiting.length % 65536))
  else if off = 0x848 then some (numWord p.faultTotal)
  else match regIndex off 0x800 4 3, regIndex off 0x810 4 3, regIndex off 0x830 4 3 with
    | some k, _, _ => some (p.shadow.getD k 0)
    | _, some k, _ => some (p.active.getD k 0)
    | _, _, some k => some (numWord (bitsOf 32 fun i => coreReady s (32 * k + i)))
    | _, _, _ => none

/-- The public-key block. -/
def pkeSpace (s : State) (off : Nat) : Option Word :=
  let n := off / 0x1000
  let o := off % 0x1000
  let x := core s n
  if o = 0 then some (coreStatus s n)
  else if o = 4 then some 0
  else if o = 8 then some (numWord (x.faults % 256 + x.watchdogs % 256 * 2 ^ 8 + x.lastInvariant % 256 * 2 ^ 16))
  else if n = 0 then poolReg s o
  else none

/-- The counters of the public-key block read under R18. -/
def pkeWide (s : State) (off : Nat) : Option Nat :=
  let x := core s (off / 0x1000)
  let running := (x.running.map fun r => (s.now - r.startAt) / nclkT).getD 0
  if off % 0x1000 = 0x10 then some x.jobs else if off % 0x1000 = 0x18 then some (satAdd 64 x.busy running) else none

/-! ## Passage (R42, R63, R76, R117, R118, R124) -/

/-- A table is selected by an ACTIVE or SHADOW bank. -/
def tableInUse (s : State) (t : Nat) : Bool :=
  s.psg.wires.any fun e => [e.2.active, e.2.shadow].any fun b => b.table 0 == some t || b.table 1 == some t

/-- A wire's control registers. -/
def wireControl (s : State) (w off : Nat) : Option Word :=
  let x := wire s w
  if off = 0x800 then some 0
  else if off = 0x804 then
    some (numWord (bitAt x.pending.isSome 0 + bitAt x.locked 1 + bitAt x.grant 2 + bitAt ((x.pending.map (·.takenA)).getD false) 3
      + bitAt ((x.pending.map (·.takenB)).getD false) 4))
  else if off = 0x808 then some (numWord x.gen)
  else if off = 0x80C then some (numWord (x.commitStatus % 65536 + x.commitField % 65536 * 2 ^ 16))
  else none

/-- A wire's configuration block. -/
def wireReg (s : State) (w off : Nat) : Option Word :=
  if off < 0x400 then (wire s w).shadow.read off
  else if off < 0x800 then (wire s w).active.read (off - 0x400)
  else wireControl s w off

/-- A wire's status block.  PSG_WIRE_HELD counts every frame in the wire's two lines, the uncharged ones that wait for their place
among them (assumption 125). -/
def wireStatus (s : State) (w off : Nat) : Option Word :=
  let x := wire s w
  if off = 0x100 then some (numWord x.holdUsed)
  else if off = 0x104 then some (numWord x.holdPeak)
  else if off = 0x108 then some (numWord (((port s (2 * w)).line.length + (port s (2 * w + 1)).line.length) % 65536))
  else if off = 0x118 then some (pairStatus s w)
  else none

/-- The counters of a wire's status block read under R18. -/
def wireWide (s : State) (w off : Nat) : Option Nat :=
  if off = 0x110 then some (wire s w).lanMismatch else (regIndex off 0 8 32).map fun i => verdictCount s w i

/-- The registers of the Passage global block below the wires' blocks. -/
def psgReg (s : State) (off : Nat) : Option Word :=
  let g := s.psg
  if off = 0 then some (numWord (bitAt g.seeded 0))
  else if off = 0x10 then some g.resident
  else if off = 0x14 then some (numWord (bitsOf 16 (tableInUse s)))
  else if off = 0x100 then some g.flwCfg
  else if off = 0x104 then some (numWord (g.flows.length + (g.flows.countP fun e => e.2.pinned) * 2 ^ 16))
  else if off = 0x200 then some g.vlogCfg
  else if off = 0x204 then some (numWord g.vlogHead)
  else if off = 0x208 then some (numWord g.vlogTail)
  else if off = 0x218 then some (numWord ((passageCores s).length % 128 + g.bound.length % 2048 * 2 ^ 8))
  else if off = 0x21C then some (numWord (g.digestQ.length % 2048))
  else if off = 0x228 then some (numWord (min g.pageMax 65535))
  else if off = 0x22C then some (numWord (g.wires.map (·.2.holdUsed)).sum)
  else if off = 0x230 then some (numWord g.twinFault)
  else none

/-- The 256 bytes of a DNP3 association (R88). -/
def assocBytes (a : Assoc) : Bytes :=
  leBytes 2 a.message.length ++ zeros 2 ++ leBytes 4 a.count ++ a.message ++ zeros (248 - a.message.length)

/-- A word of table memory (R43, R47): step by step from step 0 of table 0; steps that no loaded table fills read 0 (assumption 126). -/
def tableWord (s : State) (off : Nat) : Word :=
  let steps := ((s.psg.tables.look (off / 0x10000)).map (·.steps)).getD []
  (steps.getD (off % 0x10000 / 16) 0).extractLsb' (32 * (off % 16 / 4)) 32

/-- The Passage global block: its own registers, the wires' configuration and status blocks, the association table and table memory. -/
def psgSpace (s : State) (off : Nat) : Option Word :=
  if off < 0x1000 then psgReg s off
  else if off < 0x49000 then wireReg s ((off - 0x1000) / 0x1000) ((off - 0x1000) % 0x1000)
  else if 0x80000 ≤ off && off < 0x89000 then wireStatus s ((off - 0x80000) / 0x200) ((off - 0x80000) % 0x200)
  else if 0xC0000 ≤ off && off < 0x100000 then
    some (wordAt (assocBytes (s.psg.assocs.get {} ((off - 0xC0000) / 0x100))) (off % 0x100 / 4))
  else if 0x100000 ≤ off && off < 0x200000 then some (tableWord s (off - 0x100000))
  else none

/-- The counters of the Passage global block read under R18. -/
def psgWide (s : State) (off : Nat) : Option Nat :=
  if off = 0x108 then some s.psg.insertFail
  else if off = 0x210 then some s.psg.vlogLost
  else if off = 0x220 then some s.psg.keyMiss
  else if 0x80000 ≤ off && off < 0x89000 then wireWide s ((off - 0x80000) / 0x200) ((off - 0x80000) % 0x200)
  else none

/-- A port window. -/
def portReg (s : State) (p off : Nat) : Option Word :=
  let q := port s p
  if off = 0 then some q.cfg
  else if off = 4 then
    some (numWord (bitAt q.linkUp 0 + q.speedActive % 4 * 2 + bitAt q.fecActive 3 + bitAt (isChamber s p) 8 + wireOf p * 2 ^ 16
      + sideOf p * 2 ^ 23))
  else if off = 8 then some q.event
  else if 0x2000 ≤ off && off < 0x3000 then laneReg s p ((off - 0x2000) / 0x800) ((off - 0x2000) % 0x800)
  else none

/-- The counters of a port window read under R18. -/
def portWide (s : State) (p off : Nat) : Option Nat :=
  match regIndex off 0x100 8 10, regIndex off 0x2010 0x800 2 with
  | some _, _ => some ((port s p).counters.get 0 off)
  | none, some l => some (satAdd 64 (lane s p l).blocks (runDone s (lane s p l)))
  | none, none => none

/-! ## Host queue contexts (R334) -/

/-- The queues that hold contexts, in the order of their functions and numbers: the order in which the model shows the contexts
(DESIGN CHOICE, assumption 66). -/
def contextList (s : State) : List (Nat × Queue) :=
  s.host.funcs.flatMap fun f => f.2.queues.filter fun q => q.2.created

/-- The first 128 bytes of a queue-pair context; the rest is reserved. -/
def contextReg (s : State) (off : Nat) : Option Word :=
  if 128 ≤ off % 0x400 then none
  else match (contextList s)[off / 0x400]? with
    | some (q, x) => some (wordAt (queueRecord q x) (off % 0x400 / 4))
    | none => some 0

/-! ## Geode (R305, R306) -/

/-- The code of the vault's state. -/
def vaultCode : VaultState → Nat
  | .notMounted => 0
  | .mounting => 1
  | .normal => 2
  | .readOnly => 3
  | .integrityFailed => 4

/-- GEO_STATUS. -/
def geoStatus (s : State) : Word :=
  let g := s.geo
  numWord (vaultCode g.state + bitAt g.degraded 3 + bitAt g.low25 4 + bitAt g.low10 5 + bitAt g.scrubbing 6 + g.reason % 16 * 2 ^ 8
    + bitsOf 8 (fun c => (channel s c).state == 3) * 2 ^ 16)

/-- The Geode block. -/
def geoReg (s : State) (off : Nat) : Option Word :=
  let g := s.geo
  if off = 0 then some (geoStatus s)
  else if off = 4 then some g.cfg
  else if off = 8 then some g.chanCfg
  else if off = 0x18 then some (numWord s.flash.capacityMib)
  else if off = 0x1C then some (numWord (usedCells s.flash.objects / 256))
  else if off = 0x20 then some (numWord (sparePermille s + reservePermille s * 2 ^ 16))
  else if off = 0x24 then some (numWord s.psg.pageIns.length)
  else if off = 0x28 then some (numWord (min g.pageInMax 65535))
  else if off = 0x30 then some (numWord g.retired)
  else if off = 0x40 then some (numWord g.passes)
  else if off = 0x44 then some (numWord g.mountMs)
  else if off = 0x48 then some (numWord s.bb.failCell)
  else match regIndex off 0x100 0x10 8, regIndex off 0x104 0x10 8 with
    | some c, _ =>
      let x := channel s c
      some (numWord (x.state + x.rate % 256 * 2 ^ 8 + x.found % 8 * 2 ^ 16 + x.unused % 16 * 2 ^ 24))
    | none, some c => some (numWord (channel s c).retired)
    | none, none => none

/-- The counters of the Geode block read under R18. -/
def geoWide (s : State) (off : Nat) : Option Nat :=
  if off = 0x10 then some s.flash.epoch
  else if off = 0x38 then some s.geo.repaired
  else if off = 0x50 then some s.geo.pageInFail
  else none

/-! ## Time (R444) -/

/-- The time block, but for what a snapshot holds. -/
def timReg (s : State) (off : Nat) : Option Word :=
  let u := s.tim
  if off = 0 then
    some (numWord (bitAt u.locked 0 + bitAt u.estimated 1 + bitAt u.holdover 2 + bitAt u.freeStart 3 + timSource s * 2 ^ 4
      + u.goodCount % 256 * 2 ^ 8 + u.gmPort % 256 * 2 ^ 16))
  else if off = 4 then some u.event
  else if off = 8 then some (numWord (devNs s))
  else if off = 0x14 then some (BitVec.ofInt 32 (max (-2147483648) (min 2147483647 u.offset)))
  else if off = 0x18 then some (BitVec.ofInt 32 u.freq)
  else if off = 0x1C then some (BitVec.ofInt 32 u.path)
  else if off = 0x20 then some u.cfg
  else if off = 0x24 then some u.ptpPorts
  else if off = 0x28 then some u.lockCfg
  else if off = 0x2C then some u.holdCfg
  else if off = 0x30 then some u.ppsCfg
  else if off = 0x34 then some u.ppsComp
  else none

/-- The counters of the time block read under R18. -/
def timWide (s : State) (off : Nat) : Option Nat :=
  if off = 0x40 then some s.tim.gmId
  else if off = 0x60 then some s.tim.syncRx
  else if off = 0x68 then some s.tim.discard
  else none

/-- What a read of a register of the time block latches: TIM_NOW_NS the seconds, and the low word of TIM_CORR_TICK the rest of its
group. -/
def timLatch (s : State) (off : Nat) : List (Nat × Nat) :=
  if off = 8 then [(0xC, devSec s), (0x10, devSec s / 2 ^ 32 % 65536)]
  else if off = 0x50 then
    [(0x54, s.tim.corrTick / 2 ^ 32 % 65536), (0x58, s.tim.corrSec), (0x5C, s.tim.corrSec / 2 ^ 32 % 65536)]
  else []

/-! ## Chamber and Karst (R138, R483) -/

/-- The chamber and Karst block. -/
def chamReg (s : State) (off : Nat) : Option Word :=
  if 0x1000 ≤ off then karReg s off else (chamberRegs s).lookup off

/-- The counters of the chamber and Karst block read under R18. -/
def chamWide (s : State) (off : Nat) : Option Nat :=
  if off = 0x60 then some s.cham.lentOut
  else if off = 0x68 then some s.cham.lentIn
  else if off = 0x70 then some s.cham.declined
  else if off = 0x78 then some s.cham.lost
  else if off = 0x80 then some s.cham.authFail
  else if off = 0x1038 then some (rosterVersion s)
  else if off = 0x1040 then some s.kar.msgRx
  else if off = 0x1048 then some s.kar.authFail
  else if off = 0x1050 then some s.kar.commits
  else none

/-! ## Worlds and protection (R379, R398) -/

/-- WLD_STATUS. -/
def wldStatus (s : State) : Word :=
  let w := s.wld
  numWord (bitAt w.secureUp 0 + bitAt w.normalUp 1 + bitAt w.halted 2 + bitAt w.trialSecure 3 + bitAt w.trialNormal 4
    + bitsOf 4 (fun p => (pair s p).online) * 2 ^ 8 + bitsOf 4 (fun p => sharedPair s == some p) * 2 ^ 12 + w.restarts % 256 * 2 ^ 16)

/-- KEY and SEC of a master as WLD_MPU shows them: a control processor's by its world, and the debug access port's by its certificate. -/
def mpuWord (s : State) (m : Nat) : Word :=
  let world (p : Nat) : Nat := if secureOn s p then 0x10 else nwKey s
  if m ≤ 3 then numWord (world m)
  else if m = 12 then numWord (dapKey s % 16)
  else numWord (s.wld.mpu.get (mpuReset m) m)

/-- Bits of word `j` of a list of units. -/
def unitBits (l : List Nat) (j : Nat) : Word := numWord (bitsOf 32 fun i => l.contains (32 * j + i))

/-- The worlds block. -/
def wldReg (s : State) (off : Nat) : Option Word :=
  let w := s.wld
  if off = 0 then some (wldStatus s)
  else if off = 4 then some w.home
  else if off = 8 then some w.cfg
  else if off = 0xC then some w.cfg2
  else if off = 0x10 || off = 0x14 || off = 0x1C || off = 0x100 then some 0
  else if off = 0x18 then
    some (numWord (w.bootedSecure + s.die.secureNext * 2 + w.bootedNormal * 4 + s.die.normalNext * 8 + s.die.svnSecure % 64 * 2 ^ 4
      + s.die.svnNormal % 64 * 2 ^ 10 + w.resultSecure % 8 * 2 ^ 16 + w.resultNormal % 8 * 2 ^ 20))
  else if off = 0x20 then some (numWord w.violationCount)
  else if off = 0x24 then some (numWord w.violationNo)
  else if 0x200 ≤ off && off < 0x400 then some (wordAt (violationEntry s ((off - 0x200) / 0x20)) ((off - 0x200) % 0x20 / 4))
  else if 0x10000 ≤ off && off < 0x18000 then some (pageEntry s ((off - 0x10000) / 4))
  else match regIndex off 0x40 4 13, regIndex off 0x110 4 6, regIndex off 0x130 4 6, regIndex off 0x150 4 6, regIndex off 0x170 4 6 with
    | some m, _, _, _, _ => some (mpuWord s m)
    | _, some j, _, _, _ => some (unitBits (w.pwrPending.map (·.1)) j)
    | _, _, some j, _, _ => some (unitBits w.clkOff j)
    | _, _, _, some j, _ => some (unitBits w.pwrOff j)
    | _, _, _, _, some j => some (w.owner.get 0 j)
    | _, _, _, _, _ => none

/-! ## The whole space (R18, R20, R21) -/

/-- The register at an address, but for the counters of `wideReg`, the shadows, and MBX_RSP_DATA. -/
def plainReg (s : State) (a : Nat) : Option Word :=
  if a % 4 ≠ 0 then none
  else if a < 0x10000 then idReg s a
  else if a < 0x10800 then boxReg s ((a - 0x10000) / 0x100) (a % 0x100)
  else if a < 0x20000 then mbxGlobal s (a - 0x10800)
  else if a < 0x30000 then lanReg s (a - 0x20000)
  else if a < 0x40000 then strReg s (a - 0x30000)
  else if a < 0x50000 then lcyReg s (a - 0x40000)
  else if a < 0x60000 then rngReg s (a - 0x50000)
  else if a < 0x70000 then kstReg s (a - 0x60000)
  else if a < 0x80000 then svcSpace s (a - 0x70000)
  else if a < 0x100000 then dgsSpace s (a - 0x80000)
  else if a < 0x160000 then pkeSpace s (a - 0x100000)
  else if a < 0x200000 then none
  else if a < 0x400000 then psgSpace s (a - 0x200000)
  else if a < 0x640000 then portReg s ((a - 0x400000) / 0x4000) (a % 0x4000)
  else if a < 0x800000 then none
  else if a < 0xC00000 then some (wordAt (flowBytes s ((a - 0x800000) / 0x100)) (a % 0x100 / 4))
  else if a < 0x1000000 then none
  else if a < 0x2000000 then contextReg s (a - 0x1000000)
  else if a < 0x2100000 then geoReg s (a - 0x2000000)
  else if a < 0x2200000 then timReg s (a - 0x2100000)
  else if a < 0x3000000 then chamReg s (a - 0x2200000)
  else if a < 0x4000000 then wldReg s (a - 0x3000000)
  else none

/-- The counter of more than 32 bits whose low word lies at an address (R18). -/
def wideReg (s : State) (a : Nat) : Option Nat :=
  if a < 0x20000 then none
  else if a < 0x30000 then lanWide s (a - 0x20000)
  else if a < 0x40000 then strWide s (a - 0x30000)
  else if a < 0x50000 then lcyWide s (a - 0x40000)
  else if a < 0x60000 then rngWide s (a - 0x50000)
  else if a < 0x70000 then kstWide s (a - 0x60000)
  else if a < 0x80000 then svcWide s (a - 0x70000)
  else if a < 0x100000 then dgsWide s (a - 0x80000)
  else if a < 0x160000 then pkeWide s (a - 0x100000)
  else if a < 0x200000 then none
  else if a < 0x400000 then psgWide s (a - 0x200000)
  else if a < 0x640000 then portWide s ((a - 0x400000) / 0x4000) (a % 0x4000)
  else if a < 0x2000000 then none
  else if a < 0x2100000 then geoWide s (a - 0x2000000)
  else if a < 0x2200000 then timWide s (a - 0x2100000)
  else if a < 0x3000000 then chamWide s (a - 0x2200000)
  else none

/-- Latch words into the shadows. -/
def latch (s : State) (l : List (Nat × Nat)) : State :=
  { s with snaps := l.foldl (fun t e => t.set 0 e.1 (numWord e.2)) s.snaps }

/-- A read-to-clear field clears (R117, R118, R305): PSG_WIRE_HOLD_PEAK goes on from the bytes then charged (assumption 125). -/
def clearRead (s : State) (a : Nat) : State :=
  if a = 0x200228 then { s with psg := { s.psg with pageMax := 0 } }
  else if a = 0x2000028 then { s with geo := { s.geo with pageInMax := 0 } }
  else if 0x280000 ≤ a && a < 0x289000 && a % 0x200 = 0x104 then
    updWire s ((a - 0x280000) / 0x200) fun x => { x with holdPeak := x.holdUsed }
  else s

/-- The addresses of the time block whose words only a latch fills. -/
def timShadows : List Nat := [0xC, 0x10, 0x54, 0x58, 0x5C].map (0x2100000 + ·)

/-- Read an assigned register: its value and what the read does; none where the address is unassigned. -/
def readValue (s : State) (a : Nat) : Option (Word × State) :=
  if a % 4 ≠ 0 then none
  else if timShadows.contains a then some (s.snaps.get 0 a, s)
  else if a = 0x2100050 then some (numWord s.tim.corrTick, latch s ((timLatch s 0x50).map fun e => (0x2100000 + e.1, e.2)))
  else if a = 0x2100008 then some (numWord (devNs s), latch s ((timLatch s 8).map fun e => (0x2100000 + e.1, e.2)))
  else match wideReg s a, (if 4 ≤ a then wideReg s (a - 4) else none) with
    | some n, _ => some (numWord n, latch s [(a + 4, n / 2 ^ 32)])
    | none, some _ => some (s.snaps.get 0 a, s)
    | none, none => (plainReg s a).map fun v => (v, clearRead s a)

/-- What a master may do in the block of an address: 0 nothing, 1 read, 2 read and write (R20, R381; for a debug probe R414). -/
def blockRight (m : Master) (a : Nat) : Nat :=
  let port := 0x400000 ≤ a && a < 0x640000
  let time := 0x2100000 ≤ a && a < 0x2200000
  match m with
  | .secure _ => 2
  | .pf0 => if a < 0x10000 || port || time then 1 else if a < 0x20000 then 2 else 0
  | .normal _ => if a < 0x10000 || port || time then 1 else if a < 0x20000 then 2 else 0
  | .i3c => if a < 0x10000 || time then 1 else if a < 0x20000 then 2 else 0
  | .dap => if port || (0x280000 ≤ a && a < 0x289000) || (0x30000 ≤ a && a < 0x40000) then 1 else 0

/-- The mailbox whose own registers hold an address. -/
def boxOf (a : Nat) : Option Nat := if 0x10000 ≤ a && a < 0x10800 then some ((a - 0x10000) / 0x100) else none

/-- A read that is refused gives 0 (R21); one of another port's mailbox sets its WRONG_PORT (R344). -/
def refuseRead (s : State) (m : Master) (a : Nat) : State × Word := (refuseAccess s m a false, 0)

/-- Read a register as a master: the access is refused, or gives the register's value. -/
def readRegister (s : State) (m : Master) (a : Nat) : State × Word :=
  if blockRight m a = 0 then refuseRead s m a
  else match boxOf a with
    | some n =>
      if !reaches s m n then (wrongPort s m n a false, 0)
      else if a % 0x100 = 0x10 then takeRspWord s n
      else match boxReg s n (a % 0x100) with
        | some v => (s, v)
        | none => refuseRead s m a
    | none => match readValue s a with
      | some (v, s) => (s, v)
      | none => refuseRead s m a

end Sys2Proof.Machine
end

