-- ==== Sys2Proof/Machine/RegWrite.lean ====
section
/-!
DEFINITION. Writes of the register space, block by block, and the commands that reach it: a register write or read of a master, and the
I3C register path (R3, R4, R18, R20, R21, R311, R343).
-/

namespace Sys2Proof.Machine

/-! ## Blocks: none where the register takes no write of its own -/

/-- Carry out `f` where a bit of the written word is 1. -/
def onBit (v : Word) (i : Nat) (f : State → State) (s : State) : State := if bit v i then f s else s

/-- A write within its range stores, and one outside it is ignored whole. -/
def inRange (s : State) (ok : Bool) (f : State) : Option State := some (if ok then f else s)

/-- The ID block (R19, R490). -/
def idWrite (s : State) (off : Nat) (v : Word) : Option State :=
  if off = 0x18 then some (softReset s v)
  else if off = 0x40 then some { s with id := { s.id with clk := storeW1C s.id.clk v 0x00F70000 } }
  else none

/-- A mailbox's registers (R368); the request registers of MB6 and MB7 are dealt with before. -/
def boxWrite (s : State) (n off : Nat) (v : Word) : Option State :=
  if off = 0 then
    some (updMailbox s n fun b => { b with
      overrun := b.overrun && !bit v 16, badPacket := b.badPacket && !bit v 17, wrongPort := b.wrongPort && !bit v 18 })
  else if off = 4 then some (updMailbox s n fun b => { b with noticeDropped := b.noticeDropped && !bit v 16 })
  else if off = 8 then some (writeHdr s n v)
  else if off = 0xC then some (writeData s n v)
  else if off = 0x14 then some (onBit v 0 (fun s => rewindRsp s n) s)
  else if off = 0x20 then
    let p := field v 1 0
    some (if p = 3 || p = (mailbox s n).port then s else movePort s n p)
  else none

/-- The global mailbox registers (R369). -/
def mbxWrite (s : State) (off : Nat) (v : Word) : Option State :=
  if off = 0 then some { s with mbx := { s.mbx with protocolErr := s.mbx.protocolErr && !bit v 10 } }
  else if off = 4 then
    inRange s (60 ≤ field v 16 0 && field v 16 0 ≤ 86400) { s with mbx := { s.mbx with sessionCfg := storeMasked s.mbx.sessionCfg v 0x1FFFF } }
  else none

/-- A write of LAN_TMP_CFG: ignored whole where its pair would not stand; arming a pair seeds its LFSR (R427). -/
def writeTmp (s : State) (n : Nat) (v : Word) : State :=
  let k := n / 2
  let new := setTmp s n v
  if !pairOk (tmpCfg new (2 * k)) (tmpCfg new (2 * k + 1)) then s
  else if pairArmed new k && !pairArmed s k then
    match draw new 1 false 4 with
    | (s, .ok b) => seedPair s k b
    | (s, .error _) => s
  else new

/-- The Lantern block (R429, R443). -/
def lanWrite (s : State) (off : Nat) (v : Word) : Option State :=
  if off = 0xC then some { s with lan := { s.lan with raised := storeW1C s.lan.raised v 0xFFFFFFFF } }
  else if off = 0x18 then
    inRange s (10 ≤ field v 9 0 && field v 9 0 ≤ 1000 && 2 ≤ field v 19 16)
      { s with lan := { s.lan with cfg := storeMasked s.lan.cfg v 0xF03FF } }
  else if 0x100 ≤ off && off < 0x180 && lanternSources.contains ((off - 0x100) / 4) then
    inRange s (sourceOk off v) (writeSource s ((off - 0x100) / 4) v)
  else match regIndex off 0x200 4 8 with
    | some n => some (writeTmp s n v)
    | none =>
      if 0x8200 ≤ off && off < 0x9C00 then
        some { s with bb := { s.bb with area := memStore s.bb.area (off - 0x8000) (leBytes 4 v.toNat) } }
      else none

/-- The Strata block (R459). -/
def strWrite (s : State) (off : Nat) (v : Word) : Option State :=
  if off = 4 then
    inRange s (64 ≤ field v 13 0 && field v 13 0 ≤ 8192) { s with str := { s.str with cfg := storeMasked s.str.cfg v 0x3FFF } }
  else (regIndex off 0x100 4 44).bind fun i =>
    inRange s (1 ≤ field v 11 0 && field v 11 0 ≤ 3600)
      { s with str := { s.str with codeCfg := s.str.codeCfg.set 60 i (storeMasked (codeCfg s i) v 0x1FFF) } }

/-- The life-cycle block (R419). -/
def lcyWrite (s : State) (off : Nat) (v : Word) : Option State :=
  if off = 0x40 then some (onBit v 0 (fun s => endCertificate s 2) s) else none

/-- The RNG block (R239, R241); the test source and the pattern memory are refused outside MANUFACTURE before.  A START
while another test runs is ignored (assumption 120). -/
def rngRegWrite (s : State) (off : Nat) (v : Word) : Option State :=
  if off = 4 || off = 8 then inRange s (rngWriteOk (off, v)) (rngWrite s (off, v))
  else if off = 0xC00 then some (setTestSource s (bit v 0))
  else if off = 0xD00 then
    if bit v 4 && field v 3 0 ≤ 8 && s.rng.katRun.isNone then
      let (k, s) := drawFree s
      some (startKat s (field v 3 0) (Config.freeNat k % 2 == 1) none)
    else some s
  else if 0x1000 ≤ off && off < 0x2000 then
    some { s with rng := { s.rng with pattern := memStore s.rng.pattern (off - 0x1000) (leBytes 4 v.toNat) } }
  else none

/-- The key store block (R279). -/
def kstWrite (s : State) (off : Nat) (v : Word) : Option State :=
  if off = 0x30 then
    inRange s (60 ≤ field v 16 0 && field v 16 0 ≤ 86400) { s with kst := { s.kst with cfg := storeMasked s.kst.cfg v 0x1FFFF } }
  else none

/-- The service MAC block (R202). -/
def svcWrite (s : State) (off : Nat) (v : Word) : Option State :=
  if off = 0x8000 then
    inRange s (1 ≤ field v 13 0 && field v 13 0 ≤ 10000) { s with eng := { s.eng with svcCfg := storeMasked s.eng.svcCfg v 0x3FFF } }
  else if off < 0x8000 && off % 0x400 = 8 then some (onBit v 0 (fun s => stopSvc s (off / 0x400) .aborted .aborted) s)
  else none

/-- The digest block (R215). -/
def dgsWrite (s : State) (off : Nat) (v : Word) : Option State :=
  let d := off / 0x2000
  if off = 0x1800 then
    inRange s (2 ≤ field v 6 0 && field v 6 0 ≤ 64) { s with eng := { s.eng with dgsCfg := storeMasked s.eng.dgsCfg v 0x7F } }
  else if off % 0x2000 = 4 then some (onBit v 1 (fun s => takeDigestOffline s d) (onBit v 0 (fun s => retestDigest s d) s))
  else none

/-- The public-key block (R180, R181). -/
def pkeWrite (s : State) (off : Nat) (v : Word) : Option State :=
  let n := off / 0x1000
  if off = 0x820 then some (onBit v 1 discardPool (onBit v 0 (fun s => requestPool s none []) s))
  else if off % 0x1000 = 4 then some (onBit v 1 (fun s => takeCoreOffline s n) (onBit v 0 (fun s => retestCore s n) s))
  else (regIndex off 0x800 4 3).map fun k =>
    let l : List Word := (List.range 3).map fun i => if i = k then v else s.pke.shadow.getD i 0
    if s.pke.target.isSome then s else { s with pke := { s.pke with shadow := l } }

/-- PSG_VLOG_CFG: while ENABLE is 1 only ENABLE changes, and a rise of ENABLE starts the count of records anew (R117). -/
def vlogWrite (s : State) (v : Word) : State :=
  let on := bit s.psg.vlogCfg 31
  let new := if on then setBit s.psg.vlogCfg 31 (bit v 31) else storeMasked s.psg.vlogCfg v 0x80071FFF
  if 4 < field v 18 16 || 8192 < field new 12 0 + 16 * 2 ^ field new 18 16 then s
  else
    let rises := bit v 31 && !on
    { s with psg := { s.psg with
      vlogCfg := new
      vlogHead := if rises then 0 else s.psg.vlogHead
      vlogTail := if rises then 0 else s.psg.vlogTail } }

/-- PSG_VLOG_TAIL: a value beyond HEAD, or below the previous one, is ignored (R117). -/
def tailWrite (s : State) (v : Word) : State :=
  let past (n : Nat) : Nat := (n + 2 ^ 32 - s.psg.vlogTail) % 2 ^ 32
  if past s.psg.vlogHead < past v.toNat then s else { s with psg := { s.psg with vlogTail := v.toNat } }

/-- A wire's configuration block: SHADOW takes no write while a commit is pending or it is locked, and such a write is a violation
(R63, R64). -/
def wireWrite (s : State) (m : Master) (w off : Nat) (v : Word) : Option State :=
  if off = 0x800 then some (onBit v 1 (fun s => discardShadow s w) (onBit v 0 (fun s => requestCommit s w none) s))
  else if off < 0x400 then
    ((wire s w).shadow.write off v).map fun b =>
      if shadowClosed (wire s w) then lockedWrite s m (0x00201000 + w * 0x1000 + off)
      else updWire s w fun x => { x with shadow := b }
  else none

/-- The Passage global block (R63, R76, R117). -/
def psgWrite (s : State) (m : Master) (off : Nat) (v : Word) : Option State :=
  if off = 0x100 then
    inRange s (1 ≤ field v 11 0 && field v 11 0 ≤ 3600) { s with psg := { s.psg with flwCfg := storeMasked s.psg.flwCfg v 0xFFF } }
  else if off = 0x200 then some (vlogWrite s v)
  else if off = 0x208 then some (tailWrite s v)
  else if 0x1000 ≤ off && off < 0x49000 then wireWrite s m ((off - 0x1000) / 0x1000) ((off - 0x1000) % 0x1000) v
  else none

/-- A port window (R42, R192). -/
def portWrite (s : State) (p off : Nat) (v : Word) : Option State :=
  if off = 0 then some (refreshLinks (writePortCfg s p v))
  else if off = 8 then some (updPort s p fun q => { q with event := storeW1C q.event v 7 })
  else if off = 0x2004 || off = 0x2804 then
    let l := (off - 0x2004) / 0x800
    some (onBit v 1 (fun s => takeLaneOffline s p l) (onBit v 0 (fun s => retestLane s p l) s))
  else none

/-- GEO_CHAN_CFG locks when a mount starts (R305). -/
def chanWrite (s : State) (v : Word) : State :=
  let targets := field v 10 8
  let rate := field v 23 16
  if s.geo.locked || targets < 1 || 4 < targets || rate < 8 || 24 < rate then s
  else { s with geo := { s.geo with chanCfg := storeMasked s.geo.chanCfg v 0x01FF07FF } }

/-- The Geode block (R305). -/
def geoWrite (s : State) (off : Nat) (v : Word) : Option State :=
  if off = 4 then inRange s (field v 13 0 ≤ 10000) (writeScrub s v)
  else if off = 8 then some (chanWrite s v)
  else none

/-- The time block (R444). -/
def timWrite (s : State) (off : Nat) (v : Word) : Option State :=
  if off = 4 then some { s with tim := { s.tim with event := storeW1C s.tim.event v 0x1F } }
  else if 0x20 ≤ off && off ≤ 0x34 then inRange s (timRangeOk off v) (writeTim s off v)
  else none

/-- The chamber and Karst block (R138, R483). -/
def chamWrite (s : State) (off : Nat) (v : Word) : Option State :=
  if off = 0 then some (writeChamberCfg s v)
  else if off = 8 then some { s with cham := { s.cham with event := storeW1C s.cham.event v 0xF } }
  else if off = 0x10 then inRange s (lendOk v) { s with cham := { s.cham with lend := storeMasked s.cham.lend v lendMask } }
  else if off = 0x1020 || off = 0x1024 || off = 0x1028 || off = 0x102C then some (karWrite s (off, v))
  else none

/-- A watchdog period in its range: 10 to 10,000 ms. -/
def periodOk (n : Nat) : Bool := 10 ≤ n && n ≤ 10000

/-- WLD_MPU of masters 4 to 10: KEY 0 makes the write ignored whole (R383, R384). -/
def mpuWrite (s : State) (m : Nat) (v : Word) : State :=
  if m < 4 || 10 < m || field v 3 0 = 0 then s
  else { s with wld := { s.wld with mpu := s.wld.mpu.set (mpuReset m) m (field v 4 0) } }

/-- The worlds block (R379, R398), by the secure world. -/
def wldWrite (s : State) (m : Master) (off : Nat) (v : Word) : Option State :=
  if off = 4 then inRange s (field v 3 0 != 0) { s with wld := { s.wld with home := storeMasked s.wld.home v 0xF } }
  else if off = 8 then
    inRange s (periodOk (field v 13 0) && (field v 29 16 == 0 || periodOk (field v 29 16)))
      { s with wld := { s.wld with cfg := storeMasked s.wld.cfg v 0x3FFF3FFF } }
  else if off = 0xC then
    inRange s (50 ≤ field v 13 0 && field v 13 0 ≤ 10000 && 1 ≤ field v 19 16 && field v 19 16 ≤ 14)
      { s with wld := { s.wld with cfg2 := storeMasked s.wld.cfg2 v 0xF3FFF } }
  else if off = 0x10 then
    let kick (s : State) : State := { s with wld := { s.wld with secureKick := s.now } }
    some (onBit v 2 (fun s => secureDown s 3) (onBit v 1 secureReady (onBit v 0 kick s)))
  else if off = 0x1C then some (onBit v 0 confirmSecure s)
  else if 0x10000 ≤ off && off < 0x18000 then some (writePage s m ((off - 0x10000) / 4) v)
  else match regIndex off 0x40 4 13, regIndex off 0x170 4 6 with
    | some k, _ => some (mpuWrite s k v)
    | none, some j => some (writeOwner s j v)
    | none, none => none

/-! ## The whole space -/

/-- An address holds a register. -/
def assigned (s : State) (a : Nat) : Bool :=
  (readValue s a).isSome || (boxOf a).any fun n => a % 0x100 = 0x10 || (boxReg s n (a % 0x100)).isSome

/-- A register that takes a write, and what the write does; none where the write is ignored or refused. -/
def blockWrite (s : State) (m : Master) (a : Nat) (v : Word) : Option State :=
  if a < 0x10000 then idWrite s a v
  else if a < 0x10800 then boxWrite s ((a - 0x10000) / 0x100) (a % 0x100) v
  else if a < 0x20000 then mbxWrite s (a - 0x10800) v
  else if a < 0x30000 then lanWrite s (a - 0x20000) v
  else if a < 0x40000 then strWrite s (a - 0x30000) v
  else if a < 0x50000 then lcyWrite s (a - 0x40000) v
  else if a < 0x60000 then rngRegWrite s (a - 0x50000) v
  else if a < 0x70000 then kstWrite s (a - 0x60000) v
  else if a < 0x80000 then svcWrite s (a - 0x70000) v
  else if a < 0x100000 then dgsWrite s (a - 0x80000) v
  else if a < 0x160000 then pkeWrite s (a - 0x100000) v
  else if a < 0x200000 then none
  else if a < 0x400000 then psgWrite s m (a - 0x200000) v
  else if a < 0x640000 then portWrite s ((a - 0x400000) / 0x4000) (a % 0x4000) v
  else if a < 0x2000000 then none
  else if a < 0x2100000 then geoWrite s (a - 0x2000000) v
  else if a < 0x2200000 then timWrite s (a - 0x2100000) v
  else if a < 0x3000000 then chamWrite s (a - 0x2200000) v
  else if a < 0x4000000 then wldWrite s m (a - 0x3000000) v
  else none

/-- Registers that only the secure world writes, in a block that others may write to: MBX_CFG and MBX_SESSION_CFG (R368, R369). -/
def secureOnly (a : Nat) : Bool := ((boxOf a).isSome && a % 0x100 == 0x20) || a == 0x10804

/-- A write that is refused whatever the master: the request registers of MB6 and MB7 (R368), the test source and its pattern outside
MANUFACTURE (R238), table memory (R43), the association table (R88), the flow-context space (R57) and every unassigned address (R21). -/
def writeBarred (s : State) (a : Nat) : Bool :=
  let noReq := match boxOf a with
    | some n => decide (5 < n) && [0, 8, 0xC, 0x18].contains (a % 0x100)
    | none => false
  let test := (a == 0x50C00 || (0x51000 ≤ a && a < 0x52000)) && s.lcy.state != 2
  let table := 0x2C0000 ≤ a && a < 0x400000
  let flow := 0x800000 ≤ a && a < 0xC00000
  noReq || test || table || flow || !assigned s a

/-- The two registers that the normal world may write beside the mailboxes (R381, R398). -/
def sharedWrite (s : State) (m : Master) (a : Nat) (v : Word) : Option State :=
  if a = 0x3000014 then
    some (if !m.isNormal then refuseAccess s m a true
      else onBit v 0 (fun s => { s with wld := { s.wld with normalKick := s.now } }) s)
  else if a = 0x3000100 then some (powerRequest s m (field v 7 0) (field v 9 8))
  else none

/-- Write a register as a master: the access is refused, is ignored, or stores what the register's fields take. -/
def writeRegister (s : State) (m : Master) (a : Nat) (v : Word) : State :=
  match sharedWrite s m a v with
  | some s => s
  | none =>
    if blockRight m a < 2 then refuseAccess s m a true
    else if (boxOf a).any fun n => !reaches s m n then wrongPort s m ((boxOf a).getD 0) a true
    else if writeBarred s a || (secureOnly a && !m.isSecure) then refuseAccess s m a true
    else (blockWrite s m a v).getD s

/-- Write a register of a function's BAR2 (R311, R338). -/
def writeFunction (s : State) (f off : Nat) (v : Word) : State :=
  match regIndex off 0x8000 8 4096, regIndex off 0x10000 8 4096, regIndex off 0x10004 8 4096 with
  | some q, _, _ => writeQpCtrl s f q v
  | _, some q, _ => ringDoorbell s f q
  | _, _, some q => writeCqHead s f q v
  | _, _, _ => match bar2Write s f off v with
    | some s => s
    | none => if (bar2Read s f off).isSome then s else refuseAccess s .pf0 off true

/-- Read a register of a function's BAR2: its value, or 0 where the access is refused; the doorbells and heads read 0. -/
def readFunction (s : State) (f off : Nat) : State × Word :=
  match bar2Read s f off with
  | some v => (s, v)
  | none => if off % 4 = 0 && 0x10000 ≤ off && off < 0x18000 then (s, 0) else (refuseAccess s .pf0 off false, 0)

/-! ## Commands -/

/-- REGISTER_WRITE: an aligned access of 32 bits; any other is refused whole (R21). -/
def execRegisterWrite (r : RegTarget) (size : Nat) (v : Word) (t : Time) (s : State) : Outcome :=
  let s := advance s t
  match r with
  | .device m a => .next (if size ≠ 4 || a % 4 ≠ 0 then refuseAccess s m a true size else writeRegister s m a v)
  | .function f off =>
    if !funcEnabled s f then .next s
    else .next (if size ≠ 4 || off % 4 ≠ 0 then refuseAccess s .pf0 off true size else writeFunction s f off v)
  | .vectors f off =>
    if !funcEnabled s f then .next s
    else .next (if size ≠ 4 || off % 4 ≠ 0 || (bar4Read s f off).isNone then refuseAccess s .pf0 off true size
      else bar4Write s f off v)

/-- REGISTER_READ: the value goes out; a refused read gives 0 (R21). -/
def execRegisterRead (r : RegTarget) (size : Nat) (t : Time) (s : State) : Outcome :=
  let s := advance s t
  match r with
  | .device m a =>
    let (s, v) := if size ≠ 4 || a % 4 ≠ 0 then (refuseAccess s m a false size, 0) else readRegister s m a
    .next (emit s (.read v))
  | .function f off =>
    if !funcEnabled s f then .next s
    else
      let (s, v) := if size ≠ 4 || off % 4 ≠ 0 then (refuseAccess s .pf0 off false size, 0) else readFunction s f off
      .next (emit s (.read v))
  | .vectors f off =>
    if !funcEnabled s f then .next s
    else match (if size ≠ 4 || off % 4 ≠ 0 then none else bar4Read s f off) with
      | some v => .next (emit s (.read v))
      | none => .next (emit (refuseAccess s .pf0 off false size) (.read 0))

/-- An access of the I3C window at a register address. -/
def i3cWrite (s : State) (a : Nat) (v : Word) : State :=
  if a % 4 ≠ 0 then refuseAccess s .i3c a true else writeRegister s .i3c a v

/-- Words written from an address on. -/
def i3cWrites (s : State) (a : Nat) : List Word → State
  | [] => s
  | v :: t => i3cWrites (i3cWrite s a v) (a + 4) t

/-- Words read from the address last set, which rises by 4 after each (R343). -/
def i3cReads (s : State) : Nat → State × List Word
  | 0 => (s, [])
  | n + 1 =>
    let a := s.mbx.regAddr
    let (s, v) := if a % 4 ≠ 0 then (refuseAccess s .i3c a false, 0) else readRegister s .i3c a
    let (s, l) := i3cReads { s with mbx := { s.mbx with regAddr := (a + 4) % 2 ^ 32 } } n
    (s, v :: l)

/-- I3C_REGISTER_WRITE: sets the register address, and writes the words that follow it. -/
def execI3cRegisterWrite (a : Word) (ws : List Word) (t : Time) (s : State) : Outcome :=
  let s := advance s t
  if !i3cOn s then .next s
  else .next (i3cWrites { s with mbx := { s.mbx with regAddr := a.toNat } } a.toNat ws)

/-- I3C_REGISTER_READ. -/
def execI3cRegisterRead (n : Nat) (t : Time) (s : State) : Outcome :=
  let s := advance s t
  if !i3cOn s then .next s
  else
    let (s, l) := i3cReads s n
    .next (emit s (.i3c (bytesOf l)))

end Sys2Proof.Machine
end

