-- ==== Sys2Proof/Machine/StatusReads.lean ====
section
/-!
DEFINITION. The commands that return a block's registers, taken at one instant (R182, R217, R242, R281, R307, R367, R399, R420, R445,
R460).
-/

namespace Sys2Proof.Machine

/-- The registers at the given addresses, one item per word in the order given (R354); a counter of R18 gives both its words, and an
address that holds no register gives nothing.  Nothing is latched and no field that a read clears is cleared (assumption 69). -/
def regItems (s : State) (l : List Nat) : List RItem :=
  l.flatMap fun a => match wideReg s a, plainReg s a with
    | some n, _ => [.reg a (numWord n), .reg (a + 4) (numWord (n / 2 ^ 32))]
    | none, some v => [.reg a v]
    | none, none => []

/-- The words of a block from `base` on, `n` bytes of it. -/
def wordsFrom (base n : Nat) : List Nat := (List.range (n / 4)).map fun k => base + 4 * k

/-- PKE_STATUS_READ: the status and fault registers of every core, and the pool registers. -/
def execPkeStatusRead (c : Cmd) (s : State) : Outcome :=
  .next (command s c 0x0341 fun s =>
    let core (n : Nat) : List Nat := [0x100000 + n * 0x1000, 0x100008 + n * 0x1000]
    answerOk s c [] (regItems s (core 0 ++ wordsFrom 0x100800 0x4C ++ (List.range 95).flatMap fun n => core (n + 1))))

/-- ENG_STATUS_READ: the status and fault registers of every service engine, digest engine and lane. -/
def execEngStatusRead (c : Cmd) (s : State) : Outcome :=
  .next (command s c 0x0430 fun s =>
    let svcs := (List.range 32).flatMap fun e => [0x7000C + e * 0x400, 0x70010 + e * 0x400]
    let digests := (List.range 64).flatMap fun d => [digestBase d, digestBase d + 8]
    let lanes := (List.range 288).flatMap fun e => [laneBase e, laneBase e + 8]
    answerOk s c [] (regItems s (svcs ++ digests ++ lanes)))

/-- RNG_STATUS_READ: the registers of R239 to R241 except the pattern memory. -/
def execRngStatusRead (c : Cmd) (s : State) : Outcome :=
  .next (command s c 0x0510 fun s => answerOk s c [] (regItems s (wordsFrom 0x50000 0x1000)))

/-- KST_STATUS_READ. -/
def execKstStatusRead (c : Cmd) (s : State) : Outcome :=
  .next (command s c 0x0260 fun s => answerOk s c [] (regItems s (wordsFrom 0x60000 0x34)))

/-- GEO_STATUS_READ. -/
def execGeoStatusRead (c : Cmd) (s : State) : Outcome :=
  .next (command s c 0x0601 fun s => answerOk s c [] (regItems s (wordsFrom 0x2000000 0x180)))

/-- WLD_STATUS_READ: the registers of R398 apart from the page owner table. -/
def execWldStatusRead (c : Cmd) (s : State) : Outcome :=
  .next (command s c 0x0880 fun s => answerOk s c [] (regItems s (wordsFrom 0x3000000 0x400)))

/-- LCY_STATUS_READ: the registers of R419, and the present Lantern tick. -/
def execLcyStatusRead (c : Cmd) (s : State) : Outcome :=
  .next (command s c 0x0801 fun s =>
    answerOk s c [] (regItems s (wordsFrom 0x40000 0x4C) ++ [.blob (leBytes 6 (lanternTick s))]))

/-- LAN_STATUS_READ: the registers of R443 other than LAN_BBRAM. -/
def execLanStatusRead (c : Cmd) (s : State) : Outcome :=
  .next (command s c 0x0901 fun s => answerOk s c [] (regItems s (wordsFrom 0x20000 0x400)))

/-- TIM_STATUS_READ: the registers of R444, the groups that a read latches at their present values. -/
def execTimStatusRead (c : Cmd) (s : State) : Outcome :=
  .next (command s c 0x0910 fun s =>
    let low := regItems s [0x2100000, 0x2100004] ++ [.reg 0x2100008 (numWord (devNs s)), .reg 0x210000C (numWord (devSec s)),
      .reg 0x2100010 (numWord (devSec s / 2 ^ 32 % 65536))]
    let corr := RItem.reg 0x2100050 (numWord s.tim.corrTick) :: (timLatch s 0x50).map fun e => RItem.reg (0x2100000 + e.1) (numWord e.2)
    answerOk s c [] (low ++ regItems s (wordsFrom 0x2100014 0x34) ++ corr ++ regItems s (wordsFrom 0x2100060 0x10)))

/-- STR_STATUS_READ. -/
def execStrStatusRead (c : Cmd) (s : State) : Outcome :=
  .next (command s c 0x0A01 fun s => answerOk s c [] (regItems s (wordsFrom 0x30000 0x1B0)))

/-- MBX_STATUS_READ: the registers of every mailbox, MBX_RSP_DATA as the word that a read would return, and the global registers. -/
def execMbxStatusRead (c : Cmd) (s : State) : Outcome :=
  .next (command s c 0x0112 fun s =>
    let box (n : Nat) : List RItem := (wordsFrom 0 0x30).flatMap fun off =>
      if off = 0x10 then [.reg (boxBase n + off) (takeRspWord s n).2]
      else (boxReg s n off).toList.map fun v => .reg (boxBase n + off) v
    answerOk s c [] ((List.range 8).flatMap box ++ regItems s (wordsFrom 0x10800 0xC)))

/-- MBX_INFO: the identity registers, the life-cycle state, each mailbox's PORT and its open sessions; the monitor answers it while
the secure world is down (R364). -/
def execMbxInfo (c : Cmd) (s : State) : Outcome :=
  .next (command s c 0x0101 fun s =>
    let ports := (List.range 8).map fun n => RItem.item 0x0D (leBytes 1 (mailbox s n).port)
    let counts := (List.range 8).flatMap fun n => leBytes 1 (openCount s n)
    answerOk s c [] (regItems s (wordsFrom 0 0x30) ++ [.blob (leBytes 1 s.lcy.state)] ++ ports ++ [.blob counts]))

end Sys2Proof.Machine
end

