-- ==== Sys2Proof/Machine/Debug.lean ====
section
/-!
DEFINITION. Accesses of the debug access port (R412 to R414).
-/

namespace Sys2Proof.Machine

/-- A refused access of the debug access port is counted (R414, R419). -/
def countDap (s : State) : State := { s with lcy := { s.lcy with refused := sat32 s.lcy.refused } }

/-- Why the debug access port may not touch a page of control memory, by the reasons of R387. -/
def dapPageFault (s : State) (p : Nat) (write : Bool) : Option Nat :=
  let e := pageEntry s p
  let owner := field e 1 0
  let open_ := if write then owner == 1 else owner == 1 || owner == 2 || (owner == 3 && bit e 2)
  if 8192 ≤ p then some 3
  else if bit e 8 then some 5
  else if !open_ then some 1
  else if !colourAllows e (busMaster s .dap) then some 2
  else none

/-- Why a transfer of the debug access port is refused: without READ_NORMAL or WRITE_NORMAL every one is, and else the first forbidden
page decides. -/
def dapFault (s : State) (a n : Nat) (write : Bool) : Option (Nat × Nat) :=
  let pages := (List.range (if n = 0 then 0 else (a + n - 1) / 4096 - a / 4096 + 1)).map (a / 4096 + ·)
  if !hasRight s (if write then 2 else 1) then some (1, a / 4096)
  else pages.findSome? fun p => (dapPageFault s p write).map fun r => (r, p)

/-- Read control memory. -/
def dapRead (s : State) (a n : Nat) : State × Bytes :=
  match dapFault s a n false with
  | some why => (countDap (refuseTransfer s (busMaster s .dap) a n 0 why), zeros n)
  | none => (s, memLoad s.ctl a n)

/-- Write control memory. -/
def dapWrite (s : State) (a : Nat) (b : Bytes) : State :=
  match dapFault s a b.length true with
  | some why => countDap (refuseTransfer s (busMaster s .dap) a b.length 1 why)
  | none => { s with ctl := memStore s.ctl a b }

/-- The port may read the register: it has COUNTERS, and a port window, a wire's status block or Strata holds it. -/
def dapRegister (s : State) (a : Nat) : Bool := hasRight s 4 && blockRight .dap a == 1 && (readValue s a).isSome

/-- Halt a world's contexts: its watchdog pauses (R413). -/
def haltWorld (s : State) (w : Nat) : State :=
  if (s.lcy.halted.look w).isSome then s else { s with lcy := { s.lcy with halted := s.lcy.halted.put w s.now } }

/-- The bits of bytes, least significant first. -/
def bitsOfBytes (b : Bytes) : List Bool := b.flatMap fun x => (List.range 8).map fun i => x.getLsbD i

/-- The right that halting a world takes. -/
def haltRight (secure : Bool) : Nat := if secure then 6 else 0

/-- The number of a world among those that a probe halts. -/
def worldIndex (secure : Bool) : Nat := if secure then 1 else 0

/-- DAP_ACCESS: an access while DAP is selected; one that the rights in force do not cover gives zeros, stores nothing and is counted.  A
step runs one instruction of a halted context, whose acts come as commands of their own; the registers of a context belong to its
firmware, so what a probe reads of them is a free value (assumption 136). -/
def execDapAccess (op : DapOp) (t : Time) (s : State) : Outcome :=
  let s := advance s t
  if s.lcy.tap.ir ≠ 0x21 then .next s
  else match op with
    | .read a n =>
      let (s, b) := dapRead s a n
      .next (emit s (.tap (bitsOfBytes b)))
    | .write a b => .next (dapWrite s a b)
    | .readRegister a =>
      if dapRegister s a then
        let (s, v) := readRegister s .dap a
        .next (emit s (.read v))
      else .next (emit (countDap (refuseAccess s .dap a false)) (.read 0))
    | .writeRegister a _ => .next (countDap (refuseAccess s .dap a true))
    | .halt w => .next (if hasRight s (haltRight w) then haltWorld s (worldIndex w) else countDap s)
    | .step w => .next (if hasRight s (haltRight w) then s else countDap s)
    | .readContext w n =>
      .next (if hasRight s (haltRight w) then shiftFree s n else countDap s)
    | .resume w => .next (if hasRight s (haltRight w) then resumeWorld s (worldIndex w) else countDap s)
    | .readTrace => .next (if hasRight s 3 then emit s (.tap (s.lcy.trace.flatMap bitsOfBytes)) else countDap s)

end Sys2Proof.Machine
end

