-- ==== Sys2Proof/Machine/Carriers.lean ====
section
/-!
DEFINITION. The carriers of commands: the envelopes of the mailboxes (R352, R353, R361 to R365), the command entries of rings (R319) and
the secure calls of the normal world (R376, R378).
-/

namespace Sys2Proof.Machine

/-! ## The commands by code (R366) -/

/-- A command's meaning under its code. -/
abbrev CmdTable := List (Nat × (Cmd → State → Outcome))

/-- Range 0x01xx. -/
def managementTable : CmdTable :=
  [(0x0101, execMbxInfo), (0x0102, execMbxSessionOffer), (0x0103, execMbxSessionOpen), (0x0104, execMbxSessionClose),
   (0x0105, execMbxSessionList), (0x0110, execMbxPortSet), (0x0111, execMbxCfgSet), (0x0112, execMbxStatusRead)]

/-- Range 0x02xx. -/
def keyTable : CmdTable :=
  [(0x0201, execKstGenerate), (0x0202, execKstDestroy), (0x0203, execKstAttrSet), (0x0204, execKstAttrGet),
   (0x0205, execKstAttest), (0x0206, execKstCertRead), (0x0210, execKstTransportOpen), (0x0211, execKstTransportAccept),
   (0x0212, execKstImport), (0x0213, execKstTransportClose), (0x0214, execKstExport), (0x0220, execKstDerive),
   (0x0230, execKstDomainCreate), (0x0231, execKstDomainDestroy), (0x0232, execKstDomainRead), (0x0233, execKstDomainSet),
   (0x0234, execKstMaskSet), (0x0238, execKstOfficerEnrol), (0x0239, execKstOfficerRemove), (0x023A, execKstCredSet),
   (0x023C, execKstFuncAssign), (0x0240, execKstQuorumOpen), (0x0241, execKstQuorumCancel), (0x0250, execKstDomain0Setup),
   (0x0251, execKstRootRenew), (0x0260, execKstStatusRead)]

/-- Range 0x03xx. -/
def pkeTable : CmdTable :=
  [(0x0301, execPkeJob), (0x0302, execPkeJobAbort), (0x0310, execPkeCurveLoad), (0x0311, execPkeCurveUnload),
   (0x0312, execPkeCurveRead), (0x0320, execPkePolicySet), (0x0321, execPkePolicyGet), (0x0330, execPkePoolStage),
   (0x0331, execPkePoolCommit), (0x0332, execPkePoolDiscard), (0x0340, execPkeCoreRetest), (0x0341, execPkeStatusRead)]

/-- Range 0x04xx. -/
def engineTable : CmdTable :=
  [(0x0401, execSvcMac), (0x0402, execSvcAbort), (0x0410, execDgsJob), (0x0411, execDgsResultRead), (0x0412, execDgsAbort),
   (0x0420, execDgsCfgSet), (0x0421, execSvcCfgSet), (0x0430, execEngStatusRead)]

/-- Range 0x05xx. -/
def rngTable : CmdTable :=
  [(0x0501, execRngGenerate), (0x0510, execRngStatusRead), (0x0511, execRngCfgSet), (0x0512, execRngCellRetest),
   (0x0513, execRngKatRun), (0x0514, execRngTestSource)]

/-- Range 0x06xx. -/
def vaultTable : CmdTable :=
  [(0x0601, execGeoStatusRead), (0x0602, execGeoFormat), (0x0603, execGeoRemount), (0x0604, execGeoScrubSet),
   (0x0605, execGeoFlashInfo)]

/-- Range 0x07xx. -/
def passageTable : CmdTable :=
  [(0x0701, fun c => execPsgTableLoad c (Fin.ofNat 16 (c.facts.headD 0))), (0x0702, execPsgTableUnload),
   (0x0710, execPsgWireStage), (0x0711, execPsgWireCommit), (0x0712, execPsgWireDiscard), (0x0720, execPsgFlowRead),
   (0x0721, execPsgFlowFlush), (0x0730, execPsgCountersRead), (0x0731, execPsgKeyPrefetch), (0x0740, execPsgInject),
   (0x0741, execPsgPuntForward), (0x0742, execPsgDnp3Challenge)]

/-- Range 0x08xx. -/
def lifeTable : CmdTable :=
  [(0x0801, execLcyStatusRead), (0x0802, execLcyNonce), (0x0810, execLcyTransition), (0x0811, execLcyTestExit),
   (0x0820, execLcyDebugUnlock), (0x0821, execLcyDebugLock), (0x0830, execLcyLogRead), (0x0880, execWldStatusRead),
   (0x0881, execWldFwStage), (0x0882, execWldFwActivate), (0x0883, execWldNwRestart), (0x0884, execWldFwKeySet),
   (0x0885, execWldViolRead)]

/-- Range 0x09xx. -/
def lanternTable : CmdTable :=
  [(0x0901, execLanStatusRead), (0x0902, execLanAlarmSet), (0x0903, execLanPinSet), (0x0904, execLanClear),
   (0x0905, execLanBatlogRead), (0x0906, execLanDetectorTest), (0x0910, execTimStatusRead), (0x0911, execTimCfgSet),
   (0x0912, execTimSet)]

/-- Range 0x0Axx. -/
def strataTable : CmdTable :=
  [(0x0A01, execStrStatusRead), (0x0A02, execStrRead), (0x0A03, execStrAccumRead), (0x0A10, execStrCfgSet),
   (0x0A11, execStrCodeSet)]

/-- Range 0x0Bxx. -/
def karstTable : CmdTable :=
  [(0x0B01, execKarFound), (0x0B02, execKarJoin), (0x0B03, execKarAdmit), (0x0B04, execKarRevokeMember), (0x0B05, execKarLeave),
   (0x0B10, execKarDomainReplicate), (0x0B11, execKarReplicaSet), (0x0B12, execKarDomainRead), (0x0B20, execKarStatusRead),
   (0x0B21, execKarCfgSet), (0x0B40, execKarOutTake), (0x0B41, execKarInGive), (0x0B42, execKarFrameSend),
   (0x0B80, execKarChamberSet), (0x0B81, execKarLendSet), (0x0B82, execKarChamberRead)]

/-- Range 0x0Cxx. -/
def hostTable : CmdTable :=
  [(0x0C01, execHqFuncRead), (0x0C02, execHqStatusRead)]

/-- Every command of the mailbox unit by its code; a PSG_TABLE_LOAD finds its target table in the carrier's first fact
(assumption 30). -/
def cmdTable : CmdTable :=
  managementTable ++ keyTable ++ pkeTable ++ engineTable ++ rngTable ++ vaultTable ++ passageTable ++ lifeTable ++ lanternTable ++ strataTable ++ karstTable ++ hostTable

/-- Carry out the command of a code. -/
def perform (code : Nat) (c : Cmd) (s : State) : State :=
  match cmdTable.lookup code with
  | none => answerStatus s c.reply .invalidCommand
  | some f => match f c s with
    | .next t => t
    | .fault _ => s
    | .refused _ => s

/-! ## Envelopes (R352, R365) -/

/-- COMMAND_CODE of an envelope. -/
def envCode (e : Bytes) : Nat := leAt e 4 2
/-- BODY_LEN. -/
def envBodyLen (e : Bytes) : Nat := leAt e 0xC 4
/-- SEQUENCE. -/
def envSeq (e : Bytes) : Nat := leAt e 0x10 8
/-- DOMAIN. -/
def envDomain (e : Bytes) : Nat := leAt e 0x18 2
/-- SESSION. -/
def envSession (e : Bytes) : Nat := leAt e 0x1A 2
/-- APPROVAL_COUNT. -/
def envRecords (e : Bytes) : Nat := leAt e 0x1C 2
/-- The body. -/
def envBody (e : Bytes) : Bytes := slice e 0x20 (envBodyLen e)

/-- Bytes of the approval record that begins a byte string, padded: a grant's key follows it (R271, R402). -/
def recordSize (b : Bytes) : Nat :=
  let grant := leAt b 8 2 == 0xFFFF && leAt b 10 1 == 0xFF && leAt b 11 1 == 0x52
  roundUp 8 (128 + leAt b 6 2) + (if grant then 2048 else 0)

/-- The approval record that begins a byte string. -/
def recordAt (b : Bytes) : Approval :=
  let len := leAt b 6 2
  let grant := leAt b 8 2 == 0xFFFF && leAt b 10 1 == 0xFF && leAt b 11 1 == 0x52
  { magic := leAt b 0 4, format := leAt b 4 2, sigLen := len, domain := leAt b 8 2, officer := leAt b 10 1, sigAlg := leAt b 11 1,
    code := leAt b 12 2, reserved := leAt b 14 2, digest := slice b 16 48, nonce := slice b 64 32, expiry := leAt b 96 8,
    serial := slice b 104 16, reserved2 := leAt b 120 8,
    signature := slice b 128 (if grant then recordSize b - 128 else len) }

/-- Read `n` approval records. -/
def readRecords : Nat → Bytes → List Approval
  | 0, _ => []
  | n + 1, b => recordAt b :: readRecords n (b.drop (recordSize b))

/-- Bytes that `n` approval records take. -/
def recordsSize : Nat → Bytes → Nat
  | 0, _ => 0
  | n + 1, b => recordSize b + recordsSize n (b.drop (recordSize b))

/-- The approval area of an envelope. -/
def envApprovals (e : Bytes) : Bytes := e.drop (0x20 + roundUp 8 (envBodyLen e))

/-- Checks 1 and 2 of R361 on the words of an envelope as reassembled. -/
def formFault (b : Bytes) : Option Status :=
  let len := leAt b 8 4
  firstOf [(decide (b.length < 32 || 262144 < b.length), .invalidLength), (decide (len < 32 || roundUp 4 len ≠ b.length), .lengthMismatch),
    (leAt b 0 4 ≠ 0x4E45564D || leAt b 6 2 ≠ 0 || leAt b 0x1E 2 ≠ 0, .invalidParameter)]

/-- The command body of a code: items, or a fixed layout (R354, R356); none where items do not fill it. -/
def cmdBody (code : Nat) (b : Bytes) : Option Body :=
  if rawBodies.contains code then some (.raw b) else (readItems b.length b).map .items

/-- A key type of a loaded curve (R251). -/
def loadedType (ty : Nat) : Bool := ty == 0x4F || ty == 0x8F

/-- The service is one that R365 does not approve: a job or a key on a loaded curve, KEYGEN or DERIVE of X25519 or X448, or
RNG_TEST_SOURCE, or any while the RNG's FAILED bit is set. -/
def unapprovedService (s : State) (code : Nat) (b : Body) : Bool :=
  s.rng.failed || match b with
  | .raw x =>
    if code = 0x0212 then loadedType (readBlob x).attr.type
    else if code = 0x0301 then
      let op := leAt x 0 1
      let algo := leAt x 1 1
      algo == 0x0F || ((algo == 0x12 || algo == 0x13) && (op == 3 || op == 4))
    else false
  | .items l =>
    let attr := (l.filter (·.type == 3)).any fun i => loadedType (attrOf i.value).type
    let key := (l.filter (·.type == 1)).any fun i => (keyAttr s (leNat i.value)).any fun a => loadedType a.type
    code == 0x0514 || attr || key

/-! ## ENVELOPE_REASSEMBLY -/

/-- Add a command to those outstanding. -/
def pushOutstanding (s : State) (n : Nat) (o : Outstanding) : State :=
  updMailbox { s with mbx := { s.mbx with nextId := s.mbx.nextId + 1 } } n fun b => { b with outstanding := b.outstanding ++ [o] }

/-- An envelope whose assembly is discarded is answered under its TAG and COMMAND_CODE (R353). -/
def answerDiscarded (s : State) (n : Nat) (a : Assembly) (st : Status) : State :=
  pushOutstanding s n { id := s.mbx.nextId, tag := a.tag, code := a.code, seq := leAt a.bytes 0x10 8, domain := leAt a.bytes 0x18 2,
                        session := leAt a.bytes 0x1A 2, macSession := 0, takenAt := s.now, answer := some { status := st } }

/-- Checks 1 to 4 of R361; while the secure world is down the monitor answers all but MBX_INFO, and takes no session step (R364). -/
def earlyFault (s : State) (n : Nat) (b : Bytes) : Option Status :=
  let k := envSession b
  match formFault b with
  | some st => some st
  | none =>
    if !secureUp s then (if envCode b = 0x0101 then none else some .secureWorldDown)
    else if k ≠ 0 && (openSession s n k).isNone then some .notPermitted
    else if k = 0 && !sessionZero.contains (envCode b) then some .notPermitted
    else none

/-- Change a session. -/
def updBoxSession (s : State) (n k : Nat) (f : Session → Session) : State :=
  updMailbox s n fun b => { b with sessions := b.sessions.map fun e => if e.1 == k then (e.1, f e.2) else e }

/-- The MAC of an envelope verifies under its session's request key (R358). -/
def macVerifies (s : State) (n : Nat) (e : Bytes) : Bool :=
  match openSession s n (envSession e) with
  | some x => Config.cmac x.requestKey (e.take (e.length - 16)) == e.drop (e.length - 16)
  | none => false

/-- A MAC that fails is counted, and the third in a row closes the session (R359). -/
def countMacFail (s : State) (n k : Nat) : State :=
  let s := updBoxSession s n k fun x => { x with macFails := x.macFails + 1 }
  if (openSession s n k).any fun x => 3 ≤ x.macFails then closeSessionsBy s fun mb j _ => mb == n && j == k else s

/-- The lengths of an envelope add up (R361 check 8). -/
def lengthsAdd (e : Bytes) : Bool :=
  0x20 + roundUp 8 (envBodyLen e) + recordsSize (envRecords e) (envApprovals e) + (if envSession e = 0 then 0 else 16) == e.length

/-- Checks 6 to 9 of R361, of an envelope whose MAC verifies. -/
def lateFault (s : State) (n : Nat) (c : Cmd) (e : Bytes) : Option Status :=
  let last := (openSession s n (envSession e)).bind (·.lastSeq)
  firstOf [(envSession e ≠ 0 && last.any fun q => envSeq e ≤ q, .invalidParameter), (!isCommand (envCode e), .invalidCommand),
    (decide (32 < envRecords e), .invalidLength), (!lengthsAdd e, .lengthMismatch), ((gate s c (envCode e)).isSome, .notPermitted)]

/-- The command that an envelope carries. -/
def cmdOf (caller : Caller) (r : Reply) (e : Bytes) (body : Body) (x : Carry) : Cmd :=
  { caller := caller, domain := envDomain e, reply := r, body := body, records := readRecords (min 32 (envRecords e)) (envApprovals e),
    coreFaults := x.coreFaults, upset := x.upset, facts := x.facts, data := x.data }

/-- Judge a command past check 9, and carry it out. -/
def runEnvelope (s : State) (caller : Caller) (r : Reply) (e : Bytes) (x : Carry) : State :=
  match cmdBody (envCode e) (envBody e) with
  | none => answerStatus s r .lengthMismatch
  | some b => perform (envCode e) (cmdOf caller r e b x) s

/-- Judge an envelope under a session whose MAC has verified: its SEQUENCE is accepted where it is above the last. -/
def judgeSession (s : State) (n : Nat) (r : Reply) (e : Bytes) (x : Carry) : State :=
  let k := envSession e
  let caller : Caller := .session n k
  let fault := lateFault s n (cmdOf caller r e (.raw []) x) e
  let s := if k = 0 then s else updBoxSession s n k fun y => { y with
    macFails := 0, lastAt := s.now, lastSeq := if y.lastSeq.any fun q => envSeq e ≤ q then y.lastSeq else some (envSeq e) }
  match fault with
  | some st => answerStatus s r st
  | none => runEnvelope s caller r e x

/-- Judge a reassembled envelope (R361): it is outstanding from here on, and answered at its first failing check or by its command. -/
def judgeEnvelope (s : State) (n tag : Nat) (b : Bytes) (x : Carry) : State :=
  let e := b.take (leAt b 8 4)
  let k := envSession b
  let early := earlyFault s n b
  let body := (cmdBody (envCode e) (envBody e)).getD (.raw [])
  let r : Reply := .envelope s.mbx.nextId
  let down := !secureUp s
  let s := pushOutstanding s n { id := s.mbx.nextId, tag := tag, code := envCode b, seq := envSeq b, domain := envDomain b, session := k,
                                 macSession := if early.isSome || down then 0 else k
                                 records := if early.isSome || down then 0 else min 32 (envRecords e)
                                 unapproved := unapprovedService s (envCode e) body, takenAt := s.now }
  match early with
  | some st => answerStatus s r st
  | none =>
    if down then runEnvelope s (.session n 0) r e x
    else if k ≠ 0 && !macVerifies s n e then answerStatus (countMacFail s n k) r .tagMismatch
    else judgeSession s n r e x

/-- Put a fragment to an assembly (R353). -/
def addFragment (s : State) (n : Nat) (a : Assembly) (b : Bytes) (last : Bool) (x : Carry) : State :=
  let a := { a with bytes := a.bytes ++ b, fragments := a.fragments + 1, lastAt := s.now }
  let clear (s : State) : State := updMailbox s n fun m => { m with assembly := none }
  if 64 < a.fragments || 262144 < a.bytes.length then answerDiscarded (clear s) n a .invalidLength
  else if last then judgeEnvelope (clear s) n a.tag a.bytes x
  else updMailbox s n fun m => { m with assembly := some a }

/-- Judge one fragment: its header and its payload (R353). -/
def takeFragment (s : State) (n : Nat) (h : Word) (b : Bytes) (x : Carry) : State :=
  let tag := field h 23 16
  if bit h 12 then
    let s := match (mailbox s n).assembly with
      | some a => answerDiscarded s n a .invalidLength
      | none => s
    addFragment s n { tag := tag, code := leAt b 4 2, bytes := [], fragments := 0, lastAt := s.now } b (bit h 13) x
  else match (mailbox s n).assembly with
    | none => updMailbox s n fun m => { m with badCount := sat32 m.badCount }
    | some a =>
      if a.tag ≠ tag then answerDiscarded (updMailbox s n fun m => { m with assembly := none }) n a .invalidParameter
      else addFragment s n a b (bit h 13) x

/-- ENVELOPE_REASSEMBLY: the next committed packet of a mailbox, unless 16 commands are outstanding (R362), the mailbox is to move,
or no firmware runs (R372). -/
def execEnvelopeReassembly (n : Fin 6) (x : Carry) (t : Time) (s : State) : Outcome :=
  let s := advance s t
  let b := mailbox s n
  if b.req.words.isEmpty || 16 ≤ b.outstanding.length || b.moveTo.isSome || !firmwareRuns s then .next s
  else
    let ws := frontPacket b.req
    let s := updMailbox s n fun b => { b with
      req := { b.req with words := b.req.words.drop ws.length, rd := (b.req.rd + ws.length) % 8192 } }
    .next (takeFragment s n (ws.headD 0) (bytesOf (ws.drop 1).dropLast) x)

/-! ## COMMAND_ENTRY (R319) -/

/-- COMMAND_ENTRY: a ring chain of opcode 0x05.  A body that could not be read ends it (R324); a ring carries no approval records. -/
def execCommandEntry (f : Fin 1024) (q : Fin 4096) (body : Option Bytes) (x : Carry) (t : Time) (s : State) : Outcome :=
  let s := advance s t
  let caller : Caller := .function f q
  .next (present s f q 5 body.isNone fun s j =>
    let code := leAt j.bytes 0 2
    let len := leAt j.bytes 4 4
    match leastOf [(decide (j.bytes.length < 28), .invalidLength), ((funcDomain s f).isNone, .notPermitted),
        (!ringCommands.contains code, .notPermitted), (leAt j.bytes 2 2 ≠ 0, .invalidParameter), (decide (65536 < len), .invalidLength),
        (body.isNone, .invalidParameter)] with
    | some st => endRingStatus s j.id st
    | none =>
      match cmdBody code (slice (body.getD [] ++ zeros len) 0 len) with
      | none => endRingStatus s j.id .lengthMismatch
      | some b => perform code { caller := caller, domain := (funcDomain s f).getD 0, reply := .ring j.id, body := b, records := [],
                                 coreFaults := x.coreFaults, upset := x.upset, facts := x.facts, data := x.data } s)

/-! ## WCALL COMMAND (R376, R378) -/

/-- A page from which the normal world may pass an envelope: NORMAL or SHARED_RO (R376). -/
def callPage (s : State) (a n : Nat) : Bool :=
  let first := (a - 0x100000000) / 4096
  0x100000000 ≤ a && (List.range ((a % 4096 + n + 4095) / 4096)).all fun k =>
    first + k < 8192 && (field (pageEntry s (first + k)) 1 0 == 1 || field (pageEntry s (first + k)) 1 0 == 2)

/-- COMMAND: a secure call that passes an envelope; with the secure world down it returns at once, and no switch takes place.  The
envelope has SESSION 0 and no MAC, and checks 1, 2, 7 and 10 of R361 judge it. -/
def execWorldCall (p : Fin 4) (e : Bytes) (address response room : Nat) (x : Carry) (t : Time) (s : State) : Outcome :=
  let s := advance s t
  if !normalRuns s p || (callOf s p).isSome then .next s
  else if !secureUp s then .next (emit s (.answer { status := .secureWorldDown }))
  else
    let token := s.wld.nextToken
    let r : Reply := .call token
    let b := e.take (leAt e 8 4)
    let body := (cmdBody (envCode b) (envBody b)).getD (.raw [])
    let call : SecureCall := { token := token, pair := p, seq := envSeq e, code := envCode e, domain := envDomain e,
                               unapproved := unapprovedService s (envCode b) body, address := response, room := room, startAt := s.now }
    let s := { s with wld := { s.wld with nextToken := token + 1, calls := s.wld.calls ++ [call] } }
    let fault := firstOf [(!callPage s address e.length, .invalidParameter), ((formFault e).isSome, (formFault e).getD .ok),
      (envSession e ≠ 0, .invalidParameter), (!isCommand (envCode e), .invalidCommand)]
    .next (match fault with
      | some st => answerStatus s r st
      | none => runEnvelope s (.firmware p) r b x)

end Sys2Proof.Machine
end

