-- ==== Sys2Proof/Machine/Dispatch.lean ====
section
/-!
DEFINITION. Dispatch: one arm per command, each a call of that command's meaning.
-/

namespace Sys2Proof.Machine

def exec (i : Instr) (s : State) : Host.Outcome State Fault Refusal :=
  match i with
  | .frameReceive port frame sfd overflow t => Sys2Proof.Machine.execFrameReceive port frame sfd overflow t s
  | .walkStart port t => Sys2Proof.Machine.execWalkStart port t s
  | .walkEnd port t => Sys2Proof.Machine.execWalkEnd port t s
  | .pageInRequest t => Sys2Proof.Machine.execPageInRequest t s
  | .pageInComplete handle cell t => Sys2Proof.Machine.execPageInComplete handle cell t s
  | .pageInTimeout handle t => Sys2Proof.Machine.execPageInTimeout handle t s
  | .laneJobStart lane t => Sys2Proof.Machine.execLaneJobStart lane t s
  | .laneTagResult lane t => Sys2Proof.Machine.execLaneTagResult lane t s
  | .laneKnownAnswer lane correct t => Sys2Proof.Machine.execLaneKnownAnswer lane correct t s
  | .laneParityError lane t => Sys2Proof.Machine.execLaneParityError lane t s
  | .digestBlockEnd engine t => Sys2Proof.Machine.execDigestBlockEnd engine t s
  | .digestJobAssign passage t => Sys2Proof.Machine.execDigestJobAssign passage t s
  | .digestJobComplete engine context t => Sys2Proof.Machine.execDigestJobComplete engine context t s
  | .coreJobStart core t => Sys2Proof.Machine.execCoreJobStart core t s
  | .coreStatusDelivered core invariant t => Sys2Proof.Machine.execCoreStatusDelivered core invariant t s
  | .coreWatchdog core t => Sys2Proof.Machine.execCoreWatchdog core t s
  | .coreZeroingEnd core t => Sys2Proof.Machine.execCoreZeroingEnd core t s
  | .coreSelfTestEnd core passes t => Sys2Proof.Machine.execCoreSelfTestEnd core passes t s
  | .corePoolSwitch core t => Sys2Proof.Machine.execCorePoolSwitch core t s
  | .serviceJobStage t => Sys2Proof.Machine.execServiceJobStage t s
  | .twinDecision frame t => Sys2Proof.Machine.execTwinDecision frame t s
  | .comparatorBDecide frame k upset => Sys2Proof.Machine.execComparatorBDecide frame k upset s
  | .holdTimerTick t => Sys2Proof.Machine.execHoldTimerTick t s
  | .frameTransmit port t => Sys2Proof.Machine.execFrameTransmit port t s
  | .flowRetireCheck t => Sys2Proof.Machine.execFlowRetireCheck t s
  | .linkStateChange port locked t => Sys2Proof.Machine.execLinkStateChange port locked t s
  | .portCfgWrite master port value => Sys2Proof.Machine.execPortCfgWrite master port value s
  | .wireCommit master wire => Sys2Proof.Machine.execWireCommit master wire s
  | .wireDiscard master wire => Sys2Proof.Machine.execWireDiscard master wire s
  | .psgTableLoad c table => Sys2Proof.Machine.execPsgTableLoad c table s
  | .psgTableUnload c => Sys2Proof.Machine.execPsgTableUnload c s
  | .psgWireStage c => Sys2Proof.Machine.execPsgWireStage c s
  | .psgWireCommit c => Sys2Proof.Machine.execPsgWireCommit c s
  | .psgWireDiscard c => Sys2Proof.Machine.execPsgWireDiscard c s
  | .psgFlowRead c => Sys2Proof.Machine.execPsgFlowRead c s
  | .psgFlowFlush c => Sys2Proof.Machine.execPsgFlowFlush c s
  | .psgInject c => Sys2Proof.Machine.execPsgInject c s
  | .psgCountersRead c => Sys2Proof.Machine.execPsgCountersRead c s
  | .psgKeyPrefetch c => Sys2Proof.Machine.execPsgKeyPrefetch c s
  | .psgPuntForward c => Sys2Proof.Machine.execPsgPuntForward c s
  | .psgDnp3Challenge c => Sys2Proof.Machine.execPsgDnp3Challenge c s
  | .chamberMessageReceive port msg seq mac t => Sys2Proof.Machine.execChamberMessageReceive port msg seq mac t s
  | .heartbeatSend t => Sys2Proof.Machine.execHeartbeatSend t s
  | .heartbeatMiss port t => Sys2Proof.Machine.execHeartbeatMiss port t s
  | .linkRetry t => Sys2Proof.Machine.execLinkRetry t s
  | .chamberAlertEdge t => Sys2Proof.Machine.execChamberAlertEdge t s
  | .heartbeatRequestTimeout port t => Sys2Proof.Machine.execHeartbeatRequestTimeout port t s
  | .chamberSyncChange high t => Sys2Proof.Machine.execChamberSyncChange high t s
  | .pairCheck t => Sys2Proof.Machine.execPairCheck t s
  | .pairCheckAnswer port msg seq mac t => Sys2Proof.Machine.execPairCheckAnswer port msg seq mac t s
  | .pairCheckTimeout wire t => Sys2Proof.Machine.execPairCheckTimeout wire t s
  | .lentJobArrival port msg seq mac t => Sys2Proof.Machine.execLentJobArrival port msg seq mac t s
  | .lentResultArrival port msg seq mac t => Sys2Proof.Machine.execLentResultArrival port msg seq mac t s
  | .karChamberSet cmd => Sys2Proof.Machine.execKarChamberSet cmd s
  | .karLendSet cmd => Sys2Proof.Machine.execKarLendSet cmd s
  | .karChamberRead cmd => Sys2Proof.Machine.execKarChamberRead cmd s
  | .pkeJob cmd => Sys2Proof.Machine.execPkeJob cmd s
  | .pkeJobAbort cmd => Sys2Proof.Machine.execPkeJobAbort cmd s
  | .pkeCurveLoad cmd => Sys2Proof.Machine.execPkeCurveLoad cmd s
  | .pkeCurveUnload cmd => Sys2Proof.Machine.execPkeCurveUnload cmd s
  | .pkeCurveRead cmd => Sys2Proof.Machine.execPkeCurveRead cmd s
  | .pkePolicySet cmd => Sys2Proof.Machine.execPkePolicySet cmd s
  | .pkePolicyGet cmd => Sys2Proof.Machine.execPkePolicyGet cmd s
  | .pkePoolStage cmd => Sys2Proof.Machine.execPkePoolStage cmd s
  | .pkePoolCommit cmd => Sys2Proof.Machine.execPkePoolCommit cmd s
  | .pkePoolDiscard cmd => Sys2Proof.Machine.execPkePoolDiscard cmd s
  | .pkeCoreRetest cmd => Sys2Proof.Machine.execPkeCoreRetest cmd s
  | .pkeStatusRead cmd => Sys2Proof.Machine.execPkeStatusRead cmd s
  | .poolCommit master => Sys2Proof.Machine.execPoolCommit master s
  | .poolDiscard master => Sys2Proof.Machine.execPoolDiscard master s
  | .coreRetest master core => Sys2Proof.Machine.execCoreRetest master core s
  | .coreTakeOffline master core => Sys2Proof.Machine.execCoreTakeOffline master core s
  | .svcMac cmd => Sys2Proof.Machine.execSvcMac cmd s
  | .svcSegmentStart engine t => Sys2Proof.Machine.execSvcSegmentStart engine t s
  | .svcSegmentEnd engine t => Sys2Proof.Machine.execSvcSegmentEnd engine t s
  | .svcIdleTimeout engine t => Sys2Proof.Machine.execSvcIdleTimeout engine t s
  | .svcAbort cmd => Sys2Proof.Machine.execSvcAbort cmd s
  | .forceRelease master engine => Sys2Proof.Machine.execForceRelease master engine s
  | .dgsJob cmd => Sys2Proof.Machine.execDgsJob cmd s
  | .dgsResultRead cmd => Sys2Proof.Machine.execDgsResultRead cmd s
  | .dgsAbort cmd => Sys2Proof.Machine.execDgsAbort cmd s
  | .dgsCfgSet cmd => Sys2Proof.Machine.execDgsCfgSet cmd s
  | .svcCfgSet cmd => Sys2Proof.Machine.execSvcCfgSet cmd s
  | .engStatusRead cmd => Sys2Proof.Machine.execEngStatusRead cmd s
  | .laneRetest master lane => Sys2Proof.Machine.execLaneRetest master lane s
  | .laneTakeOffline master lane => Sys2Proof.Machine.execLaneTakeOffline master lane s
  | .dgsRetest master engine => Sys2Proof.Machine.execDgsRetest master engine s
  | .dgsTakeOffline master engine => Sys2Proof.Machine.execDgsTakeOffline master engine s
  | .engineSelfTestEnd unit passes t => Sys2Proof.Machine.execEngineSelfTestEnd unit passes t s
  | .maskReseedRequest engine t => Sys2Proof.Machine.execMaskReseedRequest engine t s
  | .maskReseedLoad engine t => Sys2Proof.Machine.execMaskReseedLoad engine t s
  | .maskGeneratorStarved engine t => Sys2Proof.Machine.execMaskGeneratorStarved engine t s
  | .noiseSample bits t => Sys2Proof.Machine.execNoiseSample bits t s
  | .spanEnd cell t => Sys2Proof.Machine.execSpanEnd cell t s
  | .drbgGenerateCall inst t => Sys2Proof.Machine.execDrbgGenerateCall inst t s
  | .drbgReseed inst t => Sys2Proof.Machine.execDrbgReseed inst t s
  | .rngStartup conditionerOk instancesOk t => Sys2Proof.Machine.execRngStartup conditionerOk instancesOk t s
  | .rngStartupTimeout t => Sys2Proof.Machine.execRngStartupTimeout t s
  | .katStart master unit passes => Sys2Proof.Machine.execKatStart master unit passes s
  | .testSrcEnable master enable => Sys2Proof.Machine.execTestSrcEnable master enable s
  | .rngGenerate cmd => Sys2Proof.Machine.execRngGenerate cmd s
  | .rngStatusRead cmd => Sys2Proof.Machine.execRngStatusRead cmd s
  | .rngCfgSet cmd => Sys2Proof.Machine.execRngCfgSet cmd s
  | .rngCellRetest cmd => Sys2Proof.Machine.execRngCellRetest cmd s
  | .rngKatRun cmd => Sys2Proof.Machine.execRngKatRun cmd s
  | .rngTestSource cmd => Sys2Proof.Machine.execRngTestSource cmd s
  | .kstGenerate cmd => Sys2Proof.Machine.execKstGenerate cmd s
  | .kstDestroy cmd => Sys2Proof.Machine.execKstDestroy cmd s
  | .kstAttrSet cmd => Sys2Proof.Machine.execKstAttrSet cmd s
  | .kstAttrGet cmd => Sys2Proof.Machine.execKstAttrGet cmd s
  | .kstAttest cmd => Sys2Proof.Machine.execKstAttest cmd s
  | .kstCertRead cmd => Sys2Proof.Machine.execKstCertRead cmd s
  | .kstTransportOpen cmd => Sys2Proof.Machine.execKstTransportOpen cmd s
  | .kstTransportAccept cmd => Sys2Proof.Machine.execKstTransportAccept cmd s
  | .kstImport cmd => Sys2Proof.Machine.execKstImport cmd s
  | .kstTransportClose cmd => Sys2Proof.Machine.execKstTransportClose cmd s
  | .transportExpiry id t => Sys2Proof.Machine.execTransportExpiry id t s
  | .kstExport cmd => Sys2Proof.Machine.execKstExport cmd s
  | .kstDerive cmd => Sys2Proof.Machine.execKstDerive cmd s
  | .kstDomainCreate cmd => Sys2Proof.Machine.execKstDomainCreate cmd s
  | .kstDomainDestroy cmd => Sys2Proof.Machine.execKstDomainDestroy cmd s
  | .kstDomainRead cmd => Sys2Proof.Machine.execKstDomainRead cmd s
  | .kstDomainSet cmd => Sys2Proof.Machine.execKstDomainSet cmd s
  | .kstMaskSet cmd => Sys2Proof.Machine.execKstMaskSet cmd s
  | .kstOfficerEnrol cmd => Sys2Proof.Machine.execKstOfficerEnrol cmd s
  | .kstOfficerRemove cmd => Sys2Proof.Machine.execKstOfficerRemove cmd s
  | .kstCredSet cmd => Sys2Proof.Machine.execKstCredSet cmd s
  | .kstFuncAssign cmd => Sys2Proof.Machine.execKstFuncAssign cmd s
  | .kstQuorumOpen cmd => Sys2Proof.Machine.execKstQuorumOpen cmd s
  | .kstQuorumCancel cmd => Sys2Proof.Machine.execKstQuorumCancel cmd s
  | .nonceExpiry t => Sys2Proof.Machine.execNonceExpiry t s
  | .kstDomain0Setup cmd => Sys2Proof.Machine.execKstDomain0Setup cmd s
  | .kstRootRenew cmd => Sys2Proof.Machine.execKstRootRenew cmd s
  | .kstStatusRead cmd => Sys2Proof.Machine.execKstStatusRead cmd s
  | .keyStoreReady t => Sys2Proof.Machine.execKeyStoreReady t s
  | .geoCommit t => Sys2Proof.Machine.execGeoCommit t s
  | .geoCommitComplete t => Sys2Proof.Machine.execGeoCommitComplete t s
  | .geoMount facts t => Sys2Proof.Machine.execGeoMount facts t s
  | .scrubStripe outcome last t => Sys2Proof.Machine.execScrubStripe outcome last t s
  | .flashBlockFailure channel t => Sys2Proof.Machine.execFlashBlockFailure channel t s
  | .flashChannelFailure channel t => Sys2Proof.Machine.execFlashChannelFailure channel t s
  | .geoStatusRead cmd => Sys2Proof.Machine.execGeoStatusRead cmd s
  | .geoFormat cmd => Sys2Proof.Machine.execGeoFormat cmd s
  | .geoRemount cmd => Sys2Proof.Machine.execGeoRemount cmd s
  | .geoScrubSet cmd => Sys2Proof.Machine.execGeoScrubSet cmd s
  | .geoFlashInfo cmd => Sys2Proof.Machine.execGeoFlashInfo cmd s
  | .sqDoorbell function queue => Sys2Proof.Machine.execSqDoorbell function queue s
  | .producerWordRead function queue word t => Sys2Proof.Machine.execProducerWordRead function queue word t s
  | .entryFetch function queue entry t => Sys2Proof.Machine.execEntryFetch function queue entry t s
  | .dmaReadTimeout function queue t => Sys2Proof.Machine.execDmaReadTimeout function queue t s
  | .jobAdmission t => Sys2Proof.Machine.execJobAdmission t s
  | .completionWrite function queue outputFails entryFails t => Sys2Proof.Machine.execCompletionWrite function queue outputFails entryFails t s
  | .msixMessage function queue t => Sys2Proof.Machine.execMsixMessage function queue t s
  | .cqHeadWrite function queue value => Sys2Proof.Machine.execCqHeadWrite function queue value s
  | .qpEnable function queue value => Sys2Proof.Machine.execQpEnable function queue value s
  | .publicKeyJob function queue data t => Sys2Proof.Machine.execPublicKeyJob function queue data t s
  | .serviceMacSegment function queue data t => Sys2Proof.Machine.execServiceMacSegment function queue data t s
  | .digestJob function queue data t => Sys2Proof.Machine.execDigestJob function queue data t s
  | .randomBytes function queue t => Sys2Proof.Machine.execRandomBytes function queue t s
  | .commandEntry function queue body carry t => Sys2Proof.Machine.execCommandEntry function queue body carry t s
  | .abortEntry function queue t => Sys2Proof.Machine.execAbortEntry function queue t s
  | .qpCreate function t => Sys2Proof.Machine.execQpCreate function t s
  | .qpDestroy function t => Sys2Proof.Machine.execQpDestroy function t s
  | .qpModify function t => Sys2Proof.Machine.execQpModify function t s
  | .qpQuery function t => Sys2Proof.Machine.execQpQuery function t s
  | .vfLimits t => Sys2Proof.Machine.execVfLimits t s
  | .vfFreeze t => Sys2Proof.Machine.execVfFreeze t s
  | .vfSave t => Sys2Proof.Machine.execVfSave t s
  | .vfRestore blob t => Sys2Proof.Machine.execVfRestore blob t s
  | .vfResume t => Sys2Proof.Machine.execVfResume t s
  | .vfReset t => Sys2Proof.Machine.execVfReset t s
  | .functionLevelReset function t => Sys2Proof.Machine.execFunctionLevelReset function t s
  | .pciePerst t => Sys2Proof.Machine.execPciePerst t s
  | .pcieLinkUp vfs t => Sys2Proof.Machine.execPcieLinkUp vfs t s
  | .hqFuncRead cmd => Sys2Proof.Machine.execHqFuncRead cmd s
  | .hqStatusRead cmd => Sys2Proof.Machine.execHqStatusRead cmd s
  | .requestPacketWrite command words whole fault t => Sys2Proof.Machine.execRequestPacketWrite command words whole fault t s
  | .responsePacketRead mailbox words t => Sys2Proof.Machine.execResponsePacketRead mailbox words t s
  | .i3cRegisterWrite address values t => Sys2Proof.Machine.execI3cRegisterWrite address values t s
  | .i3cRegisterRead words t => Sys2Proof.Machine.execI3cRegisterRead words t s
  | .reqHdrWrite master mailbox value => Sys2Proof.Machine.execReqHdrWrite master mailbox value s
  | .reqDataWrite master mailbox value => Sys2Proof.Machine.execReqDataWrite master mailbox value s
  | .rspDataRead master mailbox => Sys2Proof.Machine.execRspDataRead master mailbox s
  | .rspRewind master mailbox => Sys2Proof.Machine.execRspRewind master mailbox s
  | .envelopeReassembly mailbox carry t => Sys2Proof.Machine.execEnvelopeReassembly mailbox carry t s
  | .reassemblyTimeout mailbox t => Sys2Proof.Machine.execReassemblyTimeout mailbox t s
  | .interimResponse mailbox t => Sys2Proof.Machine.execInterimResponse mailbox t s
  | .finalResponseWrite mailbox t => Sys2Proof.Machine.execFinalResponseWrite mailbox t s
  | .noticeWrite strata t => Sys2Proof.Machine.execNoticeWrite strata t s
  | .sessionIdleTimeout mailbox session t => Sys2Proof.Machine.execSessionIdleTimeout mailbox session t s
  | .offerExpiry offer t => Sys2Proof.Machine.execOfferExpiry offer t s
  | .mbxInfo cmd => Sys2Proof.Machine.execMbxInfo cmd s
  | .mbxSessionOffer cmd => Sys2Proof.Machine.execMbxSessionOffer cmd s
  | .mbxSessionOpen cmd => Sys2Proof.Machine.execMbxSessionOpen cmd s
  | .mbxSessionClose cmd => Sys2Proof.Machine.execMbxSessionClose cmd s
  | .mbxSessionList cmd => Sys2Proof.Machine.execMbxSessionList cmd s
  | .mbxPortSet cmd => Sys2Proof.Machine.execMbxPortSet cmd s
  | .mbxCfgSet cmd => Sys2Proof.Machine.execMbxCfgSet cmd s
  | .mbxStatusRead cmd => Sys2Proof.Machine.execMbxStatusRead cmd s
  | .entdaa address t => Sys2Proof.Machine.execEntdaa address t s
  | .setdasa static address t => Sys2Proof.Machine.execSetdasa static address t s
  | .setnewda address t => Sys2Proof.Machine.execSetnewda address t s
  | .rstdaa t => Sys2Proof.Machine.execRstdaa t s
  | .enec t => Sys2Proof.Machine.execEnec t s
  | .disec t => Sys2Proof.Machine.execDisec t s
  | .getpid t => Sys2Proof.Machine.execGetpid t s
  | .getbcr t => Sys2Proof.Machine.execGetbcr t s
  | .getdcr t => Sys2Proof.Machine.execGetdcr t s
  | .getstatus t => Sys2Proof.Machine.execGetstatus t s
  | .getmwl t => Sys2Proof.Machine.execGetmwl t s
  | .getmrl t => Sys2Proof.Machine.execGetmrl t s
  | .setmwl length t => Sys2Proof.Machine.execSetmwl length t s
  | .setmrl length t => Sys2Proof.Machine.execSetmrl length t s
  | .getmxds t => Sys2Proof.Machine.execGetmxds t s
  | .getcaps t => Sys2Proof.Machine.execGetcaps t s
  | .enthdr0 t => Sys2Proof.Machine.execEnthdr0 t s
  | .rstact action t => Sys2Proof.Machine.execRstact action t s
  | .worldPoll pair token t => Sys2Proof.Machine.execWorldPoll pair token t s
  | .fwConfirm pair t => Sys2Proof.Machine.execFwConfirm pair t s
  | .worldCall pair envelope address responseAddress responseMax carry t => Sys2Proof.Machine.execWorldCall pair envelope address responseAddress responseMax carry t s
  | .worldReturn pair t => Sys2Proof.Machine.execWorldReturn pair t s
  | .callLimitExpiry pair t => Sys2Proof.Machine.execCallLimitExpiry pair t s
  | .sharedQuantumEnd pair t => Sys2Proof.Machine.execSharedQuantumEnd pair t s
  | .lockstepMismatch pair carried t => Sys2Proof.Machine.execLockstepMismatch pair carried t s
  | .eccDoubleError source secure t => Sys2Proof.Machine.execEccDoubleError source secure t s
  | .pageOwnerWrite master page value => Sys2Proof.Machine.execPageOwnerWrite master page value s
  | .swKick master t => Sys2Proof.Machine.execSwKick master t s
  | .swReady master t => Sys2Proof.Machine.execSwReady master t s
  | .swRestart master t => Sys2Proof.Machine.execSwRestart master t s
  | .nwKick master t => Sys2Proof.Machine.execNwKick master t s
  | .secureWatchdogExpiry t => Sys2Proof.Machine.execSecureWatchdogExpiry t s
  | .secureException t => Sys2Proof.Machine.execSecureException t s
  | .normalWatchdogExpiry t => Sys2Proof.Machine.execNormalWatchdogExpiry t s
  | .normalException t => Sys2Proof.Machine.execNormalException t s
  | .clockOff master unit t => Sys2Proof.Machine.execClockOff master unit t s
  | .clockOn master unit t => Sys2Proof.Machine.execClockOn master unit t s
  | .powerOff master unit t => Sys2Proof.Machine.execPowerOff master unit t s
  | .powerOn master unit t => Sys2Proof.Machine.execPowerOn master unit t s
  | .powerRequestTaken unit t => Sys2Proof.Machine.execPowerRequestTaken unit t s
  | .pwrOwnerWrite master word value t => Sys2Proof.Machine.execPwrOwnerWrite master word value t s
  | .fwConfirmWrite master t => Sys2Proof.Machine.execFwConfirmWrite master t s
  | .normalWorldStart t => Sys2Proof.Machine.execNormalWorldStart t s
  | .wldStatusRead cmd => Sys2Proof.Machine.execWldStatusRead cmd s
  | .wldFwStage cmd => Sys2Proof.Machine.execWldFwStage cmd s
  | .wldFwActivate cmd => Sys2Proof.Machine.execWldFwActivate cmd s
  | .wldNwRestart cmd => Sys2Proof.Machine.execWldNwRestart cmd s
  | .wldFwKeySet cmd => Sys2Proof.Machine.execWldFwKeySet cmd s
  | .wldViolRead cmd => Sys2Proof.Machine.execWldViolRead cmd s
  | .lcyStatusRead cmd => Sys2Proof.Machine.execLcyStatusRead cmd s
  | .lcyNonce cmd => Sys2Proof.Machine.execLcyNonce cmd s
  | .lcyTransition cmd => Sys2Proof.Machine.execLcyTransition cmd s
  | .lcyTestExit cmd => Sys2Proof.Machine.execLcyTestExit cmd s
  | .lcyDebugUnlock cmd => Sys2Proof.Machine.execLcyDebugUnlock cmd s
  | .lcyDebugLock cmd => Sys2Proof.Machine.execLcyDebugLock cmd s
  | .lcyLogRead cmd => Sys2Proof.Machine.execLcyLogRead cmd s
  | .dbgLock master value t => Sys2Proof.Machine.execDbgLock master value t s
  | .debugCertExpiry t => Sys2Proof.Machine.execDebugCertExpiry t s
  | .tapExtest shift pins t => Sys2Proof.Machine.execTapExtest shift pins t s
  | .samplePreload shift pins t => Sys2Proof.Machine.execSamplePreload shift pins t s
  | .tapIdcode shift t => Sys2Proof.Machine.execTapIdcode shift t s
  | .tapClamp shift t => Sys2Proof.Machine.execTapClamp shift t s
  | .tapHighz shift t => Sys2Proof.Machine.execTapHighz shift t s
  | .lcyCmd t => Sys2Proof.Machine.execLcyCmd t s
  | .tapDap shift t => Sys2Proof.Machine.execTapDap shift t s
  | .scanCtrl shift t => Sys2Proof.Machine.execScanCtrl shift t s
  | .tapBypass shift t => Sys2Proof.Machine.execTapBypass shift t s
  | .dapAccess op t => Sys2Proof.Machine.execDapAccess op t s
  | .lanternSample sample t => Sys2Proof.Machine.execLanternSample sample t s
  | .zeroizeSecondDecision calls t => Sys2Proof.Machine.execZeroizeSecondDecision calls t s
  | .detectorSelfTest fails t => Sys2Proof.Machine.execDetectorSelfTest fails t s
  | .holdExpiry t => Sys2Proof.Machine.execHoldExpiry t s
  | .faultAlarm block unit t => Sys2Proof.Machine.execFaultAlarm block unit t s
  | .pllLockLost clock t => Sys2Proof.Machine.execPllLockLost clock t s
  | .lanStatusRead cmd => Sys2Proof.Machine.execLanStatusRead cmd s
  | .lanAlarmSet cmd => Sys2Proof.Machine.execLanAlarmSet cmd s
  | .lanPinSet cmd => Sys2Proof.Machine.execLanPinSet cmd s
  | .lanClear cmd => Sys2Proof.Machine.execLanClear cmd s
  | .lanBatlogRead cmd => Sys2Proof.Machine.execLanBatlogRead cmd s
  | .lanDetectorTest cmd => Sys2Proof.Machine.execLanDetectorTest cmd s
  | .syncReceive port msg t => Sys2Proof.Machine.execSyncReceive port msg t s
  | .followUpReceive port msg t => Sys2Proof.Machine.execFollowUpReceive port msg t s
  | .announceReceive port msg t => Sys2Proof.Machine.execAnnounceReceive port msg t s
  | .pdelayReqReceive port domain seq t => Sys2Proof.Machine.execPdelayReqReceive port domain seq t s
  | .pdelayRespReceive port msg t => Sys2Proof.Machine.execPdelayRespReceive port msg t s
  | .pdelayReqSend port t => Sys2Proof.Machine.execPdelayReqSend port t s
  | .holdoverStart t => Sys2Proof.Machine.execHoldoverStart t s
  | .holdoverExpiry t => Sys2Proof.Machine.execHoldoverExpiry t s
  | .ppsInEdge rising t => Sys2Proof.Machine.execPpsInEdge rising t s
  | .ppsMissing t => Sys2Proof.Machine.execPpsMissing t s
  | .wholeSecond t => Sys2Proof.Machine.execWholeSecond t s
  | .correlationWrite t => Sys2Proof.Machine.execCorrelationWrite t s
  | .timStatusRead cmd => Sys2Proof.Machine.execTimStatusRead cmd s
  | .timCfgSet cmd => Sys2Proof.Machine.execTimCfgSet cmd s
  | .timSet cmd => Sys2Proof.Machine.execTimSet cmd s
  | .accumulatorClose t => Sys2Proof.Machine.execAccumulatorClose t s
  | .tokenRefill t => Sys2Proof.Machine.execTokenRefill t s
  | .strataRecordWrite readsBack erases t => Sys2Proof.Machine.execStrataRecordWrite readsBack erases t s
  | .strataScan t => Sys2Proof.Machine.execStrataScan t s
  | .strStatusRead cmd => Sys2Proof.Machine.execStrStatusRead cmd s
  | .strRead cmd => Sys2Proof.Machine.execStrRead cmd s
  | .strAccumRead cmd => Sys2Proof.Machine.execStrAccumRead cmd s
  | .strCfgSet cmd => Sys2Proof.Machine.execStrCfgSet cmd s
  | .strCodeSet cmd => Sys2Proof.Machine.execStrCodeSet cmd s
  | .karFound cmd => Sys2Proof.Machine.execKarFound cmd s
  | .karJoin cmd => Sys2Proof.Machine.execKarJoin cmd s
  | .karAdmit cmd => Sys2Proof.Machine.execKarAdmit cmd s
  | .karRevokeMember cmd => Sys2Proof.Machine.execKarRevokeMember cmd s
  | .karLeave cmd => Sys2Proof.Machine.execKarLeave cmd s
  | .karDomainReplicate cmd => Sys2Proof.Machine.execKarDomainReplicate cmd s
  | .karReplicaSet cmd => Sys2Proof.Machine.execKarReplicaSet cmd s
  | .karDomainRead cmd => Sys2Proof.Machine.execKarDomainRead cmd s
  | .karStatusRead cmd => Sys2Proof.Machine.execKarStatusRead cmd s
  | .karCfgSet cmd => Sys2Proof.Machine.execKarCfgSet cmd s
  | .karOutTake cmd => Sys2Proof.Machine.execKarOutTake cmd s
  | .karInGive cmd => Sys2Proof.Machine.execKarInGive cmd s
  | .karFrameSend cmd => Sys2Proof.Machine.execKarFrameSend cmd s
  | .karOffer sender hello t => Sys2Proof.Machine.execKarOffer sender hello t s
  | .karAccept sender hello t => Sys2Proof.Machine.execKarAccept sender hello t s
  | .karHeartbeat sender domain term version t => Sys2Proof.Machine.execKarHeartbeat sender domain term version t s
  | .karPropose sender change sig t => Sys2Proof.Machine.execKarPropose sender change sig t s
  | .karSigned sender domain version term sig t => Sys2Proof.Machine.execKarSigned sender domain version term sig t s
  | .karCommit sender change sigs t => Sys2Proof.Machine.execKarCommit sender change sigs t s
  | .karDecline sender domain version status holder t => Sys2Proof.Machine.execKarDecline sender domain version status holder t s
  | .karForward sender id domain body result t => Sys2Proof.Machine.execKarForward sender id domain body result t s
  | .voteRequest sender domain term signedTerm signedVersion t => Sys2Proof.Machine.execVoteRequest sender domain term signedTerm signedVersion t s
  | .karVote sender domain term t => Sys2Proof.Machine.execKarVote sender domain term t s
  | .catchupRequest sender domain version t => Sys2Proof.Machine.execCatchupRequest sender domain version t s
  | .karCatchup sender domain records t => Sys2Proof.Machine.execKarCatchup sender domain records t s
  | .karRevoke sender change sigs t => Sys2Proof.Machine.execKarRevoke sender change sigs t s
  | .rosterPoll sender version t => Sys2Proof.Machine.execRosterPoll sender version t s
  | .karRoster sender version entries replicated t => Sys2Proof.Machine.execKarRoster sender version entries replicated t s
  | .primaryHeartbeatSend domain t => Sys2Proof.Machine.execPrimaryHeartbeatSend domain t s
  | .primaryTimeout domain jitter t => Sys2Proof.Machine.execPrimaryTimeout domain jitter t s
  | .messageResend t => Sys2Proof.Machine.execMessageResend t s
  | .commitTimeout t => Sys2Proof.Machine.execCommitTimeout t s
  | .rosterPollTimer t => Sys2Proof.Machine.execRosterPollTimer t s
  | .sessionRenewal peer t => Sys2Proof.Machine.execSessionRenewal peer t s
  | .oldKeyExpiry peer t => Sys2Proof.Machine.execOldKeyExpiry peer t s
  | .mainPgRise straps t => Sys2Proof.Machine.execMainPgRise straps t s
  | .mainPgFall t => Sys2Proof.Machine.execMainPgFall t s
  | .vstbyWindowChange inWindow t => Sys2Proof.Machine.execVstbyWindowChange inWindow t s
  | .sysReset t => Sys2Proof.Machine.execSysReset t s
  | .softwareReset master value t => Sys2Proof.Machine.execSoftwareReset master value t s
  | .configRestore sound t => Sys2Proof.Machine.execConfigRestore sound t s
  | .registerWrite target size value t => Sys2Proof.Machine.execRegisterWrite target size value t s
  | .registerRead target size t => Sys2Proof.Machine.execRegisterRead target size t s
  | .internalResetRelease straps t => Sys2Proof.Machine.execInternalResetRelease straps t s
  | .vbatWindowChange present t => Sys2Proof.Machine.execVbatWindowChange present t s
  | .pcieLinkDown t => Sys2Proof.Machine.execPcieLinkDown t s
  | .pllLockGained clock t => Sys2Proof.Machine.execPllLockGained clock t s
  | .engineParityError unit t => Sys2Proof.Machine.execEngineParityError unit t s
  | .engineKnownAnswer unit correct t => Sys2Proof.Machine.execEngineKnownAnswer unit correct t s
  | .tapReset t => Sys2Proof.Machine.execTapReset t s

end Sys2Proof.Machine
end

