-- ==== Sys2Proof/Safety.lean ====
section
/-!
DEFINITION. What every state of a safe run satisfies, in the terms the statements use.
-/

namespace Sys2Proof.Safety

open Sys2Proof.Machine

/-- Pages 0 to 15 of control memory read SECURE, colour 0 and LOCKED, as reset left them: a locked entry does not change (R379, R382). -/
def BootPagesLocked (s : State) : Prop := ∀ p, p < 16 → pageEntry s p = 0x100

/-- The protection units of masters 4 to 10 hold a KEY that is not 0, the key that passes every colour (R383, R384). -/
def MastersKeyed (s : State) : Prop := ∀ m, 4 ≤ m → m ≤ 10 → s.wld.mpu.get (mpuReset m) m % 16 ≠ 0

/-- What every command keeps: the locked pages, the keyed masters and the canonical form of control memory. -/
def Inv (s : State) : Prop := BootPagesLocked s ∧ MastersKeyed s ∧ Memory.wf s.ctl = true

/-- A run of `n` steps is safe: no step faults or is refused, and every state it passes satisfies `Inv`. -/
def SafeRun : Nat → State → Prop
  | 0, s => Inv s
  | n + 1, s => Inv s ∧ ∃ u, step s = .next u ∧ SafeRun n u

end Sys2Proof.Safety
end

