-- ==== Sys2Proof/Certificates/Slice0/Obligations.lean ====
section
/-!
DEFINITION. The statements for the provers.  The parts of a statement that covers several commands are named propositions of
`Sys2Proof.Claims`, each about the commands its comment lists.
-/

/-! ## Words that the statements share -/

namespace Sys2Proof.Claims

open Sys2Proof Sys2Proof.Machine

/-- The command `i` completes from the state `s` with a next state of which `P` holds. -/
def Runs (i : Instr) (s : State) (P : State → Prop) : Prop := ∃ u, exec i s = .next u ∧ P u

/-- Whenever the command `i` answers a next state, `R` holds between the state before it and the state after it. -/
def Framed (i : Instr) (R : State → State → Prop) : Prop := ∀ s u, exec i s = .next u → R s u

/-- A mailbox or ring command is let through to its own chapter's rules: it does not come through the TAP, the secure world is
up, the caller's role admits it in the envelope's domain (R361, R364), that domain's records are loaded (R264), and its items have no
fault of R354. -/
def admitted (s : State) (c : Cmd) (code : Nat) : Bool :=
  c.caller != .tap && secureUp s && (gate s c code).isNone && domainKnown s c.domain && !itemsFault code c.body

/-- The command is under the quorum `q` (R275, R276): where `judgeQuorum` finds it met, `P` holds of the state after the judgement and
of the reason codes; where it does not, the command ends with the refusal's status and the reason codes, and nothing else. -/
def UnderQuorum (s : State) (c : Cmd) (q : Quorum) (u : State) (P : State → List Nat → Prop) : Prop :=
  match judgeQuorum s c q with
  | (v, reasons, none) => P v reasons
  | (v, reasons, some st) => u = answer v c.reply { status := st, reasons := reasons }

/-- The state `u` is what answering the command OK with these values leaves. -/
def AnsweredOk (u : State) (c : Cmd) (items : List RItem) : Prop := ∃ v reasons, u = answerOk v c reasons items

/-- The next job of queue `q` of function `f` to be put forward is `j`, of the given opcode. -/
def Presents (s : State) (f q op : Nat) (j : RingJob) : Prop := nextJob s f q = some j ∧ j.opcode = op

/-- The next job of QP0 of function `f` is an admin command of the given opcode, with `n` bytes of fields and zeros after them. -/
def AdminJob (s : State) (f op n : Nat) (j : RingJob) : Prop := Presents s f 0 op j ∧ allZero (j.bytes.drop n) = true

/-- The state with job `j` of a queue marked as put forward. -/
def putForward (s : State) (f q : Nat) (j : RingJob) : State := updJob s f q j.id fun _ => { j with presented := true }

/-- The one payload that waits inbound is the message `m` of member `p`, and this device is an active member whose secure world and vault
serve. -/
def Received (s : State) (p : Nat) (m : KarMsg) : Prop :=
  (∃ e : KarIn, s.kar.inbound = [e] ∧ e.sender = p ∧ e.type = karType m ∧ e.payload = Config.karBody m) ∧
    secureUp s = true ∧ karState s = 2 ∧ vaultServes s = true ∧ s.kst.domainsLoaded = true

/-- A refused access at an address is on record: one more violation record, of reason 4, that the secure world is told of, an event of
Strata's code 3, and nothing else but the time: every other part of the state is as it was. -/
def Reported (s u : State) (m : Master) (a : Nat) : Prop :=
  u.wld.violationNo = (s.wld.violationNo + 1) % 2 ^ 32 ∧ u.wld.violationPending = true ∧
    (∃ v ∈ u.wld.violations, v.reason = 4 ∧ v.address = a ∧ v.master = (busMaster s m).number) ∧ (u.str.accums.look 3).isSome = true ∧
    u.id = s.id ∧ u.psg = s.psg ∧ u.cham = s.cham ∧ u.kst = s.kst ∧ u.mbx = s.mbx ∧ u.lan = s.lan ∧ u.bb = s.bb ∧ u.lcy = s.lcy ∧
    u.die = s.die ∧ u.rng = s.rng ∧ u.pke = s.pke ∧ u.eng = s.eng ∧ u.host = s.host ∧ u.geo = s.geo ∧ u.flash = s.flash ∧
    u.kar = s.kar ∧ u.ctl = s.ctl ∧ u.wld.pages = s.wld.pages ∧ u.wld.mpu = s.wld.mpu

/-- The key that a wrapped-key blob opens to under its transport's key (R257, R258). -/
def blobKey (s : State) (b : KeyBlob) : Option Bytes :=
  gcmOpen (((findTransport s b.transport).bind (·.key)).getD []) b.iv b.aad b.wrapped b.tag

/-- Registers with the value that their reset columns give: the ID block, port 0 to 2, the Passage global block, the SHADOW bank of wire 0, the
chamber and Karst block, the pools, the engines, the RNG, the key store, Geode, the mailboxes, the worlds, Lantern, the clock and
Strata. -/
def resetValues : List (Nat × Nat) :=
  [(0x0, 0x4144), (0x4, 0xB1), (0x40, 0x8), (0x10, 0x1), (0x400000, 0x8000004), (0x400004, 0x4), (0x404004, 0x800004),
    (0x408004, 0x10004), (0x200100, 0x258), (0x201000, 0x8), (0x201004, 0x8080), (0x201008, 0x100), (0x201200, 0x50190),
    (0x201204, 0x1F4), (0x201808, 0x1), (0x2200010, 0x40100), (0x2200020, 0xFF), (0x100800, 0xFFFFFFFF),
    (0x100804, 0xFFFFFFFF), (0x100808, 0xFFFFFF), (0x100810, 0xFFFFFFFF), (0x100814, 0xFFFFFFFF), (0x100818, 0xFFFFFF),
    (0x100828, 0x1), (0x78000, 0x64), (0x81800, 0x8), (0x50004, 0x10000010), (0x50008, 0x40), (0x60030, 0xE10),
    (0x2000004, 0x3E8), (0x2000008, 0x1804FF), (0x2000048, 0xFFFFFFFF), (0x10804, 0x384), (0x3000000, 0xF00),
    (0x3000004, 0x3), (0x3000008, 0x64), (0x300000C, 0x101F4), (0x3000050, 0x1E), (0x3000060, 0x12), (0x3000064, 0x13),
    (0x3000068, 0x4), (0x3000040, 0x10), (0x20018, 0x40064), (0x20100, 0x2), (0x2010C, 0xC), (0x20114, 0xB),
    (0x20118, 0x1), (0x2011C, 0x9), (0x20140, 0xC), (0x2100000, 0xFF0002), (0x2100024, 0xFFFFFFFF),
    (0x2100028, 0x1003E8), (0x210002C, 0x64003C), (0x2100030, 0x6402), (0x30004, 0x800), (0x30100, 0x3C),
    (0x301AC, 0x3C), (0x2201020, 0x1030), (0x2201024, 0x7D00BB8), (0x2201028, 0x3C), (0x220102C, 0xFFFFFFFF)]

end Sys2Proof.Claims

namespace Sys2Proof.Claims

open Sys2Proof Sys2Proof.Machine

/-- A part of the block's state: a field of it, or one of the parts `lcyState`, `pages` and `units` of such a field. -/
inductive Part
  | now | fresh | snaps | out | id | psg | cham | kst | mbx | str | lan | bb | tim | lcy | lcyState | die | rng
  | pke | eng | host | geo | flash | wld | pages | units | kar | ctl
  deriving DecidableEq, Repr

/-- Every part. -/
def Part.all : List Part :=
  [.now, .fresh, .snaps, .out, .id, .psg, .cham, .kst, .mbx, .str, .lan, .bb, .tim, .lcy, .lcyState, .die, .rng,
   .pke, .eng, .host, .geo, .flash, .wld, .pages, .units, .kar, .ctl]

/-- A part is the same in two states. -/
def Part.same : Part → State → State → Prop
  | .now, s, u => u.now = s.now
  | .fresh, s, u => u.fresh = s.fresh
  | .snaps, s, u => u.snaps = s.snaps
  | .out, s, u => u.out = s.out
  | .id, s, u => u.id = s.id
  | .psg, s, u => u.psg = s.psg
  | .cham, s, u => u.cham = s.cham
  | .kst, s, u => u.kst = s.kst
  | .mbx, s, u => u.mbx = s.mbx
  | .str, s, u => u.str = s.str
  | .lan, s, u => u.lan = s.lan
  | .bb, s, u => u.bb = s.bb
  | .tim, s, u => u.tim = s.tim
  | .lcy, s, u => u.lcy = s.lcy
  | .lcyState, s, u => u.lcy.state = s.lcy.state
  | .die, s, u => u.die = s.die
  | .rng, s, u => u.rng = s.rng
  | .pke, s, u => u.pke = s.pke
  | .eng, s, u => u.eng = s.eng
  | .host, s, u => u.host = s.host
  | .geo, s, u => u.geo = s.geo
  | .flash, s, u => u.flash = s.flash
  | .wld, s, u => u.wld = s.wld
  | .pages, s, u => u.wld.pages = s.wld.pages
  | .units, s, u => u.wld.mpu = s.wld.mpu
  | .kar, s, u => u.kar = s.kar
  | .ctl, s, u => u.ctl = s.ctl

/-- The parts of the state that a command may change: every other part is as it was after it. -/
def touched : Instr → List Part
  | .frameReceive .. | .laneJobStart .. => [.now, .out, .psg, .str, .tim, .lcy, .wld, .ctl]
  | .walkStart .. => [.now, .fresh, .out, .psg, .mbx, .str, .tim, .lcy, .die, .host, .wld, .ctl]
  | .walkEnd .. => [.now, .fresh, .out, .psg, .kst, .mbx, .str, .tim, .lcy, .die, .host, .wld, .ctl]
  | .pageInRequest .. | .twinDecision .. | .flowRetireCheck .. => [.now, .psg, .tim]
  | .pageInComplete .. =>
    [.now, .out, .id, .psg, .kst, .mbx, .str, .bb, .tim, .lcy, .eng, .host, .geo, .flash, .wld, .ctl]
  | .pageInTimeout .. => [.now, .out, .psg, .str, .tim, .lcy, .geo, .wld, .ctl]
  | .laneTagResult .. | .engineSelfTestEnd .. | .maskReseedLoad .. => [.now, .id, .psg, .tim, .eng]
  | .laneKnownAnswer .. | .laneParityError .. => [.now, .id, .psg, .lan, .tim, .eng]
  | .digestBlockEnd .. => [.now, .out, .id, .mbx, .str, .tim, .pke, .eng, .host, .wld, .ctl]
  | .digestJobAssign .. => [.now, .out, .psg, .kst, .mbx, .str, .tim, .lcy, .pke, .eng, .host, .wld, .ctl]
  | .digestJobComplete .. =>
    [.now, .fresh, .out, .id, .psg, .cham, .kst, .mbx, .str, .tim, .lcy, .die, .pke, .eng, .host, .geo, .wld, .ctl]
  | .coreJobStart .. => [.now, .out, .psg, .str, .tim, .lcy, .pke, .wld, .ctl]
  | .coreStatusDelivered .. =>
    [.now, .fresh, .out, .id, .psg, .cham, .kst, .mbx, .str, .lan, .tim, .lcy, .die, .pke, .eng, .host, .geo, .wld,
     .ctl]
  | .coreWatchdog .. => [.now, .out, .id, .psg, .cham, .mbx, .str, .tim, .lcy, .pke, .eng, .host, .wld, .ctl]
  | .coreZeroingEnd .. => [.now, .fresh, .out, .id, .psg, .cham, .mbx, .str, .tim, .lcy, .pke, .eng, .host, .wld, .ctl]
  | .coreSelfTestEnd .. => [.now, .id, .tim, .pke]
  | .corePoolSwitch .. => [.now, .fresh, .out, .id, .mbx, .tim, .die, .pke, .host, .wld]
  | .serviceJobStage .. => [.now, .out, .psg, .kst, .mbx, .str, .tim, .rng, .pke, .eng, .host, .wld, .ctl]
  | .comparatorBDecide .. => [.now, .out, .psg, .mbx, .str, .lan, .tim, .lcy, .rng, .eng, .host, .wld, .ctl]
  | .holdTimerTick .. => [.now, .out, .psg, .cham, .str, .tim, .lcy, .wld, .ctl]
  | .frameTransmit .. => [.now, .out, .psg, .tim]
  | .linkStateChange .. => [.now, .fresh, .out, .psg, .cham, .mbx, .str, .tim, .lcy, .die, .pke, .host, .wld, .ctl]
  | .portCfgWrite .. => [.fresh, .out, .psg, .cham, .mbx, .str, .tim, .lcy, .die, .pke, .host, .wld, .ctl]
  | .wireCommit .. => [.fresh, .out, .psg, .mbx, .str, .die, .host, .wld]
  | .wireDiscard .. => [.psg, .str, .wld]
  | .psgTableLoad .. | .psgWireCommit .. => [.fresh, .out, .id, .psg, .kst, .mbx, .lan, .lcy, .die, .pke, .host, .wld]
  | .psgTableUnload .. => [.fresh, .out, .psg, .mbx, .die, .host, .wld]
  | .psgWireStage .. | .psgWireDiscard .. | .psgPuntForward .. | .psgDnp3Challenge .. =>
    [.out, .psg, .mbx, .host, .wld]
  | .psgFlowRead .. | .psgCountersRead .. | .karChamberRead .. | .pkeCurveRead .. | .pkePolicyGet ..
  | .pkeStatusRead .. | .dgsResultRead .. | .engStatusRead .. | .rngStatusRead .. | .kstAttrGet ..
  | .kstCertRead .. | .kstDomainRead .. | .kstStatusRead .. | .geoStatusRead .. | .geoFlashInfo .. | .hqFuncRead ..
  | .hqStatusRead .. | .mbxInfo .. | .mbxSessionList .. | .mbxCfgSet .. | .wldStatusRead .. | .wldViolRead ..
  | .lcyStatusRead .. | .lcyLogRead .. | .lanStatusRead .. | .lanBatlogRead .. | .timStatusRead ..
  | .strStatusRead .. | .strRead .. | .strAccumRead .. | .karDomainRead .. | .karStatusRead .. =>
    [.out, .mbx, .host, .wld]
  | .psgFlowFlush .. => [.out, .id, .psg, .kst, .mbx, .lan, .lcy, .pke, .host, .wld]
  | .psgInject .. => [.out, .psg, .mbx, .str, .tim, .lcy, .host, .wld, .ctl]
  | .psgKeyPrefetch .. => [.out, .psg, .kst, .mbx, .host, .wld]
  | .chamberMessageReceive .. | .linkRetry .. | .pairCheckAnswer .. | .lentJobArrival .. | .lentResultArrival .. =>
    [.now, .out, .psg, .cham, .mbx, .str, .tim, .lcy, .rng, .pke, .eng, .host, .wld, .ctl]
  | .heartbeatSend .. | .heartbeatMiss .. | .heartbeatRequestTimeout .. =>
    [.now, .out, .psg, .cham, .str, .tim, .lcy, .pke, .wld, .ctl]
  | .chamberAlertEdge .. => [.now, .out, .cham, .tim]
  | .chamberSyncChange .. => [.now, .cham, .tim]
  | .pairCheck .. => [.now, .out, .psg, .cham, .str, .tim]
  | .pairCheckTimeout .. => [.now, .psg, .str, .tim]
  | .karChamberSet .. =>
    [.fresh, .out, .id, .psg, .cham, .kst, .mbx, .str, .lan, .tim, .lcy, .die, .pke, .host, .wld, .ctl]
  | .karLendSet .. => [.fresh, .out, .cham, .mbx, .die, .host, .wld]
  | .pkeJob .. | .pkeCurveLoad .. | .svcMac .. | .dgsJob .. | .dgsCfgSet .. | .svcCfgSet .. | .kstDerive .. =>
    [.out, .mbx, .eng, .host, .wld]
  | .pkeJobAbort .. => [.out, .mbx, .str, .pke, .eng, .host, .wld, .ctl]
  | .pkeCurveUnload .. | .pkePoolStage .. | .pkePoolDiscard .. => [.out, .mbx, .pke, .host, .wld]
  | .pkePolicySet .. | .kstDestroy .. | .kstAttrSet .. | .kstDomainDestroy .. | .kstDomainSet .. | .kstMaskSet ..
  | .kstOfficerEnrol .. | .kstOfficerRemove .. | .kstCredSet .. =>
    [.out, .id, .kst, .mbx, .lan, .lcy, .die, .pke, .host, .geo, .wld]
  | .pkePoolCommit .. => [.fresh, .out, .id, .kst, .mbx, .lan, .lcy, .die, .pke, .host, .wld]
  | .pkeCoreRetest .. => [.out, .id, .mbx, .pke, .host, .wld]
  | .poolCommit .. => [.fresh, .out, .id, .mbx, .str, .die, .pke, .host, .wld]
  | .poolDiscard .. => [.str, .pke, .wld]
  | .coreRetest .. => [.id, .str, .pke, .wld]
  | .coreTakeOffline .. => [.out, .id, .psg, .cham, .str, .tim, .lcy, .pke, .wld, .ctl]
  | .svcSegmentStart .. => [.now, .out, .psg, .kst, .mbx, .str, .tim, .rng, .eng, .host, .wld, .ctl]
  | .svcSegmentEnd .. => [.now, .fresh, .out, .psg, .kst, .mbx, .str, .tim, .die, .eng, .host, .geo, .wld, .ctl]
  | .svcIdleTimeout .. => [.now, .out, .mbx, .str, .tim, .eng, .host, .wld, .ctl]
  | .svcAbort .. => [.fresh, .out, .psg, .kst, .mbx, .str, .die, .eng, .host, .geo, .wld, .ctl]
  | .forceRelease .. => [.out, .psg, .mbx, .str, .eng, .host, .wld, .ctl]
  | .dgsAbort .. => [.out, .mbx, .str, .eng, .host, .wld, .ctl]
  | .laneRetest .. | .laneTakeOffline .. => [.id, .psg, .str, .wld]
  | .dgsRetest .. | .dgsTakeOffline .. => [.id, .str, .eng, .wld]
  | .maskReseedRequest .. | .randomBytes .. => [.now, .out, .psg, .mbx, .tim, .rng, .eng, .host, .wld]
  | .maskGeneratorStarved .. => [.now, .psg, .tim, .eng]
  | .noiseSample .. | .drbgGenerateCall .. | .drbgReseed .. | .rngStartup .. =>
    [.now, .out, .id, .psg, .mbx, .str, .lan, .tim, .rng, .eng, .host, .wld]
  | .spanEnd .. => [.now, .tim, .rng]
  | .rngStartupTimeout .. => [.now, .out, .id, .psg, .mbx, .lan, .tim, .rng, .eng, .host, .wld]
  | .katStart .. => [.str, .rng, .wld]
  | .testSrcEnable .. => [.id, .str, .rng, .wld]
  | .rngGenerate .. => [.out, .psg, .mbx, .rng, .eng, .host, .wld]
  | .rngCfgSet .. => [.out, .id, .kst, .mbx, .lan, .lcy, .rng, .pke, .host, .wld]
  | .rngCellRetest .. | .rngKatRun .. => [.out, .mbx, .rng, .host, .wld]
  | .rngTestSource .. => [.out, .id, .mbx, .str, .rng, .host, .wld]
  | .kstGenerate .. => [.fresh, .out, .psg, .kst, .mbx, .die, .rng, .eng, .host, .geo, .wld]
  | .kstAttest .. => [.fresh, .out, .kst, .mbx, .host, .wld]
  | .kstTransportOpen .. => [.fresh, .out, .psg, .kst, .mbx, .rng, .eng, .host, .wld]
  | .kstTransportAccept .. | .kstTransportClose .. | .kstQuorumCancel .. | .mbxSessionClose .. | .mbxStatusRead .. =>
    [.out, .kst, .mbx, .host, .wld]
  | .kstImport .. => [.fresh, .out, .kst, .mbx, .die, .host, .geo, .wld]
  | .transportExpiry .. => [.now, .kst, .tim]
  | .kstExport .. | .kstDomainCreate .. =>
    [.out, .id, .psg, .kst, .mbx, .lan, .lcy, .die, .rng, .pke, .eng, .host, .geo, .wld]
  | .kstFuncAssign .. => [.out, .id, .kst, .mbx, .str, .lan, .lcy, .die, .pke, .eng, .host, .geo, .wld, .ctl]
  | .kstQuorumOpen .. => [.out, .psg, .kst, .mbx, .rng, .eng, .host, .wld]
  | .nonceExpiry .. => [.now, .kst, .tim, .lcy]
  | .kstDomain0Setup .. | .wldFwActivate .. | .wldFwKeySet .. =>
    [.out, .id, .kst, .mbx, .lan, .lcy, .die, .pke, .host, .wld]
  | .kstRootRenew .. =>
    [.fresh, .out, .id, .psg, .kst, .mbx, .lan, .bb, .lcy, .die, .rng, .pke, .eng, .host, .geo, .flash, .wld]
  | .keyStoreReady .. =>
    [.now, .fresh, .out, .id, .psg, .kst, .mbx, .str, .bb, .tim, .die, .rng, .eng, .host, .geo, .wld]
  | .geoCommit .. =>
    [.now, .fresh, .out, .id, .kst, .mbx, .str, .bb, .tim, .eng, .host, .geo, .flash, .wld, .kar, .ctl]
  | .geoCommitComplete .. =>
    [.now, .out, .id, .psg, .kst, .mbx, .str, .bb, .tim, .pke, .eng, .host, .geo, .flash, .wld, .ctl]
  | .geoMount .. | .scrubStripe .. | .flashBlockFailure .. | .flashChannelFailure .. =>
    [.now, .out, .id, .kst, .mbx, .str, .bb, .tim, .eng, .host, .geo, .flash, .wld, .ctl]
  | .geoFormat .. => [.out, .id, .kst, .mbx, .str, .bb, .pke, .eng, .host, .geo, .flash, .wld, .ctl]
  | .geoRemount .. | .geoScrubSet .. => [.out, .mbx, .host, .geo, .wld]
  | .sqDoorbell .. | .qpEnable .. => [.host]
  | .producerWordRead .. | .entryFetch .. | .dmaReadTimeout .. | .msixMessage .. | .qpCreate .. | .qpModify ..
  | .qpQuery .. | .vfLimits .. | .vfResume .. => [.now, .out, .tim, .host]
  | .jobAdmission .. => [.now, .out, .psg, .kst, .mbx, .str, .tim, .die, .pke, .eng, .host, .geo, .wld, .ctl]
  | .completionWrite .. => [.now, .out, .id, .kst, .tim, .eng, .host]
  | .cqHeadWrite .. => [.out, .host]
  | .publicKeyJob .. | .serviceMacSegment .. | .digestJob .. => [.now, .out, .tim, .eng, .host]
  | .commandEntry .. | .envelopeReassembly .. | .worldCall .. =>
    [.now, .fresh, .snaps, .out, .id, .psg, .cham, .kst, .mbx, .str, .lan, .bb, .tim, .lcy, .die, .rng, .pke, .eng,
     .host, .geo, .flash, .wld, .pages, .units, .kar, .ctl]
  | .abortEntry .. | .qpDestroy .. | .vfFreeze .. =>
    [.now, .fresh, .out, .psg, .kst, .mbx, .str, .tim, .die, .rng, .pke, .eng, .host, .geo, .wld, .ctl]
  | .vfSave .. => [.now, .fresh, .out, .psg, .kst, .mbx, .tim, .rng, .eng, .host, .wld]
  | .vfRestore .. => [.now, .out, .kst, .mbx, .tim, .die, .host, .geo, .wld]
  | .vfReset .. | .functionLevelReset .. | .pciePerst .. =>
    [.now, .fresh, .out, .id, .psg, .kst, .mbx, .str, .tim, .die, .rng, .pke, .eng, .host, .geo, .wld, .ctl]
  | .pcieLinkUp .. | .pcieLinkDown .. => [.now, .id, .tim, .host]
  | .requestPacketWrite .. => [.now, .out, .mbx, .str, .tim, .wld]
  | .responsePacketRead .. => [.now, .out, .kst, .mbx, .str, .tim, .wld]
  | .i3cRegisterWrite .. | .registerWrite .. =>
    [.now, .fresh, .snaps, .out, .id, .psg, .cham, .kst, .mbx, .str, .lan, .bb, .tim, .lcy, .die, .rng, .pke, .eng,
     .host, .geo, .wld, .pages, .units, .kar, .ctl]
  | .i3cRegisterRead .. | .registerRead .. => [.now, .snaps, .out, .psg, .kst, .mbx, .str, .tim, .geo, .wld]
  | .reqHdrWrite .. | .reqDataWrite .. => [.out, .mbx, .str, .wld]
  | .rspDataRead .. => [.out, .kst, .mbx, .str, .wld]
  | .rspRewind .. => [.mbx, .str, .wld]
  | .reassemblyTimeout .. | .offerExpiry .. | .entdaa .. | .setdasa .. | .setnewda .. | .rstdaa .. | .enec ..
  | .disec .. | .setmwl .. | .setmrl .. | .enthdr0 .. | .rstact .. => [.now, .mbx, .tim]
  | .interimResponse .. => [.now, .out, .mbx, .tim, .host]
  | .finalResponseWrite .. => [.now, .out, .id, .kst, .mbx, .tim, .eng, .host]
  | .noticeWrite .. => [.now, .out, .mbx, .str, .lan, .tim, .host]
  | .sessionIdleTimeout .. => [.now, .kst, .mbx, .tim]
  | .mbxSessionOffer .. => [.fresh, .out, .psg, .mbx, .rng, .eng, .host, .wld]
  | .mbxSessionOpen .. => [.out, .id, .mbx, .lan, .pke, .host, .wld]
  | .mbxPortSet .. => [.out, .id, .kst, .mbx, .lan, .lcy, .pke, .host, .wld]
  | .getpid .. | .getbcr .. | .getdcr .. | .getstatus .. | .getmwl .. | .getmrl .. | .getmxds .. | .getcaps ..
  | .pdelayReqReceive .. | .pdelayReqSend .. | .wholeSecond .. => [.now, .out, .tim]
  | .worldPoll .. | .worldReturn .. => [.now, .out, .id, .str, .tim, .eng, .wld, .ctl]
  | .fwConfirm .. => [.now, .out, .tim, .die, .wld]
  | .callLimitExpiry .. => [.now, .out, .tim, .wld]
  | .sharedQuantumEnd .. => [.now, .tim, .wld]
  | .lockstepMismatch .. => [.now, .out, .id, .mbx, .str, .lan, .tim, .host, .wld]
  | .eccDoubleError .. | .swRestart .. | .secureWatchdogExpiry .. | .secureException .. =>
    [.now, .out, .id, .psg, .kst, .mbx, .str, .lan, .tim, .lcy, .die, .eng, .host, .geo, .wld, .pages, .ctl]
  | .pageOwnerWrite .. => [.str, .wld, .pages, .ctl]
  | .swKick .. | .nwKick .. => [.now, .str, .tim, .wld]
  | .swReady .. => [.now, .id, .str, .tim, .wld]
  | .normalWatchdogExpiry .. | .normalException .. => [.now, .id, .str, .tim, .die, .wld, .pages, .ctl]
  | .clockOff .. | .clockOn .. | .powerOff .. | .powerOn .. | .pwrOwnerWrite .. =>
    [.now, .id, .str, .tim, .pke, .eng, .wld]
  | .powerRequestTaken .. => [.now, .id, .tim, .pke, .eng, .wld]
  | .fwConfirmWrite .. => [.now, .str, .tim, .die, .wld]
  | .normalWorldStart .. => [.now, .id, .tim, .wld, .pages, .ctl]
  | .wldFwStage .. => [.out, .mbx, .die, .host, .wld]
  | .wldNwRestart .. => [.out, .id, .mbx, .str, .die, .host, .wld, .pages, .ctl]
  | .lcyNonce .. => [.out, .psg, .mbx, .lcy, .rng, .eng, .host, .wld]
  | .lcyTransition .. | .lcyTestExit .. =>
    [.fresh, .snaps, .out, .id, .psg, .cham, .kst, .mbx, .str, .lan, .bb, .tim, .lcy, .die, .rng, .pke, .eng, .host,
     .geo, .flash, .wld, .pages, .units, .kar, .ctl]
  | .lcyDebugUnlock .. => [.fresh, .out, .id, .psg, .kst, .mbx, .str, .lan, .lcy, .die, .pke, .host, .wld]
  | .lcyDebugLock .. => [.fresh, .out, .psg, .mbx, .str, .lcy, .die, .host, .wld]
  | .dbgLock .. | .debugCertExpiry .. => [.now, .fresh, .out, .psg, .mbx, .str, .tim, .lcy, .die, .host, .wld]
  | .tapExtest .. | .samplePreload .. | .tapIdcode .. | .tapClamp .. | .tapHighz .. | .tapDap .. | .tapBypass .. =>
    [.now, .out, .tim, .lcy]
  | .lcyCmd .. | .tapReset .. => [.now, .tim, .lcy]
  | .scanCtrl .. => [.now, .fresh, .out, .tim, .lcy]
  | .dapAccess .. => [.now, .fresh, .snaps, .out, .psg, .kst, .mbx, .str, .tim, .lcy, .geo, .wld, .ctl]
  | .lanternSample .. | .detectorSelfTest .. =>
    [.now, .fresh, .out, .id, .psg, .cham, .kst, .mbx, .str, .lan, .bb, .tim, .lcy, .die, .rng, .pke, .eng, .host,
     .geo, .flash, .wld, .ctl]
  | .zeroizeSecondDecision .. | .vstbyWindowChange .. | .vbatWindowChange .. =>
    [.now, .out, .id, .kst, .mbx, .str, .lan, .bb, .tim, .eng, .host, .geo, .flash, .wld, .ctl]
  | .holdExpiry .. =>
    [.now, .fresh, .out, .id, .psg, .cham, .kst, .mbx, .str, .lan, .tim, .lcy, .die, .pke, .eng, .host, .wld, .ctl]
  | .faultAlarm .. => [.now, .lan, .tim]
  | .pllLockLost .. => [.now, .id, .tim]
  | .lanAlarmSet .. | .lanClear .. =>
    [.fresh, .out, .id, .psg, .cham, .kst, .mbx, .str, .lan, .tim, .lcy, .die, .pke, .eng, .host, .wld, .ctl]
  | .lanPinSet .. =>
    [.fresh, .out, .id, .psg, .cham, .kst, .mbx, .str, .lan, .tim, .lcy, .die, .rng, .pke, .eng, .host, .wld, .ctl]
  | .lanDetectorTest .. =>
    [.fresh, .out, .id, .psg, .cham, .kst, .mbx, .str, .lan, .bb, .tim, .lcy, .die, .rng, .pke, .eng, .host, .geo,
     .flash, .wld, .ctl]
  | .syncReceive .. | .followUpReceive .. | .ppsInEdge .. => [.now, .id, .str, .bb, .tim]
  | .announceReceive .. | .holdoverExpiry .. | .strataScan .. => [.now, .id, .str, .tim]
  | .pdelayRespReceive .. | .holdoverStart .. | .ppsMissing .. => [.now, .tim]
  | .correlationWrite .. => [.now, .bb, .tim]
  | .timCfgSet .. => [.fresh, .out, .id, .kst, .mbx, .str, .lan, .tim, .lcy, .die, .pke, .host, .wld]
  | .timSet .. => [.out, .id, .kst, .mbx, .str, .lan, .tim, .lcy, .pke, .host, .wld]
  | .accumulatorClose .. | .tokenRefill .. => [.now, .str, .tim]
  | .strataRecordWrite .. => [.now, .str, .tim, .die]
  | .strCfgSet .. | .strCodeSet .. => [.out, .id, .kst, .mbx, .str, .lan, .lcy, .pke, .host, .wld]
  | .karFound .. | .karJoin .. =>
    [.fresh, .out, .id, .psg, .kst, .mbx, .str, .lan, .lcy, .die, .rng, .pke, .eng, .host, .flash, .wld, .kar, .ctl]
  | .karAdmit .. | .karRevokeMember .. | .karLeave .. | .karDomainReplicate .. | .karReplicaSet .. =>
    [.fresh, .out, .id, .kst, .mbx, .str, .lan, .lcy, .pke, .eng, .host, .geo, .flash, .wld, .kar, .ctl]
  | .karCfgSet .. => [.out, .id, .kst, .mbx, .lan, .lcy, .pke, .host, .wld, .kar]
  | .karOutTake .. => [.fresh, .out, .psg, .mbx, .rng, .eng, .host, .wld, .kar]
  | .karInGive .. => [.out, .mbx, .host, .wld, .kar]
  | .karFrameSend .. => [.out, .psg, .mbx, .host, .wld, .kar]
  | .karOffer .. => [.now, .fresh, .out, .id, .psg, .mbx, .tim, .rng, .eng, .host, .flash, .wld, .kar]
  | .karAccept .. | .catchupRequest .. | .rosterPoll .. | .primaryHeartbeatSend .. | .rosterPollTimer .. =>
    [.now, .id, .tim, .kar]
  | .karHeartbeat .. | .voteRequest .. => [.now, .id, .tim, .flash, .kar]
  | .karPropose .. => [.now, .fresh, .id, .kst, .tim, .flash, .kar]
  | .karSigned .. | .karCommit .. | .karCatchup .. | .karRevoke .. =>
    [.now, .out, .id, .kst, .mbx, .str, .tim, .eng, .host, .geo, .flash, .wld, .kar, .ctl]
  | .karDecline .. => [.now, .fresh, .out, .id, .kst, .mbx, .str, .tim, .eng, .host, .flash, .wld, .kar, .ctl]
  | .karForward .. | .karVote .. | .primaryTimeout .. =>
    [.now, .fresh, .out, .id, .kst, .mbx, .str, .tim, .eng, .host, .geo, .flash, .wld, .kar, .ctl]
  | .karRoster .. => [.now, .out, .id, .kst, .mbx, .str, .tim, .eng, .host, .flash, .wld, .kar, .ctl]
  | .messageResend .. | .oldKeyExpiry .. => [.now, .tim, .kar]
  | .commitTimeout .. => [.now, .out, .kst, .mbx, .str, .tim, .eng, .host, .wld, .kar, .ctl]
  | .sessionRenewal .. => [.now, .fresh, .out, .psg, .mbx, .tim, .rng, .eng, .host, .wld, .kar]
  | .mainPgRise .. => Part.all
  | .mainPgFall .. =>
    [.now, .snaps, .out, .id, .psg, .cham, .kst, .mbx, .str, .lan, .bb, .tim, .lcy, .rng, .pke, .eng, .host, .geo,
     .flash, .wld, .pages, .units, .kar, .ctl]
  | .sysReset .. | .softwareReset .. =>
    [.now, .fresh, .snaps, .out, .id, .psg, .cham, .kst, .mbx, .str, .lan, .tim, .lcy, .die, .rng, .pke, .eng, .host,
     .geo, .wld, .pages, .units, .kar, .ctl]
  | .configRestore .. =>
    [.now, .fresh, .out, .id, .psg, .cham, .mbx, .str, .tim, .lcy, .die, .rng, .pke, .eng, .host, .wld, .ctl]
  | .internalResetRelease .. =>
    [.now, .fresh, .out, .id, .psg, .cham, .kst, .mbx, .str, .lan, .bb, .tim, .lcy, .lcyState, .die, .rng, .pke,
     .eng, .host, .wld, .pages, .ctl]
  | .pllLockGained .. => [.now, .out, .id, .psg, .str, .tim, .lcy, .rng, .pke, .eng, .wld, .ctl]
  | .engineParityError .. | .engineKnownAnswer .. =>
    [.now, .out, .id, .psg, .mbx, .str, .lan, .tim, .pke, .eng, .host, .wld, .ctl]

end Sys2Proof.Claims

namespace Sys2Proof.Claims

open Sys2Proof Sys2Proof.Machine

/-- The commands that only read: the status reads, and the reads of one record, log or table. -/
def reads : Instr → Bool
  | .psgFlowRead .. | .psgCountersRead .. | .karChamberRead .. | .pkeCurveRead .. | .pkePolicyGet .. | .pkeStatusRead ..
  | .dgsResultRead .. | .engStatusRead .. | .rngStatusRead .. | .kstAttrGet .. | .kstCertRead .. | .kstDomainRead ..
  | .kstStatusRead .. | .geoStatusRead .. | .geoFlashInfo .. | .sqDoorbell .. | .cqHeadWrite .. | .qpEnable ..
  | .hqFuncRead .. | .hqStatusRead .. | .mbxInfo .. | .mbxSessionList .. | .mbxCfgSet .. | .mbxStatusRead ..
  | .wldStatusRead .. | .wldViolRead .. | .lcyStatusRead .. | .lcyLogRead .. | .lanStatusRead .. | .lanBatlogRead ..
  | .timStatusRead .. | .strStatusRead .. | .strRead .. | .strAccumRead .. | .karDomainRead .. | .karStatusRead .. => true
  | _ => false

/-- What arrives on pins, on the clocks and on the time, TAP and I3C protocols, and the timers of Strata and of the mailboxes. -/
def pins : Instr → Bool
  | .chamberAlertEdge .. | .chamberSyncChange .. | .reassemblyTimeout .. | .interimResponse .. | .noticeWrite ..
  | .offerExpiry .. | .entdaa .. | .setdasa .. | .setnewda .. | .rstdaa .. | .enec .. | .disec .. | .getpid .. | .getbcr ..
  | .getdcr .. | .getstatus .. | .getmwl .. | .getmrl .. | .setmwl .. | .setmrl .. | .getmxds .. | .getcaps .. | .enthdr0 ..
  | .rstact .. | .tapExtest .. | .samplePreload .. | .tapIdcode .. | .tapClamp .. | .tapHighz .. | .lcyCmd .. | .tapDap ..
  | .scanCtrl .. | .tapBypass .. | .faultAlarm .. | .pllLockLost .. | .syncReceive .. | .followUpReceive ..
  | .announceReceive .. | .pdelayReqReceive .. | .pdelayRespReceive .. | .pdelayReqSend .. | .holdoverStart ..
  | .holdoverExpiry .. | .ppsInEdge .. | .ppsMissing .. | .wholeSecond .. | .correlationWrite .. | .accumulatorClose ..
  | .tokenRefill .. | .strataScan .. | .pllLockGained .. | .tapReset .. => true
  | _ => false

/-- The rows of the frame path, of its lanes and of the chamber, and their commands. -/
def passage : Instr → Bool
  | .frameReceive .. | .walkStart .. | .walkEnd .. | .pageInTimeout .. | .laneJobStart .. | .laneTagResult ..
  | .laneKnownAnswer .. | .laneParityError .. | .twinDecision .. | .comparatorBDecide .. | .holdTimerTick ..
  | .frameTransmit .. | .flowRetireCheck .. | .linkStateChange .. | .portCfgWrite .. | .wireCommit .. | .wireDiscard ..
  | .psgTableLoad .. | .psgTableUnload .. | .psgWireStage .. | .psgWireCommit .. | .psgWireDiscard .. | .psgFlowFlush ..
  | .psgInject .. | .psgKeyPrefetch .. | .psgPuntForward .. | .psgDnp3Challenge .. | .chamberMessageReceive ..
  | .heartbeatSend .. | .heartbeatMiss .. | .linkRetry .. | .heartbeatRequestTimeout .. | .pairCheck .. | .pairCheckAnswer ..
  | .pairCheckTimeout .. | .lentJobArrival .. | .lentResultArrival .. | .karChamberSet .. | .karLendSet .. | .laneRetest ..
  | .laneTakeOffline .. | .maskReseedRequest .. | .maskReseedLoad .. | .maskGeneratorStarved .. => true
  | _ => false

/-- The rows of the public-key cores, the digest and service MAC engines and the random number generator. -/
def engines : Instr → Bool
  | .digestBlockEnd .. | .digestJobAssign .. | .digestJobComplete .. | .coreJobStart .. | .coreStatusDelivered ..
  | .coreWatchdog .. | .coreZeroingEnd .. | .coreSelfTestEnd .. | .corePoolSwitch .. | .serviceJobStage .. | .pkeJob ..
  | .pkeJobAbort .. | .pkeCurveLoad .. | .pkeCurveUnload .. | .pkePolicySet .. | .pkePoolStage .. | .pkePoolCommit ..
  | .pkePoolDiscard .. | .pkeCoreRetest .. | .poolCommit .. | .poolDiscard .. | .coreRetest .. | .coreTakeOffline ..
  | .svcMac .. | .svcSegmentStart .. | .svcSegmentEnd .. | .svcIdleTimeout .. | .svcAbort .. | .forceRelease .. | .dgsJob ..
  | .dgsAbort .. | .dgsCfgSet .. | .svcCfgSet .. | .dgsRetest .. | .dgsTakeOffline .. | .engineSelfTestEnd ..
  | .noiseSample .. | .spanEnd .. | .drbgGenerateCall .. | .drbgReseed .. | .rngStartup .. | .rngStartupTimeout ..
  | .katStart .. | .testSrcEnable .. | .rngGenerate .. | .rngCfgSet .. | .rngCellRetest .. | .rngKatRun ..
  | .rngTestSource .. | .kstDerive .. | .jobAdmission .. | .engineParityError .. | .engineKnownAnswer .. => true
  | _ => false

/-- The rows of the rings, the functions and the mailboxes with their sessions. -/
def host : Instr → Bool
  | .producerWordRead .. | .entryFetch .. | .dmaReadTimeout .. | .completionWrite .. | .msixMessage .. | .publicKeyJob ..
  | .serviceMacSegment .. | .digestJob .. | .randomBytes .. | .abortEntry .. | .qpCreate .. | .qpDestroy .. | .qpModify ..
  | .qpQuery .. | .vfLimits .. | .vfFreeze .. | .vfSave .. | .vfRestore .. | .vfResume .. | .vfReset ..
  | .functionLevelReset .. | .pciePerst .. | .pcieLinkUp .. | .requestPacketWrite .. | .responsePacketRead ..
  | .reqHdrWrite .. | .reqDataWrite .. | .rspDataRead .. | .rspRewind .. | .finalResponseWrite .. | .sessionIdleTimeout ..
  | .mbxSessionOffer .. | .mbxSessionOpen .. | .mbxSessionClose .. | .mbxPortSet .. | .pcieLinkDown .. => true
  | _ => false

/-- The Karst messages, timers and commands, but for founding and joining. -/
def karst : Instr → Bool
  | .karAdmit .. | .karRevokeMember .. | .karLeave .. | .karDomainReplicate .. | .karReplicaSet .. | .karCfgSet ..
  | .karOutTake .. | .karInGive .. | .karFrameSend .. | .karOffer .. | .karAccept .. | .karHeartbeat .. | .karPropose ..
  | .karSigned .. | .karCommit .. | .karDecline .. | .karForward .. | .voteRequest .. | .karVote .. | .catchupRequest ..
  | .karCatchup .. | .karRevoke .. | .rosterPoll .. | .karRoster .. | .primaryHeartbeatSend .. | .primaryTimeout ..
  | .messageResend .. | .commitTimeout .. | .rosterPollTimer .. | .sessionRenewal .. | .oldKeyExpiry .. => true
  | _ => false

/-- The rows of the key store and its domains, but for the renewal of the root. -/
def keys : Instr → Bool
  | .kstGenerate .. | .kstDestroy .. | .kstAttrSet .. | .kstAttest .. | .kstTransportOpen .. | .kstTransportAccept ..
  | .kstImport .. | .kstTransportClose .. | .transportExpiry .. | .kstExport .. | .kstDomainCreate .. | .kstDomainDestroy ..
  | .kstDomainSet .. | .kstMaskSet .. | .kstOfficerEnrol .. | .kstOfficerRemove .. | .kstCredSet .. | .kstFuncAssign ..
  | .kstQuorumOpen .. | .kstQuorumCancel .. | .nonceExpiry .. | .kstDomain0Setup .. | .keyStoreReady .. => true
  | _ => false

/-- The rows of the Geode controller. -/
def vault : Instr → Bool
  | .pageInRequest .. | .pageInComplete .. | .geoCommit .. | .geoCommitComplete .. | .geoMount .. | .scrubStripe ..
  | .flashBlockFailure .. | .flashChannelFailure .. | .geoFormat .. | .geoRemount .. | .geoScrubSet .. => true
  | _ => false

/-- The rows of the worlds, the power of units and the firmware slots. -/
def worlds : Instr → Bool
  | .worldPoll .. | .fwConfirm .. | .worldReturn .. | .callLimitExpiry .. | .sharedQuantumEnd .. | .lockstepMismatch ..
  | .eccDoubleError .. | .pageOwnerWrite .. | .swKick .. | .swReady .. | .swRestart .. | .nwKick ..
  | .secureWatchdogExpiry .. | .secureException .. | .normalWatchdogExpiry .. | .normalException .. | .clockOff ..
  | .clockOn .. | .powerOff .. | .powerOn .. | .powerRequestTaken .. | .pwrOwnerWrite .. | .fwConfirmWrite ..
  | .normalWorldStart .. | .wldFwStage .. | .wldFwActivate .. | .wldNwRestart .. | .wldFwKeySet .. => true
  | _ => false

/-- The settings of Lantern, the clock and Strata, and the life-cycle nonce. -/
def settings : Instr → Bool
  | .lcyNonce .. | .lanAlarmSet .. | .lanPinSet .. | .lanClear .. | .timCfgSet .. | .timSet .. | .strCfgSet ..
  | .strCodeSet .. => true
  | _ => false

end Sys2Proof.Claims

/-! ## What each command does -/

namespace Sys2Proof.Claims

open Sys2Proof Sys2Proof.Machine

/-- FRAME_RECEIVE, FRAME_TRANSMIT (R16, R17, R35, R39): a frame that overruns the receive queue is counted and discarded, one that meets a
receive discard is counted under it, one that meets none joins its port's parse queue, and waits in the receive queue while CCLK stands;
the egress queue sends its next frame whole. -/
def FramesEnterAndLeavePorts : Prop :=
  (∀ (p : Fin 144) bs sfd t s, (port s p).enable = true → (port s p).linkUp = true →
    Runs (.frameReceive p bs sfd true t) s fun u =>
      (port u p).counters.get 0 0x120 = sat64 ((port s p).counters.get 0 0x120) ∧ (port u p).parseQ = (port s p).parseQ) ∧
  (∀ (p : Fin 144) bs sfd t s c, stopped s 0 = false → (port s p).enable = true → (port s p).linkUp = true →
    receiveDiscard (port s p) bs sfd = some c →
    Runs (.frameReceive p bs sfd false t) s fun u =>
      (port u p).counters.get 0 c = sat64 ((port s p).counters.get 0 c) ∧ (port u p).parseQ = (port s p).parseQ) ∧
  (∀ (p : Fin 144) bs sfd t s, stopped s 0 = true → (port s p).enable = true → (port s p).linkUp = true →
    rxEntries (port s p).rxQ + (bs.length + 7) / 8 ≤ 64 →
    Runs (.frameReceive p bs sfd false t) s fun u => ∃ w : RxWait, w.bytes = bs ∧ w.sfd = sfd ∧ (port u p).rxQ = (port s p).rxQ ++ [w] ∧
      (port u p).parseQ = (port s p).parseQ) ∧
  (∀ (p : Fin 144) bs sfd t s, stopped s 0 = false → (port s p).enable = true → (port s p).linkUp = true →
    receiveDiscard (port s p) bs sfd = none → (port s p).walk.isSome = true → parseRoom (port s p) bs.length = true →
    Runs (.frameReceive p bs sfd false t) s fun u =>
      ∃ f : RxFrame, f.bytes = bs ∧ f.injected = false ∧ (port u p).parseQ = (port s p).parseQ ++ [f] ∧
        (port u p).counters.get 0 0x100 = sat64 ((port s p).counters.get 0 0x100)) ∧
  (∀ (p : Fin 144) t s e rest, stopped s 0 = false → (port s p).enable = true → (port s p).linkUp = true → (port s p).egress = e :: rest →
    Runs (.frameTransmit p t) s fun u =>
      (port u p).egress = rest ∧ (port u p).counters.get 0 0x140 = sat64 ((port s p).counters.get 0 0x140) ∧
        ∃ sec ns, u.out = s.out ++ [.frame p e.bytes sec ns])

/-- LINK_STATE_CHANGE, PORT_CFG_WRITE, WIRE_DISCARD (R34, R42, R64, R129): only an enabled port reports LINK_UP, the secure world enables
a port with a value in range, a chamber link then follows its port, and DISCARD makes SHADOW a copy of ACTIVE while no commit is pending
and no lock holds. -/
def PortAndShadowWrites : Prop :=
  (∀ (p : Fin 144) t s, (port s p).enable = true →
    Runs (.linkStateChange p true t) s fun u => ∃ v, u = refreshLinks v ∧ (port v p).linkUp = true ∧ v.cham = s.cham ∧
      v.now = (advance s t).now) ∧
  (∀ (p : Fin 144) t s, (port s p).enable = false →
    Runs (.linkStateChange p true t) s fun u =>
      ∃ v, u = refreshLinks v ∧ v = setLink (advance s t) p false) ∧
  (∀ m (p : Fin 144) v s, m.isSecure = true → (port s p).enable = false → bit v 0 = true → field v 2 1 ≠ 3 →
    64 ≤ field v 29 16 → field v 29 16 ≤ 9600 →
    Runs (.portCfgWrite m p v) s fun u =>
      ∃ x, u = refreshLinks x ∧ (port x p).cfg = storeMasked (port s p).cfg v 0x3FFF000F ∧ (port x p).enable = true ∧
        x.cham = s.cham) ∧
  (∀ m (w : Fin 72) s, m.isSecure = true → (wire s w).pending = none → (wire s w).locked = false →
    Runs (.wireDiscard m w) s fun u => (wire u w).shadow = (wire s w).active ∧ (wire u w).active = (wire s w).active)

/-- WALK_START, WALK_END, WIRE_COMMIT (R50, R60, R65, R66): a free lane takes the frame at the head of its parse queue after any swap that
waits; at the end of the walk the frame is handled by its class, and a lane then idle takes a swap that waits; a commit that passes its
checks asks for the whole SHADOW bank under the next generation, to be taken at the next frame boundary of each direction. -/
def WalksAndCommits : Prop :=
  (∀ (p : Fin 144) t s f rest, stopped s 0 = false → (port s p).walk = none → (port s p).parseQ = f :: rest →
    unparsed (updPort (finishSwaps (takeSwaps (advance s t) p) (wireOf p)) p fun q => { q with parseQ := rest }) p f = none →
    Runs (.walkStart p t) s fun u =>
      (port u p).parseQ = rest ∧ ∃ w, (port u p).walk = some w ∧ w.frame = f) ∧
  (∀ (p : Fin 144) t s w, stopped s 0 = false → (port s p).walk = some w →
    Runs (.walkEnd p t) s fun u => ∃ h s' v, v = refreshLocked (classify s' p h) (wireOf p) ∧
      u = (if (port v p).parseQ.isEmpty then settleSwaps v (wireOf p) else v) ∧
      h.id = s.psg.nextFrame ∧ h.rx = w.frame ∧ h.bank = w.bank ∧ h.walkEnd = (advance s t).now ∧
      (port s' p).walk = none ∧ s'.psg.nextFrame = s.psg.nextFrame + 1) ∧
  (∀ m (w : Fin 72) s, m.isSecure = true → s.lcy.state ≠ 6 → commitCheck s w = none →
    Runs (.wireCommit m w) s fun u => u = settleSwaps (updWire s w fun x => { x with
      grant := false, waiter := none,
      pending := some { bank := x.shadow, gen := nextGen x.gen, takenA := false, takenB := false } }) w) ∧
  (∀ m (w : Fin 72) s st f, m.isSecure = true → s.lcy.state ≠ 6 → commitCheck s w = some (st, f) →
    Runs (.wireCommit m w) s fun u => (wire u w).commitStatus = Status.code st ∧ (wire u w).commitField = f ∧
      (wire u w).active = (wire s w).active ∧ (wire u w).pending = (wire s w).pending)

/-- PAGE_IN_REQUEST, PAGE_IN_COMPLETE, PAGE_IN_TIMEOUT (R91, R300, R304): firmware takes the oldest page-in that is not taken; a page-in
whose record is in the vault puts the key into a slot, one whose record is not enters its handle in the absent cache, and the frames that
wait on either are judged again; one fails while the vault does not serve, and runs once more if a commit has replaced its cell; and one
still incomplete 500 µs after it was asked for leaves the queue, its time kept as the longest page-in. -/
def PageInsAreTakenAndEnd : Prop :=
  (∀ t s pg, secureUp s = true → s.psg.pageIns.find? (!·.taken) = some pg →
    Runs (.pageInRequest t) s fun u => u.psg.pageIns =
      s.psg.pageIns.map fun x => if x.handle == pg.handle then { x with taken := true } else x) ∧
  (∀ handle t s pg k w n, stopped s 1 = false → s.psg.pageIns.find? (·.handle == handle) = some pg → pg.taken = true →
    pg.stale = false → secureUp s = true → vaultServes s = true → suspended s = false → (domain s (handleDomain handle)).state = .active →
    withdrawn s handle = false → s.flash.objects.look handle = some k → slotOf s handle = none →
    makeRoom (advance s t) handle k.value.length = some (w, n) →
    Runs (.pageInComplete handle .good t) s fun u => ∃ v x, u = endPaging v handle judgeKey ∧ v.kst.slots.look n = some x ∧
      x.handle = handle ∧ x.attr = k.attr ∧ x.value = k.value ∧ v.psg.pageIns = s.psg.pageIns.filter (·.handle != handle)) ∧
  (∀ handle t s pg, stopped s 1 = false → s.psg.pageIns.find? (·.handle == handle) = some pg → pg.taken = true →
    pg.stale = false → secureUp s = true → vaultServes s = true → suspended s = false → s.flash.objects.look handle = none →
    Runs (.pageInComplete handle .good t) s fun u => ∃ v, u = endPaging v handle judgeKey ∧ handle ∈ v.kst.absent ∧
      v.psg.pageIns = s.psg.pageIns.filter (·.handle != handle)) ∧
  (∀ handle r t s pg, stopped s 1 = false → s.psg.pageIns.find? (·.handle == handle) = some pg → pg.taken = true →
    secureUp s = false ∨ vaultServes s = false →
    Runs (.pageInComplete handle r t) s fun u => ∃ v, u = failPaging v handle ∧ v.geo.pageInFail = sat64 s.geo.pageInFail ∧
      v.psg.pageIns = s.psg.pageIns.filter (·.handle != handle)) ∧
  (∀ handle r t s pg, stopped s 1 = false → s.psg.pageIns.find? (·.handle == handle) = some pg → pg.taken = true →
    secureUp s = true → vaultServes s = true → pg.stale = true →
    Runs (.pageInComplete handle r t) s fun u => u.psg.pageIns =
      s.psg.pageIns.map fun x => if x.handle == handle then { x with stale := false } else x) ∧
  (∀ handle t s pg, s.psg.pageIns.find? (·.handle == handle) = some pg → pg.askedAt + 500 * usT ≤ (advance s t).now →
    Runs (.pageInTimeout handle t) s fun u => ∃ s', u = failPaging s' handle ∧
      s'.psg.pageIns = s.psg.pageIns.filter (·.handle != handle) ∧ s'.geo.pageInFail = sat64 s.geo.pageInFail ∧
      s'.psg.pageMax = max s.psg.pageMax (min (((advance s t).now - pg.askedAt) / usT) 65535))

/-- TWIN_DECISION, COMPARATOR_B_DECIDE (R103, R108, R109): comparator A decides a frame whose engine result has arrived and whose flow has
no decision under way; comparator B decides k + 1 CCLK cycles later; where the two differ the frame is refused with the FAULT verdict, the
twin-fault counter steps and a FAULT alarm of block code 1 goes to Lantern; where they agree on ACCEPT the flow is updated and the line
released. -/
def TwinComparatorsDecide : Prop :=
  (∀ frame t s p h r, stopped s 0 = false → portOfFrame s frame = some p → findHeld s p frame = some h → h.stage = .result r →
    flowDeciding (port s p) h = false →
    Runs (.twinDecision frame t) s fun u => u = updHeld (advance s t) p frame
      fun x => { x with stage := .decidedA (decideFrame (advance s t) h r) (advance s t).now }) ∧
  (∀ frame (k : Fin 15) s p h a at_, stopped s 0 = false → portOfFrame s frame = some p → findHeld s p frame = some h →
    h.stage = .decidedA a at_ →
    Runs (.comparatorBDecide frame k true) s fun u => ∃ s', u = refuseHeld (faultAlarm s' 1 p) p h { verdict := .fault } false ∧
      s'.psg.twinFault = sat32 s.psg.twinFault ∧ (s.psg.skewDraws + 1 < 65536 → s'.psg.skewDraws = s.psg.skewDraws + 1 ∧ s'.psg.ports = s.psg.ports) ∧
      s'.now = (advance s (at_ + (k.val + 1) * cclkT)).now) ∧
  (∀ frame (k : Fin 15) s p h a at_, stopped s 0 = false → portOfFrame s frame = some p → findHeld s p frame = some h →
    h.stage = .decidedA a at_ → a.verdict = .accept →
    Runs (.comparatorBDecide frame k false) s fun u => ∃ s', u = releaseLine (updHeld (updFlow s' h.flow (acceptFlow h)) p frame
        fun x => { x with stage := .accepted s'.now }) p ∧
      s'.psg.twinFault = s.psg.twinFault ∧ s'.now = (advance s (at_ + (k.val + 1) * cclkT)).now) ∧
  (∀ frame (k : Fin 15) s p h a at_, stopped s 0 = false → portOfFrame s frame = some p → findHeld s p frame = some h →
    h.stage = .decidedA a at_ → a.verdict ≠ .accept →
    Runs (.comparatorBDecide frame k false) s fun u => ∃ s', u = refuseHeld s' p h a (a.cause == 8 && a.verdict == .keyUnknown) ∧
      s'.psg.twinFault = s.psg.twinFault)

/-- HOLD_TIMER_TICK, FLOW_RETIRE_CHECK (R58, R101): the tick notes its moment and refuses with REJECT_HOLD_TIMEOUT every frame at or past
its deadline; the once-a-second check frees exactly the contexts that meet the conditions of R58. -/
def HoldTimerAndFlowRetirement : Prop :=
  (∀ t s, stopped s 0 = false → Runs (.holdTimerTick t) s fun u => ∃ s' : State, s'.psg.holdTickAt = (advance s t).now ∧
    u = forFrames s' (overdue s') fun s p h =>
      refuseHeld { s with cham := { s.cham with lost := satAdd 64 s.cham.lost (lentJobs h) } } p h
        { verdict := .holdTimeout, cause := timeoutCause h } false) ∧
  (∀ t s, stopped s 0 = false → overdue (advance s t) = [] →
    Runs (.holdTimerTick t) s fun u => u.psg.ports = s.psg.ports ∧ u.cham = s.cham ∧ u.out = s.out) ∧
  (∀ t s, stopped s 0 = false → Runs (.flowRetireCheck t) s fun u =>
    u.psg.flows = s.psg.flows.keep (fun _ f => !retires (advance s t) f) ∧ u.psg.flowCheckAt = (advance s t).now)

/-- LANE_JOB_START, LANE_TAG_RESULT, LANE_KNOWN_ANSWER, LANE_PARITY_ERROR, LANE_RETEST, LANE_TAKE_OFFLINE (R93, R98, R188 to R192): an
idle, seeded lane takes the job at the head of its queue under the key as it stands; at the end of the job's cycles it reports whether the
tag matches; a known answer that is right is noted and counted, a wrong one and a parity error fail the lane; RETEST and TAKE_OFFLINE are
the secure world's. -/
def LanesRunTheirJobs : Prop :=
  (∀ (e : Fin 288) t s j rest h k, (lane s (e / 2) (e % 2)).queue = j :: rest → (lane s (e / 2) (e % 2)).state = .idle →
    stopped s 1 = false → starved (advance s t) e = false → (lane s (e / 2) (e % 2)).mask.seed.isSome = true → suspended s = false →
    katDue (advance s t) (lane s (e / 2) (e % 2)).katAt = false → findHeld s (e / 2) j.frame = some h → fetchKey s h = some k →
    Runs (.laneJobStart e t) s fun u => (lane u (e / 2) (e % 2)).queue = rest ∧ (lane u (e / 2) (e % 2)).state = .busy ∧
      ∃ r, (lane u (e / 2) (e % 2)).running = some r ∧ r.job = j ∧ r.key = k ∧ r.gmac = isGmac h.trailer.alg ∧
        r.startedAt = (advance s t).now) ∧
  (∀ (e : Fin 288) t s r h l, stopped s 0 = false → stopped s 1 = false → (lane s (e / 2) (e % 2)).running = some r →
    findHeld s (e / 2) r.job.frame = some h → h.stage = .onLane l →
    r.startedAt + (64 + tagCycles r.gmac (aesRounds r.key) r.job.blocks) * xclkT ≤ (advance s t).now →
    Runs (.laneTagResult e t) s fun u => ∃ v, v = laneDone (advance s t) (e / 2) (e % 2) (tagBlocks r.gmac r.job.blocks) ∧
      (lane v (e / 2) (e % 2)).running = none ∧ u = updHeld v (e / 2) h.id fun x => { x with
      stage := .result { verdict := if (frameTag h.trailer r.key r.covered).take h.trailer.auth.length == h.trailer.auth
        then .accept else .tag } }) ∧
  (∀ (e : Fin 288) t s r, stopped s 0 = false → stopped s 1 = false → (lane s (e / 2) (e % 2)).running = some r →
    findHeld s (e / 2) r.job.frame = none →
    r.startedAt + (64 + tagCycles r.gmac (aesRounds r.key) r.job.blocks) * xclkT ≤ (advance s t).now →
    Runs (.laneTagResult e t) s fun u => u = laneDone (advance s t) (e / 2) (e % 2) (tagBlocks r.gmac r.job.blocks)) ∧
  (∀ (e : Fin 288) t s, stopped s 1 = false → (lane s (e / 2) (e % 2)).state = .idle → katDue (advance s t) (lane s (e / 2) (e % 2)).katAt = true →
    Runs (.laneKnownAnswer e true t) s fun u => (lane u (e / 2) (e % 2)).katAt = (advance s t).now ∧
      (lane u (e / 2) (e % 2)).blocks = satAdd 64 (lane s (e / 2) (e % 2)).blocks 1) ∧
  (∀ (e : Fin 288) t s, stopped s 1 = false → (lane s (e / 2) (e % 2)).state = .idle → katDue (advance s t) (lane s (e / 2) (e % 2)).katAt = true →
    Runs (.laneKnownAnswer e false t) s fun u => u = failLane (advance s t) e true) ∧
  (∀ (e : Fin 288) t s, (lane s (e / 2) (e % 2)).state ≠ .failed → (lane s (e / 2) (e % 2)).state ≠ .offline →
    Runs (.laneParityError e t) s fun u => u.lan.faultQ = s.lan.faultQ ++ [(3, e.val)]) ∧
  (∀ m (e : Fin 288) s, m.isSecure = true →
    (lane s (e / 2) (e % 2)).state = .idle ∨ (lane s (e / 2) (e % 2)).state = .failed →
    Runs (.laneRetest m e) s fun u => u = refreshLanes (settleLanes (updLane s (e / 2) (e % 2)
      fun x => { x with state := .selfTest, testFrom := some s.now }) (e / 2))) ∧
  (∀ m (e : Fin 288) s, m.isSecure = true → (lane s (e / 2) (e % 2)).running.isSome = true →
    Runs (.laneTakeOffline m e) s fun u => (lane u (e / 2) (e % 2)).leaving = true ∧
      (lane u (e / 2) (e % 2)).running = (lane s (e / 2) (e % 2)).running) ∧
  (∀ m (e : Fin 288) s, m.isSecure = true → (lane s (e / 2) (e % 2)).running = none →
    Runs (.laneTakeOffline m e) s fun u => u = refreshLanes (settleLanes (updLane s (e / 2) (e % 2)
      fun x => { x with state := .offline }) (e / 2)))

/-- MASK_RESEED_REQUEST, MASK_RESEED_LOAD, MASK_GENERATOR_STARVED (R186, R228): a generator that is due asks its DRBG instance for 32
bytes in the priority queue, or carries on for 4,096 blocks more where its instance has not started; a seed that has come is loaded and
the count of blocks begins anew; a starved generator counts its refusal. -/
def MaskGeneratorsReseed : Prop :=
  (∀ (e : Fin 320) t s i, stopped s 1 = false → maskWants (advance s t) e = true → s.rng.failed = false → homeOf s (e % 8) = some i →
    (inst s i).state = 1 ∨ (inst s i).state = 2 →
    Runs (.maskReseedRequest e t) s fun u => u = queueDraw (updMask (advance s t) e fun m => { m with asked := true }) (e % 8) true
      { who := .mask e, size := 32 }) ∧
  (∀ (e : Fin 320) t s i, stopped s 1 = false → maskWants (advance s t) e = true → s.rng.failed = false → homeOf s (e % 8) = some i →
    (inst s i).state = 0 ∨ (inst s i).state = 5 →
    Runs (.maskReseedRequest e t) s fun u => u = updMask (advance s t) e fun m =>
      { m with refused := sat32 m.refused, askAt := maskServed (advance s t) e + 4096, asked := false }) ∧
  (∀ (e : Fin 320) t s b, stopped s 1 = false → (maskGen s e).next = some b → 288 ≤ e.val →
    Runs (.maskReseedLoad e t) s fun u => (maskGen u e).seed = some b ∧ (maskGen u e).next = none ∧ (maskGen u e).blocks = 0) ∧
  (∀ (e : Fin 320) t s b, stopped s 1 = false → (maskGen s e).next = some b → e.val < 288 →
    Runs (.maskReseedLoad e t) s fun u => (maskGen u e).seed = some b ∧ (maskGen u e).next = none ∧ (maskGen u e).blocks = 0) ∧
  (∀ (e : Fin 320) t s, stopped s 1 = false → starved (advance s t) e = true → e.val < 288 →
    Runs (.maskGeneratorStarved e t) s fun u => ∃ v, u = settleLanes v (e / 2) ∧
      (maskGen v e).refused = sat32 (maskGen s e).refused ∧ (maskGen v e).seed = (maskGen s e).seed) ∧
  (∀ (e : Fin 320) t s, stopped s 1 = false → starved (advance s t) e = true → 288 ≤ e.val →
    Runs (.maskGeneratorStarved e t) s fun u => (maskGen u e).refused = sat32 (maskGen s e).refused ∧ (maskGen u e).seed = (maskGen s e).seed)

/-- PSG_TABLE_LOAD, PSG_TABLE_UNLOAD (R44, R45, R355): an image that passes its checks under the critical quorum of domain 0 makes the
table resident with what the image gives; a resident table that no bank selects is unloaded; a table that a bank selects is BUSY_LOCKED
and stays. -/
def TablesLoadAndUnload : Prop :=
  (∀ c (t : Fin 16) s, admitted s c 0x0701 = true → selectingWire s t = none →
    Runs (.psgTableLoad c t) s fun u => imageFault c.body.bytes = none → UnderQuorum s c (tableQuorum s c) u fun v _ =>
      AnsweredOk u c [] ∧ u.psg.resident = setBit v.psg.resident t true ∧
        u.psg.tables = v.psg.tables.put t (imageTable c.body.bytes)) ∧
  (∀ c (t : Fin 16) s w, admitted s c 0x0701 = true → selectingWire s t = some w →
    Runs (.psgTableLoad c t) s fun u => u = answerBusy s c.reply w) ∧
  (∀ c s, admitted s c 0x0702 = true → c.nat 8 ≤ 15 → bit s.psg.resident (c.nat 8) = true → selectingWire s (c.nat 8) = none →
    Runs (.psgTableUnload c) s fun u => AnsweredOk u c [] ∧ u.psg.resident = setBit s.psg.resident (c.nat 8) false ∧
      u.psg.tables = s.psg.tables.del (c.nat 8)) ∧
  (∀ c s w, admitted s c 0x0702 = true → c.nat 8 ≤ 15 → bit s.psg.resident (c.nat 8) = true →
    selectingWire s (c.nat 8) = some w →
    Runs (.psgTableUnload c) s fun u => u = answerBusy s c.reply w)

/-- PSG_WIRE_STAGE, PSG_WIRE_COMMIT, PSG_WIRE_DISCARD (R64, R65, R356): staging writes the SHADOW bank and leaves ACTIVE; a commit that
needs no grant and carries no record asks for the switch at once, and one that needs a grant sets GRANT only under the critical quorum of
domain 0; a discard makes SHADOW a copy of ACTIVE. -/
def WireCommandsStageCommitAndDiscard : Prop :=
  (∀ c s, admitted s c 0x0710 = true → c.nat 5 ≤ 71 → (c.regWrites.all fun e => stageOffset e.1) = true →
    shadowClosed (wire s (c.nat 5)) = false →
    Runs (.psgWireStage c) s fun u => AnsweredOk u c [] ∧
      (wire u (c.nat 5)).shadow = (wire s (c.nat 5)).shadow.writes c.regWrites ∧
      (wire u (c.nat 5)).active = (wire s (c.nat 5)).active) ∧
  (∀ c s, admitted s c 0x0711 = true → c.nat 5 ≤ 71 → needsGrant (wire s (c.nat 5)).active (wire s (c.nat 5)).shadow = false →
    c.records = [] →
    Runs (.psgWireCommit c) s fun u => u = requestCommit (updWire s (c.nat 5) fun x => { x with grant := false, reasons := [] })
      (c.nat 5) (some c.reply)) ∧
  (∀ c s, admitted s c 0x0711 = true → c.nat 5 ≤ 71 → needsGrant (wire s (c.nat 5)).active (wire s (c.nat 5)).shadow = true →
    commitCheck (updWire s (c.nat 5) fun x => { x with grant := true }) (c.nat 5) = none →
    Runs (.psgWireCommit c) s fun u => ∀ v reasons, judgeQuorum s c (wireQuorum s c (c.nat 5)) = (v, reasons, none) →
      u = requestCommit (updWire v (c.nat 5) fun x => { x with grant := true, reasons := reasons }) (c.nat 5) (some c.reply)) ∧
  (∀ c s, admitted s c 0x0712 = true → c.nat 5 ≤ 71 → shadowClosed (wire s (c.nat 5)) = false →
    Runs (.psgWireDiscard c) s fun u => AnsweredOk u c [] ∧ (wire u (c.nat 5)).shadow = (wire s (c.nat 5)).active ∧
      (wire u (c.nat 5)).active = (wire s (c.nat 5)).active)

/-- PSG_FLOW_READ, PSG_FLOW_FLUSH, PSG_COUNTERS_READ, PSG_KEY_PREFETCH (R56, R59, R118, R119): reads answer the context's 256 bytes and
both words of each verdict counter and change nothing else; a flush under a routine quorum of domain 0 removes exactly the named wires'
contexts; a prefetch answers one status for each key, marks a key at hand as used and asks for the page-in of one in the vault. -/
def FlowCommandsReadFlushAndPrefetch : Prop :=
  (∀ c s, admitted s c 0x0720 = true → c.nat 0x29 ≤ 16383 →
    Runs (.psgFlowRead c) s fun u => u = answerOk s c [] [.blob (flowBytes s (c.nat 0x29))]) ∧
  (∀ c s, admitted s c 0x0721 = true → c.nat 0x2A < 2 ^ 72 → c.nat 0x27 ≤ 1 → busyFlowWire s (c.nat 0x2A) = none →
    Runs (.psgFlowFlush c) s fun u => UnderQuorum s c (plainQuorum s c 0x0721 [routine s 0]) u fun v _ => AnsweredOk u c [] ∧
      u.psg.flows = v.psg.flows.keep fun _ f => !((c.nat 0x2A).testBit f.wire && (c.nat 0x27 == 0 || f.pinned))) ∧
  (∀ c s w, admitted s c 0x0721 = true → c.nat 0x2A < 2 ^ 72 → c.nat 0x27 ≤ 1 → busyFlowWire s (c.nat 0x2A) = some w →
    Runs (.psgFlowFlush c) s fun u => u = answerBusy s c.reply w) ∧
  (∀ c s, admitted s c 0x0730 = true → c.nat 5 ≤ 71 →
    Runs (.psgCountersRead c) s fun u => ∃ items, u = answerOk s c [] items ∧ items.length = 64 ∧
      ∀ i < 32, ∀ k < 2, .reg (0x280000 + c.nat 5 * 0x200 + 8 * i + 4 * k)
        (BitVec.ofNat 32 (verdictCount s (c.nat 5) i / 2 ^ (32 * k))) ∈ items) ∧
  (∀ c s, admitted s c 0x0731 = true → (c.values 1).length ≤ 64 →
    Runs (.psgKeyPrefetch c) s fun u => ∃ l, AnsweredOk u c [.statuses l] ∧ l.length = (c.values 1).length) ∧
  (∀ c s b n a k, admitted s c 0x0731 = true → c.values 1 = [b] → resolve s (leNat b) = .hit n a k →
    Runs (.psgKeyPrefetch c) s fun u => u = answerOk (touchSlot s n) c [] [.statuses [.ok]]) ∧
  (∀ c s b, admitted s c 0x0731 = true → c.values 1 = [b] → resolve s (leNat b) = .miss → (vaultRecord s (leNat b)).isSome = true →
    Runs (.psgKeyPrefetch c) s fun u => AnsweredOk u c [.statuses [.ok]] ∧ ∃ pg ∈ u.psg.pageIns, pg.handle = leNat b)

/-- PSG_INJECT, PSG_PUNT_FORWARD, PSG_DNP3_CHALLENGE (R119, R120, R143): an injected frame joins the parse queue of the named side; a
punted frame leaves the punt queue for its opposite port's egress; a challenge replaces the association's message and steps its count. -/
def InjectedPuntedAndChallenge : Prop :=
  (∀ c s, admitted s c 0x0740 = true → c.nat 5 ≤ 71 → c.nat 6 ≤ 1 → 64 ≤ (c.bytes 0x2B).length →
    (c.bytes 0x2B).length ≤ (port s (2 * c.nat 5 + c.nat 6)).maxFrame →
    parseFull s (2 * c.nat 5 + c.nat 6) (c.bytes 0x2B).length = false →
    Runs (.psgInject c) s fun u => ∃ f : RxFrame, f.bytes = c.bytes 0x2B ∧ f.injected = true ∧
      u = answerOk (enterDirection s (2 * c.nat 5 + c.nat 6) f) c [] []) ∧
  (∀ c s x, admitted s c 0x0741 = true → s.psg.puntQ.find? (·.handle == c.nat 0x2C) = some x → s.lcy.isolateAll = false →
    (wire s (wireOf x.port)).active.modeOf ≠ 2 → (wire s (wireOf x.port)).active.modeOf ≠ 3 →
    Runs (.psgPuntForward c) s fun u => ∃ v, u = answerOk (egressJoin v (otherPort x.port) x.bytes false) c [] [] ∧
      v = { s with psg := { s.psg with puntQ := s.psg.puntQ.filter (·.handle != x.handle) } }) ∧
  (∀ c s, admitted s c 0x0741 = true → s.psg.puntQ.find? (·.handle == c.nat 0x2C) = none →
    Runs (.psgPuntForward c) s fun u => u = answerStatus s c.reply .invalidParameter) ∧
  (∀ c s, admitted s c 0x0742 = true → c.nat 0x2D < 1024 → (c.bytes 0x2E).length ≤ 248 →
    Runs (.psgDnp3Challenge c) s fun u => AnsweredOk u c [] ∧
      ((u.psg.assocs.get {} (c.nat 0x2D)).message = c.bytes 0x2E ∧
        (u.psg.assocs.get {} (c.nat 0x2D)).count = ((s.psg.assocs.get {} (c.nat 0x2D)).count + 1) % 2 ^ 32))

/-- PKE_STATUS_READ, ENG_STATUS_READ, RNG_STATUS_READ, KST_STATUS_READ, GEO_STATUS_READ, WLD_STATUS_READ, LCY_STATUS_READ (R182, R217,
R242, R281, R307, R399, R420): each answers OK with the values of the registers it names and does nothing else, so nothing is latched and
no field is cleared. -/
def EngineAndWorldStatusReads : Prop :=
  (∀ c s, admitted s c 0x0341 = true → Runs (.pkeStatusRead c) s fun u => ∃ items, u = answerOk s c [] items ∧
    ∀ (n : Fin 96), (regItems s [0x100000 + n * 0x1000, 0x100008 + n * 0x1000] ++ regItems s (wordsFrom 0x100800 0x4C)) ⊆ items) ∧
  (∀ c s, admitted s c 0x0430 = true → Runs (.engStatusRead c) s fun u => ∃ items, u = answerOk s c [] items ∧
    (∀ e : Fin 32, regItems s [0x7000C + e * 0x400, 0x70010 + e * 0x400] ⊆ items) ∧
    (∀ d : Fin 64, regItems s [digestBase d, digestBase d + 8] ⊆ items) ∧
    (∀ l : Fin 288, regItems s [laneBase l, laneBase l + 8] ⊆ items)) ∧
  (∀ c s, admitted s c 0x0510 = true → Runs (.rngStatusRead c) s fun u => u = answerOk s c [] (regItems s (wordsFrom 0x50000 0x1000))) ∧
  (∀ c s, admitted s c 0x0260 = true → Runs (.kstStatusRead c) s fun u => u = answerOk s c [] (regItems s (wordsFrom 0x60000 0x34))) ∧
  (∀ c s, admitted s c 0x0601 = true → Runs (.geoStatusRead c) s fun u => u = answerOk s c [] (regItems s (wordsFrom 0x2000000 0x180))) ∧
  (∀ c s, admitted s c 0x0880 = true → Runs (.wldStatusRead c) s fun u => u = answerOk s c [] (regItems s (wordsFrom 0x3000000 0x400))) ∧
  (∀ c s, admitted s c 0x0801 = true → Runs (.lcyStatusRead c) s fun u =>
    u = answerOk s c [] (regItems s (wordsFrom 0x40000 0x4C) ++ [.blob (leBytes 6 (lanternTick s))]))

/-- LAN_STATUS_READ, TIM_STATUS_READ, STR_STATUS_READ, MBX_STATUS_READ, MBX_INFO, KST_ATTEST (R263, R367, R445, R460): the reads answer
the values of their registers and change nothing else; MBX_INFO is answered even while the secure world is down; an attestation answers
one block, counts it, and leaves every key where it was. -/
def BoxTimeAndAlarmReadsAndAttest : Prop :=
  (∀ c s, admitted s c 0x0901 = true → Runs (.lanStatusRead c) s fun u => u = answerOk s c [] (regItems s (wordsFrom 0x20000 0x400))) ∧
  (∀ c s, admitted s c 0x0910 = true → Runs (.timStatusRead c) s fun u => ∃ items, u = answerOk s c [] items ∧
    regItems s (wordsFrom 0x2100014 0x34) ⊆ items ∧ .reg 0x2100008 (numWord (devNs s)) ∈ items ∧
    .reg 0x210000C (numWord (devSec s)) ∈ items) ∧
  (∀ c s, admitted s c 0x0A01 = true → Runs (.strStatusRead c) s fun u => u = answerOk s c [] (regItems s (wordsFrom 0x30000 0x1B0))) ∧
  (∀ c s, admitted s c 0x0112 = true → Runs (.mbxStatusRead c) s fun u => ∃ items, u = answerOk s c [] items ∧
    (∀ n : Fin 8, ∀ v, boxReg s n 0 = some v → .reg (boxBase n) v ∈ items) ∧ regItems s (wordsFrom 0x10800 0xC) ⊆ items) ∧
  (∀ c s, c.caller ≠ .tap → gate s c 0x0101 = none → itemsFault 0x0101 c.body = false →
    Runs (.mbxInfo c) s fun u => ∃ items, u = answerOk s c [] items ∧ regItems s (wordsFrom 0 0x30) ⊆ items ∧
      .blob (leBytes 1 s.lcy.state) ∈ items ∧ ∀ n : Fin 8, .item 0x0D (leBytes 1 (mailbox s n).port) ∈ items) ∧
  (∀ c s, admitted s c 0x0205 = true → s.kst.ready = true → suspended s = false → s.die.attestation.isSome = true → c.value 1 = none →
    c.value 0x12 = none →
    Runs (.kstAttest c) s fun u => (∃ b, AnsweredOk u c [.blob b]) ∧ u.kst.attests = (s.kst.attests + 1) % 2 ^ 64 ∧
      u.kst.slots = s.kst.slots ∧ u.geo = s.geo)

/-- REGISTER_WRITE, REGISTER_READ, I3C_REGISTER_WRITE, I3C_REGISTER_READ (R18, R20, R21, R343): an aligned access of 32 bits that a master
may make gives the register's value or stores its fields; any other width or a block without the right is refused, stores nothing, and
reads 0; an I3C transfer sets the register address, which rises by 4 for each word read. -/
def RegisterAccesses : Prop :=
  (∀ m a v t s, a % 4 = 0 → 2 ≤ blockRight m a → sharedWrite (advance s t) m a v = none → boxOf a = none → writeBarred (advance s t) a = false →
    (secureOnly a = true → m.isSecure = true) →
    Runs (.registerWrite (.device m a) 4 v t) s fun u => u = (blockWrite (advance s t) m a v).getD (advance s t)) ∧
  (∀ m a size v t s, size ≠ 4 ∨ a % 4 ≠ 0 →
    Runs (.registerWrite (.device m a) size v t) s fun u => u = refuseAccess (advance s t) m a true size) ∧
  (∀ (f : Fin 1024) off v t s, funcEnabled s f = true → off % 4 = 0 →
    Runs (.registerWrite (.function f off) 4 v t) s fun u => u = writeFunction (advance s t) f off v) ∧
  (∀ m a t s v u', a % 4 = 0 → blockRight m a ≠ 0 → boxOf a = none → readValue (advance s t) a = some (v, u') →
    Runs (.registerRead (.device m a) 4 t) s fun u => u = emit u' (.read v)) ∧
  (∀ m a size t s, size ≠ 4 ∨ a % 4 ≠ 0 ∨ blockRight m a = 0 →
    Runs (.registerRead (.device m a) size t) s fun u => ∃ v, u = emit (refuseAccess (advance s t) m a false v) (.read 0)) ∧
  (∀ (f : Fin 1024) off t s v, funcEnabled s f = true → off % 4 = 0 → bar2Read (advance s t) f off = some v →
    Runs (.registerRead (.function f off) 4 t) s fun u => u = emit (advance s t) (.read v)) ∧
  (∀ a t s, i3cOn s = true → Runs (.i3cRegisterWrite a [] t) s fun u => u.mbx.regAddr = a.toNat) ∧
  (∀ a v t s, i3cOn s = true → Runs (.i3cRegisterWrite a [v] t) s fun u => ∃ s' : State, s'.mbx.regAddr = a.toNat ∧
    u = i3cWrite s' a.toNat v) ∧
  (∀ n t s, i3cOn s = true → Runs (.i3cRegisterRead n t) s fun u => ∃ b, b.length = 4 * n ∧
    u = emit (i3cReads (advance s t) n).1 (.i3c b))

/-- ENVELOPE_REASSEMBLY, COMMAND_ENTRY, COMMAND, DAP_ACCESS (R319, R353, R362, R376, R414): a committed packet leaves its FIFO and its
payload joins the assembly; a ring entry whose header stands carries its command out for its function's domain; a secure call opens a
token; a debug access without its right changes nothing but the refused count. -/
def CarriersTakeTheirCommands : Prop :=
  (∀ (n : Fin 6) x t s h rest, (mailbox s n).req.words = h :: rest → (mailbox s n).outstanding.length < 16 → (mailbox s n).moveTo = none → firmwareRuns s = true →
    bit h 12 = true → bit h 13 = false → (mailbox s n).assembly = none →
    Runs (.envelopeReassembly n x t) s fun u => (mailbox u n).req.words = (h :: rest).drop (packetWords h) ∧
      ∃ a, (mailbox u n).assembly = some a ∧ a.tag = field h 23 16 ∧ a.fragments = 1 ∧
        a.bytes = bytesOf ((frontPacket (mailbox s n).req).drop 1).dropLast) ∧
  (∀ (f : Fin 1024) (q : Fin 4096) body x t s j, nextJob (advance s t) f q = some j → j.opcode = 5 →
    28 ≤ j.bytes.length → (funcDomain s f).isSome = true → ringCommands.contains (leAt j.bytes 0 2) = true → leAt j.bytes 2 2 = 0 →
    leAt j.bytes 4 4 ≤ 65536 →
    Runs (.commandEntry f q (some body) x t) s fun u => ∀ b, cmdBody (leAt j.bytes 0 2) (slice (body ++ zeros (leAt j.bytes 4 4)) 0
        (leAt j.bytes 4 4)) = some b →
      ∃ v : State, ∃ c : Cmd, c.caller = .function f q ∧ c.reply = .ring j.id ∧ c.body = b ∧ some c.domain = funcDomain s f ∧
        u = perform (leAt j.bytes 0 2) c v) ∧
  (∀ (p : Fin 4) e a r room x t s, normalRuns (advance s t) p = true → callOf s p = none → secureUp s = false →
    Runs (.worldCall p e a r room x t) s fun u => u = emit (advance s t) (.answer { status := .secureWorldDown })) ∧
  (∀ (p : Fin 4) e a r room x t s, normalRuns (advance s t) p = true → callOf s p = none → secureUp s = true → callPage s a e.length = true →
    formFault (e.take (leAt e 8 4)) = none → envSession e = 0 → isCommand (envCode (e.take (leAt e 8 4))) = true →
    Runs (.worldCall p e a r room x t) s fun u => ∃ v : State, v.wld.nextToken = s.wld.nextToken + 1 ∧
      v.wld.calls.length = s.wld.calls.length + 1 ∧
      u = runEnvelope v (.firmware p) (.call s.wld.nextToken) (e.take (leAt e 8 4)) x) ∧
  (∀ a n t s, s.lcy.tap.ir = 0x21 → dapFault (advance s t) a n false = none →
    Runs (.dapAccess (.read a n) t) s fun u => u = emit (advance s t) (.tap (bitsOfBytes (memLoad s.ctl a n)))) ∧
  (∀ a b t s, s.lcy.tap.ir = 0x21 → dapFault (advance s t) a b.length true = none →
    Runs (.dapAccess (.write a b) t) s fun u => u.ctl = memStore s.ctl a b) ∧
  (∀ w t s, s.lcy.tap.ir = 0x21 → hasRight (advance s t) (haltRight w) = true →
    Runs (.dapAccess (.halt w) t) s fun u => (u.lcy.halted.look (worldIndex w)).isSome = true) ∧
  (∀ w t s, s.lcy.tap.ir = 0x21 → hasRight (advance s t) (haltRight w) = false →
    Runs (.dapAccess (.halt w) t) s fun u => u.lcy.halted = s.lcy.halted ∧ u.lcy.refused = sat32 s.lcy.refused)

/-- DGS_JOB, SVC_MAC, KST_DERIVE (R193, R206, R208, R261): each puts one job, under a new number, at the end of its caller's source of the
dispatcher; a derivation with PRF 4 goes as a service MAC segment and any other as a digest job. -/
def EngineJobsAreSubmitted : Prop :=
  (∀ c s, admitted s c 0x0410 = true → c.body.bytes.length = 64 →
    Runs (.dgsJob c) s fun u => ∃ v : State, ∃ j : DigJob, u = submit v c.caller (.digest j) ∧
      v.eng.sources = s.eng.sources ∧ v.eng.nextJob = s.eng.nextJob + 1 ∧ j.id = s.eng.nextJob ∧
      j.block = readDigest c.body.bytes ∧ j.caller = c.caller ∧ j.reply = c.reply ∧ j.domain = c.domain) ∧
  (∀ c s, admitted s c 0x0401 = true → c.body.bytes.length = 64 →
    Runs (.svcMac c) s fun u => ∃ v : State, ∃ j : SvcJob, u = submit v c.caller (.svc j) ∧
      v.eng.sources = s.eng.sources ∧ v.eng.nextJob = s.eng.nextJob + 1 ∧ j.id = s.eng.nextJob ∧
      j.block = readSegment c.body.bytes ∧ j.caller = c.caller ∧ j.reply = c.reply ∧ j.domain = c.domain) ∧
  (∀ c s, admitted s c 0x0220 = true → (c.bytes 0x19).length ≠ 0 → (c.bytes 0x19).length ≤ 64 → (c.bytes 0x1A).length ≤ 256 →
    1 ≤ c.nat 0x18 → c.nat 0x18 ≤ 4 →
    Runs (.kstDerive c) s fun u => u.eng.nextJob = s.eng.nextJob + 1 ∧ ∃ v j, u = submit v c.caller j ∧ v.eng.sources = s.eng.sources ∧
      match j with
      | .svc x => c.nat 0x18 = 4 ∧ x.derive = some (deriveSpec c)
      | .digest x => c.nat 0x18 ≠ 4 ∧ x.derive = some (deriveSpec c) ∧ x.block.algo = c.nat 0x18
      | .pke _ => False)

/-- DIGEST_JOB_ASSIGN, DIGEST_BLOCK_END, DIGEST_JOB_COMPLETE (R98, R204, R205, R209): the oldest waiting job of a side takes the lowest
free context of the least loaded engine; a block that ends is counted and taken off its context; a finished HMAC of Passage compares its
tag with the frame's, a finished digest of a service job answers its bytes and an HMAC check that fails TAG_MISMATCH, and no key of
Passage is fetched under a response of S2. -/
def DigestContextsRun : Prop :=
  (∀ t s j rest d c, stopped s 1 = false → s.eng.digestWait = j :: rest → chooseCtx (advance s t) false = some (d, c) → j.block.op = 1 →
    j.block.keyHandle = 0 → j.pke = none →
    Runs (.digestJobAssign false t) s fun u => u.eng.digestWait = (j :: rest).filter (·.id != j.id) ∧ (digestEngine u d).state = .busy ∧
      ∃ x, (digestEngine u d).ctxs.look c = some x ∧ x.user = .service j ∧ x.key = []) ∧
  (∀ t s r rest d c p h k, stopped s 1 = false → suspended s = false → s.psg.digestQ = r :: rest → chooseCtx (advance s t) true = some (d, c) →
    portOfFrame s r.frame = some p → findHeld s p r.frame = some h → h.stage = .hmac → fetchKey s h = some k →
    Runs (.digestJobAssign true t) s fun u => u.psg.digestQ = rest ∧
      ∃ x, (digestEngine u d).ctxs.look c = some x ∧ x.user = .passage r ∧ x.key = k ∧ x.algo = 1) ∧
  (∀ t s, suspended s = true → Runs (.digestJobAssign true t) s fun u => u = advance s t) ∧
  (∀ (d : Fin 64) t s c, stopped s 1 = false → (digestEngine s d).state = .busy → (digestEngine s d).current = some c →
    (digestEngine s d).blockEnd ≤ (advance s t).now →
    Runs (.digestBlockEnd d t) s fun u => ∃ v, u = startBlock (endAborted v d) d ∧
      (digestEngine v d).blocks = satAdd 64 (digestEngine s d).blocks 1 ∧ (digestEngine v d).current = none ∧
      (digestEngine v d).ctxs = (digestEngine s d).ctxs.map fun k =>
        (k.1, if k.1 = c then { k.2 with blocks := k.2.blocks - 1, ran := k.2.ran + 1 } else k.2)) ∧
  (∀ (d : Fin 64) (c : Fin 8) t s x r p h, stopped s 0 = false → stopped s 1 = false → (digestEngine s d).ctxs.look c = some x →
    x.done = none → x.storing = false → x.blocks = 0 →
    x.readyAt ≤ (advance s t).now → (digestEngine s d).current ≠ some c.val → x.user = .passage r → portOfFrame s r.frame = some p →
    findHeld s p r.frame = some h → h.stage = .hmac →
    Runs (.digestJobComplete d c t) s fun u => u = updHeld (freeContext (advance s t) d c) p h.id fun y => { y with
      stage := .result { verdict := if (hmac 1 x.key x.msg).take h.trailer.auth.length == h.trailer.auth
        then .accept else .tag } }) ∧
  (∀ (d : Fin 64) (c : Fin 8) t s x j, stopped s 1 = false → (digestEngine s d).ctxs.look c = some x → x.done = none → x.storing = false →
    x.blocks = 0 → x.readyAt ≤ (advance s t).now → (digestEngine s d).current ≠ some c.val → x.user = .service j → x.final = .ok →
    j.block.op = 1 → j.block.toSlot = false → j.derive = none → j.pke = none →
    Runs (.digestJobComplete d c t) s fun u => ∃ e : JobEnd, u = freeDelivered (endJob (advance s t) j.caller j.reply e) ∧
      e.status = .ok ∧ e.outs = [(j.block.dataAddress, Config.digest j.block.algo x.msg j.block.outBytes)]) ∧
  (∀ (d : Fin 64) (c : Fin 8) t s x j, stopped s 1 = false → (digestEngine s d).ctxs.look c = some x → x.done = none → x.storing = false →
    x.blocks = 0 → x.readyAt ≤ (advance s t).now → (digestEngine s d).current ≠ some c.val → x.user = .service j → x.final = .ok →
    j.block.op = 3 → j.derive = none → j.pke = none →
    (hmac j.block.algo x.key x.msg).take j.block.outLen ≠ j.block.expected →
    Runs (.digestJobComplete d c t) s fun u => ∃ e : JobEnd, u = freeDelivered (endJob (advance s t) j.caller j.reply e) ∧
      e.status = .tagMismatch ∧ e.outs = [])

/-- DGS_RESULT_READ, DGS_ABORT, DGS_CFG_SET, SVC_CFG_SET (R211, R217): a job that has not finished answers RESULT_NOT_READY and 32 zeros,
a finished one its block; a job that waits is aborted at once; SVC_SLICE takes 2 to 64 and IDLE_100US 1 to 10,000. -/
def DigestCommandsAnswer : Prop :=
  (∀ c s r, admitted s c 0x0411 = true → jobRef s c.caller (c.nat 0x11) = some r → digestPending s r = true →
    Runs (.dgsResultRead c) s fun u => u = answer s c.reply { status := .resultNotReady, items := [.blob (zeros 32)] }) ∧
  (∀ c s x, admitted s c 0x0411 = true → jobRef s c.caller (c.nat 0x11) = none →
    (s.eng.results.reverse.find? fun x => x.caller == c.caller && x.seq == c.nat 0x11) = some x →
    Runs (.dgsResultRead c) s fun u => u = answerOk s c [] [.blob x.block]) ∧
  (∀ c s r j, admitted s c 0x0412 = true → jobRef s c.caller (c.nat 0x11) = some r → (source s 0).jobs = [] →
    s.eng.digestWait.find? (·.reply == r) = some j →
    Runs (.dgsAbort c) s fun u => AnsweredOk u c [] ∧ u.eng.digestWait = s.eng.digestWait.filter (·.id != j.id)) ∧
  (∀ c s, admitted s c 0x0412 = true → jobRef s c.caller (c.nat 0x11) = none →
    Runs (.dgsAbort c) s fun u => u = answerStatus s c.reply .invalidParameter) ∧
  (∀ c s v, admitted s c 0x0420 = true → c.regWrites = [(0x1800, v)] → 2 ≤ field v 6 0 → field v 6 0 ≤ 64 →
    Runs (.dgsCfgSet c) s fun u => AnsweredOk u c [] ∧ u.eng.dgsCfg = BitVec.ofNat 32 (field v 6 0)) ∧
  (∀ c s v, admitted s c 0x0421 = true → c.regWrites = [(0x8000, v)] → 1 ≤ field v 13 0 → field v 13 0 ≤ 10000 →
    Runs (.svcCfgSet c) s fun u => AnsweredOk u c [] ∧ u.eng.svcCfg = BitVec.ofNat 32 (field v 13 0)) ∧
  (∀ c s v, admitted s c 0x0421 = true → c.regWrites = [(0x8000, v)] → field v 13 0 = 0 ∨ 10000 < field v 13 0 →
    Runs (.svcCfgSet c) s fun u => u = answerStatus s c.reply .invalidParameter)

/-- DGS_RETEST, DGS_TAKE_OFFLINE, ENGINE_SELF_TEST_END, ENGINE_PARITY_ERROR, ENGINE_KNOWN_ANSWER (R190, R202, R215, R216): only the secure
world writes the controls; a FAILED engine retests at once and a BUSY one when its contexts are free; a test that has run its cycles sets
the engine ready, unseeded or OFFLINE; a parity error and a wrong answer fail it, the third failure for good. -/
def EngineFaultsAndTests : Prop :=
  (∀ m (d : Fin 64) s, m.isSecure = true → (digestEngine s d).state = .failed →
    Runs (.dgsRetest m d) s fun u => (digestEngine u d).state = .selfTest ∧ (digestEngine u d).testFrom = some s.now) ∧
  (∀ m (d : Fin 64) s, m.isSecure = false →
    Runs (.dgsRetest m d) s fun u => u = refuseAccess s m (digestBase d + 4) true) ∧
  (∀ m (d : Fin 64) s, m.isSecure = true → (digestEngine s d).state = .busy → (digestEngine s d).ctxs ≠ [] →
    Runs (.dgsTakeOffline m d) s fun u => (digestEngine u d).takeOffline = true ∧ (digestEngine u d).state = .busy) ∧
  (∀ m (d : Fin 64) s, m.isSecure = true → (digestEngine s d).state = .failed →
    Runs (.dgsTakeOffline m d) s fun u => (digestEngine u d).state = .offline) ∧
  (∀ (d : Fin 64) p t s, bit s.id.ready 1 = true → stopped s 1 = false →
    (digestEngine s d).state = .selfTest ∨ (digestEngine s d).state = .failed → testDue (advance s t) (digestEngine s d).testFrom 4096 = true →
    Runs (.engineSelfTestEnd (.digest d) p t) s fun u => (digestEngine u d).state = if p then .idle else .offline) ∧
  (∀ (e : Fin 32) p t s, bit s.id.ready 1 = true → stopped s 1 = false → (svc s e).state = .selfTest ∨ (svc s e).state = .failed →
    testDue (advance s t) (svc s e).testFrom 2048 = true →
    Runs (.engineSelfTestEnd (.svc e) p t) s fun u =>
      (svc u e).state = if p then (if (svc s e).mask.seed.isSome then .idle else .unseeded) else .offline) ∧
  (∀ (d : Fin 64) t s, (digestEngine s d).state ≠ .failed → (digestEngine s d).state ≠ .offline →
    Runs (.engineParityError (.digest d) t) s fun u => ∃ v, u = refreshDigest (faultAlarm v 5 d) ∧
      ((digestEngine v d).state = .failed ∨ (digestEngine v d).state = .offline)) ∧
  (∀ (e : Fin 32) t s, (svc s e).state ≠ .failed → (svc s e).state ≠ .offline →
    Runs (.engineParityError (.svc e) t) s fun u => u = failSvc (advance s t) e) ∧
  (∀ (d : Fin 64) t s, stopped s 1 = false → (digestEngine s d).state = .idle → (digestEngine s d).current = none →
    katDue (advance s t) (digestEngine s d).katAt = true →
    Runs (.engineKnownAnswer (.digest d) true t) s fun u => (digestEngine u d).katAt = (advance s t).now ∧
      (digestEngine u d).blocks = satAdd 64 (digestEngine s d).blocks 1) ∧
  (∀ (e : Fin 32) t s, stopped s 1 = false → (svc s e).state = .idle → katDue (advance s t) (svc s e).katAt = true →
    Runs (.engineKnownAnswer (.svc e) false t) s fun u => u = failSvc (advance s t) e)

/-- SVC_SEGMENT_START, SVC_SEGMENT_END, SVC_IDLE_TIMEOUT, SVC_ABORT, FORCE_RELEASE (R188, R197 to R199, R201): a holder's next segment
starts on its seeded engine under the message's key; one that ends at its last cycle adds its bytes to the message, and a LAST one answers
the message's tag and releases the engine; a lock idle for the limit, a holder's abort and a forced release all free the engine, which
zeroes itself for 32 XCLK. -/
def ServiceMacSegmentsAndLocks : Prop :=
  (∀ (e : Fin 32) t s h j rest k, (svc s e).hold = some h → h.running = none → h.queue = j :: rest → h.key = some k → suspended s = false →
    katDue (advance s t) (svc s e).katAt = false → (svc s e).state = .idle → (svc s e).mask.seed.isSome = true →
    starved (advance s t) (288 + e) = false → stopped s 1 = false →
    Runs (.svcSegmentStart e t) s fun u => (svc u e).state = .busy ∧ ∃ h' r, (svc u e).hold = some h' ∧ h'.running = some r ∧
      h'.queue = rest ∧ h'.key = some k ∧ h'.idleFrom = none ∧ r.job = j ∧ r.startAt = (advance s t).now) ∧
  (∀ (e : Fin 32) t s h r, stopped s 1 = false → (svc s e).hold = some h → h.running = some r → r.endAt ≤ (advance s t).now →
    r.mismatch = false → r.job.block.last = false → r.job.derive = none →
    Runs (.svcSegmentEnd e t) s fun u => ∃ v data, data = h.data ++ (fragsFault r.job.block.segLen 0 r.job.block.frags).1 ∧
      u = endSvc v r.job .ok e h.ticket 0 data.length r.iv [] ∧ (svc v e).state = .idle ∧
      ∃ h', (svc v e).hold = some h' ∧ h'.running = none ∧ h'.data = data ∧ h'.queue = h.queue) ∧
  (∀ (e : Fin 32) t s h r, stopped s 1 = false → (svc s e).hold = some h → h.running = some r → r.endAt ≤ (advance s t).now →
    r.mismatch = false → r.job.block.last = true → r.job.block.op = 1 → r.job.derive = none → h.queue = [] →
    Runs (.svcSegmentEnd e t) s fun u => ∃ v data, data = h.data ++ (fragsFault r.job.block.segLen 0 r.job.block.frags).1 ∧
      u = releaseSvc (endSvc v r.job .ok e h.ticket 0 data.length r.iv ((messageTag h data).take r.job.block.tagLen)) e .aborted) ∧
  (∀ (e : Fin 32) t s h f, stopped s 1 = false → (svc s e).hold = some h → h.idleFrom = some f → h.queue = [] → f + idleLimit s ≤ (advance s t).now →
    Runs (.svcIdleTimeout e t) s fun u => (svc u e).hold = none ∧ u.eng.svcTimeouts = sat32 s.eng.svcTimeouts ∧
      (svc u e).zeroUntil = (advance s t).now + 32 * xclkT) ∧
  (∀ c s h, admitted s c 0x0402 = true → leAt (c.bytes 0x10) 0 1 < 32 → (svc s (leAt (c.bytes 0x10) 0 1)).hold = some h →
    h.ticket = leAt (c.bytes 0x10) 2 2 → h.user = userId c.caller → h.running = none → h.queue = [] →
    Runs (.svcAbort c) s fun u => AnsweredOk u c [] ∧ (svc u (leAt (c.bytes 0x10) 0 1)).hold = none) ∧
  (∀ c s h, admitted s c 0x0402 = true → leAt (c.bytes 0x10) 0 1 < 32 → (svc s (leAt (c.bytes 0x10) 0 1)).hold = some h →
    h.ticket = leAt (c.bytes 0x10) 2 2 → h.user ≠ userId c.caller →
    Runs (.svcAbort c) s fun u => u = answerStatus s c.reply .notPermitted) ∧
  (∀ m (e : Fin 32) s h, m.isSecure = true → (svc s e).hold = some h → h.running = none → h.queue = [] →
    Runs (.forceRelease m e) s fun u => (svc u e).hold = none ∧ (svc u e).zeroUntil = s.now + 32 * xclkT)

/-- PKE_JOB, PKE_JOB_ABORT, SERVICE_JOB_STAGE (R153, R154, R166, R172): a job block joins its caller's source; an abort of a job that
waits ends it at once; the oldest waiting job is staged with its key on the lowest SERVICE core with an empty staging buffer. -/
def PublicKeyJobsWaitAndStage : Prop :=
  (∀ c s, admitted s c 0x0301 = true → c.body.bytes.length = 64 + 16 * leAt c.body.bytes 0x20 1 →
    Runs (.pkeJob c) s fun u => ∃ v : State, ∃ j : PkeJob, u = submit v c.caller (.pke j) ∧ v.eng.sources = s.eng.sources ∧
      v.eng.nextJob = s.eng.nextJob + 1 ∧ j.id = s.eng.nextJob ∧ j.block = readJobBlock c.body.bytes ∧
      j.curve = none ∧ j.caller = c.caller ∧ j.reply = c.reply ∧ j.domain = c.domain) ∧
  (∀ c s r j, admitted s c 0x0302 = true → jobRef s c.caller (c.nat 0x11) = some r → (source s 0).jobs = [] →
    s.pke.waiting.find? (·.reply == r) = some j →
    Runs (.pkeJobAbort c) s fun u => AnsweredOk u c [] ∧ u.pke.waiting = s.pke.waiting.filter (·.id != j.id)) ∧
  (∀ c s, admitted s c 0x0302 = true → jobRef s c.caller (c.nat 0x11) = none →
    Runs (.pkeJobAbort c) s fun u => u = answerStatus s c.reply .invalidParameter) ∧
  (∀ t s n j rest m k, stopped s 2 = false → (∀ c, (Machine.core s c).staged.all (·.key.isSome) = true) →
    (serviceCores (advance s t)).find? (fun n => (Machine.core s n).staged.isNone) = some n →
    s.pke.waiting = j :: rest → digestsDone j = true → pkeKey (advance s t) j = .got m k → drawSize j (jobCurve s j.block) = 0 →
    Runs (.serviceJobStage t) s fun u => u.pke.waiting = (j :: rest).filter (·.id != j.id) ∧
      (Machine.core u n).staged = some { j with key := some k } ∧ (Machine.core u n).state = (Machine.core s n).state)

/-- CORE_JOB_START, CORE_STATUS_DELIVERED, CORE_WATCHDOG, CORE_ZEROING_END (R126, R145, R155, R161, R166): an idle core starts its bound
job, else its staged one; a status is delivered exactly T cycles after the start, with every output zeroed where it is not OK, and a
failed invariant faults the core; a core silent for 64 cycles more is dropped and its jobs bound again; zeroing takes 2,048 cycles, and
the stopped job then ends with its status. -/
def CoresRunTheirJobs : Prop :=
  (∀ (n : Fin 96) t s b p, stopped s 2 = false → (Machine.core s n).state = .idle → (Machine.core s n).running = none → suspended s = false →
    s.psg.bound.find? (·.core == n.val) = some b → b.start ≤ (advance s t).now → b.lentFrom = some p →
    Runs (.coreJobStart n t) s fun u => (Machine.core u n).state = .busy ∧ ∃ r, (Machine.core u n).running = some r ∧
      r.user = .borrowed p b.frame ∧ r.startAt = (advance s t).now ∧ r.cycles = verifyCycles b.alg ∧ r.key = b.key) ∧
  (∀ (n : Fin 96) t s b p h x v, stopped s 2 = false → (Machine.core s n).state = .idle → (Machine.core s n).running = none →
    suspended s = false → s.psg.bound.find? (·.core == n.val) = some b → b.start ≤ (advance s t).now → b.lentFrom = none →
    portOfFrame s b.frame = some p → findHeld s p b.frame = some h → partAt h b.part = some x → fetchKey s h = some v →
    Runs (.coreJobStart n t) s fun u => (Machine.core u n).state = .busy ∧ ∃ r, (Machine.core u n).running = some r ∧
      r.user = .passage b.frame b.part ∧ r.startAt = (advance s t).now ∧ r.cycles = verifyCycles x.alg ∧ r.digest = x.digest) ∧
  (∀ (n : Fin 96) t s j k, stopped s 2 = false → (Machine.core s n).state = .idle → (Machine.core s n).running = none →
    s.psg.bound.find? (·.core == n.val) = none → (Machine.core s n).staged = some j → j.key = some k →
    Runs (.coreJobStart n t) s fun u => (Machine.core u n).state = .busy ∧ (Machine.core u n).staged = none ∧ ∃ r, (Machine.core u n).running = some r ∧
      r.user = .service j ∧ r.startAt = (advance s t).now ∧ r.key = k) ∧
  (∀ (n : Fin 96) t s r, stopped s 2 = false → (Machine.core s n).running = some r → r.stop = none →
    r.startAt + r.cycles * nclkT = (advance s t).now →
    Runs (.coreStatusDelivered n 0 t) s fun u => u = deliver (coreFree (advance s t) n r.cycles) n r) ∧
  (∀ (n : Fin 96) t s r j, stopped s 2 = false → (Machine.core s n).running = some r → r.stop = none →
    r.startAt + r.cycles * nclkT = (advance s t).now → r.user = .service j → j.curve = none → hasDest j.block.op = false →
    Runs (.coreStatusDelivered n 0 t) s fun u => ∃ v, (v = coreFree (advance s t) n r.cycles ∨
        v = event (coreFree (advance s t) n r.cycles) 1 3 0x0301) ∧
      ∃ e, u = endJob v j.caller j.reply e ∧ e.status = resultStatus j (jobResult j r.record r.key) ∧
        (e.status ≠ .ok → e.outs = zeroOuts j.block)) ∧
  (∀ (n : Fin 96) i t s r, (Machine.core s n).running = some r → (advance s t).now ≠ r.startAt + r.cycles * nclkT → r.stop = none →
    Runs (.coreStatusDelivered n i t) s fun u => u = advance s t) ∧
  (∀ (n : Fin 96) (i : Fin 12) t s r f p, stopped s 2 = false → (Machine.core s n).running = some r → r.stop = none →
    r.startAt + r.cycles * nclkT = (advance s t).now → rowFits r i = true → r.user = .passage f p →
    Runs (.coreStatusDelivered n i t) s fun u => ∃ v, u = rebindJobs (faultCore v n i) n (some r) ∧
      (Machine.core v n).jobs = satAdd 64 (Machine.core s n).jobs 1) ∧
  (∀ (n : Fin 96) t s r f p, stopped s 2 = false → (Machine.core s n).running = some r → r.stop = none →
    r.startAt + (r.cycles + 64) * nclkT ≤ (advance s t).now → r.user = .passage f p →
    Runs (.coreWatchdog n t) s fun u => ∃ v, u = rebindJobs (dropCore v n false) n (some r) ∧
      (Machine.core v n).busy = satAdd 64 (Machine.core s n).busy (r.cycles + 64) ∧
      (Machine.core v n).watchdogs = (Machine.core s n).watchdogs) ∧
  (∀ (n : Fin 96) t s r st f p, stopped s 2 = false → (Machine.core s n).running = some r → r.stop = some st →
    r.stopAt + 2048 * nclkT ≤ (advance s t).now → r.user = .passage f p → (Machine.core s n).takeOffline = false →
    Runs (.coreZeroingEnd n t) s fun u => (Machine.core u n).state = .idle ∧ (Machine.core u n).running = none) ∧
  (∀ (n : Fin 96) t s r st j, stopped s 2 = false → (Machine.core s n).running = some r → r.stop = some st →
    r.stopAt + 2048 * nclkT ≤ (advance s t).now → r.user = .service j → j.curve = none →
    Runs (.coreZeroingEnd n t) s fun u => ∃ v e, u = endJob v j.caller j.reply e ∧ e.status = st ∧ e.outs = zeroOuts j.block) ∧
  (∀ (n : Fin 96) t s r st, (Machine.core s n).running = some r → r.stop = some st → (advance s t).now < r.stopAt + 2048 * nclkT →
    Runs (.coreZeroingEnd n t) s fun u => u = advance s t)

/-- CORE_SELF_TEST_END, CORE_POOL_SWITCH, CORE_RETEST, CORE_TAKE_OFFLINE, PKE_CORE_RETEST (R163, R171, R179, R180, R182): a test that has
run its time makes the core idle or OFFLINE; a moving core with nothing to run switches; RETEST starts the test of a FAILED core or an
idle one with nothing bound; a running core goes OFFLINE after its job. -/
def CoresTestAndSwitch : Prop :=
  (∀ (n : Fin 96) p t s e, stopped s 2 = false → (Machine.core s n).state = .selfTest ∨ (Machine.core s n).state = .failed →
    coreTestEnd s n = some e → e ≤ (advance s t).now →
    Runs (.coreSelfTestEnd n p t) s fun u => (Machine.core u n).state = if p then .idle else .offline) ∧
  (∀ (n : Fin 96) t s, stopped s 2 = false → (Machine.core s n).moving = true → (Machine.core s n).running = none → (Machine.core s n).staged = none →
    s.psg.bound.any (·.core == n.val) = false →
    Runs (.corePoolSwitch n t) s fun u => ∃ v, u = settlePool v ∧ (Machine.core v n).moving = false ∧ (Machine.core v n).switched = true ∧
      v.pke.target = s.pke.target) ∧
  (∀ m (n : Fin 96) s, m.isSecure = true → (Machine.core s n).state = .failed →
    Runs (.coreRetest m n) s fun u => (Machine.core u n).state = .selfTest) ∧
  (∀ m (n : Fin 96) s, m.isSecure = false →
    Runs (.coreRetest m n) s fun u => u = refuseAccess s m (0x100004 + n * 0x1000) true) ∧
  (∀ m (n : Fin 96) s r, m.isSecure = true → (Machine.core s n).running = some r →
    Runs (.coreTakeOffline m n) s fun u => (Machine.core u n).takeOffline = true ∧ (Machine.core u n).running = some r) ∧
  (∀ m (n : Fin 96) s, m.isSecure = true → (Machine.core s n).running = none → s.psg.bound = [] →
    Runs (.coreTakeOffline m n) s fun u => (Machine.core u n).state = .offline ∧
      u.pke.waiting = ((Machine.core s n).staged.map unstaged).toList ++ s.pke.waiting) ∧
  (∀ c s, admitted s c 0x0340 = true → c.nat 9 ≤ 95 → (Machine.core s (c.nat 9)).state = .idle → coreLoaded s (c.nat 9) = false →
    Runs (.pkeCoreRetest c) s fun u => AnsweredOk u c [] ∧ (Machine.core u (c.nat 9)).state = .selfTest) ∧
  (∀ c s, admitted s c 0x0340 = true → c.nat 9 ≤ 95 → (Machine.core s (c.nat 9)).state = .busy →
    Runs (.pkeCoreRetest c) s fun u => u = answerBusy s c.reply 0xFFFFFFFF)

/-- PKE_POOL_STAGE, PKE_POOL_COMMIT, PKE_POOL_DISCARD, POOL_COMMIT, POOL_DISCARD (R170, R171, R181, R182): staging writes the SHADOW map;
a commit is refused while one is pending, with fewer than 8 SERVICE cores, or without its grant; one that passes makes the cores that
change pool move; DISCARD copies ACTIVE into SHADOW. -/
def PoolsAreCommitted : Prop :=
  (∀ c s, admitted s c 0x0330 = true → s.pke.target = none →
    Runs (.pkePoolStage c) s fun u => AnsweredOk u c [] ∧ u.pke.shadow = mapWords (c.bytes 0x17) ∧ u.pke.active = s.pke.active) ∧
  (∀ c s m, admitted s c 0x0330 = true → s.pke.target = some m →
    Runs (.pkePoolStage c) s fun u => u = answerBusy s c.reply 0xFFFFFFFF) ∧
  (∀ c s, admitted s c 0x0331 = true → poolCheck { s with pke := { s.pke with grant := true } } = none →
    Runs (.pkePoolCommit c) s fun u => ∀ v reasons, judgeQuorum s c (poolQuorum s c) = (v, reasons, none) →
      u = requestPool { v with pke := { v.pke with grant := true } } (some c.reply) reasons) ∧
  (∀ c s st, admitted s c 0x0331 = true → poolCheck { s with pke := { s.pke with grant := true } } = some st →
    Runs (.pkePoolCommit c) s fun u => u = requestPool { s with pke := { s.pke with grant := false } } (some c.reply) []) ∧
  (∀ c s, admitted s c 0x0332 = true → s.pke.target = none →
    Runs (.pkePoolDiscard c) s fun u => AnsweredOk u c [] ∧ u.pke.shadow = s.pke.active) ∧
  (∀ m s st, m.isSecure = true → poolCheck s = some st →
    Runs (.poolCommit m) s fun u => u.pke.commitErr = Status.code st ∧ u.pke.grant = false ∧ u.pke.active = s.pke.active ∧
      u.pke.target = s.pke.target) ∧
  (∀ m s, m.isSecure = true → poolCheck s = none →
    Runs (.poolCommit m) s fun u => ∃ v, u = settlePool v ∧ v.pke.target = some s.pke.shadow ∧ v.pke.commitErr = 0 ∧
      v.pke.grant = false ∧ ∀ n < 96, mapBit s.pke.active n ≠ mapBit s.pke.shadow n → (Machine.core v n).moving = true) ∧
  (∀ m s, m.isSecure = true → s.pke.target = none →
    Runs (.poolDiscard m) s fun u => u.pke.shadow = s.pke.active ∧ u.pke.active = s.pke.active) ∧
  (∀ m s, m.isSecure = false →
    Runs (.poolDiscard m) s fun u => u = refuseAccess s m 0x100820 true)

/-- PKE_CURVE_LOAD, PKE_CURVE_UNLOAD, PKE_CURVE_READ, PKE_POLICY_SET, PKE_POLICY_GET (R173, R174, R177, R182): a formed record goes to a
core for its checks where the domain's policy allows loaded curves; a curve that no key names is unloaded; a read answers the record; a
policy is set only under the domain's critical quorum. -/
def CurvesAndPolicies : Prop :=
  (∀ c s, admitted s c 0x0310 = true → c.body.bytes.length = 448 → curveFormed c.body.bytes = true → (domain s c.domain).policy = 1 →
    (s.pke.curves.free 0 256).isSome = true →
    Runs (.pkeCurveLoad c) s fun u => ∃ v : State, ∃ j : PkeJob, u = submit v c.caller (.pke j) ∧ v.eng.sources = s.eng.sources ∧
      j.curve = some c.body.bytes ∧ j.domain = c.domain ∧ j.reply = c.reply ∧ v.pke = s.pke) ∧
  (∀ c s, admitted s c 0x0310 = true → c.body.bytes.length ≠ 448 →
    Runs (.pkeCurveLoad c) s fun u => ∃ st, u = answerStatus s c.reply st) ∧
  (∀ c s, admitted s c 0x0311 = true → leastOf (curveGate s c (c.nat 0x1D) ++ [(curveUsed s c.domain (c.nat 0x1D), .busyLocked)]) = none →
    Runs (.pkeCurveUnload c) s fun u => AnsweredOk u c [] ∧ u.pke.curves = s.pke.curves.del (c.nat 0x1D)) ∧
  (∀ c s x, admitted s c 0x0312 = true → leastOf (curveGate s c (c.nat 0x1D)) = none → curve s (c.nat 0x1D) = some x →
    Runs (.pkeCurveRead c) s fun u => u = answerOk s c [] [.blob x.record]) ∧
  (∀ c s, admitted s c 0x0320 = true → c.nat 0x1C ≤ 1 →
    Runs (.pkePolicySet c) s fun u => UnderQuorum s c (plainQuorum s c 0x0320 [critical s c.domain]) u fun v reasons =>
      u = editDomain v c c.domain [.policy (c.nat 0x1C)] reasons) ∧
  (∀ c s, admitted s c 0x0320 = true → 1 < c.nat 0x1C →
    Runs (.pkePolicySet c) s fun u => u = answerStatus s c.reply .invalidParameter) ∧
  (∀ c s, admitted s c 0x0321 = true →
    Runs (.pkePolicyGet c) s fun u => u = answerOk s c [] [.item 0x1C (leBytes 1 (domain s c.domain).policy)])

/-- NOISE_SAMPLE, SPAN_END (R219, R225, R241): once XCLK has locked every cell takes one sample, which the pattern memory replaces while
the test source is on; before that nothing is sampled; a known-answer test whose cycles have passed ends; a span's estimates are replaced
only at its 65,536th sample. -/
def NoiseCellsSample : Prop :=
  (∀ bits t s, s.rng.sampling = true → s.rng.katRun = none → s.rng.testSource = false →
    Runs (.noiseSample bits t) s fun u => u = (List.range 16).foldl (fun s c => cellSample s c (bits.getLsbD c)) (advance s t)) ∧
  (∀ bits t s, s.rng.sampling = true → s.rng.katRun = none → s.rng.testSource = true →
    Runs (.noiseSample bits t) s fun u => ∃ v, v = (List.range 16).foldl (fun s' c => cellSample s' c (patternBit s)) (advance s t) ∧
      u.rng.patternPos = (v.rng.patternPos + 1) % 32768 ∧ u.rng.cells = v.rng.cells ∧ u.rng.fifo = v.rng.fifo) ∧
  (∀ bits t s, s.rng.sampling = false → s.rng.katRun = none → Runs (.noiseSample bits t) s fun u => u = advance s t) ∧
  (∀ bits t s k, s.rng.sampling = false → s.rng.katRun = some k → k.endsAt ≤ (advance s t).now → k.passes = true →
    Runs (.noiseSample bits t) s fun u => u.rng.katRun = none ∧ u.rng.katStatus = 0 ∧ u.rng.instances = s.rng.instances) ∧
  (∀ bits t s k, s.rng.sampling = false → s.rng.katRun = some k → k.endsAt ≤ (advance s t).now → k.passes = false → k.unit < 8 →
    k.reply = none → (inst s k.unit).priority = [] → (inst s k.unit).normal = [] →
    Runs (.noiseSample bits t) s fun u => ∃ v, (u = v ∨ u = failRng v) ∧ (inst v k.unit).state = 4 ∧ v.rng.katRun = none ∧
      v.rng.katStatus = Status.code .faultDetected ∧ v.lan.faultQ = s.lan.faultQ ++ [(6, k.unit)]) ∧
  (∀ (c : Fin 16) t s, (cell s c).spanPos = 65536 → Runs (.spanEnd c t) s fun u => cell u c = endSpan (cell s c)) ∧
  (∀ (c : Fin 16) t s, (cell s c).spanPos ≠ 65536 → Runs (.spanEnd c t) s fun u => u = advance s t)

/-- DRBG_GENERATE_CALL, DRBG_RESEED (R221, R227, R230, R231): an instance that serves gives at most 512 bytes to its next request in one
call and delivers it when whole; a request that would pass 2^24 calls since the seed is refused whole; the instance that has waited
longest takes the oldest FIFO result as its seed. -/
def InstancesServeAndReseed : Prop :=
  (∀ (i : Fin 8) t s r p, stopped s 1 = false → s.rng.katRun = none → (inst s i).state = 1 → s.rng.failed = false →
    s.rng.testSource = false → nextDraw (inst s i) = some (r, p) → 2 ^ 24 < (inst s i).calls + callsFor r.size → r.got = [] →
    Runs (.drbgGenerateCall i t) s fun u => u = refuseDraw (countRefused (putDraw (advance s t) i p none) i 1) r) ∧
  (∀ (i : Fin 8) t s r p, stopped s 1 = false → s.rng.katRun = none → (inst s i).state = 1 → s.rng.failed = false → s.rng.testSource = false → nextDraw (inst s i) = some (r, p) →
    (inst s i).calls + callsFor r.size ≤ 2 ^ 24 → r.got = [] → r.size ≤ 512 →
    Runs (.drbgGenerateCall i t) s fun u => ∀ b d, (inst s i).drbg.request 1 r.size = (b, d) → r.size ≤ b.length →
      ∃ v, u = drainExhausted (deliverDraw (putDraw v i p none) r b) i ∧ (inst v i).drbg = d ∧
        (inst v i).calls = (inst s i).calls + 1) ∧
  (∀ (i : Fin 8) t s, s.rng.katRun = none → s.rng.failed = true → Runs (.drbgGenerateCall i t) s fun u => u = advance s t) ∧
  (∀ (i : Fin 8) t s e rest, stopped s 1 = false → s.rng.katRun = none → seedNext s = some i.val → s.rng.fifo = e :: rest →
    s.rng.katDone = true → s.rng.failed = false →
    Runs (.drbgReseed i t) s fun u => u.rng.fifo = rest ∧ (inst u i).state = 1 ∧ (inst u i).calls = 0 ∧ (inst u i).askedAt = none ∧
      (inst u i).drbg = (if (inst s i).state = 0 then drbgInstantiate e s.id.serial i else (inst s i).drbg.update e)) ∧
  (∀ (i : Fin 8) t s, s.rng.katRun = none → s.rng.fifo = [] → Runs (.drbgReseed i t) s fun u => u = advance s t)

/-- RNG_STARTUP, RNG_STARTUP_TIMEOUT, KAT_START, TEST_SRC_ENABLE (R233, R234, R238, R241): start-up waits for XCLK and instantiates once
every cell is tested; the RNG enters FAILED where its bit is still clear 8 ms after power good; a known-answer test starts where none
runs; only the secure world in MANUFACTURE writes the test source. -/
def RngStartsAndIsTested : Prop :=
  (∀ ok oks t s, stopped s 1 = false → s.rng.katRun = none → s.rng.testSource = false → s.rng.katDone = true → s.rng.failed = false →
    (∀ c < 16, (cell s c).state ≠ 0) →
    Runs (.rngStartup ok oks t) s fun u => u = refreshReady (instantiate (advance s t))) ∧
  (∀ oks t s, stopped s 1 = false → s.rng.katRun = none → s.rng.testSource = false → s.rng.katDone = false →
    Runs (.rngStartup false oks t) s fun u => u.rng.failed = true ∧ u.rng.katDone = true) ∧
  (∀ t s, bit s.id.ready 3 = false → s.rng.testSource = false → s.rng.resumed = false → s.id.bootAt + 8 * msT ≤ (advance s t).now →
    Runs (.rngStartupTimeout t) s fun u => u.rng.failed = true) ∧
  (∀ t s, bit s.id.ready 3 = true → Runs (.rngStartupTimeout t) s fun u => u = advance s t) ∧
  (∀ m k p s, m.isSecure = true → k ≤ 8 → s.rng.katRun = none →
    Runs (.katStart m k p) s fun u => u.rng.katStatus = Status.code .pending ∧ u.rng.katUnit = k ∧ u.rng.instances = s.rng.instances ∧
      u.rng.katRun = some { unit := k, passes := p, endsAt := s.now + (if k = 8 then 128 else 512) * xclkT, reply := none }) ∧
  (∀ m k p s, m.isSecure = false → Runs (.katStart m k p) s fun u => u = refuseAccess s m 0x50D00 true) ∧
  (∀ m on s, m.isSecure = true → s.lcy.state = 2 →
    Runs (.testSrcEnable m on) s fun u => u.rng.testSource = on) ∧
  (∀ m on s, m.isSecure = false ∨ s.lcy.state ≠ 2 →
    Runs (.testSrcEnable m on) s fun u => u = refuseAccess s m 0x50C00 true)

/-- RNG_GENERATE, RNG_CFG_SET, RNG_CELL_RETEST, RNG_KAT_RUN, RNG_TEST_SOURCE (R239, R242): a request of 1 to 4,096 bytes joins the
caller's home instance; the configuration is written under the routine quorum of domain 0; a REMOVED cell is retested and its command
waits; a known-answer run waits for its test's end, and is BUSY_LOCKED while one runs; the test source is for MANUFACTURE. -/
def RngCommandsAnswer : Prop :=
  (∀ c s, admitted s c 0x0501 = true → 1 ≤ c.nat 0x1B → c.nat 0x1B ≤ 4096 →
    Runs (.rngGenerate c) s fun u => u = askRandom s c.caller c.reply (c.nat 0x1B) 0) ∧
  (∀ c s, admitted s c 0x0501 = true → c.nat 0x1B = 0 ∨ 4096 < c.nat 0x1B →
    Runs (.rngGenerate c) s fun u => u = answerStatus s c.reply .invalidLength) ∧
  (∀ c s v, admitted s c 0x0511 = true → c.regWrites = [(8, v)] → 1 ≤ field v 14 0 → field v 14 0 ≤ 16384 →
    Runs (.rngCfgSet c) s fun u => UnderQuorum s c (plainQuorum s c 0x0511 [routine s 0]) u fun w _ => AnsweredOk u c [] ∧
      u.rng.reseedCfg = storeMasked w.rng.reseedCfg v 0x7FFF ∧ u.rng.cfg = w.rng.cfg) ∧
  (∀ c s, admitted s c 0x0512 = true → c.nat 0x0A ≤ 15 → (cell s (c.nat 0x0A)).state = 2 →
    Runs (.rngCellRetest c) s fun u => (cell u (c.nat 0x0A)).state = 3 ∧ (cell u (c.nat 0x0A)).testPos = 0 ∧
      (cell u (c.nat 0x0A)).retestFor = some c.reply) ∧
  (∀ c s, admitted s c 0x0512 = true → 15 < c.nat 0x0A ∨ (cell s (c.nat 0x0A)).state ≠ 2 →
    Runs (.rngCellRetest c) s fun u => u = answerStatus s c.reply .invalidParameter) ∧
  (∀ c s, admitted s c 0x0513 = true → c.nat 0x0B ≤ 8 → s.rng.katRun = none →
    Runs (.rngKatRun c) s fun u => ∃ k, u.rng.katRun = some k ∧ k.unit = c.nat 0x0B ∧ k.reply = some c.reply ∧
      k.passes = (c.facts.headD 1 == 1) ∧ u.rng.katStatus = Status.code .pending) ∧
  (∀ c s, admitted s c 0x0513 = true → s.rng.katRun.isSome = true →
    Runs (.rngKatRun c) s fun u => u = answerBusy s c.reply 0xFFFFFFFF) ∧
  (∀ c s, admitted s c 0x0514 = true → s.lcy.state = 2 → c.value 0x37 = none →
    Runs (.rngTestSource c) s fun u => AnsweredOk u c [] ∧ u.rng.testSource = (c.nat 0x36 % 2 == 1)) ∧
  (∀ c s, admitted s c 0x0514 = true → s.lcy.state ≠ 2 →
    Runs (.rngTestSource c) s fun u => u = answerStatus s c.reply .lifecycleForbids)

/-- GEO_COMMIT, GEO_COMMIT_COMPLETE (R278, R290, R292): a commit starts only when none runs: it takes the changes that fit one stripe,
judges them once more, and writes the content with those that stand, and the other anchor slot with the root of its cells under the next
epoch; when it completes, SELECT names that slot, its content stands, and nothing is left committing. -/
def VaultCommits : Prop :=
  (∀ t s kept x, stopped s 1 = false → s.geo.committing = [] → s.geo.gathered ≠ [] → (s.geo.gathered.all fun c => (replicatedIn s c).isNone) = true →
    secureUp s = true → s.geo.state = .normal → (anchorNow s.bb).epoch < 2 ^ 64 - 1 →
    judgeChanges (advance s t) (fitStripe 0 s.geo.gathered).1 (flashContent s.flash) = (kept, [], x) → kept ≠ [] →
    Runs (.geoCommit t) s fun u => u.geo.committing = kept ∧
      u.geo.gathered = (fitStripe 0 s.geo.gathered).2 ∧ (anchorOther u.bb).epoch = (anchorNow s.bb).epoch + 1 ∧
      anchorNow u.bb = anchorNow s.bb ∧ u.flash.objects = s.flash.objects ∧
      ∃ y, u.flash.next = some y ∧ y = sealChanges (advance s t) x ((anchorNow s.bb).epoch + 1) (kept.flatMap (·.ops)) ∧
        (anchorOther u.bb).root = vaultRoot y.cells) ∧
  (∀ t s, s.geo.committing ≠ [] → (s.geo.gathered.all fun c => (replicatedIn s c).isNone) = true →
    Runs (.geoCommit t) s fun u => u.geo.committing = s.geo.committing ∧ u.flash = s.flash ∧ u.bb = s.bb) ∧
  (∀ t s x, stopped s 1 = false → s.flash.next = some x →
    Runs (.geoCommitComplete t) s fun u => u.flash.objects = x.objects ∧ u.flash.domains = x.domains ∧ u.flash.cells = x.cells ∧
      u.flash.root = (anchorOther s.bb).root ∧
      u.flash.epoch = (anchorOther s.bb).epoch ∧ u.flash.next = none ∧ u.bb.anchorSelect = 1 - s.bb.anchorSelect ∧
      u.geo.committing = []) ∧
  (∀ t s, s.flash.next = none → Runs (.geoCommitComplete t) s fun u => u = advance s t)

/-- GEO_MOUNT, GEO_REMOUNT, GEO_FORMAT (R286, R293, R294, R307): a mount that R294 stops leaves the vault in that state and reason; one
that finds the committed root on at least seven channels serves; a remount from NOT_MOUNTED or INTEGRITY_FAILED begins mounting under the
command; a format erases every object and commits epoch 1. -/
def VaultMountsAndFormats : Prop :=
  (∀ f t s, s.geo.state ≠ .mounting → Runs (.geoMount f t) s fun u => u = advance s t) ∧
  (∀ f t s, stopped s 1 = false → s.geo.state = .mounting → s.kst.root = none → s.geo.remount = none →
    Runs (.geoMount f t) s fun u => u.geo.state = .notMounted ∧ u.geo.reason = 2 ∧ u.flash.next = none ∧ bit u.id.ready 9 = false) ∧
  (∀ f t s, stopped s 1 = false → s.geo.state = .mounting → s.kst.root.isSome = true → s.geo.remount = none →
    (anchorNow s.bb).epoch ≠ 0 → s.bb.integrity = none → f.found = some ((anchorNow s.bb).epoch, (anchorNow s.bb).root) → f.nodes = .good →
    7 ≤ ((List.range 8).filter fun c => (mountChannel s f c).state == 1 || (mountChannel s f c).state == 2).length →
    Runs (.geoMount f t) s fun u => u.geo.state = (if s.flash.readOnly then .readOnly else .normal) ∧ bit u.id.ready 9 = true ∧
      u.kst.domainsLoaded = true ∧ u.geo.targets = f.targets ∧ ∀ c < 8, channel u c = mountChannel s f c) ∧
  (∀ c s, admitted s c 0x0603 = true → s.geo.state = .notMounted ∨ s.geo.state = .integrityFailed → s.kst.ready = true →
    Runs (.geoRemount c) s fun u => u.geo.state = .mounting ∧ u.geo.remount = some c.reply ∧ u.geo.mountAt = s.now ∧ u.out = s.out) ∧
  (∀ c s, admitted s c 0x0603 = true → s.geo.state = .normal →
    Runs (.geoRemount c) s fun u => u = answerStatus s c.reply .invalidParameter) ∧
  (∀ c s, admitted s c 0x0602 = true → formatGate s (c.nat 0x28) = none →
    Runs (.geoFormat c) s fun u => AnsweredOk u c [] ∧ u.flash.objects = [] ∧ u.flash.domains = [] ∧ u.flash.epoch = 1 ∧
      u.flash.readOnly = false ∧ (anchorNow u.bb).epoch = 1 ∧ u.geo.gathered = [] ∧ u.geo.committing = []) ∧
  (∀ c s, admitted s c 0x0602 = true → formatGate s (c.nat 0x28) = some .lifecycleForbids →
    Runs (.geoFormat c) s fun u => u = answerStatus s c.reply .lifecycleForbids)

/-- SCRUB_STRIPE, FLASH_BLOCK_FAILURE, FLASH_CHANNEL_FAILURE, GEO_SCRUB_SET, GEO_FLASH_INFO (R286, R295 to R298, R307): a stripe that does
not verify fails the vault; a retired block takes a spare; a channel lost below seven unmounts the vault; SCRUB_MBPS takes up to 10,000. -/
def FlashFailuresAndScrub : Prop :=
  (∀ l t s, stopped s 1 = false → vaultServes s = true → scrubMbps s ≠ 0 →
    Runs (.scrubStripe .good l t) s fun u => u.geo.scrubbing = !l ∧ u.geo.state = s.geo.state ∧
      u.geo.passes = if l then sat32 s.geo.passes else s.geo.passes) ∧
  (∀ l n t s c, stopped s 1 = false → vaultServes s = true → scrubMbps s ≠ 0 →
    Runs (.scrubStripe (.lost c n) l t) s fun u => u.geo.state = .integrityFailed ∧ u.bb.failCell = c ∧
      u.bb.integrity = some (if n then 10 else 11) ∧ u.geo.gathered = [] ∧ bit u.id.ready 9 = false) ∧
  (∀ (c : Fin 8) t s, 0 < s.flash.spareLeft →
    Runs (.flashBlockFailure c t) s fun u => u.flash.spareLeft = s.flash.spareLeft - 1 ∧ u.geo.retired = s.geo.retired + 1 ∧
      u.geo.state = s.geo.state) ∧
  (∀ (c : Fin 8) t s, s.flash.spareLeft = 0 → s.geo.state = .normal →
    Runs (.flashBlockFailure c t) s fun u => u.geo.state = .readOnly ∧ u.geo.committing = []) ∧
  (∀ (c : Fin 8) t s, (channel s c).state = 1 → s.geo.state = .normal →
    7 ≤ usableChannels (updChannel (advance s t) c fun x => { x with state := 3 }) →
    Runs (.flashChannelFailure c t) s fun u => (channel u c).state = 3 ∧ u.geo.degraded = true ∧ u.geo.state = .normal) ∧
  (∀ (c : Fin 8) t s, (channel s c).state = 1 → s.geo.state = .normal →
    usableChannels (updChannel (advance s t) c fun x => { x with state := 3 }) ≤ 6 →
    Runs (.flashChannelFailure c t) s fun u => u.geo.state = .notMounted ∧ u.geo.reason = 4 ∧ u.geo.gathered = []) ∧
  (∀ c s v, admitted s c 0x0604 = true → c.regWrites = [(4, v)] → field v 13 0 ≤ 10000 →
    Runs (.geoScrubSet c) s fun u => AnsweredOk u c [] ∧ scrubMbps u = field v 13 0) ∧
  (∀ c s v, admitted s c 0x0604 = true → c.regWrites = [(4, v)] → 10000 < field v 13 0 →
    Runs (.geoScrubSet c) s fun u => u = answerStatus s c.reply .invalidParameter) ∧
  (∀ c s, admitted s c 0x0605 = true →
    Runs (.geoFlashInfo c) s fun u => u = answerOk s c [] (s.geo.targets.map fun x => .blob (targetBytes s x)))

/-- KST_GENERATE, KST_DESTROY, KST_ATTR_SET, KST_ATTR_GET (R249, R254, R255, R266, R281): a key is made from drawn bytes with ORIGIN
INSIDE; a session key is erased at once and a vault key by a gathered change; an attribute may only be narrowed; a read answers the word. -/
def KeysAreMadeNarrowedAndErased : Prop :=
  (∀ c s v b, admitted s c 0x0201 = true → generateGate s c (c.nat 2) { attrOf (c.bytes 3) with origin := 0 } = none →
    draw s 1 false (attrOf (c.bytes 3)).length = (v, .ok b) →
    Runs (.kstGenerate c) s fun u => ∃ k : KeyRec, k.attr = { attrOf (c.bytes 3) with origin := 0 } ∧ k.value = b ∧
      u = storeKey v c.reply (c.nat 2) k { status := .ok } ∧
      (outsideVault (c.nat 2) k.attr = false → roomGate v (c.nat 2) k.attr b.length = none →
        u = gather v { ops := [.putKey (c.nat 2) k], reply := some c.reply })) ∧
  (∀ c s st, admitted s c 0x0201 = true → generateGate s c (c.nat 2) { attrOf (c.bytes 3) with origin := 0 } = some st →
    Runs (.kstGenerate c) s fun u => u = answerRoom s c.reply st) ∧
  (∀ c s a, admitted s c 0x0202 = true → changeKeyGate s c (c.nat 1) (fun _ => memberKey s (c.nat 1)) = none →
    keyAttr s (c.nat 1) = some a → a.quorum = false → outsideVault (c.nat 1) a = true →
    Runs (.kstDestroy c) s fun u => AnsweredOk u c [] ∧ u.kst.slots = s.kst.slots.keep (fun _ x => x.handle != c.nat 1)) ∧
  (∀ c s a, admitted s c 0x0202 = true → changeKeyGate s c (c.nat 1) (fun _ => memberKey s (c.nat 1)) = none →
    keyAttr s (c.nat 1) = some a → a.quorum = false → outsideVault (c.nat 1) a = false →
    Runs (.kstDestroy c) s fun u => u = gather s { ops := [.eraseKey (c.nat 1)], reply := some c.reply, cmd := some c }) ∧
  (∀ c s a, admitted s c 0x0203 = true → changeKeyGate s c (c.nat 1) (fun _ => false) = none → keyAttr s (c.nat 1) = some a →
    a.quorum = false → narrows a { attrOf (c.bytes 3) with origin := a.origin } = true →
    Runs (.kstAttrSet c) s fun u => u = setAttr s c (c.nat 1) { attrOf (c.bytes 3) with origin := a.origin } [] ∧
      (outsideVault (c.nat 1) { attrOf (c.bytes 3) with origin := a.origin } = false → u = gather s
        { ops := [.setAttr (c.nat 1) { attrOf (c.bytes 3) with origin := a.origin }], reply := some c.reply, cmd := some c })) ∧
  (∀ c s a, admitted s c 0x0203 = true → changeKeyGate s c (c.nat 1) (fun _ => false) = none → keyAttr s (c.nat 1) = some a →
    narrows a { attrOf (c.bytes 3) with origin := a.origin } = false →
    Runs (.kstAttrSet c) s fun u => u = answerStatus s c.reply .notPermitted) ∧
  (∀ c s a, admitted s c 0x0204 = true → s.kst.ready = true → s.lan.severity < 4 → handleDomain (c.nat 1) = c.domain →
    keyAttr s (c.nat 1) = some a →
    Runs (.kstAttrGet c) s fun u => u = answerOk s c [] [.item 3 (attrBytes a)])

/-- KST_CERT_READ, KST_TRANSPORT_OPEN, KST_TRANSPORT_ACCEPT, KST_TRANSPORT_CLOSE, TRANSPORT_EXPIRY (R256, R259, R262, R281): at most 8
transports are open; an offer carries its number and makes it owned by its opener; an all-zero X25519 secret or a ciphertext of another
length closes it; a close or 600 s removes it and its keys. -/
def TransportsOpenAndClose : Prop :=
  (∀ c s, admitted s c 0x0206 = true → s.kst.ready = true → s.die.attestation.isSome = true →
    Runs (.kstCertRead c) s fun u => u = answerOk s c [] [.blob s.die.certificates]) ∧
  (∀ c s v b, admitted s c 0x0210 = true → s.kst.ready = true → suspended s = false → s.die.attestation.isSome = true →
    s.kst.transports.length < 8 → draw s 1 false 128 = (v, .ok b) →
    Runs (.kstTransportOpen c) s fun u => (∃ o, AnsweredOk u c [.blob o]) ∧ u.kst.nextTransport = (s.kst.nextTransport + 1) % 2 ^ 32 ∧
      ∃ t, u.kst.transports = s.kst.transports ++ [t] ∧ t.id = s.kst.nextTransport ∧ t.owner = c.caller ∧ t.key = none ∧
        t.openedAt = s.now) ∧
  (∀ c s, admitted s c 0x0210 = true → s.kst.ready = true → suspended s = false → s.die.attestation.isSome = true →
    8 ≤ s.kst.transports.length →
    Runs (.kstTransportOpen c) s fun u => u = answerBusy s c.reply 0xFFFFFFFF) ∧
  (∀ c s t, admitted s c 0x0211 = true → s.kst.ready = true → suspended s = false → findTransport s (c.nat 0x12) = some t →
    t.owner = c.caller → t.key = none →
    Runs (.kstTransportAccept c) s fun u =>
      if allZero (x25519 t.xSecret (c.bytes 0x26)) = true ∨ (c.bytes 0x25).length ≠ 1088 then u = answerStatus (closeTransport s (c.nat 0x12)) c.reply .invalidKey
      else AnsweredOk u c [] ∧ ∃ k, u.kst.transports =
        s.kst.transports.map fun x => if x.id == c.nat 0x12 then { x with key := some k } else x) ∧
  (∀ c s t, admitted s c 0x0213 = true → s.kst.ready = true → findTransport s (c.nat 0x12) = some t → t.owner = c.caller →
    Runs (.kstTransportClose c) s fun u => AnsweredOk u c [] ∧ u.kst.transports = s.kst.transports.filter (·.id != c.nat 0x12)) ∧
  (∀ c s t, admitted s c 0x0213 = true → s.kst.ready = true → findTransport s (c.nat 0x12) = some t → t.owner ≠ c.caller →
    Runs (.kstTransportClose c) s fun u => u = answerStatus s c.reply .notPermitted) ∧
  (∀ id t s x, findTransport s id = some x → x.openedAt + 600 * secT ≤ (advance s t).now →
    Runs (.transportExpiry id t) s fun u => u.kst.transports = s.kst.transports.filter (·.id != id)) ∧
  (∀ id t s x, findTransport s id = some x → (advance s t).now < x.openedAt + 600 * secT →
    Runs (.transportExpiry id t) s fun u => u.kst.transports = s.kst.transports)

/-- KST_IMPORT, KST_EXPORT (R257, R258, R260): a blob that passes checks 1 to 5 goes to its tag: a wrong tag stores nothing and is
counted, and so is a value that is excluded; the key of a right one is written by the next commit under its blob's attribute word; an
export is under the domain's critical quorum and answers the ciphertext, the public key and the wrapped key. -/
def KeysAreImportedAndExported : Prop :=
  (∀ c s b, admitted s c 0x0212 = true → s.kst.ready = true → suspended s = false → b = readBlob c.body.bytes →
    importGate s c c.body.bytes.length b = none →
    Runs (.kstImport c) s fun u => blobKey s b = none → u.kst.importFail = sat64 s.kst.importFail ∧ u.kst.slots = s.kst.slots ∧
      u.geo = s.geo ∧ ∃ v, u = answerStatus v c.reply .tagMismatch) ∧
  (∀ c s b k, admitted s c 0x0212 = true → s.kst.ready = true → suspended s = false → b = readBlob c.body.bytes →
    importGate s c c.body.bytes.length b = none → blobKey s b = some k →
    keyExcluded (((s.pke.curves.look b.attr.curveIndex).map (·.record)).getD []) b.attr.type k = true →
    Runs (.kstImport c) s fun u => u.kst.importFail = sat64 s.kst.importFail ∧ u.kst.slots = s.kst.slots ∧
      ∃ v, u = answerStatus v c.reply .invalidKey) ∧
  (∀ c s b k, admitted s c 0x0212 = true → s.kst.ready = true → suspended s = false → b = readBlob c.body.bytes →
    importGate s c c.body.bytes.length b = none → blobKey s b = some k →
    keyExcluded (((s.pke.curves.look b.attr.curveIndex).map (·.record)).getD []) b.attr.type k = false →
    rootNeeded s b.attr = false → roomGate s b.handle b.attr k.length = none → outsideVault b.handle b.attr = false →
    Runs (.kstImport c) s fun u => ∃ w, w.kst.slots = s.kst.slots ∧ w.kst.importFail = s.kst.importFail ∧
      u = gather w { ops := [.putKey b.handle { attr := b.attr, value := k }], reply := some c.reply }) ∧
  (∀ c s st, admitted s c 0x0212 = true → s.kst.ready = true → suspended s = false →
    importGate s c c.body.bytes.length (readBlob c.body.bytes) = some st →
    Runs (.kstImport c) s fun u => u = answerStatus s c.reply st) ∧
  (∀ c s i x, admitted s c 0x0214 = true → slotOf s (c.nat 1) = some (i, x) → x.attr.usesLeft = unlimited →
    Runs (.kstExport c) s fun u => exportGate s c = none → usable s x.attr = true →
      UnderQuorum s c (plainQuorum s c 0x0214 [critical s c.domain]) u fun v reasons => ∀ w b,
        draw (takeUse v (c.nat 1)).1 1 false 76 = (w, .ok b) →
        ∃ ct xp blob, (ct, xp, blob) = exportBlob (c.bytes 0x24) (c.nat 1) { attr := x.attr, value := x.value } b ∧
          u = answerOk w c reasons [.item 0x25 ct, .item 0x26 xp, .blob blob]) ∧
  (∀ c s, admitted s c 0x0214 = true → slotOf s (c.nat 1) = none →
    Runs (.kstExport c) s fun u => exportGate s c = none → ∃ pg ∈ u.psg.pageIns, pg.handle = c.nat 1) ∧
  (∀ c s, admitted s c 0x0214 = true → s.kst.ready = false →
    Runs (.kstExport c) s fun u => ∃ st, u = answerRoom s c.reply st ∧ Status.code st ≤ Status.code .notReady)

/-- KST_DOMAIN_CREATE, KST_DOMAIN_DESTROY, KST_DOMAIN_READ, KST_DOMAIN_SET, KST_MASK_SET (R264, R268, R269, R273, R281): a domain is made
under the critical quorum of domain 0 with the officers, thresholds and quotas it names and a drawn master; a destruction sets DESTROYING
and cancels its quorums and transports at once; a read answers the record without its master; thresholds, quotas and masks are set under
the domain's own critical quorum. -/
def DomainsAreMadeReadAndDestroyed : Prop :=
  (∀ c s, admitted s c 0x0230 = true → createGate s c = none → drawWaits s 1 32 = false →
    Runs (.kstDomainCreate c) s fun u => UnderQuorum s c (enrolQuorum s c 0x0230 (c.nat 4) [critical s 0]) u fun v reasons =>
      ∀ w b, draw v 1 false 32 = (w, .ok b) → u = editDomain w c (c.nat 4) [.create (newDomain c b)] reasons) ∧
  (∀ c s st, admitted s c 0x0230 = true → createGate s c = some st →
    Runs (.kstDomainCreate c) s fun u => u = answerStatus s c.reply st) ∧
  (∀ c s, admitted s c 0x0231 = true → s.kst.ready = true → s.kst.domainsLoaded = true → s.lan.severity < 4 → c.nat 4 ≠ 0 →
    (domain s (c.nat 4)).state = .active → changeGate s = none →
    Runs (.kstDomainDestroy c) s fun u => UnderQuorum s c (plainQuorum s c 0x0231 (destroyNeeds s (c.nat 4))) u fun v reasons =>
      ∃ w, u = editDomain w c (c.nat 4) [.destroy] reasons ∧ (domain w (c.nat 4)).state = .destroying ∧
        w.kst.nonces = v.kst.nonces.filter (·.domain != c.nat 4) ∧
        w.kst.transports = v.kst.transports.filter (·.domain != c.nat 4)) ∧
  (∀ c s, admitted s c 0x0232 = true → s.kst.ready = true → s.lan.severity < 4 → domainKnown s c.domain = true →
    (c.domain ≠ 0 → vaultAway s = false) →
    Runs (.kstDomainRead c) s fun u => u = answerOk s c [] (domainItems (domain s c.domain))) ∧
  (∀ c s b, admitted s c 0x0233 = true → s.kst.ready = true → c.domain = 0 → c.value 0x21 = some b → c.value 0x22 = none →
    thresholdsOk (thresholds b) (domain s 0).officers.length = true →
    Runs (.kstDomainSet c) s fun u => UnderQuorum s c (plainQuorum s c 0x0233 [critical s 0]) u fun v reasons =>
      u = editDomain v c 0 [.thresholds (thresholds b).1 (thresholds b).2] reasons) ∧
  (∀ c s, admitted s c 0x0234 = true → s.kst.ready = true → c.domain = 0 → allZero (slice (c.bytes 0x23) 1 3) = true →
    Runs (.kstMaskSet c) s fun u => UnderQuorum s c (plainQuorum s c 0x0234 [critical s 0]) u fun v reasons =>
      u = editDomain v c 0 [.mask (leNat (slice (c.bytes 0x23) 0 1)) (BitVec.ofNat 64 (leNat (slice (c.bytes 0x23) 4 8)))] reasons)

/-- KST_OFFICER_ENROL, KST_OFFICER_REMOVE, KST_CRED_SET, KST_FUNC_ASSIGN (R274, R281): an officer with a free number is enrolled under the
critical quorum and its own proof of possession; one is removed only while the thresholds stay met; credentials and functions change under
the routine quorum; a function of another domain is BUSY_LOCKED. -/
def OfficersCredentialsAndFunctions : Prop :=
  (∀ c s, admitted s c 0x0238 = true → s.kst.ready = true → c.domain = 0 → (officerKey (c.bytes 0x1E)).2.2 = true →
    (domain s 0).officers.length < 16 → (domain s 0).officers.look (officerKey (c.bytes 0x1E)).1 = none →
    Runs (.kstOfficerEnrol c) s fun u => UnderQuorum s c (enrolQuorum s c 0x0238 0 [critical s 0]) u fun v reasons =>
      u = editDomain v c 0 [.officer (officerKey (c.bytes 0x1E)).1 (some (officerKey (c.bytes 0x1E)).2.1)] reasons) ∧
  (∀ c s, admitted s c 0x0239 = true → s.kst.ready = true → c.domain = 0 → ((domain s 0).officers.look (c.nat 0x1F)).isSome = true →
    thresholdsOk ((domain s 0).mCrit, (domain s 0).mRoutine) ((domain s 0).officers.length - 1) = true →
    Runs (.kstOfficerRemove c) s fun u => UnderQuorum s c (plainQuorum s c 0x0239 [critical s 0]) u fun v reasons =>
      u = editDomain v c 0 [.officer (c.nat 0x1F) none] reasons) ∧
  (∀ c s, admitted s c 0x0239 = true → s.kst.ready = true → c.domain = 0 →
    thresholdsOk ((domain s 0).mCrit, (domain s 0).mRoutine) ((domain s 0).officers.length - 1) = false →
    Runs (.kstOfficerRemove c) s fun u => u = answerStatus s c.reply .invalidParameter) ∧
  (∀ c s b, admitted s c 0x023A = true → s.kst.ready = true → c.domain = 0 → c.bytes 0x20 = b → slice b 0 1 = [2] →
    leNat (slice b 1 1) < 16 → credAlgs.contains (leNat (slice b 2 1)) = true → allZero (slice b 3 1) = true → c.nat 0x27 = 0 →
    Runs (.kstCredSet c) s fun u => UnderQuorum s c (plainQuorum s c 0x023A [routine s 0]) u fun v reasons =>
      u = editDomain v c 0 [.credential false (leNat (slice b 1 1))
        (some { sigAlg := leNat (slice b 2 1), key := b.drop 4 })] reasons) ∧
  (∀ c s, admitted s c 0x023C = true → s.kst.ready = true → c.domain = 0 → functionDomain s (c.nat 0x0E) = none → c.nat 0x0E ≤ 1023 →
    c.nat 0x27 = 0 →
    Runs (.kstFuncAssign c) s fun u => UnderQuorum s c (plainQuorum s c 0x023C [routine s 0]) u fun v reasons =>
      u = editDomain v c 0 [.function (c.nat 0x0E) true] reasons) ∧
  (∀ c s d, admitted s c 0x023C = true → s.kst.ready = true → c.domain = 0 → functionDomain s (c.nat 0x0E) = some d → d ≠ 0 →
    c.nat 0x0E ≤ 1023 → c.nat 0x27 = 0 →
    Runs (.kstFuncAssign c) s fun u => u = answerBusy s c.reply d)

/-- KST_QUORUM_OPEN, KST_QUORUM_CANCEL, NONCE_EXPIRY (R270, R279, R281): a nonce is drawn, bound to the command's domain, code and digest,
and answered with its deadline; a cancel frees the caller's nonce; at its deadline a nonce is freed. -/
def QuorumNonces : Prop :=
  (∀ c s v b, admitted s c 0x0240 = true → s.kst.ready = true → c.nat 4 = 0 → c.domain = 0 → s.kst.nonces.length < 64 →
    (domain s 0).state = .active → draw s 1 false 32 = (v, .ok b) →
    Runs (.kstQuorumOpen c) s fun u => ∃ n : Nonce, u.kst.nonces = s.kst.nonces ++ [n] ∧ n.value = b ∧ n.domain = 0 ∧
      n.code = c.nat 0x14 ∧ n.digest = c.bytes 0x15 ∧ n.deadline = lanternTick s + nonceLife s * 32768 ∧
      AnsweredOk u c [.nonce b, .timeSec (devSec s + nonceLife s)]) ∧
  (∀ c s, admitted s c 0x0240 = true → s.kst.ready = true → c.nat 4 = 0 → c.domain = 0 → (domain s 0).state = .active →
    64 ≤ s.kst.nonces.length →
    Runs (.kstQuorumOpen c) s fun u => u = answerBusy s c.reply 0xFFFFFFFF) ∧
  (∀ c s, admitted s c 0x0241 = true → s.kst.ready = true →
    (s.kst.nonces.any fun n => n.value == c.bytes 0x13 && n.domain == c.domain) = true →
    Runs (.kstQuorumCancel c) s fun u => AnsweredOk u c [] ∧
      u.kst.nonces = s.kst.nonces.filter fun n => !(n.value == c.bytes 0x13 && n.domain == c.domain)) ∧
  (∀ t s, Runs (.nonceExpiry t) s fun u =>
    u.kst.nonces = s.kst.nonces.filter (fun n => decide (lanternTick (advance s t) < n.deadline)) ∧
      ∀ n ∈ u.kst.nonces, lanternTick u < n.deadline)

/-- KST_DOMAIN0_SETUP, KST_ROOT_RENEW, KEY_STORE_READY (R247, R264, R267, R280): domain 0's roster is installed once, in PROVISION; a
renewed root empties keys 1 to 255, every other domain and the vault's anchor; the key store becomes ready after the boot ROM with the
root read, domain 0 restored and the vault mounting, and draws a root that the first entry to PROVISION still owes. -/
def KeyStoreStartsAndRenews : Prop :=
  (∀ c s, admitted s c 0x0250 = true → s.kst.ready = true → s.die.domain0 = none → s.lcy.state = 3 →
    officerKeysOk ((c.values 0x1E).map officerKey) = true →
    thresholdsOk (thresholds (c.bytes 0x21)) ((c.values 0x1E).map officerKey).length = true →
    Runs (.kstDomain0Setup c) s fun u => UnderQuorum s c { enrolQuorum s c 0x0250 0 [] with grants := false } u fun _ _ =>
      AnsweredOk u c [] ∧ u.die.domain0 = some { domain u 0 with master := [] } ∧ (domain u 0).state = .active ∧
        (domain u 0).mCrit = (thresholds (c.bytes 0x21)).1 ∧ (domain u 0).mRoutine = (thresholds (c.bytes 0x21)).2) ∧
  (∀ c s d, admitted s c 0x0250 = true → s.kst.ready = true → s.die.domain0 = some d → s.lcy.state = 3 →
    officerKeysOk ((c.values 0x1E).map officerKey) = true →
    thresholdsOk (thresholds (c.bytes 0x21)) ((c.values 0x1E).map officerKey).length = true →
    Runs (.kstDomain0Setup c) s fun u => u = answerStatus s c.reply .notPermitted) ∧
  (∀ c s, admitted s c 0x0251 = true → s.kst.ready = true → s.lcy.state = 4 → drawWaits s 1 64 = false →
    Runs (.kstRootRenew c) s fun u => UnderQuorum s c (plainQuorum s c 0x0251 [critical s 0]) u fun v _ => ∀ w b,
      draw v 1 false 64 = (w, .ok b) → AnsweredOk u c [] ∧ u.bb.root = b.take 32 ∧ u.kst.root = some (b.take 32) ∧
        u.die.master0.bind (·.unwrap (wrapKey u)) = some (b.drop 32) ∧ (domain u 0).master = b.drop 32 ∧ u.die.keys = [] ∧ u.geo.state = .notMounted ∧ u.geo.reason = 3 ∧
        (anchorNow u.bb).epoch = 0 ∧ u.flash.karst = {}) ∧
  (∀ t s, stopped s 1 = false → s.kst.ready = false → keyStoreState s = true → bit s.id.ready 1 = true → allZero s.bb.root = false →
    s.bb.rootCheck ≠ Config.checkWord s.bb.root → s.lcy.state ≠ 2 → rootDue s = false →
    Runs (.keyStoreReady t) s fun u => u.kst.ready = true ∧ u.kst.root = none ∧ u.kst.rootCheckFailed = true ∧
      bit u.id.ready 2 = true ∧ u.geo.state = .mounting) ∧
  (∀ t s, stopped s 1 = false → s.kst.ready = false → keyStoreState s = true → bit s.id.ready 1 = true → allZero s.bb.root = false →
    s.bb.rootCheck = Config.checkWord s.bb.root → s.lcy.state ≠ 2 → rootDue s = false →
    Runs (.keyStoreReady t) s fun u => u.kst.ready = true ∧ u.kst.root = some s.bb.root ∧ bit u.id.ready 2 = true) ∧
  (∀ t s w b, stopped s 1 = false → s.kst.ready = true → keyStoreState s = true → bit s.id.ready 1 = true → rootDue s = true →
    draw (advance s t) 1 false 64 = (w, .ok b) →
    Runs (.keyStoreReady t) s fun u => u.kst.root = some (b.take 32) ∧ u.bb.root = b.take 32 ∧ (domain u 0).master = b.drop 32)

/-- CHAMBER_MESSAGE_RECEIVE, PAIR_CHECK_ANSWER, LENT_JOB_ARRIVAL, LENT_RESULT_ARRIVAL (R124, R128, R130, R131, R132, R136, R137): a
message on a link that is up is taken only with the link's CMAC and a sequence above the last, which it sets; any other is discarded and
counted. A heartbeat renews the link and its member's advertisement, a request and a query are answered; a hello of another member brings
the link key and the proof, one of the own number keeps the link DOWN, and a right proof brings the link UP. A pair answer sets PAIR_OK as
its conditions say; a lent job is bound under the lender's key or answered DECLINED; a lender's answer in time is the part's status, and a
DECLINED one binds the part here. -/
def ChamberMessagesAreChecked : Prop :=
  (∀ (p : Fin 144) b seq t s v, stopped s 0 = false → refreshLinks (advance s t) = v → isChamber v p = true →
    linkUp v p = true → (link v p).rxSeq < seq → 
    Runs (.chamberMessageReceive p (.heartbeat b) seq (messageMac (link v p).key (.heartbeat b) seq) t) s fun u =>
      (link u p).rxSeq = seq ∧ (link u p).missed = 0 ∧ (link u p).askedAt = none ∧ (link u p).heardAt = v.now ∧
        u.cham.adverts.look (link v p).peer = some (readAdvert b v.now)) ∧
  (∀ (p : Fin 144) b seq mac t s v, stopped s 0 = false → refreshLinks (advance s t) = v → isChamber v p = true → linkUp v p = true →
    seq ≤ (link v p).rxSeq ∨ mac ≠ messageMac (link v p).key (.heartbeat b) seq →
    Runs (.chamberMessageReceive p (.heartbeat b) seq mac t) s fun u => u = discardMessage v ∧
      u.cham.authFail = sat64 v.cham.authFail ∧ u.cham.links = v.cham.links) ∧
  (∀ (p : Fin 144)  seq t s v, stopped s 0 = false → refreshLinks (advance s t) = v → isChamber v p = true →
    linkUp v p = true → (link v p).rxSeq < seq → 
    Runs (.chamberMessageReceive p .heartbeatRequest seq (messageMac (link v p).key (.heartbeatRequest) seq) t) s fun u => ∃ w, w.psg = v.psg ∧
      (link w p).rxSeq = seq ∧ u = sendMessage w p (.heartbeat (advertBytes w))) ∧
  (∀ (p : Fin 144) n seq t s v, stopped s 0 = false → refreshLinks (advance s t) = v → isChamber v p = true →
    linkUp v p = true → (link v p).rxSeq < seq → 
    Runs (.chamberMessageReceive p (.pairQuery n) seq (messageMac (link v p).key (.pairQuery n) seq) t) s fun u => ∃ w, (link w p).rxSeq = seq ∧
      u = sendMessage w p (.pairAnswer n (wire v n).active.mode (wire v n).active.pair)) ∧
  (∀ (p : Fin 144) serial peer nonce seq mac t s v k, stopped s 0 = false → refreshLinks (advance s t) = v → isChamber v p = true →
    linkBar v p = none → (link v p).state = 1 → peer ≠ v.id.chamberId → chamberKey v (chamberSlot v) = some k →
    Runs (.chamberMessageReceive p (.hello serial peer nonce) seq mac t) s fun u => ∃ w ctx, ctx = linkContext v (link w p) ∧
      (link w p).peer = peer ∧ (link w p).peerNonce = nonce ∧ (link w p).peerSerial = serial ∧ (link w p).key = kdf 4 k [] ctx 32 ∧
      u = sendPlain w p (.proof (proofMac (link w p).key v.id.serial ctx))) ∧
  (∀ (p : Fin 144) serial peer nonce seq mac t s v, stopped s 0 = false → refreshLinks (advance s t) = v → isChamber v p = true →
    linkBar v p = none → linkUp v p = false → peer = v.id.chamberId →
    Runs (.chamberMessageReceive p (.hello serial peer nonce) seq mac t) s fun u => (link u p).state = 0 ∧ (link u p).reason = 4 ∧
      bit u.cham.event 2 = true) ∧
  (∀ (p : Fin 144) m seq mac t s v, stopped s 0 = false → refreshLinks (advance s t) = v → isChamber v p = true → (link v p).state = 1 →
    (link v p).key ≠ [] →
    Runs (.chamberMessageReceive p (.proof m) seq mac t) s fun u =>
      if m = proofMac (link v p).key (link v p).peerSerial (linkContext v (link v p)) then
        (link u p).state = 2 ∧ (link u p).rxSeq = 0 ∧ (link u p).txSeq = 0
      else (link u p).state = 0 ∧ (link u p).reason = 3 ∧ (link u p).key = []) ∧
  (∀ (p : Fin 144) n m q seq t s v, stopped s 0 = false → refreshLinks (advance s t) = v → isChamber v p = true →
    linkUp v p = true → (link v p).rxSeq < seq → 
    ∀ (w : Fin 72) a, (wire v w).active.paired = true → (wire v w).active.partnerWire = n →
    (wire v w).active.partnerMember = (link v p).peer → (wire v w).pairAskedAt = some a → v.now ≤ a + 100 * usT →
    Runs (.pairCheckAnswer p (.pairAnswer n m q) seq (messageMac (link v p).key (.pairAnswer n m q) seq) t) s fun u =>
      (wire u w).pairOk = pairSound v w m q ∧ (wire u w).pairAskedAt = none ∧ (wire u w).unreachable = false ∧
        (wire u w).partnerMode = field m 1 0) ∧
  (∀ (p : Fin 144) j k a b f d g seq t s v, stopped s 0 = false → refreshLinks (advance s t) = v → isChamber v p = true →
    linkUp v p = true → (link v p).rxSeq < seq → acceptEn v = false →
    Runs (.lentJobArrival p (.job j k a b f d g) seq (messageMac (link v p).key (.job j k a b f d g) seq) t) s fun u => ∃ w, (link w p).rxSeq = seq ∧
      u = sendMessage w p (.jobAnswer j none) ∧ u.psg.bound = v.psg.bound) ∧
  (∀ (p : Fin 144) j k a b f d g seq t s v, stopped s 0 = false → refreshLinks (advance s t) = v → isChamber v p = true →
    linkUp v p = true → (link v p).rxSeq < seq → 
    ∀ x n start finish, acceptEn v = true → poolQueued v < acceptLimit v → isSigAlg a = true → lentKey v k a f = some x →
    tryBind v none (v.now + 340 * nsT) (v.now + b + decisionTime) (coreTime a) = .ok (n, start, finish) →
    Runs (.lentJobArrival p (.job j k a b f d g) seq (messageMac (link v p).key (.job j k a b f d g) seq) t) s fun u => u.cham.lentIn = sat64 v.cham.lentIn ∧
      (Machine.core u n).busyUntil = finish ∧ ∃ y : BoundJob, u.psg.bound = v.psg.bound ++ [y] ∧ y.frame = j ∧ y.core = n ∧ y.start = start ∧
        y.finish = finish ∧ y.lentFrom = some p.val ∧ y.deadline = v.now + b ∧ y.key = x ∧ y.digest = d ∧ y.sig = g) ∧
  (∀ (p : Fin 144) j st seq t s v, stopped s 0 = false → refreshLinks (advance s t) = v → isChamber v p = true →
    linkUp v p = true → (link v p).rxSeq < seq → 
    ∀ q h, (v.cham.out.any fun x => x.frame == j / 2 && x.part == j % 2 && x.port == p.val) = true →
    portOfFrame v (j / 2) = some q → findHeld v q (j / 2) = some h → v.now < h.deadline →
    st = .ok ∨ st = .invalidSignature ∨ st = .invalidKey →
    Runs (.lentResultArrival p (.jobAnswer j (some st)) seq (messageMac (link v p).key (.jobAnswer j (some st)) seq) t) s fun u => ∃ w,
      u = partDone w (j / 2) (j % 2) st true ∧ w.psg = v.psg ∧ w.cham.lentOut = sat64 v.cham.lentOut ∧
      w.cham.out = v.cham.out.filter fun x => !(x.frame == j / 2 && x.part == j % 2 && x.port == p.val)) ∧
  (∀ (p : Fin 144) j seq t s v, stopped s 0 = false → refreshLinks (advance s t) = v → isChamber v p = true →
    linkUp v p = true → (link v p).rxSeq < seq → 
    (v.cham.out.any fun x => x.frame == j / 2 && x.part == j % 2 && x.port == p.val) = true →
    Runs (.lentResultArrival p (.jobAnswer j none) seq (messageMac (link v p).key (.jobAnswer j none) seq) t) s fun u => ∃ w,
      u = bindAgain w (j / 2) (j % 2) ∧ w.psg = v.psg ∧ w.cham.declined = sat64 v.cham.declined ∧
      w.cham.out = v.cham.out.filter fun x => !(x.frame == j / 2 && x.part == j % 2 && x.port == p.val))

/-- HEARTBEAT_SEND, HEARTBEAT_MISS, LINK_RETRY, CHAMBER_ALERT_EDGE, HEARTBEAT_REQUEST_TIMEOUT, CHAMBER_SYNC_CHANGE (R131, R133): every
link that is up gets its heartbeat; the third one missed in a row, or 5 µs without an answer, takes the link DOWN with reason HEARTBEAT;
each DOWN link that no duplicate number keeps down is tried again; an edge that another member drives asks every link. -/
def ChamberLinksAreKept : Prop :=
  (∀ t s v, stopped s 0 = false → refreshLinks (advance s t) = v →
    Runs (.heartbeatSend t) s fun u => u = (upLinks v).foldl (fun s p => sendMessage s p (.heartbeat (advertBytes s))) v) ∧
  (∀ (p : Fin 144) t s, stopped s 0 = false → linkUp s p = true →
    (link s p).heardAt + ((link s p).missed + 1) * 10 * usT ≤ (advance s t).now → (link s p).missed < 2 →
    Runs (.heartbeatMiss p t) s fun u => (link u p).missed = (link s p).missed + 1 ∧ (link u p).state = 2) ∧
  (∀ (p : Fin 144) t s, stopped s 0 = false → linkUp s p = true →
    (link s p).heardAt + ((link s p).missed + 1) * 10 * usT ≤ (advance s t).now → 2 ≤ (link s p).missed →
    Runs (.heartbeatMiss p t) s fun u => u = linkDown (advance s t) p 5) ∧
  (∀ t s v, stopped s 0 = false → refreshLinks (advance s t) = v →
    Runs (.linkRetry t) s fun u => u = ((chamberPorts v).filter fun p => !linkUp v p && (link v p).reason != 4).foldl startHandshake v) ∧
  (∀ t s, stopped s 0 = false → s.cham.alertLowUntil ≤ (advance s t).now →
    Runs (.chamberAlertEdge t) s fun u => u = (upLinks (setEvent (advance s t) 0)).foldl (fun s p =>
      updLink (sendMessage s p .heartbeatRequest) p fun l => { l with askedAt := some s.now }) (setEvent (advance s t) 0)) ∧
  (∀ t s, (advance s t).now < s.cham.alertLowUntil →
    Runs (.chamberAlertEdge t) s fun u => u = setEvent (advance s t) 0) ∧
  (∀ (p : Fin 144) t s a, stopped s 0 = false → (link s p).askedAt = some a → linkUp s p = true → a + 5 * usT ≤ (advance s t).now →
    Runs (.heartbeatRequestTimeout p t) s fun u => u = linkDown (advance s t) p 5) ∧
  (∀ h t s, Runs (.chamberSyncChange h t) s fun u => u.cham.syncHigh = (h && s.cham.syncReleased))

/-- PAIR_CHECK, PAIR_CHECK_TIMEOUT, KAR_CHAMBER_SET, KAR_LEND_SET, KAR_CHAMBER_READ (R124, R138, R139): every paired wire is checked; a
partner silent for 100 µs is UNREACHABLE and PAIR_OK falls; the chamber key is set under the critical quorum of domain 0, and only to a
slot that holds one; a read changes nothing. -/
def PairChecksAndChamberCommands : Prop :=
  (∀ t s, stopped s 0 = false → Runs (.pairCheck t) s fun u => u = (List.range 72).foldl checkPair (advance s t)) ∧
  (∀ (w : Fin 72) t s a, stopped s 0 = false → (wire s w).pairAskedAt = some a → a + 100 * usT ≤ (advance s t).now →
    Runs (.pairCheckTimeout w t) s fun u => (wire u w).unreachable = true ∧ (wire u w).pairOk = false ∧ (wire u w).pairAskedAt = none) ∧
  (∀ (w : Fin 72) t s a, (wire s w).pairAskedAt = some a → (advance s t).now < a + 100 * usT →
    Runs (.pairCheckTimeout w t) s fun u => u = advance s t) ∧
  (∀ c s v, admitted s c 0x0B80 = true → c.regWrites = [(0, v)] → (chamberKey s (field v 7 0)).isSome = true →
    Runs (.karChamberSet c) s fun u => UnderQuorum s c (plainQuorum s c 0x0B80 [critical s 0]) u fun w reasons =>
      u = answerOk (writeRestore (writeChamberCfg w v)) c reasons []) ∧
  (∀ c s v, admitted s c 0x0B80 = true → c.regWrites = [(0, v)] → chamberKey s (field v 7 0) = none →
    Runs (.karChamberSet c) s fun u => u = answerStatus s c.reply .invalidKey) ∧
  (∀ c s v, admitted s c 0x0B81 = true → c.regWrites = [(0x10, v)] → lendOk v = true →
    Runs (.karLendSet c) s fun u => AnsweredOk u c [] ∧ u.cham.lend = storeMasked s.cham.lend v lendMask) ∧
  (∀ c s, admitted s c 0x0B82 = true →
    Runs (.karChamberRead c) s fun u => ∃ items, u = answerOk s c [] items ∧
      (∀ e ∈ chamberRegs s, .reg (0x2200000 + e.1) e.2 ∈ items) ∧
      ∀ w < 72, .reg (wireStatusBase w + 0x118) (pairStatus s w) ∈ items)

/-- SQ_DOORBELL, PRODUCER_WORD_READ, ENTRY_FETCH, DMA_READ_TIMEOUT (R309, R313, R317): a doorbell of an enabled queue is kept; the
producer word becomes PI_SEEN, and one out of range puts the queue into ERROR; the next entry is taken and judged, and a FIRST entry that
is also LAST makes one job; a read that fails takes no entry and shows as a DMA error, and the job that waits for its data bears it. -/
def RingsFetchEntries : Prop :=
  (∀ (f : Fin 1024) (q : Fin 4096) s, funcEnabled s f = true → (queue s f q).created = true → (queue s f q).enabled = true →
    Runs (.sqDoorbell f q) s fun u => (queue u f q).doorbell = true ∧ (func u f).ignored = (func s f).ignored) ∧
  (∀ (f : Fin 1024) (q : Fin 4096) s, funcEnabled s f = true → (queue s f q).created = false →
    Runs (.sqDoorbell f q) s fun u => (func u f).ignored = sat32 (func s f).ignored ∧ (func u f).queues = (func s f).queues) ∧
  (∀ (f : Fin 1024) (q : Fin 4096) w t s, stopped s 4 = false → fetches (advance s t) f q = true → (queue s f q).doorbell = true →
    (queue s f q).sqFetch = (queue s f q).piSeen →
    (field w 15 0 + 65536 - (queue s f q).sqFetch) % 65536 ≤ 2 ^ (queue s f q).sqLog →
    Runs (.producerWordRead f q (some w) t) s fun u => (queue u f q).piSeen = field w 15 0 ∧ (queue u f q).doorbell = false ∧
      (queue u f q).error = (queue s f q).error) ∧
  (∀ (f : Fin 1024) (q : Fin 4096) w t s, stopped s 4 = false → fetches (advance s t) f q = true → (queue s f q).doorbell = true →
    (queue s f q).sqFetch = (queue s f q).piSeen →
    2 ^ (queue s f q).sqLog < (field w 15 0 + 65536 - (queue s f q).sqFetch) % 65536 →
    Runs (.producerWordRead f q (some w) t) s fun u => (queue u f q).error = true ∧ (queue u f q).enabled = false) ∧
  (∀ (f : Fin 1024) (q : Fin 4096) e t s, stopped s 4 = false → fetches (advance s t) f q = true → (queue s f q).sqFetch ≠ (queue s f q).piSeen →
    (queue s f q).jobs.length < 256 → hostWaiting s < 256 → cqFull (queue s f q) = false →
    Runs (.entryFetch f q (some e) t) s fun u => ∃ v, u = judgeEntry v f q (e ++ zeros (64 - e.length)) ∧
      (queue v f q).sqFetch = ((queue s f q).sqFetch + 1) % 65536 ∧ (queue v f q).jobs = (queue s f q).jobs) ∧
  (∀ (f : Fin 1024) (q : Fin 4096) e t s, stopped s 4 = false → fetches (advance s t) f q = true → (queue s f q).sqFetch ≠ (queue s f q).piSeen →
    (queue s f q).jobs.length < 256 → hostWaiting s < 256 → cqFull (queue s f q) = false → (queue s f q).chain = none → e.length = 64 → leAt e 1 1 = 3 →
    leAt e 2 1 = 0 → leAt e 3 1 = 0 → q.val ≠ 0 → 1 ≤ leAt e 0 1 → leAt e 0 1 ≤ 6 →
    Runs (.entryFetch f q (some e) t) s fun u => ∃ j : RingJob, (queue u f q).jobs = (queue s f q).jobs ++ [j] ∧
      j.opcode = leAt e 0 1 ∧ j.tag = leAt e 4 4 ∧ j.resultAddr = leAt e 8 8 ∧ j.bytes = slice e 0x10 48 ∧ j.finished = none) ∧
  (∀ (f : Fin 1024) (q : Fin 4096) t s, (queue s f q).created = true →
    Runs (.dmaReadTimeout f q t) s fun u => (func u f).err = BitVec.ofNat 32 (4 + q.val * 2 ^ 8 + 2 ^ 31) ∧
      (queue u f q).sqFetch = (queue s f q).sqFetch) ∧
  (∀ (f : Fin 1024) (q : Fin 4096) t s j, (queue s f q).created = true → (queue s f q).jobs = [j] → j.presented = false → j.finished = none →
    Runs (.dmaReadTimeout f q t) s fun u => (queue u f q).jobs = [{ j with dmaError := true }]) ∧
  (∀ (f : Fin 1024) (q : Fin 4096) t s, stopped s 4 = false → fetches (advance s t) f q = true → (queue s f q).sqFetch ≠ (queue s f q).piSeen →
    (queue s f q).jobs.length < 256 → hostWaiting s < 256 → cqFull (queue s f q) = false →
    Runs (.entryFetch f q none t) s fun u => (func u f).err = BitVec.ofNat 32 (4 + q.val * 2 ^ 8 + 2 ^ 31) ∧
      (queue u f q).sqFetch = (queue s f q).sqFetch)

/-- PUBLIC_KEY_JOB, SERVICE_MAC_SEGMENT, DIGEST_JOB, RANDOM_BYTES, ABORT_ENTRY (R318, R320, R321): the next job of a queue is put forward
once: its engine job joins the function's source under the ring's reply; random bytes are asked of the function's home instance; an abort
aborts every job of the named queue that bears the tag but itself. -/
def RingJobsArePutForward : Prop :=
  (∀ (f : Fin 1024) (q : Fin 4096) d t s j, nextJob (advance s t) f q = some j → j.opcode = 1 →
    64 + 16 * leAt j.bytes 0x20 1 ≤ j.bytes.length →
    Runs (.publicKeyJob f q (some d) t) s fun u => ∃ v : State, ∃ x : PkeJob, u = submit v (.function f q) (.pke x) ∧
      x.caller = .function f q ∧ x.reply = .ring j.id ∧ x.domain = (funcDomain v f).getD 0 ∧ v.eng.sources = s.eng.sources) ∧
  (∀ (f : Fin 1024) (q : Fin 4096) d t s j, nextJob (advance s t) f q = some j → j.opcode = 2 → 64 ≤ j.bytes.length →
    Runs (.serviceMacSegment f q (some d) t) s fun u => ∃ v : State, ∃ x : SvcJob, u = submit v (.function f q) (.svc x) ∧
      x.caller = .function f q ∧ x.reply = .ring j.id ∧ v.eng.sources = s.eng.sources) ∧
  (∀ (f : Fin 1024) (q : Fin 4096) d t s j, nextJob (advance s t) f q = some j → j.opcode = 3 → 64 ≤ j.bytes.length →
    Runs (.digestJob f q (some d) t) s fun u => ∃ v : State, ∃ x : DigJob, u = submit v (.function f q) (.digest x) ∧
      x.caller = .function f q ∧ x.reply = .ring j.id ∧ v.eng.sources = s.eng.sources) ∧
  (∀ (f : Fin 1024) (q : Fin 4096) t s j, nextJob (advance s t) f q = some j → j.opcode = 4 → 1 ≤ leAt j.bytes 0 4 →
    leAt j.bytes 0 4 ≤ 4096 → leAt j.bytes 4 4 = 0 → (funcDomain (advance s t) f).isSome = true →
    Runs (.randomBytes f q t) s fun u =>
      u = askRandom (putForward (advance s t) f q j) (.function f q) (.ring j.id) (leAt j.bytes 0 4) (leAt j.bytes 8 8)) ∧
  (∀ (f : Fin 1024) (q : Fin 4096) t s a, ((queue s f q).jobs.find? fun j => j.opcode == 6 && !j.presented && j.finished.isNone) = some a →
    a.fence = true →
    Runs (.abortEntry f q t) s fun u => u = endRingStatus (updJob (advance s t) f q a.id fun j => { j with presented := true }) a.id .invalidParameter) ∧
  (∀ (f : Fin 1024) (q : Fin 4096) t s a j, (queue s f q).jobs = [j, a] → a.opcode = 6 → a.presented = false → a.finished = none →
    a.fence = false → a.relaxed = false → leAt a.bytes 0 2 = q.val → leAt a.bytes 2 2 = 0 → j.opcode = 1 → j.finished = none →
    j.presented = false → j.tag = leAt a.bytes 4 4 → j.id ≠ a.id →
    Runs (.abortEntry f q t) s fun u =>
      u = endRingStatus (endRingEarly (putForward (advance s t) f q a) f q j .aborted) a.id .ok)

/-- COMPLETION_WRITE, CQ_HEAD_WRITE, MSIX_MESSAGE, QP_ENABLE (R323, R325, R330, R336): the oldest finished job's completion goes to
CQ_TAIL while the ring has room, and the job leaves; a head within the ring is taken; the message goes out when its count is reached, or
waits in the pending bits while its vector is masked; ENABLE is written unless the function is FROZEN or the queue in ERROR. -/
def RingsComplete : Prop :=
  (∀ (f : Fin 1024) (q : Fin 4096) t s j e, stopped s 4 = false → (queue s f q).created = true → cqFull (queue s f q) = false → (queue s f q).jobs = [j] →
    j.finished = some e → j.resultAddr = 0 → j.opcode ≠ 5 → e.outs = [] → (queue s f q).closing = none → (func s f).freezing = none →
    Runs (.completionWrite f q false false t) s fun u => (queue u f q).jobs = [] ∧
      (queue u f q).cqTail = ((queue s f q).cqTail + 1) % 65536 ∧ (queue u f q).completed = sat64 (queue s f q).completed) ∧
  (∀ (f : Fin 1024) (q : Fin 4096) a b t s, cqFull (queue s f q) = true →
    Runs (.completionWrite f q a b t) s fun u => u = advance s t) ∧
  (∀ (f : Fin 1024) (q : Fin 4096) v s, funcEnabled s f = true → (func s f).frozen = false → (queue s f q).created = true →
    (field v 15 0 + 65536 - (queue s f q).cqHead) % 65536 ≤ cqUsed (queue s f q) →
    Runs (.cqHeadWrite f q v) s fun u => (queue u f q).cqHead = field v 15 0) ∧
  (∀ (f : Fin 1024) (q : Fin 4096) v s, funcEnabled s f = true → (func s f).frozen = false → (queue s f q).created = true →
    cqUsed (queue s f q) < (field v 15 0 + 65536 - (queue s f q).cqHead) % 65536 →
    Runs (.cqHeadWrite f q v) s fun u => (queue u f q).cqHead = (queue s f q).cqHead ∧
      (func u f).err = BitVec.ofNat 32 (3 + q.val * 2 ^ 8 + 2 ^ 31)) ∧
  (∀ (f : Fin 1024) (q : Fin 4096) t s, stopped s 4 = false → (queue s f q).created = true → (queue s f q).intEn = true → 0 < (queue s f q).unsignalled →
    (queue s f q).coalesceCount ≤ (queue s f q).unsignalled → vectorMasked (func s f) (queue s f q).vector = false →
    Runs (.msixMessage f q t) s fun u => u.out = s.out ++ [.msix f (queue s f q).vector] ∧ (queue u f q).unsignalled = 0) ∧
  (∀ (f : Fin 1024) (q : Fin 4096) t s, stopped s 4 = false → (queue s f q).created = true → (queue s f q).intEn = true → 0 < (queue s f q).unsignalled →
    (queue s f q).coalesceCount ≤ (queue s f q).unsignalled → vectorMasked (func s f) (queue s f q).vector = true →
    Runs (.msixMessage f q t) s fun u => u.out = s.out ∧ (queue u f q).unsignalled = 0 ∧
      (func u f).pba = ((func s f).pba ||| (1#64 <<< (queue s f q).vector))) ∧
  (∀ (f : Fin 1024) (q : Fin 4096) v s, funcEnabled s f = true → (func s f).frozen = false → (queue s f q).created = true →
    (queue s f q).error = false →
    Runs (.qpEnable f q v) s fun u => (queue u f q).enabled = bit v 0 ∧ (queue u f q).intEn = bit v 1) ∧
  (∀ (f : Fin 1024) (q : Fin 4096) v s, funcEnabled s f = true → (func s f).frozen = true →
    Runs (.qpEnable f q v) s fun u => u = s)

/-- JOB_ADMISSION (R327): the source whose turn it is, with some of its weight left, has its next job admitted: a job that passes the
checks joins its family's queue with what it reads, one that does not ends with its status, and either way one of the weight is taken;
with no job anywhere nothing happens. -/
def JobsAreAdmittedInTurn : Prop :=
  (∀ t s q j, s.eng.taken < weightOf s s.eng.turn → nextOf (advance s t) s.eng.turn = some (q, .pke j) →
    familyFull (advance s t) (.pke j) = false → admissionGate (advance s t) (.pke j) = none → (WaitJob.pke j).handle = 0 →
    Runs (.jobAdmission t) s fun u => (∃ x : PkeJob, u.pke.waiting = s.pke.waiting ++ [x] ∧ x.id = j.id ∧ x.reply = j.reply ∧
        x.block.op = j.block.op ∧ x.block.algo = j.block.algo) ∧ u.eng.turn = s.eng.turn ∧
      u.eng.taken = s.eng.taken + 1) ∧
  (∀ t s q j, s.eng.taken < weightOf s s.eng.turn → nextOf (advance s t) s.eng.turn = some (q, .digest j) →
    familyFull (advance s t) (.digest j) = false → admissionGate (advance s t) (.digest j) = none → (WaitJob.digest j).handle = 0 →
    fragsReserved (fetchDigest (unsubmit (advance s t) s.eng.turn fun x => x.id == j.id) j).2.block.frags = false →
    Runs (.jobAdmission t) s fun u => (∃ x : DigJob, u.eng.digestWait = s.eng.digestWait ++ [x] ∧ x.id = j.id ∧ x.reply = j.reply ∧
        x.block.op = j.block.op ∧ x.block.algo = j.block.algo) ∧ u.eng.turn = s.eng.turn ∧
      u.eng.taken = s.eng.taken + 1) ∧
  (∀ t s q j st, s.eng.taken < weightOf s s.eng.turn → nextOf (advance s t) s.eng.turn = some (q, j) →
    familyFull (advance s t) j = false → admissionGate (advance s t) j = some st →
    Runs (.jobAdmission t) s fun u => ∃ v, u = { v with eng := { v.eng with turn := s.eng.turn, taken := s.eng.taken + 1 } } ∧
      v = passQueue (endEarly (unsubmit (advance s t) s.eng.turn fun x => x.id == j.id) j st) s.eng.turn q) ∧
  (∀ t s, s.eng.sources = [] → Runs (.jobAdmission t) s fun u => u = advance s t)

/-- QP_CREATE, QP_DESTROY, QP_MODIFY, QP_QUERY (R311, R329, R334): a queue of a free number with fields in range is created disabled, and
its number answered; no more than MAX_QUEUES are; a destroyed queue with no job is freed and answered at once; the interrupt fields are
changed; a query writes the queue's record to host memory. -/
def QueuesAreMadeAndChanged : Prop :=
  (∀ (f : Fin 1024) t s v j n, advance s t = v → AdminJob v f 0x80 34 j → leAt j.bytes 0 2 = n → 1 ≤ n → n ≤ 4095 →
    (queue (putForward v f 0 j) f n).created = false → createdQueues (putForward v f 0 j) f < (func (putForward v f 0 j) f).maxQueues →
    freeContexts (putForward v f 0 j) ≠ 0 → 4 ≤ leAt j.bytes 2 1 → leAt j.bytes 2 1 ≤ 15 → 4 ≤ leAt j.bytes 3 1 →
    leAt j.bytes 3 1 ≤ 15 → vectorOk f (leAt j.bytes 4 2) = true → leAt j.bytes 6 1 ≠ 0 → leAt j.bytes 7 1 = 0 →
    leAt j.bytes 8 2 ≤ 1000 → leAt j.bytes 10 8 % 4096 = 0 → leAt j.bytes 18 8 % 4096 = 0 → leAt j.bytes 26 8 % 4 = 0 →
    Runs (.qpCreate f t) s fun u => ∃ x : Queue, x.created = true ∧ x.enabled = false ∧ x.jobs = [] ∧ x.sqLog = leAt j.bytes 2 1 ∧
      x.cqLog = leAt j.bytes 3 1 ∧ x.vector = leAt j.bytes 4 2 ∧ x.sqBase = leAt j.bytes 10 8 ∧ x.cqBase = leAt j.bytes 18 8 ∧
      u = endRing (updQueue (putForward v f 0 j) f n fun _ => x) j.id { status := .ok, aux := n }) ∧
  (∀ (f : Fin 1024) t s v j, advance s t = v → AdminJob v f 0x80 34 j → 1 ≤ leAt j.bytes 0 2 →
    (func (putForward v f 0 j) f).maxQueues ≤ createdQueues (putForward v f 0 j) f →
    Runs (.qpCreate f t) s fun u => u = endRing (putForward v f 0 j) j.id { status := .busyLocked, holder := 0xFFFFFFFF }) ∧
  (∀ (f : Fin 1024) t s v j, advance s t = v → AdminJob v f 0x81 2 j → leAt j.bytes 0 2 = 0 →
    Runs (.qpDestroy f t) s fun u => u = endRingStatus (putForward v f 0 j) j.id .invalidParameter) ∧
  (∀ (f : Fin 1024) t s v j n, advance s t = v → AdminJob v f 0x81 2 j → leAt j.bytes 0 2 = n → 1 ≤ n → n ≤ 4095 →
    (queue (putForward v f 0 j) f n).created = true → (queue (putForward v f 0 j) f n).closing = none →
    Runs (.qpDestroy f t) s fun u => u = settleClosing (abortQueue (updQueue (putForward v f 0 j) f n
      fun x => { x with enabled := false, chain := none, closing := some j.id }) f n) f n) ∧
  (∀ (f : Fin 1024) t s v j n, advance s t = v → AdminJob v f 0x81 2 j → leAt j.bytes 0 2 = n → 1 ≤ n → n ≤ 4095 →
    (queue (putForward v f 0 j) f n).created = true → (queue (putForward v f 0 j) f n).closing = none →
    (queue (putForward v f 0 j) f n).jobs = [] → (queue (putForward v f 0 j) f n).errorDue = false →
    Runs (.qpDestroy f t) s fun u => (func u f).queues.look n = none) ∧
  (∀ (f : Fin 1024) t s v j n, advance s t = v → AdminJob v f 0x82 7 j → leAt j.bytes 0 2 = n →
    (queue (putForward v f 0 j) f n).created = true → vectorOk f (leAt j.bytes 2 2) = true → leAt j.bytes 4 1 ≠ 0 →
    leAt j.bytes 5 2 ≤ 1000 →
    Runs (.qpModify f t) s fun u => u = endRingStatus (updQueue (putForward v f 0 j) f n fun x => { x with
      vector := leAt j.bytes 2 2, coalesceCount := leAt j.bytes 4 1, coalesceUs := leAt j.bytes 5 2 }) j.id .ok) ∧
  (∀ (f : Fin 1024) t s v j n, advance s t = v → AdminJob v f 0x83 10 j → leAt j.bytes 0 2 = n →
    (queue (putForward v f 0 j) f n).created = true →
    Runs (.qpQuery f t) s fun u => u = endRing (putForward v f 0 j) j.id
      { status := .ok, outs := [(leAt j.bytes 2 8, queueRecord n (queue (putForward v f 0 j) f n))], outLen := 128 })

/-- VF_LIMITS, VF_FREEZE, VF_RESUME, VF_RESET, VF_SAVE, VF_RESTORE (R329, R332, R333, R335): PF0's commands on a VF: limits of 0 to 4,095
queues and a weight of 1 to 16; a freeze with no queue freezes at once; a resume returns it; a reset is a Function Level Reset; a save of
a frozen VF writes its blob and marks it saved; a restore judges the blob by R335, opens its body, and assigns the VF to the blob's
domain, or ends with the tag's, the handle's or the room's status. -/
def VirtualFunctionsAreManaged : Prop :=
  (∀ t s v j n, advance s t = v → AdminJob v 0 0x90 5 j → leAt j.bytes 0 2 = n → isVf n = true → leAt j.bytes 2 2 ≤ 4095 →
    1 ≤ leAt j.bytes 4 1 → leAt j.bytes 4 1 ≤ 16 →
    Runs (.vfLimits t) s fun u => u = endRingStatus (updFunc (putForward v 0 0 j) n fun y => { y with
      maxQueues := leAt j.bytes 2 2, weight := leAt j.bytes 4 1 }) j.id .ok) ∧
  (∀ t s v j n, advance s t = v → AdminJob v 0 0x91 2 j → leAt j.bytes 0 2 = n → isVf n = true →
    (func (putForward v 0 0 j) n).freezing = none → (func (putForward v 0 0 j) n).queues = [] →
    Runs (.vfFreeze t) s fun u => (func u n).frozen = true ∧ (func u n).freezing = none ∧ (func u n).saved = false) ∧
  (∀ t s v j n, advance s t = v → AdminJob v 0 0x94 2 j → leAt j.bytes 0 2 = n → isVf n = true →
    (func (putForward v 0 0 j) n).frozen = true →
    Runs (.vfResume t) s fun u => (func u n).frozen = false ∧
      u = endRingStatus (raiseEvent (updFunc (putForward v 0 0 j) n fun y => { y with frozen := false }) n) j.id .ok) ∧
  (∀ t s v j n, advance s t = v → AdminJob v 0 0x95 3 j → leAt j.bytes 0 2 = n → isVf n = true → leAt j.bytes 2 1 = 0 →
    Runs (.vfReset t) s fun u => u = endRingStatus (resetFunction (putForward v 0 0 j) n) j.id .ok) ∧
  (∀ t s v j n, advance s t = v → AdminJob v 0 0x92 14 j → leAt j.bytes 0 2 = n → isVf n = true →
    (func (putForward v 0 0 j) n).frozen = true → (funcDomain (putForward v 0 0 j) n).isSome = true → secureUp s = true →
    drawWaits (putForward v 0 0 j) 1 32 = false →
    Runs (.vfSave t) s fun u => ∀ w nonce, draw (putForward v 0 0 j) 1 false 32 = (w, .ok nonce) →
      ∀ blob x, migrationBlob (loseSessions w n) n ((funcDomain (putForward v 0 0 j) n).getD 0) nonce = (blob, x) →
        blob.length ≤ leAt j.bytes 10 4 → u = endRing (updFunc x n fun y => { y with saved := true }) j.id
          { status := .ok, outs := [(leAt j.bytes 2 8, blob)], outLen := blob.length }) ∧
  (∀ t s v j b n st, advance s t = v → Presents v 0 0 0x93 j → allZero (j.bytes.drop 14) = true → leAt j.bytes 0 2 = n →
    restoreGate (putForward v 0 0 j) n (leAt j.bytes 10 4) (b.take (leAt j.bytes 10 4)) = some st →
    Runs (.vfRestore (some b) t) s fun u => u = endRingStatus (putForward v 0 0 j) j.id st) ∧
  (∀ t s v j b c n w, advance s t = v → Presents v 0 0 0x93 j → allZero (j.bytes.drop 14) = true → leAt j.bytes 0 2 = n →
    b.take (leAt j.bytes 10 4) = c → putForward v 0 0 j = w →
    Runs (.vfRestore (some b) t) s fun u => restoreGate w n (leAt j.bytes 10 4) c = none →
      (gcmOpen (migrationKey (domain w (leAt c 6 2)).master (slice c 0x38 32) (slice c 8 16)) (slice c 0x38 12) (c.take 0x80)
          (slice c 0x80 (leAt c 0x58 4)) (slice c (0x80 + leAt c 0x58 4) 16) = none → u = endRingStatus w j.id .tagMismatch) ∧
      ∀ body m, gcmOpen (migrationKey (domain w (leAt c 6 2)).master (slice c 0x38 32) (slice c 8 16)) (slice c 0x38 12)
          (c.take 0x80) (slice c 0x80 (leAt c 0x58 4)) (slice c (0x80 + leAt c 0x58 4) 16) = some body → readMigration body = m →
        (∀ h, (m.handles.find? fun h => (s.flash.objects.look h).isNone || withdrawn w h) = some h →
          u = endRing w j.id { status := .invalidKey, aux := h }) ∧
        ((m.handles.find? fun h => (s.flash.objects.look h).isNone || withdrawn w h) = none →
          m.queues.length ≤ freeContexts w → (m.queues.countP fun e => e.1 != 0) ≤ (func w n).maxQueues →
          ∃ k : Cmd, k.caller = .function 0 0 ∧ k.reply = .ring j.id ∧
            u = editDomain (restoreFunction w n m) k (leAt c 6 2) [.function n true] [])) ∧
  (∀ t s v j n x, advance s t = v → AdminJob v 0 0x91 2 j → leAt j.bytes 0 2 = n → isVf n = true →
    (func (putForward v 0 0 j) n).freezing = some x →
    Runs (.vfFreeze t) s fun u => u = endRingStatus (putForward v 0 0 j) j.id .invalidParameter)

/-- FUNCTION_LEVEL_RESET, PCIE_PERST, PCIE_LINK_UP, PCIE_LINK_DOWN, HQ_FUNC_READ, HQ_STATUS_READ (R331, R339, R489, R492): a reset leaves
a function no queue and its registers as after reset; PERST resets the host interface and drops the link; the HOST bit follows the link;
the reads answer and change nothing. -/
def HostLinkAndResets : Prop :=
  (∀ (f : Fin 1024) t s, f.val ≠ 0 →
    Runs (.functionLevelReset f t) s fun u => (func u f).queues = [] ∧ (func u f).frozen = false ∧ (func u f).freezing = none ∧
      (func u f).maxQueues = 4095 ∧ (func u f).err = 0 ∧ (func u f).sessions = []) ∧
  (∀ t s, Runs (.functionLevelReset 0 t) s fun u => u.host.vfs = 0) ∧
  (∀ t s y, s.host.funcs = [(0, y)] → Runs (.functionLevelReset 0 t) s fun u => (func u 0).queues = [] ∧ (func u 0).err = 0) ∧
  (∀ t s, Runs (.pciePerst t) s fun u => u.host.linkUp = false ∧ u.host.vfs = 0 ∧ bit u.id.ready 10 = false ∧ u.now = (advance s t).now) ∧
  (∀ v t s, Runs (.pcieLinkUp v t) s fun u => u.host.linkUp = true ∧ u.host.vfs = v.val ∧ bit u.id.ready 10 = true ∧
    u.host.funcs = s.host.funcs) ∧
  (∀ t s, Runs (.pcieLinkDown t) s fun u => u.host.linkUp = false ∧ bit u.id.ready 10 = false ∧ u.host.funcs = s.host.funcs) ∧
  (∀ c s, admitted s c 0x0C01 = true → c.nat 0x0E ≤ 1023 →
    Runs (.hqFuncRead c) s fun u => ∃ items, u = answerOk s c [] items ∧ .reg 0 (funcStatusWord s (c.nat 0x0E)) ∈ items ∧
      .reg 4 (func s (c.nat 0x0E)).err ∈ items ∧ ∀ q x, q < 4096 → (q, x) ∈ (func s (c.nat 0x0E)).queues.keep (fun _ x => x.created) →
        .blob (queueRecord q x) ∈ items ∧ .reg (0x8004 + 8 * q) (queueStatusWord s (c.nat 0x0E) q) ∈ items) ∧
  (∀ c s, admitted s c 0x0C02 = true →
    Runs (.hqStatusRead c) s fun u => u = answerOk s c [] [.blob (leBytes 1 (bitAt s.host.linkUp 0) ++
      leBytes 1 (bitAt (s.host.vfs != 0) 0) ++ leBytes 2 s.host.vfs ++ leBytes 4 (freeContexts s) ++
      (List.range 1024).flatMap fun f => leBytes 4 (funcStatusWord s f).toNat)])

/-- REQUEST_PACKET_WRITE, REQ_HDR_WRITE, REQ_DATA_WRITE (R343 to R348): a packet whose header, length and CRC stand is committed to the
request FIFO of its mailbox and the interrupt raised; any other is rewound whole and counted; a header over PF0 opens a packet, and a
mailbox of another port is refused and sets WRONG_PORT. -/
def RequestPacketsAreCommittedOrRewound : Prop :=
  (∀ (c : Byte) h t s, i3cOn s = true → c.toNat < 6 → (mailbox s c.toNat).port = 0 → (mailbox s c.toNat).req.tentative = [] →
    (mailbox s c.toNat).req.words.length + 3 ≤ 4096 → headerOk h = true → field h 10 0 = 1 → ∀ w : Word,
    Runs (.requestPacketWrite c [h, w, crc32 (bytesOf [h, w])] true false t) s fun u =>
      (mailbox u c.toNat).req.words = (mailbox s c.toNat).req.words ++ [h, w, crc32 (bytesOf [h, w])] ∧
        (mailbox u c.toNat).badCount = (mailbox s c.toNat).badCount ∧ u.out = s.out ++ [.requestInterrupt c.toNat]) ∧
  (∀ (c : Byte) ws fault t s, i3cOn s = true → c.toNat < 6 → (mailbox s c.toNat).port = 0 → ws ≠ [] →
    Runs (.requestPacketWrite c ws false fault t) s fun u => (mailbox u c.toNat).req.words = (mailbox s c.toNat).req.words ∧
      (mailbox u c.toNat).req.tentative = [] ∧ (mailbox u c.toNat).badCount = sat32 (mailbox s c.toNat).badCount ∧
        (mailbox u c.toNat).badPacket = true) ∧
  (∀ (c : Byte) ws a b t s, i3cOn s = false → Runs (.requestPacketWrite c ws a b t) s fun u => u = advance s t) ∧
  (∀ m (n : Fin 8) v s, reaches s m n = true → n.val ≤ 5 → (mailbox s n).packet = none → (mailbox s n).req.tentative = [] →
    (mailbox s n).req.words.length < 4096 →
    Runs (.reqHdrWrite m n v) s fun u => (mailbox u n).req.tentative = [v] ∧ (mailbox u n).req.words = (mailbox s n).req.words ∧
      (mailbox u n).packet = some { header := v, count := 1, bad := false }) ∧
  (∀ (n : Fin 8) v s, (mailbox s n).port ≠ 1 →
    Runs (.reqHdrWrite .pf0 n v) s fun u => (mailbox u n).wrongPort = true ∧ (mailbox u n).req = (mailbox s n).req) ∧
  (∀ m (n : Fin 8) v s, reaches s m n = true → n.val ≤ 5 → (mailbox s n).packet = none →
    Runs (.reqDataWrite m n v) s fun u => (mailbox u n).badPacket = true ∧ (mailbox u n).req = (mailbox s n).req) ∧
  (∀ m (n : Fin 8) v s p, reaches s m n = true → n.val ≤ 5 → (mailbox s n).packet = some p → p.count + 1 < packetWords p.header →
    (mailbox s n).req.words.length + (mailbox s n).req.tentative.length < 4096 →
    Runs (.reqDataWrite m n v) s fun u => (mailbox u n).req.tentative = (mailbox s n).req.tentative ++ [v] ∧
      (mailbox u n).packet = some { p with count := p.count + 1 })

/-- RESPONSE_PACKET_READ, RSP_DATA_READ, REWIND, NOTICE_WRITE (R347, R350): an I3C read gives the front packet and takes it away only when
read to its end; a word read over the registers moves the tentative position; REWIND brings it back; a notice that fits is committed, and
one that does not is dropped and counted. -/
def ResponsesAndNoticesAreRead : Prop :=
  (∀ (n : Fin 8) k t s, i3cOn s = true → (mailbox s n).port = 0 → (mailbox s n).rsp.words ≠ [] →
    k < (frontPacket (mailbox s n).rsp).length →
    Runs (.responsePacketRead n k t) s fun u => u.out = s.out ++ [.packet n ((frontPacket (mailbox s n).rsp).take k)] ∧
      (mailbox u n).rsp = (mailbox s n).rsp) ∧
  (∀ (n : Fin 8) k t s, i3cOn s = true → (mailbox s n).port = 0 → (mailbox s n).rsp.words ≠ [] → n.val ≠ 6 →
    (frontPacket (mailbox s n).rsp).length ≤ k → (mailbox s n).moveTo = none →
    Runs (.responsePacketRead n k t) s fun u => u.out = s.out ++ [.packet n ((frontPacket (mailbox s n).rsp).take k)] ∧
      (mailbox u n).rsp.words = (mailbox s n).rsp.words.drop (frontPacket (mailbox s n).rsp).length) ∧
  (∀ (n : Fin 8) k t s, i3cOn s = true → (mailbox s n).port = 0 → (mailbox s n).rsp.words = [] →
    Runs (.responsePacketRead n k t) s fun u => u.out = s.out ++ [.packet n [0]]) ∧
  (∀ m (n : Fin 8) s, reaches s m n = true → (mailbox s n).rsp.readPos + 1 < (frontPacket (mailbox s n).rsp).length →
    Runs (.rspDataRead m n) s fun u => u.out = s.out ++ [.read ((frontPacket (mailbox s n).rsp).getD (mailbox s n).rsp.readPos 0)] ∧
      (mailbox u n).rsp.readPos = (mailbox s n).rsp.readPos + 1 ∧ (mailbox u n).rsp.words = (mailbox s n).rsp.words) ∧
  (∀ m (n : Fin 8) s, reaches s m n = true →
    Runs (.rspRewind m n) s fun u => (mailbox u n).rsp.readPos = 0 ∧ (mailbox u n).rsp.words = (mailbox s n).rsp.words) ∧
  (∀ t s p l, secureUp s = true → s.lan.notices = p :: l → (packetOf 3 0 false false (wordsOf p)).length + 3 ≤ rspFree s 6 →
    Runs (.noticeWrite false t) s fun u => u.lan.notices = l ∧
      (mailbox u 6).rsp.words = (mailbox s 6).rsp.words ++ packetOf 3 0 false false (wordsOf p)) ∧
  (∀ t s p l, secureUp s = true → s.lan.notices = p :: l → rspFree s 6 < (packetOf 3 0 false false (wordsOf p)).length + 3 →
    Runs (.noticeWrite false t) s fun u => u.lan.notices = l ∧ (mailbox u 6).noticeDropped = true ∧
      (mailbox u 6).noticeLost = sat32 (mailbox s 6).noticeLost) ∧
  (∀ t s a r l k, secureUp s = true → s.str.notices = (a, r) :: l → (mailbox s 7).noticeSeq = k → (wordsOf r).length + 6 ≤ rspFree s 7 →
    Runs (.noticeWrite true t) s fun u => u.str.notices = l ∧ (mailbox u 7).noticeSeq = (k + 1) % 65536 ∧
      (mailbox u 7).rsp.words = (mailbox s 7).rsp.words ++ packetOf 3 0 false false (BitVec.ofNat 32 (k + a * 2 ^ 16) :: wordsOf r))

/-- FINAL_RESPONSE_WRITE, INTERIM_RESPONSE, REASSEMBLY_TIMEOUT, SESSION_IDLE_TIMEOUT, OFFER_EXPIRY (R353, R357, R359, R362, R363): the
oldest command's response goes out before any later one's; it gets one interim response 1 ms after its envelope; an assembly silent for 1
s is discarded and counted; a session idle for SESSION_IDLE_S and an offer 60 s old close. -/
def ResponsesAndTimeouts : Prop :=
  (∀ (n : Fin 6) t s o l a, firmwareRuns s = true → (mailbox s n).sending = [] → (mailbox s n).outstanding = o :: l → o.answer = some a →
    Runs (.finalResponseWrite n t) s fun u => u = sendNext (freeDelivered (dropClosing (updMailbox (advance s t) n fun b =>
      { b with outstanding := l, sending := envelopePackets o.tag (responseBytes (advance s t) n o a.status (finalFlags o a)
        (a.items.flatMap RItem.bytes) a.reasons) }))) n) ∧
  (∀ (n : Fin 6) t s ws l, firmwareRuns s = true → (mailbox s n).sending = ws :: l → ws.length ≤ rspFree s n →
    Runs (.finalResponseWrite n t) s fun u => (mailbox u n).sending = l ∧ (mailbox u n).rsp.words = (mailbox s n).rsp.words ++ ws) ∧
  (∀ (n : Fin 6) t s, firmwareRuns s = false → Runs (.finalResponseWrite n t) s fun u => u = advance s t) ∧
  (∀ (n : Fin 6) t s o l, (mailbox s n).sending = [] → (mailbox s n).outstanding = o :: l → o.answer = none →
    Runs (.finalResponseWrite n t) s fun u => u = advance s t) ∧
  (∀ (n : Fin 6) t s o l, (mailbox s n).sending = [] → (mailbox s n).outstanding = o :: l → o.answer = none → o.interim = false →
    o.takenAt + msT ≤ (advance s t).now → secureUp s = true →
    Runs (.interimResponse n t) s fun u => u = sendNext (updMailbox (advance s t) n fun b => { b with
      outstanding := { o with interim := true } :: l, sending := envelopePackets o.tag (responseBytes (advance s t) n o
        (if o.rngWait || heldForRng (advance s t) (.envelope o.id) then .rngStarting else .pending) 5 [] []) }) n) ∧
  (∀ (n : Fin 6) t s o l, (mailbox s n).outstanding = o :: l → o.interim = true →
    Runs (.interimResponse n t) s fun u => u = advance s t) ∧
  (∀ (n : Fin 6) t s a, firmwareRuns s = true → (mailbox s n).assembly = some a → a.lastAt + secT ≤ (advance s t).now →
    Runs (.reassemblyTimeout n t) s fun u => (mailbox u n).assembly = none ∧ (mailbox u n).badCount = sat32 (mailbox s n).badCount) ∧
  (∀ (n : Fin 6) t s a, (mailbox s n).assembly = some a → (advance s t).now < a.lastAt + secT →
    Runs (.reassemblyTimeout n t) s fun u => u = advance s t) ∧
  (∀ (n : Fin 6) k t s x, openSession s n k = some x → x.lastAt + sessionIdle s * secT ≤ (advance s t).now →
    (mailbox s n).outstanding = [] →
    Runs (.sessionIdleTimeout n k t) s fun u => (mailbox u n).sessions.look k = none) ∧
  (∀ (n : Fin 6) k t s x, openSession s n k = some x → (advance s t).now < x.lastAt + sessionIdle s * secT →
    Runs (.sessionIdleTimeout n k t) s fun u => u = advance s t) ∧
  (∀ id t s, Runs (.offerExpiry id t) s fun u =>
    u.mbx.offers = s.mbx.offers.filter fun o => o.id != id || decide ((advance s t).now < o.openedAt + 60 * secT))

/-- MBX_SESSION_OFFER, MBX_SESSION_OPEN, MBX_SESSION_CLOSE, MBX_SESSION_LIST, MBX_PORT_SET, MBX_CFG_SET (R357, R359, R367): an offer is
answered and kept; opening consumes the offer whatever its outcome, and where the proof screens VALID its two keys come of the offer's
secrets; a close and a list are answered; a mailbox is bound to a port under the routine quorum; SESSION_IDLE_S takes 60 to 86,400. -/
def SessionCommands : Prop :=
  (∀ c s v b, admitted s c 0x0102 = true → s.kst.ready = true → suspended s = false → s.die.attestation.isSome = true →
    s.mbx.offers.length < 8 → draw s 1 false 128 = (v, .ok b) →
    Runs (.mbxSessionOffer c) s fun u => (∃ x, AnsweredOk u c [.blob x]) ∧ ∃ w : State, w.mbx.nextOffer = (s.mbx.nextOffer + 1) % 2 ^ 32 ∧
      ∃ o : Offer, w.mbx.offers = s.mbx.offers ++ [o] ∧ o.id = s.mbx.nextOffer ∧ o.nonce = slice b 96 32 ∧ o.openedAt = s.now ∧
        u.mbx.offers = w.mbx.offers) ∧
  (∀ c s, admitted s c 0x0103 = true → c.body.bytes.length ≠ 1128 →
    Runs (.mbxSessionOpen c) s fun u => u = answerStatus s c.reply .invalidLength) ∧
  (∀ c s o, admitted s c 0x0103 = true → c.body.bytes.length = 1128 →
    s.mbx.offers.find? (·.id == leAt c.body.bytes 0 4) = some o →
    Runs (.mbxSessionOpen c) s fun u => u.mbx.offers = s.mbx.offers.filter (·.id != o.id)) ∧
  (∀ c s mb n o k v, admitted s c 0x0103 = true → c.body.bytes.length = 1128 → c.caller = .session mb n →
    s.mbx.offers.find? (·.id == leAt c.body.bytes 0 4) = some o → leAt c.body.bytes 4 2 = 0 → (domain s 0).state = .active →
    leAt c.body.bytes 6 1 = 1 → credentialOf s 0 .officer (leAt c.body.bytes 7 1) = some k → v = { s with mbx := { s.mbx with offers := s.mbx.offers.filter (·.id != o.id) } } →
    Runs (.mbxSessionOpen c) s fun u => ∀ w x, judgeProof v c o 0 (leAt c.body.bytes 7 1) k = (w, 0) →
      x25519 o.xSecret (slice c.body.bytes 1096 32) = x → (allZero x = true → u = answerStatus w c.reply .invalidKey) ∧
      (allZero x = false → openCount w mb < 16 → (mailbox w mb).nextSession ≤ 65535 →
        u = openNew w c mb 0 (leAt c.body.bytes 7 1) .officer (kdf 2 (Config.kemDecaps o.kemSecret (slice c.body.bytes 8 1088) ++ x)
          (asciiBytes "SNX4144 SESSION") (Config.sha384 (o.offer ++ slice c.body.bytes 8 1088 ++ slice c.body.bytes 1096 32)) 64))) ∧
  (∀ c s mb n, admitted s c 0x0104 = true → c.caller = .session mb n →
    Runs (.mbxSessionClose c) s fun u => u = closeSessionsBy (answerOk s c [] []) fun k j _ => k == mb && j == n) ∧
  (∀ c s, admitted s c 0x0105 = true → Runs (.mbxSessionList c) s fun u => ∃ items, u = answerOk s c [] items ∧
    items.length = ((List.range 6).map fun mb => openCount s mb).sum) ∧
  (∀ c s, admitted s c 0x0110 = true → c.nat 0x0C ≤ 7 → c.nat 0x0D ≤ 2 → c.reply = .log →
    Runs (.mbxPortSet c) s fun u => UnderQuorum s c (plainQuorum s c 0x0110 [routine s 0]) u fun v reasons =>
      u = movePort (answerOk v c reasons []) (c.nat 0x0C) (c.nat 0x0D)) ∧
  (∀ c s v, admitted s c 0x0111 = true → c.regWrites = [(4, v)] → 60 ≤ field v 16 0 → field v 16 0 ≤ 86400 →
    Runs (.mbxCfgSet c) s fun u => AnsweredOk u c [] ∧ u.mbx.sessionCfg = storeMasked s.mbx.sessionCfg v 0x1FFFF)

/-- ENTDAA, SETDASA, SETNEWDA, RSTDAA, ENEC, DISEC, ENTHDR0, RSTACT (R341, R342, R489): only an enabled target without an address takes
one; the direct codes act once it has its address, and a target that is off takes part in none; RSTACT resets the front end alone. -/
def I3cAddressAndModeCodes : Prop :=
  (∀ a t s, s.mbx.mgmtEn = true → s.mbx.addrValid = false →
    Runs (.entdaa a t) s fun u => u.mbx.dynAddr = a.toNat ∧ u.mbx.addrValid = true) ∧
  (∀ a t s, s.mbx.addrValid = true → Runs (.entdaa a t) s fun u => u = advance s t) ∧
  (∀ (st a : BitVec 7) t s, s.mbx.mgmtEn = true → s.mbx.addrValid = false → st.toNat = 0x50 + s.id.chamberId →
    Runs (.setdasa st a t) s fun u => u.mbx.dynAddr = a.toNat ∧ u.mbx.addrValid = true) ∧
  (∀ (st a : BitVec 7) t s, st.toNat ≠ 0x50 + s.id.chamberId → Runs (.setdasa st a t) s fun u => u = advance s t) ∧
  (∀ a t s, i3cOn s = true → Runs (.setnewda a t) s fun u => u.mbx.dynAddr = a.toNat ∧ u.mbx.addrValid = true) ∧
  (∀ t s, i3cOn s = true → Runs (.rstdaa t) s fun u => u.mbx.addrValid = false ∧ u.mbx.dynAddr = 0) ∧
  (∀ t s, i3cOn s = true → Runs (.enec t) s fun u => u.mbx.ibiEn = true) ∧
  (∀ t s, i3cOn s = true → Runs (.disec t) s fun u => u.mbx.ibiEn = false) ∧
  (∀ t s, i3cOn s = true → Runs (.enthdr0 t) s fun u => u.mbx.hdr = true) ∧
  (∀ a t s, i3cOn s = true → a = 1 ∨ a = 2 →
    Runs (.rstact a t) s fun u => u.mbx.addrValid = false ∧ u.mbx.ibiEn = false ∧ u.mbx.hdr = false ∧ u.mbx.boxes = s.mbx.boxes ∧
      u.mbx.mgmtEn = s.mbx.mgmtEn) ∧
  (∀ a t s, i3cOn s = false → Runs (.rstact a t) s fun u => u = advance s t)

/-- GETPID, GETBCR, GETDCR, GETSTATUS, GETMWL, GETMRL, SETMWL, SETMRL, GETMXDS, GETCAPS (R342): each get answers on the bus and changes
nothing else; BCR reads 0x26 and DCR 0x00; a maximum length below the device's own, 4,105 or 4,104, is refused. -/
def I3cReadCodes : Prop :=
  (∀ t s, i3cOn s = true → Runs (.getpid t) s fun u =>
    u = emit (advance s t) (.i3c (beBytes 6 (0x0A5E * 2 ^ 33 + 0x4144 * 2 ^ 16 + s.id.chamberId * 2 ^ 12)))) ∧
  (∀ t s, i3cOn s = true → Runs (.getbcr t) s fun u => u = emit (advance s t) (.i3c [0x26])) ∧
  (∀ t s, i3cOn s = true → Runs (.getdcr t) s fun u => u = emit (advance s t) (.i3c [0x00])) ∧
  (∀ t s, i3cOn s = true → Runs (.getstatus t) s fun u => u = emit (advance s t)
    (.i3c (Config.i3cStatus (s.mbx.boxes.any fun e => e.2.ibiWaiting) s.mbx.protocolErr))) ∧
  (∀ t s, i3cOn s = true → Runs (.getmwl t) s fun u => u = emit (advance s t) (.i3c (beBytes 2 s.mbx.mwl))) ∧
  (∀ t s, i3cOn s = true → Runs (.getmrl t) s fun u => u = emit (advance s t) (.i3c (beBytes 2 s.mbx.mrl ++ [1]))) ∧
  (∀ v t s, i3cOn s = true → 4105 ≤ v.toNat → Runs (.setmwl v t) s fun u => u.mbx.mwl = v.toNat) ∧
  (∀ v t s, v.toNat < 4105 → Runs (.setmwl v t) s fun u => u.mbx.mwl = s.mbx.mwl) ∧
  (∀ v t s, i3cOn s = true → 4104 ≤ v.toNat → Runs (.setmrl v t) s fun u => u.mbx.mrl = v.toNat) ∧
  (∀ v t s, v.toNat < 4104 → Runs (.setmrl v t) s fun u => u.mbx.mrl = s.mbx.mrl) ∧
  (∀ t s, i3cOn s = true → Runs (.getmxds t) s fun u => u = emit (advance s t) (.i3c Config.i3cSpeed)) ∧
  (∀ t s, i3cOn s = true → Runs (.getcaps t) s fun u => u = emit (advance s t) (.i3c Config.i3cCaps))

/-- SW_KICK, SW_READY, SW_RESTART, SECURE_WATCHDOG_EXPIRY, SECURE_EXCEPTION, PAGE_OWNER_WRITE, CONFIRM, NW_KICK (R379, R382, R388, R389,
R390, R397): a kick restarts the watchdog's count, READY brings the secure world up and its ID_READY bit with it, a restart, an expired
watchdog and an exception take it down, the third restart within 600 s halts it, and a page that leaves SECURE reads zeros. -/
def SecureWorldIsKeptUp : Prop :=
  (∀ m t s, m.isSecure = true → Runs (.swKick m t) s fun u => u.wld.secureKick = (advance s t).now ∧ u.wld.secureUp = s.wld.secureUp) ∧
  (∀ m t s, m.isSecure = true → s.wld.running = true →
    Runs (.swReady m t) s fun u => secureUp u = true ∧ bit u.id.ready 12 = true ∧ u.wld.restarting = false) ∧
  (∀ m t s, m.isSecure = true → s.wld.running = true → (∀ a b c, s.wld.restartTimes ≠ [a, b, c]) →
    Runs (.swRestart m t) s fun u => secureUp u = false ∧ bit u.id.ready 12 = false ∧
      u = restartSecure (zeroSecure (stopSecure (advance s t))) 3) ∧
  (∀ t s a b c, s.wld.running = true → s.wld.restartTimes = [a, b, c] → (advance s t).now ≤ a + 600 * secT →
    Runs (.secureException t) s fun u => u.wld.halted = true ∧ secureUp u = false ∧ u.wld.running = false) ∧
  (∀ t s, s.wld.running = true → (∀ a b c, s.wld.restartTimes ≠ [a, b, c]) →
    Runs (.secureException t) s fun u => secureUp u = false ∧ u = restartSecure (zeroSecure (stopSecure (advance s t))) 2) ∧
  (∀ t s, s.lcy.halted.look 1 = none → s.wld.secureKick + field s.wld.cfg 13 0 * msT ≤ (advance s t).now → s.wld.running = true →
    Runs (.secureWatchdogExpiry t) s fun u => secureUp u = false ∧ u = secureDown (advance s t) 1) ∧
  (∀ t s, (advance s t).now < s.wld.secureKick + field s.wld.cfg 13 0 * msT →
    Runs (.secureWatchdogExpiry t) s fun u => u = advance s t) ∧
  (∀ m (p : Fin 8192) v s, m.isSecure = true → bit (pageEntry s p) 8 = false →
    Runs (.pageOwnerWrite m p v) s fun u => pageEntry u p = storeMasked (pageEntry s p) v 0x1FF ∧
      (field (pageEntry s p) 1 0 = 0 → field v 1 0 ≠ 0 → ∀ a, a / 4096 = p.val → memLoad u.ctl a 1 = [0])) ∧
  (∀ m t s, m.isSecure = true → s.wld.running = true → s.wld.trialSecure = true →
    Runs (.fwConfirmWrite m t) s fun u => u.wld.trialSecure = false ∧
      (image u 1 s.wld.bootedSecure).trial = false ∧
      u.die.svnSecure = max s.die.svnSecure (min 63 (imageSvn (image s 1 s.wld.bootedSecure).bytes))) ∧
  (∀ m t s, m.isNormal = true → Runs (.nwKick m t) s fun u => u.wld.normalKick = (advance s t).now ∧ u.wld.normalUp = s.wld.normalUp)

/-- NORMAL_WATCHDOG_EXPIRY, NORMAL_EXCEPTION, NORMAL_WORLD_START, FW_CONFIRM, RETURN, POLL, CALL_LIMIT_EXPIRY, SHARED_QUANTUM_END,
LOCKSTEP_MISMATCH, ECC_DOUBLE_ERROR (R372 to R377, R390, R396, R397): the normal world restarts on its watchdog and on an exception and
starts once the secure world is up; a secure call returns, turns PENDING at its limit and is polled; the pairs share and go offline, and
with the last pair both worlds stop; a core takes a machine check and another master an error completion. -/
def NormalWorldAndSecureCalls : Prop :=
  (∀ t s, field s.wld.cfg 29 16 ≠ 0 → s.wld.normalUp = true → s.lcy.halted.look 0 = none →
    s.wld.normalKick + field s.wld.cfg 29 16 * msT ≤ (advance s t).now →
    Runs (.normalWatchdogExpiry t) s fun u => u = restartNormal (advance s t)) ∧
  (∀ t s, field s.wld.cfg 29 16 = 0 → Runs (.normalWatchdogExpiry t) s fun u => u = advance s t) ∧
  (∀ t s, s.wld.normalUp = true → s.wld.trialNormal = true →
    Runs (.normalException t) s fun u =>
      u.die.normalNext = 1 - s.wld.bootedNormal ∧ u = restartNormal (advance s t)) ∧
  (∀ t s, s.wld.normalUp = false → s.wld.normalTried = false → firmwareRuns s = true → secureUp s = true → normalAllowed s = true →
    Runs (.normalWorldStart t) s fun u => (imageCheck (advance s t) 2 (image s 2 s.die.normalNext).bytes = 0 →
      u.wld.normalUp = true ∧ u.wld.bootedNormal = s.die.normalNext ∧ u.wld.resultNormal = 0 ∧ bit u.id.ready 13 = true) ∧
      (imageCheck (advance s t) 2 (image s 2 s.die.normalNext).bytes ≠ 0 →
        imageCheck (advance s t) 2 (image s 2 (1 - s.die.normalNext)).bytes = 0 →
        u.wld.normalUp = true ∧ u.wld.bootedNormal = 1 - s.die.normalNext ∧ bit u.id.ready 13 = true) ∧
      (imageCheck (advance s t) 2 (image s 2 s.die.normalNext).bytes ≠ 0 →
        imageCheck (advance s t) 2 (image s 2 (1 - s.die.normalNext)).bytes ≠ 0 → u.wld.normalUp = false ∧
        u.wld.resultNormal = imageCheck (advance s t) 2 (image s 2 (1 - s.die.normalNext)).bytes) ∧ u.wld.normalTried = true) ∧
  (∀ t s, s.wld.normalTried = true → Runs (.normalWorldStart t) s fun u => u = advance s t) ∧
  (∀ (p : Fin 4) t s, normalRuns s p = true → s.wld.trialNormal = true →
    Runs (.fwConfirm p t) s fun u => u.wld.trialNormal = false ∧
      u.die.svnNormal = max s.die.svnNormal (min 63 (imageSvn (image s 2 s.wld.bootedNormal).bytes)) ∧
      u.out = s.out ++ [.answer { status := .ok }]) ∧
  (∀ (p : Fin 4) t s c a, callOf s p = some c → c.answer = some a →
    Runs (.worldReturn p t) s fun u => (∀ d ∈ u.wld.calls, d.token ≠ c.token) ∧
      u = deliverCall (dropCall (advance s t) c.token) c a) ∧
  (∀ (p : Fin 4) k t s c a, normalRuns s p = true → (s.wld.calls.find? fun c => c.token == k && c.pending && !c.dropped) = some c →
    c.answer = some a → Runs (.worldPoll p k t) s fun u => u = deliverCall (dropCall (advance s t) k) c a) ∧
  (∀ (p : Fin 4) k t s c, normalRuns s p = true → (s.wld.calls.find? fun c => c.token == k && c.pending && !c.dropped) = some c →
    c.answer = none → Runs (.worldPoll p k t) s fun u => u.wld.calls = s.wld.calls ∧
      u.out = s.out ++
        [.answer { status := if heldForRng (advance s t) (.call k) then .rngStarting else .pending, items := [.number k] }]) ∧
  (∀ (p : Fin 4) k t s, normalRuns s p = true → (s.wld.calls.find? fun c => c.token == k && c.pending && !c.dropped) = none →
    Runs (.worldPoll p k t) s fun u => u = emit (advance s t) (.answer { status := .invalidParameter })) ∧
  (∀ (p : Fin 4) t s c, callOf s p = some c → c.answer = none → secureHome s p = false → c.startAt + callLimit s ≤ (advance s t).now →
    Runs (.callLimitExpiry p t) s fun u => u.out = s.out ++ [.answer { status := .pending, items := [.number c.token] }] ∧
      ∀ d ∈ u.wld.calls, d.token = c.token → d.pending = true) ∧
  (∀ (p : Fin 4) t s, sharedPair s = some p.val → (pair s p).quantumAt + 500 * usT ≤ (advance s t).now →
    Runs (.sharedQuantumEnd p t) s fun u => (pair u p).secureRuns = !(pair s p).secureRuns ∧ (pair u p).quantumAt = (advance s t).now) ∧
  (∀ (p : Fin 4) l t s, (pair s p).online = true → Runs (.lockstepMismatch p l t) s fun u => (pair u p).online = false ∧
    ∀ c ∈ u.wld.calls, c.pair = p.val → c.pending = false → c.dropped = true) ∧
  (∀ (p : Fin 4) l t s, onlinePairs s = [p.val] → Runs (.lockstepMismatch p l t) s fun u => (pair u p).online = false ∧
    u.wld.secureUp = false ∧ u.wld.running = false ∧ u.wld.normalUp = false ∧ bit u.id.ready 12 = false ∧ bit u.id.ready 13 = false) ∧
  (∀ (m : Fin 13) b t s, 3 < m.val → Runs (.eccDoubleError m b t) s fun u => u = emit (advance s t) (.errorCompletion m)) ∧
  (∀ (m : Fin 13) t s, m.val ≤ 3 → s.wld.running = true →
    Runs (.eccDoubleError m true t) s fun u => secureUp u = false ∧ u = secureDown (emit (advance s t) (.machineCheck m)) 2) ∧
  (∀ (m : Fin 13) t s, m.val ≤ 3 → Runs (.eccDoubleError m false t) s fun u => u = emit (advance s t) (.machineCheck m))

/-- CLOCK_OFF, CLOCK_ON, POWER_OFF, POWER_ON, POWER_REQUEST_TAKEN, PWR_OWNER_WRITE, WLD_FW_STAGE, WLD_FW_ACTIVATE, WLD_NW_RESTART,
WLD_FW_KEY_SET, WLD_VIOL_READ (R387, R390 to R393, R397, R399): a request is taken at once on a unit that is not held and waits on one
that is; a unit powered on begins its self-test; an OWNER bit holds a unit; a chunk lands at its offset in the spare slot; NEXT, the
owner's key and the violation log are as their commands say. -/
def PowerAndFirmware : Prop :=
  (∀ m (n : Fin 256) t s, m.isSecure = true → n.val ≤ 191 → unitHeld s n = false → s.wld.clkOff.contains n.val = false →
    Runs (.clockOff m n t) s fun u => n.val ∈ u.wld.clkOff ∧ u.wld.pwrOff = s.wld.pwrOff) ∧
  (∀ m (n : Fin 256) t s, m.isSecure = true → n.val ≤ 191 → unitHeld s n = false → s.wld.clkOff.contains n.val = true →
    Runs (.clockOn m n t) s fun u => n.val ∉ u.wld.clkOff ∧ u.wld.pwrOff = s.wld.pwrOff) ∧
  (∀ m (n : Fin 256) t s, m.isSecure = true → n.val ≤ 191 → unitHeld s n = false → s.wld.pwrOff.contains n.val = false →
    Runs (.powerOff m n t) s fun u => n.val ∈ u.wld.pwrOff ∧ u.wld.clkOff = s.wld.clkOff) ∧
  (∀ m (n : Fin 256) t s, m.isSecure = true → n.val ≤ 191 → unitHeld s n = false → s.wld.pwrOff.contains n.val = true →
    Runs (.powerOn m n t) s fun u => n.val ∉ u.wld.pwrOff ∧ u.wld.clkOff = s.wld.clkOff) ∧
  (∀ m (n : Fin 256) t s, m.isSecure = true → n.val ≤ 31 → unitHeld s n = false → s.wld.pwrOff.contains n.val = true →
    Runs (.powerOn m n t) s fun u => (svc u n).state = .selfTest ∧ (svc u n).testFrom = some (advance s t).now) ∧
  (∀ m (n : Fin 256) t s, m.isSecure = true → n.val ≤ 191 → unitHeld s n = true → s.wld.clkOff.contains n.val = false →
    Runs (.clockOff m n t) s fun u => u.wld.pwrPending.look n = some (0, m.isNormal) ∧ u.wld.clkOff = s.wld.clkOff) ∧
  (∀ (n : Fin 192) t s a b, s.wld.pwrPending.look n = some (a, b) → unitHeld s n = false →
    Runs (.powerRequestTaken n t) s fun u => u.wld.pwrPending.look n = none ∧ u = takePower (advance s t) n a) ∧
  (∀ (n : Fin 192) t s b, s.wld.pwrPending.look n = some (2, b) → unitHeld s n = false →
    Runs (.powerRequestTaken n t) s fun u => n.val ∈ u.wld.pwrOff ∧ u.wld.clkOff = s.wld.clkOff) ∧
  (∀ m (j : Fin 6) v t s, m.isSecure = true →
    Runs (.pwrOwnerWrite m j v t) s fun u => u = writeOwner (advance s t) j v ∧ u.wld.owner.get 0 j = v) ∧
  (∀ c s w slot off data, admitted s c 0x0881 = true → w = leNat ((c.bytes 0x2F).take 1) → 1 ≤ w → w ≤ 2 →
    leNat (slice (c.bytes 0x2F) 1 1) ≤ 1 → leNat (slice (c.bytes 0x2F) 2 2) = 0 → off = leNat (slice (c.bytes 0x2F) 4 4) →
    data = (c.bytes 0x2F).drop 8 → off + data.length ≤ slotSize w →
    slot = 1 - (if w = 1 then s.wld.bootedSecure else s.wld.bootedNormal) →
    Runs (.wldFwStage c) s fun u => slice (image u w slot).bytes off data.length = data ∧
      (leNat (slice (c.bytes 0x2F) 1 1) = 0 → (image u w slot).stagedOk = false ∧ AnsweredOk u c []) ∧
      (leNat (slice (c.bytes 0x2F) 1 1) = 1 → imageCheck s w (image u w slot).bytes = 0 →
        (image u w slot).stagedOk = true ∧ AnsweredOk u c []) ∧
      (leNat (slice (c.bytes 0x2F) 1 1) = 1 → imageCheck s w (image u w slot).bytes ≠ 0 → (image u w slot).stagedOk = false ∧
        ∃ v st, u = answer v c.reply { status := st, items := [.number (imageCheck s w (image u w slot).bytes)] } ∧ st ≠ .ok)) ∧
  (∀ c s, admitted s c 0x0882 = true → 1 ≤ leNat ((c.bytes 0x30).take 1) → leNat ((c.bytes 0x30).take 1) ≤ 2 →
    leNat ((c.bytes 0x30).drop 1) ≤ 1 → (image s (leNat ((c.bytes 0x30).take 1)) (leNat ((c.bytes 0x30).drop 1))).stagedOk = true →
    s.lcy.state ≠ 1 → s.lcy.state ≠ 6 → inTest s = false →
    Runs (.wldFwActivate c) s fun u => UnderQuorum s c (plainQuorum s c 0x0882 [critical s 0]) u fun _ _ => AnsweredOk u c [] ∧
      (leNat ((c.bytes 0x30).take 1) = 1 → u.die.secureNext = leNat ((c.bytes 0x30).drop 1)) ∧
      (leNat ((c.bytes 0x30).take 1) = 2 → u.die.normalNext = leNat ((c.bytes 0x30).drop 1)) ∧
      (image u (leNat ((c.bytes 0x30).take 1)) (leNat ((c.bytes 0x30).drop 1))).trial = true) ∧
  (∀ c s, admitted s c 0x0883 = true → Runs (.wldNwRestart c) s fun u => u = answerOk (restartNormal s) c [] []) ∧
  (∀ c s, admitted s c 0x0884 = true → lmsKeyOk (c.bytes 0x31) = true →
    Runs (.wldFwKeySet c) s fun u => UnderQuorum s c (plainQuorum s c 0x0884 [critical s 0]) u fun _ _ =>
      AnsweredOk u c [] ∧ u.die.lmsKey = c.bytes 0x31) ∧
  (∀ c s, admitted s c 0x0885 = true → Runs (.wldViolRead c) s fun u => u.wld.violationPending = false ∧ ∃ items,
    AnsweredOk u c items ∧ ∀ r : Fin 16, .blob (violationEntry s r) ∈ items ∧ .reg (wldAddr 0x24) (BitVec.ofNat 32 s.wld.violationNo) ∈ items)

/-- ACCUMULATOR_CLOSE, TOKEN_REFILL, STRATA_RECORD_WRITE, STRATA_SCAN, STR_READ, STR_ACCUM_READ, STR_CFG_SET, STR_CODE_SET (R449, R450,
R453 to R455, R459, R460): the accumulator due first closes and takes a token, the bucket fills up to 64, a record that reads back leaves
the queue for its slot, the scan counts what it finds, and the reads and settings answer. -/
def StrataRecords : Prop :=
  (∀ t s i a, s.str.accums = [(i, a)] → a.closeAt ≤ (advance s t).now → s.str.tokens ≠ 0 →
    Runs (.accumulatorClose t) s fun u => u.str.accums.look i = none ∧ u.str.tokens = s.str.tokens - 1 ∧
      ∃ c, u.str.closed = s.str.closed ++ [c] ∧ c.index = i ∧ c.accum = a ∧ c.resetClose = false) ∧
  (∀ t s i a, s.str.accums = [(i, a)] → a.closeAt ≤ (advance s t).now → s.str.tokens = 0 →
    Runs (.accumulatorClose t) s fun u => u.str.closed = s.str.closed ∧ u.str.accums = [(i, { a with late := true })]) ∧
  (∀ t s, s.str.accums = [] → 64 ≤ strBudget s → s.str.refillAt + 3600 * secT / strBudget s ≤ (advance s t).now →
    Runs (.tokenRefill t) s fun u => u.str.tokens = min 64 (s.str.tokens + 1) ∧ s.str.refillAt < u.str.refillAt) ∧
  (∀ t s, (advance s t).now < s.str.refillAt + 3600 * secT / strBudget s → Runs (.tokenRefill t) s fun u => u = advance s t) ∧
  (∀ e t s c rest, s.str.ready = true → s.str.closed = c :: rest →
    Runs (.strataRecordWrite true e t) s fun u => u.str.closed = rest ∧ ∃ x, u.die.strata.look (strataSlot s.str.next) = some x ∧
      x.number = s.str.next ∧ x.valid = true ∧ x.bytes = strataBytes s.str.next c) ∧
  (∀ e t s c rest, s.str.ready = true → s.str.closed = c :: rest →
    Runs (.strataRecordWrite false e t) s fun u => u.str.closed = s.str.closed ∧
      ∃ x, u.die.strata.look (strataSlot s.str.next) = some x ∧ x.valid = false) ∧
  (∀ t s, s.str.ready = false → bit s.id.ready 1 = true →
    Runs (.strataScan t) s fun u => u.str.ready = true ∧ bit u.id.ready 14 = true ∧
      u.str.torn = s.die.strata.count (fun _ x => !x.valid) ∧ u.str.corrupt = s.die.strata.count (fun _ x => x.corrupt) ∧
      u.str.next = skipRetired s.die.retired (s.die.strata.foldl (fun m e => max m (e.2.number + 1)) 0) 66) ∧
  (∀ c s, admitted s c 0x0A02 = true → c.body.bytes.length = 10 → s.str.ready = true → 1 ≤ leAt c.body.bytes 8 2 →
    leAt c.body.bytes 8 2 ≤ 64 →
    Runs (.strRead c) s fun u => ∃ l : List Bytes, u = answerOk s c [] [.blob (leBytes 2 l.length ++ zeros 6 ++ l.flatten)] ∧
      l = (List.range (leAt c.body.bytes 8 2)).filterMap fun i => heldRecord s (leAt c.body.bytes 0 8 + i)) ∧
  (∀ c s, admitted s c 0x0A03 = true →
    Runs (.strAccumRead c) s fun u => u = answerOk s c [] (s.str.accums.map fun e =>
      let b := recordHead e.1 (2 ^ 64 - 1) e.2 (lanternTick s) false s.lcy.state
      .blob (b ++ leBytes 4 (crc32 b).toNat ++ leBytes 4 0xFFFFFFFF))) ∧
  (∀ c s v, admitted s c 0x0A10 = true → c.regWrites = [(4, v)] → 64 ≤ field v 13 0 → field v 13 0 ≤ 8192 →
    Runs (.strCfgSet c) s fun u => UnderQuorum s c (plainQuorum s c 0x0A10 [routine s 0]) u fun _ _ =>
      AnsweredOk u c [] ∧ strBudget u = field v 13 0) ∧
  (∀ c s v i, admitted s c 0x0A11 = true → c.regWrites = [(0x100 + 4 * i, v)] → i ≤ 43 → 1 ≤ field v 11 0 → field v 11 0 ≤ 3600 →
    Runs (.strCodeSet c) s fun u => UnderQuorum s c (plainQuorum s c 0x0A11 [routine s 0]) u fun _ _ =>
      AnsweredOk u c [] ∧ codeInterval u i = field v 11 0 ∧ bit (codeCfg u i) 12 = bit v 12)

/-- PDELAY_REQ_SEND, PDELAY_REQ_RECEIVE, PDELAY_RESP_RECEIVE, ANNOUNCE_RECEIVE, SYNC_RECEIVE, FOLLOW_UP_RECEIVE (R438, R439): a PTP port
asks for its peer delay once a second, answers a request in two steps, and takes the delay from the answer; a message of another domain is
discarded and counted; a Sync of the chosen master, or its Follow_Up, gives the offset. -/
def TimeMessages : Prop :=
  (∀ (p : Fin 144) t s, isPtpPort s p = true → (∀ w, (peerDelay s p).lastSend = some w → w + secT ≤ (advance s t).now) →
    Runs (.pdelayReqSend p t) s fun u => (peerDelay u p).seq = ((peerDelay s p).seq + 1) % 65536 ∧
      (peerDelay u p).sentAt = some (devTime (advance s t)) ∧ (peerDelay u p).delay = (peerDelay s p).delay ∧
      u.out = s.out ++ [.ptp p 2 (((peerDelay s p).seq + 1) % 65536) (devTime (advance s t))]) ∧
  (∀ (p : Fin 144) d q t s, isPtpPort s p = true → d = timDomain s →
    Runs (.pdelayReqReceive p d q t) s fun u => u.tim = (advance s t).tim ∧
      u.out = s.out ++ [.ptp p 3 q (devTime (advance s t)), .ptp p 10 q (devTime (advance s t))]) ∧
  (∀ (p : Fin 144) d q t s, isPtpPort s p = false ∨ d ≠ timDomain s →
    Runs (.pdelayReqReceive p d q t) s fun u => u = discardPtp (advance s t)) ∧
  (∀ (p : Fin 144) m t s t1, isPtpPort s p = true → m.domain = timDomain s → (peerDelay s p).sentAt = some t1 →
    m.seq = (peerDelay s p).seq → m.followUp = false → m.twoStep = false →
    Runs (.pdelayRespReceive p m t) s fun u => (peerDelay u p).sentAt = none ∧ (peerDelay u p).missed = 0 ∧
      (peerDelay u p).delay = some (((devTime (advance s t) : Int) - t1 - m.correction) / 2)) ∧
  (∀ (p : Fin 144) m t s t1 t2 t4 c, isPtpPort s p = true → m.domain = timDomain s → (peerDelay s p).sentAt = some t1 →
    m.seq = (peerDelay s p).seq → m.followUp = true → (peerDelay s p).response = some (t2, t4, c) →
    Runs (.pdelayRespReceive p m t) s fun u =>
      (peerDelay u p).delay = some (((t4 : Int) - t1 - ((m.stamp : Int) - t2) - (c + m.correction)) / 2)) ∧
  (∀ (p : Fin 144) m t s, isPtpPort s p = true → m.domain = timDomain s → delayValid s p = true → m.stepsRemoved < 255 → s.tim.heard = [] →
    Runs (.announceReceive p m t) s fun u => u.tim.gmPort = p.val ∧ u.tim.gmId = m.grandmaster ∧ u.tim.gmSource = m.sourceId) ∧
  (∀ (p : Fin 144) m t s, isPtpPort s p = true → m.domain = timDomain s → timSource s = 1 → s.tim.heard = [] →
    fromMaster s p m.sourceId = true → delayValid s p = true → m.twoStep = true →
    Runs (.syncReceive p m t) s fun u => u.tim.syncInterval = syncTime m.logInterval ∧ u.tim.syncRx = s.tim.syncRx ∧
      ∃ q, u.tim.pendingSync = some q ∧ q.seq = m.seq ∧ q.ingress = devTime (advance s t)) ∧
  (∀ (p : Fin 144) m t s d, isPtpPort s p = true → m.domain = timDomain s → timSource s = 1 → s.tim.heard = [] →
    fromMaster s p m.sourceId = true → delayValid s p = true → m.twoStep = false → (peerDelay s p).delay = some d →
    Runs (.syncReceive p m t) s fun u => u.tim.offset = (devTime (advance s t) : Int) - m.origin - m.correction - d ∧
      u.tim.syncRx = sat64 s.tim.syncRx ∧ u.tim.holdover = false ∧ u.tim.lastUsed = some (advance s t).now) ∧
  (∀ (p : Fin 144) m t s d q, isPtpPort s p = true → m.domain = timDomain s → timSource s = 1 → s.tim.pendingSync = some q →
    fromMaster s p m.sourceId = true → q.sourceId = m.sourceId → q.seq = m.seq → (peerDelay s p).delay = some d →
    Runs (.followUpReceive p m t) s fun u =>
      u.tim.offset = (q.ingress : Int) - m.origin - (q.correction + m.correction) - d ∧ u.tim.pendingSync = none)

/-- HOLDOVER_START, HOLDOVER_EXPIRY, PPS_IN_EDGE, PPS_MISSING, WHOLE_SECOND, CORRELATION_WRITE, TIM_CFG_SET, TIM_SET (R439 to R442, R445):
holdover begins 1.5 intervals after the last Sync and the lock falls at its end; a PPS edge gives its offset; a whole second latches the
correlation pair, and the record goes to the battery RAM every 1,024 s; the settings are written under their quorums. -/
def TimeKeeping : Prop :=
  (∀ t s w, s.tim.lastUsed = some w → timSource s = 1 → w + s.tim.syncInterval * 3 / 2 ≤ (advance s t).now →
    Runs (.holdoverStart t) s fun u => u.tim.holdover = true ∧ u.tim.locked = s.tim.locked) ∧
  (∀ t s w, s.tim.lastUsed = some w → s.tim.locked = true → w + holdover s ≤ (advance s t).now →
    Runs (.holdoverExpiry t) s fun u => u.tim.locked = false ∧ bit u.id.ready 15 = false ∧ bit u.tim.event 1 = true) ∧
  (∀ r t s, timSource s = 2 → r ≠ bit s.tim.ppsCfg 2 → s.tim.setSec = none →
    Runs (.ppsInEdge r t) s fun u => u.tim.offset = nearOffset (devTime (advance s t)) ∧ u.tim.holdover = false ∧
      u.tim.lastUsed = some (advance s t).now) ∧
  (∀ t s, timSource s = 2 → s.tim.holdover = false → s.tim.lastUsed.getD s.tim.sourceAt + 2 * secT ≤ (advance s t).now →
    Runs (.ppsMissing t) s fun u => u.tim.holdover = true ∧ bit u.tim.event 4 = true ∧ u.tim.locked = s.tim.locked) ∧
  (∀ t s, devSec (advance s t) ≠ s.tim.corrSec → bit s.tim.ppsCfg 0 = true → s.tim.locked = true →
    Runs (.wholeSecond t) s fun u => u.tim.corrSec = devSec (advance s t) % 2 ^ 48 ∧
      u.tim.corrTick = wholeSecondTick (advance s t) ∧ u.out = s.out ++ [.pulse (ppsComp s) (field s.tim.ppsCfg 16 8)]) ∧
  (∀ t s, devSec (advance s t) ≠ s.tim.corrSec → bit s.tim.ppsCfg 0 = false →
    Runs (.wholeSecond t) s fun u => u.tim.corrSec = devSec (advance s t) % 2 ^ 48 ∧ u.out = s.out) ∧
  (∀ t s w, s.tim.corrWrittenAt = some w → s.tim.locked = true → w + 1024 * secT ≤ (advance s t).now →
    Runs (.correlationWrite t) s fun u => u.bb.corrTick = s.tim.corrTick ∧ u.bb.corrSec = s.tim.corrSec ∧ corrSound u.bb = true ∧
      u.tim.corrWrittenAt = some (w + 1024 * secT)) ∧
  (∀ c s v, admitted s c 0x0911 = true → c.regWrites = [(0x2C, v)] → timRangeOk 0x2C v = true →
    Runs (.timCfgSet c) s fun u => UnderQuorum s c (plainQuorum s c 0x0911 [routine s 0]) u fun _ _ =>
      AnsweredOk u c [] ∧ holdover u = field v 11 0 * secT ∧ stepNs u = field v 31 16 * 1000) ∧
  (∀ c s a v, admitted s c 0x0911 = true → (a, v) ∈ c.regWrites → timRangeOk a v = false →
    Runs (.timCfgSet c) s fun u => u = answerStatus s c.reply .invalidParameter) ∧
  (∀ c s, admitted s c 0x0912 = true → timSource s = 2 →
    Runs (.timSet c) s fun u => UnderQuorum s c (plainQuorum s c 0x0912 [critical s 0]) u fun _ _ =>
      AnsweredOk u c [] ∧ u.tim.setSec = some (c.nat 0x32 % 2 ^ 48) ∧ u.tim.locked = false)

/-- LANTERN_SAMPLE, DETECTOR_SELF_TEST, HOLD_EXPIRY, FAULT_ALARM, ZEROIZE_SECOND_DECISION, PLL_LOCK_LOST, PLL_LOCK_GAINED (R19, R424,
R425, R431, R433, R434): a sample raises a source whose median has left its window and takes the alarms that wait, the self-test sets
DETECTOR_FAULT, the severity falls with the hold, the second decision stands or is told, and a lost lock is remembered, that of an ONFI
channel whatever the others do. -/
def LanternWatches : Prop :=
  (∀ x t s, (advance s t).now < s.lan.sampledAt + sampleT → Runs (.lanternSample x t) s fun u => u = advance s t) ∧
  (∀ x t s, s.lan.power = .run → s.lan.sampledAt + sampleT ≤ (advance s t).now → s.lan.faultQ ≠ [] →
    Runs (.lanternSample x t) s fun u => bit u.lan.active 8 = true ∧ u.lan.sampledAt = (advance s t).now ∧
      u.lan.samples = s.lan.samples + 1) ∧
  (∀ x t s src k h, s.lan.power = .run → s.lan.sampledAt + sampleT ≤ (advance s t).now → s.lan.faultQ = [] → s.lan.holds = [] →
    x.levels = [] → x.trips = [] → src ≤ 6 → k / 1024 = src → (k, h) ∈ s.lan.history → medianZone h = 4 ∨ medianZone h = 0 →
    Runs (.lanternSample x t) s fun u => bit u.lan.active src = true) ∧
  (∀ l t s, 1024 ≤ s.lan.samples → s.lan.power = .run → bit s.lan.active 7 = false → (∃ e ∈ l, e.1 ≤ 5) →
    Runs (.detectorSelfTest l t) s fun u => u.lan.samples = 0 ∧ bit u.lan.active 7 = true ∧
      ∀ e ∈ l, e.1 ≤ 5 → e.1 * 2 + (if e.2 then 1 else 0) ∈ u.lan.failed) ∧
  (∀ t s, s.lan.power = .run →
    Runs (.holdExpiry t) s fun u => u.lan.severity = severityNow (advance s t) ∧ u.lan.active = s.lan.active) ∧
  (∀ (b : Fin 256) (n : Fin 65536) t s,
    Runs (.faultAlarm b n t) s fun u => u.lan.faultQ = s.lan.faultQ ++ [(b.val, n.val)] ∧ u.lan.active = s.lan.active) ∧
  (∀ t s z, s.lan.zeroizing = some z → z.entry = none →
    Runs (.zeroizeSecondDecision true t) s fun u => u.bb.root = zeros 32 ∧ u.lan.faultQ = s.lan.faultQ ++ [(11, 0)] ∧
      u.lan.zeroizing = none) ∧
  (∀ t s z q, s.lan.zeroizing = some z → z.entry = some q →
    Runs (.zeroizeSecondDecision false t) s fun u => u.lan.faultQ = s.lan.faultQ ++ [(11, 0)] ∧ u.bb.root = s.bb.root ∧
      ∀ i e, s.bb.log = [(i, e)] → e.seq = q → u.bb.log = [(i, { e with disagree := true })]) ∧
  (∀ (c : Fin 8) t s, c ≠ 3 → bit s.id.clk c = true →
    Runs (.pllLockLost c t) s fun u => bit u.id.clk c = false ∧ bit u.id.clk (16 + c) = true) ∧
  (∀ t s, Runs (.pllLockLost 7 t) s fun u => bit u.id.clk 7 = false ∧ bit u.id.clk 23 = true) ∧
  (∀ (c : Fin 8) t s, Runs (.pllLockGained c t) s fun u => bit u.id.clk c = true ∧ bit u.id.clk (16 + c) = bit s.id.clk (16 + c))

/-- LAN_ALARM_SET, LAN_PIN_SET, LAN_CLEAR, LAN_BATLOG_READ, LAN_DETECTOR_TEST (R426, R427, R436, R445): a setting that lowers a source or
a pin needs the critical quorum of domain 0 and one that does not is written at once; arming a pair draws the seed of its LFSR; a clear
leaves only the latches of active sources; the log is answered as 32 entries, and the test answers twelve detectors. -/
def LanternCommands : Prop :=
  (∀ c s x v, admitted s c 0x0902 = true → c.regWrites = [(0x100 + 4 * x, v)] → sourceOk (0x100 + 4 * x) v = true →
    lowersSource s x v = false →
    Runs (.lanAlarmSet c) s fun u => AnsweredOk u c [] ∧ srcCfg u x = storeMasked (srcCfg s x) v 0xF) ∧
  (∀ c s x v, admitted s c 0x0902 = true → c.regWrites = [(0x100 + 4 * x, v)] → sourceOk (0x100 + 4 * x) v = true →
    lowersSource s x v = true →
    Runs (.lanAlarmSet c) s fun u => UnderQuorum s c (plainQuorum s c 0x0902 [critical s 0]) u fun _ _ =>
      AnsweredOk u c [] ∧ srcSeverity u x = field v 2 0) ∧
  (∀ c s n v, admitted s c 0x0903 = true → c.regWrites = [(0x200 + 4 * n, v)] → n ≤ 7 →
    pairOk (tmpCfg (setTmp s n v) (2 * (n / 2))) (tmpCfg (setTmp s n v) (2 * (n / 2) + 1)) = true →
    pairArmed (setTmp s n v) (n / 2) = false → lowersPin s (0x200 + 4 * n, v) = false →
    Runs (.lanPinSet c) s fun u => AnsweredOk u c [] ∧ pinMode u n = field v 2 0) ∧
  (∀ c s n v, admitted s c 0x0903 = true → c.regWrites = [(0x200 + 4 * n, v)] → n ≤ 7 →
    pairOk (tmpCfg (setTmp s n v) (2 * (n / 2))) (tmpCfg (setTmp s n v) (2 * (n / 2) + 1)) = true →
    pairArmed (setTmp s n v) (n / 2) = false → lowersPin s (0x200 + 4 * n, v) = true →
    Runs (.lanPinSet c) s fun u => UnderQuorum s c (plainQuorum s c 0x0903 [critical s 0]) u fun _ _ =>
      AnsweredOk u c [] ∧ pinMode u n = field v 2 0) ∧
  (∀ c s k a b v x, admitted s c 0x0903 = true → c.regWrites = [(0x200 + 8 * k, a), (0x204 + 8 * k, b)] → k ≤ 3 →
    field a 2 0 = 3 → field b 2 0 = 4 → pinMode s (2 * k) = 0 → pinMode s (2 * k + 1) = 0 → bit (tmpCfg s (2 * k)) 3 = false →
    bit (tmpCfg s (2 * k + 1)) 3 = false → draw s 1 false 4 = (v, .ok x) →
    Runs (.lanPinSet c) s fun u => AnsweredOk u c [] ∧ pinMode u (2 * k) = 3 ∧ pinMode u (2 * k + 1) = 4 ∧
      u.lan.lfsr.look k = some (BitVec.ofNat 32 (leNat x))) ∧
  (∀ c s, admitted s c 0x0904 = true →
    Runs (.lanClear c) s fun u => UnderQuorum s c (plainQuorum s c 0x0904 [routine s 0]) u fun _ _ =>
      u.lan.latched = s.lan.latched &&& s.lan.active ∧ u.lan.active = s.lan.active ∧
        AnsweredOk u c [.number (s.lan.latched &&& s.lan.active).toNat]) ∧
  (∀ c s, admitted s c 0x0905 = true →
    Runs (.lanBatlogRead c) s fun u => u = answerOk s c []
      (((List.range 32).map fun i => .blob (((s.bb.log.look i).map batLogBytes).getD (zeros 16))) ++ [.blob (corrBytes s)])) ∧
  (∀ c s, admitted s c 0x0906 = true →
    Runs (.lanDetectorTest c) s fun u => AnsweredOk u c
        [.blob ((List.range 12).map fun k => if c.facts.getD k 1 = 0 then 0 else 1)] ∧
      ∀ k, k < 12 → (k ∈ u.lan.failed ↔ c.facts.getD k 1 = 0))

/-- LCY_TRANSITION, LCY_TEST_EXIT, LCY_NONCE, LCY_LOG_READ, LCY_DEBUG_UNLOCK, LCY_DEBUG_LOCK, DBG_LOCK, DEBUG_CERT_EXPIRY (R402, R405,
R407, R409, R416, R417, R419, R420): a transition the state does not reach, a spent token, a missing precondition and SUSPENDED are
refused in that order; the first one is written into both copies and ends in a reset; a certificate that passes its checks is installed
and ends when it is locked or expires. -/
def LifeCycleCommands : Prop :=
  (∀ c s st, admitted s c 0x0810 = true → c.body.bytes.length = 8 → allZero (c.body.bytes.drop 2) = true →
    (0x10 ≤ leAt c.body.bytes 0 1 ∧ leAt c.body.bytes 0 1 ≤ 0x1F → leAt c.body.bytes 1 1 = leAt c.body.bytes 0 1 - 0x10) →
    transitionGate s c (leAt c.body.bytes 0 1) = some st →
    Runs (.lcyTransition c) s fun u => u = answerStatus s c.reply st) ∧
  (∀ c s, c.caller = .tap → s.lcy.tap.ir = 0x20 → firmwareRuns s = true → domainKnown s c.domain = true → itemsFault 0x0810 c.body = false → c.body.bytes = [2, 0, 0, 0, 0, 0, 0, 0] →
    s.lcy.state = 1 → s.die.serialFused = true → suspended s = false → c.facts = [] →
    Runs (.lcyTransition c) s fun u => field u.id.resetCause 3 0 = 3 ∧ u.lcy.state = 1 ∧
      u.die.copyA = s.die.copyA ++ [{ state := 2, origin := 0, seq := s.die.copyA.length + 1 }] ∧
      u.die.copyB = s.die.copyB ++ [{ state := 2, origin := 0, seq := s.die.copyA.length + 1 }]) ∧
  (∀ c s, c.caller = .tap → s.lcy.tap.ir = 0x20 → firmwareRuns s = true → domainKnown s c.domain = true → itemsFault 0x0811 c.body = false → inTest s = true → c.facts.getD 1 0 = 0 →
    Runs (.lcyTestExit c) s fun u => field u.id.resetCause 3 0 = 3 ∧ u.die.copyA.length = s.die.copyA.length + 1 ∧
      u.die.copyA.getLast? = some { state := s.lcy.origin, origin := originFor s.lcy.state s.lcy.origin, seq := s.die.copyA.length + 1 } ∧
      u.lcy.state = s.lcy.state) ∧
  (∀ c s v b, admitted s c 0x0802 = true → draw s 1 false 32 = (v, .ok b) →
    Runs (.lcyNonce c) s fun u => AnsweredOk u c [.nonce b] ∧
      ∃ n, u.lcy.nonce = some n ∧ n.value = b ∧ n.deadline = lanternTick s + 3600 * 32768) ∧
  (∀ c s, admitted s c 0x0830 = true → Runs (.lcyLogRead c) s fun u => ∃ items, u = answerOk s c [] items ∧
    .blob (erasedTail 1024 (s.die.copyA.flatMap entryBytes)) ∈ items ∧ .blob (erasedTail 1024 (s.die.copyB.flatMap entryBytes)) ∈ items ∧
    .blob (erasedTail 2048 (s.die.log.flatMap logBytes)) ∈ items) ∧
  (∀ c s, admitted s c 0x0820 = true → c.body.bytes.length = 128 → unlockGate s c.body.bytes = none → c.facts.headD 1 = 1 →
    Runs (.lcyDebugUnlock c) s fun u => UnderQuorum s c (plainQuorum s c 0x0820 [critical s 0]) u fun _ _ =>
      AnsweredOk u c [] ∧ u.lcy.cert = some (certOf c.body.bytes)) ∧
  (∀ c s st, admitted s c 0x0820 = true → c.body.bytes.length = 128 → unlockGate s c.body.bytes = some st →
    Runs (.lcyDebugUnlock c) s fun u => u = answerStatus s c.reply st) ∧
  (∀ c s x, admitted s c 0x0821 = true → s.lcy.cert = some x →
    Runs (.lcyDebugLock c) s fun u => u = answerOk (endCertificate s 2) c [] [] ∧ u.lcy.cert = none) ∧
  (∀ m v t s, m.isSecure = true → bit v 0 = true → Runs (.dbgLock m v t) s fun u => u.lcy.cert = none) ∧
  (∀ t s x, s.lcy.cert = some x → x.notAfter < lanternTick (advance s t) →
    Runs (.debugCertExpiry t) s fun u => u.lcy.cert = none ∧ u.lcy.trace = []) ∧
  (∀ t s x, s.lcy.cert = some x → lanternTick (advance s t) ≤ x.notAfter →
    Runs (.debugCertExpiry t) s fun u => u = advance s t)

/-- EXTEST, SAMPLE_PRELOAD, IDCODE, CLAMP, HIGHZ, LCY_CMD, DAP, SCAN_CTRL, BYPASS, TAP_RESET (R412): each instruction is selected where
the life cycle and the debug rights allow it, and acts as BYPASS where they do not; IDCODE shifts 0x1414447B out, low bit first. -/
def TapInstructions : Prop :=
  (∀ l p t s, boundaryAllowed s = true →
    Runs (.tapExtest l p t) s fun u => u.lcy.tap.ir = 0 ∧ u.lcy.tap.boundary = l ∧ u.out = s.out ++ [.tap (p.take l.length)]) ∧
  (∀ l p t s, boundaryAllowed s = false →
    Runs (.tapExtest l p t) s fun u => u.lcy.tap.ir = 0xFF ∧ u.out = s.out ++ [.tap ((false :: l).take l.length)]) ∧
  (∀ l p t s, Runs (.samplePreload l p t) s fun u => u.lcy.tap.ir = 1 ∧ u.lcy.tap.boundary = l ∧
    u.out = s.out ++ [.tap (p.take l.length)]) ∧
  (∀ l t s, l.length = 32 → Runs (.tapIdcode l t) s fun u => u.lcy.tap.ir = 2 ∧
    u.out = s.out ++ [.tap ((List.range 32).map fun i => bit 0x1414447B i)]) ∧
  (∀ l t s, boundaryAllowed s = true → Runs (.tapClamp l t) s fun u => u.lcy.tap.ir = 3 ∧
    u.out = s.out ++ [.tap ((false :: l).take l.length)] ∧ u.lcy.tap.boundary = s.lcy.tap.boundary) ∧
  (∀ l t s, boundaryAllowed s = true → Runs (.tapHighz l t) s fun u => u.lcy.tap.ir = 4 ∧
    u.out = s.out ++ [.tap ((false :: l).take l.length)]) ∧
  (∀ l t s, boundaryAllowed s = false → Runs (.tapClamp l t) s fun u => u.lcy.tap.ir = 0xFF ∧
    Runs (.tapHighz l t) s fun w => w = u) ∧
  (∀ t s, Runs (.lcyCmd t) s fun u => u.lcy.tap.ir = 0x20) ∧
  (∀ l t s, rightsInForce s ≠ 0 → Runs (.tapDap l t) s fun u => u.lcy.tap.ir = 0x21) ∧
  (∀ l t s, rightsInForce s = 0 → Runs (.tapDap l t) s fun u => u.lcy.tap.ir = 0xFF) ∧
  (∀ l t s, hasRight s 7 = true → Runs (.scanCtrl l t) s fun u => u.lcy.tap.ir = 0x22 ∧ ∃ b, b.length = l.length ∧
    u.out = s.out ++ [.tap b]) ∧
  (∀ l t s, hasRight s 7 = false → Runs (.scanCtrl l t) s fun u => u.lcy.tap.ir = 0xFF) ∧
  (∀ l t s, Runs (.tapBypass l t) s fun u => u.lcy.tap.ir = 0xFF ∧ u.out = s.out ++ [.tap ((false :: l).take l.length)]) ∧
  (∀ t s, Runs (.tapReset t) s fun u => u.lcy.tap.ir = 2 ∧ u.out = s.out)

/-- MAIN_PG_RISE, MAIN_PG_FALL, VSTBY_WINDOW_CHANGE, VBAT_WINDOW_CHANGE, SYS_RESET, SOFTWARE_RESET, INTERNAL_RESET_RELEASE, CONFIG_RESTORE
(R486 to R490, R494, R496, R503, R504): main power's rise boots from the die, its fall keeps the battery domain, a supply change moves
Lantern between its states, a reset that keeps main power records its cause, and the release runs the boot ROM; the secure world restores
a record that passes its tag, and nothing of one that does not. -/
def PowerAndResets : Prop :=
  (∀ x t s, s.lan.mainGood = false → x.locks = true →
    Runs (.mainPgRise x t) s fun u => u.lan.mainGood = true ∧ u.die.boots = min 65535 (s.die.boots + 1) ∧ bit u.id.ready 1 = true ∧
      field u.id.resetCause 3 0 = 0 ∧ u.id.chamberId = x.chamberId.toNat) ∧
  (∀ t s, s.lan.mainGood = true →
    Runs (.mainPgFall t) s fun u => u.lan.mainGood = false ∧ u.id.ready = 1 ∧ u.die = s.die ∧ secureUp u = false ∧
      (s.lan.standbyOk = true ∨ s.lan.vbat = true → u.bb = s.bb)) ∧
  (∀ t s, s.lan.mainGood = false → Runs (.vstbyWindowChange true t) s fun u => u.lan.power = .standby ∧ u.bb = s.bb) ∧
  (∀ t s, s.lan.vbat = true → s.lan.mainGood = false →
    Runs (.vstbyWindowChange false t) s fun u => u.lan.power = .battery ∧ u.bb = s.bb) ∧
  (∀ t s, s.lan.standbyOk = false → Runs (.vbatWindowChange false t) s fun u => u.lan.power = .dead ∧ u.bb = {}) ∧
  (∀ t s, s.lan.standbyOk = false → s.lan.mainGood = false →
    Runs (.vbatWindowChange true t) s fun u => u.lan.power = .battery ∧ u.bb = s.bb) ∧
  (∀ t s, s.lan.mainGood = true →
    Runs (.sysReset t) s fun u => u.id.resetCause = 1 ∧ u.id.ready = 1 ∧ u.bb = s.bb ∧ u.lan.mainGood = true) ∧
  (∀ m t s, m.isSecure = true →
    Runs (.softwareReset m 0xB0070001 t) s fun u => u.id.resetCause = 2 ∧ u.id.ready = 1 ∧ u.bb = s.bb) ∧
  (∀ m t s, m.isSecure = true → Runs (.softwareReset m 1 t) s fun u => u = advance s t) ∧
  (∀ x t s, s.lan.mainGood = true → bit s.id.ready 1 = false → x.locks = true →
    Runs (.internalResetRelease x t) s fun u => bit u.id.ready 1 = true ∧ u.die.boots = min 65535 (s.die.boots + 1) ∧
      u.mbx.mgmtEn = x.mgmtEn) ∧
  (∀ t s r x w, secureUp s = true → s.psg.restored = false → s.kst.root.isSome = true → s.die.restore = some (r, x) →
    restoreSound s (r, x) = true → w = drawSeeds { advance s t with psg := { (advance s t).psg with restored := true } } →
    Runs (.configRestore true t) s fun u => u = releaseSync (refreshLinks (r.ports.foldl (fun s e => writePortCfg s e.1 e.2)
      (restoreSettings (restorePassage w r) r)))) ∧
  (∀ t s r x w, secureUp s = true → s.psg.restored = false → s.kst.root.isSome = true → s.die.restore = some (r, x) →
    restoreSound s (r, x) = false → w = drawSeeds { advance s t with psg := { (advance s t).psg with restored := true } } →
    Runs (.configRestore true t) s fun u => u = event w 1 0 0 ∧ u.psg.tables = s.psg.tables ∧ bit u.id.ready 16 = bit s.id.ready 16) ∧
  (∀ b t s, secureUp s = true → s.psg.restored = false → s.kst.root.isSome = true → s.die.restore = none →
    Runs (.configRestore b t) s fun u => u.psg.restored = true ∧ u = releaseSync (drawSeeds { advance s t with
      psg := { (advance s t).psg with restored := true } })) ∧
  (∀ b t s, secureUp s = false → Runs (.configRestore b t) s fun u => u = advance s t)

/-- KAR_FOUND, KAR_JOIN, KAR_ADMIT, KAR_REVOKE_MEMBER, KAR_LEAVE, KAR_DOMAIN_REPLICATE, KAR_REPLICA_SET (R462 to R467, R478, R484): a
Karst is founded with this device as member 0, a join request is made and judged, and each change of the roster or of a replica set is
proposed under the critical quorum that the rule names. -/
def KarstChangesAreProposed : Prop :=
  (∀ c s, admitted s c 0x0B01 = true →
    leastOf (memberConditions s ++ [(s.geo.state != .normal, .notReady), (karState s != 0, .busyLocked)]) = none →
    drawWaits s 3 16 = false → drawWaits s 1 128 = false →
    Runs (.karFound c) s fun u => UnderQuorum s c (plainQuorum s c 0x0B01 [critical s 0]) u fun v _ =>
      ∀ w id x b, draw v 3 false 16 = (w, .ok id) → draw w 1 false 128 = (x, .ok b) → AnsweredOk u c [] ∧ u.flash.karst.state = 2 ∧
        u.flash.karst.id = id ∧ u.flash.karst.member = 0 ∧ u.flash.karst.roster.length = 1 ∧ rosterVersion u = 1) ∧
  (∀ c s, admitted s c 0x0B02 = true →
    leastOf (memberConditions s ++ [(karState s == 1 || karState s == 2, .busyLocked), (s.die.attestation.isNone, .notReady)]) = none →
    drawWaits s 1 128 = false →
    Runs (.karJoin c) s fun u => UnderQuorum s c (plainQuorum s c 0x0B02 [critical s 0]) u fun v _ =>
      ∀ w b, draw v 1 false 128 = (w, .ok b) → (∃ r, AnsweredOk u c [.blob r]) ∧ u.flash.karst.state = 1 ∧
        u.flash.karst.id = c.bytes 0x33) ∧
  (∀ c s, admitted s c 0x0B03 = true → karActive s = true → inCouncil s = true → c.body.bytes.take 16 = s.flash.karst.id →
    (s.flash.karst.roster.any fun e => e.2.live && e.2.serial == slice c.body.bytes 16 16) = false → freeMember s < 16384 →
    Runs (.karAdmit c) s fun u => (Config.joinValid c.body.bytes = false → u = answerRoom s c.reply .invalidSignature) ∧
      (Config.joinValid c.body.bytes = true → UnderQuorum s c (plainQuorum s c 0x0B03 [critical s 0]) u fun v reasons =>
        ∃ e : RosterEntry, e.member = freeMember s ∧ e.serial = slice c.body.bytes 16 16 ∧ e.live = true ∧
          e.keyDigest = Config.sha384 (slice c.body.bytes 32 2049) ∧ u = karChange v rosterNo (.roster [e])
            { ops := [], reply := some c.reply, reasons := reasons, items := [.item 0x0F (leBytes 2 (freeMember s))] })) ∧
  (∀ c s, admitted s c 0x0B04 = true → karActive s = true → inCouncil s = true → (liveMember s (c.nat 0x0F)).isSome = true →
    Runs (.karRevokeMember c) s fun u => UnderQuorum s c (plainQuorum s c 0x0B04 [critical s 0]) u fun v reasons =>
      u = karChange v rosterNo (.revoke [] [c.nat 0x0F]) { ops := [], reply := some c.reply, reasons := reasons }) ∧
  (∀ c s, admitted s c 0x0B05 = true → karActive s = true →
    Runs (.karLeave c) s fun u => UnderQuorum s c (plainQuorum s c 0x0B05 [critical s 0]) u fun v reasons =>
      u = karChange { v with kar := { v.kar with leaving := true } } rosterNo (.revoke [] [selfNo v])
        { ops := [], reply := some c.reply, reasons := reasons }) ∧
  (∀ c s, admitted s c 0x0B05 = true → karActive s = false →
    Runs (.karLeave c) s fun u => u = answerStatus s c.reply .notReady) ∧
  (∀ c s, admitted s c 0x0B10 = true → karActive s = true → c.domain ≠ 0 → repDomain s c.domain = none →
    membersOk s (namedMembers c) = true → (namedMembers c).contains (selfNo s) = true →
    Runs (.karDomainReplicate c) s fun u => UnderQuorum s c (plainQuorum s c 0x0B10 [critical s c.domain]) u fun v reasons =>
      ∃ w, w = updRep v c.domain (fun _ => { primary := selfNo v, replicas := [selfNo v] }) ∧
        u = karChange w c.domain (.replicaSet (namedMembers c) (some (domainContent w c.domain)))
          { ops := [], reply := some c.reply, reasons := reasons }) ∧
  (∀ c s, admitted s c 0x0B11 = true → karActive s = true → isReplica s c.domain (selfNo s) = true → membersOk s (namedMembers c) = true →
    Runs (.karReplicaSet c) s fun u => UnderQuorum s c (plainQuorum s c 0x0B11 [critical s c.domain]) u fun v reasons =>
      u = karChange v c.domain (.replicaSet (namedMembers c)
        (if (namedMembers c).any fun m => !isReplica v c.domain m then some (domainContent v c.domain) else none))
          { ops := [], reply := some c.reply, reasons := reasons })

/-- KAR_DOMAIN_READ, KAR_STATUS_READ, KAR_CFG_SET, KAR_OUT_TAKE, KAR_IN_GIVE, KAR_FRAME_SEND (R470, R471, R483, R484): the reads answer, a
setting out of range is refused, an empty outbound queue answers nothing, an inbound message is checked for form, keys and sequence before
it joins the queue, and a device frame needs a Karst port and a held handle. The layout that KAR_DOMAIN_READ answers in is the model's
choice (log entry 65). -/
def KarstTransport : Prop :=
  (∀ c s r, admitted s c 0x0B12 = true → karState s = 2 → repDomain s c.domain = some r →
    Runs (.karDomainRead c) s fun u => u = answerOk s c [] [.blob (1 :: leBytes 8 r.version ++ leBytes 8 r.term ++
      leBytes 2 r.primary ++ r.replicas.flatMap fun m => leBytes 2 m ++ leBytes 1 (bitAt (reachable_ s m) 0))]) ∧
  (∀ c s, admitted s c 0x0B20 = true →
    Runs (.karStatusRead c) s fun u => u = answerOk s c [] (karOffsets.map fun o => .reg (0x02200000 + o) ((karReg s o).getD 0))) ∧
  (∀ c s v, admitted s c 0x0B21 = true → c.regWrites = [(0x1024, v)] → 500 ≤ field v 15 0 → field v 15 0 ≤ 60000 →
    100 ≤ field v 31 16 → field v 31 16 ≤ 60000 →
    Runs (.karCfgSet c) s fun u => UnderQuorum s c (plainQuorum s c 0x0B21 [routine s 0]) u fun _ _ => AnsweredOk u c [] ∧ u.kar.timing = v) ∧
  (∀ c s e, admitted s c 0x0B21 = true → e ∈ c.regWrites → karWriteMask e.1 e.2 = none →
    Runs (.karCfgSet c) s fun u => u = answerStatus s c.reply .invalidParameter) ∧
  (∀ c s, admitted s c 0x0B40 = true → s.kar.outUrgent = [] → s.kar.outNormal = [] →
    Runs (.karOutTake c) s fun u => u = answerOk s c [] []) ∧
  (∀ c s e rest, admitted s c 0x0B40 = true → s.kar.outUrgent = e :: rest → s.kar.outNormal = [] → (∀ x ∈ e :: rest, sendable s x = true) →
    Runs (.karOutTake c) s fun u => ∃ b, (sealPart s e).1 = b ∧ AnsweredOk u c [.item 0x0F (leBytes 2 e.dest), .item 0x34 (leBytes 4 s.kar.nextHandle), .blob b] ∧
      u.kar.taken.look s.kar.nextHandle = some b ∧ u.kar.nextHandle = (s.kar.nextHandle + 1) % 2 ^ 32) ∧
  (∀ c s ty n, admitted s c 0x0B41 = true → ty = beNat (slice c.body.bytes 3 1) → isHandshake ty = true → n = beNat (slice c.body.bytes 22 2) →
    c.body.bytes.length = 24 + n → n ≤ 8192 → be16 c.body.bytes 0 = 0x4B41 → beNat (slice c.body.bytes 2 1) = 1 →
    beNat (slice c.body.bytes 20 2) = 2 ^ 15 →
    Runs (.karInGive c) s fun u => AnsweredOk u c [] ∧ ∃ x, u.kar.inbound = s.kar.inbound ++ [x] ∧ x.type = ty ∧
      x.sender = beNat (slice c.body.bytes 16 2) ∧ x.payload = slice c.body.bytes 24 n) ∧
  (∀ c s n, admitted s c 0x0B41 = true → isHandshake (beNat (slice c.body.bytes 3 1)) = false → n = beNat (slice c.body.bytes 22 2) →
    c.body.bytes.length = 40 + n → n ≤ 8192 → be16 c.body.bytes 0 = 0x4B41 → beNat (slice c.body.bytes 2 1) = 1 →
    sessionKeys s (beNat (slice c.body.bytes 16 2)) (beNat (slice c.body.bytes 4 4)) = none →
    Runs (.karInGive c) s fun u => u.kar.authFail = sat64 s.kar.authFail ∧ u.kar.inbound = s.kar.inbound ∧
      ∃ v, u = answerStatus v c.reply .notPermitted) ∧
  (∀ c s n src id seq k rx, admitted s c 0x0B41 = true → isHandshake (beNat (slice c.body.bytes 3 1)) = false →
    n = beNat (slice c.body.bytes 22 2) → c.body.bytes.length = 40 + n → n ≤ 8192 → be16 c.body.bytes 0 = 0x4B41 →
    beNat (slice c.body.bytes 2 1) = 1 → id = beNat (slice c.body.bytes 4 4) → seq = beNat (slice c.body.bytes 8 8) →
    src = beNat (slice c.body.bytes 16 2) → beNat (slice c.body.bytes 20 2) = 2 ^ 15 → sessionKeys s src id = some (k, rx) →
    Runs (.karInGive c) s fun u =>
      (seq ≤ rx → u = answerStatus (authFail s) c.reply .invalidParameter) ∧
      (Config.cmac (halfKey k src (selfNo s)) (c.body.bytes.take (24 + n)) ≠ c.body.bytes.drop (24 + n) → rx < seq →
        u = answerStatus (authFail s) c.reply .tagMismatch) ∧
      (Config.cmac (halfKey k src (selfNo s)) (c.body.bytes.take (24 + n)) = c.body.bytes.drop (24 + n) → rx < seq →
        AnsweredOk u c [] ∧ u.kar.msgRx = sat64 s.kar.msgRx ∧ ∃ x, u.kar.inbound = s.kar.inbound ++ [x] ∧ x.sender = src ∧
          x.payload = slice c.body.bytes 24 n)) ∧
  (∀ c s msg v ip udp, admitted s c 0x0B42 = true → s.kar.taken.look (c.nat 0x34) = some msg → karPort s (c.nat 7) = true →
    isChamber s (c.nat 7) = false → (wire s (wireOf (c.nat 7))).active.modeOf < 2 → udpPlace (c.bytes 0x35) = some (v, ip, udp) →
    be16 (c.bytes 0x35) (udp + 2) = field s.kar.cfg 15 0 →
    (c.bytes 0x35).length + msg.length + 4 ≤ (port s (c.nat 7)).maxFrame →
    Runs (.karFrameSend c) s fun u => u.kar.taken.look (c.nat 0x34) = none ∧ ∃ w f, f = karFrame (c.bytes 0x35) msg v ip udp ∧
      u = answerOk (egressJoin w (c.nat 7) (f ++ leBytes 4 (crc32 f).toNat) true) c [] []) ∧
  (∀ c s msg, admitted s c 0x0B42 = true → s.kar.taken.look (c.nat 0x34) = some msg → karPort s (c.nat 7) = false →
    (c.bytes 0x35).length + msg.length + 4 ≤ (port s (c.nat 7)).maxFrame →
    Runs (.karFrameSend c) s fun u => u = answerStatus s c.reply .notPermitted)

/-- HEARTBEAT, PROPOSE, SIGNED, COMMIT, DECLINE, FORWARD, VOTE_REQUEST, VOTE (R472, R474 to R476): each is taken from the inbound queue; a
primary's heartbeat is noted; a stale proposal is declined, a sound one signed and one whose signature fails declined; a record commits
once a majority has signed, and one that leaves a gap is caught up; a change carried to the primary is proposed, and its result ends what
waits; one vote is granted in a term. -/
def KarstReplication : Prop :=
  (∀ p d g t s r n, Received s p (.heartbeat d g n) → repDomain s d = some r → r.term = g → r.primary = p → n ≤ r.version →
    Runs (.karHeartbeat p d g n t) s fun u => u.kar.inbound = [] ∧ (karDomain u d).lastHeard = (advance s t).now) ∧
  (∀ p c g t s r, Received s p (.propose c g) → repDomain s c.domain = some r → c.term < r.term → (∀ l x, c.body ≠ .replicaSet l x) →
    Runs (.karPropose p c g t) s fun u => u.kar.inbound = [] ∧
      u.kar.outNormal = s.kar.outNormal ++ [{ dest := p, msg := .decline c.domain c.version .busyLocked r.primary }]) ∧
  (∀ p c g t s r k, Received s p (.propose c g) → repDomain s c.domain = some r → c.term = r.term → c.proposer = r.primary →
    c.karstId = s.flash.karst.id → r.signed = [] → c.version = r.version + 1 → c.prev = r.head → g.member = c.proposer →
    c.body = .command k none [] → suspended s = false → s.geo.state ≠ .readOnly →
    Runs (.karPropose p c g t) s fun u => u.kar.inbound = [] ∧ (sigOk s c g = true →
      ∃ own x, repDomain u c.domain = some x ∧ x.signed = [(c, [g, own])]) ∧
      (sigOk s c g = false → u.kar.outNormal = s.kar.outNormal ++
        [{ dest := p, msg := .decline c.domain c.version .invalidSignature 0xFFFFFFFF }])) ∧
  (∀ p d n g x b t s r c l, Received s p (.signed d n g x b) → repDomain s d = some r → r.signed = [(c, l)] → c.version = n →
    c.term = g → x.member = p → (l.map (·.member)).contains p = false → r.primary = selfNo s → c.domain = d → r.term = g →
    isMajority r.replicas (r.replicas.countP ((l ++ [x]).map (·.member)).contains) = false →
    Runs (.karSigned p d n g x t) s fun u => u.kar.inbound = [] ∧ (sigOk s c x = true → ∃ y, repDomain u d = some y ∧
      y.signed = [(c, l ++ [x])] ∧ y.version = r.version) ∧ (sigOk s c x = false → repDomain u d = some r)) ∧
  (∀ p d n g x b t s r c l k cmd, Received s p (.signed d n g x b) → repDomain s d = some r → r.signed = [(c, l)] → c.version = n →
    c.term = g → x.member = p → (l.map (·.member)).contains p = false → r.primary = selfNo s → c.domain = d → r.term = g →
    c.body = .command k cmd [] → s.kar.waits = [] →
    isMajority r.replicas (r.replicas.countP ((l ++ [x]).map (·.member)).contains) = true →
    Runs (.karSigned p d n g x t) s fun u => sigOk s c x = true → ∃ y, repDomain u d = some y ∧ y.signed = [] ∧ y.version = n ∧
      u.kar.commits = sat64 s.kar.commits) ∧
  (∀ p c l t s r k cmd, Received s p (.commit c l) → repDomain s c.domain = some r → c.term ≤ r.term → c.version = r.version + 1 →
    c.prev = r.head → c.body = .command k cmd [] →
    Runs (.karCommit p c l t) s fun u => u.kar.inbound = [] ∧ (majoritySigned s r c l = true → ∃ y, repDomain u c.domain = some y ∧
      y.version = c.version ∧ u.kar.commits = sat64 s.kar.commits) ∧
      (majoritySigned s r c l = false → u.flash.karst = s.flash.karst)) ∧
  (∀ p c l t s r, Received s p (.commit c l) → repDomain s c.domain = some r → c.term ≤ r.term → r.version + 1 < c.version →
    Runs (.karCommit p c l t) s fun u => u.kar.inbound = [] ∧ repDomain u c.domain = some r ∧
      ∃ a ∈ u.kar.asks, a.dest = p ∧ a.domain = c.domain ∧ a.msg = .catchupRequest c.domain r.version) ∧
  (∀ p c l t s r, Received s p (.commit c l) → repDomain s c.domain = some r → c.term ≤ r.term → c.version ≤ r.version →
    Runs (.karCommit p c l t) s fun u => u.kar.inbound = [] ∧ u.kar.commits = s.kar.commits ∧ u.flash.karst = s.flash.karst) ∧
  (∀ p d n h t s, Received s p (.decline d n .notReady h) →
    Runs (.karDecline p d n .notReady h t) s fun u => u.kar.inbound = [] ∧ u.kar.asks = s.kar.asks) ∧
  (∀ p d n st h t s, Received s p (.decline d n st h) → st ≠ .notReady → repDomain s d = none →
    Runs (.karDecline p d n st h t) s fun u => u.kar.inbound = [] ∧
      u.kar.asks = s.kar.asks.filter fun a => !(a.dest == p && a.domain == d && isProposal n a.msg)) ∧
  (∀ p i d b t s, Received s p (.forward i d (some b) none) → repDomain s d = none →
    Runs (.karForward p i d (some b) none t) s fun u => u.kar.inbound = [] ∧
      u.kar.outNormal = s.kar.outNormal ++ [{ dest := p, msg := .forward i d none (some .notPermitted) }]) ∧
  (∀ p i d b t s r w, Received s p (.forward i d (some b) none) → repDomain s d = some r → isReplica s d (selfNo s) = true →
    r.primary = selfNo s → w = { advance s t with kar := { s.kar with inbound := [] } } → takeGate w d b = none →
    Runs (.karForward p i d (some b) none t) s fun u =>
      u = refreshKarst (propose w d b { ops := [], reply := none } (some (p, i)))) ∧
  (∀ p i d st t s x, Received s p (.forward i d none (some st)) → s.kar.waits = [x] → x.forwarded = i → x.domain = d → i ≠ 0 →
    Runs (.karForward p i d none (some st) t) s fun u =>
      u = refreshKarst (endWait { advance s t with kar := { s.kar with inbound := [] } } x st)) ∧
  (∀ p d g st sv t s r, Received s p (.voteRequest d g st sv) → repDomain s d = some r → isReplica s d p = true → r.term < g → r.voted < g →
    rankAtLeast (st, sv) (signedRank r) = true →
    Runs (.voteRequest p d g st sv t) s fun u => u.kar.inbound = [] ∧ repDomain u d = some { r with voted := g } ∧
      u.kar.outNormal = s.kar.outNormal ++ [{ dest := p, msg := .vote d g }]) ∧
  (∀ p d g st sv t s r, Received s p (.voteRequest d g st sv) → repDomain s d = some r → g ≤ r.voted →
    Runs (.voteRequest p d g st sv t) s fun u => u.kar.inbound = [] ∧ u.kar.outNormal = s.kar.outNormal ∧ repDomain u d = some r) ∧
  (∀ p d g t s r, Received s p (.vote d g) → repDomain s d = some r → (karDomain s d).candidate = g →
    (karDomain s d).votes.contains p = false → isMajority r.replicas (r.replicas.countP ((karDomain s d).votes ++ [p]).contains) = false →
    Runs (.karVote p d g t) s fun u => (karDomain u d).votes = (karDomain s d).votes ++ [p] ∧ repDomain u d = some r) ∧
  (∀ p d g t s r, Received s p (.vote d g) → repDomain s d = some r → (karDomain s d).candidate = g → g ≠ 0 → r.signed = [] →
    (karDomain s d).votes.contains p = false → isMajority r.replicas (r.replicas.countP ((karDomain s d).votes ++ [p]).contains) = true →
    Runs (.karVote p d g t) s fun u => ∃ x, repDomain u d = some x ∧ x.primary = selfNo s ∧ x.term = g)

/-- CATCHUP_REQUEST, CATCHUP, REVOKE, ROSTER_POLL, ROSTER, OFFER, ACCEPT (R468, R477, R480): a request is answered with the records above
its version; committed records and roster entries are applied in version order; a hello whose checks fail is counted, and one that stands
opens a session under the keys of both parts. -/
def KarstCatchUpAndSessions : Prop :=
  (∀ p d n t s r, Received s p (.catchupRequest d n) → repDomain s d = some r →
    Runs (.catchupRequest p d n t) s fun u => u.kar.inbound = [] ∧
      u.kar.outNormal = s.kar.outNormal ++ [{ dest := p, msg := .catchup d (r.log.filter fun e => decide (n < e.1.version)) }]) ∧
  (∀ p d c l t s r k cmd, Received s p (.catchup d [(c, l)]) → repDomain s d = some r → c.domain = d → c.version = r.version + 1 →
    c.prev = r.head → c.body = .command k cmd [] →
    Runs (.karCatchup p d [(c, l)] t) s fun u => u.kar.inbound = [] ∧ (majoritySigned s r c l = true → ∃ y, repDomain u d = some y ∧
      y.version = c.version) ∧ (majoritySigned s r c l = false → repDomain u d = some r)) ∧
  (∀ p c l t s r m, Received s p (.revoke c l) → c.domain = rosterNo → repDomain s rosterNo = some r → c.body = .revoke [] [m] →
    r.version + 1 < c.version → isReplica s rosterNo (selfNo s) = false → (liveMember s m).isSome = true → m ≠ selfNo s →
    Runs (.karRevoke p c l t) s fun u => u.kar.inbound = [] ∧ (majoritySigned s r c l = true →
      liveMember u m = none ∧ u.kar.revokes = sat32 s.kar.revokes) ∧
      (majoritySigned s r c l = false → u.flash.karst = s.flash.karst)) ∧
  (∀ p n t s, Received s p (.rosterPoll n) → n < rosterVersion s →
    Runs (.rosterPoll p n t) s fun u => u.kar.inbound = [] ∧ u.kar.outNormal = s.kar.outNormal ++
      [{ dest := p, msg := .roster (rosterVersion s) (s.flash.karst.roster.map (·.2)) (replicatedHere s) }]) ∧
  (∀ p n t s, Received s p (.rosterPoll n) → rosterVersion s ≤ n →
    Runs (.rosterPoll p n t) s fun u => u.kar.inbound = [] ∧ u.kar.outNormal = s.kar.outNormal) ∧
  (∀ p n l d t s, Received s p (.roster n l d) → n ≤ rosterVersion s →
    Runs (.karRoster p n l d t) s fun u => u.kar.inbound = [] ∧ u.flash.karst = s.flash.karst) ∧
  (∀ p n e t s, Received s p (.roster n [e] []) → rosterVersion s < n → e.live = true →
    Runs (.karRoster p n [e] [] t) s fun u => u.kar.inbound = [] ∧ u.flash.karst.roster.look e.member = some e) ∧
  (∀ p h t s, Received s p (.offer h) → h.member ≠ p →
    Runs (.karOffer p h t) s fun u => u.kar.inbound = [] ∧ u.kar.authFail = sat64 s.kar.authFail ∧ u.kar.sessions = s.kar.sessions) ∧
  (∀ p h t s, Received s p (.offer h) → h.member = p → s.kar.offering = [] → sessionRoom s p = true →
    Runs (.karOffer p h t) s fun u => u.kar.inbound = [] ∧ (helloOk s h [] = false → u.kar.authFail = sat64 s.kar.authFail) ∧
      (helloOk s h [] = true → ∀ b w, drawHello { advance s t with kar := { s.kar with inbound := [] } } = some (b, w) →
        (acceptOf w h b = none → u.kar.authFail = sat64 s.kar.authFail) ∧ ∀ a keys x, acceptOf w h b = some (a, keys, x) →
          (∃ y, u.kar.sessions.look p = some y ∧ y.id = s.kar.nextSession ∧ y.keys = keys) ∧
          ({ dest := p, msg := .accept a, session := s.kar.nextSession } : KarOut) ∈ u.kar.outNormal)) ∧
  (∀ p h t s, Received s p (.accept h) → s.kar.offering.look p = none →
    Runs (.karAccept p h t) s fun u => u.kar.inbound = [] ∧ u.kar.authFail = sat64 s.kar.authFail ∧ u.kar.sessions = s.kar.sessions) ∧
  (∀ p h t s o, Received s p (.accept h) → s.kar.offering.look p = some o → h.member = p → sessionRoom s p = true →
    Runs (.karAccept p h t) s fun u => u.kar.inbound = [] ∧ u.kar.offering.look p = none ∧
      (helloOk s h (offerDigest o.hello) = true → allZero (x25519 o.xSecret h.xKey) = false →
        ∃ y, u.kar.sessions.look p = some y ∧ y.openedAt = (advance s t).now ∧
          y.keys = karKeys (Config.kemDecaps o.kemSecret h.kem) (x25519 o.xSecret h.xKey) o.hello h) ∧
      (helloOk s h (offerDigest o.hello) = false → u.kar.authFail = sat64 s.kar.authFail ∧ u.kar.sessions = s.kar.sessions))

/-- PRIMARY_HEARTBEAT_SEND, PRIMARY_TIMEOUT, MESSAGE_RESEND, COMMIT_TIMEOUT, ROSTER_POLL_TIMER, SESSION_RENEWAL, OLD_KEY_EXPIRY (R468,
R470, R472, R476, R478, R480): each timer acts once its time has come and does nothing before. -/
def KarstTimers : Prop :=
  (∀ d t s r, secureUp s = true → karActive s = true → repDomain s d = some r → r.primary = selfNo s →
    (karDomain s d).lastSend + primaryTime s / 4 ≤ (advance s t).now →
    Runs (.primaryHeartbeatSend d t) s fun u => (karDomain u d).lastSend = (advance s t).now ∧
      ∀ m ∈ otherReplicas s d, ({ dest := m, msg := .heartbeat d r.term r.version } : KarOut) ∈ u.kar.outNormal) ∧
  (∀ d j t s r, secureUp s = true → karActive s = true → suspended s = false → repDomain s d = some r → isReplica s d (selfNo s) = true →
    r.primary ≠ selfNo s → j ≤ primaryTime s / 2 → max (karDomain s d).lastHeard s.id.bootAt + primaryTime s + j ≤ (advance s t).now →
    isMajority r.replicas (r.replicas.countP [selfNo s].contains) = false →
    Runs (.primaryTimeout d j t) s fun u => repDomain u d = some { r with voted := max r.term r.voted + 1 } ∧
      (karDomain u d).candidate = max r.term r.voted + 1 ∧ (karDomain u d).votes = [selfNo s]) ∧
  (∀ d j t s r, repDomain s d = some r → r.primary = selfNo s → Runs (.primaryTimeout d j t) s fun u => u = advance s t) ∧
  (∀ t s a, secureUp s = true → karActive s = true → s.kar.asks = [a] → (advance s t).now < a.ends → a.sentAt + 200 * msT ≤ (advance s t).now →
    s.kar.outUrgent = [] → s.kar.outNormal = [] → Runs (.messageResend t) s fun u => u.kar.asks = [{ a with sentAt := (advance s t).now }] ∧
      u.kar.outUrgent ++ u.kar.outNormal = [{ dest := a.dest, msg := a.msg }]) ∧
  (∀ t s a, secureUp s = true → karActive s = true → s.kar.asks = [a] → a.ends ≤ (advance s t).now →
    Runs (.messageResend t) s fun u => u.kar.asks = [] ∧ u.kar.outNormal = s.kar.outNormal) ∧
  (∀ t s w, secureUp s = true → s.kar.waits = [w] → w.deadline ≤ (advance s t).now →
    Runs (.commitTimeout t) s fun u => u.kar.waits = [] ∧ u.kar.timeouts = sat32 s.kar.timeouts) ∧
  (∀ t s m, secureUp s = true → karActive s = true → s.kar.polledAt + field s.kar.poll 11 0 * secT ≤ (advance s t).now →
    (council s).find? (· != selfNo s) = some m →
    Runs (.rosterPollTimer t) s fun u => u.kar.polledAt = (advance s t).now ∧
      u.kar.outNormal = s.kar.outNormal ++ [{ dest := m, msg := .rosterPoll (rosterVersion s) }]) ∧
  (∀ p t s x, secureUp s = true → karState s ≠ 0 → s.kar.sessions.look p = some x → x.openedAt + 86400 * secT ≤ (advance s t).now →
    Runs (.sessionRenewal p t) s fun u => u = offerTo (advance s t) p ∧ u.kar.sessions = s.kar.sessions) ∧
  (∀ p t s x, s.kar.sessions.look p = some x → (advance s t).now < x.openedAt + 86400 * secT → max x.txSeq x.rxSeq < 2 ^ 32 →
    Runs (.sessionRenewal p t) s fun u => u = advance s t) ∧
  (∀ p t s x, s.kar.sessions.look p = some x →
    Runs (.oldKeyExpiry p t) s fun u => u.kar.sessions.look p = some { x with old := x.old.filter fun o => decide ((advance s t).now < o.ends) })

end Sys2Proof.Claims

/-! ## The statements -/

open Sys2Proof Sys2Proof.Machine Sys2Proof.Claims

/-- A step takes the command at the front of the queue and carries it out on everything but the queue. -/
def Obligations.StepRunsTheFrontCommand : Prop :=
  ∀ (c : Instr) (rest : List Instr) (s : State), s.pending = c :: rest → step s = exec c { s with pending := rest }

/-- With no command waiting the block idles: a step answers the state as it stands. The spec gives no such step: this is the model's own
choice (log entry 1). -/
def Obligations.EmptyQueueIdles : Prop := ∀ s : State, s.pending = [] → step s = .next s

/-- Every command of the table is carried out from every state: none ends in a fault or a refusal. The spec names no command that stops
the block, and each is answered, refused with a status or discarded. -/
def Obligations.EveryCommandIsCarriedOut : Prop := ∀ (c : Instr) (s : State), ∃ u, exec c s = .next u

/-- The queue is served first in, first out: no command adds to it or takes from it, a step removes its front and nothing else, and as
many steps as commands wait carry every one of them out and leave the queue empty. -/
def Obligations.QueueIsServedInOrder : Prop :=
  (∀ (c : Instr) (s u : State), exec c s = .next u → u.pending = s.pending) ∧
  (∀ (c : Instr) (rest : List Instr) (s u : State), s.pending = c :: rest → step s = .next u → u.pending = rest) ∧
  (∀ s : State, ∃ u : State, Sys2Proof.core.run s.pending.length s = .next u ∧ u.pending = [])

/-- No command turns the block's time back. -/
def Obligations.TimeNeverGoesBack : Prop := ∀ (c : Instr) (s u : State), exec c s = .next u → s.now ≤ u.now

/-- Every step keeps the invariant, from every state that satisfies it: pages 0 to 15 stay locked as reset left them, masters 4 to 10 stay
keyed, and control memory keeps its canonical form. -/
def Obligations.InvariantIsKept : Prop := ∀ s u : State, Safety.Inv s → step s = .next u → Safety.Inv u

/-- The invariant holds right after reset. -/
def Obligations.InvariantAtReset : Prop := Safety.Inv State.reset

/-- The life-cycle state in force changes only when the boot ROM runs: at the rise of main power and at the release of the internal reset. -/
def Obligations.LifeCycleStateChangesOnlyAtBoot : Prop :=
  ∀ (c : Instr) (s u : State), exec c s = .next u → u.lcy.state ≠ s.lcy.state →
    (∃ x t, c = .mainPgRise x t) ∨ (∃ x t, c = .internalResetRelease x t)

/-- Every register listed reads the value its reset column gives, and the page owner table reads SECURE, colour 0, with LOCKED set for
pages 0 to 15 only. -/
def Obligations.ResetRegisterValues : Prop :=
  (∀ e ∈ resetValues, (readValue State.reset e.1).map (·.1) = some (BitVec.ofNat 32 e.2)) ∧
  (∀ p, p < 8192 → (readValue State.reset (0x3010000 + 4 * p)).map (·.1) = some (if p < 16 then 0x100 else 0))

/-- ID_DEVICE reads 0x0000_4144 and ID_REVISION 0x0000_00B1 in every state, to every master that may read the ID block, and the read
changes nothing but the outputs (R1). -/
def Obligations.IdentificationRegisters : Prop :=
  ∀ (m : Master) (t : Time) (s : State), m ≠ .dap →
    Runs (.registerRead (.device m 0) 4 t) s (fun u => u = emit (advance s t) (.read 0x4144)) ∧
    Runs (.registerRead (.device m 4) 4 t) s (fun u => u = emit (advance s t) (.read 0xB1))

/-- The following accesses are refused whole: any other width or alignment, an unassigned address, a write through a window that may only
read, and an access to a block that the window does not see. A refused read gives 0, a refused write stores nothing, the world monitor
gets a record of it and Strata counts it (R21). The two registers that the normal world may write (R398) have their own rules and are left
out of the second part, and the mailbox ports, which another statement covers, of the last case of each. -/
def Obligations.RefusedRegisterAccesses : Prop :=
  (∀ (m : Master) a size t (s : State),
    size ≠ 4 ∨ a % 4 ≠ 0 ∨ blockRight m a = 0 ∨ (boxOf a = none ∧ readValue (advance s t) a = none) →
    Runs (.registerRead (.device m a) size t) s fun u => u.out = s.out ++ [.read 0] ∧ Reported s u m a) ∧
  (∀ (m : Master) a size v t (s : State),
    size ≠ 4 ∨ a % 4 ≠ 0 ∨ (a ≠ 0x3000014 ∧ a ≠ 0x3000100 ∧
      (blockRight m a < 2 ∨ (boxOf a = none ∧ assigned (advance s t) a = false))) →
    Runs (.registerWrite (.device m a) size v t) s fun u => u.out = s.out ∧ Reported s u m a)

/-- A transfer that the owner check or the colour check refuses gives its master nothing: a refused write stores nothing and a refused
read gives zeros for its whole length, with one violation record for it; one that is allowed stores its bytes at its address and leaves
every other byte and every other part of the state as it was (R386). -/
def Obligations.ControlMemoryTransfers : Prop :=
  (∀ (s : State) m a n why, transferFault s m a n 0 = some why →
    (ctlRead s m a n).2 = zeros n ∧ (ctlRead s m a n).1.ctl = s.ctl ∧
      (ctlRead s m a n).1.wld.violationNo = (s.wld.violationNo + 1) % 2 ^ 32) ∧
  (∀ (s : State) m a b why, transferFault s m a b.length 1 = some why →
    (ctlWrite s m a b).ctl = s.ctl ∧ (ctlWrite s m a b).wld.violationNo = (s.wld.violationNo + 1) % 2 ^ 32) ∧
  (∀ (s : State) m a n, transferFault s m a n 0 = none → ctlRead s m a n = (s, memLoad s.ctl a n)) ∧
  (∀ (s : State) m a b, Memory.wf s.ctl = true → transferFault s m a b.length 1 = none →
    memLoad (ctlWrite s m a b).ctl a b.length = b ∧ Memory.wf (ctlWrite s m a b).ctl = true ∧
      (∀ x, x < a ∨ a + b.length ≤ x → memRead (ctlWrite s m a b).ctl x = memRead s.ctl x) ∧
      ∃ c, ctlWrite s m a b = { s with ctl := c })

/-- While SECURE_UP is 0, COMMAND returns SECURE_WORLD_DOWN at once and no switch takes place: no call is opened and nothing else changes
(R378). -/
def Obligations.CommandsWhileTheSecureWorldIsDown : Prop :=
  ∀ (p : Fin 4) e a r room x t (s : State), normalRuns s p = true → callOf s p = none → s.wld.secureUp = false →
    Runs (.worldCall p e a r room x t) s fun u => u = emit (advance s t) (.answer { status := .secureWorldDown }) ∧
      u.wld.calls = s.wld.calls ∧ u.wld.pairs = s.wld.pairs

/-- PKE_CURVE_UNLOAD is refused with BUSY_LOCKED while any key of the owning domain, in a slot or in the vault, names the curve (R177):
the command comes from the owning domain, the curve is loaded, and nothing but the answer changes. -/
def Obligations.NamedCurvesStayLoaded : Prop :=
  ∀ (c : Cmd) (s : State) x, admitted s c 0x0311 = true → curve s (c.nat 0x1D) = some x → x.domain = c.domain →
    curveUsed s c.domain (c.nat 0x1D) = true →
    Runs (.pkeCurveUnload c) s fun u => (∃ items, u = answer s c.reply { status := .busyLocked, items := items }) ∧ u.pke = s.pke

/-- What the reads, and what the pins, clocks and protocols leave as it was: every part of the state but those that `touched` names for
the command. -/
def Obligations.ReadsAndPinsFrame : Prop :=
  (∀ i p, reads i = true → p ∉ touched i → Framed i p.same) ∧
  (∀ i p, pins i = true → p ∉ touched i → Framed i p.same)

/-- What each row of the frame path, the lanes and the chamber, and each row of the engines and the random number generator leaves as it
was: every part of the state but those that `touched` names for it. -/
def Obligations.FramePathAndEngineFrame : Prop :=
  (∀ i p, passage i = true → p ∉ touched i → Framed i p.same) ∧
  (∀ i p, engines i = true → p ∉ touched i → Framed i p.same)

/-- What each row of the host interface, the mailboxes and the sessions, and each row of the Karst leaves as it was: every part of the
state but those that `touched` names for it. -/
def Obligations.HostAndKarstFrame : Prop :=
  (∀ i p, host i = true → p ∉ touched i → Framed i p.same) ∧
  (∀ i p, karst i = true → p ∉ touched i → Framed i p.same)

/-- What each row of the key store and its domains, of the vault, of the worlds and of the settings leaves as it was: every part of the
state but those that `touched` names for it. -/
def Obligations.KeysVaultAndWorldsFrame : Prop :=
  (∀ i p, keys i = true → p ∉ touched i → Framed i p.same) ∧
  (∀ i p, vault i = true → p ∉ touched i → Framed i p.same) ∧
  (∀ i p, worlds i = true → p ∉ touched i → Framed i p.same) ∧
  (∀ i p, settings i = true → p ∉ touched i → Framed i p.same)

/-- What every command of no other family leaves as it was: the register accesses, Lantern's samples and tests, the life cycle, debug and
the resets touch no part of the state but those that `touched` names for them. -/
def Obligations.RemainingCommandsFrame : Prop :=
  ∀ i p, reads i = false → pins i = false → passage i = false → engines i = false → host i = false → karst i = false →
    keys i = false → vault i = false → worlds i = false → settings i = false → p ∉ touched i → Framed i p.same

/-- Control memory is written only by the commands that `touched` names for it: every other command leaves every byte of it as it was; a
DAP write leaves every byte outside the bytes it stores, and a page owner write every byte outside its page (R386, R414, R382). -/
def Obligations.MemoryIsWrittenOnlyByItsWriters : Prop :=
  (∀ i, Part.ctl ∉ touched i → Framed i fun s u => ∀ x, memRead u.ctl x = memRead s.ctl x) ∧
  (∀ a b t, Framed (.dapAccess (.write a b) t) fun s u => ∀ x, x < a ∨ a + b.length ≤ x → memRead u.ctl x = memRead s.ctl x) ∧
  (∀ m (p : Fin 8192) v, Framed (.pageOwnerWrite m p v) fun s u => ∀ x, x / 4096 ≠ p.val → memRead u.ctl x = memRead s.ctl x)

/-- Frames enter and leave ports; port and SHADOW bank settings take hold. -/
def Obligations.PortsCarryFramesAndSettings : Prop := Claims.FramesEnterAndLeavePorts ∧ Claims.PortAndShadowWrites

/-- A walk takes a frame and ends by its class; a wire commit asks for the whole bank. -/
def Obligations.WalksAndCommits : Prop := Claims.WalksAndCommits

/-- Page-ins are taken in order, fail or end within 500 µs. -/
def Obligations.PageInsAreTakenAndEnd : Prop := Claims.PageInsAreTakenAndEnd

/-- Two comparators decide a frame; the hold timer refuses; idle flows are freed. -/
def Obligations.DecisionsAndHolds : Prop := Claims.TwinComparatorsDecide ∧ Claims.HoldTimerAndFlowRetirement

/-- Lanes run, test and fail; mask generators reseed. -/
def Obligations.LanesAndMaskGenerators : Prop := Claims.LanesRunTheirJobs ∧ Claims.MaskGeneratorsReseed

/-- Flowstone tables load and unload; wire banks are staged, committed and discarded. -/
def Obligations.TablesAndWireBanks : Prop := Claims.TablesLoadAndUnload ∧ Claims.WireCommandsStageCommitAndDiscard

/-- Flow commands read, flush and prefetch; frames are injected and forwarded; challenges replaced. -/
def Obligations.FlowAndFrameCommands : Prop := Claims.FlowCommandsReadFlushAndPrefetch ∧ Claims.InjectedPuntedAndChallenge

/-- Every status read answers its registers; an attestation answers its block. -/
def Obligations.StatusReadsAnswerAndChangeNothing : Prop := Claims.EngineAndWorldStatusReads ∧ Claims.BoxTimeAndAlarmReadsAndAttest

/-- Register accesses, and the carriers of commands: packets, ring entries, secure calls, debug. -/
def Obligations.RegistersAndCarriers : Prop := Claims.RegisterAccesses ∧ Claims.CarriersTakeTheirCommands

/-- Digest and service MAC jobs are submitted, run and answered. -/
def Obligations.EngineJobsRunAndAnswer : Prop := Claims.EngineJobsAreSubmitted ∧ Claims.DigestContextsRun ∧ Claims.DigestCommandsAnswer

/-- Engines fail and retest; service MAC segments run and locks are released. -/
def Obligations.EnginesFailTestAndSegment : Prop := Claims.EngineFaultsAndTests ∧ Claims.ServiceMacSegmentsAndLocks

/-- Public-key jobs are staged, run in their time and tested cores switch pools. -/
def Obligations.PublicKeyCoresRun : Prop := Claims.PublicKeyJobsWaitAndStage ∧ Claims.CoresRunTheirJobs ∧ Claims.CoresTestAndSwitch

/-- Core pools are committed; curves are loaded, read and unloaded; policies set. -/
def Obligations.PoolsCurvesAndPolicies : Prop := Claims.PoolsAreCommitted ∧ Claims.CurvesAndPolicies

/-- Noise cells sample and DRBG instances serve and reseed. -/
def Obligations.NoiseAndInstances : Prop := Claims.NoiseCellsSample ∧ Claims.InstancesServeAndReseed

/-- The RNG starts, is tested, and answers its commands. -/
def Obligations.RngStartsAndAnswers : Prop := Claims.RngStartsAndIsTested ∧ Claims.RngCommandsAnswer

/-- The vault commits, mounts, formats, and loses flash as its rules say. -/
def Obligations.VaultCommitsMountsAndScrubs : Prop := Claims.VaultCommits ∧ Claims.VaultMountsAndFormats ∧ Claims.FlashFailuresAndScrub

/-- Keys are made, narrowed and erased; transports open and close. -/
def Obligations.KeysAreMadeAndTransported : Prop := Claims.KeysAreMadeNarrowedAndErased ∧ Claims.TransportsOpenAndClose

/-- Key blobs are imported after their checks and exported under the critical quorum. -/
def Obligations.KeysAreImportedAndExported : Prop := Claims.KeysAreImportedAndExported

/-- Domains are created, read and destroyed; officers enrolled and removed; functions assigned. -/
def Obligations.DomainsAndOfficers : Prop := Claims.DomainsAreMadeReadAndDestroyed ∧ Claims.OfficersCredentialsAndFunctions

/-- Quorum nonces live and expire; the key store starts and its root is renewed. -/
def Obligations.QuorumNoncesAndKeyStore : Prop := Claims.QuorumNonces ∧ Claims.KeyStoreStartsAndRenews

/-- A chamber message is taken only with its CMAC and a fresh sequence. -/
def Obligations.ChamberMessagesAreChecked : Prop := Claims.ChamberMessagesAreChecked

/-- Chamber links heartbeat, fall and return; pairs are checked. -/
def Obligations.ChamberLinksAndPairs : Prop := Claims.ChamberLinksAreKept ∧ Claims.PairChecksAndChamberCommands

/-- Rings fetch entries and put their jobs forward. -/
def Obligations.RingsFetchAndPresent : Prop := Claims.RingsFetchEntries ∧ Claims.RingJobsArePutForward

/-- Completions are written while the ring has room; jobs are admitted in turn. -/
def Obligations.RingsCompleteAndAdmit : Prop := Claims.RingsComplete ∧ Claims.JobsAreAdmittedInTurn

/-- Queue pairs are created, changed and destroyed; virtual functions frozen, saved and restored. -/
def Obligations.QueuesAndVirtualFunctions : Prop := Claims.QueuesAreMadeAndChanged ∧ Claims.VirtualFunctionsAreManaged

/-- Function and link resets leave what their rules say. -/
def Obligations.HostLinkAndResets : Prop := Claims.HostLinkAndResets

/-- Request packets are committed or rewound; responses and notices are read. -/
def Obligations.MailboxPacketsMove : Prop := Claims.RequestPacketsAreCommittedOrRewound ∧ Claims.ResponsesAndNoticesAreRead

/-- Responses go out in order; assemblies, sessions and offers time out. -/
def Obligations.MailboxResponsesAndTimeouts : Prop := Claims.ResponsesAndTimeouts

/-- Sessions are offered, opened, closed and listed; mailboxes are bound to ports. -/
def Obligations.MailboxSessionsAreManaged : Prop := Claims.SessionCommands

/-- The I3C common command codes address, set and read the target. -/
def Obligations.I3cCommonCommands : Prop := Claims.I3cAddressAndModeCodes ∧ Claims.I3cReadCodes

/-- Both worlds are watched and restarted; secure calls return, wait and are polled. -/
def Obligations.WorldsAreKeptUp : Prop := Claims.SecureWorldIsKeptUp ∧ Claims.NormalWorldAndSecureCalls

/-- Units are gated on request; firmware is staged, activated and owned. -/
def Obligations.PowerAndFirmware : Prop := Claims.PowerAndFirmware

/-- Strata accumulates, rations, writes and scans its records. -/
def Obligations.StrataRecords : Prop := Claims.StrataRecords

/-- PTP messages give offset and delay; holdover, PPS and correlation follow the clock. -/
def Obligations.TimeIsKept : Prop := Claims.TimeMessages ∧ Claims.TimeKeeping

/-- Lantern samples, raises and clears alarms, and answers its commands. -/
def Obligations.LanternWatchesAndAnswers : Prop := Claims.LanternWatches ∧ Claims.LanternCommands

/-- Life-cycle transitions, debug certificates and the TAP instructions. -/
def Obligations.LifeCycleAndTap : Prop := Claims.LifeCycleCommands ∧ Claims.TapInstructions

/-- Supplies rise and fall, resets record their cause, and the boot ROM runs. -/
def Obligations.PowerAndResets : Prop := Claims.PowerAndResets

/-- Karst membership changes are proposed; messages are taken out and given in. -/
def Obligations.KarstMembershipAndTransport : Prop := Claims.KarstChangesAreProposed ∧ Claims.KarstTransport

/-- Karst replicas sign, commit, vote and decline. -/
def Obligations.KarstReplication : Prop := Claims.KarstReplication

/-- Karst members catch up, open sessions, and act when their timers run out. -/
def Obligations.KarstCatchUpAndTimers : Prop := Claims.KarstCatchUpAndSessions ∧ Claims.KarstTimers
end

