-- ==== Sys2Proof/Laws/Crypto.lean ====
section
/-!
SUPPORT. What sealing and opening do (R257, R288): the lengths of the cipher's blocks and of its stream, and that opening a sealed text
under the same key, IV and additional data gives the text back.
-/

namespace Sys2Proof

theorem zeros_length (n : Nat) : (zeros n).length = n := by simp [zeros]

theorem aesBlock_length (key block : Bytes) : (aesBlock key block).length = 16 := by simp [aesBlock, zeros]

theorem gcmStream_length (key iv : Bytes) (n : Nat) : (gcmStream key iv n).length = n := by
  have e : ∀ l : List Nat, (l.flatMap fun i => aesBlock key (iv ++ beBytes 4 (i + 2))).length = 16 * l.length := by
    intro l
    induction l with
    | nil => rfl
    | cons a l ih => simp [List.flatMap_cons, aesBlock_length, ih]; omega
  simp [gcmStream, e]
  omega

theorem xorBytes_length (a b : Bytes) : (xorBytes a b).length = min a.length b.length := by simp [xorBytes]

theorem xorBytes_twice (a b : Bytes) (h : a.length ≤ b.length) : xorBytes (xorBytes a b) b = a := by
  induction a generalizing b with
  | nil => rfl
  | cons x a ih => cases b with
    | nil => cases h
    | cons y b =>
      simp only [List.length_cons, Nat.add_le_add_iff_right] at h
      have e := ih b h
      simp only [xorBytes] at e
      simp [xorBytes, e, BitVec.xor_assoc]

/-- The ciphertext is as long as the text. -/
theorem gcmSeal_length (key iv aad text : Bytes) : (gcmSeal key iv aad text).1.length = text.length := by
  simp [gcmSeal, xorBytes_length, gcmStream_length]

/-- A tag is one block long. -/
theorem gcmTag_length (key iv aad ct : Bytes) : (gcmTag key iv aad ct).length = 16 := by
  have h : ∀ n, (beBytes 16 n).length = 16 := fun n => by simp [beBytes, leBytes]
  simp only [gcmTag, xorBytes_length, aesBlock_length, h, Nat.min_self]

/-- Opening what was sealed gives the text back. -/
theorem gcmOpen_gcmSeal (key iv aad text : Bytes) :
    gcmOpen key iv aad (gcmSeal key iv aad text).1 (gcmSeal key iv aad text).2 = some text := by
  have hl := gcmSeal_length key iv aad text
  have ht : (gcmSeal key iv aad text).2 = gcmTag key iv aad (gcmSeal key iv aad text).1 := rfl
  have hc : (gcmSeal key iv aad text).1 = xorBytes text (gcmStream key iv text.length) := rfl
  rw [gcmOpen, ht, if_pos rfl, hl, hc, xorBytes_twice]
  simp [gcmStream_length]

/-- Unwrapping what was wrapped gives the value back. -/
theorem unwrap_wrap (key iv value : Bytes) : (wrap key iv value).unwrap key = some value := gcmOpen_gcmSeal key iv [] value

end Sys2Proof
end

