-- ==== Sys2Proof/Laws/State.lean ====
section
/-!
SUPPORT. The small laws of the state: how a part of it is read through a choice, a fold, or an operation that may not answer.
-/

set_option Elab.async false

namespace Sys2Proof.Machine

@[simp ↓] theorem st_ite_pending (c : Prop) [Decidable c] (a b : State) :
    (if c then a else b).pending = if c then a.pending else b.pending := by split <;> rfl

@[simp ↓] theorem st_foldl_pending {α} (l : List α) (f : State → α → State) (s : State)
    (h : ∀ s x, (f s x).pending = s.pending) : (l.foldl f s).pending = s.pending := by
  induction l generalizing s with
  | nil => rfl
  | cons x t ih => rw [List.foldl_cons, ih, h]

@[simp ↓] theorem st_foldr_pending {α} (l : List α) (f : α → State → State) (s : State)
    (h : ∀ x s, (f x s).pending = s.pending) : (l.foldr f s).pending = s.pending := by
  induction l with
  | nil => rfl
  | cons x t ih => rw [List.foldr_cons, h, ih]

@[simp ↓] theorem st_ite_now (c : Prop) [Decidable c] (a b : State) :
    (if c then a else b).now = if c then a.now else b.now := by split <;> rfl

@[simp ↓] theorem st_foldl_now {α} (l : List α) (f : State → α → State) (s : State)
    (h : ∀ s x, (f s x).now = s.now) : (l.foldl f s).now = s.now := by
  induction l generalizing s with
  | nil => rfl
  | cons x t ih => rw [List.foldl_cons, ih, h]

@[simp ↓] theorem st_foldr_now {α} (l : List α) (f : α → State → State) (s : State)
    (h : ∀ x s, (f x s).now = s.now) : (l.foldr f s).now = s.now := by
  induction l with
  | nil => rfl
  | cons x t ih => rw [List.foldr_cons, h, ih]

@[simp ↓] theorem st_ite_fresh (c : Prop) [Decidable c] (a b : State) :
    (if c then a else b).fresh = if c then a.fresh else b.fresh := by split <;> rfl

@[simp ↓] theorem st_foldl_fresh {α} (l : List α) (f : State → α → State) (s : State)
    (h : ∀ s x, (f s x).fresh = s.fresh) : (l.foldl f s).fresh = s.fresh := by
  induction l generalizing s with
  | nil => rfl
  | cons x t ih => rw [List.foldl_cons, ih, h]

@[simp ↓] theorem st_foldr_fresh {α} (l : List α) (f : α → State → State) (s : State)
    (h : ∀ x s, (f x s).fresh = s.fresh) : (l.foldr f s).fresh = s.fresh := by
  induction l with
  | nil => rfl
  | cons x t ih => rw [List.foldr_cons, h, ih]

@[simp ↓] theorem st_ite_out (c : Prop) [Decidable c] (a b : State) :
    (if c then a else b).out = if c then a.out else b.out := by split <;> rfl

@[simp ↓] theorem st_foldl_out {α} (l : List α) (f : State → α → State) (s : State)
    (h : ∀ s x, (f s x).out = s.out) : (l.foldl f s).out = s.out := by
  induction l generalizing s with
  | nil => rfl
  | cons x t ih => rw [List.foldl_cons, ih, h]

@[simp ↓] theorem st_foldr_out {α} (l : List α) (f : α → State → State) (s : State)
    (h : ∀ x s, (f x s).out = s.out) : (l.foldr f s).out = s.out := by
  induction l with
  | nil => rfl
  | cons x t ih => rw [List.foldr_cons, h, ih]

@[simp ↓] theorem st_ite_snaps (c : Prop) [Decidable c] (a b : State) :
    (if c then a else b).snaps = if c then a.snaps else b.snaps := by split <;> rfl

@[simp ↓] theorem st_foldl_snaps {α} (l : List α) (f : State → α → State) (s : State)
    (h : ∀ s x, (f s x).snaps = s.snaps) : (l.foldl f s).snaps = s.snaps := by
  induction l generalizing s with
  | nil => rfl
  | cons x t ih => rw [List.foldl_cons, ih, h]

@[simp ↓] theorem st_foldr_snaps {α} (l : List α) (f : α → State → State) (s : State)
    (h : ∀ x s, (f x s).snaps = s.snaps) : (l.foldr f s).snaps = s.snaps := by
  induction l with
  | nil => rfl
  | cons x t ih => rw [List.foldr_cons, h, ih]

@[simp ↓] theorem st_ite_id (c : Prop) [Decidable c] (a b : State) :
    (if c then a else b).id = if c then a.id else b.id := by split <;> rfl

@[simp ↓] theorem st_foldl_id {α} (l : List α) (f : State → α → State) (s : State)
    (h : ∀ s x, (f s x).id = s.id) : (l.foldl f s).id = s.id := by
  induction l generalizing s with
  | nil => rfl
  | cons x t ih => rw [List.foldl_cons, ih, h]

@[simp ↓] theorem st_foldr_id {α} (l : List α) (f : α → State → State) (s : State)
    (h : ∀ x s, (f x s).id = s.id) : (l.foldr f s).id = s.id := by
  induction l with
  | nil => rfl
  | cons x t ih => rw [List.foldr_cons, h, ih]

@[simp ↓] theorem st_ite_psg (c : Prop) [Decidable c] (a b : State) :
    (if c then a else b).psg = if c then a.psg else b.psg := by split <;> rfl

@[simp ↓] theorem st_foldl_psg {α} (l : List α) (f : State → α → State) (s : State)
    (h : ∀ s x, (f s x).psg = s.psg) : (l.foldl f s).psg = s.psg := by
  induction l generalizing s with
  | nil => rfl
  | cons x t ih => rw [List.foldl_cons, ih, h]

@[simp ↓] theorem st_foldr_psg {α} (l : List α) (f : α → State → State) (s : State)
    (h : ∀ x s, (f x s).psg = s.psg) : (l.foldr f s).psg = s.psg := by
  induction l with
  | nil => rfl
  | cons x t ih => rw [List.foldr_cons, h, ih]

@[simp ↓] theorem st_ite_cham (c : Prop) [Decidable c] (a b : State) :
    (if c then a else b).cham = if c then a.cham else b.cham := by split <;> rfl

@[simp ↓] theorem st_foldl_cham {α} (l : List α) (f : State → α → State) (s : State)
    (h : ∀ s x, (f s x).cham = s.cham) : (l.foldl f s).cham = s.cham := by
  induction l generalizing s with
  | nil => rfl
  | cons x t ih => rw [List.foldl_cons, ih, h]

@[simp ↓] theorem st_foldr_cham {α} (l : List α) (f : α → State → State) (s : State)
    (h : ∀ x s, (f x s).cham = s.cham) : (l.foldr f s).cham = s.cham := by
  induction l with
  | nil => rfl
  | cons x t ih => rw [List.foldr_cons, h, ih]

@[simp ↓] theorem st_ite_kst (c : Prop) [Decidable c] (a b : State) :
    (if c then a else b).kst = if c then a.kst else b.kst := by split <;> rfl

@[simp ↓] theorem st_foldl_kst {α} (l : List α) (f : State → α → State) (s : State)
    (h : ∀ s x, (f s x).kst = s.kst) : (l.foldl f s).kst = s.kst := by
  induction l generalizing s with
  | nil => rfl
  | cons x t ih => rw [List.foldl_cons, ih, h]

@[simp ↓] theorem st_foldr_kst {α} (l : List α) (f : α → State → State) (s : State)
    (h : ∀ x s, (f x s).kst = s.kst) : (l.foldr f s).kst = s.kst := by
  induction l with
  | nil => rfl
  | cons x t ih => rw [List.foldr_cons, h, ih]

@[simp ↓] theorem st_ite_mbx (c : Prop) [Decidable c] (a b : State) :
    (if c then a else b).mbx = if c then a.mbx else b.mbx := by split <;> rfl

@[simp ↓] theorem st_foldl_mbx {α} (l : List α) (f : State → α → State) (s : State)
    (h : ∀ s x, (f s x).mbx = s.mbx) : (l.foldl f s).mbx = s.mbx := by
  induction l generalizing s with
  | nil => rfl
  | cons x t ih => rw [List.foldl_cons, ih, h]

@[simp ↓] theorem st_foldr_mbx {α} (l : List α) (f : α → State → State) (s : State)
    (h : ∀ x s, (f x s).mbx = s.mbx) : (l.foldr f s).mbx = s.mbx := by
  induction l with
  | nil => rfl
  | cons x t ih => rw [List.foldr_cons, h, ih]

@[simp ↓] theorem st_ite_str (c : Prop) [Decidable c] (a b : State) :
    (if c then a else b).str = if c then a.str else b.str := by split <;> rfl

@[simp ↓] theorem st_foldl_str {α} (l : List α) (f : State → α → State) (s : State)
    (h : ∀ s x, (f s x).str = s.str) : (l.foldl f s).str = s.str := by
  induction l generalizing s with
  | nil => rfl
  | cons x t ih => rw [List.foldl_cons, ih, h]

@[simp ↓] theorem st_foldr_str {α} (l : List α) (f : α → State → State) (s : State)
    (h : ∀ x s, (f x s).str = s.str) : (l.foldr f s).str = s.str := by
  induction l with
  | nil => rfl
  | cons x t ih => rw [List.foldr_cons, h, ih]

@[simp ↓] theorem st_ite_lan (c : Prop) [Decidable c] (a b : State) :
    (if c then a else b).lan = if c then a.lan else b.lan := by split <;> rfl

@[simp ↓] theorem st_foldl_lan {α} (l : List α) (f : State → α → State) (s : State)
    (h : ∀ s x, (f s x).lan = s.lan) : (l.foldl f s).lan = s.lan := by
  induction l generalizing s with
  | nil => rfl
  | cons x t ih => rw [List.foldl_cons, ih, h]

@[simp ↓] theorem st_foldr_lan {α} (l : List α) (f : α → State → State) (s : State)
    (h : ∀ x s, (f x s).lan = s.lan) : (l.foldr f s).lan = s.lan := by
  induction l with
  | nil => rfl
  | cons x t ih => rw [List.foldr_cons, h, ih]

@[simp ↓] theorem st_ite_bb (c : Prop) [Decidable c] (a b : State) :
    (if c then a else b).bb = if c then a.bb else b.bb := by split <;> rfl

@[simp ↓] theorem st_foldl_bb {α} (l : List α) (f : State → α → State) (s : State)
    (h : ∀ s x, (f s x).bb = s.bb) : (l.foldl f s).bb = s.bb := by
  induction l generalizing s with
  | nil => rfl
  | cons x t ih => rw [List.foldl_cons, ih, h]

@[simp ↓] theorem st_foldr_bb {α} (l : List α) (f : α → State → State) (s : State)
    (h : ∀ x s, (f x s).bb = s.bb) : (l.foldr f s).bb = s.bb := by
  induction l with
  | nil => rfl
  | cons x t ih => rw [List.foldr_cons, h, ih]

@[simp ↓] theorem st_ite_tim (c : Prop) [Decidable c] (a b : State) :
    (if c then a else b).tim = if c then a.tim else b.tim := by split <;> rfl

@[simp ↓] theorem st_foldl_tim {α} (l : List α) (f : State → α → State) (s : State)
    (h : ∀ s x, (f s x).tim = s.tim) : (l.foldl f s).tim = s.tim := by
  induction l generalizing s with
  | nil => rfl
  | cons x t ih => rw [List.foldl_cons, ih, h]

@[simp ↓] theorem st_foldr_tim {α} (l : List α) (f : α → State → State) (s : State)
    (h : ∀ x s, (f x s).tim = s.tim) : (l.foldr f s).tim = s.tim := by
  induction l with
  | nil => rfl
  | cons x t ih => rw [List.foldr_cons, h, ih]

@[simp ↓] theorem st_ite_lcy (c : Prop) [Decidable c] (a b : State) :
    (if c then a else b).lcy = if c then a.lcy else b.lcy := by split <;> rfl

@[simp ↓] theorem st_foldl_lcy {α} (l : List α) (f : State → α → State) (s : State)
    (h : ∀ s x, (f s x).lcy = s.lcy) : (l.foldl f s).lcy = s.lcy := by
  induction l generalizing s with
  | nil => rfl
  | cons x t ih => rw [List.foldl_cons, ih, h]

@[simp ↓] theorem st_foldr_lcy {α} (l : List α) (f : α → State → State) (s : State)
    (h : ∀ x s, (f x s).lcy = s.lcy) : (l.foldr f s).lcy = s.lcy := by
  induction l with
  | nil => rfl
  | cons x t ih => rw [List.foldr_cons, h, ih]

@[simp ↓] theorem st_ite_die (c : Prop) [Decidable c] (a b : State) :
    (if c then a else b).die = if c then a.die else b.die := by split <;> rfl

@[simp ↓] theorem st_foldl_die {α} (l : List α) (f : State → α → State) (s : State)
    (h : ∀ s x, (f s x).die = s.die) : (l.foldl f s).die = s.die := by
  induction l generalizing s with
  | nil => rfl
  | cons x t ih => rw [List.foldl_cons, ih, h]

@[simp ↓] theorem st_foldr_die {α} (l : List α) (f : α → State → State) (s : State)
    (h : ∀ x s, (f x s).die = s.die) : (l.foldr f s).die = s.die := by
  induction l with
  | nil => rfl
  | cons x t ih => rw [List.foldr_cons, h, ih]

@[simp ↓] theorem st_ite_rng (c : Prop) [Decidable c] (a b : State) :
    (if c then a else b).rng = if c then a.rng else b.rng := by split <;> rfl

@[simp ↓] theorem st_foldl_rng {α} (l : List α) (f : State → α → State) (s : State)
    (h : ∀ s x, (f s x).rng = s.rng) : (l.foldl f s).rng = s.rng := by
  induction l generalizing s with
  | nil => rfl
  | cons x t ih => rw [List.foldl_cons, ih, h]

@[simp ↓] theorem st_foldr_rng {α} (l : List α) (f : α → State → State) (s : State)
    (h : ∀ x s, (f x s).rng = s.rng) : (l.foldr f s).rng = s.rng := by
  induction l with
  | nil => rfl
  | cons x t ih => rw [List.foldr_cons, h, ih]

@[simp ↓] theorem st_ite_pke (c : Prop) [Decidable c] (a b : State) :
    (if c then a else b).pke = if c then a.pke else b.pke := by split <;> rfl

@[simp ↓] theorem st_foldl_pke {α} (l : List α) (f : State → α → State) (s : State)
    (h : ∀ s x, (f s x).pke = s.pke) : (l.foldl f s).pke = s.pke := by
  induction l generalizing s with
  | nil => rfl
  | cons x t ih => rw [List.foldl_cons, ih, h]

@[simp ↓] theorem st_foldr_pke {α} (l : List α) (f : α → State → State) (s : State)
    (h : ∀ x s, (f x s).pke = s.pke) : (l.foldr f s).pke = s.pke := by
  induction l with
  | nil => rfl
  | cons x t ih => rw [List.foldr_cons, h, ih]

@[simp ↓] theorem st_ite_eng (c : Prop) [Decidable c] (a b : State) :
    (if c then a else b).eng = if c then a.eng else b.eng := by split <;> rfl

@[simp ↓] theorem st_foldl_eng {α} (l : List α) (f : State → α → State) (s : State)
    (h : ∀ s x, (f s x).eng = s.eng) : (l.foldl f s).eng = s.eng := by
  induction l generalizing s with
  | nil => rfl
  | cons x t ih => rw [List.foldl_cons, ih, h]

@[simp ↓] theorem st_foldr_eng {α} (l : List α) (f : α → State → State) (s : State)
    (h : ∀ x s, (f x s).eng = s.eng) : (l.foldr f s).eng = s.eng := by
  induction l with
  | nil => rfl
  | cons x t ih => rw [List.foldr_cons, h, ih]

@[simp ↓] theorem st_ite_host (c : Prop) [Decidable c] (a b : State) :
    (if c then a else b).host = if c then a.host else b.host := by split <;> rfl

@[simp ↓] theorem st_foldl_host {α} (l : List α) (f : State → α → State) (s : State)
    (h : ∀ s x, (f s x).host = s.host) : (l.foldl f s).host = s.host := by
  induction l generalizing s with
  | nil => rfl
  | cons x t ih => rw [List.foldl_cons, ih, h]

@[simp ↓] theorem st_foldr_host {α} (l : List α) (f : α → State → State) (s : State)
    (h : ∀ x s, (f x s).host = s.host) : (l.foldr f s).host = s.host := by
  induction l with
  | nil => rfl
  | cons x t ih => rw [List.foldr_cons, h, ih]

@[simp ↓] theorem st_ite_geo (c : Prop) [Decidable c] (a b : State) :
    (if c then a else b).geo = if c then a.geo else b.geo := by split <;> rfl

@[simp ↓] theorem st_foldl_geo {α} (l : List α) (f : State → α → State) (s : State)
    (h : ∀ s x, (f s x).geo = s.geo) : (l.foldl f s).geo = s.geo := by
  induction l generalizing s with
  | nil => rfl
  | cons x t ih => rw [List.foldl_cons, ih, h]

@[simp ↓] theorem st_foldr_geo {α} (l : List α) (f : α → State → State) (s : State)
    (h : ∀ x s, (f x s).geo = s.geo) : (l.foldr f s).geo = s.geo := by
  induction l with
  | nil => rfl
  | cons x t ih => rw [List.foldr_cons, h, ih]

@[simp ↓] theorem st_ite_flash (c : Prop) [Decidable c] (a b : State) :
    (if c then a else b).flash = if c then a.flash else b.flash := by split <;> rfl

@[simp ↓] theorem st_foldl_flash {α} (l : List α) (f : State → α → State) (s : State)
    (h : ∀ s x, (f s x).flash = s.flash) : (l.foldl f s).flash = s.flash := by
  induction l generalizing s with
  | nil => rfl
  | cons x t ih => rw [List.foldl_cons, ih, h]

@[simp ↓] theorem st_foldr_flash {α} (l : List α) (f : α → State → State) (s : State)
    (h : ∀ x s, (f x s).flash = s.flash) : (l.foldr f s).flash = s.flash := by
  induction l with
  | nil => rfl
  | cons x t ih => rw [List.foldr_cons, h, ih]

@[simp ↓] theorem st_ite_wld (c : Prop) [Decidable c] (a b : State) :
    (if c then a else b).wld = if c then a.wld else b.wld := by split <;> rfl

@[simp ↓] theorem st_foldl_wld {α} (l : List α) (f : State → α → State) (s : State)
    (h : ∀ s x, (f s x).wld = s.wld) : (l.foldl f s).wld = s.wld := by
  induction l generalizing s with
  | nil => rfl
  | cons x t ih => rw [List.foldl_cons, ih, h]

@[simp ↓] theorem st_foldr_wld {α} (l : List α) (f : α → State → State) (s : State)
    (h : ∀ x s, (f x s).wld = s.wld) : (l.foldr f s).wld = s.wld := by
  induction l with
  | nil => rfl
  | cons x t ih => rw [List.foldr_cons, h, ih]

@[simp ↓] theorem st_ite_kar (c : Prop) [Decidable c] (a b : State) :
    (if c then a else b).kar = if c then a.kar else b.kar := by split <;> rfl

@[simp ↓] theorem st_foldl_kar {α} (l : List α) (f : State → α → State) (s : State)
    (h : ∀ s x, (f s x).kar = s.kar) : (l.foldl f s).kar = s.kar := by
  induction l generalizing s with
  | nil => rfl
  | cons x t ih => rw [List.foldl_cons, ih, h]

@[simp ↓] theorem st_foldr_kar {α} (l : List α) (f : α → State → State) (s : State)
    (h : ∀ x s, (f x s).kar = s.kar) : (l.foldr f s).kar = s.kar := by
  induction l with
  | nil => rfl
  | cons x t ih => rw [List.foldr_cons, h, ih]

@[simp ↓] theorem st_ite_ctl (c : Prop) [Decidable c] (a b : State) :
    (if c then a else b).ctl = if c then a.ctl else b.ctl := by split <;> rfl

@[simp ↓] theorem st_foldl_ctl {α} (l : List α) (f : State → α → State) (s : State)
    (h : ∀ s x, (f s x).ctl = s.ctl) : (l.foldl f s).ctl = s.ctl := by
  induction l generalizing s with
  | nil => rfl
  | cons x t ih => rw [List.foldl_cons, ih, h]

@[simp ↓] theorem st_foldr_ctl {α} (l : List α) (f : α → State → State) (s : State)
    (h : ∀ x s, (f x s).ctl = s.ctl) : (l.foldr f s).ctl = s.ctl := by
  induction l with
  | nil => rfl
  | cons x t ih => rw [List.foldr_cons, h, ih]

@[simp ↓] theorem st_fst_ite {α} (c : Prop) [Decidable c] (a b : State × α) :
    (if c then a else b).1 = if c then a.1 else b.1 := by split <;> rfl

@[simp ↓] theorem st_snd_ite {α} (c : Prop) [Decidable c] (a b : α × State) :
    (if c then a else b).2 = if c then a.2 else b.2 := by split <;> rfl

/-! ## Operations that may not answer: a property of what they answer -/

theorem some_ite {P : State → Prop} {c : Prop} [Decidable c] {a b : Option State} (ha : ∀ t, a = some t → P t)
    (hb : ∀ t, b = some t → P t) (t : State) (h : (if c then a else b) = some t) : P t := by
  split at h
  · exact ha t h
  · exact hb t h

theorem some_some {P : State → Prop} {a : State} (ha : P a) (t : State) (h : some a = some t) : P t :=
  Option.some.inj h ▸ ha

theorem some_none {P : State → Prop} (t : State) (h : none = some t) : P t := nomatch h

theorem some_map {α} {P : State → Prop} {o : Option α} {f : α → State} (hf : ∀ a, P (f a)) (t : State)
    (h : o.map f = some t) : P t := by
  cases o with
  | none => cases h
  | some a => exact Option.some.inj h ▸ hf a

end Sys2Proof.Machine
end

