-- ==== Sys2Proof/Laws/Frames/Ops.lean ====
section
/-!
SUPPORT. What the operations of Machine/Ops.lean leave unchanged: for each, every part of the state that it does not touch.
-/

set_option Elab.async false

set_option linter.all false
set_option maxRecDepth 2000

namespace Sys2Proof.Machine

@[simp ↓] theorem advance_frame (x1 x2) :
    (advance x1 x2).pending = x1.pending ∧ (advance x1 x2).fresh = x1.fresh ∧ (advance x1 x2).out = x1.out ∧ (advance x1 x2).snaps = x1.snaps ∧ (advance x1 x2).id = x1.id ∧ (advance x1 x2).psg = x1.psg ∧ (advance x1 x2).cham = x1.cham ∧ (advance x1 x2).kst = x1.kst ∧ (advance x1 x2).mbx = x1.mbx ∧ (advance x1 x2).str = x1.str ∧ (advance x1 x2).lan = x1.lan ∧ (advance x1 x2).bb = x1.bb ∧ (advance x1 x2).lcy = x1.lcy ∧ (advance x1 x2).die = x1.die ∧ (advance x1 x2).rng = x1.rng ∧ (advance x1 x2).pke = x1.pke ∧ (advance x1 x2).eng = x1.eng ∧ (advance x1 x2).host = x1.host ∧ (advance x1 x2).geo = x1.geo ∧ (advance x1 x2).flash = x1.flash ∧ (advance x1 x2).wld = x1.wld ∧ (advance x1 x2).kar = x1.kar ∧ (advance x1 x2).ctl = x1.ctl := by unfold advance; simp

@[simp ↓] theorem drawFree_frame (x1) :
    (drawFree x1).2.pending = x1.pending ∧ (drawFree x1).2.now = x1.now ∧ (drawFree x1).2.out = x1.out ∧ (drawFree x1).2.snaps = x1.snaps ∧ (drawFree x1).2.id = x1.id ∧ (drawFree x1).2.psg = x1.psg ∧ (drawFree x1).2.cham = x1.cham ∧ (drawFree x1).2.kst = x1.kst ∧ (drawFree x1).2.mbx = x1.mbx ∧ (drawFree x1).2.str = x1.str ∧ (drawFree x1).2.lan = x1.lan ∧ (drawFree x1).2.bb = x1.bb ∧ (drawFree x1).2.tim = x1.tim ∧ (drawFree x1).2.lcy = x1.lcy ∧ (drawFree x1).2.die = x1.die ∧ (drawFree x1).2.rng = x1.rng ∧ (drawFree x1).2.pke = x1.pke ∧ (drawFree x1).2.eng = x1.eng ∧ (drawFree x1).2.host = x1.host ∧ (drawFree x1).2.geo = x1.geo ∧ (drawFree x1).2.flash = x1.flash ∧ (drawFree x1).2.wld = x1.wld ∧ (drawFree x1).2.kar = x1.kar ∧ (drawFree x1).2.ctl = x1.ctl := by unfold drawFree; simp

theorem drawFree_frame_of {x1 x t} (h : drawFree x1 = (x, t)) :
    t.pending = x1.pending ∧ t.now = x1.now ∧ t.out = x1.out ∧ t.snaps = x1.snaps ∧ t.id = x1.id ∧ t.psg = x1.psg ∧ t.cham = x1.cham ∧ t.kst = x1.kst ∧ t.mbx = x1.mbx ∧ t.str = x1.str ∧ t.lan = x1.lan ∧ t.bb = x1.bb ∧ t.tim = x1.tim ∧ t.lcy = x1.lcy ∧ t.die = x1.die ∧ t.rng = x1.rng ∧ t.pke = x1.pke ∧ t.eng = x1.eng ∧ t.host = x1.host ∧ t.geo = x1.geo ∧ t.flash = x1.flash ∧ t.wld = x1.wld ∧ t.kar = x1.kar ∧ t.ctl = x1.ctl := by
  have e := drawFree_frame x1; rw [h] at e; exact e

@[simp ↓] theorem emit_frame (x1 x2) :
    (emit x1 x2).pending = x1.pending ∧ (emit x1 x2).now = x1.now ∧ (emit x1 x2).fresh = x1.fresh ∧ (emit x1 x2).snaps = x1.snaps ∧ (emit x1 x2).id = x1.id ∧ (emit x1 x2).psg = x1.psg ∧ (emit x1 x2).cham = x1.cham ∧ (emit x1 x2).kst = x1.kst ∧ (emit x1 x2).mbx = x1.mbx ∧ (emit x1 x2).str = x1.str ∧ (emit x1 x2).lan = x1.lan ∧ (emit x1 x2).bb = x1.bb ∧ (emit x1 x2).tim = x1.tim ∧ (emit x1 x2).lcy = x1.lcy ∧ (emit x1 x2).die = x1.die ∧ (emit x1 x2).rng = x1.rng ∧ (emit x1 x2).pke = x1.pke ∧ (emit x1 x2).eng = x1.eng ∧ (emit x1 x2).host = x1.host ∧ (emit x1 x2).geo = x1.geo ∧ (emit x1 x2).flash = x1.flash ∧ (emit x1 x2).wld = x1.wld ∧ (emit x1 x2).kar = x1.kar ∧ (emit x1 x2).ctl = x1.ctl := by unfold emit; simp

@[simp ↓] theorem updMailbox_frame (x1 x2 x3) :
    (updMailbox x1 x2 x3).pending = x1.pending ∧ (updMailbox x1 x2 x3).now = x1.now ∧ (updMailbox x1 x2 x3).fresh = x1.fresh ∧ (updMailbox x1 x2 x3).out = x1.out ∧ (updMailbox x1 x2 x3).snaps = x1.snaps ∧ (updMailbox x1 x2 x3).id = x1.id ∧ (updMailbox x1 x2 x3).psg = x1.psg ∧ (updMailbox x1 x2 x3).cham = x1.cham ∧ (updMailbox x1 x2 x3).kst = x1.kst ∧ (updMailbox x1 x2 x3).str = x1.str ∧ (updMailbox x1 x2 x3).lan = x1.lan ∧ (updMailbox x1 x2 x3).bb = x1.bb ∧ (updMailbox x1 x2 x3).tim = x1.tim ∧ (updMailbox x1 x2 x3).lcy = x1.lcy ∧ (updMailbox x1 x2 x3).die = x1.die ∧ (updMailbox x1 x2 x3).rng = x1.rng ∧ (updMailbox x1 x2 x3).pke = x1.pke ∧ (updMailbox x1 x2 x3).eng = x1.eng ∧ (updMailbox x1 x2 x3).host = x1.host ∧ (updMailbox x1 x2 x3).geo = x1.geo ∧ (updMailbox x1 x2 x3).flash = x1.flash ∧ (updMailbox x1 x2 x3).wld = x1.wld ∧ (updMailbox x1 x2 x3).kar = x1.kar ∧ (updMailbox x1 x2 x3).ctl = x1.ctl := by unfold updMailbox; simp

@[simp ↓] theorem answerEnvelope_frame (x1 x2 x3) :
    (answerEnvelope x1 x2 x3).pending = x1.pending ∧ (answerEnvelope x1 x2 x3).now = x1.now ∧ (answerEnvelope x1 x2 x3).fresh = x1.fresh ∧ (answerEnvelope x1 x2 x3).out = x1.out ∧ (answerEnvelope x1 x2 x3).snaps = x1.snaps ∧ (answerEnvelope x1 x2 x3).id = x1.id ∧ (answerEnvelope x1 x2 x3).psg = x1.psg ∧ (answerEnvelope x1 x2 x3).cham = x1.cham ∧ (answerEnvelope x1 x2 x3).kst = x1.kst ∧ (answerEnvelope x1 x2 x3).str = x1.str ∧ (answerEnvelope x1 x2 x3).lan = x1.lan ∧ (answerEnvelope x1 x2 x3).bb = x1.bb ∧ (answerEnvelope x1 x2 x3).tim = x1.tim ∧ (answerEnvelope x1 x2 x3).lcy = x1.lcy ∧ (answerEnvelope x1 x2 x3).die = x1.die ∧ (answerEnvelope x1 x2 x3).rng = x1.rng ∧ (answerEnvelope x1 x2 x3).pke = x1.pke ∧ (answerEnvelope x1 x2 x3).eng = x1.eng ∧ (answerEnvelope x1 x2 x3).host = x1.host ∧ (answerEnvelope x1 x2 x3).geo = x1.geo ∧ (answerEnvelope x1 x2 x3).flash = x1.flash ∧ (answerEnvelope x1 x2 x3).wld = x1.wld ∧ (answerEnvelope x1 x2 x3).kar = x1.kar ∧ (answerEnvelope x1 x2 x3).ctl = x1.ctl := by unfold answerEnvelope; simp

@[simp ↓] theorem wrapNew_frame (x1 x2 x3) :
    (wrapNew x1 x2 x3).2.pending = x1.pending ∧ (wrapNew x1 x2 x3).2.now = x1.now ∧ (wrapNew x1 x2 x3).2.out = x1.out ∧ (wrapNew x1 x2 x3).2.snaps = x1.snaps ∧ (wrapNew x1 x2 x3).2.id = x1.id ∧ (wrapNew x1 x2 x3).2.psg = x1.psg ∧ (wrapNew x1 x2 x3).2.cham = x1.cham ∧ (wrapNew x1 x2 x3).2.kst = x1.kst ∧ (wrapNew x1 x2 x3).2.mbx = x1.mbx ∧ (wrapNew x1 x2 x3).2.str = x1.str ∧ (wrapNew x1 x2 x3).2.lan = x1.lan ∧ (wrapNew x1 x2 x3).2.bb = x1.bb ∧ (wrapNew x1 x2 x3).2.tim = x1.tim ∧ (wrapNew x1 x2 x3).2.lcy = x1.lcy ∧ (wrapNew x1 x2 x3).2.die = x1.die ∧ (wrapNew x1 x2 x3).2.rng = x1.rng ∧ (wrapNew x1 x2 x3).2.pke = x1.pke ∧ (wrapNew x1 x2 x3).2.eng = x1.eng ∧ (wrapNew x1 x2 x3).2.host = x1.host ∧ (wrapNew x1 x2 x3).2.geo = x1.geo ∧ (wrapNew x1 x2 x3).2.flash = x1.flash ∧ (wrapNew x1 x2 x3).2.wld = x1.wld ∧ (wrapNew x1 x2 x3).2.kar = x1.kar ∧ (wrapNew x1 x2 x3).2.ctl = x1.ctl := by unfold wrapNew; simp

theorem wrapNew_frame_of {x1 x2 x3 x t} (h : wrapNew x1 x2 x3 = (x, t)) :
    t.pending = x1.pending ∧ t.now = x1.now ∧ t.out = x1.out ∧ t.snaps = x1.snaps ∧ t.id = x1.id ∧ t.psg = x1.psg ∧ t.cham = x1.cham ∧ t.kst = x1.kst ∧ t.mbx = x1.mbx ∧ t.str = x1.str ∧ t.lan = x1.lan ∧ t.bb = x1.bb ∧ t.tim = x1.tim ∧ t.lcy = x1.lcy ∧ t.die = x1.die ∧ t.rng = x1.rng ∧ t.pke = x1.pke ∧ t.eng = x1.eng ∧ t.host = x1.host ∧ t.geo = x1.geo ∧ t.flash = x1.flash ∧ t.wld = x1.wld ∧ t.kar = x1.kar ∧ t.ctl = x1.ctl := by
  have e := wrapNew_frame x1 x2 x3; rw [h] at e; exact e

@[simp ↓] theorem closeAccum_frame (x1 x2 x3 x4 x5) :
    (closeAccum x1 x2 x3 x4 x5).pending = x1.pending ∧ (closeAccum x1 x2 x3 x4 x5).now = x1.now ∧ (closeAccum x1 x2 x3 x4 x5).fresh = x1.fresh ∧ (closeAccum x1 x2 x3 x4 x5).out = x1.out ∧ (closeAccum x1 x2 x3 x4 x5).snaps = x1.snaps ∧ (closeAccum x1 x2 x3 x4 x5).id = x1.id ∧ (closeAccum x1 x2 x3 x4 x5).psg = x1.psg ∧ (closeAccum x1 x2 x3 x4 x5).cham = x1.cham ∧ (closeAccum x1 x2 x3 x4 x5).kst = x1.kst ∧ (closeAccum x1 x2 x3 x4 x5).mbx = x1.mbx ∧ (closeAccum x1 x2 x3 x4 x5).lan = x1.lan ∧ (closeAccum x1 x2 x3 x4 x5).bb = x1.bb ∧ (closeAccum x1 x2 x3 x4 x5).tim = x1.tim ∧ (closeAccum x1 x2 x3 x4 x5).lcy = x1.lcy ∧ (closeAccum x1 x2 x3 x4 x5).die = x1.die ∧ (closeAccum x1 x2 x3 x4 x5).rng = x1.rng ∧ (closeAccum x1 x2 x3 x4 x5).pke = x1.pke ∧ (closeAccum x1 x2 x3 x4 x5).eng = x1.eng ∧ (closeAccum x1 x2 x3 x4 x5).host = x1.host ∧ (closeAccum x1 x2 x3 x4 x5).geo = x1.geo ∧ (closeAccum x1 x2 x3 x4 x5).flash = x1.flash ∧ (closeAccum x1 x2 x3 x4 x5).wld = x1.wld ∧ (closeAccum x1 x2 x3 x4 x5).kar = x1.kar ∧ (closeAccum x1 x2 x3 x4 x5).ctl = x1.ctl := by unfold closeAccum; simp

@[simp ↓] theorem closeIfDue_frame (x1 x2) :
    (closeIfDue x1 x2).pending = x1.pending ∧ (closeIfDue x1 x2).now = x1.now ∧ (closeIfDue x1 x2).fresh = x1.fresh ∧ (closeIfDue x1 x2).out = x1.out ∧ (closeIfDue x1 x2).snaps = x1.snaps ∧ (closeIfDue x1 x2).id = x1.id ∧ (closeIfDue x1 x2).psg = x1.psg ∧ (closeIfDue x1 x2).cham = x1.cham ∧ (closeIfDue x1 x2).kst = x1.kst ∧ (closeIfDue x1 x2).mbx = x1.mbx ∧ (closeIfDue x1 x2).lan = x1.lan ∧ (closeIfDue x1 x2).bb = x1.bb ∧ (closeIfDue x1 x2).tim = x1.tim ∧ (closeIfDue x1 x2).lcy = x1.lcy ∧ (closeIfDue x1 x2).die = x1.die ∧ (closeIfDue x1 x2).rng = x1.rng ∧ (closeIfDue x1 x2).pke = x1.pke ∧ (closeIfDue x1 x2).eng = x1.eng ∧ (closeIfDue x1 x2).host = x1.host ∧ (closeIfDue x1 x2).geo = x1.geo ∧ (closeIfDue x1 x2).flash = x1.flash ∧ (closeIfDue x1 x2).wld = x1.wld ∧ (closeIfDue x1 x2).kar = x1.kar ∧ (closeIfDue x1 x2).ctl = x1.ctl := by unfold closeIfDue; (repeat' split) <;> simp

@[simp ↓] theorem event_frame (x1 x2 x3 x4) :
    (event x1 x2 x3 x4).pending = x1.pending ∧ (event x1 x2 x3 x4).now = x1.now ∧ (event x1 x2 x3 x4).fresh = x1.fresh ∧ (event x1 x2 x3 x4).out = x1.out ∧ (event x1 x2 x3 x4).snaps = x1.snaps ∧ (event x1 x2 x3 x4).id = x1.id ∧ (event x1 x2 x3 x4).psg = x1.psg ∧ (event x1 x2 x3 x4).cham = x1.cham ∧ (event x1 x2 x3 x4).kst = x1.kst ∧ (event x1 x2 x3 x4).mbx = x1.mbx ∧ (event x1 x2 x3 x4).lan = x1.lan ∧ (event x1 x2 x3 x4).bb = x1.bb ∧ (event x1 x2 x3 x4).tim = x1.tim ∧ (event x1 x2 x3 x4).lcy = x1.lcy ∧ (event x1 x2 x3 x4).die = x1.die ∧ (event x1 x2 x3 x4).rng = x1.rng ∧ (event x1 x2 x3 x4).pke = x1.pke ∧ (event x1 x2 x3 x4).eng = x1.eng ∧ (event x1 x2 x3 x4).host = x1.host ∧ (event x1 x2 x3 x4).geo = x1.geo ∧ (event x1 x2 x3 x4).flash = x1.flash ∧ (event x1 x2 x3 x4).wld = x1.wld ∧ (event x1 x2 x3 x4).kar = x1.kar ∧ (event x1 x2 x3 x4).ctl = x1.ctl := by unfold event; simp

@[simp ↓] theorem updFunc_frame (x1 x2 x3) :
    (updFunc x1 x2 x3).pending = x1.pending ∧ (updFunc x1 x2 x3).now = x1.now ∧ (updFunc x1 x2 x3).fresh = x1.fresh ∧ (updFunc x1 x2 x3).out = x1.out ∧ (updFunc x1 x2 x3).snaps = x1.snaps ∧ (updFunc x1 x2 x3).id = x1.id ∧ (updFunc x1 x2 x3).psg = x1.psg ∧ (updFunc x1 x2 x3).cham = x1.cham ∧ (updFunc x1 x2 x3).kst = x1.kst ∧ (updFunc x1 x2 x3).mbx = x1.mbx ∧ (updFunc x1 x2 x3).str = x1.str ∧ (updFunc x1 x2 x3).lan = x1.lan ∧ (updFunc x1 x2 x3).bb = x1.bb ∧ (updFunc x1 x2 x3).tim = x1.tim ∧ (updFunc x1 x2 x3).lcy = x1.lcy ∧ (updFunc x1 x2 x3).die = x1.die ∧ (updFunc x1 x2 x3).rng = x1.rng ∧ (updFunc x1 x2 x3).pke = x1.pke ∧ (updFunc x1 x2 x3).eng = x1.eng ∧ (updFunc x1 x2 x3).geo = x1.geo ∧ (updFunc x1 x2 x3).flash = x1.flash ∧ (updFunc x1 x2 x3).wld = x1.wld ∧ (updFunc x1 x2 x3).kar = x1.kar ∧ (updFunc x1 x2 x3).ctl = x1.ctl := by unfold updFunc; simp

@[simp ↓] theorem sendVector_frame (x1 x2 x3) :
    (sendVector x1 x2 x3).pending = x1.pending ∧ (sendVector x1 x2 x3).now = x1.now ∧ (sendVector x1 x2 x3).fresh = x1.fresh ∧ (sendVector x1 x2 x3).snaps = x1.snaps ∧ (sendVector x1 x2 x3).id = x1.id ∧ (sendVector x1 x2 x3).psg = x1.psg ∧ (sendVector x1 x2 x3).cham = x1.cham ∧ (sendVector x1 x2 x3).kst = x1.kst ∧ (sendVector x1 x2 x3).mbx = x1.mbx ∧ (sendVector x1 x2 x3).str = x1.str ∧ (sendVector x1 x2 x3).lan = x1.lan ∧ (sendVector x1 x2 x3).bb = x1.bb ∧ (sendVector x1 x2 x3).tim = x1.tim ∧ (sendVector x1 x2 x3).lcy = x1.lcy ∧ (sendVector x1 x2 x3).die = x1.die ∧ (sendVector x1 x2 x3).rng = x1.rng ∧ (sendVector x1 x2 x3).pke = x1.pke ∧ (sendVector x1 x2 x3).eng = x1.eng ∧ (sendVector x1 x2 x3).geo = x1.geo ∧ (sendVector x1 x2 x3).flash = x1.flash ∧ (sendVector x1 x2 x3).wld = x1.wld ∧ (sendVector x1 x2 x3).kar = x1.kar ∧ (sendVector x1 x2 x3).ctl = x1.ctl := by unfold sendVector; simp

@[simp ↓] theorem updQueue_frame (x1 x2 x3 x4) :
    (updQueue x1 x2 x3 x4).pending = x1.pending ∧ (updQueue x1 x2 x3 x4).now = x1.now ∧ (updQueue x1 x2 x3 x4).fresh = x1.fresh ∧ (updQueue x1 x2 x3 x4).out = x1.out ∧ (updQueue x1 x2 x3 x4).snaps = x1.snaps ∧ (updQueue x1 x2 x3 x4).id = x1.id ∧ (updQueue x1 x2 x3 x4).psg = x1.psg ∧ (updQueue x1 x2 x3 x4).cham = x1.cham ∧ (updQueue x1 x2 x3 x4).kst = x1.kst ∧ (updQueue x1 x2 x3 x4).mbx = x1.mbx ∧ (updQueue x1 x2 x3 x4).str = x1.str ∧ (updQueue x1 x2 x3 x4).lan = x1.lan ∧ (updQueue x1 x2 x3 x4).bb = x1.bb ∧ (updQueue x1 x2 x3 x4).tim = x1.tim ∧ (updQueue x1 x2 x3 x4).lcy = x1.lcy ∧ (updQueue x1 x2 x3 x4).die = x1.die ∧ (updQueue x1 x2 x3 x4).rng = x1.rng ∧ (updQueue x1 x2 x3 x4).pke = x1.pke ∧ (updQueue x1 x2 x3 x4).eng = x1.eng ∧ (updQueue x1 x2 x3 x4).geo = x1.geo ∧ (updQueue x1 x2 x3 x4).flash = x1.flash ∧ (updQueue x1 x2 x3 x4).wld = x1.wld ∧ (updQueue x1 x2 x3 x4).kar = x1.kar ∧ (updQueue x1 x2 x3 x4).ctl = x1.ctl := by unfold updQueue; simp

@[simp ↓] theorem endRing_frame (x1 x2 x3) :
    (endRing x1 x2 x3).pending = x1.pending ∧ (endRing x1 x2 x3).now = x1.now ∧ (endRing x1 x2 x3).fresh = x1.fresh ∧ (endRing x1 x2 x3).out = x1.out ∧ (endRing x1 x2 x3).snaps = x1.snaps ∧ (endRing x1 x2 x3).id = x1.id ∧ (endRing x1 x2 x3).psg = x1.psg ∧ (endRing x1 x2 x3).cham = x1.cham ∧ (endRing x1 x2 x3).kst = x1.kst ∧ (endRing x1 x2 x3).mbx = x1.mbx ∧ (endRing x1 x2 x3).str = x1.str ∧ (endRing x1 x2 x3).lan = x1.lan ∧ (endRing x1 x2 x3).bb = x1.bb ∧ (endRing x1 x2 x3).tim = x1.tim ∧ (endRing x1 x2 x3).lcy = x1.lcy ∧ (endRing x1 x2 x3).die = x1.die ∧ (endRing x1 x2 x3).rng = x1.rng ∧ (endRing x1 x2 x3).pke = x1.pke ∧ (endRing x1 x2 x3).eng = x1.eng ∧ (endRing x1 x2 x3).geo = x1.geo ∧ (endRing x1 x2 x3).flash = x1.flash ∧ (endRing x1 x2 x3).wld = x1.wld ∧ (endRing x1 x2 x3).kar = x1.kar ∧ (endRing x1 x2 x3).ctl = x1.ctl := by unfold endRing; simp

@[simp ↓] theorem answerCall_frame (x1 x2 x3) :
    (answerCall x1 x2 x3).pending = x1.pending ∧ (answerCall x1 x2 x3).now = x1.now ∧ (answerCall x1 x2 x3).fresh = x1.fresh ∧ (answerCall x1 x2 x3).out = x1.out ∧ (answerCall x1 x2 x3).snaps = x1.snaps ∧ (answerCall x1 x2 x3).id = x1.id ∧ (answerCall x1 x2 x3).psg = x1.psg ∧ (answerCall x1 x2 x3).cham = x1.cham ∧ (answerCall x1 x2 x3).kst = x1.kst ∧ (answerCall x1 x2 x3).mbx = x1.mbx ∧ (answerCall x1 x2 x3).str = x1.str ∧ (answerCall x1 x2 x3).lan = x1.lan ∧ (answerCall x1 x2 x3).bb = x1.bb ∧ (answerCall x1 x2 x3).tim = x1.tim ∧ (answerCall x1 x2 x3).lcy = x1.lcy ∧ (answerCall x1 x2 x3).die = x1.die ∧ (answerCall x1 x2 x3).rng = x1.rng ∧ (answerCall x1 x2 x3).pke = x1.pke ∧ (answerCall x1 x2 x3).eng = x1.eng ∧ (answerCall x1 x2 x3).host = x1.host ∧ (answerCall x1 x2 x3).geo = x1.geo ∧ (answerCall x1 x2 x3).flash = x1.flash ∧ (answerCall x1 x2 x3).kar = x1.kar ∧ (answerCall x1 x2 x3).ctl = x1.ctl := by unfold answerCall; simp

@[simp ↓] theorem answer_frame (x1 x2 x3) :
    (answer x1 x2 x3).pending = x1.pending ∧ (answer x1 x2 x3).now = x1.now ∧ (answer x1 x2 x3).fresh = x1.fresh ∧ (answer x1 x2 x3).snaps = x1.snaps ∧ (answer x1 x2 x3).id = x1.id ∧ (answer x1 x2 x3).psg = x1.psg ∧ (answer x1 x2 x3).cham = x1.cham ∧ (answer x1 x2 x3).kst = x1.kst ∧ (answer x1 x2 x3).str = x1.str ∧ (answer x1 x2 x3).lan = x1.lan ∧ (answer x1 x2 x3).bb = x1.bb ∧ (answer x1 x2 x3).tim = x1.tim ∧ (answer x1 x2 x3).lcy = x1.lcy ∧ (answer x1 x2 x3).die = x1.die ∧ (answer x1 x2 x3).rng = x1.rng ∧ (answer x1 x2 x3).pke = x1.pke ∧ (answer x1 x2 x3).eng = x1.eng ∧ (answer x1 x2 x3).geo = x1.geo ∧ (answer x1 x2 x3).flash = x1.flash ∧ (answer x1 x2 x3).kar = x1.kar ∧ (answer x1 x2 x3).ctl = x1.ctl := by unfold answer; (repeat' split) <;> simp

@[simp ↓] theorem answerStatus_frame (x1 x2 x3) :
    (answerStatus x1 x2 x3).pending = x1.pending ∧ (answerStatus x1 x2 x3).now = x1.now ∧ (answerStatus x1 x2 x3).fresh = x1.fresh ∧ (answerStatus x1 x2 x3).snaps = x1.snaps ∧ (answerStatus x1 x2 x3).id = x1.id ∧ (answerStatus x1 x2 x3).psg = x1.psg ∧ (answerStatus x1 x2 x3).cham = x1.cham ∧ (answerStatus x1 x2 x3).kst = x1.kst ∧ (answerStatus x1 x2 x3).str = x1.str ∧ (answerStatus x1 x2 x3).lan = x1.lan ∧ (answerStatus x1 x2 x3).bb = x1.bb ∧ (answerStatus x1 x2 x3).tim = x1.tim ∧ (answerStatus x1 x2 x3).lcy = x1.lcy ∧ (answerStatus x1 x2 x3).die = x1.die ∧ (answerStatus x1 x2 x3).rng = x1.rng ∧ (answerStatus x1 x2 x3).pke = x1.pke ∧ (answerStatus x1 x2 x3).eng = x1.eng ∧ (answerStatus x1 x2 x3).geo = x1.geo ∧ (answerStatus x1 x2 x3).flash = x1.flash ∧ (answerStatus x1 x2 x3).kar = x1.kar ∧ (answerStatus x1 x2 x3).ctl = x1.ctl := by unfold answerStatus; simp

@[simp ↓] theorem faultAlarm_frame (x1 x2 x3) :
    (faultAlarm x1 x2 x3).pending = x1.pending ∧ (faultAlarm x1 x2 x3).now = x1.now ∧ (faultAlarm x1 x2 x3).fresh = x1.fresh ∧ (faultAlarm x1 x2 x3).out = x1.out ∧ (faultAlarm x1 x2 x3).snaps = x1.snaps ∧ (faultAlarm x1 x2 x3).id = x1.id ∧ (faultAlarm x1 x2 x3).psg = x1.psg ∧ (faultAlarm x1 x2 x3).cham = x1.cham ∧ (faultAlarm x1 x2 x3).kst = x1.kst ∧ (faultAlarm x1 x2 x3).mbx = x1.mbx ∧ (faultAlarm x1 x2 x3).str = x1.str ∧ (faultAlarm x1 x2 x3).bb = x1.bb ∧ (faultAlarm x1 x2 x3).tim = x1.tim ∧ (faultAlarm x1 x2 x3).lcy = x1.lcy ∧ (faultAlarm x1 x2 x3).die = x1.die ∧ (faultAlarm x1 x2 x3).rng = x1.rng ∧ (faultAlarm x1 x2 x3).pke = x1.pke ∧ (faultAlarm x1 x2 x3).eng = x1.eng ∧ (faultAlarm x1 x2 x3).host = x1.host ∧ (faultAlarm x1 x2 x3).geo = x1.geo ∧ (faultAlarm x1 x2 x3).flash = x1.flash ∧ (faultAlarm x1 x2 x3).wld = x1.wld ∧ (faultAlarm x1 x2 x3).kar = x1.kar ∧ (faultAlarm x1 x2 x3).ctl = x1.ctl := by unfold faultAlarm; simp

@[simp ↓] theorem chamberAlert_frame (x1) :
    (chamberAlert x1).pending = x1.pending ∧ (chamberAlert x1).now = x1.now ∧ (chamberAlert x1).fresh = x1.fresh ∧ (chamberAlert x1).snaps = x1.snaps ∧ (chamberAlert x1).id = x1.id ∧ (chamberAlert x1).psg = x1.psg ∧ (chamberAlert x1).kst = x1.kst ∧ (chamberAlert x1).mbx = x1.mbx ∧ (chamberAlert x1).str = x1.str ∧ (chamberAlert x1).lan = x1.lan ∧ (chamberAlert x1).bb = x1.bb ∧ (chamberAlert x1).tim = x1.tim ∧ (chamberAlert x1).lcy = x1.lcy ∧ (chamberAlert x1).die = x1.die ∧ (chamberAlert x1).rng = x1.rng ∧ (chamberAlert x1).pke = x1.pke ∧ (chamberAlert x1).eng = x1.eng ∧ (chamberAlert x1).host = x1.host ∧ (chamberAlert x1).geo = x1.geo ∧ (chamberAlert x1).flash = x1.flash ∧ (chamberAlert x1).wld = x1.wld ∧ (chamberAlert x1).kar = x1.kar ∧ (chamberAlert x1).ctl = x1.ctl := by unfold chamberAlert; simp

@[simp ↓] theorem violation_frame (x1 x2) :
    (violation x1 x2).pending = x1.pending ∧ (violation x1 x2).now = x1.now ∧ (violation x1 x2).fresh = x1.fresh ∧ (violation x1 x2).out = x1.out ∧ (violation x1 x2).snaps = x1.snaps ∧ (violation x1 x2).id = x1.id ∧ (violation x1 x2).psg = x1.psg ∧ (violation x1 x2).cham = x1.cham ∧ (violation x1 x2).kst = x1.kst ∧ (violation x1 x2).mbx = x1.mbx ∧ (violation x1 x2).lan = x1.lan ∧ (violation x1 x2).bb = x1.bb ∧ (violation x1 x2).tim = x1.tim ∧ (violation x1 x2).lcy = x1.lcy ∧ (violation x1 x2).die = x1.die ∧ (violation x1 x2).rng = x1.rng ∧ (violation x1 x2).pke = x1.pke ∧ (violation x1 x2).eng = x1.eng ∧ (violation x1 x2).host = x1.host ∧ (violation x1 x2).geo = x1.geo ∧ (violation x1 x2).flash = x1.flash ∧ (violation x1 x2).kar = x1.kar ∧ (violation x1 x2).ctl = x1.ctl := by unfold violation; simp

@[simp ↓] theorem refuseAccess_frame (x1 x2 x3 x4 x5) :
    (refuseAccess x1 x2 x3 x4 x5).pending = x1.pending ∧ (refuseAccess x1 x2 x3 x4 x5).now = x1.now ∧ (refuseAccess x1 x2 x3 x4 x5).fresh = x1.fresh ∧ (refuseAccess x1 x2 x3 x4 x5).out = x1.out ∧ (refuseAccess x1 x2 x3 x4 x5).snaps = x1.snaps ∧ (refuseAccess x1 x2 x3 x4 x5).id = x1.id ∧ (refuseAccess x1 x2 x3 x4 x5).psg = x1.psg ∧ (refuseAccess x1 x2 x3 x4 x5).cham = x1.cham ∧ (refuseAccess x1 x2 x3 x4 x5).kst = x1.kst ∧ (refuseAccess x1 x2 x3 x4 x5).mbx = x1.mbx ∧ (refuseAccess x1 x2 x3 x4 x5).lan = x1.lan ∧ (refuseAccess x1 x2 x3 x4 x5).bb = x1.bb ∧ (refuseAccess x1 x2 x3 x4 x5).tim = x1.tim ∧ (refuseAccess x1 x2 x3 x4 x5).lcy = x1.lcy ∧ (refuseAccess x1 x2 x3 x4 x5).die = x1.die ∧ (refuseAccess x1 x2 x3 x4 x5).rng = x1.rng ∧ (refuseAccess x1 x2 x3 x4 x5).pke = x1.pke ∧ (refuseAccess x1 x2 x3 x4 x5).eng = x1.eng ∧ (refuseAccess x1 x2 x3 x4 x5).host = x1.host ∧ (refuseAccess x1 x2 x3 x4 x5).geo = x1.geo ∧ (refuseAccess x1 x2 x3 x4 x5).flash = x1.flash ∧ (refuseAccess x1 x2 x3 x4 x5).kar = x1.kar ∧ (refuseAccess x1 x2 x3 x4 x5).ctl = x1.ctl := by unfold refuseAccess; simp

@[simp ↓] theorem lockedWrite_frame (x1 x2 x3) :
    (lockedWrite x1 x2 x3).pending = x1.pending ∧ (lockedWrite x1 x2 x3).now = x1.now ∧ (lockedWrite x1 x2 x3).fresh = x1.fresh ∧ (lockedWrite x1 x2 x3).out = x1.out ∧ (lockedWrite x1 x2 x3).snaps = x1.snaps ∧ (lockedWrite x1 x2 x3).id = x1.id ∧ (lockedWrite x1 x2 x3).psg = x1.psg ∧ (lockedWrite x1 x2 x3).cham = x1.cham ∧ (lockedWrite x1 x2 x3).kst = x1.kst ∧ (lockedWrite x1 x2 x3).mbx = x1.mbx ∧ (lockedWrite x1 x2 x3).lan = x1.lan ∧ (lockedWrite x1 x2 x3).bb = x1.bb ∧ (lockedWrite x1 x2 x3).tim = x1.tim ∧ (lockedWrite x1 x2 x3).lcy = x1.lcy ∧ (lockedWrite x1 x2 x3).die = x1.die ∧ (lockedWrite x1 x2 x3).rng = x1.rng ∧ (lockedWrite x1 x2 x3).pke = x1.pke ∧ (lockedWrite x1 x2 x3).eng = x1.eng ∧ (lockedWrite x1 x2 x3).host = x1.host ∧ (lockedWrite x1 x2 x3).geo = x1.geo ∧ (lockedWrite x1 x2 x3).flash = x1.flash ∧ (lockedWrite x1 x2 x3).kar = x1.kar ∧ (lockedWrite x1 x2 x3).ctl = x1.ctl := by unfold lockedWrite; simp

@[simp ↓] theorem refuseTransfer_frame (x1 x2 x3 x4 x5 x6) :
    (refuseTransfer x1 x2 x3 x4 x5 x6).pending = x1.pending ∧ (refuseTransfer x1 x2 x3 x4 x5 x6).now = x1.now ∧ (refuseTransfer x1 x2 x3 x4 x5 x6).fresh = x1.fresh ∧ (refuseTransfer x1 x2 x3 x4 x5 x6).out = x1.out ∧ (refuseTransfer x1 x2 x3 x4 x5 x6).snaps = x1.snaps ∧ (refuseTransfer x1 x2 x3 x4 x5 x6).id = x1.id ∧ (refuseTransfer x1 x2 x3 x4 x5 x6).psg = x1.psg ∧ (refuseTransfer x1 x2 x3 x4 x5 x6).cham = x1.cham ∧ (refuseTransfer x1 x2 x3 x4 x5 x6).kst = x1.kst ∧ (refuseTransfer x1 x2 x3 x4 x5 x6).mbx = x1.mbx ∧ (refuseTransfer x1 x2 x3 x4 x5 x6).lan = x1.lan ∧ (refuseTransfer x1 x2 x3 x4 x5 x6).bb = x1.bb ∧ (refuseTransfer x1 x2 x3 x4 x5 x6).tim = x1.tim ∧ (refuseTransfer x1 x2 x3 x4 x5 x6).lcy = x1.lcy ∧ (refuseTransfer x1 x2 x3 x4 x5 x6).die = x1.die ∧ (refuseTransfer x1 x2 x3 x4 x5 x6).rng = x1.rng ∧ (refuseTransfer x1 x2 x3 x4 x5 x6).pke = x1.pke ∧ (refuseTransfer x1 x2 x3 x4 x5 x6).eng = x1.eng ∧ (refuseTransfer x1 x2 x3 x4 x5 x6).host = x1.host ∧ (refuseTransfer x1 x2 x3 x4 x5 x6).geo = x1.geo ∧ (refuseTransfer x1 x2 x3 x4 x5 x6).flash = x1.flash ∧ (refuseTransfer x1 x2 x3 x4 x5 x6).kar = x1.kar ∧ (refuseTransfer x1 x2 x3 x4 x5 x6).ctl = x1.ctl := by unfold refuseTransfer; simp

@[simp ↓] theorem ctlRead_frame (x1 x2 x3 x4) :
    (ctlRead x1 x2 x3 x4).1.pending = x1.pending ∧ (ctlRead x1 x2 x3 x4).1.now = x1.now ∧ (ctlRead x1 x2 x3 x4).1.fresh = x1.fresh ∧ (ctlRead x1 x2 x3 x4).1.out = x1.out ∧ (ctlRead x1 x2 x3 x4).1.snaps = x1.snaps ∧ (ctlRead x1 x2 x3 x4).1.id = x1.id ∧ (ctlRead x1 x2 x3 x4).1.psg = x1.psg ∧ (ctlRead x1 x2 x3 x4).1.cham = x1.cham ∧ (ctlRead x1 x2 x3 x4).1.kst = x1.kst ∧ (ctlRead x1 x2 x3 x4).1.mbx = x1.mbx ∧ (ctlRead x1 x2 x3 x4).1.lan = x1.lan ∧ (ctlRead x1 x2 x3 x4).1.bb = x1.bb ∧ (ctlRead x1 x2 x3 x4).1.tim = x1.tim ∧ (ctlRead x1 x2 x3 x4).1.lcy = x1.lcy ∧ (ctlRead x1 x2 x3 x4).1.die = x1.die ∧ (ctlRead x1 x2 x3 x4).1.rng = x1.rng ∧ (ctlRead x1 x2 x3 x4).1.pke = x1.pke ∧ (ctlRead x1 x2 x3 x4).1.eng = x1.eng ∧ (ctlRead x1 x2 x3 x4).1.host = x1.host ∧ (ctlRead x1 x2 x3 x4).1.geo = x1.geo ∧ (ctlRead x1 x2 x3 x4).1.flash = x1.flash ∧ (ctlRead x1 x2 x3 x4).1.kar = x1.kar ∧ (ctlRead x1 x2 x3 x4).1.ctl = x1.ctl := by unfold ctlRead; (repeat' split) <;> simp

theorem ctlRead_frame_of {x1 x2 x3 x4 x t} (h : ctlRead x1 x2 x3 x4 = (t, x)) :
    t.pending = x1.pending ∧ t.now = x1.now ∧ t.fresh = x1.fresh ∧ t.out = x1.out ∧ t.snaps = x1.snaps ∧ t.id = x1.id ∧ t.psg = x1.psg ∧ t.cham = x1.cham ∧ t.kst = x1.kst ∧ t.mbx = x1.mbx ∧ t.lan = x1.lan ∧ t.bb = x1.bb ∧ t.tim = x1.tim ∧ t.lcy = x1.lcy ∧ t.die = x1.die ∧ t.rng = x1.rng ∧ t.pke = x1.pke ∧ t.eng = x1.eng ∧ t.host = x1.host ∧ t.geo = x1.geo ∧ t.flash = x1.flash ∧ t.kar = x1.kar ∧ t.ctl = x1.ctl := by
  have e := ctlRead_frame x1 x2 x3 x4; rw [h] at e; exact e

@[simp ↓] theorem ctlWrite_frame (x1 x2 x3 x4) :
    (ctlWrite x1 x2 x3 x4).pending = x1.pending ∧ (ctlWrite x1 x2 x3 x4).now = x1.now ∧ (ctlWrite x1 x2 x3 x4).fresh = x1.fresh ∧ (ctlWrite x1 x2 x3 x4).out = x1.out ∧ (ctlWrite x1 x2 x3 x4).snaps = x1.snaps ∧ (ctlWrite x1 x2 x3 x4).id = x1.id ∧ (ctlWrite x1 x2 x3 x4).psg = x1.psg ∧ (ctlWrite x1 x2 x3 x4).cham = x1.cham ∧ (ctlWrite x1 x2 x3 x4).kst = x1.kst ∧ (ctlWrite x1 x2 x3 x4).mbx = x1.mbx ∧ (ctlWrite x1 x2 x3 x4).lan = x1.lan ∧ (ctlWrite x1 x2 x3 x4).bb = x1.bb ∧ (ctlWrite x1 x2 x3 x4).tim = x1.tim ∧ (ctlWrite x1 x2 x3 x4).lcy = x1.lcy ∧ (ctlWrite x1 x2 x3 x4).die = x1.die ∧ (ctlWrite x1 x2 x3 x4).rng = x1.rng ∧ (ctlWrite x1 x2 x3 x4).pke = x1.pke ∧ (ctlWrite x1 x2 x3 x4).eng = x1.eng ∧ (ctlWrite x1 x2 x3 x4).host = x1.host ∧ (ctlWrite x1 x2 x3 x4).geo = x1.geo ∧ (ctlWrite x1 x2 x3 x4).flash = x1.flash ∧ (ctlWrite x1 x2 x3 x4).kar = x1.kar := by unfold ctlWrite; (repeat' split) <;> simp

end Sys2Proof.Machine
end

