-- ==== Sys2Proof/Laws/Frames/Operands.lean ====
section
/-!
SUPPORT. What the operations of Machine/Operands.lean leave unchanged: for each, every part of the state that it does not touch.
-/

set_option Elab.async false

set_option linter.all false
set_option maxRecDepth 2000

namespace Sys2Proof.Machine

@[simp ↓] theorem updWire_frame (x1 x2 x3) :
    (updWire x1 x2 x3).pending = x1.pending ∧ (updWire x1 x2 x3).now = x1.now ∧ (updWire x1 x2 x3).fresh = x1.fresh ∧ (updWire x1 x2 x3).out = x1.out ∧ (updWire x1 x2 x3).snaps = x1.snaps ∧ (updWire x1 x2 x3).id = x1.id ∧ (updWire x1 x2 x3).cham = x1.cham ∧ (updWire x1 x2 x3).kst = x1.kst ∧ (updWire x1 x2 x3).mbx = x1.mbx ∧ (updWire x1 x2 x3).str = x1.str ∧ (updWire x1 x2 x3).lan = x1.lan ∧ (updWire x1 x2 x3).bb = x1.bb ∧ (updWire x1 x2 x3).tim = x1.tim ∧ (updWire x1 x2 x3).lcy = x1.lcy ∧ (updWire x1 x2 x3).die = x1.die ∧ (updWire x1 x2 x3).rng = x1.rng ∧ (updWire x1 x2 x3).pke = x1.pke ∧ (updWire x1 x2 x3).eng = x1.eng ∧ (updWire x1 x2 x3).host = x1.host ∧ (updWire x1 x2 x3).geo = x1.geo ∧ (updWire x1 x2 x3).flash = x1.flash ∧ (updWire x1 x2 x3).wld = x1.wld ∧ (updWire x1 x2 x3).kar = x1.kar ∧ (updWire x1 x2 x3).ctl = x1.ctl := by unfold updWire; simp

@[simp ↓] theorem updPort_frame (x1 x2 x3) :
    (updPort x1 x2 x3).pending = x1.pending ∧ (updPort x1 x2 x3).now = x1.now ∧ (updPort x1 x2 x3).fresh = x1.fresh ∧ (updPort x1 x2 x3).out = x1.out ∧ (updPort x1 x2 x3).snaps = x1.snaps ∧ (updPort x1 x2 x3).id = x1.id ∧ (updPort x1 x2 x3).cham = x1.cham ∧ (updPort x1 x2 x3).kst = x1.kst ∧ (updPort x1 x2 x3).mbx = x1.mbx ∧ (updPort x1 x2 x3).str = x1.str ∧ (updPort x1 x2 x3).lan = x1.lan ∧ (updPort x1 x2 x3).bb = x1.bb ∧ (updPort x1 x2 x3).tim = x1.tim ∧ (updPort x1 x2 x3).lcy = x1.lcy ∧ (updPort x1 x2 x3).die = x1.die ∧ (updPort x1 x2 x3).rng = x1.rng ∧ (updPort x1 x2 x3).pke = x1.pke ∧ (updPort x1 x2 x3).eng = x1.eng ∧ (updPort x1 x2 x3).host = x1.host ∧ (updPort x1 x2 x3).geo = x1.geo ∧ (updPort x1 x2 x3).flash = x1.flash ∧ (updPort x1 x2 x3).wld = x1.wld ∧ (updPort x1 x2 x3).kar = x1.kar ∧ (updPort x1 x2 x3).ctl = x1.ctl := by unfold updPort; simp

@[simp ↓] theorem bumpPort_frame (x1 x2 x3) :
    (bumpPort x1 x2 x3).pending = x1.pending ∧ (bumpPort x1 x2 x3).now = x1.now ∧ (bumpPort x1 x2 x3).fresh = x1.fresh ∧ (bumpPort x1 x2 x3).out = x1.out ∧ (bumpPort x1 x2 x3).snaps = x1.snaps ∧ (bumpPort x1 x2 x3).id = x1.id ∧ (bumpPort x1 x2 x3).cham = x1.cham ∧ (bumpPort x1 x2 x3).kst = x1.kst ∧ (bumpPort x1 x2 x3).mbx = x1.mbx ∧ (bumpPort x1 x2 x3).str = x1.str ∧ (bumpPort x1 x2 x3).lan = x1.lan ∧ (bumpPort x1 x2 x3).bb = x1.bb ∧ (bumpPort x1 x2 x3).tim = x1.tim ∧ (bumpPort x1 x2 x3).lcy = x1.lcy ∧ (bumpPort x1 x2 x3).die = x1.die ∧ (bumpPort x1 x2 x3).rng = x1.rng ∧ (bumpPort x1 x2 x3).pke = x1.pke ∧ (bumpPort x1 x2 x3).eng = x1.eng ∧ (bumpPort x1 x2 x3).host = x1.host ∧ (bumpPort x1 x2 x3).geo = x1.geo ∧ (bumpPort x1 x2 x3).flash = x1.flash ∧ (bumpPort x1 x2 x3).wld = x1.wld ∧ (bumpPort x1 x2 x3).kar = x1.kar ∧ (bumpPort x1 x2 x3).ctl = x1.ctl := by unfold bumpPort; simp

@[simp ↓] theorem updDomain_frame (x1 x2 x3) :
    (updDomain x1 x2 x3).pending = x1.pending ∧ (updDomain x1 x2 x3).now = x1.now ∧ (updDomain x1 x2 x3).fresh = x1.fresh ∧ (updDomain x1 x2 x3).out = x1.out ∧ (updDomain x1 x2 x3).snaps = x1.snaps ∧ (updDomain x1 x2 x3).id = x1.id ∧ (updDomain x1 x2 x3).psg = x1.psg ∧ (updDomain x1 x2 x3).cham = x1.cham ∧ (updDomain x1 x2 x3).mbx = x1.mbx ∧ (updDomain x1 x2 x3).str = x1.str ∧ (updDomain x1 x2 x3).lan = x1.lan ∧ (updDomain x1 x2 x3).bb = x1.bb ∧ (updDomain x1 x2 x3).tim = x1.tim ∧ (updDomain x1 x2 x3).lcy = x1.lcy ∧ (updDomain x1 x2 x3).die = x1.die ∧ (updDomain x1 x2 x3).rng = x1.rng ∧ (updDomain x1 x2 x3).pke = x1.pke ∧ (updDomain x1 x2 x3).eng = x1.eng ∧ (updDomain x1 x2 x3).host = x1.host ∧ (updDomain x1 x2 x3).geo = x1.geo ∧ (updDomain x1 x2 x3).flash = x1.flash ∧ (updDomain x1 x2 x3).wld = x1.wld ∧ (updDomain x1 x2 x3).kar = x1.kar ∧ (updDomain x1 x2 x3).ctl = x1.ctl := by unfold updDomain; simp

@[simp ↓] theorem touchSlot_frame (x1 x2) :
    (touchSlot x1 x2).pending = x1.pending ∧ (touchSlot x1 x2).now = x1.now ∧ (touchSlot x1 x2).fresh = x1.fresh ∧ (touchSlot x1 x2).out = x1.out ∧ (touchSlot x1 x2).snaps = x1.snaps ∧ (touchSlot x1 x2).id = x1.id ∧ (touchSlot x1 x2).psg = x1.psg ∧ (touchSlot x1 x2).cham = x1.cham ∧ (touchSlot x1 x2).mbx = x1.mbx ∧ (touchSlot x1 x2).str = x1.str ∧ (touchSlot x1 x2).lan = x1.lan ∧ (touchSlot x1 x2).bb = x1.bb ∧ (touchSlot x1 x2).tim = x1.tim ∧ (touchSlot x1 x2).lcy = x1.lcy ∧ (touchSlot x1 x2).die = x1.die ∧ (touchSlot x1 x2).rng = x1.rng ∧ (touchSlot x1 x2).pke = x1.pke ∧ (touchSlot x1 x2).eng = x1.eng ∧ (touchSlot x1 x2).host = x1.host ∧ (touchSlot x1 x2).geo = x1.geo ∧ (touchSlot x1 x2).flash = x1.flash ∧ (touchSlot x1 x2).wld = x1.wld ∧ (touchSlot x1 x2).kar = x1.kar ∧ (touchSlot x1 x2).ctl = x1.ctl := by unfold touchSlot; (repeat' split) <;> simp

end Sys2Proof.Machine
end

