-- ==== Sys2Proof/Laws/Frames/PassageOps.lean ====
section
/-!
SUPPORT. What the operations of Machine/PassageOps.lean leave unchanged: for each, every part of the state that it does not touch.
-/

set_option Elab.async false

set_option linter.all false
set_option maxRecDepth 2000

namespace Sys2Proof.Machine

@[simp ↓] theorem countVerdict_frame (x1 x2 x3) :
    (countVerdict x1 x2 x3).pending = x1.pending ∧ (countVerdict x1 x2 x3).now = x1.now ∧ (countVerdict x1 x2 x3).fresh = x1.fresh ∧ (countVerdict x1 x2 x3).out = x1.out ∧ (countVerdict x1 x2 x3).snaps = x1.snaps ∧ (countVerdict x1 x2 x3).id = x1.id ∧ (countVerdict x1 x2 x3).cham = x1.cham ∧ (countVerdict x1 x2 x3).kst = x1.kst ∧ (countVerdict x1 x2 x3).mbx = x1.mbx ∧ (countVerdict x1 x2 x3).str = x1.str ∧ (countVerdict x1 x2 x3).lan = x1.lan ∧ (countVerdict x1 x2 x3).bb = x1.bb ∧ (countVerdict x1 x2 x3).tim = x1.tim ∧ (countVerdict x1 x2 x3).lcy = x1.lcy ∧ (countVerdict x1 x2 x3).die = x1.die ∧ (countVerdict x1 x2 x3).rng = x1.rng ∧ (countVerdict x1 x2 x3).pke = x1.pke ∧ (countVerdict x1 x2 x3).eng = x1.eng ∧ (countVerdict x1 x2 x3).host = x1.host ∧ (countVerdict x1 x2 x3).geo = x1.geo ∧ (countVerdict x1 x2 x3).flash = x1.flash ∧ (countVerdict x1 x2 x3).wld = x1.wld ∧ (countVerdict x1 x2 x3).kar = x1.kar ∧ (countVerdict x1 x2 x3).ctl = x1.ctl := by unfold countVerdict; simp

@[simp ↓] theorem updFlow_frame (x1 x2 x3) :
    (updFlow x1 x2 x3).pending = x1.pending ∧ (updFlow x1 x2 x3).now = x1.now ∧ (updFlow x1 x2 x3).fresh = x1.fresh ∧ (updFlow x1 x2 x3).out = x1.out ∧ (updFlow x1 x2 x3).snaps = x1.snaps ∧ (updFlow x1 x2 x3).id = x1.id ∧ (updFlow x1 x2 x3).cham = x1.cham ∧ (updFlow x1 x2 x3).kst = x1.kst ∧ (updFlow x1 x2 x3).mbx = x1.mbx ∧ (updFlow x1 x2 x3).str = x1.str ∧ (updFlow x1 x2 x3).lan = x1.lan ∧ (updFlow x1 x2 x3).bb = x1.bb ∧ (updFlow x1 x2 x3).tim = x1.tim ∧ (updFlow x1 x2 x3).lcy = x1.lcy ∧ (updFlow x1 x2 x3).die = x1.die ∧ (updFlow x1 x2 x3).rng = x1.rng ∧ (updFlow x1 x2 x3).pke = x1.pke ∧ (updFlow x1 x2 x3).eng = x1.eng ∧ (updFlow x1 x2 x3).host = x1.host ∧ (updFlow x1 x2 x3).geo = x1.geo ∧ (updFlow x1 x2 x3).flash = x1.flash ∧ (updFlow x1 x2 x3).wld = x1.wld ∧ (updFlow x1 x2 x3).kar = x1.kar ∧ (updFlow x1 x2 x3).ctl = x1.ctl := by unfold updFlow; (repeat' split) <;> simp

@[simp ↓] theorem trace_frame (x1 x2 x3) :
    (trace x1 x2 x3).pending = x1.pending ∧ (trace x1 x2 x3).now = x1.now ∧ (trace x1 x2 x3).fresh = x1.fresh ∧ (trace x1 x2 x3).out = x1.out ∧ (trace x1 x2 x3).snaps = x1.snaps ∧ (trace x1 x2 x3).id = x1.id ∧ (trace x1 x2 x3).psg = x1.psg ∧ (trace x1 x2 x3).cham = x1.cham ∧ (trace x1 x2 x3).kst = x1.kst ∧ (trace x1 x2 x3).mbx = x1.mbx ∧ (trace x1 x2 x3).str = x1.str ∧ (trace x1 x2 x3).lan = x1.lan ∧ (trace x1 x2 x3).bb = x1.bb ∧ (trace x1 x2 x3).tim = x1.tim ∧ (trace x1 x2 x3).die = x1.die ∧ (trace x1 x2 x3).rng = x1.rng ∧ (trace x1 x2 x3).pke = x1.pke ∧ (trace x1 x2 x3).eng = x1.eng ∧ (trace x1 x2 x3).host = x1.host ∧ (trace x1 x2 x3).geo = x1.geo ∧ (trace x1 x2 x3).flash = x1.flash ∧ (trace x1 x2 x3).wld = x1.wld ∧ (trace x1 x2 x3).kar = x1.kar ∧ (trace x1 x2 x3).ctl = x1.ctl := by unfold trace; simp

@[simp ↓] theorem writeRecord_frame (x1 x2 x3 x4 x5) :
    (writeRecord x1 x2 x3 x4 x5).pending = x1.pending ∧ (writeRecord x1 x2 x3 x4 x5).now = x1.now ∧ (writeRecord x1 x2 x3 x4 x5).fresh = x1.fresh ∧ (writeRecord x1 x2 x3 x4 x5).out = x1.out ∧ (writeRecord x1 x2 x3 x4 x5).snaps = x1.snaps ∧ (writeRecord x1 x2 x3 x4 x5).id = x1.id ∧ (writeRecord x1 x2 x3 x4 x5).cham = x1.cham ∧ (writeRecord x1 x2 x3 x4 x5).kst = x1.kst ∧ (writeRecord x1 x2 x3 x4 x5).mbx = x1.mbx ∧ (writeRecord x1 x2 x3 x4 x5).lan = x1.lan ∧ (writeRecord x1 x2 x3 x4 x5).bb = x1.bb ∧ (writeRecord x1 x2 x3 x4 x5).tim = x1.tim ∧ (writeRecord x1 x2 x3 x4 x5).die = x1.die ∧ (writeRecord x1 x2 x3 x4 x5).rng = x1.rng ∧ (writeRecord x1 x2 x3 x4 x5).pke = x1.pke ∧ (writeRecord x1 x2 x3 x4 x5).eng = x1.eng ∧ (writeRecord x1 x2 x3 x4 x5).host = x1.host ∧ (writeRecord x1 x2 x3 x4 x5).geo = x1.geo ∧ (writeRecord x1 x2 x3 x4 x5).flash = x1.flash ∧ (writeRecord x1 x2 x3 x4 x5).kar = x1.kar := by unfold writeRecord; simp

@[simp ↓] theorem verdictEvent_frame (x1 x2 x3 x4 x5) :
    (verdictEvent x1 x2 x3 x4 x5).pending = x1.pending ∧ (verdictEvent x1 x2 x3 x4 x5).now = x1.now ∧ (verdictEvent x1 x2 x3 x4 x5).fresh = x1.fresh ∧ (verdictEvent x1 x2 x3 x4 x5).out = x1.out ∧ (verdictEvent x1 x2 x3 x4 x5).snaps = x1.snaps ∧ (verdictEvent x1 x2 x3 x4 x5).id = x1.id ∧ (verdictEvent x1 x2 x3 x4 x5).psg = x1.psg ∧ (verdictEvent x1 x2 x3 x4 x5).cham = x1.cham ∧ (verdictEvent x1 x2 x3 x4 x5).kst = x1.kst ∧ (verdictEvent x1 x2 x3 x4 x5).mbx = x1.mbx ∧ (verdictEvent x1 x2 x3 x4 x5).lan = x1.lan ∧ (verdictEvent x1 x2 x3 x4 x5).bb = x1.bb ∧ (verdictEvent x1 x2 x3 x4 x5).tim = x1.tim ∧ (verdictEvent x1 x2 x3 x4 x5).lcy = x1.lcy ∧ (verdictEvent x1 x2 x3 x4 x5).die = x1.die ∧ (verdictEvent x1 x2 x3 x4 x5).rng = x1.rng ∧ (verdictEvent x1 x2 x3 x4 x5).pke = x1.pke ∧ (verdictEvent x1 x2 x3 x4 x5).eng = x1.eng ∧ (verdictEvent x1 x2 x3 x4 x5).host = x1.host ∧ (verdictEvent x1 x2 x3 x4 x5).geo = x1.geo ∧ (verdictEvent x1 x2 x3 x4 x5).flash = x1.flash ∧ (verdictEvent x1 x2 x3 x4 x5).wld = x1.wld ∧ (verdictEvent x1 x2 x3 x4 x5).kar = x1.kar ∧ (verdictEvent x1 x2 x3 x4 x5).ctl = x1.ctl := by unfold verdictEvent; simp

@[simp ↓] theorem finalVerdict_frame (x1 x2 x3 x4 x5 x6) :
    (finalVerdict x1 x2 x3 x4 x5 x6).pending = x1.pending ∧ (finalVerdict x1 x2 x3 x4 x5 x6).now = x1.now ∧ (finalVerdict x1 x2 x3 x4 x5 x6).fresh = x1.fresh ∧ (finalVerdict x1 x2 x3 x4 x5 x6).out = x1.out ∧ (finalVerdict x1 x2 x3 x4 x5 x6).snaps = x1.snaps ∧ (finalVerdict x1 x2 x3 x4 x5 x6).id = x1.id ∧ (finalVerdict x1 x2 x3 x4 x5 x6).cham = x1.cham ∧ (finalVerdict x1 x2 x3 x4 x5 x6).kst = x1.kst ∧ (finalVerdict x1 x2 x3 x4 x5 x6).mbx = x1.mbx ∧ (finalVerdict x1 x2 x3 x4 x5 x6).lan = x1.lan ∧ (finalVerdict x1 x2 x3 x4 x5 x6).bb = x1.bb ∧ (finalVerdict x1 x2 x3 x4 x5 x6).tim = x1.tim ∧ (finalVerdict x1 x2 x3 x4 x5 x6).die = x1.die ∧ (finalVerdict x1 x2 x3 x4 x5 x6).rng = x1.rng ∧ (finalVerdict x1 x2 x3 x4 x5 x6).pke = x1.pke ∧ (finalVerdict x1 x2 x3 x4 x5 x6).eng = x1.eng ∧ (finalVerdict x1 x2 x3 x4 x5 x6).host = x1.host ∧ (finalVerdict x1 x2 x3 x4 x5 x6).geo = x1.geo ∧ (finalVerdict x1 x2 x3 x4 x5 x6).flash = x1.flash ∧ (finalVerdict x1 x2 x3 x4 x5 x6).kar = x1.kar := by unfold finalVerdict; simp

@[simp ↓] theorem egressJoin_frame (x1 x2 x3 x4 x5) :
    (egressJoin x1 x2 x3 x4 x5).pending = x1.pending ∧ (egressJoin x1 x2 x3 x4 x5).now = x1.now ∧ (egressJoin x1 x2 x3 x4 x5).fresh = x1.fresh ∧ (egressJoin x1 x2 x3 x4 x5).out = x1.out ∧ (egressJoin x1 x2 x3 x4 x5).snaps = x1.snaps ∧ (egressJoin x1 x2 x3 x4 x5).id = x1.id ∧ (egressJoin x1 x2 x3 x4 x5).cham = x1.cham ∧ (egressJoin x1 x2 x3 x4 x5).kst = x1.kst ∧ (egressJoin x1 x2 x3 x4 x5).mbx = x1.mbx ∧ (egressJoin x1 x2 x3 x4 x5).str = x1.str ∧ (egressJoin x1 x2 x3 x4 x5).lan = x1.lan ∧ (egressJoin x1 x2 x3 x4 x5).bb = x1.bb ∧ (egressJoin x1 x2 x3 x4 x5).tim = x1.tim ∧ (egressJoin x1 x2 x3 x4 x5).lcy = x1.lcy ∧ (egressJoin x1 x2 x3 x4 x5).die = x1.die ∧ (egressJoin x1 x2 x3 x4 x5).rng = x1.rng ∧ (egressJoin x1 x2 x3 x4 x5).pke = x1.pke ∧ (egressJoin x1 x2 x3 x4 x5).eng = x1.eng ∧ (egressJoin x1 x2 x3 x4 x5).host = x1.host ∧ (egressJoin x1 x2 x3 x4 x5).geo = x1.geo ∧ (egressJoin x1 x2 x3 x4 x5).flash = x1.flash ∧ (egressJoin x1 x2 x3 x4 x5).wld = x1.wld ∧ (egressJoin x1 x2 x3 x4 x5).kar = x1.kar ∧ (egressJoin x1 x2 x3 x4 x5).ctl = x1.ctl := by unfold egressJoin; simp

@[simp ↓] theorem deliverManagement_frame (x1 x2 x3 x4) :
    (deliverManagement x1 x2 x3 x4).pending = x1.pending ∧ (deliverManagement x1 x2 x3 x4).now = x1.now ∧ (deliverManagement x1 x2 x3 x4).fresh = x1.fresh ∧ (deliverManagement x1 x2 x3 x4).snaps = x1.snaps ∧ (deliverManagement x1 x2 x3 x4).id = x1.id ∧ (deliverManagement x1 x2 x3 x4).psg = x1.psg ∧ (deliverManagement x1 x2 x3 x4).cham = x1.cham ∧ (deliverManagement x1 x2 x3 x4).kst = x1.kst ∧ (deliverManagement x1 x2 x3 x4).mbx = x1.mbx ∧ (deliverManagement x1 x2 x3 x4).str = x1.str ∧ (deliverManagement x1 x2 x3 x4).lan = x1.lan ∧ (deliverManagement x1 x2 x3 x4).bb = x1.bb ∧ (deliverManagement x1 x2 x3 x4).lcy = x1.lcy ∧ (deliverManagement x1 x2 x3 x4).die = x1.die ∧ (deliverManagement x1 x2 x3 x4).rng = x1.rng ∧ (deliverManagement x1 x2 x3 x4).pke = x1.pke ∧ (deliverManagement x1 x2 x3 x4).eng = x1.eng ∧ (deliverManagement x1 x2 x3 x4).host = x1.host ∧ (deliverManagement x1 x2 x3 x4).geo = x1.geo ∧ (deliverManagement x1 x2 x3 x4).flash = x1.flash ∧ (deliverManagement x1 x2 x3 x4).wld = x1.wld ∧ (deliverManagement x1 x2 x3 x4).kar = x1.kar ∧ (deliverManagement x1 x2 x3 x4).ctl = x1.ctl := by unfold deliverManagement; simp

@[simp ↓] theorem deliverPunt_frame (x1 x2 x3) :
    (deliverPunt x1 x2 x3).pending = x1.pending ∧ (deliverPunt x1 x2 x3).now = x1.now ∧ (deliverPunt x1 x2 x3).fresh = x1.fresh ∧ (deliverPunt x1 x2 x3).snaps = x1.snaps ∧ (deliverPunt x1 x2 x3).id = x1.id ∧ (deliverPunt x1 x2 x3).cham = x1.cham ∧ (deliverPunt x1 x2 x3).kst = x1.kst ∧ (deliverPunt x1 x2 x3).mbx = x1.mbx ∧ (deliverPunt x1 x2 x3).lan = x1.lan ∧ (deliverPunt x1 x2 x3).bb = x1.bb ∧ (deliverPunt x1 x2 x3).tim = x1.tim ∧ (deliverPunt x1 x2 x3).lcy = x1.lcy ∧ (deliverPunt x1 x2 x3).die = x1.die ∧ (deliverPunt x1 x2 x3).rng = x1.rng ∧ (deliverPunt x1 x2 x3).pke = x1.pke ∧ (deliverPunt x1 x2 x3).eng = x1.eng ∧ (deliverPunt x1 x2 x3).host = x1.host ∧ (deliverPunt x1 x2 x3).geo = x1.geo ∧ (deliverPunt x1 x2 x3).flash = x1.flash ∧ (deliverPunt x1 x2 x3).wld = x1.wld ∧ (deliverPunt x1 x2 x3).kar = x1.kar ∧ (deliverPunt x1 x2 x3).ctl = x1.ctl := by unfold deliverPunt; simp

@[simp ↓] theorem updHeld_frame (x1 x2 x3 x4) :
    (updHeld x1 x2 x3 x4).pending = x1.pending ∧ (updHeld x1 x2 x3 x4).now = x1.now ∧ (updHeld x1 x2 x3 x4).fresh = x1.fresh ∧ (updHeld x1 x2 x3 x4).out = x1.out ∧ (updHeld x1 x2 x3 x4).snaps = x1.snaps ∧ (updHeld x1 x2 x3 x4).id = x1.id ∧ (updHeld x1 x2 x3 x4).cham = x1.cham ∧ (updHeld x1 x2 x3 x4).kst = x1.kst ∧ (updHeld x1 x2 x3 x4).mbx = x1.mbx ∧ (updHeld x1 x2 x3 x4).str = x1.str ∧ (updHeld x1 x2 x3 x4).lan = x1.lan ∧ (updHeld x1 x2 x3 x4).bb = x1.bb ∧ (updHeld x1 x2 x3 x4).tim = x1.tim ∧ (updHeld x1 x2 x3 x4).lcy = x1.lcy ∧ (updHeld x1 x2 x3 x4).die = x1.die ∧ (updHeld x1 x2 x3 x4).rng = x1.rng ∧ (updHeld x1 x2 x3 x4).pke = x1.pke ∧ (updHeld x1 x2 x3 x4).eng = x1.eng ∧ (updHeld x1 x2 x3 x4).host = x1.host ∧ (updHeld x1 x2 x3 x4).geo = x1.geo ∧ (updHeld x1 x2 x3 x4).flash = x1.flash ∧ (updHeld x1 x2 x3 x4).wld = x1.wld ∧ (updHeld x1 x2 x3 x4).kar = x1.kar ∧ (updHeld x1 x2 x3 x4).ctl = x1.ctl := by unfold updHeld; simp

@[simp ↓] theorem refreshLocked_frame (x1 x2) :
    (refreshLocked x1 x2).pending = x1.pending ∧ (refreshLocked x1 x2).now = x1.now ∧ (refreshLocked x1 x2).fresh = x1.fresh ∧ (refreshLocked x1 x2).out = x1.out ∧ (refreshLocked x1 x2).snaps = x1.snaps ∧ (refreshLocked x1 x2).id = x1.id ∧ (refreshLocked x1 x2).cham = x1.cham ∧ (refreshLocked x1 x2).kst = x1.kst ∧ (refreshLocked x1 x2).mbx = x1.mbx ∧ (refreshLocked x1 x2).str = x1.str ∧ (refreshLocked x1 x2).lan = x1.lan ∧ (refreshLocked x1 x2).bb = x1.bb ∧ (refreshLocked x1 x2).tim = x1.tim ∧ (refreshLocked x1 x2).lcy = x1.lcy ∧ (refreshLocked x1 x2).die = x1.die ∧ (refreshLocked x1 x2).rng = x1.rng ∧ (refreshLocked x1 x2).pke = x1.pke ∧ (refreshLocked x1 x2).eng = x1.eng ∧ (refreshLocked x1 x2).host = x1.host ∧ (refreshLocked x1 x2).geo = x1.geo ∧ (refreshLocked x1 x2).flash = x1.flash ∧ (refreshLocked x1 x2).wld = x1.wld ∧ (refreshLocked x1 x2).kar = x1.kar ∧ (refreshLocked x1 x2).ctl = x1.ctl := by unfold refreshLocked; simp

@[simp ↓] theorem cancelJobs_frame (x1 x2 x3) :
    (cancelJobs x1 x2 x3).pending = x1.pending ∧ (cancelJobs x1 x2 x3).now = x1.now ∧ (cancelJobs x1 x2 x3).fresh = x1.fresh ∧ (cancelJobs x1 x2 x3).out = x1.out ∧ (cancelJobs x1 x2 x3).snaps = x1.snaps ∧ (cancelJobs x1 x2 x3).id = x1.id ∧ (cancelJobs x1 x2 x3).cham = x1.cham ∧ (cancelJobs x1 x2 x3).kst = x1.kst ∧ (cancelJobs x1 x2 x3).mbx = x1.mbx ∧ (cancelJobs x1 x2 x3).str = x1.str ∧ (cancelJobs x1 x2 x3).lan = x1.lan ∧ (cancelJobs x1 x2 x3).bb = x1.bb ∧ (cancelJobs x1 x2 x3).tim = x1.tim ∧ (cancelJobs x1 x2 x3).lcy = x1.lcy ∧ (cancelJobs x1 x2 x3).die = x1.die ∧ (cancelJobs x1 x2 x3).rng = x1.rng ∧ (cancelJobs x1 x2 x3).pke = x1.pke ∧ (cancelJobs x1 x2 x3).eng = x1.eng ∧ (cancelJobs x1 x2 x3).host = x1.host ∧ (cancelJobs x1 x2 x3).geo = x1.geo ∧ (cancelJobs x1 x2 x3).flash = x1.flash ∧ (cancelJobs x1 x2 x3).wld = x1.wld ∧ (cancelJobs x1 x2 x3).kar = x1.kar ∧ (cancelJobs x1 x2 x3).ctl = x1.ctl := by unfold cancelJobs; simp

@[simp ↓] theorem dropHeld_frame (x1 x2 x3) :
    (dropHeld x1 x2 x3).pending = x1.pending ∧ (dropHeld x1 x2 x3).now = x1.now ∧ (dropHeld x1 x2 x3).fresh = x1.fresh ∧ (dropHeld x1 x2 x3).out = x1.out ∧ (dropHeld x1 x2 x3).snaps = x1.snaps ∧ (dropHeld x1 x2 x3).id = x1.id ∧ (dropHeld x1 x2 x3).cham = x1.cham ∧ (dropHeld x1 x2 x3).kst = x1.kst ∧ (dropHeld x1 x2 x3).mbx = x1.mbx ∧ (dropHeld x1 x2 x3).str = x1.str ∧ (dropHeld x1 x2 x3).lan = x1.lan ∧ (dropHeld x1 x2 x3).bb = x1.bb ∧ (dropHeld x1 x2 x3).tim = x1.tim ∧ (dropHeld x1 x2 x3).lcy = x1.lcy ∧ (dropHeld x1 x2 x3).die = x1.die ∧ (dropHeld x1 x2 x3).rng = x1.rng ∧ (dropHeld x1 x2 x3).pke = x1.pke ∧ (dropHeld x1 x2 x3).eng = x1.eng ∧ (dropHeld x1 x2 x3).host = x1.host ∧ (dropHeld x1 x2 x3).geo = x1.geo ∧ (dropHeld x1 x2 x3).flash = x1.flash ∧ (dropHeld x1 x2 x3).wld = x1.wld ∧ (dropHeld x1 x2 x3).kar = x1.kar ∧ (dropHeld x1 x2 x3).ctl = x1.ctl := by unfold dropHeld; simp

@[simp ↓] theorem countFailure_frame (x1 x2 x3) :
    (countFailure x1 x2 x3).pending = x1.pending ∧ (countFailure x1 x2 x3).now = x1.now ∧ (countFailure x1 x2 x3).fresh = x1.fresh ∧ (countFailure x1 x2 x3).out = x1.out ∧ (countFailure x1 x2 x3).snaps = x1.snaps ∧ (countFailure x1 x2 x3).id = x1.id ∧ (countFailure x1 x2 x3).cham = x1.cham ∧ (countFailure x1 x2 x3).kst = x1.kst ∧ (countFailure x1 x2 x3).mbx = x1.mbx ∧ (countFailure x1 x2 x3).str = x1.str ∧ (countFailure x1 x2 x3).lan = x1.lan ∧ (countFailure x1 x2 x3).bb = x1.bb ∧ (countFailure x1 x2 x3).tim = x1.tim ∧ (countFailure x1 x2 x3).lcy = x1.lcy ∧ (countFailure x1 x2 x3).die = x1.die ∧ (countFailure x1 x2 x3).rng = x1.rng ∧ (countFailure x1 x2 x3).pke = x1.pke ∧ (countFailure x1 x2 x3).eng = x1.eng ∧ (countFailure x1 x2 x3).host = x1.host ∧ (countFailure x1 x2 x3).geo = x1.geo ∧ (countFailure x1 x2 x3).flash = x1.flash ∧ (countFailure x1 x2 x3).wld = x1.wld ∧ (countFailure x1 x2 x3).kar = x1.kar ∧ (countFailure x1 x2 x3).ctl = x1.ctl := by unfold countFailure; simp

@[simp ↓] theorem leave_frame (x1 x2 x3) :
    (leave x1 x2 x3).pending = x1.pending ∧ (leave x1 x2 x3).now = x1.now ∧ (leave x1 x2 x3).fresh = x1.fresh ∧ (leave x1 x2 x3).snaps = x1.snaps ∧ (leave x1 x2 x3).id = x1.id ∧ (leave x1 x2 x3).cham = x1.cham ∧ (leave x1 x2 x3).kst = x1.kst ∧ (leave x1 x2 x3).mbx = x1.mbx ∧ (leave x1 x2 x3).lan = x1.lan ∧ (leave x1 x2 x3).bb = x1.bb ∧ (leave x1 x2 x3).die = x1.die ∧ (leave x1 x2 x3).rng = x1.rng ∧ (leave x1 x2 x3).pke = x1.pke ∧ (leave x1 x2 x3).eng = x1.eng ∧ (leave x1 x2 x3).host = x1.host ∧ (leave x1 x2 x3).geo = x1.geo ∧ (leave x1 x2 x3).flash = x1.flash ∧ (leave x1 x2 x3).kar = x1.kar := by unfold leave; (repeat' split) <;> simp

@[simp ↓] theorem releaseLine_frame (x1 x2) :
    (releaseLine x1 x2).pending = x1.pending ∧ (releaseLine x1 x2).now = x1.now ∧ (releaseLine x1 x2).fresh = x1.fresh ∧ (releaseLine x1 x2).snaps = x1.snaps ∧ (releaseLine x1 x2).id = x1.id ∧ (releaseLine x1 x2).cham = x1.cham ∧ (releaseLine x1 x2).kst = x1.kst ∧ (releaseLine x1 x2).mbx = x1.mbx ∧ (releaseLine x1 x2).lan = x1.lan ∧ (releaseLine x1 x2).bb = x1.bb ∧ (releaseLine x1 x2).die = x1.die ∧ (releaseLine x1 x2).rng = x1.rng ∧ (releaseLine x1 x2).pke = x1.pke ∧ (releaseLine x1 x2).eng = x1.eng ∧ (releaseLine x1 x2).host = x1.host ∧ (releaseLine x1 x2).geo = x1.geo ∧ (releaseLine x1 x2).flash = x1.flash ∧ (releaseLine x1 x2).kar = x1.kar := by unfold releaseLine; simp

@[simp ↓] theorem refuseHeld_frame (x1 x2 x3 x4 x5) :
    (refuseHeld x1 x2 x3 x4 x5).pending = x1.pending ∧ (refuseHeld x1 x2 x3 x4 x5).now = x1.now ∧ (refuseHeld x1 x2 x3 x4 x5).fresh = x1.fresh ∧ (refuseHeld x1 x2 x3 x4 x5).snaps = x1.snaps ∧ (refuseHeld x1 x2 x3 x4 x5).id = x1.id ∧ (refuseHeld x1 x2 x3 x4 x5).cham = x1.cham ∧ (refuseHeld x1 x2 x3 x4 x5).kst = x1.kst ∧ (refuseHeld x1 x2 x3 x4 x5).mbx = x1.mbx ∧ (refuseHeld x1 x2 x3 x4 x5).lan = x1.lan ∧ (refuseHeld x1 x2 x3 x4 x5).bb = x1.bb ∧ (refuseHeld x1 x2 x3 x4 x5).die = x1.die ∧ (refuseHeld x1 x2 x3 x4 x5).rng = x1.rng ∧ (refuseHeld x1 x2 x3 x4 x5).pke = x1.pke ∧ (refuseHeld x1 x2 x3 x4 x5).eng = x1.eng ∧ (refuseHeld x1 x2 x3 x4 x5).host = x1.host ∧ (refuseHeld x1 x2 x3 x4 x5).geo = x1.geo ∧ (refuseHeld x1 x2 x3 x4 x5).flash = x1.flash ∧ (refuseHeld x1 x2 x3 x4 x5).kar = x1.kar := by unfold refuseHeld; simp

theorem findOrInsert_frame_of {x1 x2 x3}{t} (h : (Sys2Proof.Machine.findOrInsert x1 x2 x3) = some t) :
    t.pending = x1.pending ∧ t.now = x1.now ∧ t.fresh = x1.fresh ∧ t.out = x1.out ∧ t.snaps = x1.snaps ∧ t.id = x1.id ∧ t.cham = x1.cham ∧ t.kst = x1.kst ∧ t.mbx = x1.mbx ∧ t.str = x1.str ∧ t.lan = x1.lan ∧ t.bb = x1.bb ∧ t.tim = x1.tim ∧ t.lcy = x1.lcy ∧ t.die = x1.die ∧ t.rng = x1.rng ∧ t.pke = x1.pke ∧ t.eng = x1.eng ∧ t.host = x1.host ∧ t.geo = x1.geo ∧ t.flash = x1.flash ∧ t.wld = x1.wld ∧ t.kar = x1.kar ∧ t.ctl = x1.ctl := by unfold findOrInsert at h; (repeat' split at h) <;> (first | contradiction | (cases h; simp) | (simp only [Option.map_eq_some_iff, Option.bind_eq_some_iff] at h; obtain ⟨_, _, rfl⟩ := h; simp))

@[simp ↓] theorem updLane_frame (x1 x2 x3 x4) :
    (updLane x1 x2 x3 x4).pending = x1.pending ∧ (updLane x1 x2 x3 x4).now = x1.now ∧ (updLane x1 x2 x3 x4).fresh = x1.fresh ∧ (updLane x1 x2 x3 x4).out = x1.out ∧ (updLane x1 x2 x3 x4).snaps = x1.snaps ∧ (updLane x1 x2 x3 x4).id = x1.id ∧ (updLane x1 x2 x3 x4).cham = x1.cham ∧ (updLane x1 x2 x3 x4).kst = x1.kst ∧ (updLane x1 x2 x3 x4).mbx = x1.mbx ∧ (updLane x1 x2 x3 x4).str = x1.str ∧ (updLane x1 x2 x3 x4).lan = x1.lan ∧ (updLane x1 x2 x3 x4).bb = x1.bb ∧ (updLane x1 x2 x3 x4).tim = x1.tim ∧ (updLane x1 x2 x3 x4).lcy = x1.lcy ∧ (updLane x1 x2 x3 x4).die = x1.die ∧ (updLane x1 x2 x3 x4).rng = x1.rng ∧ (updLane x1 x2 x3 x4).pke = x1.pke ∧ (updLane x1 x2 x3 x4).eng = x1.eng ∧ (updLane x1 x2 x3 x4).host = x1.host ∧ (updLane x1 x2 x3 x4).geo = x1.geo ∧ (updLane x1 x2 x3 x4).flash = x1.flash ∧ (updLane x1 x2 x3 x4).wld = x1.wld ∧ (updLane x1 x2 x3 x4).kar = x1.kar ∧ (updLane x1 x2 x3 x4).ctl = x1.ctl := by unfold updLane; simp

@[simp ↓] theorem dispatch_frame (x1 x2 x3 x4) :
    (dispatch x1 x2 x3 x4).1.pending = x1.pending ∧ (dispatch x1 x2 x3 x4).1.now = x1.now ∧ (dispatch x1 x2 x3 x4).1.fresh = x1.fresh ∧ (dispatch x1 x2 x3 x4).1.out = x1.out ∧ (dispatch x1 x2 x3 x4).1.snaps = x1.snaps ∧ (dispatch x1 x2 x3 x4).1.id = x1.id ∧ (dispatch x1 x2 x3 x4).1.cham = x1.cham ∧ (dispatch x1 x2 x3 x4).1.kst = x1.kst ∧ (dispatch x1 x2 x3 x4).1.mbx = x1.mbx ∧ (dispatch x1 x2 x3 x4).1.str = x1.str ∧ (dispatch x1 x2 x3 x4).1.lan = x1.lan ∧ (dispatch x1 x2 x3 x4).1.bb = x1.bb ∧ (dispatch x1 x2 x3 x4).1.tim = x1.tim ∧ (dispatch x1 x2 x3 x4).1.lcy = x1.lcy ∧ (dispatch x1 x2 x3 x4).1.die = x1.die ∧ (dispatch x1 x2 x3 x4).1.rng = x1.rng ∧ (dispatch x1 x2 x3 x4).1.pke = x1.pke ∧ (dispatch x1 x2 x3 x4).1.eng = x1.eng ∧ (dispatch x1 x2 x3 x4).1.host = x1.host ∧ (dispatch x1 x2 x3 x4).1.geo = x1.geo ∧ (dispatch x1 x2 x3 x4).1.flash = x1.flash ∧ (dispatch x1 x2 x3 x4).1.wld = x1.wld ∧ (dispatch x1 x2 x3 x4).1.kar = x1.kar ∧ (dispatch x1 x2 x3 x4).1.ctl = x1.ctl := by unfold dispatch; (repeat' split) <;> simp

theorem dispatch_frame_of {x1 x2 x3 x4 x t} (h : dispatch x1 x2 x3 x4 = (t, x)) :
    t.pending = x1.pending ∧ t.now = x1.now ∧ t.fresh = x1.fresh ∧ t.out = x1.out ∧ t.snaps = x1.snaps ∧ t.id = x1.id ∧ t.cham = x1.cham ∧ t.kst = x1.kst ∧ t.mbx = x1.mbx ∧ t.str = x1.str ∧ t.lan = x1.lan ∧ t.bb = x1.bb ∧ t.tim = x1.tim ∧ t.lcy = x1.lcy ∧ t.die = x1.die ∧ t.rng = x1.rng ∧ t.pke = x1.pke ∧ t.eng = x1.eng ∧ t.host = x1.host ∧ t.geo = x1.geo ∧ t.flash = x1.flash ∧ t.wld = x1.wld ∧ t.kar = x1.kar ∧ t.ctl = x1.ctl := by
  have e := dispatch_frame x1 x2 x3 x4; rw [h] at e; exact e

@[simp ↓] theorem askPageIn_frame (x1 x2) :
    (askPageIn x1 x2).pending = x1.pending ∧ (askPageIn x1 x2).now = x1.now ∧ (askPageIn x1 x2).fresh = x1.fresh ∧ (askPageIn x1 x2).out = x1.out ∧ (askPageIn x1 x2).snaps = x1.snaps ∧ (askPageIn x1 x2).id = x1.id ∧ (askPageIn x1 x2).cham = x1.cham ∧ (askPageIn x1 x2).kst = x1.kst ∧ (askPageIn x1 x2).mbx = x1.mbx ∧ (askPageIn x1 x2).str = x1.str ∧ (askPageIn x1 x2).lan = x1.lan ∧ (askPageIn x1 x2).bb = x1.bb ∧ (askPageIn x1 x2).tim = x1.tim ∧ (askPageIn x1 x2).lcy = x1.lcy ∧ (askPageIn x1 x2).die = x1.die ∧ (askPageIn x1 x2).rng = x1.rng ∧ (askPageIn x1 x2).pke = x1.pke ∧ (askPageIn x1 x2).eng = x1.eng ∧ (askPageIn x1 x2).host = x1.host ∧ (askPageIn x1 x2).geo = x1.geo ∧ (askPageIn x1 x2).flash = x1.flash ∧ (askPageIn x1 x2).wld = x1.wld ∧ (askPageIn x1 x2).kar = x1.kar ∧ (askPageIn x1 x2).ctl = x1.ctl := by unfold askPageIn; simp

@[simp ↓] theorem judgeKey_frame (x1 x2 x3) :
    (judgeKey x1 x2 x3).pending = x1.pending ∧ (judgeKey x1 x2 x3).now = x1.now ∧ (judgeKey x1 x2 x3).fresh = x1.fresh ∧ (judgeKey x1 x2 x3).snaps = x1.snaps ∧ (judgeKey x1 x2 x3).id = x1.id ∧ (judgeKey x1 x2 x3).cham = x1.cham ∧ (judgeKey x1 x2 x3).mbx = x1.mbx ∧ (judgeKey x1 x2 x3).lan = x1.lan ∧ (judgeKey x1 x2 x3).bb = x1.bb ∧ (judgeKey x1 x2 x3).die = x1.die ∧ (judgeKey x1 x2 x3).rng = x1.rng ∧ (judgeKey x1 x2 x3).pke = x1.pke ∧ (judgeKey x1 x2 x3).eng = x1.eng ∧ (judgeKey x1 x2 x3).host = x1.host ∧ (judgeKey x1 x2 x3).geo = x1.geo ∧ (judgeKey x1 x2 x3).flash = x1.flash ∧ (judgeKey x1 x2 x3).kar = x1.kar := by unfold judgeKey; dsimp only; (repeat' split) <;> (try have := dispatch_frame_of ‹_›) <;> simp [*]

end Sys2Proof.Machine
end

