-- ==== Sys2Proof/Laws/Frames/Swap.lean ====
section
/-!
SUPPORT. What the operations of Machine/Swap.lean leave unchanged: for each, every part of the state that it does not touch.
-/

set_option Elab.async false

set_option linter.all false
set_option maxRecDepth 2000

namespace Sys2Proof.Machine

@[simp ↓] theorem writeRestore_frame (x1) :
    (writeRestore x1).pending = x1.pending ∧ (writeRestore x1).now = x1.now ∧ (writeRestore x1).out = x1.out ∧ (writeRestore x1).snaps = x1.snaps ∧ (writeRestore x1).id = x1.id ∧ (writeRestore x1).psg = x1.psg ∧ (writeRestore x1).cham = x1.cham ∧ (writeRestore x1).kst = x1.kst ∧ (writeRestore x1).mbx = x1.mbx ∧ (writeRestore x1).str = x1.str ∧ (writeRestore x1).lan = x1.lan ∧ (writeRestore x1).bb = x1.bb ∧ (writeRestore x1).tim = x1.tim ∧ (writeRestore x1).lcy = x1.lcy ∧ (writeRestore x1).rng = x1.rng ∧ (writeRestore x1).pke = x1.pke ∧ (writeRestore x1).eng = x1.eng ∧ (writeRestore x1).host = x1.host ∧ (writeRestore x1).geo = x1.geo ∧ (writeRestore x1).flash = x1.flash ∧ (writeRestore x1).wld = x1.wld ∧ (writeRestore x1).kar = x1.kar ∧ (writeRestore x1).ctl = x1.ctl := by unfold writeRestore; simp

@[simp ↓] theorem takeSwaps_frame (x1 x2) :
    (takeSwaps x1 x2).pending = x1.pending ∧ (takeSwaps x1 x2).now = x1.now ∧ (takeSwaps x1 x2).fresh = x1.fresh ∧ (takeSwaps x1 x2).out = x1.out ∧ (takeSwaps x1 x2).snaps = x1.snaps ∧ (takeSwaps x1 x2).id = x1.id ∧ (takeSwaps x1 x2).cham = x1.cham ∧ (takeSwaps x1 x2).kst = x1.kst ∧ (takeSwaps x1 x2).mbx = x1.mbx ∧ (takeSwaps x1 x2).str = x1.str ∧ (takeSwaps x1 x2).lan = x1.lan ∧ (takeSwaps x1 x2).bb = x1.bb ∧ (takeSwaps x1 x2).tim = x1.tim ∧ (takeSwaps x1 x2).lcy = x1.lcy ∧ (takeSwaps x1 x2).die = x1.die ∧ (takeSwaps x1 x2).rng = x1.rng ∧ (takeSwaps x1 x2).pke = x1.pke ∧ (takeSwaps x1 x2).eng = x1.eng ∧ (takeSwaps x1 x2).host = x1.host ∧ (takeSwaps x1 x2).geo = x1.geo ∧ (takeSwaps x1 x2).flash = x1.flash ∧ (takeSwaps x1 x2).wld = x1.wld ∧ (takeSwaps x1 x2).kar = x1.kar ∧ (takeSwaps x1 x2).ctl = x1.ctl := by unfold takeSwaps; dsimp only; (repeat' split)  <;> simp [*]

@[simp ↓] theorem finishSwaps_frame (x1 x2) :
    (finishSwaps x1 x2).pending = x1.pending ∧ (finishSwaps x1 x2).now = x1.now ∧ (finishSwaps x1 x2).snaps = x1.snaps ∧ (finishSwaps x1 x2).id = x1.id ∧ (finishSwaps x1 x2).cham = x1.cham ∧ (finishSwaps x1 x2).kst = x1.kst ∧ (finishSwaps x1 x2).str = x1.str ∧ (finishSwaps x1 x2).lan = x1.lan ∧ (finishSwaps x1 x2).bb = x1.bb ∧ (finishSwaps x1 x2).tim = x1.tim ∧ (finishSwaps x1 x2).lcy = x1.lcy ∧ (finishSwaps x1 x2).rng = x1.rng ∧ (finishSwaps x1 x2).pke = x1.pke ∧ (finishSwaps x1 x2).eng = x1.eng ∧ (finishSwaps x1 x2).geo = x1.geo ∧ (finishSwaps x1 x2).flash = x1.flash ∧ (finishSwaps x1 x2).kar = x1.kar ∧ (finishSwaps x1 x2).ctl = x1.ctl := by unfold finishSwaps; dsimp only; (repeat' split)  <;> simp [*]

@[simp ↓] theorem settleSwaps_frame (x1 x2) :
    (settleSwaps x1 x2).pending = x1.pending ∧ (settleSwaps x1 x2).now = x1.now ∧ (settleSwaps x1 x2).snaps = x1.snaps ∧ (settleSwaps x1 x2).id = x1.id ∧ (settleSwaps x1 x2).cham = x1.cham ∧ (settleSwaps x1 x2).kst = x1.kst ∧ (settleSwaps x1 x2).str = x1.str ∧ (settleSwaps x1 x2).lan = x1.lan ∧ (settleSwaps x1 x2).bb = x1.bb ∧ (settleSwaps x1 x2).tim = x1.tim ∧ (settleSwaps x1 x2).lcy = x1.lcy ∧ (settleSwaps x1 x2).rng = x1.rng ∧ (settleSwaps x1 x2).pke = x1.pke ∧ (settleSwaps x1 x2).eng = x1.eng ∧ (settleSwaps x1 x2).geo = x1.geo ∧ (settleSwaps x1 x2).flash = x1.flash ∧ (settleSwaps x1 x2).kar = x1.kar ∧ (settleSwaps x1 x2).ctl = x1.ctl := by unfold settleSwaps; simp

@[simp ↓] theorem answerCommit_frame (x1 x2 x3 x4) :
    (answerCommit x1 x2 x3 x4).pending = x1.pending ∧ (answerCommit x1 x2 x3 x4).now = x1.now ∧ (answerCommit x1 x2 x3 x4).fresh = x1.fresh ∧ (answerCommit x1 x2 x3 x4).snaps = x1.snaps ∧ (answerCommit x1 x2 x3 x4).id = x1.id ∧ (answerCommit x1 x2 x3 x4).psg = x1.psg ∧ (answerCommit x1 x2 x3 x4).cham = x1.cham ∧ (answerCommit x1 x2 x3 x4).kst = x1.kst ∧ (answerCommit x1 x2 x3 x4).str = x1.str ∧ (answerCommit x1 x2 x3 x4).lan = x1.lan ∧ (answerCommit x1 x2 x3 x4).bb = x1.bb ∧ (answerCommit x1 x2 x3 x4).tim = x1.tim ∧ (answerCommit x1 x2 x3 x4).lcy = x1.lcy ∧ (answerCommit x1 x2 x3 x4).die = x1.die ∧ (answerCommit x1 x2 x3 x4).rng = x1.rng ∧ (answerCommit x1 x2 x3 x4).pke = x1.pke ∧ (answerCommit x1 x2 x3 x4).eng = x1.eng ∧ (answerCommit x1 x2 x3 x4).geo = x1.geo ∧ (answerCommit x1 x2 x3 x4).flash = x1.flash ∧ (answerCommit x1 x2 x3 x4).kar = x1.kar ∧ (answerCommit x1 x2 x3 x4).ctl = x1.ctl := by unfold answerCommit; simp

@[simp ↓] theorem requestCommit_frame (x1 x2 x3) :
    (requestCommit x1 x2 x3).pending = x1.pending ∧ (requestCommit x1 x2 x3).now = x1.now ∧ (requestCommit x1 x2 x3).snaps = x1.snaps ∧ (requestCommit x1 x2 x3).id = x1.id ∧ (requestCommit x1 x2 x3).cham = x1.cham ∧ (requestCommit x1 x2 x3).kst = x1.kst ∧ (requestCommit x1 x2 x3).str = x1.str ∧ (requestCommit x1 x2 x3).lan = x1.lan ∧ (requestCommit x1 x2 x3).bb = x1.bb ∧ (requestCommit x1 x2 x3).tim = x1.tim ∧ (requestCommit x1 x2 x3).lcy = x1.lcy ∧ (requestCommit x1 x2 x3).rng = x1.rng ∧ (requestCommit x1 x2 x3).pke = x1.pke ∧ (requestCommit x1 x2 x3).eng = x1.eng ∧ (requestCommit x1 x2 x3).geo = x1.geo ∧ (requestCommit x1 x2 x3).flash = x1.flash ∧ (requestCommit x1 x2 x3).kar = x1.kar ∧ (requestCommit x1 x2 x3).ctl = x1.ctl := by unfold requestCommit; (repeat' split) <;> simp

@[simp ↓] theorem discardShadow_frame (x1 x2) :
    (discardShadow x1 x2).pending = x1.pending ∧ (discardShadow x1 x2).now = x1.now ∧ (discardShadow x1 x2).fresh = x1.fresh ∧ (discardShadow x1 x2).out = x1.out ∧ (discardShadow x1 x2).snaps = x1.snaps ∧ (discardShadow x1 x2).id = x1.id ∧ (discardShadow x1 x2).cham = x1.cham ∧ (discardShadow x1 x2).kst = x1.kst ∧ (discardShadow x1 x2).mbx = x1.mbx ∧ (discardShadow x1 x2).str = x1.str ∧ (discardShadow x1 x2).lan = x1.lan ∧ (discardShadow x1 x2).bb = x1.bb ∧ (discardShadow x1 x2).tim = x1.tim ∧ (discardShadow x1 x2).lcy = x1.lcy ∧ (discardShadow x1 x2).die = x1.die ∧ (discardShadow x1 x2).rng = x1.rng ∧ (discardShadow x1 x2).pke = x1.pke ∧ (discardShadow x1 x2).eng = x1.eng ∧ (discardShadow x1 x2).host = x1.host ∧ (discardShadow x1 x2).geo = x1.geo ∧ (discardShadow x1 x2).flash = x1.flash ∧ (discardShadow x1 x2).wld = x1.wld ∧ (discardShadow x1 x2).kar = x1.kar ∧ (discardShadow x1 x2).ctl = x1.ctl := by unfold discardShadow; simp

@[simp ↓] theorem isolateWire_frame (x1 x2) :
    (isolateWire x1 x2).pending = x1.pending ∧ (isolateWire x1 x2).now = x1.now ∧ (isolateWire x1 x2).snaps = x1.snaps ∧ (isolateWire x1 x2).id = x1.id ∧ (isolateWire x1 x2).cham = x1.cham ∧ (isolateWire x1 x2).kst = x1.kst ∧ (isolateWire x1 x2).lan = x1.lan ∧ (isolateWire x1 x2).bb = x1.bb ∧ (isolateWire x1 x2).tim = x1.tim ∧ (isolateWire x1 x2).lcy = x1.lcy ∧ (isolateWire x1 x2).rng = x1.rng ∧ (isolateWire x1 x2).pke = x1.pke ∧ (isolateWire x1 x2).eng = x1.eng ∧ (isolateWire x1 x2).geo = x1.geo ∧ (isolateWire x1 x2).flash = x1.flash ∧ (isolateWire x1 x2).kar = x1.kar ∧ (isolateWire x1 x2).ctl = x1.ctl := by unfold isolateWire; dsimp only; (repeat' split)  <;> simp [*]

@[simp ↓] theorem endBypass_frame (x1) :
    (endBypass x1).pending = x1.pending ∧ (endBypass x1).now = x1.now ∧ (endBypass x1).snaps = x1.snaps ∧ (endBypass x1).id = x1.id ∧ (endBypass x1).cham = x1.cham ∧ (endBypass x1).kst = x1.kst ∧ (endBypass x1).lan = x1.lan ∧ (endBypass x1).bb = x1.bb ∧ (endBypass x1).tim = x1.tim ∧ (endBypass x1).lcy = x1.lcy ∧ (endBypass x1).rng = x1.rng ∧ (endBypass x1).pke = x1.pke ∧ (endBypass x1).eng = x1.eng ∧ (endBypass x1).geo = x1.geo ∧ (endBypass x1).flash = x1.flash ∧ (endBypass x1).kar = x1.kar ∧ (endBypass x1).ctl = x1.ctl := by unfold endBypass; simp

end Sys2Proof.Machine
end

