-- ==== Sys2Proof/Laws/Frames/RngOps.lean ====
section
/-!
SUPPORT. What the operations of Machine/RngOps.lean leave unchanged: for each, every part of the state that it does not touch.
-/

set_option Elab.async false

set_option linter.all false
set_option maxRecDepth 2000

namespace Sys2Proof.Machine

@[simp ↓] theorem setReady_frame (x1 x2 x3) :
    (setReady x1 x2 x3).pending = x1.pending ∧ (setReady x1 x2 x3).now = x1.now ∧ (setReady x1 x2 x3).fresh = x1.fresh ∧ (setReady x1 x2 x3).out = x1.out ∧ (setReady x1 x2 x3).snaps = x1.snaps ∧ (setReady x1 x2 x3).psg = x1.psg ∧ (setReady x1 x2 x3).cham = x1.cham ∧ (setReady x1 x2 x3).kst = x1.kst ∧ (setReady x1 x2 x3).mbx = x1.mbx ∧ (setReady x1 x2 x3).str = x1.str ∧ (setReady x1 x2 x3).lan = x1.lan ∧ (setReady x1 x2 x3).bb = x1.bb ∧ (setReady x1 x2 x3).tim = x1.tim ∧ (setReady x1 x2 x3).lcy = x1.lcy ∧ (setReady x1 x2 x3).die = x1.die ∧ (setReady x1 x2 x3).rng = x1.rng ∧ (setReady x1 x2 x3).pke = x1.pke ∧ (setReady x1 x2 x3).eng = x1.eng ∧ (setReady x1 x2 x3).host = x1.host ∧ (setReady x1 x2 x3).geo = x1.geo ∧ (setReady x1 x2 x3).flash = x1.flash ∧ (setReady x1 x2 x3).wld = x1.wld ∧ (setReady x1 x2 x3).kar = x1.kar ∧ (setReady x1 x2 x3).ctl = x1.ctl := by unfold setReady; simp

@[simp ↓] theorem updCell_frame (x1 x2 x3) :
    (updCell x1 x2 x3).pending = x1.pending ∧ (updCell x1 x2 x3).now = x1.now ∧ (updCell x1 x2 x3).fresh = x1.fresh ∧ (updCell x1 x2 x3).out = x1.out ∧ (updCell x1 x2 x3).snaps = x1.snaps ∧ (updCell x1 x2 x3).id = x1.id ∧ (updCell x1 x2 x3).psg = x1.psg ∧ (updCell x1 x2 x3).cham = x1.cham ∧ (updCell x1 x2 x3).kst = x1.kst ∧ (updCell x1 x2 x3).mbx = x1.mbx ∧ (updCell x1 x2 x3).str = x1.str ∧ (updCell x1 x2 x3).lan = x1.lan ∧ (updCell x1 x2 x3).bb = x1.bb ∧ (updCell x1 x2 x3).tim = x1.tim ∧ (updCell x1 x2 x3).lcy = x1.lcy ∧ (updCell x1 x2 x3).die = x1.die ∧ (updCell x1 x2 x3).pke = x1.pke ∧ (updCell x1 x2 x3).eng = x1.eng ∧ (updCell x1 x2 x3).host = x1.host ∧ (updCell x1 x2 x3).geo = x1.geo ∧ (updCell x1 x2 x3).flash = x1.flash ∧ (updCell x1 x2 x3).wld = x1.wld ∧ (updCell x1 x2 x3).kar = x1.kar ∧ (updCell x1 x2 x3).ctl = x1.ctl := by unfold updCell; simp

@[simp ↓] theorem updInst_frame (x1 x2 x3) :
    (updInst x1 x2 x3).pending = x1.pending ∧ (updInst x1 x2 x3).now = x1.now ∧ (updInst x1 x2 x3).fresh = x1.fresh ∧ (updInst x1 x2 x3).out = x1.out ∧ (updInst x1 x2 x3).snaps = x1.snaps ∧ (updInst x1 x2 x3).id = x1.id ∧ (updInst x1 x2 x3).psg = x1.psg ∧ (updInst x1 x2 x3).cham = x1.cham ∧ (updInst x1 x2 x3).kst = x1.kst ∧ (updInst x1 x2 x3).mbx = x1.mbx ∧ (updInst x1 x2 x3).str = x1.str ∧ (updInst x1 x2 x3).lan = x1.lan ∧ (updInst x1 x2 x3).bb = x1.bb ∧ (updInst x1 x2 x3).tim = x1.tim ∧ (updInst x1 x2 x3).lcy = x1.lcy ∧ (updInst x1 x2 x3).die = x1.die ∧ (updInst x1 x2 x3).pke = x1.pke ∧ (updInst x1 x2 x3).eng = x1.eng ∧ (updInst x1 x2 x3).host = x1.host ∧ (updInst x1 x2 x3).geo = x1.geo ∧ (updInst x1 x2 x3).flash = x1.flash ∧ (updInst x1 x2 x3).wld = x1.wld ∧ (updInst x1 x2 x3).kar = x1.kar ∧ (updInst x1 x2 x3).ctl = x1.ctl := by unfold updInst; simp

@[simp ↓] theorem refreshSeeding_frame (x1) :
    (refreshSeeding x1).pending = x1.pending ∧ (refreshSeeding x1).now = x1.now ∧ (refreshSeeding x1).fresh = x1.fresh ∧ (refreshSeeding x1).out = x1.out ∧ (refreshSeeding x1).snaps = x1.snaps ∧ (refreshSeeding x1).id = x1.id ∧ (refreshSeeding x1).psg = x1.psg ∧ (refreshSeeding x1).cham = x1.cham ∧ (refreshSeeding x1).kst = x1.kst ∧ (refreshSeeding x1).mbx = x1.mbx ∧ (refreshSeeding x1).lan = x1.lan ∧ (refreshSeeding x1).bb = x1.bb ∧ (refreshSeeding x1).tim = x1.tim ∧ (refreshSeeding x1).lcy = x1.lcy ∧ (refreshSeeding x1).die = x1.die ∧ (refreshSeeding x1).pke = x1.pke ∧ (refreshSeeding x1).eng = x1.eng ∧ (refreshSeeding x1).host = x1.host ∧ (refreshSeeding x1).geo = x1.geo ∧ (refreshSeeding x1).flash = x1.flash ∧ (refreshSeeding x1).wld = x1.wld ∧ (refreshSeeding x1).kar = x1.kar ∧ (refreshSeeding x1).ctl = x1.ctl := by unfold refreshSeeding; simp

@[simp ↓] theorem refreshReady_frame (x1) :
    (refreshReady x1).pending = x1.pending ∧ (refreshReady x1).now = x1.now ∧ (refreshReady x1).fresh = x1.fresh ∧ (refreshReady x1).out = x1.out ∧ (refreshReady x1).snaps = x1.snaps ∧ (refreshReady x1).psg = x1.psg ∧ (refreshReady x1).cham = x1.cham ∧ (refreshReady x1).kst = x1.kst ∧ (refreshReady x1).mbx = x1.mbx ∧ (refreshReady x1).str = x1.str ∧ (refreshReady x1).lan = x1.lan ∧ (refreshReady x1).bb = x1.bb ∧ (refreshReady x1).tim = x1.tim ∧ (refreshReady x1).lcy = x1.lcy ∧ (refreshReady x1).die = x1.die ∧ (refreshReady x1).pke = x1.pke ∧ (refreshReady x1).eng = x1.eng ∧ (refreshReady x1).host = x1.host ∧ (refreshReady x1).geo = x1.geo ∧ (refreshReady x1).flash = x1.flash ∧ (refreshReady x1).wld = x1.wld ∧ (refreshReady x1).kar = x1.kar ∧ (refreshReady x1).ctl = x1.ctl := by unfold refreshReady; simp

@[simp ↓] theorem countCalls_frame (x1 x2 x3) :
    (countCalls x1 x2 x3).pending = x1.pending ∧ (countCalls x1 x2 x3).now = x1.now ∧ (countCalls x1 x2 x3).fresh = x1.fresh ∧ (countCalls x1 x2 x3).out = x1.out ∧ (countCalls x1 x2 x3).snaps = x1.snaps ∧ (countCalls x1 x2 x3).id = x1.id ∧ (countCalls x1 x2 x3).psg = x1.psg ∧ (countCalls x1 x2 x3).cham = x1.cham ∧ (countCalls x1 x2 x3).kst = x1.kst ∧ (countCalls x1 x2 x3).mbx = x1.mbx ∧ (countCalls x1 x2 x3).str = x1.str ∧ (countCalls x1 x2 x3).lan = x1.lan ∧ (countCalls x1 x2 x3).bb = x1.bb ∧ (countCalls x1 x2 x3).tim = x1.tim ∧ (countCalls x1 x2 x3).lcy = x1.lcy ∧ (countCalls x1 x2 x3).die = x1.die ∧ (countCalls x1 x2 x3).pke = x1.pke ∧ (countCalls x1 x2 x3).eng = x1.eng ∧ (countCalls x1 x2 x3).host = x1.host ∧ (countCalls x1 x2 x3).geo = x1.geo ∧ (countCalls x1 x2 x3).flash = x1.flash ∧ (countCalls x1 x2 x3).wld = x1.wld ∧ (countCalls x1 x2 x3).kar = x1.kar ∧ (countCalls x1 x2 x3).ctl = x1.ctl := by unfold countCalls; simp

@[simp ↓] theorem instCalls_frame (x1 x2 x3 x4) :
    (instCalls x1 x2 x3 x4).2.pending = x1.pending ∧ (instCalls x1 x2 x3 x4).2.now = x1.now ∧ (instCalls x1 x2 x3 x4).2.fresh = x1.fresh ∧ (instCalls x1 x2 x3 x4).2.out = x1.out ∧ (instCalls x1 x2 x3 x4).2.snaps = x1.snaps ∧ (instCalls x1 x2 x3 x4).2.id = x1.id ∧ (instCalls x1 x2 x3 x4).2.psg = x1.psg ∧ (instCalls x1 x2 x3 x4).2.cham = x1.cham ∧ (instCalls x1 x2 x3 x4).2.kst = x1.kst ∧ (instCalls x1 x2 x3 x4).2.mbx = x1.mbx ∧ (instCalls x1 x2 x3 x4).2.str = x1.str ∧ (instCalls x1 x2 x3 x4).2.lan = x1.lan ∧ (instCalls x1 x2 x3 x4).2.bb = x1.bb ∧ (instCalls x1 x2 x3 x4).2.tim = x1.tim ∧ (instCalls x1 x2 x3 x4).2.lcy = x1.lcy ∧ (instCalls x1 x2 x3 x4).2.die = x1.die ∧ (instCalls x1 x2 x3 x4).2.pke = x1.pke ∧ (instCalls x1 x2 x3 x4).2.eng = x1.eng ∧ (instCalls x1 x2 x3 x4).2.host = x1.host ∧ (instCalls x1 x2 x3 x4).2.geo = x1.geo ∧ (instCalls x1 x2 x3 x4).2.flash = x1.flash ∧ (instCalls x1 x2 x3 x4).2.wld = x1.wld ∧ (instCalls x1 x2 x3 x4).2.kar = x1.kar ∧ (instCalls x1 x2 x3 x4).2.ctl = x1.ctl := by unfold instCalls; simp

theorem instCalls_frame_of {x1 x2 x3 x4 x t} (h : instCalls x1 x2 x3 x4 = (x, t)) :
    t.pending = x1.pending ∧ t.now = x1.now ∧ t.fresh = x1.fresh ∧ t.out = x1.out ∧ t.snaps = x1.snaps ∧ t.id = x1.id ∧ t.psg = x1.psg ∧ t.cham = x1.cham ∧ t.kst = x1.kst ∧ t.mbx = x1.mbx ∧ t.str = x1.str ∧ t.lan = x1.lan ∧ t.bb = x1.bb ∧ t.tim = x1.tim ∧ t.lcy = x1.lcy ∧ t.die = x1.die ∧ t.pke = x1.pke ∧ t.eng = x1.eng ∧ t.host = x1.host ∧ t.geo = x1.geo ∧ t.flash = x1.flash ∧ t.wld = x1.wld ∧ t.kar = x1.kar ∧ t.ctl = x1.ctl := by
  have e := instCalls_frame x1 x2 x3 x4; rw [h] at e; exact e

@[simp ↓] theorem countRefused_frame (x1 x2 x3) :
    (countRefused x1 x2 x3).pending = x1.pending ∧ (countRefused x1 x2 x3).now = x1.now ∧ (countRefused x1 x2 x3).fresh = x1.fresh ∧ (countRefused x1 x2 x3).out = x1.out ∧ (countRefused x1 x2 x3).snaps = x1.snaps ∧ (countRefused x1 x2 x3).id = x1.id ∧ (countRefused x1 x2 x3).psg = x1.psg ∧ (countRefused x1 x2 x3).cham = x1.cham ∧ (countRefused x1 x2 x3).kst = x1.kst ∧ (countRefused x1 x2 x3).mbx = x1.mbx ∧ (countRefused x1 x2 x3).str = x1.str ∧ (countRefused x1 x2 x3).lan = x1.lan ∧ (countRefused x1 x2 x3).bb = x1.bb ∧ (countRefused x1 x2 x3).tim = x1.tim ∧ (countRefused x1 x2 x3).die = x1.die ∧ (countRefused x1 x2 x3).pke = x1.pke ∧ (countRefused x1 x2 x3).eng = x1.eng ∧ (countRefused x1 x2 x3).host = x1.host ∧ (countRefused x1 x2 x3).geo = x1.geo ∧ (countRefused x1 x2 x3).flash = x1.flash ∧ (countRefused x1 x2 x3).wld = x1.wld ∧ (countRefused x1 x2 x3).kar = x1.kar ∧ (countRefused x1 x2 x3).ctl = x1.ctl := by unfold countRefused; simp

@[simp ↓] theorem updSvc_frame (x1 x2 x3) :
    (updSvc x1 x2 x3).pending = x1.pending ∧ (updSvc x1 x2 x3).now = x1.now ∧ (updSvc x1 x2 x3).fresh = x1.fresh ∧ (updSvc x1 x2 x3).out = x1.out ∧ (updSvc x1 x2 x3).snaps = x1.snaps ∧ (updSvc x1 x2 x3).id = x1.id ∧ (updSvc x1 x2 x3).psg = x1.psg ∧ (updSvc x1 x2 x3).cham = x1.cham ∧ (updSvc x1 x2 x3).kst = x1.kst ∧ (updSvc x1 x2 x3).mbx = x1.mbx ∧ (updSvc x1 x2 x3).str = x1.str ∧ (updSvc x1 x2 x3).lan = x1.lan ∧ (updSvc x1 x2 x3).bb = x1.bb ∧ (updSvc x1 x2 x3).tim = x1.tim ∧ (updSvc x1 x2 x3).lcy = x1.lcy ∧ (updSvc x1 x2 x3).die = x1.die ∧ (updSvc x1 x2 x3).rng = x1.rng ∧ (updSvc x1 x2 x3).pke = x1.pke ∧ (updSvc x1 x2 x3).host = x1.host ∧ (updSvc x1 x2 x3).geo = x1.geo ∧ (updSvc x1 x2 x3).flash = x1.flash ∧ (updSvc x1 x2 x3).wld = x1.wld ∧ (updSvc x1 x2 x3).kar = x1.kar ∧ (updSvc x1 x2 x3).ctl = x1.ctl := by unfold updSvc; simp

@[simp ↓] theorem updMask_frame (x1 x2 x3) :
    (updMask x1 x2 x3).pending = x1.pending ∧ (updMask x1 x2 x3).now = x1.now ∧ (updMask x1 x2 x3).fresh = x1.fresh ∧ (updMask x1 x2 x3).out = x1.out ∧ (updMask x1 x2 x3).snaps = x1.snaps ∧ (updMask x1 x2 x3).id = x1.id ∧ (updMask x1 x2 x3).cham = x1.cham ∧ (updMask x1 x2 x3).kst = x1.kst ∧ (updMask x1 x2 x3).mbx = x1.mbx ∧ (updMask x1 x2 x3).str = x1.str ∧ (updMask x1 x2 x3).lan = x1.lan ∧ (updMask x1 x2 x3).bb = x1.bb ∧ (updMask x1 x2 x3).tim = x1.tim ∧ (updMask x1 x2 x3).lcy = x1.lcy ∧ (updMask x1 x2 x3).die = x1.die ∧ (updMask x1 x2 x3).rng = x1.rng ∧ (updMask x1 x2 x3).pke = x1.pke ∧ (updMask x1 x2 x3).host = x1.host ∧ (updMask x1 x2 x3).geo = x1.geo ∧ (updMask x1 x2 x3).flash = x1.flash ∧ (updMask x1 x2 x3).wld = x1.wld ∧ (updMask x1 x2 x3).kar = x1.kar ∧ (updMask x1 x2 x3).ctl = x1.ctl := by unfold updMask; simp

@[simp ↓] theorem countMask_frame (x1 x2 x3) :
    (countMask x1 x2 x3).pending = x1.pending ∧ (countMask x1 x2 x3).now = x1.now ∧ (countMask x1 x2 x3).fresh = x1.fresh ∧ (countMask x1 x2 x3).out = x1.out ∧ (countMask x1 x2 x3).snaps = x1.snaps ∧ (countMask x1 x2 x3).id = x1.id ∧ (countMask x1 x2 x3).cham = x1.cham ∧ (countMask x1 x2 x3).kst = x1.kst ∧ (countMask x1 x2 x3).mbx = x1.mbx ∧ (countMask x1 x2 x3).str = x1.str ∧ (countMask x1 x2 x3).lan = x1.lan ∧ (countMask x1 x2 x3).bb = x1.bb ∧ (countMask x1 x2 x3).tim = x1.tim ∧ (countMask x1 x2 x3).lcy = x1.lcy ∧ (countMask x1 x2 x3).die = x1.die ∧ (countMask x1 x2 x3).rng = x1.rng ∧ (countMask x1 x2 x3).pke = x1.pke ∧ (countMask x1 x2 x3).host = x1.host ∧ (countMask x1 x2 x3).geo = x1.geo ∧ (countMask x1 x2 x3).flash = x1.flash ∧ (countMask x1 x2 x3).wld = x1.wld ∧ (countMask x1 x2 x3).kar = x1.kar ∧ (countMask x1 x2 x3).ctl = x1.ctl := by unfold countMask; simp

@[simp ↓] theorem maskRefused_frame (x1 x2) :
    (maskRefused x1 x2).pending = x1.pending ∧ (maskRefused x1 x2).now = x1.now ∧ (maskRefused x1 x2).fresh = x1.fresh ∧ (maskRefused x1 x2).out = x1.out ∧ (maskRefused x1 x2).snaps = x1.snaps ∧ (maskRefused x1 x2).id = x1.id ∧ (maskRefused x1 x2).cham = x1.cham ∧ (maskRefused x1 x2).kst = x1.kst ∧ (maskRefused x1 x2).mbx = x1.mbx ∧ (maskRefused x1 x2).str = x1.str ∧ (maskRefused x1 x2).lan = x1.lan ∧ (maskRefused x1 x2).bb = x1.bb ∧ (maskRefused x1 x2).tim = x1.tim ∧ (maskRefused x1 x2).lcy = x1.lcy ∧ (maskRefused x1 x2).die = x1.die ∧ (maskRefused x1 x2).rng = x1.rng ∧ (maskRefused x1 x2).pke = x1.pke ∧ (maskRefused x1 x2).host = x1.host ∧ (maskRefused x1 x2).geo = x1.geo ∧ (maskRefused x1 x2).flash = x1.flash ∧ (maskRefused x1 x2).wld = x1.wld ∧ (maskRefused x1 x2).kar = x1.kar ∧ (maskRefused x1 x2).ctl = x1.ctl := by unfold maskRefused; simp

@[simp ↓] theorem deliverDraw_frame (x1 x2 x3) :
    (deliverDraw x1 x2 x3).pending = x1.pending ∧ (deliverDraw x1 x2 x3).now = x1.now ∧ (deliverDraw x1 x2 x3).fresh = x1.fresh ∧ (deliverDraw x1 x2 x3).snaps = x1.snaps ∧ (deliverDraw x1 x2 x3).id = x1.id ∧ (deliverDraw x1 x2 x3).cham = x1.cham ∧ (deliverDraw x1 x2 x3).kst = x1.kst ∧ (deliverDraw x1 x2 x3).str = x1.str ∧ (deliverDraw x1 x2 x3).lan = x1.lan ∧ (deliverDraw x1 x2 x3).bb = x1.bb ∧ (deliverDraw x1 x2 x3).tim = x1.tim ∧ (deliverDraw x1 x2 x3).lcy = x1.lcy ∧ (deliverDraw x1 x2 x3).die = x1.die ∧ (deliverDraw x1 x2 x3).rng = x1.rng ∧ (deliverDraw x1 x2 x3).pke = x1.pke ∧ (deliverDraw x1 x2 x3).geo = x1.geo ∧ (deliverDraw x1 x2 x3).flash = x1.flash ∧ (deliverDraw x1 x2 x3).kar = x1.kar ∧ (deliverDraw x1 x2 x3).ctl = x1.ctl := by unfold deliverDraw; (repeat' split) <;> simp

@[simp ↓] theorem refuseDraw_frame (x1 x2) :
    (refuseDraw x1 x2).pending = x1.pending ∧ (refuseDraw x1 x2).now = x1.now ∧ (refuseDraw x1 x2).fresh = x1.fresh ∧ (refuseDraw x1 x2).snaps = x1.snaps ∧ (refuseDraw x1 x2).id = x1.id ∧ (refuseDraw x1 x2).cham = x1.cham ∧ (refuseDraw x1 x2).kst = x1.kst ∧ (refuseDraw x1 x2).str = x1.str ∧ (refuseDraw x1 x2).lan = x1.lan ∧ (refuseDraw x1 x2).bb = x1.bb ∧ (refuseDraw x1 x2).tim = x1.tim ∧ (refuseDraw x1 x2).lcy = x1.lcy ∧ (refuseDraw x1 x2).die = x1.die ∧ (refuseDraw x1 x2).rng = x1.rng ∧ (refuseDraw x1 x2).pke = x1.pke ∧ (refuseDraw x1 x2).geo = x1.geo ∧ (refuseDraw x1 x2).flash = x1.flash ∧ (refuseDraw x1 x2).kar = x1.kar ∧ (refuseDraw x1 x2).ctl = x1.ctl := by unfold refuseDraw; (repeat' split) <;> simp

@[simp ↓] theorem putDraw_frame (x1 x2 x3 x4) :
    (putDraw x1 x2 x3 x4).pending = x1.pending ∧ (putDraw x1 x2 x3 x4).now = x1.now ∧ (putDraw x1 x2 x3 x4).fresh = x1.fresh ∧ (putDraw x1 x2 x3 x4).out = x1.out ∧ (putDraw x1 x2 x3 x4).snaps = x1.snaps ∧ (putDraw x1 x2 x3 x4).id = x1.id ∧ (putDraw x1 x2 x3 x4).psg = x1.psg ∧ (putDraw x1 x2 x3 x4).cham = x1.cham ∧ (putDraw x1 x2 x3 x4).kst = x1.kst ∧ (putDraw x1 x2 x3 x4).mbx = x1.mbx ∧ (putDraw x1 x2 x3 x4).str = x1.str ∧ (putDraw x1 x2 x3 x4).lan = x1.lan ∧ (putDraw x1 x2 x3 x4).bb = x1.bb ∧ (putDraw x1 x2 x3 x4).tim = x1.tim ∧ (putDraw x1 x2 x3 x4).lcy = x1.lcy ∧ (putDraw x1 x2 x3 x4).die = x1.die ∧ (putDraw x1 x2 x3 x4).pke = x1.pke ∧ (putDraw x1 x2 x3 x4).eng = x1.eng ∧ (putDraw x1 x2 x3 x4).host = x1.host ∧ (putDraw x1 x2 x3 x4).geo = x1.geo ∧ (putDraw x1 x2 x3 x4).flash = x1.flash ∧ (putDraw x1 x2 x3 x4).wld = x1.wld ∧ (putDraw x1 x2 x3 x4).kar = x1.kar ∧ (putDraw x1 x2 x3 x4).ctl = x1.ctl := by unfold putDraw; simp

@[simp ↓] theorem refuseWaiting_frame (x1 x2) :
    (refuseWaiting x1 x2).pending = x1.pending ∧ (refuseWaiting x1 x2).now = x1.now ∧ (refuseWaiting x1 x2).fresh = x1.fresh ∧ (refuseWaiting x1 x2).snaps = x1.snaps ∧ (refuseWaiting x1 x2).id = x1.id ∧ (refuseWaiting x1 x2).cham = x1.cham ∧ (refuseWaiting x1 x2).kst = x1.kst ∧ (refuseWaiting x1 x2).str = x1.str ∧ (refuseWaiting x1 x2).lan = x1.lan ∧ (refuseWaiting x1 x2).bb = x1.bb ∧ (refuseWaiting x1 x2).tim = x1.tim ∧ (refuseWaiting x1 x2).die = x1.die ∧ (refuseWaiting x1 x2).pke = x1.pke ∧ (refuseWaiting x1 x2).geo = x1.geo ∧ (refuseWaiting x1 x2).flash = x1.flash ∧ (refuseWaiting x1 x2).kar = x1.kar ∧ (refuseWaiting x1 x2).ctl = x1.ctl := by unfold refuseWaiting; simp

@[simp ↓] theorem drainExhausted_pending (x1 x2) : (drainExhausted x1 x2).pending = x1.pending := by unfold drainExhausted; simp

@[simp ↓] theorem drainExhausted_now (x1 x2) : (drainExhausted x1 x2).now = x1.now := by unfold drainExhausted; simp

@[simp ↓] theorem drainExhausted_fresh (x1 x2) : (drainExhausted x1 x2).fresh = x1.fresh := by unfold drainExhausted; simp

@[simp ↓] theorem drainExhausted_snaps (x1 x2) : (drainExhausted x1 x2).snaps = x1.snaps := by unfold drainExhausted; simp

@[simp ↓] theorem drainExhausted_id (x1 x2) : (drainExhausted x1 x2).id = x1.id := by unfold drainExhausted; simp

@[simp ↓] theorem drainExhausted_cham (x1 x2) : (drainExhausted x1 x2).cham = x1.cham := by unfold drainExhausted; simp

@[simp ↓] theorem drainExhausted_kst (x1 x2) : (drainExhausted x1 x2).kst = x1.kst := by unfold drainExhausted; simp

@[simp ↓] theorem drainExhausted_str (x1 x2) : (drainExhausted x1 x2).str = x1.str := by unfold drainExhausted; simp

@[simp ↓] theorem drainExhausted_lan (x1 x2) : (drainExhausted x1 x2).lan = x1.lan := by unfold drainExhausted; simp

@[simp ↓] theorem drainExhausted_bb (x1 x2) : (drainExhausted x1 x2).bb = x1.bb := by unfold drainExhausted; simp

@[simp ↓] theorem drainExhausted_tim (x1 x2) : (drainExhausted x1 x2).tim = x1.tim := by unfold drainExhausted; simp

@[simp ↓] theorem drainExhausted_lcy (x1 x2) : (drainExhausted x1 x2).lcy = x1.lcy := by unfold drainExhausted; (try dsimp only); (repeat' split)  <;> (first | simp [*] | (apply st_foldl_lcy; intros; (repeat' split)  <;> simp [*]) | (apply Eq.trans (st_foldl_lcy _ _ _ (by intros; (repeat' split)  <;> simp [*])); simp [*]))

@[simp ↓] theorem drainExhausted_die (x1 x2) : (drainExhausted x1 x2).die = x1.die := by unfold drainExhausted; simp

@[simp ↓] theorem drainExhausted_pke (x1 x2) : (drainExhausted x1 x2).pke = x1.pke := by unfold drainExhausted; simp

@[simp ↓] theorem drainExhausted_geo (x1 x2) : (drainExhausted x1 x2).geo = x1.geo := by unfold drainExhausted; simp

@[simp ↓] theorem drainExhausted_flash (x1 x2) : (drainExhausted x1 x2).flash = x1.flash := by unfold drainExhausted; simp

@[simp ↓] theorem drainExhausted_kar (x1 x2) : (drainExhausted x1 x2).kar = x1.kar := by unfold drainExhausted; simp

@[simp ↓] theorem drainExhausted_ctl (x1 x2) : (drainExhausted x1 x2).ctl = x1.ctl := by unfold drainExhausted; simp

@[simp ↓] theorem disapprove_frame (x1) :
    (disapprove x1).pending = x1.pending ∧ (disapprove x1).now = x1.now ∧ (disapprove x1).fresh = x1.fresh ∧ (disapprove x1).out = x1.out ∧ (disapprove x1).snaps = x1.snaps ∧ (disapprove x1).id = x1.id ∧ (disapprove x1).psg = x1.psg ∧ (disapprove x1).cham = x1.cham ∧ (disapprove x1).kst = x1.kst ∧ (disapprove x1).str = x1.str ∧ (disapprove x1).lan = x1.lan ∧ (disapprove x1).bb = x1.bb ∧ (disapprove x1).tim = x1.tim ∧ (disapprove x1).lcy = x1.lcy ∧ (disapprove x1).die = x1.die ∧ (disapprove x1).rng = x1.rng ∧ (disapprove x1).pke = x1.pke ∧ (disapprove x1).eng = x1.eng ∧ (disapprove x1).host = x1.host ∧ (disapprove x1).geo = x1.geo ∧ (disapprove x1).flash = x1.flash ∧ (disapprove x1).kar = x1.kar ∧ (disapprove x1).ctl = x1.ctl := by unfold disapprove; simp

@[simp ↓] theorem failRng_pending (x1) : (failRng x1).pending = x1.pending := by unfold failRng; dsimp only; (repeat' split)  <;> (first | simp [*] | (rw [st_foldl_pending _ _ _ (by intros; (repeat' split)  <;> simp [*])]; try simp [*]) | (rw [st_foldr_pending _ _ _ (by intros; (repeat' split)  <;> simp [*])]; try simp [*]) | (simp [*]; rw [st_foldl_pending _ _ _ (by intros; (repeat' split)  <;> simp [*])]; try simp [*]) | (simp [*]; (repeat' split)  <;> simp [*]))

@[simp ↓] theorem failRng_now (x1) : (failRng x1).now = x1.now := by unfold failRng; dsimp only; (repeat' split)  <;> (first | simp [*] | (rw [st_foldl_now _ _ _ (by intros; (repeat' split)  <;> simp [*])]; try simp [*]) | (rw [st_foldr_now _ _ _ (by intros; (repeat' split)  <;> simp [*])]; try simp [*]) | (simp [*]; rw [st_foldl_now _ _ _ (by intros; (repeat' split)  <;> simp [*])]; try simp [*]) | (simp [*]; (repeat' split)  <;> simp [*]))

@[simp ↓] theorem failRng_fresh (x1) : (failRng x1).fresh = x1.fresh := by unfold failRng; dsimp only; (repeat' split)  <;> (first | simp [*] | (rw [st_foldl_fresh _ _ _ (by intros; (repeat' split)  <;> simp [*])]; try simp [*]) | (rw [st_foldr_fresh _ _ _ (by intros; (repeat' split)  <;> simp [*])]; try simp [*]) | (simp [*]; rw [st_foldl_fresh _ _ _ (by intros; (repeat' split)  <;> simp [*])]; try simp [*]) | (simp [*]; (repeat' split)  <;> simp [*]))

@[simp ↓] theorem failRng_snaps (x1) : (failRng x1).snaps = x1.snaps := by unfold failRng; dsimp only; (repeat' split)  <;> (first | simp [*] | (rw [st_foldl_snaps _ _ _ (by intros; (repeat' split)  <;> simp [*])]; try simp [*]) | (rw [st_foldr_snaps _ _ _ (by intros; (repeat' split)  <;> simp [*])]; try simp [*]) | (simp [*]; rw [st_foldl_snaps _ _ _ (by intros; (repeat' split)  <;> simp [*])]; try simp [*]) | (simp [*]; (repeat' split)  <;> simp [*]))

@[simp ↓] theorem failRng_cham (x1) : (failRng x1).cham = x1.cham := by unfold failRng; dsimp only; (repeat' split)  <;> (first | simp [*] | (rw [st_foldl_cham _ _ _ (by intros; (repeat' split)  <;> simp [*])]; try simp [*]) | (rw [st_foldr_cham _ _ _ (by intros; (repeat' split)  <;> simp [*])]; try simp [*]) | (simp [*]; rw [st_foldl_cham _ _ _ (by intros; (repeat' split)  <;> simp [*])]; try simp [*]) | (simp [*]; (repeat' split)  <;> simp [*]))

@[simp ↓] theorem failRng_kst (x1) : (failRng x1).kst = x1.kst := by unfold failRng; dsimp only; (repeat' split)  <;> (first | simp [*] | (rw [st_foldl_kst _ _ _ (by intros; (repeat' split)  <;> simp [*])]; try simp [*]) | (rw [st_foldr_kst _ _ _ (by intros; (repeat' split)  <;> simp [*])]; try simp [*]) | (simp [*]; rw [st_foldl_kst _ _ _ (by intros; (repeat' split)  <;> simp [*])]; try simp [*]) | (simp [*]; (repeat' split)  <;> simp [*]))

@[simp ↓] theorem failRng_str (x1) : (failRng x1).str = x1.str := by unfold failRng; dsimp only; (repeat' split)  <;> (first | simp [*] | (rw [st_foldl_str _ _ _ (by intros; (repeat' split)  <;> simp [*])]; try simp [*]) | (rw [st_foldr_str _ _ _ (by intros; (repeat' split)  <;> simp [*])]; try simp [*]) | (simp [*]; rw [st_foldl_str _ _ _ (by intros; (repeat' split)  <;> simp [*])]; try simp [*]) | (simp [*]; (repeat' split)  <;> simp [*]))

@[simp ↓] theorem failRng_bb (x1) : (failRng x1).bb = x1.bb := by unfold failRng; dsimp only; (repeat' split)  <;> (first | simp [*] | (rw [st_foldl_bb _ _ _ (by intros; (repeat' split)  <;> simp [*])]; try simp [*]) | (rw [st_foldr_bb _ _ _ (by intros; (repeat' split)  <;> simp [*])]; try simp [*]) | (simp [*]; rw [st_foldl_bb _ _ _ (by intros; (repeat' split)  <;> simp [*])]; try simp [*]) | (simp [*]; (repeat' split)  <;> simp [*]))

@[simp ↓] theorem failRng_tim (x1) : (failRng x1).tim = x1.tim := by unfold failRng; dsimp only; (repeat' split)  <;> (first | simp [*] | (rw [st_foldl_tim _ _ _ (by intros; (repeat' split)  <;> simp [*])]; try simp [*]) | (rw [st_foldr_tim _ _ _ (by intros; (repeat' split)  <;> simp [*])]; try simp [*]) | (simp [*]; rw [st_foldl_tim _ _ _ (by intros; (repeat' split)  <;> simp [*])]; try simp [*]) | (simp [*]; (repeat' split)  <;> simp [*]))

@[simp ↓] theorem failRng_die (x1) : (failRng x1).die = x1.die := by unfold failRng; dsimp only; (repeat' split)  <;> (first | simp [*] | (rw [st_foldl_die _ _ _ (by intros; (repeat' split)  <;> simp [*])]; try simp [*]) | (rw [st_foldr_die _ _ _ (by intros; (repeat' split)  <;> simp [*])]; try simp [*]) | (simp [*]; rw [st_foldl_die _ _ _ (by intros; (repeat' split)  <;> simp [*])]; try simp [*]) | (simp [*]; (repeat' split)  <;> simp [*]))

@[simp ↓] theorem failRng_pke (x1) : (failRng x1).pke = x1.pke := by unfold failRng; dsimp only; (repeat' split)  <;> (first | simp [*] | (rw [st_foldl_pke _ _ _ (by intros; (repeat' split)  <;> simp [*])]; try simp [*]) | (rw [st_foldr_pke _ _ _ (by intros; (repeat' split)  <;> simp [*])]; try simp [*]) | (simp [*]; rw [st_foldl_pke _ _ _ (by intros; (repeat' split)  <;> simp [*])]; try simp [*]) | (simp [*]; (repeat' split)  <;> simp [*]))

@[simp ↓] theorem failRng_geo (x1) : (failRng x1).geo = x1.geo := by unfold failRng; dsimp only; (repeat' split)  <;> (first | simp [*] | (rw [st_foldl_geo _ _ _ (by intros; (repeat' split)  <;> simp [*])]; try simp [*]) | (rw [st_foldr_geo _ _ _ (by intros; (repeat' split)  <;> simp [*])]; try simp [*]) | (simp [*]; rw [st_foldl_geo _ _ _ (by intros; (repeat' split)  <;> simp [*])]; try simp [*]) | (simp [*]; (repeat' split)  <;> simp [*]))

@[simp ↓] theorem failRng_flash (x1) : (failRng x1).flash = x1.flash := by unfold failRng; dsimp only; (repeat' split)  <;> (first | simp [*] | (rw [st_foldl_flash _ _ _ (by intros; (repeat' split)  <;> simp [*])]; try simp [*]) | (rw [st_foldr_flash _ _ _ (by intros; (repeat' split)  <;> simp [*])]; try simp [*]) | (simp [*]; rw [st_foldl_flash _ _ _ (by intros; (repeat' split)  <;> simp [*])]; try simp [*]) | (simp [*]; (repeat' split)  <;> simp [*]))

@[simp ↓] theorem failRng_kar (x1) : (failRng x1).kar = x1.kar := by unfold failRng; dsimp only; (repeat' split)  <;> (first | simp [*] | (rw [st_foldl_kar _ _ _ (by intros; (repeat' split)  <;> simp [*])]; try simp [*]) | (rw [st_foldr_kar _ _ _ (by intros; (repeat' split)  <;> simp [*])]; try simp [*]) | (simp [*]; rw [st_foldl_kar _ _ _ (by intros; (repeat' split)  <;> simp [*])]; try simp [*]) | (simp [*]; (repeat' split)  <;> simp [*]))

@[simp ↓] theorem failRng_ctl (x1) : (failRng x1).ctl = x1.ctl := by unfold failRng; dsimp only; (repeat' split)  <;> (first | simp [*] | (rw [st_foldl_ctl _ _ _ (by intros; (repeat' split)  <;> simp [*])]; try simp [*]) | (rw [st_foldr_ctl _ _ _ (by intros; (repeat' split)  <;> simp [*])]; try simp [*]) | (simp [*]; rw [st_foldl_ctl _ _ _ (by intros; (repeat' split)  <;> simp [*])]; try simp [*]) | (simp [*]; (repeat' split)  <;> simp [*]))

@[simp ↓] theorem serveCall_frame (x1 x2) :
    (serveCall x1 x2).pending = x1.pending ∧ (serveCall x1 x2).now = x1.now ∧ (serveCall x1 x2).fresh = x1.fresh ∧ (serveCall x1 x2).snaps = x1.snaps ∧ (serveCall x1 x2).id = x1.id ∧ (serveCall x1 x2).cham = x1.cham ∧ (serveCall x1 x2).kst = x1.kst ∧ (serveCall x1 x2).str = x1.str ∧ (serveCall x1 x2).lan = x1.lan ∧ (serveCall x1 x2).bb = x1.bb ∧ (serveCall x1 x2).tim = x1.tim ∧ (serveCall x1 x2).die = x1.die ∧ (serveCall x1 x2).pke = x1.pke ∧ (serveCall x1 x2).geo = x1.geo ∧ (serveCall x1 x2).flash = x1.flash ∧ (serveCall x1 x2).kar = x1.kar ∧ (serveCall x1 x2).ctl = x1.ctl := by unfold serveCall; (try dsimp only); (repeat' split) <;> (try have := instCalls_frame_of ‹_›) <;> simp [*]

@[simp ↓] theorem serveAhead_pending (x1 x2 x3 x4) : (serveAhead x1 x2 x3 x4).pending = x3.pending := by fun_induction serveAhead <;> simp_all

@[simp ↓] theorem serveAhead_now (x1 x2 x3 x4) : (serveAhead x1 x2 x3 x4).now = x3.now := by fun_induction serveAhead <;> simp_all

@[simp ↓] theorem serveAhead_fresh (x1 x2 x3 x4) : (serveAhead x1 x2 x3 x4).fresh = x3.fresh := by fun_induction serveAhead <;> simp_all

@[simp ↓] theorem serveAhead_snaps (x1 x2 x3 x4) : (serveAhead x1 x2 x3 x4).snaps = x3.snaps := by fun_induction serveAhead <;> simp_all

@[simp ↓] theorem serveAhead_id (x1 x2 x3 x4) : (serveAhead x1 x2 x3 x4).id = x3.id := by fun_induction serveAhead <;> simp_all

@[simp ↓] theorem serveAhead_cham (x1 x2 x3 x4) : (serveAhead x1 x2 x3 x4).cham = x3.cham := by fun_induction serveAhead <;> simp_all

@[simp ↓] theorem serveAhead_kst (x1 x2 x3 x4) : (serveAhead x1 x2 x3 x4).kst = x3.kst := by fun_induction serveAhead <;> simp_all

@[simp ↓] theorem serveAhead_str (x1 x2 x3 x4) : (serveAhead x1 x2 x3 x4).str = x3.str := by fun_induction serveAhead <;> simp_all

@[simp ↓] theorem serveAhead_lan (x1 x2 x3 x4) : (serveAhead x1 x2 x3 x4).lan = x3.lan := by fun_induction serveAhead <;> simp_all

@[simp ↓] theorem serveAhead_bb (x1 x2 x3 x4) : (serveAhead x1 x2 x3 x4).bb = x3.bb := by fun_induction serveAhead <;> simp_all

@[simp ↓] theorem serveAhead_tim (x1 x2 x3 x4) : (serveAhead x1 x2 x3 x4).tim = x3.tim := by fun_induction serveAhead <;> simp_all

@[simp ↓] theorem serveAhead_die (x1 x2 x3 x4) : (serveAhead x1 x2 x3 x4).die = x3.die := by fun_induction serveAhead <;> simp_all

@[simp ↓] theorem serveAhead_pke (x1 x2 x3 x4) : (serveAhead x1 x2 x3 x4).pke = x3.pke := by fun_induction serveAhead <;> simp_all

@[simp ↓] theorem serveAhead_geo (x1 x2 x3 x4) : (serveAhead x1 x2 x3 x4).geo = x3.geo := by fun_induction serveAhead <;> simp_all

@[simp ↓] theorem serveAhead_flash (x1 x2 x3 x4) : (serveAhead x1 x2 x3 x4).flash = x3.flash := by fun_induction serveAhead <;> simp_all

@[simp ↓] theorem serveAhead_kar (x1 x2 x3 x4) : (serveAhead x1 x2 x3 x4).kar = x3.kar := by fun_induction serveAhead <;> simp_all

@[simp ↓] theorem serveAhead_ctl (x1 x2 x3 x4) : (serveAhead x1 x2 x3 x4).ctl = x3.ctl := by fun_induction serveAhead <;> simp_all

@[simp ↓] theorem draw_frame (x1 x2 x3 x4) :
    (draw x1 x2 x3 x4).1.pending = x1.pending ∧ (draw x1 x2 x3 x4).1.now = x1.now ∧ (draw x1 x2 x3 x4).1.fresh = x1.fresh ∧ (draw x1 x2 x3 x4).1.snaps = x1.snaps ∧ (draw x1 x2 x3 x4).1.id = x1.id ∧ (draw x1 x2 x3 x4).1.cham = x1.cham ∧ (draw x1 x2 x3 x4).1.kst = x1.kst ∧ (draw x1 x2 x3 x4).1.str = x1.str ∧ (draw x1 x2 x3 x4).1.lan = x1.lan ∧ (draw x1 x2 x3 x4).1.bb = x1.bb ∧ (draw x1 x2 x3 x4).1.tim = x1.tim ∧ (draw x1 x2 x3 x4).1.die = x1.die ∧ (draw x1 x2 x3 x4).1.pke = x1.pke ∧ (draw x1 x2 x3 x4).1.geo = x1.geo ∧ (draw x1 x2 x3 x4).1.flash = x1.flash ∧ (draw x1 x2 x3 x4).1.kar = x1.kar ∧ (draw x1 x2 x3 x4).1.ctl = x1.ctl := by unfold draw; simp

theorem draw_frame_of {x1 x2 x3 x4 x t} (h : draw x1 x2 x3 x4 = (t, x)) :
    t.pending = x1.pending ∧ t.now = x1.now ∧ t.fresh = x1.fresh ∧ t.snaps = x1.snaps ∧ t.id = x1.id ∧ t.cham = x1.cham ∧ t.kst = x1.kst ∧ t.str = x1.str ∧ t.lan = x1.lan ∧ t.bb = x1.bb ∧ t.tim = x1.tim ∧ t.die = x1.die ∧ t.pke = x1.pke ∧ t.geo = x1.geo ∧ t.flash = x1.flash ∧ t.kar = x1.kar ∧ t.ctl = x1.ctl := by
  have e := draw_frame x1 x2 x3 x4; rw [h] at e; exact e

@[simp ↓] theorem queueDraw_frame (x1 x2 x3 x4) :
    (queueDraw x1 x2 x3 x4).pending = x1.pending ∧ (queueDraw x1 x2 x3 x4).now = x1.now ∧ (queueDraw x1 x2 x3 x4).fresh = x1.fresh ∧ (queueDraw x1 x2 x3 x4).snaps = x1.snaps ∧ (queueDraw x1 x2 x3 x4).id = x1.id ∧ (queueDraw x1 x2 x3 x4).cham = x1.cham ∧ (queueDraw x1 x2 x3 x4).kst = x1.kst ∧ (queueDraw x1 x2 x3 x4).str = x1.str ∧ (queueDraw x1 x2 x3 x4).lan = x1.lan ∧ (queueDraw x1 x2 x3 x4).bb = x1.bb ∧ (queueDraw x1 x2 x3 x4).tim = x1.tim ∧ (queueDraw x1 x2 x3 x4).die = x1.die ∧ (queueDraw x1 x2 x3 x4).pke = x1.pke ∧ (queueDraw x1 x2 x3 x4).geo = x1.geo ∧ (queueDraw x1 x2 x3 x4).flash = x1.flash ∧ (queueDraw x1 x2 x3 x4).kar = x1.kar ∧ (queueDraw x1 x2 x3 x4).ctl = x1.ctl := by unfold queueDraw; (repeat' split) <;> simp

@[simp ↓] theorem creditBlock_frame (x1 x2) :
    (creditBlock x1 x2).pending = x1.pending ∧ (creditBlock x1 x2).now = x1.now ∧ (creditBlock x1 x2).fresh = x1.fresh ∧ (creditBlock x1 x2).out = x1.out ∧ (creditBlock x1 x2).snaps = x1.snaps ∧ (creditBlock x1 x2).id = x1.id ∧ (creditBlock x1 x2).psg = x1.psg ∧ (creditBlock x1 x2).cham = x1.cham ∧ (creditBlock x1 x2).kst = x1.kst ∧ (creditBlock x1 x2).mbx = x1.mbx ∧ (creditBlock x1 x2).str = x1.str ∧ (creditBlock x1 x2).lan = x1.lan ∧ (creditBlock x1 x2).bb = x1.bb ∧ (creditBlock x1 x2).tim = x1.tim ∧ (creditBlock x1 x2).lcy = x1.lcy ∧ (creditBlock x1 x2).die = x1.die ∧ (creditBlock x1 x2).pke = x1.pke ∧ (creditBlock x1 x2).eng = x1.eng ∧ (creditBlock x1 x2).host = x1.host ∧ (creditBlock x1 x2).geo = x1.geo ∧ (creditBlock x1 x2).flash = x1.flash ∧ (creditBlock x1 x2).wld = x1.wld ∧ (creditBlock x1 x2).kar = x1.kar ∧ (creditBlock x1 x2).ctl = x1.ctl := by unfold creditBlock; simp

@[simp ↓] theorem failFewCells_frame (x1) :
    (failFewCells x1).pending = x1.pending ∧ (failFewCells x1).now = x1.now ∧ (failFewCells x1).fresh = x1.fresh ∧ (failFewCells x1).snaps = x1.snaps ∧ (failFewCells x1).cham = x1.cham ∧ (failFewCells x1).kst = x1.kst ∧ (failFewCells x1).str = x1.str ∧ (failFewCells x1).bb = x1.bb ∧ (failFewCells x1).tim = x1.tim ∧ (failFewCells x1).die = x1.die ∧ (failFewCells x1).pke = x1.pke ∧ (failFewCells x1).geo = x1.geo ∧ (failFewCells x1).flash = x1.flash ∧ (failFewCells x1).kar = x1.kar ∧ (failFewCells x1).ctl = x1.ctl := by unfold failFewCells; simp

@[simp ↓] theorem leaveFailed_frame (x1) :
    (leaveFailed x1).pending = x1.pending ∧ (leaveFailed x1).now = x1.now ∧ (leaveFailed x1).fresh = x1.fresh ∧ (leaveFailed x1).out = x1.out ∧ (leaveFailed x1).snaps = x1.snaps ∧ (leaveFailed x1).id = x1.id ∧ (leaveFailed x1).psg = x1.psg ∧ (leaveFailed x1).cham = x1.cham ∧ (leaveFailed x1).kst = x1.kst ∧ (leaveFailed x1).mbx = x1.mbx ∧ (leaveFailed x1).str = x1.str ∧ (leaveFailed x1).lan = x1.lan ∧ (leaveFailed x1).bb = x1.bb ∧ (leaveFailed x1).tim = x1.tim ∧ (leaveFailed x1).lcy = x1.lcy ∧ (leaveFailed x1).die = x1.die ∧ (leaveFailed x1).pke = x1.pke ∧ (leaveFailed x1).eng = x1.eng ∧ (leaveFailed x1).host = x1.host ∧ (leaveFailed x1).geo = x1.geo ∧ (leaveFailed x1).flash = x1.flash ∧ (leaveFailed x1).wld = x1.wld ∧ (leaveFailed x1).kar = x1.kar ∧ (leaveFailed x1).ctl = x1.ctl := by unfold leaveFailed; simp

@[simp ↓] theorem endCellTest_frame (x1 x2) :
    (endCellTest x1 x2).pending = x1.pending ∧ (endCellTest x1 x2).now = x1.now ∧ (endCellTest x1 x2).fresh = x1.fresh ∧ (endCellTest x1 x2).snaps = x1.snaps ∧ (endCellTest x1 x2).cham = x1.cham ∧ (endCellTest x1 x2).kst = x1.kst ∧ (endCellTest x1 x2).bb = x1.bb ∧ (endCellTest x1 x2).tim = x1.tim ∧ (endCellTest x1 x2).die = x1.die ∧ (endCellTest x1 x2).pke = x1.pke ∧ (endCellTest x1 x2).geo = x1.geo ∧ (endCellTest x1 x2).flash = x1.flash ∧ (endCellTest x1 x2).kar = x1.kar ∧ (endCellTest x1 x2).ctl = x1.ctl := by unfold endCellTest; dsimp only; (repeat' split)  <;> simp [*]

@[simp ↓] theorem endBlock_frame (x1 x2) :
    (endBlock x1 x2).pending = x1.pending ∧ (endBlock x1 x2).now = x1.now ∧ (endBlock x1 x2).fresh = x1.fresh ∧ (endBlock x1 x2).out = x1.out ∧ (endBlock x1 x2).snaps = x1.snaps ∧ (endBlock x1 x2).id = x1.id ∧ (endBlock x1 x2).psg = x1.psg ∧ (endBlock x1 x2).cham = x1.cham ∧ (endBlock x1 x2).kst = x1.kst ∧ (endBlock x1 x2).mbx = x1.mbx ∧ (endBlock x1 x2).lan = x1.lan ∧ (endBlock x1 x2).bb = x1.bb ∧ (endBlock x1 x2).tim = x1.tim ∧ (endBlock x1 x2).lcy = x1.lcy ∧ (endBlock x1 x2).die = x1.die ∧ (endBlock x1 x2).pke = x1.pke ∧ (endBlock x1 x2).eng = x1.eng ∧ (endBlock x1 x2).host = x1.host ∧ (endBlock x1 x2).geo = x1.geo ∧ (endBlock x1 x2).flash = x1.flash ∧ (endBlock x1 x2).wld = x1.wld ∧ (endBlock x1 x2).kar = x1.kar ∧ (endBlock x1 x2).ctl = x1.ctl := by unfold endBlock; simp

@[simp ↓] theorem cellSample_frame (x1 x2 x3) :
    (cellSample x1 x2 x3).pending = x1.pending ∧ (cellSample x1 x2 x3).now = x1.now ∧ (cellSample x1 x2 x3).fresh = x1.fresh ∧ (cellSample x1 x2 x3).snaps = x1.snaps ∧ (cellSample x1 x2 x3).cham = x1.cham ∧ (cellSample x1 x2 x3).kst = x1.kst ∧ (cellSample x1 x2 x3).bb = x1.bb ∧ (cellSample x1 x2 x3).tim = x1.tim ∧ (cellSample x1 x2 x3).die = x1.die ∧ (cellSample x1 x2 x3).pke = x1.pke ∧ (cellSample x1 x2 x3).geo = x1.geo ∧ (cellSample x1 x2 x3).flash = x1.flash ∧ (cellSample x1 x2 x3).kar = x1.kar ∧ (cellSample x1 x2 x3).ctl = x1.ctl := by unfold cellSample; simp

@[simp ↓] theorem seedInstance_frame (x1 x2) :
    (seedInstance x1 x2).pending = x1.pending ∧ (seedInstance x1 x2).now = x1.now ∧ (seedInstance x1 x2).fresh = x1.fresh ∧ (seedInstance x1 x2).out = x1.out ∧ (seedInstance x1 x2).snaps = x1.snaps ∧ (seedInstance x1 x2).id = x1.id ∧ (seedInstance x1 x2).psg = x1.psg ∧ (seedInstance x1 x2).cham = x1.cham ∧ (seedInstance x1 x2).kst = x1.kst ∧ (seedInstance x1 x2).mbx = x1.mbx ∧ (seedInstance x1 x2).str = x1.str ∧ (seedInstance x1 x2).lan = x1.lan ∧ (seedInstance x1 x2).bb = x1.bb ∧ (seedInstance x1 x2).tim = x1.tim ∧ (seedInstance x1 x2).lcy = x1.lcy ∧ (seedInstance x1 x2).die = x1.die ∧ (seedInstance x1 x2).pke = x1.pke ∧ (seedInstance x1 x2).eng = x1.eng ∧ (seedInstance x1 x2).host = x1.host ∧ (seedInstance x1 x2).geo = x1.geo ∧ (seedInstance x1 x2).flash = x1.flash ∧ (seedInstance x1 x2).wld = x1.wld ∧ (seedInstance x1 x2).kar = x1.kar ∧ (seedInstance x1 x2).ctl = x1.ctl := by unfold seedInstance; (repeat' split) <;> simp

@[simp ↓] theorem zeroRng_frame (x1) :
    (zeroRng x1).pending = x1.pending ∧ (zeroRng x1).now = x1.now ∧ (zeroRng x1).fresh = x1.fresh ∧ (zeroRng x1).out = x1.out ∧ (zeroRng x1).snaps = x1.snaps ∧ (zeroRng x1).id = x1.id ∧ (zeroRng x1).psg = x1.psg ∧ (zeroRng x1).cham = x1.cham ∧ (zeroRng x1).kst = x1.kst ∧ (zeroRng x1).mbx = x1.mbx ∧ (zeroRng x1).str = x1.str ∧ (zeroRng x1).lan = x1.lan ∧ (zeroRng x1).bb = x1.bb ∧ (zeroRng x1).tim = x1.tim ∧ (zeroRng x1).lcy = x1.lcy ∧ (zeroRng x1).die = x1.die ∧ (zeroRng x1).pke = x1.pke ∧ (zeroRng x1).eng = x1.eng ∧ (zeroRng x1).host = x1.host ∧ (zeroRng x1).geo = x1.geo ∧ (zeroRng x1).flash = x1.flash ∧ (zeroRng x1).wld = x1.wld ∧ (zeroRng x1).kar = x1.kar ∧ (zeroRng x1).ctl = x1.ctl := by unfold zeroRng; simp

end Sys2Proof.Machine
end

