-- ==== Sys2Proof/Laws/Frames/Passage.lean ====
section
/-!
SUPPORT. What the operations of Machine/Passage.lean leave unchanged: for each, every part of the state that it does not touch.
-/

set_option Elab.async false

set_option linter.all false
set_option maxRecDepth 2000

namespace Sys2Proof.Machine

@[simp ↓] theorem dropNoTable_frame (x1 x2) :
    (dropNoTable x1 x2).pending = x1.pending ∧ (dropNoTable x1 x2).now = x1.now ∧ (dropNoTable x1 x2).fresh = x1.fresh ∧ (dropNoTable x1 x2).out = x1.out ∧ (dropNoTable x1 x2).snaps = x1.snaps ∧ (dropNoTable x1 x2).id = x1.id ∧ (dropNoTable x1 x2).cham = x1.cham ∧ (dropNoTable x1 x2).kst = x1.kst ∧ (dropNoTable x1 x2).mbx = x1.mbx ∧ (dropNoTable x1 x2).lan = x1.lan ∧ (dropNoTable x1 x2).bb = x1.bb ∧ (dropNoTable x1 x2).tim = x1.tim ∧ (dropNoTable x1 x2).lcy = x1.lcy ∧ (dropNoTable x1 x2).die = x1.die ∧ (dropNoTable x1 x2).rng = x1.rng ∧ (dropNoTable x1 x2).pke = x1.pke ∧ (dropNoTable x1 x2).eng = x1.eng ∧ (dropNoTable x1 x2).host = x1.host ∧ (dropNoTable x1 x2).geo = x1.geo ∧ (dropNoTable x1 x2).flash = x1.flash ∧ (dropNoTable x1 x2).wld = x1.wld ∧ (dropNoTable x1 x2).kar = x1.kar ∧ (dropNoTable x1 x2).ctl = x1.ctl := by unfold dropNoTable; simp

@[simp ↓] theorem passUnclassed_frame (x1 x2 x3) :
    (passUnclassed x1 x2 x3).pending = x1.pending ∧ (passUnclassed x1 x2 x3).now = x1.now ∧ (passUnclassed x1 x2 x3).fresh = x1.fresh ∧ (passUnclassed x1 x2 x3).snaps = x1.snaps ∧ (passUnclassed x1 x2 x3).id = x1.id ∧ (passUnclassed x1 x2 x3).cham = x1.cham ∧ (passUnclassed x1 x2 x3).kst = x1.kst ∧ (passUnclassed x1 x2 x3).mbx = x1.mbx ∧ (passUnclassed x1 x2 x3).lan = x1.lan ∧ (passUnclassed x1 x2 x3).bb = x1.bb ∧ (passUnclassed x1 x2 x3).die = x1.die ∧ (passUnclassed x1 x2 x3).rng = x1.rng ∧ (passUnclassed x1 x2 x3).pke = x1.pke ∧ (passUnclassed x1 x2 x3).eng = x1.eng ∧ (passUnclassed x1 x2 x3).host = x1.host ∧ (passUnclassed x1 x2 x3).geo = x1.geo ∧ (passUnclassed x1 x2 x3).flash = x1.flash ∧ (passUnclassed x1 x2 x3).kar = x1.kar := by unfold passUnclassed; simp

theorem unparsed_frame_of {x1 x2 x3}{t} (h : (Sys2Proof.Machine.unparsed x1 x2 x3) = some t) :
    t.pending = x1.pending ∧ t.now = x1.now ∧ t.fresh = x1.fresh ∧ t.snaps = x1.snaps ∧ t.id = x1.id ∧ t.cham = x1.cham ∧ t.kst = x1.kst ∧ t.mbx = x1.mbx ∧ t.lan = x1.lan ∧ t.bb = x1.bb ∧ t.die = x1.die ∧ t.rng = x1.rng ∧ t.pke = x1.pke ∧ t.eng = x1.eng ∧ t.host = x1.host ∧ t.geo = x1.geo ∧ t.flash = x1.flash ∧ t.kar = x1.kar := by unfold unparsed at h; dsimp only at h; (repeat' split at h)  <;> (first | contradiction | (cases h; simp [*]) | (simp only [Option.map_eq_some_iff, Option.bind_eq_some_iff] at h; obtain ⟨_, _, rfl⟩ := h; simp [*]))

@[simp ↓] theorem enterDirection_frame (x1 x2 x3) :
    (enterDirection x1 x2 x3).pending = x1.pending ∧ (enterDirection x1 x2 x3).now = x1.now ∧ (enterDirection x1 x2 x3).fresh = x1.fresh ∧ (enterDirection x1 x2 x3).snaps = x1.snaps ∧ (enterDirection x1 x2 x3).id = x1.id ∧ (enterDirection x1 x2 x3).cham = x1.cham ∧ (enterDirection x1 x2 x3).kst = x1.kst ∧ (enterDirection x1 x2 x3).mbx = x1.mbx ∧ (enterDirection x1 x2 x3).lan = x1.lan ∧ (enterDirection x1 x2 x3).bb = x1.bb ∧ (enterDirection x1 x2 x3).die = x1.die ∧ (enterDirection x1 x2 x3).rng = x1.rng ∧ (enterDirection x1 x2 x3).pke = x1.pke ∧ (enterDirection x1 x2 x3).eng = x1.eng ∧ (enterDirection x1 x2 x3).host = x1.host ∧ (enterDirection x1 x2 x3).geo = x1.geo ∧ (enterDirection x1 x2 x3).flash = x1.flash ∧ (enterDirection x1 x2 x3).kar = x1.kar := by unfold enterDirection; dsimp only; (repeat' split) <;> (try have := unparsed_frame_of ‹_›) <;> simp [*]

@[simp ↓] theorem receiveFrame_frame (x1 x2 x3) :
    (receiveFrame x1 x2 x3).pending = x1.pending ∧ (receiveFrame x1 x2 x3).now = x1.now ∧ (receiveFrame x1 x2 x3).fresh = x1.fresh ∧ (receiveFrame x1 x2 x3).snaps = x1.snaps ∧ (receiveFrame x1 x2 x3).id = x1.id ∧ (receiveFrame x1 x2 x3).cham = x1.cham ∧ (receiveFrame x1 x2 x3).kst = x1.kst ∧ (receiveFrame x1 x2 x3).mbx = x1.mbx ∧ (receiveFrame x1 x2 x3).lan = x1.lan ∧ (receiveFrame x1 x2 x3).bb = x1.bb ∧ (receiveFrame x1 x2 x3).die = x1.die ∧ (receiveFrame x1 x2 x3).rng = x1.rng ∧ (receiveFrame x1 x2 x3).pke = x1.pke ∧ (receiveFrame x1 x2 x3).eng = x1.eng ∧ (receiveFrame x1 x2 x3).host = x1.host ∧ (receiveFrame x1 x2 x3).geo = x1.geo ∧ (receiveFrame x1 x2 x3).flash = x1.flash ∧ (receiveFrame x1 x2 x3).kar = x1.kar := by unfold receiveFrame; (try dsimp only); (repeat' split)  <;> simp [*]

@[simp ↓] theorem drainRx_frame (x1 x2) :
    (drainRx x1 x2).pending = x1.pending ∧ (drainRx x1 x2).now = x1.now ∧ (drainRx x1 x2).fresh = x1.fresh ∧ (drainRx x1 x2).snaps = x1.snaps ∧ (drainRx x1 x2).id = x1.id ∧ (drainRx x1 x2).cham = x1.cham ∧ (drainRx x1 x2).kst = x1.kst ∧ (drainRx x1 x2).mbx = x1.mbx ∧ (drainRx x1 x2).lan = x1.lan ∧ (drainRx x1 x2).bb = x1.bb ∧ (drainRx x1 x2).die = x1.die ∧ (drainRx x1 x2).rng = x1.rng ∧ (drainRx x1 x2).pke = x1.pke ∧ (drainRx x1 x2).eng = x1.eng ∧ (drainRx x1 x2).host = x1.host ∧ (drainRx x1 x2).geo = x1.geo ∧ (drainRx x1 x2).flash = x1.flash ∧ (drainRx x1 x2).kar = x1.kar := by unfold drainRx; simp

@[simp ↓] theorem refuseEarly_frame (x1 x2 x3 x4) :
    (refuseEarly x1 x2 x3 x4).pending = x1.pending ∧ (refuseEarly x1 x2 x3 x4).now = x1.now ∧ (refuseEarly x1 x2 x3 x4).fresh = x1.fresh ∧ (refuseEarly x1 x2 x3 x4).snaps = x1.snaps ∧ (refuseEarly x1 x2 x3 x4).id = x1.id ∧ (refuseEarly x1 x2 x3 x4).cham = x1.cham ∧ (refuseEarly x1 x2 x3 x4).kst = x1.kst ∧ (refuseEarly x1 x2 x3 x4).mbx = x1.mbx ∧ (refuseEarly x1 x2 x3 x4).lan = x1.lan ∧ (refuseEarly x1 x2 x3 x4).bb = x1.bb ∧ (refuseEarly x1 x2 x3 x4).die = x1.die ∧ (refuseEarly x1 x2 x3 x4).rng = x1.rng ∧ (refuseEarly x1 x2 x3 x4).pke = x1.pke ∧ (refuseEarly x1 x2 x3 x4).eng = x1.eng ∧ (refuseEarly x1 x2 x3 x4).host = x1.host ∧ (refuseEarly x1 x2 x3 x4).geo = x1.geo ∧ (refuseEarly x1 x2 x3 x4).flash = x1.flash ∧ (refuseEarly x1 x2 x3 x4).kar = x1.kar := by unfold refuseEarly; simp

@[simp ↓] theorem holdFrame_frame (x1 x2 x3 x4) :
    (holdFrame x1 x2 x3 x4).pending = x1.pending ∧ (holdFrame x1 x2 x3 x4).now = x1.now ∧ (holdFrame x1 x2 x3 x4).fresh = x1.fresh ∧ (holdFrame x1 x2 x3 x4).snaps = x1.snaps ∧ (holdFrame x1 x2 x3 x4).id = x1.id ∧ (holdFrame x1 x2 x3 x4).cham = x1.cham ∧ (holdFrame x1 x2 x3 x4).mbx = x1.mbx ∧ (holdFrame x1 x2 x3 x4).lan = x1.lan ∧ (holdFrame x1 x2 x3 x4).bb = x1.bb ∧ (holdFrame x1 x2 x3 x4).die = x1.die ∧ (holdFrame x1 x2 x3 x4).rng = x1.rng ∧ (holdFrame x1 x2 x3 x4).pke = x1.pke ∧ (holdFrame x1 x2 x3 x4).eng = x1.eng ∧ (holdFrame x1 x2 x3 x4).host = x1.host ∧ (holdFrame x1 x2 x3 x4).geo = x1.geo ∧ (holdFrame x1 x2 x3 x4).flash = x1.flash ∧ (holdFrame x1 x2 x3 x4).kar = x1.kar := by unfold holdFrame; dsimp only; (repeat' split) <;> (try have := findOrInsert_frame_of ‹_›) <;> simp [*]

@[simp ↓] theorem judgeCommand_frame (x1 x2 x3) :
    (judgeCommand x1 x2 x3).pending = x1.pending ∧ (judgeCommand x1 x2 x3).now = x1.now ∧ (judgeCommand x1 x2 x3).fresh = x1.fresh ∧ (judgeCommand x1 x2 x3).snaps = x1.snaps ∧ (judgeCommand x1 x2 x3).id = x1.id ∧ (judgeCommand x1 x2 x3).cham = x1.cham ∧ (judgeCommand x1 x2 x3).mbx = x1.mbx ∧ (judgeCommand x1 x2 x3).lan = x1.lan ∧ (judgeCommand x1 x2 x3).bb = x1.bb ∧ (judgeCommand x1 x2 x3).die = x1.die ∧ (judgeCommand x1 x2 x3).rng = x1.rng ∧ (judgeCommand x1 x2 x3).pke = x1.pke ∧ (judgeCommand x1 x2 x3).eng = x1.eng ∧ (judgeCommand x1 x2 x3).host = x1.host ∧ (judgeCommand x1 x2 x3).geo = x1.geo ∧ (judgeCommand x1 x2 x3).flash = x1.flash ∧ (judgeCommand x1 x2 x3).kar = x1.kar := by unfold judgeCommand; dsimp only; (repeat' split)  <;> simp [*]

@[simp ↓] theorem classify_frame (x1 x2 x3) :
    (classify x1 x2 x3).pending = x1.pending ∧ (classify x1 x2 x3).now = x1.now ∧ (classify x1 x2 x3).fresh = x1.fresh ∧ (classify x1 x2 x3).snaps = x1.snaps ∧ (classify x1 x2 x3).id = x1.id ∧ (classify x1 x2 x3).cham = x1.cham ∧ (classify x1 x2 x3).mbx = x1.mbx ∧ (classify x1 x2 x3).lan = x1.lan ∧ (classify x1 x2 x3).bb = x1.bb ∧ (classify x1 x2 x3).die = x1.die ∧ (classify x1 x2 x3).rng = x1.rng ∧ (classify x1 x2 x3).pke = x1.pke ∧ (classify x1 x2 x3).eng = x1.eng ∧ (classify x1 x2 x3).host = x1.host ∧ (classify x1 x2 x3).geo = x1.geo ∧ (classify x1 x2 x3).flash = x1.flash ∧ (classify x1 x2 x3).kar = x1.kar := by unfold classify; simp

@[simp ↓] theorem forFrames_pending (x1 x2 x3) (hx3 : ∀ y1 y2 y3, (x3 y1 y2 y3).pending = y1.pending) : (forFrames x1 x2 x3).pending = x1.pending := by unfold forFrames; apply st_foldl_pending; intros; (repeat' split) <;> simp [*]

@[simp ↓] theorem forFrames_now (x1 x2 x3) (hx3 : ∀ y1 y2 y3, (x3 y1 y2 y3).now = y1.now) : (forFrames x1 x2 x3).now = x1.now := by unfold forFrames; apply st_foldl_now; intros; (repeat' split) <;> simp [*]

@[simp ↓] theorem forFrames_fresh (x1 x2 x3) (hx3 : ∀ y1 y2 y3, (x3 y1 y2 y3).fresh = y1.fresh) : (forFrames x1 x2 x3).fresh = x1.fresh := by unfold forFrames; apply st_foldl_fresh; intros; (repeat' split) <;> simp [*]

@[simp ↓] theorem forFrames_out (x1 x2 x3) (hx3 : ∀ y1 y2 y3, (x3 y1 y2 y3).out = y1.out) : (forFrames x1 x2 x3).out = x1.out := by unfold forFrames; apply st_foldl_out; intros; (repeat' split) <;> simp [*]

@[simp ↓] theorem forFrames_snaps (x1 x2 x3) (hx3 : ∀ y1 y2 y3, (x3 y1 y2 y3).snaps = y1.snaps) : (forFrames x1 x2 x3).snaps = x1.snaps := by unfold forFrames; apply st_foldl_snaps; intros; (repeat' split) <;> simp [*]

@[simp ↓] theorem forFrames_id (x1 x2 x3) (hx3 : ∀ y1 y2 y3, (x3 y1 y2 y3).id = y1.id) : (forFrames x1 x2 x3).id = x1.id := by unfold forFrames; apply st_foldl_id; intros; (repeat' split) <;> simp [*]

@[simp ↓] theorem forFrames_psg (x1 x2 x3) (hx3 : ∀ y1 y2 y3, (x3 y1 y2 y3).psg = y1.psg) : (forFrames x1 x2 x3).psg = x1.psg := by unfold forFrames; apply st_foldl_psg; intros; (repeat' split) <;> simp [*]

@[simp ↓] theorem forFrames_cham (x1 x2 x3) (hx3 : ∀ y1 y2 y3, (x3 y1 y2 y3).cham = y1.cham) : (forFrames x1 x2 x3).cham = x1.cham := by unfold forFrames; apply st_foldl_cham; intros; (repeat' split) <;> simp [*]

@[simp ↓] theorem forFrames_kst (x1 x2 x3) (hx3 : ∀ y1 y2 y3, (x3 y1 y2 y3).kst = y1.kst) : (forFrames x1 x2 x3).kst = x1.kst := by unfold forFrames; apply st_foldl_kst; intros; (repeat' split) <;> simp [*]

@[simp ↓] theorem forFrames_mbx (x1 x2 x3) (hx3 : ∀ y1 y2 y3, (x3 y1 y2 y3).mbx = y1.mbx) : (forFrames x1 x2 x3).mbx = x1.mbx := by unfold forFrames; apply st_foldl_mbx; intros; (repeat' split) <;> simp [*]

@[simp ↓] theorem forFrames_str (x1 x2 x3) (hx3 : ∀ y1 y2 y3, (x3 y1 y2 y3).str = y1.str) : (forFrames x1 x2 x3).str = x1.str := by unfold forFrames; apply st_foldl_str; intros; (repeat' split) <;> simp [*]

@[simp ↓] theorem forFrames_lan (x1 x2 x3) (hx3 : ∀ y1 y2 y3, (x3 y1 y2 y3).lan = y1.lan) : (forFrames x1 x2 x3).lan = x1.lan := by unfold forFrames; apply st_foldl_lan; intros; (repeat' split) <;> simp [*]

@[simp ↓] theorem forFrames_bb (x1 x2 x3) (hx3 : ∀ y1 y2 y3, (x3 y1 y2 y3).bb = y1.bb) : (forFrames x1 x2 x3).bb = x1.bb := by unfold forFrames; apply st_foldl_bb; intros; (repeat' split) <;> simp [*]

@[simp ↓] theorem forFrames_tim (x1 x2 x3) (hx3 : ∀ y1 y2 y3, (x3 y1 y2 y3).tim = y1.tim) : (forFrames x1 x2 x3).tim = x1.tim := by unfold forFrames; apply st_foldl_tim; intros; (repeat' split) <;> simp [*]

@[simp ↓] theorem forFrames_lcy (x1 x2 x3) (hx3 : ∀ y1 y2 y3, (x3 y1 y2 y3).lcy = y1.lcy) : (forFrames x1 x2 x3).lcy = x1.lcy := by unfold forFrames; apply st_foldl_lcy; intros; (repeat' split) <;> simp [*]

@[simp ↓] theorem forFrames_die (x1 x2 x3) (hx3 : ∀ y1 y2 y3, (x3 y1 y2 y3).die = y1.die) : (forFrames x1 x2 x3).die = x1.die := by unfold forFrames; apply st_foldl_die; intros; (repeat' split) <;> simp [*]

@[simp ↓] theorem forFrames_rng (x1 x2 x3) (hx3 : ∀ y1 y2 y3, (x3 y1 y2 y3).rng = y1.rng) : (forFrames x1 x2 x3).rng = x1.rng := by unfold forFrames; apply st_foldl_rng; intros; (repeat' split) <;> simp [*]

@[simp ↓] theorem forFrames_pke (x1 x2 x3) (hx3 : ∀ y1 y2 y3, (x3 y1 y2 y3).pke = y1.pke) : (forFrames x1 x2 x3).pke = x1.pke := by unfold forFrames; apply st_foldl_pke; intros; (repeat' split) <;> simp [*]

@[simp ↓] theorem forFrames_eng (x1 x2 x3) (hx3 : ∀ y1 y2 y3, (x3 y1 y2 y3).eng = y1.eng) : (forFrames x1 x2 x3).eng = x1.eng := by unfold forFrames; apply st_foldl_eng; intros; (repeat' split) <;> simp [*]

@[simp ↓] theorem forFrames_host (x1 x2 x3) (hx3 : ∀ y1 y2 y3, (x3 y1 y2 y3).host = y1.host) : (forFrames x1 x2 x3).host = x1.host := by unfold forFrames; apply st_foldl_host; intros; (repeat' split) <;> simp [*]

@[simp ↓] theorem forFrames_geo (x1 x2 x3) (hx3 : ∀ y1 y2 y3, (x3 y1 y2 y3).geo = y1.geo) : (forFrames x1 x2 x3).geo = x1.geo := by unfold forFrames; apply st_foldl_geo; intros; (repeat' split) <;> simp [*]

@[simp ↓] theorem forFrames_flash (x1 x2 x3) (hx3 : ∀ y1 y2 y3, (x3 y1 y2 y3).flash = y1.flash) : (forFrames x1 x2 x3).flash = x1.flash := by unfold forFrames; apply st_foldl_flash; intros; (repeat' split) <;> simp [*]

@[simp ↓] theorem forFrames_wld (x1 x2 x3) (hx3 : ∀ y1 y2 y3, (x3 y1 y2 y3).wld = y1.wld) : (forFrames x1 x2 x3).wld = x1.wld := by unfold forFrames; apply st_foldl_wld; intros; (repeat' split) <;> simp [*]

@[simp ↓] theorem forFrames_kar (x1 x2 x3) (hx3 : ∀ y1 y2 y3, (x3 y1 y2 y3).kar = y1.kar) : (forFrames x1 x2 x3).kar = x1.kar := by unfold forFrames; apply st_foldl_kar; intros; (repeat' split) <;> simp [*]

@[simp ↓] theorem forFrames_ctl (x1 x2 x3) (hx3 : ∀ y1 y2 y3, (x3 y1 y2 y3).ctl = y1.ctl) : (forFrames x1 x2 x3).ctl = x1.ctl := by unfold forFrames; apply st_foldl_ctl; intros; (repeat' split) <;> simp [*]

@[simp ↓] theorem closePageIn_frame (x1 x2) :
    (closePageIn x1 x2).pending = x1.pending ∧ (closePageIn x1 x2).now = x1.now ∧ (closePageIn x1 x2).fresh = x1.fresh ∧ (closePageIn x1 x2).out = x1.out ∧ (closePageIn x1 x2).snaps = x1.snaps ∧ (closePageIn x1 x2).id = x1.id ∧ (closePageIn x1 x2).cham = x1.cham ∧ (closePageIn x1 x2).kst = x1.kst ∧ (closePageIn x1 x2).mbx = x1.mbx ∧ (closePageIn x1 x2).str = x1.str ∧ (closePageIn x1 x2).lan = x1.lan ∧ (closePageIn x1 x2).bb = x1.bb ∧ (closePageIn x1 x2).tim = x1.tim ∧ (closePageIn x1 x2).lcy = x1.lcy ∧ (closePageIn x1 x2).die = x1.die ∧ (closePageIn x1 x2).rng = x1.rng ∧ (closePageIn x1 x2).pke = x1.pke ∧ (closePageIn x1 x2).eng = x1.eng ∧ (closePageIn x1 x2).host = x1.host ∧ (closePageIn x1 x2).geo = x1.geo ∧ (closePageIn x1 x2).flash = x1.flash ∧ (closePageIn x1 x2).wld = x1.wld ∧ (closePageIn x1 x2).kar = x1.kar ∧ (closePageIn x1 x2).ctl = x1.ctl := by unfold closePageIn; simp

@[simp ↓] theorem countPageFail_frame (x1) :
    (countPageFail x1).pending = x1.pending ∧ (countPageFail x1).now = x1.now ∧ (countPageFail x1).fresh = x1.fresh ∧ (countPageFail x1).out = x1.out ∧ (countPageFail x1).snaps = x1.snaps ∧ (countPageFail x1).id = x1.id ∧ (countPageFail x1).psg = x1.psg ∧ (countPageFail x1).cham = x1.cham ∧ (countPageFail x1).kst = x1.kst ∧ (countPageFail x1).mbx = x1.mbx ∧ (countPageFail x1).str = x1.str ∧ (countPageFail x1).lan = x1.lan ∧ (countPageFail x1).bb = x1.bb ∧ (countPageFail x1).tim = x1.tim ∧ (countPageFail x1).lcy = x1.lcy ∧ (countPageFail x1).die = x1.die ∧ (countPageFail x1).rng = x1.rng ∧ (countPageFail x1).pke = x1.pke ∧ (countPageFail x1).eng = x1.eng ∧ (countPageFail x1).host = x1.host ∧ (countPageFail x1).flash = x1.flash ∧ (countPageFail x1).wld = x1.wld ∧ (countPageFail x1).kar = x1.kar ∧ (countPageFail x1).ctl = x1.ctl := by unfold countPageFail; simp

@[simp ↓] theorem endPaging_pending (x1 x2 x3) (hx3 : ∀ y1 y2 y3, (x3 y1 y2 y3).pending = y1.pending) : (endPaging x1 x2 x3).pending = x1.pending := by unfold endPaging; (repeat' split) <;> simp [*]

@[simp ↓] theorem endPaging_now (x1 x2 x3) (hx3 : ∀ y1 y2 y3, (x3 y1 y2 y3).now = y1.now) : (endPaging x1 x2 x3).now = x1.now := by unfold endPaging; (repeat' split) <;> simp [*]

@[simp ↓] theorem endPaging_fresh (x1 x2 x3) (hx3 : ∀ y1 y2 y3, (x3 y1 y2 y3).fresh = y1.fresh) : (endPaging x1 x2 x3).fresh = x1.fresh := by unfold endPaging; (repeat' split) <;> simp [*]

@[simp ↓] theorem endPaging_snaps (x1 x2 x3) (hx3 : ∀ y1 y2 y3, (x3 y1 y2 y3).snaps = y1.snaps) : (endPaging x1 x2 x3).snaps = x1.snaps := by unfold endPaging; (repeat' split) <;> simp [*]

@[simp ↓] theorem endPaging_id (x1 x2 x3) (hx3 : ∀ y1 y2 y3, (x3 y1 y2 y3).id = y1.id) : (endPaging x1 x2 x3).id = x1.id := by unfold endPaging; (repeat' split) <;> simp [*]

@[simp ↓] theorem endPaging_cham (x1 x2 x3) (hx3 : ∀ y1 y2 y3, (x3 y1 y2 y3).cham = y1.cham) : (endPaging x1 x2 x3).cham = x1.cham := by unfold endPaging; (repeat' split) <;> simp [*]

@[simp ↓] theorem endPaging_kst (x1 x2 x3) (hx3 : ∀ y1 y2 y3, (x3 y1 y2 y3).kst = y1.kst) : (endPaging x1 x2 x3).kst = x1.kst := by unfold endPaging; (repeat' split) <;> simp [*]

@[simp ↓] theorem endPaging_mbx (x1 x2 x3) (hx3 : ∀ y1 y2 y3, (x3 y1 y2 y3).mbx = y1.mbx) : (endPaging x1 x2 x3).mbx = x1.mbx := by unfold endPaging; (repeat' split) <;> simp [*]

@[simp ↓] theorem endPaging_lan (x1 x2 x3) (hx3 : ∀ y1 y2 y3, (x3 y1 y2 y3).lan = y1.lan) : (endPaging x1 x2 x3).lan = x1.lan := by unfold endPaging; (repeat' split) <;> simp [*]

@[simp ↓] theorem endPaging_bb (x1 x2 x3) (hx3 : ∀ y1 y2 y3, (x3 y1 y2 y3).bb = y1.bb) : (endPaging x1 x2 x3).bb = x1.bb := by unfold endPaging; (repeat' split) <;> simp [*]

@[simp ↓] theorem endPaging_die (x1 x2 x3) (hx3 : ∀ y1 y2 y3, (x3 y1 y2 y3).die = y1.die) : (endPaging x1 x2 x3).die = x1.die := by unfold endPaging; (repeat' split) <;> simp [*]

@[simp ↓] theorem endPaging_rng (x1 x2 x3) (hx3 : ∀ y1 y2 y3, (x3 y1 y2 y3).rng = y1.rng) : (endPaging x1 x2 x3).rng = x1.rng := by unfold endPaging; (repeat' split) <;> simp [*]

@[simp ↓] theorem endPaging_pke (x1 x2 x3) (hx3 : ∀ y1 y2 y3, (x3 y1 y2 y3).pke = y1.pke) : (endPaging x1 x2 x3).pke = x1.pke := by unfold endPaging; (repeat' split) <;> simp [*]

@[simp ↓] theorem endPaging_eng (x1 x2 x3) (hx3 : ∀ y1 y2 y3, (x3 y1 y2 y3).eng = y1.eng) : (endPaging x1 x2 x3).eng = x1.eng := by unfold endPaging; (repeat' split) <;> simp [*]

@[simp ↓] theorem endPaging_host (x1 x2 x3) (hx3 : ∀ y1 y2 y3, (x3 y1 y2 y3).host = y1.host) : (endPaging x1 x2 x3).host = x1.host := by unfold endPaging; (repeat' split) <;> simp [*]

@[simp ↓] theorem endPaging_geo (x1 x2 x3) (hx3 : ∀ y1 y2 y3, (x3 y1 y2 y3).geo = y1.geo) : (endPaging x1 x2 x3).geo = x1.geo := by unfold endPaging; (repeat' split) <;> simp [*]

@[simp ↓] theorem endPaging_flash (x1 x2 x3) (hx3 : ∀ y1 y2 y3, (x3 y1 y2 y3).flash = y1.flash) : (endPaging x1 x2 x3).flash = x1.flash := by unfold endPaging; (repeat' split) <;> simp [*]

@[simp ↓] theorem endPaging_kar (x1 x2 x3) (hx3 : ∀ y1 y2 y3, (x3 y1 y2 y3).kar = y1.kar) : (endPaging x1 x2 x3).kar = x1.kar := by unfold endPaging; (repeat' split) <;> simp [*]

@[simp ↓] theorem failPaging_frame (x1 x2) :
    (failPaging x1 x2).pending = x1.pending ∧ (failPaging x1 x2).now = x1.now ∧ (failPaging x1 x2).fresh = x1.fresh ∧ (failPaging x1 x2).snaps = x1.snaps ∧ (failPaging x1 x2).id = x1.id ∧ (failPaging x1 x2).cham = x1.cham ∧ (failPaging x1 x2).kst = x1.kst ∧ (failPaging x1 x2).mbx = x1.mbx ∧ (failPaging x1 x2).lan = x1.lan ∧ (failPaging x1 x2).bb = x1.bb ∧ (failPaging x1 x2).die = x1.die ∧ (failPaging x1 x2).rng = x1.rng ∧ (failPaging x1 x2).pke = x1.pke ∧ (failPaging x1 x2).eng = x1.eng ∧ (failPaging x1 x2).host = x1.host ∧ (failPaging x1 x2).geo = x1.geo ∧ (failPaging x1 x2).flash = x1.flash ∧ (failPaging x1 x2).kar = x1.kar := by unfold failPaging; simp

@[simp ↓] theorem countSkew_frame (x1) :
    (countSkew x1).pending = x1.pending ∧ (countSkew x1).now = x1.now ∧ (countSkew x1).fresh = x1.fresh ∧ (countSkew x1).snaps = x1.snaps ∧ (countSkew x1).id = x1.id ∧ (countSkew x1).cham = x1.cham ∧ (countSkew x1).kst = x1.kst ∧ (countSkew x1).str = x1.str ∧ (countSkew x1).lan = x1.lan ∧ (countSkew x1).bb = x1.bb ∧ (countSkew x1).tim = x1.tim ∧ (countSkew x1).die = x1.die ∧ (countSkew x1).pke = x1.pke ∧ (countSkew x1).geo = x1.geo ∧ (countSkew x1).flash = x1.flash ∧ (countSkew x1).kar = x1.kar ∧ (countSkew x1).ctl = x1.ctl := by unfold countSkew; (try dsimp only); (repeat' split) <;> (try have := draw_frame_of ‹_›) <;> simp [*]

@[simp ↓] theorem expire_frame (x1 x2 x3) :
    (expire x1 x2 x3).pending = x1.pending ∧ (expire x1 x2 x3).now = x1.now ∧ (expire x1 x2 x3).fresh = x1.fresh ∧ (expire x1 x2 x3).snaps = x1.snaps ∧ (expire x1 x2 x3).id = x1.id ∧ (expire x1 x2 x3).kst = x1.kst ∧ (expire x1 x2 x3).mbx = x1.mbx ∧ (expire x1 x2 x3).lan = x1.lan ∧ (expire x1 x2 x3).bb = x1.bb ∧ (expire x1 x2 x3).die = x1.die ∧ (expire x1 x2 x3).rng = x1.rng ∧ (expire x1 x2 x3).pke = x1.pke ∧ (expire x1 x2 x3).eng = x1.eng ∧ (expire x1 x2 x3).host = x1.host ∧ (expire x1 x2 x3).geo = x1.geo ∧ (expire x1 x2 x3).flash = x1.flash ∧ (expire x1 x2 x3).kar = x1.kar := by unfold expire; simp

@[simp ↓] theorem setLink_frame (x1 x2 x3) :
    (setLink x1 x2 x3).pending = x1.pending ∧ (setLink x1 x2 x3).now = x1.now ∧ (setLink x1 x2 x3).snaps = x1.snaps ∧ (setLink x1 x2 x3).id = x1.id ∧ (setLink x1 x2 x3).cham = x1.cham ∧ (setLink x1 x2 x3).kst = x1.kst ∧ (setLink x1 x2 x3).str = x1.str ∧ (setLink x1 x2 x3).lan = x1.lan ∧ (setLink x1 x2 x3).bb = x1.bb ∧ (setLink x1 x2 x3).tim = x1.tim ∧ (setLink x1 x2 x3).lcy = x1.lcy ∧ (setLink x1 x2 x3).rng = x1.rng ∧ (setLink x1 x2 x3).pke = x1.pke ∧ (setLink x1 x2 x3).eng = x1.eng ∧ (setLink x1 x2 x3).geo = x1.geo ∧ (setLink x1 x2 x3).flash = x1.flash ∧ (setLink x1 x2 x3).kar = x1.kar ∧ (setLink x1 x2 x3).ctl = x1.ctl := by unfold setLink; simp

@[simp ↓] theorem disablePort_frame (x1 x2) :
    (disablePort x1 x2).pending = x1.pending ∧ (disablePort x1 x2).now = x1.now ∧ (disablePort x1 x2).snaps = x1.snaps ∧ (disablePort x1 x2).id = x1.id ∧ (disablePort x1 x2).cham = x1.cham ∧ (disablePort x1 x2).kst = x1.kst ∧ (disablePort x1 x2).str = x1.str ∧ (disablePort x1 x2).lan = x1.lan ∧ (disablePort x1 x2).bb = x1.bb ∧ (disablePort x1 x2).tim = x1.tim ∧ (disablePort x1 x2).lcy = x1.lcy ∧ (disablePort x1 x2).rng = x1.rng ∧ (disablePort x1 x2).pke = x1.pke ∧ (disablePort x1 x2).eng = x1.eng ∧ (disablePort x1 x2).geo = x1.geo ∧ (disablePort x1 x2).flash = x1.flash ∧ (disablePort x1 x2).kar = x1.kar ∧ (disablePort x1 x2).ctl = x1.ctl := by unfold disablePort; simp

@[simp ↓] theorem writePortCfg_frame (x1 x2 x3) :
    (writePortCfg x1 x2 x3).pending = x1.pending ∧ (writePortCfg x1 x2 x3).now = x1.now ∧ (writePortCfg x1 x2 x3).snaps = x1.snaps ∧ (writePortCfg x1 x2 x3).id = x1.id ∧ (writePortCfg x1 x2 x3).cham = x1.cham ∧ (writePortCfg x1 x2 x3).kst = x1.kst ∧ (writePortCfg x1 x2 x3).str = x1.str ∧ (writePortCfg x1 x2 x3).lan = x1.lan ∧ (writePortCfg x1 x2 x3).bb = x1.bb ∧ (writePortCfg x1 x2 x3).tim = x1.tim ∧ (writePortCfg x1 x2 x3).lcy = x1.lcy ∧ (writePortCfg x1 x2 x3).rng = x1.rng ∧ (writePortCfg x1 x2 x3).pke = x1.pke ∧ (writePortCfg x1 x2 x3).eng = x1.eng ∧ (writePortCfg x1 x2 x3).geo = x1.geo ∧ (writePortCfg x1 x2 x3).flash = x1.flash ∧ (writePortCfg x1 x2 x3).kar = x1.kar ∧ (writePortCfg x1 x2 x3).ctl = x1.ctl := by unfold writePortCfg; simp

end Sys2Proof.Machine
end

