-- ==== Sys2Proof/Laws/Frames/Cores.lean ====
section
/-!
SUPPORT. What the operations of Machine/Cores.lean leave unchanged: for each, every part of the state that it does not touch.
-/

set_option Elab.async false

set_option linter.all false
set_option maxRecDepth 2000

namespace Sys2Proof.Machine

@[simp ↓] theorem updCore_frame (x1 x2 x3) :
    (updCore x1 x2 x3).pending = x1.pending ∧ (updCore x1 x2 x3).now = x1.now ∧ (updCore x1 x2 x3).fresh = x1.fresh ∧ (updCore x1 x2 x3).out = x1.out ∧ (updCore x1 x2 x3).snaps = x1.snaps ∧ (updCore x1 x2 x3).id = x1.id ∧ (updCore x1 x2 x3).psg = x1.psg ∧ (updCore x1 x2 x3).cham = x1.cham ∧ (updCore x1 x2 x3).kst = x1.kst ∧ (updCore x1 x2 x3).mbx = x1.mbx ∧ (updCore x1 x2 x3).str = x1.str ∧ (updCore x1 x2 x3).lan = x1.lan ∧ (updCore x1 x2 x3).bb = x1.bb ∧ (updCore x1 x2 x3).tim = x1.tim ∧ (updCore x1 x2 x3).lcy = x1.lcy ∧ (updCore x1 x2 x3).die = x1.die ∧ (updCore x1 x2 x3).rng = x1.rng ∧ (updCore x1 x2 x3).eng = x1.eng ∧ (updCore x1 x2 x3).host = x1.host ∧ (updCore x1 x2 x3).geo = x1.geo ∧ (updCore x1 x2 x3).flash = x1.flash ∧ (updCore x1 x2 x3).wld = x1.wld ∧ (updCore x1 x2 x3).kar = x1.kar ∧ (updCore x1 x2 x3).ctl = x1.ctl := by unfold updCore; simp

@[simp ↓] theorem refreshPke_frame (x1) :
    (refreshPke x1).pending = x1.pending ∧ (refreshPke x1).now = x1.now ∧ (refreshPke x1).fresh = x1.fresh ∧ (refreshPke x1).out = x1.out ∧ (refreshPke x1).snaps = x1.snaps ∧ (refreshPke x1).psg = x1.psg ∧ (refreshPke x1).cham = x1.cham ∧ (refreshPke x1).kst = x1.kst ∧ (refreshPke x1).mbx = x1.mbx ∧ (refreshPke x1).str = x1.str ∧ (refreshPke x1).lan = x1.lan ∧ (refreshPke x1).bb = x1.bb ∧ (refreshPke x1).tim = x1.tim ∧ (refreshPke x1).lcy = x1.lcy ∧ (refreshPke x1).die = x1.die ∧ (refreshPke x1).rng = x1.rng ∧ (refreshPke x1).pke = x1.pke ∧ (refreshPke x1).eng = x1.eng ∧ (refreshPke x1).host = x1.host ∧ (refreshPke x1).geo = x1.geo ∧ (refreshPke x1).flash = x1.flash ∧ (refreshPke x1).wld = x1.wld ∧ (refreshPke x1).kar = x1.kar ∧ (refreshPke x1).ctl = x1.ctl := by unfold refreshPke; simp

@[simp ↓] theorem dropCore_frame (x1 x2 x3) :
    (dropCore x1 x2 x3).pending = x1.pending ∧ (dropCore x1 x2 x3).now = x1.now ∧ (dropCore x1 x2 x3).fresh = x1.fresh ∧ (dropCore x1 x2 x3).out = x1.out ∧ (dropCore x1 x2 x3).snaps = x1.snaps ∧ (dropCore x1 x2 x3).psg = x1.psg ∧ (dropCore x1 x2 x3).cham = x1.cham ∧ (dropCore x1 x2 x3).kst = x1.kst ∧ (dropCore x1 x2 x3).mbx = x1.mbx ∧ (dropCore x1 x2 x3).str = x1.str ∧ (dropCore x1 x2 x3).lan = x1.lan ∧ (dropCore x1 x2 x3).bb = x1.bb ∧ (dropCore x1 x2 x3).tim = x1.tim ∧ (dropCore x1 x2 x3).lcy = x1.lcy ∧ (dropCore x1 x2 x3).die = x1.die ∧ (dropCore x1 x2 x3).rng = x1.rng ∧ (dropCore x1 x2 x3).eng = x1.eng ∧ (dropCore x1 x2 x3).host = x1.host ∧ (dropCore x1 x2 x3).geo = x1.geo ∧ (dropCore x1 x2 x3).flash = x1.flash ∧ (dropCore x1 x2 x3).wld = x1.wld ∧ (dropCore x1 x2 x3).kar = x1.kar ∧ (dropCore x1 x2 x3).ctl = x1.ctl := by unfold dropCore; simp

@[simp ↓] theorem faultCore_frame (x1 x2 x3) :
    (faultCore x1 x2 x3).pending = x1.pending ∧ (faultCore x1 x2 x3).now = x1.now ∧ (faultCore x1 x2 x3).fresh = x1.fresh ∧ (faultCore x1 x2 x3).out = x1.out ∧ (faultCore x1 x2 x3).snaps = x1.snaps ∧ (faultCore x1 x2 x3).psg = x1.psg ∧ (faultCore x1 x2 x3).cham = x1.cham ∧ (faultCore x1 x2 x3).kst = x1.kst ∧ (faultCore x1 x2 x3).mbx = x1.mbx ∧ (faultCore x1 x2 x3).str = x1.str ∧ (faultCore x1 x2 x3).bb = x1.bb ∧ (faultCore x1 x2 x3).tim = x1.tim ∧ (faultCore x1 x2 x3).lcy = x1.lcy ∧ (faultCore x1 x2 x3).die = x1.die ∧ (faultCore x1 x2 x3).rng = x1.rng ∧ (faultCore x1 x2 x3).eng = x1.eng ∧ (faultCore x1 x2 x3).host = x1.host ∧ (faultCore x1 x2 x3).geo = x1.geo ∧ (faultCore x1 x2 x3).flash = x1.flash ∧ (faultCore x1 x2 x3).wld = x1.wld ∧ (faultCore x1 x2 x3).kar = x1.kar ∧ (faultCore x1 x2 x3).ctl = x1.ctl := by unfold faultCore; simp

@[simp ↓] theorem faultVerifiers_pending (x1 x2) : (faultVerifiers x1 x2).pending = x1.pending := by fun_induction faultVerifiers <;> simp_all

@[simp ↓] theorem faultVerifiers_now (x1 x2) : (faultVerifiers x1 x2).now = x1.now := by fun_induction faultVerifiers <;> simp_all

@[simp ↓] theorem faultVerifiers_fresh (x1 x2) : (faultVerifiers x1 x2).fresh = x1.fresh := by fun_induction faultVerifiers <;> simp_all

@[simp ↓] theorem faultVerifiers_out (x1 x2) : (faultVerifiers x1 x2).out = x1.out := by fun_induction faultVerifiers <;> simp_all

@[simp ↓] theorem faultVerifiers_snaps (x1 x2) : (faultVerifiers x1 x2).snaps = x1.snaps := by fun_induction faultVerifiers <;> simp_all

@[simp ↓] theorem faultVerifiers_psg (x1 x2) : (faultVerifiers x1 x2).psg = x1.psg := by fun_induction faultVerifiers <;> simp_all

@[simp ↓] theorem faultVerifiers_cham (x1 x2) : (faultVerifiers x1 x2).cham = x1.cham := by fun_induction faultVerifiers <;> simp_all

@[simp ↓] theorem faultVerifiers_kst (x1 x2) : (faultVerifiers x1 x2).kst = x1.kst := by fun_induction faultVerifiers <;> simp_all

@[simp ↓] theorem faultVerifiers_mbx (x1 x2) : (faultVerifiers x1 x2).mbx = x1.mbx := by fun_induction faultVerifiers <;> simp_all

@[simp ↓] theorem faultVerifiers_str (x1 x2) : (faultVerifiers x1 x2).str = x1.str := by fun_induction faultVerifiers <;> simp_all

@[simp ↓] theorem faultVerifiers_bb (x1 x2) : (faultVerifiers x1 x2).bb = x1.bb := by fun_induction faultVerifiers <;> simp_all

@[simp ↓] theorem faultVerifiers_tim (x1 x2) : (faultVerifiers x1 x2).tim = x1.tim := by fun_induction faultVerifiers <;> simp_all

@[simp ↓] theorem faultVerifiers_lcy (x1 x2) : (faultVerifiers x1 x2).lcy = x1.lcy := by fun_induction faultVerifiers <;> simp_all

@[simp ↓] theorem faultVerifiers_die (x1 x2) : (faultVerifiers x1 x2).die = x1.die := by fun_induction faultVerifiers <;> simp_all

@[simp ↓] theorem faultVerifiers_rng (x1 x2) : (faultVerifiers x1 x2).rng = x1.rng := by fun_induction faultVerifiers <;> simp_all

@[simp ↓] theorem faultVerifiers_eng (x1 x2) : (faultVerifiers x1 x2).eng = x1.eng := by fun_induction faultVerifiers <;> simp_all

@[simp ↓] theorem faultVerifiers_host (x1 x2) : (faultVerifiers x1 x2).host = x1.host := by fun_induction faultVerifiers <;> simp_all

@[simp ↓] theorem faultVerifiers_geo (x1 x2) : (faultVerifiers x1 x2).geo = x1.geo := by fun_induction faultVerifiers <;> simp_all

@[simp ↓] theorem faultVerifiers_flash (x1 x2) : (faultVerifiers x1 x2).flash = x1.flash := by fun_induction faultVerifiers <;> simp_all

@[simp ↓] theorem faultVerifiers_wld (x1 x2) : (faultVerifiers x1 x2).wld = x1.wld := by fun_induction faultVerifiers <;> simp_all

@[simp ↓] theorem faultVerifiers_kar (x1 x2) : (faultVerifiers x1 x2).kar = x1.kar := by fun_induction faultVerifiers <;> simp_all

@[simp ↓] theorem faultVerifiers_ctl (x1 x2) : (faultVerifiers x1 x2).ctl = x1.ctl := by fun_induction faultVerifiers <;> simp_all

@[simp ↓] theorem countJob_frame (x1 x2 x3) :
    (countJob x1 x2 x3).pending = x1.pending ∧ (countJob x1 x2 x3).now = x1.now ∧ (countJob x1 x2 x3).fresh = x1.fresh ∧ (countJob x1 x2 x3).out = x1.out ∧ (countJob x1 x2 x3).snaps = x1.snaps ∧ (countJob x1 x2 x3).id = x1.id ∧ (countJob x1 x2 x3).psg = x1.psg ∧ (countJob x1 x2 x3).cham = x1.cham ∧ (countJob x1 x2 x3).kst = x1.kst ∧ (countJob x1 x2 x3).mbx = x1.mbx ∧ (countJob x1 x2 x3).str = x1.str ∧ (countJob x1 x2 x3).lan = x1.lan ∧ (countJob x1 x2 x3).bb = x1.bb ∧ (countJob x1 x2 x3).tim = x1.tim ∧ (countJob x1 x2 x3).lcy = x1.lcy ∧ (countJob x1 x2 x3).die = x1.die ∧ (countJob x1 x2 x3).rng = x1.rng ∧ (countJob x1 x2 x3).eng = x1.eng ∧ (countJob x1 x2 x3).host = x1.host ∧ (countJob x1 x2 x3).geo = x1.geo ∧ (countJob x1 x2 x3).flash = x1.flash ∧ (countJob x1 x2 x3).wld = x1.wld ∧ (countJob x1 x2 x3).kar = x1.kar ∧ (countJob x1 x2 x3).ctl = x1.ctl := by unfold countJob; simp

@[simp ↓] theorem countVerifications_frame (x1 x2) :
    (countVerifications x1 x2).pending = x1.pending ∧ (countVerifications x1 x2).now = x1.now ∧ (countVerifications x1 x2).fresh = x1.fresh ∧ (countVerifications x1 x2).out = x1.out ∧ (countVerifications x1 x2).snaps = x1.snaps ∧ (countVerifications x1 x2).id = x1.id ∧ (countVerifications x1 x2).psg = x1.psg ∧ (countVerifications x1 x2).cham = x1.cham ∧ (countVerifications x1 x2).kst = x1.kst ∧ (countVerifications x1 x2).mbx = x1.mbx ∧ (countVerifications x1 x2).str = x1.str ∧ (countVerifications x1 x2).lan = x1.lan ∧ (countVerifications x1 x2).bb = x1.bb ∧ (countVerifications x1 x2).tim = x1.tim ∧ (countVerifications x1 x2).lcy = x1.lcy ∧ (countVerifications x1 x2).die = x1.die ∧ (countVerifications x1 x2).rng = x1.rng ∧ (countVerifications x1 x2).eng = x1.eng ∧ (countVerifications x1 x2).host = x1.host ∧ (countVerifications x1 x2).geo = x1.geo ∧ (countVerifications x1 x2).flash = x1.flash ∧ (countVerifications x1 x2).wld = x1.wld ∧ (countVerifications x1 x2).kar = x1.kar ∧ (countVerifications x1 x2).ctl = x1.ctl := by unfold countVerifications; simp

end Sys2Proof.Machine
end

