-- ==== Sys2Proof/Laws/Frames/Quorum.lean ====
section
/-!
SUPPORT. What the operations of Machine/Quorum.lean leave unchanged: for each, every part of the state that it does not touch.
-/

set_option Elab.async false

set_option linter.all false
set_option maxRecDepth 2000

namespace Sys2Proof.Machine

@[simp ↓] theorem command_pending (x1 x2 x3 x4) (hx4 : ∀ y1, (x4 y1).pending = y1.pending) : (command x1 x2 x3 x4).pending = x1.pending := by unfold command; (repeat' split) <;> simp [*]

@[simp ↓] theorem command_now (x1 x2 x3 x4) (hx4 : ∀ y1, (x4 y1).now = y1.now) : (command x1 x2 x3 x4).now = x1.now := by unfold command; (repeat' split) <;> simp [*]

@[simp ↓] theorem command_fresh (x1 x2 x3 x4) (hx4 : ∀ y1, (x4 y1).fresh = y1.fresh) : (command x1 x2 x3 x4).fresh = x1.fresh := by unfold command; (repeat' split) <;> simp [*]

@[simp ↓] theorem command_snaps (x1 x2 x3 x4) (hx4 : ∀ y1, (x4 y1).snaps = y1.snaps) : (command x1 x2 x3 x4).snaps = x1.snaps := by unfold command; (repeat' split) <;> simp [*]

@[simp ↓] theorem command_id (x1 x2 x3 x4) (hx4 : ∀ y1, (x4 y1).id = y1.id) : (command x1 x2 x3 x4).id = x1.id := by unfold command; (repeat' split) <;> simp [*]

@[simp ↓] theorem command_psg (x1 x2 x3 x4) (hx4 : ∀ y1, (x4 y1).psg = y1.psg) : (command x1 x2 x3 x4).psg = x1.psg := by unfold command; (repeat' split) <;> simp [*]

@[simp ↓] theorem command_cham (x1 x2 x3 x4) (hx4 : ∀ y1, (x4 y1).cham = y1.cham) : (command x1 x2 x3 x4).cham = x1.cham := by unfold command; (repeat' split) <;> simp [*]

@[simp ↓] theorem command_kst (x1 x2 x3 x4) (hx4 : ∀ y1, (x4 y1).kst = y1.kst) : (command x1 x2 x3 x4).kst = x1.kst := by unfold command; (repeat' split) <;> simp [*]

@[simp ↓] theorem command_str (x1 x2 x3 x4) (hx4 : ∀ y1, (x4 y1).str = y1.str) : (command x1 x2 x3 x4).str = x1.str := by unfold command; (repeat' split) <;> simp [*]

@[simp ↓] theorem command_lan (x1 x2 x3 x4) (hx4 : ∀ y1, (x4 y1).lan = y1.lan) : (command x1 x2 x3 x4).lan = x1.lan := by unfold command; (repeat' split) <;> simp [*]

@[simp ↓] theorem command_bb (x1 x2 x3 x4) (hx4 : ∀ y1, (x4 y1).bb = y1.bb) : (command x1 x2 x3 x4).bb = x1.bb := by unfold command; (repeat' split) <;> simp [*]

@[simp ↓] theorem command_tim (x1 x2 x3 x4) (hx4 : ∀ y1, (x4 y1).tim = y1.tim) : (command x1 x2 x3 x4).tim = x1.tim := by unfold command; (repeat' split) <;> simp [*]

@[simp ↓] theorem command_lcy (x1 x2 x3 x4) (hx4 : ∀ y1, (x4 y1).lcy = y1.lcy) : (command x1 x2 x3 x4).lcy = x1.lcy := by unfold command; (repeat' split) <;> simp [*]

@[simp ↓] theorem command_die (x1 x2 x3 x4) (hx4 : ∀ y1, (x4 y1).die = y1.die) : (command x1 x2 x3 x4).die = x1.die := by unfold command; (repeat' split) <;> simp [*]

@[simp ↓] theorem command_rng (x1 x2 x3 x4) (hx4 : ∀ y1, (x4 y1).rng = y1.rng) : (command x1 x2 x3 x4).rng = x1.rng := by unfold command; (repeat' split) <;> simp [*]

@[simp ↓] theorem command_pke (x1 x2 x3 x4) (hx4 : ∀ y1, (x4 y1).pke = y1.pke) : (command x1 x2 x3 x4).pke = x1.pke := by unfold command; (repeat' split) <;> simp [*]

@[simp ↓] theorem command_eng (x1 x2 x3 x4) (hx4 : ∀ y1, (x4 y1).eng = y1.eng) : (command x1 x2 x3 x4).eng = x1.eng := by unfold command; (repeat' split) <;> simp [*]

@[simp ↓] theorem command_geo (x1 x2 x3 x4) (hx4 : ∀ y1, (x4 y1).geo = y1.geo) : (command x1 x2 x3 x4).geo = x1.geo := by unfold command; (repeat' split) <;> simp [*]

@[simp ↓] theorem command_flash (x1 x2 x3 x4) (hx4 : ∀ y1, (x4 y1).flash = y1.flash) : (command x1 x2 x3 x4).flash = x1.flash := by unfold command; (repeat' split) <;> simp [*]

@[simp ↓] theorem command_kar (x1 x2 x3 x4) (hx4 : ∀ y1, (x4 y1).kar = y1.kar) : (command x1 x2 x3 x4).kar = x1.kar := by unfold command; (repeat' split) <;> simp [*]

@[simp ↓] theorem command_ctl (x1 x2 x3 x4) (hx4 : ∀ y1, (x4 y1).ctl = y1.ctl) : (command x1 x2 x3 x4).ctl = x1.ctl := by unfold command; (repeat' split) <;> simp [*]

@[simp ↓] theorem consumeNonces_frame (x1 x2 x3) :
    (consumeNonces x1 x2 x3).pending = x1.pending ∧ (consumeNonces x1 x2 x3).now = x1.now ∧ (consumeNonces x1 x2 x3).fresh = x1.fresh ∧ (consumeNonces x1 x2 x3).out = x1.out ∧ (consumeNonces x1 x2 x3).snaps = x1.snaps ∧ (consumeNonces x1 x2 x3).id = x1.id ∧ (consumeNonces x1 x2 x3).psg = x1.psg ∧ (consumeNonces x1 x2 x3).cham = x1.cham ∧ (consumeNonces x1 x2 x3).mbx = x1.mbx ∧ (consumeNonces x1 x2 x3).str = x1.str ∧ (consumeNonces x1 x2 x3).lan = x1.lan ∧ (consumeNonces x1 x2 x3).bb = x1.bb ∧ (consumeNonces x1 x2 x3).tim = x1.tim ∧ (consumeNonces x1 x2 x3).die = x1.die ∧ (consumeNonces x1 x2 x3).rng = x1.rng ∧ (consumeNonces x1 x2 x3).pke = x1.pke ∧ (consumeNonces x1 x2 x3).eng = x1.eng ∧ (consumeNonces x1 x2 x3).host = x1.host ∧ (consumeNonces x1 x2 x3).geo = x1.geo ∧ (consumeNonces x1 x2 x3).flash = x1.flash ∧ (consumeNonces x1 x2 x3).wld = x1.wld ∧ (consumeNonces x1 x2 x3).kar = x1.kar ∧ (consumeNonces x1 x2 x3).ctl = x1.ctl := by unfold consumeNonces; simp

@[simp ↓] theorem judgeQuorum_frame (x1 x2 x3) :
    (judgeQuorum x1 x2 x3).1.pending = x1.pending ∧ (judgeQuorum x1 x2 x3).1.now = x1.now ∧ (judgeQuorum x1 x2 x3).1.fresh = x1.fresh ∧ (judgeQuorum x1 x2 x3).1.out = x1.out ∧ (judgeQuorum x1 x2 x3).1.snaps = x1.snaps ∧ (judgeQuorum x1 x2 x3).1.psg = x1.psg ∧ (judgeQuorum x1 x2 x3).1.cham = x1.cham ∧ (judgeQuorum x1 x2 x3).1.mbx = x1.mbx ∧ (judgeQuorum x1 x2 x3).1.str = x1.str ∧ (judgeQuorum x1 x2 x3).1.bb = x1.bb ∧ (judgeQuorum x1 x2 x3).1.tim = x1.tim ∧ (judgeQuorum x1 x2 x3).1.die = x1.die ∧ (judgeQuorum x1 x2 x3).1.rng = x1.rng ∧ (judgeQuorum x1 x2 x3).1.eng = x1.eng ∧ (judgeQuorum x1 x2 x3).1.host = x1.host ∧ (judgeQuorum x1 x2 x3).1.geo = x1.geo ∧ (judgeQuorum x1 x2 x3).1.flash = x1.flash ∧ (judgeQuorum x1 x2 x3).1.wld = x1.wld ∧ (judgeQuorum x1 x2 x3).1.kar = x1.kar ∧ (judgeQuorum x1 x2 x3).1.ctl = x1.ctl := by unfold judgeQuorum; simp

theorem judgeQuorum_frame_of {x1 x2 x3 x t} (h : judgeQuorum x1 x2 x3 = (t, x)) :
    t.pending = x1.pending ∧ t.now = x1.now ∧ t.fresh = x1.fresh ∧ t.out = x1.out ∧ t.snaps = x1.snaps ∧ t.psg = x1.psg ∧ t.cham = x1.cham ∧ t.mbx = x1.mbx ∧ t.str = x1.str ∧ t.bb = x1.bb ∧ t.tim = x1.tim ∧ t.die = x1.die ∧ t.rng = x1.rng ∧ t.eng = x1.eng ∧ t.host = x1.host ∧ t.geo = x1.geo ∧ t.flash = x1.flash ∧ t.wld = x1.wld ∧ t.kar = x1.kar ∧ t.ctl = x1.ctl := by
  have e := judgeQuorum_frame x1 x2 x3; rw [h] at e; exact e

@[simp ↓] theorem withQuorum_pending (x1 x2 x3 x4) (hx4 : ∀ y1 y2, (x4 y1 y2).pending = y1.pending) : (withQuorum x1 x2 x3 x4).pending = x1.pending := by fun_cases withQuorum <;> (try have := judgeQuorum_frame_of ‹_›) <;> simp_all

@[simp ↓] theorem withQuorum_now (x1 x2 x3 x4) (hx4 : ∀ y1 y2, (x4 y1 y2).now = y1.now) : (withQuorum x1 x2 x3 x4).now = x1.now := by fun_cases withQuorum <;> (try have := judgeQuorum_frame_of ‹_›) <;> simp_all

@[simp ↓] theorem withQuorum_fresh (x1 x2 x3 x4) (hx4 : ∀ y1 y2, (x4 y1 y2).fresh = y1.fresh) : (withQuorum x1 x2 x3 x4).fresh = x1.fresh := by fun_cases withQuorum <;> (try have := judgeQuorum_frame_of ‹_›) <;> simp_all

@[simp ↓] theorem withQuorum_snaps (x1 x2 x3 x4) (hx4 : ∀ y1 y2, (x4 y1 y2).snaps = y1.snaps) : (withQuorum x1 x2 x3 x4).snaps = x1.snaps := by fun_cases withQuorum <;> (try have := judgeQuorum_frame_of ‹_›) <;> simp_all

@[simp ↓] theorem withQuorum_psg (x1 x2 x3 x4) (hx4 : ∀ y1 y2, (x4 y1 y2).psg = y1.psg) : (withQuorum x1 x2 x3 x4).psg = x1.psg := by fun_cases withQuorum <;> (try have := judgeQuorum_frame_of ‹_›) <;> simp_all

@[simp ↓] theorem withQuorum_cham (x1 x2 x3 x4) (hx4 : ∀ y1 y2, (x4 y1 y2).cham = y1.cham) : (withQuorum x1 x2 x3 x4).cham = x1.cham := by fun_cases withQuorum <;> (try have := judgeQuorum_frame_of ‹_›) <;> simp_all

@[simp ↓] theorem withQuorum_str (x1 x2 x3 x4) (hx4 : ∀ y1 y2, (x4 y1 y2).str = y1.str) : (withQuorum x1 x2 x3 x4).str = x1.str := by fun_cases withQuorum <;> (try have := judgeQuorum_frame_of ‹_›) <;> simp_all

@[simp ↓] theorem withQuorum_bb (x1 x2 x3 x4) (hx4 : ∀ y1 y2, (x4 y1 y2).bb = y1.bb) : (withQuorum x1 x2 x3 x4).bb = x1.bb := by fun_cases withQuorum <;> (try have := judgeQuorum_frame_of ‹_›) <;> simp_all

@[simp ↓] theorem withQuorum_tim (x1 x2 x3 x4) (hx4 : ∀ y1 y2, (x4 y1 y2).tim = y1.tim) : (withQuorum x1 x2 x3 x4).tim = x1.tim := by fun_cases withQuorum <;> (try have := judgeQuorum_frame_of ‹_›) <;> simp_all

@[simp ↓] theorem withQuorum_die (x1 x2 x3 x4) (hx4 : ∀ y1 y2, (x4 y1 y2).die = y1.die) : (withQuorum x1 x2 x3 x4).die = x1.die := by fun_cases withQuorum <;> (try have := judgeQuorum_frame_of ‹_›) <;> simp_all

@[simp ↓] theorem withQuorum_rng (x1 x2 x3 x4) (hx4 : ∀ y1 y2, (x4 y1 y2).rng = y1.rng) : (withQuorum x1 x2 x3 x4).rng = x1.rng := by fun_cases withQuorum <;> (try have := judgeQuorum_frame_of ‹_›) <;> simp_all

@[simp ↓] theorem withQuorum_eng (x1 x2 x3 x4) (hx4 : ∀ y1 y2, (x4 y1 y2).eng = y1.eng) : (withQuorum x1 x2 x3 x4).eng = x1.eng := by fun_cases withQuorum <;> (try have := judgeQuorum_frame_of ‹_›) <;> simp_all

@[simp ↓] theorem withQuorum_geo (x1 x2 x3 x4) (hx4 : ∀ y1 y2, (x4 y1 y2).geo = y1.geo) : (withQuorum x1 x2 x3 x4).geo = x1.geo := by fun_cases withQuorum <;> (try have := judgeQuorum_frame_of ‹_›) <;> simp_all

@[simp ↓] theorem withQuorum_flash (x1 x2 x3 x4) (hx4 : ∀ y1 y2, (x4 y1 y2).flash = y1.flash) : (withQuorum x1 x2 x3 x4).flash = x1.flash := by fun_cases withQuorum <;> (try have := judgeQuorum_frame_of ‹_›) <;> simp_all

@[simp ↓] theorem withQuorum_kar (x1 x2 x3 x4) (hx4 : ∀ y1 y2, (x4 y1 y2).kar = y1.kar) : (withQuorum x1 x2 x3 x4).kar = x1.kar := by fun_cases withQuorum <;> (try have := judgeQuorum_frame_of ‹_›) <;> simp_all

@[simp ↓] theorem withQuorum_ctl (x1 x2 x3 x4) (hx4 : ∀ y1 y2, (x4 y1 y2).ctl = y1.ctl) : (withQuorum x1 x2 x3 x4).ctl = x1.ctl := by fun_cases withQuorum <;> (try have := judgeQuorum_frame_of ‹_›) <;> simp_all

@[simp ↓] theorem withCritical_pending (x1 x2 x3 x4 x5) (hx5 : ∀ y1 y2, (x5 y1 y2).pending = y1.pending) : (withCritical x1 x2 x3 x4 x5).pending = x1.pending := by unfold withCritical; (repeat' split) <;> simp [*]

@[simp ↓] theorem withCritical_now (x1 x2 x3 x4 x5) (hx5 : ∀ y1 y2, (x5 y1 y2).now = y1.now) : (withCritical x1 x2 x3 x4 x5).now = x1.now := by unfold withCritical; (repeat' split) <;> simp [*]

@[simp ↓] theorem withCritical_fresh (x1 x2 x3 x4 x5) (hx5 : ∀ y1 y2, (x5 y1 y2).fresh = y1.fresh) : (withCritical x1 x2 x3 x4 x5).fresh = x1.fresh := by unfold withCritical; (repeat' split) <;> simp [*]

@[simp ↓] theorem withCritical_snaps (x1 x2 x3 x4 x5) (hx5 : ∀ y1 y2, (x5 y1 y2).snaps = y1.snaps) : (withCritical x1 x2 x3 x4 x5).snaps = x1.snaps := by unfold withCritical; (repeat' split) <;> simp [*]

@[simp ↓] theorem withCritical_psg (x1 x2 x3 x4 x5) (hx5 : ∀ y1 y2, (x5 y1 y2).psg = y1.psg) : (withCritical x1 x2 x3 x4 x5).psg = x1.psg := by unfold withCritical; (repeat' split) <;> simp [*]

@[simp ↓] theorem withCritical_cham (x1 x2 x3 x4 x5) (hx5 : ∀ y1 y2, (x5 y1 y2).cham = y1.cham) : (withCritical x1 x2 x3 x4 x5).cham = x1.cham := by unfold withCritical; (repeat' split) <;> simp [*]

@[simp ↓] theorem withCritical_str (x1 x2 x3 x4 x5) (hx5 : ∀ y1 y2, (x5 y1 y2).str = y1.str) : (withCritical x1 x2 x3 x4 x5).str = x1.str := by unfold withCritical; (repeat' split) <;> simp [*]

@[simp ↓] theorem withCritical_bb (x1 x2 x3 x4 x5) (hx5 : ∀ y1 y2, (x5 y1 y2).bb = y1.bb) : (withCritical x1 x2 x3 x4 x5).bb = x1.bb := by unfold withCritical; (repeat' split) <;> simp [*]

@[simp ↓] theorem withCritical_tim (x1 x2 x3 x4 x5) (hx5 : ∀ y1 y2, (x5 y1 y2).tim = y1.tim) : (withCritical x1 x2 x3 x4 x5).tim = x1.tim := by unfold withCritical; (repeat' split) <;> simp [*]

@[simp ↓] theorem withCritical_die (x1 x2 x3 x4 x5) (hx5 : ∀ y1 y2, (x5 y1 y2).die = y1.die) : (withCritical x1 x2 x3 x4 x5).die = x1.die := by unfold withCritical; (repeat' split) <;> simp [*]

@[simp ↓] theorem withCritical_rng (x1 x2 x3 x4 x5) (hx5 : ∀ y1 y2, (x5 y1 y2).rng = y1.rng) : (withCritical x1 x2 x3 x4 x5).rng = x1.rng := by unfold withCritical; (repeat' split) <;> simp [*]

@[simp ↓] theorem withCritical_eng (x1 x2 x3 x4 x5) (hx5 : ∀ y1 y2, (x5 y1 y2).eng = y1.eng) : (withCritical x1 x2 x3 x4 x5).eng = x1.eng := by unfold withCritical; (repeat' split) <;> simp [*]

@[simp ↓] theorem withCritical_geo (x1 x2 x3 x4 x5) (hx5 : ∀ y1 y2, (x5 y1 y2).geo = y1.geo) : (withCritical x1 x2 x3 x4 x5).geo = x1.geo := by unfold withCritical; (repeat' split) <;> simp [*]

@[simp ↓] theorem withCritical_flash (x1 x2 x3 x4 x5) (hx5 : ∀ y1 y2, (x5 y1 y2).flash = y1.flash) : (withCritical x1 x2 x3 x4 x5).flash = x1.flash := by unfold withCritical; (repeat' split) <;> simp [*]

@[simp ↓] theorem withCritical_kar (x1 x2 x3 x4 x5) (hx5 : ∀ y1 y2, (x5 y1 y2).kar = y1.kar) : (withCritical x1 x2 x3 x4 x5).kar = x1.kar := by unfold withCritical; (repeat' split) <;> simp [*]

@[simp ↓] theorem withCritical_ctl (x1 x2 x3 x4 x5) (hx5 : ∀ y1 y2, (x5 y1 y2).ctl = y1.ctl) : (withCritical x1 x2 x3 x4 x5).ctl = x1.ctl := by unfold withCritical; (repeat' split) <;> simp [*]

@[simp ↓] theorem withRoutine_pending (x1 x2 x3 x4 x5) (hx5 : ∀ y1 y2, (x5 y1 y2).pending = y1.pending) : (withRoutine x1 x2 x3 x4 x5).pending = x1.pending := by unfold withRoutine; (repeat' split) <;> simp [*]

@[simp ↓] theorem withRoutine_now (x1 x2 x3 x4 x5) (hx5 : ∀ y1 y2, (x5 y1 y2).now = y1.now) : (withRoutine x1 x2 x3 x4 x5).now = x1.now := by unfold withRoutine; (repeat' split) <;> simp [*]

@[simp ↓] theorem withRoutine_fresh (x1 x2 x3 x4 x5) (hx5 : ∀ y1 y2, (x5 y1 y2).fresh = y1.fresh) : (withRoutine x1 x2 x3 x4 x5).fresh = x1.fresh := by unfold withRoutine; (repeat' split) <;> simp [*]

@[simp ↓] theorem withRoutine_snaps (x1 x2 x3 x4 x5) (hx5 : ∀ y1 y2, (x5 y1 y2).snaps = y1.snaps) : (withRoutine x1 x2 x3 x4 x5).snaps = x1.snaps := by unfold withRoutine; (repeat' split) <;> simp [*]

@[simp ↓] theorem withRoutine_psg (x1 x2 x3 x4 x5) (hx5 : ∀ y1 y2, (x5 y1 y2).psg = y1.psg) : (withRoutine x1 x2 x3 x4 x5).psg = x1.psg := by unfold withRoutine; (repeat' split) <;> simp [*]

@[simp ↓] theorem withRoutine_cham (x1 x2 x3 x4 x5) (hx5 : ∀ y1 y2, (x5 y1 y2).cham = y1.cham) : (withRoutine x1 x2 x3 x4 x5).cham = x1.cham := by unfold withRoutine; (repeat' split) <;> simp [*]

@[simp ↓] theorem withRoutine_str (x1 x2 x3 x4 x5) (hx5 : ∀ y1 y2, (x5 y1 y2).str = y1.str) : (withRoutine x1 x2 x3 x4 x5).str = x1.str := by unfold withRoutine; (repeat' split) <;> simp [*]

@[simp ↓] theorem withRoutine_bb (x1 x2 x3 x4 x5) (hx5 : ∀ y1 y2, (x5 y1 y2).bb = y1.bb) : (withRoutine x1 x2 x3 x4 x5).bb = x1.bb := by unfold withRoutine; (repeat' split) <;> simp [*]

@[simp ↓] theorem withRoutine_tim (x1 x2 x3 x4 x5) (hx5 : ∀ y1 y2, (x5 y1 y2).tim = y1.tim) : (withRoutine x1 x2 x3 x4 x5).tim = x1.tim := by unfold withRoutine; (repeat' split) <;> simp [*]

@[simp ↓] theorem withRoutine_die (x1 x2 x3 x4 x5) (hx5 : ∀ y1 y2, (x5 y1 y2).die = y1.die) : (withRoutine x1 x2 x3 x4 x5).die = x1.die := by unfold withRoutine; (repeat' split) <;> simp [*]

@[simp ↓] theorem withRoutine_rng (x1 x2 x3 x4 x5) (hx5 : ∀ y1 y2, (x5 y1 y2).rng = y1.rng) : (withRoutine x1 x2 x3 x4 x5).rng = x1.rng := by unfold withRoutine; (repeat' split) <;> simp [*]

@[simp ↓] theorem withRoutine_eng (x1 x2 x3 x4 x5) (hx5 : ∀ y1 y2, (x5 y1 y2).eng = y1.eng) : (withRoutine x1 x2 x3 x4 x5).eng = x1.eng := by unfold withRoutine; (repeat' split) <;> simp [*]

@[simp ↓] theorem withRoutine_geo (x1 x2 x3 x4 x5) (hx5 : ∀ y1 y2, (x5 y1 y2).geo = y1.geo) : (withRoutine x1 x2 x3 x4 x5).geo = x1.geo := by unfold withRoutine; (repeat' split) <;> simp [*]

@[simp ↓] theorem withRoutine_flash (x1 x2 x3 x4 x5) (hx5 : ∀ y1 y2, (x5 y1 y2).flash = y1.flash) : (withRoutine x1 x2 x3 x4 x5).flash = x1.flash := by unfold withRoutine; (repeat' split) <;> simp [*]

@[simp ↓] theorem withRoutine_kar (x1 x2 x3 x4 x5) (hx5 : ∀ y1 y2, (x5 y1 y2).kar = y1.kar) : (withRoutine x1 x2 x3 x4 x5).kar = x1.kar := by unfold withRoutine; (repeat' split) <;> simp [*]

@[simp ↓] theorem withRoutine_ctl (x1 x2 x3 x4 x5) (hx5 : ∀ y1 y2, (x5 y1 y2).ctl = y1.ctl) : (withRoutine x1 x2 x3 x4 x5).ctl = x1.ctl := by unfold withRoutine; (repeat' split) <;> simp [*]

@[simp ↓] theorem answerOk_frame (x1 x2 x3 x4) :
    (answerOk x1 x2 x3 x4).pending = x1.pending ∧ (answerOk x1 x2 x3 x4).now = x1.now ∧ (answerOk x1 x2 x3 x4).fresh = x1.fresh ∧ (answerOk x1 x2 x3 x4).snaps = x1.snaps ∧ (answerOk x1 x2 x3 x4).id = x1.id ∧ (answerOk x1 x2 x3 x4).psg = x1.psg ∧ (answerOk x1 x2 x3 x4).cham = x1.cham ∧ (answerOk x1 x2 x3 x4).kst = x1.kst ∧ (answerOk x1 x2 x3 x4).str = x1.str ∧ (answerOk x1 x2 x3 x4).lan = x1.lan ∧ (answerOk x1 x2 x3 x4).bb = x1.bb ∧ (answerOk x1 x2 x3 x4).tim = x1.tim ∧ (answerOk x1 x2 x3 x4).lcy = x1.lcy ∧ (answerOk x1 x2 x3 x4).die = x1.die ∧ (answerOk x1 x2 x3 x4).rng = x1.rng ∧ (answerOk x1 x2 x3 x4).pke = x1.pke ∧ (answerOk x1 x2 x3 x4).eng = x1.eng ∧ (answerOk x1 x2 x3 x4).geo = x1.geo ∧ (answerOk x1 x2 x3 x4).flash = x1.flash ∧ (answerOk x1 x2 x3 x4).kar = x1.kar ∧ (answerOk x1 x2 x3 x4).ctl = x1.ctl := by unfold answerOk; simp

end Sys2Proof.Machine
end

