-- ==== Sys2Proof/Laws/Frames/KeyOps.lean ====
section
/-!
SUPPORT. What the operations of Machine/KeyOps.lean leave unchanged: for each, every part of the state that it does not touch.
-/

set_option Elab.async false

set_option linter.all false
set_option maxRecDepth 2000

namespace Sys2Proof.Machine

@[simp ↓] theorem refuseOr_pending (x1 x2 x3 x4) (hx4 : x4.pending = x1.pending) : (refuseOr x1 x2 x3 x4).pending = x1.pending := by unfold refuseOr; (repeat' split) <;> simp [*]

@[simp ↓] theorem refuseOr_now (x1 x2 x3 x4) (hx4 : x4.now = x1.now) : (refuseOr x1 x2 x3 x4).now = x1.now := by unfold refuseOr; (repeat' split) <;> simp [*]

@[simp ↓] theorem refuseOr_fresh (x1 x2 x3 x4) (hx4 : x4.fresh = x1.fresh) : (refuseOr x1 x2 x3 x4).fresh = x1.fresh := by unfold refuseOr; (repeat' split) <;> simp [*]

@[simp ↓] theorem refuseOr_snaps (x1 x2 x3 x4) (hx4 : x4.snaps = x1.snaps) : (refuseOr x1 x2 x3 x4).snaps = x1.snaps := by unfold refuseOr; (repeat' split) <;> simp [*]

@[simp ↓] theorem refuseOr_id (x1 x2 x3 x4) (hx4 : x4.id = x1.id) : (refuseOr x1 x2 x3 x4).id = x1.id := by unfold refuseOr; (repeat' split) <;> simp [*]

@[simp ↓] theorem refuseOr_psg (x1 x2 x3 x4) (hx4 : x4.psg = x1.psg) : (refuseOr x1 x2 x3 x4).psg = x1.psg := by unfold refuseOr; (repeat' split) <;> simp [*]

@[simp ↓] theorem refuseOr_cham (x1 x2 x3 x4) (hx4 : x4.cham = x1.cham) : (refuseOr x1 x2 x3 x4).cham = x1.cham := by unfold refuseOr; (repeat' split) <;> simp [*]

@[simp ↓] theorem refuseOr_kst (x1 x2 x3 x4) (hx4 : x4.kst = x1.kst) : (refuseOr x1 x2 x3 x4).kst = x1.kst := by unfold refuseOr; (repeat' split) <;> simp [*]

@[simp ↓] theorem refuseOr_str (x1 x2 x3 x4) (hx4 : x4.str = x1.str) : (refuseOr x1 x2 x3 x4).str = x1.str := by unfold refuseOr; (repeat' split) <;> simp [*]

@[simp ↓] theorem refuseOr_lan (x1 x2 x3 x4) (hx4 : x4.lan = x1.lan) : (refuseOr x1 x2 x3 x4).lan = x1.lan := by unfold refuseOr; (repeat' split) <;> simp [*]

@[simp ↓] theorem refuseOr_bb (x1 x2 x3 x4) (hx4 : x4.bb = x1.bb) : (refuseOr x1 x2 x3 x4).bb = x1.bb := by unfold refuseOr; (repeat' split) <;> simp [*]

@[simp ↓] theorem refuseOr_tim (x1 x2 x3 x4) (hx4 : x4.tim = x1.tim) : (refuseOr x1 x2 x3 x4).tim = x1.tim := by unfold refuseOr; (repeat' split) <;> simp [*]

@[simp ↓] theorem refuseOr_lcy (x1 x2 x3 x4) (hx4 : x4.lcy = x1.lcy) : (refuseOr x1 x2 x3 x4).lcy = x1.lcy := by unfold refuseOr; (repeat' split) <;> simp [*]

@[simp ↓] theorem refuseOr_die (x1 x2 x3 x4) (hx4 : x4.die = x1.die) : (refuseOr x1 x2 x3 x4).die = x1.die := by unfold refuseOr; (repeat' split) <;> simp [*]

@[simp ↓] theorem refuseOr_rng (x1 x2 x3 x4) (hx4 : x4.rng = x1.rng) : (refuseOr x1 x2 x3 x4).rng = x1.rng := by unfold refuseOr; (repeat' split) <;> simp [*]

@[simp ↓] theorem refuseOr_pke (x1 x2 x3 x4) (hx4 : x4.pke = x1.pke) : (refuseOr x1 x2 x3 x4).pke = x1.pke := by unfold refuseOr; (repeat' split) <;> simp [*]

@[simp ↓] theorem refuseOr_eng (x1 x2 x3 x4) (hx4 : x4.eng = x1.eng) : (refuseOr x1 x2 x3 x4).eng = x1.eng := by unfold refuseOr; (repeat' split) <;> simp [*]

@[simp ↓] theorem refuseOr_geo (x1 x2 x3 x4) (hx4 : x4.geo = x1.geo) : (refuseOr x1 x2 x3 x4).geo = x1.geo := by unfold refuseOr; (repeat' split) <;> simp [*]

@[simp ↓] theorem refuseOr_flash (x1 x2 x3 x4) (hx4 : x4.flash = x1.flash) : (refuseOr x1 x2 x3 x4).flash = x1.flash := by unfold refuseOr; (repeat' split) <;> simp [*]

@[simp ↓] theorem refuseOr_kar (x1 x2 x3 x4) (hx4 : x4.kar = x1.kar) : (refuseOr x1 x2 x3 x4).kar = x1.kar := by unfold refuseOr; (repeat' split) <;> simp [*]

@[simp ↓] theorem refuseOr_ctl (x1 x2 x3 x4) (hx4 : x4.ctl = x1.ctl) : (refuseOr x1 x2 x3 x4).ctl = x1.ctl := by unfold refuseOr; (repeat' split) <;> simp [*]

theorem evict_frame_of {x1 x2}{t} (h : (Sys2Proof.Machine.evict x1 x2) = some t) :
    t.pending = x1.pending ∧ t.now = x1.now ∧ t.fresh = x1.fresh ∧ t.out = x1.out ∧ t.snaps = x1.snaps ∧ t.id = x1.id ∧ t.psg = x1.psg ∧ t.cham = x1.cham ∧ t.mbx = x1.mbx ∧ t.str = x1.str ∧ t.lan = x1.lan ∧ t.bb = x1.bb ∧ t.tim = x1.tim ∧ t.lcy = x1.lcy ∧ t.die = x1.die ∧ t.rng = x1.rng ∧ t.pke = x1.pke ∧ t.eng = x1.eng ∧ t.host = x1.host ∧ t.geo = x1.geo ∧ t.flash = x1.flash ∧ t.wld = x1.wld ∧ t.kar = x1.kar ∧ t.ctl = x1.ctl := by unfold evict at h; (repeat' split at h) <;> (first | contradiction | (cases h; simp) | (simp only [Option.map_eq_some_iff, Option.bind_eq_some_iff] at h; obtain ⟨_, _, rfl⟩ := h; simp))

theorem makeLongRoom_pending_of {x1 x2 x3 x4}{t} (h : (Sys2Proof.Machine.makeLongRoom x1 x2 x3 x4) = some t) : t.pending = x4.pending := by
  induction x3 generalizing x4 with
  | zero => simp [makeLongRoom] at h
  | succ n ih =>
    unfold makeLongRoom at h
    (repeat' split at h) <;> first
      | (cases h; rfl)
      | (obtain ⟨u', hu, hv⟩ := Option.bind_eq_some_iff.mp h; rw [ih hv, (evict_frame_of hu).1])

theorem makeLongRoom_now_of {x1 x2 x3 x4}{t} (h : (Sys2Proof.Machine.makeLongRoom x1 x2 x3 x4) = some t) : t.now = x4.now := by
  induction x3 generalizing x4 with
  | zero => simp [makeLongRoom] at h
  | succ n ih =>
    unfold makeLongRoom at h
    (repeat' split at h) <;> first
      | (cases h; rfl)
      | (obtain ⟨u', hu, hv⟩ := Option.bind_eq_some_iff.mp h; rw [ih hv, (evict_frame_of hu).2.1])

theorem makeLongRoom_fresh_of {x1 x2 x3 x4}{t} (h : (Sys2Proof.Machine.makeLongRoom x1 x2 x3 x4) = some t) : t.fresh = x4.fresh := by
  induction x3 generalizing x4 with
  | zero => simp [makeLongRoom] at h
  | succ n ih =>
    unfold makeLongRoom at h
    (repeat' split at h) <;> first
      | (cases h; rfl)
      | (obtain ⟨u', hu, hv⟩ := Option.bind_eq_some_iff.mp h; rw [ih hv, (evict_frame_of hu).2.2.1])

theorem makeLongRoom_out_of {x1 x2 x3 x4}{t} (h : (Sys2Proof.Machine.makeLongRoom x1 x2 x3 x4) = some t) : t.out = x4.out := by
  induction x3 generalizing x4 with
  | zero => simp [makeLongRoom] at h
  | succ n ih =>
    unfold makeLongRoom at h
    (repeat' split at h) <;> first
      | (cases h; rfl)
      | (obtain ⟨u', hu, hv⟩ := Option.bind_eq_some_iff.mp h; rw [ih hv, (evict_frame_of hu).2.2.2.1])

theorem makeLongRoom_snaps_of {x1 x2 x3 x4}{t} (h : (Sys2Proof.Machine.makeLongRoom x1 x2 x3 x4) = some t) : t.snaps = x4.snaps := by
  induction x3 generalizing x4 with
  | zero => simp [makeLongRoom] at h
  | succ n ih =>
    unfold makeLongRoom at h
    (repeat' split at h) <;> first
      | (cases h; rfl)
      | (obtain ⟨u', hu, hv⟩ := Option.bind_eq_some_iff.mp h; rw [ih hv, (evict_frame_of hu).2.2.2.2.1])

theorem makeLongRoom_id_of {x1 x2 x3 x4}{t} (h : (Sys2Proof.Machine.makeLongRoom x1 x2 x3 x4) = some t) : t.id = x4.id := by
  induction x3 generalizing x4 with
  | zero => simp [makeLongRoom] at h
  | succ n ih =>
    unfold makeLongRoom at h
    (repeat' split at h) <;> first
      | (cases h; rfl)
      | (obtain ⟨u', hu, hv⟩ := Option.bind_eq_some_iff.mp h; rw [ih hv, (evict_frame_of hu).2.2.2.2.2.1])

theorem makeLongRoom_psg_of {x1 x2 x3 x4}{t} (h : (Sys2Proof.Machine.makeLongRoom x1 x2 x3 x4) = some t) : t.psg = x4.psg := by
  induction x3 generalizing x4 with
  | zero => simp [makeLongRoom] at h
  | succ n ih =>
    unfold makeLongRoom at h
    (repeat' split at h) <;> first
      | (cases h; rfl)
      | (obtain ⟨u', hu, hv⟩ := Option.bind_eq_some_iff.mp h; rw [ih hv, (evict_frame_of hu).2.2.2.2.2.2.1])

theorem makeLongRoom_cham_of {x1 x2 x3 x4}{t} (h : (Sys2Proof.Machine.makeLongRoom x1 x2 x3 x4) = some t) : t.cham = x4.cham := by
  induction x3 generalizing x4 with
  | zero => simp [makeLongRoom] at h
  | succ n ih =>
    unfold makeLongRoom at h
    (repeat' split at h) <;> first
      | (cases h; rfl)
      | (obtain ⟨u', hu, hv⟩ := Option.bind_eq_some_iff.mp h; rw [ih hv, (evict_frame_of hu).2.2.2.2.2.2.2.1])

theorem makeLongRoom_mbx_of {x1 x2 x3 x4}{t} (h : (Sys2Proof.Machine.makeLongRoom x1 x2 x3 x4) = some t) : t.mbx = x4.mbx := by
  induction x3 generalizing x4 with
  | zero => simp [makeLongRoom] at h
  | succ n ih =>
    unfold makeLongRoom at h
    (repeat' split at h) <;> first
      | (cases h; rfl)
      | (obtain ⟨u', hu, hv⟩ := Option.bind_eq_some_iff.mp h; rw [ih hv, (evict_frame_of hu).2.2.2.2.2.2.2.2.1])

theorem makeLongRoom_str_of {x1 x2 x3 x4}{t} (h : (Sys2Proof.Machine.makeLongRoom x1 x2 x3 x4) = some t) : t.str = x4.str := by
  induction x3 generalizing x4 with
  | zero => simp [makeLongRoom] at h
  | succ n ih =>
    unfold makeLongRoom at h
    (repeat' split at h) <;> first
      | (cases h; rfl)
      | (obtain ⟨u', hu, hv⟩ := Option.bind_eq_some_iff.mp h; rw [ih hv, (evict_frame_of hu).2.2.2.2.2.2.2.2.2.1])

theorem makeLongRoom_lan_of {x1 x2 x3 x4}{t} (h : (Sys2Proof.Machine.makeLongRoom x1 x2 x3 x4) = some t) : t.lan = x4.lan := by
  induction x3 generalizing x4 with
  | zero => simp [makeLongRoom] at h
  | succ n ih =>
    unfold makeLongRoom at h
    (repeat' split at h) <;> first
      | (cases h; rfl)
      | (obtain ⟨u', hu, hv⟩ := Option.bind_eq_some_iff.mp h; rw [ih hv, (evict_frame_of hu).2.2.2.2.2.2.2.2.2.2.1])

theorem makeLongRoom_bb_of {x1 x2 x3 x4}{t} (h : (Sys2Proof.Machine.makeLongRoom x1 x2 x3 x4) = some t) : t.bb = x4.bb := by
  induction x3 generalizing x4 with
  | zero => simp [makeLongRoom] at h
  | succ n ih =>
    unfold makeLongRoom at h
    (repeat' split at h) <;> first
      | (cases h; rfl)
      | (obtain ⟨u', hu, hv⟩ := Option.bind_eq_some_iff.mp h; rw [ih hv, (evict_frame_of hu).2.2.2.2.2.2.2.2.2.2.2.1])

theorem makeLongRoom_tim_of {x1 x2 x3 x4}{t} (h : (Sys2Proof.Machine.makeLongRoom x1 x2 x3 x4) = some t) : t.tim = x4.tim := by
  induction x3 generalizing x4 with
  | zero => simp [makeLongRoom] at h
  | succ n ih =>
    unfold makeLongRoom at h
    (repeat' split at h) <;> first
      | (cases h; rfl)
      | (obtain ⟨u', hu, hv⟩ := Option.bind_eq_some_iff.mp h; rw [ih hv, (evict_frame_of hu).2.2.2.2.2.2.2.2.2.2.2.2.1])

theorem makeLongRoom_lcy_of {x1 x2 x3 x4}{t} (h : (Sys2Proof.Machine.makeLongRoom x1 x2 x3 x4) = some t) : t.lcy = x4.lcy := by
  induction x3 generalizing x4 with
  | zero => simp [makeLongRoom] at h
  | succ n ih =>
    unfold makeLongRoom at h
    (repeat' split at h) <;> first
      | (cases h; rfl)
      | (obtain ⟨u', hu, hv⟩ := Option.bind_eq_some_iff.mp h; rw [ih hv, (evict_frame_of hu).2.2.2.2.2.2.2.2.2.2.2.2.2.1])

theorem makeLongRoom_die_of {x1 x2 x3 x4}{t} (h : (Sys2Proof.Machine.makeLongRoom x1 x2 x3 x4) = some t) : t.die = x4.die := by
  induction x3 generalizing x4 with
  | zero => simp [makeLongRoom] at h
  | succ n ih =>
    unfold makeLongRoom at h
    (repeat' split at h) <;> first
      | (cases h; rfl)
      | (obtain ⟨u', hu, hv⟩ := Option.bind_eq_some_iff.mp h; rw [ih hv, (evict_frame_of hu).2.2.2.2.2.2.2.2.2.2.2.2.2.2.1])

theorem makeLongRoom_rng_of {x1 x2 x3 x4}{t} (h : (Sys2Proof.Machine.makeLongRoom x1 x2 x3 x4) = some t) : t.rng = x4.rng := by
  induction x3 generalizing x4 with
  | zero => simp [makeLongRoom] at h
  | succ n ih =>
    unfold makeLongRoom at h
    (repeat' split at h) <;> first
      | (cases h; rfl)
      | (obtain ⟨u', hu, hv⟩ := Option.bind_eq_some_iff.mp h; rw [ih hv, (evict_frame_of hu).2.2.2.2.2.2.2.2.2.2.2.2.2.2.2.1])

theorem makeLongRoom_pke_of {x1 x2 x3 x4}{t} (h : (Sys2Proof.Machine.makeLongRoom x1 x2 x3 x4) = some t) : t.pke = x4.pke := by
  induction x3 generalizing x4 with
  | zero => simp [makeLongRoom] at h
  | succ n ih =>
    unfold makeLongRoom at h
    (repeat' split at h) <;> first
      | (cases h; rfl)
      | (obtain ⟨u', hu, hv⟩ := Option.bind_eq_some_iff.mp h; rw [ih hv, (evict_frame_of hu).2.2.2.2.2.2.2.2.2.2.2.2.2.2.2.2.1])

theorem makeLongRoom_eng_of {x1 x2 x3 x4}{t} (h : (Sys2Proof.Machine.makeLongRoom x1 x2 x3 x4) = some t) : t.eng = x4.eng := by
  induction x3 generalizing x4 with
  | zero => simp [makeLongRoom] at h
  | succ n ih =>
    unfold makeLongRoom at h
    (repeat' split at h) <;> first
      | (cases h; rfl)
      | (obtain ⟨u', hu, hv⟩ := Option.bind_eq_some_iff.mp h; rw [ih hv, (evict_frame_of hu).2.2.2.2.2.2.2.2.2.2.2.2.2.2.2.2.2.1])

theorem makeLongRoom_host_of {x1 x2 x3 x4}{t} (h : (Sys2Proof.Machine.makeLongRoom x1 x2 x3 x4) = some t) : t.host = x4.host := by
  induction x3 generalizing x4 with
  | zero => simp [makeLongRoom] at h
  | succ n ih =>
    unfold makeLongRoom at h
    (repeat' split at h) <;> first
      | (cases h; rfl)
      | (obtain ⟨u', hu, hv⟩ := Option.bind_eq_some_iff.mp h; rw [ih hv, (evict_frame_of hu).2.2.2.2.2.2.2.2.2.2.2.2.2.2.2.2.2.2.1])

theorem makeLongRoom_geo_of {x1 x2 x3 x4}{t} (h : (Sys2Proof.Machine.makeLongRoom x1 x2 x3 x4) = some t) : t.geo = x4.geo := by
  induction x3 generalizing x4 with
  | zero => simp [makeLongRoom] at h
  | succ n ih =>
    unfold makeLongRoom at h
    (repeat' split at h) <;> first
      | (cases h; rfl)
      | (obtain ⟨u', hu, hv⟩ := Option.bind_eq_some_iff.mp h; rw [ih hv, (evict_frame_of hu).2.2.2.2.2.2.2.2.2.2.2.2.2.2.2.2.2.2.2.1])

theorem makeLongRoom_flash_of {x1 x2 x3 x4}{t} (h : (Sys2Proof.Machine.makeLongRoom x1 x2 x3 x4) = some t) : t.flash = x4.flash := by
  induction x3 generalizing x4 with
  | zero => simp [makeLongRoom] at h
  | succ n ih =>
    unfold makeLongRoom at h
    (repeat' split at h) <;> first
      | (cases h; rfl)
      | (obtain ⟨u', hu, hv⟩ := Option.bind_eq_some_iff.mp h; rw [ih hv, (evict_frame_of hu).2.2.2.2.2.2.2.2.2.2.2.2.2.2.2.2.2.2.2.2.1])

theorem makeLongRoom_wld_of {x1 x2 x3 x4}{t} (h : (Sys2Proof.Machine.makeLongRoom x1 x2 x3 x4) = some t) : t.wld = x4.wld := by
  induction x3 generalizing x4 with
  | zero => simp [makeLongRoom] at h
  | succ n ih =>
    unfold makeLongRoom at h
    (repeat' split at h) <;> first
      | (cases h; rfl)
      | (obtain ⟨u', hu, hv⟩ := Option.bind_eq_some_iff.mp h; rw [ih hv, (evict_frame_of hu).2.2.2.2.2.2.2.2.2.2.2.2.2.2.2.2.2.2.2.2.2.1])

theorem makeLongRoom_kar_of {x1 x2 x3 x4}{t} (h : (Sys2Proof.Machine.makeLongRoom x1 x2 x3 x4) = some t) : t.kar = x4.kar := by
  induction x3 generalizing x4 with
  | zero => simp [makeLongRoom] at h
  | succ n ih =>
    unfold makeLongRoom at h
    (repeat' split at h) <;> first
      | (cases h; rfl)
      | (obtain ⟨u', hu, hv⟩ := Option.bind_eq_some_iff.mp h; rw [ih hv, (evict_frame_of hu).2.2.2.2.2.2.2.2.2.2.2.2.2.2.2.2.2.2.2.2.2.2.1])

theorem makeLongRoom_ctl_of {x1 x2 x3 x4}{t} (h : (Sys2Proof.Machine.makeLongRoom x1 x2 x3 x4) = some t) : t.ctl = x4.ctl := by
  induction x3 generalizing x4 with
  | zero => simp [makeLongRoom] at h
  | succ n ih =>
    unfold makeLongRoom at h
    (repeat' split at h) <;> first
      | (cases h; rfl)
      | (obtain ⟨u', hu, hv⟩ := Option.bind_eq_some_iff.mp h; rw [ih hv, (evict_frame_of hu).2.2.2.2.2.2.2.2.2.2.2.2.2.2.2.2.2.2.2.2.2.2.2])

theorem makeSlotRoom_pending_of {x1 x2}{t} (h : (Sys2Proof.Machine.makeSlotRoom x1 x2) = some t) : t.pending = x1.pending := by unfold makeSlotRoom at h; (repeat' split at h) <;> first | exact (evict_frame_of h).1 | simp_all

theorem makeSlotRoom_now_of {x1 x2}{t} (h : (Sys2Proof.Machine.makeSlotRoom x1 x2) = some t) : t.now = x1.now := by unfold makeSlotRoom at h; (repeat' split at h) <;> first | exact (evict_frame_of h).2.1 | simp_all

theorem makeSlotRoom_fresh_of {x1 x2}{t} (h : (Sys2Proof.Machine.makeSlotRoom x1 x2) = some t) : t.fresh = x1.fresh := by unfold makeSlotRoom at h; (repeat' split at h) <;> first | exact (evict_frame_of h).2.2.1 | simp_all

theorem makeSlotRoom_out_of {x1 x2}{t} (h : (Sys2Proof.Machine.makeSlotRoom x1 x2) = some t) : t.out = x1.out := by unfold makeSlotRoom at h; (repeat' split at h) <;> first | exact (evict_frame_of h).2.2.2.1 | simp_all

theorem makeSlotRoom_snaps_of {x1 x2}{t} (h : (Sys2Proof.Machine.makeSlotRoom x1 x2) = some t) : t.snaps = x1.snaps := by unfold makeSlotRoom at h; (repeat' split at h) <;> first | exact (evict_frame_of h).2.2.2.2.1 | simp_all

theorem makeSlotRoom_id_of {x1 x2}{t} (h : (Sys2Proof.Machine.makeSlotRoom x1 x2) = some t) : t.id = x1.id := by unfold makeSlotRoom at h; (repeat' split at h) <;> first | exact (evict_frame_of h).2.2.2.2.2.1 | simp_all

theorem makeSlotRoom_psg_of {x1 x2}{t} (h : (Sys2Proof.Machine.makeSlotRoom x1 x2) = some t) : t.psg = x1.psg := by unfold makeSlotRoom at h; (repeat' split at h) <;> first | exact (evict_frame_of h).2.2.2.2.2.2.1 | simp_all

theorem makeSlotRoom_cham_of {x1 x2}{t} (h : (Sys2Proof.Machine.makeSlotRoom x1 x2) = some t) : t.cham = x1.cham := by unfold makeSlotRoom at h; (repeat' split at h) <;> first | exact (evict_frame_of h).2.2.2.2.2.2.2.1 | simp_all

theorem makeSlotRoom_mbx_of {x1 x2}{t} (h : (Sys2Proof.Machine.makeSlotRoom x1 x2) = some t) : t.mbx = x1.mbx := by unfold makeSlotRoom at h; (repeat' split at h) <;> first | exact (evict_frame_of h).2.2.2.2.2.2.2.2.1 | simp_all

theorem makeSlotRoom_str_of {x1 x2}{t} (h : (Sys2Proof.Machine.makeSlotRoom x1 x2) = some t) : t.str = x1.str := by unfold makeSlotRoom at h; (repeat' split at h) <;> first | exact (evict_frame_of h).2.2.2.2.2.2.2.2.2.1 | simp_all

theorem makeSlotRoom_lan_of {x1 x2}{t} (h : (Sys2Proof.Machine.makeSlotRoom x1 x2) = some t) : t.lan = x1.lan := by unfold makeSlotRoom at h; (repeat' split at h) <;> first | exact (evict_frame_of h).2.2.2.2.2.2.2.2.2.2.1 | simp_all

theorem makeSlotRoom_bb_of {x1 x2}{t} (h : (Sys2Proof.Machine.makeSlotRoom x1 x2) = some t) : t.bb = x1.bb := by unfold makeSlotRoom at h; (repeat' split at h) <;> first | exact (evict_frame_of h).2.2.2.2.2.2.2.2.2.2.2.1 | simp_all

theorem makeSlotRoom_tim_of {x1 x2}{t} (h : (Sys2Proof.Machine.makeSlotRoom x1 x2) = some t) : t.tim = x1.tim := by unfold makeSlotRoom at h; (repeat' split at h) <;> first | exact (evict_frame_of h).2.2.2.2.2.2.2.2.2.2.2.2.1 | simp_all

theorem makeSlotRoom_lcy_of {x1 x2}{t} (h : (Sys2Proof.Machine.makeSlotRoom x1 x2) = some t) : t.lcy = x1.lcy := by unfold makeSlotRoom at h; (repeat' split at h) <;> first | exact (evict_frame_of h).2.2.2.2.2.2.2.2.2.2.2.2.2.1 | simp_all

theorem makeSlotRoom_die_of {x1 x2}{t} (h : (Sys2Proof.Machine.makeSlotRoom x1 x2) = some t) : t.die = x1.die := by unfold makeSlotRoom at h; (repeat' split at h) <;> first | exact (evict_frame_of h).2.2.2.2.2.2.2.2.2.2.2.2.2.2.1 | simp_all

theorem makeSlotRoom_rng_of {x1 x2}{t} (h : (Sys2Proof.Machine.makeSlotRoom x1 x2) = some t) : t.rng = x1.rng := by unfold makeSlotRoom at h; (repeat' split at h) <;> first | exact (evict_frame_of h).2.2.2.2.2.2.2.2.2.2.2.2.2.2.2.1 | simp_all

theorem makeSlotRoom_pke_of {x1 x2}{t} (h : (Sys2Proof.Machine.makeSlotRoom x1 x2) = some t) : t.pke = x1.pke := by unfold makeSlotRoom at h; (repeat' split at h) <;> first | exact (evict_frame_of h).2.2.2.2.2.2.2.2.2.2.2.2.2.2.2.2.1 | simp_all

theorem makeSlotRoom_eng_of {x1 x2}{t} (h : (Sys2Proof.Machine.makeSlotRoom x1 x2) = some t) : t.eng = x1.eng := by unfold makeSlotRoom at h; (repeat' split at h) <;> first | exact (evict_frame_of h).2.2.2.2.2.2.2.2.2.2.2.2.2.2.2.2.2.1 | simp_all

theorem makeSlotRoom_host_of {x1 x2}{t} (h : (Sys2Proof.Machine.makeSlotRoom x1 x2) = some t) : t.host = x1.host := by unfold makeSlotRoom at h; (repeat' split at h) <;> first | exact (evict_frame_of h).2.2.2.2.2.2.2.2.2.2.2.2.2.2.2.2.2.2.1 | simp_all

theorem makeSlotRoom_geo_of {x1 x2}{t} (h : (Sys2Proof.Machine.makeSlotRoom x1 x2) = some t) : t.geo = x1.geo := by unfold makeSlotRoom at h; (repeat' split at h) <;> first | exact (evict_frame_of h).2.2.2.2.2.2.2.2.2.2.2.2.2.2.2.2.2.2.2.1 | simp_all

theorem makeSlotRoom_flash_of {x1 x2}{t} (h : (Sys2Proof.Machine.makeSlotRoom x1 x2) = some t) : t.flash = x1.flash := by unfold makeSlotRoom at h; (repeat' split at h) <;> first | exact (evict_frame_of h).2.2.2.2.2.2.2.2.2.2.2.2.2.2.2.2.2.2.2.2.1 | simp_all

theorem makeSlotRoom_wld_of {x1 x2}{t} (h : (Sys2Proof.Machine.makeSlotRoom x1 x2) = some t) : t.wld = x1.wld := by unfold makeSlotRoom at h; (repeat' split at h) <;> first | exact (evict_frame_of h).2.2.2.2.2.2.2.2.2.2.2.2.2.2.2.2.2.2.2.2.2.1 | simp_all

theorem makeSlotRoom_kar_of {x1 x2}{t} (h : (Sys2Proof.Machine.makeSlotRoom x1 x2) = some t) : t.kar = x1.kar := by unfold makeSlotRoom at h; (repeat' split at h) <;> first | exact (evict_frame_of h).2.2.2.2.2.2.2.2.2.2.2.2.2.2.2.2.2.2.2.2.2.2.1 | simp_all

theorem makeSlotRoom_ctl_of {x1 x2}{t} (h : (Sys2Proof.Machine.makeSlotRoom x1 x2) = some t) : t.ctl = x1.ctl := by unfold makeSlotRoom at h; (repeat' split at h) <;> first | exact (evict_frame_of h).2.2.2.2.2.2.2.2.2.2.2.2.2.2.2.2.2.2.2.2.2.2.2 | simp_all

theorem makeRoom_pending_of {x1 x2 x3}{x t} (h : (Sys2Proof.Machine.makeRoom x1 x2 x3) = some (t, x)) : t.pending = x1.pending := by
  unfold makeRoom at h; split at h
  · obtain ⟨v, hv, h⟩ := Option.map_eq_some_iff.mp h; cases h; exact makeLongRoom_pending_of hv
  · obtain ⟨v, hv, h⟩ := Option.bind_eq_some_iff.mp h
    obtain ⟨u, hu, hv⟩ := Option.bind_eq_some_iff.mp hv
    obtain ⟨_, _, h⟩ := Option.map_eq_some_iff.mp h
    cases h
    rw [makeLongRoom_pending_of hv, makeSlotRoom_pending_of hu]

theorem makeRoom_now_of {x1 x2 x3}{x t} (h : (Sys2Proof.Machine.makeRoom x1 x2 x3) = some (t, x)) : t.now = x1.now := by
  unfold makeRoom at h; split at h
  · obtain ⟨v, hv, h⟩ := Option.map_eq_some_iff.mp h; cases h; exact makeLongRoom_now_of hv
  · obtain ⟨v, hv, h⟩ := Option.bind_eq_some_iff.mp h
    obtain ⟨u, hu, hv⟩ := Option.bind_eq_some_iff.mp hv
    obtain ⟨_, _, h⟩ := Option.map_eq_some_iff.mp h
    cases h
    rw [makeLongRoom_now_of hv, makeSlotRoom_now_of hu]

theorem makeRoom_fresh_of {x1 x2 x3}{x t} (h : (Sys2Proof.Machine.makeRoom x1 x2 x3) = some (t, x)) : t.fresh = x1.fresh := by
  unfold makeRoom at h; split at h
  · obtain ⟨v, hv, h⟩ := Option.map_eq_some_iff.mp h; cases h; exact makeLongRoom_fresh_of hv
  · obtain ⟨v, hv, h⟩ := Option.bind_eq_some_iff.mp h
    obtain ⟨u, hu, hv⟩ := Option.bind_eq_some_iff.mp hv
    obtain ⟨_, _, h⟩ := Option.map_eq_some_iff.mp h
    cases h
    rw [makeLongRoom_fresh_of hv, makeSlotRoom_fresh_of hu]

theorem makeRoom_out_of {x1 x2 x3}{x t} (h : (Sys2Proof.Machine.makeRoom x1 x2 x3) = some (t, x)) : t.out = x1.out := by
  unfold makeRoom at h; split at h
  · obtain ⟨v, hv, h⟩ := Option.map_eq_some_iff.mp h; cases h; exact makeLongRoom_out_of hv
  · obtain ⟨v, hv, h⟩ := Option.bind_eq_some_iff.mp h
    obtain ⟨u, hu, hv⟩ := Option.bind_eq_some_iff.mp hv
    obtain ⟨_, _, h⟩ := Option.map_eq_some_iff.mp h
    cases h
    rw [makeLongRoom_out_of hv, makeSlotRoom_out_of hu]

theorem makeRoom_snaps_of {x1 x2 x3}{x t} (h : (Sys2Proof.Machine.makeRoom x1 x2 x3) = some (t, x)) : t.snaps = x1.snaps := by
  unfold makeRoom at h; split at h
  · obtain ⟨v, hv, h⟩ := Option.map_eq_some_iff.mp h; cases h; exact makeLongRoom_snaps_of hv
  · obtain ⟨v, hv, h⟩ := Option.bind_eq_some_iff.mp h
    obtain ⟨u, hu, hv⟩ := Option.bind_eq_some_iff.mp hv
    obtain ⟨_, _, h⟩ := Option.map_eq_some_iff.mp h
    cases h
    rw [makeLongRoom_snaps_of hv, makeSlotRoom_snaps_of hu]

theorem makeRoom_id_of {x1 x2 x3}{x t} (h : (Sys2Proof.Machine.makeRoom x1 x2 x3) = some (t, x)) : t.id = x1.id := by
  unfold makeRoom at h; split at h
  · obtain ⟨v, hv, h⟩ := Option.map_eq_some_iff.mp h; cases h; exact makeLongRoom_id_of hv
  · obtain ⟨v, hv, h⟩ := Option.bind_eq_some_iff.mp h
    obtain ⟨u, hu, hv⟩ := Option.bind_eq_some_iff.mp hv
    obtain ⟨_, _, h⟩ := Option.map_eq_some_iff.mp h
    cases h
    rw [makeLongRoom_id_of hv, makeSlotRoom_id_of hu]

theorem makeRoom_psg_of {x1 x2 x3}{x t} (h : (Sys2Proof.Machine.makeRoom x1 x2 x3) = some (t, x)) : t.psg = x1.psg := by
  unfold makeRoom at h; split at h
  · obtain ⟨v, hv, h⟩ := Option.map_eq_some_iff.mp h; cases h; exact makeLongRoom_psg_of hv
  · obtain ⟨v, hv, h⟩ := Option.bind_eq_some_iff.mp h
    obtain ⟨u, hu, hv⟩ := Option.bind_eq_some_iff.mp hv
    obtain ⟨_, _, h⟩ := Option.map_eq_some_iff.mp h
    cases h
    rw [makeLongRoom_psg_of hv, makeSlotRoom_psg_of hu]

theorem makeRoom_cham_of {x1 x2 x3}{x t} (h : (Sys2Proof.Machine.makeRoom x1 x2 x3) = some (t, x)) : t.cham = x1.cham := by
  unfold makeRoom at h; split at h
  · obtain ⟨v, hv, h⟩ := Option.map_eq_some_iff.mp h; cases h; exact makeLongRoom_cham_of hv
  · obtain ⟨v, hv, h⟩ := Option.bind_eq_some_iff.mp h
    obtain ⟨u, hu, hv⟩ := Option.bind_eq_some_iff.mp hv
    obtain ⟨_, _, h⟩ := Option.map_eq_some_iff.mp h
    cases h
    rw [makeLongRoom_cham_of hv, makeSlotRoom_cham_of hu]

theorem makeRoom_mbx_of {x1 x2 x3}{x t} (h : (Sys2Proof.Machine.makeRoom x1 x2 x3) = some (t, x)) : t.mbx = x1.mbx := by
  unfold makeRoom at h; split at h
  · obtain ⟨v, hv, h⟩ := Option.map_eq_some_iff.mp h; cases h; exact makeLongRoom_mbx_of hv
  · obtain ⟨v, hv, h⟩ := Option.bind_eq_some_iff.mp h
    obtain ⟨u, hu, hv⟩ := Option.bind_eq_some_iff.mp hv
    obtain ⟨_, _, h⟩ := Option.map_eq_some_iff.mp h
    cases h
    rw [makeLongRoom_mbx_of hv, makeSlotRoom_mbx_of hu]

theorem makeRoom_str_of {x1 x2 x3}{x t} (h : (Sys2Proof.Machine.makeRoom x1 x2 x3) = some (t, x)) : t.str = x1.str := by
  unfold makeRoom at h; split at h
  · obtain ⟨v, hv, h⟩ := Option.map_eq_some_iff.mp h; cases h; exact makeLongRoom_str_of hv
  · obtain ⟨v, hv, h⟩ := Option.bind_eq_some_iff.mp h
    obtain ⟨u, hu, hv⟩ := Option.bind_eq_some_iff.mp hv
    obtain ⟨_, _, h⟩ := Option.map_eq_some_iff.mp h
    cases h
    rw [makeLongRoom_str_of hv, makeSlotRoom_str_of hu]

theorem makeRoom_lan_of {x1 x2 x3}{x t} (h : (Sys2Proof.Machine.makeRoom x1 x2 x3) = some (t, x)) : t.lan = x1.lan := by
  unfold makeRoom at h; split at h
  · obtain ⟨v, hv, h⟩ := Option.map_eq_some_iff.mp h; cases h; exact makeLongRoom_lan_of hv
  · obtain ⟨v, hv, h⟩ := Option.bind_eq_some_iff.mp h
    obtain ⟨u, hu, hv⟩ := Option.bind_eq_some_iff.mp hv
    obtain ⟨_, _, h⟩ := Option.map_eq_some_iff.mp h
    cases h
    rw [makeLongRoom_lan_of hv, makeSlotRoom_lan_of hu]

theorem makeRoom_bb_of {x1 x2 x3}{x t} (h : (Sys2Proof.Machine.makeRoom x1 x2 x3) = some (t, x)) : t.bb = x1.bb := by
  unfold makeRoom at h; split at h
  · obtain ⟨v, hv, h⟩ := Option.map_eq_some_iff.mp h; cases h; exact makeLongRoom_bb_of hv
  · obtain ⟨v, hv, h⟩ := Option.bind_eq_some_iff.mp h
    obtain ⟨u, hu, hv⟩ := Option.bind_eq_some_iff.mp hv
    obtain ⟨_, _, h⟩ := Option.map_eq_some_iff.mp h
    cases h
    rw [makeLongRoom_bb_of hv, makeSlotRoom_bb_of hu]

theorem makeRoom_tim_of {x1 x2 x3}{x t} (h : (Sys2Proof.Machine.makeRoom x1 x2 x3) = some (t, x)) : t.tim = x1.tim := by
  unfold makeRoom at h; split at h
  · obtain ⟨v, hv, h⟩ := Option.map_eq_some_iff.mp h; cases h; exact makeLongRoom_tim_of hv
  · obtain ⟨v, hv, h⟩ := Option.bind_eq_some_iff.mp h
    obtain ⟨u, hu, hv⟩ := Option.bind_eq_some_iff.mp hv
    obtain ⟨_, _, h⟩ := Option.map_eq_some_iff.mp h
    cases h
    rw [makeLongRoom_tim_of hv, makeSlotRoom_tim_of hu]

theorem makeRoom_lcy_of {x1 x2 x3}{x t} (h : (Sys2Proof.Machine.makeRoom x1 x2 x3) = some (t, x)) : t.lcy = x1.lcy := by
  unfold makeRoom at h; split at h
  · obtain ⟨v, hv, h⟩ := Option.map_eq_some_iff.mp h; cases h; exact makeLongRoom_lcy_of hv
  · obtain ⟨v, hv, h⟩ := Option.bind_eq_some_iff.mp h
    obtain ⟨u, hu, hv⟩ := Option.bind_eq_some_iff.mp hv
    obtain ⟨_, _, h⟩ := Option.map_eq_some_iff.mp h
    cases h
    rw [makeLongRoom_lcy_of hv, makeSlotRoom_lcy_of hu]

theorem makeRoom_die_of {x1 x2 x3}{x t} (h : (Sys2Proof.Machine.makeRoom x1 x2 x3) = some (t, x)) : t.die = x1.die := by
  unfold makeRoom at h; split at h
  · obtain ⟨v, hv, h⟩ := Option.map_eq_some_iff.mp h; cases h; exact makeLongRoom_die_of hv
  · obtain ⟨v, hv, h⟩ := Option.bind_eq_some_iff.mp h
    obtain ⟨u, hu, hv⟩ := Option.bind_eq_some_iff.mp hv
    obtain ⟨_, _, h⟩ := Option.map_eq_some_iff.mp h
    cases h
    rw [makeLongRoom_die_of hv, makeSlotRoom_die_of hu]

theorem makeRoom_rng_of {x1 x2 x3}{x t} (h : (Sys2Proof.Machine.makeRoom x1 x2 x3) = some (t, x)) : t.rng = x1.rng := by
  unfold makeRoom at h; split at h
  · obtain ⟨v, hv, h⟩ := Option.map_eq_some_iff.mp h; cases h; exact makeLongRoom_rng_of hv
  · obtain ⟨v, hv, h⟩ := Option.bind_eq_some_iff.mp h
    obtain ⟨u, hu, hv⟩ := Option.bind_eq_some_iff.mp hv
    obtain ⟨_, _, h⟩ := Option.map_eq_some_iff.mp h
    cases h
    rw [makeLongRoom_rng_of hv, makeSlotRoom_rng_of hu]

theorem makeRoom_pke_of {x1 x2 x3}{x t} (h : (Sys2Proof.Machine.makeRoom x1 x2 x3) = some (t, x)) : t.pke = x1.pke := by
  unfold makeRoom at h; split at h
  · obtain ⟨v, hv, h⟩ := Option.map_eq_some_iff.mp h; cases h; exact makeLongRoom_pke_of hv
  · obtain ⟨v, hv, h⟩ := Option.bind_eq_some_iff.mp h
    obtain ⟨u, hu, hv⟩ := Option.bind_eq_some_iff.mp hv
    obtain ⟨_, _, h⟩ := Option.map_eq_some_iff.mp h
    cases h
    rw [makeLongRoom_pke_of hv, makeSlotRoom_pke_of hu]

theorem makeRoom_eng_of {x1 x2 x3}{x t} (h : (Sys2Proof.Machine.makeRoom x1 x2 x3) = some (t, x)) : t.eng = x1.eng := by
  unfold makeRoom at h; split at h
  · obtain ⟨v, hv, h⟩ := Option.map_eq_some_iff.mp h; cases h; exact makeLongRoom_eng_of hv
  · obtain ⟨v, hv, h⟩ := Option.bind_eq_some_iff.mp h
    obtain ⟨u, hu, hv⟩ := Option.bind_eq_some_iff.mp hv
    obtain ⟨_, _, h⟩ := Option.map_eq_some_iff.mp h
    cases h
    rw [makeLongRoom_eng_of hv, makeSlotRoom_eng_of hu]

theorem makeRoom_host_of {x1 x2 x3}{x t} (h : (Sys2Proof.Machine.makeRoom x1 x2 x3) = some (t, x)) : t.host = x1.host := by
  unfold makeRoom at h; split at h
  · obtain ⟨v, hv, h⟩ := Option.map_eq_some_iff.mp h; cases h; exact makeLongRoom_host_of hv
  · obtain ⟨v, hv, h⟩ := Option.bind_eq_some_iff.mp h
    obtain ⟨u, hu, hv⟩ := Option.bind_eq_some_iff.mp hv
    obtain ⟨_, _, h⟩ := Option.map_eq_some_iff.mp h
    cases h
    rw [makeLongRoom_host_of hv, makeSlotRoom_host_of hu]

theorem makeRoom_geo_of {x1 x2 x3}{x t} (h : (Sys2Proof.Machine.makeRoom x1 x2 x3) = some (t, x)) : t.geo = x1.geo := by
  unfold makeRoom at h; split at h
  · obtain ⟨v, hv, h⟩ := Option.map_eq_some_iff.mp h; cases h; exact makeLongRoom_geo_of hv
  · obtain ⟨v, hv, h⟩ := Option.bind_eq_some_iff.mp h
    obtain ⟨u, hu, hv⟩ := Option.bind_eq_some_iff.mp hv
    obtain ⟨_, _, h⟩ := Option.map_eq_some_iff.mp h
    cases h
    rw [makeLongRoom_geo_of hv, makeSlotRoom_geo_of hu]

theorem makeRoom_flash_of {x1 x2 x3}{x t} (h : (Sys2Proof.Machine.makeRoom x1 x2 x3) = some (t, x)) : t.flash = x1.flash := by
  unfold makeRoom at h; split at h
  · obtain ⟨v, hv, h⟩ := Option.map_eq_some_iff.mp h; cases h; exact makeLongRoom_flash_of hv
  · obtain ⟨v, hv, h⟩ := Option.bind_eq_some_iff.mp h
    obtain ⟨u, hu, hv⟩ := Option.bind_eq_some_iff.mp hv
    obtain ⟨_, _, h⟩ := Option.map_eq_some_iff.mp h
    cases h
    rw [makeLongRoom_flash_of hv, makeSlotRoom_flash_of hu]

theorem makeRoom_wld_of {x1 x2 x3}{x t} (h : (Sys2Proof.Machine.makeRoom x1 x2 x3) = some (t, x)) : t.wld = x1.wld := by
  unfold makeRoom at h; split at h
  · obtain ⟨v, hv, h⟩ := Option.map_eq_some_iff.mp h; cases h; exact makeLongRoom_wld_of hv
  · obtain ⟨v, hv, h⟩ := Option.bind_eq_some_iff.mp h
    obtain ⟨u, hu, hv⟩ := Option.bind_eq_some_iff.mp hv
    obtain ⟨_, _, h⟩ := Option.map_eq_some_iff.mp h
    cases h
    rw [makeLongRoom_wld_of hv, makeSlotRoom_wld_of hu]

theorem makeRoom_kar_of {x1 x2 x3}{x t} (h : (Sys2Proof.Machine.makeRoom x1 x2 x3) = some (t, x)) : t.kar = x1.kar := by
  unfold makeRoom at h; split at h
  · obtain ⟨v, hv, h⟩ := Option.map_eq_some_iff.mp h; cases h; exact makeLongRoom_kar_of hv
  · obtain ⟨v, hv, h⟩ := Option.bind_eq_some_iff.mp h
    obtain ⟨u, hu, hv⟩ := Option.bind_eq_some_iff.mp hv
    obtain ⟨_, _, h⟩ := Option.map_eq_some_iff.mp h
    cases h
    rw [makeLongRoom_kar_of hv, makeSlotRoom_kar_of hu]

theorem makeRoom_ctl_of {x1 x2 x3}{x t} (h : (Sys2Proof.Machine.makeRoom x1 x2 x3) = some (t, x)) : t.ctl = x1.ctl := by
  unfold makeRoom at h; split at h
  · obtain ⟨v, hv, h⟩ := Option.map_eq_some_iff.mp h; cases h; exact makeLongRoom_ctl_of hv
  · obtain ⟨v, hv, h⟩ := Option.bind_eq_some_iff.mp h
    obtain ⟨u, hu, hv⟩ := Option.bind_eq_some_iff.mp hv
    obtain ⟨_, _, h⟩ := Option.map_eq_some_iff.mp h
    cases h
    rw [makeLongRoom_ctl_of hv, makeSlotRoom_ctl_of hu]

@[simp ↓] theorem writeSlot_frame (x1 x2 x3 x4 x5) :
    (writeSlot x1 x2 x3 x4 x5).pending = x1.pending ∧ (writeSlot x1 x2 x3 x4 x5).now = x1.now ∧ (writeSlot x1 x2 x3 x4 x5).fresh = x1.fresh ∧ (writeSlot x1 x2 x3 x4 x5).out = x1.out ∧ (writeSlot x1 x2 x3 x4 x5).snaps = x1.snaps ∧ (writeSlot x1 x2 x3 x4 x5).id = x1.id ∧ (writeSlot x1 x2 x3 x4 x5).psg = x1.psg ∧ (writeSlot x1 x2 x3 x4 x5).cham = x1.cham ∧ (writeSlot x1 x2 x3 x4 x5).mbx = x1.mbx ∧ (writeSlot x1 x2 x3 x4 x5).str = x1.str ∧ (writeSlot x1 x2 x3 x4 x5).lan = x1.lan ∧ (writeSlot x1 x2 x3 x4 x5).bb = x1.bb ∧ (writeSlot x1 x2 x3 x4 x5).tim = x1.tim ∧ (writeSlot x1 x2 x3 x4 x5).lcy = x1.lcy ∧ (writeSlot x1 x2 x3 x4 x5).die = x1.die ∧ (writeSlot x1 x2 x3 x4 x5).rng = x1.rng ∧ (writeSlot x1 x2 x3 x4 x5).pke = x1.pke ∧ (writeSlot x1 x2 x3 x4 x5).eng = x1.eng ∧ (writeSlot x1 x2 x3 x4 x5).host = x1.host ∧ (writeSlot x1 x2 x3 x4 x5).geo = x1.geo ∧ (writeSlot x1 x2 x3 x4 x5).flash = x1.flash ∧ (writeSlot x1 x2 x3 x4 x5).wld = x1.wld ∧ (writeSlot x1 x2 x3 x4 x5).kar = x1.kar ∧ (writeSlot x1 x2 x3 x4 x5).ctl = x1.ctl := by unfold writeSlot; simp

@[simp ↓] theorem eraseSlot_frame (x1 x2) :
    (eraseSlot x1 x2).pending = x1.pending ∧ (eraseSlot x1 x2).now = x1.now ∧ (eraseSlot x1 x2).fresh = x1.fresh ∧ (eraseSlot x1 x2).out = x1.out ∧ (eraseSlot x1 x2).snaps = x1.snaps ∧ (eraseSlot x1 x2).id = x1.id ∧ (eraseSlot x1 x2).psg = x1.psg ∧ (eraseSlot x1 x2).cham = x1.cham ∧ (eraseSlot x1 x2).mbx = x1.mbx ∧ (eraseSlot x1 x2).str = x1.str ∧ (eraseSlot x1 x2).lan = x1.lan ∧ (eraseSlot x1 x2).bb = x1.bb ∧ (eraseSlot x1 x2).tim = x1.tim ∧ (eraseSlot x1 x2).lcy = x1.lcy ∧ (eraseSlot x1 x2).die = x1.die ∧ (eraseSlot x1 x2).rng = x1.rng ∧ (eraseSlot x1 x2).pke = x1.pke ∧ (eraseSlot x1 x2).eng = x1.eng ∧ (eraseSlot x1 x2).host = x1.host ∧ (eraseSlot x1 x2).geo = x1.geo ∧ (eraseSlot x1 x2).flash = x1.flash ∧ (eraseSlot x1 x2).wld = x1.wld ∧ (eraseSlot x1 x2).kar = x1.kar ∧ (eraseSlot x1 x2).ctl = x1.ctl := by unfold eraseSlot; simp

@[simp ↓] theorem enterAbsent_frame (x1 x2) :
    (enterAbsent x1 x2).pending = x1.pending ∧ (enterAbsent x1 x2).now = x1.now ∧ (enterAbsent x1 x2).fresh = x1.fresh ∧ (enterAbsent x1 x2).out = x1.out ∧ (enterAbsent x1 x2).snaps = x1.snaps ∧ (enterAbsent x1 x2).id = x1.id ∧ (enterAbsent x1 x2).psg = x1.psg ∧ (enterAbsent x1 x2).cham = x1.cham ∧ (enterAbsent x1 x2).mbx = x1.mbx ∧ (enterAbsent x1 x2).str = x1.str ∧ (enterAbsent x1 x2).lan = x1.lan ∧ (enterAbsent x1 x2).bb = x1.bb ∧ (enterAbsent x1 x2).tim = x1.tim ∧ (enterAbsent x1 x2).lcy = x1.lcy ∧ (enterAbsent x1 x2).die = x1.die ∧ (enterAbsent x1 x2).rng = x1.rng ∧ (enterAbsent x1 x2).pke = x1.pke ∧ (enterAbsent x1 x2).eng = x1.eng ∧ (enterAbsent x1 x2).host = x1.host ∧ (enterAbsent x1 x2).geo = x1.geo ∧ (enterAbsent x1 x2).flash = x1.flash ∧ (enterAbsent x1 x2).wld = x1.wld ∧ (enterAbsent x1 x2).kar = x1.kar ∧ (enterAbsent x1 x2).ctl = x1.ctl := by unfold enterAbsent; simp

@[simp ↓] theorem putDieKey_frame (x1 x2 x3) :
    (putDieKey x1 x2 x3).pending = x1.pending ∧ (putDieKey x1 x2 x3).now = x1.now ∧ (putDieKey x1 x2 x3).out = x1.out ∧ (putDieKey x1 x2 x3).snaps = x1.snaps ∧ (putDieKey x1 x2 x3).id = x1.id ∧ (putDieKey x1 x2 x3).psg = x1.psg ∧ (putDieKey x1 x2 x3).cham = x1.cham ∧ (putDieKey x1 x2 x3).kst = x1.kst ∧ (putDieKey x1 x2 x3).mbx = x1.mbx ∧ (putDieKey x1 x2 x3).str = x1.str ∧ (putDieKey x1 x2 x3).lan = x1.lan ∧ (putDieKey x1 x2 x3).bb = x1.bb ∧ (putDieKey x1 x2 x3).tim = x1.tim ∧ (putDieKey x1 x2 x3).lcy = x1.lcy ∧ (putDieKey x1 x2 x3).rng = x1.rng ∧ (putDieKey x1 x2 x3).pke = x1.pke ∧ (putDieKey x1 x2 x3).eng = x1.eng ∧ (putDieKey x1 x2 x3).host = x1.host ∧ (putDieKey x1 x2 x3).geo = x1.geo ∧ (putDieKey x1 x2 x3).flash = x1.flash ∧ (putDieKey x1 x2 x3).wld = x1.wld ∧ (putDieKey x1 x2 x3).kar = x1.kar ∧ (putDieKey x1 x2 x3).ctl = x1.ctl := by unfold putDieKey; simp

@[simp ↓] theorem putDieAttr_frame (x1 x2 x3) :
    (putDieAttr x1 x2 x3).pending = x1.pending ∧ (putDieAttr x1 x2 x3).now = x1.now ∧ (putDieAttr x1 x2 x3).fresh = x1.fresh ∧ (putDieAttr x1 x2 x3).out = x1.out ∧ (putDieAttr x1 x2 x3).snaps = x1.snaps ∧ (putDieAttr x1 x2 x3).id = x1.id ∧ (putDieAttr x1 x2 x3).psg = x1.psg ∧ (putDieAttr x1 x2 x3).cham = x1.cham ∧ (putDieAttr x1 x2 x3).kst = x1.kst ∧ (putDieAttr x1 x2 x3).mbx = x1.mbx ∧ (putDieAttr x1 x2 x3).str = x1.str ∧ (putDieAttr x1 x2 x3).lan = x1.lan ∧ (putDieAttr x1 x2 x3).bb = x1.bb ∧ (putDieAttr x1 x2 x3).tim = x1.tim ∧ (putDieAttr x1 x2 x3).lcy = x1.lcy ∧ (putDieAttr x1 x2 x3).rng = x1.rng ∧ (putDieAttr x1 x2 x3).pke = x1.pke ∧ (putDieAttr x1 x2 x3).eng = x1.eng ∧ (putDieAttr x1 x2 x3).host = x1.host ∧ (putDieAttr x1 x2 x3).geo = x1.geo ∧ (putDieAttr x1 x2 x3).flash = x1.flash ∧ (putDieAttr x1 x2 x3).wld = x1.wld ∧ (putDieAttr x1 x2 x3).kar = x1.kar ∧ (putDieAttr x1 x2 x3).ctl = x1.ctl := by unfold putDieAttr; (repeat' split) <;> simp

@[simp ↓] theorem putDomain0_frame (x1 x2) :
    (putDomain0 x1 x2).pending = x1.pending ∧ (putDomain0 x1 x2).now = x1.now ∧ (putDomain0 x1 x2).fresh = x1.fresh ∧ (putDomain0 x1 x2).out = x1.out ∧ (putDomain0 x1 x2).snaps = x1.snaps ∧ (putDomain0 x1 x2).id = x1.id ∧ (putDomain0 x1 x2).psg = x1.psg ∧ (putDomain0 x1 x2).cham = x1.cham ∧ (putDomain0 x1 x2).kst = x1.kst ∧ (putDomain0 x1 x2).mbx = x1.mbx ∧ (putDomain0 x1 x2).str = x1.str ∧ (putDomain0 x1 x2).lan = x1.lan ∧ (putDomain0 x1 x2).bb = x1.bb ∧ (putDomain0 x1 x2).tim = x1.tim ∧ (putDomain0 x1 x2).lcy = x1.lcy ∧ (putDomain0 x1 x2).rng = x1.rng ∧ (putDomain0 x1 x2).pke = x1.pke ∧ (putDomain0 x1 x2).eng = x1.eng ∧ (putDomain0 x1 x2).host = x1.host ∧ (putDomain0 x1 x2).geo = x1.geo ∧ (putDomain0 x1 x2).flash = x1.flash ∧ (putDomain0 x1 x2).wld = x1.wld ∧ (putDomain0 x1 x2).kar = x1.kar ∧ (putDomain0 x1 x2).ctl = x1.ctl := by unfold putDomain0; simp

@[simp ↓] theorem gather_frame (x1 x2) :
    (gather x1 x2).pending = x1.pending ∧ (gather x1 x2).now = x1.now ∧ (gather x1 x2).fresh = x1.fresh ∧ (gather x1 x2).out = x1.out ∧ (gather x1 x2).snaps = x1.snaps ∧ (gather x1 x2).id = x1.id ∧ (gather x1 x2).psg = x1.psg ∧ (gather x1 x2).cham = x1.cham ∧ (gather x1 x2).kst = x1.kst ∧ (gather x1 x2).mbx = x1.mbx ∧ (gather x1 x2).str = x1.str ∧ (gather x1 x2).lan = x1.lan ∧ (gather x1 x2).bb = x1.bb ∧ (gather x1 x2).tim = x1.tim ∧ (gather x1 x2).lcy = x1.lcy ∧ (gather x1 x2).die = x1.die ∧ (gather x1 x2).rng = x1.rng ∧ (gather x1 x2).pke = x1.pke ∧ (gather x1 x2).eng = x1.eng ∧ (gather x1 x2).host = x1.host ∧ (gather x1 x2).flash = x1.flash ∧ (gather x1 x2).wld = x1.wld ∧ (gather x1 x2).kar = x1.kar ∧ (gather x1 x2).ctl = x1.ctl := by unfold gather; simp

@[simp ↓] theorem answerBusy_frame (x1 x2 x3) :
    (answerBusy x1 x2 x3).pending = x1.pending ∧ (answerBusy x1 x2 x3).now = x1.now ∧ (answerBusy x1 x2 x3).fresh = x1.fresh ∧ (answerBusy x1 x2 x3).snaps = x1.snaps ∧ (answerBusy x1 x2 x3).id = x1.id ∧ (answerBusy x1 x2 x3).psg = x1.psg ∧ (answerBusy x1 x2 x3).cham = x1.cham ∧ (answerBusy x1 x2 x3).kst = x1.kst ∧ (answerBusy x1 x2 x3).str = x1.str ∧ (answerBusy x1 x2 x3).lan = x1.lan ∧ (answerBusy x1 x2 x3).bb = x1.bb ∧ (answerBusy x1 x2 x3).tim = x1.tim ∧ (answerBusy x1 x2 x3).lcy = x1.lcy ∧ (answerBusy x1 x2 x3).die = x1.die ∧ (answerBusy x1 x2 x3).rng = x1.rng ∧ (answerBusy x1 x2 x3).pke = x1.pke ∧ (answerBusy x1 x2 x3).eng = x1.eng ∧ (answerBusy x1 x2 x3).geo = x1.geo ∧ (answerBusy x1 x2 x3).flash = x1.flash ∧ (answerBusy x1 x2 x3).kar = x1.kar ∧ (answerBusy x1 x2 x3).ctl = x1.ctl := by unfold answerBusy; simp

@[simp ↓] theorem answerRoom_frame (x1 x2 x3) :
    (answerRoom x1 x2 x3).pending = x1.pending ∧ (answerRoom x1 x2 x3).now = x1.now ∧ (answerRoom x1 x2 x3).fresh = x1.fresh ∧ (answerRoom x1 x2 x3).snaps = x1.snaps ∧ (answerRoom x1 x2 x3).id = x1.id ∧ (answerRoom x1 x2 x3).psg = x1.psg ∧ (answerRoom x1 x2 x3).cham = x1.cham ∧ (answerRoom x1 x2 x3).kst = x1.kst ∧ (answerRoom x1 x2 x3).str = x1.str ∧ (answerRoom x1 x2 x3).lan = x1.lan ∧ (answerRoom x1 x2 x3).bb = x1.bb ∧ (answerRoom x1 x2 x3).tim = x1.tim ∧ (answerRoom x1 x2 x3).lcy = x1.lcy ∧ (answerRoom x1 x2 x3).die = x1.die ∧ (answerRoom x1 x2 x3).rng = x1.rng ∧ (answerRoom x1 x2 x3).pke = x1.pke ∧ (answerRoom x1 x2 x3).eng = x1.eng ∧ (answerRoom x1 x2 x3).geo = x1.geo ∧ (answerRoom x1 x2 x3).flash = x1.flash ∧ (answerRoom x1 x2 x3).kar = x1.kar ∧ (answerRoom x1 x2 x3).ctl = x1.ctl := by unfold answerRoom; simp

@[simp ↓] theorem noteKey_frame (x1 x2 x3 x4) :
    (noteKey x1 x2 x3 x4).pending = x1.pending ∧ (noteKey x1 x2 x3 x4).now = x1.now ∧ (noteKey x1 x2 x3 x4).fresh = x1.fresh ∧ (noteKey x1 x2 x3 x4).out = x1.out ∧ (noteKey x1 x2 x3 x4).snaps = x1.snaps ∧ (noteKey x1 x2 x3 x4).id = x1.id ∧ (noteKey x1 x2 x3 x4).psg = x1.psg ∧ (noteKey x1 x2 x3 x4).cham = x1.cham ∧ (noteKey x1 x2 x3 x4).kst = x1.kst ∧ (noteKey x1 x2 x3 x4).mbx = x1.mbx ∧ (noteKey x1 x2 x3 x4).str = x1.str ∧ (noteKey x1 x2 x3 x4).lan = x1.lan ∧ (noteKey x1 x2 x3 x4).bb = x1.bb ∧ (noteKey x1 x2 x3 x4).tim = x1.tim ∧ (noteKey x1 x2 x3 x4).lcy = x1.lcy ∧ (noteKey x1 x2 x3 x4).die = x1.die ∧ (noteKey x1 x2 x3 x4).rng = x1.rng ∧ (noteKey x1 x2 x3 x4).pke = x1.pke ∧ (noteKey x1 x2 x3 x4).eng = x1.eng ∧ (noteKey x1 x2 x3 x4).geo = x1.geo ∧ (noteKey x1 x2 x3 x4).flash = x1.flash ∧ (noteKey x1 x2 x3 x4).wld = x1.wld ∧ (noteKey x1 x2 x3 x4).kar = x1.kar ∧ (noteKey x1 x2 x3 x4).ctl = x1.ctl := by unfold noteKey; (repeat' split) <;> simp

@[simp ↓] theorem storeKey_frame (x1 x2 x3 x4 x5) :
    (storeKey x1 x2 x3 x4 x5).pending = x1.pending ∧ (storeKey x1 x2 x3 x4 x5).now = x1.now ∧ (storeKey x1 x2 x3 x4 x5).snaps = x1.snaps ∧ (storeKey x1 x2 x3 x4 x5).id = x1.id ∧ (storeKey x1 x2 x3 x4 x5).psg = x1.psg ∧ (storeKey x1 x2 x3 x4 x5).cham = x1.cham ∧ (storeKey x1 x2 x3 x4 x5).str = x1.str ∧ (storeKey x1 x2 x3 x4 x5).lan = x1.lan ∧ (storeKey x1 x2 x3 x4 x5).bb = x1.bb ∧ (storeKey x1 x2 x3 x4 x5).tim = x1.tim ∧ (storeKey x1 x2 x3 x4 x5).lcy = x1.lcy ∧ (storeKey x1 x2 x3 x4 x5).rng = x1.rng ∧ (storeKey x1 x2 x3 x4 x5).pke = x1.pke ∧ (storeKey x1 x2 x3 x4 x5).eng = x1.eng ∧ (storeKey x1 x2 x3 x4 x5).flash = x1.flash ∧ (storeKey x1 x2 x3 x4 x5).kar = x1.kar ∧ (storeKey x1 x2 x3 x4 x5).ctl = x1.ctl := by unfold storeKey; dsimp only; (repeat' split) <;> (try have := makeRoom_pending_of ‹_›) <;> (try have := makeRoom_now_of ‹_›) <;> (try have := makeRoom_snaps_of ‹_›) <;> (try have := makeRoom_id_of ‹_›) <;> (try have := makeRoom_psg_of ‹_›) <;> (try have := makeRoom_cham_of ‹_›) <;> (try have := makeRoom_str_of ‹_›) <;> (try have := makeRoom_lan_of ‹_›) <;> (try have := makeRoom_bb_of ‹_›) <;> (try have := makeRoom_tim_of ‹_›) <;> (try have := makeRoom_lcy_of ‹_›) <;> (try have := makeRoom_rng_of ‹_›) <;> (try have := makeRoom_pke_of ‹_›) <;> (try have := makeRoom_eng_of ‹_›) <;> (try have := makeRoom_flash_of ‹_›) <;> (try have := makeRoom_kar_of ‹_›) <;> (try have := makeRoom_ctl_of ‹_›) <;> simp [*]

@[simp ↓] theorem updSlotOf_frame (x1 x2 x3) :
    (updSlotOf x1 x2 x3).pending = x1.pending ∧ (updSlotOf x1 x2 x3).now = x1.now ∧ (updSlotOf x1 x2 x3).fresh = x1.fresh ∧ (updSlotOf x1 x2 x3).out = x1.out ∧ (updSlotOf x1 x2 x3).snaps = x1.snaps ∧ (updSlotOf x1 x2 x3).id = x1.id ∧ (updSlotOf x1 x2 x3).psg = x1.psg ∧ (updSlotOf x1 x2 x3).cham = x1.cham ∧ (updSlotOf x1 x2 x3).mbx = x1.mbx ∧ (updSlotOf x1 x2 x3).str = x1.str ∧ (updSlotOf x1 x2 x3).lan = x1.lan ∧ (updSlotOf x1 x2 x3).bb = x1.bb ∧ (updSlotOf x1 x2 x3).tim = x1.tim ∧ (updSlotOf x1 x2 x3).lcy = x1.lcy ∧ (updSlotOf x1 x2 x3).die = x1.die ∧ (updSlotOf x1 x2 x3).rng = x1.rng ∧ (updSlotOf x1 x2 x3).pke = x1.pke ∧ (updSlotOf x1 x2 x3).eng = x1.eng ∧ (updSlotOf x1 x2 x3).host = x1.host ∧ (updSlotOf x1 x2 x3).geo = x1.geo ∧ (updSlotOf x1 x2 x3).flash = x1.flash ∧ (updSlotOf x1 x2 x3).wld = x1.wld ∧ (updSlotOf x1 x2 x3).kar = x1.kar ∧ (updSlotOf x1 x2 x3).ctl = x1.ctl := by unfold updSlotOf; (repeat' split) <;> simp

@[simp ↓] theorem takeUse_frame (x1 x2) :
    (takeUse x1 x2).1.pending = x1.pending ∧ (takeUse x1 x2).1.now = x1.now ∧ (takeUse x1 x2).1.fresh = x1.fresh ∧ (takeUse x1 x2).1.out = x1.out ∧ (takeUse x1 x2).1.snaps = x1.snaps ∧ (takeUse x1 x2).1.id = x1.id ∧ (takeUse x1 x2).1.psg = x1.psg ∧ (takeUse x1 x2).1.cham = x1.cham ∧ (takeUse x1 x2).1.mbx = x1.mbx ∧ (takeUse x1 x2).1.str = x1.str ∧ (takeUse x1 x2).1.lan = x1.lan ∧ (takeUse x1 x2).1.bb = x1.bb ∧ (takeUse x1 x2).1.tim = x1.tim ∧ (takeUse x1 x2).1.lcy = x1.lcy ∧ (takeUse x1 x2).1.rng = x1.rng ∧ (takeUse x1 x2).1.pke = x1.pke ∧ (takeUse x1 x2).1.eng = x1.eng ∧ (takeUse x1 x2).1.host = x1.host ∧ (takeUse x1 x2).1.flash = x1.flash ∧ (takeUse x1 x2).1.wld = x1.wld ∧ (takeUse x1 x2).1.kar = x1.kar ∧ (takeUse x1 x2).1.ctl = x1.ctl := by unfold takeUse; (repeat' split) <;> simp

theorem takeUse_frame_of {x1 x2 x t} (h : takeUse x1 x2 = (t, x)) :
    t.pending = x1.pending ∧ t.now = x1.now ∧ t.fresh = x1.fresh ∧ t.out = x1.out ∧ t.snaps = x1.snaps ∧ t.id = x1.id ∧ t.psg = x1.psg ∧ t.cham = x1.cham ∧ t.mbx = x1.mbx ∧ t.str = x1.str ∧ t.lan = x1.lan ∧ t.bb = x1.bb ∧ t.tim = x1.tim ∧ t.lcy = x1.lcy ∧ t.rng = x1.rng ∧ t.pke = x1.pke ∧ t.eng = x1.eng ∧ t.host = x1.host ∧ t.flash = x1.flash ∧ t.wld = x1.wld ∧ t.kar = x1.kar ∧ t.ctl = x1.ctl := by
  have e := takeUse_frame x1 x2; rw [h] at e; exact e

@[simp ↓] theorem closeSessionsBy_frame (x1 x2) :
    (closeSessionsBy x1 x2).pending = x1.pending ∧ (closeSessionsBy x1 x2).now = x1.now ∧ (closeSessionsBy x1 x2).fresh = x1.fresh ∧ (closeSessionsBy x1 x2).out = x1.out ∧ (closeSessionsBy x1 x2).snaps = x1.snaps ∧ (closeSessionsBy x1 x2).id = x1.id ∧ (closeSessionsBy x1 x2).psg = x1.psg ∧ (closeSessionsBy x1 x2).cham = x1.cham ∧ (closeSessionsBy x1 x2).str = x1.str ∧ (closeSessionsBy x1 x2).lan = x1.lan ∧ (closeSessionsBy x1 x2).bb = x1.bb ∧ (closeSessionsBy x1 x2).tim = x1.tim ∧ (closeSessionsBy x1 x2).lcy = x1.lcy ∧ (closeSessionsBy x1 x2).die = x1.die ∧ (closeSessionsBy x1 x2).rng = x1.rng ∧ (closeSessionsBy x1 x2).pke = x1.pke ∧ (closeSessionsBy x1 x2).eng = x1.eng ∧ (closeSessionsBy x1 x2).host = x1.host ∧ (closeSessionsBy x1 x2).geo = x1.geo ∧ (closeSessionsBy x1 x2).flash = x1.flash ∧ (closeSessionsBy x1 x2).wld = x1.wld ∧ (closeSessionsBy x1 x2).kar = x1.kar ∧ (closeSessionsBy x1 x2).ctl = x1.ctl := by unfold closeSessionsBy; simp

@[simp ↓] theorem closeSessions_frame (x1 x2) :
    (closeSessions x1 x2).pending = x1.pending ∧ (closeSessions x1 x2).now = x1.now ∧ (closeSessions x1 x2).fresh = x1.fresh ∧ (closeSessions x1 x2).out = x1.out ∧ (closeSessions x1 x2).snaps = x1.snaps ∧ (closeSessions x1 x2).id = x1.id ∧ (closeSessions x1 x2).psg = x1.psg ∧ (closeSessions x1 x2).cham = x1.cham ∧ (closeSessions x1 x2).str = x1.str ∧ (closeSessions x1 x2).lan = x1.lan ∧ (closeSessions x1 x2).bb = x1.bb ∧ (closeSessions x1 x2).tim = x1.tim ∧ (closeSessions x1 x2).lcy = x1.lcy ∧ (closeSessions x1 x2).die = x1.die ∧ (closeSessions x1 x2).rng = x1.rng ∧ (closeSessions x1 x2).pke = x1.pke ∧ (closeSessions x1 x2).eng = x1.eng ∧ (closeSessions x1 x2).host = x1.host ∧ (closeSessions x1 x2).geo = x1.geo ∧ (closeSessions x1 x2).flash = x1.flash ∧ (closeSessions x1 x2).wld = x1.wld ∧ (closeSessions x1 x2).kar = x1.kar ∧ (closeSessions x1 x2).ctl = x1.ctl := by unfold closeSessions; simp

@[simp ↓] theorem reassign_frame (x1 x2) :
    (reassign x1 x2).pending = x1.pending ∧ (reassign x1 x2).now = x1.now ∧ (reassign x1 x2).fresh = x1.fresh ∧ (reassign x1 x2).snaps = x1.snaps ∧ (reassign x1 x2).id = x1.id ∧ (reassign x1 x2).psg = x1.psg ∧ (reassign x1 x2).cham = x1.cham ∧ (reassign x1 x2).kst = x1.kst ∧ (reassign x1 x2).mbx = x1.mbx ∧ (reassign x1 x2).str = x1.str ∧ (reassign x1 x2).lan = x1.lan ∧ (reassign x1 x2).bb = x1.bb ∧ (reassign x1 x2).tim = x1.tim ∧ (reassign x1 x2).lcy = x1.lcy ∧ (reassign x1 x2).die = x1.die ∧ (reassign x1 x2).rng = x1.rng ∧ (reassign x1 x2).pke = x1.pke ∧ (reassign x1 x2).eng = x1.eng ∧ (reassign x1 x2).geo = x1.geo ∧ (reassign x1 x2).flash = x1.flash ∧ (reassign x1 x2).wld = x1.wld ∧ (reassign x1 x2).kar = x1.kar ∧ (reassign x1 x2).ctl = x1.ctl := by unfold reassign; simp

@[simp ↓] theorem afterEdit_frame (x1 x2 x3) :
    (afterEdit x1 x2 x3).pending = x1.pending ∧ (afterEdit x1 x2 x3).now = x1.now ∧ (afterEdit x1 x2 x3).fresh = x1.fresh ∧ (afterEdit x1 x2 x3).snaps = x1.snaps ∧ (afterEdit x1 x2 x3).id = x1.id ∧ (afterEdit x1 x2 x3).psg = x1.psg ∧ (afterEdit x1 x2 x3).cham = x1.cham ∧ (afterEdit x1 x2 x3).str = x1.str ∧ (afterEdit x1 x2 x3).lan = x1.lan ∧ (afterEdit x1 x2 x3).bb = x1.bb ∧ (afterEdit x1 x2 x3).tim = x1.tim ∧ (afterEdit x1 x2 x3).lcy = x1.lcy ∧ (afterEdit x1 x2 x3).die = x1.die ∧ (afterEdit x1 x2 x3).rng = x1.rng ∧ (afterEdit x1 x2 x3).pke = x1.pke ∧ (afterEdit x1 x2 x3).eng = x1.eng ∧ (afterEdit x1 x2 x3).geo = x1.geo ∧ (afterEdit x1 x2 x3).flash = x1.flash ∧ (afterEdit x1 x2 x3).wld = x1.wld ∧ (afterEdit x1 x2 x3).kar = x1.kar ∧ (afterEdit x1 x2 x3).ctl = x1.ctl := by unfold afterEdit; (repeat' split) <;> simp

@[simp ↓] theorem editDomain_frame (x1 x2 x3 x4 x5) :
    (editDomain x1 x2 x3 x4 x5).pending = x1.pending ∧ (editDomain x1 x2 x3 x4 x5).now = x1.now ∧ (editDomain x1 x2 x3 x4 x5).fresh = x1.fresh ∧ (editDomain x1 x2 x3 x4 x5).snaps = x1.snaps ∧ (editDomain x1 x2 x3 x4 x5).id = x1.id ∧ (editDomain x1 x2 x3 x4 x5).psg = x1.psg ∧ (editDomain x1 x2 x3 x4 x5).cham = x1.cham ∧ (editDomain x1 x2 x3 x4 x5).str = x1.str ∧ (editDomain x1 x2 x3 x4 x5).lan = x1.lan ∧ (editDomain x1 x2 x3 x4 x5).bb = x1.bb ∧ (editDomain x1 x2 x3 x4 x5).tim = x1.tim ∧ (editDomain x1 x2 x3 x4 x5).lcy = x1.lcy ∧ (editDomain x1 x2 x3 x4 x5).rng = x1.rng ∧ (editDomain x1 x2 x3 x4 x5).pke = x1.pke ∧ (editDomain x1 x2 x3 x4 x5).eng = x1.eng ∧ (editDomain x1 x2 x3 x4 x5).flash = x1.flash ∧ (editDomain x1 x2 x3 x4 x5).kar = x1.kar ∧ (editDomain x1 x2 x3 x4 x5).ctl = x1.ctl := by unfold editDomain; (repeat' split) <;> simp

end Sys2Proof.Machine
end

