-- ==== Sys2Proof/Laws/Frames/Jobs.lean ====
section
/-!
SUPPORT. What the operations of Machine/Jobs.lean leave unchanged: for each, every part of the state that it does not touch.
-/

set_option Elab.async false

set_option linter.all false
set_option maxRecDepth 2000

namespace Sys2Proof.Machine

@[simp ↓] theorem refuseBelow_frame (x1 x2 x3 x4 x5) :
    (refuseBelow x1 x2 x3 x4 x5).pending = x1.pending ∧ (refuseBelow x1 x2 x3 x4 x5).now = x1.now ∧ (refuseBelow x1 x2 x3 x4 x5).fresh = x1.fresh ∧ (refuseBelow x1 x2 x3 x4 x5).out = x1.out ∧ (refuseBelow x1 x2 x3 x4 x5).snaps = x1.snaps ∧ (refuseBelow x1 x2 x3 x4 x5).id = x1.id ∧ (refuseBelow x1 x2 x3 x4 x5).psg = x1.psg ∧ (refuseBelow x1 x2 x3 x4 x5).cham = x1.cham ∧ (refuseBelow x1 x2 x3 x4 x5).kst = x1.kst ∧ (refuseBelow x1 x2 x3 x4 x5).mbx = x1.mbx ∧ (refuseBelow x1 x2 x3 x4 x5).lan = x1.lan ∧ (refuseBelow x1 x2 x3 x4 x5).bb = x1.bb ∧ (refuseBelow x1 x2 x3 x4 x5).tim = x1.tim ∧ (refuseBelow x1 x2 x3 x4 x5).lcy = x1.lcy ∧ (refuseBelow x1 x2 x3 x4 x5).die = x1.die ∧ (refuseBelow x1 x2 x3 x4 x5).rng = x1.rng ∧ (refuseBelow x1 x2 x3 x4 x5).pke = x1.pke ∧ (refuseBelow x1 x2 x3 x4 x5).eng = x1.eng ∧ (refuseBelow x1 x2 x3 x4 x5).host = x1.host ∧ (refuseBelow x1 x2 x3 x4 x5).geo = x1.geo ∧ (refuseBelow x1 x2 x3 x4 x5).flash = x1.flash ∧ (refuseBelow x1 x2 x3 x4 x5).kar = x1.kar ∧ (refuseBelow x1 x2 x3 x4 x5).ctl = x1.ctl := by unfold refuseBelow; simp

@[simp ↓] theorem jobRead_frame (x1 x2 x3 x4 x5) :
    (jobRead x1 x2 x3 x4 x5).1.pending = x1.pending ∧ (jobRead x1 x2 x3 x4 x5).1.now = x1.now ∧ (jobRead x1 x2 x3 x4 x5).1.fresh = x1.fresh ∧ (jobRead x1 x2 x3 x4 x5).1.out = x1.out ∧ (jobRead x1 x2 x3 x4 x5).1.snaps = x1.snaps ∧ (jobRead x1 x2 x3 x4 x5).1.id = x1.id ∧ (jobRead x1 x2 x3 x4 x5).1.psg = x1.psg ∧ (jobRead x1 x2 x3 x4 x5).1.cham = x1.cham ∧ (jobRead x1 x2 x3 x4 x5).1.kst = x1.kst ∧ (jobRead x1 x2 x3 x4 x5).1.mbx = x1.mbx ∧ (jobRead x1 x2 x3 x4 x5).1.lan = x1.lan ∧ (jobRead x1 x2 x3 x4 x5).1.bb = x1.bb ∧ (jobRead x1 x2 x3 x4 x5).1.tim = x1.tim ∧ (jobRead x1 x2 x3 x4 x5).1.lcy = x1.lcy ∧ (jobRead x1 x2 x3 x4 x5).1.die = x1.die ∧ (jobRead x1 x2 x3 x4 x5).1.rng = x1.rng ∧ (jobRead x1 x2 x3 x4 x5).1.pke = x1.pke ∧ (jobRead x1 x2 x3 x4 x5).1.eng = x1.eng ∧ (jobRead x1 x2 x3 x4 x5).1.host = x1.host ∧ (jobRead x1 x2 x3 x4 x5).1.geo = x1.geo ∧ (jobRead x1 x2 x3 x4 x5).1.flash = x1.flash ∧ (jobRead x1 x2 x3 x4 x5).1.kar = x1.kar ∧ (jobRead x1 x2 x3 x4 x5).1.ctl = x1.ctl := by unfold jobRead; dsimp only; (repeat' split) <;> (try have := ctlRead_frame_of ‹_›) <;> simp [*]

theorem jobRead_frame_of {x1 x2 x3 x4 x5 x t} (h : jobRead x1 x2 x3 x4 x5 = (t, x)) :
    t.pending = x1.pending ∧ t.now = x1.now ∧ t.fresh = x1.fresh ∧ t.out = x1.out ∧ t.snaps = x1.snaps ∧ t.id = x1.id ∧ t.psg = x1.psg ∧ t.cham = x1.cham ∧ t.kst = x1.kst ∧ t.mbx = x1.mbx ∧ t.lan = x1.lan ∧ t.bb = x1.bb ∧ t.tim = x1.tim ∧ t.lcy = x1.lcy ∧ t.die = x1.die ∧ t.rng = x1.rng ∧ t.pke = x1.pke ∧ t.eng = x1.eng ∧ t.host = x1.host ∧ t.geo = x1.geo ∧ t.flash = x1.flash ∧ t.kar = x1.kar ∧ t.ctl = x1.ctl := by
  have e := jobRead_frame x1 x2 x3 x4 x5; rw [h] at e; exact e

@[simp ↓] theorem jobWrite_frame (x1 x2 x3 x4) :
    (jobWrite x1 x2 x3 x4).pending = x1.pending ∧ (jobWrite x1 x2 x3 x4).now = x1.now ∧ (jobWrite x1 x2 x3 x4).fresh = x1.fresh ∧ (jobWrite x1 x2 x3 x4).out = x1.out ∧ (jobWrite x1 x2 x3 x4).snaps = x1.snaps ∧ (jobWrite x1 x2 x3 x4).id = x1.id ∧ (jobWrite x1 x2 x3 x4).psg = x1.psg ∧ (jobWrite x1 x2 x3 x4).cham = x1.cham ∧ (jobWrite x1 x2 x3 x4).kst = x1.kst ∧ (jobWrite x1 x2 x3 x4).mbx = x1.mbx ∧ (jobWrite x1 x2 x3 x4).lan = x1.lan ∧ (jobWrite x1 x2 x3 x4).bb = x1.bb ∧ (jobWrite x1 x2 x3 x4).tim = x1.tim ∧ (jobWrite x1 x2 x3 x4).lcy = x1.lcy ∧ (jobWrite x1 x2 x3 x4).die = x1.die ∧ (jobWrite x1 x2 x3 x4).rng = x1.rng ∧ (jobWrite x1 x2 x3 x4).pke = x1.pke ∧ (jobWrite x1 x2 x3 x4).eng = x1.eng ∧ (jobWrite x1 x2 x3 x4).host = x1.host ∧ (jobWrite x1 x2 x3 x4).geo = x1.geo ∧ (jobWrite x1 x2 x3 x4).flash = x1.flash ∧ (jobWrite x1 x2 x3 x4).kar = x1.kar := by unfold jobWrite; simp

@[simp ↓] theorem readOperands_pending (x1 x2 x3 x4) : (readOperands x1 x2 x3 x4).1.pending = x1.pending := by
  induction x3 generalizing x1 x4 with
  | nil => simp [readOperands]
  | cons d t ih => simp [readOperands, ih] <;> (try (split <;> simp))

theorem readOperands_pending_of {x1 x2 x3 x4 x t} (h : readOperands x1 x2 x3 x4 = (t, x)) : t.pending = x1.pending := by
  have e := readOperands_pending x1 x2 x3 x4; rw [h] at e; exact e

@[simp ↓] theorem readOperands_now (x1 x2 x3 x4) : (readOperands x1 x2 x3 x4).1.now = x1.now := by
  induction x3 generalizing x1 x4 with
  | nil => simp [readOperands]
  | cons d t ih => simp [readOperands, ih] <;> (try (split <;> simp))

theorem readOperands_now_of {x1 x2 x3 x4 x t} (h : readOperands x1 x2 x3 x4 = (t, x)) : t.now = x1.now := by
  have e := readOperands_now x1 x2 x3 x4; rw [h] at e; exact e

@[simp ↓] theorem readOperands_fresh (x1 x2 x3 x4) : (readOperands x1 x2 x3 x4).1.fresh = x1.fresh := by
  induction x3 generalizing x1 x4 with
  | nil => simp [readOperands]
  | cons d t ih => simp [readOperands, ih] <;> (try (split <;> simp))

theorem readOperands_fresh_of {x1 x2 x3 x4 x t} (h : readOperands x1 x2 x3 x4 = (t, x)) : t.fresh = x1.fresh := by
  have e := readOperands_fresh x1 x2 x3 x4; rw [h] at e; exact e

@[simp ↓] theorem readOperands_out (x1 x2 x3 x4) : (readOperands x1 x2 x3 x4).1.out = x1.out := by
  induction x3 generalizing x1 x4 with
  | nil => simp [readOperands]
  | cons d t ih => simp [readOperands, ih] <;> (try (split <;> simp))

theorem readOperands_out_of {x1 x2 x3 x4 x t} (h : readOperands x1 x2 x3 x4 = (t, x)) : t.out = x1.out := by
  have e := readOperands_out x1 x2 x3 x4; rw [h] at e; exact e

@[simp ↓] theorem readOperands_snaps (x1 x2 x3 x4) : (readOperands x1 x2 x3 x4).1.snaps = x1.snaps := by
  induction x3 generalizing x1 x4 with
  | nil => simp [readOperands]
  | cons d t ih => simp [readOperands, ih] <;> (try (split <;> simp))

theorem readOperands_snaps_of {x1 x2 x3 x4 x t} (h : readOperands x1 x2 x3 x4 = (t, x)) : t.snaps = x1.snaps := by
  have e := readOperands_snaps x1 x2 x3 x4; rw [h] at e; exact e

@[simp ↓] theorem readOperands_id (x1 x2 x3 x4) : (readOperands x1 x2 x3 x4).1.id = x1.id := by
  induction x3 generalizing x1 x4 with
  | nil => simp [readOperands]
  | cons d t ih => simp [readOperands, ih] <;> (try (split <;> simp))

theorem readOperands_id_of {x1 x2 x3 x4 x t} (h : readOperands x1 x2 x3 x4 = (t, x)) : t.id = x1.id := by
  have e := readOperands_id x1 x2 x3 x4; rw [h] at e; exact e

@[simp ↓] theorem readOperands_psg (x1 x2 x3 x4) : (readOperands x1 x2 x3 x4).1.psg = x1.psg := by
  induction x3 generalizing x1 x4 with
  | nil => simp [readOperands]
  | cons d t ih => simp [readOperands, ih] <;> (try (split <;> simp))

theorem readOperands_psg_of {x1 x2 x3 x4 x t} (h : readOperands x1 x2 x3 x4 = (t, x)) : t.psg = x1.psg := by
  have e := readOperands_psg x1 x2 x3 x4; rw [h] at e; exact e

@[simp ↓] theorem readOperands_cham (x1 x2 x3 x4) : (readOperands x1 x2 x3 x4).1.cham = x1.cham := by
  induction x3 generalizing x1 x4 with
  | nil => simp [readOperands]
  | cons d t ih => simp [readOperands, ih] <;> (try (split <;> simp))

theorem readOperands_cham_of {x1 x2 x3 x4 x t} (h : readOperands x1 x2 x3 x4 = (t, x)) : t.cham = x1.cham := by
  have e := readOperands_cham x1 x2 x3 x4; rw [h] at e; exact e

@[simp ↓] theorem readOperands_kst (x1 x2 x3 x4) : (readOperands x1 x2 x3 x4).1.kst = x1.kst := by
  induction x3 generalizing x1 x4 with
  | nil => simp [readOperands]
  | cons d t ih => simp [readOperands, ih] <;> (try (split <;> simp))

theorem readOperands_kst_of {x1 x2 x3 x4 x t} (h : readOperands x1 x2 x3 x4 = (t, x)) : t.kst = x1.kst := by
  have e := readOperands_kst x1 x2 x3 x4; rw [h] at e; exact e

@[simp ↓] theorem readOperands_mbx (x1 x2 x3 x4) : (readOperands x1 x2 x3 x4).1.mbx = x1.mbx := by
  induction x3 generalizing x1 x4 with
  | nil => simp [readOperands]
  | cons d t ih => simp [readOperands, ih] <;> (try (split <;> simp))

theorem readOperands_mbx_of {x1 x2 x3 x4 x t} (h : readOperands x1 x2 x3 x4 = (t, x)) : t.mbx = x1.mbx := by
  have e := readOperands_mbx x1 x2 x3 x4; rw [h] at e; exact e

@[simp ↓] theorem readOperands_lan (x1 x2 x3 x4) : (readOperands x1 x2 x3 x4).1.lan = x1.lan := by
  induction x3 generalizing x1 x4 with
  | nil => simp [readOperands]
  | cons d t ih => simp [readOperands, ih] <;> (try (split <;> simp))

theorem readOperands_lan_of {x1 x2 x3 x4 x t} (h : readOperands x1 x2 x3 x4 = (t, x)) : t.lan = x1.lan := by
  have e := readOperands_lan x1 x2 x3 x4; rw [h] at e; exact e

@[simp ↓] theorem readOperands_bb (x1 x2 x3 x4) : (readOperands x1 x2 x3 x4).1.bb = x1.bb := by
  induction x3 generalizing x1 x4 with
  | nil => simp [readOperands]
  | cons d t ih => simp [readOperands, ih] <;> (try (split <;> simp))

theorem readOperands_bb_of {x1 x2 x3 x4 x t} (h : readOperands x1 x2 x3 x4 = (t, x)) : t.bb = x1.bb := by
  have e := readOperands_bb x1 x2 x3 x4; rw [h] at e; exact e

@[simp ↓] theorem readOperands_tim (x1 x2 x3 x4) : (readOperands x1 x2 x3 x4).1.tim = x1.tim := by
  induction x3 generalizing x1 x4 with
  | nil => simp [readOperands]
  | cons d t ih => simp [readOperands, ih] <;> (try (split <;> simp))

theorem readOperands_tim_of {x1 x2 x3 x4 x t} (h : readOperands x1 x2 x3 x4 = (t, x)) : t.tim = x1.tim := by
  have e := readOperands_tim x1 x2 x3 x4; rw [h] at e; exact e

@[simp ↓] theorem readOperands_lcy (x1 x2 x3 x4) : (readOperands x1 x2 x3 x4).1.lcy = x1.lcy := by
  induction x3 generalizing x1 x4 with
  | nil => simp [readOperands]
  | cons d t ih => simp [readOperands, ih] <;> (try (split <;> simp))

theorem readOperands_lcy_of {x1 x2 x3 x4 x t} (h : readOperands x1 x2 x3 x4 = (t, x)) : t.lcy = x1.lcy := by
  have e := readOperands_lcy x1 x2 x3 x4; rw [h] at e; exact e

@[simp ↓] theorem readOperands_die (x1 x2 x3 x4) : (readOperands x1 x2 x3 x4).1.die = x1.die := by
  induction x3 generalizing x1 x4 with
  | nil => simp [readOperands]
  | cons d t ih => simp [readOperands, ih] <;> (try (split <;> simp))

theorem readOperands_die_of {x1 x2 x3 x4 x t} (h : readOperands x1 x2 x3 x4 = (t, x)) : t.die = x1.die := by
  have e := readOperands_die x1 x2 x3 x4; rw [h] at e; exact e

@[simp ↓] theorem readOperands_rng (x1 x2 x3 x4) : (readOperands x1 x2 x3 x4).1.rng = x1.rng := by
  induction x3 generalizing x1 x4 with
  | nil => simp [readOperands]
  | cons d t ih => simp [readOperands, ih] <;> (try (split <;> simp))

theorem readOperands_rng_of {x1 x2 x3 x4 x t} (h : readOperands x1 x2 x3 x4 = (t, x)) : t.rng = x1.rng := by
  have e := readOperands_rng x1 x2 x3 x4; rw [h] at e; exact e

@[simp ↓] theorem readOperands_pke (x1 x2 x3 x4) : (readOperands x1 x2 x3 x4).1.pke = x1.pke := by
  induction x3 generalizing x1 x4 with
  | nil => simp [readOperands]
  | cons d t ih => simp [readOperands, ih] <;> (try (split <;> simp))

theorem readOperands_pke_of {x1 x2 x3 x4 x t} (h : readOperands x1 x2 x3 x4 = (t, x)) : t.pke = x1.pke := by
  have e := readOperands_pke x1 x2 x3 x4; rw [h] at e; exact e

@[simp ↓] theorem readOperands_eng (x1 x2 x3 x4) : (readOperands x1 x2 x3 x4).1.eng = x1.eng := by
  induction x3 generalizing x1 x4 with
  | nil => simp [readOperands]
  | cons d t ih => simp [readOperands, ih] <;> (try (split <;> simp))

theorem readOperands_eng_of {x1 x2 x3 x4 x t} (h : readOperands x1 x2 x3 x4 = (t, x)) : t.eng = x1.eng := by
  have e := readOperands_eng x1 x2 x3 x4; rw [h] at e; exact e

@[simp ↓] theorem readOperands_host (x1 x2 x3 x4) : (readOperands x1 x2 x3 x4).1.host = x1.host := by
  induction x3 generalizing x1 x4 with
  | nil => simp [readOperands]
  | cons d t ih => simp [readOperands, ih] <;> (try (split <;> simp))

theorem readOperands_host_of {x1 x2 x3 x4 x t} (h : readOperands x1 x2 x3 x4 = (t, x)) : t.host = x1.host := by
  have e := readOperands_host x1 x2 x3 x4; rw [h] at e; exact e

@[simp ↓] theorem readOperands_geo (x1 x2 x3 x4) : (readOperands x1 x2 x3 x4).1.geo = x1.geo := by
  induction x3 generalizing x1 x4 with
  | nil => simp [readOperands]
  | cons d t ih => simp [readOperands, ih] <;> (try (split <;> simp))

theorem readOperands_geo_of {x1 x2 x3 x4 x t} (h : readOperands x1 x2 x3 x4 = (t, x)) : t.geo = x1.geo := by
  have e := readOperands_geo x1 x2 x3 x4; rw [h] at e; exact e

@[simp ↓] theorem readOperands_flash (x1 x2 x3 x4) : (readOperands x1 x2 x3 x4).1.flash = x1.flash := by
  induction x3 generalizing x1 x4 with
  | nil => simp [readOperands]
  | cons d t ih => simp [readOperands, ih] <;> (try (split <;> simp))

theorem readOperands_flash_of {x1 x2 x3 x4 x t} (h : readOperands x1 x2 x3 x4 = (t, x)) : t.flash = x1.flash := by
  have e := readOperands_flash x1 x2 x3 x4; rw [h] at e; exact e

@[simp ↓] theorem readOperands_kar (x1 x2 x3 x4) : (readOperands x1 x2 x3 x4).1.kar = x1.kar := by
  induction x3 generalizing x1 x4 with
  | nil => simp [readOperands]
  | cons d t ih => simp [readOperands, ih] <;> (try (split <;> simp))

theorem readOperands_kar_of {x1 x2 x3 x4 x t} (h : readOperands x1 x2 x3 x4 = (t, x)) : t.kar = x1.kar := by
  have e := readOperands_kar x1 x2 x3 x4; rw [h] at e; exact e

@[simp ↓] theorem readOperands_ctl (x1 x2 x3 x4) : (readOperands x1 x2 x3 x4).1.ctl = x1.ctl := by
  induction x3 generalizing x1 x4 with
  | nil => simp [readOperands]
  | cons d t ih => simp [readOperands, ih] <;> (try (split <;> simp))

theorem readOperands_ctl_of {x1 x2 x3 x4 x t} (h : readOperands x1 x2 x3 x4 = (t, x)) : t.ctl = x1.ctl := by
  have e := readOperands_ctl x1 x2 x3 x4; rw [h] at e; exact e

@[simp ↓] theorem readFrags_pending (x1 x2 x3 x4) : (readFrags x1 x2 x3 x4).1.pending = x1.pending := by
  induction x3 generalizing x1 x4 with
  | nil => simp [readFrags]
  | cons d t ih => simp [readFrags, ih] <;> (try (split <;> simp))

theorem readFrags_pending_of {x1 x2 x3 x4 x t} (h : readFrags x1 x2 x3 x4 = (t, x)) : t.pending = x1.pending := by
  have e := readFrags_pending x1 x2 x3 x4; rw [h] at e; exact e

@[simp ↓] theorem readFrags_now (x1 x2 x3 x4) : (readFrags x1 x2 x3 x4).1.now = x1.now := by
  induction x3 generalizing x1 x4 with
  | nil => simp [readFrags]
  | cons d t ih => simp [readFrags, ih] <;> (try (split <;> simp))

theorem readFrags_now_of {x1 x2 x3 x4 x t} (h : readFrags x1 x2 x3 x4 = (t, x)) : t.now = x1.now := by
  have e := readFrags_now x1 x2 x3 x4; rw [h] at e; exact e

@[simp ↓] theorem readFrags_fresh (x1 x2 x3 x4) : (readFrags x1 x2 x3 x4).1.fresh = x1.fresh := by
  induction x3 generalizing x1 x4 with
  | nil => simp [readFrags]
  | cons d t ih => simp [readFrags, ih] <;> (try (split <;> simp))

theorem readFrags_fresh_of {x1 x2 x3 x4 x t} (h : readFrags x1 x2 x3 x4 = (t, x)) : t.fresh = x1.fresh := by
  have e := readFrags_fresh x1 x2 x3 x4; rw [h] at e; exact e

@[simp ↓] theorem readFrags_out (x1 x2 x3 x4) : (readFrags x1 x2 x3 x4).1.out = x1.out := by
  induction x3 generalizing x1 x4 with
  | nil => simp [readFrags]
  | cons d t ih => simp [readFrags, ih] <;> (try (split <;> simp))

theorem readFrags_out_of {x1 x2 x3 x4 x t} (h : readFrags x1 x2 x3 x4 = (t, x)) : t.out = x1.out := by
  have e := readFrags_out x1 x2 x3 x4; rw [h] at e; exact e

@[simp ↓] theorem readFrags_snaps (x1 x2 x3 x4) : (readFrags x1 x2 x3 x4).1.snaps = x1.snaps := by
  induction x3 generalizing x1 x4 with
  | nil => simp [readFrags]
  | cons d t ih => simp [readFrags, ih] <;> (try (split <;> simp))

theorem readFrags_snaps_of {x1 x2 x3 x4 x t} (h : readFrags x1 x2 x3 x4 = (t, x)) : t.snaps = x1.snaps := by
  have e := readFrags_snaps x1 x2 x3 x4; rw [h] at e; exact e

@[simp ↓] theorem readFrags_id (x1 x2 x3 x4) : (readFrags x1 x2 x3 x4).1.id = x1.id := by
  induction x3 generalizing x1 x4 with
  | nil => simp [readFrags]
  | cons d t ih => simp [readFrags, ih] <;> (try (split <;> simp))

theorem readFrags_id_of {x1 x2 x3 x4 x t} (h : readFrags x1 x2 x3 x4 = (t, x)) : t.id = x1.id := by
  have e := readFrags_id x1 x2 x3 x4; rw [h] at e; exact e

@[simp ↓] theorem readFrags_psg (x1 x2 x3 x4) : (readFrags x1 x2 x3 x4).1.psg = x1.psg := by
  induction x3 generalizing x1 x4 with
  | nil => simp [readFrags]
  | cons d t ih => simp [readFrags, ih] <;> (try (split <;> simp))

theorem readFrags_psg_of {x1 x2 x3 x4 x t} (h : readFrags x1 x2 x3 x4 = (t, x)) : t.psg = x1.psg := by
  have e := readFrags_psg x1 x2 x3 x4; rw [h] at e; exact e

@[simp ↓] theorem readFrags_cham (x1 x2 x3 x4) : (readFrags x1 x2 x3 x4).1.cham = x1.cham := by
  induction x3 generalizing x1 x4 with
  | nil => simp [readFrags]
  | cons d t ih => simp [readFrags, ih] <;> (try (split <;> simp))

theorem readFrags_cham_of {x1 x2 x3 x4 x t} (h : readFrags x1 x2 x3 x4 = (t, x)) : t.cham = x1.cham := by
  have e := readFrags_cham x1 x2 x3 x4; rw [h] at e; exact e

@[simp ↓] theorem readFrags_kst (x1 x2 x3 x4) : (readFrags x1 x2 x3 x4).1.kst = x1.kst := by
  induction x3 generalizing x1 x4 with
  | nil => simp [readFrags]
  | cons d t ih => simp [readFrags, ih] <;> (try (split <;> simp))

theorem readFrags_kst_of {x1 x2 x3 x4 x t} (h : readFrags x1 x2 x3 x4 = (t, x)) : t.kst = x1.kst := by
  have e := readFrags_kst x1 x2 x3 x4; rw [h] at e; exact e

@[simp ↓] theorem readFrags_mbx (x1 x2 x3 x4) : (readFrags x1 x2 x3 x4).1.mbx = x1.mbx := by
  induction x3 generalizing x1 x4 with
  | nil => simp [readFrags]
  | cons d t ih => simp [readFrags, ih] <;> (try (split <;> simp))

theorem readFrags_mbx_of {x1 x2 x3 x4 x t} (h : readFrags x1 x2 x3 x4 = (t, x)) : t.mbx = x1.mbx := by
  have e := readFrags_mbx x1 x2 x3 x4; rw [h] at e; exact e

@[simp ↓] theorem readFrags_lan (x1 x2 x3 x4) : (readFrags x1 x2 x3 x4).1.lan = x1.lan := by
  induction x3 generalizing x1 x4 with
  | nil => simp [readFrags]
  | cons d t ih => simp [readFrags, ih] <;> (try (split <;> simp))

theorem readFrags_lan_of {x1 x2 x3 x4 x t} (h : readFrags x1 x2 x3 x4 = (t, x)) : t.lan = x1.lan := by
  have e := readFrags_lan x1 x2 x3 x4; rw [h] at e; exact e

@[simp ↓] theorem readFrags_bb (x1 x2 x3 x4) : (readFrags x1 x2 x3 x4).1.bb = x1.bb := by
  induction x3 generalizing x1 x4 with
  | nil => simp [readFrags]
  | cons d t ih => simp [readFrags, ih] <;> (try (split <;> simp))

theorem readFrags_bb_of {x1 x2 x3 x4 x t} (h : readFrags x1 x2 x3 x4 = (t, x)) : t.bb = x1.bb := by
  have e := readFrags_bb x1 x2 x3 x4; rw [h] at e; exact e

@[simp ↓] theorem readFrags_tim (x1 x2 x3 x4) : (readFrags x1 x2 x3 x4).1.tim = x1.tim := by
  induction x3 generalizing x1 x4 with
  | nil => simp [readFrags]
  | cons d t ih => simp [readFrags, ih] <;> (try (split <;> simp))

theorem readFrags_tim_of {x1 x2 x3 x4 x t} (h : readFrags x1 x2 x3 x4 = (t, x)) : t.tim = x1.tim := by
  have e := readFrags_tim x1 x2 x3 x4; rw [h] at e; exact e

@[simp ↓] theorem readFrags_lcy (x1 x2 x3 x4) : (readFrags x1 x2 x3 x4).1.lcy = x1.lcy := by
  induction x3 generalizing x1 x4 with
  | nil => simp [readFrags]
  | cons d t ih => simp [readFrags, ih] <;> (try (split <;> simp))

theorem readFrags_lcy_of {x1 x2 x3 x4 x t} (h : readFrags x1 x2 x3 x4 = (t, x)) : t.lcy = x1.lcy := by
  have e := readFrags_lcy x1 x2 x3 x4; rw [h] at e; exact e

@[simp ↓] theorem readFrags_die (x1 x2 x3 x4) : (readFrags x1 x2 x3 x4).1.die = x1.die := by
  induction x3 generalizing x1 x4 with
  | nil => simp [readFrags]
  | cons d t ih => simp [readFrags, ih] <;> (try (split <;> simp))

theorem readFrags_die_of {x1 x2 x3 x4 x t} (h : readFrags x1 x2 x3 x4 = (t, x)) : t.die = x1.die := by
  have e := readFrags_die x1 x2 x3 x4; rw [h] at e; exact e

@[simp ↓] theorem readFrags_rng (x1 x2 x3 x4) : (readFrags x1 x2 x3 x4).1.rng = x1.rng := by
  induction x3 generalizing x1 x4 with
  | nil => simp [readFrags]
  | cons d t ih => simp [readFrags, ih] <;> (try (split <;> simp))

theorem readFrags_rng_of {x1 x2 x3 x4 x t} (h : readFrags x1 x2 x3 x4 = (t, x)) : t.rng = x1.rng := by
  have e := readFrags_rng x1 x2 x3 x4; rw [h] at e; exact e

@[simp ↓] theorem readFrags_pke (x1 x2 x3 x4) : (readFrags x1 x2 x3 x4).1.pke = x1.pke := by
  induction x3 generalizing x1 x4 with
  | nil => simp [readFrags]
  | cons d t ih => simp [readFrags, ih] <;> (try (split <;> simp))

theorem readFrags_pke_of {x1 x2 x3 x4 x t} (h : readFrags x1 x2 x3 x4 = (t, x)) : t.pke = x1.pke := by
  have e := readFrags_pke x1 x2 x3 x4; rw [h] at e; exact e

@[simp ↓] theorem readFrags_eng (x1 x2 x3 x4) : (readFrags x1 x2 x3 x4).1.eng = x1.eng := by
  induction x3 generalizing x1 x4 with
  | nil => simp [readFrags]
  | cons d t ih => simp [readFrags, ih] <;> (try (split <;> simp))

theorem readFrags_eng_of {x1 x2 x3 x4 x t} (h : readFrags x1 x2 x3 x4 = (t, x)) : t.eng = x1.eng := by
  have e := readFrags_eng x1 x2 x3 x4; rw [h] at e; exact e

@[simp ↓] theorem readFrags_host (x1 x2 x3 x4) : (readFrags x1 x2 x3 x4).1.host = x1.host := by
  induction x3 generalizing x1 x4 with
  | nil => simp [readFrags]
  | cons d t ih => simp [readFrags, ih] <;> (try (split <;> simp))

theorem readFrags_host_of {x1 x2 x3 x4 x t} (h : readFrags x1 x2 x3 x4 = (t, x)) : t.host = x1.host := by
  have e := readFrags_host x1 x2 x3 x4; rw [h] at e; exact e

@[simp ↓] theorem readFrags_geo (x1 x2 x3 x4) : (readFrags x1 x2 x3 x4).1.geo = x1.geo := by
  induction x3 generalizing x1 x4 with
  | nil => simp [readFrags]
  | cons d t ih => simp [readFrags, ih] <;> (try (split <;> simp))

theorem readFrags_geo_of {x1 x2 x3 x4 x t} (h : readFrags x1 x2 x3 x4 = (t, x)) : t.geo = x1.geo := by
  have e := readFrags_geo x1 x2 x3 x4; rw [h] at e; exact e

@[simp ↓] theorem readFrags_flash (x1 x2 x3 x4) : (readFrags x1 x2 x3 x4).1.flash = x1.flash := by
  induction x3 generalizing x1 x4 with
  | nil => simp [readFrags]
  | cons d t ih => simp [readFrags, ih] <;> (try (split <;> simp))

theorem readFrags_flash_of {x1 x2 x3 x4 x t} (h : readFrags x1 x2 x3 x4 = (t, x)) : t.flash = x1.flash := by
  have e := readFrags_flash x1 x2 x3 x4; rw [h] at e; exact e

@[simp ↓] theorem readFrags_kar (x1 x2 x3 x4) : (readFrags x1 x2 x3 x4).1.kar = x1.kar := by
  induction x3 generalizing x1 x4 with
  | nil => simp [readFrags]
  | cons d t ih => simp [readFrags, ih] <;> (try (split <;> simp))

theorem readFrags_kar_of {x1 x2 x3 x4 x t} (h : readFrags x1 x2 x3 x4 = (t, x)) : t.kar = x1.kar := by
  have e := readFrags_kar x1 x2 x3 x4; rw [h] at e; exact e

@[simp ↓] theorem readFrags_ctl (x1 x2 x3 x4) : (readFrags x1 x2 x3 x4).1.ctl = x1.ctl := by
  induction x3 generalizing x1 x4 with
  | nil => simp [readFrags]
  | cons d t ih => simp [readFrags, ih] <;> (try (split <;> simp))

theorem readFrags_ctl_of {x1 x2 x3 x4 x t} (h : readFrags x1 x2 x3 x4 = (t, x)) : t.ctl = x1.ctl := by
  have e := readFrags_ctl x1 x2 x3 x4; rw [h] at e; exact e

@[simp ↓] theorem readList_frame (x1 x2 x3 x4 x5) :
    (readList x1 x2 x3 x4 x5).1.pending = x1.pending ∧ (readList x1 x2 x3 x4 x5).1.now = x1.now ∧ (readList x1 x2 x3 x4 x5).1.fresh = x1.fresh ∧ (readList x1 x2 x3 x4 x5).1.out = x1.out ∧ (readList x1 x2 x3 x4 x5).1.snaps = x1.snaps ∧ (readList x1 x2 x3 x4 x5).1.id = x1.id ∧ (readList x1 x2 x3 x4 x5).1.psg = x1.psg ∧ (readList x1 x2 x3 x4 x5).1.cham = x1.cham ∧ (readList x1 x2 x3 x4 x5).1.kst = x1.kst ∧ (readList x1 x2 x3 x4 x5).1.mbx = x1.mbx ∧ (readList x1 x2 x3 x4 x5).1.lan = x1.lan ∧ (readList x1 x2 x3 x4 x5).1.bb = x1.bb ∧ (readList x1 x2 x3 x4 x5).1.tim = x1.tim ∧ (readList x1 x2 x3 x4 x5).1.lcy = x1.lcy ∧ (readList x1 x2 x3 x4 x5).1.die = x1.die ∧ (readList x1 x2 x3 x4 x5).1.rng = x1.rng ∧ (readList x1 x2 x3 x4 x5).1.pke = x1.pke ∧ (readList x1 x2 x3 x4 x5).1.eng = x1.eng ∧ (readList x1 x2 x3 x4 x5).1.host = x1.host ∧ (readList x1 x2 x3 x4 x5).1.geo = x1.geo ∧ (readList x1 x2 x3 x4 x5).1.flash = x1.flash ∧ (readList x1 x2 x3 x4 x5).1.kar = x1.kar ∧ (readList x1 x2 x3 x4 x5).1.ctl = x1.ctl := by unfold readList; simp

theorem readList_frame_of {x1 x2 x3 x4 x5 x t} (h : readList x1 x2 x3 x4 x5 = (t, x)) :
    t.pending = x1.pending ∧ t.now = x1.now ∧ t.fresh = x1.fresh ∧ t.out = x1.out ∧ t.snaps = x1.snaps ∧ t.id = x1.id ∧ t.psg = x1.psg ∧ t.cham = x1.cham ∧ t.kst = x1.kst ∧ t.mbx = x1.mbx ∧ t.lan = x1.lan ∧ t.bb = x1.bb ∧ t.tim = x1.tim ∧ t.lcy = x1.lcy ∧ t.die = x1.die ∧ t.rng = x1.rng ∧ t.pke = x1.pke ∧ t.eng = x1.eng ∧ t.host = x1.host ∧ t.geo = x1.geo ∧ t.flash = x1.flash ∧ t.kar = x1.kar ∧ t.ctl = x1.ctl := by
  have e := readList_frame x1 x2 x3 x4 x5; rw [h] at e; exact e

@[simp ↓] theorem fetchPke_frame (x1 x2) :
    (fetchPke x1 x2).1.pending = x1.pending ∧ (fetchPke x1 x2).1.now = x1.now ∧ (fetchPke x1 x2).1.fresh = x1.fresh ∧ (fetchPke x1 x2).1.out = x1.out ∧ (fetchPke x1 x2).1.snaps = x1.snaps ∧ (fetchPke x1 x2).1.id = x1.id ∧ (fetchPke x1 x2).1.psg = x1.psg ∧ (fetchPke x1 x2).1.cham = x1.cham ∧ (fetchPke x1 x2).1.kst = x1.kst ∧ (fetchPke x1 x2).1.mbx = x1.mbx ∧ (fetchPke x1 x2).1.lan = x1.lan ∧ (fetchPke x1 x2).1.bb = x1.bb ∧ (fetchPke x1 x2).1.tim = x1.tim ∧ (fetchPke x1 x2).1.lcy = x1.lcy ∧ (fetchPke x1 x2).1.die = x1.die ∧ (fetchPke x1 x2).1.rng = x1.rng ∧ (fetchPke x1 x2).1.pke = x1.pke ∧ (fetchPke x1 x2).1.eng = x1.eng ∧ (fetchPke x1 x2).1.host = x1.host ∧ (fetchPke x1 x2).1.geo = x1.geo ∧ (fetchPke x1 x2).1.flash = x1.flash ∧ (fetchPke x1 x2).1.kar = x1.kar ∧ (fetchPke x1 x2).1.ctl = x1.ctl := by unfold fetchPke; simp

theorem fetchPke_frame_of {x1 x2 x t} (h : fetchPke x1 x2 = (t, x)) :
    t.pending = x1.pending ∧ t.now = x1.now ∧ t.fresh = x1.fresh ∧ t.out = x1.out ∧ t.snaps = x1.snaps ∧ t.id = x1.id ∧ t.psg = x1.psg ∧ t.cham = x1.cham ∧ t.kst = x1.kst ∧ t.mbx = x1.mbx ∧ t.lan = x1.lan ∧ t.bb = x1.bb ∧ t.tim = x1.tim ∧ t.lcy = x1.lcy ∧ t.die = x1.die ∧ t.rng = x1.rng ∧ t.pke = x1.pke ∧ t.eng = x1.eng ∧ t.host = x1.host ∧ t.geo = x1.geo ∧ t.flash = x1.flash ∧ t.kar = x1.kar ∧ t.ctl = x1.ctl := by
  have e := fetchPke_frame x1 x2; rw [h] at e; exact e

@[simp ↓] theorem fetchSvc_frame (x1 x2) :
    (fetchSvc x1 x2).1.pending = x1.pending ∧ (fetchSvc x1 x2).1.now = x1.now ∧ (fetchSvc x1 x2).1.fresh = x1.fresh ∧ (fetchSvc x1 x2).1.out = x1.out ∧ (fetchSvc x1 x2).1.snaps = x1.snaps ∧ (fetchSvc x1 x2).1.id = x1.id ∧ (fetchSvc x1 x2).1.psg = x1.psg ∧ (fetchSvc x1 x2).1.cham = x1.cham ∧ (fetchSvc x1 x2).1.kst = x1.kst ∧ (fetchSvc x1 x2).1.mbx = x1.mbx ∧ (fetchSvc x1 x2).1.lan = x1.lan ∧ (fetchSvc x1 x2).1.bb = x1.bb ∧ (fetchSvc x1 x2).1.tim = x1.tim ∧ (fetchSvc x1 x2).1.lcy = x1.lcy ∧ (fetchSvc x1 x2).1.die = x1.die ∧ (fetchSvc x1 x2).1.rng = x1.rng ∧ (fetchSvc x1 x2).1.pke = x1.pke ∧ (fetchSvc x1 x2).1.eng = x1.eng ∧ (fetchSvc x1 x2).1.host = x1.host ∧ (fetchSvc x1 x2).1.geo = x1.geo ∧ (fetchSvc x1 x2).1.flash = x1.flash ∧ (fetchSvc x1 x2).1.kar = x1.kar ∧ (fetchSvc x1 x2).1.ctl = x1.ctl := by unfold fetchSvc; simp

theorem fetchSvc_frame_of {x1 x2 x t} (h : fetchSvc x1 x2 = (t, x)) :
    t.pending = x1.pending ∧ t.now = x1.now ∧ t.fresh = x1.fresh ∧ t.out = x1.out ∧ t.snaps = x1.snaps ∧ t.id = x1.id ∧ t.psg = x1.psg ∧ t.cham = x1.cham ∧ t.kst = x1.kst ∧ t.mbx = x1.mbx ∧ t.lan = x1.lan ∧ t.bb = x1.bb ∧ t.tim = x1.tim ∧ t.lcy = x1.lcy ∧ t.die = x1.die ∧ t.rng = x1.rng ∧ t.pke = x1.pke ∧ t.eng = x1.eng ∧ t.host = x1.host ∧ t.geo = x1.geo ∧ t.flash = x1.flash ∧ t.kar = x1.kar ∧ t.ctl = x1.ctl := by
  have e := fetchSvc_frame x1 x2; rw [h] at e; exact e

@[simp ↓] theorem fetchDigest_frame (x1 x2) :
    (fetchDigest x1 x2).1.pending = x1.pending ∧ (fetchDigest x1 x2).1.now = x1.now ∧ (fetchDigest x1 x2).1.fresh = x1.fresh ∧ (fetchDigest x1 x2).1.out = x1.out ∧ (fetchDigest x1 x2).1.snaps = x1.snaps ∧ (fetchDigest x1 x2).1.id = x1.id ∧ (fetchDigest x1 x2).1.psg = x1.psg ∧ (fetchDigest x1 x2).1.cham = x1.cham ∧ (fetchDigest x1 x2).1.kst = x1.kst ∧ (fetchDigest x1 x2).1.mbx = x1.mbx ∧ (fetchDigest x1 x2).1.lan = x1.lan ∧ (fetchDigest x1 x2).1.bb = x1.bb ∧ (fetchDigest x1 x2).1.tim = x1.tim ∧ (fetchDigest x1 x2).1.lcy = x1.lcy ∧ (fetchDigest x1 x2).1.die = x1.die ∧ (fetchDigest x1 x2).1.rng = x1.rng ∧ (fetchDigest x1 x2).1.pke = x1.pke ∧ (fetchDigest x1 x2).1.eng = x1.eng ∧ (fetchDigest x1 x2).1.host = x1.host ∧ (fetchDigest x1 x2).1.geo = x1.geo ∧ (fetchDigest x1 x2).1.flash = x1.flash ∧ (fetchDigest x1 x2).1.kar = x1.kar ∧ (fetchDigest x1 x2).1.ctl = x1.ctl := by unfold fetchDigest; simp

theorem fetchDigest_frame_of {x1 x2 x t} (h : fetchDigest x1 x2 = (t, x)) :
    t.pending = x1.pending ∧ t.now = x1.now ∧ t.fresh = x1.fresh ∧ t.out = x1.out ∧ t.snaps = x1.snaps ∧ t.id = x1.id ∧ t.psg = x1.psg ∧ t.cham = x1.cham ∧ t.kst = x1.kst ∧ t.mbx = x1.mbx ∧ t.lan = x1.lan ∧ t.bb = x1.bb ∧ t.tim = x1.tim ∧ t.lcy = x1.lcy ∧ t.die = x1.die ∧ t.rng = x1.rng ∧ t.pke = x1.pke ∧ t.eng = x1.eng ∧ t.host = x1.host ∧ t.geo = x1.geo ∧ t.flash = x1.flash ∧ t.kar = x1.kar ∧ t.ctl = x1.ctl := by
  have e := fetchDigest_frame x1 x2; rw [h] at e; exact e

@[simp ↓] theorem updDigest_frame (x1 x2 x3) :
    (updDigest x1 x2 x3).pending = x1.pending ∧ (updDigest x1 x2 x3).now = x1.now ∧ (updDigest x1 x2 x3).fresh = x1.fresh ∧ (updDigest x1 x2 x3).out = x1.out ∧ (updDigest x1 x2 x3).snaps = x1.snaps ∧ (updDigest x1 x2 x3).id = x1.id ∧ (updDigest x1 x2 x3).psg = x1.psg ∧ (updDigest x1 x2 x3).cham = x1.cham ∧ (updDigest x1 x2 x3).kst = x1.kst ∧ (updDigest x1 x2 x3).mbx = x1.mbx ∧ (updDigest x1 x2 x3).str = x1.str ∧ (updDigest x1 x2 x3).lan = x1.lan ∧ (updDigest x1 x2 x3).bb = x1.bb ∧ (updDigest x1 x2 x3).tim = x1.tim ∧ (updDigest x1 x2 x3).lcy = x1.lcy ∧ (updDigest x1 x2 x3).die = x1.die ∧ (updDigest x1 x2 x3).rng = x1.rng ∧ (updDigest x1 x2 x3).pke = x1.pke ∧ (updDigest x1 x2 x3).host = x1.host ∧ (updDigest x1 x2 x3).geo = x1.geo ∧ (updDigest x1 x2 x3).flash = x1.flash ∧ (updDigest x1 x2 x3).wld = x1.wld ∧ (updDigest x1 x2 x3).kar = x1.kar ∧ (updDigest x1 x2 x3).ctl = x1.ctl := by unfold updDigest; simp

@[simp ↓] theorem keepEnd_frame (x1 x2 x3 x4) :
    (keepEnd x1 x2 x3 x4).pending = x1.pending ∧ (keepEnd x1 x2 x3 x4).now = x1.now ∧ (keepEnd x1 x2 x3 x4).fresh = x1.fresh ∧ (keepEnd x1 x2 x3 x4).out = x1.out ∧ (keepEnd x1 x2 x3 x4).snaps = x1.snaps ∧ (keepEnd x1 x2 x3 x4).id = x1.id ∧ (keepEnd x1 x2 x3 x4).psg = x1.psg ∧ (keepEnd x1 x2 x3 x4).cham = x1.cham ∧ (keepEnd x1 x2 x3 x4).kst = x1.kst ∧ (keepEnd x1 x2 x3 x4).mbx = x1.mbx ∧ (keepEnd x1 x2 x3 x4).str = x1.str ∧ (keepEnd x1 x2 x3 x4).lan = x1.lan ∧ (keepEnd x1 x2 x3 x4).bb = x1.bb ∧ (keepEnd x1 x2 x3 x4).tim = x1.tim ∧ (keepEnd x1 x2 x3 x4).lcy = x1.lcy ∧ (keepEnd x1 x2 x3 x4).die = x1.die ∧ (keepEnd x1 x2 x3 x4).rng = x1.rng ∧ (keepEnd x1 x2 x3 x4).pke = x1.pke ∧ (keepEnd x1 x2 x3 x4).host = x1.host ∧ (keepEnd x1 x2 x3 x4).geo = x1.geo ∧ (keepEnd x1 x2 x3 x4).flash = x1.flash ∧ (keepEnd x1 x2 x3 x4).wld = x1.wld ∧ (keepEnd x1 x2 x3 x4).kar = x1.kar ∧ (keepEnd x1 x2 x3 x4).ctl = x1.ctl := by unfold keepEnd; (repeat' split) <;> simp

@[simp ↓] theorem endJob_frame (x1 x2 x3 x4) :
    (endJob x1 x2 x3 x4).pending = x1.pending ∧ (endJob x1 x2 x3 x4).now = x1.now ∧ (endJob x1 x2 x3 x4).fresh = x1.fresh ∧ (endJob x1 x2 x3 x4).snaps = x1.snaps ∧ (endJob x1 x2 x3 x4).id = x1.id ∧ (endJob x1 x2 x3 x4).psg = x1.psg ∧ (endJob x1 x2 x3 x4).cham = x1.cham ∧ (endJob x1 x2 x3 x4).kst = x1.kst ∧ (endJob x1 x2 x3 x4).lan = x1.lan ∧ (endJob x1 x2 x3 x4).bb = x1.bb ∧ (endJob x1 x2 x3 x4).tim = x1.tim ∧ (endJob x1 x2 x3 x4).lcy = x1.lcy ∧ (endJob x1 x2 x3 x4).die = x1.die ∧ (endJob x1 x2 x3 x4).rng = x1.rng ∧ (endJob x1 x2 x3 x4).pke = x1.pke ∧ (endJob x1 x2 x3 x4).geo = x1.geo ∧ (endJob x1 x2 x3 x4).flash = x1.flash ∧ (endJob x1 x2 x3 x4).kar = x1.kar := by unfold endJob; (repeat' split) <;> simp

@[simp ↓] theorem newJob_frame (x1) :
    (newJob x1).2.pending = x1.pending ∧ (newJob x1).2.now = x1.now ∧ (newJob x1).2.fresh = x1.fresh ∧ (newJob x1).2.out = x1.out ∧ (newJob x1).2.snaps = x1.snaps ∧ (newJob x1).2.id = x1.id ∧ (newJob x1).2.psg = x1.psg ∧ (newJob x1).2.cham = x1.cham ∧ (newJob x1).2.kst = x1.kst ∧ (newJob x1).2.mbx = x1.mbx ∧ (newJob x1).2.str = x1.str ∧ (newJob x1).2.lan = x1.lan ∧ (newJob x1).2.bb = x1.bb ∧ (newJob x1).2.tim = x1.tim ∧ (newJob x1).2.lcy = x1.lcy ∧ (newJob x1).2.die = x1.die ∧ (newJob x1).2.rng = x1.rng ∧ (newJob x1).2.pke = x1.pke ∧ (newJob x1).2.host = x1.host ∧ (newJob x1).2.geo = x1.geo ∧ (newJob x1).2.flash = x1.flash ∧ (newJob x1).2.wld = x1.wld ∧ (newJob x1).2.kar = x1.kar ∧ (newJob x1).2.ctl = x1.ctl := by unfold newJob; simp

theorem newJob_frame_of {x1 x t} (h : newJob x1 = (x, t)) :
    t.pending = x1.pending ∧ t.now = x1.now ∧ t.fresh = x1.fresh ∧ t.out = x1.out ∧ t.snaps = x1.snaps ∧ t.id = x1.id ∧ t.psg = x1.psg ∧ t.cham = x1.cham ∧ t.kst = x1.kst ∧ t.mbx = x1.mbx ∧ t.str = x1.str ∧ t.lan = x1.lan ∧ t.bb = x1.bb ∧ t.tim = x1.tim ∧ t.lcy = x1.lcy ∧ t.die = x1.die ∧ t.rng = x1.rng ∧ t.pke = x1.pke ∧ t.host = x1.host ∧ t.geo = x1.geo ∧ t.flash = x1.flash ∧ t.wld = x1.wld ∧ t.kar = x1.kar ∧ t.ctl = x1.ctl := by
  have e := newJob_frame x1; rw [h] at e; exact e

@[simp ↓] theorem storeResult_frame (x1 x2 x3 x4 x5 x6) :
    (storeResult x1 x2 x3 x4 x5 x6).pending = x1.pending ∧ (storeResult x1 x2 x3 x4 x5 x6).now = x1.now ∧ (storeResult x1 x2 x3 x4 x5 x6).snaps = x1.snaps ∧ (storeResult x1 x2 x3 x4 x5 x6).id = x1.id ∧ (storeResult x1 x2 x3 x4 x5 x6).psg = x1.psg ∧ (storeResult x1 x2 x3 x4 x5 x6).cham = x1.cham ∧ (storeResult x1 x2 x3 x4 x5 x6).lan = x1.lan ∧ (storeResult x1 x2 x3 x4 x5 x6).bb = x1.bb ∧ (storeResult x1 x2 x3 x4 x5 x6).tim = x1.tim ∧ (storeResult x1 x2 x3 x4 x5 x6).lcy = x1.lcy ∧ (storeResult x1 x2 x3 x4 x5 x6).rng = x1.rng ∧ (storeResult x1 x2 x3 x4 x5 x6).pke = x1.pke ∧ (storeResult x1 x2 x3 x4 x5 x6).flash = x1.flash ∧ (storeResult x1 x2 x3 x4 x5 x6).kar = x1.kar := by unfold storeResult; dsimp only; (repeat' split) <;> (try have := makeRoom_pending_of ‹_›) <;> (try have := makeRoom_now_of ‹_›) <;> (try have := makeRoom_snaps_of ‹_›) <;> (try have := makeRoom_id_of ‹_›) <;> (try have := makeRoom_psg_of ‹_›) <;> (try have := makeRoom_cham_of ‹_›) <;> (try have := makeRoom_lan_of ‹_›) <;> (try have := makeRoom_bb_of ‹_›) <;> (try have := makeRoom_tim_of ‹_›) <;> (try have := makeRoom_lcy_of ‹_›) <;> (try have := makeRoom_rng_of ‹_›) <;> (try have := makeRoom_pke_of ‹_›) <;> (try have := makeRoom_flash_of ‹_›) <;> (try have := makeRoom_kar_of ‹_›) <;> simp [*]

@[simp ↓] theorem submit_frame (x1 x2 x3) :
    (submit x1 x2 x3).pending = x1.pending ∧ (submit x1 x2 x3).now = x1.now ∧ (submit x1 x2 x3).fresh = x1.fresh ∧ (submit x1 x2 x3).out = x1.out ∧ (submit x1 x2 x3).snaps = x1.snaps ∧ (submit x1 x2 x3).id = x1.id ∧ (submit x1 x2 x3).psg = x1.psg ∧ (submit x1 x2 x3).cham = x1.cham ∧ (submit x1 x2 x3).kst = x1.kst ∧ (submit x1 x2 x3).mbx = x1.mbx ∧ (submit x1 x2 x3).str = x1.str ∧ (submit x1 x2 x3).lan = x1.lan ∧ (submit x1 x2 x3).bb = x1.bb ∧ (submit x1 x2 x3).tim = x1.tim ∧ (submit x1 x2 x3).lcy = x1.lcy ∧ (submit x1 x2 x3).die = x1.die ∧ (submit x1 x2 x3).rng = x1.rng ∧ (submit x1 x2 x3).pke = x1.pke ∧ (submit x1 x2 x3).host = x1.host ∧ (submit x1 x2 x3).geo = x1.geo ∧ (submit x1 x2 x3).flash = x1.flash ∧ (submit x1 x2 x3).wld = x1.wld ∧ (submit x1 x2 x3).kar = x1.kar ∧ (submit x1 x2 x3).ctl = x1.ctl := by unfold submit; simp

@[simp ↓] theorem unsubmit_frame (x1 x2 x3) :
    (unsubmit x1 x2 x3).pending = x1.pending ∧ (unsubmit x1 x2 x3).now = x1.now ∧ (unsubmit x1 x2 x3).fresh = x1.fresh ∧ (unsubmit x1 x2 x3).out = x1.out ∧ (unsubmit x1 x2 x3).snaps = x1.snaps ∧ (unsubmit x1 x2 x3).id = x1.id ∧ (unsubmit x1 x2 x3).psg = x1.psg ∧ (unsubmit x1 x2 x3).cham = x1.cham ∧ (unsubmit x1 x2 x3).kst = x1.kst ∧ (unsubmit x1 x2 x3).mbx = x1.mbx ∧ (unsubmit x1 x2 x3).str = x1.str ∧ (unsubmit x1 x2 x3).lan = x1.lan ∧ (unsubmit x1 x2 x3).bb = x1.bb ∧ (unsubmit x1 x2 x3).tim = x1.tim ∧ (unsubmit x1 x2 x3).lcy = x1.lcy ∧ (unsubmit x1 x2 x3).die = x1.die ∧ (unsubmit x1 x2 x3).rng = x1.rng ∧ (unsubmit x1 x2 x3).pke = x1.pke ∧ (unsubmit x1 x2 x3).host = x1.host ∧ (unsubmit x1 x2 x3).geo = x1.geo ∧ (unsubmit x1 x2 x3).flash = x1.flash ∧ (unsubmit x1 x2 x3).wld = x1.wld ∧ (unsubmit x1 x2 x3).kar = x1.kar ∧ (unsubmit x1 x2 x3).ctl = x1.ctl := by unfold unsubmit; simp

end Sys2Proof.Machine
end

