-- ==== Sys2Proof/Laws/Frames/Admission.lean ====
section
/-!
SUPPORT. What the operations of Machine/Admission.lean leave unchanged: for each, every part of the state that it does not touch.
-/

set_option Elab.async false

set_option linter.all false
set_option maxRecDepth 2000

namespace Sys2Proof.Machine

@[simp ↓] theorem endPkeEarly_frame (x1 x2 x3) :
    (endPkeEarly x1 x2 x3).pending = x1.pending ∧ (endPkeEarly x1 x2 x3).now = x1.now ∧ (endPkeEarly x1 x2 x3).fresh = x1.fresh ∧ (endPkeEarly x1 x2 x3).snaps = x1.snaps ∧ (endPkeEarly x1 x2 x3).id = x1.id ∧ (endPkeEarly x1 x2 x3).psg = x1.psg ∧ (endPkeEarly x1 x2 x3).cham = x1.cham ∧ (endPkeEarly x1 x2 x3).kst = x1.kst ∧ (endPkeEarly x1 x2 x3).lan = x1.lan ∧ (endPkeEarly x1 x2 x3).bb = x1.bb ∧ (endPkeEarly x1 x2 x3).tim = x1.tim ∧ (endPkeEarly x1 x2 x3).lcy = x1.lcy ∧ (endPkeEarly x1 x2 x3).die = x1.die ∧ (endPkeEarly x1 x2 x3).rng = x1.rng ∧ (endPkeEarly x1 x2 x3).pke = x1.pke ∧ (endPkeEarly x1 x2 x3).geo = x1.geo ∧ (endPkeEarly x1 x2 x3).flash = x1.flash ∧ (endPkeEarly x1 x2 x3).kar = x1.kar := by unfold endPkeEarly; simp

@[simp ↓] theorem endPkeUnstarted_frame (x1 x2 x3) :
    (endPkeUnstarted x1 x2 x3).pending = x1.pending ∧ (endPkeUnstarted x1 x2 x3).now = x1.now ∧ (endPkeUnstarted x1 x2 x3).fresh = x1.fresh ∧ (endPkeUnstarted x1 x2 x3).snaps = x1.snaps ∧ (endPkeUnstarted x1 x2 x3).id = x1.id ∧ (endPkeUnstarted x1 x2 x3).psg = x1.psg ∧ (endPkeUnstarted x1 x2 x3).cham = x1.cham ∧ (endPkeUnstarted x1 x2 x3).kst = x1.kst ∧ (endPkeUnstarted x1 x2 x3).lan = x1.lan ∧ (endPkeUnstarted x1 x2 x3).bb = x1.bb ∧ (endPkeUnstarted x1 x2 x3).tim = x1.tim ∧ (endPkeUnstarted x1 x2 x3).lcy = x1.lcy ∧ (endPkeUnstarted x1 x2 x3).die = x1.die ∧ (endPkeUnstarted x1 x2 x3).rng = x1.rng ∧ (endPkeUnstarted x1 x2 x3).pke = x1.pke ∧ (endPkeUnstarted x1 x2 x3).geo = x1.geo ∧ (endPkeUnstarted x1 x2 x3).flash = x1.flash ∧ (endPkeUnstarted x1 x2 x3).kar = x1.kar := by unfold endPkeUnstarted; simp

@[simp ↓] theorem pushDigest_frame (x1 x2) :
    (pushDigest x1 x2).pending = x1.pending ∧ (pushDigest x1 x2).now = x1.now ∧ (pushDigest x1 x2).fresh = x1.fresh ∧ (pushDigest x1 x2).out = x1.out ∧ (pushDigest x1 x2).snaps = x1.snaps ∧ (pushDigest x1 x2).id = x1.id ∧ (pushDigest x1 x2).psg = x1.psg ∧ (pushDigest x1 x2).cham = x1.cham ∧ (pushDigest x1 x2).kst = x1.kst ∧ (pushDigest x1 x2).mbx = x1.mbx ∧ (pushDigest x1 x2).str = x1.str ∧ (pushDigest x1 x2).lan = x1.lan ∧ (pushDigest x1 x2).bb = x1.bb ∧ (pushDigest x1 x2).tim = x1.tim ∧ (pushDigest x1 x2).lcy = x1.lcy ∧ (pushDigest x1 x2).die = x1.die ∧ (pushDigest x1 x2).rng = x1.rng ∧ (pushDigest x1 x2).pke = x1.pke ∧ (pushDigest x1 x2).host = x1.host ∧ (pushDigest x1 x2).geo = x1.geo ∧ (pushDigest x1 x2).flash = x1.flash ∧ (pushDigest x1 x2).wld = x1.wld ∧ (pushDigest x1 x2).kar = x1.kar ∧ (pushDigest x1 x2).ctl = x1.ctl := by unfold pushDigest; (try dsimp only); (repeat' split) <;> (try have := newJob_frame_of ‹_›) <;> simp [*]

@[simp ↓] theorem endSvc_frame (x1 x2 x3 x4 x5 x6 x7 x8 x9) :
    (endSvc x1 x2 x3 x4 x5 x6 x7 x8 x9).pending = x1.pending ∧ (endSvc x1 x2 x3 x4 x5 x6 x7 x8 x9).now = x1.now ∧ (endSvc x1 x2 x3 x4 x5 x6 x7 x8 x9).fresh = x1.fresh ∧ (endSvc x1 x2 x3 x4 x5 x6 x7 x8 x9).snaps = x1.snaps ∧ (endSvc x1 x2 x3 x4 x5 x6 x7 x8 x9).id = x1.id ∧ (endSvc x1 x2 x3 x4 x5 x6 x7 x8 x9).psg = x1.psg ∧ (endSvc x1 x2 x3 x4 x5 x6 x7 x8 x9).cham = x1.cham ∧ (endSvc x1 x2 x3 x4 x5 x6 x7 x8 x9).kst = x1.kst ∧ (endSvc x1 x2 x3 x4 x5 x6 x7 x8 x9).lan = x1.lan ∧ (endSvc x1 x2 x3 x4 x5 x6 x7 x8 x9).bb = x1.bb ∧ (endSvc x1 x2 x3 x4 x5 x6 x7 x8 x9).tim = x1.tim ∧ (endSvc x1 x2 x3 x4 x5 x6 x7 x8 x9).lcy = x1.lcy ∧ (endSvc x1 x2 x3 x4 x5 x6 x7 x8 x9).die = x1.die ∧ (endSvc x1 x2 x3 x4 x5 x6 x7 x8 x9).rng = x1.rng ∧ (endSvc x1 x2 x3 x4 x5 x6 x7 x8 x9).pke = x1.pke ∧ (endSvc x1 x2 x3 x4 x5 x6 x7 x8 x9).geo = x1.geo ∧ (endSvc x1 x2 x3 x4 x5 x6 x7 x8 x9).flash = x1.flash ∧ (endSvc x1 x2 x3 x4 x5 x6 x7 x8 x9).kar = x1.kar := by unfold endSvc; simp

@[simp ↓] theorem lockEngine_frame (x1 x2) :
    (lockEngine x1 x2).pending = x1.pending ∧ (lockEngine x1 x2).now = x1.now ∧ (lockEngine x1 x2).fresh = x1.fresh ∧ (lockEngine x1 x2).snaps = x1.snaps ∧ (lockEngine x1 x2).id = x1.id ∧ (lockEngine x1 x2).psg = x1.psg ∧ (lockEngine x1 x2).cham = x1.cham ∧ (lockEngine x1 x2).kst = x1.kst ∧ (lockEngine x1 x2).lan = x1.lan ∧ (lockEngine x1 x2).bb = x1.bb ∧ (lockEngine x1 x2).tim = x1.tim ∧ (lockEngine x1 x2).lcy = x1.lcy ∧ (lockEngine x1 x2).die = x1.die ∧ (lockEngine x1 x2).rng = x1.rng ∧ (lockEngine x1 x2).pke = x1.pke ∧ (lockEngine x1 x2).geo = x1.geo ∧ (lockEngine x1 x2).flash = x1.flash ∧ (lockEngine x1 x2).kar = x1.kar := by unfold lockEngine; dsimp only; (repeat' split)  <;> simp [*]

@[simp ↓] theorem laterSegment_frame (x1 x2) :
    (laterSegment x1 x2).pending = x1.pending ∧ (laterSegment x1 x2).now = x1.now ∧ (laterSegment x1 x2).fresh = x1.fresh ∧ (laterSegment x1 x2).snaps = x1.snaps ∧ (laterSegment x1 x2).id = x1.id ∧ (laterSegment x1 x2).psg = x1.psg ∧ (laterSegment x1 x2).cham = x1.cham ∧ (laterSegment x1 x2).kst = x1.kst ∧ (laterSegment x1 x2).lan = x1.lan ∧ (laterSegment x1 x2).bb = x1.bb ∧ (laterSegment x1 x2).tim = x1.tim ∧ (laterSegment x1 x2).lcy = x1.lcy ∧ (laterSegment x1 x2).die = x1.die ∧ (laterSegment x1 x2).rng = x1.rng ∧ (laterSegment x1 x2).pke = x1.pke ∧ (laterSegment x1 x2).geo = x1.geo ∧ (laterSegment x1 x2).flash = x1.flash ∧ (laterSegment x1 x2).kar = x1.kar := by unfold laterSegment; dsimp only; (repeat' split)  <;> simp [*]

@[simp ↓] theorem endDigestEarly_frame (x1 x2 x3) :
    (endDigestEarly x1 x2 x3).pending = x1.pending ∧ (endDigestEarly x1 x2 x3).now = x1.now ∧ (endDigestEarly x1 x2 x3).fresh = x1.fresh ∧ (endDigestEarly x1 x2 x3).snaps = x1.snaps ∧ (endDigestEarly x1 x2 x3).id = x1.id ∧ (endDigestEarly x1 x2 x3).psg = x1.psg ∧ (endDigestEarly x1 x2 x3).cham = x1.cham ∧ (endDigestEarly x1 x2 x3).kst = x1.kst ∧ (endDigestEarly x1 x2 x3).lan = x1.lan ∧ (endDigestEarly x1 x2 x3).bb = x1.bb ∧ (endDigestEarly x1 x2 x3).tim = x1.tim ∧ (endDigestEarly x1 x2 x3).lcy = x1.lcy ∧ (endDigestEarly x1 x2 x3).die = x1.die ∧ (endDigestEarly x1 x2 x3).rng = x1.rng ∧ (endDigestEarly x1 x2 x3).pke = x1.pke ∧ (endDigestEarly x1 x2 x3).geo = x1.geo ∧ (endDigestEarly x1 x2 x3).flash = x1.flash ∧ (endDigestEarly x1 x2 x3).kar = x1.kar := by unfold endDigestEarly; simp

@[simp ↓] theorem endEarly_frame (x1 x2 x3) :
    (endEarly x1 x2 x3).pending = x1.pending ∧ (endEarly x1 x2 x3).now = x1.now ∧ (endEarly x1 x2 x3).fresh = x1.fresh ∧ (endEarly x1 x2 x3).snaps = x1.snaps ∧ (endEarly x1 x2 x3).id = x1.id ∧ (endEarly x1 x2 x3).psg = x1.psg ∧ (endEarly x1 x2 x3).cham = x1.cham ∧ (endEarly x1 x2 x3).kst = x1.kst ∧ (endEarly x1 x2 x3).lan = x1.lan ∧ (endEarly x1 x2 x3).bb = x1.bb ∧ (endEarly x1 x2 x3).tim = x1.tim ∧ (endEarly x1 x2 x3).lcy = x1.lcy ∧ (endEarly x1 x2 x3).die = x1.die ∧ (endEarly x1 x2 x3).rng = x1.rng ∧ (endEarly x1 x2 x3).pke = x1.pke ∧ (endEarly x1 x2 x3).geo = x1.geo ∧ (endEarly x1 x2 x3).flash = x1.flash ∧ (endEarly x1 x2 x3).kar = x1.kar := by unfold endEarly; (repeat' split) <;> simp

@[simp ↓] theorem endAbortedAtSource_frame (x1 x2) :
    (endAbortedAtSource x1 x2).pending = x1.pending ∧ (endAbortedAtSource x1 x2).now = x1.now ∧ (endAbortedAtSource x1 x2).fresh = x1.fresh ∧ (endAbortedAtSource x1 x2).snaps = x1.snaps ∧ (endAbortedAtSource x1 x2).id = x1.id ∧ (endAbortedAtSource x1 x2).psg = x1.psg ∧ (endAbortedAtSource x1 x2).cham = x1.cham ∧ (endAbortedAtSource x1 x2).kst = x1.kst ∧ (endAbortedAtSource x1 x2).lan = x1.lan ∧ (endAbortedAtSource x1 x2).bb = x1.bb ∧ (endAbortedAtSource x1 x2).tim = x1.tim ∧ (endAbortedAtSource x1 x2).lcy = x1.lcy ∧ (endAbortedAtSource x1 x2).die = x1.die ∧ (endAbortedAtSource x1 x2).rng = x1.rng ∧ (endAbortedAtSource x1 x2).pke = x1.pke ∧ (endAbortedAtSource x1 x2).geo = x1.geo ∧ (endAbortedAtSource x1 x2).flash = x1.flash ∧ (endAbortedAtSource x1 x2).kar = x1.kar := by unfold endAbortedAtSource; (repeat' split) <;> simp

@[simp ↓] theorem refuseAtSources_frame (x1 x2) :
    (refuseAtSources x1 x2).pending = x1.pending ∧ (refuseAtSources x1 x2).now = x1.now ∧ (refuseAtSources x1 x2).fresh = x1.fresh ∧ (refuseAtSources x1 x2).snaps = x1.snaps ∧ (refuseAtSources x1 x2).id = x1.id ∧ (refuseAtSources x1 x2).psg = x1.psg ∧ (refuseAtSources x1 x2).cham = x1.cham ∧ (refuseAtSources x1 x2).kst = x1.kst ∧ (refuseAtSources x1 x2).lan = x1.lan ∧ (refuseAtSources x1 x2).bb = x1.bb ∧ (refuseAtSources x1 x2).tim = x1.tim ∧ (refuseAtSources x1 x2).lcy = x1.lcy ∧ (refuseAtSources x1 x2).die = x1.die ∧ (refuseAtSources x1 x2).rng = x1.rng ∧ (refuseAtSources x1 x2).pke = x1.pke ∧ (refuseAtSources x1 x2).geo = x1.geo ∧ (refuseAtSources x1 x2).flash = x1.flash ∧ (refuseAtSources x1 x2).kar = x1.kar := by unfold refuseAtSources; simp

@[simp ↓] theorem enterFamily_frame (x1 x2) :
    (enterFamily x1 x2).pending = x1.pending ∧ (enterFamily x1 x2).now = x1.now ∧ (enterFamily x1 x2).fresh = x1.fresh ∧ (enterFamily x1 x2).snaps = x1.snaps ∧ (enterFamily x1 x2).id = x1.id ∧ (enterFamily x1 x2).psg = x1.psg ∧ (enterFamily x1 x2).cham = x1.cham ∧ (enterFamily x1 x2).kst = x1.kst ∧ (enterFamily x1 x2).lan = x1.lan ∧ (enterFamily x1 x2).bb = x1.bb ∧ (enterFamily x1 x2).tim = x1.tim ∧ (enterFamily x1 x2).lcy = x1.lcy ∧ (enterFamily x1 x2).die = x1.die ∧ (enterFamily x1 x2).rng = x1.rng ∧ (enterFamily x1 x2).geo = x1.geo ∧ (enterFamily x1 x2).flash = x1.flash ∧ (enterFamily x1 x2).kar = x1.kar := by unfold enterFamily; (try dsimp only); (repeat' split) <;> (try have := fetchPke_frame_of ‹_›) <;> (try have := fetchDigest_frame_of ‹_›) <;> simp [*]

@[simp ↓] theorem admitJob_frame (x1 x2 x3) :
    (admitJob x1 x2 x3).1.pending = x1.pending ∧ (admitJob x1 x2 x3).1.now = x1.now ∧ (admitJob x1 x2 x3).1.fresh = x1.fresh ∧ (admitJob x1 x2 x3).1.snaps = x1.snaps ∧ (admitJob x1 x2 x3).1.id = x1.id ∧ (admitJob x1 x2 x3).1.cham = x1.cham ∧ (admitJob x1 x2 x3).1.lan = x1.lan ∧ (admitJob x1 x2 x3).1.bb = x1.bb ∧ (admitJob x1 x2 x3).1.tim = x1.tim ∧ (admitJob x1 x2 x3).1.lcy = x1.lcy ∧ (admitJob x1 x2 x3).1.rng = x1.rng ∧ (admitJob x1 x2 x3).1.flash = x1.flash ∧ (admitJob x1 x2 x3).1.kar = x1.kar := by unfold admitJob; dsimp only; (repeat' split) <;> (try have := takeUse_frame_of ‹_›) <;> simp [*]

theorem admitJob_frame_of {x1 x2 x3 x t} (h : admitJob x1 x2 x3 = (t, x)) :
    t.pending = x1.pending ∧ t.now = x1.now ∧ t.fresh = x1.fresh ∧ t.snaps = x1.snaps ∧ t.id = x1.id ∧ t.cham = x1.cham ∧ t.lan = x1.lan ∧ t.bb = x1.bb ∧ t.tim = x1.tim ∧ t.lcy = x1.lcy ∧ t.rng = x1.rng ∧ t.flash = x1.flash ∧ t.kar = x1.kar := by
  have e := admitJob_frame x1 x2 x3; rw [h] at e; exact e

@[simp ↓] theorem passQueue_frame (x1 x2 x3) :
    (passQueue x1 x2 x3).pending = x1.pending ∧ (passQueue x1 x2 x3).now = x1.now ∧ (passQueue x1 x2 x3).fresh = x1.fresh ∧ (passQueue x1 x2 x3).out = x1.out ∧ (passQueue x1 x2 x3).snaps = x1.snaps ∧ (passQueue x1 x2 x3).id = x1.id ∧ (passQueue x1 x2 x3).psg = x1.psg ∧ (passQueue x1 x2 x3).cham = x1.cham ∧ (passQueue x1 x2 x3).kst = x1.kst ∧ (passQueue x1 x2 x3).mbx = x1.mbx ∧ (passQueue x1 x2 x3).str = x1.str ∧ (passQueue x1 x2 x3).lan = x1.lan ∧ (passQueue x1 x2 x3).bb = x1.bb ∧ (passQueue x1 x2 x3).tim = x1.tim ∧ (passQueue x1 x2 x3).lcy = x1.lcy ∧ (passQueue x1 x2 x3).die = x1.die ∧ (passQueue x1 x2 x3).rng = x1.rng ∧ (passQueue x1 x2 x3).pke = x1.pke ∧ (passQueue x1 x2 x3).host = x1.host ∧ (passQueue x1 x2 x3).geo = x1.geo ∧ (passQueue x1 x2 x3).flash = x1.flash ∧ (passQueue x1 x2 x3).wld = x1.wld ∧ (passQueue x1 x2 x3).kar = x1.kar ∧ (passQueue x1 x2 x3).ctl = x1.ctl := by unfold passQueue; simp

@[simp ↓] theorem admitNext_pending (x1 x2) : (admitNext x1 x2).pending = x1.pending := by
  induction x2 generalizing x1 with
  | nil => simp [admitNext]
  | cons d t ih => unfold admitNext; dsimp only; (repeat' split) <;> (try have := admitJob_frame_of ‹_›) <;> simp [*]

@[simp ↓] theorem admitNext_now (x1 x2) : (admitNext x1 x2).now = x1.now := by
  induction x2 generalizing x1 with
  | nil => simp [admitNext]
  | cons d t ih => unfold admitNext; dsimp only; (repeat' split) <;> (try have := admitJob_frame_of ‹_›) <;> simp [*]

@[simp ↓] theorem admitNext_fresh (x1 x2) : (admitNext x1 x2).fresh = x1.fresh := by
  induction x2 generalizing x1 with
  | nil => simp [admitNext]
  | cons d t ih => unfold admitNext; dsimp only; (repeat' split) <;> (try have := admitJob_frame_of ‹_›) <;> simp [*]

@[simp ↓] theorem admitNext_snaps (x1 x2) : (admitNext x1 x2).snaps = x1.snaps := by
  induction x2 generalizing x1 with
  | nil => simp [admitNext]
  | cons d t ih => unfold admitNext; dsimp only; (repeat' split) <;> (try have := admitJob_frame_of ‹_›) <;> simp [*]

@[simp ↓] theorem admitNext_id (x1 x2) : (admitNext x1 x2).id = x1.id := by
  induction x2 generalizing x1 with
  | nil => simp [admitNext]
  | cons d t ih => unfold admitNext; dsimp only; (repeat' split) <;> (try have := admitJob_frame_of ‹_›) <;> simp [*]

@[simp ↓] theorem admitNext_cham (x1 x2) : (admitNext x1 x2).cham = x1.cham := by
  induction x2 generalizing x1 with
  | nil => simp [admitNext]
  | cons d t ih => unfold admitNext; dsimp only; (repeat' split) <;> (try have := admitJob_frame_of ‹_›) <;> simp [*]

@[simp ↓] theorem admitNext_lan (x1 x2) : (admitNext x1 x2).lan = x1.lan := by
  induction x2 generalizing x1 with
  | nil => simp [admitNext]
  | cons d t ih => unfold admitNext; dsimp only; (repeat' split) <;> (try have := admitJob_frame_of ‹_›) <;> simp [*]

@[simp ↓] theorem admitNext_bb (x1 x2) : (admitNext x1 x2).bb = x1.bb := by
  induction x2 generalizing x1 with
  | nil => simp [admitNext]
  | cons d t ih => unfold admitNext; dsimp only; (repeat' split) <;> (try have := admitJob_frame_of ‹_›) <;> simp [*]

@[simp ↓] theorem admitNext_tim (x1 x2) : (admitNext x1 x2).tim = x1.tim := by
  induction x2 generalizing x1 with
  | nil => simp [admitNext]
  | cons d t ih => unfold admitNext; dsimp only; (repeat' split) <;> (try have := admitJob_frame_of ‹_›) <;> simp [*]

@[simp ↓] theorem admitNext_lcy (x1 x2) : (admitNext x1 x2).lcy = x1.lcy := by
  induction x2 generalizing x1 with
  | nil => simp [admitNext]
  | cons d t ih => unfold admitNext; dsimp only; (repeat' split) <;> (try have := admitJob_frame_of ‹_›) <;> simp [*]

@[simp ↓] theorem admitNext_rng (x1 x2) : (admitNext x1 x2).rng = x1.rng := by
  induction x2 generalizing x1 with
  | nil => simp [admitNext]
  | cons d t ih => unfold admitNext; dsimp only; (repeat' split) <;> (try have := admitJob_frame_of ‹_›) <;> simp [*]

@[simp ↓] theorem admitNext_flash (x1 x2) : (admitNext x1 x2).flash = x1.flash := by
  induction x2 generalizing x1 with
  | nil => simp [admitNext]
  | cons d t ih => unfold admitNext; dsimp only; (repeat' split) <;> (try have := admitJob_frame_of ‹_›) <;> simp [*]

@[simp ↓] theorem admitNext_kar (x1 x2) : (admitNext x1 x2).kar = x1.kar := by
  induction x2 generalizing x1 with
  | nil => simp [admitNext]
  | cons d t ih => unfold admitNext; dsimp only; (repeat' split) <;> (try have := admitJob_frame_of ‹_›) <;> simp [*]

end Sys2Proof.Machine
end

