-- ==== Sys2Proof/Laws/Frames/HostOps.lean ====
section
/-!
SUPPORT. What the operations of Machine/HostOps.lean leave unchanged: for each, every part of the state that it does not touch.
-/

set_option Elab.async false

set_option linter.all false
set_option maxRecDepth 2000

namespace Sys2Proof.Machine

@[simp ↓] theorem raiseEvent_frame (x1 x2) :
    (raiseEvent x1 x2).pending = x1.pending ∧ (raiseEvent x1 x2).now = x1.now ∧ (raiseEvent x1 x2).fresh = x1.fresh ∧ (raiseEvent x1 x2).snaps = x1.snaps ∧ (raiseEvent x1 x2).id = x1.id ∧ (raiseEvent x1 x2).psg = x1.psg ∧ (raiseEvent x1 x2).cham = x1.cham ∧ (raiseEvent x1 x2).kst = x1.kst ∧ (raiseEvent x1 x2).mbx = x1.mbx ∧ (raiseEvent x1 x2).str = x1.str ∧ (raiseEvent x1 x2).lan = x1.lan ∧ (raiseEvent x1 x2).bb = x1.bb ∧ (raiseEvent x1 x2).tim = x1.tim ∧ (raiseEvent x1 x2).lcy = x1.lcy ∧ (raiseEvent x1 x2).die = x1.die ∧ (raiseEvent x1 x2).rng = x1.rng ∧ (raiseEvent x1 x2).pke = x1.pke ∧ (raiseEvent x1 x2).eng = x1.eng ∧ (raiseEvent x1 x2).geo = x1.geo ∧ (raiseEvent x1 x2).flash = x1.flash ∧ (raiseEvent x1 x2).wld = x1.wld ∧ (raiseEvent x1 x2).kar = x1.kar ∧ (raiseEvent x1 x2).ctl = x1.ctl := by unfold raiseEvent; simp

@[simp ↓] theorem hostCause_frame (x1 x2 x3 x4) :
    (hostCause x1 x2 x3 x4).pending = x1.pending ∧ (hostCause x1 x2 x3 x4).now = x1.now ∧ (hostCause x1 x2 x3 x4).fresh = x1.fresh ∧ (hostCause x1 x2 x3 x4).snaps = x1.snaps ∧ (hostCause x1 x2 x3 x4).id = x1.id ∧ (hostCause x1 x2 x3 x4).psg = x1.psg ∧ (hostCause x1 x2 x3 x4).cham = x1.cham ∧ (hostCause x1 x2 x3 x4).kst = x1.kst ∧ (hostCause x1 x2 x3 x4).mbx = x1.mbx ∧ (hostCause x1 x2 x3 x4).str = x1.str ∧ (hostCause x1 x2 x3 x4).lan = x1.lan ∧ (hostCause x1 x2 x3 x4).bb = x1.bb ∧ (hostCause x1 x2 x3 x4).tim = x1.tim ∧ (hostCause x1 x2 x3 x4).lcy = x1.lcy ∧ (hostCause x1 x2 x3 x4).die = x1.die ∧ (hostCause x1 x2 x3 x4).rng = x1.rng ∧ (hostCause x1 x2 x3 x4).pke = x1.pke ∧ (hostCause x1 x2 x3 x4).eng = x1.eng ∧ (hostCause x1 x2 x3 x4).geo = x1.geo ∧ (hostCause x1 x2 x3 x4).flash = x1.flash ∧ (hostCause x1 x2 x3 x4).wld = x1.wld ∧ (hostCause x1 x2 x3 x4).kar = x1.kar ∧ (hostCause x1 x2 x3 x4).ctl = x1.ctl := by unfold hostCause; simp

@[simp ↓] theorem endRingStatus_frame (x1 x2 x3) :
    (endRingStatus x1 x2 x3).pending = x1.pending ∧ (endRingStatus x1 x2 x3).now = x1.now ∧ (endRingStatus x1 x2 x3).fresh = x1.fresh ∧ (endRingStatus x1 x2 x3).out = x1.out ∧ (endRingStatus x1 x2 x3).snaps = x1.snaps ∧ (endRingStatus x1 x2 x3).id = x1.id ∧ (endRingStatus x1 x2 x3).psg = x1.psg ∧ (endRingStatus x1 x2 x3).cham = x1.cham ∧ (endRingStatus x1 x2 x3).kst = x1.kst ∧ (endRingStatus x1 x2 x3).mbx = x1.mbx ∧ (endRingStatus x1 x2 x3).str = x1.str ∧ (endRingStatus x1 x2 x3).lan = x1.lan ∧ (endRingStatus x1 x2 x3).bb = x1.bb ∧ (endRingStatus x1 x2 x3).tim = x1.tim ∧ (endRingStatus x1 x2 x3).lcy = x1.lcy ∧ (endRingStatus x1 x2 x3).die = x1.die ∧ (endRingStatus x1 x2 x3).rng = x1.rng ∧ (endRingStatus x1 x2 x3).pke = x1.pke ∧ (endRingStatus x1 x2 x3).eng = x1.eng ∧ (endRingStatus x1 x2 x3).geo = x1.geo ∧ (endRingStatus x1 x2 x3).flash = x1.flash ∧ (endRingStatus x1 x2 x3).wld = x1.wld ∧ (endRingStatus x1 x2 x3).kar = x1.kar ∧ (endRingStatus x1 x2 x3).ctl = x1.ctl := by unfold endRingStatus; simp

@[simp ↓] theorem endRingEarly_frame (x1 x2 x3 x4 x5) :
    (endRingEarly x1 x2 x3 x4 x5).pending = x1.pending ∧ (endRingEarly x1 x2 x3 x4 x5).now = x1.now ∧ (endRingEarly x1 x2 x3 x4 x5).fresh = x1.fresh ∧ (endRingEarly x1 x2 x3 x4 x5).snaps = x1.snaps ∧ (endRingEarly x1 x2 x3 x4 x5).id = x1.id ∧ (endRingEarly x1 x2 x3 x4 x5).psg = x1.psg ∧ (endRingEarly x1 x2 x3 x4 x5).cham = x1.cham ∧ (endRingEarly x1 x2 x3 x4 x5).kst = x1.kst ∧ (endRingEarly x1 x2 x3 x4 x5).lan = x1.lan ∧ (endRingEarly x1 x2 x3 x4 x5).bb = x1.bb ∧ (endRingEarly x1 x2 x3 x4 x5).tim = x1.tim ∧ (endRingEarly x1 x2 x3 x4 x5).lcy = x1.lcy ∧ (endRingEarly x1 x2 x3 x4 x5).die = x1.die ∧ (endRingEarly x1 x2 x3 x4 x5).rng = x1.rng ∧ (endRingEarly x1 x2 x3 x4 x5).pke = x1.pke ∧ (endRingEarly x1 x2 x3 x4 x5).geo = x1.geo ∧ (endRingEarly x1 x2 x3 x4 x5).flash = x1.flash ∧ (endRingEarly x1 x2 x3 x4 x5).kar = x1.kar := by unfold endRingEarly; (repeat' split) <;> simp

@[simp ↓] theorem disableQueues_frame (x1 x2) :
    (disableQueues x1 x2).pending = x1.pending ∧ (disableQueues x1 x2).now = x1.now ∧ (disableQueues x1 x2).fresh = x1.fresh ∧ (disableQueues x1 x2).snaps = x1.snaps ∧ (disableQueues x1 x2).id = x1.id ∧ (disableQueues x1 x2).psg = x1.psg ∧ (disableQueues x1 x2).cham = x1.cham ∧ (disableQueues x1 x2).kst = x1.kst ∧ (disableQueues x1 x2).lan = x1.lan ∧ (disableQueues x1 x2).bb = x1.bb ∧ (disableQueues x1 x2).tim = x1.tim ∧ (disableQueues x1 x2).lcy = x1.lcy ∧ (disableQueues x1 x2).die = x1.die ∧ (disableQueues x1 x2).rng = x1.rng ∧ (disableQueues x1 x2).pke = x1.pke ∧ (disableQueues x1 x2).geo = x1.geo ∧ (disableQueues x1 x2).flash = x1.flash ∧ (disableQueues x1 x2).kar = x1.kar := by unfold disableQueues; simp

end Sys2Proof.Machine
end

