-- ==== Sys2Proof/Laws/Frames/Lanes.lean ====
section
/-!
SUPPORT. What the operations of Machine/Lanes.lean leave unchanged: for each, every part of the state that it does not touch.
-/

set_option Elab.async false

set_option linter.all false
set_option maxRecDepth 2000

namespace Sys2Proof.Machine

@[simp ↓] theorem refreshLanes_frame (x1) :
    (refreshLanes x1).pending = x1.pending ∧ (refreshLanes x1).now = x1.now ∧ (refreshLanes x1).fresh = x1.fresh ∧ (refreshLanes x1).out = x1.out ∧ (refreshLanes x1).snaps = x1.snaps ∧ (refreshLanes x1).psg = x1.psg ∧ (refreshLanes x1).cham = x1.cham ∧ (refreshLanes x1).kst = x1.kst ∧ (refreshLanes x1).mbx = x1.mbx ∧ (refreshLanes x1).str = x1.str ∧ (refreshLanes x1).lan = x1.lan ∧ (refreshLanes x1).bb = x1.bb ∧ (refreshLanes x1).tim = x1.tim ∧ (refreshLanes x1).lcy = x1.lcy ∧ (refreshLanes x1).die = x1.die ∧ (refreshLanes x1).rng = x1.rng ∧ (refreshLanes x1).pke = x1.pke ∧ (refreshLanes x1).eng = x1.eng ∧ (refreshLanes x1).host = x1.host ∧ (refreshLanes x1).geo = x1.geo ∧ (refreshLanes x1).flash = x1.flash ∧ (refreshLanes x1).wld = x1.wld ∧ (refreshLanes x1).kar = x1.kar ∧ (refreshLanes x1).ctl = x1.ctl := by unfold refreshLanes; simp

@[simp ↓] theorem refreshSvc_frame (x1) :
    (refreshSvc x1).pending = x1.pending ∧ (refreshSvc x1).now = x1.now ∧ (refreshSvc x1).fresh = x1.fresh ∧ (refreshSvc x1).out = x1.out ∧ (refreshSvc x1).snaps = x1.snaps ∧ (refreshSvc x1).psg = x1.psg ∧ (refreshSvc x1).cham = x1.cham ∧ (refreshSvc x1).kst = x1.kst ∧ (refreshSvc x1).mbx = x1.mbx ∧ (refreshSvc x1).str = x1.str ∧ (refreshSvc x1).lan = x1.lan ∧ (refreshSvc x1).bb = x1.bb ∧ (refreshSvc x1).tim = x1.tim ∧ (refreshSvc x1).lcy = x1.lcy ∧ (refreshSvc x1).die = x1.die ∧ (refreshSvc x1).rng = x1.rng ∧ (refreshSvc x1).pke = x1.pke ∧ (refreshSvc x1).eng = x1.eng ∧ (refreshSvc x1).host = x1.host ∧ (refreshSvc x1).geo = x1.geo ∧ (refreshSvc x1).flash = x1.flash ∧ (refreshSvc x1).wld = x1.wld ∧ (refreshSvc x1).kar = x1.kar ∧ (refreshSvc x1).ctl = x1.ctl := by unfold refreshSvc; simp

@[simp ↓] theorem refreshDigest_frame (x1) :
    (refreshDigest x1).pending = x1.pending ∧ (refreshDigest x1).now = x1.now ∧ (refreshDigest x1).fresh = x1.fresh ∧ (refreshDigest x1).out = x1.out ∧ (refreshDigest x1).snaps = x1.snaps ∧ (refreshDigest x1).psg = x1.psg ∧ (refreshDigest x1).cham = x1.cham ∧ (refreshDigest x1).kst = x1.kst ∧ (refreshDigest x1).mbx = x1.mbx ∧ (refreshDigest x1).str = x1.str ∧ (refreshDigest x1).lan = x1.lan ∧ (refreshDigest x1).bb = x1.bb ∧ (refreshDigest x1).tim = x1.tim ∧ (refreshDigest x1).lcy = x1.lcy ∧ (refreshDigest x1).die = x1.die ∧ (refreshDigest x1).rng = x1.rng ∧ (refreshDigest x1).pke = x1.pke ∧ (refreshDigest x1).eng = x1.eng ∧ (refreshDigest x1).host = x1.host ∧ (refreshDigest x1).geo = x1.geo ∧ (refreshDigest x1).flash = x1.flash ∧ (refreshDigest x1).wld = x1.wld ∧ (refreshDigest x1).kar = x1.kar ∧ (refreshDigest x1).ctl = x1.ctl := by unfold refreshDigest; simp

@[simp ↓] theorem moveQueue.updHeldAll_frame (x1 x2 x3 x4) :
    (moveQueue.updHeldAll x1 x2 x3 x4).pending = x1.pending ∧ (moveQueue.updHeldAll x1 x2 x3 x4).now = x1.now ∧ (moveQueue.updHeldAll x1 x2 x3 x4).fresh = x1.fresh ∧ (moveQueue.updHeldAll x1 x2 x3 x4).out = x1.out ∧ (moveQueue.updHeldAll x1 x2 x3 x4).snaps = x1.snaps ∧ (moveQueue.updHeldAll x1 x2 x3 x4).id = x1.id ∧ (moveQueue.updHeldAll x1 x2 x3 x4).cham = x1.cham ∧ (moveQueue.updHeldAll x1 x2 x3 x4).kst = x1.kst ∧ (moveQueue.updHeldAll x1 x2 x3 x4).mbx = x1.mbx ∧ (moveQueue.updHeldAll x1 x2 x3 x4).str = x1.str ∧ (moveQueue.updHeldAll x1 x2 x3 x4).lan = x1.lan ∧ (moveQueue.updHeldAll x1 x2 x3 x4).bb = x1.bb ∧ (moveQueue.updHeldAll x1 x2 x3 x4).tim = x1.tim ∧ (moveQueue.updHeldAll x1 x2 x3 x4).lcy = x1.lcy ∧ (moveQueue.updHeldAll x1 x2 x3 x4).die = x1.die ∧ (moveQueue.updHeldAll x1 x2 x3 x4).rng = x1.rng ∧ (moveQueue.updHeldAll x1 x2 x3 x4).pke = x1.pke ∧ (moveQueue.updHeldAll x1 x2 x3 x4).eng = x1.eng ∧ (moveQueue.updHeldAll x1 x2 x3 x4).host = x1.host ∧ (moveQueue.updHeldAll x1 x2 x3 x4).geo = x1.geo ∧ (moveQueue.updHeldAll x1 x2 x3 x4).flash = x1.flash ∧ (moveQueue.updHeldAll x1 x2 x3 x4).wld = x1.wld ∧ (moveQueue.updHeldAll x1 x2 x3 x4).kar = x1.kar ∧ (moveQueue.updHeldAll x1 x2 x3 x4).ctl = x1.ctl := by unfold moveQueue.updHeldAll; simp

@[simp ↓] theorem moveQueue_frame (x1 x2 x3) :
    (moveQueue x1 x2 x3).pending = x1.pending ∧ (moveQueue x1 x2 x3).now = x1.now ∧ (moveQueue x1 x2 x3).fresh = x1.fresh ∧ (moveQueue x1 x2 x3).out = x1.out ∧ (moveQueue x1 x2 x3).snaps = x1.snaps ∧ (moveQueue x1 x2 x3).id = x1.id ∧ (moveQueue x1 x2 x3).cham = x1.cham ∧ (moveQueue x1 x2 x3).kst = x1.kst ∧ (moveQueue x1 x2 x3).mbx = x1.mbx ∧ (moveQueue x1 x2 x3).str = x1.str ∧ (moveQueue x1 x2 x3).lan = x1.lan ∧ (moveQueue x1 x2 x3).bb = x1.bb ∧ (moveQueue x1 x2 x3).tim = x1.tim ∧ (moveQueue x1 x2 x3).lcy = x1.lcy ∧ (moveQueue x1 x2 x3).die = x1.die ∧ (moveQueue x1 x2 x3).rng = x1.rng ∧ (moveQueue x1 x2 x3).pke = x1.pke ∧ (moveQueue x1 x2 x3).eng = x1.eng ∧ (moveQueue x1 x2 x3).host = x1.host ∧ (moveQueue x1 x2 x3).geo = x1.geo ∧ (moveQueue x1 x2 x3).flash = x1.flash ∧ (moveQueue x1 x2 x3).wld = x1.wld ∧ (moveQueue x1 x2 x3).kar = x1.kar ∧ (moveQueue x1 x2 x3).ctl = x1.ctl := by unfold moveQueue; simp

@[simp ↓] theorem settleLanes_frame (x1 x2) :
    (settleLanes x1 x2).pending = x1.pending ∧ (settleLanes x1 x2).now = x1.now ∧ (settleLanes x1 x2).fresh = x1.fresh ∧ (settleLanes x1 x2).out = x1.out ∧ (settleLanes x1 x2).snaps = x1.snaps ∧ (settleLanes x1 x2).id = x1.id ∧ (settleLanes x1 x2).cham = x1.cham ∧ (settleLanes x1 x2).kst = x1.kst ∧ (settleLanes x1 x2).mbx = x1.mbx ∧ (settleLanes x1 x2).str = x1.str ∧ (settleLanes x1 x2).lan = x1.lan ∧ (settleLanes x1 x2).bb = x1.bb ∧ (settleLanes x1 x2).tim = x1.tim ∧ (settleLanes x1 x2).lcy = x1.lcy ∧ (settleLanes x1 x2).die = x1.die ∧ (settleLanes x1 x2).rng = x1.rng ∧ (settleLanes x1 x2).pke = x1.pke ∧ (settleLanes x1 x2).eng = x1.eng ∧ (settleLanes x1 x2).host = x1.host ∧ (settleLanes x1 x2).geo = x1.geo ∧ (settleLanes x1 x2).flash = x1.flash ∧ (settleLanes x1 x2).wld = x1.wld ∧ (settleLanes x1 x2).kar = x1.kar ∧ (settleLanes x1 x2).ctl = x1.ctl := by unfold settleLanes; simp

@[simp ↓] theorem countLane_frame (x1 x2 x3 x4) :
    (countLane x1 x2 x3 x4).pending = x1.pending ∧ (countLane x1 x2 x3 x4).now = x1.now ∧ (countLane x1 x2 x3 x4).fresh = x1.fresh ∧ (countLane x1 x2 x3 x4).out = x1.out ∧ (countLane x1 x2 x3 x4).snaps = x1.snaps ∧ (countLane x1 x2 x3 x4).id = x1.id ∧ (countLane x1 x2 x3 x4).cham = x1.cham ∧ (countLane x1 x2 x3 x4).kst = x1.kst ∧ (countLane x1 x2 x3 x4).mbx = x1.mbx ∧ (countLane x1 x2 x3 x4).str = x1.str ∧ (countLane x1 x2 x3 x4).lan = x1.lan ∧ (countLane x1 x2 x3 x4).bb = x1.bb ∧ (countLane x1 x2 x3 x4).tim = x1.tim ∧ (countLane x1 x2 x3 x4).lcy = x1.lcy ∧ (countLane x1 x2 x3 x4).die = x1.die ∧ (countLane x1 x2 x3 x4).rng = x1.rng ∧ (countLane x1 x2 x3 x4).pke = x1.pke ∧ (countLane x1 x2 x3 x4).host = x1.host ∧ (countLane x1 x2 x3 x4).geo = x1.geo ∧ (countLane x1 x2 x3 x4).flash = x1.flash ∧ (countLane x1 x2 x3 x4).wld = x1.wld ∧ (countLane x1 x2 x3 x4).kar = x1.kar ∧ (countLane x1 x2 x3 x4).ctl = x1.ctl := by unfold countLane; simp

@[simp ↓] theorem failLane_frame (x1 x2 x3) :
    (failLane x1 x2 x3).pending = x1.pending ∧ (failLane x1 x2 x3).now = x1.now ∧ (failLane x1 x2 x3).fresh = x1.fresh ∧ (failLane x1 x2 x3).out = x1.out ∧ (failLane x1 x2 x3).snaps = x1.snaps ∧ (failLane x1 x2 x3).cham = x1.cham ∧ (failLane x1 x2 x3).kst = x1.kst ∧ (failLane x1 x2 x3).mbx = x1.mbx ∧ (failLane x1 x2 x3).str = x1.str ∧ (failLane x1 x2 x3).bb = x1.bb ∧ (failLane x1 x2 x3).tim = x1.tim ∧ (failLane x1 x2 x3).lcy = x1.lcy ∧ (failLane x1 x2 x3).die = x1.die ∧ (failLane x1 x2 x3).rng = x1.rng ∧ (failLane x1 x2 x3).pke = x1.pke ∧ (failLane x1 x2 x3).host = x1.host ∧ (failLane x1 x2 x3).geo = x1.geo ∧ (failLane x1 x2 x3).flash = x1.flash ∧ (failLane x1 x2 x3).wld = x1.wld ∧ (failLane x1 x2 x3).kar = x1.kar ∧ (failLane x1 x2 x3).ctl = x1.ctl := by unfold failLane; simp

@[simp ↓] theorem laneDone_frame (x1 x2 x3 x4) :
    (laneDone x1 x2 x3 x4).pending = x1.pending ∧ (laneDone x1 x2 x3 x4).now = x1.now ∧ (laneDone x1 x2 x3 x4).fresh = x1.fresh ∧ (laneDone x1 x2 x3 x4).out = x1.out ∧ (laneDone x1 x2 x3 x4).snaps = x1.snaps ∧ (laneDone x1 x2 x3 x4).cham = x1.cham ∧ (laneDone x1 x2 x3 x4).kst = x1.kst ∧ (laneDone x1 x2 x3 x4).mbx = x1.mbx ∧ (laneDone x1 x2 x3 x4).str = x1.str ∧ (laneDone x1 x2 x3 x4).lan = x1.lan ∧ (laneDone x1 x2 x3 x4).bb = x1.bb ∧ (laneDone x1 x2 x3 x4).tim = x1.tim ∧ (laneDone x1 x2 x3 x4).lcy = x1.lcy ∧ (laneDone x1 x2 x3 x4).die = x1.die ∧ (laneDone x1 x2 x3 x4).rng = x1.rng ∧ (laneDone x1 x2 x3 x4).pke = x1.pke ∧ (laneDone x1 x2 x3 x4).host = x1.host ∧ (laneDone x1 x2 x3 x4).geo = x1.geo ∧ (laneDone x1 x2 x3 x4).flash = x1.flash ∧ (laneDone x1 x2 x3 x4).wld = x1.wld ∧ (laneDone x1 x2 x3 x4).kar = x1.kar ∧ (laneDone x1 x2 x3 x4).ctl = x1.ctl := by unfold laneDone; simp

@[simp ↓] theorem retestLane_frame (x1 x2 x3) :
    (retestLane x1 x2 x3).pending = x1.pending ∧ (retestLane x1 x2 x3).now = x1.now ∧ (retestLane x1 x2 x3).fresh = x1.fresh ∧ (retestLane x1 x2 x3).out = x1.out ∧ (retestLane x1 x2 x3).snaps = x1.snaps ∧ (retestLane x1 x2 x3).cham = x1.cham ∧ (retestLane x1 x2 x3).kst = x1.kst ∧ (retestLane x1 x2 x3).mbx = x1.mbx ∧ (retestLane x1 x2 x3).str = x1.str ∧ (retestLane x1 x2 x3).lan = x1.lan ∧ (retestLane x1 x2 x3).bb = x1.bb ∧ (retestLane x1 x2 x3).tim = x1.tim ∧ (retestLane x1 x2 x3).lcy = x1.lcy ∧ (retestLane x1 x2 x3).die = x1.die ∧ (retestLane x1 x2 x3).rng = x1.rng ∧ (retestLane x1 x2 x3).pke = x1.pke ∧ (retestLane x1 x2 x3).eng = x1.eng ∧ (retestLane x1 x2 x3).host = x1.host ∧ (retestLane x1 x2 x3).geo = x1.geo ∧ (retestLane x1 x2 x3).flash = x1.flash ∧ (retestLane x1 x2 x3).wld = x1.wld ∧ (retestLane x1 x2 x3).kar = x1.kar ∧ (retestLane x1 x2 x3).ctl = x1.ctl := by unfold retestLane; simp

@[simp ↓] theorem takeLaneOffline_frame (x1 x2 x3) :
    (takeLaneOffline x1 x2 x3).pending = x1.pending ∧ (takeLaneOffline x1 x2 x3).now = x1.now ∧ (takeLaneOffline x1 x2 x3).fresh = x1.fresh ∧ (takeLaneOffline x1 x2 x3).out = x1.out ∧ (takeLaneOffline x1 x2 x3).snaps = x1.snaps ∧ (takeLaneOffline x1 x2 x3).cham = x1.cham ∧ (takeLaneOffline x1 x2 x3).kst = x1.kst ∧ (takeLaneOffline x1 x2 x3).mbx = x1.mbx ∧ (takeLaneOffline x1 x2 x3).str = x1.str ∧ (takeLaneOffline x1 x2 x3).lan = x1.lan ∧ (takeLaneOffline x1 x2 x3).bb = x1.bb ∧ (takeLaneOffline x1 x2 x3).tim = x1.tim ∧ (takeLaneOffline x1 x2 x3).lcy = x1.lcy ∧ (takeLaneOffline x1 x2 x3).die = x1.die ∧ (takeLaneOffline x1 x2 x3).rng = x1.rng ∧ (takeLaneOffline x1 x2 x3).pke = x1.pke ∧ (takeLaneOffline x1 x2 x3).eng = x1.eng ∧ (takeLaneOffline x1 x2 x3).host = x1.host ∧ (takeLaneOffline x1 x2 x3).geo = x1.geo ∧ (takeLaneOffline x1 x2 x3).flash = x1.flash ∧ (takeLaneOffline x1 x2 x3).wld = x1.wld ∧ (takeLaneOffline x1 x2 x3).kar = x1.kar ∧ (takeLaneOffline x1 x2 x3).ctl = x1.ctl := by unfold takeLaneOffline; simp

@[simp ↓] theorem stopLane_frame (x1 x2) :
    (stopLane x1 x2).pending = x1.pending ∧ (stopLane x1 x2).now = x1.now ∧ (stopLane x1 x2).fresh = x1.fresh ∧ (stopLane x1 x2).out = x1.out ∧ (stopLane x1 x2).snaps = x1.snaps ∧ (stopLane x1 x2).cham = x1.cham ∧ (stopLane x1 x2).kst = x1.kst ∧ (stopLane x1 x2).mbx = x1.mbx ∧ (stopLane x1 x2).str = x1.str ∧ (stopLane x1 x2).lan = x1.lan ∧ (stopLane x1 x2).bb = x1.bb ∧ (stopLane x1 x2).tim = x1.tim ∧ (stopLane x1 x2).lcy = x1.lcy ∧ (stopLane x1 x2).die = x1.die ∧ (stopLane x1 x2).rng = x1.rng ∧ (stopLane x1 x2).pke = x1.pke ∧ (stopLane x1 x2).host = x1.host ∧ (stopLane x1 x2).geo = x1.geo ∧ (stopLane x1 x2).flash = x1.flash ∧ (stopLane x1 x2).wld = x1.wld ∧ (stopLane x1 x2).kar = x1.kar ∧ (stopLane x1 x2).ctl = x1.ctl := by unfold stopLane; (repeat' split) <;> simp

end Sys2Proof.Machine
end

