-- ==== Sys2Proof/Laws/Frames/KeyCmds.lean ====
section
/-!
SUPPORT. What the operations of Machine/KeyCmds.lean leave unchanged: for each, every part of the state that it does not touch.
-/

set_option Elab.async false

set_option linter.all false
set_option maxRecDepth 2000

namespace Sys2Proof.Machine

@[simp ↓] theorem waitDraw_frame (x1 x2) :
    (waitDraw x1 x2).pending = x1.pending ∧ (waitDraw x1 x2).now = x1.now ∧ (waitDraw x1 x2).fresh = x1.fresh ∧ (waitDraw x1 x2).out = x1.out ∧ (waitDraw x1 x2).snaps = x1.snaps ∧ (waitDraw x1 x2).id = x1.id ∧ (waitDraw x1 x2).psg = x1.psg ∧ (waitDraw x1 x2).cham = x1.cham ∧ (waitDraw x1 x2).kst = x1.kst ∧ (waitDraw x1 x2).str = x1.str ∧ (waitDraw x1 x2).lan = x1.lan ∧ (waitDraw x1 x2).bb = x1.bb ∧ (waitDraw x1 x2).tim = x1.tim ∧ (waitDraw x1 x2).lcy = x1.lcy ∧ (waitDraw x1 x2).die = x1.die ∧ (waitDraw x1 x2).rng = x1.rng ∧ (waitDraw x1 x2).pke = x1.pke ∧ (waitDraw x1 x2).eng = x1.eng ∧ (waitDraw x1 x2).host = x1.host ∧ (waitDraw x1 x2).geo = x1.geo ∧ (waitDraw x1 x2).flash = x1.flash ∧ (waitDraw x1 x2).wld = x1.wld ∧ (waitDraw x1 x2).kar = x1.kar ∧ (waitDraw x1 x2).ctl = x1.ctl := by unfold waitDraw; (repeat' split) <;> simp

@[simp ↓] theorem untilServing_pending (x1 x2 x3 x4 x5) (hx5 : x5.pending = x1.pending) : (untilServing x1 x2 x3 x4 x5).pending = x1.pending := by unfold untilServing; (repeat' split) <;> simp [*]

@[simp ↓] theorem untilServing_now (x1 x2 x3 x4 x5) (hx5 : x5.now = x1.now) : (untilServing x1 x2 x3 x4 x5).now = x1.now := by unfold untilServing; (repeat' split) <;> simp [*]

@[simp ↓] theorem untilServing_fresh (x1 x2 x3 x4 x5) (hx5 : x5.fresh = x1.fresh) : (untilServing x1 x2 x3 x4 x5).fresh = x1.fresh := by unfold untilServing; (repeat' split) <;> simp [*]

@[simp ↓] theorem untilServing_out (x1 x2 x3 x4 x5) (hx5 : x5.out = x1.out) : (untilServing x1 x2 x3 x4 x5).out = x1.out := by unfold untilServing; (repeat' split) <;> simp [*]

@[simp ↓] theorem untilServing_snaps (x1 x2 x3 x4 x5) (hx5 : x5.snaps = x1.snaps) : (untilServing x1 x2 x3 x4 x5).snaps = x1.snaps := by unfold untilServing; (repeat' split) <;> simp [*]

@[simp ↓] theorem untilServing_id (x1 x2 x3 x4 x5) (hx5 : x5.id = x1.id) : (untilServing x1 x2 x3 x4 x5).id = x1.id := by unfold untilServing; (repeat' split) <;> simp [*]

@[simp ↓] theorem untilServing_psg (x1 x2 x3 x4 x5) (hx5 : x5.psg = x1.psg) : (untilServing x1 x2 x3 x4 x5).psg = x1.psg := by unfold untilServing; (repeat' split) <;> simp [*]

@[simp ↓] theorem untilServing_cham (x1 x2 x3 x4 x5) (hx5 : x5.cham = x1.cham) : (untilServing x1 x2 x3 x4 x5).cham = x1.cham := by unfold untilServing; (repeat' split) <;> simp [*]

@[simp ↓] theorem untilServing_kst (x1 x2 x3 x4 x5) (hx5 : x5.kst = x1.kst) : (untilServing x1 x2 x3 x4 x5).kst = x1.kst := by unfold untilServing; (repeat' split) <;> simp [*]

@[simp ↓] theorem untilServing_str (x1 x2 x3 x4 x5) (hx5 : x5.str = x1.str) : (untilServing x1 x2 x3 x4 x5).str = x1.str := by unfold untilServing; (repeat' split) <;> simp [*]

@[simp ↓] theorem untilServing_lan (x1 x2 x3 x4 x5) (hx5 : x5.lan = x1.lan) : (untilServing x1 x2 x3 x4 x5).lan = x1.lan := by unfold untilServing; (repeat' split) <;> simp [*]

@[simp ↓] theorem untilServing_bb (x1 x2 x3 x4 x5) (hx5 : x5.bb = x1.bb) : (untilServing x1 x2 x3 x4 x5).bb = x1.bb := by unfold untilServing; (repeat' split) <;> simp [*]

@[simp ↓] theorem untilServing_tim (x1 x2 x3 x4 x5) (hx5 : x5.tim = x1.tim) : (untilServing x1 x2 x3 x4 x5).tim = x1.tim := by unfold untilServing; (repeat' split) <;> simp [*]

@[simp ↓] theorem untilServing_lcy (x1 x2 x3 x4 x5) (hx5 : x5.lcy = x1.lcy) : (untilServing x1 x2 x3 x4 x5).lcy = x1.lcy := by unfold untilServing; (repeat' split) <;> simp [*]

@[simp ↓] theorem untilServing_die (x1 x2 x3 x4 x5) (hx5 : x5.die = x1.die) : (untilServing x1 x2 x3 x4 x5).die = x1.die := by unfold untilServing; (repeat' split) <;> simp [*]

@[simp ↓] theorem untilServing_rng (x1 x2 x3 x4 x5) (hx5 : x5.rng = x1.rng) : (untilServing x1 x2 x3 x4 x5).rng = x1.rng := by unfold untilServing; (repeat' split) <;> simp [*]

@[simp ↓] theorem untilServing_pke (x1 x2 x3 x4 x5) (hx5 : x5.pke = x1.pke) : (untilServing x1 x2 x3 x4 x5).pke = x1.pke := by unfold untilServing; (repeat' split) <;> simp [*]

@[simp ↓] theorem untilServing_eng (x1 x2 x3 x4 x5) (hx5 : x5.eng = x1.eng) : (untilServing x1 x2 x3 x4 x5).eng = x1.eng := by unfold untilServing; (repeat' split) <;> simp [*]

@[simp ↓] theorem untilServing_host (x1 x2 x3 x4 x5) (hx5 : x5.host = x1.host) : (untilServing x1 x2 x3 x4 x5).host = x1.host := by unfold untilServing; (repeat' split) <;> simp [*]

@[simp ↓] theorem untilServing_geo (x1 x2 x3 x4 x5) (hx5 : x5.geo = x1.geo) : (untilServing x1 x2 x3 x4 x5).geo = x1.geo := by unfold untilServing; (repeat' split) <;> simp [*]

@[simp ↓] theorem untilServing_flash (x1 x2 x3 x4 x5) (hx5 : x5.flash = x1.flash) : (untilServing x1 x2 x3 x4 x5).flash = x1.flash := by unfold untilServing; (repeat' split) <;> simp [*]

@[simp ↓] theorem untilServing_wld (x1 x2 x3 x4 x5) (hx5 : x5.wld = x1.wld) : (untilServing x1 x2 x3 x4 x5).wld = x1.wld := by unfold untilServing; (repeat' split) <;> simp [*]

@[simp ↓] theorem untilServing_kar (x1 x2 x3 x4 x5) (hx5 : x5.kar = x1.kar) : (untilServing x1 x2 x3 x4 x5).kar = x1.kar := by unfold untilServing; (repeat' split) <;> simp [*]

@[simp ↓] theorem untilServing_ctl (x1 x2 x3 x4 x5) (hx5 : x5.ctl = x1.ctl) : (untilServing x1 x2 x3 x4 x5).ctl = x1.ctl := by unfold untilServing; (repeat' split) <;> simp [*]

@[simp ↓] theorem withDraw_pending (x1 x2 x3 x4 x5) (hx5 : ∀ y1 y2, (x5 y1 y2).pending = y1.pending) : (withDraw x1 x2 x3 x4 x5).pending = x1.pending := by fun_cases withDraw <;> (try have := draw_frame_of ‹_›) <;> simp_all

@[simp ↓] theorem withDraw_now (x1 x2 x3 x4 x5) (hx5 : ∀ y1 y2, (x5 y1 y2).now = y1.now) : (withDraw x1 x2 x3 x4 x5).now = x1.now := by fun_cases withDraw <;> (try have := draw_frame_of ‹_›) <;> simp_all

@[simp ↓] theorem withDraw_fresh (x1 x2 x3 x4 x5) (hx5 : ∀ y1 y2, (x5 y1 y2).fresh = y1.fresh) : (withDraw x1 x2 x3 x4 x5).fresh = x1.fresh := by fun_cases withDraw <;> (try have := draw_frame_of ‹_›) <;> simp_all

@[simp ↓] theorem withDraw_snaps (x1 x2 x3 x4 x5) (hx5 : ∀ y1 y2, (x5 y1 y2).snaps = y1.snaps) : (withDraw x1 x2 x3 x4 x5).snaps = x1.snaps := by fun_cases withDraw <;> (try have := draw_frame_of ‹_›) <;> simp_all

@[simp ↓] theorem withDraw_id (x1 x2 x3 x4 x5) (hx5 : ∀ y1 y2, (x5 y1 y2).id = y1.id) : (withDraw x1 x2 x3 x4 x5).id = x1.id := by fun_cases withDraw <;> (try have := draw_frame_of ‹_›) <;> simp_all

@[simp ↓] theorem withDraw_cham (x1 x2 x3 x4 x5) (hx5 : ∀ y1 y2, (x5 y1 y2).cham = y1.cham) : (withDraw x1 x2 x3 x4 x5).cham = x1.cham := by fun_cases withDraw <;> (try have := draw_frame_of ‹_›) <;> simp_all

@[simp ↓] theorem withDraw_kst (x1 x2 x3 x4 x5) (hx5 : ∀ y1 y2, (x5 y1 y2).kst = y1.kst) : (withDraw x1 x2 x3 x4 x5).kst = x1.kst := by fun_cases withDraw <;> (try have := draw_frame_of ‹_›) <;> simp_all

@[simp ↓] theorem withDraw_str (x1 x2 x3 x4 x5) (hx5 : ∀ y1 y2, (x5 y1 y2).str = y1.str) : (withDraw x1 x2 x3 x4 x5).str = x1.str := by fun_cases withDraw <;> (try have := draw_frame_of ‹_›) <;> simp_all

@[simp ↓] theorem withDraw_lan (x1 x2 x3 x4 x5) (hx5 : ∀ y1 y2, (x5 y1 y2).lan = y1.lan) : (withDraw x1 x2 x3 x4 x5).lan = x1.lan := by fun_cases withDraw <;> (try have := draw_frame_of ‹_›) <;> simp_all

@[simp ↓] theorem withDraw_bb (x1 x2 x3 x4 x5) (hx5 : ∀ y1 y2, (x5 y1 y2).bb = y1.bb) : (withDraw x1 x2 x3 x4 x5).bb = x1.bb := by fun_cases withDraw <;> (try have := draw_frame_of ‹_›) <;> simp_all

@[simp ↓] theorem withDraw_tim (x1 x2 x3 x4 x5) (hx5 : ∀ y1 y2, (x5 y1 y2).tim = y1.tim) : (withDraw x1 x2 x3 x4 x5).tim = x1.tim := by fun_cases withDraw <;> (try have := draw_frame_of ‹_›) <;> simp_all

@[simp ↓] theorem withDraw_die (x1 x2 x3 x4 x5) (hx5 : ∀ y1 y2, (x5 y1 y2).die = y1.die) : (withDraw x1 x2 x3 x4 x5).die = x1.die := by fun_cases withDraw <;> (try have := draw_frame_of ‹_›) <;> simp_all

@[simp ↓] theorem withDraw_pke (x1 x2 x3 x4 x5) (hx5 : ∀ y1 y2, (x5 y1 y2).pke = y1.pke) : (withDraw x1 x2 x3 x4 x5).pke = x1.pke := by fun_cases withDraw <;> (try have := draw_frame_of ‹_›) <;> simp_all

@[simp ↓] theorem withDraw_geo (x1 x2 x3 x4 x5) (hx5 : ∀ y1 y2, (x5 y1 y2).geo = y1.geo) : (withDraw x1 x2 x3 x4 x5).geo = x1.geo := by fun_cases withDraw <;> (try have := draw_frame_of ‹_›) <;> simp_all

@[simp ↓] theorem withDraw_flash (x1 x2 x3 x4 x5) (hx5 : ∀ y1 y2, (x5 y1 y2).flash = y1.flash) : (withDraw x1 x2 x3 x4 x5).flash = x1.flash := by fun_cases withDraw <;> (try have := draw_frame_of ‹_›) <;> simp_all

@[simp ↓] theorem withDraw_kar (x1 x2 x3 x4 x5) (hx5 : ∀ y1 y2, (x5 y1 y2).kar = y1.kar) : (withDraw x1 x2 x3 x4 x5).kar = x1.kar := by fun_cases withDraw <;> (try have := draw_frame_of ‹_›) <;> simp_all

@[simp ↓] theorem withDraw_ctl (x1 x2 x3 x4 x5) (hx5 : ∀ y1 y2, (x5 y1 y2).ctl = y1.ctl) : (withDraw x1 x2 x3 x4 x5).ctl = x1.ctl := by fun_cases withDraw <;> (try have := draw_frame_of ‹_›) <;> simp_all

@[simp ↓] theorem eraseKey_frame (x1 x2 x3 x4 x5) :
    (eraseKey x1 x2 x3 x4 x5).pending = x1.pending ∧ (eraseKey x1 x2 x3 x4 x5).now = x1.now ∧ (eraseKey x1 x2 x3 x4 x5).fresh = x1.fresh ∧ (eraseKey x1 x2 x3 x4 x5).snaps = x1.snaps ∧ (eraseKey x1 x2 x3 x4 x5).id = x1.id ∧ (eraseKey x1 x2 x3 x4 x5).psg = x1.psg ∧ (eraseKey x1 x2 x3 x4 x5).cham = x1.cham ∧ (eraseKey x1 x2 x3 x4 x5).str = x1.str ∧ (eraseKey x1 x2 x3 x4 x5).lan = x1.lan ∧ (eraseKey x1 x2 x3 x4 x5).bb = x1.bb ∧ (eraseKey x1 x2 x3 x4 x5).tim = x1.tim ∧ (eraseKey x1 x2 x3 x4 x5).lcy = x1.lcy ∧ (eraseKey x1 x2 x3 x4 x5).rng = x1.rng ∧ (eraseKey x1 x2 x3 x4 x5).pke = x1.pke ∧ (eraseKey x1 x2 x3 x4 x5).eng = x1.eng ∧ (eraseKey x1 x2 x3 x4 x5).flash = x1.flash ∧ (eraseKey x1 x2 x3 x4 x5).kar = x1.kar ∧ (eraseKey x1 x2 x3 x4 x5).ctl = x1.ctl := by unfold eraseKey; simp

@[simp ↓] theorem withKeyQuorum_pending (x1 x2 x3 x4 x5) (hx5 : ∀ y1 y2, (x5 y1 y2).pending = y1.pending) : (withKeyQuorum x1 x2 x3 x4 x5).pending = x1.pending := by unfold withKeyQuorum; (repeat' split) <;> simp [*]

@[simp ↓] theorem withKeyQuorum_now (x1 x2 x3 x4 x5) (hx5 : ∀ y1 y2, (x5 y1 y2).now = y1.now) : (withKeyQuorum x1 x2 x3 x4 x5).now = x1.now := by unfold withKeyQuorum; (repeat' split) <;> simp [*]

@[simp ↓] theorem withKeyQuorum_fresh (x1 x2 x3 x4 x5) (hx5 : ∀ y1 y2, (x5 y1 y2).fresh = y1.fresh) : (withKeyQuorum x1 x2 x3 x4 x5).fresh = x1.fresh := by unfold withKeyQuorum; (repeat' split) <;> simp [*]

@[simp ↓] theorem withKeyQuorum_snaps (x1 x2 x3 x4 x5) (hx5 : ∀ y1 y2, (x5 y1 y2).snaps = y1.snaps) : (withKeyQuorum x1 x2 x3 x4 x5).snaps = x1.snaps := by unfold withKeyQuorum; (repeat' split) <;> simp [*]

@[simp ↓] theorem withKeyQuorum_psg (x1 x2 x3 x4 x5) (hx5 : ∀ y1 y2, (x5 y1 y2).psg = y1.psg) : (withKeyQuorum x1 x2 x3 x4 x5).psg = x1.psg := by unfold withKeyQuorum; (repeat' split) <;> simp [*]

@[simp ↓] theorem withKeyQuorum_cham (x1 x2 x3 x4 x5) (hx5 : ∀ y1 y2, (x5 y1 y2).cham = y1.cham) : (withKeyQuorum x1 x2 x3 x4 x5).cham = x1.cham := by unfold withKeyQuorum; (repeat' split) <;> simp [*]

@[simp ↓] theorem withKeyQuorum_str (x1 x2 x3 x4 x5) (hx5 : ∀ y1 y2, (x5 y1 y2).str = y1.str) : (withKeyQuorum x1 x2 x3 x4 x5).str = x1.str := by unfold withKeyQuorum; (repeat' split) <;> simp [*]

@[simp ↓] theorem withKeyQuorum_bb (x1 x2 x3 x4 x5) (hx5 : ∀ y1 y2, (x5 y1 y2).bb = y1.bb) : (withKeyQuorum x1 x2 x3 x4 x5).bb = x1.bb := by unfold withKeyQuorum; (repeat' split) <;> simp [*]

@[simp ↓] theorem withKeyQuorum_tim (x1 x2 x3 x4 x5) (hx5 : ∀ y1 y2, (x5 y1 y2).tim = y1.tim) : (withKeyQuorum x1 x2 x3 x4 x5).tim = x1.tim := by unfold withKeyQuorum; (repeat' split) <;> simp [*]

@[simp ↓] theorem withKeyQuorum_die (x1 x2 x3 x4 x5) (hx5 : ∀ y1 y2, (x5 y1 y2).die = y1.die) : (withKeyQuorum x1 x2 x3 x4 x5).die = x1.die := by unfold withKeyQuorum; (repeat' split) <;> simp [*]

@[simp ↓] theorem withKeyQuorum_rng (x1 x2 x3 x4 x5) (hx5 : ∀ y1 y2, (x5 y1 y2).rng = y1.rng) : (withKeyQuorum x1 x2 x3 x4 x5).rng = x1.rng := by unfold withKeyQuorum; (repeat' split) <;> simp [*]

@[simp ↓] theorem withKeyQuorum_eng (x1 x2 x3 x4 x5) (hx5 : ∀ y1 y2, (x5 y1 y2).eng = y1.eng) : (withKeyQuorum x1 x2 x3 x4 x5).eng = x1.eng := by unfold withKeyQuorum; (repeat' split) <;> simp [*]

@[simp ↓] theorem withKeyQuorum_geo (x1 x2 x3 x4 x5) (hx5 : ∀ y1 y2, (x5 y1 y2).geo = y1.geo) : (withKeyQuorum x1 x2 x3 x4 x5).geo = x1.geo := by unfold withKeyQuorum; (repeat' split) <;> simp [*]

@[simp ↓] theorem withKeyQuorum_flash (x1 x2 x3 x4 x5) (hx5 : ∀ y1 y2, (x5 y1 y2).flash = y1.flash) : (withKeyQuorum x1 x2 x3 x4 x5).flash = x1.flash := by unfold withKeyQuorum; (repeat' split) <;> simp [*]

@[simp ↓] theorem withKeyQuorum_kar (x1 x2 x3 x4 x5) (hx5 : ∀ y1 y2, (x5 y1 y2).kar = y1.kar) : (withKeyQuorum x1 x2 x3 x4 x5).kar = x1.kar := by unfold withKeyQuorum; (repeat' split) <;> simp [*]

@[simp ↓] theorem withKeyQuorum_ctl (x1 x2 x3 x4 x5) (hx5 : ∀ y1 y2, (x5 y1 y2).ctl = y1.ctl) : (withKeyQuorum x1 x2 x3 x4 x5).ctl = x1.ctl := by unfold withKeyQuorum; (repeat' split) <;> simp [*]

@[simp ↓] theorem setAttr_frame (x1 x2 x3 x4 x5) :
    (setAttr x1 x2 x3 x4 x5).pending = x1.pending ∧ (setAttr x1 x2 x3 x4 x5).now = x1.now ∧ (setAttr x1 x2 x3 x4 x5).fresh = x1.fresh ∧ (setAttr x1 x2 x3 x4 x5).snaps = x1.snaps ∧ (setAttr x1 x2 x3 x4 x5).id = x1.id ∧ (setAttr x1 x2 x3 x4 x5).psg = x1.psg ∧ (setAttr x1 x2 x3 x4 x5).cham = x1.cham ∧ (setAttr x1 x2 x3 x4 x5).str = x1.str ∧ (setAttr x1 x2 x3 x4 x5).lan = x1.lan ∧ (setAttr x1 x2 x3 x4 x5).bb = x1.bb ∧ (setAttr x1 x2 x3 x4 x5).tim = x1.tim ∧ (setAttr x1 x2 x3 x4 x5).lcy = x1.lcy ∧ (setAttr x1 x2 x3 x4 x5).rng = x1.rng ∧ (setAttr x1 x2 x3 x4 x5).pke = x1.pke ∧ (setAttr x1 x2 x3 x4 x5).eng = x1.eng ∧ (setAttr x1 x2 x3 x4 x5).flash = x1.flash ∧ (setAttr x1 x2 x3 x4 x5).kar = x1.kar ∧ (setAttr x1 x2 x3 x4 x5).ctl = x1.ctl := by unfold setAttr; dsimp only; (repeat' split)  <;> simp [*]

@[simp ↓] theorem signBlock_frame (x1 x2) :
    (signBlock x1 x2).2.pending = x1.pending ∧ (signBlock x1 x2).2.now = x1.now ∧ (signBlock x1 x2).2.out = x1.out ∧ (signBlock x1 x2).2.snaps = x1.snaps ∧ (signBlock x1 x2).2.id = x1.id ∧ (signBlock x1 x2).2.psg = x1.psg ∧ (signBlock x1 x2).2.cham = x1.cham ∧ (signBlock x1 x2).2.kst = x1.kst ∧ (signBlock x1 x2).2.mbx = x1.mbx ∧ (signBlock x1 x2).2.str = x1.str ∧ (signBlock x1 x2).2.lan = x1.lan ∧ (signBlock x1 x2).2.bb = x1.bb ∧ (signBlock x1 x2).2.tim = x1.tim ∧ (signBlock x1 x2).2.lcy = x1.lcy ∧ (signBlock x1 x2).2.die = x1.die ∧ (signBlock x1 x2).2.rng = x1.rng ∧ (signBlock x1 x2).2.pke = x1.pke ∧ (signBlock x1 x2).2.eng = x1.eng ∧ (signBlock x1 x2).2.host = x1.host ∧ (signBlock x1 x2).2.geo = x1.geo ∧ (signBlock x1 x2).2.flash = x1.flash ∧ (signBlock x1 x2).2.wld = x1.wld ∧ (signBlock x1 x2).2.kar = x1.kar ∧ (signBlock x1 x2).2.ctl = x1.ctl := by unfold signBlock; dsimp only; (repeat' split) <;> (try have := drawFree_frame_of ‹_›) <;> simp [*]

theorem signBlock_frame_of {x1 x2 x t} (h : signBlock x1 x2 = (x, t)) :
    t.pending = x1.pending ∧ t.now = x1.now ∧ t.out = x1.out ∧ t.snaps = x1.snaps ∧ t.id = x1.id ∧ t.psg = x1.psg ∧ t.cham = x1.cham ∧ t.kst = x1.kst ∧ t.mbx = x1.mbx ∧ t.str = x1.str ∧ t.lan = x1.lan ∧ t.bb = x1.bb ∧ t.tim = x1.tim ∧ t.lcy = x1.lcy ∧ t.die = x1.die ∧ t.rng = x1.rng ∧ t.pke = x1.pke ∧ t.eng = x1.eng ∧ t.host = x1.host ∧ t.geo = x1.geo ∧ t.flash = x1.flash ∧ t.wld = x1.wld ∧ t.kar = x1.kar ∧ t.ctl = x1.ctl := by
  have e := signBlock_frame x1 x2; rw [h] at e; exact e

@[simp ↓] theorem makeOffer_frame (x1 x2 x3) :
    (makeOffer x1 x2 x3).2.pending = x1.pending ∧ (makeOffer x1 x2 x3).2.now = x1.now ∧ (makeOffer x1 x2 x3).2.out = x1.out ∧ (makeOffer x1 x2 x3).2.snaps = x1.snaps ∧ (makeOffer x1 x2 x3).2.id = x1.id ∧ (makeOffer x1 x2 x3).2.psg = x1.psg ∧ (makeOffer x1 x2 x3).2.cham = x1.cham ∧ (makeOffer x1 x2 x3).2.kst = x1.kst ∧ (makeOffer x1 x2 x3).2.mbx = x1.mbx ∧ (makeOffer x1 x2 x3).2.str = x1.str ∧ (makeOffer x1 x2 x3).2.lan = x1.lan ∧ (makeOffer x1 x2 x3).2.bb = x1.bb ∧ (makeOffer x1 x2 x3).2.tim = x1.tim ∧ (makeOffer x1 x2 x3).2.lcy = x1.lcy ∧ (makeOffer x1 x2 x3).2.die = x1.die ∧ (makeOffer x1 x2 x3).2.rng = x1.rng ∧ (makeOffer x1 x2 x3).2.pke = x1.pke ∧ (makeOffer x1 x2 x3).2.eng = x1.eng ∧ (makeOffer x1 x2 x3).2.host = x1.host ∧ (makeOffer x1 x2 x3).2.geo = x1.geo ∧ (makeOffer x1 x2 x3).2.flash = x1.flash ∧ (makeOffer x1 x2 x3).2.wld = x1.wld ∧ (makeOffer x1 x2 x3).2.kar = x1.kar ∧ (makeOffer x1 x2 x3).2.ctl = x1.ctl := by unfold makeOffer; simp

theorem makeOffer_frame_of {x1 x2 x3 x t} (h : makeOffer x1 x2 x3 = (x, t)) :
    t.pending = x1.pending ∧ t.now = x1.now ∧ t.out = x1.out ∧ t.snaps = x1.snaps ∧ t.id = x1.id ∧ t.psg = x1.psg ∧ t.cham = x1.cham ∧ t.kst = x1.kst ∧ t.mbx = x1.mbx ∧ t.str = x1.str ∧ t.lan = x1.lan ∧ t.bb = x1.bb ∧ t.tim = x1.tim ∧ t.lcy = x1.lcy ∧ t.die = x1.die ∧ t.rng = x1.rng ∧ t.pke = x1.pke ∧ t.eng = x1.eng ∧ t.host = x1.host ∧ t.geo = x1.geo ∧ t.flash = x1.flash ∧ t.wld = x1.wld ∧ t.kar = x1.kar ∧ t.ctl = x1.ctl := by
  have e := makeOffer_frame x1 x2 x3; rw [h] at e; exact e

@[simp ↓] theorem updTransport_frame (x1 x2 x3) :
    (updTransport x1 x2 x3).pending = x1.pending ∧ (updTransport x1 x2 x3).now = x1.now ∧ (updTransport x1 x2 x3).fresh = x1.fresh ∧ (updTransport x1 x2 x3).out = x1.out ∧ (updTransport x1 x2 x3).snaps = x1.snaps ∧ (updTransport x1 x2 x3).id = x1.id ∧ (updTransport x1 x2 x3).psg = x1.psg ∧ (updTransport x1 x2 x3).cham = x1.cham ∧ (updTransport x1 x2 x3).mbx = x1.mbx ∧ (updTransport x1 x2 x3).str = x1.str ∧ (updTransport x1 x2 x3).lan = x1.lan ∧ (updTransport x1 x2 x3).bb = x1.bb ∧ (updTransport x1 x2 x3).tim = x1.tim ∧ (updTransport x1 x2 x3).lcy = x1.lcy ∧ (updTransport x1 x2 x3).die = x1.die ∧ (updTransport x1 x2 x3).rng = x1.rng ∧ (updTransport x1 x2 x3).pke = x1.pke ∧ (updTransport x1 x2 x3).eng = x1.eng ∧ (updTransport x1 x2 x3).host = x1.host ∧ (updTransport x1 x2 x3).geo = x1.geo ∧ (updTransport x1 x2 x3).flash = x1.flash ∧ (updTransport x1 x2 x3).wld = x1.wld ∧ (updTransport x1 x2 x3).kar = x1.kar ∧ (updTransport x1 x2 x3).ctl = x1.ctl := by unfold updTransport; simp

@[simp ↓] theorem closeTransport_frame (x1 x2) :
    (closeTransport x1 x2).pending = x1.pending ∧ (closeTransport x1 x2).now = x1.now ∧ (closeTransport x1 x2).fresh = x1.fresh ∧ (closeTransport x1 x2).out = x1.out ∧ (closeTransport x1 x2).snaps = x1.snaps ∧ (closeTransport x1 x2).id = x1.id ∧ (closeTransport x1 x2).psg = x1.psg ∧ (closeTransport x1 x2).cham = x1.cham ∧ (closeTransport x1 x2).mbx = x1.mbx ∧ (closeTransport x1 x2).str = x1.str ∧ (closeTransport x1 x2).lan = x1.lan ∧ (closeTransport x1 x2).bb = x1.bb ∧ (closeTransport x1 x2).tim = x1.tim ∧ (closeTransport x1 x2).lcy = x1.lcy ∧ (closeTransport x1 x2).die = x1.die ∧ (closeTransport x1 x2).rng = x1.rng ∧ (closeTransport x1 x2).pke = x1.pke ∧ (closeTransport x1 x2).eng = x1.eng ∧ (closeTransport x1 x2).host = x1.host ∧ (closeTransport x1 x2).geo = x1.geo ∧ (closeTransport x1 x2).flash = x1.flash ∧ (closeTransport x1 x2).wld = x1.wld ∧ (closeTransport x1 x2).kar = x1.kar ∧ (closeTransport x1 x2).ctl = x1.ctl := by unfold closeTransport; simp

@[simp ↓] theorem closeTransportsOf_frame (x1 x2) :
    (closeTransportsOf x1 x2).pending = x1.pending ∧ (closeTransportsOf x1 x2).now = x1.now ∧ (closeTransportsOf x1 x2).fresh = x1.fresh ∧ (closeTransportsOf x1 x2).out = x1.out ∧ (closeTransportsOf x1 x2).snaps = x1.snaps ∧ (closeTransportsOf x1 x2).id = x1.id ∧ (closeTransportsOf x1 x2).psg = x1.psg ∧ (closeTransportsOf x1 x2).cham = x1.cham ∧ (closeTransportsOf x1 x2).mbx = x1.mbx ∧ (closeTransportsOf x1 x2).str = x1.str ∧ (closeTransportsOf x1 x2).lan = x1.lan ∧ (closeTransportsOf x1 x2).bb = x1.bb ∧ (closeTransportsOf x1 x2).tim = x1.tim ∧ (closeTransportsOf x1 x2).lcy = x1.lcy ∧ (closeTransportsOf x1 x2).die = x1.die ∧ (closeTransportsOf x1 x2).rng = x1.rng ∧ (closeTransportsOf x1 x2).pke = x1.pke ∧ (closeTransportsOf x1 x2).eng = x1.eng ∧ (closeTransportsOf x1 x2).host = x1.host ∧ (closeTransportsOf x1 x2).geo = x1.geo ∧ (closeTransportsOf x1 x2).flash = x1.flash ∧ (closeTransportsOf x1 x2).wld = x1.wld ∧ (closeTransportsOf x1 x2).kar = x1.kar ∧ (closeTransportsOf x1 x2).ctl = x1.ctl := by unfold closeTransportsOf; simp

@[simp ↓] theorem importFailed_frame (x1) :
    (importFailed x1).pending = x1.pending ∧ (importFailed x1).now = x1.now ∧ (importFailed x1).fresh = x1.fresh ∧ (importFailed x1).out = x1.out ∧ (importFailed x1).snaps = x1.snaps ∧ (importFailed x1).id = x1.id ∧ (importFailed x1).psg = x1.psg ∧ (importFailed x1).cham = x1.cham ∧ (importFailed x1).mbx = x1.mbx ∧ (importFailed x1).str = x1.str ∧ (importFailed x1).lan = x1.lan ∧ (importFailed x1).bb = x1.bb ∧ (importFailed x1).tim = x1.tim ∧ (importFailed x1).lcy = x1.lcy ∧ (importFailed x1).die = x1.die ∧ (importFailed x1).rng = x1.rng ∧ (importFailed x1).pke = x1.pke ∧ (importFailed x1).eng = x1.eng ∧ (importFailed x1).host = x1.host ∧ (importFailed x1).geo = x1.geo ∧ (importFailed x1).flash = x1.flash ∧ (importFailed x1).wld = x1.wld ∧ (importFailed x1).kar = x1.kar ∧ (importFailed x1).ctl = x1.ctl := by unfold importFailed; simp

@[simp ↓] theorem importValue_frame (x1 x2 x3) :
    (importValue x1 x2 x3).pending = x1.pending ∧ (importValue x1 x2 x3).now = x1.now ∧ (importValue x1 x2 x3).snaps = x1.snaps ∧ (importValue x1 x2 x3).id = x1.id ∧ (importValue x1 x2 x3).psg = x1.psg ∧ (importValue x1 x2 x3).cham = x1.cham ∧ (importValue x1 x2 x3).str = x1.str ∧ (importValue x1 x2 x3).lan = x1.lan ∧ (importValue x1 x2 x3).bb = x1.bb ∧ (importValue x1 x2 x3).tim = x1.tim ∧ (importValue x1 x2 x3).lcy = x1.lcy ∧ (importValue x1 x2 x3).rng = x1.rng ∧ (importValue x1 x2 x3).pke = x1.pke ∧ (importValue x1 x2 x3).eng = x1.eng ∧ (importValue x1 x2 x3).flash = x1.flash ∧ (importValue x1 x2 x3).kar = x1.kar ∧ (importValue x1 x2 x3).ctl = x1.ctl := by unfold importValue; dsimp only; (repeat' split)  <;> simp [*]

end Sys2Proof.Machine
end

