-- ==== Sys2Proof/Laws/Frames/SvcEngines.lean ====
section
/-!
SUPPORT. What the operations of Machine/SvcEngines.lean leave unchanged: for each, every part of the state that it does not touch.
-/

set_option Elab.async false

set_option linter.all false
set_option maxRecDepth 2000

namespace Sys2Proof.Machine

@[simp ↓] theorem withLength_pending (x1 x2 x3 x4) (hx4 : x4.pending = x1.pending) : (withLength x1 x2 x3 x4).pending = x1.pending := by unfold withLength; (repeat' split) <;> simp [*]

@[simp ↓] theorem withLength_now (x1 x2 x3 x4) (hx4 : x4.now = x1.now) : (withLength x1 x2 x3 x4).now = x1.now := by unfold withLength; (repeat' split) <;> simp [*]

@[simp ↓] theorem withLength_fresh (x1 x2 x3 x4) (hx4 : x4.fresh = x1.fresh) : (withLength x1 x2 x3 x4).fresh = x1.fresh := by unfold withLength; (repeat' split) <;> simp [*]

@[simp ↓] theorem withLength_snaps (x1 x2 x3 x4) (hx4 : x4.snaps = x1.snaps) : (withLength x1 x2 x3 x4).snaps = x1.snaps := by unfold withLength; (repeat' split) <;> simp [*]

@[simp ↓] theorem withLength_id (x1 x2 x3 x4) (hx4 : x4.id = x1.id) : (withLength x1 x2 x3 x4).id = x1.id := by unfold withLength; (repeat' split) <;> simp [*]

@[simp ↓] theorem withLength_psg (x1 x2 x3 x4) (hx4 : x4.psg = x1.psg) : (withLength x1 x2 x3 x4).psg = x1.psg := by unfold withLength; (repeat' split) <;> simp [*]

@[simp ↓] theorem withLength_cham (x1 x2 x3 x4) (hx4 : x4.cham = x1.cham) : (withLength x1 x2 x3 x4).cham = x1.cham := by unfold withLength; (repeat' split) <;> simp [*]

@[simp ↓] theorem withLength_kst (x1 x2 x3 x4) (hx4 : x4.kst = x1.kst) : (withLength x1 x2 x3 x4).kst = x1.kst := by unfold withLength; (repeat' split) <;> simp [*]

@[simp ↓] theorem withLength_str (x1 x2 x3 x4) (hx4 : x4.str = x1.str) : (withLength x1 x2 x3 x4).str = x1.str := by unfold withLength; (repeat' split) <;> simp [*]

@[simp ↓] theorem withLength_lan (x1 x2 x3 x4) (hx4 : x4.lan = x1.lan) : (withLength x1 x2 x3 x4).lan = x1.lan := by unfold withLength; (repeat' split) <;> simp [*]

@[simp ↓] theorem withLength_bb (x1 x2 x3 x4) (hx4 : x4.bb = x1.bb) : (withLength x1 x2 x3 x4).bb = x1.bb := by unfold withLength; (repeat' split) <;> simp [*]

@[simp ↓] theorem withLength_tim (x1 x2 x3 x4) (hx4 : x4.tim = x1.tim) : (withLength x1 x2 x3 x4).tim = x1.tim := by unfold withLength; (repeat' split) <;> simp [*]

@[simp ↓] theorem withLength_lcy (x1 x2 x3 x4) (hx4 : x4.lcy = x1.lcy) : (withLength x1 x2 x3 x4).lcy = x1.lcy := by unfold withLength; (repeat' split) <;> simp [*]

@[simp ↓] theorem withLength_die (x1 x2 x3 x4) (hx4 : x4.die = x1.die) : (withLength x1 x2 x3 x4).die = x1.die := by unfold withLength; (repeat' split) <;> simp [*]

@[simp ↓] theorem withLength_rng (x1 x2 x3 x4) (hx4 : x4.rng = x1.rng) : (withLength x1 x2 x3 x4).rng = x1.rng := by unfold withLength; (repeat' split) <;> simp [*]

@[simp ↓] theorem withLength_pke (x1 x2 x3 x4) (hx4 : x4.pke = x1.pke) : (withLength x1 x2 x3 x4).pke = x1.pke := by unfold withLength; (repeat' split) <;> simp [*]

@[simp ↓] theorem withLength_eng (x1 x2 x3 x4) (hx4 : x4.eng = x1.eng) : (withLength x1 x2 x3 x4).eng = x1.eng := by unfold withLength; (repeat' split) <;> simp [*]

@[simp ↓] theorem withLength_geo (x1 x2 x3 x4) (hx4 : x4.geo = x1.geo) : (withLength x1 x2 x3 x4).geo = x1.geo := by unfold withLength; (repeat' split) <;> simp [*]

@[simp ↓] theorem withLength_flash (x1 x2 x3 x4) (hx4 : x4.flash = x1.flash) : (withLength x1 x2 x3 x4).flash = x1.flash := by unfold withLength; (repeat' split) <;> simp [*]

@[simp ↓] theorem withLength_kar (x1 x2 x3 x4) (hx4 : x4.kar = x1.kar) : (withLength x1 x2 x3 x4).kar = x1.kar := by unfold withLength; (repeat' split) <;> simp [*]

@[simp ↓] theorem withLength_ctl (x1 x2 x3 x4) (hx4 : x4.ctl = x1.ctl) : (withLength x1 x2 x3 x4).ctl = x1.ctl := by unfold withLength; (repeat' split) <;> simp [*]

@[simp ↓] theorem endSegments_frame (x1 x2 x3 x4) :
    (endSegments x1 x2 x3 x4).pending = x1.pending ∧ (endSegments x1 x2 x3 x4).now = x1.now ∧ (endSegments x1 x2 x3 x4).fresh = x1.fresh ∧ (endSegments x1 x2 x3 x4).snaps = x1.snaps ∧ (endSegments x1 x2 x3 x4).id = x1.id ∧ (endSegments x1 x2 x3 x4).psg = x1.psg ∧ (endSegments x1 x2 x3 x4).cham = x1.cham ∧ (endSegments x1 x2 x3 x4).kst = x1.kst ∧ (endSegments x1 x2 x3 x4).lan = x1.lan ∧ (endSegments x1 x2 x3 x4).bb = x1.bb ∧ (endSegments x1 x2 x3 x4).tim = x1.tim ∧ (endSegments x1 x2 x3 x4).lcy = x1.lcy ∧ (endSegments x1 x2 x3 x4).die = x1.die ∧ (endSegments x1 x2 x3 x4).rng = x1.rng ∧ (endSegments x1 x2 x3 x4).pke = x1.pke ∧ (endSegments x1 x2 x3 x4).geo = x1.geo ∧ (endSegments x1 x2 x3 x4).flash = x1.flash ∧ (endSegments x1 x2 x3 x4).kar = x1.kar := by unfold endSegments; simp

@[simp ↓] theorem countSvc_frame (x1 x2 x3) :
    (countSvc x1 x2 x3).pending = x1.pending ∧ (countSvc x1 x2 x3).now = x1.now ∧ (countSvc x1 x2 x3).fresh = x1.fresh ∧ (countSvc x1 x2 x3).out = x1.out ∧ (countSvc x1 x2 x3).snaps = x1.snaps ∧ (countSvc x1 x2 x3).id = x1.id ∧ (countSvc x1 x2 x3).cham = x1.cham ∧ (countSvc x1 x2 x3).kst = x1.kst ∧ (countSvc x1 x2 x3).mbx = x1.mbx ∧ (countSvc x1 x2 x3).str = x1.str ∧ (countSvc x1 x2 x3).lan = x1.lan ∧ (countSvc x1 x2 x3).bb = x1.bb ∧ (countSvc x1 x2 x3).tim = x1.tim ∧ (countSvc x1 x2 x3).lcy = x1.lcy ∧ (countSvc x1 x2 x3).die = x1.die ∧ (countSvc x1 x2 x3).rng = x1.rng ∧ (countSvc x1 x2 x3).pke = x1.pke ∧ (countSvc x1 x2 x3).host = x1.host ∧ (countSvc x1 x2 x3).geo = x1.geo ∧ (countSvc x1 x2 x3).flash = x1.flash ∧ (countSvc x1 x2 x3).wld = x1.wld ∧ (countSvc x1 x2 x3).kar = x1.kar ∧ (countSvc x1 x2 x3).ctl = x1.ctl := by unfold countSvc; simp

@[simp ↓] theorem releaseSvc_frame (x1 x2 x3) :
    (releaseSvc x1 x2 x3).pending = x1.pending ∧ (releaseSvc x1 x2 x3).now = x1.now ∧ (releaseSvc x1 x2 x3).fresh = x1.fresh ∧ (releaseSvc x1 x2 x3).snaps = x1.snaps ∧ (releaseSvc x1 x2 x3).id = x1.id ∧ (releaseSvc x1 x2 x3).psg = x1.psg ∧ (releaseSvc x1 x2 x3).cham = x1.cham ∧ (releaseSvc x1 x2 x3).kst = x1.kst ∧ (releaseSvc x1 x2 x3).lan = x1.lan ∧ (releaseSvc x1 x2 x3).bb = x1.bb ∧ (releaseSvc x1 x2 x3).tim = x1.tim ∧ (releaseSvc x1 x2 x3).lcy = x1.lcy ∧ (releaseSvc x1 x2 x3).die = x1.die ∧ (releaseSvc x1 x2 x3).rng = x1.rng ∧ (releaseSvc x1 x2 x3).pke = x1.pke ∧ (releaseSvc x1 x2 x3).geo = x1.geo ∧ (releaseSvc x1 x2 x3).flash = x1.flash ∧ (releaseSvc x1 x2 x3).kar = x1.kar := by unfold releaseSvc; (repeat' split) <;> simp

@[simp ↓] theorem stopSvc_frame (x1 x2 x3 x4) :
    (stopSvc x1 x2 x3 x4).pending = x1.pending ∧ (stopSvc x1 x2 x3 x4).now = x1.now ∧ (stopSvc x1 x2 x3 x4).fresh = x1.fresh ∧ (stopSvc x1 x2 x3 x4).snaps = x1.snaps ∧ (stopSvc x1 x2 x3 x4).id = x1.id ∧ (stopSvc x1 x2 x3 x4).cham = x1.cham ∧ (stopSvc x1 x2 x3 x4).kst = x1.kst ∧ (stopSvc x1 x2 x3 x4).lan = x1.lan ∧ (stopSvc x1 x2 x3 x4).bb = x1.bb ∧ (stopSvc x1 x2 x3 x4).tim = x1.tim ∧ (stopSvc x1 x2 x3 x4).lcy = x1.lcy ∧ (stopSvc x1 x2 x3 x4).die = x1.die ∧ (stopSvc x1 x2 x3 x4).rng = x1.rng ∧ (stopSvc x1 x2 x3 x4).pke = x1.pke ∧ (stopSvc x1 x2 x3 x4).geo = x1.geo ∧ (stopSvc x1 x2 x3 x4).flash = x1.flash ∧ (stopSvc x1 x2 x3 x4).kar = x1.kar := by unfold stopSvc; (repeat' split) <;> simp

@[simp ↓] theorem beginSegment_frame (x1 x2 x3 x4 x5 x6 x7) :
    (beginSegment x1 x2 x3 x4 x5 x6 x7).pending = x1.pending ∧ (beginSegment x1 x2 x3 x4 x5 x6 x7).now = x1.now ∧ (beginSegment x1 x2 x3 x4 x5 x6 x7).fresh = x1.fresh ∧ (beginSegment x1 x2 x3 x4 x5 x6 x7).out = x1.out ∧ (beginSegment x1 x2 x3 x4 x5 x6 x7).snaps = x1.snaps ∧ (beginSegment x1 x2 x3 x4 x5 x6 x7).id = x1.id ∧ (beginSegment x1 x2 x3 x4 x5 x6 x7).psg = x1.psg ∧ (beginSegment x1 x2 x3 x4 x5 x6 x7).cham = x1.cham ∧ (beginSegment x1 x2 x3 x4 x5 x6 x7).kst = x1.kst ∧ (beginSegment x1 x2 x3 x4 x5 x6 x7).mbx = x1.mbx ∧ (beginSegment x1 x2 x3 x4 x5 x6 x7).str = x1.str ∧ (beginSegment x1 x2 x3 x4 x5 x6 x7).lan = x1.lan ∧ (beginSegment x1 x2 x3 x4 x5 x6 x7).bb = x1.bb ∧ (beginSegment x1 x2 x3 x4 x5 x6 x7).tim = x1.tim ∧ (beginSegment x1 x2 x3 x4 x5 x6 x7).lcy = x1.lcy ∧ (beginSegment x1 x2 x3 x4 x5 x6 x7).die = x1.die ∧ (beginSegment x1 x2 x3 x4 x5 x6 x7).rng = x1.rng ∧ (beginSegment x1 x2 x3 x4 x5 x6 x7).pke = x1.pke ∧ (beginSegment x1 x2 x3 x4 x5 x6 x7).host = x1.host ∧ (beginSegment x1 x2 x3 x4 x5 x6 x7).geo = x1.geo ∧ (beginSegment x1 x2 x3 x4 x5 x6 x7).flash = x1.flash ∧ (beginSegment x1 x2 x3 x4 x5 x6 x7).wld = x1.wld ∧ (beginSegment x1 x2 x3 x4 x5 x6 x7).kar = x1.kar ∧ (beginSegment x1 x2 x3 x4 x5 x6 x7).ctl = x1.ctl := by unfold beginSegment; simp

@[simp ↓] theorem failSegment_frame (x1 x2 x3 x4 x5 x6) :
    (failSegment x1 x2 x3 x4 x5 x6).pending = x1.pending ∧ (failSegment x1 x2 x3 x4 x5 x6).now = x1.now ∧ (failSegment x1 x2 x3 x4 x5 x6).fresh = x1.fresh ∧ (failSegment x1 x2 x3 x4 x5 x6).snaps = x1.snaps ∧ (failSegment x1 x2 x3 x4 x5 x6).id = x1.id ∧ (failSegment x1 x2 x3 x4 x5 x6).psg = x1.psg ∧ (failSegment x1 x2 x3 x4 x5 x6).cham = x1.cham ∧ (failSegment x1 x2 x3 x4 x5 x6).kst = x1.kst ∧ (failSegment x1 x2 x3 x4 x5 x6).lan = x1.lan ∧ (failSegment x1 x2 x3 x4 x5 x6).bb = x1.bb ∧ (failSegment x1 x2 x3 x4 x5 x6).tim = x1.tim ∧ (failSegment x1 x2 x3 x4 x5 x6).lcy = x1.lcy ∧ (failSegment x1 x2 x3 x4 x5 x6).die = x1.die ∧ (failSegment x1 x2 x3 x4 x5 x6).rng = x1.rng ∧ (failSegment x1 x2 x3 x4 x5 x6).pke = x1.pke ∧ (failSegment x1 x2 x3 x4 x5 x6).geo = x1.geo ∧ (failSegment x1 x2 x3 x4 x5 x6).flash = x1.flash ∧ (failSegment x1 x2 x3 x4 x5 x6).kar = x1.kar := by unfold failSegment; simp

@[simp ↓] theorem beginFirst_frame (x1 x2 x3 x4 x5) :
    (beginFirst x1 x2 x3 x4 x5).pending = x1.pending ∧ (beginFirst x1 x2 x3 x4 x5).now = x1.now ∧ (beginFirst x1 x2 x3 x4 x5).fresh = x1.fresh ∧ (beginFirst x1 x2 x3 x4 x5).snaps = x1.snaps ∧ (beginFirst x1 x2 x3 x4 x5).id = x1.id ∧ (beginFirst x1 x2 x3 x4 x5).cham = x1.cham ∧ (beginFirst x1 x2 x3 x4 x5).lan = x1.lan ∧ (beginFirst x1 x2 x3 x4 x5).bb = x1.bb ∧ (beginFirst x1 x2 x3 x4 x5).tim = x1.tim ∧ (beginFirst x1 x2 x3 x4 x5).die = x1.die ∧ (beginFirst x1 x2 x3 x4 x5).pke = x1.pke ∧ (beginFirst x1 x2 x3 x4 x5).geo = x1.geo ∧ (beginFirst x1 x2 x3 x4 x5).flash = x1.flash ∧ (beginFirst x1 x2 x3 x4 x5).kar = x1.kar := by unfold beginFirst; (try dsimp only); (repeat' split) <;> (try have := draw_frame_of ‹_›) <;> simp [*]

@[simp ↓] theorem endSegment_frame (x1 x2 x3 x4) :
    (endSegment x1 x2 x3 x4).pending = x1.pending ∧ (endSegment x1 x2 x3 x4).now = x1.now ∧ (endSegment x1 x2 x3 x4).snaps = x1.snaps ∧ (endSegment x1 x2 x3 x4).id = x1.id ∧ (endSegment x1 x2 x3 x4).cham = x1.cham ∧ (endSegment x1 x2 x3 x4).lan = x1.lan ∧ (endSegment x1 x2 x3 x4).bb = x1.bb ∧ (endSegment x1 x2 x3 x4).tim = x1.tim ∧ (endSegment x1 x2 x3 x4).lcy = x1.lcy ∧ (endSegment x1 x2 x3 x4).rng = x1.rng ∧ (endSegment x1 x2 x3 x4).pke = x1.pke ∧ (endSegment x1 x2 x3 x4).flash = x1.flash ∧ (endSegment x1 x2 x3 x4).kar = x1.kar := by unfold endSegment; (repeat' split) <;> simp

@[simp ↓] theorem abortMessage_frame (x1 x2 x3) :
    (abortMessage x1 x2 x3).pending = x1.pending ∧ (abortMessage x1 x2 x3).now = x1.now ∧ (abortMessage x1 x2 x3).snaps = x1.snaps ∧ (abortMessage x1 x2 x3).id = x1.id ∧ (abortMessage x1 x2 x3).cham = x1.cham ∧ (abortMessage x1 x2 x3).lan = x1.lan ∧ (abortMessage x1 x2 x3).bb = x1.bb ∧ (abortMessage x1 x2 x3).tim = x1.tim ∧ (abortMessage x1 x2 x3).lcy = x1.lcy ∧ (abortMessage x1 x2 x3).rng = x1.rng ∧ (abortMessage x1 x2 x3).pke = x1.pke ∧ (abortMessage x1 x2 x3).flash = x1.flash ∧ (abortMessage x1 x2 x3).kar = x1.kar := by unfold abortMessage; (repeat' split) <;> simp

@[simp ↓] theorem releaseHoldsOf_pending (x1 x2) : (releaseHoldsOf x1 x2).pending = x1.pending := by unfold releaseHoldsOf; apply st_foldl_pending; intros; (repeat' split)  <;> simp [*]

@[simp ↓] theorem releaseHoldsOf_now (x1 x2) : (releaseHoldsOf x1 x2).now = x1.now := by unfold releaseHoldsOf; apply st_foldl_now; intros; (repeat' split)  <;> simp [*]

@[simp ↓] theorem releaseHoldsOf_fresh (x1 x2) : (releaseHoldsOf x1 x2).fresh = x1.fresh := by unfold releaseHoldsOf; apply st_foldl_fresh; intros; (repeat' split)  <;> simp [*]

@[simp ↓] theorem releaseHoldsOf_snaps (x1 x2) : (releaseHoldsOf x1 x2).snaps = x1.snaps := by unfold releaseHoldsOf; apply st_foldl_snaps; intros; (repeat' split)  <;> simp [*]

@[simp ↓] theorem releaseHoldsOf_id (x1 x2) : (releaseHoldsOf x1 x2).id = x1.id := by unfold releaseHoldsOf; apply st_foldl_id; intros; (repeat' split)  <;> simp [*]

@[simp ↓] theorem releaseHoldsOf_cham (x1 x2) : (releaseHoldsOf x1 x2).cham = x1.cham := by unfold releaseHoldsOf; apply st_foldl_cham; intros; (repeat' split)  <;> simp [*]

@[simp ↓] theorem releaseHoldsOf_kst (x1 x2) : (releaseHoldsOf x1 x2).kst = x1.kst := by unfold releaseHoldsOf; apply st_foldl_kst; intros; (repeat' split)  <;> simp [*]

@[simp ↓] theorem releaseHoldsOf_lan (x1 x2) : (releaseHoldsOf x1 x2).lan = x1.lan := by unfold releaseHoldsOf; apply st_foldl_lan; intros; (repeat' split)  <;> simp [*]

@[simp ↓] theorem releaseHoldsOf_bb (x1 x2) : (releaseHoldsOf x1 x2).bb = x1.bb := by unfold releaseHoldsOf; apply st_foldl_bb; intros; (repeat' split)  <;> simp [*]

@[simp ↓] theorem releaseHoldsOf_tim (x1 x2) : (releaseHoldsOf x1 x2).tim = x1.tim := by unfold releaseHoldsOf; apply st_foldl_tim; intros; (repeat' split)  <;> simp [*]

@[simp ↓] theorem releaseHoldsOf_lcy (x1 x2) : (releaseHoldsOf x1 x2).lcy = x1.lcy := by unfold releaseHoldsOf; apply st_foldl_lcy; intros; (repeat' split)  <;> simp [*]

@[simp ↓] theorem releaseHoldsOf_die (x1 x2) : (releaseHoldsOf x1 x2).die = x1.die := by unfold releaseHoldsOf; apply st_foldl_die; intros; (repeat' split)  <;> simp [*]

@[simp ↓] theorem releaseHoldsOf_rng (x1 x2) : (releaseHoldsOf x1 x2).rng = x1.rng := by unfold releaseHoldsOf; apply st_foldl_rng; intros; (repeat' split)  <;> simp [*]

@[simp ↓] theorem releaseHoldsOf_pke (x1 x2) : (releaseHoldsOf x1 x2).pke = x1.pke := by unfold releaseHoldsOf; apply st_foldl_pke; intros; (repeat' split)  <;> simp [*]

@[simp ↓] theorem releaseHoldsOf_geo (x1 x2) : (releaseHoldsOf x1 x2).geo = x1.geo := by unfold releaseHoldsOf; apply st_foldl_geo; intros; (repeat' split)  <;> simp [*]

@[simp ↓] theorem releaseHoldsOf_flash (x1 x2) : (releaseHoldsOf x1 x2).flash = x1.flash := by unfold releaseHoldsOf; apply st_foldl_flash; intros; (repeat' split)  <;> simp [*]

@[simp ↓] theorem releaseHoldsOf_kar (x1 x2) : (releaseHoldsOf x1 x2).kar = x1.kar := by unfold releaseHoldsOf; apply st_foldl_kar; intros; (repeat' split)  <;> simp [*]

@[simp ↓] theorem suspendSvcs_frame (x1) :
    (suspendSvcs x1).pending = x1.pending ∧ (suspendSvcs x1).now = x1.now ∧ (suspendSvcs x1).fresh = x1.fresh ∧ (suspendSvcs x1).snaps = x1.snaps ∧ (suspendSvcs x1).id = x1.id ∧ (suspendSvcs x1).cham = x1.cham ∧ (suspendSvcs x1).kst = x1.kst ∧ (suspendSvcs x1).lan = x1.lan ∧ (suspendSvcs x1).bb = x1.bb ∧ (suspendSvcs x1).tim = x1.tim ∧ (suspendSvcs x1).lcy = x1.lcy ∧ (suspendSvcs x1).die = x1.die ∧ (suspendSvcs x1).rng = x1.rng ∧ (suspendSvcs x1).pke = x1.pke ∧ (suspendSvcs x1).geo = x1.geo ∧ (suspendSvcs x1).flash = x1.flash ∧ (suspendSvcs x1).kar = x1.kar := by unfold suspendSvcs; simp

@[simp ↓] theorem failSvc_frame (x1 x2) :
    (failSvc x1 x2).pending = x1.pending ∧ (failSvc x1 x2).now = x1.now ∧ (failSvc x1 x2).fresh = x1.fresh ∧ (failSvc x1 x2).snaps = x1.snaps ∧ (failSvc x1 x2).cham = x1.cham ∧ (failSvc x1 x2).kst = x1.kst ∧ (failSvc x1 x2).bb = x1.bb ∧ (failSvc x1 x2).tim = x1.tim ∧ (failSvc x1 x2).lcy = x1.lcy ∧ (failSvc x1 x2).die = x1.die ∧ (failSvc x1 x2).rng = x1.rng ∧ (failSvc x1 x2).pke = x1.pke ∧ (failSvc x1 x2).geo = x1.geo ∧ (failSvc x1 x2).flash = x1.flash ∧ (failSvc x1 x2).kar = x1.kar := by unfold failSvc; simp

end Sys2Proof.Machine
end

