-- ==== Sys2Proof/Laws/Frames/Domains.lean ====
section
/-!
SUPPORT. What the operations of Machine/Domains.lean leave unchanged: for each, every part of the state that it does not touch.
-/

set_option Elab.async false

set_option linter.all false
set_option maxRecDepth 2000

namespace Sys2Proof.Machine

@[simp ↓] theorem renewRoot_frame (x1 x2 x3) :
    (renewRoot x1 x2 x3).pending = x1.pending ∧ (renewRoot x1 x2 x3).now = x1.now ∧ (renewRoot x1 x2 x3).out = x1.out ∧ (renewRoot x1 x2 x3).snaps = x1.snaps ∧ (renewRoot x1 x2 x3).psg = x1.psg ∧ (renewRoot x1 x2 x3).cham = x1.cham ∧ (renewRoot x1 x2 x3).str = x1.str ∧ (renewRoot x1 x2 x3).lan = x1.lan ∧ (renewRoot x1 x2 x3).tim = x1.tim ∧ (renewRoot x1 x2 x3).lcy = x1.lcy ∧ (renewRoot x1 x2 x3).rng = x1.rng ∧ (renewRoot x1 x2 x3).eng = x1.eng ∧ (renewRoot x1 x2 x3).host = x1.host ∧ (renewRoot x1 x2 x3).wld = x1.wld ∧ (renewRoot x1 x2 x3).kar = x1.kar ∧ (renewRoot x1 x2 x3).ctl = x1.ctl := by unfold renewRoot; simp

@[simp ↓] theorem readRoot_frame (x1) :
    (readRoot x1).pending = x1.pending ∧ (readRoot x1).now = x1.now ∧ (readRoot x1).fresh = x1.fresh ∧ (readRoot x1).out = x1.out ∧ (readRoot x1).snaps = x1.snaps ∧ (readRoot x1).id = x1.id ∧ (readRoot x1).psg = x1.psg ∧ (readRoot x1).cham = x1.cham ∧ (readRoot x1).mbx = x1.mbx ∧ (readRoot x1).lan = x1.lan ∧ (readRoot x1).bb = x1.bb ∧ (readRoot x1).tim = x1.tim ∧ (readRoot x1).lcy = x1.lcy ∧ (readRoot x1).die = x1.die ∧ (readRoot x1).rng = x1.rng ∧ (readRoot x1).pke = x1.pke ∧ (readRoot x1).eng = x1.eng ∧ (readRoot x1).host = x1.host ∧ (readRoot x1).geo = x1.geo ∧ (readRoot x1).flash = x1.flash ∧ (readRoot x1).wld = x1.wld ∧ (readRoot x1).kar = x1.kar ∧ (readRoot x1).ctl = x1.ctl := by unfold readRoot; simp

@[simp ↓] theorem restoreDieKeys_pending (x1) : (restoreDieKeys x1).pending = x1.pending := by unfold restoreDieKeys; (try dsimp only); (repeat' split)  <;> (first | simp [*] | (rw [st_foldl_pending _ _ _ (by intros; (repeat' split)  <;> simp [*])]; try simp [*]) | (rw [st_foldr_pending _ _ _ (by intros; (repeat' split)  <;> simp [*])]; try simp [*]) | (simp [*]; rw [st_foldl_pending _ _ _ (by intros; (repeat' split)  <;> simp [*])]; try simp [*]) | (simp [*]; (repeat' split)  <;> simp [*]))

@[simp ↓] theorem restoreDieKeys_now (x1) : (restoreDieKeys x1).now = x1.now := by unfold restoreDieKeys; (try dsimp only); (repeat' split)  <;> (first | simp [*] | (rw [st_foldl_now _ _ _ (by intros; (repeat' split)  <;> simp [*])]; try simp [*]) | (rw [st_foldr_now _ _ _ (by intros; (repeat' split)  <;> simp [*])]; try simp [*]) | (simp [*]; rw [st_foldl_now _ _ _ (by intros; (repeat' split)  <;> simp [*])]; try simp [*]) | (simp [*]; (repeat' split)  <;> simp [*]))

@[simp ↓] theorem restoreDieKeys_fresh (x1) : (restoreDieKeys x1).fresh = x1.fresh := by unfold restoreDieKeys; (try dsimp only); (repeat' split)  <;> (first | simp [*] | (rw [st_foldl_fresh _ _ _ (by intros; (repeat' split)  <;> simp [*])]; try simp [*]) | (rw [st_foldr_fresh _ _ _ (by intros; (repeat' split)  <;> simp [*])]; try simp [*]) | (simp [*]; rw [st_foldl_fresh _ _ _ (by intros; (repeat' split)  <;> simp [*])]; try simp [*]) | (simp [*]; (repeat' split)  <;> simp [*]))

@[simp ↓] theorem restoreDieKeys_out (x1) : (restoreDieKeys x1).out = x1.out := by unfold restoreDieKeys; (try dsimp only); (repeat' split)  <;> (first | simp [*] | (rw [st_foldl_out _ _ _ (by intros; (repeat' split)  <;> simp [*])]; try simp [*]) | (rw [st_foldr_out _ _ _ (by intros; (repeat' split)  <;> simp [*])]; try simp [*]) | (simp [*]; rw [st_foldl_out _ _ _ (by intros; (repeat' split)  <;> simp [*])]; try simp [*]) | (simp [*]; (repeat' split)  <;> simp [*]))

@[simp ↓] theorem restoreDieKeys_snaps (x1) : (restoreDieKeys x1).snaps = x1.snaps := by unfold restoreDieKeys; (try dsimp only); (repeat' split)  <;> (first | simp [*] | (rw [st_foldl_snaps _ _ _ (by intros; (repeat' split)  <;> simp [*])]; try simp [*]) | (rw [st_foldr_snaps _ _ _ (by intros; (repeat' split)  <;> simp [*])]; try simp [*]) | (simp [*]; rw [st_foldl_snaps _ _ _ (by intros; (repeat' split)  <;> simp [*])]; try simp [*]) | (simp [*]; (repeat' split)  <;> simp [*]))

@[simp ↓] theorem restoreDieKeys_id (x1) : (restoreDieKeys x1).id = x1.id := by unfold restoreDieKeys; (try dsimp only); (repeat' split)  <;> (first | simp [*] | (rw [st_foldl_id _ _ _ (by intros; (repeat' split)  <;> simp [*])]; try simp [*]) | (rw [st_foldr_id _ _ _ (by intros; (repeat' split)  <;> simp [*])]; try simp [*]) | (simp [*]; rw [st_foldl_id _ _ _ (by intros; (repeat' split)  <;> simp [*])]; try simp [*]) | (simp [*]; (repeat' split)  <;> simp [*]))

@[simp ↓] theorem restoreDieKeys_psg (x1) : (restoreDieKeys x1).psg = x1.psg := by unfold restoreDieKeys; (try dsimp only); (repeat' split)  <;> (first | simp [*] | (rw [st_foldl_psg _ _ _ (by intros; (repeat' split)  <;> simp [*])]; try simp [*]) | (rw [st_foldr_psg _ _ _ (by intros; (repeat' split)  <;> simp [*])]; try simp [*]) | (simp [*]; rw [st_foldl_psg _ _ _ (by intros; (repeat' split)  <;> simp [*])]; try simp [*]) | (simp [*]; (repeat' split)  <;> simp [*]))

@[simp ↓] theorem restoreDieKeys_cham (x1) : (restoreDieKeys x1).cham = x1.cham := by unfold restoreDieKeys; (try dsimp only); (repeat' split)  <;> (first | simp [*] | (rw [st_foldl_cham _ _ _ (by intros; (repeat' split)  <;> simp [*])]; try simp [*]) | (rw [st_foldr_cham _ _ _ (by intros; (repeat' split)  <;> simp [*])]; try simp [*]) | (simp [*]; rw [st_foldl_cham _ _ _ (by intros; (repeat' split)  <;> simp [*])]; try simp [*]) | (simp [*]; (repeat' split)  <;> simp [*]))

@[simp ↓] theorem restoreDieKeys_mbx (x1) : (restoreDieKeys x1).mbx = x1.mbx := by unfold restoreDieKeys; (try dsimp only); (repeat' split)  <;> (first | simp [*] | (rw [st_foldl_mbx _ _ _ (by intros; (repeat' split)  <;> simp [*])]; try simp [*]) | (rw [st_foldr_mbx _ _ _ (by intros; (repeat' split)  <;> simp [*])]; try simp [*]) | (simp [*]; rw [st_foldl_mbx _ _ _ (by intros; (repeat' split)  <;> simp [*])]; try simp [*]) | (simp [*]; (repeat' split)  <;> simp [*]))

@[simp ↓] theorem restoreDieKeys_str (x1) : (restoreDieKeys x1).str = x1.str := by unfold restoreDieKeys; (try dsimp only); (repeat' split)  <;> (first | simp [*] | (rw [st_foldl_str _ _ _ (by intros; (repeat' split)  <;> simp [*])]; try simp [*]) | (rw [st_foldr_str _ _ _ (by intros; (repeat' split)  <;> simp [*])]; try simp [*]) | (simp [*]; rw [st_foldl_str _ _ _ (by intros; (repeat' split)  <;> simp [*])]; try simp [*]) | (simp [*]; (repeat' split)  <;> simp [*]))

@[simp ↓] theorem restoreDieKeys_lan (x1) : (restoreDieKeys x1).lan = x1.lan := by unfold restoreDieKeys; (try dsimp only); (repeat' split)  <;> (first | simp [*] | (rw [st_foldl_lan _ _ _ (by intros; (repeat' split)  <;> simp [*])]; try simp [*]) | (rw [st_foldr_lan _ _ _ (by intros; (repeat' split)  <;> simp [*])]; try simp [*]) | (simp [*]; rw [st_foldl_lan _ _ _ (by intros; (repeat' split)  <;> simp [*])]; try simp [*]) | (simp [*]; (repeat' split)  <;> simp [*]))

@[simp ↓] theorem restoreDieKeys_bb (x1) : (restoreDieKeys x1).bb = x1.bb := by unfold restoreDieKeys; (try dsimp only); (repeat' split)  <;> (first | simp [*] | (rw [st_foldl_bb _ _ _ (by intros; (repeat' split)  <;> simp [*])]; try simp [*]) | (rw [st_foldr_bb _ _ _ (by intros; (repeat' split)  <;> simp [*])]; try simp [*]) | (simp [*]; rw [st_foldl_bb _ _ _ (by intros; (repeat' split)  <;> simp [*])]; try simp [*]) | (simp [*]; (repeat' split)  <;> simp [*]))

@[simp ↓] theorem restoreDieKeys_tim (x1) : (restoreDieKeys x1).tim = x1.tim := by unfold restoreDieKeys; (try dsimp only); (repeat' split)  <;> (first | simp [*] | (rw [st_foldl_tim _ _ _ (by intros; (repeat' split)  <;> simp [*])]; try simp [*]) | (rw [st_foldr_tim _ _ _ (by intros; (repeat' split)  <;> simp [*])]; try simp [*]) | (simp [*]; rw [st_foldl_tim _ _ _ (by intros; (repeat' split)  <;> simp [*])]; try simp [*]) | (simp [*]; (repeat' split)  <;> simp [*]))

@[simp ↓] theorem restoreDieKeys_lcy (x1) : (restoreDieKeys x1).lcy = x1.lcy := by unfold restoreDieKeys; (try dsimp only); (repeat' split)  <;> (first | simp [*] | (rw [st_foldl_lcy _ _ _ (by intros; (repeat' split)  <;> simp [*])]; try simp [*]) | (rw [st_foldr_lcy _ _ _ (by intros; (repeat' split)  <;> simp [*])]; try simp [*]) | (simp [*]; rw [st_foldl_lcy _ _ _ (by intros; (repeat' split)  <;> simp [*])]; try simp [*]) | (simp [*]; (repeat' split)  <;> simp [*]))

@[simp ↓] theorem restoreDieKeys_die (x1) : (restoreDieKeys x1).die = x1.die := by unfold restoreDieKeys; (try dsimp only); (repeat' split)  <;> (first | simp [*] | (rw [st_foldl_die _ _ _ (by intros; (repeat' split)  <;> simp [*])]; try simp [*]) | (rw [st_foldr_die _ _ _ (by intros; (repeat' split)  <;> simp [*])]; try simp [*]) | (simp [*]; rw [st_foldl_die _ _ _ (by intros; (repeat' split)  <;> simp [*])]; try simp [*]) | (simp [*]; (repeat' split)  <;> simp [*]))

@[simp ↓] theorem restoreDieKeys_rng (x1) : (restoreDieKeys x1).rng = x1.rng := by unfold restoreDieKeys; (try dsimp only); (repeat' split)  <;> (first | simp [*] | (rw [st_foldl_rng _ _ _ (by intros; (repeat' split)  <;> simp [*])]; try simp [*]) | (rw [st_foldr_rng _ _ _ (by intros; (repeat' split)  <;> simp [*])]; try simp [*]) | (simp [*]; rw [st_foldl_rng _ _ _ (by intros; (repeat' split)  <;> simp [*])]; try simp [*]) | (simp [*]; (repeat' split)  <;> simp [*]))

@[simp ↓] theorem restoreDieKeys_pke (x1) : (restoreDieKeys x1).pke = x1.pke := by unfold restoreDieKeys; (try dsimp only); (repeat' split)  <;> (first | simp [*] | (rw [st_foldl_pke _ _ _ (by intros; (repeat' split)  <;> simp [*])]; try simp [*]) | (rw [st_foldr_pke _ _ _ (by intros; (repeat' split)  <;> simp [*])]; try simp [*]) | (simp [*]; rw [st_foldl_pke _ _ _ (by intros; (repeat' split)  <;> simp [*])]; try simp [*]) | (simp [*]; (repeat' split)  <;> simp [*]))

@[simp ↓] theorem restoreDieKeys_eng (x1) : (restoreDieKeys x1).eng = x1.eng := by unfold restoreDieKeys; (try dsimp only); (repeat' split)  <;> (first | simp [*] | (rw [st_foldl_eng _ _ _ (by intros; (repeat' split)  <;> simp [*])]; try simp [*]) | (rw [st_foldr_eng _ _ _ (by intros; (repeat' split)  <;> simp [*])]; try simp [*]) | (simp [*]; rw [st_foldl_eng _ _ _ (by intros; (repeat' split)  <;> simp [*])]; try simp [*]) | (simp [*]; (repeat' split)  <;> simp [*]))

@[simp ↓] theorem restoreDieKeys_host (x1) : (restoreDieKeys x1).host = x1.host := by unfold restoreDieKeys; (try dsimp only); (repeat' split)  <;> (first | simp [*] | (rw [st_foldl_host _ _ _ (by intros; (repeat' split)  <;> simp [*])]; try simp [*]) | (rw [st_foldr_host _ _ _ (by intros; (repeat' split)  <;> simp [*])]; try simp [*]) | (simp [*]; rw [st_foldl_host _ _ _ (by intros; (repeat' split)  <;> simp [*])]; try simp [*]) | (simp [*]; (repeat' split)  <;> simp [*]))

@[simp ↓] theorem restoreDieKeys_geo (x1) : (restoreDieKeys x1).geo = x1.geo := by unfold restoreDieKeys; (try dsimp only); (repeat' split)  <;> (first | simp [*] | (rw [st_foldl_geo _ _ _ (by intros; (repeat' split)  <;> simp [*])]; try simp [*]) | (rw [st_foldr_geo _ _ _ (by intros; (repeat' split)  <;> simp [*])]; try simp [*]) | (simp [*]; rw [st_foldl_geo _ _ _ (by intros; (repeat' split)  <;> simp [*])]; try simp [*]) | (simp [*]; (repeat' split)  <;> simp [*]))

@[simp ↓] theorem restoreDieKeys_flash (x1) : (restoreDieKeys x1).flash = x1.flash := by unfold restoreDieKeys; (try dsimp only); (repeat' split)  <;> (first | simp [*] | (rw [st_foldl_flash _ _ _ (by intros; (repeat' split)  <;> simp [*])]; try simp [*]) | (rw [st_foldr_flash _ _ _ (by intros; (repeat' split)  <;> simp [*])]; try simp [*]) | (simp [*]; rw [st_foldl_flash _ _ _ (by intros; (repeat' split)  <;> simp [*])]; try simp [*]) | (simp [*]; (repeat' split)  <;> simp [*]))

@[simp ↓] theorem restoreDieKeys_wld (x1) : (restoreDieKeys x1).wld = x1.wld := by unfold restoreDieKeys; (try dsimp only); (repeat' split)  <;> (first | simp [*] | (rw [st_foldl_wld _ _ _ (by intros; (repeat' split)  <;> simp [*])]; try simp [*]) | (rw [st_foldr_wld _ _ _ (by intros; (repeat' split)  <;> simp [*])]; try simp [*]) | (simp [*]; rw [st_foldl_wld _ _ _ (by intros; (repeat' split)  <;> simp [*])]; try simp [*]) | (simp [*]; (repeat' split)  <;> simp [*]))

@[simp ↓] theorem restoreDieKeys_kar (x1) : (restoreDieKeys x1).kar = x1.kar := by unfold restoreDieKeys; (try dsimp only); (repeat' split)  <;> (first | simp [*] | (rw [st_foldl_kar _ _ _ (by intros; (repeat' split)  <;> simp [*])]; try simp [*]) | (rw [st_foldr_kar _ _ _ (by intros; (repeat' split)  <;> simp [*])]; try simp [*]) | (simp [*]; rw [st_foldl_kar _ _ _ (by intros; (repeat' split)  <;> simp [*])]; try simp [*]) | (simp [*]; (repeat' split)  <;> simp [*]))

@[simp ↓] theorem restoreDieKeys_ctl (x1) : (restoreDieKeys x1).ctl = x1.ctl := by unfold restoreDieKeys; (try dsimp only); (repeat' split)  <;> (first | simp [*] | (rw [st_foldl_ctl _ _ _ (by intros; (repeat' split)  <;> simp [*])]; try simp [*]) | (rw [st_foldr_ctl _ _ _ (by intros; (repeat' split)  <;> simp [*])]; try simp [*]) | (simp [*]; rw [st_foldl_ctl _ _ _ (by intros; (repeat' split)  <;> simp [*])]; try simp [*]) | (simp [*]; (repeat' split)  <;> simp [*]))

@[simp ↓] theorem enterRoot_frame (x1 x2 x3) :
    (enterRoot x1 x2 x3).pending = x1.pending ∧ (enterRoot x1 x2 x3).now = x1.now ∧ (enterRoot x1 x2 x3).out = x1.out ∧ (enterRoot x1 x2 x3).snaps = x1.snaps ∧ (enterRoot x1 x2 x3).id = x1.id ∧ (enterRoot x1 x2 x3).psg = x1.psg ∧ (enterRoot x1 x2 x3).cham = x1.cham ∧ (enterRoot x1 x2 x3).kst = x1.kst ∧ (enterRoot x1 x2 x3).mbx = x1.mbx ∧ (enterRoot x1 x2 x3).str = x1.str ∧ (enterRoot x1 x2 x3).lan = x1.lan ∧ (enterRoot x1 x2 x3).tim = x1.tim ∧ (enterRoot x1 x2 x3).lcy = x1.lcy ∧ (enterRoot x1 x2 x3).rng = x1.rng ∧ (enterRoot x1 x2 x3).pke = x1.pke ∧ (enterRoot x1 x2 x3).eng = x1.eng ∧ (enterRoot x1 x2 x3).host = x1.host ∧ (enterRoot x1 x2 x3).geo = x1.geo ∧ (enterRoot x1 x2 x3).flash = x1.flash ∧ (enterRoot x1 x2 x3).wld = x1.wld ∧ (enterRoot x1 x2 x3).kar = x1.kar ∧ (enterRoot x1 x2 x3).ctl = x1.ctl := by unfold enterRoot; simp

@[simp ↓] theorem drawRoot_frame (x1) :
    (drawRoot x1).pending = x1.pending ∧ (drawRoot x1).now = x1.now ∧ (drawRoot x1).snaps = x1.snaps ∧ (drawRoot x1).id = x1.id ∧ (drawRoot x1).cham = x1.cham ∧ (drawRoot x1).kst = x1.kst ∧ (drawRoot x1).str = x1.str ∧ (drawRoot x1).lan = x1.lan ∧ (drawRoot x1).tim = x1.tim ∧ (drawRoot x1).pke = x1.pke ∧ (drawRoot x1).geo = x1.geo ∧ (drawRoot x1).flash = x1.flash ∧ (drawRoot x1).kar = x1.kar ∧ (drawRoot x1).ctl = x1.ctl := by unfold drawRoot; (try dsimp only); (repeat' split) <;> (try have := draw_frame_of ‹_›) <;> simp [*]

@[simp ↓] theorem adoptRoot_frame (x1) :
    (adoptRoot x1).pending = x1.pending ∧ (adoptRoot x1).now = x1.now ∧ (adoptRoot x1).snaps = x1.snaps ∧ (adoptRoot x1).id = x1.id ∧ (adoptRoot x1).cham = x1.cham ∧ (adoptRoot x1).str = x1.str ∧ (adoptRoot x1).lan = x1.lan ∧ (adoptRoot x1).tim = x1.tim ∧ (adoptRoot x1).pke = x1.pke ∧ (adoptRoot x1).geo = x1.geo ∧ (adoptRoot x1).flash = x1.flash ∧ (adoptRoot x1).kar = x1.kar ∧ (adoptRoot x1).ctl = x1.ctl := by unfold adoptRoot; simp

@[simp ↓] theorem makeIdentity_frame (x1) :
    (makeIdentity x1).pending = x1.pending ∧ (makeIdentity x1).now = x1.now ∧ (makeIdentity x1).out = x1.out ∧ (makeIdentity x1).snaps = x1.snaps ∧ (makeIdentity x1).id = x1.id ∧ (makeIdentity x1).psg = x1.psg ∧ (makeIdentity x1).cham = x1.cham ∧ (makeIdentity x1).kst = x1.kst ∧ (makeIdentity x1).mbx = x1.mbx ∧ (makeIdentity x1).str = x1.str ∧ (makeIdentity x1).lan = x1.lan ∧ (makeIdentity x1).bb = x1.bb ∧ (makeIdentity x1).tim = x1.tim ∧ (makeIdentity x1).lcy = x1.lcy ∧ (makeIdentity x1).rng = x1.rng ∧ (makeIdentity x1).pke = x1.pke ∧ (makeIdentity x1).eng = x1.eng ∧ (makeIdentity x1).host = x1.host ∧ (makeIdentity x1).geo = x1.geo ∧ (makeIdentity x1).flash = x1.flash ∧ (makeIdentity x1).wld = x1.wld ∧ (makeIdentity x1).kar = x1.kar ∧ (makeIdentity x1).ctl = x1.ctl := by unfold makeIdentity; simp

end Sys2Proof.Machine
end

