-- ==== Sys2Proof/Laws/Frames/ChamberOps.lean ====
section
/-!
SUPPORT. What the operations of Machine/ChamberOps.lean leave unchanged: for each, every part of the state that it does not touch.
-/

set_option Elab.async false

set_option linter.all false
set_option maxRecDepth 2000

namespace Sys2Proof.Machine

@[simp ↓] theorem updLink_frame (x1 x2 x3) :
    (updLink x1 x2 x3).pending = x1.pending ∧ (updLink x1 x2 x3).now = x1.now ∧ (updLink x1 x2 x3).fresh = x1.fresh ∧ (updLink x1 x2 x3).out = x1.out ∧ (updLink x1 x2 x3).snaps = x1.snaps ∧ (updLink x1 x2 x3).id = x1.id ∧ (updLink x1 x2 x3).psg = x1.psg ∧ (updLink x1 x2 x3).kst = x1.kst ∧ (updLink x1 x2 x3).mbx = x1.mbx ∧ (updLink x1 x2 x3).str = x1.str ∧ (updLink x1 x2 x3).lan = x1.lan ∧ (updLink x1 x2 x3).bb = x1.bb ∧ (updLink x1 x2 x3).tim = x1.tim ∧ (updLink x1 x2 x3).lcy = x1.lcy ∧ (updLink x1 x2 x3).die = x1.die ∧ (updLink x1 x2 x3).rng = x1.rng ∧ (updLink x1 x2 x3).pke = x1.pke ∧ (updLink x1 x2 x3).eng = x1.eng ∧ (updLink x1 x2 x3).host = x1.host ∧ (updLink x1 x2 x3).geo = x1.geo ∧ (updLink x1 x2 x3).flash = x1.flash ∧ (updLink x1 x2 x3).wld = x1.wld ∧ (updLink x1 x2 x3).kar = x1.kar ∧ (updLink x1 x2 x3).ctl = x1.ctl := by unfold updLink; simp

@[simp ↓] theorem sendMessage_frame (x1 x2 x3) :
    (sendMessage x1 x2 x3).pending = x1.pending ∧ (sendMessage x1 x2 x3).now = x1.now ∧ (sendMessage x1 x2 x3).fresh = x1.fresh ∧ (sendMessage x1 x2 x3).snaps = x1.snaps ∧ (sendMessage x1 x2 x3).id = x1.id ∧ (sendMessage x1 x2 x3).psg = x1.psg ∧ (sendMessage x1 x2 x3).kst = x1.kst ∧ (sendMessage x1 x2 x3).mbx = x1.mbx ∧ (sendMessage x1 x2 x3).str = x1.str ∧ (sendMessage x1 x2 x3).lan = x1.lan ∧ (sendMessage x1 x2 x3).bb = x1.bb ∧ (sendMessage x1 x2 x3).tim = x1.tim ∧ (sendMessage x1 x2 x3).lcy = x1.lcy ∧ (sendMessage x1 x2 x3).die = x1.die ∧ (sendMessage x1 x2 x3).rng = x1.rng ∧ (sendMessage x1 x2 x3).pke = x1.pke ∧ (sendMessage x1 x2 x3).eng = x1.eng ∧ (sendMessage x1 x2 x3).host = x1.host ∧ (sendMessage x1 x2 x3).geo = x1.geo ∧ (sendMessage x1 x2 x3).flash = x1.flash ∧ (sendMessage x1 x2 x3).wld = x1.wld ∧ (sendMessage x1 x2 x3).kar = x1.kar ∧ (sendMessage x1 x2 x3).ctl = x1.ctl := by unfold sendMessage; simp

@[simp ↓] theorem sendPlain_frame (x1 x2 x3) :
    (sendPlain x1 x2 x3).pending = x1.pending ∧ (sendPlain x1 x2 x3).now = x1.now ∧ (sendPlain x1 x2 x3).fresh = x1.fresh ∧ (sendPlain x1 x2 x3).snaps = x1.snaps ∧ (sendPlain x1 x2 x3).id = x1.id ∧ (sendPlain x1 x2 x3).psg = x1.psg ∧ (sendPlain x1 x2 x3).cham = x1.cham ∧ (sendPlain x1 x2 x3).kst = x1.kst ∧ (sendPlain x1 x2 x3).mbx = x1.mbx ∧ (sendPlain x1 x2 x3).str = x1.str ∧ (sendPlain x1 x2 x3).lan = x1.lan ∧ (sendPlain x1 x2 x3).bb = x1.bb ∧ (sendPlain x1 x2 x3).tim = x1.tim ∧ (sendPlain x1 x2 x3).lcy = x1.lcy ∧ (sendPlain x1 x2 x3).die = x1.die ∧ (sendPlain x1 x2 x3).rng = x1.rng ∧ (sendPlain x1 x2 x3).pke = x1.pke ∧ (sendPlain x1 x2 x3).eng = x1.eng ∧ (sendPlain x1 x2 x3).host = x1.host ∧ (sendPlain x1 x2 x3).geo = x1.geo ∧ (sendPlain x1 x2 x3).flash = x1.flash ∧ (sendPlain x1 x2 x3).wld = x1.wld ∧ (sendPlain x1 x2 x3).kar = x1.kar ∧ (sendPlain x1 x2 x3).ctl = x1.ctl := by unfold sendPlain; simp

end Sys2Proof.Machine
end

