-- ==== Sys2Proof/Laws/Frames/Binding.lean ====
section
/-!
SUPPORT. What the operations of Machine/Binding.lean leave unchanged: for each, every part of the state that it does not touch.
-/

set_option Elab.async false

set_option linter.all false
set_option maxRecDepth 2000

namespace Sys2Proof.Machine

@[simp ↓] theorem updPart_frame (x1 x2 x3 x4 x5) :
    (updPart x1 x2 x3 x4 x5).pending = x1.pending ∧ (updPart x1 x2 x3 x4 x5).now = x1.now ∧ (updPart x1 x2 x3 x4 x5).fresh = x1.fresh ∧ (updPart x1 x2 x3 x4 x5).out = x1.out ∧ (updPart x1 x2 x3 x4 x5).snaps = x1.snaps ∧ (updPart x1 x2 x3 x4 x5).id = x1.id ∧ (updPart x1 x2 x3 x4 x5).cham = x1.cham ∧ (updPart x1 x2 x3 x4 x5).kst = x1.kst ∧ (updPart x1 x2 x3 x4 x5).mbx = x1.mbx ∧ (updPart x1 x2 x3 x4 x5).str = x1.str ∧ (updPart x1 x2 x3 x4 x5).lan = x1.lan ∧ (updPart x1 x2 x3 x4 x5).bb = x1.bb ∧ (updPart x1 x2 x3 x4 x5).tim = x1.tim ∧ (updPart x1 x2 x3 x4 x5).lcy = x1.lcy ∧ (updPart x1 x2 x3 x4 x5).die = x1.die ∧ (updPart x1 x2 x3 x4 x5).rng = x1.rng ∧ (updPart x1 x2 x3 x4 x5).pke = x1.pke ∧ (updPart x1 x2 x3 x4 x5).eng = x1.eng ∧ (updPart x1 x2 x3 x4 x5).host = x1.host ∧ (updPart x1 x2 x3 x4 x5).geo = x1.geo ∧ (updPart x1 x2 x3 x4 x5).flash = x1.flash ∧ (updPart x1 x2 x3 x4 x5).wld = x1.wld ∧ (updPart x1 x2 x3 x4 x5).kar = x1.kar ∧ (updPart x1 x2 x3 x4 x5).ctl = x1.ctl := by unfold updPart; simp

@[simp ↓] theorem enterBound_frame (x1 x2) :
    (enterBound x1 x2).pending = x1.pending ∧ (enterBound x1 x2).now = x1.now ∧ (enterBound x1 x2).fresh = x1.fresh ∧ (enterBound x1 x2).out = x1.out ∧ (enterBound x1 x2).snaps = x1.snaps ∧ (enterBound x1 x2).id = x1.id ∧ (enterBound x1 x2).cham = x1.cham ∧ (enterBound x1 x2).kst = x1.kst ∧ (enterBound x1 x2).mbx = x1.mbx ∧ (enterBound x1 x2).str = x1.str ∧ (enterBound x1 x2).lan = x1.lan ∧ (enterBound x1 x2).bb = x1.bb ∧ (enterBound x1 x2).tim = x1.tim ∧ (enterBound x1 x2).lcy = x1.lcy ∧ (enterBound x1 x2).die = x1.die ∧ (enterBound x1 x2).rng = x1.rng ∧ (enterBound x1 x2).eng = x1.eng ∧ (enterBound x1 x2).host = x1.host ∧ (enterBound x1 x2).geo = x1.geo ∧ (enterBound x1 x2).flash = x1.flash ∧ (enterBound x1 x2).wld = x1.wld ∧ (enterBound x1 x2).kar = x1.kar ∧ (enterBound x1 x2).ctl = x1.ctl := by unfold enterBound; simp

@[simp ↓] theorem bindLocally_frame (x1 x2 x3 x4 x5) :
    (bindLocally x1 x2 x3 x4 x5).pending = x1.pending ∧ (bindLocally x1 x2 x3 x4 x5).now = x1.now ∧ (bindLocally x1 x2 x3 x4 x5).fresh = x1.fresh ∧ (bindLocally x1 x2 x3 x4 x5).snaps = x1.snaps ∧ (bindLocally x1 x2 x3 x4 x5).id = x1.id ∧ (bindLocally x1 x2 x3 x4 x5).cham = x1.cham ∧ (bindLocally x1 x2 x3 x4 x5).kst = x1.kst ∧ (bindLocally x1 x2 x3 x4 x5).mbx = x1.mbx ∧ (bindLocally x1 x2 x3 x4 x5).lan = x1.lan ∧ (bindLocally x1 x2 x3 x4 x5).bb = x1.bb ∧ (bindLocally x1 x2 x3 x4 x5).die = x1.die ∧ (bindLocally x1 x2 x3 x4 x5).rng = x1.rng ∧ (bindLocally x1 x2 x3 x4 x5).eng = x1.eng ∧ (bindLocally x1 x2 x3 x4 x5).host = x1.host ∧ (bindLocally x1 x2 x3 x4 x5).geo = x1.geo ∧ (bindLocally x1 x2 x3 x4 x5).flash = x1.flash ∧ (bindLocally x1 x2 x3 x4 x5).kar = x1.kar := by unfold bindLocally; (repeat' split) <;> simp

@[simp ↓] theorem lend_frame (x1 x2 x3 x4 x5 x6) :
    (lend x1 x2 x3 x4 x5 x6).pending = x1.pending ∧ (lend x1 x2 x3 x4 x5 x6).now = x1.now ∧ (lend x1 x2 x3 x4 x5 x6).fresh = x1.fresh ∧ (lend x1 x2 x3 x4 x5 x6).snaps = x1.snaps ∧ (lend x1 x2 x3 x4 x5 x6).id = x1.id ∧ (lend x1 x2 x3 x4 x5 x6).kst = x1.kst ∧ (lend x1 x2 x3 x4 x5 x6).mbx = x1.mbx ∧ (lend x1 x2 x3 x4 x5 x6).str = x1.str ∧ (lend x1 x2 x3 x4 x5 x6).lan = x1.lan ∧ (lend x1 x2 x3 x4 x5 x6).bb = x1.bb ∧ (lend x1 x2 x3 x4 x5 x6).tim = x1.tim ∧ (lend x1 x2 x3 x4 x5 x6).lcy = x1.lcy ∧ (lend x1 x2 x3 x4 x5 x6).die = x1.die ∧ (lend x1 x2 x3 x4 x5 x6).rng = x1.rng ∧ (lend x1 x2 x3 x4 x5 x6).pke = x1.pke ∧ (lend x1 x2 x3 x4 x5 x6).eng = x1.eng ∧ (lend x1 x2 x3 x4 x5 x6).host = x1.host ∧ (lend x1 x2 x3 x4 x5 x6).geo = x1.geo ∧ (lend x1 x2 x3 x4 x5 x6).flash = x1.flash ∧ (lend x1 x2 x3 x4 x5 x6).wld = x1.wld ∧ (lend x1 x2 x3 x4 x5 x6).kar = x1.kar ∧ (lend x1 x2 x3 x4 x5 x6).ctl = x1.ctl := by unfold lend; simp

@[simp ↓] theorem bindPart_frame (x1 x2 x3 x4 x5) :
    (bindPart x1 x2 x3 x4 x5).pending = x1.pending ∧ (bindPart x1 x2 x3 x4 x5).now = x1.now ∧ (bindPart x1 x2 x3 x4 x5).fresh = x1.fresh ∧ (bindPart x1 x2 x3 x4 x5).snaps = x1.snaps ∧ (bindPart x1 x2 x3 x4 x5).id = x1.id ∧ (bindPart x1 x2 x3 x4 x5).kst = x1.kst ∧ (bindPart x1 x2 x3 x4 x5).mbx = x1.mbx ∧ (bindPart x1 x2 x3 x4 x5).lan = x1.lan ∧ (bindPart x1 x2 x3 x4 x5).bb = x1.bb ∧ (bindPart x1 x2 x3 x4 x5).die = x1.die ∧ (bindPart x1 x2 x3 x4 x5).rng = x1.rng ∧ (bindPart x1 x2 x3 x4 x5).eng = x1.eng ∧ (bindPart x1 x2 x3 x4 x5).host = x1.host ∧ (bindPart x1 x2 x3 x4 x5).geo = x1.geo ∧ (bindPart x1 x2 x3 x4 x5).flash = x1.flash ∧ (bindPart x1 x2 x3 x4 x5).kar = x1.kar := by unfold bindPart; (repeat' split) <;> simp

@[simp ↓] theorem bindAgain_frame (x1 x2 x3) :
    (bindAgain x1 x2 x3).pending = x1.pending ∧ (bindAgain x1 x2 x3).now = x1.now ∧ (bindAgain x1 x2 x3).fresh = x1.fresh ∧ (bindAgain x1 x2 x3).snaps = x1.snaps ∧ (bindAgain x1 x2 x3).id = x1.id ∧ (bindAgain x1 x2 x3).kst = x1.kst ∧ (bindAgain x1 x2 x3).mbx = x1.mbx ∧ (bindAgain x1 x2 x3).lan = x1.lan ∧ (bindAgain x1 x2 x3).bb = x1.bb ∧ (bindAgain x1 x2 x3).die = x1.die ∧ (bindAgain x1 x2 x3).rng = x1.rng ∧ (bindAgain x1 x2 x3).eng = x1.eng ∧ (bindAgain x1 x2 x3).host = x1.host ∧ (bindAgain x1 x2 x3).geo = x1.geo ∧ (bindAgain x1 x2 x3).flash = x1.flash ∧ (bindAgain x1 x2 x3).kar = x1.kar := by unfold bindAgain; (repeat' split) <;> simp

@[simp ↓] theorem rebindPart_frame (x1 x2 x3) :
    (rebindPart x1 x2 x3).pending = x1.pending ∧ (rebindPart x1 x2 x3).now = x1.now ∧ (rebindPart x1 x2 x3).fresh = x1.fresh ∧ (rebindPart x1 x2 x3).snaps = x1.snaps ∧ (rebindPart x1 x2 x3).id = x1.id ∧ (rebindPart x1 x2 x3).kst = x1.kst ∧ (rebindPart x1 x2 x3).mbx = x1.mbx ∧ (rebindPart x1 x2 x3).lan = x1.lan ∧ (rebindPart x1 x2 x3).bb = x1.bb ∧ (rebindPart x1 x2 x3).die = x1.die ∧ (rebindPart x1 x2 x3).rng = x1.rng ∧ (rebindPart x1 x2 x3).eng = x1.eng ∧ (rebindPart x1 x2 x3).host = x1.host ∧ (rebindPart x1 x2 x3).geo = x1.geo ∧ (rebindPart x1 x2 x3).flash = x1.flash ∧ (rebindPart x1 x2 x3).kar = x1.kar := by unfold rebindPart; (try dsimp only); (repeat' split)  <;> simp [*]

@[simp ↓] theorem partDone_frame (x1 x2 x3 x4 x5) :
    (partDone x1 x2 x3 x4 x5).pending = x1.pending ∧ (partDone x1 x2 x3 x4 x5).now = x1.now ∧ (partDone x1 x2 x3 x4 x5).fresh = x1.fresh ∧ (partDone x1 x2 x3 x4 x5).out = x1.out ∧ (partDone x1 x2 x3 x4 x5).snaps = x1.snaps ∧ (partDone x1 x2 x3 x4 x5).id = x1.id ∧ (partDone x1 x2 x3 x4 x5).cham = x1.cham ∧ (partDone x1 x2 x3 x4 x5).kst = x1.kst ∧ (partDone x1 x2 x3 x4 x5).mbx = x1.mbx ∧ (partDone x1 x2 x3 x4 x5).str = x1.str ∧ (partDone x1 x2 x3 x4 x5).lan = x1.lan ∧ (partDone x1 x2 x3 x4 x5).bb = x1.bb ∧ (partDone x1 x2 x3 x4 x5).tim = x1.tim ∧ (partDone x1 x2 x3 x4 x5).lcy = x1.lcy ∧ (partDone x1 x2 x3 x4 x5).die = x1.die ∧ (partDone x1 x2 x3 x4 x5).rng = x1.rng ∧ (partDone x1 x2 x3 x4 x5).pke = x1.pke ∧ (partDone x1 x2 x3 x4 x5).eng = x1.eng ∧ (partDone x1 x2 x3 x4 x5).host = x1.host ∧ (partDone x1 x2 x3 x4 x5).geo = x1.geo ∧ (partDone x1 x2 x3 x4 x5).flash = x1.flash ∧ (partDone x1 x2 x3 x4 x5).wld = x1.wld ∧ (partDone x1 x2 x3 x4 x5).kar = x1.kar ∧ (partDone x1 x2 x3 x4 x5).ctl = x1.ctl := by unfold partDone; (repeat' split) <;> simp

end Sys2Proof.Machine
end

