-- ==== Sys2Proof/Laws/Frames/Chamber.lean ====
section
/-!
SUPPORT. What the operations of Machine/Chamber.lean leave unchanged: for each, every part of the state that it does not touch.
-/

set_option Elab.async false

set_option linter.all false
set_option maxRecDepth 2000

namespace Sys2Proof.Machine

@[simp ↓] theorem setEvent_frame (x1 x2) :
    (setEvent x1 x2).pending = x1.pending ∧ (setEvent x1 x2).now = x1.now ∧ (setEvent x1 x2).fresh = x1.fresh ∧ (setEvent x1 x2).out = x1.out ∧ (setEvent x1 x2).snaps = x1.snaps ∧ (setEvent x1 x2).id = x1.id ∧ (setEvent x1 x2).psg = x1.psg ∧ (setEvent x1 x2).kst = x1.kst ∧ (setEvent x1 x2).mbx = x1.mbx ∧ (setEvent x1 x2).str = x1.str ∧ (setEvent x1 x2).lan = x1.lan ∧ (setEvent x1 x2).bb = x1.bb ∧ (setEvent x1 x2).tim = x1.tim ∧ (setEvent x1 x2).lcy = x1.lcy ∧ (setEvent x1 x2).die = x1.die ∧ (setEvent x1 x2).rng = x1.rng ∧ (setEvent x1 x2).pke = x1.pke ∧ (setEvent x1 x2).eng = x1.eng ∧ (setEvent x1 x2).host = x1.host ∧ (setEvent x1 x2).geo = x1.geo ∧ (setEvent x1 x2).flash = x1.flash ∧ (setEvent x1 x2).wld = x1.wld ∧ (setEvent x1 x2).kar = x1.kar ∧ (setEvent x1 x2).ctl = x1.ctl := by unfold setEvent; simp

@[simp ↓] theorem declineLent_frame (x1 x2) :
    (declineLent x1 x2).pending = x1.pending ∧ (declineLent x1 x2).now = x1.now ∧ (declineLent x1 x2).fresh = x1.fresh ∧ (declineLent x1 x2).snaps = x1.snaps ∧ (declineLent x1 x2).id = x1.id ∧ (declineLent x1 x2).kst = x1.kst ∧ (declineLent x1 x2).mbx = x1.mbx ∧ (declineLent x1 x2).lan = x1.lan ∧ (declineLent x1 x2).bb = x1.bb ∧ (declineLent x1 x2).die = x1.die ∧ (declineLent x1 x2).rng = x1.rng ∧ (declineLent x1 x2).eng = x1.eng ∧ (declineLent x1 x2).host = x1.host ∧ (declineLent x1 x2).geo = x1.geo ∧ (declineLent x1 x2).flash = x1.flash ∧ (declineLent x1 x2).kar = x1.kar := by unfold declineLent; simp

@[simp ↓] theorem linkDown_frame (x1 x2 x3) :
    (linkDown x1 x2 x3).pending = x1.pending ∧ (linkDown x1 x2 x3).now = x1.now ∧ (linkDown x1 x2 x3).fresh = x1.fresh ∧ (linkDown x1 x2 x3).snaps = x1.snaps ∧ (linkDown x1 x2 x3).id = x1.id ∧ (linkDown x1 x2 x3).kst = x1.kst ∧ (linkDown x1 x2 x3).mbx = x1.mbx ∧ (linkDown x1 x2 x3).lan = x1.lan ∧ (linkDown x1 x2 x3).bb = x1.bb ∧ (linkDown x1 x2 x3).die = x1.die ∧ (linkDown x1 x2 x3).rng = x1.rng ∧ (linkDown x1 x2 x3).eng = x1.eng ∧ (linkDown x1 x2 x3).host = x1.host ∧ (linkDown x1 x2 x3).geo = x1.geo ∧ (linkDown x1 x2 x3).flash = x1.flash ∧ (linkDown x1 x2 x3).kar = x1.kar := by unfold linkDown; simp

@[simp ↓] theorem refreshLink_frame (x1 x2) :
    (refreshLink x1 x2).pending = x1.pending ∧ (refreshLink x1 x2).now = x1.now ∧ (refreshLink x1 x2).fresh = x1.fresh ∧ (refreshLink x1 x2).snaps = x1.snaps ∧ (refreshLink x1 x2).id = x1.id ∧ (refreshLink x1 x2).kst = x1.kst ∧ (refreshLink x1 x2).mbx = x1.mbx ∧ (refreshLink x1 x2).lan = x1.lan ∧ (refreshLink x1 x2).bb = x1.bb ∧ (refreshLink x1 x2).die = x1.die ∧ (refreshLink x1 x2).rng = x1.rng ∧ (refreshLink x1 x2).eng = x1.eng ∧ (refreshLink x1 x2).host = x1.host ∧ (refreshLink x1 x2).geo = x1.geo ∧ (refreshLink x1 x2).flash = x1.flash ∧ (refreshLink x1 x2).kar = x1.kar := by unfold refreshLink; (repeat' split) <;> simp

@[simp ↓] theorem refreshLinks_frame (x1) :
    (refreshLinks x1).pending = x1.pending ∧ (refreshLinks x1).now = x1.now ∧ (refreshLinks x1).fresh = x1.fresh ∧ (refreshLinks x1).snaps = x1.snaps ∧ (refreshLinks x1).id = x1.id ∧ (refreshLinks x1).kst = x1.kst ∧ (refreshLinks x1).mbx = x1.mbx ∧ (refreshLinks x1).lan = x1.lan ∧ (refreshLinks x1).bb = x1.bb ∧ (refreshLinks x1).die = x1.die ∧ (refreshLinks x1).rng = x1.rng ∧ (refreshLinks x1).eng = x1.eng ∧ (refreshLinks x1).host = x1.host ∧ (refreshLinks x1).geo = x1.geo ∧ (refreshLinks x1).flash = x1.flash ∧ (refreshLinks x1).kar = x1.kar := by unfold refreshLinks; simp

@[simp ↓] theorem handshakeNonce_frame (x1) :
    (handshakeNonce x1).1.pending = x1.pending ∧ (handshakeNonce x1).1.now = x1.now ∧ (handshakeNonce x1).1.fresh = x1.fresh ∧ (handshakeNonce x1).1.snaps = x1.snaps ∧ (handshakeNonce x1).1.id = x1.id ∧ (handshakeNonce x1).1.cham = x1.cham ∧ (handshakeNonce x1).1.kst = x1.kst ∧ (handshakeNonce x1).1.str = x1.str ∧ (handshakeNonce x1).1.lan = x1.lan ∧ (handshakeNonce x1).1.bb = x1.bb ∧ (handshakeNonce x1).1.tim = x1.tim ∧ (handshakeNonce x1).1.die = x1.die ∧ (handshakeNonce x1).1.pke = x1.pke ∧ (handshakeNonce x1).1.geo = x1.geo ∧ (handshakeNonce x1).1.flash = x1.flash ∧ (handshakeNonce x1).1.kar = x1.kar ∧ (handshakeNonce x1).1.ctl = x1.ctl := by fun_cases handshakeNonce <;> (try have := draw_frame_of ‹_›) <;> simp_all

theorem handshakeNonce_frame_of {x1 x t} (h : handshakeNonce x1 = (t, x)) :
    t.pending = x1.pending ∧ t.now = x1.now ∧ t.fresh = x1.fresh ∧ t.snaps = x1.snaps ∧ t.id = x1.id ∧ t.cham = x1.cham ∧ t.kst = x1.kst ∧ t.str = x1.str ∧ t.lan = x1.lan ∧ t.bb = x1.bb ∧ t.tim = x1.tim ∧ t.die = x1.die ∧ t.pke = x1.pke ∧ t.geo = x1.geo ∧ t.flash = x1.flash ∧ t.kar = x1.kar ∧ t.ctl = x1.ctl := by
  have e := handshakeNonce_frame x1; rw [h] at e; exact e

@[simp ↓] theorem startHandshake_frame (x1 x2) :
    (startHandshake x1 x2).pending = x1.pending ∧ (startHandshake x1 x2).now = x1.now ∧ (startHandshake x1 x2).fresh = x1.fresh ∧ (startHandshake x1 x2).snaps = x1.snaps ∧ (startHandshake x1 x2).id = x1.id ∧ (startHandshake x1 x2).kst = x1.kst ∧ (startHandshake x1 x2).str = x1.str ∧ (startHandshake x1 x2).lan = x1.lan ∧ (startHandshake x1 x2).bb = x1.bb ∧ (startHandshake x1 x2).tim = x1.tim ∧ (startHandshake x1 x2).die = x1.die ∧ (startHandshake x1 x2).pke = x1.pke ∧ (startHandshake x1 x2).geo = x1.geo ∧ (startHandshake x1 x2).flash = x1.flash ∧ (startHandshake x1 x2).kar = x1.kar ∧ (startHandshake x1 x2).ctl = x1.ctl := by unfold startHandshake; dsimp only; (repeat' split) <;> (try have := handshakeNonce_frame_of ‹_›) <;> simp [*]

@[simp ↓] theorem helloArrives_frame (x1 x2 x3 x4 x5) :
    (helloArrives x1 x2 x3 x4 x5).pending = x1.pending ∧ (helloArrives x1 x2 x3 x4 x5).now = x1.now ∧ (helloArrives x1 x2 x3 x4 x5).fresh = x1.fresh ∧ (helloArrives x1 x2 x3 x4 x5).snaps = x1.snaps ∧ (helloArrives x1 x2 x3 x4 x5).id = x1.id ∧ (helloArrives x1 x2 x3 x4 x5).kst = x1.kst ∧ (helloArrives x1 x2 x3 x4 x5).str = x1.str ∧ (helloArrives x1 x2 x3 x4 x5).lan = x1.lan ∧ (helloArrives x1 x2 x3 x4 x5).bb = x1.bb ∧ (helloArrives x1 x2 x3 x4 x5).tim = x1.tim ∧ (helloArrives x1 x2 x3 x4 x5).die = x1.die ∧ (helloArrives x1 x2 x3 x4 x5).pke = x1.pke ∧ (helloArrives x1 x2 x3 x4 x5).geo = x1.geo ∧ (helloArrives x1 x2 x3 x4 x5).flash = x1.flash ∧ (helloArrives x1 x2 x3 x4 x5).kar = x1.kar ∧ (helloArrives x1 x2 x3 x4 x5).ctl = x1.ctl := by unfold helloArrives; dsimp only; (repeat' split)  <;> simp [*]

@[simp ↓] theorem proofArrives_frame (x1 x2 x3) :
    (proofArrives x1 x2 x3).pending = x1.pending ∧ (proofArrives x1 x2 x3).now = x1.now ∧ (proofArrives x1 x2 x3).fresh = x1.fresh ∧ (proofArrives x1 x2 x3).out = x1.out ∧ (proofArrives x1 x2 x3).snaps = x1.snaps ∧ (proofArrives x1 x2 x3).id = x1.id ∧ (proofArrives x1 x2 x3).psg = x1.psg ∧ (proofArrives x1 x2 x3).kst = x1.kst ∧ (proofArrives x1 x2 x3).mbx = x1.mbx ∧ (proofArrives x1 x2 x3).str = x1.str ∧ (proofArrives x1 x2 x3).lan = x1.lan ∧ (proofArrives x1 x2 x3).bb = x1.bb ∧ (proofArrives x1 x2 x3).tim = x1.tim ∧ (proofArrives x1 x2 x3).lcy = x1.lcy ∧ (proofArrives x1 x2 x3).die = x1.die ∧ (proofArrives x1 x2 x3).rng = x1.rng ∧ (proofArrives x1 x2 x3).pke = x1.pke ∧ (proofArrives x1 x2 x3).eng = x1.eng ∧ (proofArrives x1 x2 x3).host = x1.host ∧ (proofArrives x1 x2 x3).geo = x1.geo ∧ (proofArrives x1 x2 x3).flash = x1.flash ∧ (proofArrives x1 x2 x3).wld = x1.wld ∧ (proofArrives x1 x2 x3).kar = x1.kar ∧ (proofArrives x1 x2 x3).ctl = x1.ctl := by unfold proofArrives; simp

@[simp ↓] theorem discardMessage_frame (x1) :
    (discardMessage x1).pending = x1.pending ∧ (discardMessage x1).now = x1.now ∧ (discardMessage x1).fresh = x1.fresh ∧ (discardMessage x1).out = x1.out ∧ (discardMessage x1).snaps = x1.snaps ∧ (discardMessage x1).id = x1.id ∧ (discardMessage x1).psg = x1.psg ∧ (discardMessage x1).kst = x1.kst ∧ (discardMessage x1).mbx = x1.mbx ∧ (discardMessage x1).str = x1.str ∧ (discardMessage x1).lan = x1.lan ∧ (discardMessage x1).bb = x1.bb ∧ (discardMessage x1).tim = x1.tim ∧ (discardMessage x1).lcy = x1.lcy ∧ (discardMessage x1).die = x1.die ∧ (discardMessage x1).rng = x1.rng ∧ (discardMessage x1).pke = x1.pke ∧ (discardMessage x1).eng = x1.eng ∧ (discardMessage x1).host = x1.host ∧ (discardMessage x1).geo = x1.geo ∧ (discardMessage x1).flash = x1.flash ∧ (discardMessage x1).wld = x1.wld ∧ (discardMessage x1).kar = x1.kar ∧ (discardMessage x1).ctl = x1.ctl := by unfold discardMessage; simp

@[simp ↓] theorem setPairOk_frame (x1 x2 x3) :
    (setPairOk x1 x2 x3).pending = x1.pending ∧ (setPairOk x1 x2 x3).now = x1.now ∧ (setPairOk x1 x2 x3).fresh = x1.fresh ∧ (setPairOk x1 x2 x3).out = x1.out ∧ (setPairOk x1 x2 x3).snaps = x1.snaps ∧ (setPairOk x1 x2 x3).id = x1.id ∧ (setPairOk x1 x2 x3).cham = x1.cham ∧ (setPairOk x1 x2 x3).kst = x1.kst ∧ (setPairOk x1 x2 x3).mbx = x1.mbx ∧ (setPairOk x1 x2 x3).lan = x1.lan ∧ (setPairOk x1 x2 x3).bb = x1.bb ∧ (setPairOk x1 x2 x3).tim = x1.tim ∧ (setPairOk x1 x2 x3).lcy = x1.lcy ∧ (setPairOk x1 x2 x3).die = x1.die ∧ (setPairOk x1 x2 x3).rng = x1.rng ∧ (setPairOk x1 x2 x3).pke = x1.pke ∧ (setPairOk x1 x2 x3).eng = x1.eng ∧ (setPairOk x1 x2 x3).host = x1.host ∧ (setPairOk x1 x2 x3).geo = x1.geo ∧ (setPairOk x1 x2 x3).flash = x1.flash ∧ (setPairOk x1 x2 x3).wld = x1.wld ∧ (setPairOk x1 x2 x3).kar = x1.kar ∧ (setPairOk x1 x2 x3).ctl = x1.ctl := by unfold setPairOk; simp

@[simp ↓] theorem pairAnswered_frame (x1 x2 x3 x4 x5) :
    (pairAnswered x1 x2 x3 x4 x5).pending = x1.pending ∧ (pairAnswered x1 x2 x3 x4 x5).now = x1.now ∧ (pairAnswered x1 x2 x3 x4 x5).fresh = x1.fresh ∧ (pairAnswered x1 x2 x3 x4 x5).out = x1.out ∧ (pairAnswered x1 x2 x3 x4 x5).snaps = x1.snaps ∧ (pairAnswered x1 x2 x3 x4 x5).id = x1.id ∧ (pairAnswered x1 x2 x3 x4 x5).cham = x1.cham ∧ (pairAnswered x1 x2 x3 x4 x5).kst = x1.kst ∧ (pairAnswered x1 x2 x3 x4 x5).mbx = x1.mbx ∧ (pairAnswered x1 x2 x3 x4 x5).lan = x1.lan ∧ (pairAnswered x1 x2 x3 x4 x5).bb = x1.bb ∧ (pairAnswered x1 x2 x3 x4 x5).tim = x1.tim ∧ (pairAnswered x1 x2 x3 x4 x5).lcy = x1.lcy ∧ (pairAnswered x1 x2 x3 x4 x5).die = x1.die ∧ (pairAnswered x1 x2 x3 x4 x5).rng = x1.rng ∧ (pairAnswered x1 x2 x3 x4 x5).pke = x1.pke ∧ (pairAnswered x1 x2 x3 x4 x5).eng = x1.eng ∧ (pairAnswered x1 x2 x3 x4 x5).host = x1.host ∧ (pairAnswered x1 x2 x3 x4 x5).geo = x1.geo ∧ (pairAnswered x1 x2 x3 x4 x5).flash = x1.flash ∧ (pairAnswered x1 x2 x3 x4 x5).wld = x1.wld ∧ (pairAnswered x1 x2 x3 x4 x5).kar = x1.kar ∧ (pairAnswered x1 x2 x3 x4 x5).ctl = x1.ctl := by unfold pairAnswered; simp

@[simp ↓] theorem checkPair_frame (x1 x2) :
    (checkPair x1 x2).pending = x1.pending ∧ (checkPair x1 x2).now = x1.now ∧ (checkPair x1 x2).fresh = x1.fresh ∧ (checkPair x1 x2).snaps = x1.snaps ∧ (checkPair x1 x2).id = x1.id ∧ (checkPair x1 x2).kst = x1.kst ∧ (checkPair x1 x2).mbx = x1.mbx ∧ (checkPair x1 x2).lan = x1.lan ∧ (checkPair x1 x2).bb = x1.bb ∧ (checkPair x1 x2).tim = x1.tim ∧ (checkPair x1 x2).lcy = x1.lcy ∧ (checkPair x1 x2).die = x1.die ∧ (checkPair x1 x2).rng = x1.rng ∧ (checkPair x1 x2).pke = x1.pke ∧ (checkPair x1 x2).eng = x1.eng ∧ (checkPair x1 x2).host = x1.host ∧ (checkPair x1 x2).geo = x1.geo ∧ (checkPair x1 x2).flash = x1.flash ∧ (checkPair x1 x2).wld = x1.wld ∧ (checkPair x1 x2).kar = x1.kar ∧ (checkPair x1 x2).ctl = x1.ctl := by unfold checkPair; dsimp only; (repeat' split)  <;> simp [*]

@[simp ↓] theorem pairAnswerArrives_frame (x1 x2 x3 x4 x5) :
    (pairAnswerArrives x1 x2 x3 x4 x5).pending = x1.pending ∧ (pairAnswerArrives x1 x2 x3 x4 x5).now = x1.now ∧ (pairAnswerArrives x1 x2 x3 x4 x5).fresh = x1.fresh ∧ (pairAnswerArrives x1 x2 x3 x4 x5).out = x1.out ∧ (pairAnswerArrives x1 x2 x3 x4 x5).snaps = x1.snaps ∧ (pairAnswerArrives x1 x2 x3 x4 x5).id = x1.id ∧ (pairAnswerArrives x1 x2 x3 x4 x5).cham = x1.cham ∧ (pairAnswerArrives x1 x2 x3 x4 x5).kst = x1.kst ∧ (pairAnswerArrives x1 x2 x3 x4 x5).mbx = x1.mbx ∧ (pairAnswerArrives x1 x2 x3 x4 x5).lan = x1.lan ∧ (pairAnswerArrives x1 x2 x3 x4 x5).bb = x1.bb ∧ (pairAnswerArrives x1 x2 x3 x4 x5).tim = x1.tim ∧ (pairAnswerArrives x1 x2 x3 x4 x5).lcy = x1.lcy ∧ (pairAnswerArrives x1 x2 x3 x4 x5).die = x1.die ∧ (pairAnswerArrives x1 x2 x3 x4 x5).rng = x1.rng ∧ (pairAnswerArrives x1 x2 x3 x4 x5).pke = x1.pke ∧ (pairAnswerArrives x1 x2 x3 x4 x5).eng = x1.eng ∧ (pairAnswerArrives x1 x2 x3 x4 x5).host = x1.host ∧ (pairAnswerArrives x1 x2 x3 x4 x5).geo = x1.geo ∧ (pairAnswerArrives x1 x2 x3 x4 x5).flash = x1.flash ∧ (pairAnswerArrives x1 x2 x3 x4 x5).wld = x1.wld ∧ (pairAnswerArrives x1 x2 x3 x4 x5).kar = x1.kar ∧ (pairAnswerArrives x1 x2 x3 x4 x5).ctl = x1.ctl := by unfold pairAnswerArrives; simp

@[simp ↓] theorem answerLent_frame (x1 x2 x3 x4) :
    (answerLent x1 x2 x3 x4).pending = x1.pending ∧ (answerLent x1 x2 x3 x4).now = x1.now ∧ (answerLent x1 x2 x3 x4).fresh = x1.fresh ∧ (answerLent x1 x2 x3 x4).snaps = x1.snaps ∧ (answerLent x1 x2 x3 x4).id = x1.id ∧ (answerLent x1 x2 x3 x4).psg = x1.psg ∧ (answerLent x1 x2 x3 x4).kst = x1.kst ∧ (answerLent x1 x2 x3 x4).mbx = x1.mbx ∧ (answerLent x1 x2 x3 x4).str = x1.str ∧ (answerLent x1 x2 x3 x4).lan = x1.lan ∧ (answerLent x1 x2 x3 x4).bb = x1.bb ∧ (answerLent x1 x2 x3 x4).tim = x1.tim ∧ (answerLent x1 x2 x3 x4).lcy = x1.lcy ∧ (answerLent x1 x2 x3 x4).die = x1.die ∧ (answerLent x1 x2 x3 x4).rng = x1.rng ∧ (answerLent x1 x2 x3 x4).pke = x1.pke ∧ (answerLent x1 x2 x3 x4).eng = x1.eng ∧ (answerLent x1 x2 x3 x4).host = x1.host ∧ (answerLent x1 x2 x3 x4).geo = x1.geo ∧ (answerLent x1 x2 x3 x4).flash = x1.flash ∧ (answerLent x1 x2 x3 x4).wld = x1.wld ∧ (answerLent x1 x2 x3 x4).kar = x1.kar ∧ (answerLent x1 x2 x3 x4).ctl = x1.ctl := by unfold answerLent; simp

@[simp ↓] theorem lentArrives_frame (x1 x2 x3 x4 x5 x6 x7 x8 x9) :
    (lentArrives x1 x2 x3 x4 x5 x6 x7 x8 x9).pending = x1.pending ∧ (lentArrives x1 x2 x3 x4 x5 x6 x7 x8 x9).now = x1.now ∧ (lentArrives x1 x2 x3 x4 x5 x6 x7 x8 x9).fresh = x1.fresh ∧ (lentArrives x1 x2 x3 x4 x5 x6 x7 x8 x9).snaps = x1.snaps ∧ (lentArrives x1 x2 x3 x4 x5 x6 x7 x8 x9).id = x1.id ∧ (lentArrives x1 x2 x3 x4 x5 x6 x7 x8 x9).kst = x1.kst ∧ (lentArrives x1 x2 x3 x4 x5 x6 x7 x8 x9).mbx = x1.mbx ∧ (lentArrives x1 x2 x3 x4 x5 x6 x7 x8 x9).str = x1.str ∧ (lentArrives x1 x2 x3 x4 x5 x6 x7 x8 x9).lan = x1.lan ∧ (lentArrives x1 x2 x3 x4 x5 x6 x7 x8 x9).bb = x1.bb ∧ (lentArrives x1 x2 x3 x4 x5 x6 x7 x8 x9).tim = x1.tim ∧ (lentArrives x1 x2 x3 x4 x5 x6 x7 x8 x9).lcy = x1.lcy ∧ (lentArrives x1 x2 x3 x4 x5 x6 x7 x8 x9).die = x1.die ∧ (lentArrives x1 x2 x3 x4 x5 x6 x7 x8 x9).rng = x1.rng ∧ (lentArrives x1 x2 x3 x4 x5 x6 x7 x8 x9).eng = x1.eng ∧ (lentArrives x1 x2 x3 x4 x5 x6 x7 x8 x9).host = x1.host ∧ (lentArrives x1 x2 x3 x4 x5 x6 x7 x8 x9).geo = x1.geo ∧ (lentArrives x1 x2 x3 x4 x5 x6 x7 x8 x9).flash = x1.flash ∧ (lentArrives x1 x2 x3 x4 x5 x6 x7 x8 x9).wld = x1.wld ∧ (lentArrives x1 x2 x3 x4 x5 x6 x7 x8 x9).kar = x1.kar ∧ (lentArrives x1 x2 x3 x4 x5 x6 x7 x8 x9).ctl = x1.ctl := by unfold lentArrives; dsimp only; (repeat' split)  <;> simp [*]

@[simp ↓] theorem answeredPart_frame (x1 x2 x3 x4) :
    (answeredPart x1 x2 x3 x4).pending = x1.pending ∧ (answeredPart x1 x2 x3 x4).now = x1.now ∧ (answeredPart x1 x2 x3 x4).fresh = x1.fresh ∧ (answeredPart x1 x2 x3 x4).snaps = x1.snaps ∧ (answeredPart x1 x2 x3 x4).id = x1.id ∧ (answeredPart x1 x2 x3 x4).kst = x1.kst ∧ (answeredPart x1 x2 x3 x4).mbx = x1.mbx ∧ (answeredPart x1 x2 x3 x4).lan = x1.lan ∧ (answeredPart x1 x2 x3 x4).bb = x1.bb ∧ (answeredPart x1 x2 x3 x4).die = x1.die ∧ (answeredPart x1 x2 x3 x4).rng = x1.rng ∧ (answeredPart x1 x2 x3 x4).pke = x1.pke ∧ (answeredPart x1 x2 x3 x4).eng = x1.eng ∧ (answeredPart x1 x2 x3 x4).host = x1.host ∧ (answeredPart x1 x2 x3 x4).geo = x1.geo ∧ (answeredPart x1 x2 x3 x4).flash = x1.flash ∧ (answeredPart x1 x2 x3 x4).kar = x1.kar := by unfold answeredPart; (repeat' split) <;> simp

@[simp ↓] theorem lentAnswerArrives_frame (x1 x2 x3 x4) :
    (lentAnswerArrives x1 x2 x3 x4).pending = x1.pending ∧ (lentAnswerArrives x1 x2 x3 x4).now = x1.now ∧ (lentAnswerArrives x1 x2 x3 x4).fresh = x1.fresh ∧ (lentAnswerArrives x1 x2 x3 x4).snaps = x1.snaps ∧ (lentAnswerArrives x1 x2 x3 x4).id = x1.id ∧ (lentAnswerArrives x1 x2 x3 x4).kst = x1.kst ∧ (lentAnswerArrives x1 x2 x3 x4).mbx = x1.mbx ∧ (lentAnswerArrives x1 x2 x3 x4).lan = x1.lan ∧ (lentAnswerArrives x1 x2 x3 x4).bb = x1.bb ∧ (lentAnswerArrives x1 x2 x3 x4).die = x1.die ∧ (lentAnswerArrives x1 x2 x3 x4).rng = x1.rng ∧ (lentAnswerArrives x1 x2 x3 x4).eng = x1.eng ∧ (lentAnswerArrives x1 x2 x3 x4).host = x1.host ∧ (lentAnswerArrives x1 x2 x3 x4).geo = x1.geo ∧ (lentAnswerArrives x1 x2 x3 x4).flash = x1.flash ∧ (lentAnswerArrives x1 x2 x3 x4).kar = x1.kar := by unfold lentAnswerArrives; (repeat' split) <;> simp

@[simp ↓] theorem messageEffect_frame (x1 x2 x3) :
    (messageEffect x1 x2 x3).pending = x1.pending ∧ (messageEffect x1 x2 x3).now = x1.now ∧ (messageEffect x1 x2 x3).fresh = x1.fresh ∧ (messageEffect x1 x2 x3).snaps = x1.snaps ∧ (messageEffect x1 x2 x3).id = x1.id ∧ (messageEffect x1 x2 x3).kst = x1.kst ∧ (messageEffect x1 x2 x3).mbx = x1.mbx ∧ (messageEffect x1 x2 x3).lan = x1.lan ∧ (messageEffect x1 x2 x3).bb = x1.bb ∧ (messageEffect x1 x2 x3).die = x1.die ∧ (messageEffect x1 x2 x3).rng = x1.rng ∧ (messageEffect x1 x2 x3).eng = x1.eng ∧ (messageEffect x1 x2 x3).host = x1.host ∧ (messageEffect x1 x2 x3).geo = x1.geo ∧ (messageEffect x1 x2 x3).flash = x1.flash ∧ (messageEffect x1 x2 x3).kar = x1.kar := by unfold messageEffect; (repeat' split) <;> simp

@[simp ↓] theorem receiveMessage_frame (x1 x2 x3 x4 x5) :
    (receiveMessage x1 x2 x3 x4 x5).pending = x1.pending ∧ (receiveMessage x1 x2 x3 x4 x5).now = x1.now ∧ (receiveMessage x1 x2 x3 x4 x5).fresh = x1.fresh ∧ (receiveMessage x1 x2 x3 x4 x5).snaps = x1.snaps ∧ (receiveMessage x1 x2 x3 x4 x5).id = x1.id ∧ (receiveMessage x1 x2 x3 x4 x5).kst = x1.kst ∧ (receiveMessage x1 x2 x3 x4 x5).lan = x1.lan ∧ (receiveMessage x1 x2 x3 x4 x5).bb = x1.bb ∧ (receiveMessage x1 x2 x3 x4 x5).die = x1.die ∧ (receiveMessage x1 x2 x3 x4 x5).geo = x1.geo ∧ (receiveMessage x1 x2 x3 x4 x5).flash = x1.flash ∧ (receiveMessage x1 x2 x3 x4 x5).kar = x1.kar := by unfold receiveMessage; (repeat' split) <;> simp

@[simp ↓] theorem writeChamberCfg_frame (x1 x2) :
    (writeChamberCfg x1 x2).pending = x1.pending ∧ (writeChamberCfg x1 x2).now = x1.now ∧ (writeChamberCfg x1 x2).fresh = x1.fresh ∧ (writeChamberCfg x1 x2).snaps = x1.snaps ∧ (writeChamberCfg x1 x2).id = x1.id ∧ (writeChamberCfg x1 x2).kst = x1.kst ∧ (writeChamberCfg x1 x2).mbx = x1.mbx ∧ (writeChamberCfg x1 x2).lan = x1.lan ∧ (writeChamberCfg x1 x2).bb = x1.bb ∧ (writeChamberCfg x1 x2).die = x1.die ∧ (writeChamberCfg x1 x2).rng = x1.rng ∧ (writeChamberCfg x1 x2).eng = x1.eng ∧ (writeChamberCfg x1 x2).host = x1.host ∧ (writeChamberCfg x1 x2).geo = x1.geo ∧ (writeChamberCfg x1 x2).flash = x1.flash ∧ (writeChamberCfg x1 x2).kar = x1.kar := by unfold writeChamberCfg; simp

end Sys2Proof.Machine
end

