-- ==== Sys2Proof/Laws/Frames/Digests.lean ====
section
/-!
SUPPORT. What the operations of Machine/Digests.lean leave unchanged: for each, every part of the state that it does not touch.
-/

set_option Elab.async false

set_option linter.all false
set_option maxRecDepth 2000

namespace Sys2Proof.Machine

@[simp ↓] theorem takeCtx_frame (x1 x2 x3 x4) :
    (takeCtx x1 x2 x3 x4).pending = x1.pending ∧ (takeCtx x1 x2 x3 x4).now = x1.now ∧ (takeCtx x1 x2 x3 x4).fresh = x1.fresh ∧ (takeCtx x1 x2 x3 x4).out = x1.out ∧ (takeCtx x1 x2 x3 x4).snaps = x1.snaps ∧ (takeCtx x1 x2 x3 x4).id = x1.id ∧ (takeCtx x1 x2 x3 x4).psg = x1.psg ∧ (takeCtx x1 x2 x3 x4).cham = x1.cham ∧ (takeCtx x1 x2 x3 x4).kst = x1.kst ∧ (takeCtx x1 x2 x3 x4).mbx = x1.mbx ∧ (takeCtx x1 x2 x3 x4).str = x1.str ∧ (takeCtx x1 x2 x3 x4).lan = x1.lan ∧ (takeCtx x1 x2 x3 x4).bb = x1.bb ∧ (takeCtx x1 x2 x3 x4).tim = x1.tim ∧ (takeCtx x1 x2 x3 x4).lcy = x1.lcy ∧ (takeCtx x1 x2 x3 x4).die = x1.die ∧ (takeCtx x1 x2 x3 x4).rng = x1.rng ∧ (takeCtx x1 x2 x3 x4).pke = x1.pke ∧ (takeCtx x1 x2 x3 x4).host = x1.host ∧ (takeCtx x1 x2 x3 x4).geo = x1.geo ∧ (takeCtx x1 x2 x3 x4).flash = x1.flash ∧ (takeCtx x1 x2 x3 x4).wld = x1.wld ∧ (takeCtx x1 x2 x3 x4).kar = x1.kar ∧ (takeCtx x1 x2 x3 x4).ctl = x1.ctl := by unfold takeCtx; simp

@[simp ↓] theorem settleDigest_frame (x1 x2) :
    (settleDigest x1 x2).pending = x1.pending ∧ (settleDigest x1 x2).now = x1.now ∧ (settleDigest x1 x2).fresh = x1.fresh ∧ (settleDigest x1 x2).out = x1.out ∧ (settleDigest x1 x2).snaps = x1.snaps ∧ (settleDigest x1 x2).psg = x1.psg ∧ (settleDigest x1 x2).cham = x1.cham ∧ (settleDigest x1 x2).kst = x1.kst ∧ (settleDigest x1 x2).mbx = x1.mbx ∧ (settleDigest x1 x2).str = x1.str ∧ (settleDigest x1 x2).lan = x1.lan ∧ (settleDigest x1 x2).bb = x1.bb ∧ (settleDigest x1 x2).tim = x1.tim ∧ (settleDigest x1 x2).lcy = x1.lcy ∧ (settleDigest x1 x2).die = x1.die ∧ (settleDigest x1 x2).rng = x1.rng ∧ (settleDigest x1 x2).pke = x1.pke ∧ (settleDigest x1 x2).host = x1.host ∧ (settleDigest x1 x2).geo = x1.geo ∧ (settleDigest x1 x2).flash = x1.flash ∧ (settleDigest x1 x2).wld = x1.wld ∧ (settleDigest x1 x2).kar = x1.kar ∧ (settleDigest x1 x2).ctl = x1.ctl := by unfold settleDigest; simp

@[simp ↓] theorem freeContext_frame (x1 x2 x3) :
    (freeContext x1 x2 x3).pending = x1.pending ∧ (freeContext x1 x2 x3).now = x1.now ∧ (freeContext x1 x2 x3).fresh = x1.fresh ∧ (freeContext x1 x2 x3).out = x1.out ∧ (freeContext x1 x2 x3).snaps = x1.snaps ∧ (freeContext x1 x2 x3).psg = x1.psg ∧ (freeContext x1 x2 x3).cham = x1.cham ∧ (freeContext x1 x2 x3).kst = x1.kst ∧ (freeContext x1 x2 x3).mbx = x1.mbx ∧ (freeContext x1 x2 x3).str = x1.str ∧ (freeContext x1 x2 x3).lan = x1.lan ∧ (freeContext x1 x2 x3).bb = x1.bb ∧ (freeContext x1 x2 x3).tim = x1.tim ∧ (freeContext x1 x2 x3).lcy = x1.lcy ∧ (freeContext x1 x2 x3).die = x1.die ∧ (freeContext x1 x2 x3).rng = x1.rng ∧ (freeContext x1 x2 x3).pke = x1.pke ∧ (freeContext x1 x2 x3).host = x1.host ∧ (freeContext x1 x2 x3).geo = x1.geo ∧ (freeContext x1 x2 x3).flash = x1.flash ∧ (freeContext x1 x2 x3).wld = x1.wld ∧ (freeContext x1 x2 x3).kar = x1.kar ∧ (freeContext x1 x2 x3).ctl = x1.ctl := by unfold freeContext; simp

@[simp ↓] theorem freeDelivered_frame (x1) :
    (freeDelivered x1).pending = x1.pending ∧ (freeDelivered x1).now = x1.now ∧ (freeDelivered x1).fresh = x1.fresh ∧ (freeDelivered x1).out = x1.out ∧ (freeDelivered x1).snaps = x1.snaps ∧ (freeDelivered x1).psg = x1.psg ∧ (freeDelivered x1).cham = x1.cham ∧ (freeDelivered x1).kst = x1.kst ∧ (freeDelivered x1).mbx = x1.mbx ∧ (freeDelivered x1).str = x1.str ∧ (freeDelivered x1).lan = x1.lan ∧ (freeDelivered x1).bb = x1.bb ∧ (freeDelivered x1).tim = x1.tim ∧ (freeDelivered x1).lcy = x1.lcy ∧ (freeDelivered x1).die = x1.die ∧ (freeDelivered x1).rng = x1.rng ∧ (freeDelivered x1).pke = x1.pke ∧ (freeDelivered x1).host = x1.host ∧ (freeDelivered x1).geo = x1.geo ∧ (freeDelivered x1).flash = x1.flash ∧ (freeDelivered x1).wld = x1.wld ∧ (freeDelivered x1).kar = x1.kar ∧ (freeDelivered x1).ctl = x1.ctl := by unfold freeDelivered; simp

@[simp ↓] theorem assignPassage_frame (x1) :
    (assignPassage x1).pending = x1.pending ∧ (assignPassage x1).now = x1.now ∧ (assignPassage x1).fresh = x1.fresh ∧ (assignPassage x1).snaps = x1.snaps ∧ (assignPassage x1).id = x1.id ∧ (assignPassage x1).cham = x1.cham ∧ (assignPassage x1).kst = x1.kst ∧ (assignPassage x1).mbx = x1.mbx ∧ (assignPassage x1).lan = x1.lan ∧ (assignPassage x1).bb = x1.bb ∧ (assignPassage x1).die = x1.die ∧ (assignPassage x1).rng = x1.rng ∧ (assignPassage x1).pke = x1.pke ∧ (assignPassage x1).host = x1.host ∧ (assignPassage x1).geo = x1.geo ∧ (assignPassage x1).flash = x1.flash ∧ (assignPassage x1).kar = x1.kar := by unfold assignPassage; dsimp only; (repeat' split)  <;> simp [*]

@[simp ↓] theorem endPassage_frame (x1 x2 x3) :
    (endPassage x1 x2 x3).pending = x1.pending ∧ (endPassage x1 x2 x3).now = x1.now ∧ (endPassage x1 x2 x3).fresh = x1.fresh ∧ (endPassage x1 x2 x3).snaps = x1.snaps ∧ (endPassage x1 x2 x3).id = x1.id ∧ (endPassage x1 x2 x3).kst = x1.kst ∧ (endPassage x1 x2 x3).mbx = x1.mbx ∧ (endPassage x1 x2 x3).lan = x1.lan ∧ (endPassage x1 x2 x3).bb = x1.bb ∧ (endPassage x1 x2 x3).die = x1.die ∧ (endPassage x1 x2 x3).rng = x1.rng ∧ (endPassage x1 x2 x3).eng = x1.eng ∧ (endPassage x1 x2 x3).host = x1.host ∧ (endPassage x1 x2 x3).geo = x1.geo ∧ (endPassage x1 x2 x3).flash = x1.flash ∧ (endPassage x1 x2 x3).kar = x1.kar := by unfold endPassage; dsimp only; (repeat' split)  <;> simp [*]

@[simp ↓] theorem unwait_frame (x1 x2) :
    (unwait x1 x2).pending = x1.pending ∧ (unwait x1 x2).now = x1.now ∧ (unwait x1 x2).fresh = x1.fresh ∧ (unwait x1 x2).out = x1.out ∧ (unwait x1 x2).snaps = x1.snaps ∧ (unwait x1 x2).id = x1.id ∧ (unwait x1 x2).psg = x1.psg ∧ (unwait x1 x2).cham = x1.cham ∧ (unwait x1 x2).kst = x1.kst ∧ (unwait x1 x2).mbx = x1.mbx ∧ (unwait x1 x2).str = x1.str ∧ (unwait x1 x2).lan = x1.lan ∧ (unwait x1 x2).bb = x1.bb ∧ (unwait x1 x2).tim = x1.tim ∧ (unwait x1 x2).lcy = x1.lcy ∧ (unwait x1 x2).die = x1.die ∧ (unwait x1 x2).rng = x1.rng ∧ (unwait x1 x2).eng = x1.eng ∧ (unwait x1 x2).host = x1.host ∧ (unwait x1 x2).geo = x1.geo ∧ (unwait x1 x2).flash = x1.flash ∧ (unwait x1 x2).wld = x1.wld ∧ (unwait x1 x2).kar = x1.kar ∧ (unwait x1 x2).ctl = x1.ctl := by unfold unwait; simp

@[simp ↓] theorem failPkeDigest_frame (x1 x2 x3) :
    (failPkeDigest x1 x2 x3).pending = x1.pending ∧ (failPkeDigest x1 x2 x3).now = x1.now ∧ (failPkeDigest x1 x2 x3).fresh = x1.fresh ∧ (failPkeDigest x1 x2 x3).snaps = x1.snaps ∧ (failPkeDigest x1 x2 x3).id = x1.id ∧ (failPkeDigest x1 x2 x3).psg = x1.psg ∧ (failPkeDigest x1 x2 x3).cham = x1.cham ∧ (failPkeDigest x1 x2 x3).kst = x1.kst ∧ (failPkeDigest x1 x2 x3).lan = x1.lan ∧ (failPkeDigest x1 x2 x3).bb = x1.bb ∧ (failPkeDigest x1 x2 x3).tim = x1.tim ∧ (failPkeDigest x1 x2 x3).lcy = x1.lcy ∧ (failPkeDigest x1 x2 x3).die = x1.die ∧ (failPkeDigest x1 x2 x3).rng = x1.rng ∧ (failPkeDigest x1 x2 x3).geo = x1.geo ∧ (failPkeDigest x1 x2 x3).flash = x1.flash ∧ (failPkeDigest x1 x2 x3).kar = x1.kar := by unfold failPkeDigest; (repeat' split) <;> simp

@[simp ↓] theorem endPkeDigest_frame (x1 x2 x3) :
    (endPkeDigest x1 x2 x3).pending = x1.pending ∧ (endPkeDigest x1 x2 x3).now = x1.now ∧ (endPkeDigest x1 x2 x3).fresh = x1.fresh ∧ (endPkeDigest x1 x2 x3).out = x1.out ∧ (endPkeDigest x1 x2 x3).snaps = x1.snaps ∧ (endPkeDigest x1 x2 x3).id = x1.id ∧ (endPkeDigest x1 x2 x3).psg = x1.psg ∧ (endPkeDigest x1 x2 x3).cham = x1.cham ∧ (endPkeDigest x1 x2 x3).kst = x1.kst ∧ (endPkeDigest x1 x2 x3).mbx = x1.mbx ∧ (endPkeDigest x1 x2 x3).str = x1.str ∧ (endPkeDigest x1 x2 x3).lan = x1.lan ∧ (endPkeDigest x1 x2 x3).bb = x1.bb ∧ (endPkeDigest x1 x2 x3).tim = x1.tim ∧ (endPkeDigest x1 x2 x3).lcy = x1.lcy ∧ (endPkeDigest x1 x2 x3).die = x1.die ∧ (endPkeDigest x1 x2 x3).rng = x1.rng ∧ (endPkeDigest x1 x2 x3).host = x1.host ∧ (endPkeDigest x1 x2 x3).geo = x1.geo ∧ (endPkeDigest x1 x2 x3).flash = x1.flash ∧ (endPkeDigest x1 x2 x3).wld = x1.wld ∧ (endPkeDigest x1 x2 x3).kar = x1.kar ∧ (endPkeDigest x1 x2 x3).ctl = x1.ctl := by unfold endPkeDigest; (repeat' split) <;> simp

@[simp ↓] theorem unwaitDigest_frame (x1 x2) :
    (unwaitDigest x1 x2).pending = x1.pending ∧ (unwaitDigest x1 x2).now = x1.now ∧ (unwaitDigest x1 x2).fresh = x1.fresh ∧ (unwaitDigest x1 x2).out = x1.out ∧ (unwaitDigest x1 x2).snaps = x1.snaps ∧ (unwaitDigest x1 x2).id = x1.id ∧ (unwaitDigest x1 x2).psg = x1.psg ∧ (unwaitDigest x1 x2).cham = x1.cham ∧ (unwaitDigest x1 x2).kst = x1.kst ∧ (unwaitDigest x1 x2).mbx = x1.mbx ∧ (unwaitDigest x1 x2).str = x1.str ∧ (unwaitDigest x1 x2).lan = x1.lan ∧ (unwaitDigest x1 x2).bb = x1.bb ∧ (unwaitDigest x1 x2).tim = x1.tim ∧ (unwaitDigest x1 x2).lcy = x1.lcy ∧ (unwaitDigest x1 x2).die = x1.die ∧ (unwaitDigest x1 x2).rng = x1.rng ∧ (unwaitDigest x1 x2).pke = x1.pke ∧ (unwaitDigest x1 x2).host = x1.host ∧ (unwaitDigest x1 x2).geo = x1.geo ∧ (unwaitDigest x1 x2).flash = x1.flash ∧ (unwaitDigest x1 x2).wld = x1.wld ∧ (unwaitDigest x1 x2).kar = x1.kar ∧ (unwaitDigest x1 x2).ctl = x1.ctl := by unfold unwaitDigest; simp

@[simp ↓] theorem beginDigest_frame (x1 x2 x3 x4 x5 x6) :
    (beginDigest x1 x2 x3 x4 x5 x6).pending = x1.pending ∧ (beginDigest x1 x2 x3 x4 x5 x6).now = x1.now ∧ (beginDigest x1 x2 x3 x4 x5 x6).fresh = x1.fresh ∧ (beginDigest x1 x2 x3 x4 x5 x6).out = x1.out ∧ (beginDigest x1 x2 x3 x4 x5 x6).snaps = x1.snaps ∧ (beginDigest x1 x2 x3 x4 x5 x6).id = x1.id ∧ (beginDigest x1 x2 x3 x4 x5 x6).psg = x1.psg ∧ (beginDigest x1 x2 x3 x4 x5 x6).cham = x1.cham ∧ (beginDigest x1 x2 x3 x4 x5 x6).mbx = x1.mbx ∧ (beginDigest x1 x2 x3 x4 x5 x6).str = x1.str ∧ (beginDigest x1 x2 x3 x4 x5 x6).lan = x1.lan ∧ (beginDigest x1 x2 x3 x4 x5 x6).bb = x1.bb ∧ (beginDigest x1 x2 x3 x4 x5 x6).tim = x1.tim ∧ (beginDigest x1 x2 x3 x4 x5 x6).lcy = x1.lcy ∧ (beginDigest x1 x2 x3 x4 x5 x6).die = x1.die ∧ (beginDigest x1 x2 x3 x4 x5 x6).rng = x1.rng ∧ (beginDigest x1 x2 x3 x4 x5 x6).pke = x1.pke ∧ (beginDigest x1 x2 x3 x4 x5 x6).host = x1.host ∧ (beginDigest x1 x2 x3 x4 x5 x6).geo = x1.geo ∧ (beginDigest x1 x2 x3 x4 x5 x6).flash = x1.flash ∧ (beginDigest x1 x2 x3 x4 x5 x6).wld = x1.wld ∧ (beginDigest x1 x2 x3 x4 x5 x6).kar = x1.kar ∧ (beginDigest x1 x2 x3 x4 x5 x6).ctl = x1.ctl := by unfold beginDigest; (try dsimp only); (repeat' split)  <;> simp [*]

@[simp ↓] theorem assignService_pending (x1 x2 x3 x4) : (assignService x1 x2 x3 x4).pending = x4.pending := by
  induction x3 generalizing x4 with
  | nil => simp [assignService]
  | cons d t ih => unfold assignService; dsimp only; (repeat' split) <;> simp [*]

@[simp ↓] theorem assignService_now (x1 x2 x3 x4) : (assignService x1 x2 x3 x4).now = x4.now := by
  induction x3 generalizing x4 with
  | nil => simp [assignService]
  | cons d t ih => unfold assignService; dsimp only; (repeat' split) <;> simp [*]

@[simp ↓] theorem assignService_fresh (x1 x2 x3 x4) : (assignService x1 x2 x3 x4).fresh = x4.fresh := by
  induction x3 generalizing x4 with
  | nil => simp [assignService]
  | cons d t ih => unfold assignService; dsimp only; (repeat' split) <;> simp [*]

@[simp ↓] theorem assignService_snaps (x1 x2 x3 x4) : (assignService x1 x2 x3 x4).snaps = x4.snaps := by
  induction x3 generalizing x4 with
  | nil => simp [assignService]
  | cons d t ih => unfold assignService; dsimp only; (repeat' split) <;> simp [*]

@[simp ↓] theorem assignService_id (x1 x2 x3 x4) : (assignService x1 x2 x3 x4).id = x4.id := by
  induction x3 generalizing x4 with
  | nil => simp [assignService]
  | cons d t ih => unfold assignService; dsimp only; (repeat' split) <;> simp [*]

@[simp ↓] theorem assignService_cham (x1 x2 x3 x4) : (assignService x1 x2 x3 x4).cham = x4.cham := by
  induction x3 generalizing x4 with
  | nil => simp [assignService]
  | cons d t ih => unfold assignService; dsimp only; (repeat' split) <;> simp [*]

@[simp ↓] theorem assignService_lan (x1 x2 x3 x4) : (assignService x1 x2 x3 x4).lan = x4.lan := by
  induction x3 generalizing x4 with
  | nil => simp [assignService]
  | cons d t ih => unfold assignService; dsimp only; (repeat' split) <;> simp [*]

@[simp ↓] theorem assignService_bb (x1 x2 x3 x4) : (assignService x1 x2 x3 x4).bb = x4.bb := by
  induction x3 generalizing x4 with
  | nil => simp [assignService]
  | cons d t ih => unfold assignService; dsimp only; (repeat' split) <;> simp [*]

@[simp ↓] theorem assignService_tim (x1 x2 x3 x4) : (assignService x1 x2 x3 x4).tim = x4.tim := by
  induction x3 generalizing x4 with
  | nil => simp [assignService]
  | cons d t ih => unfold assignService; dsimp only; (repeat' split) <;> simp [*]

@[simp ↓] theorem assignService_lcy (x1 x2 x3 x4) : (assignService x1 x2 x3 x4).lcy = x4.lcy := by
  induction x3 generalizing x4 with
  | nil => simp [assignService]
  | cons d t ih => unfold assignService; dsimp only; (repeat' split) <;> simp [*]

@[simp ↓] theorem assignService_die (x1 x2 x3 x4) : (assignService x1 x2 x3 x4).die = x4.die := by
  induction x3 generalizing x4 with
  | nil => simp [assignService]
  | cons d t ih => unfold assignService; dsimp only; (repeat' split) <;> simp [*]

@[simp ↓] theorem assignService_rng (x1 x2 x3 x4) : (assignService x1 x2 x3 x4).rng = x4.rng := by
  induction x3 generalizing x4 with
  | nil => simp [assignService]
  | cons d t ih => unfold assignService; dsimp only; (repeat' split) <;> simp [*]

@[simp ↓] theorem assignService_geo (x1 x2 x3 x4) : (assignService x1 x2 x3 x4).geo = x4.geo := by
  induction x3 generalizing x4 with
  | nil => simp [assignService]
  | cons d t ih => unfold assignService; dsimp only; (repeat' split) <;> simp [*]

@[simp ↓] theorem assignService_flash (x1 x2 x3 x4) : (assignService x1 x2 x3 x4).flash = x4.flash := by
  induction x3 generalizing x4 with
  | nil => simp [assignService]
  | cons d t ih => unfold assignService; dsimp only; (repeat' split) <;> simp [*]

@[simp ↓] theorem assignService_kar (x1 x2 x3 x4) : (assignService x1 x2 x3 x4).kar = x4.kar := by
  induction x3 generalizing x4 with
  | nil => simp [assignService]
  | cons d t ih => unfold assignService; dsimp only; (repeat' split) <;> simp [*]

@[simp ↓] theorem failService_frame (x1 x2 x3 x4 x5 x6) :
    (failService x1 x2 x3 x4 x5 x6).pending = x1.pending ∧ (failService x1 x2 x3 x4 x5 x6).now = x1.now ∧ (failService x1 x2 x3 x4 x5 x6).fresh = x1.fresh ∧ (failService x1 x2 x3 x4 x5 x6).snaps = x1.snaps ∧ (failService x1 x2 x3 x4 x5 x6).psg = x1.psg ∧ (failService x1 x2 x3 x4 x5 x6).cham = x1.cham ∧ (failService x1 x2 x3 x4 x5 x6).kst = x1.kst ∧ (failService x1 x2 x3 x4 x5 x6).lan = x1.lan ∧ (failService x1 x2 x3 x4 x5 x6).bb = x1.bb ∧ (failService x1 x2 x3 x4 x5 x6).tim = x1.tim ∧ (failService x1 x2 x3 x4 x5 x6).lcy = x1.lcy ∧ (failService x1 x2 x3 x4 x5 x6).die = x1.die ∧ (failService x1 x2 x3 x4 x5 x6).rng = x1.rng ∧ (failService x1 x2 x3 x4 x5 x6).geo = x1.geo ∧ (failService x1 x2 x3 x4 x5 x6).flash = x1.flash ∧ (failService x1 x2 x3 x4 x5 x6).kar = x1.kar := by unfold failService; simp

@[simp ↓] theorem endService_frame (x1 x2 x3 x4 x5) :
    (endService x1 x2 x3 x4 x5).pending = x1.pending ∧ (endService x1 x2 x3 x4 x5).now = x1.now ∧ (endService x1 x2 x3 x4 x5).snaps = x1.snaps ∧ (endService x1 x2 x3 x4 x5).psg = x1.psg ∧ (endService x1 x2 x3 x4 x5).cham = x1.cham ∧ (endService x1 x2 x3 x4 x5).lan = x1.lan ∧ (endService x1 x2 x3 x4 x5).bb = x1.bb ∧ (endService x1 x2 x3 x4 x5).tim = x1.tim ∧ (endService x1 x2 x3 x4 x5).lcy = x1.lcy ∧ (endService x1 x2 x3 x4 x5).rng = x1.rng ∧ (endService x1 x2 x3 x4 x5).flash = x1.flash ∧ (endService x1 x2 x3 x4 x5).kar = x1.kar := by unfold endService; simp

@[simp ↓] theorem startBlock_frame (x1 x2) :
    (startBlock x1 x2).pending = x1.pending ∧ (startBlock x1 x2).now = x1.now ∧ (startBlock x1 x2).fresh = x1.fresh ∧ (startBlock x1 x2).out = x1.out ∧ (startBlock x1 x2).snaps = x1.snaps ∧ (startBlock x1 x2).id = x1.id ∧ (startBlock x1 x2).psg = x1.psg ∧ (startBlock x1 x2).cham = x1.cham ∧ (startBlock x1 x2).kst = x1.kst ∧ (startBlock x1 x2).mbx = x1.mbx ∧ (startBlock x1 x2).str = x1.str ∧ (startBlock x1 x2).lan = x1.lan ∧ (startBlock x1 x2).bb = x1.bb ∧ (startBlock x1 x2).tim = x1.tim ∧ (startBlock x1 x2).lcy = x1.lcy ∧ (startBlock x1 x2).die = x1.die ∧ (startBlock x1 x2).rng = x1.rng ∧ (startBlock x1 x2).pke = x1.pke ∧ (startBlock x1 x2).host = x1.host ∧ (startBlock x1 x2).geo = x1.geo ∧ (startBlock x1 x2).flash = x1.flash ∧ (startBlock x1 x2).wld = x1.wld ∧ (startBlock x1 x2).kar = x1.kar ∧ (startBlock x1 x2).ctl = x1.ctl := by unfold startBlock; dsimp only; (repeat' split)  <;> simp [*]

@[simp ↓] theorem finishBlock_frame (x1 x2) :
    (finishBlock x1 x2).pending = x1.pending ∧ (finishBlock x1 x2).now = x1.now ∧ (finishBlock x1 x2).fresh = x1.fresh ∧ (finishBlock x1 x2).out = x1.out ∧ (finishBlock x1 x2).snaps = x1.snaps ∧ (finishBlock x1 x2).id = x1.id ∧ (finishBlock x1 x2).psg = x1.psg ∧ (finishBlock x1 x2).cham = x1.cham ∧ (finishBlock x1 x2).kst = x1.kst ∧ (finishBlock x1 x2).mbx = x1.mbx ∧ (finishBlock x1 x2).str = x1.str ∧ (finishBlock x1 x2).lan = x1.lan ∧ (finishBlock x1 x2).bb = x1.bb ∧ (finishBlock x1 x2).tim = x1.tim ∧ (finishBlock x1 x2).lcy = x1.lcy ∧ (finishBlock x1 x2).die = x1.die ∧ (finishBlock x1 x2).rng = x1.rng ∧ (finishBlock x1 x2).pke = x1.pke ∧ (finishBlock x1 x2).host = x1.host ∧ (finishBlock x1 x2).geo = x1.geo ∧ (finishBlock x1 x2).flash = x1.flash ∧ (finishBlock x1 x2).wld = x1.wld ∧ (finishBlock x1 x2).kar = x1.kar ∧ (finishBlock x1 x2).ctl = x1.ctl := by unfold finishBlock; (repeat' split) <;> simp

@[simp ↓] theorem endAborted_pending (x1 x2) : (endAborted x1 x2).pending = x1.pending := by unfold endAborted; apply st_foldl_pending; intros; (repeat' split)  <;> simp [*]

@[simp ↓] theorem endAborted_now (x1 x2) : (endAborted x1 x2).now = x1.now := by unfold endAborted; apply st_foldl_now; intros; (repeat' split)  <;> simp [*]

@[simp ↓] theorem endAborted_fresh (x1 x2) : (endAborted x1 x2).fresh = x1.fresh := by unfold endAborted; apply st_foldl_fresh; intros; (repeat' split)  <;> simp [*]

@[simp ↓] theorem endAborted_snaps (x1 x2) : (endAborted x1 x2).snaps = x1.snaps := by unfold endAborted; apply st_foldl_snaps; intros; (repeat' split)  <;> simp [*]

@[simp ↓] theorem endAborted_psg (x1 x2) : (endAborted x1 x2).psg = x1.psg := by unfold endAborted; apply st_foldl_psg; intros; (repeat' split)  <;> simp [*]

@[simp ↓] theorem endAborted_cham (x1 x2) : (endAborted x1 x2).cham = x1.cham := by unfold endAborted; apply st_foldl_cham; intros; (repeat' split)  <;> simp [*]

@[simp ↓] theorem endAborted_kst (x1 x2) : (endAborted x1 x2).kst = x1.kst := by unfold endAborted; apply st_foldl_kst; intros; (repeat' split)  <;> simp [*]

@[simp ↓] theorem endAborted_lan (x1 x2) : (endAborted x1 x2).lan = x1.lan := by unfold endAborted; apply st_foldl_lan; intros; (repeat' split)  <;> simp [*]

@[simp ↓] theorem endAborted_bb (x1 x2) : (endAborted x1 x2).bb = x1.bb := by unfold endAborted; apply st_foldl_bb; intros; (repeat' split)  <;> simp [*]

@[simp ↓] theorem endAborted_tim (x1 x2) : (endAborted x1 x2).tim = x1.tim := by unfold endAborted; apply st_foldl_tim; intros; (repeat' split)  <;> simp [*]

@[simp ↓] theorem endAborted_lcy (x1 x2) : (endAborted x1 x2).lcy = x1.lcy := by unfold endAborted; apply st_foldl_lcy; intros; (repeat' split)  <;> simp [*]

@[simp ↓] theorem endAborted_die (x1 x2) : (endAborted x1 x2).die = x1.die := by unfold endAborted; apply st_foldl_die; intros; (repeat' split)  <;> simp [*]

@[simp ↓] theorem endAborted_rng (x1 x2) : (endAborted x1 x2).rng = x1.rng := by unfold endAborted; apply st_foldl_rng; intros; (repeat' split)  <;> simp [*]

@[simp ↓] theorem endAborted_geo (x1 x2) : (endAborted x1 x2).geo = x1.geo := by unfold endAborted; apply st_foldl_geo; intros; (repeat' split)  <;> simp [*]

@[simp ↓] theorem endAborted_flash (x1 x2) : (endAborted x1 x2).flash = x1.flash := by unfold endAborted; apply st_foldl_flash; intros; (repeat' split)  <;> simp [*]

@[simp ↓] theorem endAborted_kar (x1 x2) : (endAborted x1 x2).kar = x1.kar := by unfold endAborted; apply st_foldl_kar; intros; (repeat' split)  <;> simp [*]

theorem abortDigest_frame_of {x1 x2 x3}{t} (h : (Sys2Proof.Machine.abortDigest x1 x2 x3) = some t) :
    t.pending = x1.pending ∧ t.now = x1.now ∧ t.fresh = x1.fresh ∧ t.snaps = x1.snaps ∧ t.id = x1.id ∧ t.psg = x1.psg ∧ t.cham = x1.cham ∧ t.kst = x1.kst ∧ t.lan = x1.lan ∧ t.bb = x1.bb ∧ t.tim = x1.tim ∧ t.lcy = x1.lcy ∧ t.die = x1.die ∧ t.rng = x1.rng ∧ t.pke = x1.pke ∧ t.geo = x1.geo ∧ t.flash = x1.flash ∧ t.kar = x1.kar := by unfold abortDigest at h; dsimp only at h; (repeat' split at h)  <;> (first | contradiction | (cases h; simp [*]) | (simp only [Option.map_eq_some_iff, Option.bind_eq_some_iff] at h; obtain ⟨_, _, rfl⟩ := h; simp [*]))

@[simp ↓] theorem retestDigest_frame (x1 x2) :
    (retestDigest x1 x2).pending = x1.pending ∧ (retestDigest x1 x2).now = x1.now ∧ (retestDigest x1 x2).fresh = x1.fresh ∧ (retestDigest x1 x2).out = x1.out ∧ (retestDigest x1 x2).snaps = x1.snaps ∧ (retestDigest x1 x2).psg = x1.psg ∧ (retestDigest x1 x2).cham = x1.cham ∧ (retestDigest x1 x2).kst = x1.kst ∧ (retestDigest x1 x2).mbx = x1.mbx ∧ (retestDigest x1 x2).str = x1.str ∧ (retestDigest x1 x2).lan = x1.lan ∧ (retestDigest x1 x2).bb = x1.bb ∧ (retestDigest x1 x2).tim = x1.tim ∧ (retestDigest x1 x2).lcy = x1.lcy ∧ (retestDigest x1 x2).die = x1.die ∧ (retestDigest x1 x2).rng = x1.rng ∧ (retestDigest x1 x2).pke = x1.pke ∧ (retestDigest x1 x2).host = x1.host ∧ (retestDigest x1 x2).geo = x1.geo ∧ (retestDigest x1 x2).flash = x1.flash ∧ (retestDigest x1 x2).wld = x1.wld ∧ (retestDigest x1 x2).kar = x1.kar ∧ (retestDigest x1 x2).ctl = x1.ctl := by unfold retestDigest; simp

@[simp ↓] theorem takeDigestOffline_frame (x1 x2) :
    (takeDigestOffline x1 x2).pending = x1.pending ∧ (takeDigestOffline x1 x2).now = x1.now ∧ (takeDigestOffline x1 x2).fresh = x1.fresh ∧ (takeDigestOffline x1 x2).out = x1.out ∧ (takeDigestOffline x1 x2).snaps = x1.snaps ∧ (takeDigestOffline x1 x2).psg = x1.psg ∧ (takeDigestOffline x1 x2).cham = x1.cham ∧ (takeDigestOffline x1 x2).kst = x1.kst ∧ (takeDigestOffline x1 x2).mbx = x1.mbx ∧ (takeDigestOffline x1 x2).str = x1.str ∧ (takeDigestOffline x1 x2).lan = x1.lan ∧ (takeDigestOffline x1 x2).bb = x1.bb ∧ (takeDigestOffline x1 x2).tim = x1.tim ∧ (takeDigestOffline x1 x2).lcy = x1.lcy ∧ (takeDigestOffline x1 x2).die = x1.die ∧ (takeDigestOffline x1 x2).rng = x1.rng ∧ (takeDigestOffline x1 x2).pke = x1.pke ∧ (takeDigestOffline x1 x2).host = x1.host ∧ (takeDigestOffline x1 x2).geo = x1.geo ∧ (takeDigestOffline x1 x2).flash = x1.flash ∧ (takeDigestOffline x1 x2).wld = x1.wld ∧ (takeDigestOffline x1 x2).kar = x1.kar ∧ (takeDigestOffline x1 x2).ctl = x1.ctl := by unfold takeDigestOffline; simp

@[simp ↓] theorem clearContexts_pending (x1 x2 x3 x4) : (clearContexts x1 x2 x3 x4).pending = x1.pending := by unfold clearContexts; dsimp only; apply Eq.trans (st_foldl_pending _ _ _ (by intros; (repeat' split)  <;> simp [*])); (repeat' split)  <;> simp [*]

@[simp ↓] theorem clearContexts_now (x1 x2 x3 x4) : (clearContexts x1 x2 x3 x4).now = x1.now := by unfold clearContexts; dsimp only; apply Eq.trans (st_foldl_now _ _ _ (by intros; (repeat' split)  <;> simp [*])); (repeat' split)  <;> simp [*]

@[simp ↓] theorem clearContexts_fresh (x1 x2 x3 x4) : (clearContexts x1 x2 x3 x4).fresh = x1.fresh := by unfold clearContexts; dsimp only; apply Eq.trans (st_foldl_fresh _ _ _ (by intros; (repeat' split)  <;> simp [*])); (repeat' split)  <;> simp [*]

@[simp ↓] theorem clearContexts_snaps (x1 x2 x3 x4) : (clearContexts x1 x2 x3 x4).snaps = x1.snaps := by unfold clearContexts; dsimp only; apply Eq.trans (st_foldl_snaps _ _ _ (by intros; (repeat' split)  <;> simp [*])); (repeat' split)  <;> simp [*]

@[simp ↓] theorem clearContexts_cham (x1 x2 x3 x4) : (clearContexts x1 x2 x3 x4).cham = x1.cham := by unfold clearContexts; dsimp only; apply Eq.trans (st_foldl_cham _ _ _ (by intros; (repeat' split)  <;> simp [*])); (repeat' split)  <;> simp [*]

@[simp ↓] theorem clearContexts_kst (x1 x2 x3 x4) : (clearContexts x1 x2 x3 x4).kst = x1.kst := by unfold clearContexts; dsimp only; apply Eq.trans (st_foldl_kst _ _ _ (by intros; (repeat' split)  <;> simp [*])); (repeat' split)  <;> simp [*]

@[simp ↓] theorem clearContexts_lan (x1 x2 x3 x4) : (clearContexts x1 x2 x3 x4).lan = x1.lan := by unfold clearContexts; dsimp only; apply Eq.trans (st_foldl_lan _ _ _ (by intros; (repeat' split)  <;> simp [*])); (repeat' split)  <;> simp [*]

@[simp ↓] theorem clearContexts_bb (x1 x2 x3 x4) : (clearContexts x1 x2 x3 x4).bb = x1.bb := by unfold clearContexts; dsimp only; apply Eq.trans (st_foldl_bb _ _ _ (by intros; (repeat' split)  <;> simp [*])); (repeat' split)  <;> simp [*]

@[simp ↓] theorem clearContexts_tim (x1 x2 x3 x4) : (clearContexts x1 x2 x3 x4).tim = x1.tim := by unfold clearContexts; dsimp only; apply Eq.trans (st_foldl_tim _ _ _ (by intros; (repeat' split)  <;> simp [*])); (repeat' split)  <;> simp [*]

@[simp ↓] theorem clearContexts_lcy (x1 x2 x3 x4) : (clearContexts x1 x2 x3 x4).lcy = x1.lcy := by unfold clearContexts; dsimp only; apply Eq.trans (st_foldl_lcy _ _ _ (by intros; (repeat' split)  <;> simp [*])); (repeat' split)  <;> simp [*]

@[simp ↓] theorem clearContexts_die (x1 x2 x3 x4) : (clearContexts x1 x2 x3 x4).die = x1.die := by unfold clearContexts; dsimp only; apply Eq.trans (st_foldl_die _ _ _ (by intros; (repeat' split)  <;> simp [*])); (repeat' split)  <;> simp [*]

@[simp ↓] theorem clearContexts_rng (x1 x2 x3 x4) : (clearContexts x1 x2 x3 x4).rng = x1.rng := by unfold clearContexts; dsimp only; apply Eq.trans (st_foldl_rng _ _ _ (by intros; (repeat' split)  <;> simp [*])); (repeat' split)  <;> simp [*]

@[simp ↓] theorem clearContexts_geo (x1 x2 x3 x4) : (clearContexts x1 x2 x3 x4).geo = x1.geo := by unfold clearContexts; dsimp only; apply Eq.trans (st_foldl_geo _ _ _ (by intros; (repeat' split)  <;> simp [*])); (repeat' split)  <;> simp [*]

@[simp ↓] theorem clearContexts_flash (x1 x2 x3 x4) : (clearContexts x1 x2 x3 x4).flash = x1.flash := by unfold clearContexts; dsimp only; apply Eq.trans (st_foldl_flash _ _ _ (by intros; (repeat' split)  <;> simp [*])); (repeat' split)  <;> simp [*]

@[simp ↓] theorem clearContexts_kar (x1 x2 x3 x4) : (clearContexts x1 x2 x3 x4).kar = x1.kar := by unfold clearContexts; dsimp only; apply Eq.trans (st_foldl_kar _ _ _ (by intros; (repeat' split)  <;> simp [*])); (repeat' split)  <;> simp [*]

@[simp ↓] theorem failDigest_frame (x1 x2) :
    (failDigest x1 x2).pending = x1.pending ∧ (failDigest x1 x2).now = x1.now ∧ (failDigest x1 x2).fresh = x1.fresh ∧ (failDigest x1 x2).snaps = x1.snaps ∧ (failDigest x1 x2).cham = x1.cham ∧ (failDigest x1 x2).kst = x1.kst ∧ (failDigest x1 x2).bb = x1.bb ∧ (failDigest x1 x2).tim = x1.tim ∧ (failDigest x1 x2).lcy = x1.lcy ∧ (failDigest x1 x2).die = x1.die ∧ (failDigest x1 x2).rng = x1.rng ∧ (failDigest x1 x2).geo = x1.geo ∧ (failDigest x1 x2).flash = x1.flash ∧ (failDigest x1 x2).kar = x1.kar := by unfold failDigest; simp

@[simp ↓] theorem suspendDigests_frame (x1) :
    (suspendDigests x1).pending = x1.pending ∧ (suspendDigests x1).now = x1.now ∧ (suspendDigests x1).fresh = x1.fresh ∧ (suspendDigests x1).snaps = x1.snaps ∧ (suspendDigests x1).cham = x1.cham ∧ (suspendDigests x1).kst = x1.kst ∧ (suspendDigests x1).lan = x1.lan ∧ (suspendDigests x1).bb = x1.bb ∧ (suspendDigests x1).tim = x1.tim ∧ (suspendDigests x1).lcy = x1.lcy ∧ (suspendDigests x1).die = x1.die ∧ (suspendDigests x1).rng = x1.rng ∧ (suspendDigests x1).geo = x1.geo ∧ (suspendDigests x1).flash = x1.flash ∧ (suspendDigests x1).kar = x1.kar := by unfold suspendDigests; simp

@[simp ↓] theorem failEngine_frame (x1 x2 x3) :
    (failEngine x1 x2 x3).pending = x1.pending ∧ (failEngine x1 x2 x3).now = x1.now ∧ (failEngine x1 x2 x3).fresh = x1.fresh ∧ (failEngine x1 x2 x3).snaps = x1.snaps ∧ (failEngine x1 x2 x3).cham = x1.cham ∧ (failEngine x1 x2 x3).kst = x1.kst ∧ (failEngine x1 x2 x3).bb = x1.bb ∧ (failEngine x1 x2 x3).tim = x1.tim ∧ (failEngine x1 x2 x3).lcy = x1.lcy ∧ (failEngine x1 x2 x3).die = x1.die ∧ (failEngine x1 x2 x3).rng = x1.rng ∧ (failEngine x1 x2 x3).geo = x1.geo ∧ (failEngine x1 x2 x3).flash = x1.flash ∧ (failEngine x1 x2 x3).kar = x1.kar := by unfold failEngine; (repeat' split) <;> simp

end Sys2Proof.Machine
end

