-- ==== Sys2Proof/Laws/Frames/Pke.lean ====
section
/-!
SUPPORT. What the operations of Machine/Pke.lean leave unchanged: for each, every part of the state that it does not touch.
-/

set_option Elab.async false

set_option linter.all false
set_option maxRecDepth 2000

namespace Sys2Proof.Machine

@[simp ↓] theorem stageDraw_frame (x1 x2 x3 x4) :
    (stageDraw x1 x2 x3 x4).1.pending = x1.pending ∧ (stageDraw x1 x2 x3 x4).1.now = x1.now ∧ (stageDraw x1 x2 x3 x4).1.fresh = x1.fresh ∧ (stageDraw x1 x2 x3 x4).1.snaps = x1.snaps ∧ (stageDraw x1 x2 x3 x4).1.id = x1.id ∧ (stageDraw x1 x2 x3 x4).1.cham = x1.cham ∧ (stageDraw x1 x2 x3 x4).1.kst = x1.kst ∧ (stageDraw x1 x2 x3 x4).1.str = x1.str ∧ (stageDraw x1 x2 x3 x4).1.lan = x1.lan ∧ (stageDraw x1 x2 x3 x4).1.bb = x1.bb ∧ (stageDraw x1 x2 x3 x4).1.tim = x1.tim ∧ (stageDraw x1 x2 x3 x4).1.die = x1.die ∧ (stageDraw x1 x2 x3 x4).1.pke = x1.pke ∧ (stageDraw x1 x2 x3 x4).1.geo = x1.geo ∧ (stageDraw x1 x2 x3 x4).1.flash = x1.flash ∧ (stageDraw x1 x2 x3 x4).1.kar = x1.kar ∧ (stageDraw x1 x2 x3 x4).1.ctl = x1.ctl := by unfold stageDraw; (try dsimp only); (repeat' split) <;> (try have := draw_frame_of ‹_›) <;> simp [*]

theorem stageDraw_frame_of {x1 x2 x3 x4 x t} (h : stageDraw x1 x2 x3 x4 = (t, x)) :
    t.pending = x1.pending ∧ t.now = x1.now ∧ t.fresh = x1.fresh ∧ t.snaps = x1.snaps ∧ t.id = x1.id ∧ t.cham = x1.cham ∧ t.kst = x1.kst ∧ t.str = x1.str ∧ t.lan = x1.lan ∧ t.bb = x1.bb ∧ t.tim = x1.tim ∧ t.die = x1.die ∧ t.pke = x1.pke ∧ t.geo = x1.geo ∧ t.flash = x1.flash ∧ t.kar = x1.kar ∧ t.ctl = x1.ctl := by
  have e := stageDraw_frame x1 x2 x3 x4; rw [h] at e; exact e

@[simp ↓] theorem fillStaging_frame (x1 x2 x3) :
    (fillStaging x1 x2 x3).1.pending = x1.pending ∧ (fillStaging x1 x2 x3).1.now = x1.now ∧ (fillStaging x1 x2 x3).1.fresh = x1.fresh ∧ (fillStaging x1 x2 x3).1.snaps = x1.snaps ∧ (fillStaging x1 x2 x3).1.id = x1.id ∧ (fillStaging x1 x2 x3).1.cham = x1.cham ∧ (fillStaging x1 x2 x3).1.str = x1.str ∧ (fillStaging x1 x2 x3).1.lan = x1.lan ∧ (fillStaging x1 x2 x3).1.bb = x1.bb ∧ (fillStaging x1 x2 x3).1.tim = x1.tim ∧ (fillStaging x1 x2 x3).1.die = x1.die ∧ (fillStaging x1 x2 x3).1.pke = x1.pke ∧ (fillStaging x1 x2 x3).1.geo = x1.geo ∧ (fillStaging x1 x2 x3).1.flash = x1.flash ∧ (fillStaging x1 x2 x3).1.kar = x1.kar ∧ (fillStaging x1 x2 x3).1.ctl = x1.ctl := by unfold fillStaging; (repeat' split) <;> simp

theorem fillStaging_frame_of {x1 x2 x3 x t} (h : fillStaging x1 x2 x3 = (t, x)) :
    t.pending = x1.pending ∧ t.now = x1.now ∧ t.fresh = x1.fresh ∧ t.snaps = x1.snaps ∧ t.id = x1.id ∧ t.cham = x1.cham ∧ t.str = x1.str ∧ t.lan = x1.lan ∧ t.bb = x1.bb ∧ t.tim = x1.tim ∧ t.die = x1.die ∧ t.pke = x1.pke ∧ t.geo = x1.geo ∧ t.flash = x1.flash ∧ t.kar = x1.kar ∧ t.ctl = x1.ctl := by
  have e := fillStaging_frame x1 x2 x3; rw [h] at e; exact e

@[simp ↓] theorem stageFrom_pending (x1 x2 x3) : (stageFrom x1 x2 x3).pending = x3.pending := by
  induction x2 generalizing x3 with
  | nil => simp [stageFrom]
  | cons d t ih => unfold stageFrom; split <;> (try have := fillStaging_frame_of ‹_›) <;> simp [*]

@[simp ↓] theorem stageFrom_now (x1 x2 x3) : (stageFrom x1 x2 x3).now = x3.now := by
  induction x2 generalizing x3 with
  | nil => simp [stageFrom]
  | cons d t ih => unfold stageFrom; split <;> (try have := fillStaging_frame_of ‹_›) <;> simp [*]

@[simp ↓] theorem stageFrom_fresh (x1 x2 x3) : (stageFrom x1 x2 x3).fresh = x3.fresh := by
  induction x2 generalizing x3 with
  | nil => simp [stageFrom]
  | cons d t ih => unfold stageFrom; split <;> (try have := fillStaging_frame_of ‹_›) <;> simp [*]

@[simp ↓] theorem stageFrom_snaps (x1 x2 x3) : (stageFrom x1 x2 x3).snaps = x3.snaps := by
  induction x2 generalizing x3 with
  | nil => simp [stageFrom]
  | cons d t ih => unfold stageFrom; split <;> (try have := fillStaging_frame_of ‹_›) <;> simp [*]

@[simp ↓] theorem stageFrom_id (x1 x2 x3) : (stageFrom x1 x2 x3).id = x3.id := by
  induction x2 generalizing x3 with
  | nil => simp [stageFrom]
  | cons d t ih => unfold stageFrom; split <;> (try have := fillStaging_frame_of ‹_›) <;> simp [*]

@[simp ↓] theorem stageFrom_cham (x1 x2 x3) : (stageFrom x1 x2 x3).cham = x3.cham := by
  induction x2 generalizing x3 with
  | nil => simp [stageFrom]
  | cons d t ih => unfold stageFrom; split <;> (try have := fillStaging_frame_of ‹_›) <;> simp [*]

@[simp ↓] theorem stageFrom_lan (x1 x2 x3) : (stageFrom x1 x2 x3).lan = x3.lan := by
  induction x2 generalizing x3 with
  | nil => simp [stageFrom]
  | cons d t ih => unfold stageFrom; split <;> (try have := fillStaging_frame_of ‹_›) <;> simp [*]

@[simp ↓] theorem stageFrom_bb (x1 x2 x3) : (stageFrom x1 x2 x3).bb = x3.bb := by
  induction x2 generalizing x3 with
  | nil => simp [stageFrom]
  | cons d t ih => unfold stageFrom; split <;> (try have := fillStaging_frame_of ‹_›) <;> simp [*]

@[simp ↓] theorem stageFrom_tim (x1 x2 x3) : (stageFrom x1 x2 x3).tim = x3.tim := by
  induction x2 generalizing x3 with
  | nil => simp [stageFrom]
  | cons d t ih => unfold stageFrom; split <;> (try have := fillStaging_frame_of ‹_›) <;> simp [*]

@[simp ↓] theorem stageFrom_die (x1 x2 x3) : (stageFrom x1 x2 x3).die = x3.die := by
  induction x2 generalizing x3 with
  | nil => simp [stageFrom]
  | cons d t ih => unfold stageFrom; split <;> (try have := fillStaging_frame_of ‹_›) <;> simp [*]

@[simp ↓] theorem stageFrom_geo (x1 x2 x3) : (stageFrom x1 x2 x3).geo = x3.geo := by
  induction x2 generalizing x3 with
  | nil => simp [stageFrom]
  | cons d t ih => unfold stageFrom; split <;> (try have := fillStaging_frame_of ‹_›) <;> simp [*]

@[simp ↓] theorem stageFrom_flash (x1 x2 x3) : (stageFrom x1 x2 x3).flash = x3.flash := by
  induction x2 generalizing x3 with
  | nil => simp [stageFrom]
  | cons d t ih => unfold stageFrom; split <;> (try have := fillStaging_frame_of ‹_›) <;> simp [*]

@[simp ↓] theorem stageFrom_kar (x1 x2 x3) : (stageFrom x1 x2 x3).kar = x3.kar := by
  induction x2 generalizing x3 with
  | nil => simp [stageFrom]
  | cons d t ih => unfold stageFrom; split <;> (try have := fillStaging_frame_of ‹_›) <;> simp [*]

@[simp ↓] theorem restage_frame (x1 x2) :
    (restage x1 x2).pending = x1.pending ∧ (restage x1 x2).now = x1.now ∧ (restage x1 x2).fresh = x1.fresh ∧ (restage x1 x2).snaps = x1.snaps ∧ (restage x1 x2).id = x1.id ∧ (restage x1 x2).cham = x1.cham ∧ (restage x1 x2).lan = x1.lan ∧ (restage x1 x2).bb = x1.bb ∧ (restage x1 x2).tim = x1.tim ∧ (restage x1 x2).die = x1.die ∧ (restage x1 x2).geo = x1.geo ∧ (restage x1 x2).flash = x1.flash ∧ (restage x1 x2).kar = x1.kar := by unfold restage; (try dsimp only); (repeat' split) <;> (try have := fillStaging_frame_of ‹_›) <;> simp [*]

@[simp ↓] theorem beginCore_frame (x1 x2 x3) :
    (beginCore x1 x2 x3).pending = x1.pending ∧ (beginCore x1 x2 x3).now = x1.now ∧ (beginCore x1 x2 x3).fresh = x1.fresh ∧ (beginCore x1 x2 x3).out = x1.out ∧ (beginCore x1 x2 x3).snaps = x1.snaps ∧ (beginCore x1 x2 x3).id = x1.id ∧ (beginCore x1 x2 x3).psg = x1.psg ∧ (beginCore x1 x2 x3).cham = x1.cham ∧ (beginCore x1 x2 x3).kst = x1.kst ∧ (beginCore x1 x2 x3).mbx = x1.mbx ∧ (beginCore x1 x2 x3).str = x1.str ∧ (beginCore x1 x2 x3).lan = x1.lan ∧ (beginCore x1 x2 x3).bb = x1.bb ∧ (beginCore x1 x2 x3).tim = x1.tim ∧ (beginCore x1 x2 x3).lcy = x1.lcy ∧ (beginCore x1 x2 x3).die = x1.die ∧ (beginCore x1 x2 x3).rng = x1.rng ∧ (beginCore x1 x2 x3).eng = x1.eng ∧ (beginCore x1 x2 x3).host = x1.host ∧ (beginCore x1 x2 x3).geo = x1.geo ∧ (beginCore x1 x2 x3).flash = x1.flash ∧ (beginCore x1 x2 x3).wld = x1.wld ∧ (beginCore x1 x2 x3).kar = x1.kar ∧ (beginCore x1 x2 x3).ctl = x1.ctl := by unfold beginCore; simp

@[simp ↓] theorem unbind_frame (x1 x2) :
    (unbind x1 x2).pending = x1.pending ∧ (unbind x1 x2).now = x1.now ∧ (unbind x1 x2).fresh = x1.fresh ∧ (unbind x1 x2).out = x1.out ∧ (unbind x1 x2).snaps = x1.snaps ∧ (unbind x1 x2).id = x1.id ∧ (unbind x1 x2).cham = x1.cham ∧ (unbind x1 x2).kst = x1.kst ∧ (unbind x1 x2).mbx = x1.mbx ∧ (unbind x1 x2).str = x1.str ∧ (unbind x1 x2).lan = x1.lan ∧ (unbind x1 x2).bb = x1.bb ∧ (unbind x1 x2).tim = x1.tim ∧ (unbind x1 x2).lcy = x1.lcy ∧ (unbind x1 x2).die = x1.die ∧ (unbind x1 x2).rng = x1.rng ∧ (unbind x1 x2).pke = x1.pke ∧ (unbind x1 x2).eng = x1.eng ∧ (unbind x1 x2).host = x1.host ∧ (unbind x1 x2).geo = x1.geo ∧ (unbind x1 x2).flash = x1.flash ∧ (unbind x1 x2).wld = x1.wld ∧ (unbind x1 x2).kar = x1.kar ∧ (unbind x1 x2).ctl = x1.ctl := by unfold unbind; simp

@[simp ↓] theorem startBound_frame (x1 x2 x3) :
    (startBound x1 x2 x3).pending = x1.pending ∧ (startBound x1 x2 x3).now = x1.now ∧ (startBound x1 x2 x3).fresh = x1.fresh ∧ (startBound x1 x2 x3).snaps = x1.snaps ∧ (startBound x1 x2 x3).id = x1.id ∧ (startBound x1 x2 x3).cham = x1.cham ∧ (startBound x1 x2 x3).kst = x1.kst ∧ (startBound x1 x2 x3).mbx = x1.mbx ∧ (startBound x1 x2 x3).lan = x1.lan ∧ (startBound x1 x2 x3).bb = x1.bb ∧ (startBound x1 x2 x3).die = x1.die ∧ (startBound x1 x2 x3).rng = x1.rng ∧ (startBound x1 x2 x3).eng = x1.eng ∧ (startBound x1 x2 x3).host = x1.host ∧ (startBound x1 x2 x3).geo = x1.geo ∧ (startBound x1 x2 x3).flash = x1.flash ∧ (startBound x1 x2 x3).kar = x1.kar := by unfold startBound; dsimp only; (repeat' split)  <;> simp [*]

@[simp ↓] theorem startStaged_frame (x1 x2 x3 x4) :
    (startStaged x1 x2 x3 x4).pending = x1.pending ∧ (startStaged x1 x2 x3 x4).now = x1.now ∧ (startStaged x1 x2 x3 x4).fresh = x1.fresh ∧ (startStaged x1 x2 x3 x4).snaps = x1.snaps ∧ (startStaged x1 x2 x3 x4).id = x1.id ∧ (startStaged x1 x2 x3 x4).cham = x1.cham ∧ (startStaged x1 x2 x3 x4).lan = x1.lan ∧ (startStaged x1 x2 x3 x4).bb = x1.bb ∧ (startStaged x1 x2 x3 x4).tim = x1.tim ∧ (startStaged x1 x2 x3 x4).lcy = x1.lcy ∧ (startStaged x1 x2 x3 x4).die = x1.die ∧ (startStaged x1 x2 x3 x4).rng = x1.rng ∧ (startStaged x1 x2 x3 x4).eng = x1.eng ∧ (startStaged x1 x2 x3 x4).geo = x1.geo ∧ (startStaged x1 x2 x3 x4).flash = x1.flash ∧ (startStaged x1 x2 x3 x4).kar = x1.kar := by unfold startStaged; simp

@[simp ↓] theorem rebindBorrowed_frame (x1 x2 x3) :
    (rebindBorrowed x1 x2 x3).pending = x1.pending ∧ (rebindBorrowed x1 x2 x3).now = x1.now ∧ (rebindBorrowed x1 x2 x3).fresh = x1.fresh ∧ (rebindBorrowed x1 x2 x3).snaps = x1.snaps ∧ (rebindBorrowed x1 x2 x3).id = x1.id ∧ (rebindBorrowed x1 x2 x3).kst = x1.kst ∧ (rebindBorrowed x1 x2 x3).mbx = x1.mbx ∧ (rebindBorrowed x1 x2 x3).str = x1.str ∧ (rebindBorrowed x1 x2 x3).lan = x1.lan ∧ (rebindBorrowed x1 x2 x3).bb = x1.bb ∧ (rebindBorrowed x1 x2 x3).tim = x1.tim ∧ (rebindBorrowed x1 x2 x3).lcy = x1.lcy ∧ (rebindBorrowed x1 x2 x3).die = x1.die ∧ (rebindBorrowed x1 x2 x3).rng = x1.rng ∧ (rebindBorrowed x1 x2 x3).eng = x1.eng ∧ (rebindBorrowed x1 x2 x3).host = x1.host ∧ (rebindBorrowed x1 x2 x3).geo = x1.geo ∧ (rebindBorrowed x1 x2 x3).flash = x1.flash ∧ (rebindBorrowed x1 x2 x3).wld = x1.wld ∧ (rebindBorrowed x1 x2 x3).kar = x1.kar ∧ (rebindBorrowed x1 x2 x3).ctl = x1.ctl := by unfold rebindBorrowed; (repeat' split) <;> simp

@[simp ↓] theorem rebindJobs_pending (x1 x2 x3) : (rebindJobs x1 x2 x3).pending = x1.pending := by unfold rebindJobs; dsimp only; apply st_foldl_pending; intros; (repeat' split)  <;> simp [*]

@[simp ↓] theorem rebindJobs_now (x1 x2 x3) : (rebindJobs x1 x2 x3).now = x1.now := by unfold rebindJobs; dsimp only; apply st_foldl_now; intros; (repeat' split)  <;> simp [*]

@[simp ↓] theorem rebindJobs_fresh (x1 x2 x3) : (rebindJobs x1 x2 x3).fresh = x1.fresh := by unfold rebindJobs; dsimp only; apply st_foldl_fresh; intros; (repeat' split)  <;> simp [*]

@[simp ↓] theorem rebindJobs_snaps (x1 x2 x3) : (rebindJobs x1 x2 x3).snaps = x1.snaps := by unfold rebindJobs; dsimp only; apply st_foldl_snaps; intros; (repeat' split)  <;> simp [*]

@[simp ↓] theorem rebindJobs_id (x1 x2 x3) : (rebindJobs x1 x2 x3).id = x1.id := by unfold rebindJobs; dsimp only; apply st_foldl_id; intros; (repeat' split)  <;> simp [*]

@[simp ↓] theorem rebindJobs_kst (x1 x2 x3) : (rebindJobs x1 x2 x3).kst = x1.kst := by unfold rebindJobs; dsimp only; apply st_foldl_kst; intros; (repeat' split)  <;> simp [*]

@[simp ↓] theorem rebindJobs_mbx (x1 x2 x3) : (rebindJobs x1 x2 x3).mbx = x1.mbx := by unfold rebindJobs; dsimp only; apply st_foldl_mbx; intros; (repeat' split)  <;> simp [*]

@[simp ↓] theorem rebindJobs_lan (x1 x2 x3) : (rebindJobs x1 x2 x3).lan = x1.lan := by unfold rebindJobs; dsimp only; apply st_foldl_lan; intros; (repeat' split)  <;> simp [*]

@[simp ↓] theorem rebindJobs_bb (x1 x2 x3) : (rebindJobs x1 x2 x3).bb = x1.bb := by unfold rebindJobs; dsimp only; apply st_foldl_bb; intros; (repeat' split)  <;> simp [*]

@[simp ↓] theorem rebindJobs_die (x1 x2 x3) : (rebindJobs x1 x2 x3).die = x1.die := by unfold rebindJobs; dsimp only; apply st_foldl_die; intros; (repeat' split)  <;> simp [*]

@[simp ↓] theorem rebindJobs_rng (x1 x2 x3) : (rebindJobs x1 x2 x3).rng = x1.rng := by unfold rebindJobs; dsimp only; apply st_foldl_rng; intros; (repeat' split)  <;> simp [*]

@[simp ↓] theorem rebindJobs_eng (x1 x2 x3) : (rebindJobs x1 x2 x3).eng = x1.eng := by unfold rebindJobs; dsimp only; apply st_foldl_eng; intros; (repeat' split)  <;> simp [*]

@[simp ↓] theorem rebindJobs_host (x1 x2 x3) : (rebindJobs x1 x2 x3).host = x1.host := by unfold rebindJobs; dsimp only; apply st_foldl_host; intros; (repeat' split)  <;> simp [*]

@[simp ↓] theorem rebindJobs_geo (x1 x2 x3) : (rebindJobs x1 x2 x3).geo = x1.geo := by unfold rebindJobs; dsimp only; apply st_foldl_geo; intros; (repeat' split)  <;> simp [*]

@[simp ↓] theorem rebindJobs_flash (x1 x2 x3) : (rebindJobs x1 x2 x3).flash = x1.flash := by unfold rebindJobs; dsimp only; apply st_foldl_flash; intros; (repeat' split)  <;> simp [*]

@[simp ↓] theorem rebindJobs_kar (x1 x2 x3) : (rebindJobs x1 x2 x3).kar = x1.kar := by unfold rebindJobs; dsimp only; apply st_foldl_kar; intros; (repeat' split)  <;> simp [*]

@[simp ↓] theorem failPke_frame (x1 x2 x3 x4 x5 x6) :
    (failPke x1 x2 x3 x4 x5 x6).pending = x1.pending ∧ (failPke x1 x2 x3 x4 x5 x6).now = x1.now ∧ (failPke x1 x2 x3 x4 x5 x6).fresh = x1.fresh ∧ (failPke x1 x2 x3 x4 x5 x6).snaps = x1.snaps ∧ (failPke x1 x2 x3 x4 x5 x6).id = x1.id ∧ (failPke x1 x2 x3 x4 x5 x6).psg = x1.psg ∧ (failPke x1 x2 x3 x4 x5 x6).cham = x1.cham ∧ (failPke x1 x2 x3 x4 x5 x6).kst = x1.kst ∧ (failPke x1 x2 x3 x4 x5 x6).lan = x1.lan ∧ (failPke x1 x2 x3 x4 x5 x6).bb = x1.bb ∧ (failPke x1 x2 x3 x4 x5 x6).tim = x1.tim ∧ (failPke x1 x2 x3 x4 x5 x6).lcy = x1.lcy ∧ (failPke x1 x2 x3 x4 x5 x6).die = x1.die ∧ (failPke x1 x2 x3 x4 x5 x6).rng = x1.rng ∧ (failPke x1 x2 x3 x4 x5 x6).pke = x1.pke ∧ (failPke x1 x2 x3 x4 x5 x6).geo = x1.geo ∧ (failPke x1 x2 x3 x4 x5 x6).flash = x1.flash ∧ (failPke x1 x2 x3 x4 x5 x6).kar = x1.kar := by unfold failPke; simp

@[simp ↓] theorem finishPke_frame (x1 x2 x3 x4) :
    (finishPke x1 x2 x3 x4).pending = x1.pending ∧ (finishPke x1 x2 x3 x4).now = x1.now ∧ (finishPke x1 x2 x3 x4).snaps = x1.snaps ∧ (finishPke x1 x2 x3 x4).id = x1.id ∧ (finishPke x1 x2 x3 x4).psg = x1.psg ∧ (finishPke x1 x2 x3 x4).cham = x1.cham ∧ (finishPke x1 x2 x3 x4).lan = x1.lan ∧ (finishPke x1 x2 x3 x4).bb = x1.bb ∧ (finishPke x1 x2 x3 x4).tim = x1.tim ∧ (finishPke x1 x2 x3 x4).lcy = x1.lcy ∧ (finishPke x1 x2 x3 x4).rng = x1.rng ∧ (finishPke x1 x2 x3 x4).pke = x1.pke ∧ (finishPke x1 x2 x3 x4).flash = x1.flash ∧ (finishPke x1 x2 x3 x4).kar = x1.kar := by unfold finishPke; simp

@[simp ↓] theorem finishCurve_frame (x1 x2 x3) :
    (finishCurve x1 x2 x3).pending = x1.pending ∧ (finishCurve x1 x2 x3).now = x1.now ∧ (finishCurve x1 x2 x3).fresh = x1.fresh ∧ (finishCurve x1 x2 x3).snaps = x1.snaps ∧ (finishCurve x1 x2 x3).id = x1.id ∧ (finishCurve x1 x2 x3).psg = x1.psg ∧ (finishCurve x1 x2 x3).cham = x1.cham ∧ (finishCurve x1 x2 x3).kst = x1.kst ∧ (finishCurve x1 x2 x3).str = x1.str ∧ (finishCurve x1 x2 x3).lan = x1.lan ∧ (finishCurve x1 x2 x3).bb = x1.bb ∧ (finishCurve x1 x2 x3).tim = x1.tim ∧ (finishCurve x1 x2 x3).lcy = x1.lcy ∧ (finishCurve x1 x2 x3).die = x1.die ∧ (finishCurve x1 x2 x3).rng = x1.rng ∧ (finishCurve x1 x2 x3).eng = x1.eng ∧ (finishCurve x1 x2 x3).geo = x1.geo ∧ (finishCurve x1 x2 x3).flash = x1.flash ∧ (finishCurve x1 x2 x3).kar = x1.kar ∧ (finishCurve x1 x2 x3).ctl = x1.ctl := by unfold finishCurve; (repeat' split) <;> simp

@[simp ↓] theorem unloadCore_frame (x1 x2) :
    (unloadCore x1 x2).pending = x1.pending ∧ (unloadCore x1 x2).now = x1.now ∧ (unloadCore x1 x2).fresh = x1.fresh ∧ (unloadCore x1 x2).out = x1.out ∧ (unloadCore x1 x2).snaps = x1.snaps ∧ (unloadCore x1 x2).id = x1.id ∧ (unloadCore x1 x2).psg = x1.psg ∧ (unloadCore x1 x2).cham = x1.cham ∧ (unloadCore x1 x2).kst = x1.kst ∧ (unloadCore x1 x2).mbx = x1.mbx ∧ (unloadCore x1 x2).str = x1.str ∧ (unloadCore x1 x2).lan = x1.lan ∧ (unloadCore x1 x2).bb = x1.bb ∧ (unloadCore x1 x2).tim = x1.tim ∧ (unloadCore x1 x2).lcy = x1.lcy ∧ (unloadCore x1 x2).die = x1.die ∧ (unloadCore x1 x2).rng = x1.rng ∧ (unloadCore x1 x2).eng = x1.eng ∧ (unloadCore x1 x2).host = x1.host ∧ (unloadCore x1 x2).geo = x1.geo ∧ (unloadCore x1 x2).flash = x1.flash ∧ (unloadCore x1 x2).wld = x1.wld ∧ (unloadCore x1 x2).kar = x1.kar ∧ (unloadCore x1 x2).ctl = x1.ctl := by unfold unloadCore; simp

@[simp ↓] theorem coreFree_frame (x1 x2 x3) :
    (coreFree x1 x2 x3).pending = x1.pending ∧ (coreFree x1 x2 x3).now = x1.now ∧ (coreFree x1 x2 x3).fresh = x1.fresh ∧ (coreFree x1 x2 x3).snaps = x1.snaps ∧ (coreFree x1 x2 x3).kst = x1.kst ∧ (coreFree x1 x2 x3).mbx = x1.mbx ∧ (coreFree x1 x2 x3).lan = x1.lan ∧ (coreFree x1 x2 x3).bb = x1.bb ∧ (coreFree x1 x2 x3).die = x1.die ∧ (coreFree x1 x2 x3).rng = x1.rng ∧ (coreFree x1 x2 x3).eng = x1.eng ∧ (coreFree x1 x2 x3).host = x1.host ∧ (coreFree x1 x2 x3).geo = x1.geo ∧ (coreFree x1 x2 x3).flash = x1.flash ∧ (coreFree x1 x2 x3).kar = x1.kar := by unfold coreFree; simp

@[simp ↓] theorem deliver_frame (x1 x2 x3) :
    (deliver x1 x2 x3).pending = x1.pending ∧ (deliver x1 x2 x3).now = x1.now ∧ (deliver x1 x2 x3).snaps = x1.snaps ∧ (deliver x1 x2 x3).id = x1.id ∧ (deliver x1 x2 x3).lan = x1.lan ∧ (deliver x1 x2 x3).bb = x1.bb ∧ (deliver x1 x2 x3).tim = x1.tim ∧ (deliver x1 x2 x3).lcy = x1.lcy ∧ (deliver x1 x2 x3).rng = x1.rng ∧ (deliver x1 x2 x3).flash = x1.flash ∧ (deliver x1 x2 x3).kar = x1.kar := by unfold deliver; (repeat' split) <;> simp

@[simp ↓] theorem stopCore_frame (x1 x2 x3) :
    (stopCore x1 x2 x3).pending = x1.pending ∧ (stopCore x1 x2 x3).now = x1.now ∧ (stopCore x1 x2 x3).fresh = x1.fresh ∧ (stopCore x1 x2 x3).out = x1.out ∧ (stopCore x1 x2 x3).snaps = x1.snaps ∧ (stopCore x1 x2 x3).id = x1.id ∧ (stopCore x1 x2 x3).psg = x1.psg ∧ (stopCore x1 x2 x3).cham = x1.cham ∧ (stopCore x1 x2 x3).kst = x1.kst ∧ (stopCore x1 x2 x3).mbx = x1.mbx ∧ (stopCore x1 x2 x3).str = x1.str ∧ (stopCore x1 x2 x3).lan = x1.lan ∧ (stopCore x1 x2 x3).bb = x1.bb ∧ (stopCore x1 x2 x3).tim = x1.tim ∧ (stopCore x1 x2 x3).lcy = x1.lcy ∧ (stopCore x1 x2 x3).die = x1.die ∧ (stopCore x1 x2 x3).rng = x1.rng ∧ (stopCore x1 x2 x3).eng = x1.eng ∧ (stopCore x1 x2 x3).host = x1.host ∧ (stopCore x1 x2 x3).geo = x1.geo ∧ (stopCore x1 x2 x3).flash = x1.flash ∧ (stopCore x1 x2 x3).wld = x1.wld ∧ (stopCore x1 x2 x3).kar = x1.kar ∧ (stopCore x1 x2 x3).ctl = x1.ctl := by unfold stopCore; (repeat' split) <;> simp

@[simp ↓] theorem stoppedCounts_frame (x1 x2) :
    (stoppedCounts x1 x2).1.pending = x1.pending ∧ (stoppedCounts x1 x2).1.now = x1.now ∧ (stoppedCounts x1 x2).1.out = x1.out ∧ (stoppedCounts x1 x2).1.snaps = x1.snaps ∧ (stoppedCounts x1 x2).1.id = x1.id ∧ (stoppedCounts x1 x2).1.psg = x1.psg ∧ (stoppedCounts x1 x2).1.cham = x1.cham ∧ (stoppedCounts x1 x2).1.kst = x1.kst ∧ (stoppedCounts x1 x2).1.mbx = x1.mbx ∧ (stoppedCounts x1 x2).1.str = x1.str ∧ (stoppedCounts x1 x2).1.lan = x1.lan ∧ (stoppedCounts x1 x2).1.bb = x1.bb ∧ (stoppedCounts x1 x2).1.tim = x1.tim ∧ (stoppedCounts x1 x2).1.lcy = x1.lcy ∧ (stoppedCounts x1 x2).1.die = x1.die ∧ (stoppedCounts x1 x2).1.rng = x1.rng ∧ (stoppedCounts x1 x2).1.pke = x1.pke ∧ (stoppedCounts x1 x2).1.eng = x1.eng ∧ (stoppedCounts x1 x2).1.host = x1.host ∧ (stoppedCounts x1 x2).1.geo = x1.geo ∧ (stoppedCounts x1 x2).1.flash = x1.flash ∧ (stoppedCounts x1 x2).1.wld = x1.wld ∧ (stoppedCounts x1 x2).1.kar = x1.kar ∧ (stoppedCounts x1 x2).1.ctl = x1.ctl := by unfold stoppedCounts; simp

theorem stoppedCounts_frame_of {x1 x2 x t} (h : stoppedCounts x1 x2 = (t, x)) :
    t.pending = x1.pending ∧ t.now = x1.now ∧ t.out = x1.out ∧ t.snaps = x1.snaps ∧ t.id = x1.id ∧ t.psg = x1.psg ∧ t.cham = x1.cham ∧ t.kst = x1.kst ∧ t.mbx = x1.mbx ∧ t.str = x1.str ∧ t.lan = x1.lan ∧ t.bb = x1.bb ∧ t.tim = x1.tim ∧ t.lcy = x1.lcy ∧ t.die = x1.die ∧ t.rng = x1.rng ∧ t.pke = x1.pke ∧ t.eng = x1.eng ∧ t.host = x1.host ∧ t.geo = x1.geo ∧ t.flash = x1.flash ∧ t.wld = x1.wld ∧ t.kar = x1.kar ∧ t.ctl = x1.ctl := by
  have e := stoppedCounts_frame x1 x2; rw [h] at e; exact e

@[simp ↓] theorem suspendCores_pending (x1) : (suspendCores x1).pending = x1.pending := by unfold suspendCores; dsimp only; apply Eq.trans (st_foldl_pending _ _ _ (by intros; (repeat' split)  <;> simp [*])); (repeat' split)  <;> simp [*]

@[simp ↓] theorem suspendCores_now (x1) : (suspendCores x1).now = x1.now := by unfold suspendCores; dsimp only; apply Eq.trans (st_foldl_now _ _ _ (by intros; (repeat' split)  <;> simp [*])); (repeat' split)  <;> simp [*]

@[simp ↓] theorem suspendCores_fresh (x1) : (suspendCores x1).fresh = x1.fresh := by unfold suspendCores; dsimp only; apply Eq.trans (st_foldl_fresh _ _ _ (by intros; (repeat' split)  <;> simp [*])); (repeat' split)  <;> simp [*]

@[simp ↓] theorem suspendCores_snaps (x1) : (suspendCores x1).snaps = x1.snaps := by unfold suspendCores; dsimp only; apply Eq.trans (st_foldl_snaps _ _ _ (by intros; (repeat' split)  <;> simp [*])); (repeat' split)  <;> simp [*]

@[simp ↓] theorem suspendCores_id (x1) : (suspendCores x1).id = x1.id := by unfold suspendCores; dsimp only; apply Eq.trans (st_foldl_id _ _ _ (by intros; (repeat' split)  <;> simp [*])); (repeat' split)  <;> simp [*]

@[simp ↓] theorem suspendCores_kst (x1) : (suspendCores x1).kst = x1.kst := by unfold suspendCores; dsimp only; apply Eq.trans (st_foldl_kst _ _ _ (by intros; (repeat' split)  <;> simp [*])); (repeat' split)  <;> simp [*]

@[simp ↓] theorem suspendCores_mbx (x1) : (suspendCores x1).mbx = x1.mbx := by unfold suspendCores; dsimp only; apply Eq.trans (st_foldl_mbx _ _ _ (by intros; (repeat' split)  <;> simp [*])); (repeat' split)  <;> simp [*]

@[simp ↓] theorem suspendCores_str (x1) : (suspendCores x1).str = x1.str := by unfold suspendCores; dsimp only; apply Eq.trans (st_foldl_str _ _ _ (by intros; (repeat' split)  <;> simp [*])); (repeat' split)  <;> simp [*]

@[simp ↓] theorem suspendCores_lan (x1) : (suspendCores x1).lan = x1.lan := by unfold suspendCores; dsimp only; apply Eq.trans (st_foldl_lan _ _ _ (by intros; (repeat' split)  <;> simp [*])); (repeat' split)  <;> simp [*]

@[simp ↓] theorem suspendCores_bb (x1) : (suspendCores x1).bb = x1.bb := by unfold suspendCores; dsimp only; apply Eq.trans (st_foldl_bb _ _ _ (by intros; (repeat' split)  <;> simp [*])); (repeat' split)  <;> simp [*]

@[simp ↓] theorem suspendCores_tim (x1) : (suspendCores x1).tim = x1.tim := by unfold suspendCores; dsimp only; apply Eq.trans (st_foldl_tim _ _ _ (by intros; (repeat' split)  <;> simp [*])); (repeat' split)  <;> simp [*]

@[simp ↓] theorem suspendCores_lcy (x1) : (suspendCores x1).lcy = x1.lcy := by unfold suspendCores; dsimp only; apply Eq.trans (st_foldl_lcy _ _ _ (by intros; (repeat' split)  <;> simp [*])); (repeat' split)  <;> simp [*]

@[simp ↓] theorem suspendCores_die (x1) : (suspendCores x1).die = x1.die := by unfold suspendCores; dsimp only; apply Eq.trans (st_foldl_die _ _ _ (by intros; (repeat' split)  <;> simp [*])); (repeat' split)  <;> simp [*]

@[simp ↓] theorem suspendCores_rng (x1) : (suspendCores x1).rng = x1.rng := by unfold suspendCores; dsimp only; apply Eq.trans (st_foldl_rng _ _ _ (by intros; (repeat' split)  <;> simp [*])); (repeat' split)  <;> simp [*]

@[simp ↓] theorem suspendCores_eng (x1) : (suspendCores x1).eng = x1.eng := by unfold suspendCores; dsimp only; apply Eq.trans (st_foldl_eng _ _ _ (by intros; (repeat' split)  <;> simp [*])); (repeat' split)  <;> simp [*]

@[simp ↓] theorem suspendCores_host (x1) : (suspendCores x1).host = x1.host := by unfold suspendCores; dsimp only; apply Eq.trans (st_foldl_host _ _ _ (by intros; (repeat' split)  <;> simp [*])); (repeat' split)  <;> simp [*]

@[simp ↓] theorem suspendCores_geo (x1) : (suspendCores x1).geo = x1.geo := by unfold suspendCores; dsimp only; apply Eq.trans (st_foldl_geo _ _ _ (by intros; (repeat' split)  <;> simp [*])); (repeat' split)  <;> simp [*]

@[simp ↓] theorem suspendCores_flash (x1) : (suspendCores x1).flash = x1.flash := by unfold suspendCores; dsimp only; apply Eq.trans (st_foldl_flash _ _ _ (by intros; (repeat' split)  <;> simp [*])); (repeat' split)  <;> simp [*]

@[simp ↓] theorem suspendCores_wld (x1) : (suspendCores x1).wld = x1.wld := by unfold suspendCores; dsimp only; apply Eq.trans (st_foldl_wld _ _ _ (by intros; (repeat' split)  <;> simp [*])); (repeat' split)  <;> simp [*]

@[simp ↓] theorem suspendCores_kar (x1) : (suspendCores x1).kar = x1.kar := by unfold suspendCores; dsimp only; apply Eq.trans (st_foldl_kar _ _ _ (by intros; (repeat' split)  <;> simp [*])); (repeat' split)  <;> simp [*]

@[simp ↓] theorem suspendCores_ctl (x1) : (suspendCores x1).ctl = x1.ctl := by unfold suspendCores; dsimp only; apply Eq.trans (st_foldl_ctl _ _ _ (by intros; (repeat' split)  <;> simp [*])); (repeat' split)  <;> simp [*]

theorem abortPke_frame_of {x1 x2 x3}{t} (h : (Sys2Proof.Machine.abortPke x1 x2 x3) = some t) :
    t.pending = x1.pending ∧ t.now = x1.now ∧ t.fresh = x1.fresh ∧ t.snaps = x1.snaps ∧ t.id = x1.id ∧ t.psg = x1.psg ∧ t.cham = x1.cham ∧ t.kst = x1.kst ∧ t.lan = x1.lan ∧ t.bb = x1.bb ∧ t.tim = x1.tim ∧ t.lcy = x1.lcy ∧ t.die = x1.die ∧ t.rng = x1.rng ∧ t.geo = x1.geo ∧ t.flash = x1.flash ∧ t.kar = x1.kar := by unfold abortPke at h; (repeat' split at h) <;> (first | contradiction | (cases h; simp) | (simp only [Option.map_eq_some_iff, Option.bind_eq_some_iff] at h; obtain ⟨_, _, rfl⟩ := h; simp))

@[simp ↓] theorem settlePool_frame (x1) :
    (settlePool x1).pending = x1.pending ∧ (settlePool x1).now = x1.now ∧ (settlePool x1).snaps = x1.snaps ∧ (settlePool x1).psg = x1.psg ∧ (settlePool x1).cham = x1.cham ∧ (settlePool x1).kst = x1.kst ∧ (settlePool x1).str = x1.str ∧ (settlePool x1).lan = x1.lan ∧ (settlePool x1).bb = x1.bb ∧ (settlePool x1).tim = x1.tim ∧ (settlePool x1).lcy = x1.lcy ∧ (settlePool x1).rng = x1.rng ∧ (settlePool x1).eng = x1.eng ∧ (settlePool x1).geo = x1.geo ∧ (settlePool x1).flash = x1.flash ∧ (settlePool x1).kar = x1.kar ∧ (settlePool x1).ctl = x1.ctl := by unfold settlePool; dsimp only; (repeat' split)  <;> simp [*]

@[simp ↓] theorem requestPool_frame (x1 x2 x3) :
    (requestPool x1 x2 x3).pending = x1.pending ∧ (requestPool x1 x2 x3).now = x1.now ∧ (requestPool x1 x2 x3).snaps = x1.snaps ∧ (requestPool x1 x2 x3).psg = x1.psg ∧ (requestPool x1 x2 x3).cham = x1.cham ∧ (requestPool x1 x2 x3).kst = x1.kst ∧ (requestPool x1 x2 x3).str = x1.str ∧ (requestPool x1 x2 x3).lan = x1.lan ∧ (requestPool x1 x2 x3).bb = x1.bb ∧ (requestPool x1 x2 x3).tim = x1.tim ∧ (requestPool x1 x2 x3).lcy = x1.lcy ∧ (requestPool x1 x2 x3).rng = x1.rng ∧ (requestPool x1 x2 x3).eng = x1.eng ∧ (requestPool x1 x2 x3).geo = x1.geo ∧ (requestPool x1 x2 x3).flash = x1.flash ∧ (requestPool x1 x2 x3).kar = x1.kar ∧ (requestPool x1 x2 x3).ctl = x1.ctl := by unfold requestPool; (repeat' split) <;> simp

@[simp ↓] theorem discardPool_frame (x1) :
    (discardPool x1).pending = x1.pending ∧ (discardPool x1).now = x1.now ∧ (discardPool x1).fresh = x1.fresh ∧ (discardPool x1).out = x1.out ∧ (discardPool x1).snaps = x1.snaps ∧ (discardPool x1).id = x1.id ∧ (discardPool x1).psg = x1.psg ∧ (discardPool x1).cham = x1.cham ∧ (discardPool x1).kst = x1.kst ∧ (discardPool x1).mbx = x1.mbx ∧ (discardPool x1).str = x1.str ∧ (discardPool x1).lan = x1.lan ∧ (discardPool x1).bb = x1.bb ∧ (discardPool x1).tim = x1.tim ∧ (discardPool x1).lcy = x1.lcy ∧ (discardPool x1).die = x1.die ∧ (discardPool x1).rng = x1.rng ∧ (discardPool x1).eng = x1.eng ∧ (discardPool x1).host = x1.host ∧ (discardPool x1).geo = x1.geo ∧ (discardPool x1).flash = x1.flash ∧ (discardPool x1).wld = x1.wld ∧ (discardPool x1).kar = x1.kar ∧ (discardPool x1).ctl = x1.ctl := by unfold discardPool; simp

@[simp ↓] theorem retestCore_frame (x1 x2) :
    (retestCore x1 x2).pending = x1.pending ∧ (retestCore x1 x2).now = x1.now ∧ (retestCore x1 x2).fresh = x1.fresh ∧ (retestCore x1 x2).out = x1.out ∧ (retestCore x1 x2).snaps = x1.snaps ∧ (retestCore x1 x2).psg = x1.psg ∧ (retestCore x1 x2).cham = x1.cham ∧ (retestCore x1 x2).kst = x1.kst ∧ (retestCore x1 x2).mbx = x1.mbx ∧ (retestCore x1 x2).str = x1.str ∧ (retestCore x1 x2).lan = x1.lan ∧ (retestCore x1 x2).bb = x1.bb ∧ (retestCore x1 x2).tim = x1.tim ∧ (retestCore x1 x2).lcy = x1.lcy ∧ (retestCore x1 x2).die = x1.die ∧ (retestCore x1 x2).rng = x1.rng ∧ (retestCore x1 x2).eng = x1.eng ∧ (retestCore x1 x2).host = x1.host ∧ (retestCore x1 x2).geo = x1.geo ∧ (retestCore x1 x2).flash = x1.flash ∧ (retestCore x1 x2).wld = x1.wld ∧ (retestCore x1 x2).kar = x1.kar ∧ (retestCore x1 x2).ctl = x1.ctl := by unfold retestCore; simp

@[simp ↓] theorem takeCoreOffline_frame (x1 x2) :
    (takeCoreOffline x1 x2).pending = x1.pending ∧ (takeCoreOffline x1 x2).now = x1.now ∧ (takeCoreOffline x1 x2).fresh = x1.fresh ∧ (takeCoreOffline x1 x2).snaps = x1.snaps ∧ (takeCoreOffline x1 x2).kst = x1.kst ∧ (takeCoreOffline x1 x2).mbx = x1.mbx ∧ (takeCoreOffline x1 x2).lan = x1.lan ∧ (takeCoreOffline x1 x2).bb = x1.bb ∧ (takeCoreOffline x1 x2).die = x1.die ∧ (takeCoreOffline x1 x2).rng = x1.rng ∧ (takeCoreOffline x1 x2).eng = x1.eng ∧ (takeCoreOffline x1 x2).host = x1.host ∧ (takeCoreOffline x1 x2).geo = x1.geo ∧ (takeCoreOffline x1 x2).flash = x1.flash ∧ (takeCoreOffline x1 x2).kar = x1.kar := by unfold takeCoreOffline; simp

end Sys2Proof.Machine
end

