-- ==== Sys2Proof/Laws/Frames/Rng.lean ====
section
/-!
SUPPORT. What the operations of Machine/Rng.lean leave unchanged: for each, every part of the state that it does not touch.
-/

set_option Elab.async false

set_option linter.all false
set_option maxRecDepth 2000

namespace Sys2Proof.Machine

@[simp ↓] theorem moveDraws_frame (x1 x2) :
    (moveDraws x1 x2).pending = x1.pending ∧ (moveDraws x1 x2).now = x1.now ∧ (moveDraws x1 x2).fresh = x1.fresh ∧ (moveDraws x1 x2).snaps = x1.snaps ∧ (moveDraws x1 x2).id = x1.id ∧ (moveDraws x1 x2).cham = x1.cham ∧ (moveDraws x1 x2).kst = x1.kst ∧ (moveDraws x1 x2).str = x1.str ∧ (moveDraws x1 x2).lan = x1.lan ∧ (moveDraws x1 x2).bb = x1.bb ∧ (moveDraws x1 x2).tim = x1.tim ∧ (moveDraws x1 x2).die = x1.die ∧ (moveDraws x1 x2).pke = x1.pke ∧ (moveDraws x1 x2).geo = x1.geo ∧ (moveDraws x1 x2).flash = x1.flash ∧ (moveDraws x1 x2).kar = x1.kar ∧ (moveDraws x1 x2).ctl = x1.ctl := by unfold moveDraws; simp

@[simp ↓] theorem failUnit_frame (x1 x2) :
    (failUnit x1 x2).pending = x1.pending ∧ (failUnit x1 x2).now = x1.now ∧ (failUnit x1 x2).fresh = x1.fresh ∧ (failUnit x1 x2).snaps = x1.snaps ∧ (failUnit x1 x2).cham = x1.cham ∧ (failUnit x1 x2).kst = x1.kst ∧ (failUnit x1 x2).bb = x1.bb ∧ (failUnit x1 x2).tim = x1.tim ∧ (failUnit x1 x2).die = x1.die ∧ (failUnit x1 x2).pke = x1.pke ∧ (failUnit x1 x2).geo = x1.geo ∧ (failUnit x1 x2).flash = x1.flash ∧ (failUnit x1 x2).kar = x1.kar ∧ (failUnit x1 x2).ctl = x1.ctl := by unfold failUnit; simp

@[simp ↓] theorem startKat_frame (x1 x2 x3 x4) :
    (startKat x1 x2 x3 x4).pending = x1.pending ∧ (startKat x1 x2 x3 x4).now = x1.now ∧ (startKat x1 x2 x3 x4).fresh = x1.fresh ∧ (startKat x1 x2 x3 x4).out = x1.out ∧ (startKat x1 x2 x3 x4).snaps = x1.snaps ∧ (startKat x1 x2 x3 x4).id = x1.id ∧ (startKat x1 x2 x3 x4).psg = x1.psg ∧ (startKat x1 x2 x3 x4).cham = x1.cham ∧ (startKat x1 x2 x3 x4).kst = x1.kst ∧ (startKat x1 x2 x3 x4).mbx = x1.mbx ∧ (startKat x1 x2 x3 x4).str = x1.str ∧ (startKat x1 x2 x3 x4).lan = x1.lan ∧ (startKat x1 x2 x3 x4).bb = x1.bb ∧ (startKat x1 x2 x3 x4).tim = x1.tim ∧ (startKat x1 x2 x3 x4).lcy = x1.lcy ∧ (startKat x1 x2 x3 x4).die = x1.die ∧ (startKat x1 x2 x3 x4).pke = x1.pke ∧ (startKat x1 x2 x3 x4).eng = x1.eng ∧ (startKat x1 x2 x3 x4).host = x1.host ∧ (startKat x1 x2 x3 x4).geo = x1.geo ∧ (startKat x1 x2 x3 x4).flash = x1.flash ∧ (startKat x1 x2 x3 x4).wld = x1.wld ∧ (startKat x1 x2 x3 x4).kar = x1.kar ∧ (startKat x1 x2 x3 x4).ctl = x1.ctl := by unfold startKat; simp

@[simp ↓] theorem settleKat_frame (x1) :
    (settleKat x1).pending = x1.pending ∧ (settleKat x1).now = x1.now ∧ (settleKat x1).fresh = x1.fresh ∧ (settleKat x1).snaps = x1.snaps ∧ (settleKat x1).cham = x1.cham ∧ (settleKat x1).kst = x1.kst ∧ (settleKat x1).bb = x1.bb ∧ (settleKat x1).tim = x1.tim ∧ (settleKat x1).die = x1.die ∧ (settleKat x1).pke = x1.pke ∧ (settleKat x1).geo = x1.geo ∧ (settleKat x1).flash = x1.flash ∧ (settleKat x1).kar = x1.kar ∧ (settleKat x1).ctl = x1.ctl := by unfold settleKat; (repeat' split) <;> simp

@[simp ↓] theorem startTests_frame (x1 x2 x3) :
    (startTests x1 x2 x3).pending = x1.pending ∧ (startTests x1 x2 x3).now = x1.now ∧ (startTests x1 x2 x3).fresh = x1.fresh ∧ (startTests x1 x2 x3).snaps = x1.snaps ∧ (startTests x1 x2 x3).cham = x1.cham ∧ (startTests x1 x2 x3).kst = x1.kst ∧ (startTests x1 x2 x3).bb = x1.bb ∧ (startTests x1 x2 x3).tim = x1.tim ∧ (startTests x1 x2 x3).die = x1.die ∧ (startTests x1 x2 x3).pke = x1.pke ∧ (startTests x1 x2 x3).geo = x1.geo ∧ (startTests x1 x2 x3).flash = x1.flash ∧ (startTests x1 x2 x3).kar = x1.kar ∧ (startTests x1 x2 x3).ctl = x1.ctl := by unfold startTests; simp

@[simp ↓] theorem instantiate_frame (x1) :
    (instantiate x1).pending = x1.pending ∧ (instantiate x1).now = x1.now ∧ (instantiate x1).fresh = x1.fresh ∧ (instantiate x1).out = x1.out ∧ (instantiate x1).snaps = x1.snaps ∧ (instantiate x1).id = x1.id ∧ (instantiate x1).psg = x1.psg ∧ (instantiate x1).cham = x1.cham ∧ (instantiate x1).kst = x1.kst ∧ (instantiate x1).mbx = x1.mbx ∧ (instantiate x1).str = x1.str ∧ (instantiate x1).lan = x1.lan ∧ (instantiate x1).bb = x1.bb ∧ (instantiate x1).tim = x1.tim ∧ (instantiate x1).lcy = x1.lcy ∧ (instantiate x1).die = x1.die ∧ (instantiate x1).pke = x1.pke ∧ (instantiate x1).eng = x1.eng ∧ (instantiate x1).host = x1.host ∧ (instantiate x1).geo = x1.geo ∧ (instantiate x1).flash = x1.flash ∧ (instantiate x1).wld = x1.wld ∧ (instantiate x1).kar = x1.kar ∧ (instantiate x1).ctl = x1.ctl := by unfold instantiate; simp

@[simp ↓] theorem setTestSource_frame (x1 x2) :
    (setTestSource x1 x2).pending = x1.pending ∧ (setTestSource x1 x2).now = x1.now ∧ (setTestSource x1 x2).fresh = x1.fresh ∧ (setTestSource x1 x2).out = x1.out ∧ (setTestSource x1 x2).snaps = x1.snaps ∧ (setTestSource x1 x2).psg = x1.psg ∧ (setTestSource x1 x2).cham = x1.cham ∧ (setTestSource x1 x2).kst = x1.kst ∧ (setTestSource x1 x2).mbx = x1.mbx ∧ (setTestSource x1 x2).lan = x1.lan ∧ (setTestSource x1 x2).bb = x1.bb ∧ (setTestSource x1 x2).tim = x1.tim ∧ (setTestSource x1 x2).lcy = x1.lcy ∧ (setTestSource x1 x2).die = x1.die ∧ (setTestSource x1 x2).pke = x1.pke ∧ (setTestSource x1 x2).eng = x1.eng ∧ (setTestSource x1 x2).host = x1.host ∧ (setTestSource x1 x2).geo = x1.geo ∧ (setTestSource x1 x2).flash = x1.flash ∧ (setTestSource x1 x2).wld = x1.wld ∧ (setTestSource x1 x2).kar = x1.kar ∧ (setTestSource x1 x2).ctl = x1.ctl := by unfold setTestSource; simp

@[simp ↓] theorem askRandom_frame (x1 x2 x3 x4 x5) :
    (askRandom x1 x2 x3 x4 x5).pending = x1.pending ∧ (askRandom x1 x2 x3 x4 x5).now = x1.now ∧ (askRandom x1 x2 x3 x4 x5).fresh = x1.fresh ∧ (askRandom x1 x2 x3 x4 x5).snaps = x1.snaps ∧ (askRandom x1 x2 x3 x4 x5).id = x1.id ∧ (askRandom x1 x2 x3 x4 x5).cham = x1.cham ∧ (askRandom x1 x2 x3 x4 x5).kst = x1.kst ∧ (askRandom x1 x2 x3 x4 x5).str = x1.str ∧ (askRandom x1 x2 x3 x4 x5).lan = x1.lan ∧ (askRandom x1 x2 x3 x4 x5).bb = x1.bb ∧ (askRandom x1 x2 x3 x4 x5).tim = x1.tim ∧ (askRandom x1 x2 x3 x4 x5).die = x1.die ∧ (askRandom x1 x2 x3 x4 x5).pke = x1.pke ∧ (askRandom x1 x2 x3 x4 x5).geo = x1.geo ∧ (askRandom x1 x2 x3 x4 x5).flash = x1.flash ∧ (askRandom x1 x2 x3 x4 x5).kar = x1.kar ∧ (askRandom x1 x2 x3 x4 x5).ctl = x1.ctl := by unfold askRandom; simp

@[simp ↓] theorem rngWrite_frame (x1 x2) :
    (rngWrite x1 x2).pending = x1.pending ∧ (rngWrite x1 x2).now = x1.now ∧ (rngWrite x1 x2).fresh = x1.fresh ∧ (rngWrite x1 x2).out = x1.out ∧ (rngWrite x1 x2).snaps = x1.snaps ∧ (rngWrite x1 x2).id = x1.id ∧ (rngWrite x1 x2).psg = x1.psg ∧ (rngWrite x1 x2).cham = x1.cham ∧ (rngWrite x1 x2).kst = x1.kst ∧ (rngWrite x1 x2).mbx = x1.mbx ∧ (rngWrite x1 x2).str = x1.str ∧ (rngWrite x1 x2).lan = x1.lan ∧ (rngWrite x1 x2).bb = x1.bb ∧ (rngWrite x1 x2).tim = x1.tim ∧ (rngWrite x1 x2).lcy = x1.lcy ∧ (rngWrite x1 x2).die = x1.die ∧ (rngWrite x1 x2).pke = x1.pke ∧ (rngWrite x1 x2).eng = x1.eng ∧ (rngWrite x1 x2).host = x1.host ∧ (rngWrite x1 x2).geo = x1.geo ∧ (rngWrite x1 x2).flash = x1.flash ∧ (rngWrite x1 x2).wld = x1.wld ∧ (rngWrite x1 x2).kar = x1.kar ∧ (rngWrite x1 x2).ctl = x1.ctl := by unfold rngWrite; simp

@[simp ↓] theorem zeroMasks_frame (x1) :
    (zeroMasks x1).pending = x1.pending ∧ (zeroMasks x1).now = x1.now ∧ (zeroMasks x1).fresh = x1.fresh ∧ (zeroMasks x1).out = x1.out ∧ (zeroMasks x1).snaps = x1.snaps ∧ (zeroMasks x1).cham = x1.cham ∧ (zeroMasks x1).kst = x1.kst ∧ (zeroMasks x1).mbx = x1.mbx ∧ (zeroMasks x1).str = x1.str ∧ (zeroMasks x1).lan = x1.lan ∧ (zeroMasks x1).bb = x1.bb ∧ (zeroMasks x1).tim = x1.tim ∧ (zeroMasks x1).lcy = x1.lcy ∧ (zeroMasks x1).die = x1.die ∧ (zeroMasks x1).rng = x1.rng ∧ (zeroMasks x1).pke = x1.pke ∧ (zeroMasks x1).host = x1.host ∧ (zeroMasks x1).geo = x1.geo ∧ (zeroMasks x1).flash = x1.flash ∧ (zeroMasks x1).wld = x1.wld ∧ (zeroMasks x1).kar = x1.kar ∧ (zeroMasks x1).ctl = x1.ctl := by unfold zeroMasks; simp

end Sys2Proof.Machine
end

