-- ==== Sys2Proof/Laws/Frames/Geode.lean ====
section
/-!
SUPPORT. What the operations of Machine/Geode.lean leave unchanged: for each, every part of the state that it does not touch.
-/

set_option Elab.async false

set_option linter.all false
set_option maxRecDepth 2000

namespace Sys2Proof.Machine

@[simp ↓] theorem refreshVault_frame (x1) :
    (refreshVault x1).pending = x1.pending ∧ (refreshVault x1).now = x1.now ∧ (refreshVault x1).fresh = x1.fresh ∧ (refreshVault x1).out = x1.out ∧ (refreshVault x1).snaps = x1.snaps ∧ (refreshVault x1).psg = x1.psg ∧ (refreshVault x1).cham = x1.cham ∧ (refreshVault x1).kst = x1.kst ∧ (refreshVault x1).mbx = x1.mbx ∧ (refreshVault x1).str = x1.str ∧ (refreshVault x1).lan = x1.lan ∧ (refreshVault x1).bb = x1.bb ∧ (refreshVault x1).tim = x1.tim ∧ (refreshVault x1).lcy = x1.lcy ∧ (refreshVault x1).die = x1.die ∧ (refreshVault x1).rng = x1.rng ∧ (refreshVault x1).pke = x1.pke ∧ (refreshVault x1).eng = x1.eng ∧ (refreshVault x1).host = x1.host ∧ (refreshVault x1).geo = x1.geo ∧ (refreshVault x1).flash = x1.flash ∧ (refreshVault x1).wld = x1.wld ∧ (refreshVault x1).kar = x1.kar ∧ (refreshVault x1).ctl = x1.ctl := by unfold refreshVault; simp

@[simp ↓] theorem failOne_pending (x1 x2 x3) : (failOne x1 x2 x3).pending = x1.pending := by
  have k : ∀ (l : List Sys2Proof.VaultOp) (s : State), (l.foldl (fun s o => match o with
    | .editDomain d .destroy => updDomain s d fun x => { x with state := if x.state = .destroying then .active else x.state }
    | .editDomain _ (.function f true) => updFunc s f fun x => { x with restoring := none }
    | _ => s) s).pending = s.pending := by
    intro l s; apply st_foldl_pending; intros; split <;> simp
  unfold failOne; dsimp only; split
  · apply k
  · split
    · simp only [endJob_frame]; apply k
    · simp only [answer_frame]; apply k

@[simp ↓] theorem failOne_now (x1 x2 x3) : (failOne x1 x2 x3).now = x1.now := by
  have k : ∀ (l : List Sys2Proof.VaultOp) (s : State), (l.foldl (fun s o => match o with
    | .editDomain d .destroy => updDomain s d fun x => { x with state := if x.state = .destroying then .active else x.state }
    | .editDomain _ (.function f true) => updFunc s f fun x => { x with restoring := none }
    | _ => s) s).now = s.now := by
    intro l s; apply st_foldl_now; intros; split <;> simp
  unfold failOne; dsimp only; split
  · apply k
  · split
    · simp only [endJob_frame]; apply k
    · simp only [answer_frame]; apply k

@[simp ↓] theorem failOne_fresh (x1 x2 x3) : (failOne x1 x2 x3).fresh = x1.fresh := by
  have k : ∀ (l : List Sys2Proof.VaultOp) (s : State), (l.foldl (fun s o => match o with
    | .editDomain d .destroy => updDomain s d fun x => { x with state := if x.state = .destroying then .active else x.state }
    | .editDomain _ (.function f true) => updFunc s f fun x => { x with restoring := none }
    | _ => s) s).fresh = s.fresh := by
    intro l s; apply st_foldl_fresh; intros; split <;> simp
  unfold failOne; dsimp only; split
  · apply k
  · split
    · simp only [endJob_frame]; apply k
    · simp only [answer_frame]; apply k

@[simp ↓] theorem failOne_snaps (x1 x2 x3) : (failOne x1 x2 x3).snaps = x1.snaps := by
  have k : ∀ (l : List Sys2Proof.VaultOp) (s : State), (l.foldl (fun s o => match o with
    | .editDomain d .destroy => updDomain s d fun x => { x with state := if x.state = .destroying then .active else x.state }
    | .editDomain _ (.function f true) => updFunc s f fun x => { x with restoring := none }
    | _ => s) s).snaps = s.snaps := by
    intro l s; apply st_foldl_snaps; intros; split <;> simp
  unfold failOne; dsimp only; split
  · apply k
  · split
    · simp only [endJob_frame]; apply k
    · simp only [answer_frame]; apply k

@[simp ↓] theorem failOne_id (x1 x2 x3) : (failOne x1 x2 x3).id = x1.id := by
  have k : ∀ (l : List Sys2Proof.VaultOp) (s : State), (l.foldl (fun s o => match o with
    | .editDomain d .destroy => updDomain s d fun x => { x with state := if x.state = .destroying then .active else x.state }
    | .editDomain _ (.function f true) => updFunc s f fun x => { x with restoring := none }
    | _ => s) s).id = s.id := by
    intro l s; apply st_foldl_id; intros; split <;> simp
  unfold failOne; dsimp only; split
  · apply k
  · split
    · simp only [endJob_frame]; apply k
    · simp only [answer_frame]; apply k

@[simp ↓] theorem failOne_psg (x1 x2 x3) : (failOne x1 x2 x3).psg = x1.psg := by
  have k : ∀ (l : List Sys2Proof.VaultOp) (s : State), (l.foldl (fun s o => match o with
    | .editDomain d .destroy => updDomain s d fun x => { x with state := if x.state = .destroying then .active else x.state }
    | .editDomain _ (.function f true) => updFunc s f fun x => { x with restoring := none }
    | _ => s) s).psg = s.psg := by
    intro l s; apply st_foldl_psg; intros; split <;> simp
  unfold failOne; dsimp only; split
  · apply k
  · split
    · simp only [endJob_frame]; apply k
    · simp only [answer_frame]; apply k

@[simp ↓] theorem failOne_cham (x1 x2 x3) : (failOne x1 x2 x3).cham = x1.cham := by
  have k : ∀ (l : List Sys2Proof.VaultOp) (s : State), (l.foldl (fun s o => match o with
    | .editDomain d .destroy => updDomain s d fun x => { x with state := if x.state = .destroying then .active else x.state }
    | .editDomain _ (.function f true) => updFunc s f fun x => { x with restoring := none }
    | _ => s) s).cham = s.cham := by
    intro l s; apply st_foldl_cham; intros; split <;> simp
  unfold failOne; dsimp only; split
  · apply k
  · split
    · simp only [endJob_frame]; apply k
    · simp only [answer_frame]; apply k

@[simp ↓] theorem failOne_lan (x1 x2 x3) : (failOne x1 x2 x3).lan = x1.lan := by
  have k : ∀ (l : List Sys2Proof.VaultOp) (s : State), (l.foldl (fun s o => match o with
    | .editDomain d .destroy => updDomain s d fun x => { x with state := if x.state = .destroying then .active else x.state }
    | .editDomain _ (.function f true) => updFunc s f fun x => { x with restoring := none }
    | _ => s) s).lan = s.lan := by
    intro l s; apply st_foldl_lan; intros; split <;> simp
  unfold failOne; dsimp only; split
  · apply k
  · split
    · simp only [endJob_frame]; apply k
    · simp only [answer_frame]; apply k

@[simp ↓] theorem failOne_bb (x1 x2 x3) : (failOne x1 x2 x3).bb = x1.bb := by
  have k : ∀ (l : List Sys2Proof.VaultOp) (s : State), (l.foldl (fun s o => match o with
    | .editDomain d .destroy => updDomain s d fun x => { x with state := if x.state = .destroying then .active else x.state }
    | .editDomain _ (.function f true) => updFunc s f fun x => { x with restoring := none }
    | _ => s) s).bb = s.bb := by
    intro l s; apply st_foldl_bb; intros; split <;> simp
  unfold failOne; dsimp only; split
  · apply k
  · split
    · simp only [endJob_frame]; apply k
    · simp only [answer_frame]; apply k

@[simp ↓] theorem failOne_tim (x1 x2 x3) : (failOne x1 x2 x3).tim = x1.tim := by
  have k : ∀ (l : List Sys2Proof.VaultOp) (s : State), (l.foldl (fun s o => match o with
    | .editDomain d .destroy => updDomain s d fun x => { x with state := if x.state = .destroying then .active else x.state }
    | .editDomain _ (.function f true) => updFunc s f fun x => { x with restoring := none }
    | _ => s) s).tim = s.tim := by
    intro l s; apply st_foldl_tim; intros; split <;> simp
  unfold failOne; dsimp only; split
  · apply k
  · split
    · simp only [endJob_frame]; apply k
    · simp only [answer_frame]; apply k

@[simp ↓] theorem failOne_lcy (x1 x2 x3) : (failOne x1 x2 x3).lcy = x1.lcy := by
  have k : ∀ (l : List Sys2Proof.VaultOp) (s : State), (l.foldl (fun s o => match o with
    | .editDomain d .destroy => updDomain s d fun x => { x with state := if x.state = .destroying then .active else x.state }
    | .editDomain _ (.function f true) => updFunc s f fun x => { x with restoring := none }
    | _ => s) s).lcy = s.lcy := by
    intro l s; apply st_foldl_lcy; intros; split <;> simp
  unfold failOne; dsimp only; split
  · apply k
  · split
    · simp only [endJob_frame]; apply k
    · simp only [answer_frame]; apply k

@[simp ↓] theorem failOne_die (x1 x2 x3) : (failOne x1 x2 x3).die = x1.die := by
  have k : ∀ (l : List Sys2Proof.VaultOp) (s : State), (l.foldl (fun s o => match o with
    | .editDomain d .destroy => updDomain s d fun x => { x with state := if x.state = .destroying then .active else x.state }
    | .editDomain _ (.function f true) => updFunc s f fun x => { x with restoring := none }
    | _ => s) s).die = s.die := by
    intro l s; apply st_foldl_die; intros; split <;> simp
  unfold failOne; dsimp only; split
  · apply k
  · split
    · simp only [endJob_frame]; apply k
    · simp only [answer_frame]; apply k

@[simp ↓] theorem failOne_rng (x1 x2 x3) : (failOne x1 x2 x3).rng = x1.rng := by
  have k : ∀ (l : List Sys2Proof.VaultOp) (s : State), (l.foldl (fun s o => match o with
    | .editDomain d .destroy => updDomain s d fun x => { x with state := if x.state = .destroying then .active else x.state }
    | .editDomain _ (.function f true) => updFunc s f fun x => { x with restoring := none }
    | _ => s) s).rng = s.rng := by
    intro l s; apply st_foldl_rng; intros; split <;> simp
  unfold failOne; dsimp only; split
  · apply k
  · split
    · simp only [endJob_frame]; apply k
    · simp only [answer_frame]; apply k

@[simp ↓] theorem failOne_pke (x1 x2 x3) : (failOne x1 x2 x3).pke = x1.pke := by
  have k : ∀ (l : List Sys2Proof.VaultOp) (s : State), (l.foldl (fun s o => match o with
    | .editDomain d .destroy => updDomain s d fun x => { x with state := if x.state = .destroying then .active else x.state }
    | .editDomain _ (.function f true) => updFunc s f fun x => { x with restoring := none }
    | _ => s) s).pke = s.pke := by
    intro l s; apply st_foldl_pke; intros; split <;> simp
  unfold failOne; dsimp only; split
  · apply k
  · split
    · simp only [endJob_frame]; apply k
    · simp only [answer_frame]; apply k

@[simp ↓] theorem failOne_geo (x1 x2 x3) : (failOne x1 x2 x3).geo = x1.geo := by
  have k : ∀ (l : List Sys2Proof.VaultOp) (s : State), (l.foldl (fun s o => match o with
    | .editDomain d .destroy => updDomain s d fun x => { x with state := if x.state = .destroying then .active else x.state }
    | .editDomain _ (.function f true) => updFunc s f fun x => { x with restoring := none }
    | _ => s) s).geo = s.geo := by
    intro l s; apply st_foldl_geo; intros; split <;> simp
  unfold failOne; dsimp only; split
  · apply k
  · split
    · simp only [endJob_frame]; apply k
    · simp only [answer_frame]; apply k

@[simp ↓] theorem failOne_flash (x1 x2 x3) : (failOne x1 x2 x3).flash = x1.flash := by
  have k : ∀ (l : List Sys2Proof.VaultOp) (s : State), (l.foldl (fun s o => match o with
    | .editDomain d .destroy => updDomain s d fun x => { x with state := if x.state = .destroying then .active else x.state }
    | .editDomain _ (.function f true) => updFunc s f fun x => { x with restoring := none }
    | _ => s) s).flash = s.flash := by
    intro l s; apply st_foldl_flash; intros; split <;> simp
  unfold failOne; dsimp only; split
  · apply k
  · split
    · simp only [endJob_frame]; apply k
    · simp only [answer_frame]; apply k

@[simp ↓] theorem failOne_kar (x1 x2 x3) : (failOne x1 x2 x3).kar = x1.kar := by
  have k : ∀ (l : List Sys2Proof.VaultOp) (s : State), (l.foldl (fun s o => match o with
    | .editDomain d .destroy => updDomain s d fun x => { x with state := if x.state = .destroying then .active else x.state }
    | .editDomain _ (.function f true) => updFunc s f fun x => { x with restoring := none }
    | _ => s) s).kar = s.kar := by
    intro l s; apply st_foldl_kar; intros; split <;> simp
  unfold failOne; dsimp only; split
  · apply k
  · split
    · simp only [endJob_frame]; apply k
    · simp only [answer_frame]; apply k

@[simp ↓] theorem failChanges_frame (x1 x2 x3) :
    (failChanges x1 x2 x3).pending = x1.pending ∧ (failChanges x1 x2 x3).now = x1.now ∧ (failChanges x1 x2 x3).fresh = x1.fresh ∧ (failChanges x1 x2 x3).snaps = x1.snaps ∧ (failChanges x1 x2 x3).psg = x1.psg ∧ (failChanges x1 x2 x3).cham = x1.cham ∧ (failChanges x1 x2 x3).lan = x1.lan ∧ (failChanges x1 x2 x3).bb = x1.bb ∧ (failChanges x1 x2 x3).tim = x1.tim ∧ (failChanges x1 x2 x3).lcy = x1.lcy ∧ (failChanges x1 x2 x3).die = x1.die ∧ (failChanges x1 x2 x3).rng = x1.rng ∧ (failChanges x1 x2 x3).pke = x1.pke ∧ (failChanges x1 x2 x3).geo = x1.geo ∧ (failChanges x1 x2 x3).flash = x1.flash ∧ (failChanges x1 x2 x3).kar = x1.kar := by unfold failChanges; simp

@[simp ↓] theorem abandonChanges_frame (x1 x2) :
    (abandonChanges x1 x2).pending = x1.pending ∧ (abandonChanges x1 x2).now = x1.now ∧ (abandonChanges x1 x2).fresh = x1.fresh ∧ (abandonChanges x1 x2).snaps = x1.snaps ∧ (abandonChanges x1 x2).psg = x1.psg ∧ (abandonChanges x1 x2).cham = x1.cham ∧ (abandonChanges x1 x2).lan = x1.lan ∧ (abandonChanges x1 x2).tim = x1.tim ∧ (abandonChanges x1 x2).lcy = x1.lcy ∧ (abandonChanges x1 x2).die = x1.die ∧ (abandonChanges x1 x2).rng = x1.rng ∧ (abandonChanges x1 x2).pke = x1.pke ∧ (abandonChanges x1 x2).kar = x1.kar := by unfold abandonChanges; simp

@[simp ↓] theorem integrityFail_frame (x1 x2 x3) :
    (integrityFail x1 x2 x3).pending = x1.pending ∧ (integrityFail x1 x2 x3).now = x1.now ∧ (integrityFail x1 x2 x3).fresh = x1.fresh ∧ (integrityFail x1 x2 x3).snaps = x1.snaps ∧ (integrityFail x1 x2 x3).psg = x1.psg ∧ (integrityFail x1 x2 x3).cham = x1.cham ∧ (integrityFail x1 x2 x3).lan = x1.lan ∧ (integrityFail x1 x2 x3).tim = x1.tim ∧ (integrityFail x1 x2 x3).lcy = x1.lcy ∧ (integrityFail x1 x2 x3).die = x1.die ∧ (integrityFail x1 x2 x3).rng = x1.rng ∧ (integrityFail x1 x2 x3).pke = x1.pke ∧ (integrityFail x1 x2 x3).kar = x1.kar := by unfold integrityFail; simp

@[simp ↓] theorem unmount_frame (x1 x2) :
    (unmount x1 x2).pending = x1.pending ∧ (unmount x1 x2).now = x1.now ∧ (unmount x1 x2).fresh = x1.fresh ∧ (unmount x1 x2).snaps = x1.snaps ∧ (unmount x1 x2).psg = x1.psg ∧ (unmount x1 x2).cham = x1.cham ∧ (unmount x1 x2).lan = x1.lan ∧ (unmount x1 x2).tim = x1.tim ∧ (unmount x1 x2).lcy = x1.lcy ∧ (unmount x1 x2).die = x1.die ∧ (unmount x1 x2).rng = x1.rng ∧ (unmount x1 x2).pke = x1.pke ∧ (unmount x1 x2).kar = x1.kar := by unfold unmount; simp

@[simp ↓] theorem updChannel_frame (x1 x2 x3) :
    (updChannel x1 x2 x3).pending = x1.pending ∧ (updChannel x1 x2 x3).now = x1.now ∧ (updChannel x1 x2 x3).fresh = x1.fresh ∧ (updChannel x1 x2 x3).out = x1.out ∧ (updChannel x1 x2 x3).snaps = x1.snaps ∧ (updChannel x1 x2 x3).id = x1.id ∧ (updChannel x1 x2 x3).psg = x1.psg ∧ (updChannel x1 x2 x3).cham = x1.cham ∧ (updChannel x1 x2 x3).kst = x1.kst ∧ (updChannel x1 x2 x3).mbx = x1.mbx ∧ (updChannel x1 x2 x3).str = x1.str ∧ (updChannel x1 x2 x3).lan = x1.lan ∧ (updChannel x1 x2 x3).bb = x1.bb ∧ (updChannel x1 x2 x3).tim = x1.tim ∧ (updChannel x1 x2 x3).lcy = x1.lcy ∧ (updChannel x1 x2 x3).die = x1.die ∧ (updChannel x1 x2 x3).rng = x1.rng ∧ (updChannel x1 x2 x3).pke = x1.pke ∧ (updChannel x1 x2 x3).eng = x1.eng ∧ (updChannel x1 x2 x3).host = x1.host ∧ (updChannel x1 x2 x3).flash = x1.flash ∧ (updChannel x1 x2 x3).wld = x1.wld ∧ (updChannel x1 x2 x3).kar = x1.kar ∧ (updChannel x1 x2 x3).ctl = x1.ctl := by unfold updChannel; simp

@[simp ↓] theorem enterReadOnly_frame (x1) :
    (enterReadOnly x1).pending = x1.pending ∧ (enterReadOnly x1).now = x1.now ∧ (enterReadOnly x1).fresh = x1.fresh ∧ (enterReadOnly x1).snaps = x1.snaps ∧ (enterReadOnly x1).psg = x1.psg ∧ (enterReadOnly x1).cham = x1.cham ∧ (enterReadOnly x1).lan = x1.lan ∧ (enterReadOnly x1).tim = x1.tim ∧ (enterReadOnly x1).lcy = x1.lcy ∧ (enterReadOnly x1).die = x1.die ∧ (enterReadOnly x1).rng = x1.rng ∧ (enterReadOnly x1).pke = x1.pke ∧ (enterReadOnly x1).kar = x1.kar := by unfold enterReadOnly; simp

@[simp ↓] theorem refreshSpares_frame (x1) :
    (refreshSpares x1).pending = x1.pending ∧ (refreshSpares x1).now = x1.now ∧ (refreshSpares x1).fresh = x1.fresh ∧ (refreshSpares x1).out = x1.out ∧ (refreshSpares x1).snaps = x1.snaps ∧ (refreshSpares x1).id = x1.id ∧ (refreshSpares x1).psg = x1.psg ∧ (refreshSpares x1).cham = x1.cham ∧ (refreshSpares x1).kst = x1.kst ∧ (refreshSpares x1).mbx = x1.mbx ∧ (refreshSpares x1).lan = x1.lan ∧ (refreshSpares x1).bb = x1.bb ∧ (refreshSpares x1).tim = x1.tim ∧ (refreshSpares x1).lcy = x1.lcy ∧ (refreshSpares x1).die = x1.die ∧ (refreshSpares x1).rng = x1.rng ∧ (refreshSpares x1).pke = x1.pke ∧ (refreshSpares x1).eng = x1.eng ∧ (refreshSpares x1).host = x1.host ∧ (refreshSpares x1).flash = x1.flash ∧ (refreshSpares x1).wld = x1.wld ∧ (refreshSpares x1).kar = x1.kar ∧ (refreshSpares x1).ctl = x1.ctl := by unfold refreshSpares; simp

@[simp ↓] theorem retireBlock_frame (x1 x2) :
    (retireBlock x1 x2).pending = x1.pending ∧ (retireBlock x1 x2).now = x1.now ∧ (retireBlock x1 x2).fresh = x1.fresh ∧ (retireBlock x1 x2).snaps = x1.snaps ∧ (retireBlock x1 x2).psg = x1.psg ∧ (retireBlock x1 x2).cham = x1.cham ∧ (retireBlock x1 x2).lan = x1.lan ∧ (retireBlock x1 x2).tim = x1.tim ∧ (retireBlock x1 x2).lcy = x1.lcy ∧ (retireBlock x1 x2).die = x1.die ∧ (retireBlock x1 x2).rng = x1.rng ∧ (retireBlock x1 x2).pke = x1.pke ∧ (retireBlock x1 x2).kar = x1.kar := by unfold retireBlock; simp

@[simp ↓] theorem failPageIn_frame (x1 x2) :
    (failPageIn x1 x2).pending = x1.pending ∧ (failPageIn x1 x2).now = x1.now ∧ (failPageIn x1 x2).fresh = x1.fresh ∧ (failPageIn x1 x2).snaps = x1.snaps ∧ (failPageIn x1 x2).id = x1.id ∧ (failPageIn x1 x2).cham = x1.cham ∧ (failPageIn x1 x2).kst = x1.kst ∧ (failPageIn x1 x2).mbx = x1.mbx ∧ (failPageIn x1 x2).lan = x1.lan ∧ (failPageIn x1 x2).bb = x1.bb ∧ (failPageIn x1 x2).die = x1.die ∧ (failPageIn x1 x2).rng = x1.rng ∧ (failPageIn x1 x2).pke = x1.pke ∧ (failPageIn x1 x2).eng = x1.eng ∧ (failPageIn x1 x2).host = x1.host ∧ (failPageIn x1 x2).flash = x1.flash ∧ (failPageIn x1 x2).kar = x1.kar := by unfold failPageIn; simp

@[simp ↓] theorem resolveWaiting_frame (x1 x2) :
    (resolveWaiting x1 x2).pending = x1.pending ∧ (resolveWaiting x1 x2).now = x1.now ∧ (resolveWaiting x1 x2).fresh = x1.fresh ∧ (resolveWaiting x1 x2).snaps = x1.snaps ∧ (resolveWaiting x1 x2).id = x1.id ∧ (resolveWaiting x1 x2).cham = x1.cham ∧ (resolveWaiting x1 x2).mbx = x1.mbx ∧ (resolveWaiting x1 x2).lan = x1.lan ∧ (resolveWaiting x1 x2).bb = x1.bb ∧ (resolveWaiting x1 x2).die = x1.die ∧ (resolveWaiting x1 x2).rng = x1.rng ∧ (resolveWaiting x1 x2).pke = x1.pke ∧ (resolveWaiting x1 x2).eng = x1.eng ∧ (resolveWaiting x1 x2).host = x1.host ∧ (resolveWaiting x1 x2).flash = x1.flash ∧ (resolveWaiting x1 x2).kar = x1.kar := by unfold resolveWaiting; simp

@[simp ↓] theorem repairCell_frame (x1 x2 x3 x4) :
    (repairCell x1 x2 x3 x4).pending = x1.pending ∧ (repairCell x1 x2 x3 x4).now = x1.now ∧ (repairCell x1 x2 x3 x4).fresh = x1.fresh ∧ (repairCell x1 x2 x3 x4).snaps = x1.snaps ∧ (repairCell x1 x2 x3 x4).psg = x1.psg ∧ (repairCell x1 x2 x3 x4).cham = x1.cham ∧ (repairCell x1 x2 x3 x4).lan = x1.lan ∧ (repairCell x1 x2 x3 x4).tim = x1.tim ∧ (repairCell x1 x2 x3 x4).lcy = x1.lcy ∧ (repairCell x1 x2 x3 x4).die = x1.die ∧ (repairCell x1 x2 x3 x4).rng = x1.rng ∧ (repairCell x1 x2 x3 x4).pke = x1.pke ∧ (repairCell x1 x2 x3 x4).kar = x1.kar := by unfold repairCell; simp

@[simp ↓] theorem pageRecord_frame (x1 x2) :
    (pageRecord x1 x2).pending = x1.pending ∧ (pageRecord x1 x2).now = x1.now ∧ (pageRecord x1 x2).fresh = x1.fresh ∧ (pageRecord x1 x2).snaps = x1.snaps ∧ (pageRecord x1 x2).id = x1.id ∧ (pageRecord x1 x2).cham = x1.cham ∧ (pageRecord x1 x2).lan = x1.lan ∧ (pageRecord x1 x2).bb = x1.bb ∧ (pageRecord x1 x2).die = x1.die ∧ (pageRecord x1 x2).rng = x1.rng ∧ (pageRecord x1 x2).pke = x1.pke ∧ (pageRecord x1 x2).flash = x1.flash ∧ (pageRecord x1 x2).kar = x1.kar := by unfold pageRecord; dsimp only; (repeat' split) <;> (try have := makeRoom_pending_of ‹_›) <;> (try have := makeRoom_now_of ‹_›) <;> (try have := makeRoom_fresh_of ‹_›) <;> (try have := makeRoom_snaps_of ‹_›) <;> (try have := makeRoom_id_of ‹_›) <;> (try have := makeRoom_cham_of ‹_›) <;> (try have := makeRoom_lan_of ‹_›) <;> (try have := makeRoom_bb_of ‹_›) <;> (try have := makeRoom_die_of ‹_›) <;> (try have := makeRoom_rng_of ‹_›) <;> (try have := makeRoom_pke_of ‹_›) <;> (try have := makeRoom_flash_of ‹_›) <;> (try have := makeRoom_kar_of ‹_›) <;> simp [*]

@[simp ↓] theorem failPageIns_frame (x1) :
    (failPageIns x1).pending = x1.pending ∧ (failPageIns x1).now = x1.now ∧ (failPageIns x1).fresh = x1.fresh ∧ (failPageIns x1).snaps = x1.snaps ∧ (failPageIns x1).id = x1.id ∧ (failPageIns x1).cham = x1.cham ∧ (failPageIns x1).kst = x1.kst ∧ (failPageIns x1).mbx = x1.mbx ∧ (failPageIns x1).lan = x1.lan ∧ (failPageIns x1).bb = x1.bb ∧ (failPageIns x1).die = x1.die ∧ (failPageIns x1).rng = x1.rng ∧ (failPageIns x1).pke = x1.pke ∧ (failPageIns x1).eng = x1.eng ∧ (failPageIns x1).host = x1.host ∧ (failPageIns x1).flash = x1.flash ∧ (failPageIns x1).kar = x1.kar := by unfold failPageIns; simp

@[simp ↓] theorem startCommit_frame (x1 x2 x3) :
    (startCommit x1 x2 x3).pending = x1.pending ∧ (startCommit x1 x2 x3).now = x1.now ∧ (startCommit x1 x2 x3).fresh = x1.fresh ∧ (startCommit x1 x2 x3).snaps = x1.snaps ∧ (startCommit x1 x2 x3).psg = x1.psg ∧ (startCommit x1 x2 x3).cham = x1.cham ∧ (startCommit x1 x2 x3).lan = x1.lan ∧ (startCommit x1 x2 x3).tim = x1.tim ∧ (startCommit x1 x2 x3).lcy = x1.lcy ∧ (startCommit x1 x2 x3).die = x1.die ∧ (startCommit x1 x2 x3).rng = x1.rng ∧ (startCommit x1 x2 x3).pke = x1.pke ∧ (startCommit x1 x2 x3).kar = x1.kar := by unfold startCommit; simp

@[simp ↓] theorem stalePageIns_frame (x1 x2) :
    (stalePageIns x1 x2).pending = x1.pending ∧ (stalePageIns x1 x2).now = x1.now ∧ (stalePageIns x1 x2).fresh = x1.fresh ∧ (stalePageIns x1 x2).out = x1.out ∧ (stalePageIns x1 x2).snaps = x1.snaps ∧ (stalePageIns x1 x2).id = x1.id ∧ (stalePageIns x1 x2).cham = x1.cham ∧ (stalePageIns x1 x2).kst = x1.kst ∧ (stalePageIns x1 x2).mbx = x1.mbx ∧ (stalePageIns x1 x2).str = x1.str ∧ (stalePageIns x1 x2).lan = x1.lan ∧ (stalePageIns x1 x2).bb = x1.bb ∧ (stalePageIns x1 x2).tim = x1.tim ∧ (stalePageIns x1 x2).lcy = x1.lcy ∧ (stalePageIns x1 x2).die = x1.die ∧ (stalePageIns x1 x2).rng = x1.rng ∧ (stalePageIns x1 x2).pke = x1.pke ∧ (stalePageIns x1 x2).eng = x1.eng ∧ (stalePageIns x1 x2).host = x1.host ∧ (stalePageIns x1 x2).geo = x1.geo ∧ (stalePageIns x1 x2).flash = x1.flash ∧ (stalePageIns x1 x2).wld = x1.wld ∧ (stalePageIns x1 x2).kar = x1.kar ∧ (stalePageIns x1 x2).ctl = x1.ctl := by unfold stalePageIns; simp

@[simp ↓] theorem finishDestroy_frame (x1 x2) :
    (finishDestroy x1 x2).pending = x1.pending ∧ (finishDestroy x1 x2).now = x1.now ∧ (finishDestroy x1 x2).fresh = x1.fresh ∧ (finishDestroy x1 x2).snaps = x1.snaps ∧ (finishDestroy x1 x2).id = x1.id ∧ (finishDestroy x1 x2).psg = x1.psg ∧ (finishDestroy x1 x2).cham = x1.cham ∧ (finishDestroy x1 x2).lan = x1.lan ∧ (finishDestroy x1 x2).bb = x1.bb ∧ (finishDestroy x1 x2).tim = x1.tim ∧ (finishDestroy x1 x2).lcy = x1.lcy ∧ (finishDestroy x1 x2).die = x1.die ∧ (finishDestroy x1 x2).rng = x1.rng ∧ (finishDestroy x1 x2).geo = x1.geo ∧ (finishDestroy x1 x2).flash = x1.flash ∧ (finishDestroy x1 x2).kar = x1.kar := by unfold finishDestroy; simp

@[simp ↓] theorem afterOp_frame (x1 x2) :
    (afterOp x1 x2).pending = x1.pending ∧ (afterOp x1 x2).now = x1.now ∧ (afterOp x1 x2).fresh = x1.fresh ∧ (afterOp x1 x2).snaps = x1.snaps ∧ (afterOp x1 x2).id = x1.id ∧ (afterOp x1 x2).psg = x1.psg ∧ (afterOp x1 x2).cham = x1.cham ∧ (afterOp x1 x2).lan = x1.lan ∧ (afterOp x1 x2).bb = x1.bb ∧ (afterOp x1 x2).tim = x1.tim ∧ (afterOp x1 x2).lcy = x1.lcy ∧ (afterOp x1 x2).die = x1.die ∧ (afterOp x1 x2).rng = x1.rng ∧ (afterOp x1 x2).geo = x1.geo ∧ (afterOp x1 x2).flash = x1.flash ∧ (afterOp x1 x2).kar = x1.kar := by unfold afterOp; dsimp only; (repeat' split) <;> (try have := makeRoom_pending_of ‹_›) <;> (try have := makeRoom_now_of ‹_›) <;> (try have := makeRoom_fresh_of ‹_›) <;> (try have := makeRoom_snaps_of ‹_›) <;> (try have := makeRoom_id_of ‹_›) <;> (try have := makeRoom_psg_of ‹_›) <;> (try have := makeRoom_cham_of ‹_›) <;> (try have := makeRoom_lan_of ‹_›) <;> (try have := makeRoom_bb_of ‹_›) <;> (try have := makeRoom_tim_of ‹_›) <;> (try have := makeRoom_lcy_of ‹_›) <;> (try have := makeRoom_die_of ‹_›) <;> (try have := makeRoom_rng_of ‹_›) <;> (try have := makeRoom_geo_of ‹_›) <;> (try have := makeRoom_flash_of ‹_›) <;> (try have := makeRoom_kar_of ‹_›) <;> simp [*]

@[simp ↓] theorem answerChange_pending (x1 x2) : (answerChange x1 x2).pending = x1.pending := by unfold answerChange; dsimp only; (repeat' split) <;> simp [*] <;> (apply st_foldl_pending; intros; (repeat' split) <;> simp [*])

@[simp ↓] theorem answerChange_now (x1 x2) : (answerChange x1 x2).now = x1.now := by unfold answerChange; dsimp only; (repeat' split) <;> simp [*] <;> (apply st_foldl_now; intros; (repeat' split) <;> simp [*])

@[simp ↓] theorem answerChange_fresh (x1 x2) : (answerChange x1 x2).fresh = x1.fresh := by unfold answerChange; dsimp only; (repeat' split) <;> simp [*] <;> (apply st_foldl_fresh; intros; (repeat' split) <;> simp [*])

@[simp ↓] theorem answerChange_snaps (x1 x2) : (answerChange x1 x2).snaps = x1.snaps := by unfold answerChange; dsimp only; (repeat' split) <;> simp [*] <;> (apply st_foldl_snaps; intros; (repeat' split) <;> simp [*])

@[simp ↓] theorem answerChange_id (x1 x2) : (answerChange x1 x2).id = x1.id := by unfold answerChange; dsimp only; (repeat' split) <;> simp [*] <;> (apply st_foldl_id; intros; (repeat' split) <;> simp [*])

@[simp ↓] theorem answerChange_psg (x1 x2) : (answerChange x1 x2).psg = x1.psg := by unfold answerChange; dsimp only; (repeat' split) <;> simp [*] <;> (apply st_foldl_psg; intros; (repeat' split) <;> simp [*])

@[simp ↓] theorem answerChange_cham (x1 x2) : (answerChange x1 x2).cham = x1.cham := by unfold answerChange; dsimp only; (repeat' split) <;> simp [*] <;> (apply st_foldl_cham; intros; (repeat' split) <;> simp [*])

@[simp ↓] theorem answerChange_kst (x1 x2) : (answerChange x1 x2).kst = x1.kst := by unfold answerChange; dsimp only; (repeat' split) <;> simp [*] <;> (apply st_foldl_kst; intros; (repeat' split) <;> simp [*])

@[simp ↓] theorem answerChange_lan (x1 x2) : (answerChange x1 x2).lan = x1.lan := by unfold answerChange; dsimp only; (repeat' split) <;> simp [*] <;> (apply st_foldl_lan; intros; (repeat' split) <;> simp [*])

@[simp ↓] theorem answerChange_bb (x1 x2) : (answerChange x1 x2).bb = x1.bb := by unfold answerChange; dsimp only; (repeat' split) <;> simp [*] <;> (apply st_foldl_bb; intros; (repeat' split) <;> simp [*])

@[simp ↓] theorem answerChange_tim (x1 x2) : (answerChange x1 x2).tim = x1.tim := by unfold answerChange; dsimp only; (repeat' split) <;> simp [*] <;> (apply st_foldl_tim; intros; (repeat' split) <;> simp [*])

@[simp ↓] theorem answerChange_lcy (x1 x2) : (answerChange x1 x2).lcy = x1.lcy := by unfold answerChange; dsimp only; (repeat' split) <;> simp [*] <;> (apply st_foldl_lcy; intros; (repeat' split) <;> simp [*])

@[simp ↓] theorem answerChange_die (x1 x2) : (answerChange x1 x2).die = x1.die := by unfold answerChange; dsimp only; (repeat' split) <;> simp [*] <;> (apply st_foldl_die; intros; (repeat' split) <;> simp [*])

@[simp ↓] theorem answerChange_rng (x1 x2) : (answerChange x1 x2).rng = x1.rng := by unfold answerChange; dsimp only; (repeat' split) <;> simp [*] <;> (apply st_foldl_rng; intros; (repeat' split) <;> simp [*])

@[simp ↓] theorem answerChange_pke (x1 x2) : (answerChange x1 x2).pke = x1.pke := by unfold answerChange; dsimp only; (repeat' split) <;> simp [*] <;> (apply st_foldl_pke; intros; (repeat' split) <;> simp [*])

@[simp ↓] theorem answerChange_geo (x1 x2) : (answerChange x1 x2).geo = x1.geo := by unfold answerChange; dsimp only; (repeat' split) <;> simp [*] <;> (apply st_foldl_geo; intros; (repeat' split) <;> simp [*])

@[simp ↓] theorem answerChange_flash (x1 x2) : (answerChange x1 x2).flash = x1.flash := by unfold answerChange; dsimp only; (repeat' split) <;> simp [*] <;> (apply st_foldl_flash; intros; (repeat' split) <;> simp [*])

@[simp ↓] theorem answerChange_kar (x1 x2) : (answerChange x1 x2).kar = x1.kar := by unfold answerChange; dsimp only; (repeat' split) <;> simp [*] <;> (apply st_foldl_kar; intros; (repeat' split) <;> simp [*])

@[simp ↓] theorem loadDomains_frame (x1) :
    (loadDomains x1).pending = x1.pending ∧ (loadDomains x1).now = x1.now ∧ (loadDomains x1).fresh = x1.fresh ∧ (loadDomains x1).out = x1.out ∧ (loadDomains x1).snaps = x1.snaps ∧ (loadDomains x1).id = x1.id ∧ (loadDomains x1).psg = x1.psg ∧ (loadDomains x1).cham = x1.cham ∧ (loadDomains x1).mbx = x1.mbx ∧ (loadDomains x1).str = x1.str ∧ (loadDomains x1).lan = x1.lan ∧ (loadDomains x1).bb = x1.bb ∧ (loadDomains x1).tim = x1.tim ∧ (loadDomains x1).lcy = x1.lcy ∧ (loadDomains x1).die = x1.die ∧ (loadDomains x1).rng = x1.rng ∧ (loadDomains x1).pke = x1.pke ∧ (loadDomains x1).eng = x1.eng ∧ (loadDomains x1).host = x1.host ∧ (loadDomains x1).geo = x1.geo ∧ (loadDomains x1).flash = x1.flash ∧ (loadDomains x1).wld = x1.wld ∧ (loadDomains x1).kar = x1.kar ∧ (loadDomains x1).ctl = x1.ctl := by unfold loadDomains; simp

@[simp ↓] theorem answerRemount_frame (x1) :
    (answerRemount x1).pending = x1.pending ∧ (answerRemount x1).now = x1.now ∧ (answerRemount x1).fresh = x1.fresh ∧ (answerRemount x1).snaps = x1.snaps ∧ (answerRemount x1).id = x1.id ∧ (answerRemount x1).psg = x1.psg ∧ (answerRemount x1).cham = x1.cham ∧ (answerRemount x1).kst = x1.kst ∧ (answerRemount x1).str = x1.str ∧ (answerRemount x1).lan = x1.lan ∧ (answerRemount x1).bb = x1.bb ∧ (answerRemount x1).tim = x1.tim ∧ (answerRemount x1).lcy = x1.lcy ∧ (answerRemount x1).die = x1.die ∧ (answerRemount x1).rng = x1.rng ∧ (answerRemount x1).pke = x1.pke ∧ (answerRemount x1).eng = x1.eng ∧ (answerRemount x1).flash = x1.flash ∧ (answerRemount x1).kar = x1.kar ∧ (answerRemount x1).ctl = x1.ctl := by unfold answerRemount; (repeat' split) <;> simp

@[simp ↓] theorem finishMount_frame (x1 x2) :
    (finishMount x1 x2).pending = x1.pending ∧ (finishMount x1 x2).now = x1.now ∧ (finishMount x1 x2).fresh = x1.fresh ∧ (finishMount x1 x2).snaps = x1.snaps ∧ (finishMount x1 x2).psg = x1.psg ∧ (finishMount x1 x2).cham = x1.cham ∧ (finishMount x1 x2).lan = x1.lan ∧ (finishMount x1 x2).tim = x1.tim ∧ (finishMount x1 x2).lcy = x1.lcy ∧ (finishMount x1 x2).die = x1.die ∧ (finishMount x1 x2).rng = x1.rng ∧ (finishMount x1 x2).pke = x1.pke ∧ (finishMount x1 x2).kar = x1.kar := by unfold finishMount; (repeat' split) <;> simp

@[simp ↓] theorem writeScrub_frame (x1 x2) :
    (writeScrub x1 x2).pending = x1.pending ∧ (writeScrub x1 x2).now = x1.now ∧ (writeScrub x1 x2).fresh = x1.fresh ∧ (writeScrub x1 x2).out = x1.out ∧ (writeScrub x1 x2).snaps = x1.snaps ∧ (writeScrub x1 x2).id = x1.id ∧ (writeScrub x1 x2).psg = x1.psg ∧ (writeScrub x1 x2).cham = x1.cham ∧ (writeScrub x1 x2).kst = x1.kst ∧ (writeScrub x1 x2).mbx = x1.mbx ∧ (writeScrub x1 x2).str = x1.str ∧ (writeScrub x1 x2).lan = x1.lan ∧ (writeScrub x1 x2).bb = x1.bb ∧ (writeScrub x1 x2).tim = x1.tim ∧ (writeScrub x1 x2).lcy = x1.lcy ∧ (writeScrub x1 x2).die = x1.die ∧ (writeScrub x1 x2).rng = x1.rng ∧ (writeScrub x1 x2).pke = x1.pke ∧ (writeScrub x1 x2).eng = x1.eng ∧ (writeScrub x1 x2).host = x1.host ∧ (writeScrub x1 x2).flash = x1.flash ∧ (writeScrub x1 x2).wld = x1.wld ∧ (writeScrub x1 x2).kar = x1.kar ∧ (writeScrub x1 x2).ctl = x1.ctl := by unfold writeScrub; simp

@[simp ↓] theorem formatVault_frame (x1 x2) :
    (formatVault x1 x2).pending = x1.pending ∧ (formatVault x1 x2).now = x1.now ∧ (formatVault x1 x2).fresh = x1.fresh ∧ (formatVault x1 x2).snaps = x1.snaps ∧ (formatVault x1 x2).psg = x1.psg ∧ (formatVault x1 x2).cham = x1.cham ∧ (formatVault x1 x2).lan = x1.lan ∧ (formatVault x1 x2).tim = x1.tim ∧ (formatVault x1 x2).lcy = x1.lcy ∧ (formatVault x1 x2).die = x1.die ∧ (formatVault x1 x2).rng = x1.rng ∧ (formatVault x1 x2).kar = x1.kar := by unfold formatVault; simp

@[simp ↓] theorem loseVault_frame (x1) :
    (loseVault x1).pending = x1.pending ∧ (loseVault x1).now = x1.now ∧ (loseVault x1).fresh = x1.fresh ∧ (loseVault x1).snaps = x1.snaps ∧ (loseVault x1).psg = x1.psg ∧ (loseVault x1).cham = x1.cham ∧ (loseVault x1).lan = x1.lan ∧ (loseVault x1).tim = x1.tim ∧ (loseVault x1).lcy = x1.lcy ∧ (loseVault x1).die = x1.die ∧ (loseVault x1).rng = x1.rng ∧ (loseVault x1).pke = x1.pke ∧ (loseVault x1).kar = x1.kar := by unfold loseVault; simp

end Sys2Proof.Machine
end

