-- ==== Sys2Proof/Laws/Frames/PassageCmds.lean ====
section
/-!
SUPPORT. What the operations of Machine/PassageCmds.lean leave unchanged: for each, every part of the state that it does not touch.
-/

set_option Elab.async false

set_option linter.all false
set_option maxRecDepth 2000

namespace Sys2Proof.Machine

@[simp ↓] theorem onWire_pending (x1 x2 x3) (hx3 : ∀ y1, (x3 y1).pending = x1.pending) : (onWire x1 x2 x3).pending = x1.pending := by unfold onWire; (repeat' split) <;> simp [*]

@[simp ↓] theorem onWire_now (x1 x2 x3) (hx3 : ∀ y1, (x3 y1).now = x1.now) : (onWire x1 x2 x3).now = x1.now := by unfold onWire; (repeat' split) <;> simp [*]

@[simp ↓] theorem onWire_fresh (x1 x2 x3) (hx3 : ∀ y1, (x3 y1).fresh = x1.fresh) : (onWire x1 x2 x3).fresh = x1.fresh := by unfold onWire; (repeat' split) <;> simp [*]

@[simp ↓] theorem onWire_snaps (x1 x2 x3) (hx3 : ∀ y1, (x3 y1).snaps = x1.snaps) : (onWire x1 x2 x3).snaps = x1.snaps := by unfold onWire; (repeat' split) <;> simp [*]

@[simp ↓] theorem onWire_id (x1 x2 x3) (hx3 : ∀ y1, (x3 y1).id = x1.id) : (onWire x1 x2 x3).id = x1.id := by unfold onWire; (repeat' split) <;> simp [*]

@[simp ↓] theorem onWire_psg (x1 x2 x3) (hx3 : ∀ y1, (x3 y1).psg = x1.psg) : (onWire x1 x2 x3).psg = x1.psg := by unfold onWire; (repeat' split) <;> simp [*]

@[simp ↓] theorem onWire_cham (x1 x2 x3) (hx3 : ∀ y1, (x3 y1).cham = x1.cham) : (onWire x1 x2 x3).cham = x1.cham := by unfold onWire; (repeat' split) <;> simp [*]

@[simp ↓] theorem onWire_kst (x1 x2 x3) (hx3 : ∀ y1, (x3 y1).kst = x1.kst) : (onWire x1 x2 x3).kst = x1.kst := by unfold onWire; (repeat' split) <;> simp [*]

@[simp ↓] theorem onWire_str (x1 x2 x3) (hx3 : ∀ y1, (x3 y1).str = x1.str) : (onWire x1 x2 x3).str = x1.str := by unfold onWire; (repeat' split) <;> simp [*]

@[simp ↓] theorem onWire_lan (x1 x2 x3) (hx3 : ∀ y1, (x3 y1).lan = x1.lan) : (onWire x1 x2 x3).lan = x1.lan := by unfold onWire; (repeat' split) <;> simp [*]

@[simp ↓] theorem onWire_bb (x1 x2 x3) (hx3 : ∀ y1, (x3 y1).bb = x1.bb) : (onWire x1 x2 x3).bb = x1.bb := by unfold onWire; (repeat' split) <;> simp [*]

@[simp ↓] theorem onWire_tim (x1 x2 x3) (hx3 : ∀ y1, (x3 y1).tim = x1.tim) : (onWire x1 x2 x3).tim = x1.tim := by unfold onWire; (repeat' split) <;> simp [*]

@[simp ↓] theorem onWire_lcy (x1 x2 x3) (hx3 : ∀ y1, (x3 y1).lcy = x1.lcy) : (onWire x1 x2 x3).lcy = x1.lcy := by unfold onWire; (repeat' split) <;> simp [*]

@[simp ↓] theorem onWire_die (x1 x2 x3) (hx3 : ∀ y1, (x3 y1).die = x1.die) : (onWire x1 x2 x3).die = x1.die := by unfold onWire; (repeat' split) <;> simp [*]

@[simp ↓] theorem onWire_rng (x1 x2 x3) (hx3 : ∀ y1, (x3 y1).rng = x1.rng) : (onWire x1 x2 x3).rng = x1.rng := by unfold onWire; (repeat' split) <;> simp [*]

@[simp ↓] theorem onWire_pke (x1 x2 x3) (hx3 : ∀ y1, (x3 y1).pke = x1.pke) : (onWire x1 x2 x3).pke = x1.pke := by unfold onWire; (repeat' split) <;> simp [*]

@[simp ↓] theorem onWire_eng (x1 x2 x3) (hx3 : ∀ y1, (x3 y1).eng = x1.eng) : (onWire x1 x2 x3).eng = x1.eng := by unfold onWire; (repeat' split) <;> simp [*]

@[simp ↓] theorem onWire_geo (x1 x2 x3) (hx3 : ∀ y1, (x3 y1).geo = x1.geo) : (onWire x1 x2 x3).geo = x1.geo := by unfold onWire; (repeat' split) <;> simp [*]

@[simp ↓] theorem onWire_flash (x1 x2 x3) (hx3 : ∀ y1, (x3 y1).flash = x1.flash) : (onWire x1 x2 x3).flash = x1.flash := by unfold onWire; (repeat' split) <;> simp [*]

@[simp ↓] theorem onWire_kar (x1 x2 x3) (hx3 : ∀ y1, (x3 y1).kar = x1.kar) : (onWire x1 x2 x3).kar = x1.kar := by unfold onWire; (repeat' split) <;> simp [*]

@[simp ↓] theorem onWire_ctl (x1 x2 x3) (hx3 : ∀ y1, (x3 y1).ctl = x1.ctl) : (onWire x1 x2 x3).ctl = x1.ctl := by unfold onWire; (repeat' split) <;> simp [*]

@[simp ↓] theorem prefetch_frame (x1 x2) :
    (prefetch x1 x2).1.pending = x1.pending ∧ (prefetch x1 x2).1.now = x1.now ∧ (prefetch x1 x2).1.fresh = x1.fresh ∧ (prefetch x1 x2).1.out = x1.out ∧ (prefetch x1 x2).1.snaps = x1.snaps ∧ (prefetch x1 x2).1.id = x1.id ∧ (prefetch x1 x2).1.cham = x1.cham ∧ (prefetch x1 x2).1.mbx = x1.mbx ∧ (prefetch x1 x2).1.str = x1.str ∧ (prefetch x1 x2).1.lan = x1.lan ∧ (prefetch x1 x2).1.bb = x1.bb ∧ (prefetch x1 x2).1.tim = x1.tim ∧ (prefetch x1 x2).1.lcy = x1.lcy ∧ (prefetch x1 x2).1.die = x1.die ∧ (prefetch x1 x2).1.rng = x1.rng ∧ (prefetch x1 x2).1.pke = x1.pke ∧ (prefetch x1 x2).1.eng = x1.eng ∧ (prefetch x1 x2).1.host = x1.host ∧ (prefetch x1 x2).1.geo = x1.geo ∧ (prefetch x1 x2).1.flash = x1.flash ∧ (prefetch x1 x2).1.wld = x1.wld ∧ (prefetch x1 x2).1.kar = x1.kar ∧ (prefetch x1 x2).1.ctl = x1.ctl := by unfold prefetch; (repeat' split) <;> simp

theorem prefetch_frame_of {x1 x2 x t} (h : prefetch x1 x2 = (t, x)) :
    t.pending = x1.pending ∧ t.now = x1.now ∧ t.fresh = x1.fresh ∧ t.out = x1.out ∧ t.snaps = x1.snaps ∧ t.id = x1.id ∧ t.cham = x1.cham ∧ t.mbx = x1.mbx ∧ t.str = x1.str ∧ t.lan = x1.lan ∧ t.bb = x1.bb ∧ t.tim = x1.tim ∧ t.lcy = x1.lcy ∧ t.die = x1.die ∧ t.rng = x1.rng ∧ t.pke = x1.pke ∧ t.eng = x1.eng ∧ t.host = x1.host ∧ t.geo = x1.geo ∧ t.flash = x1.flash ∧ t.wld = x1.wld ∧ t.kar = x1.kar ∧ t.ctl = x1.ctl := by
  have e := prefetch_frame x1 x2; rw [h] at e; exact e

@[simp ↓] theorem prefetchAll_pending (x1 x2) : (prefetchAll x1 x2).1.pending = x1.pending := by
  induction x2 generalizing x1 with
  | nil => simp [prefetchAll]
  | cons d t ih => simp [prefetchAll, ih]

theorem prefetchAll_pending_of {x1 x2 x t} (h : prefetchAll x1 x2 = (t, x)) : t.pending = x1.pending := by
  have e := prefetchAll_pending x1 x2; rw [h] at e; exact e

@[simp ↓] theorem prefetchAll_now (x1 x2) : (prefetchAll x1 x2).1.now = x1.now := by
  induction x2 generalizing x1 with
  | nil => simp [prefetchAll]
  | cons d t ih => simp [prefetchAll, ih]

theorem prefetchAll_now_of {x1 x2 x t} (h : prefetchAll x1 x2 = (t, x)) : t.now = x1.now := by
  have e := prefetchAll_now x1 x2; rw [h] at e; exact e

@[simp ↓] theorem prefetchAll_fresh (x1 x2) : (prefetchAll x1 x2).1.fresh = x1.fresh := by
  induction x2 generalizing x1 with
  | nil => simp [prefetchAll]
  | cons d t ih => simp [prefetchAll, ih]

theorem prefetchAll_fresh_of {x1 x2 x t} (h : prefetchAll x1 x2 = (t, x)) : t.fresh = x1.fresh := by
  have e := prefetchAll_fresh x1 x2; rw [h] at e; exact e

@[simp ↓] theorem prefetchAll_out (x1 x2) : (prefetchAll x1 x2).1.out = x1.out := by
  induction x2 generalizing x1 with
  | nil => simp [prefetchAll]
  | cons d t ih => simp [prefetchAll, ih]

theorem prefetchAll_out_of {x1 x2 x t} (h : prefetchAll x1 x2 = (t, x)) : t.out = x1.out := by
  have e := prefetchAll_out x1 x2; rw [h] at e; exact e

@[simp ↓] theorem prefetchAll_snaps (x1 x2) : (prefetchAll x1 x2).1.snaps = x1.snaps := by
  induction x2 generalizing x1 with
  | nil => simp [prefetchAll]
  | cons d t ih => simp [prefetchAll, ih]

theorem prefetchAll_snaps_of {x1 x2 x t} (h : prefetchAll x1 x2 = (t, x)) : t.snaps = x1.snaps := by
  have e := prefetchAll_snaps x1 x2; rw [h] at e; exact e

@[simp ↓] theorem prefetchAll_id (x1 x2) : (prefetchAll x1 x2).1.id = x1.id := by
  induction x2 generalizing x1 with
  | nil => simp [prefetchAll]
  | cons d t ih => simp [prefetchAll, ih]

theorem prefetchAll_id_of {x1 x2 x t} (h : prefetchAll x1 x2 = (t, x)) : t.id = x1.id := by
  have e := prefetchAll_id x1 x2; rw [h] at e; exact e

@[simp ↓] theorem prefetchAll_cham (x1 x2) : (prefetchAll x1 x2).1.cham = x1.cham := by
  induction x2 generalizing x1 with
  | nil => simp [prefetchAll]
  | cons d t ih => simp [prefetchAll, ih]

theorem prefetchAll_cham_of {x1 x2 x t} (h : prefetchAll x1 x2 = (t, x)) : t.cham = x1.cham := by
  have e := prefetchAll_cham x1 x2; rw [h] at e; exact e

@[simp ↓] theorem prefetchAll_mbx (x1 x2) : (prefetchAll x1 x2).1.mbx = x1.mbx := by
  induction x2 generalizing x1 with
  | nil => simp [prefetchAll]
  | cons d t ih => simp [prefetchAll, ih]

theorem prefetchAll_mbx_of {x1 x2 x t} (h : prefetchAll x1 x2 = (t, x)) : t.mbx = x1.mbx := by
  have e := prefetchAll_mbx x1 x2; rw [h] at e; exact e

@[simp ↓] theorem prefetchAll_str (x1 x2) : (prefetchAll x1 x2).1.str = x1.str := by
  induction x2 generalizing x1 with
  | nil => simp [prefetchAll]
  | cons d t ih => simp [prefetchAll, ih]

theorem prefetchAll_str_of {x1 x2 x t} (h : prefetchAll x1 x2 = (t, x)) : t.str = x1.str := by
  have e := prefetchAll_str x1 x2; rw [h] at e; exact e

@[simp ↓] theorem prefetchAll_lan (x1 x2) : (prefetchAll x1 x2).1.lan = x1.lan := by
  induction x2 generalizing x1 with
  | nil => simp [prefetchAll]
  | cons d t ih => simp [prefetchAll, ih]

theorem prefetchAll_lan_of {x1 x2 x t} (h : prefetchAll x1 x2 = (t, x)) : t.lan = x1.lan := by
  have e := prefetchAll_lan x1 x2; rw [h] at e; exact e

@[simp ↓] theorem prefetchAll_bb (x1 x2) : (prefetchAll x1 x2).1.bb = x1.bb := by
  induction x2 generalizing x1 with
  | nil => simp [prefetchAll]
  | cons d t ih => simp [prefetchAll, ih]

theorem prefetchAll_bb_of {x1 x2 x t} (h : prefetchAll x1 x2 = (t, x)) : t.bb = x1.bb := by
  have e := prefetchAll_bb x1 x2; rw [h] at e; exact e

@[simp ↓] theorem prefetchAll_tim (x1 x2) : (prefetchAll x1 x2).1.tim = x1.tim := by
  induction x2 generalizing x1 with
  | nil => simp [prefetchAll]
  | cons d t ih => simp [prefetchAll, ih]

theorem prefetchAll_tim_of {x1 x2 x t} (h : prefetchAll x1 x2 = (t, x)) : t.tim = x1.tim := by
  have e := prefetchAll_tim x1 x2; rw [h] at e; exact e

@[simp ↓] theorem prefetchAll_lcy (x1 x2) : (prefetchAll x1 x2).1.lcy = x1.lcy := by
  induction x2 generalizing x1 with
  | nil => simp [prefetchAll]
  | cons d t ih => simp [prefetchAll, ih]

theorem prefetchAll_lcy_of {x1 x2 x t} (h : prefetchAll x1 x2 = (t, x)) : t.lcy = x1.lcy := by
  have e := prefetchAll_lcy x1 x2; rw [h] at e; exact e

@[simp ↓] theorem prefetchAll_die (x1 x2) : (prefetchAll x1 x2).1.die = x1.die := by
  induction x2 generalizing x1 with
  | nil => simp [prefetchAll]
  | cons d t ih => simp [prefetchAll, ih]

theorem prefetchAll_die_of {x1 x2 x t} (h : prefetchAll x1 x2 = (t, x)) : t.die = x1.die := by
  have e := prefetchAll_die x1 x2; rw [h] at e; exact e

@[simp ↓] theorem prefetchAll_rng (x1 x2) : (prefetchAll x1 x2).1.rng = x1.rng := by
  induction x2 generalizing x1 with
  | nil => simp [prefetchAll]
  | cons d t ih => simp [prefetchAll, ih]

theorem prefetchAll_rng_of {x1 x2 x t} (h : prefetchAll x1 x2 = (t, x)) : t.rng = x1.rng := by
  have e := prefetchAll_rng x1 x2; rw [h] at e; exact e

@[simp ↓] theorem prefetchAll_pke (x1 x2) : (prefetchAll x1 x2).1.pke = x1.pke := by
  induction x2 generalizing x1 with
  | nil => simp [prefetchAll]
  | cons d t ih => simp [prefetchAll, ih]

theorem prefetchAll_pke_of {x1 x2 x t} (h : prefetchAll x1 x2 = (t, x)) : t.pke = x1.pke := by
  have e := prefetchAll_pke x1 x2; rw [h] at e; exact e

@[simp ↓] theorem prefetchAll_eng (x1 x2) : (prefetchAll x1 x2).1.eng = x1.eng := by
  induction x2 generalizing x1 with
  | nil => simp [prefetchAll]
  | cons d t ih => simp [prefetchAll, ih]

theorem prefetchAll_eng_of {x1 x2 x t} (h : prefetchAll x1 x2 = (t, x)) : t.eng = x1.eng := by
  have e := prefetchAll_eng x1 x2; rw [h] at e; exact e

@[simp ↓] theorem prefetchAll_host (x1 x2) : (prefetchAll x1 x2).1.host = x1.host := by
  induction x2 generalizing x1 with
  | nil => simp [prefetchAll]
  | cons d t ih => simp [prefetchAll, ih]

theorem prefetchAll_host_of {x1 x2 x t} (h : prefetchAll x1 x2 = (t, x)) : t.host = x1.host := by
  have e := prefetchAll_host x1 x2; rw [h] at e; exact e

@[simp ↓] theorem prefetchAll_geo (x1 x2) : (prefetchAll x1 x2).1.geo = x1.geo := by
  induction x2 generalizing x1 with
  | nil => simp [prefetchAll]
  | cons d t ih => simp [prefetchAll, ih]

theorem prefetchAll_geo_of {x1 x2 x t} (h : prefetchAll x1 x2 = (t, x)) : t.geo = x1.geo := by
  have e := prefetchAll_geo x1 x2; rw [h] at e; exact e

@[simp ↓] theorem prefetchAll_flash (x1 x2) : (prefetchAll x1 x2).1.flash = x1.flash := by
  induction x2 generalizing x1 with
  | nil => simp [prefetchAll]
  | cons d t ih => simp [prefetchAll, ih]

theorem prefetchAll_flash_of {x1 x2 x t} (h : prefetchAll x1 x2 = (t, x)) : t.flash = x1.flash := by
  have e := prefetchAll_flash x1 x2; rw [h] at e; exact e

@[simp ↓] theorem prefetchAll_wld (x1 x2) : (prefetchAll x1 x2).1.wld = x1.wld := by
  induction x2 generalizing x1 with
  | nil => simp [prefetchAll]
  | cons d t ih => simp [prefetchAll, ih]

theorem prefetchAll_wld_of {x1 x2 x t} (h : prefetchAll x1 x2 = (t, x)) : t.wld = x1.wld := by
  have e := prefetchAll_wld x1 x2; rw [h] at e; exact e

@[simp ↓] theorem prefetchAll_kar (x1 x2) : (prefetchAll x1 x2).1.kar = x1.kar := by
  induction x2 generalizing x1 with
  | nil => simp [prefetchAll]
  | cons d t ih => simp [prefetchAll, ih]

theorem prefetchAll_kar_of {x1 x2 x t} (h : prefetchAll x1 x2 = (t, x)) : t.kar = x1.kar := by
  have e := prefetchAll_kar x1 x2; rw [h] at e; exact e

@[simp ↓] theorem prefetchAll_ctl (x1 x2) : (prefetchAll x1 x2).1.ctl = x1.ctl := by
  induction x2 generalizing x1 with
  | nil => simp [prefetchAll]
  | cons d t ih => simp [prefetchAll, ih]

theorem prefetchAll_ctl_of {x1 x2 x t} (h : prefetchAll x1 x2 = (t, x)) : t.ctl = x1.ctl := by
  have e := prefetchAll_ctl x1 x2; rw [h] at e; exact e

end Sys2Proof.Machine
end

