-- ==== Sys2Proof/Laws/Frames/Rings.lean ====
section
/-!
SUPPORT. What the operations of Machine/Rings.lean leave unchanged: for each, every part of the state that it does not touch.
-/

set_option Elab.async false

set_option linter.all false
set_option maxRecDepth 2000

namespace Sys2Proof.Machine

@[simp ↓] theorem queueError_frame (x1 x2 x3 x4) :
    (queueError x1 x2 x3 x4).pending = x1.pending ∧ (queueError x1 x2 x3 x4).now = x1.now ∧ (queueError x1 x2 x3 x4).fresh = x1.fresh ∧ (queueError x1 x2 x3 x4).snaps = x1.snaps ∧ (queueError x1 x2 x3 x4).id = x1.id ∧ (queueError x1 x2 x3 x4).psg = x1.psg ∧ (queueError x1 x2 x3 x4).cham = x1.cham ∧ (queueError x1 x2 x3 x4).kst = x1.kst ∧ (queueError x1 x2 x3 x4).mbx = x1.mbx ∧ (queueError x1 x2 x3 x4).str = x1.str ∧ (queueError x1 x2 x3 x4).lan = x1.lan ∧ (queueError x1 x2 x3 x4).bb = x1.bb ∧ (queueError x1 x2 x3 x4).tim = x1.tim ∧ (queueError x1 x2 x3 x4).lcy = x1.lcy ∧ (queueError x1 x2 x3 x4).die = x1.die ∧ (queueError x1 x2 x3 x4).rng = x1.rng ∧ (queueError x1 x2 x3 x4).pke = x1.pke ∧ (queueError x1 x2 x3 x4).eng = x1.eng ∧ (queueError x1 x2 x3 x4).geo = x1.geo ∧ (queueError x1 x2 x3 x4).flash = x1.flash ∧ (queueError x1 x2 x3 x4).wld = x1.wld ∧ (queueError x1 x2 x3 x4).kar = x1.kar ∧ (queueError x1 x2 x3 x4).ctl = x1.ctl := by unfold queueError; simp

@[simp ↓] theorem ringDoorbell_frame (x1 x2 x3) :
    (ringDoorbell x1 x2 x3).pending = x1.pending ∧ (ringDoorbell x1 x2 x3).now = x1.now ∧ (ringDoorbell x1 x2 x3).fresh = x1.fresh ∧ (ringDoorbell x1 x2 x3).out = x1.out ∧ (ringDoorbell x1 x2 x3).snaps = x1.snaps ∧ (ringDoorbell x1 x2 x3).id = x1.id ∧ (ringDoorbell x1 x2 x3).psg = x1.psg ∧ (ringDoorbell x1 x2 x3).cham = x1.cham ∧ (ringDoorbell x1 x2 x3).kst = x1.kst ∧ (ringDoorbell x1 x2 x3).mbx = x1.mbx ∧ (ringDoorbell x1 x2 x3).str = x1.str ∧ (ringDoorbell x1 x2 x3).lan = x1.lan ∧ (ringDoorbell x1 x2 x3).bb = x1.bb ∧ (ringDoorbell x1 x2 x3).tim = x1.tim ∧ (ringDoorbell x1 x2 x3).lcy = x1.lcy ∧ (ringDoorbell x1 x2 x3).die = x1.die ∧ (ringDoorbell x1 x2 x3).rng = x1.rng ∧ (ringDoorbell x1 x2 x3).pke = x1.pke ∧ (ringDoorbell x1 x2 x3).eng = x1.eng ∧ (ringDoorbell x1 x2 x3).geo = x1.geo ∧ (ringDoorbell x1 x2 x3).flash = x1.flash ∧ (ringDoorbell x1 x2 x3).wld = x1.wld ∧ (ringDoorbell x1 x2 x3).kar = x1.kar ∧ (ringDoorbell x1 x2 x3).ctl = x1.ctl := by unfold ringDoorbell; simp

@[simp ↓] theorem addJob_frame (x1 x2 x3 x4 x5) :
    (addJob x1 x2 x3 x4 x5).pending = x1.pending ∧ (addJob x1 x2 x3 x4 x5).now = x1.now ∧ (addJob x1 x2 x3 x4 x5).fresh = x1.fresh ∧ (addJob x1 x2 x3 x4 x5).out = x1.out ∧ (addJob x1 x2 x3 x4 x5).snaps = x1.snaps ∧ (addJob x1 x2 x3 x4 x5).id = x1.id ∧ (addJob x1 x2 x3 x4 x5).psg = x1.psg ∧ (addJob x1 x2 x3 x4 x5).cham = x1.cham ∧ (addJob x1 x2 x3 x4 x5).kst = x1.kst ∧ (addJob x1 x2 x3 x4 x5).mbx = x1.mbx ∧ (addJob x1 x2 x3 x4 x5).str = x1.str ∧ (addJob x1 x2 x3 x4 x5).lan = x1.lan ∧ (addJob x1 x2 x3 x4 x5).bb = x1.bb ∧ (addJob x1 x2 x3 x4 x5).tim = x1.tim ∧ (addJob x1 x2 x3 x4 x5).lcy = x1.lcy ∧ (addJob x1 x2 x3 x4 x5).die = x1.die ∧ (addJob x1 x2 x3 x4 x5).rng = x1.rng ∧ (addJob x1 x2 x3 x4 x5).pke = x1.pke ∧ (addJob x1 x2 x3 x4 x5).eng = x1.eng ∧ (addJob x1 x2 x3 x4 x5).geo = x1.geo ∧ (addJob x1 x2 x3 x4 x5).flash = x1.flash ∧ (addJob x1 x2 x3 x4 x5).wld = x1.wld ∧ (addJob x1 x2 x3 x4 x5).kar = x1.kar ∧ (addJob x1 x2 x3 x4 x5).ctl = x1.ctl := by unfold addJob; simp

@[simp ↓] theorem completeChain_frame (x1 x2 x3 x4) :
    (completeChain x1 x2 x3 x4).pending = x1.pending ∧ (completeChain x1 x2 x3 x4).now = x1.now ∧ (completeChain x1 x2 x3 x4).fresh = x1.fresh ∧ (completeChain x1 x2 x3 x4).out = x1.out ∧ (completeChain x1 x2 x3 x4).snaps = x1.snaps ∧ (completeChain x1 x2 x3 x4).id = x1.id ∧ (completeChain x1 x2 x3 x4).psg = x1.psg ∧ (completeChain x1 x2 x3 x4).cham = x1.cham ∧ (completeChain x1 x2 x3 x4).kst = x1.kst ∧ (completeChain x1 x2 x3 x4).mbx = x1.mbx ∧ (completeChain x1 x2 x3 x4).str = x1.str ∧ (completeChain x1 x2 x3 x4).lan = x1.lan ∧ (completeChain x1 x2 x3 x4).bb = x1.bb ∧ (completeChain x1 x2 x3 x4).tim = x1.tim ∧ (completeChain x1 x2 x3 x4).lcy = x1.lcy ∧ (completeChain x1 x2 x3 x4).die = x1.die ∧ (completeChain x1 x2 x3 x4).rng = x1.rng ∧ (completeChain x1 x2 x3 x4).pke = x1.pke ∧ (completeChain x1 x2 x3 x4).eng = x1.eng ∧ (completeChain x1 x2 x3 x4).geo = x1.geo ∧ (completeChain x1 x2 x3 x4).flash = x1.flash ∧ (completeChain x1 x2 x3 x4).wld = x1.wld ∧ (completeChain x1 x2 x3 x4).kar = x1.kar ∧ (completeChain x1 x2 x3 x4).ctl = x1.ctl := by unfold completeChain; simp

@[simp ↓] theorem breakChain_frame (x1 x2 x3 x4 x5 x6) :
    (breakChain x1 x2 x3 x4 x5 x6).pending = x1.pending ∧ (breakChain x1 x2 x3 x4 x5 x6).now = x1.now ∧ (breakChain x1 x2 x3 x4 x5 x6).fresh = x1.fresh ∧ (breakChain x1 x2 x3 x4 x5 x6).out = x1.out ∧ (breakChain x1 x2 x3 x4 x5 x6).snaps = x1.snaps ∧ (breakChain x1 x2 x3 x4 x5 x6).id = x1.id ∧ (breakChain x1 x2 x3 x4 x5 x6).psg = x1.psg ∧ (breakChain x1 x2 x3 x4 x5 x6).cham = x1.cham ∧ (breakChain x1 x2 x3 x4 x5 x6).kst = x1.kst ∧ (breakChain x1 x2 x3 x4 x5 x6).mbx = x1.mbx ∧ (breakChain x1 x2 x3 x4 x5 x6).str = x1.str ∧ (breakChain x1 x2 x3 x4 x5 x6).lan = x1.lan ∧ (breakChain x1 x2 x3 x4 x5 x6).bb = x1.bb ∧ (breakChain x1 x2 x3 x4 x5 x6).tim = x1.tim ∧ (breakChain x1 x2 x3 x4 x5 x6).lcy = x1.lcy ∧ (breakChain x1 x2 x3 x4 x5 x6).die = x1.die ∧ (breakChain x1 x2 x3 x4 x5 x6).rng = x1.rng ∧ (breakChain x1 x2 x3 x4 x5 x6).pke = x1.pke ∧ (breakChain x1 x2 x3 x4 x5 x6).eng = x1.eng ∧ (breakChain x1 x2 x3 x4 x5 x6).geo = x1.geo ∧ (breakChain x1 x2 x3 x4 x5 x6).flash = x1.flash ∧ (breakChain x1 x2 x3 x4 x5 x6).wld = x1.wld ∧ (breakChain x1 x2 x3 x4 x5 x6).kar = x1.kar ∧ (breakChain x1 x2 x3 x4 x5 x6).ctl = x1.ctl := by unfold breakChain; simp

@[simp ↓] theorem judgeEntry_frame (x1 x2 x3 x4) :
    (judgeEntry x1 x2 x3 x4).pending = x1.pending ∧ (judgeEntry x1 x2 x3 x4).now = x1.now ∧ (judgeEntry x1 x2 x3 x4).fresh = x1.fresh ∧ (judgeEntry x1 x2 x3 x4).out = x1.out ∧ (judgeEntry x1 x2 x3 x4).snaps = x1.snaps ∧ (judgeEntry x1 x2 x3 x4).id = x1.id ∧ (judgeEntry x1 x2 x3 x4).psg = x1.psg ∧ (judgeEntry x1 x2 x3 x4).cham = x1.cham ∧ (judgeEntry x1 x2 x3 x4).kst = x1.kst ∧ (judgeEntry x1 x2 x3 x4).mbx = x1.mbx ∧ (judgeEntry x1 x2 x3 x4).str = x1.str ∧ (judgeEntry x1 x2 x3 x4).lan = x1.lan ∧ (judgeEntry x1 x2 x3 x4).bb = x1.bb ∧ (judgeEntry x1 x2 x3 x4).tim = x1.tim ∧ (judgeEntry x1 x2 x3 x4).lcy = x1.lcy ∧ (judgeEntry x1 x2 x3 x4).die = x1.die ∧ (judgeEntry x1 x2 x3 x4).rng = x1.rng ∧ (judgeEntry x1 x2 x3 x4).pke = x1.pke ∧ (judgeEntry x1 x2 x3 x4).eng = x1.eng ∧ (judgeEntry x1 x2 x3 x4).geo = x1.geo ∧ (judgeEntry x1 x2 x3 x4).flash = x1.flash ∧ (judgeEntry x1 x2 x3 x4).wld = x1.wld ∧ (judgeEntry x1 x2 x3 x4).kar = x1.kar ∧ (judgeEntry x1 x2 x3 x4).ctl = x1.ctl := by unfold judgeEntry; dsimp only; (repeat' split)  <;> simp [*]

@[simp ↓] theorem updJob_frame (x1 x2 x3 x4 x5) :
    (updJob x1 x2 x3 x4 x5).pending = x1.pending ∧ (updJob x1 x2 x3 x4 x5).now = x1.now ∧ (updJob x1 x2 x3 x4 x5).fresh = x1.fresh ∧ (updJob x1 x2 x3 x4 x5).out = x1.out ∧ (updJob x1 x2 x3 x4 x5).snaps = x1.snaps ∧ (updJob x1 x2 x3 x4 x5).id = x1.id ∧ (updJob x1 x2 x3 x4 x5).psg = x1.psg ∧ (updJob x1 x2 x3 x4 x5).cham = x1.cham ∧ (updJob x1 x2 x3 x4 x5).kst = x1.kst ∧ (updJob x1 x2 x3 x4 x5).mbx = x1.mbx ∧ (updJob x1 x2 x3 x4 x5).str = x1.str ∧ (updJob x1 x2 x3 x4 x5).lan = x1.lan ∧ (updJob x1 x2 x3 x4 x5).bb = x1.bb ∧ (updJob x1 x2 x3 x4 x5).tim = x1.tim ∧ (updJob x1 x2 x3 x4 x5).lcy = x1.lcy ∧ (updJob x1 x2 x3 x4 x5).die = x1.die ∧ (updJob x1 x2 x3 x4 x5).rng = x1.rng ∧ (updJob x1 x2 x3 x4 x5).pke = x1.pke ∧ (updJob x1 x2 x3 x4 x5).eng = x1.eng ∧ (updJob x1 x2 x3 x4 x5).geo = x1.geo ∧ (updJob x1 x2 x3 x4 x5).flash = x1.flash ∧ (updJob x1 x2 x3 x4 x5).wld = x1.wld ∧ (updJob x1 x2 x3 x4 x5).kar = x1.kar ∧ (updJob x1 x2 x3 x4 x5).ctl = x1.ctl := by unfold updJob; simp

@[simp ↓] theorem present_pending (x1 x2 x3 x4 x5 x6) (hx6 : ∀ y1 y2, (x6 y1 y2).pending = y1.pending) : (present x1 x2 x3 x4 x5 x6).pending = x1.pending := by unfold present; (repeat' split) <;> simp [*]

@[simp ↓] theorem present_now (x1 x2 x3 x4 x5 x6) (hx6 : ∀ y1 y2, (x6 y1 y2).now = y1.now) : (present x1 x2 x3 x4 x5 x6).now = x1.now := by unfold present; (repeat' split) <;> simp [*]

@[simp ↓] theorem present_fresh (x1 x2 x3 x4 x5 x6) (hx6 : ∀ y1 y2, (x6 y1 y2).fresh = y1.fresh) : (present x1 x2 x3 x4 x5 x6).fresh = x1.fresh := by unfold present; (repeat' split) <;> simp [*]

@[simp ↓] theorem present_snaps (x1 x2 x3 x4 x5 x6) (hx6 : ∀ y1 y2, (x6 y1 y2).snaps = y1.snaps) : (present x1 x2 x3 x4 x5 x6).snaps = x1.snaps := by unfold present; (repeat' split) <;> simp [*]

@[simp ↓] theorem present_id (x1 x2 x3 x4 x5 x6) (hx6 : ∀ y1 y2, (x6 y1 y2).id = y1.id) : (present x1 x2 x3 x4 x5 x6).id = x1.id := by unfold present; (repeat' split) <;> simp [*]

@[simp ↓] theorem present_psg (x1 x2 x3 x4 x5 x6) (hx6 : ∀ y1 y2, (x6 y1 y2).psg = y1.psg) : (present x1 x2 x3 x4 x5 x6).psg = x1.psg := by unfold present; (repeat' split) <;> simp [*]

@[simp ↓] theorem present_cham (x1 x2 x3 x4 x5 x6) (hx6 : ∀ y1 y2, (x6 y1 y2).cham = y1.cham) : (present x1 x2 x3 x4 x5 x6).cham = x1.cham := by unfold present; (repeat' split) <;> simp [*]

@[simp ↓] theorem present_kst (x1 x2 x3 x4 x5 x6) (hx6 : ∀ y1 y2, (x6 y1 y2).kst = y1.kst) : (present x1 x2 x3 x4 x5 x6).kst = x1.kst := by unfold present; (repeat' split) <;> simp [*]

@[simp ↓] theorem present_mbx (x1 x2 x3 x4 x5 x6) (hx6 : ∀ y1 y2, (x6 y1 y2).mbx = y1.mbx) : (present x1 x2 x3 x4 x5 x6).mbx = x1.mbx := by unfold present; (repeat' split) <;> simp [*]

@[simp ↓] theorem present_str (x1 x2 x3 x4 x5 x6) (hx6 : ∀ y1 y2, (x6 y1 y2).str = y1.str) : (present x1 x2 x3 x4 x5 x6).str = x1.str := by unfold present; (repeat' split) <;> simp [*]

@[simp ↓] theorem present_lan (x1 x2 x3 x4 x5 x6) (hx6 : ∀ y1 y2, (x6 y1 y2).lan = y1.lan) : (present x1 x2 x3 x4 x5 x6).lan = x1.lan := by unfold present; (repeat' split) <;> simp [*]

@[simp ↓] theorem present_bb (x1 x2 x3 x4 x5 x6) (hx6 : ∀ y1 y2, (x6 y1 y2).bb = y1.bb) : (present x1 x2 x3 x4 x5 x6).bb = x1.bb := by unfold present; (repeat' split) <;> simp [*]

@[simp ↓] theorem present_tim (x1 x2 x3 x4 x5 x6) (hx6 : ∀ y1 y2, (x6 y1 y2).tim = y1.tim) : (present x1 x2 x3 x4 x5 x6).tim = x1.tim := by unfold present; (repeat' split) <;> simp [*]

@[simp ↓] theorem present_lcy (x1 x2 x3 x4 x5 x6) (hx6 : ∀ y1 y2, (x6 y1 y2).lcy = y1.lcy) : (present x1 x2 x3 x4 x5 x6).lcy = x1.lcy := by unfold present; (repeat' split) <;> simp [*]

@[simp ↓] theorem present_die (x1 x2 x3 x4 x5 x6) (hx6 : ∀ y1 y2, (x6 y1 y2).die = y1.die) : (present x1 x2 x3 x4 x5 x6).die = x1.die := by unfold present; (repeat' split) <;> simp [*]

@[simp ↓] theorem present_rng (x1 x2 x3 x4 x5 x6) (hx6 : ∀ y1 y2, (x6 y1 y2).rng = y1.rng) : (present x1 x2 x3 x4 x5 x6).rng = x1.rng := by unfold present; (repeat' split) <;> simp [*]

@[simp ↓] theorem present_pke (x1 x2 x3 x4 x5 x6) (hx6 : ∀ y1 y2, (x6 y1 y2).pke = y1.pke) : (present x1 x2 x3 x4 x5 x6).pke = x1.pke := by unfold present; (repeat' split) <;> simp [*]

@[simp ↓] theorem present_eng (x1 x2 x3 x4 x5 x6) (hx6 : ∀ y1 y2, (x6 y1 y2).eng = y1.eng) : (present x1 x2 x3 x4 x5 x6).eng = x1.eng := by unfold present; (repeat' split) <;> simp [*]

@[simp ↓] theorem present_geo (x1 x2 x3 x4 x5 x6) (hx6 : ∀ y1 y2, (x6 y1 y2).geo = y1.geo) : (present x1 x2 x3 x4 x5 x6).geo = x1.geo := by unfold present; (repeat' split) <;> simp [*]

@[simp ↓] theorem present_flash (x1 x2 x3 x4 x5 x6) (hx6 : ∀ y1 y2, (x6 y1 y2).flash = y1.flash) : (present x1 x2 x3 x4 x5 x6).flash = x1.flash := by unfold present; (repeat' split) <;> simp [*]

@[simp ↓] theorem present_wld (x1 x2 x3 x4 x5 x6) (hx6 : ∀ y1 y2, (x6 y1 y2).wld = y1.wld) : (present x1 x2 x3 x4 x5 x6).wld = x1.wld := by unfold present; (repeat' split) <;> simp [*]

@[simp ↓] theorem present_kar (x1 x2 x3 x4 x5 x6) (hx6 : ∀ y1 y2, (x6 y1 y2).kar = y1.kar) : (present x1 x2 x3 x4 x5 x6).kar = x1.kar := by unfold present; (repeat' split) <;> simp [*]

@[simp ↓] theorem present_ctl (x1 x2 x3 x4 x5 x6) (hx6 : ∀ y1 y2, (x6 y1 y2).ctl = y1.ctl) : (present x1 x2 x3 x4 x5 x6).ctl = x1.ctl := by unfold present; (repeat' split) <;> simp [*]

@[simp ↓] theorem presentWork_pending (x1 x2 x3 x4 x5) : (presentWork x1 x2 x3 x4 x5).pending = x1.pending := by
  unfold presentWork; apply present_pending; intros; dsimp only [newJob]; split
  · simp only [submit_frame]
  · simp only [endRingStatus_frame]

@[simp ↓] theorem presentWork_now (x1 x2 x3 x4 x5) : (presentWork x1 x2 x3 x4 x5).now = x1.now := by
  unfold presentWork; apply present_now; intros; dsimp only [newJob]; split
  · simp only [submit_frame]
  · simp only [endRingStatus_frame]

@[simp ↓] theorem presentWork_fresh (x1 x2 x3 x4 x5) : (presentWork x1 x2 x3 x4 x5).fresh = x1.fresh := by
  unfold presentWork; apply present_fresh; intros; dsimp only [newJob]; split
  · simp only [submit_frame]
  · simp only [endRingStatus_frame]

@[simp ↓] theorem presentWork_snaps (x1 x2 x3 x4 x5) : (presentWork x1 x2 x3 x4 x5).snaps = x1.snaps := by
  unfold presentWork; apply present_snaps; intros; dsimp only [newJob]; split
  · simp only [submit_frame]
  · simp only [endRingStatus_frame]

@[simp ↓] theorem presentWork_id (x1 x2 x3 x4 x5) : (presentWork x1 x2 x3 x4 x5).id = x1.id := by
  unfold presentWork; apply present_id; intros; dsimp only [newJob]; split
  · simp only [submit_frame]
  · simp only [endRingStatus_frame]

@[simp ↓] theorem presentWork_psg (x1 x2 x3 x4 x5) : (presentWork x1 x2 x3 x4 x5).psg = x1.psg := by
  unfold presentWork; apply present_psg; intros; dsimp only [newJob]; split
  · simp only [submit_frame]
  · simp only [endRingStatus_frame]

@[simp ↓] theorem presentWork_cham (x1 x2 x3 x4 x5) : (presentWork x1 x2 x3 x4 x5).cham = x1.cham := by
  unfold presentWork; apply present_cham; intros; dsimp only [newJob]; split
  · simp only [submit_frame]
  · simp only [endRingStatus_frame]

@[simp ↓] theorem presentWork_kst (x1 x2 x3 x4 x5) : (presentWork x1 x2 x3 x4 x5).kst = x1.kst := by
  unfold presentWork; apply present_kst; intros; dsimp only [newJob]; split
  · simp only [submit_frame]
  · simp only [endRingStatus_frame]

@[simp ↓] theorem presentWork_mbx (x1 x2 x3 x4 x5) : (presentWork x1 x2 x3 x4 x5).mbx = x1.mbx := by
  unfold presentWork; apply present_mbx; intros; dsimp only [newJob]; split
  · simp only [submit_frame]
  · simp only [endRingStatus_frame]

@[simp ↓] theorem presentWork_str (x1 x2 x3 x4 x5) : (presentWork x1 x2 x3 x4 x5).str = x1.str := by
  unfold presentWork; apply present_str; intros; dsimp only [newJob]; split
  · simp only [submit_frame]
  · simp only [endRingStatus_frame]

@[simp ↓] theorem presentWork_lan (x1 x2 x3 x4 x5) : (presentWork x1 x2 x3 x4 x5).lan = x1.lan := by
  unfold presentWork; apply present_lan; intros; dsimp only [newJob]; split
  · simp only [submit_frame]
  · simp only [endRingStatus_frame]

@[simp ↓] theorem presentWork_bb (x1 x2 x3 x4 x5) : (presentWork x1 x2 x3 x4 x5).bb = x1.bb := by
  unfold presentWork; apply present_bb; intros; dsimp only [newJob]; split
  · simp only [submit_frame]
  · simp only [endRingStatus_frame]

@[simp ↓] theorem presentWork_tim (x1 x2 x3 x4 x5) : (presentWork x1 x2 x3 x4 x5).tim = x1.tim := by
  unfold presentWork; apply present_tim; intros; dsimp only [newJob]; split
  · simp only [submit_frame]
  · simp only [endRingStatus_frame]

@[simp ↓] theorem presentWork_lcy (x1 x2 x3 x4 x5) : (presentWork x1 x2 x3 x4 x5).lcy = x1.lcy := by
  unfold presentWork; apply present_lcy; intros; dsimp only [newJob]; split
  · simp only [submit_frame]
  · simp only [endRingStatus_frame]

@[simp ↓] theorem presentWork_die (x1 x2 x3 x4 x5) : (presentWork x1 x2 x3 x4 x5).die = x1.die := by
  unfold presentWork; apply present_die; intros; dsimp only [newJob]; split
  · simp only [submit_frame]
  · simp only [endRingStatus_frame]

@[simp ↓] theorem presentWork_rng (x1 x2 x3 x4 x5) : (presentWork x1 x2 x3 x4 x5).rng = x1.rng := by
  unfold presentWork; apply present_rng; intros; dsimp only [newJob]; split
  · simp only [submit_frame]
  · simp only [endRingStatus_frame]

@[simp ↓] theorem presentWork_pke (x1 x2 x3 x4 x5) : (presentWork x1 x2 x3 x4 x5).pke = x1.pke := by
  unfold presentWork; apply present_pke; intros; dsimp only [newJob]; split
  · simp only [submit_frame]
  · simp only [endRingStatus_frame]

@[simp ↓] theorem presentWork_geo (x1 x2 x3 x4 x5) : (presentWork x1 x2 x3 x4 x5).geo = x1.geo := by
  unfold presentWork; apply present_geo; intros; dsimp only [newJob]; split
  · simp only [submit_frame]
  · simp only [endRingStatus_frame]

@[simp ↓] theorem presentWork_flash (x1 x2 x3 x4 x5) : (presentWork x1 x2 x3 x4 x5).flash = x1.flash := by
  unfold presentWork; apply present_flash; intros; dsimp only [newJob]; split
  · simp only [submit_frame]
  · simp only [endRingStatus_frame]

@[simp ↓] theorem presentWork_wld (x1 x2 x3 x4 x5) : (presentWork x1 x2 x3 x4 x5).wld = x1.wld := by
  unfold presentWork; apply present_wld; intros; dsimp only [newJob]; split
  · simp only [submit_frame]
  · simp only [endRingStatus_frame]

@[simp ↓] theorem presentWork_kar (x1 x2 x3 x4 x5) : (presentWork x1 x2 x3 x4 x5).kar = x1.kar := by
  unfold presentWork; apply present_kar; intros; dsimp only [newJob]; split
  · simp only [submit_frame]
  · simp only [endRingStatus_frame]

@[simp ↓] theorem presentWork_ctl (x1 x2 x3 x4 x5) : (presentWork x1 x2 x3 x4 x5).ctl = x1.ctl := by
  unfold presentWork; apply present_ctl; intros; dsimp only [newJob]; split
  · simp only [submit_frame]
  · simp only [endRingStatus_frame]

theorem abortSegment_frame_of {x1 x2 x3}{t} (h : (Sys2Proof.Machine.abortSegment x1 x2 x3) = some t) :
    t.pending = x1.pending ∧ t.now = x1.now ∧ t.snaps = x1.snaps ∧ t.id = x1.id ∧ t.cham = x1.cham ∧ t.lan = x1.lan ∧ t.bb = x1.bb ∧ t.tim = x1.tim ∧ t.lcy = x1.lcy ∧ t.rng = x1.rng ∧ t.pke = x1.pke ∧ t.flash = x1.flash ∧ t.kar = x1.kar := by unfold abortSegment at h; (repeat' split at h) <;> (first | contradiction | (cases h; simp) | (simp only [Option.map_eq_some_iff, Option.bind_eq_some_iff] at h; obtain ⟨_, _, rfl⟩ := h; simp))

theorem abortDraw_frame_of {x1 x2}{t} (h : (Sys2Proof.Machine.abortDraw x1 x2) = some t) :
    t.pending = x1.pending ∧ t.now = x1.now ∧ t.fresh = x1.fresh ∧ t.snaps = x1.snaps ∧ t.id = x1.id ∧ t.psg = x1.psg ∧ t.cham = x1.cham ∧ t.kst = x1.kst ∧ t.str = x1.str ∧ t.lan = x1.lan ∧ t.bb = x1.bb ∧ t.tim = x1.tim ∧ t.lcy = x1.lcy ∧ t.die = x1.die ∧ t.pke = x1.pke ∧ t.eng = x1.eng ∧ t.geo = x1.geo ∧ t.flash = x1.flash ∧ t.kar = x1.kar ∧ t.ctl = x1.ctl := by unfold abortDraw at h; dsimp only at h; (repeat' split at h)  <;> (first | contradiction | (cases h; simp [*]) | (simp only [Option.map_eq_some_iff, Option.bind_eq_some_iff] at h; obtain ⟨_, _, rfl⟩ := h; simp [*]))

@[simp ↓] theorem settleClosing_frame (x1 x2 x3) :
    (settleClosing x1 x2 x3).pending = x1.pending ∧ (settleClosing x1 x2 x3).now = x1.now ∧ (settleClosing x1 x2 x3).fresh = x1.fresh ∧ (settleClosing x1 x2 x3).out = x1.out ∧ (settleClosing x1 x2 x3).snaps = x1.snaps ∧ (settleClosing x1 x2 x3).id = x1.id ∧ (settleClosing x1 x2 x3).psg = x1.psg ∧ (settleClosing x1 x2 x3).cham = x1.cham ∧ (settleClosing x1 x2 x3).mbx = x1.mbx ∧ (settleClosing x1 x2 x3).str = x1.str ∧ (settleClosing x1 x2 x3).lan = x1.lan ∧ (settleClosing x1 x2 x3).bb = x1.bb ∧ (settleClosing x1 x2 x3).tim = x1.tim ∧ (settleClosing x1 x2 x3).lcy = x1.lcy ∧ (settleClosing x1 x2 x3).die = x1.die ∧ (settleClosing x1 x2 x3).rng = x1.rng ∧ (settleClosing x1 x2 x3).pke = x1.pke ∧ (settleClosing x1 x2 x3).eng = x1.eng ∧ (settleClosing x1 x2 x3).geo = x1.geo ∧ (settleClosing x1 x2 x3).flash = x1.flash ∧ (settleClosing x1 x2 x3).wld = x1.wld ∧ (settleClosing x1 x2 x3).kar = x1.kar ∧ (settleClosing x1 x2 x3).ctl = x1.ctl := by unfold settleClosing; dsimp only; (repeat' split)  <;> simp [*]

@[simp ↓] theorem settleFreezing_frame (x1 x2) :
    (settleFreezing x1 x2).pending = x1.pending ∧ (settleFreezing x1 x2).now = x1.now ∧ (settleFreezing x1 x2).fresh = x1.fresh ∧ (settleFreezing x1 x2).snaps = x1.snaps ∧ (settleFreezing x1 x2).id = x1.id ∧ (settleFreezing x1 x2).psg = x1.psg ∧ (settleFreezing x1 x2).cham = x1.cham ∧ (settleFreezing x1 x2).mbx = x1.mbx ∧ (settleFreezing x1 x2).str = x1.str ∧ (settleFreezing x1 x2).lan = x1.lan ∧ (settleFreezing x1 x2).bb = x1.bb ∧ (settleFreezing x1 x2).tim = x1.tim ∧ (settleFreezing x1 x2).lcy = x1.lcy ∧ (settleFreezing x1 x2).die = x1.die ∧ (settleFreezing x1 x2).rng = x1.rng ∧ (settleFreezing x1 x2).pke = x1.pke ∧ (settleFreezing x1 x2).eng = x1.eng ∧ (settleFreezing x1 x2).geo = x1.geo ∧ (settleFreezing x1 x2).flash = x1.flash ∧ (settleFreezing x1 x2).wld = x1.wld ∧ (settleFreezing x1 x2).kar = x1.kar ∧ (settleFreezing x1 x2).ctl = x1.ctl := by unfold settleFreezing; (repeat' split) <;> simp

@[simp ↓] theorem putCompletion_frame (x1 x2 x3 x4) :
    (putCompletion x1 x2 x3 x4).pending = x1.pending ∧ (putCompletion x1 x2 x3 x4).now = x1.now ∧ (putCompletion x1 x2 x3 x4).fresh = x1.fresh ∧ (putCompletion x1 x2 x3 x4).snaps = x1.snaps ∧ (putCompletion x1 x2 x3 x4).id = x1.id ∧ (putCompletion x1 x2 x3 x4).psg = x1.psg ∧ (putCompletion x1 x2 x3 x4).cham = x1.cham ∧ (putCompletion x1 x2 x3 x4).kst = x1.kst ∧ (putCompletion x1 x2 x3 x4).mbx = x1.mbx ∧ (putCompletion x1 x2 x3 x4).str = x1.str ∧ (putCompletion x1 x2 x3 x4).lan = x1.lan ∧ (putCompletion x1 x2 x3 x4).bb = x1.bb ∧ (putCompletion x1 x2 x3 x4).tim = x1.tim ∧ (putCompletion x1 x2 x3 x4).lcy = x1.lcy ∧ (putCompletion x1 x2 x3 x4).die = x1.die ∧ (putCompletion x1 x2 x3 x4).rng = x1.rng ∧ (putCompletion x1 x2 x3 x4).pke = x1.pke ∧ (putCompletion x1 x2 x3 x4).eng = x1.eng ∧ (putCompletion x1 x2 x3 x4).geo = x1.geo ∧ (putCompletion x1 x2 x3 x4).flash = x1.flash ∧ (putCompletion x1 x2 x3 x4).wld = x1.wld ∧ (putCompletion x1 x2 x3 x4).kar = x1.kar ∧ (putCompletion x1 x2 x3 x4).ctl = x1.ctl := by unfold putCompletion; simp

@[simp ↓] theorem writeOutputs_frame (x1 x2 x3 x4 x5 x6) :
    (writeOutputs x1 x2 x3 x4 x5 x6).pending = x1.pending ∧ (writeOutputs x1 x2 x3 x4 x5 x6).now = x1.now ∧ (writeOutputs x1 x2 x3 x4 x5 x6).fresh = x1.fresh ∧ (writeOutputs x1 x2 x3 x4 x5 x6).snaps = x1.snaps ∧ (writeOutputs x1 x2 x3 x4 x5 x6).id = x1.id ∧ (writeOutputs x1 x2 x3 x4 x5 x6).psg = x1.psg ∧ (writeOutputs x1 x2 x3 x4 x5 x6).cham = x1.cham ∧ (writeOutputs x1 x2 x3 x4 x5 x6).kst = x1.kst ∧ (writeOutputs x1 x2 x3 x4 x5 x6).mbx = x1.mbx ∧ (writeOutputs x1 x2 x3 x4 x5 x6).str = x1.str ∧ (writeOutputs x1 x2 x3 x4 x5 x6).lan = x1.lan ∧ (writeOutputs x1 x2 x3 x4 x5 x6).bb = x1.bb ∧ (writeOutputs x1 x2 x3 x4 x5 x6).tim = x1.tim ∧ (writeOutputs x1 x2 x3 x4 x5 x6).lcy = x1.lcy ∧ (writeOutputs x1 x2 x3 x4 x5 x6).die = x1.die ∧ (writeOutputs x1 x2 x3 x4 x5 x6).rng = x1.rng ∧ (writeOutputs x1 x2 x3 x4 x5 x6).pke = x1.pke ∧ (writeOutputs x1 x2 x3 x4 x5 x6).eng = x1.eng ∧ (writeOutputs x1 x2 x3 x4 x5 x6).geo = x1.geo ∧ (writeOutputs x1 x2 x3 x4 x5 x6).flash = x1.flash ∧ (writeOutputs x1 x2 x3 x4 x5 x6).wld = x1.wld ∧ (writeOutputs x1 x2 x3 x4 x5 x6).kar = x1.kar ∧ (writeOutputs x1 x2 x3 x4 x5 x6).ctl = x1.ctl := by unfold writeOutputs; simp

@[simp ↓] theorem writeCqHead_frame (x1 x2 x3 x4) :
    (writeCqHead x1 x2 x3 x4).pending = x1.pending ∧ (writeCqHead x1 x2 x3 x4).now = x1.now ∧ (writeCqHead x1 x2 x3 x4).fresh = x1.fresh ∧ (writeCqHead x1 x2 x3 x4).snaps = x1.snaps ∧ (writeCqHead x1 x2 x3 x4).id = x1.id ∧ (writeCqHead x1 x2 x3 x4).psg = x1.psg ∧ (writeCqHead x1 x2 x3 x4).cham = x1.cham ∧ (writeCqHead x1 x2 x3 x4).kst = x1.kst ∧ (writeCqHead x1 x2 x3 x4).mbx = x1.mbx ∧ (writeCqHead x1 x2 x3 x4).str = x1.str ∧ (writeCqHead x1 x2 x3 x4).lan = x1.lan ∧ (writeCqHead x1 x2 x3 x4).bb = x1.bb ∧ (writeCqHead x1 x2 x3 x4).tim = x1.tim ∧ (writeCqHead x1 x2 x3 x4).lcy = x1.lcy ∧ (writeCqHead x1 x2 x3 x4).die = x1.die ∧ (writeCqHead x1 x2 x3 x4).rng = x1.rng ∧ (writeCqHead x1 x2 x3 x4).pke = x1.pke ∧ (writeCqHead x1 x2 x3 x4).eng = x1.eng ∧ (writeCqHead x1 x2 x3 x4).geo = x1.geo ∧ (writeCqHead x1 x2 x3 x4).flash = x1.flash ∧ (writeCqHead x1 x2 x3 x4).wld = x1.wld ∧ (writeCqHead x1 x2 x3 x4).kar = x1.kar ∧ (writeCqHead x1 x2 x3 x4).ctl = x1.ctl := by unfold writeCqHead; simp

end Sys2Proof.Machine
end

