-- ==== Sys2Proof/Laws/Frames/Functions.lean ====
section
/-!
SUPPORT. What the operations of Machine/Functions.lean leave unchanged: for each, every part of the state that it does not touch.
-/

set_option Elab.async false

set_option linter.all false
set_option maxRecDepth 2000

namespace Sys2Proof.Machine

theorem bar2Write_frame_of {x1 x2 x3 x4}{t} (h : (Sys2Proof.Machine.bar2Write x1 x2 x3 x4) = some t) :
    t.pending = x1.pending ∧ t.now = x1.now ∧ t.fresh = x1.fresh ∧ t.out = x1.out ∧ t.snaps = x1.snaps ∧ t.id = x1.id ∧ t.psg = x1.psg ∧ t.cham = x1.cham ∧ t.kst = x1.kst ∧ t.mbx = x1.mbx ∧ t.str = x1.str ∧ t.lan = x1.lan ∧ t.bb = x1.bb ∧ t.tim = x1.tim ∧ t.lcy = x1.lcy ∧ t.die = x1.die ∧ t.rng = x1.rng ∧ t.pke = x1.pke ∧ t.eng = x1.eng ∧ t.geo = x1.geo ∧ t.flash = x1.flash ∧ t.wld = x1.wld ∧ t.kar = x1.kar ∧ t.ctl = x1.ctl := by unfold bar2Write at h; dsimp only at h; (repeat' split at h)  <;> (first | contradiction | (cases h; simp [*]) | (simp only [Option.map_eq_some_iff, Option.bind_eq_some_iff] at h; obtain ⟨_, _, rfl⟩ := h; simp [*]))

@[simp ↓] theorem bar4Write_frame (x1 x2 x3 x4) :
    (bar4Write x1 x2 x3 x4).pending = x1.pending ∧ (bar4Write x1 x2 x3 x4).now = x1.now ∧ (bar4Write x1 x2 x3 x4).fresh = x1.fresh ∧ (bar4Write x1 x2 x3 x4).snaps = x1.snaps ∧ (bar4Write x1 x2 x3 x4).id = x1.id ∧ (bar4Write x1 x2 x3 x4).psg = x1.psg ∧ (bar4Write x1 x2 x3 x4).cham = x1.cham ∧ (bar4Write x1 x2 x3 x4).kst = x1.kst ∧ (bar4Write x1 x2 x3 x4).mbx = x1.mbx ∧ (bar4Write x1 x2 x3 x4).str = x1.str ∧ (bar4Write x1 x2 x3 x4).lan = x1.lan ∧ (bar4Write x1 x2 x3 x4).bb = x1.bb ∧ (bar4Write x1 x2 x3 x4).tim = x1.tim ∧ (bar4Write x1 x2 x3 x4).lcy = x1.lcy ∧ (bar4Write x1 x2 x3 x4).die = x1.die ∧ (bar4Write x1 x2 x3 x4).rng = x1.rng ∧ (bar4Write x1 x2 x3 x4).pke = x1.pke ∧ (bar4Write x1 x2 x3 x4).eng = x1.eng ∧ (bar4Write x1 x2 x3 x4).geo = x1.geo ∧ (bar4Write x1 x2 x3 x4).flash = x1.flash ∧ (bar4Write x1 x2 x3 x4).wld = x1.wld ∧ (bar4Write x1 x2 x3 x4).kar = x1.kar ∧ (bar4Write x1 x2 x3 x4).ctl = x1.ctl := by unfold bar4Write; simp

@[simp ↓] theorem writeQpCtrl_frame (x1 x2 x3 x4) :
    (writeQpCtrl x1 x2 x3 x4).pending = x1.pending ∧ (writeQpCtrl x1 x2 x3 x4).now = x1.now ∧ (writeQpCtrl x1 x2 x3 x4).fresh = x1.fresh ∧ (writeQpCtrl x1 x2 x3 x4).out = x1.out ∧ (writeQpCtrl x1 x2 x3 x4).snaps = x1.snaps ∧ (writeQpCtrl x1 x2 x3 x4).id = x1.id ∧ (writeQpCtrl x1 x2 x3 x4).psg = x1.psg ∧ (writeQpCtrl x1 x2 x3 x4).cham = x1.cham ∧ (writeQpCtrl x1 x2 x3 x4).kst = x1.kst ∧ (writeQpCtrl x1 x2 x3 x4).mbx = x1.mbx ∧ (writeQpCtrl x1 x2 x3 x4).str = x1.str ∧ (writeQpCtrl x1 x2 x3 x4).lan = x1.lan ∧ (writeQpCtrl x1 x2 x3 x4).bb = x1.bb ∧ (writeQpCtrl x1 x2 x3 x4).tim = x1.tim ∧ (writeQpCtrl x1 x2 x3 x4).lcy = x1.lcy ∧ (writeQpCtrl x1 x2 x3 x4).die = x1.die ∧ (writeQpCtrl x1 x2 x3 x4).rng = x1.rng ∧ (writeQpCtrl x1 x2 x3 x4).pke = x1.pke ∧ (writeQpCtrl x1 x2 x3 x4).eng = x1.eng ∧ (writeQpCtrl x1 x2 x3 x4).geo = x1.geo ∧ (writeQpCtrl x1 x2 x3 x4).flash = x1.flash ∧ (writeQpCtrl x1 x2 x3 x4).wld = x1.wld ∧ (writeQpCtrl x1 x2 x3 x4).kar = x1.kar ∧ (writeQpCtrl x1 x2 x3 x4).ctl = x1.ctl := by unfold writeQpCtrl; simp

@[simp ↓] theorem admin_pending (x1 x2 x3 x4 x5) (hx5 : ∀ y1 y2 y3, (x5 y1 y2 y3).pending = y1.pending) : (admin x1 x2 x3 x4 x5).pending = x1.pending := by unfold admin; (repeat' split) <;> simp [*]

@[simp ↓] theorem admin_now (x1 x2 x3 x4 x5) (hx5 : ∀ y1 y2 y3, (x5 y1 y2 y3).now = y1.now) : (admin x1 x2 x3 x4 x5).now = x1.now := by unfold admin; (repeat' split) <;> simp [*]

@[simp ↓] theorem admin_fresh (x1 x2 x3 x4 x5) (hx5 : ∀ y1 y2 y3, (x5 y1 y2 y3).fresh = y1.fresh) : (admin x1 x2 x3 x4 x5).fresh = x1.fresh := by unfold admin; (repeat' split) <;> simp [*]

@[simp ↓] theorem admin_snaps (x1 x2 x3 x4 x5) (hx5 : ∀ y1 y2 y3, (x5 y1 y2 y3).snaps = y1.snaps) : (admin x1 x2 x3 x4 x5).snaps = x1.snaps := by unfold admin; (repeat' split) <;> simp [*]

@[simp ↓] theorem admin_id (x1 x2 x3 x4 x5) (hx5 : ∀ y1 y2 y3, (x5 y1 y2 y3).id = y1.id) : (admin x1 x2 x3 x4 x5).id = x1.id := by unfold admin; (repeat' split) <;> simp [*]

@[simp ↓] theorem admin_psg (x1 x2 x3 x4 x5) (hx5 : ∀ y1 y2 y3, (x5 y1 y2 y3).psg = y1.psg) : (admin x1 x2 x3 x4 x5).psg = x1.psg := by unfold admin; (repeat' split) <;> simp [*]

@[simp ↓] theorem admin_cham (x1 x2 x3 x4 x5) (hx5 : ∀ y1 y2 y3, (x5 y1 y2 y3).cham = y1.cham) : (admin x1 x2 x3 x4 x5).cham = x1.cham := by unfold admin; (repeat' split) <;> simp [*]

@[simp ↓] theorem admin_kst (x1 x2 x3 x4 x5) (hx5 : ∀ y1 y2 y3, (x5 y1 y2 y3).kst = y1.kst) : (admin x1 x2 x3 x4 x5).kst = x1.kst := by unfold admin; (repeat' split) <;> simp [*]

@[simp ↓] theorem admin_mbx (x1 x2 x3 x4 x5) (hx5 : ∀ y1 y2 y3, (x5 y1 y2 y3).mbx = y1.mbx) : (admin x1 x2 x3 x4 x5).mbx = x1.mbx := by unfold admin; (repeat' split) <;> simp [*]

@[simp ↓] theorem admin_str (x1 x2 x3 x4 x5) (hx5 : ∀ y1 y2 y3, (x5 y1 y2 y3).str = y1.str) : (admin x1 x2 x3 x4 x5).str = x1.str := by unfold admin; (repeat' split) <;> simp [*]

@[simp ↓] theorem admin_lan (x1 x2 x3 x4 x5) (hx5 : ∀ y1 y2 y3, (x5 y1 y2 y3).lan = y1.lan) : (admin x1 x2 x3 x4 x5).lan = x1.lan := by unfold admin; (repeat' split) <;> simp [*]

@[simp ↓] theorem admin_bb (x1 x2 x3 x4 x5) (hx5 : ∀ y1 y2 y3, (x5 y1 y2 y3).bb = y1.bb) : (admin x1 x2 x3 x4 x5).bb = x1.bb := by unfold admin; (repeat' split) <;> simp [*]

@[simp ↓] theorem admin_tim (x1 x2 x3 x4 x5) (hx5 : ∀ y1 y2 y3, (x5 y1 y2 y3).tim = y1.tim) : (admin x1 x2 x3 x4 x5).tim = x1.tim := by unfold admin; (repeat' split) <;> simp [*]

@[simp ↓] theorem admin_lcy (x1 x2 x3 x4 x5) (hx5 : ∀ y1 y2 y3, (x5 y1 y2 y3).lcy = y1.lcy) : (admin x1 x2 x3 x4 x5).lcy = x1.lcy := by unfold admin; (repeat' split) <;> simp [*]

@[simp ↓] theorem admin_die (x1 x2 x3 x4 x5) (hx5 : ∀ y1 y2 y3, (x5 y1 y2 y3).die = y1.die) : (admin x1 x2 x3 x4 x5).die = x1.die := by unfold admin; (repeat' split) <;> simp [*]

@[simp ↓] theorem admin_rng (x1 x2 x3 x4 x5) (hx5 : ∀ y1 y2 y3, (x5 y1 y2 y3).rng = y1.rng) : (admin x1 x2 x3 x4 x5).rng = x1.rng := by unfold admin; (repeat' split) <;> simp [*]

@[simp ↓] theorem admin_pke (x1 x2 x3 x4 x5) (hx5 : ∀ y1 y2 y3, (x5 y1 y2 y3).pke = y1.pke) : (admin x1 x2 x3 x4 x5).pke = x1.pke := by unfold admin; (repeat' split) <;> simp [*]

@[simp ↓] theorem admin_eng (x1 x2 x3 x4 x5) (hx5 : ∀ y1 y2 y3, (x5 y1 y2 y3).eng = y1.eng) : (admin x1 x2 x3 x4 x5).eng = x1.eng := by unfold admin; (repeat' split) <;> simp [*]

@[simp ↓] theorem admin_geo (x1 x2 x3 x4 x5) (hx5 : ∀ y1 y2 y3, (x5 y1 y2 y3).geo = y1.geo) : (admin x1 x2 x3 x4 x5).geo = x1.geo := by unfold admin; (repeat' split) <;> simp [*]

@[simp ↓] theorem admin_flash (x1 x2 x3 x4 x5) (hx5 : ∀ y1 y2 y3, (x5 y1 y2 y3).flash = y1.flash) : (admin x1 x2 x3 x4 x5).flash = x1.flash := by unfold admin; (repeat' split) <;> simp [*]

@[simp ↓] theorem admin_wld (x1 x2 x3 x4 x5) (hx5 : ∀ y1 y2 y3, (x5 y1 y2 y3).wld = y1.wld) : (admin x1 x2 x3 x4 x5).wld = x1.wld := by unfold admin; (repeat' split) <;> simp [*]

@[simp ↓] theorem admin_kar (x1 x2 x3 x4 x5) (hx5 : ∀ y1 y2 y3, (x5 y1 y2 y3).kar = y1.kar) : (admin x1 x2 x3 x4 x5).kar = x1.kar := by unfold admin; (repeat' split) <;> simp [*]

@[simp ↓] theorem admin_ctl (x1 x2 x3 x4 x5) (hx5 : ∀ y1 y2 y3, (x5 y1 y2 y3).ctl = y1.ctl) : (admin x1 x2 x3 x4 x5).ctl = x1.ctl := by unfold admin; (repeat' split) <;> simp [*]

@[simp ↓] theorem dropPcie_frame (x1) :
    (dropPcie x1).pending = x1.pending ∧ (dropPcie x1).now = x1.now ∧ (dropPcie x1).fresh = x1.fresh ∧ (dropPcie x1).out = x1.out ∧ (dropPcie x1).snaps = x1.snaps ∧ (dropPcie x1).psg = x1.psg ∧ (dropPcie x1).cham = x1.cham ∧ (dropPcie x1).kst = x1.kst ∧ (dropPcie x1).mbx = x1.mbx ∧ (dropPcie x1).str = x1.str ∧ (dropPcie x1).lan = x1.lan ∧ (dropPcie x1).bb = x1.bb ∧ (dropPcie x1).tim = x1.tim ∧ (dropPcie x1).lcy = x1.lcy ∧ (dropPcie x1).die = x1.die ∧ (dropPcie x1).rng = x1.rng ∧ (dropPcie x1).pke = x1.pke ∧ (dropPcie x1).eng = x1.eng ∧ (dropPcie x1).geo = x1.geo ∧ (dropPcie x1).flash = x1.flash ∧ (dropPcie x1).wld = x1.wld ∧ (dropPcie x1).kar = x1.kar ∧ (dropPcie x1).ctl = x1.ctl := by unfold dropPcie; simp

end Sys2Proof.Machine
end

