-- ==== Sys2Proof/Laws/Frames/Mailboxes.lean ====
section
/-!
SUPPORT. What the operations of Machine/Mailboxes.lean leave unchanged: for each, every part of the state that it does not touch.
-/

set_option Elab.async false

set_option linter.all false
set_option maxRecDepth 2000

namespace Sys2Proof.Machine

@[simp ↓] theorem endPacket_frame (x1 x2) :
    (endPacket x1 x2).pending = x1.pending ∧ (endPacket x1 x2).now = x1.now ∧ (endPacket x1 x2).fresh = x1.fresh ∧ (endPacket x1 x2).snaps = x1.snaps ∧ (endPacket x1 x2).id = x1.id ∧ (endPacket x1 x2).psg = x1.psg ∧ (endPacket x1 x2).cham = x1.cham ∧ (endPacket x1 x2).kst = x1.kst ∧ (endPacket x1 x2).str = x1.str ∧ (endPacket x1 x2).lan = x1.lan ∧ (endPacket x1 x2).bb = x1.bb ∧ (endPacket x1 x2).tim = x1.tim ∧ (endPacket x1 x2).lcy = x1.lcy ∧ (endPacket x1 x2).die = x1.die ∧ (endPacket x1 x2).rng = x1.rng ∧ (endPacket x1 x2).pke = x1.pke ∧ (endPacket x1 x2).eng = x1.eng ∧ (endPacket x1 x2).host = x1.host ∧ (endPacket x1 x2).geo = x1.geo ∧ (endPacket x1 x2).flash = x1.flash ∧ (endPacket x1 x2).wld = x1.wld ∧ (endPacket x1 x2).kar = x1.kar ∧ (endPacket x1 x2).ctl = x1.ctl := by unfold endPacket; (repeat' split) <;> simp

@[simp ↓] theorem wrongPort_frame (x1 x2 x3 x4 x5) :
    (wrongPort x1 x2 x3 x4 x5).pending = x1.pending ∧ (wrongPort x1 x2 x3 x4 x5).now = x1.now ∧ (wrongPort x1 x2 x3 x4 x5).fresh = x1.fresh ∧ (wrongPort x1 x2 x3 x4 x5).out = x1.out ∧ (wrongPort x1 x2 x3 x4 x5).snaps = x1.snaps ∧ (wrongPort x1 x2 x3 x4 x5).id = x1.id ∧ (wrongPort x1 x2 x3 x4 x5).psg = x1.psg ∧ (wrongPort x1 x2 x3 x4 x5).cham = x1.cham ∧ (wrongPort x1 x2 x3 x4 x5).kst = x1.kst ∧ (wrongPort x1 x2 x3 x4 x5).lan = x1.lan ∧ (wrongPort x1 x2 x3 x4 x5).bb = x1.bb ∧ (wrongPort x1 x2 x3 x4 x5).tim = x1.tim ∧ (wrongPort x1 x2 x3 x4 x5).lcy = x1.lcy ∧ (wrongPort x1 x2 x3 x4 x5).die = x1.die ∧ (wrongPort x1 x2 x3 x4 x5).rng = x1.rng ∧ (wrongPort x1 x2 x3 x4 x5).pke = x1.pke ∧ (wrongPort x1 x2 x3 x4 x5).eng = x1.eng ∧ (wrongPort x1 x2 x3 x4 x5).host = x1.host ∧ (wrongPort x1 x2 x3 x4 x5).geo = x1.geo ∧ (wrongPort x1 x2 x3 x4 x5).flash = x1.flash ∧ (wrongPort x1 x2 x3 x4 x5).kar = x1.kar ∧ (wrongPort x1 x2 x3 x4 x5).ctl = x1.ctl := by unfold wrongPort; simp

@[simp ↓] theorem takePacket_frame (x1 x2 x3 x4) :
    (takePacket x1 x2 x3 x4).pending = x1.pending ∧ (takePacket x1 x2 x3 x4).now = x1.now ∧ (takePacket x1 x2 x3 x4).fresh = x1.fresh ∧ (takePacket x1 x2 x3 x4).snaps = x1.snaps ∧ (takePacket x1 x2 x3 x4).id = x1.id ∧ (takePacket x1 x2 x3 x4).psg = x1.psg ∧ (takePacket x1 x2 x3 x4).cham = x1.cham ∧ (takePacket x1 x2 x3 x4).kst = x1.kst ∧ (takePacket x1 x2 x3 x4).lan = x1.lan ∧ (takePacket x1 x2 x3 x4).bb = x1.bb ∧ (takePacket x1 x2 x3 x4).tim = x1.tim ∧ (takePacket x1 x2 x3 x4).lcy = x1.lcy ∧ (takePacket x1 x2 x3 x4).die = x1.die ∧ (takePacket x1 x2 x3 x4).rng = x1.rng ∧ (takePacket x1 x2 x3 x4).pke = x1.pke ∧ (takePacket x1 x2 x3 x4).eng = x1.eng ∧ (takePacket x1 x2 x3 x4).host = x1.host ∧ (takePacket x1 x2 x3 x4).geo = x1.geo ∧ (takePacket x1 x2 x3 x4).flash = x1.flash ∧ (takePacket x1 x2 x3 x4).kar = x1.kar ∧ (takePacket x1 x2 x3 x4).ctl = x1.ctl := by unfold takePacket; simp

@[simp ↓] theorem settlePacket_frame (x1 x2) :
    (settlePacket x1 x2).pending = x1.pending ∧ (settlePacket x1 x2).now = x1.now ∧ (settlePacket x1 x2).fresh = x1.fresh ∧ (settlePacket x1 x2).snaps = x1.snaps ∧ (settlePacket x1 x2).id = x1.id ∧ (settlePacket x1 x2).psg = x1.psg ∧ (settlePacket x1 x2).cham = x1.cham ∧ (settlePacket x1 x2).kst = x1.kst ∧ (settlePacket x1 x2).str = x1.str ∧ (settlePacket x1 x2).lan = x1.lan ∧ (settlePacket x1 x2).bb = x1.bb ∧ (settlePacket x1 x2).tim = x1.tim ∧ (settlePacket x1 x2).lcy = x1.lcy ∧ (settlePacket x1 x2).die = x1.die ∧ (settlePacket x1 x2).rng = x1.rng ∧ (settlePacket x1 x2).pke = x1.pke ∧ (settlePacket x1 x2).eng = x1.eng ∧ (settlePacket x1 x2).host = x1.host ∧ (settlePacket x1 x2).geo = x1.geo ∧ (settlePacket x1 x2).flash = x1.flash ∧ (settlePacket x1 x2).wld = x1.wld ∧ (settlePacket x1 x2).kar = x1.kar ∧ (settlePacket x1 x2).ctl = x1.ctl := by unfold settlePacket; (repeat' split) <;> simp

@[simp ↓] theorem writeHdr_frame (x1 x2 x3) :
    (writeHdr x1 x2 x3).pending = x1.pending ∧ (writeHdr x1 x2 x3).now = x1.now ∧ (writeHdr x1 x2 x3).fresh = x1.fresh ∧ (writeHdr x1 x2 x3).snaps = x1.snaps ∧ (writeHdr x1 x2 x3).id = x1.id ∧ (writeHdr x1 x2 x3).psg = x1.psg ∧ (writeHdr x1 x2 x3).cham = x1.cham ∧ (writeHdr x1 x2 x3).kst = x1.kst ∧ (writeHdr x1 x2 x3).str = x1.str ∧ (writeHdr x1 x2 x3).lan = x1.lan ∧ (writeHdr x1 x2 x3).bb = x1.bb ∧ (writeHdr x1 x2 x3).tim = x1.tim ∧ (writeHdr x1 x2 x3).lcy = x1.lcy ∧ (writeHdr x1 x2 x3).die = x1.die ∧ (writeHdr x1 x2 x3).rng = x1.rng ∧ (writeHdr x1 x2 x3).pke = x1.pke ∧ (writeHdr x1 x2 x3).eng = x1.eng ∧ (writeHdr x1 x2 x3).host = x1.host ∧ (writeHdr x1 x2 x3).geo = x1.geo ∧ (writeHdr x1 x2 x3).flash = x1.flash ∧ (writeHdr x1 x2 x3).wld = x1.wld ∧ (writeHdr x1 x2 x3).kar = x1.kar ∧ (writeHdr x1 x2 x3).ctl = x1.ctl := by unfold writeHdr; simp

@[simp ↓] theorem writeData_frame (x1 x2 x3) :
    (writeData x1 x2 x3).pending = x1.pending ∧ (writeData x1 x2 x3).now = x1.now ∧ (writeData x1 x2 x3).fresh = x1.fresh ∧ (writeData x1 x2 x3).snaps = x1.snaps ∧ (writeData x1 x2 x3).id = x1.id ∧ (writeData x1 x2 x3).psg = x1.psg ∧ (writeData x1 x2 x3).cham = x1.cham ∧ (writeData x1 x2 x3).kst = x1.kst ∧ (writeData x1 x2 x3).str = x1.str ∧ (writeData x1 x2 x3).lan = x1.lan ∧ (writeData x1 x2 x3).bb = x1.bb ∧ (writeData x1 x2 x3).tim = x1.tim ∧ (writeData x1 x2 x3).lcy = x1.lcy ∧ (writeData x1 x2 x3).die = x1.die ∧ (writeData x1 x2 x3).rng = x1.rng ∧ (writeData x1 x2 x3).pke = x1.pke ∧ (writeData x1 x2 x3).eng = x1.eng ∧ (writeData x1 x2 x3).host = x1.host ∧ (writeData x1 x2 x3).geo = x1.geo ∧ (writeData x1 x2 x3).flash = x1.flash ∧ (writeData x1 x2 x3).wld = x1.wld ∧ (writeData x1 x2 x3).kar = x1.kar ∧ (writeData x1 x2 x3).ctl = x1.ctl := by unfold writeData; simp

@[simp ↓] theorem alertPin_frame (x1 x2) :
    (alertPin x1 x2).pending = x1.pending ∧ (alertPin x1 x2).now = x1.now ∧ (alertPin x1 x2).fresh = x1.fresh ∧ (alertPin x1 x2).snaps = x1.snaps ∧ (alertPin x1 x2).id = x1.id ∧ (alertPin x1 x2).psg = x1.psg ∧ (alertPin x1 x2).cham = x1.cham ∧ (alertPin x1 x2).kst = x1.kst ∧ (alertPin x1 x2).mbx = x1.mbx ∧ (alertPin x1 x2).str = x1.str ∧ (alertPin x1 x2).lan = x1.lan ∧ (alertPin x1 x2).bb = x1.bb ∧ (alertPin x1 x2).tim = x1.tim ∧ (alertPin x1 x2).lcy = x1.lcy ∧ (alertPin x1 x2).die = x1.die ∧ (alertPin x1 x2).rng = x1.rng ∧ (alertPin x1 x2).pke = x1.pke ∧ (alertPin x1 x2).eng = x1.eng ∧ (alertPin x1 x2).host = x1.host ∧ (alertPin x1 x2).geo = x1.geo ∧ (alertPin x1 x2).flash = x1.flash ∧ (alertPin x1 x2).wld = x1.wld ∧ (alertPin x1 x2).kar = x1.kar ∧ (alertPin x1 x2).ctl = x1.ctl := by unfold alertPin; simp

@[simp ↓] theorem notify_frame (x1 x2) :
    (notify x1 x2).pending = x1.pending ∧ (notify x1 x2).now = x1.now ∧ (notify x1 x2).fresh = x1.fresh ∧ (notify x1 x2).snaps = x1.snaps ∧ (notify x1 x2).id = x1.id ∧ (notify x1 x2).psg = x1.psg ∧ (notify x1 x2).cham = x1.cham ∧ (notify x1 x2).kst = x1.kst ∧ (notify x1 x2).str = x1.str ∧ (notify x1 x2).lan = x1.lan ∧ (notify x1 x2).bb = x1.bb ∧ (notify x1 x2).tim = x1.tim ∧ (notify x1 x2).lcy = x1.lcy ∧ (notify x1 x2).die = x1.die ∧ (notify x1 x2).rng = x1.rng ∧ (notify x1 x2).pke = x1.pke ∧ (notify x1 x2).eng = x1.eng ∧ (notify x1 x2).geo = x1.geo ∧ (notify x1 x2).flash = x1.flash ∧ (notify x1 x2).wld = x1.wld ∧ (notify x1 x2).kar = x1.kar ∧ (notify x1 x2).ctl = x1.ctl := by unfold notify; simp

@[simp ↓] theorem putPacket_frame (x1 x2 x3) :
    (putPacket x1 x2 x3).pending = x1.pending ∧ (putPacket x1 x2 x3).now = x1.now ∧ (putPacket x1 x2 x3).fresh = x1.fresh ∧ (putPacket x1 x2 x3).snaps = x1.snaps ∧ (putPacket x1 x2 x3).id = x1.id ∧ (putPacket x1 x2 x3).psg = x1.psg ∧ (putPacket x1 x2 x3).cham = x1.cham ∧ (putPacket x1 x2 x3).kst = x1.kst ∧ (putPacket x1 x2 x3).str = x1.str ∧ (putPacket x1 x2 x3).lan = x1.lan ∧ (putPacket x1 x2 x3).bb = x1.bb ∧ (putPacket x1 x2 x3).tim = x1.tim ∧ (putPacket x1 x2 x3).lcy = x1.lcy ∧ (putPacket x1 x2 x3).die = x1.die ∧ (putPacket x1 x2 x3).rng = x1.rng ∧ (putPacket x1 x2 x3).pke = x1.pke ∧ (putPacket x1 x2 x3).eng = x1.eng ∧ (putPacket x1 x2 x3).geo = x1.geo ∧ (putPacket x1 x2 x3).flash = x1.flash ∧ (putPacket x1 x2 x3).wld = x1.wld ∧ (putPacket x1 x2 x3).kar = x1.kar ∧ (putPacket x1 x2 x3).ctl = x1.ctl := by unfold putPacket; simp

@[simp ↓] theorem movePort_frame (x1 x2 x3) :
    (movePort x1 x2 x3).pending = x1.pending ∧ (movePort x1 x2 x3).now = x1.now ∧ (movePort x1 x2 x3).fresh = x1.fresh ∧ (movePort x1 x2 x3).snaps = x1.snaps ∧ (movePort x1 x2 x3).id = x1.id ∧ (movePort x1 x2 x3).psg = x1.psg ∧ (movePort x1 x2 x3).cham = x1.cham ∧ (movePort x1 x2 x3).str = x1.str ∧ (movePort x1 x2 x3).lan = x1.lan ∧ (movePort x1 x2 x3).bb = x1.bb ∧ (movePort x1 x2 x3).tim = x1.tim ∧ (movePort x1 x2 x3).lcy = x1.lcy ∧ (movePort x1 x2 x3).die = x1.die ∧ (movePort x1 x2 x3).rng = x1.rng ∧ (movePort x1 x2 x3).pke = x1.pke ∧ (movePort x1 x2 x3).eng = x1.eng ∧ (movePort x1 x2 x3).host = x1.host ∧ (movePort x1 x2 x3).geo = x1.geo ∧ (movePort x1 x2 x3).flash = x1.flash ∧ (movePort x1 x2 x3).wld = x1.wld ∧ (movePort x1 x2 x3).kar = x1.kar ∧ (movePort x1 x2 x3).ctl = x1.ctl := by unfold movePort; simp

@[simp ↓] theorem settleMove_frame (x1 x2) :
    (settleMove x1 x2).pending = x1.pending ∧ (settleMove x1 x2).now = x1.now ∧ (settleMove x1 x2).fresh = x1.fresh ∧ (settleMove x1 x2).snaps = x1.snaps ∧ (settleMove x1 x2).id = x1.id ∧ (settleMove x1 x2).psg = x1.psg ∧ (settleMove x1 x2).cham = x1.cham ∧ (settleMove x1 x2).str = x1.str ∧ (settleMove x1 x2).lan = x1.lan ∧ (settleMove x1 x2).bb = x1.bb ∧ (settleMove x1 x2).tim = x1.tim ∧ (settleMove x1 x2).lcy = x1.lcy ∧ (settleMove x1 x2).die = x1.die ∧ (settleMove x1 x2).rng = x1.rng ∧ (settleMove x1 x2).pke = x1.pke ∧ (settleMove x1 x2).eng = x1.eng ∧ (settleMove x1 x2).host = x1.host ∧ (settleMove x1 x2).geo = x1.geo ∧ (settleMove x1 x2).flash = x1.flash ∧ (settleMove x1 x2).wld = x1.wld ∧ (settleMove x1 x2).kar = x1.kar ∧ (settleMove x1 x2).ctl = x1.ctl := by unfold settleMove; dsimp only; (repeat' split)  <;> simp [*]

@[simp ↓] theorem dropFront_frame (x1 x2) :
    (dropFront x1 x2).pending = x1.pending ∧ (dropFront x1 x2).now = x1.now ∧ (dropFront x1 x2).fresh = x1.fresh ∧ (dropFront x1 x2).snaps = x1.snaps ∧ (dropFront x1 x2).id = x1.id ∧ (dropFront x1 x2).psg = x1.psg ∧ (dropFront x1 x2).cham = x1.cham ∧ (dropFront x1 x2).str = x1.str ∧ (dropFront x1 x2).lan = x1.lan ∧ (dropFront x1 x2).bb = x1.bb ∧ (dropFront x1 x2).tim = x1.tim ∧ (dropFront x1 x2).lcy = x1.lcy ∧ (dropFront x1 x2).die = x1.die ∧ (dropFront x1 x2).rng = x1.rng ∧ (dropFront x1 x2).pke = x1.pke ∧ (dropFront x1 x2).eng = x1.eng ∧ (dropFront x1 x2).host = x1.host ∧ (dropFront x1 x2).geo = x1.geo ∧ (dropFront x1 x2).flash = x1.flash ∧ (dropFront x1 x2).wld = x1.wld ∧ (dropFront x1 x2).kar = x1.kar ∧ (dropFront x1 x2).ctl = x1.ctl := by unfold dropFront; simp

@[simp ↓] theorem takeRspWord_frame (x1 x2) :
    (takeRspWord x1 x2).1.pending = x1.pending ∧ (takeRspWord x1 x2).1.now = x1.now ∧ (takeRspWord x1 x2).1.fresh = x1.fresh ∧ (takeRspWord x1 x2).1.snaps = x1.snaps ∧ (takeRspWord x1 x2).1.id = x1.id ∧ (takeRspWord x1 x2).1.psg = x1.psg ∧ (takeRspWord x1 x2).1.cham = x1.cham ∧ (takeRspWord x1 x2).1.str = x1.str ∧ (takeRspWord x1 x2).1.lan = x1.lan ∧ (takeRspWord x1 x2).1.bb = x1.bb ∧ (takeRspWord x1 x2).1.tim = x1.tim ∧ (takeRspWord x1 x2).1.lcy = x1.lcy ∧ (takeRspWord x1 x2).1.die = x1.die ∧ (takeRspWord x1 x2).1.rng = x1.rng ∧ (takeRspWord x1 x2).1.pke = x1.pke ∧ (takeRspWord x1 x2).1.eng = x1.eng ∧ (takeRspWord x1 x2).1.host = x1.host ∧ (takeRspWord x1 x2).1.geo = x1.geo ∧ (takeRspWord x1 x2).1.flash = x1.flash ∧ (takeRspWord x1 x2).1.wld = x1.wld ∧ (takeRspWord x1 x2).1.kar = x1.kar ∧ (takeRspWord x1 x2).1.ctl = x1.ctl := by unfold takeRspWord; simp

theorem takeRspWord_frame_of {x1 x2 x t} (h : takeRspWord x1 x2 = (t, x)) :
    t.pending = x1.pending ∧ t.now = x1.now ∧ t.fresh = x1.fresh ∧ t.snaps = x1.snaps ∧ t.id = x1.id ∧ t.psg = x1.psg ∧ t.cham = x1.cham ∧ t.str = x1.str ∧ t.lan = x1.lan ∧ t.bb = x1.bb ∧ t.tim = x1.tim ∧ t.lcy = x1.lcy ∧ t.die = x1.die ∧ t.rng = x1.rng ∧ t.pke = x1.pke ∧ t.eng = x1.eng ∧ t.host = x1.host ∧ t.geo = x1.geo ∧ t.flash = x1.flash ∧ t.wld = x1.wld ∧ t.kar = x1.kar ∧ t.ctl = x1.ctl := by
  have e := takeRspWord_frame x1 x2; rw [h] at e; exact e

@[simp ↓] theorem rewindRsp_frame (x1 x2) :
    (rewindRsp x1 x2).pending = x1.pending ∧ (rewindRsp x1 x2).now = x1.now ∧ (rewindRsp x1 x2).fresh = x1.fresh ∧ (rewindRsp x1 x2).out = x1.out ∧ (rewindRsp x1 x2).snaps = x1.snaps ∧ (rewindRsp x1 x2).id = x1.id ∧ (rewindRsp x1 x2).psg = x1.psg ∧ (rewindRsp x1 x2).cham = x1.cham ∧ (rewindRsp x1 x2).kst = x1.kst ∧ (rewindRsp x1 x2).str = x1.str ∧ (rewindRsp x1 x2).lan = x1.lan ∧ (rewindRsp x1 x2).bb = x1.bb ∧ (rewindRsp x1 x2).tim = x1.tim ∧ (rewindRsp x1 x2).lcy = x1.lcy ∧ (rewindRsp x1 x2).die = x1.die ∧ (rewindRsp x1 x2).rng = x1.rng ∧ (rewindRsp x1 x2).pke = x1.pke ∧ (rewindRsp x1 x2).eng = x1.eng ∧ (rewindRsp x1 x2).host = x1.host ∧ (rewindRsp x1 x2).geo = x1.geo ∧ (rewindRsp x1 x2).flash = x1.flash ∧ (rewindRsp x1 x2).wld = x1.wld ∧ (rewindRsp x1 x2).kar = x1.kar ∧ (rewindRsp x1 x2).ctl = x1.ctl := by unfold rewindRsp; simp

@[simp ↓] theorem writeNotice_frame (x1 x2 x3 x4) :
    (writeNotice x1 x2 x3 x4).pending = x1.pending ∧ (writeNotice x1 x2 x3 x4).now = x1.now ∧ (writeNotice x1 x2 x3 x4).fresh = x1.fresh ∧ (writeNotice x1 x2 x3 x4).snaps = x1.snaps ∧ (writeNotice x1 x2 x3 x4).id = x1.id ∧ (writeNotice x1 x2 x3 x4).psg = x1.psg ∧ (writeNotice x1 x2 x3 x4).cham = x1.cham ∧ (writeNotice x1 x2 x3 x4).kst = x1.kst ∧ (writeNotice x1 x2 x3 x4).str = x1.str ∧ (writeNotice x1 x2 x3 x4).lan = x1.lan ∧ (writeNotice x1 x2 x3 x4).bb = x1.bb ∧ (writeNotice x1 x2 x3 x4).tim = x1.tim ∧ (writeNotice x1 x2 x3 x4).lcy = x1.lcy ∧ (writeNotice x1 x2 x3 x4).die = x1.die ∧ (writeNotice x1 x2 x3 x4).rng = x1.rng ∧ (writeNotice x1 x2 x3 x4).pke = x1.pke ∧ (writeNotice x1 x2 x3 x4).eng = x1.eng ∧ (writeNotice x1 x2 x3 x4).geo = x1.geo ∧ (writeNotice x1 x2 x3 x4).flash = x1.flash ∧ (writeNotice x1 x2 x3 x4).wld = x1.wld ∧ (writeNotice x1 x2 x3 x4).kar = x1.kar ∧ (writeNotice x1 x2 x3 x4).ctl = x1.ctl := by unfold writeNotice; simp

@[simp ↓] theorem dropClosing_frame (x1) :
    (dropClosing x1).pending = x1.pending ∧ (dropClosing x1).now = x1.now ∧ (dropClosing x1).fresh = x1.fresh ∧ (dropClosing x1).out = x1.out ∧ (dropClosing x1).snaps = x1.snaps ∧ (dropClosing x1).id = x1.id ∧ (dropClosing x1).psg = x1.psg ∧ (dropClosing x1).cham = x1.cham ∧ (dropClosing x1).str = x1.str ∧ (dropClosing x1).lan = x1.lan ∧ (dropClosing x1).bb = x1.bb ∧ (dropClosing x1).tim = x1.tim ∧ (dropClosing x1).lcy = x1.lcy ∧ (dropClosing x1).die = x1.die ∧ (dropClosing x1).rng = x1.rng ∧ (dropClosing x1).pke = x1.pke ∧ (dropClosing x1).eng = x1.eng ∧ (dropClosing x1).host = x1.host ∧ (dropClosing x1).geo = x1.geo ∧ (dropClosing x1).flash = x1.flash ∧ (dropClosing x1).wld = x1.wld ∧ (dropClosing x1).kar = x1.kar ∧ (dropClosing x1).ctl = x1.ctl := by unfold dropClosing; simp

@[simp ↓] theorem sendNext_frame (x1 x2) :
    (sendNext x1 x2).pending = x1.pending ∧ (sendNext x1 x2).now = x1.now ∧ (sendNext x1 x2).fresh = x1.fresh ∧ (sendNext x1 x2).snaps = x1.snaps ∧ (sendNext x1 x2).id = x1.id ∧ (sendNext x1 x2).psg = x1.psg ∧ (sendNext x1 x2).cham = x1.cham ∧ (sendNext x1 x2).kst = x1.kst ∧ (sendNext x1 x2).str = x1.str ∧ (sendNext x1 x2).lan = x1.lan ∧ (sendNext x1 x2).bb = x1.bb ∧ (sendNext x1 x2).tim = x1.tim ∧ (sendNext x1 x2).lcy = x1.lcy ∧ (sendNext x1 x2).die = x1.die ∧ (sendNext x1 x2).rng = x1.rng ∧ (sendNext x1 x2).pke = x1.pke ∧ (sendNext x1 x2).eng = x1.eng ∧ (sendNext x1 x2).geo = x1.geo ∧ (sendNext x1 x2).flash = x1.flash ∧ (sendNext x1 x2).wld = x1.wld ∧ (sendNext x1 x2).kar = x1.kar ∧ (sendNext x1 x2).ctl = x1.ctl := by unfold sendNext; (repeat' split) <;> simp

end Sys2Proof.Machine
end

