-- ==== Sys2Proof/Laws/Frames/Sessions.lean ====
section
/-!
SUPPORT. What the operations of Machine/Sessions.lean leave unchanged: for each, every part of the state that it does not touch.
-/

set_option Elab.async false

set_option linter.all false
set_option maxRecDepth 2000

namespace Sys2Proof.Machine

@[simp ↓] theorem judgeProof_frame (x1 x2 x3 x4 x5 x6) :
    (judgeProof x1 x2 x3 x4 x5 x6).1.pending = x1.pending ∧ (judgeProof x1 x2 x3 x4 x5 x6).1.now = x1.now ∧ (judgeProof x1 x2 x3 x4 x5 x6).1.fresh = x1.fresh ∧ (judgeProof x1 x2 x3 x4 x5 x6).1.out = x1.out ∧ (judgeProof x1 x2 x3 x4 x5 x6).1.snaps = x1.snaps ∧ (judgeProof x1 x2 x3 x4 x5 x6).1.psg = x1.psg ∧ (judgeProof x1 x2 x3 x4 x5 x6).1.cham = x1.cham ∧ (judgeProof x1 x2 x3 x4 x5 x6).1.kst = x1.kst ∧ (judgeProof x1 x2 x3 x4 x5 x6).1.mbx = x1.mbx ∧ (judgeProof x1 x2 x3 x4 x5 x6).1.str = x1.str ∧ (judgeProof x1 x2 x3 x4 x5 x6).1.bb = x1.bb ∧ (judgeProof x1 x2 x3 x4 x5 x6).1.tim = x1.tim ∧ (judgeProof x1 x2 x3 x4 x5 x6).1.lcy = x1.lcy ∧ (judgeProof x1 x2 x3 x4 x5 x6).1.die = x1.die ∧ (judgeProof x1 x2 x3 x4 x5 x6).1.rng = x1.rng ∧ (judgeProof x1 x2 x3 x4 x5 x6).1.eng = x1.eng ∧ (judgeProof x1 x2 x3 x4 x5 x6).1.host = x1.host ∧ (judgeProof x1 x2 x3 x4 x5 x6).1.geo = x1.geo ∧ (judgeProof x1 x2 x3 x4 x5 x6).1.flash = x1.flash ∧ (judgeProof x1 x2 x3 x4 x5 x6).1.wld = x1.wld ∧ (judgeProof x1 x2 x3 x4 x5 x6).1.kar = x1.kar ∧ (judgeProof x1 x2 x3 x4 x5 x6).1.ctl = x1.ctl := by unfold judgeProof; (repeat' split) <;> simp

theorem judgeProof_frame_of {x1 x2 x3 x4 x5 x6 x t} (h : judgeProof x1 x2 x3 x4 x5 x6 = (t, x)) :
    t.pending = x1.pending ∧ t.now = x1.now ∧ t.fresh = x1.fresh ∧ t.out = x1.out ∧ t.snaps = x1.snaps ∧ t.psg = x1.psg ∧ t.cham = x1.cham ∧ t.kst = x1.kst ∧ t.mbx = x1.mbx ∧ t.str = x1.str ∧ t.bb = x1.bb ∧ t.tim = x1.tim ∧ t.lcy = x1.lcy ∧ t.die = x1.die ∧ t.rng = x1.rng ∧ t.eng = x1.eng ∧ t.host = x1.host ∧ t.geo = x1.geo ∧ t.flash = x1.flash ∧ t.wld = x1.wld ∧ t.kar = x1.kar ∧ t.ctl = x1.ctl := by
  have e := judgeProof_frame x1 x2 x3 x4 x5 x6; rw [h] at e; exact e

@[simp ↓] theorem openNew_frame (x1 x2 x3 x4 x5 x6 x7) :
    (openNew x1 x2 x3 x4 x5 x6 x7).pending = x1.pending ∧ (openNew x1 x2 x3 x4 x5 x6 x7).now = x1.now ∧ (openNew x1 x2 x3 x4 x5 x6 x7).fresh = x1.fresh ∧ (openNew x1 x2 x3 x4 x5 x6 x7).snaps = x1.snaps ∧ (openNew x1 x2 x3 x4 x5 x6 x7).id = x1.id ∧ (openNew x1 x2 x3 x4 x5 x6 x7).psg = x1.psg ∧ (openNew x1 x2 x3 x4 x5 x6 x7).cham = x1.cham ∧ (openNew x1 x2 x3 x4 x5 x6 x7).kst = x1.kst ∧ (openNew x1 x2 x3 x4 x5 x6 x7).str = x1.str ∧ (openNew x1 x2 x3 x4 x5 x6 x7).lan = x1.lan ∧ (openNew x1 x2 x3 x4 x5 x6 x7).bb = x1.bb ∧ (openNew x1 x2 x3 x4 x5 x6 x7).tim = x1.tim ∧ (openNew x1 x2 x3 x4 x5 x6 x7).lcy = x1.lcy ∧ (openNew x1 x2 x3 x4 x5 x6 x7).die = x1.die ∧ (openNew x1 x2 x3 x4 x5 x6 x7).rng = x1.rng ∧ (openNew x1 x2 x3 x4 x5 x6 x7).pke = x1.pke ∧ (openNew x1 x2 x3 x4 x5 x6 x7).eng = x1.eng ∧ (openNew x1 x2 x3 x4 x5 x6 x7).geo = x1.geo ∧ (openNew x1 x2 x3 x4 x5 x6 x7).flash = x1.flash ∧ (openNew x1 x2 x3 x4 x5 x6 x7).kar = x1.kar ∧ (openNew x1 x2 x3 x4 x5 x6 x7).ctl = x1.ctl := by unfold openNew; simp

@[simp ↓] theorem setDynamic_frame (x1 x2) :
    (setDynamic x1 x2).pending = x1.pending ∧ (setDynamic x1 x2).now = x1.now ∧ (setDynamic x1 x2).fresh = x1.fresh ∧ (setDynamic x1 x2).out = x1.out ∧ (setDynamic x1 x2).snaps = x1.snaps ∧ (setDynamic x1 x2).id = x1.id ∧ (setDynamic x1 x2).psg = x1.psg ∧ (setDynamic x1 x2).cham = x1.cham ∧ (setDynamic x1 x2).kst = x1.kst ∧ (setDynamic x1 x2).str = x1.str ∧ (setDynamic x1 x2).lan = x1.lan ∧ (setDynamic x1 x2).bb = x1.bb ∧ (setDynamic x1 x2).tim = x1.tim ∧ (setDynamic x1 x2).lcy = x1.lcy ∧ (setDynamic x1 x2).die = x1.die ∧ (setDynamic x1 x2).rng = x1.rng ∧ (setDynamic x1 x2).pke = x1.pke ∧ (setDynamic x1 x2).eng = x1.eng ∧ (setDynamic x1 x2).host = x1.host ∧ (setDynamic x1 x2).geo = x1.geo ∧ (setDynamic x1 x2).flash = x1.flash ∧ (setDynamic x1 x2).wld = x1.wld ∧ (setDynamic x1 x2).kar = x1.kar ∧ (setDynamic x1 x2).ctl = x1.ctl := by unfold setDynamic; simp

theorem ccc_pending_of {x1 x2 x3}{t} (hx3 : ∀ y1, (x3 y1).pending = y1.pending) (h : (Sys2Proof.Machine.ccc x1 x2 x3) = .next t) : t.pending = x1.pending := by unfold ccc at h; (try dsimp only at h); (repeat' split at h)  <;> (have h' := Host.Outcome.next.inj h; subst h'; simp [*])

theorem ccc_fresh_of {x1 x2 x3}{t} (hx3 : ∀ y1, (x3 y1).fresh = y1.fresh) (h : (Sys2Proof.Machine.ccc x1 x2 x3) = .next t) : t.fresh = x1.fresh := by unfold ccc at h; (try dsimp only at h); (repeat' split at h)  <;> (have h' := Host.Outcome.next.inj h; subst h'; simp [*])

theorem ccc_out_of {x1 x2 x3}{t} (hx3 : ∀ y1, (x3 y1).out = y1.out) (h : (Sys2Proof.Machine.ccc x1 x2 x3) = .next t) : t.out = x1.out := by unfold ccc at h; (try dsimp only at h); (repeat' split at h)  <;> (have h' := Host.Outcome.next.inj h; subst h'; simp [*])

theorem ccc_snaps_of {x1 x2 x3}{t} (hx3 : ∀ y1, (x3 y1).snaps = y1.snaps) (h : (Sys2Proof.Machine.ccc x1 x2 x3) = .next t) : t.snaps = x1.snaps := by unfold ccc at h; (try dsimp only at h); (repeat' split at h)  <;> (have h' := Host.Outcome.next.inj h; subst h'; simp [*])

theorem ccc_id_of {x1 x2 x3}{t} (hx3 : ∀ y1, (x3 y1).id = y1.id) (h : (Sys2Proof.Machine.ccc x1 x2 x3) = .next t) : t.id = x1.id := by unfold ccc at h; (try dsimp only at h); (repeat' split at h)  <;> (have h' := Host.Outcome.next.inj h; subst h'; simp [*])

theorem ccc_psg_of {x1 x2 x3}{t} (hx3 : ∀ y1, (x3 y1).psg = y1.psg) (h : (Sys2Proof.Machine.ccc x1 x2 x3) = .next t) : t.psg = x1.psg := by unfold ccc at h; (try dsimp only at h); (repeat' split at h)  <;> (have h' := Host.Outcome.next.inj h; subst h'; simp [*])

theorem ccc_cham_of {x1 x2 x3}{t} (hx3 : ∀ y1, (x3 y1).cham = y1.cham) (h : (Sys2Proof.Machine.ccc x1 x2 x3) = .next t) : t.cham = x1.cham := by unfold ccc at h; (try dsimp only at h); (repeat' split at h)  <;> (have h' := Host.Outcome.next.inj h; subst h'; simp [*])

theorem ccc_kst_of {x1 x2 x3}{t} (hx3 : ∀ y1, (x3 y1).kst = y1.kst) (h : (Sys2Proof.Machine.ccc x1 x2 x3) = .next t) : t.kst = x1.kst := by unfold ccc at h; (try dsimp only at h); (repeat' split at h)  <;> (have h' := Host.Outcome.next.inj h; subst h'; simp [*])

theorem ccc_mbx_of {x1 x2 x3}{t} (hx3 : ∀ y1, (x3 y1).mbx = y1.mbx) (h : (Sys2Proof.Machine.ccc x1 x2 x3) = .next t) : t.mbx = x1.mbx := by unfold ccc at h; (try dsimp only at h); (repeat' split at h)  <;> (have h' := Host.Outcome.next.inj h; subst h'; simp [*])

theorem ccc_str_of {x1 x2 x3}{t} (hx3 : ∀ y1, (x3 y1).str = y1.str) (h : (Sys2Proof.Machine.ccc x1 x2 x3) = .next t) : t.str = x1.str := by unfold ccc at h; (try dsimp only at h); (repeat' split at h)  <;> (have h' := Host.Outcome.next.inj h; subst h'; simp [*])

theorem ccc_lan_of {x1 x2 x3}{t} (hx3 : ∀ y1, (x3 y1).lan = y1.lan) (h : (Sys2Proof.Machine.ccc x1 x2 x3) = .next t) : t.lan = x1.lan := by unfold ccc at h; (try dsimp only at h); (repeat' split at h)  <;> (have h' := Host.Outcome.next.inj h; subst h'; simp [*])

theorem ccc_bb_of {x1 x2 x3}{t} (hx3 : ∀ y1, (x3 y1).bb = y1.bb) (h : (Sys2Proof.Machine.ccc x1 x2 x3) = .next t) : t.bb = x1.bb := by unfold ccc at h; (try dsimp only at h); (repeat' split at h)  <;> (have h' := Host.Outcome.next.inj h; subst h'; simp [*])

theorem ccc_lcy_of {x1 x2 x3}{t} (hx3 : ∀ y1, (x3 y1).lcy = y1.lcy) (h : (Sys2Proof.Machine.ccc x1 x2 x3) = .next t) : t.lcy = x1.lcy := by unfold ccc at h; (try dsimp only at h); (repeat' split at h)  <;> (have h' := Host.Outcome.next.inj h; subst h'; simp [*])

theorem ccc_die_of {x1 x2 x3}{t} (hx3 : ∀ y1, (x3 y1).die = y1.die) (h : (Sys2Proof.Machine.ccc x1 x2 x3) = .next t) : t.die = x1.die := by unfold ccc at h; (try dsimp only at h); (repeat' split at h)  <;> (have h' := Host.Outcome.next.inj h; subst h'; simp [*])

theorem ccc_rng_of {x1 x2 x3}{t} (hx3 : ∀ y1, (x3 y1).rng = y1.rng) (h : (Sys2Proof.Machine.ccc x1 x2 x3) = .next t) : t.rng = x1.rng := by unfold ccc at h; (try dsimp only at h); (repeat' split at h)  <;> (have h' := Host.Outcome.next.inj h; subst h'; simp [*])

theorem ccc_pke_of {x1 x2 x3}{t} (hx3 : ∀ y1, (x3 y1).pke = y1.pke) (h : (Sys2Proof.Machine.ccc x1 x2 x3) = .next t) : t.pke = x1.pke := by unfold ccc at h; (try dsimp only at h); (repeat' split at h)  <;> (have h' := Host.Outcome.next.inj h; subst h'; simp [*])

theorem ccc_eng_of {x1 x2 x3}{t} (hx3 : ∀ y1, (x3 y1).eng = y1.eng) (h : (Sys2Proof.Machine.ccc x1 x2 x3) = .next t) : t.eng = x1.eng := by unfold ccc at h; (try dsimp only at h); (repeat' split at h)  <;> (have h' := Host.Outcome.next.inj h; subst h'; simp [*])

theorem ccc_host_of {x1 x2 x3}{t} (hx3 : ∀ y1, (x3 y1).host = y1.host) (h : (Sys2Proof.Machine.ccc x1 x2 x3) = .next t) : t.host = x1.host := by unfold ccc at h; (try dsimp only at h); (repeat' split at h)  <;> (have h' := Host.Outcome.next.inj h; subst h'; simp [*])

theorem ccc_geo_of {x1 x2 x3}{t} (hx3 : ∀ y1, (x3 y1).geo = y1.geo) (h : (Sys2Proof.Machine.ccc x1 x2 x3) = .next t) : t.geo = x1.geo := by unfold ccc at h; (try dsimp only at h); (repeat' split at h)  <;> (have h' := Host.Outcome.next.inj h; subst h'; simp [*])

theorem ccc_flash_of {x1 x2 x3}{t} (hx3 : ∀ y1, (x3 y1).flash = y1.flash) (h : (Sys2Proof.Machine.ccc x1 x2 x3) = .next t) : t.flash = x1.flash := by unfold ccc at h; (try dsimp only at h); (repeat' split at h)  <;> (have h' := Host.Outcome.next.inj h; subst h'; simp [*])

theorem ccc_wld_of {x1 x2 x3}{t} (hx3 : ∀ y1, (x3 y1).wld = y1.wld) (h : (Sys2Proof.Machine.ccc x1 x2 x3) = .next t) : t.wld = x1.wld := by unfold ccc at h; (try dsimp only at h); (repeat' split at h)  <;> (have h' := Host.Outcome.next.inj h; subst h'; simp [*])

theorem ccc_kar_of {x1 x2 x3}{t} (hx3 : ∀ y1, (x3 y1).kar = y1.kar) (h : (Sys2Proof.Machine.ccc x1 x2 x3) = .next t) : t.kar = x1.kar := by unfold ccc at h; (try dsimp only at h); (repeat' split at h)  <;> (have h' := Host.Outcome.next.inj h; subst h'; simp [*])

theorem ccc_ctl_of {x1 x2 x3}{t} (hx3 : ∀ y1, (x3 y1).ctl = y1.ctl) (h : (Sys2Proof.Machine.ccc x1 x2 x3) = .next t) : t.ctl = x1.ctl := by unfold ccc at h; (try dsimp only at h); (repeat' split at h)  <;> (have h' := Host.Outcome.next.inj h; subst h'; simp [*])

end Sys2Proof.Machine
end

