-- ==== Sys2Proof/Laws/Frames/Worlds.lean ====
section
/-!
SUPPORT. What the operations of Machine/Worlds.lean leave unchanged: for each, every part of the state that it does not touch.
-/

set_option Elab.async false

set_option linter.all false
set_option maxRecDepth 2000

namespace Sys2Proof.Machine

@[simp ↓] theorem updPair_frame (x1 x2 x3) :
    (updPair x1 x2 x3).pending = x1.pending ∧ (updPair x1 x2 x3).now = x1.now ∧ (updPair x1 x2 x3).fresh = x1.fresh ∧ (updPair x1 x2 x3).out = x1.out ∧ (updPair x1 x2 x3).snaps = x1.snaps ∧ (updPair x1 x2 x3).id = x1.id ∧ (updPair x1 x2 x3).psg = x1.psg ∧ (updPair x1 x2 x3).cham = x1.cham ∧ (updPair x1 x2 x3).kst = x1.kst ∧ (updPair x1 x2 x3).mbx = x1.mbx ∧ (updPair x1 x2 x3).str = x1.str ∧ (updPair x1 x2 x3).lan = x1.lan ∧ (updPair x1 x2 x3).bb = x1.bb ∧ (updPair x1 x2 x3).tim = x1.tim ∧ (updPair x1 x2 x3).lcy = x1.lcy ∧ (updPair x1 x2 x3).die = x1.die ∧ (updPair x1 x2 x3).rng = x1.rng ∧ (updPair x1 x2 x3).pke = x1.pke ∧ (updPair x1 x2 x3).eng = x1.eng ∧ (updPair x1 x2 x3).host = x1.host ∧ (updPair x1 x2 x3).geo = x1.geo ∧ (updPair x1 x2 x3).flash = x1.flash ∧ (updPair x1 x2 x3).kar = x1.kar ∧ (updPair x1 x2 x3).ctl = x1.ctl := by unfold updPair; simp

@[simp ↓] theorem zeroPages_frame (x1 x2) :
    (zeroPages x1 x2).pending = x1.pending ∧ (zeroPages x1 x2).now = x1.now ∧ (zeroPages x1 x2).fresh = x1.fresh ∧ (zeroPages x1 x2).out = x1.out ∧ (zeroPages x1 x2).snaps = x1.snaps ∧ (zeroPages x1 x2).id = x1.id ∧ (zeroPages x1 x2).psg = x1.psg ∧ (zeroPages x1 x2).cham = x1.cham ∧ (zeroPages x1 x2).kst = x1.kst ∧ (zeroPages x1 x2).mbx = x1.mbx ∧ (zeroPages x1 x2).str = x1.str ∧ (zeroPages x1 x2).lan = x1.lan ∧ (zeroPages x1 x2).bb = x1.bb ∧ (zeroPages x1 x2).tim = x1.tim ∧ (zeroPages x1 x2).lcy = x1.lcy ∧ (zeroPages x1 x2).die = x1.die ∧ (zeroPages x1 x2).rng = x1.rng ∧ (zeroPages x1 x2).pke = x1.pke ∧ (zeroPages x1 x2).eng = x1.eng ∧ (zeroPages x1 x2).host = x1.host ∧ (zeroPages x1 x2).geo = x1.geo ∧ (zeroPages x1 x2).flash = x1.flash ∧ (zeroPages x1 x2).wld = x1.wld ∧ (zeroPages x1 x2).kar = x1.kar := by unfold zeroPages; simp

@[simp ↓] theorem setPage_frame (x1 x2 x3) :
    (setPage x1 x2 x3).pending = x1.pending ∧ (setPage x1 x2 x3).now = x1.now ∧ (setPage x1 x2 x3).fresh = x1.fresh ∧ (setPage x1 x2 x3).out = x1.out ∧ (setPage x1 x2 x3).snaps = x1.snaps ∧ (setPage x1 x2 x3).id = x1.id ∧ (setPage x1 x2 x3).psg = x1.psg ∧ (setPage x1 x2 x3).cham = x1.cham ∧ (setPage x1 x2 x3).kst = x1.kst ∧ (setPage x1 x2 x3).mbx = x1.mbx ∧ (setPage x1 x2 x3).str = x1.str ∧ (setPage x1 x2 x3).lan = x1.lan ∧ (setPage x1 x2 x3).bb = x1.bb ∧ (setPage x1 x2 x3).tim = x1.tim ∧ (setPage x1 x2 x3).lcy = x1.lcy ∧ (setPage x1 x2 x3).die = x1.die ∧ (setPage x1 x2 x3).rng = x1.rng ∧ (setPage x1 x2 x3).pke = x1.pke ∧ (setPage x1 x2 x3).eng = x1.eng ∧ (setPage x1 x2 x3).host = x1.host ∧ (setPage x1 x2 x3).geo = x1.geo ∧ (setPage x1 x2 x3).flash = x1.flash ∧ (setPage x1 x2 x3).kar = x1.kar ∧ (setPage x1 x2 x3).ctl = x1.ctl := by unfold setPage; simp

@[simp ↓] theorem writePage_frame (x1 x2 x3 x4) :
    (writePage x1 x2 x3 x4).pending = x1.pending ∧ (writePage x1 x2 x3 x4).now = x1.now ∧ (writePage x1 x2 x3 x4).fresh = x1.fresh ∧ (writePage x1 x2 x3 x4).out = x1.out ∧ (writePage x1 x2 x3 x4).snaps = x1.snaps ∧ (writePage x1 x2 x3 x4).id = x1.id ∧ (writePage x1 x2 x3 x4).psg = x1.psg ∧ (writePage x1 x2 x3 x4).cham = x1.cham ∧ (writePage x1 x2 x3 x4).kst = x1.kst ∧ (writePage x1 x2 x3 x4).mbx = x1.mbx ∧ (writePage x1 x2 x3 x4).lan = x1.lan ∧ (writePage x1 x2 x3 x4).bb = x1.bb ∧ (writePage x1 x2 x3 x4).tim = x1.tim ∧ (writePage x1 x2 x3 x4).lcy = x1.lcy ∧ (writePage x1 x2 x3 x4).die = x1.die ∧ (writePage x1 x2 x3 x4).rng = x1.rng ∧ (writePage x1 x2 x3 x4).pke = x1.pke ∧ (writePage x1 x2 x3 x4).eng = x1.eng ∧ (writePage x1 x2 x3 x4).host = x1.host ∧ (writePage x1 x2 x3 x4).geo = x1.geo ∧ (writePage x1 x2 x3 x4).flash = x1.flash ∧ (writePage x1 x2 x3 x4).kar = x1.kar := by unfold writePage; simp

@[simp ↓] theorem updImage_frame (x1 x2 x3 x4) :
    (updImage x1 x2 x3 x4).pending = x1.pending ∧ (updImage x1 x2 x3 x4).now = x1.now ∧ (updImage x1 x2 x3 x4).fresh = x1.fresh ∧ (updImage x1 x2 x3 x4).out = x1.out ∧ (updImage x1 x2 x3 x4).snaps = x1.snaps ∧ (updImage x1 x2 x3 x4).id = x1.id ∧ (updImage x1 x2 x3 x4).psg = x1.psg ∧ (updImage x1 x2 x3 x4).cham = x1.cham ∧ (updImage x1 x2 x3 x4).kst = x1.kst ∧ (updImage x1 x2 x3 x4).mbx = x1.mbx ∧ (updImage x1 x2 x3 x4).str = x1.str ∧ (updImage x1 x2 x3 x4).lan = x1.lan ∧ (updImage x1 x2 x3 x4).bb = x1.bb ∧ (updImage x1 x2 x3 x4).tim = x1.tim ∧ (updImage x1 x2 x3 x4).lcy = x1.lcy ∧ (updImage x1 x2 x3 x4).rng = x1.rng ∧ (updImage x1 x2 x3 x4).pke = x1.pke ∧ (updImage x1 x2 x3 x4).eng = x1.eng ∧ (updImage x1 x2 x3 x4).host = x1.host ∧ (updImage x1 x2 x3 x4).geo = x1.geo ∧ (updImage x1 x2 x3 x4).flash = x1.flash ∧ (updImage x1 x2 x3 x4).wld = x1.wld ∧ (updImage x1 x2 x3 x4).kar = x1.kar ∧ (updImage x1 x2 x3 x4).ctl = x1.ctl := by unfold updImage; simp

@[simp ↓] theorem loadImage_frame (x1 x2 x3) :
    (loadImage x1 x2 x3).pending = x1.pending ∧ (loadImage x1 x2 x3).now = x1.now ∧ (loadImage x1 x2 x3).fresh = x1.fresh ∧ (loadImage x1 x2 x3).out = x1.out ∧ (loadImage x1 x2 x3).snaps = x1.snaps ∧ (loadImage x1 x2 x3).id = x1.id ∧ (loadImage x1 x2 x3).psg = x1.psg ∧ (loadImage x1 x2 x3).cham = x1.cham ∧ (loadImage x1 x2 x3).kst = x1.kst ∧ (loadImage x1 x2 x3).mbx = x1.mbx ∧ (loadImage x1 x2 x3).str = x1.str ∧ (loadImage x1 x2 x3).lan = x1.lan ∧ (loadImage x1 x2 x3).bb = x1.bb ∧ (loadImage x1 x2 x3).tim = x1.tim ∧ (loadImage x1 x2 x3).lcy = x1.lcy ∧ (loadImage x1 x2 x3).die = x1.die ∧ (loadImage x1 x2 x3).rng = x1.rng ∧ (loadImage x1 x2 x3).pke = x1.pke ∧ (loadImage x1 x2 x3).eng = x1.eng ∧ (loadImage x1 x2 x3).host = x1.host ∧ (loadImage x1 x2 x3).geo = x1.geo ∧ (loadImage x1 x2 x3).flash = x1.flash ∧ (loadImage x1 x2 x3).kar = x1.kar := by unfold loadImage; simp

@[simp ↓] theorem startSecure_frame (x1 x2 x3) :
    (startSecure x1 x2 x3).pending = x1.pending ∧ (startSecure x1 x2 x3).now = x1.now ∧ (startSecure x1 x2 x3).fresh = x1.fresh ∧ (startSecure x1 x2 x3).out = x1.out ∧ (startSecure x1 x2 x3).snaps = x1.snaps ∧ (startSecure x1 x2 x3).id = x1.id ∧ (startSecure x1 x2 x3).psg = x1.psg ∧ (startSecure x1 x2 x3).cham = x1.cham ∧ (startSecure x1 x2 x3).kst = x1.kst ∧ (startSecure x1 x2 x3).mbx = x1.mbx ∧ (startSecure x1 x2 x3).str = x1.str ∧ (startSecure x1 x2 x3).lan = x1.lan ∧ (startSecure x1 x2 x3).bb = x1.bb ∧ (startSecure x1 x2 x3).tim = x1.tim ∧ (startSecure x1 x2 x3).lcy = x1.lcy ∧ (startSecure x1 x2 x3).die = x1.die ∧ (startSecure x1 x2 x3).rng = x1.rng ∧ (startSecure x1 x2 x3).pke = x1.pke ∧ (startSecure x1 x2 x3).eng = x1.eng ∧ (startSecure x1 x2 x3).host = x1.host ∧ (startSecure x1 x2 x3).geo = x1.geo ∧ (startSecure x1 x2 x3).flash = x1.flash ∧ (startSecure x1 x2 x3).kar = x1.kar := by unfold startSecure; simp

@[simp ↓] theorem bootSecure_frame (x1) :
    (bootSecure x1).pending = x1.pending ∧ (bootSecure x1).now = x1.now ∧ (bootSecure x1).fresh = x1.fresh ∧ (bootSecure x1).out = x1.out ∧ (bootSecure x1).snaps = x1.snaps ∧ (bootSecure x1).id = x1.id ∧ (bootSecure x1).psg = x1.psg ∧ (bootSecure x1).cham = x1.cham ∧ (bootSecure x1).kst = x1.kst ∧ (bootSecure x1).mbx = x1.mbx ∧ (bootSecure x1).str = x1.str ∧ (bootSecure x1).lan = x1.lan ∧ (bootSecure x1).bb = x1.bb ∧ (bootSecure x1).tim = x1.tim ∧ (bootSecure x1).lcy = x1.lcy ∧ (bootSecure x1).die = x1.die ∧ (bootSecure x1).rng = x1.rng ∧ (bootSecure x1).pke = x1.pke ∧ (bootSecure x1).eng = x1.eng ∧ (bootSecure x1).host = x1.host ∧ (bootSecure x1).geo = x1.geo ∧ (bootSecure x1).flash = x1.flash ∧ (bootSecure x1).kar = x1.kar := by unfold bootSecure; simp

@[simp ↓] theorem haltSecure_frame (x1) :
    (haltSecure x1).pending = x1.pending ∧ (haltSecure x1).now = x1.now ∧ (haltSecure x1).fresh = x1.fresh ∧ (haltSecure x1).out = x1.out ∧ (haltSecure x1).snaps = x1.snaps ∧ (haltSecure x1).id = x1.id ∧ (haltSecure x1).psg = x1.psg ∧ (haltSecure x1).cham = x1.cham ∧ (haltSecure x1).kst = x1.kst ∧ (haltSecure x1).mbx = x1.mbx ∧ (haltSecure x1).bb = x1.bb ∧ (haltSecure x1).tim = x1.tim ∧ (haltSecure x1).lcy = x1.lcy ∧ (haltSecure x1).die = x1.die ∧ (haltSecure x1).rng = x1.rng ∧ (haltSecure x1).pke = x1.pke ∧ (haltSecure x1).eng = x1.eng ∧ (haltSecure x1).host = x1.host ∧ (haltSecure x1).geo = x1.geo ∧ (haltSecure x1).flash = x1.flash ∧ (haltSecure x1).kar = x1.kar ∧ (haltSecure x1).ctl = x1.ctl := by unfold haltSecure; simp

@[simp ↓] theorem downRings_frame (x1) :
    (downRings x1).pending = x1.pending ∧ (downRings x1).now = x1.now ∧ (downRings x1).fresh = x1.fresh ∧ (downRings x1).out = x1.out ∧ (downRings x1).snaps = x1.snaps ∧ (downRings x1).id = x1.id ∧ (downRings x1).psg = x1.psg ∧ (downRings x1).cham = x1.cham ∧ (downRings x1).kst = x1.kst ∧ (downRings x1).mbx = x1.mbx ∧ (downRings x1).str = x1.str ∧ (downRings x1).lan = x1.lan ∧ (downRings x1).bb = x1.bb ∧ (downRings x1).tim = x1.tim ∧ (downRings x1).lcy = x1.lcy ∧ (downRings x1).die = x1.die ∧ (downRings x1).rng = x1.rng ∧ (downRings x1).pke = x1.pke ∧ (downRings x1).eng = x1.eng ∧ (downRings x1).geo = x1.geo ∧ (downRings x1).flash = x1.flash ∧ (downRings x1).wld = x1.wld ∧ (downRings x1).kar = x1.kar ∧ (downRings x1).ctl = x1.ctl := by unfold downRings; simp

@[simp ↓] theorem stopSecure_frame (x1) :
    (stopSecure x1).pending = x1.pending ∧ (stopSecure x1).now = x1.now ∧ (stopSecure x1).fresh = x1.fresh ∧ (stopSecure x1).snaps = x1.snaps ∧ (stopSecure x1).cham = x1.cham ∧ (stopSecure x1).lan = x1.lan ∧ (stopSecure x1).bb = x1.bb ∧ (stopSecure x1).die = x1.die ∧ (stopSecure x1).rng = x1.rng ∧ (stopSecure x1).pke = x1.pke ∧ (stopSecure x1).flash = x1.flash ∧ (stopSecure x1).kar = x1.kar := by unfold stopSecure; simp

@[simp ↓] theorem zeroSecure_frame (x1) :
    (zeroSecure x1).pending = x1.pending ∧ (zeroSecure x1).now = x1.now ∧ (zeroSecure x1).fresh = x1.fresh ∧ (zeroSecure x1).out = x1.out ∧ (zeroSecure x1).snaps = x1.snaps ∧ (zeroSecure x1).id = x1.id ∧ (zeroSecure x1).psg = x1.psg ∧ (zeroSecure x1).cham = x1.cham ∧ (zeroSecure x1).kst = x1.kst ∧ (zeroSecure x1).mbx = x1.mbx ∧ (zeroSecure x1).str = x1.str ∧ (zeroSecure x1).lan = x1.lan ∧ (zeroSecure x1).bb = x1.bb ∧ (zeroSecure x1).tim = x1.tim ∧ (zeroSecure x1).lcy = x1.lcy ∧ (zeroSecure x1).die = x1.die ∧ (zeroSecure x1).rng = x1.rng ∧ (zeroSecure x1).pke = x1.pke ∧ (zeroSecure x1).eng = x1.eng ∧ (zeroSecure x1).host = x1.host ∧ (zeroSecure x1).geo = x1.geo ∧ (zeroSecure x1).flash = x1.flash ∧ (zeroSecure x1).wld = x1.wld ∧ (zeroSecure x1).kar = x1.kar := by unfold zeroSecure; simp

@[simp ↓] theorem restartSecure_frame (x1 x2) :
    (restartSecure x1 x2).pending = x1.pending ∧ (restartSecure x1 x2).now = x1.now ∧ (restartSecure x1 x2).fresh = x1.fresh ∧ (restartSecure x1 x2).out = x1.out ∧ (restartSecure x1 x2).snaps = x1.snaps ∧ (restartSecure x1 x2).id = x1.id ∧ (restartSecure x1 x2).psg = x1.psg ∧ (restartSecure x1 x2).cham = x1.cham ∧ (restartSecure x1 x2).kst = x1.kst ∧ (restartSecure x1 x2).mbx = x1.mbx ∧ (restartSecure x1 x2).bb = x1.bb ∧ (restartSecure x1 x2).tim = x1.tim ∧ (restartSecure x1 x2).lcy = x1.lcy ∧ (restartSecure x1 x2).rng = x1.rng ∧ (restartSecure x1 x2).pke = x1.pke ∧ (restartSecure x1 x2).eng = x1.eng ∧ (restartSecure x1 x2).host = x1.host ∧ (restartSecure x1 x2).geo = x1.geo ∧ (restartSecure x1 x2).flash = x1.flash ∧ (restartSecure x1 x2).kar = x1.kar := by unfold restartSecure; simp

@[simp ↓] theorem secureDown_frame (x1 x2) :
    (secureDown x1 x2).pending = x1.pending ∧ (secureDown x1 x2).now = x1.now ∧ (secureDown x1 x2).fresh = x1.fresh ∧ (secureDown x1 x2).snaps = x1.snaps ∧ (secureDown x1 x2).cham = x1.cham ∧ (secureDown x1 x2).bb = x1.bb ∧ (secureDown x1 x2).rng = x1.rng ∧ (secureDown x1 x2).pke = x1.pke ∧ (secureDown x1 x2).flash = x1.flash ∧ (secureDown x1 x2).kar = x1.kar := by unfold secureDown; simp

theorem bySecure_pending_of {x1 x2 x3 x4}{t} (hx4 : ∀ y1, (x4 y1).pending = y1.pending) (h : (Sys2Proof.Machine.bySecure x1 x2 x3 x4) = .next t) : t.pending = x1.pending := by unfold bySecure at h; (try dsimp only at h); (repeat' split at h)  <;> (have h' := Host.Outcome.next.inj h; subst h'; simp [*])

theorem bySecure_now_of {x1 x2 x3 x4}{t} (hx4 : ∀ y1, (x4 y1).now = y1.now) (h : (Sys2Proof.Machine.bySecure x1 x2 x3 x4) = .next t) : t.now = x1.now := by unfold bySecure at h; (try dsimp only at h); (repeat' split at h)  <;> (have h' := Host.Outcome.next.inj h; subst h'; simp [*])

theorem bySecure_fresh_of {x1 x2 x3 x4}{t} (hx4 : ∀ y1, (x4 y1).fresh = y1.fresh) (h : (Sys2Proof.Machine.bySecure x1 x2 x3 x4) = .next t) : t.fresh = x1.fresh := by unfold bySecure at h; (try dsimp only at h); (repeat' split at h)  <;> (have h' := Host.Outcome.next.inj h; subst h'; simp [*])

theorem bySecure_out_of {x1 x2 x3 x4}{t} (hx4 : ∀ y1, (x4 y1).out = y1.out) (h : (Sys2Proof.Machine.bySecure x1 x2 x3 x4) = .next t) : t.out = x1.out := by unfold bySecure at h; (try dsimp only at h); (repeat' split at h)  <;> (have h' := Host.Outcome.next.inj h; subst h'; simp [*])

theorem bySecure_snaps_of {x1 x2 x3 x4}{t} (hx4 : ∀ y1, (x4 y1).snaps = y1.snaps) (h : (Sys2Proof.Machine.bySecure x1 x2 x3 x4) = .next t) : t.snaps = x1.snaps := by unfold bySecure at h; (try dsimp only at h); (repeat' split at h)  <;> (have h' := Host.Outcome.next.inj h; subst h'; simp [*])

theorem bySecure_id_of {x1 x2 x3 x4}{t} (hx4 : ∀ y1, (x4 y1).id = y1.id) (h : (Sys2Proof.Machine.bySecure x1 x2 x3 x4) = .next t) : t.id = x1.id := by unfold bySecure at h; (try dsimp only at h); (repeat' split at h)  <;> (have h' := Host.Outcome.next.inj h; subst h'; simp [*])

theorem bySecure_psg_of {x1 x2 x3 x4}{t} (hx4 : ∀ y1, (x4 y1).psg = y1.psg) (h : (Sys2Proof.Machine.bySecure x1 x2 x3 x4) = .next t) : t.psg = x1.psg := by unfold bySecure at h; (try dsimp only at h); (repeat' split at h)  <;> (have h' := Host.Outcome.next.inj h; subst h'; simp [*])

theorem bySecure_cham_of {x1 x2 x3 x4}{t} (hx4 : ∀ y1, (x4 y1).cham = y1.cham) (h : (Sys2Proof.Machine.bySecure x1 x2 x3 x4) = .next t) : t.cham = x1.cham := by unfold bySecure at h; (try dsimp only at h); (repeat' split at h)  <;> (have h' := Host.Outcome.next.inj h; subst h'; simp [*])

theorem bySecure_kst_of {x1 x2 x3 x4}{t} (hx4 : ∀ y1, (x4 y1).kst = y1.kst) (h : (Sys2Proof.Machine.bySecure x1 x2 x3 x4) = .next t) : t.kst = x1.kst := by unfold bySecure at h; (try dsimp only at h); (repeat' split at h)  <;> (have h' := Host.Outcome.next.inj h; subst h'; simp [*])

theorem bySecure_mbx_of {x1 x2 x3 x4}{t} (hx4 : ∀ y1, (x4 y1).mbx = y1.mbx) (h : (Sys2Proof.Machine.bySecure x1 x2 x3 x4) = .next t) : t.mbx = x1.mbx := by unfold bySecure at h; (try dsimp only at h); (repeat' split at h)  <;> (have h' := Host.Outcome.next.inj h; subst h'; simp [*])

theorem bySecure_lan_of {x1 x2 x3 x4}{t} (hx4 : ∀ y1, (x4 y1).lan = y1.lan) (h : (Sys2Proof.Machine.bySecure x1 x2 x3 x4) = .next t) : t.lan = x1.lan := by unfold bySecure at h; (try dsimp only at h); (repeat' split at h)  <;> (have h' := Host.Outcome.next.inj h; subst h'; simp [*])

theorem bySecure_bb_of {x1 x2 x3 x4}{t} (hx4 : ∀ y1, (x4 y1).bb = y1.bb) (h : (Sys2Proof.Machine.bySecure x1 x2 x3 x4) = .next t) : t.bb = x1.bb := by unfold bySecure at h; (try dsimp only at h); (repeat' split at h)  <;> (have h' := Host.Outcome.next.inj h; subst h'; simp [*])

theorem bySecure_tim_of {x1 x2 x3 x4}{t} (hx4 : ∀ y1, (x4 y1).tim = y1.tim) (h : (Sys2Proof.Machine.bySecure x1 x2 x3 x4) = .next t) : t.tim = x1.tim := by unfold bySecure at h; (try dsimp only at h); (repeat' split at h)  <;> (have h' := Host.Outcome.next.inj h; subst h'; simp [*])

theorem bySecure_lcy_of {x1 x2 x3 x4}{t} (hx4 : ∀ y1, (x4 y1).lcy = y1.lcy) (h : (Sys2Proof.Machine.bySecure x1 x2 x3 x4) = .next t) : t.lcy = x1.lcy := by unfold bySecure at h; (try dsimp only at h); (repeat' split at h)  <;> (have h' := Host.Outcome.next.inj h; subst h'; simp [*])

theorem bySecure_die_of {x1 x2 x3 x4}{t} (hx4 : ∀ y1, (x4 y1).die = y1.die) (h : (Sys2Proof.Machine.bySecure x1 x2 x3 x4) = .next t) : t.die = x1.die := by unfold bySecure at h; (try dsimp only at h); (repeat' split at h)  <;> (have h' := Host.Outcome.next.inj h; subst h'; simp [*])

theorem bySecure_rng_of {x1 x2 x3 x4}{t} (hx4 : ∀ y1, (x4 y1).rng = y1.rng) (h : (Sys2Proof.Machine.bySecure x1 x2 x3 x4) = .next t) : t.rng = x1.rng := by unfold bySecure at h; (try dsimp only at h); (repeat' split at h)  <;> (have h' := Host.Outcome.next.inj h; subst h'; simp [*])

theorem bySecure_pke_of {x1 x2 x3 x4}{t} (hx4 : ∀ y1, (x4 y1).pke = y1.pke) (h : (Sys2Proof.Machine.bySecure x1 x2 x3 x4) = .next t) : t.pke = x1.pke := by unfold bySecure at h; (try dsimp only at h); (repeat' split at h)  <;> (have h' := Host.Outcome.next.inj h; subst h'; simp [*])

theorem bySecure_eng_of {x1 x2 x3 x4}{t} (hx4 : ∀ y1, (x4 y1).eng = y1.eng) (h : (Sys2Proof.Machine.bySecure x1 x2 x3 x4) = .next t) : t.eng = x1.eng := by unfold bySecure at h; (try dsimp only at h); (repeat' split at h)  <;> (have h' := Host.Outcome.next.inj h; subst h'; simp [*])

theorem bySecure_host_of {x1 x2 x3 x4}{t} (hx4 : ∀ y1, (x4 y1).host = y1.host) (h : (Sys2Proof.Machine.bySecure x1 x2 x3 x4) = .next t) : t.host = x1.host := by unfold bySecure at h; (try dsimp only at h); (repeat' split at h)  <;> (have h' := Host.Outcome.next.inj h; subst h'; simp [*])

theorem bySecure_geo_of {x1 x2 x3 x4}{t} (hx4 : ∀ y1, (x4 y1).geo = y1.geo) (h : (Sys2Proof.Machine.bySecure x1 x2 x3 x4) = .next t) : t.geo = x1.geo := by unfold bySecure at h; (try dsimp only at h); (repeat' split at h)  <;> (have h' := Host.Outcome.next.inj h; subst h'; simp [*])

theorem bySecure_flash_of {x1 x2 x3 x4}{t} (hx4 : ∀ y1, (x4 y1).flash = y1.flash) (h : (Sys2Proof.Machine.bySecure x1 x2 x3 x4) = .next t) : t.flash = x1.flash := by unfold bySecure at h; (try dsimp only at h); (repeat' split at h)  <;> (have h' := Host.Outcome.next.inj h; subst h'; simp [*])

theorem bySecure_kar_of {x1 x2 x3 x4}{t} (hx4 : ∀ y1, (x4 y1).kar = y1.kar) (h : (Sys2Proof.Machine.bySecure x1 x2 x3 x4) = .next t) : t.kar = x1.kar := by unfold bySecure at h; (try dsimp only at h); (repeat' split at h)  <;> (have h' := Host.Outcome.next.inj h; subst h'; simp [*])

theorem bySecure_ctl_of {x1 x2 x3 x4}{t} (hx4 : ∀ y1, (x4 y1).ctl = y1.ctl) (h : (Sys2Proof.Machine.bySecure x1 x2 x3 x4) = .next t) : t.ctl = x1.ctl := by unfold bySecure at h; (try dsimp only at h); (repeat' split at h)  <;> (have h' := Host.Outcome.next.inj h; subst h'; simp [*])

@[simp ↓] theorem secureReady_frame (x1) :
    (secureReady x1).pending = x1.pending ∧ (secureReady x1).now = x1.now ∧ (secureReady x1).fresh = x1.fresh ∧ (secureReady x1).out = x1.out ∧ (secureReady x1).snaps = x1.snaps ∧ (secureReady x1).psg = x1.psg ∧ (secureReady x1).cham = x1.cham ∧ (secureReady x1).kst = x1.kst ∧ (secureReady x1).mbx = x1.mbx ∧ (secureReady x1).str = x1.str ∧ (secureReady x1).lan = x1.lan ∧ (secureReady x1).bb = x1.bb ∧ (secureReady x1).tim = x1.tim ∧ (secureReady x1).lcy = x1.lcy ∧ (secureReady x1).die = x1.die ∧ (secureReady x1).rng = x1.rng ∧ (secureReady x1).pke = x1.pke ∧ (secureReady x1).eng = x1.eng ∧ (secureReady x1).host = x1.host ∧ (secureReady x1).geo = x1.geo ∧ (secureReady x1).flash = x1.flash ∧ (secureReady x1).kar = x1.kar ∧ (secureReady x1).ctl = x1.ctl := by unfold secureReady; simp

@[simp ↓] theorem startNormal_frame (x1 x2) :
    (startNormal x1 x2).pending = x1.pending ∧ (startNormal x1 x2).now = x1.now ∧ (startNormal x1 x2).fresh = x1.fresh ∧ (startNormal x1 x2).out = x1.out ∧ (startNormal x1 x2).snaps = x1.snaps ∧ (startNormal x1 x2).psg = x1.psg ∧ (startNormal x1 x2).cham = x1.cham ∧ (startNormal x1 x2).kst = x1.kst ∧ (startNormal x1 x2).mbx = x1.mbx ∧ (startNormal x1 x2).str = x1.str ∧ (startNormal x1 x2).lan = x1.lan ∧ (startNormal x1 x2).bb = x1.bb ∧ (startNormal x1 x2).tim = x1.tim ∧ (startNormal x1 x2).lcy = x1.lcy ∧ (startNormal x1 x2).die = x1.die ∧ (startNormal x1 x2).rng = x1.rng ∧ (startNormal x1 x2).pke = x1.pke ∧ (startNormal x1 x2).eng = x1.eng ∧ (startNormal x1 x2).host = x1.host ∧ (startNormal x1 x2).geo = x1.geo ∧ (startNormal x1 x2).flash = x1.flash ∧ (startNormal x1 x2).kar = x1.kar := by unfold startNormal; simp

@[simp ↓] theorem bootNormal_frame (x1) :
    (bootNormal x1).pending = x1.pending ∧ (bootNormal x1).now = x1.now ∧ (bootNormal x1).fresh = x1.fresh ∧ (bootNormal x1).out = x1.out ∧ (bootNormal x1).snaps = x1.snaps ∧ (bootNormal x1).psg = x1.psg ∧ (bootNormal x1).cham = x1.cham ∧ (bootNormal x1).kst = x1.kst ∧ (bootNormal x1).mbx = x1.mbx ∧ (bootNormal x1).str = x1.str ∧ (bootNormal x1).lan = x1.lan ∧ (bootNormal x1).bb = x1.bb ∧ (bootNormal x1).tim = x1.tim ∧ (bootNormal x1).lcy = x1.lcy ∧ (bootNormal x1).die = x1.die ∧ (bootNormal x1).rng = x1.rng ∧ (bootNormal x1).pke = x1.pke ∧ (bootNormal x1).eng = x1.eng ∧ (bootNormal x1).host = x1.host ∧ (bootNormal x1).geo = x1.geo ∧ (bootNormal x1).flash = x1.flash ∧ (bootNormal x1).kar = x1.kar := by unfold bootNormal; simp

@[simp ↓] theorem stopNormal_frame (x1) :
    (stopNormal x1).pending = x1.pending ∧ (stopNormal x1).now = x1.now ∧ (stopNormal x1).fresh = x1.fresh ∧ (stopNormal x1).out = x1.out ∧ (stopNormal x1).snaps = x1.snaps ∧ (stopNormal x1).psg = x1.psg ∧ (stopNormal x1).cham = x1.cham ∧ (stopNormal x1).kst = x1.kst ∧ (stopNormal x1).mbx = x1.mbx ∧ (stopNormal x1).str = x1.str ∧ (stopNormal x1).lan = x1.lan ∧ (stopNormal x1).bb = x1.bb ∧ (stopNormal x1).tim = x1.tim ∧ (stopNormal x1).lcy = x1.lcy ∧ (stopNormal x1).die = x1.die ∧ (stopNormal x1).rng = x1.rng ∧ (stopNormal x1).pke = x1.pke ∧ (stopNormal x1).eng = x1.eng ∧ (stopNormal x1).host = x1.host ∧ (stopNormal x1).geo = x1.geo ∧ (stopNormal x1).flash = x1.flash ∧ (stopNormal x1).kar = x1.kar := by unfold stopNormal; simp

@[simp ↓] theorem restartNormal_frame (x1) :
    (restartNormal x1).pending = x1.pending ∧ (restartNormal x1).now = x1.now ∧ (restartNormal x1).fresh = x1.fresh ∧ (restartNormal x1).out = x1.out ∧ (restartNormal x1).snaps = x1.snaps ∧ (restartNormal x1).psg = x1.psg ∧ (restartNormal x1).cham = x1.cham ∧ (restartNormal x1).kst = x1.kst ∧ (restartNormal x1).mbx = x1.mbx ∧ (restartNormal x1).lan = x1.lan ∧ (restartNormal x1).bb = x1.bb ∧ (restartNormal x1).tim = x1.tim ∧ (restartNormal x1).lcy = x1.lcy ∧ (restartNormal x1).rng = x1.rng ∧ (restartNormal x1).pke = x1.pke ∧ (restartNormal x1).eng = x1.eng ∧ (restartNormal x1).host = x1.host ∧ (restartNormal x1).geo = x1.geo ∧ (restartNormal x1).flash = x1.flash ∧ (restartNormal x1).kar = x1.kar := by unfold restartNormal; simp

@[simp ↓] theorem confirm_frame (x1 x2) :
    (confirm x1 x2).pending = x1.pending ∧ (confirm x1 x2).now = x1.now ∧ (confirm x1 x2).fresh = x1.fresh ∧ (confirm x1 x2).out = x1.out ∧ (confirm x1 x2).snaps = x1.snaps ∧ (confirm x1 x2).id = x1.id ∧ (confirm x1 x2).psg = x1.psg ∧ (confirm x1 x2).cham = x1.cham ∧ (confirm x1 x2).kst = x1.kst ∧ (confirm x1 x2).mbx = x1.mbx ∧ (confirm x1 x2).str = x1.str ∧ (confirm x1 x2).lan = x1.lan ∧ (confirm x1 x2).bb = x1.bb ∧ (confirm x1 x2).tim = x1.tim ∧ (confirm x1 x2).lcy = x1.lcy ∧ (confirm x1 x2).rng = x1.rng ∧ (confirm x1 x2).pke = x1.pke ∧ (confirm x1 x2).eng = x1.eng ∧ (confirm x1 x2).host = x1.host ∧ (confirm x1 x2).geo = x1.geo ∧ (confirm x1 x2).flash = x1.flash ∧ (confirm x1 x2).kar = x1.kar ∧ (confirm x1 x2).ctl = x1.ctl := by unfold confirm; simp

@[simp ↓] theorem confirmSecure_frame (x1) :
    (confirmSecure x1).pending = x1.pending ∧ (confirmSecure x1).now = x1.now ∧ (confirmSecure x1).fresh = x1.fresh ∧ (confirmSecure x1).out = x1.out ∧ (confirmSecure x1).snaps = x1.snaps ∧ (confirmSecure x1).id = x1.id ∧ (confirmSecure x1).psg = x1.psg ∧ (confirmSecure x1).cham = x1.cham ∧ (confirmSecure x1).kst = x1.kst ∧ (confirmSecure x1).mbx = x1.mbx ∧ (confirmSecure x1).str = x1.str ∧ (confirmSecure x1).lan = x1.lan ∧ (confirmSecure x1).bb = x1.bb ∧ (confirmSecure x1).tim = x1.tim ∧ (confirmSecure x1).lcy = x1.lcy ∧ (confirmSecure x1).rng = x1.rng ∧ (confirmSecure x1).pke = x1.pke ∧ (confirmSecure x1).eng = x1.eng ∧ (confirmSecure x1).host = x1.host ∧ (confirmSecure x1).geo = x1.geo ∧ (confirmSecure x1).flash = x1.flash ∧ (confirmSecure x1).kar = x1.kar ∧ (confirmSecure x1).ctl = x1.ctl := by unfold confirmSecure; simp

@[simp ↓] theorem deliverCall_frame (x1 x2 x3) :
    (deliverCall x1 x2 x3).pending = x1.pending ∧ (deliverCall x1 x2 x3).now = x1.now ∧ (deliverCall x1 x2 x3).fresh = x1.fresh ∧ (deliverCall x1 x2 x3).snaps = x1.snaps ∧ (deliverCall x1 x2 x3).id = x1.id ∧ (deliverCall x1 x2 x3).psg = x1.psg ∧ (deliverCall x1 x2 x3).cham = x1.cham ∧ (deliverCall x1 x2 x3).kst = x1.kst ∧ (deliverCall x1 x2 x3).mbx = x1.mbx ∧ (deliverCall x1 x2 x3).lan = x1.lan ∧ (deliverCall x1 x2 x3).bb = x1.bb ∧ (deliverCall x1 x2 x3).tim = x1.tim ∧ (deliverCall x1 x2 x3).lcy = x1.lcy ∧ (deliverCall x1 x2 x3).die = x1.die ∧ (deliverCall x1 x2 x3).rng = x1.rng ∧ (deliverCall x1 x2 x3).pke = x1.pke ∧ (deliverCall x1 x2 x3).eng = x1.eng ∧ (deliverCall x1 x2 x3).host = x1.host ∧ (deliverCall x1 x2 x3).geo = x1.geo ∧ (deliverCall x1 x2 x3).flash = x1.flash ∧ (deliverCall x1 x2 x3).kar = x1.kar := by unfold deliverCall; simp

@[simp ↓] theorem dropCall_frame (x1 x2) :
    (dropCall x1 x2).pending = x1.pending ∧ (dropCall x1 x2).now = x1.now ∧ (dropCall x1 x2).fresh = x1.fresh ∧ (dropCall x1 x2).out = x1.out ∧ (dropCall x1 x2).snaps = x1.snaps ∧ (dropCall x1 x2).psg = x1.psg ∧ (dropCall x1 x2).cham = x1.cham ∧ (dropCall x1 x2).kst = x1.kst ∧ (dropCall x1 x2).mbx = x1.mbx ∧ (dropCall x1 x2).str = x1.str ∧ (dropCall x1 x2).lan = x1.lan ∧ (dropCall x1 x2).bb = x1.bb ∧ (dropCall x1 x2).tim = x1.tim ∧ (dropCall x1 x2).lcy = x1.lcy ∧ (dropCall x1 x2).die = x1.die ∧ (dropCall x1 x2).rng = x1.rng ∧ (dropCall x1 x2).pke = x1.pke ∧ (dropCall x1 x2).host = x1.host ∧ (dropCall x1 x2).geo = x1.geo ∧ (dropCall x1 x2).flash = x1.flash ∧ (dropCall x1 x2).kar = x1.kar ∧ (dropCall x1 x2).ctl = x1.ctl := by unfold dropCall; simp

@[simp ↓] theorem answerInternal_frame (x1 x2) :
    (answerInternal x1 x2).pending = x1.pending ∧ (answerInternal x1 x2).now = x1.now ∧ (answerInternal x1 x2).fresh = x1.fresh ∧ (answerInternal x1 x2).snaps = x1.snaps ∧ (answerInternal x1 x2).id = x1.id ∧ (answerInternal x1 x2).psg = x1.psg ∧ (answerInternal x1 x2).cham = x1.cham ∧ (answerInternal x1 x2).kst = x1.kst ∧ (answerInternal x1 x2).lan = x1.lan ∧ (answerInternal x1 x2).bb = x1.bb ∧ (answerInternal x1 x2).tim = x1.tim ∧ (answerInternal x1 x2).lcy = x1.lcy ∧ (answerInternal x1 x2).die = x1.die ∧ (answerInternal x1 x2).rng = x1.rng ∧ (answerInternal x1 x2).pke = x1.pke ∧ (answerInternal x1 x2).eng = x1.eng ∧ (answerInternal x1 x2).geo = x1.geo ∧ (answerInternal x1 x2).flash = x1.flash ∧ (answerInternal x1 x2).kar = x1.kar ∧ (answerInternal x1 x2).ctl = x1.ctl := by unfold answerInternal; simp

@[simp ↓] theorem stopFirmware_frame (x1) :
    (stopFirmware x1).pending = x1.pending ∧ (stopFirmware x1).now = x1.now ∧ (stopFirmware x1).fresh = x1.fresh ∧ (stopFirmware x1).out = x1.out ∧ (stopFirmware x1).snaps = x1.snaps ∧ (stopFirmware x1).psg = x1.psg ∧ (stopFirmware x1).cham = x1.cham ∧ (stopFirmware x1).kst = x1.kst ∧ (stopFirmware x1).mbx = x1.mbx ∧ (stopFirmware x1).str = x1.str ∧ (stopFirmware x1).lan = x1.lan ∧ (stopFirmware x1).bb = x1.bb ∧ (stopFirmware x1).tim = x1.tim ∧ (stopFirmware x1).lcy = x1.lcy ∧ (stopFirmware x1).die = x1.die ∧ (stopFirmware x1).rng = x1.rng ∧ (stopFirmware x1).pke = x1.pke ∧ (stopFirmware x1).eng = x1.eng ∧ (stopFirmware x1).host = x1.host ∧ (stopFirmware x1).geo = x1.geo ∧ (stopFirmware x1).flash = x1.flash ∧ (stopFirmware x1).kar = x1.kar ∧ (stopFirmware x1).ctl = x1.ctl := by unfold stopFirmware; simp

@[simp ↓] theorem refreshUnits_frame (x1) :
    (refreshUnits x1).pending = x1.pending ∧ (refreshUnits x1).now = x1.now ∧ (refreshUnits x1).fresh = x1.fresh ∧ (refreshUnits x1).out = x1.out ∧ (refreshUnits x1).snaps = x1.snaps ∧ (refreshUnits x1).psg = x1.psg ∧ (refreshUnits x1).cham = x1.cham ∧ (refreshUnits x1).kst = x1.kst ∧ (refreshUnits x1).mbx = x1.mbx ∧ (refreshUnits x1).str = x1.str ∧ (refreshUnits x1).lan = x1.lan ∧ (refreshUnits x1).bb = x1.bb ∧ (refreshUnits x1).tim = x1.tim ∧ (refreshUnits x1).lcy = x1.lcy ∧ (refreshUnits x1).die = x1.die ∧ (refreshUnits x1).rng = x1.rng ∧ (refreshUnits x1).pke = x1.pke ∧ (refreshUnits x1).eng = x1.eng ∧ (refreshUnits x1).host = x1.host ∧ (refreshUnits x1).geo = x1.geo ∧ (refreshUnits x1).flash = x1.flash ∧ (refreshUnits x1).wld = x1.wld ∧ (refreshUnits x1).kar = x1.kar ∧ (refreshUnits x1).ctl = x1.ctl := by unfold refreshUnits; simp

@[simp ↓] theorem startUnit_frame (x1 x2) :
    (startUnit x1 x2).pending = x1.pending ∧ (startUnit x1 x2).now = x1.now ∧ (startUnit x1 x2).fresh = x1.fresh ∧ (startUnit x1 x2).out = x1.out ∧ (startUnit x1 x2).snaps = x1.snaps ∧ (startUnit x1 x2).id = x1.id ∧ (startUnit x1 x2).psg = x1.psg ∧ (startUnit x1 x2).cham = x1.cham ∧ (startUnit x1 x2).kst = x1.kst ∧ (startUnit x1 x2).mbx = x1.mbx ∧ (startUnit x1 x2).str = x1.str ∧ (startUnit x1 x2).lan = x1.lan ∧ (startUnit x1 x2).bb = x1.bb ∧ (startUnit x1 x2).tim = x1.tim ∧ (startUnit x1 x2).lcy = x1.lcy ∧ (startUnit x1 x2).die = x1.die ∧ (startUnit x1 x2).rng = x1.rng ∧ (startUnit x1 x2).host = x1.host ∧ (startUnit x1 x2).geo = x1.geo ∧ (startUnit x1 x2).flash = x1.flash ∧ (startUnit x1 x2).wld = x1.wld ∧ (startUnit x1 x2).kar = x1.kar ∧ (startUnit x1 x2).ctl = x1.ctl := by unfold startUnit; simp

@[simp ↓] theorem takePower_frame (x1 x2 x3) :
    (takePower x1 x2 x3).pending = x1.pending ∧ (takePower x1 x2 x3).now = x1.now ∧ (takePower x1 x2 x3).fresh = x1.fresh ∧ (takePower x1 x2 x3).out = x1.out ∧ (takePower x1 x2 x3).snaps = x1.snaps ∧ (takePower x1 x2 x3).psg = x1.psg ∧ (takePower x1 x2 x3).cham = x1.cham ∧ (takePower x1 x2 x3).kst = x1.kst ∧ (takePower x1 x2 x3).mbx = x1.mbx ∧ (takePower x1 x2 x3).str = x1.str ∧ (takePower x1 x2 x3).lan = x1.lan ∧ (takePower x1 x2 x3).bb = x1.bb ∧ (takePower x1 x2 x3).tim = x1.tim ∧ (takePower x1 x2 x3).lcy = x1.lcy ∧ (takePower x1 x2 x3).die = x1.die ∧ (takePower x1 x2 x3).rng = x1.rng ∧ (takePower x1 x2 x3).host = x1.host ∧ (takePower x1 x2 x3).geo = x1.geo ∧ (takePower x1 x2 x3).flash = x1.flash ∧ (takePower x1 x2 x3).kar = x1.kar ∧ (takePower x1 x2 x3).ctl = x1.ctl := by unfold takePower; simp

@[simp ↓] theorem powerRequest_frame (x1 x2 x3 x4) :
    (powerRequest x1 x2 x3 x4).pending = x1.pending ∧ (powerRequest x1 x2 x3 x4).now = x1.now ∧ (powerRequest x1 x2 x3 x4).fresh = x1.fresh ∧ (powerRequest x1 x2 x3 x4).out = x1.out ∧ (powerRequest x1 x2 x3 x4).snaps = x1.snaps ∧ (powerRequest x1 x2 x3 x4).psg = x1.psg ∧ (powerRequest x1 x2 x3 x4).cham = x1.cham ∧ (powerRequest x1 x2 x3 x4).kst = x1.kst ∧ (powerRequest x1 x2 x3 x4).mbx = x1.mbx ∧ (powerRequest x1 x2 x3 x4).lan = x1.lan ∧ (powerRequest x1 x2 x3 x4).bb = x1.bb ∧ (powerRequest x1 x2 x3 x4).tim = x1.tim ∧ (powerRequest x1 x2 x3 x4).lcy = x1.lcy ∧ (powerRequest x1 x2 x3 x4).die = x1.die ∧ (powerRequest x1 x2 x3 x4).rng = x1.rng ∧ (powerRequest x1 x2 x3 x4).host = x1.host ∧ (powerRequest x1 x2 x3 x4).geo = x1.geo ∧ (powerRequest x1 x2 x3 x4).flash = x1.flash ∧ (powerRequest x1 x2 x3 x4).kar = x1.kar ∧ (powerRequest x1 x2 x3 x4).ctl = x1.ctl := by unfold powerRequest; simp

@[simp ↓] theorem writeOwner_frame (x1 x2 x3) :
    (writeOwner x1 x2 x3).pending = x1.pending ∧ (writeOwner x1 x2 x3).now = x1.now ∧ (writeOwner x1 x2 x3).fresh = x1.fresh ∧ (writeOwner x1 x2 x3).out = x1.out ∧ (writeOwner x1 x2 x3).snaps = x1.snaps ∧ (writeOwner x1 x2 x3).psg = x1.psg ∧ (writeOwner x1 x2 x3).cham = x1.cham ∧ (writeOwner x1 x2 x3).kst = x1.kst ∧ (writeOwner x1 x2 x3).mbx = x1.mbx ∧ (writeOwner x1 x2 x3).str = x1.str ∧ (writeOwner x1 x2 x3).lan = x1.lan ∧ (writeOwner x1 x2 x3).bb = x1.bb ∧ (writeOwner x1 x2 x3).tim = x1.tim ∧ (writeOwner x1 x2 x3).lcy = x1.lcy ∧ (writeOwner x1 x2 x3).die = x1.die ∧ (writeOwner x1 x2 x3).rng = x1.rng ∧ (writeOwner x1 x2 x3).host = x1.host ∧ (writeOwner x1 x2 x3).geo = x1.geo ∧ (writeOwner x1 x2 x3).flash = x1.flash ∧ (writeOwner x1 x2 x3).kar = x1.kar ∧ (writeOwner x1 x2 x3).ctl = x1.ctl := by unfold writeOwner; simp

end Sys2Proof.Machine
end

