-- ==== Sys2Proof/Laws/Frames/Strata.lean ====
section
/-!
SUPPORT. What the operations of Machine/Strata.lean leave unchanged: for each, every part of the state that it does not touch.
-/

set_option Elab.async false

set_option linter.all false
set_option maxRecDepth 2000

namespace Sys2Proof.Machine

@[simp ↓] theorem markLate_frame (x1) :
    (markLate x1).pending = x1.pending ∧ (markLate x1).now = x1.now ∧ (markLate x1).fresh = x1.fresh ∧ (markLate x1).out = x1.out ∧ (markLate x1).snaps = x1.snaps ∧ (markLate x1).id = x1.id ∧ (markLate x1).psg = x1.psg ∧ (markLate x1).cham = x1.cham ∧ (markLate x1).kst = x1.kst ∧ (markLate x1).mbx = x1.mbx ∧ (markLate x1).lan = x1.lan ∧ (markLate x1).bb = x1.bb ∧ (markLate x1).tim = x1.tim ∧ (markLate x1).lcy = x1.lcy ∧ (markLate x1).die = x1.die ∧ (markLate x1).rng = x1.rng ∧ (markLate x1).pke = x1.pke ∧ (markLate x1).eng = x1.eng ∧ (markLate x1).host = x1.host ∧ (markLate x1).geo = x1.geo ∧ (markLate x1).flash = x1.flash ∧ (markLate x1).wld = x1.wld ∧ (markLate x1).kar = x1.kar ∧ (markLate x1).ctl = x1.ctl := by unfold markLate; simp

@[simp ↓] theorem closeNext_frame (x1) :
    (closeNext x1).pending = x1.pending ∧ (closeNext x1).now = x1.now ∧ (closeNext x1).fresh = x1.fresh ∧ (closeNext x1).out = x1.out ∧ (closeNext x1).snaps = x1.snaps ∧ (closeNext x1).id = x1.id ∧ (closeNext x1).psg = x1.psg ∧ (closeNext x1).cham = x1.cham ∧ (closeNext x1).kst = x1.kst ∧ (closeNext x1).mbx = x1.mbx ∧ (closeNext x1).lan = x1.lan ∧ (closeNext x1).bb = x1.bb ∧ (closeNext x1).tim = x1.tim ∧ (closeNext x1).lcy = x1.lcy ∧ (closeNext x1).die = x1.die ∧ (closeNext x1).rng = x1.rng ∧ (closeNext x1).pke = x1.pke ∧ (closeNext x1).eng = x1.eng ∧ (closeNext x1).host = x1.host ∧ (closeNext x1).geo = x1.geo ∧ (closeNext x1).flash = x1.flash ∧ (closeNext x1).wld = x1.wld ∧ (closeNext x1).kar = x1.kar ∧ (closeNext x1).ctl = x1.ctl := by unfold closeNext; (repeat' split) <;> simp

@[simp ↓] theorem eraseUnit_frame (x1 x2) :
    (eraseUnit x1 x2).pending = x1.pending ∧ (eraseUnit x1 x2).now = x1.now ∧ (eraseUnit x1 x2).fresh = x1.fresh ∧ (eraseUnit x1 x2).out = x1.out ∧ (eraseUnit x1 x2).snaps = x1.snaps ∧ (eraseUnit x1 x2).id = x1.id ∧ (eraseUnit x1 x2).psg = x1.psg ∧ (eraseUnit x1 x2).cham = x1.cham ∧ (eraseUnit x1 x2).kst = x1.kst ∧ (eraseUnit x1 x2).mbx = x1.mbx ∧ (eraseUnit x1 x2).str = x1.str ∧ (eraseUnit x1 x2).lan = x1.lan ∧ (eraseUnit x1 x2).bb = x1.bb ∧ (eraseUnit x1 x2).tim = x1.tim ∧ (eraseUnit x1 x2).lcy = x1.lcy ∧ (eraseUnit x1 x2).rng = x1.rng ∧ (eraseUnit x1 x2).pke = x1.pke ∧ (eraseUnit x1 x2).eng = x1.eng ∧ (eraseUnit x1 x2).host = x1.host ∧ (eraseUnit x1 x2).geo = x1.geo ∧ (eraseUnit x1 x2).flash = x1.flash ∧ (eraseUnit x1 x2).wld = x1.wld ∧ (eraseUnit x1 x2).kar = x1.kar ∧ (eraseUnit x1 x2).ctl = x1.ctl := by unfold eraseUnit; simp

@[simp ↓] theorem eraseAhead_frame (x1 x2 x3) :
    (eraseAhead x1 x2 x3).pending = x1.pending ∧ (eraseAhead x1 x2 x3).now = x1.now ∧ (eraseAhead x1 x2 x3).fresh = x1.fresh ∧ (eraseAhead x1 x2 x3).out = x1.out ∧ (eraseAhead x1 x2 x3).snaps = x1.snaps ∧ (eraseAhead x1 x2 x3).id = x1.id ∧ (eraseAhead x1 x2 x3).psg = x1.psg ∧ (eraseAhead x1 x2 x3).cham = x1.cham ∧ (eraseAhead x1 x2 x3).kst = x1.kst ∧ (eraseAhead x1 x2 x3).mbx = x1.mbx ∧ (eraseAhead x1 x2 x3).str = x1.str ∧ (eraseAhead x1 x2 x3).lan = x1.lan ∧ (eraseAhead x1 x2 x3).bb = x1.bb ∧ (eraseAhead x1 x2 x3).tim = x1.tim ∧ (eraseAhead x1 x2 x3).lcy = x1.lcy ∧ (eraseAhead x1 x2 x3).rng = x1.rng ∧ (eraseAhead x1 x2 x3).pke = x1.pke ∧ (eraseAhead x1 x2 x3).eng = x1.eng ∧ (eraseAhead x1 x2 x3).host = x1.host ∧ (eraseAhead x1 x2 x3).geo = x1.geo ∧ (eraseAhead x1 x2 x3).flash = x1.flash ∧ (eraseAhead x1 x2 x3).wld = x1.wld ∧ (eraseAhead x1 x2 x3).kar = x1.kar ∧ (eraseAhead x1 x2 x3).ctl = x1.ctl := by unfold eraseAhead; simp

@[simp ↓] theorem strataNotice_frame (x1 x2 x3 x4) :
    (strataNotice x1 x2 x3 x4).pending = x1.pending ∧ (strataNotice x1 x2 x3 x4).now = x1.now ∧ (strataNotice x1 x2 x3 x4).fresh = x1.fresh ∧ (strataNotice x1 x2 x3 x4).out = x1.out ∧ (strataNotice x1 x2 x3 x4).snaps = x1.snaps ∧ (strataNotice x1 x2 x3 x4).id = x1.id ∧ (strataNotice x1 x2 x3 x4).psg = x1.psg ∧ (strataNotice x1 x2 x3 x4).cham = x1.cham ∧ (strataNotice x1 x2 x3 x4).kst = x1.kst ∧ (strataNotice x1 x2 x3 x4).mbx = x1.mbx ∧ (strataNotice x1 x2 x3 x4).lan = x1.lan ∧ (strataNotice x1 x2 x3 x4).bb = x1.bb ∧ (strataNotice x1 x2 x3 x4).tim = x1.tim ∧ (strataNotice x1 x2 x3 x4).lcy = x1.lcy ∧ (strataNotice x1 x2 x3 x4).die = x1.die ∧ (strataNotice x1 x2 x3 x4).rng = x1.rng ∧ (strataNotice x1 x2 x3 x4).pke = x1.pke ∧ (strataNotice x1 x2 x3 x4).eng = x1.eng ∧ (strataNotice x1 x2 x3 x4).host = x1.host ∧ (strataNotice x1 x2 x3 x4).geo = x1.geo ∧ (strataNotice x1 x2 x3 x4).flash = x1.flash ∧ (strataNotice x1 x2 x3 x4).wld = x1.wld ∧ (strataNotice x1 x2 x3 x4).kar = x1.kar ∧ (strataNotice x1 x2 x3 x4).ctl = x1.ctl := by unfold strataNotice; simp

@[simp ↓] theorem writeStrata_frame (x1 x2 x3) :
    (writeStrata x1 x2 x3).pending = x1.pending ∧ (writeStrata x1 x2 x3).now = x1.now ∧ (writeStrata x1 x2 x3).fresh = x1.fresh ∧ (writeStrata x1 x2 x3).out = x1.out ∧ (writeStrata x1 x2 x3).snaps = x1.snaps ∧ (writeStrata x1 x2 x3).id = x1.id ∧ (writeStrata x1 x2 x3).psg = x1.psg ∧ (writeStrata x1 x2 x3).cham = x1.cham ∧ (writeStrata x1 x2 x3).kst = x1.kst ∧ (writeStrata x1 x2 x3).mbx = x1.mbx ∧ (writeStrata x1 x2 x3).lan = x1.lan ∧ (writeStrata x1 x2 x3).bb = x1.bb ∧ (writeStrata x1 x2 x3).tim = x1.tim ∧ (writeStrata x1 x2 x3).lcy = x1.lcy ∧ (writeStrata x1 x2 x3).rng = x1.rng ∧ (writeStrata x1 x2 x3).pke = x1.pke ∧ (writeStrata x1 x2 x3).eng = x1.eng ∧ (writeStrata x1 x2 x3).host = x1.host ∧ (writeStrata x1 x2 x3).geo = x1.geo ∧ (writeStrata x1 x2 x3).flash = x1.flash ∧ (writeStrata x1 x2 x3).wld = x1.wld ∧ (writeStrata x1 x2 x3).kar = x1.kar ∧ (writeStrata x1 x2 x3).ctl = x1.ctl := by unfold writeStrata; (repeat' split) <;> simp

@[simp ↓] theorem flushStrata_pending (x1 x2) : (flushStrata x1 x2).pending = x2.pending := by fun_induction flushStrata <;> simp_all

@[simp ↓] theorem flushStrata_now (x1 x2) : (flushStrata x1 x2).now = x2.now := by fun_induction flushStrata <;> simp_all

@[simp ↓] theorem flushStrata_fresh (x1 x2) : (flushStrata x1 x2).fresh = x2.fresh := by fun_induction flushStrata <;> simp_all

@[simp ↓] theorem flushStrata_out (x1 x2) : (flushStrata x1 x2).out = x2.out := by fun_induction flushStrata <;> simp_all

@[simp ↓] theorem flushStrata_snaps (x1 x2) : (flushStrata x1 x2).snaps = x2.snaps := by fun_induction flushStrata <;> simp_all

@[simp ↓] theorem flushStrata_id (x1 x2) : (flushStrata x1 x2).id = x2.id := by fun_induction flushStrata <;> simp_all

@[simp ↓] theorem flushStrata_psg (x1 x2) : (flushStrata x1 x2).psg = x2.psg := by fun_induction flushStrata <;> simp_all

@[simp ↓] theorem flushStrata_cham (x1 x2) : (flushStrata x1 x2).cham = x2.cham := by fun_induction flushStrata <;> simp_all

@[simp ↓] theorem flushStrata_kst (x1 x2) : (flushStrata x1 x2).kst = x2.kst := by fun_induction flushStrata <;> simp_all

@[simp ↓] theorem flushStrata_mbx (x1 x2) : (flushStrata x1 x2).mbx = x2.mbx := by fun_induction flushStrata <;> simp_all

@[simp ↓] theorem flushStrata_lan (x1 x2) : (flushStrata x1 x2).lan = x2.lan := by fun_induction flushStrata <;> simp_all

@[simp ↓] theorem flushStrata_bb (x1 x2) : (flushStrata x1 x2).bb = x2.bb := by fun_induction flushStrata <;> simp_all

@[simp ↓] theorem flushStrata_tim (x1 x2) : (flushStrata x1 x2).tim = x2.tim := by fun_induction flushStrata <;> simp_all

@[simp ↓] theorem flushStrata_lcy (x1 x2) : (flushStrata x1 x2).lcy = x2.lcy := by fun_induction flushStrata <;> simp_all

@[simp ↓] theorem flushStrata_rng (x1 x2) : (flushStrata x1 x2).rng = x2.rng := by fun_induction flushStrata <;> simp_all

@[simp ↓] theorem flushStrata_pke (x1 x2) : (flushStrata x1 x2).pke = x2.pke := by fun_induction flushStrata <;> simp_all

@[simp ↓] theorem flushStrata_eng (x1 x2) : (flushStrata x1 x2).eng = x2.eng := by fun_induction flushStrata <;> simp_all

@[simp ↓] theorem flushStrata_host (x1 x2) : (flushStrata x1 x2).host = x2.host := by fun_induction flushStrata <;> simp_all

@[simp ↓] theorem flushStrata_geo (x1 x2) : (flushStrata x1 x2).geo = x2.geo := by fun_induction flushStrata <;> simp_all

@[simp ↓] theorem flushStrata_flash (x1 x2) : (flushStrata x1 x2).flash = x2.flash := by fun_induction flushStrata <;> simp_all

@[simp ↓] theorem flushStrata_wld (x1 x2) : (flushStrata x1 x2).wld = x2.wld := by fun_induction flushStrata <;> simp_all

@[simp ↓] theorem flushStrata_kar (x1 x2) : (flushStrata x1 x2).kar = x2.kar := by fun_induction flushStrata <;> simp_all

@[simp ↓] theorem flushStrata_ctl (x1 x2) : (flushStrata x1 x2).ctl = x2.ctl := by fun_induction flushStrata <;> simp_all

@[simp ↓] theorem resetClose_frame (x1) :
    (resetClose x1).pending = x1.pending ∧ (resetClose x1).now = x1.now ∧ (resetClose x1).fresh = x1.fresh ∧ (resetClose x1).out = x1.out ∧ (resetClose x1).snaps = x1.snaps ∧ (resetClose x1).id = x1.id ∧ (resetClose x1).psg = x1.psg ∧ (resetClose x1).cham = x1.cham ∧ (resetClose x1).kst = x1.kst ∧ (resetClose x1).mbx = x1.mbx ∧ (resetClose x1).lan = x1.lan ∧ (resetClose x1).bb = x1.bb ∧ (resetClose x1).tim = x1.tim ∧ (resetClose x1).lcy = x1.lcy ∧ (resetClose x1).rng = x1.rng ∧ (resetClose x1).pke = x1.pke ∧ (resetClose x1).eng = x1.eng ∧ (resetClose x1).host = x1.host ∧ (resetClose x1).geo = x1.geo ∧ (resetClose x1).flash = x1.flash ∧ (resetClose x1).wld = x1.wld ∧ (resetClose x1).kar = x1.kar ∧ (resetClose x1).ctl = x1.ctl := by unfold resetClose; simp

end Sys2Proof.Machine
end

