-- ==== Sys2Proof/Laws/Frames/LifeOps.lean ====
section
/-!
SUPPORT. What the operations of Machine/LifeOps.lean leave unchanged: for each, every part of the state that it does not touch.
-/

set_option Elab.async false

set_option linter.all false
set_option maxRecDepth 2000

namespace Sys2Proof.Machine

@[simp ↓] theorem resumeWorld_frame (x1 x2) :
    (resumeWorld x1 x2).pending = x1.pending ∧ (resumeWorld x1 x2).now = x1.now ∧ (resumeWorld x1 x2).fresh = x1.fresh ∧ (resumeWorld x1 x2).out = x1.out ∧ (resumeWorld x1 x2).snaps = x1.snaps ∧ (resumeWorld x1 x2).id = x1.id ∧ (resumeWorld x1 x2).psg = x1.psg ∧ (resumeWorld x1 x2).cham = x1.cham ∧ (resumeWorld x1 x2).kst = x1.kst ∧ (resumeWorld x1 x2).mbx = x1.mbx ∧ (resumeWorld x1 x2).str = x1.str ∧ (resumeWorld x1 x2).lan = x1.lan ∧ (resumeWorld x1 x2).bb = x1.bb ∧ (resumeWorld x1 x2).tim = x1.tim ∧ (resumeWorld x1 x2).die = x1.die ∧ (resumeWorld x1 x2).rng = x1.rng ∧ (resumeWorld x1 x2).pke = x1.pke ∧ (resumeWorld x1 x2).eng = x1.eng ∧ (resumeWorld x1 x2).host = x1.host ∧ (resumeWorld x1 x2).geo = x1.geo ∧ (resumeWorld x1 x2).flash = x1.flash ∧ (resumeWorld x1 x2).kar = x1.kar ∧ (resumeWorld x1 x2).ctl = x1.ctl := by unfold resumeWorld; (repeat' split) <;> simp

@[simp ↓] theorem endCertificate_frame (x1 x2) :
    (endCertificate x1 x2).pending = x1.pending ∧ (endCertificate x1 x2).now = x1.now ∧ (endCertificate x1 x2).snaps = x1.snaps ∧ (endCertificate x1 x2).id = x1.id ∧ (endCertificate x1 x2).cham = x1.cham ∧ (endCertificate x1 x2).kst = x1.kst ∧ (endCertificate x1 x2).lan = x1.lan ∧ (endCertificate x1 x2).bb = x1.bb ∧ (endCertificate x1 x2).tim = x1.tim ∧ (endCertificate x1 x2).rng = x1.rng ∧ (endCertificate x1 x2).pke = x1.pke ∧ (endCertificate x1 x2).eng = x1.eng ∧ (endCertificate x1 x2).geo = x1.geo ∧ (endCertificate x1 x2).flash = x1.flash ∧ (endCertificate x1 x2).kar = x1.kar ∧ (endCertificate x1 x2).ctl = x1.ctl := by unfold endCertificate; (repeat' split) <;> simp

end Sys2Proof.Machine
end

