-- ==== Sys2Proof/Laws/Frames/Lantern.lean ====
section
/-!
SUPPORT. What the operations of Machine/Lantern.lean leave unchanged: for each, every part of the state that it does not touch.
-/

set_option Elab.async false

set_option linter.all false
set_option maxRecDepth 2000

namespace Sys2Proof.Machine

@[simp ↓] theorem refuseSuspended_frame (x1) :
    (refuseSuspended x1).pending = x1.pending ∧ (refuseSuspended x1).now = x1.now ∧ (refuseSuspended x1).fresh = x1.fresh ∧ (refuseSuspended x1).snaps = x1.snaps ∧ (refuseSuspended x1).id = x1.id ∧ (refuseSuspended x1).cham = x1.cham ∧ (refuseSuspended x1).kst = x1.kst ∧ (refuseSuspended x1).mbx = x1.mbx ∧ (refuseSuspended x1).lan = x1.lan ∧ (refuseSuspended x1).bb = x1.bb ∧ (refuseSuspended x1).die = x1.die ∧ (refuseSuspended x1).rng = x1.rng ∧ (refuseSuspended x1).pke = x1.pke ∧ (refuseSuspended x1).eng = x1.eng ∧ (refuseSuspended x1).host = x1.host ∧ (refuseSuspended x1).geo = x1.geo ∧ (refuseSuspended x1).flash = x1.flash ∧ (refuseSuspended x1).kar = x1.kar := by unfold refuseSuspended; simp

@[simp ↓] theorem takeSuspend_frame (x1) :
    (takeSuspend x1).pending = x1.pending ∧ (takeSuspend x1).now = x1.now ∧ (takeSuspend x1).snaps = x1.snaps ∧ (takeSuspend x1).kst = x1.kst ∧ (takeSuspend x1).lan = x1.lan ∧ (takeSuspend x1).bb = x1.bb ∧ (takeSuspend x1).rng = x1.rng ∧ (takeSuspend x1).geo = x1.geo ∧ (takeSuspend x1).flash = x1.flash ∧ (takeSuspend x1).kar = x1.kar := by unfold takeSuspend; simp

@[simp ↓] theorem clearWorking_frame (x1) :
    (clearWorking x1).pending = x1.pending ∧ (clearWorking x1).now = x1.now ∧ (clearWorking x1).fresh = x1.fresh ∧ (clearWorking x1).out = x1.out ∧ (clearWorking x1).snaps = x1.snaps ∧ (clearWorking x1).cham = x1.cham ∧ (clearWorking x1).mbx = x1.mbx ∧ (clearWorking x1).str = x1.str ∧ (clearWorking x1).lan = x1.lan ∧ (clearWorking x1).bb = x1.bb ∧ (clearWorking x1).tim = x1.tim ∧ (clearWorking x1).lcy = x1.lcy ∧ (clearWorking x1).die = x1.die ∧ (clearWorking x1).geo = x1.geo ∧ (clearWorking x1).flash = x1.flash ∧ (clearWorking x1).wld = x1.wld ∧ (clearWorking x1).kar = x1.kar ∧ (clearWorking x1).ctl = x1.ctl := by unfold clearWorking; simp

@[simp ↓] theorem clearRam_frame (x1) :
    (clearRam x1).pending = x1.pending ∧ (clearRam x1).now = x1.now ∧ (clearRam x1).fresh = x1.fresh ∧ (clearRam x1).out = x1.out ∧ (clearRam x1).snaps = x1.snaps ∧ (clearRam x1).id = x1.id ∧ (clearRam x1).psg = x1.psg ∧ (clearRam x1).cham = x1.cham ∧ (clearRam x1).kst = x1.kst ∧ (clearRam x1).mbx = x1.mbx ∧ (clearRam x1).str = x1.str ∧ (clearRam x1).lan = x1.lan ∧ (clearRam x1).tim = x1.tim ∧ (clearRam x1).lcy = x1.lcy ∧ (clearRam x1).die = x1.die ∧ (clearRam x1).rng = x1.rng ∧ (clearRam x1).pke = x1.pke ∧ (clearRam x1).eng = x1.eng ∧ (clearRam x1).host = x1.host ∧ (clearRam x1).geo = x1.geo ∧ (clearRam x1).flash = x1.flash ∧ (clearRam x1).wld = x1.wld ∧ (clearRam x1).kar = x1.kar ∧ (clearRam x1).ctl = x1.ctl := by unfold clearRam; simp

@[simp ↓] theorem loseRoot_frame (x1) :
    (loseRoot x1).pending = x1.pending ∧ (loseRoot x1).now = x1.now ∧ (loseRoot x1).fresh = x1.fresh ∧ (loseRoot x1).snaps = x1.snaps ∧ (loseRoot x1).psg = x1.psg ∧ (loseRoot x1).cham = x1.cham ∧ (loseRoot x1).lan = x1.lan ∧ (loseRoot x1).tim = x1.tim ∧ (loseRoot x1).lcy = x1.lcy ∧ (loseRoot x1).die = x1.die ∧ (loseRoot x1).rng = x1.rng ∧ (loseRoot x1).pke = x1.pke ∧ (loseRoot x1).kar = x1.kar := by unfold loseRoot; simp

@[simp ↓] theorem zeroizeRam_frame (x1) :
    (zeroizeRam x1).pending = x1.pending ∧ (zeroizeRam x1).now = x1.now ∧ (zeroizeRam x1).fresh = x1.fresh ∧ (zeroizeRam x1).snaps = x1.snaps ∧ (zeroizeRam x1).psg = x1.psg ∧ (zeroizeRam x1).cham = x1.cham ∧ (zeroizeRam x1).lan = x1.lan ∧ (zeroizeRam x1).tim = x1.tim ∧ (zeroizeRam x1).lcy = x1.lcy ∧ (zeroizeRam x1).die = x1.die ∧ (zeroizeRam x1).rng = x1.rng ∧ (zeroizeRam x1).pke = x1.pke ∧ (zeroizeRam x1).kar = x1.kar := by unfold zeroizeRam; simp

@[simp ↓] theorem logBattery_frame (x1 x2 x3 x4 x5) :
    (logBattery x1 x2 x3 x4 x5).pending = x1.pending ∧ (logBattery x1 x2 x3 x4 x5).now = x1.now ∧ (logBattery x1 x2 x3 x4 x5).fresh = x1.fresh ∧ (logBattery x1 x2 x3 x4 x5).out = x1.out ∧ (logBattery x1 x2 x3 x4 x5).snaps = x1.snaps ∧ (logBattery x1 x2 x3 x4 x5).id = x1.id ∧ (logBattery x1 x2 x3 x4 x5).psg = x1.psg ∧ (logBattery x1 x2 x3 x4 x5).cham = x1.cham ∧ (logBattery x1 x2 x3 x4 x5).kst = x1.kst ∧ (logBattery x1 x2 x3 x4 x5).mbx = x1.mbx ∧ (logBattery x1 x2 x3 x4 x5).str = x1.str ∧ (logBattery x1 x2 x3 x4 x5).lan = x1.lan ∧ (logBattery x1 x2 x3 x4 x5).tim = x1.tim ∧ (logBattery x1 x2 x3 x4 x5).lcy = x1.lcy ∧ (logBattery x1 x2 x3 x4 x5).die = x1.die ∧ (logBattery x1 x2 x3 x4 x5).rng = x1.rng ∧ (logBattery x1 x2 x3 x4 x5).pke = x1.pke ∧ (logBattery x1 x2 x3 x4 x5).eng = x1.eng ∧ (logBattery x1 x2 x3 x4 x5).host = x1.host ∧ (logBattery x1 x2 x3 x4 x5).geo = x1.geo ∧ (logBattery x1 x2 x3 x4 x5).flash = x1.flash ∧ (logBattery x1 x2 x3 x4 x5).wld = x1.wld ∧ (logBattery x1 x2 x3 x4 x5).kar = x1.kar ∧ (logBattery x1 x2 x3 x4 x5).ctl = x1.ctl := by unfold logBattery; simp

@[simp ↓] theorem countDecision_frame (x1) :
    (countDecision x1).pending = x1.pending ∧ (countDecision x1).now = x1.now ∧ (countDecision x1).fresh = x1.fresh ∧ (countDecision x1).out = x1.out ∧ (countDecision x1).snaps = x1.snaps ∧ (countDecision x1).id = x1.id ∧ (countDecision x1).psg = x1.psg ∧ (countDecision x1).cham = x1.cham ∧ (countDecision x1).kst = x1.kst ∧ (countDecision x1).mbx = x1.mbx ∧ (countDecision x1).str = x1.str ∧ (countDecision x1).bb = x1.bb ∧ (countDecision x1).tim = x1.tim ∧ (countDecision x1).lcy = x1.lcy ∧ (countDecision x1).die = x1.die ∧ (countDecision x1).rng = x1.rng ∧ (countDecision x1).pke = x1.pke ∧ (countDecision x1).eng = x1.eng ∧ (countDecision x1).host = x1.host ∧ (countDecision x1).geo = x1.geo ∧ (countDecision x1).flash = x1.flash ∧ (countDecision x1).wld = x1.wld ∧ (countDecision x1).kar = x1.kar ∧ (countDecision x1).ctl = x1.ctl := by unfold countDecision; simp

@[simp ↓] theorem seedSkew_frame (x1) :
    (seedSkew x1).pending = x1.pending ∧ (seedSkew x1).now = x1.now ∧ (seedSkew x1).fresh = x1.fresh ∧ (seedSkew x1).snaps = x1.snaps ∧ (seedSkew x1).id = x1.id ∧ (seedSkew x1).cham = x1.cham ∧ (seedSkew x1).kst = x1.kst ∧ (seedSkew x1).str = x1.str ∧ (seedSkew x1).bb = x1.bb ∧ (seedSkew x1).tim = x1.tim ∧ (seedSkew x1).die = x1.die ∧ (seedSkew x1).pke = x1.pke ∧ (seedSkew x1).geo = x1.geo ∧ (seedSkew x1).flash = x1.flash ∧ (seedSkew x1).kar = x1.kar ∧ (seedSkew x1).ctl = x1.ctl := by unfold seedSkew; (try dsimp only); (repeat' split) <;> (try have := draw_frame_of ‹_›) <;> simp [*]

@[simp ↓] theorem zeroize_frame (x1 x2 x3) :
    (zeroize x1 x2 x3).pending = x1.pending ∧ (zeroize x1 x2 x3).now = x1.now ∧ (zeroize x1 x2 x3).fresh = x1.fresh ∧ (zeroize x1 x2 x3).snaps = x1.snaps ∧ (zeroize x1 x2 x3).psg = x1.psg ∧ (zeroize x1 x2 x3).cham = x1.cham ∧ (zeroize x1 x2 x3).tim = x1.tim ∧ (zeroize x1 x2 x3).lcy = x1.lcy ∧ (zeroize x1 x2 x3).die = x1.die ∧ (zeroize x1 x2 x3).rng = x1.rng ∧ (zeroize x1 x2 x3).pke = x1.pke ∧ (zeroize x1 x2 x3).kar = x1.kar := by unfold zeroize; simp

@[simp ↓] theorem putNotice_frame (x1 x2 x3 x4 x5) :
    (putNotice x1 x2 x3 x4 x5).pending = x1.pending ∧ (putNotice x1 x2 x3 x4 x5).now = x1.now ∧ (putNotice x1 x2 x3 x4 x5).fresh = x1.fresh ∧ (putNotice x1 x2 x3 x4 x5).out = x1.out ∧ (putNotice x1 x2 x3 x4 x5).snaps = x1.snaps ∧ (putNotice x1 x2 x3 x4 x5).id = x1.id ∧ (putNotice x1 x2 x3 x4 x5).psg = x1.psg ∧ (putNotice x1 x2 x3 x4 x5).cham = x1.cham ∧ (putNotice x1 x2 x3 x4 x5).kst = x1.kst ∧ (putNotice x1 x2 x3 x4 x5).mbx = x1.mbx ∧ (putNotice x1 x2 x3 x4 x5).str = x1.str ∧ (putNotice x1 x2 x3 x4 x5).bb = x1.bb ∧ (putNotice x1 x2 x3 x4 x5).tim = x1.tim ∧ (putNotice x1 x2 x3 x4 x5).lcy = x1.lcy ∧ (putNotice x1 x2 x3 x4 x5).die = x1.die ∧ (putNotice x1 x2 x3 x4 x5).rng = x1.rng ∧ (putNotice x1 x2 x3 x4 x5).pke = x1.pke ∧ (putNotice x1 x2 x3 x4 x5).eng = x1.eng ∧ (putNotice x1 x2 x3 x4 x5).host = x1.host ∧ (putNotice x1 x2 x3 x4 x5).geo = x1.geo ∧ (putNotice x1 x2 x3 x4 x5).flash = x1.flash ∧ (putNotice x1 x2 x3 x4 x5).wld = x1.wld ∧ (putNotice x1 x2 x3 x4 x5).kar = x1.kar ∧ (putNotice x1 x2 x3 x4 x5).ctl = x1.ctl := by unfold putNotice; simp

@[simp ↓] theorem noticeNow_frame (x1 x2) :
    (noticeNow x1 x2).pending = x1.pending ∧ (noticeNow x1 x2).now = x1.now ∧ (noticeNow x1 x2).fresh = x1.fresh ∧ (noticeNow x1 x2).out = x1.out ∧ (noticeNow x1 x2).snaps = x1.snaps ∧ (noticeNow x1 x2).id = x1.id ∧ (noticeNow x1 x2).psg = x1.psg ∧ (noticeNow x1 x2).cham = x1.cham ∧ (noticeNow x1 x2).kst = x1.kst ∧ (noticeNow x1 x2).mbx = x1.mbx ∧ (noticeNow x1 x2).str = x1.str ∧ (noticeNow x1 x2).bb = x1.bb ∧ (noticeNow x1 x2).tim = x1.tim ∧ (noticeNow x1 x2).lcy = x1.lcy ∧ (noticeNow x1 x2).die = x1.die ∧ (noticeNow x1 x2).rng = x1.rng ∧ (noticeNow x1 x2).pke = x1.pke ∧ (noticeNow x1 x2).eng = x1.eng ∧ (noticeNow x1 x2).host = x1.host ∧ (noticeNow x1 x2).geo = x1.geo ∧ (noticeNow x1 x2).flash = x1.flash ∧ (noticeNow x1 x2).wld = x1.wld ∧ (noticeNow x1 x2).kar = x1.kar ∧ (noticeNow x1 x2).ctl = x1.ctl := by unfold noticeNow; simp

@[simp ↓] theorem raiseOne_frame (x1 x2) :
    (raiseOne x1 x2).pending = x1.pending ∧ (raiseOne x1 x2).now = x1.now ∧ (raiseOne x1 x2).fresh = x1.fresh ∧ (raiseOne x1 x2).out = x1.out ∧ (raiseOne x1 x2).snaps = x1.snaps ∧ (raiseOne x1 x2).id = x1.id ∧ (raiseOne x1 x2).psg = x1.psg ∧ (raiseOne x1 x2).cham = x1.cham ∧ (raiseOne x1 x2).kst = x1.kst ∧ (raiseOne x1 x2).mbx = x1.mbx ∧ (raiseOne x1 x2).bb = x1.bb ∧ (raiseOne x1 x2).tim = x1.tim ∧ (raiseOne x1 x2).lcy = x1.lcy ∧ (raiseOne x1 x2).die = x1.die ∧ (raiseOne x1 x2).rng = x1.rng ∧ (raiseOne x1 x2).pke = x1.pke ∧ (raiseOne x1 x2).eng = x1.eng ∧ (raiseOne x1 x2).host = x1.host ∧ (raiseOne x1 x2).geo = x1.geo ∧ (raiseOne x1 x2).flash = x1.flash ∧ (raiseOne x1 x2).wld = x1.wld ∧ (raiseOne x1 x2).kar = x1.kar ∧ (raiseOne x1 x2).ctl = x1.ctl := by unfold raiseOne; simp

@[simp ↓] theorem leaveSuspend_frame (x1) :
    (leaveSuspend x1).pending = x1.pending ∧ (leaveSuspend x1).now = x1.now ∧ (leaveSuspend x1).fresh = x1.fresh ∧ (leaveSuspend x1).out = x1.out ∧ (leaveSuspend x1).snaps = x1.snaps ∧ (leaveSuspend x1).id = x1.id ∧ (leaveSuspend x1).psg = x1.psg ∧ (leaveSuspend x1).cham = x1.cham ∧ (leaveSuspend x1).mbx = x1.mbx ∧ (leaveSuspend x1).str = x1.str ∧ (leaveSuspend x1).lan = x1.lan ∧ (leaveSuspend x1).bb = x1.bb ∧ (leaveSuspend x1).tim = x1.tim ∧ (leaveSuspend x1).lcy = x1.lcy ∧ (leaveSuspend x1).die = x1.die ∧ (leaveSuspend x1).rng = x1.rng ∧ (leaveSuspend x1).pke = x1.pke ∧ (leaveSuspend x1).eng = x1.eng ∧ (leaveSuspend x1).host = x1.host ∧ (leaveSuspend x1).geo = x1.geo ∧ (leaveSuspend x1).flash = x1.flash ∧ (leaveSuspend x1).wld = x1.wld ∧ (leaveSuspend x1).kar = x1.kar ∧ (leaveSuspend x1).ctl = x1.ctl := by unfold leaveSuspend; simp

@[simp ↓] theorem settleSeverity_frame (x1) :
    (settleSeverity x1).pending = x1.pending ∧ (settleSeverity x1).now = x1.now ∧ (settleSeverity x1).snaps = x1.snaps ∧ (settleSeverity x1).bb = x1.bb ∧ (settleSeverity x1).rng = x1.rng ∧ (settleSeverity x1).geo = x1.geo ∧ (settleSeverity x1).flash = x1.flash ∧ (settleSeverity x1).kar = x1.kar := by unfold settleSeverity; simp

@[simp ↓] theorem raiseAll_frame (x1 x2 x3) :
    (raiseAll x1 x2 x3).pending = x1.pending ∧ (raiseAll x1 x2 x3).now = x1.now ∧ (raiseAll x1 x2 x3).snaps = x1.snaps ∧ (raiseAll x1 x2 x3).kar = x1.kar := by unfold raiseAll; dsimp only; (repeat' split)  <;> simp [*]

@[simp ↓] theorem logPins_frame (x1 x2) :
    (logPins x1 x2).pending = x1.pending ∧ (logPins x1 x2).now = x1.now ∧ (logPins x1 x2).fresh = x1.fresh ∧ (logPins x1 x2).out = x1.out ∧ (logPins x1 x2).snaps = x1.snaps ∧ (logPins x1 x2).id = x1.id ∧ (logPins x1 x2).psg = x1.psg ∧ (logPins x1 x2).cham = x1.cham ∧ (logPins x1 x2).kst = x1.kst ∧ (logPins x1 x2).mbx = x1.mbx ∧ (logPins x1 x2).str = x1.str ∧ (logPins x1 x2).lan = x1.lan ∧ (logPins x1 x2).tim = x1.tim ∧ (logPins x1 x2).lcy = x1.lcy ∧ (logPins x1 x2).die = x1.die ∧ (logPins x1 x2).rng = x1.rng ∧ (logPins x1 x2).pke = x1.pke ∧ (logPins x1 x2).eng = x1.eng ∧ (logPins x1 x2).host = x1.host ∧ (logPins x1 x2).geo = x1.geo ∧ (logPins x1 x2).flash = x1.flash ∧ (logPins x1 x2).wld = x1.wld ∧ (logPins x1 x2).kar = x1.kar ∧ (logPins x1 x2).ctl = x1.ctl := by unfold logPins; simp

@[simp ↓] theorem raiseBattery_frame (x1 x2 x3) :
    (raiseBattery x1 x2 x3).pending = x1.pending ∧ (raiseBattery x1 x2 x3).now = x1.now ∧ (raiseBattery x1 x2 x3).fresh = x1.fresh ∧ (raiseBattery x1 x2 x3).snaps = x1.snaps ∧ (raiseBattery x1 x2 x3).psg = x1.psg ∧ (raiseBattery x1 x2 x3).cham = x1.cham ∧ (raiseBattery x1 x2 x3).tim = x1.tim ∧ (raiseBattery x1 x2 x3).lcy = x1.lcy ∧ (raiseBattery x1 x2 x3).die = x1.die ∧ (raiseBattery x1 x2 x3).rng = x1.rng ∧ (raiseBattery x1 x2 x3).pke = x1.pke ∧ (raiseBattery x1 x2 x3).kar = x1.kar := by unfold raiseBattery; simp

@[simp ↓] theorem clearOne_frame (x1 x2) :
    (clearOne x1 x2).pending = x1.pending ∧ (clearOne x1 x2).now = x1.now ∧ (clearOne x1 x2).fresh = x1.fresh ∧ (clearOne x1 x2).out = x1.out ∧ (clearOne x1 x2).snaps = x1.snaps ∧ (clearOne x1 x2).id = x1.id ∧ (clearOne x1 x2).psg = x1.psg ∧ (clearOne x1 x2).cham = x1.cham ∧ (clearOne x1 x2).kst = x1.kst ∧ (clearOne x1 x2).mbx = x1.mbx ∧ (clearOne x1 x2).str = x1.str ∧ (clearOne x1 x2).bb = x1.bb ∧ (clearOne x1 x2).tim = x1.tim ∧ (clearOne x1 x2).lcy = x1.lcy ∧ (clearOne x1 x2).die = x1.die ∧ (clearOne x1 x2).rng = x1.rng ∧ (clearOne x1 x2).pke = x1.pke ∧ (clearOne x1 x2).eng = x1.eng ∧ (clearOne x1 x2).host = x1.host ∧ (clearOne x1 x2).geo = x1.geo ∧ (clearOne x1 x2).flash = x1.flash ∧ (clearOne x1 x2).wld = x1.wld ∧ (clearOne x1 x2).kar = x1.kar ∧ (clearOne x1 x2).ctl = x1.ctl := by unfold clearOne; simp

@[simp ↓] theorem pushZone_frame (x1 x2 x3) :
    (pushZone x1 x2 x3).pending = x1.pending ∧ (pushZone x1 x2 x3).now = x1.now ∧ (pushZone x1 x2 x3).fresh = x1.fresh ∧ (pushZone x1 x2 x3).out = x1.out ∧ (pushZone x1 x2 x3).snaps = x1.snaps ∧ (pushZone x1 x2 x3).id = x1.id ∧ (pushZone x1 x2 x3).psg = x1.psg ∧ (pushZone x1 x2 x3).cham = x1.cham ∧ (pushZone x1 x2 x3).kst = x1.kst ∧ (pushZone x1 x2 x3).mbx = x1.mbx ∧ (pushZone x1 x2 x3).str = x1.str ∧ (pushZone x1 x2 x3).bb = x1.bb ∧ (pushZone x1 x2 x3).tim = x1.tim ∧ (pushZone x1 x2 x3).lcy = x1.lcy ∧ (pushZone x1 x2 x3).die = x1.die ∧ (pushZone x1 x2 x3).rng = x1.rng ∧ (pushZone x1 x2 x3).pke = x1.pke ∧ (pushZone x1 x2 x3).eng = x1.eng ∧ (pushZone x1 x2 x3).host = x1.host ∧ (pushZone x1 x2 x3).geo = x1.geo ∧ (pushZone x1 x2 x3).flash = x1.flash ∧ (pushZone x1 x2 x3).wld = x1.wld ∧ (pushZone x1 x2 x3).kar = x1.kar ∧ (pushZone x1 x2 x3).ctl = x1.ctl := by unfold pushZone; simp

@[simp ↓] theorem stepFlags_frame (x1 x2) :
    (stepFlags x1 x2).pending = x1.pending ∧ (stepFlags x1 x2).now = x1.now ∧ (stepFlags x1 x2).fresh = x1.fresh ∧ (stepFlags x1 x2).out = x1.out ∧ (stepFlags x1 x2).snaps = x1.snaps ∧ (stepFlags x1 x2).id = x1.id ∧ (stepFlags x1 x2).psg = x1.psg ∧ (stepFlags x1 x2).cham = x1.cham ∧ (stepFlags x1 x2).kst = x1.kst ∧ (stepFlags x1 x2).mbx = x1.mbx ∧ (stepFlags x1 x2).str = x1.str ∧ (stepFlags x1 x2).bb = x1.bb ∧ (stepFlags x1 x2).tim = x1.tim ∧ (stepFlags x1 x2).lcy = x1.lcy ∧ (stepFlags x1 x2).die = x1.die ∧ (stepFlags x1 x2).rng = x1.rng ∧ (stepFlags x1 x2).pke = x1.pke ∧ (stepFlags x1 x2).eng = x1.eng ∧ (stepFlags x1 x2).host = x1.host ∧ (stepFlags x1 x2).geo = x1.geo ∧ (stepFlags x1 x2).flash = x1.flash ∧ (stepFlags x1 x2).wld = x1.wld ∧ (stepFlags x1 x2).kar = x1.kar ∧ (stepFlags x1 x2).ctl = x1.ctl := by unfold stepFlags; simp

@[simp ↓] theorem driveLoops_frame (x1) :
    (driveLoops x1).pending = x1.pending ∧ (driveLoops x1).now = x1.now ∧ (driveLoops x1).fresh = x1.fresh ∧ (driveLoops x1).out = x1.out ∧ (driveLoops x1).snaps = x1.snaps ∧ (driveLoops x1).id = x1.id ∧ (driveLoops x1).psg = x1.psg ∧ (driveLoops x1).cham = x1.cham ∧ (driveLoops x1).kst = x1.kst ∧ (driveLoops x1).mbx = x1.mbx ∧ (driveLoops x1).str = x1.str ∧ (driveLoops x1).bb = x1.bb ∧ (driveLoops x1).tim = x1.tim ∧ (driveLoops x1).lcy = x1.lcy ∧ (driveLoops x1).die = x1.die ∧ (driveLoops x1).rng = x1.rng ∧ (driveLoops x1).pke = x1.pke ∧ (driveLoops x1).eng = x1.eng ∧ (driveLoops x1).host = x1.host ∧ (driveLoops x1).geo = x1.geo ∧ (driveLoops x1).flash = x1.flash ∧ (driveLoops x1).wld = x1.wld ∧ (driveLoops x1).kar = x1.kar ∧ (driveLoops x1).ctl = x1.ctl := by unfold driveLoops; simp

@[simp ↓] theorem takeFaults_frame (x1) :
    (takeFaults x1).1.pending = x1.pending ∧ (takeFaults x1).1.now = x1.now ∧ (takeFaults x1).1.fresh = x1.fresh ∧ (takeFaults x1).1.out = x1.out ∧ (takeFaults x1).1.snaps = x1.snaps ∧ (takeFaults x1).1.id = x1.id ∧ (takeFaults x1).1.psg = x1.psg ∧ (takeFaults x1).1.cham = x1.cham ∧ (takeFaults x1).1.kst = x1.kst ∧ (takeFaults x1).1.mbx = x1.mbx ∧ (takeFaults x1).1.str = x1.str ∧ (takeFaults x1).1.bb = x1.bb ∧ (takeFaults x1).1.tim = x1.tim ∧ (takeFaults x1).1.lcy = x1.lcy ∧ (takeFaults x1).1.die = x1.die ∧ (takeFaults x1).1.rng = x1.rng ∧ (takeFaults x1).1.pke = x1.pke ∧ (takeFaults x1).1.eng = x1.eng ∧ (takeFaults x1).1.host = x1.host ∧ (takeFaults x1).1.geo = x1.geo ∧ (takeFaults x1).1.flash = x1.flash ∧ (takeFaults x1).1.wld = x1.wld ∧ (takeFaults x1).1.kar = x1.kar ∧ (takeFaults x1).1.ctl = x1.ctl := by unfold takeFaults; simp

theorem takeFaults_frame_of {x1 x t} (h : takeFaults x1 = (t, x)) :
    t.pending = x1.pending ∧ t.now = x1.now ∧ t.fresh = x1.fresh ∧ t.out = x1.out ∧ t.snaps = x1.snaps ∧ t.id = x1.id ∧ t.psg = x1.psg ∧ t.cham = x1.cham ∧ t.kst = x1.kst ∧ t.mbx = x1.mbx ∧ t.str = x1.str ∧ t.bb = x1.bb ∧ t.tim = x1.tim ∧ t.lcy = x1.lcy ∧ t.die = x1.die ∧ t.rng = x1.rng ∧ t.pke = x1.pke ∧ t.eng = x1.eng ∧ t.host = x1.host ∧ t.geo = x1.geo ∧ t.flash = x1.flash ∧ t.wld = x1.wld ∧ t.kar = x1.kar ∧ t.ctl = x1.ctl := by
  have e := takeFaults_frame x1; rw [h] at e; exact e

@[simp ↓] theorem detectorTest_frame (x1 x2) :
    (detectorTest x1 x2).pending = x1.pending ∧ (detectorTest x1 x2).now = x1.now ∧ (detectorTest x1 x2).snaps = x1.snaps ∧ (detectorTest x1 x2).kar = x1.kar := by unfold detectorTest; simp

@[simp ↓] theorem delayXclk_frame (x1 x2) :
    (delayXclk x1 x2).pending = x1.pending ∧ (delayXclk x1 x2).now = x1.now ∧ (delayXclk x1 x2).fresh = x1.fresh ∧ (delayXclk x1 x2).out = x1.out ∧ (delayXclk x1 x2).snaps = x1.snaps ∧ (delayXclk x1 x2).id = x1.id ∧ (delayXclk x1 x2).cham = x1.cham ∧ (delayXclk x1 x2).kst = x1.kst ∧ (delayXclk x1 x2).mbx = x1.mbx ∧ (delayXclk x1 x2).str = x1.str ∧ (delayXclk x1 x2).lan = x1.lan ∧ (delayXclk x1 x2).bb = x1.bb ∧ (delayXclk x1 x2).tim = x1.tim ∧ (delayXclk x1 x2).lcy = x1.lcy ∧ (delayXclk x1 x2).die = x1.die ∧ (delayXclk x1 x2).rng = x1.rng ∧ (delayXclk x1 x2).pke = x1.pke ∧ (delayXclk x1 x2).host = x1.host ∧ (delayXclk x1 x2).geo = x1.geo ∧ (delayXclk x1 x2).flash = x1.flash ∧ (delayXclk x1 x2).wld = x1.wld ∧ (delayXclk x1 x2).kar = x1.kar ∧ (delayXclk x1 x2).ctl = x1.ctl := by unfold delayXclk; simp

@[simp ↓] theorem delayNclk_frame (x1 x2) :
    (delayNclk x1 x2).pending = x1.pending ∧ (delayNclk x1 x2).now = x1.now ∧ (delayNclk x1 x2).fresh = x1.fresh ∧ (delayNclk x1 x2).out = x1.out ∧ (delayNclk x1 x2).snaps = x1.snaps ∧ (delayNclk x1 x2).id = x1.id ∧ (delayNclk x1 x2).psg = x1.psg ∧ (delayNclk x1 x2).cham = x1.cham ∧ (delayNclk x1 x2).kst = x1.kst ∧ (delayNclk x1 x2).mbx = x1.mbx ∧ (delayNclk x1 x2).str = x1.str ∧ (delayNclk x1 x2).lan = x1.lan ∧ (delayNclk x1 x2).bb = x1.bb ∧ (delayNclk x1 x2).tim = x1.tim ∧ (delayNclk x1 x2).lcy = x1.lcy ∧ (delayNclk x1 x2).die = x1.die ∧ (delayNclk x1 x2).rng = x1.rng ∧ (delayNclk x1 x2).eng = x1.eng ∧ (delayNclk x1 x2).host = x1.host ∧ (delayNclk x1 x2).geo = x1.geo ∧ (delayNclk x1 x2).flash = x1.flash ∧ (delayNclk x1 x2).wld = x1.wld ∧ (delayNclk x1 x2).kar = x1.kar ∧ (delayNclk x1 x2).ctl = x1.ctl := by unfold delayNclk; simp

@[simp ↓] theorem resumeClock_frame (x1 x2) :
    (resumeClock x1 x2).pending = x1.pending ∧ (resumeClock x1 x2).now = x1.now ∧ (resumeClock x1 x2).fresh = x1.fresh ∧ (resumeClock x1 x2).snaps = x1.snaps ∧ (resumeClock x1 x2).id = x1.id ∧ (resumeClock x1 x2).cham = x1.cham ∧ (resumeClock x1 x2).kst = x1.kst ∧ (resumeClock x1 x2).mbx = x1.mbx ∧ (resumeClock x1 x2).lan = x1.lan ∧ (resumeClock x1 x2).bb = x1.bb ∧ (resumeClock x1 x2).die = x1.die ∧ (resumeClock x1 x2).host = x1.host ∧ (resumeClock x1 x2).geo = x1.geo ∧ (resumeClock x1 x2).flash = x1.flash ∧ (resumeClock x1 x2).kar = x1.kar := by unfold resumeClock; simp

@[simp ↓] theorem writeSource_frame (x1 x2 x3) :
    (writeSource x1 x2 x3).pending = x1.pending ∧ (writeSource x1 x2 x3).now = x1.now ∧ (writeSource x1 x2 x3).snaps = x1.snaps ∧ (writeSource x1 x2 x3).bb = x1.bb ∧ (writeSource x1 x2 x3).rng = x1.rng ∧ (writeSource x1 x2 x3).geo = x1.geo ∧ (writeSource x1 x2 x3).flash = x1.flash ∧ (writeSource x1 x2 x3).kar = x1.kar := by unfold writeSource; simp

@[simp ↓] theorem setTmp_frame (x1 x2 x3) :
    (setTmp x1 x2 x3).pending = x1.pending ∧ (setTmp x1 x2 x3).now = x1.now ∧ (setTmp x1 x2 x3).fresh = x1.fresh ∧ (setTmp x1 x2 x3).out = x1.out ∧ (setTmp x1 x2 x3).snaps = x1.snaps ∧ (setTmp x1 x2 x3).id = x1.id ∧ (setTmp x1 x2 x3).psg = x1.psg ∧ (setTmp x1 x2 x3).cham = x1.cham ∧ (setTmp x1 x2 x3).kst = x1.kst ∧ (setTmp x1 x2 x3).mbx = x1.mbx ∧ (setTmp x1 x2 x3).str = x1.str ∧ (setTmp x1 x2 x3).bb = x1.bb ∧ (setTmp x1 x2 x3).tim = x1.tim ∧ (setTmp x1 x2 x3).lcy = x1.lcy ∧ (setTmp x1 x2 x3).die = x1.die ∧ (setTmp x1 x2 x3).rng = x1.rng ∧ (setTmp x1 x2 x3).pke = x1.pke ∧ (setTmp x1 x2 x3).eng = x1.eng ∧ (setTmp x1 x2 x3).host = x1.host ∧ (setTmp x1 x2 x3).geo = x1.geo ∧ (setTmp x1 x2 x3).flash = x1.flash ∧ (setTmp x1 x2 x3).wld = x1.wld ∧ (setTmp x1 x2 x3).kar = x1.kar ∧ (setTmp x1 x2 x3).ctl = x1.ctl := by unfold setTmp; simp

@[simp ↓] theorem seedPair_frame (x1 x2 x3) :
    (seedPair x1 x2 x3).pending = x1.pending ∧ (seedPair x1 x2 x3).now = x1.now ∧ (seedPair x1 x2 x3).fresh = x1.fresh ∧ (seedPair x1 x2 x3).out = x1.out ∧ (seedPair x1 x2 x3).snaps = x1.snaps ∧ (seedPair x1 x2 x3).id = x1.id ∧ (seedPair x1 x2 x3).psg = x1.psg ∧ (seedPair x1 x2 x3).cham = x1.cham ∧ (seedPair x1 x2 x3).kst = x1.kst ∧ (seedPair x1 x2 x3).mbx = x1.mbx ∧ (seedPair x1 x2 x3).str = x1.str ∧ (seedPair x1 x2 x3).bb = x1.bb ∧ (seedPair x1 x2 x3).tim = x1.tim ∧ (seedPair x1 x2 x3).lcy = x1.lcy ∧ (seedPair x1 x2 x3).die = x1.die ∧ (seedPair x1 x2 x3).rng = x1.rng ∧ (seedPair x1 x2 x3).pke = x1.pke ∧ (seedPair x1 x2 x3).eng = x1.eng ∧ (seedPair x1 x2 x3).host = x1.host ∧ (seedPair x1 x2 x3).geo = x1.geo ∧ (seedPair x1 x2 x3).flash = x1.flash ∧ (seedPair x1 x2 x3).wld = x1.wld ∧ (seedPair x1 x2 x3).kar = x1.kar ∧ (seedPair x1 x2 x3).ctl = x1.ctl := by unfold seedPair; simp

@[simp ↓] theorem writePin_frame (x1 x2) :
    (writePin x1 x2).pending = x1.pending ∧ (writePin x1 x2).now = x1.now ∧ (writePin x1 x2).snaps = x1.snaps ∧ (writePin x1 x2).bb = x1.bb ∧ (writePin x1 x2).rng = x1.rng ∧ (writePin x1 x2).geo = x1.geo ∧ (writePin x1 x2).flash = x1.flash ∧ (writePin x1 x2).kar = x1.kar := by unfold writePin; simp

end Sys2Proof.Machine
end

