-- ==== Sys2Proof/Laws/Frames/Clock.lean ====
section
/-!
SUPPORT. What the operations of Machine/Clock.lean leave unchanged: for each, every part of the state that it does not touch.
-/

set_option Elab.async false

set_option linter.all false
set_option maxRecDepth 2000

namespace Sys2Proof.Machine

@[simp ↓] theorem timEvent_frame (x1 x2) :
    (timEvent x1 x2).pending = x1.pending ∧ (timEvent x1 x2).now = x1.now ∧ (timEvent x1 x2).fresh = x1.fresh ∧ (timEvent x1 x2).out = x1.out ∧ (timEvent x1 x2).snaps = x1.snaps ∧ (timEvent x1 x2).id = x1.id ∧ (timEvent x1 x2).psg = x1.psg ∧ (timEvent x1 x2).cham = x1.cham ∧ (timEvent x1 x2).kst = x1.kst ∧ (timEvent x1 x2).mbx = x1.mbx ∧ (timEvent x1 x2).str = x1.str ∧ (timEvent x1 x2).lan = x1.lan ∧ (timEvent x1 x2).bb = x1.bb ∧ (timEvent x1 x2).lcy = x1.lcy ∧ (timEvent x1 x2).die = x1.die ∧ (timEvent x1 x2).rng = x1.rng ∧ (timEvent x1 x2).pke = x1.pke ∧ (timEvent x1 x2).eng = x1.eng ∧ (timEvent x1 x2).host = x1.host ∧ (timEvent x1 x2).geo = x1.geo ∧ (timEvent x1 x2).flash = x1.flash ∧ (timEvent x1 x2).wld = x1.wld ∧ (timEvent x1 x2).kar = x1.kar ∧ (timEvent x1 x2).ctl = x1.ctl := by unfold timEvent; simp

@[simp ↓] theorem discardPtp_frame (x1) :
    (discardPtp x1).pending = x1.pending ∧ (discardPtp x1).now = x1.now ∧ (discardPtp x1).fresh = x1.fresh ∧ (discardPtp x1).out = x1.out ∧ (discardPtp x1).snaps = x1.snaps ∧ (discardPtp x1).id = x1.id ∧ (discardPtp x1).psg = x1.psg ∧ (discardPtp x1).cham = x1.cham ∧ (discardPtp x1).kst = x1.kst ∧ (discardPtp x1).mbx = x1.mbx ∧ (discardPtp x1).str = x1.str ∧ (discardPtp x1).lan = x1.lan ∧ (discardPtp x1).bb = x1.bb ∧ (discardPtp x1).lcy = x1.lcy ∧ (discardPtp x1).die = x1.die ∧ (discardPtp x1).rng = x1.rng ∧ (discardPtp x1).pke = x1.pke ∧ (discardPtp x1).eng = x1.eng ∧ (discardPtp x1).host = x1.host ∧ (discardPtp x1).geo = x1.geo ∧ (discardPtp x1).flash = x1.flash ∧ (discardPtp x1).wld = x1.wld ∧ (discardPtp x1).kar = x1.kar ∧ (discardPtp x1).ctl = x1.ctl := by unfold discardPtp; simp

theorem ptpMessage_pending_of {x1 x2 x3 x4 x5}{t} (hx5 : ∀ y1, (x5 y1).pending = y1.pending) (h : (Sys2Proof.Machine.ptpMessage x1 x2 x3 x4 x5) = .next t) : t.pending = x1.pending := by unfold ptpMessage at h; (try dsimp only at h); (repeat' split at h)  <;> (have h' := Host.Outcome.next.inj h; subst h'; simp [*])

theorem ptpMessage_fresh_of {x1 x2 x3 x4 x5}{t} (hx5 : ∀ y1, (x5 y1).fresh = y1.fresh) (h : (Sys2Proof.Machine.ptpMessage x1 x2 x3 x4 x5) = .next t) : t.fresh = x1.fresh := by unfold ptpMessage at h; (try dsimp only at h); (repeat' split at h)  <;> (have h' := Host.Outcome.next.inj h; subst h'; simp [*])

theorem ptpMessage_out_of {x1 x2 x3 x4 x5}{t} (hx5 : ∀ y1, (x5 y1).out = y1.out) (h : (Sys2Proof.Machine.ptpMessage x1 x2 x3 x4 x5) = .next t) : t.out = x1.out := by unfold ptpMessage at h; (try dsimp only at h); (repeat' split at h)  <;> (have h' := Host.Outcome.next.inj h; subst h'; simp [*])

theorem ptpMessage_snaps_of {x1 x2 x3 x4 x5}{t} (hx5 : ∀ y1, (x5 y1).snaps = y1.snaps) (h : (Sys2Proof.Machine.ptpMessage x1 x2 x3 x4 x5) = .next t) : t.snaps = x1.snaps := by unfold ptpMessage at h; (try dsimp only at h); (repeat' split at h)  <;> (have h' := Host.Outcome.next.inj h; subst h'; simp [*])

theorem ptpMessage_id_of {x1 x2 x3 x4 x5}{t} (hx5 : ∀ y1, (x5 y1).id = y1.id) (h : (Sys2Proof.Machine.ptpMessage x1 x2 x3 x4 x5) = .next t) : t.id = x1.id := by unfold ptpMessage at h; (try dsimp only at h); (repeat' split at h)  <;> (have h' := Host.Outcome.next.inj h; subst h'; simp [*])

theorem ptpMessage_psg_of {x1 x2 x3 x4 x5}{t} (hx5 : ∀ y1, (x5 y1).psg = y1.psg) (h : (Sys2Proof.Machine.ptpMessage x1 x2 x3 x4 x5) = .next t) : t.psg = x1.psg := by unfold ptpMessage at h; (try dsimp only at h); (repeat' split at h)  <;> (have h' := Host.Outcome.next.inj h; subst h'; simp [*])

theorem ptpMessage_cham_of {x1 x2 x3 x4 x5}{t} (hx5 : ∀ y1, (x5 y1).cham = y1.cham) (h : (Sys2Proof.Machine.ptpMessage x1 x2 x3 x4 x5) = .next t) : t.cham = x1.cham := by unfold ptpMessage at h; (try dsimp only at h); (repeat' split at h)  <;> (have h' := Host.Outcome.next.inj h; subst h'; simp [*])

theorem ptpMessage_kst_of {x1 x2 x3 x4 x5}{t} (hx5 : ∀ y1, (x5 y1).kst = y1.kst) (h : (Sys2Proof.Machine.ptpMessage x1 x2 x3 x4 x5) = .next t) : t.kst = x1.kst := by unfold ptpMessage at h; (try dsimp only at h); (repeat' split at h)  <;> (have h' := Host.Outcome.next.inj h; subst h'; simp [*])

theorem ptpMessage_mbx_of {x1 x2 x3 x4 x5}{t} (hx5 : ∀ y1, (x5 y1).mbx = y1.mbx) (h : (Sys2Proof.Machine.ptpMessage x1 x2 x3 x4 x5) = .next t) : t.mbx = x1.mbx := by unfold ptpMessage at h; (try dsimp only at h); (repeat' split at h)  <;> (have h' := Host.Outcome.next.inj h; subst h'; simp [*])

theorem ptpMessage_str_of {x1 x2 x3 x4 x5}{t} (hx5 : ∀ y1, (x5 y1).str = y1.str) (h : (Sys2Proof.Machine.ptpMessage x1 x2 x3 x4 x5) = .next t) : t.str = x1.str := by unfold ptpMessage at h; (try dsimp only at h); (repeat' split at h)  <;> (have h' := Host.Outcome.next.inj h; subst h'; simp [*])

theorem ptpMessage_lan_of {x1 x2 x3 x4 x5}{t} (hx5 : ∀ y1, (x5 y1).lan = y1.lan) (h : (Sys2Proof.Machine.ptpMessage x1 x2 x3 x4 x5) = .next t) : t.lan = x1.lan := by unfold ptpMessage at h; (try dsimp only at h); (repeat' split at h)  <;> (have h' := Host.Outcome.next.inj h; subst h'; simp [*])

theorem ptpMessage_bb_of {x1 x2 x3 x4 x5}{t} (hx5 : ∀ y1, (x5 y1).bb = y1.bb) (h : (Sys2Proof.Machine.ptpMessage x1 x2 x3 x4 x5) = .next t) : t.bb = x1.bb := by unfold ptpMessage at h; (try dsimp only at h); (repeat' split at h)  <;> (have h' := Host.Outcome.next.inj h; subst h'; simp [*])

theorem ptpMessage_lcy_of {x1 x2 x3 x4 x5}{t} (hx5 : ∀ y1, (x5 y1).lcy = y1.lcy) (h : (Sys2Proof.Machine.ptpMessage x1 x2 x3 x4 x5) = .next t) : t.lcy = x1.lcy := by unfold ptpMessage at h; (try dsimp only at h); (repeat' split at h)  <;> (have h' := Host.Outcome.next.inj h; subst h'; simp [*])

theorem ptpMessage_die_of {x1 x2 x3 x4 x5}{t} (hx5 : ∀ y1, (x5 y1).die = y1.die) (h : (Sys2Proof.Machine.ptpMessage x1 x2 x3 x4 x5) = .next t) : t.die = x1.die := by unfold ptpMessage at h; (try dsimp only at h); (repeat' split at h)  <;> (have h' := Host.Outcome.next.inj h; subst h'; simp [*])

theorem ptpMessage_rng_of {x1 x2 x3 x4 x5}{t} (hx5 : ∀ y1, (x5 y1).rng = y1.rng) (h : (Sys2Proof.Machine.ptpMessage x1 x2 x3 x4 x5) = .next t) : t.rng = x1.rng := by unfold ptpMessage at h; (try dsimp only at h); (repeat' split at h)  <;> (have h' := Host.Outcome.next.inj h; subst h'; simp [*])

theorem ptpMessage_pke_of {x1 x2 x3 x4 x5}{t} (hx5 : ∀ y1, (x5 y1).pke = y1.pke) (h : (Sys2Proof.Machine.ptpMessage x1 x2 x3 x4 x5) = .next t) : t.pke = x1.pke := by unfold ptpMessage at h; (try dsimp only at h); (repeat' split at h)  <;> (have h' := Host.Outcome.next.inj h; subst h'; simp [*])

theorem ptpMessage_eng_of {x1 x2 x3 x4 x5}{t} (hx5 : ∀ y1, (x5 y1).eng = y1.eng) (h : (Sys2Proof.Machine.ptpMessage x1 x2 x3 x4 x5) = .next t) : t.eng = x1.eng := by unfold ptpMessage at h; (try dsimp only at h); (repeat' split at h)  <;> (have h' := Host.Outcome.next.inj h; subst h'; simp [*])

theorem ptpMessage_host_of {x1 x2 x3 x4 x5}{t} (hx5 : ∀ y1, (x5 y1).host = y1.host) (h : (Sys2Proof.Machine.ptpMessage x1 x2 x3 x4 x5) = .next t) : t.host = x1.host := by unfold ptpMessage at h; (try dsimp only at h); (repeat' split at h)  <;> (have h' := Host.Outcome.next.inj h; subst h'; simp [*])

theorem ptpMessage_geo_of {x1 x2 x3 x4 x5}{t} (hx5 : ∀ y1, (x5 y1).geo = y1.geo) (h : (Sys2Proof.Machine.ptpMessage x1 x2 x3 x4 x5) = .next t) : t.geo = x1.geo := by unfold ptpMessage at h; (try dsimp only at h); (repeat' split at h)  <;> (have h' := Host.Outcome.next.inj h; subst h'; simp [*])

theorem ptpMessage_flash_of {x1 x2 x3 x4 x5}{t} (hx5 : ∀ y1, (x5 y1).flash = y1.flash) (h : (Sys2Proof.Machine.ptpMessage x1 x2 x3 x4 x5) = .next t) : t.flash = x1.flash := by unfold ptpMessage at h; (try dsimp only at h); (repeat' split at h)  <;> (have h' := Host.Outcome.next.inj h; subst h'; simp [*])

theorem ptpMessage_wld_of {x1 x2 x3 x4 x5}{t} (hx5 : ∀ y1, (x5 y1).wld = y1.wld) (h : (Sys2Proof.Machine.ptpMessage x1 x2 x3 x4 x5) = .next t) : t.wld = x1.wld := by unfold ptpMessage at h; (try dsimp only at h); (repeat' split at h)  <;> (have h' := Host.Outcome.next.inj h; subst h'; simp [*])

theorem ptpMessage_kar_of {x1 x2 x3 x4 x5}{t} (hx5 : ∀ y1, (x5 y1).kar = y1.kar) (h : (Sys2Proof.Machine.ptpMessage x1 x2 x3 x4 x5) = .next t) : t.kar = x1.kar := by unfold ptpMessage at h; (try dsimp only at h); (repeat' split at h)  <;> (have h' := Host.Outcome.next.inj h; subst h'; simp [*])

theorem ptpMessage_ctl_of {x1 x2 x3 x4 x5}{t} (hx5 : ∀ y1, (x5 y1).ctl = y1.ctl) (h : (Sys2Proof.Machine.ptpMessage x1 x2 x3 x4 x5) = .next t) : t.ctl = x1.ctl := by unfold ptpMessage at h; (try dsimp only at h); (repeat' split at h)  <;> (have h' := Host.Outcome.next.inj h; subst h'; simp [*])

@[simp ↓] theorem updDelay_frame (x1 x2 x3) :
    (updDelay x1 x2 x3).pending = x1.pending ∧ (updDelay x1 x2 x3).now = x1.now ∧ (updDelay x1 x2 x3).fresh = x1.fresh ∧ (updDelay x1 x2 x3).out = x1.out ∧ (updDelay x1 x2 x3).snaps = x1.snaps ∧ (updDelay x1 x2 x3).id = x1.id ∧ (updDelay x1 x2 x3).psg = x1.psg ∧ (updDelay x1 x2 x3).cham = x1.cham ∧ (updDelay x1 x2 x3).kst = x1.kst ∧ (updDelay x1 x2 x3).mbx = x1.mbx ∧ (updDelay x1 x2 x3).str = x1.str ∧ (updDelay x1 x2 x3).lan = x1.lan ∧ (updDelay x1 x2 x3).bb = x1.bb ∧ (updDelay x1 x2 x3).lcy = x1.lcy ∧ (updDelay x1 x2 x3).die = x1.die ∧ (updDelay x1 x2 x3).rng = x1.rng ∧ (updDelay x1 x2 x3).pke = x1.pke ∧ (updDelay x1 x2 x3).eng = x1.eng ∧ (updDelay x1 x2 x3).host = x1.host ∧ (updDelay x1 x2 x3).geo = x1.geo ∧ (updDelay x1 x2 x3).flash = x1.flash ∧ (updDelay x1 x2 x3).wld = x1.wld ∧ (updDelay x1 x2 x3).kar = x1.kar ∧ (updDelay x1 x2 x3).ctl = x1.ctl := by unfold updDelay; simp

@[simp ↓] theorem newDelay_frame (x1 x2 x3) :
    (newDelay x1 x2 x3).pending = x1.pending ∧ (newDelay x1 x2 x3).now = x1.now ∧ (newDelay x1 x2 x3).fresh = x1.fresh ∧ (newDelay x1 x2 x3).out = x1.out ∧ (newDelay x1 x2 x3).snaps = x1.snaps ∧ (newDelay x1 x2 x3).id = x1.id ∧ (newDelay x1 x2 x3).psg = x1.psg ∧ (newDelay x1 x2 x3).cham = x1.cham ∧ (newDelay x1 x2 x3).kst = x1.kst ∧ (newDelay x1 x2 x3).mbx = x1.mbx ∧ (newDelay x1 x2 x3).str = x1.str ∧ (newDelay x1 x2 x3).lan = x1.lan ∧ (newDelay x1 x2 x3).bb = x1.bb ∧ (newDelay x1 x2 x3).lcy = x1.lcy ∧ (newDelay x1 x2 x3).die = x1.die ∧ (newDelay x1 x2 x3).rng = x1.rng ∧ (newDelay x1 x2 x3).pke = x1.pke ∧ (newDelay x1 x2 x3).eng = x1.eng ∧ (newDelay x1 x2 x3).host = x1.host ∧ (newDelay x1 x2 x3).geo = x1.geo ∧ (newDelay x1 x2 x3).flash = x1.flash ∧ (newDelay x1 x2 x3).wld = x1.wld ∧ (newDelay x1 x2 x3).kar = x1.kar ∧ (newDelay x1 x2 x3).ctl = x1.ctl := by unfold newDelay; simp

@[simp ↓] theorem dropLock_frame (x1 x2) :
    (dropLock x1 x2).pending = x1.pending ∧ (dropLock x1 x2).now = x1.now ∧ (dropLock x1 x2).fresh = x1.fresh ∧ (dropLock x1 x2).out = x1.out ∧ (dropLock x1 x2).snaps = x1.snaps ∧ (dropLock x1 x2).psg = x1.psg ∧ (dropLock x1 x2).cham = x1.cham ∧ (dropLock x1 x2).kst = x1.kst ∧ (dropLock x1 x2).mbx = x1.mbx ∧ (dropLock x1 x2).lan = x1.lan ∧ (dropLock x1 x2).bb = x1.bb ∧ (dropLock x1 x2).lcy = x1.lcy ∧ (dropLock x1 x2).die = x1.die ∧ (dropLock x1 x2).rng = x1.rng ∧ (dropLock x1 x2).pke = x1.pke ∧ (dropLock x1 x2).eng = x1.eng ∧ (dropLock x1 x2).host = x1.host ∧ (dropLock x1 x2).geo = x1.geo ∧ (dropLock x1 x2).flash = x1.flash ∧ (dropLock x1 x2).wld = x1.wld ∧ (dropLock x1 x2).kar = x1.kar ∧ (dropLock x1 x2).ctl = x1.ctl := by unfold dropLock; simp

@[simp ↓] theorem writeCorrelation_frame (x1 x2) :
    (writeCorrelation x1 x2).pending = x1.pending ∧ (writeCorrelation x1 x2).now = x1.now ∧ (writeCorrelation x1 x2).fresh = x1.fresh ∧ (writeCorrelation x1 x2).out = x1.out ∧ (writeCorrelation x1 x2).snaps = x1.snaps ∧ (writeCorrelation x1 x2).id = x1.id ∧ (writeCorrelation x1 x2).psg = x1.psg ∧ (writeCorrelation x1 x2).cham = x1.cham ∧ (writeCorrelation x1 x2).kst = x1.kst ∧ (writeCorrelation x1 x2).mbx = x1.mbx ∧ (writeCorrelation x1 x2).str = x1.str ∧ (writeCorrelation x1 x2).lan = x1.lan ∧ (writeCorrelation x1 x2).lcy = x1.lcy ∧ (writeCorrelation x1 x2).die = x1.die ∧ (writeCorrelation x1 x2).rng = x1.rng ∧ (writeCorrelation x1 x2).pke = x1.pke ∧ (writeCorrelation x1 x2).eng = x1.eng ∧ (writeCorrelation x1 x2).host = x1.host ∧ (writeCorrelation x1 x2).geo = x1.geo ∧ (writeCorrelation x1 x2).flash = x1.flash ∧ (writeCorrelation x1 x2).wld = x1.wld ∧ (writeCorrelation x1 x2).kar = x1.kar ∧ (writeCorrelation x1 x2).ctl = x1.ctl := by unfold writeCorrelation; simp

@[simp ↓] theorem gainLock_frame (x1) :
    (gainLock x1).pending = x1.pending ∧ (gainLock x1).now = x1.now ∧ (gainLock x1).fresh = x1.fresh ∧ (gainLock x1).out = x1.out ∧ (gainLock x1).snaps = x1.snaps ∧ (gainLock x1).psg = x1.psg ∧ (gainLock x1).cham = x1.cham ∧ (gainLock x1).kst = x1.kst ∧ (gainLock x1).mbx = x1.mbx ∧ (gainLock x1).str = x1.str ∧ (gainLock x1).lan = x1.lan ∧ (gainLock x1).lcy = x1.lcy ∧ (gainLock x1).die = x1.die ∧ (gainLock x1).rng = x1.rng ∧ (gainLock x1).pke = x1.pke ∧ (gainLock x1).eng = x1.eng ∧ (gainLock x1).host = x1.host ∧ (gainLock x1).geo = x1.geo ∧ (gainLock x1).flash = x1.flash ∧ (gainLock x1).wld = x1.wld ∧ (gainLock x1).kar = x1.kar ∧ (gainLock x1).ctl = x1.ctl := by unfold gainLock; simp

@[simp ↓] theorem moveCount_frame (x1 x2) :
    (moveCount x1 x2).pending = x1.pending ∧ (moveCount x1 x2).now = x1.now ∧ (moveCount x1 x2).fresh = x1.fresh ∧ (moveCount x1 x2).out = x1.out ∧ (moveCount x1 x2).snaps = x1.snaps ∧ (moveCount x1 x2).id = x1.id ∧ (moveCount x1 x2).psg = x1.psg ∧ (moveCount x1 x2).cham = x1.cham ∧ (moveCount x1 x2).kst = x1.kst ∧ (moveCount x1 x2).mbx = x1.mbx ∧ (moveCount x1 x2).str = x1.str ∧ (moveCount x1 x2).lan = x1.lan ∧ (moveCount x1 x2).bb = x1.bb ∧ (moveCount x1 x2).lcy = x1.lcy ∧ (moveCount x1 x2).die = x1.die ∧ (moveCount x1 x2).rng = x1.rng ∧ (moveCount x1 x2).pke = x1.pke ∧ (moveCount x1 x2).eng = x1.eng ∧ (moveCount x1 x2).host = x1.host ∧ (moveCount x1 x2).geo = x1.geo ∧ (moveCount x1 x2).flash = x1.flash ∧ (moveCount x1 x2).wld = x1.wld ∧ (moveCount x1 x2).kar = x1.kar ∧ (moveCount x1 x2).ctl = x1.ctl := by unfold moveCount; simp

@[simp ↓] theorem stepCounter_frame (x1 x2) :
    (stepCounter x1 x2).pending = x1.pending ∧ (stepCounter x1 x2).now = x1.now ∧ (stepCounter x1 x2).fresh = x1.fresh ∧ (stepCounter x1 x2).out = x1.out ∧ (stepCounter x1 x2).snaps = x1.snaps ∧ (stepCounter x1 x2).psg = x1.psg ∧ (stepCounter x1 x2).cham = x1.cham ∧ (stepCounter x1 x2).kst = x1.kst ∧ (stepCounter x1 x2).mbx = x1.mbx ∧ (stepCounter x1 x2).lan = x1.lan ∧ (stepCounter x1 x2).bb = x1.bb ∧ (stepCounter x1 x2).lcy = x1.lcy ∧ (stepCounter x1 x2).die = x1.die ∧ (stepCounter x1 x2).rng = x1.rng ∧ (stepCounter x1 x2).pke = x1.pke ∧ (stepCounter x1 x2).eng = x1.eng ∧ (stepCounter x1 x2).host = x1.host ∧ (stepCounter x1 x2).geo = x1.geo ∧ (stepCounter x1 x2).flash = x1.flash ∧ (stepCounter x1 x2).wld = x1.wld ∧ (stepCounter x1 x2).kar = x1.kar ∧ (stepCounter x1 x2).ctl = x1.ctl := by unfold stepCounter; simp

@[simp ↓] theorem steer_frame (x1 x2) :
    (steer x1 x2).pending = x1.pending ∧ (steer x1 x2).now = x1.now ∧ (steer x1 x2).fresh = x1.fresh ∧ (steer x1 x2).out = x1.out ∧ (steer x1 x2).snaps = x1.snaps ∧ (steer x1 x2).psg = x1.psg ∧ (steer x1 x2).cham = x1.cham ∧ (steer x1 x2).kst = x1.kst ∧ (steer x1 x2).mbx = x1.mbx ∧ (steer x1 x2).lan = x1.lan ∧ (steer x1 x2).lcy = x1.lcy ∧ (steer x1 x2).die = x1.die ∧ (steer x1 x2).rng = x1.rng ∧ (steer x1 x2).pke = x1.pke ∧ (steer x1 x2).eng = x1.eng ∧ (steer x1 x2).host = x1.host ∧ (steer x1 x2).geo = x1.geo ∧ (steer x1 x2).flash = x1.flash ∧ (steer x1 x2).wld = x1.wld ∧ (steer x1 x2).kar = x1.kar ∧ (steer x1 x2).ctl = x1.ctl := by unfold steer; simp

@[simp ↓] theorem applyOffset_frame (x1 x2) :
    (applyOffset x1 x2).pending = x1.pending ∧ (applyOffset x1 x2).now = x1.now ∧ (applyOffset x1 x2).fresh = x1.fresh ∧ (applyOffset x1 x2).out = x1.out ∧ (applyOffset x1 x2).snaps = x1.snaps ∧ (applyOffset x1 x2).psg = x1.psg ∧ (applyOffset x1 x2).cham = x1.cham ∧ (applyOffset x1 x2).kst = x1.kst ∧ (applyOffset x1 x2).mbx = x1.mbx ∧ (applyOffset x1 x2).lan = x1.lan ∧ (applyOffset x1 x2).lcy = x1.lcy ∧ (applyOffset x1 x2).die = x1.die ∧ (applyOffset x1 x2).rng = x1.rng ∧ (applyOffset x1 x2).pke = x1.pke ∧ (applyOffset x1 x2).eng = x1.eng ∧ (applyOffset x1 x2).host = x1.host ∧ (applyOffset x1 x2).geo = x1.geo ∧ (applyOffset x1 x2).flash = x1.flash ∧ (applyOffset x1 x2).wld = x1.wld ∧ (applyOffset x1 x2).kar = x1.kar ∧ (applyOffset x1 x2).ctl = x1.ctl := by unfold applyOffset; simp

@[simp ↓] theorem chooseMaster_frame (x1) :
    (chooseMaster x1).pending = x1.pending ∧ (chooseMaster x1).now = x1.now ∧ (chooseMaster x1).fresh = x1.fresh ∧ (chooseMaster x1).out = x1.out ∧ (chooseMaster x1).snaps = x1.snaps ∧ (chooseMaster x1).psg = x1.psg ∧ (chooseMaster x1).cham = x1.cham ∧ (chooseMaster x1).kst = x1.kst ∧ (chooseMaster x1).mbx = x1.mbx ∧ (chooseMaster x1).lan = x1.lan ∧ (chooseMaster x1).bb = x1.bb ∧ (chooseMaster x1).lcy = x1.lcy ∧ (chooseMaster x1).die = x1.die ∧ (chooseMaster x1).rng = x1.rng ∧ (chooseMaster x1).pke = x1.pke ∧ (chooseMaster x1).eng = x1.eng ∧ (chooseMaster x1).host = x1.host ∧ (chooseMaster x1).geo = x1.geo ∧ (chooseMaster x1).flash = x1.flash ∧ (chooseMaster x1).wld = x1.wld ∧ (chooseMaster x1).kar = x1.kar ∧ (chooseMaster x1).ctl = x1.ctl := by unfold chooseMaster; (repeat' split) <;> simp

@[simp ↓] theorem useSync_frame (x1 x2 x3 x4 x5) :
    (useSync x1 x2 x3 x4 x5).pending = x1.pending ∧ (useSync x1 x2 x3 x4 x5).now = x1.now ∧ (useSync x1 x2 x3 x4 x5).fresh = x1.fresh ∧ (useSync x1 x2 x3 x4 x5).out = x1.out ∧ (useSync x1 x2 x3 x4 x5).snaps = x1.snaps ∧ (useSync x1 x2 x3 x4 x5).psg = x1.psg ∧ (useSync x1 x2 x3 x4 x5).cham = x1.cham ∧ (useSync x1 x2 x3 x4 x5).kst = x1.kst ∧ (useSync x1 x2 x3 x4 x5).mbx = x1.mbx ∧ (useSync x1 x2 x3 x4 x5).lan = x1.lan ∧ (useSync x1 x2 x3 x4 x5).lcy = x1.lcy ∧ (useSync x1 x2 x3 x4 x5).die = x1.die ∧ (useSync x1 x2 x3 x4 x5).rng = x1.rng ∧ (useSync x1 x2 x3 x4 x5).pke = x1.pke ∧ (useSync x1 x2 x3 x4 x5).eng = x1.eng ∧ (useSync x1 x2 x3 x4 x5).host = x1.host ∧ (useSync x1 x2 x3 x4 x5).geo = x1.geo ∧ (useSync x1 x2 x3 x4 x5).flash = x1.flash ∧ (useSync x1 x2 x3 x4 x5).wld = x1.wld ∧ (useSync x1 x2 x3 x4 x5).kar = x1.kar ∧ (useSync x1 x2 x3 x4 x5).ctl = x1.ctl := by unfold useSync; (repeat' split) <;> simp

@[simp ↓] theorem writeTim_frame (x1 x2 x3) :
    (writeTim x1 x2 x3).pending = x1.pending ∧ (writeTim x1 x2 x3).now = x1.now ∧ (writeTim x1 x2 x3).fresh = x1.fresh ∧ (writeTim x1 x2 x3).out = x1.out ∧ (writeTim x1 x2 x3).snaps = x1.snaps ∧ (writeTim x1 x2 x3).psg = x1.psg ∧ (writeTim x1 x2 x3).cham = x1.cham ∧ (writeTim x1 x2 x3).kst = x1.kst ∧ (writeTim x1 x2 x3).mbx = x1.mbx ∧ (writeTim x1 x2 x3).lan = x1.lan ∧ (writeTim x1 x2 x3).bb = x1.bb ∧ (writeTim x1 x2 x3).lcy = x1.lcy ∧ (writeTim x1 x2 x3).die = x1.die ∧ (writeTim x1 x2 x3).rng = x1.rng ∧ (writeTim x1 x2 x3).pke = x1.pke ∧ (writeTim x1 x2 x3).eng = x1.eng ∧ (writeTim x1 x2 x3).host = x1.host ∧ (writeTim x1 x2 x3).geo = x1.geo ∧ (writeTim x1 x2 x3).flash = x1.flash ∧ (writeTim x1 x2 x3).wld = x1.wld ∧ (writeTim x1 x2 x3).kar = x1.kar ∧ (writeTim x1 x2 x3).ctl = x1.ctl := by unfold writeTim; simp

end Sys2Proof.Machine
end

