-- ==== Sys2Proof/Laws/Frames/ResetOps.lean ====
section
/-!
SUPPORT. What the operations of Machine/ResetOps.lean leave unchanged: for each, every part of the state that it does not touch.
-/

set_option Elab.async false

set_option linter.all false
set_option maxRecDepth 2000

namespace Sys2Proof.Machine

@[simp ↓] theorem wiped_frame (x1) :
    (wiped x1).pending = x1.pending ∧ (wiped x1).now = x1.now ∧ (wiped x1).fresh = x1.fresh ∧ (wiped x1).out = x1.out ∧ (wiped x1).bb = x1.bb ∧ (wiped x1).die = x1.die ∧ (wiped x1).flash = x1.flash := by unfold wiped; simp

@[simp ↓] theorem startReset_frame (x1 x2) :
    (startReset x1 x2).pending = x1.pending ∧ (startReset x1 x2).now = x1.now ∧ (startReset x1 x2).bb = x1.bb ∧ (startReset x1 x2).flash = x1.flash := by unfold startReset; simp

@[simp ↓] theorem loseBattery_frame (x1) :
    (loseBattery x1).pending = x1.pending ∧ (loseBattery x1).now = x1.now ∧ (loseBattery x1).fresh = x1.fresh ∧ (loseBattery x1).snaps = x1.snaps ∧ (loseBattery x1).psg = x1.psg ∧ (loseBattery x1).cham = x1.cham ∧ (loseBattery x1).tim = x1.tim ∧ (loseBattery x1).lcy = x1.lcy ∧ (loseBattery x1).die = x1.die ∧ (loseBattery x1).rng = x1.rng ∧ (loseBattery x1).pke = x1.pke ∧ (loseBattery x1).kar = x1.kar := by unfold loseBattery; simp

@[simp ↓] theorem setPower_frame (x1) :
    (setPower x1).pending = x1.pending ∧ (setPower x1).now = x1.now ∧ (setPower x1).fresh = x1.fresh ∧ (setPower x1).snaps = x1.snaps ∧ (setPower x1).psg = x1.psg ∧ (setPower x1).cham = x1.cham ∧ (setPower x1).tim = x1.tim ∧ (setPower x1).lcy = x1.lcy ∧ (setPower x1).die = x1.die ∧ (setPower x1).rng = x1.rng ∧ (setPower x1).pke = x1.pke ∧ (setPower x1).kar = x1.kar := by unfold setPower; simp

@[simp ↓] theorem forgetSources_frame (x1) :
    (forgetSources x1).pending = x1.pending ∧ (forgetSources x1).now = x1.now ∧ (forgetSources x1).fresh = x1.fresh ∧ (forgetSources x1).out = x1.out ∧ (forgetSources x1).snaps = x1.snaps ∧ (forgetSources x1).id = x1.id ∧ (forgetSources x1).psg = x1.psg ∧ (forgetSources x1).cham = x1.cham ∧ (forgetSources x1).kst = x1.kst ∧ (forgetSources x1).mbx = x1.mbx ∧ (forgetSources x1).str = x1.str ∧ (forgetSources x1).bb = x1.bb ∧ (forgetSources x1).tim = x1.tim ∧ (forgetSources x1).lcy = x1.lcy ∧ (forgetSources x1).die = x1.die ∧ (forgetSources x1).rng = x1.rng ∧ (forgetSources x1).pke = x1.pke ∧ (forgetSources x1).eng = x1.eng ∧ (forgetSources x1).host = x1.host ∧ (forgetSources x1).geo = x1.geo ∧ (forgetSources x1).flash = x1.flash ∧ (forgetSources x1).wld = x1.wld ∧ (forgetSources x1).kar = x1.kar ∧ (forgetSources x1).ctl = x1.ctl := by unfold forgetSources; simp

@[simp ↓] theorem losePower_frame (x1) :
    (losePower x1).pending = x1.pending ∧ (losePower x1).now = x1.now ∧ (losePower x1).fresh = x1.fresh ∧ (losePower x1).die = x1.die := by unfold losePower; simp

@[simp ↓] theorem markLog_frame (x1 x2) :
    (markLog x1 x2).pending = x1.pending ∧ (markLog x1 x2).now = x1.now ∧ (markLog x1 x2).fresh = x1.fresh ∧ (markLog x1 x2).out = x1.out ∧ (markLog x1 x2).snaps = x1.snaps ∧ (markLog x1 x2).id = x1.id ∧ (markLog x1 x2).psg = x1.psg ∧ (markLog x1 x2).cham = x1.cham ∧ (markLog x1 x2).kst = x1.kst ∧ (markLog x1 x2).mbx = x1.mbx ∧ (markLog x1 x2).str = x1.str ∧ (markLog x1 x2).lan = x1.lan ∧ (markLog x1 x2).bb = x1.bb ∧ (markLog x1 x2).tim = x1.tim ∧ (markLog x1 x2).lcy = x1.lcy ∧ (markLog x1 x2).rng = x1.rng ∧ (markLog x1 x2).pke = x1.pke ∧ (markLog x1 x2).eng = x1.eng ∧ (markLog x1 x2).host = x1.host ∧ (markLog x1 x2).geo = x1.geo ∧ (markLog x1 x2).flash = x1.flash ∧ (markLog x1 x2).wld = x1.wld ∧ (markLog x1 x2).kar = x1.kar ∧ (markLog x1 x2).ctl = x1.ctl := by unfold markLog; (repeat' split) <;> simp

@[simp ↓] theorem programEntry_frame (x1 x2 x3 x4 x5) :
    (programEntry x1 x2 x3 x4 x5).pending = x1.pending ∧ (programEntry x1 x2 x3 x4 x5).now = x1.now ∧ (programEntry x1 x2 x3 x4 x5).fresh = x1.fresh ∧ (programEntry x1 x2 x3 x4 x5).out = x1.out ∧ (programEntry x1 x2 x3 x4 x5).snaps = x1.snaps ∧ (programEntry x1 x2 x3 x4 x5).id = x1.id ∧ (programEntry x1 x2 x3 x4 x5).psg = x1.psg ∧ (programEntry x1 x2 x3 x4 x5).cham = x1.cham ∧ (programEntry x1 x2 x3 x4 x5).kst = x1.kst ∧ (programEntry x1 x2 x3 x4 x5).mbx = x1.mbx ∧ (programEntry x1 x2 x3 x4 x5).str = x1.str ∧ (programEntry x1 x2 x3 x4 x5).lan = x1.lan ∧ (programEntry x1 x2 x3 x4 x5).bb = x1.bb ∧ (programEntry x1 x2 x3 x4 x5).tim = x1.tim ∧ (programEntry x1 x2 x3 x4 x5).lcy = x1.lcy ∧ (programEntry x1 x2 x3 x4 x5).rng = x1.rng ∧ (programEntry x1 x2 x3 x4 x5).pke = x1.pke ∧ (programEntry x1 x2 x3 x4 x5).eng = x1.eng ∧ (programEntry x1 x2 x3 x4 x5).host = x1.host ∧ (programEntry x1 x2 x3 x4 x5).geo = x1.geo ∧ (programEntry x1 x2 x3 x4 x5).flash = x1.flash ∧ (programEntry x1 x2 x3 x4 x5).wld = x1.wld ∧ (programEntry x1 x2 x3 x4 x5).kar = x1.kar ∧ (programEntry x1 x2 x3 x4 x5).ctl = x1.ctl := by unfold programEntry; simp

@[simp ↓] theorem wipeSecrets_frame (x1) :
    (wipeSecrets x1).pending = x1.pending ∧ (wipeSecrets x1).now = x1.now ∧ (wipeSecrets x1).fresh = x1.fresh ∧ (wipeSecrets x1).out = x1.out ∧ (wipeSecrets x1).snaps = x1.snaps ∧ (wipeSecrets x1).id = x1.id ∧ (wipeSecrets x1).psg = x1.psg ∧ (wipeSecrets x1).cham = x1.cham ∧ (wipeSecrets x1).mbx = x1.mbx ∧ (wipeSecrets x1).str = x1.str ∧ (wipeSecrets x1).lan = x1.lan ∧ (wipeSecrets x1).tim = x1.tim ∧ (wipeSecrets x1).lcy = x1.lcy ∧ (wipeSecrets x1).die = x1.die ∧ (wipeSecrets x1).rng = x1.rng ∧ (wipeSecrets x1).pke = x1.pke ∧ (wipeSecrets x1).eng = x1.eng ∧ (wipeSecrets x1).host = x1.host ∧ (wipeSecrets x1).geo = x1.geo ∧ (wipeSecrets x1).flash = x1.flash ∧ (wipeSecrets x1).wld = x1.wld ∧ (wipeSecrets x1).kar = x1.kar ∧ (wipeSecrets x1).ctl = x1.ctl := by unfold wipeSecrets; simp

@[simp ↓] theorem wipeUserFlash_frame (x1) :
    (wipeUserFlash x1).pending = x1.pending ∧ (wipeUserFlash x1).now = x1.now ∧ (wipeUserFlash x1).fresh = x1.fresh ∧ (wipeUserFlash x1).out = x1.out ∧ (wipeUserFlash x1).snaps = x1.snaps ∧ (wipeUserFlash x1).id = x1.id ∧ (wipeUserFlash x1).psg = x1.psg ∧ (wipeUserFlash x1).cham = x1.cham ∧ (wipeUserFlash x1).kst = x1.kst ∧ (wipeUserFlash x1).mbx = x1.mbx ∧ (wipeUserFlash x1).str = x1.str ∧ (wipeUserFlash x1).lan = x1.lan ∧ (wipeUserFlash x1).bb = x1.bb ∧ (wipeUserFlash x1).tim = x1.tim ∧ (wipeUserFlash x1).lcy = x1.lcy ∧ (wipeUserFlash x1).rng = x1.rng ∧ (wipeUserFlash x1).pke = x1.pke ∧ (wipeUserFlash x1).eng = x1.eng ∧ (wipeUserFlash x1).host = x1.host ∧ (wipeUserFlash x1).geo = x1.geo ∧ (wipeUserFlash x1).flash = x1.flash ∧ (wipeUserFlash x1).wld = x1.wld ∧ (wipeUserFlash x1).kar = x1.kar ∧ (wipeUserFlash x1).ctl = x1.ctl := by unfold wipeUserFlash; simp

@[simp ↓] theorem wipeFor_frame (x1 x2) :
    (wipeFor x1 x2).pending = x1.pending ∧ (wipeFor x1 x2).now = x1.now ∧ (wipeFor x1 x2).fresh = x1.fresh ∧ (wipeFor x1 x2).out = x1.out ∧ (wipeFor x1 x2).snaps = x1.snaps ∧ (wipeFor x1 x2).id = x1.id ∧ (wipeFor x1 x2).psg = x1.psg ∧ (wipeFor x1 x2).cham = x1.cham ∧ (wipeFor x1 x2).mbx = x1.mbx ∧ (wipeFor x1 x2).str = x1.str ∧ (wipeFor x1 x2).lan = x1.lan ∧ (wipeFor x1 x2).tim = x1.tim ∧ (wipeFor x1 x2).lcy = x1.lcy ∧ (wipeFor x1 x2).rng = x1.rng ∧ (wipeFor x1 x2).pke = x1.pke ∧ (wipeFor x1 x2).eng = x1.eng ∧ (wipeFor x1 x2).host = x1.host ∧ (wipeFor x1 x2).geo = x1.geo ∧ (wipeFor x1 x2).flash = x1.flash ∧ (wipeFor x1 x2).wld = x1.wld ∧ (wipeFor x1 x2).kar = x1.kar ∧ (wipeFor x1 x2).ctl = x1.ctl := by unfold wipeFor; simp

@[simp ↓] theorem clearLatches_frame (x1) :
    (clearLatches x1).pending = x1.pending ∧ (clearLatches x1).now = x1.now ∧ (clearLatches x1).snaps = x1.snaps ∧ (clearLatches x1).bb = x1.bb ∧ (clearLatches x1).rng = x1.rng ∧ (clearLatches x1).geo = x1.geo ∧ (clearLatches x1).flash = x1.flash ∧ (clearLatches x1).kar = x1.kar := by unfold clearLatches; simp

@[simp ↓] theorem completeRecord_frame (x1) :
    (completeRecord x1).pending = x1.pending ∧ (completeRecord x1).now = x1.now ∧ (completeRecord x1).snaps = x1.snaps ∧ (completeRecord x1).bb = x1.bb ∧ (completeRecord x1).rng = x1.rng ∧ (completeRecord x1).geo = x1.geo ∧ (completeRecord x1).flash = x1.flash ∧ (completeRecord x1).kar = x1.kar := by unfold completeRecord; (repeat' split) <;> simp

@[simp ↓] theorem completeFrom_frame (x1 x2 x3) :
    (completeFrom x1 x2 x3).pending = x1.pending ∧ (completeFrom x1 x2 x3).now = x1.now ∧ (completeFrom x1 x2 x3).snaps = x1.snaps ∧ (completeFrom x1 x2 x3).rng = x1.rng ∧ (completeFrom x1 x2 x3).geo = x1.geo ∧ (completeFrom x1 x2 x3).flash = x1.flash ∧ (completeFrom x1 x2 x3).kar = x1.kar := by unfold completeFrom; simp

@[simp ↓] theorem enterState_frame (x1 x2) :
    (enterState x1 x2).pending = x1.pending ∧ (enterState x1 x2).now = x1.now ∧ (enterState x1 x2).fresh = x1.fresh ∧ (enterState x1 x2).out = x1.out ∧ (enterState x1 x2).snaps = x1.snaps ∧ (enterState x1 x2).id = x1.id ∧ (enterState x1 x2).psg = x1.psg ∧ (enterState x1 x2).cham = x1.cham ∧ (enterState x1 x2).kst = x1.kst ∧ (enterState x1 x2).mbx = x1.mbx ∧ (enterState x1 x2).str = x1.str ∧ (enterState x1 x2).lan = x1.lan ∧ (enterState x1 x2).bb = x1.bb ∧ (enterState x1 x2).tim = x1.tim ∧ (enterState x1 x2).die = x1.die ∧ (enterState x1 x2).rng = x1.rng ∧ (enterState x1 x2).pke = x1.pke ∧ (enterState x1 x2).eng = x1.eng ∧ (enterState x1 x2).host = x1.host ∧ (enterState x1 x2).geo = x1.geo ∧ (enterState x1 x2).flash = x1.flash ∧ (enterState x1 x2).wld = x1.wld ∧ (enterState x1 x2).kar = x1.kar ∧ (enterState x1 x2).ctl = x1.ctl := by unfold enterState; simp

@[simp ↓] theorem enterScrap_frame (x1) :
    (enterScrap x1).pending = x1.pending ∧ (enterScrap x1).now = x1.now ∧ (enterScrap x1).fresh = x1.fresh ∧ (enterScrap x1).out = x1.out ∧ (enterScrap x1).snaps = x1.snaps ∧ (enterScrap x1).id = x1.id ∧ (enterScrap x1).psg = x1.psg ∧ (enterScrap x1).cham = x1.cham ∧ (enterScrap x1).mbx = x1.mbx ∧ (enterScrap x1).str = x1.str ∧ (enterScrap x1).lan = x1.lan ∧ (enterScrap x1).tim = x1.tim ∧ (enterScrap x1).rng = x1.rng ∧ (enterScrap x1).pke = x1.pke ∧ (enterScrap x1).eng = x1.eng ∧ (enterScrap x1).host = x1.host ∧ (enterScrap x1).geo = x1.geo ∧ (enterScrap x1).flash = x1.flash ∧ (enterScrap x1).wld = x1.wld ∧ (enterScrap x1).kar = x1.kar ∧ (enterScrap x1).ctl = x1.ctl := by unfold enterScrap; simp

@[simp ↓] theorem decideSound_frame (x1) :
    (decideSound x1).pending = x1.pending ∧ (decideSound x1).now = x1.now ∧ (decideSound x1).snaps = x1.snaps ∧ (decideSound x1).rng = x1.rng ∧ (decideSound x1).geo = x1.geo ∧ (decideSound x1).flash = x1.flash ∧ (decideSound x1).kar = x1.kar := by unfold decideSound; (repeat' split) <;> simp

@[simp ↓] theorem decideOne_frame (x1 x2 x3) :
    (decideOne x1 x2 x3).pending = x1.pending ∧ (decideOne x1 x2 x3).now = x1.now ∧ (decideOne x1 x2 x3).fresh = x1.fresh ∧ (decideOne x1 x2 x3).out = x1.out ∧ (decideOne x1 x2 x3).snaps = x1.snaps ∧ (decideOne x1 x2 x3).id = x1.id ∧ (decideOne x1 x2 x3).psg = x1.psg ∧ (decideOne x1 x2 x3).cham = x1.cham ∧ (decideOne x1 x2 x3).mbx = x1.mbx ∧ (decideOne x1 x2 x3).lan = x1.lan ∧ (decideOne x1 x2 x3).tim = x1.tim ∧ (decideOne x1 x2 x3).rng = x1.rng ∧ (decideOne x1 x2 x3).pke = x1.pke ∧ (decideOne x1 x2 x3).eng = x1.eng ∧ (decideOne x1 x2 x3).host = x1.host ∧ (decideOne x1 x2 x3).geo = x1.geo ∧ (decideOne x1 x2 x3).flash = x1.flash ∧ (decideOne x1 x2 x3).wld = x1.wld ∧ (decideOne x1 x2 x3).kar = x1.kar ∧ (decideOne x1 x2 x3).ctl = x1.ctl := by unfold decideOne; simp

@[simp ↓] theorem decideLife_frame (x1) :
    (decideLife x1).pending = x1.pending ∧ (decideLife x1).now = x1.now ∧ (decideLife x1).snaps = x1.snaps ∧ (decideLife x1).rng = x1.rng ∧ (decideLife x1).geo = x1.geo ∧ (decideLife x1).flash = x1.flash ∧ (decideLife x1).kar = x1.kar := by unfold decideLife; simp

@[simp ↓] theorem loadCounter_frame (x1) :
    (loadCounter x1).pending = x1.pending ∧ (loadCounter x1).now = x1.now ∧ (loadCounter x1).fresh = x1.fresh ∧ (loadCounter x1).out = x1.out ∧ (loadCounter x1).snaps = x1.snaps ∧ (loadCounter x1).id = x1.id ∧ (loadCounter x1).psg = x1.psg ∧ (loadCounter x1).cham = x1.cham ∧ (loadCounter x1).kst = x1.kst ∧ (loadCounter x1).mbx = x1.mbx ∧ (loadCounter x1).str = x1.str ∧ (loadCounter x1).lan = x1.lan ∧ (loadCounter x1).bb = x1.bb ∧ (loadCounter x1).lcy = x1.lcy ∧ (loadCounter x1).die = x1.die ∧ (loadCounter x1).rng = x1.rng ∧ (loadCounter x1).pke = x1.pke ∧ (loadCounter x1).eng = x1.eng ∧ (loadCounter x1).host = x1.host ∧ (loadCounter x1).geo = x1.geo ∧ (loadCounter x1).flash = x1.flash ∧ (loadCounter x1).wld = x1.wld ∧ (loadCounter x1).kar = x1.kar ∧ (loadCounter x1).ctl = x1.ctl := by unfold loadCounter; simp

@[simp ↓] theorem boot_frame (x1 x2) :
    (boot x1 x2).pending = x1.pending ∧ (boot x1 x2).now = x1.now ∧ (boot x1 x2).snaps = x1.snaps ∧ (boot x1 x2).geo = x1.geo ∧ (boot x1 x2).flash = x1.flash ∧ (boot x1 x2).kar = x1.kar := by unfold boot; simp

end Sys2Proof.Machine
end

