-- ==== Sys2Proof/Laws/Frames/Life.lean ====
section
/-!
SUPPORT. What the operations of Machine/Life.lean leave unchanged: for each, every part of the state that it does not touch.
-/

set_option Elab.async false

set_option linter.all false
set_option maxRecDepth 2000

namespace Sys2Proof.Machine

@[simp ↓] theorem firstProvision_frame (x1 x2) :
    (firstProvision x1 x2).pending = x1.pending ∧ (firstProvision x1 x2).now = x1.now ∧ (firstProvision x1 x2).snaps = x1.snaps ∧ (firstProvision x1 x2).id = x1.id ∧ (firstProvision x1 x2).cham = x1.cham ∧ (firstProvision x1 x2).kst = x1.kst ∧ (firstProvision x1 x2).str = x1.str ∧ (firstProvision x1 x2).lan = x1.lan ∧ (firstProvision x1 x2).tim = x1.tim ∧ (firstProvision x1 x2).pke = x1.pke ∧ (firstProvision x1 x2).geo = x1.geo ∧ (firstProvision x1 x2).flash = x1.flash ∧ (firstProvision x1 x2).kar = x1.kar ∧ (firstProvision x1 x2).ctl = x1.ctl := by unfold firstProvision; (try dsimp only); (repeat' split) <;> (try have := draw_frame_of ‹_›) <;> simp [*]

@[simp ↓] theorem holdWires_frame (x1 x2) :
    (holdWires x1 x2).pending = x1.pending ∧ (holdWires x1 x2).now = x1.now ∧ (holdWires x1 x2).fresh = x1.fresh ∧ (holdWires x1 x2).out = x1.out ∧ (holdWires x1 x2).snaps = x1.snaps ∧ (holdWires x1 x2).id = x1.id ∧ (holdWires x1 x2).psg = x1.psg ∧ (holdWires x1 x2).cham = x1.cham ∧ (holdWires x1 x2).kst = x1.kst ∧ (holdWires x1 x2).mbx = x1.mbx ∧ (holdWires x1 x2).str = x1.str ∧ (holdWires x1 x2).lan = x1.lan ∧ (holdWires x1 x2).bb = x1.bb ∧ (holdWires x1 x2).tim = x1.tim ∧ (holdWires x1 x2).die = x1.die ∧ (holdWires x1 x2).rng = x1.rng ∧ (holdWires x1 x2).pke = x1.pke ∧ (holdWires x1 x2).eng = x1.eng ∧ (holdWires x1 x2).host = x1.host ∧ (holdWires x1 x2).geo = x1.geo ∧ (holdWires x1 x2).flash = x1.flash ∧ (holdWires x1 x2).wld = x1.wld ∧ (holdWires x1 x2).kar = x1.kar ∧ (holdWires x1 x2).ctl = x1.ctl := by unfold holdWires; simp

@[simp ↓] theorem carryOut_frame (x1 x2 x3 x4 x5 x6) :
    (carryOut x1 x2 x3 x4 x5 x6).pending = x1.pending ∧ (carryOut x1 x2 x3 x4 x5 x6).now = x1.now := by unfold carryOut; simp

@[simp ↓] theorem twinDecides_pending (x1 x2 x3) (hx3 : ∀ y1, (x3 y1).pending = y1.pending) : (twinDecides x1 x2 x3).pending = x1.pending := by unfold twinDecides; (repeat' split) <;> simp [*]

@[simp ↓] theorem twinDecides_now (x1 x2 x3) (hx3 : ∀ y1, (x3 y1).now = y1.now) : (twinDecides x1 x2 x3).now = x1.now := by unfold twinDecides; (repeat' split) <;> simp [*]

@[simp ↓] theorem twinDecides_fresh (x1 x2 x3) (hx3 : ∀ y1, (x3 y1).fresh = y1.fresh) : (twinDecides x1 x2 x3).fresh = x1.fresh := by unfold twinDecides; (repeat' split) <;> simp [*]

@[simp ↓] theorem twinDecides_snaps (x1 x2 x3) (hx3 : ∀ y1, (x3 y1).snaps = y1.snaps) : (twinDecides x1 x2 x3).snaps = x1.snaps := by unfold twinDecides; (repeat' split) <;> simp [*]

@[simp ↓] theorem twinDecides_id (x1 x2 x3) (hx3 : ∀ y1, (x3 y1).id = y1.id) : (twinDecides x1 x2 x3).id = x1.id := by unfold twinDecides; (repeat' split) <;> simp [*]

@[simp ↓] theorem twinDecides_psg (x1 x2 x3) (hx3 : ∀ y1, (x3 y1).psg = y1.psg) : (twinDecides x1 x2 x3).psg = x1.psg := by unfold twinDecides; (repeat' split) <;> simp [*]

@[simp ↓] theorem twinDecides_cham (x1 x2 x3) (hx3 : ∀ y1, (x3 y1).cham = y1.cham) : (twinDecides x1 x2 x3).cham = x1.cham := by unfold twinDecides; (repeat' split) <;> simp [*]

@[simp ↓] theorem twinDecides_kst (x1 x2 x3) (hx3 : ∀ y1, (x3 y1).kst = y1.kst) : (twinDecides x1 x2 x3).kst = x1.kst := by unfold twinDecides; (repeat' split) <;> simp [*]

@[simp ↓] theorem twinDecides_str (x1 x2 x3) (hx3 : ∀ y1, (x3 y1).str = y1.str) : (twinDecides x1 x2 x3).str = x1.str := by unfold twinDecides; (repeat' split) <;> simp [*]

@[simp ↓] theorem twinDecides_bb (x1 x2 x3) (hx3 : ∀ y1, (x3 y1).bb = y1.bb) : (twinDecides x1 x2 x3).bb = x1.bb := by unfold twinDecides; (repeat' split) <;> simp [*]

@[simp ↓] theorem twinDecides_tim (x1 x2 x3) (hx3 : ∀ y1, (x3 y1).tim = y1.tim) : (twinDecides x1 x2 x3).tim = x1.tim := by unfold twinDecides; (repeat' split) <;> simp [*]

@[simp ↓] theorem twinDecides_die (x1 x2 x3) (hx3 : ∀ y1, (x3 y1).die = y1.die) : (twinDecides x1 x2 x3).die = x1.die := by unfold twinDecides; (repeat' split) <;> simp [*]

@[simp ↓] theorem twinDecides_rng (x1 x2 x3) (hx3 : ∀ y1, (x3 y1).rng = y1.rng) : (twinDecides x1 x2 x3).rng = x1.rng := by unfold twinDecides; (repeat' split) <;> simp [*]

@[simp ↓] theorem twinDecides_pke (x1 x2 x3) (hx3 : ∀ y1, (x3 y1).pke = y1.pke) : (twinDecides x1 x2 x3).pke = x1.pke := by unfold twinDecides; (repeat' split) <;> simp [*]

@[simp ↓] theorem twinDecides_eng (x1 x2 x3) (hx3 : ∀ y1, (x3 y1).eng = y1.eng) : (twinDecides x1 x2 x3).eng = x1.eng := by unfold twinDecides; (repeat' split) <;> simp [*]

@[simp ↓] theorem twinDecides_geo (x1 x2 x3) (hx3 : ∀ y1, (x3 y1).geo = y1.geo) : (twinDecides x1 x2 x3).geo = x1.geo := by unfold twinDecides; (repeat' split) <;> simp [*]

@[simp ↓] theorem twinDecides_flash (x1 x2 x3) (hx3 : ∀ y1, (x3 y1).flash = y1.flash) : (twinDecides x1 x2 x3).flash = x1.flash := by unfold twinDecides; (repeat' split) <;> simp [*]

@[simp ↓] theorem twinDecides_kar (x1 x2 x3) (hx3 : ∀ y1, (x3 y1).kar = y1.kar) : (twinDecides x1 x2 x3).kar = x1.kar := by unfold twinDecides; (repeat' split) <;> simp [*]

@[simp ↓] theorem twinDecides_ctl (x1 x2 x3) (hx3 : ∀ y1, (x3 y1).ctl = y1.ctl) : (twinDecides x1 x2 x3).ctl = x1.ctl := by unfold twinDecides; (repeat' split) <;> simp [*]

@[simp ↓] theorem applyRights_frame (x1) :
    (applyRights x1).pending = x1.pending ∧ (applyRights x1).now = x1.now ∧ (applyRights x1).snaps = x1.snaps ∧ (applyRights x1).id = x1.id ∧ (applyRights x1).cham = x1.cham ∧ (applyRights x1).kst = x1.kst ∧ (applyRights x1).lan = x1.lan ∧ (applyRights x1).bb = x1.bb ∧ (applyRights x1).tim = x1.tim ∧ (applyRights x1).rng = x1.rng ∧ (applyRights x1).pke = x1.pke ∧ (applyRights x1).eng = x1.eng ∧ (applyRights x1).geo = x1.geo ∧ (applyRights x1).flash = x1.flash ∧ (applyRights x1).kar = x1.kar ∧ (applyRights x1).ctl = x1.ctl := by unfold applyRights; simp

@[simp ↓] theorem selectIr_frame (x1 x2) :
    (selectIr x1 x2).pending = x1.pending ∧ (selectIr x1 x2).now = x1.now ∧ (selectIr x1 x2).fresh = x1.fresh ∧ (selectIr x1 x2).out = x1.out ∧ (selectIr x1 x2).snaps = x1.snaps ∧ (selectIr x1 x2).id = x1.id ∧ (selectIr x1 x2).psg = x1.psg ∧ (selectIr x1 x2).cham = x1.cham ∧ (selectIr x1 x2).kst = x1.kst ∧ (selectIr x1 x2).mbx = x1.mbx ∧ (selectIr x1 x2).str = x1.str ∧ (selectIr x1 x2).lan = x1.lan ∧ (selectIr x1 x2).bb = x1.bb ∧ (selectIr x1 x2).tim = x1.tim ∧ (selectIr x1 x2).die = x1.die ∧ (selectIr x1 x2).rng = x1.rng ∧ (selectIr x1 x2).pke = x1.pke ∧ (selectIr x1 x2).eng = x1.eng ∧ (selectIr x1 x2).host = x1.host ∧ (selectIr x1 x2).geo = x1.geo ∧ (selectIr x1 x2).flash = x1.flash ∧ (selectIr x1 x2).wld = x1.wld ∧ (selectIr x1 x2).kar = x1.kar ∧ (selectIr x1 x2).ctl = x1.ctl := by unfold selectIr; simp

@[simp ↓] theorem actBypass_frame (x1 x2) :
    (actBypass x1 x2).pending = x1.pending ∧ (actBypass x1 x2).now = x1.now ∧ (actBypass x1 x2).fresh = x1.fresh ∧ (actBypass x1 x2).snaps = x1.snaps ∧ (actBypass x1 x2).id = x1.id ∧ (actBypass x1 x2).psg = x1.psg ∧ (actBypass x1 x2).cham = x1.cham ∧ (actBypass x1 x2).kst = x1.kst ∧ (actBypass x1 x2).mbx = x1.mbx ∧ (actBypass x1 x2).str = x1.str ∧ (actBypass x1 x2).lan = x1.lan ∧ (actBypass x1 x2).bb = x1.bb ∧ (actBypass x1 x2).tim = x1.tim ∧ (actBypass x1 x2).die = x1.die ∧ (actBypass x1 x2).rng = x1.rng ∧ (actBypass x1 x2).pke = x1.pke ∧ (actBypass x1 x2).eng = x1.eng ∧ (actBypass x1 x2).host = x1.host ∧ (actBypass x1 x2).geo = x1.geo ∧ (actBypass x1 x2).flash = x1.flash ∧ (actBypass x1 x2).wld = x1.wld ∧ (actBypass x1 x2).kar = x1.kar ∧ (actBypass x1 x2).ctl = x1.ctl := by unfold actBypass; simp

@[simp ↓] theorem shiftBoundary_frame (x1 x2 x3) :
    (shiftBoundary x1 x2 x3).pending = x1.pending ∧ (shiftBoundary x1 x2 x3).now = x1.now ∧ (shiftBoundary x1 x2 x3).fresh = x1.fresh ∧ (shiftBoundary x1 x2 x3).snaps = x1.snaps ∧ (shiftBoundary x1 x2 x3).id = x1.id ∧ (shiftBoundary x1 x2 x3).psg = x1.psg ∧ (shiftBoundary x1 x2 x3).cham = x1.cham ∧ (shiftBoundary x1 x2 x3).kst = x1.kst ∧ (shiftBoundary x1 x2 x3).mbx = x1.mbx ∧ (shiftBoundary x1 x2 x3).str = x1.str ∧ (shiftBoundary x1 x2 x3).lan = x1.lan ∧ (shiftBoundary x1 x2 x3).bb = x1.bb ∧ (shiftBoundary x1 x2 x3).tim = x1.tim ∧ (shiftBoundary x1 x2 x3).die = x1.die ∧ (shiftBoundary x1 x2 x3).rng = x1.rng ∧ (shiftBoundary x1 x2 x3).pke = x1.pke ∧ (shiftBoundary x1 x2 x3).eng = x1.eng ∧ (shiftBoundary x1 x2 x3).host = x1.host ∧ (shiftBoundary x1 x2 x3).geo = x1.geo ∧ (shiftBoundary x1 x2 x3).flash = x1.flash ∧ (shiftBoundary x1 x2 x3).wld = x1.wld ∧ (shiftBoundary x1 x2 x3).kar = x1.kar ∧ (shiftBoundary x1 x2 x3).ctl = x1.ctl := by unfold shiftBoundary; simp

@[simp ↓] theorem shiftFree_frame (x1 x2) :
    (shiftFree x1 x2).pending = x1.pending ∧ (shiftFree x1 x2).now = x1.now ∧ (shiftFree x1 x2).snaps = x1.snaps ∧ (shiftFree x1 x2).id = x1.id ∧ (shiftFree x1 x2).psg = x1.psg ∧ (shiftFree x1 x2).cham = x1.cham ∧ (shiftFree x1 x2).kst = x1.kst ∧ (shiftFree x1 x2).mbx = x1.mbx ∧ (shiftFree x1 x2).str = x1.str ∧ (shiftFree x1 x2).lan = x1.lan ∧ (shiftFree x1 x2).bb = x1.bb ∧ (shiftFree x1 x2).tim = x1.tim ∧ (shiftFree x1 x2).lcy = x1.lcy ∧ (shiftFree x1 x2).die = x1.die ∧ (shiftFree x1 x2).rng = x1.rng ∧ (shiftFree x1 x2).pke = x1.pke ∧ (shiftFree x1 x2).eng = x1.eng ∧ (shiftFree x1 x2).host = x1.host ∧ (shiftFree x1 x2).geo = x1.geo ∧ (shiftFree x1 x2).flash = x1.flash ∧ (shiftFree x1 x2).wld = x1.wld ∧ (shiftFree x1 x2).kar = x1.kar ∧ (shiftFree x1 x2).ctl = x1.ctl := by unfold shiftFree; simp

end Sys2Proof.Machine
end

