-- ==== Sys2Proof/Laws/Frames/Resets.lean ====
section
/-!
SUPPORT. What the operations of Machine/Resets.lean leave unchanged: for each, every part of the state that it does not touch.
-/

set_option Elab.async false

set_option linter.all false
set_option maxRecDepth 2000

namespace Sys2Proof.Machine

@[simp ↓] theorem replayEntry_frame (x1 x2) :
    (replayEntry x1 x2).pending = x1.pending ∧ (replayEntry x1 x2).now = x1.now ∧ (replayEntry x1 x2).fresh = x1.fresh ∧ (replayEntry x1 x2).out = x1.out ∧ (replayEntry x1 x2).snaps = x1.snaps ∧ (replayEntry x1 x2).id = x1.id ∧ (replayEntry x1 x2).psg = x1.psg ∧ (replayEntry x1 x2).cham = x1.cham ∧ (replayEntry x1 x2).kst = x1.kst ∧ (replayEntry x1 x2).mbx = x1.mbx ∧ (replayEntry x1 x2).str = x1.str ∧ (replayEntry x1 x2).bb = x1.bb ∧ (replayEntry x1 x2).tim = x1.tim ∧ (replayEntry x1 x2).lcy = x1.lcy ∧ (replayEntry x1 x2).die = x1.die ∧ (replayEntry x1 x2).rng = x1.rng ∧ (replayEntry x1 x2).pke = x1.pke ∧ (replayEntry x1 x2).eng = x1.eng ∧ (replayEntry x1 x2).host = x1.host ∧ (replayEntry x1 x2).geo = x1.geo ∧ (replayEntry x1 x2).flash = x1.flash ∧ (replayEntry x1 x2).wld = x1.wld ∧ (replayEntry x1 x2).kar = x1.kar ∧ (replayEntry x1 x2).ctl = x1.ctl := by unfold replayEntry; simp

@[simp ↓] theorem replayLog_frame (x1) :
    (replayLog x1).pending = x1.pending ∧ (replayLog x1).now = x1.now ∧ (replayLog x1).fresh = x1.fresh ∧ (replayLog x1).out = x1.out ∧ (replayLog x1).snaps = x1.snaps ∧ (replayLog x1).id = x1.id ∧ (replayLog x1).psg = x1.psg ∧ (replayLog x1).cham = x1.cham ∧ (replayLog x1).kst = x1.kst ∧ (replayLog x1).mbx = x1.mbx ∧ (replayLog x1).str = x1.str ∧ (replayLog x1).tim = x1.tim ∧ (replayLog x1).lcy = x1.lcy ∧ (replayLog x1).die = x1.die ∧ (replayLog x1).rng = x1.rng ∧ (replayLog x1).pke = x1.pke ∧ (replayLog x1).eng = x1.eng ∧ (replayLog x1).host = x1.host ∧ (replayLog x1).geo = x1.geo ∧ (replayLog x1).flash = x1.flash ∧ (replayLog x1).wld = x1.wld ∧ (replayLog x1).kar = x1.kar ∧ (replayLog x1).ctl = x1.ctl := by unfold replayLog; simp

@[simp ↓] theorem takeLatched_frame (x1) :
    (takeLatched x1).pending = x1.pending ∧ (takeLatched x1).now = x1.now ∧ (takeLatched x1).snaps = x1.snaps ∧ (takeLatched x1).kar = x1.kar := by unfold takeLatched; simp

@[simp ↓] theorem softReset_frame (x1 x2) :
    (softReset x1 x2).pending = x1.pending ∧ (softReset x1 x2).now = x1.now ∧ (softReset x1 x2).bb = x1.bb ∧ (softReset x1 x2).flash = x1.flash := by unfold softReset; simp

@[simp ↓] theorem drawSeeds_frame (x1) :
    (drawSeeds x1).pending = x1.pending ∧ (drawSeeds x1).now = x1.now ∧ (drawSeeds x1).fresh = x1.fresh ∧ (drawSeeds x1).snaps = x1.snaps ∧ (drawSeeds x1).id = x1.id ∧ (drawSeeds x1).cham = x1.cham ∧ (drawSeeds x1).kst = x1.kst ∧ (drawSeeds x1).str = x1.str ∧ (drawSeeds x1).lan = x1.lan ∧ (drawSeeds x1).bb = x1.bb ∧ (drawSeeds x1).tim = x1.tim ∧ (drawSeeds x1).die = x1.die ∧ (drawSeeds x1).pke = x1.pke ∧ (drawSeeds x1).geo = x1.geo ∧ (drawSeeds x1).flash = x1.flash ∧ (drawSeeds x1).kar = x1.kar ∧ (drawSeeds x1).ctl = x1.ctl := by unfold drawSeeds; dsimp only; (repeat' split) <;> (try have := draw_frame_of ‹_›) <;> simp [*]

@[simp ↓] theorem restoreBank_frame (x1 x2 x3) :
    (restoreBank x1 x2 x3).pending = x1.pending ∧ (restoreBank x1 x2 x3).now = x1.now ∧ (restoreBank x1 x2 x3).fresh = x1.fresh ∧ (restoreBank x1 x2 x3).out = x1.out ∧ (restoreBank x1 x2 x3).snaps = x1.snaps ∧ (restoreBank x1 x2 x3).id = x1.id ∧ (restoreBank x1 x2 x3).cham = x1.cham ∧ (restoreBank x1 x2 x3).kst = x1.kst ∧ (restoreBank x1 x2 x3).mbx = x1.mbx ∧ (restoreBank x1 x2 x3).str = x1.str ∧ (restoreBank x1 x2 x3).lan = x1.lan ∧ (restoreBank x1 x2 x3).bb = x1.bb ∧ (restoreBank x1 x2 x3).tim = x1.tim ∧ (restoreBank x1 x2 x3).lcy = x1.lcy ∧ (restoreBank x1 x2 x3).die = x1.die ∧ (restoreBank x1 x2 x3).rng = x1.rng ∧ (restoreBank x1 x2 x3).pke = x1.pke ∧ (restoreBank x1 x2 x3).eng = x1.eng ∧ (restoreBank x1 x2 x3).host = x1.host ∧ (restoreBank x1 x2 x3).geo = x1.geo ∧ (restoreBank x1 x2 x3).flash = x1.flash ∧ (restoreBank x1 x2 x3).wld = x1.wld ∧ (restoreBank x1 x2 x3).kar = x1.kar ∧ (restoreBank x1 x2 x3).ctl = x1.ctl := by unfold restoreBank; simp

@[simp ↓] theorem restoreWire_frame (x1 x2 x3 x4) :
    (restoreWire x1 x2 x3 x4).pending = x1.pending ∧ (restoreWire x1 x2 x3 x4).now = x1.now ∧ (restoreWire x1 x2 x3 x4).fresh = x1.fresh ∧ (restoreWire x1 x2 x3 x4).out = x1.out ∧ (restoreWire x1 x2 x3 x4).snaps = x1.snaps ∧ (restoreWire x1 x2 x3 x4).id = x1.id ∧ (restoreWire x1 x2 x3 x4).cham = x1.cham ∧ (restoreWire x1 x2 x3 x4).kst = x1.kst ∧ (restoreWire x1 x2 x3 x4).mbx = x1.mbx ∧ (restoreWire x1 x2 x3 x4).lan = x1.lan ∧ (restoreWire x1 x2 x3 x4).bb = x1.bb ∧ (restoreWire x1 x2 x3 x4).tim = x1.tim ∧ (restoreWire x1 x2 x3 x4).lcy = x1.lcy ∧ (restoreWire x1 x2 x3 x4).die = x1.die ∧ (restoreWire x1 x2 x3 x4).rng = x1.rng ∧ (restoreWire x1 x2 x3 x4).pke = x1.pke ∧ (restoreWire x1 x2 x3 x4).eng = x1.eng ∧ (restoreWire x1 x2 x3 x4).host = x1.host ∧ (restoreWire x1 x2 x3 x4).geo = x1.geo ∧ (restoreWire x1 x2 x3 x4).flash = x1.flash ∧ (restoreWire x1 x2 x3 x4).wld = x1.wld ∧ (restoreWire x1 x2 x3 x4).kar = x1.kar ∧ (restoreWire x1 x2 x3 x4).ctl = x1.ctl := by unfold restoreWire; simp

@[simp ↓] theorem restorePassage_frame (x1 x2) :
    (restorePassage x1 x2).pending = x1.pending ∧ (restorePassage x1 x2).now = x1.now ∧ (restorePassage x1 x2).fresh = x1.fresh ∧ (restorePassage x1 x2).out = x1.out ∧ (restorePassage x1 x2).snaps = x1.snaps ∧ (restorePassage x1 x2).id = x1.id ∧ (restorePassage x1 x2).cham = x1.cham ∧ (restorePassage x1 x2).kst = x1.kst ∧ (restorePassage x1 x2).mbx = x1.mbx ∧ (restorePassage x1 x2).lan = x1.lan ∧ (restorePassage x1 x2).bb = x1.bb ∧ (restorePassage x1 x2).tim = x1.tim ∧ (restorePassage x1 x2).lcy = x1.lcy ∧ (restorePassage x1 x2).die = x1.die ∧ (restorePassage x1 x2).rng = x1.rng ∧ (restorePassage x1 x2).pke = x1.pke ∧ (restorePassage x1 x2).eng = x1.eng ∧ (restorePassage x1 x2).host = x1.host ∧ (restorePassage x1 x2).geo = x1.geo ∧ (restorePassage x1 x2).flash = x1.flash ∧ (restorePassage x1 x2).wld = x1.wld ∧ (restorePassage x1 x2).kar = x1.kar ∧ (restorePassage x1 x2).ctl = x1.ctl := by unfold restorePassage; simp

@[simp ↓] theorem restoreSettings_frame (x1 x2) :
    (restoreSettings x1 x2).pending = x1.pending ∧ (restoreSettings x1 x2).now = x1.now ∧ (restoreSettings x1 x2).fresh = x1.fresh ∧ (restoreSettings x1 x2).out = x1.out ∧ (restoreSettings x1 x2).snaps = x1.snaps ∧ (restoreSettings x1 x2).psg = x1.psg ∧ (restoreSettings x1 x2).kst = x1.kst ∧ (restoreSettings x1 x2).mbx = x1.mbx ∧ (restoreSettings x1 x2).lan = x1.lan ∧ (restoreSettings x1 x2).bb = x1.bb ∧ (restoreSettings x1 x2).lcy = x1.lcy ∧ (restoreSettings x1 x2).die = x1.die ∧ (restoreSettings x1 x2).rng = x1.rng ∧ (restoreSettings x1 x2).eng = x1.eng ∧ (restoreSettings x1 x2).host = x1.host ∧ (restoreSettings x1 x2).geo = x1.geo ∧ (restoreSettings x1 x2).flash = x1.flash ∧ (restoreSettings x1 x2).wld = x1.wld ∧ (restoreSettings x1 x2).kar = x1.kar ∧ (restoreSettings x1 x2).ctl = x1.ctl := by unfold restoreSettings; simp

@[simp ↓] theorem releaseSync_frame (x1) :
    (releaseSync x1).pending = x1.pending ∧ (releaseSync x1).now = x1.now ∧ (releaseSync x1).fresh = x1.fresh ∧ (releaseSync x1).snaps = x1.snaps ∧ (releaseSync x1).psg = x1.psg ∧ (releaseSync x1).kst = x1.kst ∧ (releaseSync x1).mbx = x1.mbx ∧ (releaseSync x1).str = x1.str ∧ (releaseSync x1).lan = x1.lan ∧ (releaseSync x1).bb = x1.bb ∧ (releaseSync x1).tim = x1.tim ∧ (releaseSync x1).lcy = x1.lcy ∧ (releaseSync x1).die = x1.die ∧ (releaseSync x1).rng = x1.rng ∧ (releaseSync x1).pke = x1.pke ∧ (releaseSync x1).eng = x1.eng ∧ (releaseSync x1).host = x1.host ∧ (releaseSync x1).geo = x1.geo ∧ (releaseSync x1).flash = x1.flash ∧ (releaseSync x1).wld = x1.wld ∧ (releaseSync x1).kar = x1.kar ∧ (releaseSync x1).ctl = x1.ctl := by unfold releaseSync; simp

end Sys2Proof.Machine
end

