-- ==== Sys2Proof/Laws/Frames/Attest.lean ====
section
/-!
SUPPORT. What the operations of Machine/Attest.lean leave unchanged: for each, every part of the state that it does not touch.
-/

set_option Elab.async false

set_option linter.all false
set_option maxRecDepth 2000

namespace Sys2Proof.Machine

@[simp ↓] theorem attest_frame (x1 x2 x3 x4 x5 x6 x7) :
    (attest x1 x2 x3 x4 x5 x6 x7).2.pending = x1.pending ∧ (attest x1 x2 x3 x4 x5 x6 x7).2.now = x1.now ∧ (attest x1 x2 x3 x4 x5 x6 x7).2.out = x1.out ∧ (attest x1 x2 x3 x4 x5 x6 x7).2.snaps = x1.snaps ∧ (attest x1 x2 x3 x4 x5 x6 x7).2.id = x1.id ∧ (attest x1 x2 x3 x4 x5 x6 x7).2.psg = x1.psg ∧ (attest x1 x2 x3 x4 x5 x6 x7).2.cham = x1.cham ∧ (attest x1 x2 x3 x4 x5 x6 x7).2.mbx = x1.mbx ∧ (attest x1 x2 x3 x4 x5 x6 x7).2.str = x1.str ∧ (attest x1 x2 x3 x4 x5 x6 x7).2.lan = x1.lan ∧ (attest x1 x2 x3 x4 x5 x6 x7).2.bb = x1.bb ∧ (attest x1 x2 x3 x4 x5 x6 x7).2.tim = x1.tim ∧ (attest x1 x2 x3 x4 x5 x6 x7).2.lcy = x1.lcy ∧ (attest x1 x2 x3 x4 x5 x6 x7).2.die = x1.die ∧ (attest x1 x2 x3 x4 x5 x6 x7).2.rng = x1.rng ∧ (attest x1 x2 x3 x4 x5 x6 x7).2.pke = x1.pke ∧ (attest x1 x2 x3 x4 x5 x6 x7).2.eng = x1.eng ∧ (attest x1 x2 x3 x4 x5 x6 x7).2.host = x1.host ∧ (attest x1 x2 x3 x4 x5 x6 x7).2.geo = x1.geo ∧ (attest x1 x2 x3 x4 x5 x6 x7).2.flash = x1.flash ∧ (attest x1 x2 x3 x4 x5 x6 x7).2.wld = x1.wld ∧ (attest x1 x2 x3 x4 x5 x6 x7).2.kar = x1.kar ∧ (attest x1 x2 x3 x4 x5 x6 x7).2.ctl = x1.ctl := by unfold attest; simp

theorem attest_frame_of {x1 x2 x3 x4 x5 x6 x7 x t} (h : attest x1 x2 x3 x4 x5 x6 x7 = (x, t)) :
    t.pending = x1.pending ∧ t.now = x1.now ∧ t.out = x1.out ∧ t.snaps = x1.snaps ∧ t.id = x1.id ∧ t.psg = x1.psg ∧ t.cham = x1.cham ∧ t.mbx = x1.mbx ∧ t.str = x1.str ∧ t.lan = x1.lan ∧ t.bb = x1.bb ∧ t.tim = x1.tim ∧ t.lcy = x1.lcy ∧ t.die = x1.die ∧ t.rng = x1.rng ∧ t.pke = x1.pke ∧ t.eng = x1.eng ∧ t.host = x1.host ∧ t.geo = x1.geo ∧ t.flash = x1.flash ∧ t.wld = x1.wld ∧ t.kar = x1.kar ∧ t.ctl = x1.ctl := by
  have e := attest_frame x1 x2 x3 x4 x5 x6 x7; rw [h] at e; exact e

end Sys2Proof.Machine
end

