-- ==== Sys2Proof/Laws/Frames/KarstOps.lean ====
section
/-!
SUPPORT. What the operations of Machine/KarstOps.lean leave unchanged: for each, every part of the state that it does not touch.
-/

set_option Elab.async false

set_option linter.all false
set_option maxRecDepth 2000

namespace Sys2Proof.Machine

@[simp ↓] theorem updKarst_frame (x1 x2) :
    (updKarst x1 x2).pending = x1.pending ∧ (updKarst x1 x2).now = x1.now ∧ (updKarst x1 x2).fresh = x1.fresh ∧ (updKarst x1 x2).out = x1.out ∧ (updKarst x1 x2).snaps = x1.snaps ∧ (updKarst x1 x2).id = x1.id ∧ (updKarst x1 x2).psg = x1.psg ∧ (updKarst x1 x2).cham = x1.cham ∧ (updKarst x1 x2).kst = x1.kst ∧ (updKarst x1 x2).mbx = x1.mbx ∧ (updKarst x1 x2).str = x1.str ∧ (updKarst x1 x2).lan = x1.lan ∧ (updKarst x1 x2).bb = x1.bb ∧ (updKarst x1 x2).tim = x1.tim ∧ (updKarst x1 x2).lcy = x1.lcy ∧ (updKarst x1 x2).die = x1.die ∧ (updKarst x1 x2).rng = x1.rng ∧ (updKarst x1 x2).pke = x1.pke ∧ (updKarst x1 x2).eng = x1.eng ∧ (updKarst x1 x2).host = x1.host ∧ (updKarst x1 x2).geo = x1.geo ∧ (updKarst x1 x2).wld = x1.wld ∧ (updKarst x1 x2).kar = x1.kar ∧ (updKarst x1 x2).ctl = x1.ctl := by unfold updKarst; simp

@[simp ↓] theorem updUnit_frame (x1 x2) :
    (updUnit x1 x2).pending = x1.pending ∧ (updUnit x1 x2).now = x1.now ∧ (updUnit x1 x2).fresh = x1.fresh ∧ (updUnit x1 x2).out = x1.out ∧ (updUnit x1 x2).snaps = x1.snaps ∧ (updUnit x1 x2).id = x1.id ∧ (updUnit x1 x2).psg = x1.psg ∧ (updUnit x1 x2).cham = x1.cham ∧ (updUnit x1 x2).kst = x1.kst ∧ (updUnit x1 x2).mbx = x1.mbx ∧ (updUnit x1 x2).str = x1.str ∧ (updUnit x1 x2).lan = x1.lan ∧ (updUnit x1 x2).bb = x1.bb ∧ (updUnit x1 x2).tim = x1.tim ∧ (updUnit x1 x2).lcy = x1.lcy ∧ (updUnit x1 x2).die = x1.die ∧ (updUnit x1 x2).rng = x1.rng ∧ (updUnit x1 x2).pke = x1.pke ∧ (updUnit x1 x2).eng = x1.eng ∧ (updUnit x1 x2).host = x1.host ∧ (updUnit x1 x2).geo = x1.geo ∧ (updUnit x1 x2).flash = x1.flash ∧ (updUnit x1 x2).wld = x1.wld ∧ (updUnit x1 x2).ctl = x1.ctl := by unfold updUnit; simp

@[simp ↓] theorem updSession_frame (x1 x2 x3) :
    (updSession x1 x2 x3).pending = x1.pending ∧ (updSession x1 x2 x3).now = x1.now ∧ (updSession x1 x2 x3).fresh = x1.fresh ∧ (updSession x1 x2 x3).out = x1.out ∧ (updSession x1 x2 x3).snaps = x1.snaps ∧ (updSession x1 x2 x3).id = x1.id ∧ (updSession x1 x2 x3).psg = x1.psg ∧ (updSession x1 x2 x3).cham = x1.cham ∧ (updSession x1 x2 x3).kst = x1.kst ∧ (updSession x1 x2 x3).mbx = x1.mbx ∧ (updSession x1 x2 x3).str = x1.str ∧ (updSession x1 x2 x3).lan = x1.lan ∧ (updSession x1 x2 x3).bb = x1.bb ∧ (updSession x1 x2 x3).tim = x1.tim ∧ (updSession x1 x2 x3).lcy = x1.lcy ∧ (updSession x1 x2 x3).die = x1.die ∧ (updSession x1 x2 x3).rng = x1.rng ∧ (updSession x1 x2 x3).pke = x1.pke ∧ (updSession x1 x2 x3).eng = x1.eng ∧ (updSession x1 x2 x3).host = x1.host ∧ (updSession x1 x2 x3).geo = x1.geo ∧ (updSession x1 x2 x3).flash = x1.flash ∧ (updSession x1 x2 x3).wld = x1.wld ∧ (updSession x1 x2 x3).ctl = x1.ctl := by unfold updSession; (repeat' split) <;> simp

@[simp ↓] theorem updRep_frame (x1 x2 x3) :
    (updRep x1 x2 x3).pending = x1.pending ∧ (updRep x1 x2 x3).now = x1.now ∧ (updRep x1 x2 x3).fresh = x1.fresh ∧ (updRep x1 x2 x3).out = x1.out ∧ (updRep x1 x2 x3).snaps = x1.snaps ∧ (updRep x1 x2 x3).id = x1.id ∧ (updRep x1 x2 x3).psg = x1.psg ∧ (updRep x1 x2 x3).cham = x1.cham ∧ (updRep x1 x2 x3).kst = x1.kst ∧ (updRep x1 x2 x3).mbx = x1.mbx ∧ (updRep x1 x2 x3).str = x1.str ∧ (updRep x1 x2 x3).lan = x1.lan ∧ (updRep x1 x2 x3).bb = x1.bb ∧ (updRep x1 x2 x3).tim = x1.tim ∧ (updRep x1 x2 x3).lcy = x1.lcy ∧ (updRep x1 x2 x3).die = x1.die ∧ (updRep x1 x2 x3).rng = x1.rng ∧ (updRep x1 x2 x3).pke = x1.pke ∧ (updRep x1 x2 x3).eng = x1.eng ∧ (updRep x1 x2 x3).host = x1.host ∧ (updRep x1 x2 x3).geo = x1.geo ∧ (updRep x1 x2 x3).wld = x1.wld ∧ (updRep x1 x2 x3).kar = x1.kar ∧ (updRep x1 x2 x3).ctl = x1.ctl := by unfold updRep; simp

@[simp ↓] theorem updKarDomain_frame (x1 x2 x3) :
    (updKarDomain x1 x2 x3).pending = x1.pending ∧ (updKarDomain x1 x2 x3).now = x1.now ∧ (updKarDomain x1 x2 x3).fresh = x1.fresh ∧ (updKarDomain x1 x2 x3).out = x1.out ∧ (updKarDomain x1 x2 x3).snaps = x1.snaps ∧ (updKarDomain x1 x2 x3).id = x1.id ∧ (updKarDomain x1 x2 x3).psg = x1.psg ∧ (updKarDomain x1 x2 x3).cham = x1.cham ∧ (updKarDomain x1 x2 x3).kst = x1.kst ∧ (updKarDomain x1 x2 x3).mbx = x1.mbx ∧ (updKarDomain x1 x2 x3).str = x1.str ∧ (updKarDomain x1 x2 x3).lan = x1.lan ∧ (updKarDomain x1 x2 x3).bb = x1.bb ∧ (updKarDomain x1 x2 x3).tim = x1.tim ∧ (updKarDomain x1 x2 x3).lcy = x1.lcy ∧ (updKarDomain x1 x2 x3).die = x1.die ∧ (updKarDomain x1 x2 x3).rng = x1.rng ∧ (updKarDomain x1 x2 x3).pke = x1.pke ∧ (updKarDomain x1 x2 x3).eng = x1.eng ∧ (updKarDomain x1 x2 x3).host = x1.host ∧ (updKarDomain x1 x2 x3).geo = x1.geo ∧ (updKarDomain x1 x2 x3).flash = x1.flash ∧ (updKarDomain x1 x2 x3).wld = x1.wld ∧ (updKarDomain x1 x2 x3).ctl = x1.ctl := by unfold updKarDomain; simp

@[simp ↓] theorem refreshKarst_frame (x1) :
    (refreshKarst x1).pending = x1.pending ∧ (refreshKarst x1).now = x1.now ∧ (refreshKarst x1).fresh = x1.fresh ∧ (refreshKarst x1).out = x1.out ∧ (refreshKarst x1).snaps = x1.snaps ∧ (refreshKarst x1).psg = x1.psg ∧ (refreshKarst x1).cham = x1.cham ∧ (refreshKarst x1).kst = x1.kst ∧ (refreshKarst x1).mbx = x1.mbx ∧ (refreshKarst x1).str = x1.str ∧ (refreshKarst x1).lan = x1.lan ∧ (refreshKarst x1).bb = x1.bb ∧ (refreshKarst x1).tim = x1.tim ∧ (refreshKarst x1).lcy = x1.lcy ∧ (refreshKarst x1).die = x1.die ∧ (refreshKarst x1).rng = x1.rng ∧ (refreshKarst x1).pke = x1.pke ∧ (refreshKarst x1).eng = x1.eng ∧ (refreshKarst x1).host = x1.host ∧ (refreshKarst x1).geo = x1.geo ∧ (refreshKarst x1).flash = x1.flash ∧ (refreshKarst x1).wld = x1.wld ∧ (refreshKarst x1).kar = x1.kar ∧ (refreshKarst x1).ctl = x1.ctl := by unfold refreshKarst; simp

@[simp ↓] theorem passChange_frame (x1 x2) :
    (passChange x1 x2).pending = x1.pending ∧ (passChange x1 x2).now = x1.now ∧ (passChange x1 x2).fresh = x1.fresh ∧ (passChange x1 x2).snaps = x1.snaps ∧ (passChange x1 x2).id = x1.id ∧ (passChange x1 x2).psg = x1.psg ∧ (passChange x1 x2).cham = x1.cham ∧ (passChange x1 x2).kst = x1.kst ∧ (passChange x1 x2).lan = x1.lan ∧ (passChange x1 x2).bb = x1.bb ∧ (passChange x1 x2).tim = x1.tim ∧ (passChange x1 x2).lcy = x1.lcy ∧ (passChange x1 x2).die = x1.die ∧ (passChange x1 x2).rng = x1.rng ∧ (passChange x1 x2).pke = x1.pke ∧ (passChange x1 x2).geo = x1.geo ∧ (passChange x1 x2).flash = x1.flash ∧ (passChange x1 x2).kar = x1.kar := by unfold passChange; (repeat' split) <;> simp

@[simp ↓] theorem clearKarst_frame (x1 x2) :
    (clearKarst x1 x2).pending = x1.pending ∧ (clearKarst x1 x2).now = x1.now ∧ (clearKarst x1 x2).fresh = x1.fresh ∧ (clearKarst x1 x2).snaps = x1.snaps ∧ (clearKarst x1 x2).psg = x1.psg ∧ (clearKarst x1 x2).cham = x1.cham ∧ (clearKarst x1 x2).lan = x1.lan ∧ (clearKarst x1 x2).bb = x1.bb ∧ (clearKarst x1 x2).tim = x1.tim ∧ (clearKarst x1 x2).lcy = x1.lcy ∧ (clearKarst x1 x2).die = x1.die ∧ (clearKarst x1 x2).rng = x1.rng ∧ (clearKarst x1 x2).pke = x1.pke ∧ (clearKarst x1 x2).geo = x1.geo := by unfold clearKarst; simp

@[simp ↓] theorem sendKar_frame (x1 x2 x3) :
    (sendKar x1 x2 x3).pending = x1.pending ∧ (sendKar x1 x2 x3).now = x1.now ∧ (sendKar x1 x2 x3).fresh = x1.fresh ∧ (sendKar x1 x2 x3).out = x1.out ∧ (sendKar x1 x2 x3).snaps = x1.snaps ∧ (sendKar x1 x2 x3).id = x1.id ∧ (sendKar x1 x2 x3).psg = x1.psg ∧ (sendKar x1 x2 x3).cham = x1.cham ∧ (sendKar x1 x2 x3).kst = x1.kst ∧ (sendKar x1 x2 x3).mbx = x1.mbx ∧ (sendKar x1 x2 x3).str = x1.str ∧ (sendKar x1 x2 x3).lan = x1.lan ∧ (sendKar x1 x2 x3).bb = x1.bb ∧ (sendKar x1 x2 x3).tim = x1.tim ∧ (sendKar x1 x2 x3).lcy = x1.lcy ∧ (sendKar x1 x2 x3).die = x1.die ∧ (sendKar x1 x2 x3).rng = x1.rng ∧ (sendKar x1 x2 x3).pke = x1.pke ∧ (sendKar x1 x2 x3).eng = x1.eng ∧ (sendKar x1 x2 x3).host = x1.host ∧ (sendKar x1 x2 x3).geo = x1.geo ∧ (sendKar x1 x2 x3).flash = x1.flash ∧ (sendKar x1 x2 x3).wld = x1.wld ∧ (sendKar x1 x2 x3).ctl = x1.ctl := by unfold sendKar; simp

@[simp ↓] theorem sendAll_frame (x1 x2 x3) :
    (sendAll x1 x2 x3).pending = x1.pending ∧ (sendAll x1 x2 x3).now = x1.now ∧ (sendAll x1 x2 x3).fresh = x1.fresh ∧ (sendAll x1 x2 x3).out = x1.out ∧ (sendAll x1 x2 x3).snaps = x1.snaps ∧ (sendAll x1 x2 x3).id = x1.id ∧ (sendAll x1 x2 x3).psg = x1.psg ∧ (sendAll x1 x2 x3).cham = x1.cham ∧ (sendAll x1 x2 x3).kst = x1.kst ∧ (sendAll x1 x2 x3).mbx = x1.mbx ∧ (sendAll x1 x2 x3).str = x1.str ∧ (sendAll x1 x2 x3).lan = x1.lan ∧ (sendAll x1 x2 x3).bb = x1.bb ∧ (sendAll x1 x2 x3).tim = x1.tim ∧ (sendAll x1 x2 x3).lcy = x1.lcy ∧ (sendAll x1 x2 x3).die = x1.die ∧ (sendAll x1 x2 x3).rng = x1.rng ∧ (sendAll x1 x2 x3).pke = x1.pke ∧ (sendAll x1 x2 x3).eng = x1.eng ∧ (sendAll x1 x2 x3).host = x1.host ∧ (sendAll x1 x2 x3).geo = x1.geo ∧ (sendAll x1 x2 x3).flash = x1.flash ∧ (sendAll x1 x2 x3).wld = x1.wld ∧ (sendAll x1 x2 x3).ctl = x1.ctl := by unfold sendAll; simp

@[simp ↓] theorem askKar_frame (x1 x2 x3 x4) :
    (askKar x1 x2 x3 x4).pending = x1.pending ∧ (askKar x1 x2 x3 x4).now = x1.now ∧ (askKar x1 x2 x3 x4).fresh = x1.fresh ∧ (askKar x1 x2 x3 x4).out = x1.out ∧ (askKar x1 x2 x3 x4).snaps = x1.snaps ∧ (askKar x1 x2 x3 x4).id = x1.id ∧ (askKar x1 x2 x3 x4).psg = x1.psg ∧ (askKar x1 x2 x3 x4).cham = x1.cham ∧ (askKar x1 x2 x3 x4).kst = x1.kst ∧ (askKar x1 x2 x3 x4).mbx = x1.mbx ∧ (askKar x1 x2 x3 x4).str = x1.str ∧ (askKar x1 x2 x3 x4).lan = x1.lan ∧ (askKar x1 x2 x3 x4).bb = x1.bb ∧ (askKar x1 x2 x3 x4).tim = x1.tim ∧ (askKar x1 x2 x3 x4).lcy = x1.lcy ∧ (askKar x1 x2 x3 x4).die = x1.die ∧ (askKar x1 x2 x3 x4).rng = x1.rng ∧ (askKar x1 x2 x3 x4).pke = x1.pke ∧ (askKar x1 x2 x3 x4).eng = x1.eng ∧ (askKar x1 x2 x3 x4).host = x1.host ∧ (askKar x1 x2 x3 x4).geo = x1.geo ∧ (askKar x1 x2 x3 x4).flash = x1.flash ∧ (askKar x1 x2 x3 x4).wld = x1.wld ∧ (askKar x1 x2 x3 x4).ctl = x1.ctl := by unfold askKar; simp

@[simp ↓] theorem answered_frame (x1 x2 x3 x4) :
    (answered x1 x2 x3 x4).pending = x1.pending ∧ (answered x1 x2 x3 x4).now = x1.now ∧ (answered x1 x2 x3 x4).fresh = x1.fresh ∧ (answered x1 x2 x3 x4).out = x1.out ∧ (answered x1 x2 x3 x4).snaps = x1.snaps ∧ (answered x1 x2 x3 x4).id = x1.id ∧ (answered x1 x2 x3 x4).psg = x1.psg ∧ (answered x1 x2 x3 x4).cham = x1.cham ∧ (answered x1 x2 x3 x4).kst = x1.kst ∧ (answered x1 x2 x3 x4).mbx = x1.mbx ∧ (answered x1 x2 x3 x4).str = x1.str ∧ (answered x1 x2 x3 x4).lan = x1.lan ∧ (answered x1 x2 x3 x4).bb = x1.bb ∧ (answered x1 x2 x3 x4).tim = x1.tim ∧ (answered x1 x2 x3 x4).lcy = x1.lcy ∧ (answered x1 x2 x3 x4).die = x1.die ∧ (answered x1 x2 x3 x4).rng = x1.rng ∧ (answered x1 x2 x3 x4).pke = x1.pke ∧ (answered x1 x2 x3 x4).eng = x1.eng ∧ (answered x1 x2 x3 x4).host = x1.host ∧ (answered x1 x2 x3 x4).geo = x1.geo ∧ (answered x1 x2 x3 x4).flash = x1.flash ∧ (answered x1 x2 x3 x4).wld = x1.wld ∧ (answered x1 x2 x3 x4).ctl = x1.ctl := by unfold answered; simp

@[simp ↓] theorem memberSign_frame (x1 x2) :
    (memberSign x1 x2).2.pending = x1.pending ∧ (memberSign x1 x2).2.now = x1.now ∧ (memberSign x1 x2).2.out = x1.out ∧ (memberSign x1 x2).2.snaps = x1.snaps ∧ (memberSign x1 x2).2.id = x1.id ∧ (memberSign x1 x2).2.psg = x1.psg ∧ (memberSign x1 x2).2.cham = x1.cham ∧ (memberSign x1 x2).2.kst = x1.kst ∧ (memberSign x1 x2).2.mbx = x1.mbx ∧ (memberSign x1 x2).2.str = x1.str ∧ (memberSign x1 x2).2.lan = x1.lan ∧ (memberSign x1 x2).2.bb = x1.bb ∧ (memberSign x1 x2).2.tim = x1.tim ∧ (memberSign x1 x2).2.lcy = x1.lcy ∧ (memberSign x1 x2).2.die = x1.die ∧ (memberSign x1 x2).2.rng = x1.rng ∧ (memberSign x1 x2).2.pke = x1.pke ∧ (memberSign x1 x2).2.eng = x1.eng ∧ (memberSign x1 x2).2.host = x1.host ∧ (memberSign x1 x2).2.geo = x1.geo ∧ (memberSign x1 x2).2.flash = x1.flash ∧ (memberSign x1 x2).2.wld = x1.wld ∧ (memberSign x1 x2).2.kar = x1.kar ∧ (memberSign x1 x2).2.ctl = x1.ctl := by unfold memberSign; simp

theorem memberSign_frame_of {x1 x2 x t} (h : memberSign x1 x2 = (x, t)) :
    t.pending = x1.pending ∧ t.now = x1.now ∧ t.out = x1.out ∧ t.snaps = x1.snaps ∧ t.id = x1.id ∧ t.psg = x1.psg ∧ t.cham = x1.cham ∧ t.kst = x1.kst ∧ t.mbx = x1.mbx ∧ t.str = x1.str ∧ t.lan = x1.lan ∧ t.bb = x1.bb ∧ t.tim = x1.tim ∧ t.lcy = x1.lcy ∧ t.die = x1.die ∧ t.rng = x1.rng ∧ t.pke = x1.pke ∧ t.eng = x1.eng ∧ t.host = x1.host ∧ t.geo = x1.geo ∧ t.flash = x1.flash ∧ t.wld = x1.wld ∧ t.kar = x1.kar ∧ t.ctl = x1.ctl := by
  have e := memberSign_frame x1 x2; rw [h] at e; exact e

@[simp ↓] theorem withdraw_frame (x1 x2) :
    (withdraw x1 x2).pending = x1.pending ∧ (withdraw x1 x2).now = x1.now ∧ (withdraw x1 x2).fresh = x1.fresh ∧ (withdraw x1 x2).out = x1.out ∧ (withdraw x1 x2).snaps = x1.snaps ∧ (withdraw x1 x2).id = x1.id ∧ (withdraw x1 x2).psg = x1.psg ∧ (withdraw x1 x2).cham = x1.cham ∧ (withdraw x1 x2).mbx = x1.mbx ∧ (withdraw x1 x2).str = x1.str ∧ (withdraw x1 x2).lan = x1.lan ∧ (withdraw x1 x2).bb = x1.bb ∧ (withdraw x1 x2).tim = x1.tim ∧ (withdraw x1 x2).lcy = x1.lcy ∧ (withdraw x1 x2).die = x1.die ∧ (withdraw x1 x2).rng = x1.rng ∧ (withdraw x1 x2).pke = x1.pke ∧ (withdraw x1 x2).eng = x1.eng ∧ (withdraw x1 x2).host = x1.host ∧ (withdraw x1 x2).geo = x1.geo ∧ (withdraw x1 x2).wld = x1.wld ∧ (withdraw x1 x2).kar = x1.kar ∧ (withdraw x1 x2).ctl = x1.ctl := by unfold withdraw; (repeat' split) <;> simp

@[simp ↓] theorem unwithdraw_frame (x1 x2) :
    (unwithdraw x1 x2).pending = x1.pending ∧ (unwithdraw x1 x2).now = x1.now ∧ (unwithdraw x1 x2).fresh = x1.fresh ∧ (unwithdraw x1 x2).out = x1.out ∧ (unwithdraw x1 x2).snaps = x1.snaps ∧ (unwithdraw x1 x2).id = x1.id ∧ (unwithdraw x1 x2).psg = x1.psg ∧ (unwithdraw x1 x2).cham = x1.cham ∧ (unwithdraw x1 x2).mbx = x1.mbx ∧ (unwithdraw x1 x2).str = x1.str ∧ (unwithdraw x1 x2).lan = x1.lan ∧ (unwithdraw x1 x2).bb = x1.bb ∧ (unwithdraw x1 x2).tim = x1.tim ∧ (unwithdraw x1 x2).lcy = x1.lcy ∧ (unwithdraw x1 x2).die = x1.die ∧ (unwithdraw x1 x2).rng = x1.rng ∧ (unwithdraw x1 x2).pke = x1.pke ∧ (unwithdraw x1 x2).eng = x1.eng ∧ (unwithdraw x1 x2).host = x1.host ∧ (unwithdraw x1 x2).geo = x1.geo ∧ (unwithdraw x1 x2).wld = x1.wld ∧ (unwithdraw x1 x2).kar = x1.kar ∧ (unwithdraw x1 x2).ctl = x1.ctl := by unfold unwithdraw; (repeat' split) <;> simp

@[simp ↓] theorem refreshCouncil_frame (x1) :
    (refreshCouncil x1).pending = x1.pending ∧ (refreshCouncil x1).now = x1.now ∧ (refreshCouncil x1).fresh = x1.fresh ∧ (refreshCouncil x1).out = x1.out ∧ (refreshCouncil x1).snaps = x1.snaps ∧ (refreshCouncil x1).id = x1.id ∧ (refreshCouncil x1).psg = x1.psg ∧ (refreshCouncil x1).cham = x1.cham ∧ (refreshCouncil x1).kst = x1.kst ∧ (refreshCouncil x1).mbx = x1.mbx ∧ (refreshCouncil x1).str = x1.str ∧ (refreshCouncil x1).lan = x1.lan ∧ (refreshCouncil x1).bb = x1.bb ∧ (refreshCouncil x1).tim = x1.tim ∧ (refreshCouncil x1).lcy = x1.lcy ∧ (refreshCouncil x1).die = x1.die ∧ (refreshCouncil x1).rng = x1.rng ∧ (refreshCouncil x1).pke = x1.pke ∧ (refreshCouncil x1).eng = x1.eng ∧ (refreshCouncil x1).host = x1.host ∧ (refreshCouncil x1).geo = x1.geo ∧ (refreshCouncil x1).wld = x1.wld ∧ (refreshCouncil x1).kar = x1.kar ∧ (refreshCouncil x1).ctl = x1.ctl := by unfold refreshCouncil; simp

@[simp ↓] theorem closeSession_frame (x1 x2) :
    (closeSession x1 x2).pending = x1.pending ∧ (closeSession x1 x2).now = x1.now ∧ (closeSession x1 x2).fresh = x1.fresh ∧ (closeSession x1 x2).out = x1.out ∧ (closeSession x1 x2).snaps = x1.snaps ∧ (closeSession x1 x2).psg = x1.psg ∧ (closeSession x1 x2).cham = x1.cham ∧ (closeSession x1 x2).kst = x1.kst ∧ (closeSession x1 x2).mbx = x1.mbx ∧ (closeSession x1 x2).str = x1.str ∧ (closeSession x1 x2).lan = x1.lan ∧ (closeSession x1 x2).bb = x1.bb ∧ (closeSession x1 x2).tim = x1.tim ∧ (closeSession x1 x2).lcy = x1.lcy ∧ (closeSession x1 x2).die = x1.die ∧ (closeSession x1 x2).rng = x1.rng ∧ (closeSession x1 x2).pke = x1.pke ∧ (closeSession x1 x2).eng = x1.eng ∧ (closeSession x1 x2).host = x1.host ∧ (closeSession x1 x2).geo = x1.geo ∧ (closeSession x1 x2).flash = x1.flash ∧ (closeSession x1 x2).wld = x1.wld ∧ (closeSession x1 x2).ctl = x1.ctl := by unfold closeSession; simp

@[simp ↓] theorem revokeMembers_frame (x1 x2) :
    (revokeMembers x1 x2).pending = x1.pending ∧ (revokeMembers x1 x2).now = x1.now ∧ (revokeMembers x1 x2).fresh = x1.fresh ∧ (revokeMembers x1 x2).snaps = x1.snaps ∧ (revokeMembers x1 x2).psg = x1.psg ∧ (revokeMembers x1 x2).cham = x1.cham ∧ (revokeMembers x1 x2).lan = x1.lan ∧ (revokeMembers x1 x2).bb = x1.bb ∧ (revokeMembers x1 x2).tim = x1.tim ∧ (revokeMembers x1 x2).lcy = x1.lcy ∧ (revokeMembers x1 x2).die = x1.die ∧ (revokeMembers x1 x2).rng = x1.rng ∧ (revokeMembers x1 x2).pke = x1.pke ∧ (revokeMembers x1 x2).geo = x1.geo := by unfold revokeMembers; simp

@[simp ↓] theorem enterRoster_frame (x1 x2) :
    (enterRoster x1 x2).pending = x1.pending ∧ (enterRoster x1 x2).now = x1.now ∧ (enterRoster x1 x2).fresh = x1.fresh ∧ (enterRoster x1 x2).out = x1.out ∧ (enterRoster x1 x2).snaps = x1.snaps ∧ (enterRoster x1 x2).id = x1.id ∧ (enterRoster x1 x2).psg = x1.psg ∧ (enterRoster x1 x2).cham = x1.cham ∧ (enterRoster x1 x2).kst = x1.kst ∧ (enterRoster x1 x2).mbx = x1.mbx ∧ (enterRoster x1 x2).str = x1.str ∧ (enterRoster x1 x2).lan = x1.lan ∧ (enterRoster x1 x2).bb = x1.bb ∧ (enterRoster x1 x2).tim = x1.tim ∧ (enterRoster x1 x2).lcy = x1.lcy ∧ (enterRoster x1 x2).die = x1.die ∧ (enterRoster x1 x2).rng = x1.rng ∧ (enterRoster x1 x2).pke = x1.pke ∧ (enterRoster x1 x2).eng = x1.eng ∧ (enterRoster x1 x2).host = x1.host ∧ (enterRoster x1 x2).geo = x1.geo ∧ (enterRoster x1 x2).wld = x1.wld ∧ (enterRoster x1 x2).kar = x1.kar ∧ (enterRoster x1 x2).ctl = x1.ctl := by unfold enterRoster; simp

@[simp ↓] theorem applyKind_frame (x1 x2 x3) :
    (applyKind x1 x2 x3).pending = x1.pending ∧ (applyKind x1 x2 x3).now = x1.now ∧ (applyKind x1 x2 x3).fresh = x1.fresh ∧ (applyKind x1 x2 x3).snaps = x1.snaps ∧ (applyKind x1 x2 x3).psg = x1.psg ∧ (applyKind x1 x2 x3).cham = x1.cham ∧ (applyKind x1 x2 x3).lan = x1.lan ∧ (applyKind x1 x2 x3).bb = x1.bb ∧ (applyKind x1 x2 x3).tim = x1.tim ∧ (applyKind x1 x2 x3).lcy = x1.lcy ∧ (applyKind x1 x2 x3).die = x1.die ∧ (applyKind x1 x2 x3).rng = x1.rng ∧ (applyKind x1 x2 x3).pke = x1.pke ∧ (applyKind x1 x2 x3).geo = x1.geo := by unfold applyKind; (repeat' split) <;> simp

@[simp ↓] theorem applyCommit_frame (x1 x2 x3 x4) :
    (applyCommit x1 x2 x3 x4).pending = x1.pending ∧ (applyCommit x1 x2 x3 x4).now = x1.now ∧ (applyCommit x1 x2 x3 x4).fresh = x1.fresh ∧ (applyCommit x1 x2 x3 x4).snaps = x1.snaps ∧ (applyCommit x1 x2 x3 x4).psg = x1.psg ∧ (applyCommit x1 x2 x3 x4).cham = x1.cham ∧ (applyCommit x1 x2 x3 x4).lan = x1.lan ∧ (applyCommit x1 x2 x3 x4).bb = x1.bb ∧ (applyCommit x1 x2 x3 x4).tim = x1.tim ∧ (applyCommit x1 x2 x3 x4).lcy = x1.lcy ∧ (applyCommit x1 x2 x3 x4).die = x1.die ∧ (applyCommit x1 x2 x3 x4).rng = x1.rng ∧ (applyCommit x1 x2 x3 x4).pke = x1.pke := by unfold applyCommit; simp

@[simp ↓] theorem commitSigned_pending (x1 x2 x3) : (commitSigned x1 x2 x3).pending = x3.pending := by
  induction x2 generalizing x3 with
  | zero => simp [commitSigned]
  | succ n ih => unfold commitSigned; dsimp only; (repeat' split) <;> simp [*]

@[simp ↓] theorem commitSigned_now (x1 x2 x3) : (commitSigned x1 x2 x3).now = x3.now := by
  induction x2 generalizing x3 with
  | zero => simp [commitSigned]
  | succ n ih => unfold commitSigned; dsimp only; (repeat' split) <;> simp [*]

@[simp ↓] theorem commitSigned_fresh (x1 x2 x3) : (commitSigned x1 x2 x3).fresh = x3.fresh := by
  induction x2 generalizing x3 with
  | zero => simp [commitSigned]
  | succ n ih => unfold commitSigned; dsimp only; (repeat' split) <;> simp [*]

@[simp ↓] theorem commitSigned_snaps (x1 x2 x3) : (commitSigned x1 x2 x3).snaps = x3.snaps := by
  induction x2 generalizing x3 with
  | zero => simp [commitSigned]
  | succ n ih => unfold commitSigned; dsimp only; (repeat' split) <;> simp [*]

@[simp ↓] theorem commitSigned_psg (x1 x2 x3) : (commitSigned x1 x2 x3).psg = x3.psg := by
  induction x2 generalizing x3 with
  | zero => simp [commitSigned]
  | succ n ih => unfold commitSigned; dsimp only; (repeat' split) <;> simp [*]

@[simp ↓] theorem commitSigned_cham (x1 x2 x3) : (commitSigned x1 x2 x3).cham = x3.cham := by
  induction x2 generalizing x3 with
  | zero => simp [commitSigned]
  | succ n ih => unfold commitSigned; dsimp only; (repeat' split) <;> simp [*]

@[simp ↓] theorem commitSigned_lan (x1 x2 x3) : (commitSigned x1 x2 x3).lan = x3.lan := by
  induction x2 generalizing x3 with
  | zero => simp [commitSigned]
  | succ n ih => unfold commitSigned; dsimp only; (repeat' split) <;> simp [*]

@[simp ↓] theorem commitSigned_bb (x1 x2 x3) : (commitSigned x1 x2 x3).bb = x3.bb := by
  induction x2 generalizing x3 with
  | zero => simp [commitSigned]
  | succ n ih => unfold commitSigned; dsimp only; (repeat' split) <;> simp [*]

@[simp ↓] theorem commitSigned_tim (x1 x2 x3) : (commitSigned x1 x2 x3).tim = x3.tim := by
  induction x2 generalizing x3 with
  | zero => simp [commitSigned]
  | succ n ih => unfold commitSigned; dsimp only; (repeat' split) <;> simp [*]

@[simp ↓] theorem commitSigned_lcy (x1 x2 x3) : (commitSigned x1 x2 x3).lcy = x3.lcy := by
  induction x2 generalizing x3 with
  | zero => simp [commitSigned]
  | succ n ih => unfold commitSigned; dsimp only; (repeat' split) <;> simp [*]

@[simp ↓] theorem commitSigned_die (x1 x2 x3) : (commitSigned x1 x2 x3).die = x3.die := by
  induction x2 generalizing x3 with
  | zero => simp [commitSigned]
  | succ n ih => unfold commitSigned; dsimp only; (repeat' split) <;> simp [*]

@[simp ↓] theorem commitSigned_rng (x1 x2 x3) : (commitSigned x1 x2 x3).rng = x3.rng := by
  induction x2 generalizing x3 with
  | zero => simp [commitSigned]
  | succ n ih => unfold commitSigned; dsimp only; (repeat' split) <;> simp [*]

@[simp ↓] theorem commitSigned_pke (x1 x2 x3) : (commitSigned x1 x2 x3).pke = x3.pke := by
  induction x2 generalizing x3 with
  | zero => simp [commitSigned]
  | succ n ih => unfold commitSigned; dsimp only; (repeat' split) <;> simp [*]

@[simp ↓] theorem tryCommit_frame (x1 x2) :
    (tryCommit x1 x2).pending = x1.pending ∧ (tryCommit x1 x2).now = x1.now ∧ (tryCommit x1 x2).fresh = x1.fresh ∧ (tryCommit x1 x2).snaps = x1.snaps ∧ (tryCommit x1 x2).psg = x1.psg ∧ (tryCommit x1 x2).cham = x1.cham ∧ (tryCommit x1 x2).lan = x1.lan ∧ (tryCommit x1 x2).bb = x1.bb ∧ (tryCommit x1 x2).tim = x1.tim ∧ (tryCommit x1 x2).lcy = x1.lcy ∧ (tryCommit x1 x2).die = x1.die ∧ (tryCommit x1 x2).rng = x1.rng ∧ (tryCommit x1 x2).pke = x1.pke := by unfold tryCommit; simp

@[simp ↓] theorem proposeRecord_frame (x1 x2) :
    (proposeRecord x1 x2).pending = x1.pending ∧ (proposeRecord x1 x2).now = x1.now ∧ (proposeRecord x1 x2).out = x1.out ∧ (proposeRecord x1 x2).snaps = x1.snaps ∧ (proposeRecord x1 x2).id = x1.id ∧ (proposeRecord x1 x2).psg = x1.psg ∧ (proposeRecord x1 x2).cham = x1.cham ∧ (proposeRecord x1 x2).mbx = x1.mbx ∧ (proposeRecord x1 x2).str = x1.str ∧ (proposeRecord x1 x2).lan = x1.lan ∧ (proposeRecord x1 x2).bb = x1.bb ∧ (proposeRecord x1 x2).tim = x1.tim ∧ (proposeRecord x1 x2).lcy = x1.lcy ∧ (proposeRecord x1 x2).die = x1.die ∧ (proposeRecord x1 x2).rng = x1.rng ∧ (proposeRecord x1 x2).pke = x1.pke ∧ (proposeRecord x1 x2).eng = x1.eng ∧ (proposeRecord x1 x2).host = x1.host ∧ (proposeRecord x1 x2).geo = x1.geo ∧ (proposeRecord x1 x2).wld = x1.wld ∧ (proposeRecord x1 x2).ctl = x1.ctl := by unfold proposeRecord; simp

@[simp ↓] theorem propose_frame (x1 x2 x3 x4 x5) :
    (propose x1 x2 x3 x4 x5).pending = x1.pending ∧ (propose x1 x2 x3 x4 x5).now = x1.now ∧ (propose x1 x2 x3 x4 x5).snaps = x1.snaps ∧ (propose x1 x2 x3 x4 x5).psg = x1.psg ∧ (propose x1 x2 x3 x4 x5).cham = x1.cham ∧ (propose x1 x2 x3 x4 x5).lan = x1.lan ∧ (propose x1 x2 x3 x4 x5).bb = x1.bb ∧ (propose x1 x2 x3 x4 x5).tim = x1.tim ∧ (propose x1 x2 x3 x4 x5).lcy = x1.lcy ∧ (propose x1 x2 x3 x4 x5).die = x1.die ∧ (propose x1 x2 x3 x4 x5).rng = x1.rng ∧ (propose x1 x2 x3 x4 x5).pke = x1.pke := by unfold propose; simp

@[simp ↓] theorem forwardChange_frame (x1 x2 x3 x4 x5) :
    (forwardChange x1 x2 x3 x4 x5).pending = x1.pending ∧ (forwardChange x1 x2 x3 x4 x5).now = x1.now ∧ (forwardChange x1 x2 x3 x4 x5).fresh = x1.fresh ∧ (forwardChange x1 x2 x3 x4 x5).out = x1.out ∧ (forwardChange x1 x2 x3 x4 x5).snaps = x1.snaps ∧ (forwardChange x1 x2 x3 x4 x5).id = x1.id ∧ (forwardChange x1 x2 x3 x4 x5).psg = x1.psg ∧ (forwardChange x1 x2 x3 x4 x5).cham = x1.cham ∧ (forwardChange x1 x2 x3 x4 x5).kst = x1.kst ∧ (forwardChange x1 x2 x3 x4 x5).mbx = x1.mbx ∧ (forwardChange x1 x2 x3 x4 x5).str = x1.str ∧ (forwardChange x1 x2 x3 x4 x5).lan = x1.lan ∧ (forwardChange x1 x2 x3 x4 x5).bb = x1.bb ∧ (forwardChange x1 x2 x3 x4 x5).tim = x1.tim ∧ (forwardChange x1 x2 x3 x4 x5).lcy = x1.lcy ∧ (forwardChange x1 x2 x3 x4 x5).die = x1.die ∧ (forwardChange x1 x2 x3 x4 x5).rng = x1.rng ∧ (forwardChange x1 x2 x3 x4 x5).pke = x1.pke ∧ (forwardChange x1 x2 x3 x4 x5).eng = x1.eng ∧ (forwardChange x1 x2 x3 x4 x5).host = x1.host ∧ (forwardChange x1 x2 x3 x4 x5).geo = x1.geo ∧ (forwardChange x1 x2 x3 x4 x5).flash = x1.flash ∧ (forwardChange x1 x2 x3 x4 x5).wld = x1.wld ∧ (forwardChange x1 x2 x3 x4 x5).ctl = x1.ctl := by unfold forwardChange; simp

@[simp ↓] theorem submitChange_frame (x1 x2 x3 x4) :
    (submitChange x1 x2 x3 x4).pending = x1.pending ∧ (submitChange x1 x2 x3 x4).now = x1.now ∧ (submitChange x1 x2 x3 x4).snaps = x1.snaps ∧ (submitChange x1 x2 x3 x4).psg = x1.psg ∧ (submitChange x1 x2 x3 x4).cham = x1.cham ∧ (submitChange x1 x2 x3 x4).lan = x1.lan ∧ (submitChange x1 x2 x3 x4).bb = x1.bb ∧ (submitChange x1 x2 x3 x4).tim = x1.tim ∧ (submitChange x1 x2 x3 x4).lcy = x1.lcy ∧ (submitChange x1 x2 x3 x4).die = x1.die ∧ (submitChange x1 x2 x3 x4).rng = x1.rng ∧ (submitChange x1 x2 x3 x4).pke = x1.pke := by unfold submitChange; (repeat' split) <;> simp

@[simp ↓] theorem submitGathered_pending (x1) : (submitGathered x1).pending = x1.pending := by unfold submitGathered; dsimp only; (repeat' split)  <;> (first | simp [*] | (rw [st_foldl_pending _ _ _ (by intros; (repeat' split)  <;> simp [*])]; try simp [*]) | (rw [st_foldr_pending _ _ _ (by intros; (repeat' split)  <;> simp [*])]; try simp [*]) | (simp [*]; rw [st_foldl_pending _ _ _ (by intros; (repeat' split)  <;> simp [*])]; try simp [*]) | (simp [*]; (repeat' split)  <;> simp [*]))

@[simp ↓] theorem submitGathered_now (x1) : (submitGathered x1).now = x1.now := by unfold submitGathered; dsimp only; (repeat' split)  <;> (first | simp [*] | (rw [st_foldl_now _ _ _ (by intros; (repeat' split)  <;> simp [*])]; try simp [*]) | (rw [st_foldr_now _ _ _ (by intros; (repeat' split)  <;> simp [*])]; try simp [*]) | (simp [*]; rw [st_foldl_now _ _ _ (by intros; (repeat' split)  <;> simp [*])]; try simp [*]) | (simp [*]; (repeat' split)  <;> simp [*]))

@[simp ↓] theorem submitGathered_snaps (x1) : (submitGathered x1).snaps = x1.snaps := by unfold submitGathered; dsimp only; (repeat' split)  <;> (first | simp [*] | (rw [st_foldl_snaps _ _ _ (by intros; (repeat' split)  <;> simp [*])]; try simp [*]) | (rw [st_foldr_snaps _ _ _ (by intros; (repeat' split)  <;> simp [*])]; try simp [*]) | (simp [*]; rw [st_foldl_snaps _ _ _ (by intros; (repeat' split)  <;> simp [*])]; try simp [*]) | (simp [*]; (repeat' split)  <;> simp [*]))

@[simp ↓] theorem submitGathered_psg (x1) : (submitGathered x1).psg = x1.psg := by unfold submitGathered; dsimp only; (repeat' split)  <;> (first | simp [*] | (rw [st_foldl_psg _ _ _ (by intros; (repeat' split)  <;> simp [*])]; try simp [*]) | (rw [st_foldr_psg _ _ _ (by intros; (repeat' split)  <;> simp [*])]; try simp [*]) | (simp [*]; rw [st_foldl_psg _ _ _ (by intros; (repeat' split)  <;> simp [*])]; try simp [*]) | (simp [*]; (repeat' split)  <;> simp [*]))

@[simp ↓] theorem submitGathered_cham (x1) : (submitGathered x1).cham = x1.cham := by unfold submitGathered; dsimp only; (repeat' split)  <;> (first | simp [*] | (rw [st_foldl_cham _ _ _ (by intros; (repeat' split)  <;> simp [*])]; try simp [*]) | (rw [st_foldr_cham _ _ _ (by intros; (repeat' split)  <;> simp [*])]; try simp [*]) | (simp [*]; rw [st_foldl_cham _ _ _ (by intros; (repeat' split)  <;> simp [*])]; try simp [*]) | (simp [*]; (repeat' split)  <;> simp [*]))

@[simp ↓] theorem submitGathered_lan (x1) : (submitGathered x1).lan = x1.lan := by unfold submitGathered; dsimp only; (repeat' split)  <;> (first | simp [*] | (rw [st_foldl_lan _ _ _ (by intros; (repeat' split)  <;> simp [*])]; try simp [*]) | (rw [st_foldr_lan _ _ _ (by intros; (repeat' split)  <;> simp [*])]; try simp [*]) | (simp [*]; rw [st_foldl_lan _ _ _ (by intros; (repeat' split)  <;> simp [*])]; try simp [*]) | (simp [*]; (repeat' split)  <;> simp [*]))

@[simp ↓] theorem submitGathered_bb (x1) : (submitGathered x1).bb = x1.bb := by unfold submitGathered; dsimp only; (repeat' split)  <;> (first | simp [*] | (rw [st_foldl_bb _ _ _ (by intros; (repeat' split)  <;> simp [*])]; try simp [*]) | (rw [st_foldr_bb _ _ _ (by intros; (repeat' split)  <;> simp [*])]; try simp [*]) | (simp [*]; rw [st_foldl_bb _ _ _ (by intros; (repeat' split)  <;> simp [*])]; try simp [*]) | (simp [*]; (repeat' split)  <;> simp [*]))

@[simp ↓] theorem submitGathered_tim (x1) : (submitGathered x1).tim = x1.tim := by unfold submitGathered; dsimp only; (repeat' split)  <;> (first | simp [*] | (rw [st_foldl_tim _ _ _ (by intros; (repeat' split)  <;> simp [*])]; try simp [*]) | (rw [st_foldr_tim _ _ _ (by intros; (repeat' split)  <;> simp [*])]; try simp [*]) | (simp [*]; rw [st_foldl_tim _ _ _ (by intros; (repeat' split)  <;> simp [*])]; try simp [*]) | (simp [*]; (repeat' split)  <;> simp [*]))

@[simp ↓] theorem submitGathered_lcy (x1) : (submitGathered x1).lcy = x1.lcy := by unfold submitGathered; dsimp only; (repeat' split)  <;> (first | simp [*] | (rw [st_foldl_lcy _ _ _ (by intros; (repeat' split)  <;> simp [*])]; try simp [*]) | (rw [st_foldr_lcy _ _ _ (by intros; (repeat' split)  <;> simp [*])]; try simp [*]) | (simp [*]; rw [st_foldl_lcy _ _ _ (by intros; (repeat' split)  <;> simp [*])]; try simp [*]) | (simp [*]; (repeat' split)  <;> simp [*]))

@[simp ↓] theorem submitGathered_die (x1) : (submitGathered x1).die = x1.die := by unfold submitGathered; dsimp only; (repeat' split)  <;> (first | simp [*] | (rw [st_foldl_die _ _ _ (by intros; (repeat' split)  <;> simp [*])]; try simp [*]) | (rw [st_foldr_die _ _ _ (by intros; (repeat' split)  <;> simp [*])]; try simp [*]) | (simp [*]; rw [st_foldl_die _ _ _ (by intros; (repeat' split)  <;> simp [*])]; try simp [*]) | (simp [*]; (repeat' split)  <;> simp [*]))

@[simp ↓] theorem submitGathered_rng (x1) : (submitGathered x1).rng = x1.rng := by unfold submitGathered; dsimp only; (repeat' split)  <;> (first | simp [*] | (rw [st_foldl_rng _ _ _ (by intros; (repeat' split)  <;> simp [*])]; try simp [*]) | (rw [st_foldr_rng _ _ _ (by intros; (repeat' split)  <;> simp [*])]; try simp [*]) | (simp [*]; rw [st_foldl_rng _ _ _ (by intros; (repeat' split)  <;> simp [*])]; try simp [*]) | (simp [*]; (repeat' split)  <;> simp [*]))

@[simp ↓] theorem submitGathered_pke (x1) : (submitGathered x1).pke = x1.pke := by unfold submitGathered; dsimp only; (repeat' split)  <;> (first | simp [*] | (rw [st_foldl_pke _ _ _ (by intros; (repeat' split)  <;> simp [*])]; try simp [*]) | (rw [st_foldr_pke _ _ _ (by intros; (repeat' split)  <;> simp [*])]; try simp [*]) | (simp [*]; rw [st_foldl_pke _ _ _ (by intros; (repeat' split)  <;> simp [*])]; try simp [*]) | (simp [*]; (repeat' split)  <;> simp [*]))

end Sys2Proof.Machine
end

