-- ==== Sys2Proof/Laws/Frames/KarstUnit.lean ====
section
/-!
SUPPORT. What the operations of Machine/KarstUnit.lean leave unchanged: for each, every part of the state that it does not touch.
-/

set_option Elab.async false

set_option linter.all false
set_option maxRecDepth 2000

namespace Sys2Proof.Machine

theorem drawHello_pending_of {x1}{x t} (h : (Sys2Proof.Machine.drawHello x1) = some (x, t)) : t.pending = x1.pending := by
  unfold drawHello at h; split at h
  · rename_i e; cases h; exact (draw_frame_of e).1
  · cases h

theorem drawHello_now_of {x1}{x t} (h : (Sys2Proof.Machine.drawHello x1) = some (x, t)) : t.now = x1.now := by
  unfold drawHello at h; split at h
  · rename_i e; cases h; exact (draw_frame_of e).2.1
  · cases h

theorem drawHello_fresh_of {x1}{x t} (h : (Sys2Proof.Machine.drawHello x1) = some (x, t)) : t.fresh = x1.fresh := by
  unfold drawHello at h; split at h
  · rename_i e; cases h; exact (draw_frame_of e).2.2.1
  · cases h

theorem drawHello_snaps_of {x1}{x t} (h : (Sys2Proof.Machine.drawHello x1) = some (x, t)) : t.snaps = x1.snaps := by
  unfold drawHello at h; split at h
  · rename_i e; cases h; exact (draw_frame_of e).2.2.2.1
  · cases h

theorem drawHello_id_of {x1}{x t} (h : (Sys2Proof.Machine.drawHello x1) = some (x, t)) : t.id = x1.id := by
  unfold drawHello at h; split at h
  · rename_i e; cases h; exact (draw_frame_of e).2.2.2.2.1
  · cases h

theorem drawHello_cham_of {x1}{x t} (h : (Sys2Proof.Machine.drawHello x1) = some (x, t)) : t.cham = x1.cham := by
  unfold drawHello at h; split at h
  · rename_i e; cases h; exact (draw_frame_of e).2.2.2.2.2.1
  · cases h

theorem drawHello_kst_of {x1}{x t} (h : (Sys2Proof.Machine.drawHello x1) = some (x, t)) : t.kst = x1.kst := by
  unfold drawHello at h; split at h
  · rename_i e; cases h; exact (draw_frame_of e).2.2.2.2.2.2.1
  · cases h

theorem drawHello_str_of {x1}{x t} (h : (Sys2Proof.Machine.drawHello x1) = some (x, t)) : t.str = x1.str := by
  unfold drawHello at h; split at h
  · rename_i e; cases h; exact (draw_frame_of e).2.2.2.2.2.2.2.1
  · cases h

theorem drawHello_lan_of {x1}{x t} (h : (Sys2Proof.Machine.drawHello x1) = some (x, t)) : t.lan = x1.lan := by
  unfold drawHello at h; split at h
  · rename_i e; cases h; exact (draw_frame_of e).2.2.2.2.2.2.2.2.1
  · cases h

theorem drawHello_bb_of {x1}{x t} (h : (Sys2Proof.Machine.drawHello x1) = some (x, t)) : t.bb = x1.bb := by
  unfold drawHello at h; split at h
  · rename_i e; cases h; exact (draw_frame_of e).2.2.2.2.2.2.2.2.2.1
  · cases h

theorem drawHello_tim_of {x1}{x t} (h : (Sys2Proof.Machine.drawHello x1) = some (x, t)) : t.tim = x1.tim := by
  unfold drawHello at h; split at h
  · rename_i e; cases h; exact (draw_frame_of e).2.2.2.2.2.2.2.2.2.2.1
  · cases h

theorem drawHello_die_of {x1}{x t} (h : (Sys2Proof.Machine.drawHello x1) = some (x, t)) : t.die = x1.die := by
  unfold drawHello at h; split at h
  · rename_i e; cases h; exact (draw_frame_of e).2.2.2.2.2.2.2.2.2.2.2.1
  · cases h

theorem drawHello_pke_of {x1}{x t} (h : (Sys2Proof.Machine.drawHello x1) = some (x, t)) : t.pke = x1.pke := by
  unfold drawHello at h; split at h
  · rename_i e; cases h; exact (draw_frame_of e).2.2.2.2.2.2.2.2.2.2.2.2.1
  · cases h

theorem drawHello_geo_of {x1}{x t} (h : (Sys2Proof.Machine.drawHello x1) = some (x, t)) : t.geo = x1.geo := by
  unfold drawHello at h; split at h
  · rename_i e; cases h; exact (draw_frame_of e).2.2.2.2.2.2.2.2.2.2.2.2.2.1
  · cases h

theorem drawHello_flash_of {x1}{x t} (h : (Sys2Proof.Machine.drawHello x1) = some (x, t)) : t.flash = x1.flash := by
  unfold drawHello at h; split at h
  · rename_i e; cases h; exact (draw_frame_of e).2.2.2.2.2.2.2.2.2.2.2.2.2.2.1
  · cases h

theorem drawHello_kar_of {x1}{x t} (h : (Sys2Proof.Machine.drawHello x1) = some (x, t)) : t.kar = x1.kar := by
  unfold drawHello at h; split at h
  · rename_i e; cases h; exact (draw_frame_of e).2.2.2.2.2.2.2.2.2.2.2.2.2.2.2.1
  · cases h

theorem drawHello_ctl_of {x1}{x t} (h : (Sys2Proof.Machine.drawHello x1) = some (x, t)) : t.ctl = x1.ctl := by
  unfold drawHello at h; split at h
  · rename_i e; cases h; exact (draw_frame_of e).2.2.2.2.2.2.2.2.2.2.2.2.2.2.2.2
  · cases h

@[simp ↓] theorem offerTo_frame (x1 x2) :
    (offerTo x1 x2).pending = x1.pending ∧ (offerTo x1 x2).now = x1.now ∧ (offerTo x1 x2).snaps = x1.snaps ∧ (offerTo x1 x2).id = x1.id ∧ (offerTo x1 x2).cham = x1.cham ∧ (offerTo x1 x2).kst = x1.kst ∧ (offerTo x1 x2).str = x1.str ∧ (offerTo x1 x2).lan = x1.lan ∧ (offerTo x1 x2).bb = x1.bb ∧ (offerTo x1 x2).tim = x1.tim ∧ (offerTo x1 x2).die = x1.die ∧ (offerTo x1 x2).pke = x1.pke ∧ (offerTo x1 x2).geo = x1.geo ∧ (offerTo x1 x2).flash = x1.flash ∧ (offerTo x1 x2).ctl = x1.ctl := by unfold offerTo; dsimp only; (repeat' split) <;> (try have := drawHello_pending_of ‹_›) <;> (try have := drawHello_now_of ‹_›) <;> (try have := drawHello_snaps_of ‹_›) <;> (try have := drawHello_id_of ‹_›) <;> (try have := drawHello_cham_of ‹_›) <;> (try have := drawHello_kst_of ‹_›) <;> (try have := drawHello_str_of ‹_›) <;> (try have := drawHello_lan_of ‹_›) <;> (try have := drawHello_bb_of ‹_›) <;> (try have := drawHello_tim_of ‹_›) <;> (try have := drawHello_die_of ‹_›) <;> (try have := drawHello_pke_of ‹_›) <;> (try have := drawHello_geo_of ‹_›) <;> (try have := drawHello_flash_of ‹_›) <;> (try have := drawHello_ctl_of ‹_›) <;> (try have := signBlock_frame_of ‹_›) <;> simp [*]

@[simp ↓] theorem openKarst_frame (x1 x2 x3 x4) :
    (openKarst x1 x2 x3 x4).pending = x1.pending ∧ (openKarst x1 x2 x3 x4).now = x1.now ∧ (openKarst x1 x2 x3 x4).fresh = x1.fresh ∧ (openKarst x1 x2 x3 x4).out = x1.out ∧ (openKarst x1 x2 x3 x4).snaps = x1.snaps ∧ (openKarst x1 x2 x3 x4).psg = x1.psg ∧ (openKarst x1 x2 x3 x4).cham = x1.cham ∧ (openKarst x1 x2 x3 x4).kst = x1.kst ∧ (openKarst x1 x2 x3 x4).mbx = x1.mbx ∧ (openKarst x1 x2 x3 x4).str = x1.str ∧ (openKarst x1 x2 x3 x4).lan = x1.lan ∧ (openKarst x1 x2 x3 x4).bb = x1.bb ∧ (openKarst x1 x2 x3 x4).tim = x1.tim ∧ (openKarst x1 x2 x3 x4).lcy = x1.lcy ∧ (openKarst x1 x2 x3 x4).die = x1.die ∧ (openKarst x1 x2 x3 x4).rng = x1.rng ∧ (openKarst x1 x2 x3 x4).pke = x1.pke ∧ (openKarst x1 x2 x3 x4).eng = x1.eng ∧ (openKarst x1 x2 x3 x4).host = x1.host ∧ (openKarst x1 x2 x3 x4).geo = x1.geo ∧ (openKarst x1 x2 x3 x4).flash = x1.flash ∧ (openKarst x1 x2 x3 x4).wld = x1.wld ∧ (openKarst x1 x2 x3 x4).ctl = x1.ctl := by unfold openKarst; simp

@[simp ↓] theorem authFail_frame (x1) :
    (authFail x1).pending = x1.pending ∧ (authFail x1).now = x1.now ∧ (authFail x1).fresh = x1.fresh ∧ (authFail x1).out = x1.out ∧ (authFail x1).snaps = x1.snaps ∧ (authFail x1).id = x1.id ∧ (authFail x1).psg = x1.psg ∧ (authFail x1).cham = x1.cham ∧ (authFail x1).kst = x1.kst ∧ (authFail x1).mbx = x1.mbx ∧ (authFail x1).str = x1.str ∧ (authFail x1).lan = x1.lan ∧ (authFail x1).bb = x1.bb ∧ (authFail x1).tim = x1.tim ∧ (authFail x1).lcy = x1.lcy ∧ (authFail x1).die = x1.die ∧ (authFail x1).rng = x1.rng ∧ (authFail x1).pke = x1.pke ∧ (authFail x1).eng = x1.eng ∧ (authFail x1).host = x1.host ∧ (authFail x1).geo = x1.geo ∧ (authFail x1).flash = x1.flash ∧ (authFail x1).wld = x1.wld ∧ (authFail x1).ctl = x1.ctl := by unfold authFail; simp

@[simp ↓] theorem offerForWaiting_frame (x1) :
    (offerForWaiting x1).pending = x1.pending ∧ (offerForWaiting x1).now = x1.now ∧ (offerForWaiting x1).snaps = x1.snaps ∧ (offerForWaiting x1).id = x1.id ∧ (offerForWaiting x1).cham = x1.cham ∧ (offerForWaiting x1).kst = x1.kst ∧ (offerForWaiting x1).str = x1.str ∧ (offerForWaiting x1).lan = x1.lan ∧ (offerForWaiting x1).bb = x1.bb ∧ (offerForWaiting x1).tim = x1.tim ∧ (offerForWaiting x1).die = x1.die ∧ (offerForWaiting x1).pke = x1.pke ∧ (offerForWaiting x1).geo = x1.geo ∧ (offerForWaiting x1).flash = x1.flash ∧ (offerForWaiting x1).ctl = x1.ctl := by unfold offerForWaiting; simp

@[simp ↓] theorem sealPart_frame (x1 x2) :
    (sealPart x1 x2).2.pending = x1.pending ∧ (sealPart x1 x2).2.now = x1.now ∧ (sealPart x1 x2).2.fresh = x1.fresh ∧ (sealPart x1 x2).2.out = x1.out ∧ (sealPart x1 x2).2.snaps = x1.snaps ∧ (sealPart x1 x2).2.id = x1.id ∧ (sealPart x1 x2).2.psg = x1.psg ∧ (sealPart x1 x2).2.cham = x1.cham ∧ (sealPart x1 x2).2.kst = x1.kst ∧ (sealPart x1 x2).2.mbx = x1.mbx ∧ (sealPart x1 x2).2.str = x1.str ∧ (sealPart x1 x2).2.lan = x1.lan ∧ (sealPart x1 x2).2.bb = x1.bb ∧ (sealPart x1 x2).2.tim = x1.tim ∧ (sealPart x1 x2).2.lcy = x1.lcy ∧ (sealPart x1 x2).2.die = x1.die ∧ (sealPart x1 x2).2.rng = x1.rng ∧ (sealPart x1 x2).2.pke = x1.pke ∧ (sealPart x1 x2).2.eng = x1.eng ∧ (sealPart x1 x2).2.host = x1.host ∧ (sealPart x1 x2).2.geo = x1.geo ∧ (sealPart x1 x2).2.flash = x1.flash ∧ (sealPart x1 x2).2.wld = x1.wld ∧ (sealPart x1 x2).2.ctl = x1.ctl := by unfold sealPart; dsimp only; (repeat' split)  <;> simp [*]

theorem sealPart_frame_of {x1 x2 x t} (h : sealPart x1 x2 = (x, t)) :
    t.pending = x1.pending ∧ t.now = x1.now ∧ t.fresh = x1.fresh ∧ t.out = x1.out ∧ t.snaps = x1.snaps ∧ t.id = x1.id ∧ t.psg = x1.psg ∧ t.cham = x1.cham ∧ t.kst = x1.kst ∧ t.mbx = x1.mbx ∧ t.str = x1.str ∧ t.lan = x1.lan ∧ t.bb = x1.bb ∧ t.tim = x1.tim ∧ t.lcy = x1.lcy ∧ t.die = x1.die ∧ t.rng = x1.rng ∧ t.pke = x1.pke ∧ t.eng = x1.eng ∧ t.host = x1.host ∧ t.geo = x1.geo ∧ t.flash = x1.flash ∧ t.wld = x1.wld ∧ t.ctl = x1.ctl := by
  have e := sealPart_frame x1 x2; rw [h] at e; exact e

@[simp ↓] theorem takeOut_frame (x1 x2 x3) :
    (takeOut x1 x2 x3).pending = x1.pending ∧ (takeOut x1 x2 x3).now = x1.now ∧ (takeOut x1 x2 x3).fresh = x1.fresh ∧ (takeOut x1 x2 x3).snaps = x1.snaps ∧ (takeOut x1 x2 x3).id = x1.id ∧ (takeOut x1 x2 x3).psg = x1.psg ∧ (takeOut x1 x2 x3).cham = x1.cham ∧ (takeOut x1 x2 x3).kst = x1.kst ∧ (takeOut x1 x2 x3).str = x1.str ∧ (takeOut x1 x2 x3).lan = x1.lan ∧ (takeOut x1 x2 x3).bb = x1.bb ∧ (takeOut x1 x2 x3).tim = x1.tim ∧ (takeOut x1 x2 x3).lcy = x1.lcy ∧ (takeOut x1 x2 x3).die = x1.die ∧ (takeOut x1 x2 x3).rng = x1.rng ∧ (takeOut x1 x2 x3).pke = x1.pke ∧ (takeOut x1 x2 x3).eng = x1.eng ∧ (takeOut x1 x2 x3).geo = x1.geo ∧ (takeOut x1 x2 x3).flash = x1.flash ∧ (takeOut x1 x2 x3).ctl = x1.ctl := by unfold takeOut; simp

@[simp ↓] theorem payloadIn_frame (x1 x2 x3 x4 x5 x6) :
    (payloadIn x1 x2 x3 x4 x5 x6).pending = x1.pending ∧ (payloadIn x1 x2 x3 x4 x5 x6).now = x1.now ∧ (payloadIn x1 x2 x3 x4 x5 x6).fresh = x1.fresh ∧ (payloadIn x1 x2 x3 x4 x5 x6).out = x1.out ∧ (payloadIn x1 x2 x3 x4 x5 x6).snaps = x1.snaps ∧ (payloadIn x1 x2 x3 x4 x5 x6).id = x1.id ∧ (payloadIn x1 x2 x3 x4 x5 x6).psg = x1.psg ∧ (payloadIn x1 x2 x3 x4 x5 x6).cham = x1.cham ∧ (payloadIn x1 x2 x3 x4 x5 x6).kst = x1.kst ∧ (payloadIn x1 x2 x3 x4 x5 x6).mbx = x1.mbx ∧ (payloadIn x1 x2 x3 x4 x5 x6).str = x1.str ∧ (payloadIn x1 x2 x3 x4 x5 x6).lan = x1.lan ∧ (payloadIn x1 x2 x3 x4 x5 x6).bb = x1.bb ∧ (payloadIn x1 x2 x3 x4 x5 x6).tim = x1.tim ∧ (payloadIn x1 x2 x3 x4 x5 x6).lcy = x1.lcy ∧ (payloadIn x1 x2 x3 x4 x5 x6).die = x1.die ∧ (payloadIn x1 x2 x3 x4 x5 x6).rng = x1.rng ∧ (payloadIn x1 x2 x3 x4 x5 x6).pke = x1.pke ∧ (payloadIn x1 x2 x3 x4 x5 x6).eng = x1.eng ∧ (payloadIn x1 x2 x3 x4 x5 x6).host = x1.host ∧ (payloadIn x1 x2 x3 x4 x5 x6).geo = x1.geo ∧ (payloadIn x1 x2 x3 x4 x5 x6).flash = x1.flash ∧ (payloadIn x1 x2 x3 x4 x5 x6).wld = x1.wld ∧ (payloadIn x1 x2 x3 x4 x5 x6).ctl = x1.ctl := by unfold payloadIn; simp

@[simp ↓] theorem partIn_frame (x1 x2 x3 x4 x5 x6 x7 x8) :
    (partIn x1 x2 x3 x4 x5 x6 x7 x8).pending = x1.pending ∧ (partIn x1 x2 x3 x4 x5 x6 x7 x8).now = x1.now ∧ (partIn x1 x2 x3 x4 x5 x6 x7 x8).fresh = x1.fresh ∧ (partIn x1 x2 x3 x4 x5 x6 x7 x8).out = x1.out ∧ (partIn x1 x2 x3 x4 x5 x6 x7 x8).snaps = x1.snaps ∧ (partIn x1 x2 x3 x4 x5 x6 x7 x8).id = x1.id ∧ (partIn x1 x2 x3 x4 x5 x6 x7 x8).psg = x1.psg ∧ (partIn x1 x2 x3 x4 x5 x6 x7 x8).cham = x1.cham ∧ (partIn x1 x2 x3 x4 x5 x6 x7 x8).kst = x1.kst ∧ (partIn x1 x2 x3 x4 x5 x6 x7 x8).mbx = x1.mbx ∧ (partIn x1 x2 x3 x4 x5 x6 x7 x8).str = x1.str ∧ (partIn x1 x2 x3 x4 x5 x6 x7 x8).lan = x1.lan ∧ (partIn x1 x2 x3 x4 x5 x6 x7 x8).bb = x1.bb ∧ (partIn x1 x2 x3 x4 x5 x6 x7 x8).tim = x1.tim ∧ (partIn x1 x2 x3 x4 x5 x6 x7 x8).lcy = x1.lcy ∧ (partIn x1 x2 x3 x4 x5 x6 x7 x8).die = x1.die ∧ (partIn x1 x2 x3 x4 x5 x6 x7 x8).rng = x1.rng ∧ (partIn x1 x2 x3 x4 x5 x6 x7 x8).pke = x1.pke ∧ (partIn x1 x2 x3 x4 x5 x6 x7 x8).eng = x1.eng ∧ (partIn x1 x2 x3 x4 x5 x6 x7 x8).host = x1.host ∧ (partIn x1 x2 x3 x4 x5 x6 x7 x8).geo = x1.geo ∧ (partIn x1 x2 x3 x4 x5 x6 x7 x8).flash = x1.flash ∧ (partIn x1 x2 x3 x4 x5 x6 x7 x8).wld = x1.wld ∧ (partIn x1 x2 x3 x4 x5 x6 x7 x8).ctl = x1.ctl := by unfold partIn; dsimp only; (repeat' split)  <;> simp [*]

@[simp ↓] theorem acceptSeq_frame (x1 x2 x3 x4) :
    (acceptSeq x1 x2 x3 x4).pending = x1.pending ∧ (acceptSeq x1 x2 x3 x4).now = x1.now ∧ (acceptSeq x1 x2 x3 x4).fresh = x1.fresh ∧ (acceptSeq x1 x2 x3 x4).out = x1.out ∧ (acceptSeq x1 x2 x3 x4).snaps = x1.snaps ∧ (acceptSeq x1 x2 x3 x4).id = x1.id ∧ (acceptSeq x1 x2 x3 x4).psg = x1.psg ∧ (acceptSeq x1 x2 x3 x4).cham = x1.cham ∧ (acceptSeq x1 x2 x3 x4).kst = x1.kst ∧ (acceptSeq x1 x2 x3 x4).mbx = x1.mbx ∧ (acceptSeq x1 x2 x3 x4).str = x1.str ∧ (acceptSeq x1 x2 x3 x4).lan = x1.lan ∧ (acceptSeq x1 x2 x3 x4).bb = x1.bb ∧ (acceptSeq x1 x2 x3 x4).tim = x1.tim ∧ (acceptSeq x1 x2 x3 x4).lcy = x1.lcy ∧ (acceptSeq x1 x2 x3 x4).die = x1.die ∧ (acceptSeq x1 x2 x3 x4).rng = x1.rng ∧ (acceptSeq x1 x2 x3 x4).pke = x1.pke ∧ (acceptSeq x1 x2 x3 x4).eng = x1.eng ∧ (acceptSeq x1 x2 x3 x4).host = x1.host ∧ (acceptSeq x1 x2 x3 x4).geo = x1.geo ∧ (acceptSeq x1 x2 x3 x4).flash = x1.flash ∧ (acceptSeq x1 x2 x3 x4).wld = x1.wld ∧ (acceptSeq x1 x2 x3 x4).ctl = x1.ctl := by unfold acceptSeq; simp

end Sys2Proof.Machine
end

