-- ==== Sys2Proof/Laws/Frames/KarstMsgs.lean ====
section
/-!
SUPPORT. What the operations of Machine/KarstMsgs.lean leave unchanged: for each, every part of the state that it does not touch.
-/

set_option Elab.async false

set_option linter.all false
set_option maxRecDepth 2000

namespace Sys2Proof.Machine

@[simp ↓] theorem receive_pending (x1 x2 x3 x4 x5) (hx5 : ∀ y1 y2, (x5 y1 y2).pending = y1.pending) : (receive x1 x2 x3 x4 x5).pending = x1.pending := by unfold receive; dsimp only; (repeat' split)  <;> simp [*]

@[simp ↓] theorem receive_fresh (x1 x2 x3 x4 x5) (hx5 : ∀ y1 y2, (x5 y1 y2).fresh = y1.fresh) : (receive x1 x2 x3 x4 x5).fresh = x1.fresh := by unfold receive; dsimp only; (repeat' split)  <;> simp [*]

@[simp ↓] theorem receive_out (x1 x2 x3 x4 x5) (hx5 : ∀ y1 y2, (x5 y1 y2).out = y1.out) : (receive x1 x2 x3 x4 x5).out = x1.out := by unfold receive; dsimp only; (repeat' split)  <;> simp [*]

@[simp ↓] theorem receive_snaps (x1 x2 x3 x4 x5) (hx5 : ∀ y1 y2, (x5 y1 y2).snaps = y1.snaps) : (receive x1 x2 x3 x4 x5).snaps = x1.snaps := by unfold receive; dsimp only; (repeat' split)  <;> simp [*]

@[simp ↓] theorem receive_psg (x1 x2 x3 x4 x5) (hx5 : ∀ y1 y2, (x5 y1 y2).psg = y1.psg) : (receive x1 x2 x3 x4 x5).psg = x1.psg := by unfold receive; dsimp only; (repeat' split)  <;> simp [*]

@[simp ↓] theorem receive_cham (x1 x2 x3 x4 x5) (hx5 : ∀ y1 y2, (x5 y1 y2).cham = y1.cham) : (receive x1 x2 x3 x4 x5).cham = x1.cham := by unfold receive; dsimp only; (repeat' split)  <;> simp [*]

@[simp ↓] theorem receive_kst (x1 x2 x3 x4 x5) (hx5 : ∀ y1 y2, (x5 y1 y2).kst = y1.kst) : (receive x1 x2 x3 x4 x5).kst = x1.kst := by unfold receive; dsimp only; (repeat' split)  <;> simp [*]

@[simp ↓] theorem receive_mbx (x1 x2 x3 x4 x5) (hx5 : ∀ y1 y2, (x5 y1 y2).mbx = y1.mbx) : (receive x1 x2 x3 x4 x5).mbx = x1.mbx := by unfold receive; dsimp only; (repeat' split)  <;> simp [*]

@[simp ↓] theorem receive_str (x1 x2 x3 x4 x5) (hx5 : ∀ y1 y2, (x5 y1 y2).str = y1.str) : (receive x1 x2 x3 x4 x5).str = x1.str := by unfold receive; dsimp only; (repeat' split)  <;> simp [*]

@[simp ↓] theorem receive_lan (x1 x2 x3 x4 x5) (hx5 : ∀ y1 y2, (x5 y1 y2).lan = y1.lan) : (receive x1 x2 x3 x4 x5).lan = x1.lan := by unfold receive; dsimp only; (repeat' split)  <;> simp [*]

@[simp ↓] theorem receive_bb (x1 x2 x3 x4 x5) (hx5 : ∀ y1 y2, (x5 y1 y2).bb = y1.bb) : (receive x1 x2 x3 x4 x5).bb = x1.bb := by unfold receive; dsimp only; (repeat' split)  <;> simp [*]

@[simp ↓] theorem receive_lcy (x1 x2 x3 x4 x5) (hx5 : ∀ y1 y2, (x5 y1 y2).lcy = y1.lcy) : (receive x1 x2 x3 x4 x5).lcy = x1.lcy := by unfold receive; dsimp only; (repeat' split)  <;> simp [*]

@[simp ↓] theorem receive_die (x1 x2 x3 x4 x5) (hx5 : ∀ y1 y2, (x5 y1 y2).die = y1.die) : (receive x1 x2 x3 x4 x5).die = x1.die := by unfold receive; dsimp only; (repeat' split)  <;> simp [*]

@[simp ↓] theorem receive_rng (x1 x2 x3 x4 x5) (hx5 : ∀ y1 y2, (x5 y1 y2).rng = y1.rng) : (receive x1 x2 x3 x4 x5).rng = x1.rng := by unfold receive; dsimp only; (repeat' split)  <;> simp [*]

@[simp ↓] theorem receive_pke (x1 x2 x3 x4 x5) (hx5 : ∀ y1 y2, (x5 y1 y2).pke = y1.pke) : (receive x1 x2 x3 x4 x5).pke = x1.pke := by unfold receive; dsimp only; (repeat' split)  <;> simp [*]

@[simp ↓] theorem receive_eng (x1 x2 x3 x4 x5) (hx5 : ∀ y1 y2, (x5 y1 y2).eng = y1.eng) : (receive x1 x2 x3 x4 x5).eng = x1.eng := by unfold receive; dsimp only; (repeat' split)  <;> simp [*]

@[simp ↓] theorem receive_host (x1 x2 x3 x4 x5) (hx5 : ∀ y1 y2, (x5 y1 y2).host = y1.host) : (receive x1 x2 x3 x4 x5).host = x1.host := by unfold receive; dsimp only; (repeat' split)  <;> simp [*]

@[simp ↓] theorem receive_geo (x1 x2 x3 x4 x5) (hx5 : ∀ y1 y2, (x5 y1 y2).geo = y1.geo) : (receive x1 x2 x3 x4 x5).geo = x1.geo := by unfold receive; dsimp only; (repeat' split)  <;> simp [*]

@[simp ↓] theorem receive_flash (x1 x2 x3 x4 x5) (hx5 : ∀ y1 y2, (x5 y1 y2).flash = y1.flash) : (receive x1 x2 x3 x4 x5).flash = x1.flash := by unfold receive; dsimp only; (repeat' split)  <;> simp [*]

@[simp ↓] theorem receive_wld (x1 x2 x3 x4 x5) (hx5 : ∀ y1 y2, (x5 y1 y2).wld = y1.wld) : (receive x1 x2 x3 x4 x5).wld = x1.wld := by unfold receive; dsimp only; (repeat' split)  <;> simp [*]

@[simp ↓] theorem receive_ctl (x1 x2 x3 x4 x5) (hx5 : ∀ y1 y2, (x5 y1 y2).ctl = y1.ctl) : (receive x1 x2 x3 x4 x5).ctl = x1.ctl := by unfold receive; dsimp only; (repeat' split)  <;> simp [*]

theorem acceptOf_frame_of {x1 x2 x3}{x y t} (h : (Sys2Proof.Machine.acceptOf x1 x2 x3) = some (x, y, t)) :
    t.pending = x1.pending ∧ t.now = x1.now ∧ t.out = x1.out ∧ t.snaps = x1.snaps ∧ t.id = x1.id ∧ t.psg = x1.psg ∧ t.cham = x1.cham ∧ t.kst = x1.kst ∧ t.mbx = x1.mbx ∧ t.str = x1.str ∧ t.lan = x1.lan ∧ t.bb = x1.bb ∧ t.tim = x1.tim ∧ t.lcy = x1.lcy ∧ t.die = x1.die ∧ t.rng = x1.rng ∧ t.pke = x1.pke ∧ t.eng = x1.eng ∧ t.host = x1.host ∧ t.geo = x1.geo ∧ t.flash = x1.flash ∧ t.wld = x1.wld ∧ t.kar = x1.kar ∧ t.ctl = x1.ctl := by unfold acceptOf at h; dsimp only at h; (repeat' split at h) <;> (try have := signBlock_frame_of ‹_›) <;> (first | contradiction | (cases h; simp [*]) | (simp only [Option.map_eq_some_iff, Option.bind_eq_some_iff] at h; obtain ⟨_, _, rfl⟩ := h; simp [*]))

@[simp ↓] theorem toTerm_frame (x1 x2 x3 x4) :
    (toTerm x1 x2 x3 x4).pending = x1.pending ∧ (toTerm x1 x2 x3 x4).now = x1.now ∧ (toTerm x1 x2 x3 x4).fresh = x1.fresh ∧ (toTerm x1 x2 x3 x4).out = x1.out ∧ (toTerm x1 x2 x3 x4).snaps = x1.snaps ∧ (toTerm x1 x2 x3 x4).id = x1.id ∧ (toTerm x1 x2 x3 x4).psg = x1.psg ∧ (toTerm x1 x2 x3 x4).cham = x1.cham ∧ (toTerm x1 x2 x3 x4).kst = x1.kst ∧ (toTerm x1 x2 x3 x4).mbx = x1.mbx ∧ (toTerm x1 x2 x3 x4).str = x1.str ∧ (toTerm x1 x2 x3 x4).lan = x1.lan ∧ (toTerm x1 x2 x3 x4).bb = x1.bb ∧ (toTerm x1 x2 x3 x4).tim = x1.tim ∧ (toTerm x1 x2 x3 x4).lcy = x1.lcy ∧ (toTerm x1 x2 x3 x4).die = x1.die ∧ (toTerm x1 x2 x3 x4).rng = x1.rng ∧ (toTerm x1 x2 x3 x4).pke = x1.pke ∧ (toTerm x1 x2 x3 x4).eng = x1.eng ∧ (toTerm x1 x2 x3 x4).host = x1.host ∧ (toTerm x1 x2 x3 x4).geo = x1.geo ∧ (toTerm x1 x2 x3 x4).wld = x1.wld ∧ (toTerm x1 x2 x3 x4).ctl = x1.ctl := by unfold toTerm; simp

@[simp ↓] theorem catchUp_frame (x1 x2 x3) :
    (catchUp x1 x2 x3).pending = x1.pending ∧ (catchUp x1 x2 x3).now = x1.now ∧ (catchUp x1 x2 x3).fresh = x1.fresh ∧ (catchUp x1 x2 x3).out = x1.out ∧ (catchUp x1 x2 x3).snaps = x1.snaps ∧ (catchUp x1 x2 x3).id = x1.id ∧ (catchUp x1 x2 x3).psg = x1.psg ∧ (catchUp x1 x2 x3).cham = x1.cham ∧ (catchUp x1 x2 x3).kst = x1.kst ∧ (catchUp x1 x2 x3).mbx = x1.mbx ∧ (catchUp x1 x2 x3).str = x1.str ∧ (catchUp x1 x2 x3).lan = x1.lan ∧ (catchUp x1 x2 x3).bb = x1.bb ∧ (catchUp x1 x2 x3).tim = x1.tim ∧ (catchUp x1 x2 x3).lcy = x1.lcy ∧ (catchUp x1 x2 x3).die = x1.die ∧ (catchUp x1 x2 x3).rng = x1.rng ∧ (catchUp x1 x2 x3).pke = x1.pke ∧ (catchUp x1 x2 x3).eng = x1.eng ∧ (catchUp x1 x2 x3).host = x1.host ∧ (catchUp x1 x2 x3).geo = x1.geo ∧ (catchUp x1 x2 x3).flash = x1.flash ∧ (catchUp x1 x2 x3).wld = x1.wld ∧ (catchUp x1 x2 x3).ctl = x1.ctl := by unfold catchUp; simp

@[simp ↓] theorem heardPrimary_frame (x1 x2) :
    (heardPrimary x1 x2).pending = x1.pending ∧ (heardPrimary x1 x2).now = x1.now ∧ (heardPrimary x1 x2).fresh = x1.fresh ∧ (heardPrimary x1 x2).out = x1.out ∧ (heardPrimary x1 x2).snaps = x1.snaps ∧ (heardPrimary x1 x2).id = x1.id ∧ (heardPrimary x1 x2).psg = x1.psg ∧ (heardPrimary x1 x2).cham = x1.cham ∧ (heardPrimary x1 x2).kst = x1.kst ∧ (heardPrimary x1 x2).mbx = x1.mbx ∧ (heardPrimary x1 x2).str = x1.str ∧ (heardPrimary x1 x2).lan = x1.lan ∧ (heardPrimary x1 x2).bb = x1.bb ∧ (heardPrimary x1 x2).tim = x1.tim ∧ (heardPrimary x1 x2).lcy = x1.lcy ∧ (heardPrimary x1 x2).die = x1.die ∧ (heardPrimary x1 x2).rng = x1.rng ∧ (heardPrimary x1 x2).pke = x1.pke ∧ (heardPrimary x1 x2).eng = x1.eng ∧ (heardPrimary x1 x2).host = x1.host ∧ (heardPrimary x1 x2).geo = x1.geo ∧ (heardPrimary x1 x2).flash = x1.flash ∧ (heardPrimary x1 x2).wld = x1.wld ∧ (heardPrimary x1 x2).ctl = x1.ctl := by unfold heardPrimary; simp

@[simp ↓] theorem followTerm_frame (x1 x2 x3 x4) :
    (followTerm x1 x2 x3 x4).pending = x1.pending ∧ (followTerm x1 x2 x3 x4).now = x1.now ∧ (followTerm x1 x2 x3 x4).fresh = x1.fresh ∧ (followTerm x1 x2 x3 x4).out = x1.out ∧ (followTerm x1 x2 x3 x4).snaps = x1.snaps ∧ (followTerm x1 x2 x3 x4).id = x1.id ∧ (followTerm x1 x2 x3 x4).psg = x1.psg ∧ (followTerm x1 x2 x3 x4).cham = x1.cham ∧ (followTerm x1 x2 x3 x4).kst = x1.kst ∧ (followTerm x1 x2 x3 x4).mbx = x1.mbx ∧ (followTerm x1 x2 x3 x4).str = x1.str ∧ (followTerm x1 x2 x3 x4).lan = x1.lan ∧ (followTerm x1 x2 x3 x4).bb = x1.bb ∧ (followTerm x1 x2 x3 x4).tim = x1.tim ∧ (followTerm x1 x2 x3 x4).lcy = x1.lcy ∧ (followTerm x1 x2 x3 x4).die = x1.die ∧ (followTerm x1 x2 x3 x4).rng = x1.rng ∧ (followTerm x1 x2 x3 x4).pke = x1.pke ∧ (followTerm x1 x2 x3 x4).eng = x1.eng ∧ (followTerm x1 x2 x3 x4).host = x1.host ∧ (followTerm x1 x2 x3 x4).geo = x1.geo ∧ (followTerm x1 x2 x3 x4).wld = x1.wld ∧ (followTerm x1 x2 x3 x4).ctl = x1.ctl := by unfold followTerm; (repeat' split) <;> simp

@[simp ↓] theorem heartbeatAll_frame (x1 x2) :
    (heartbeatAll x1 x2).pending = x1.pending ∧ (heartbeatAll x1 x2).now = x1.now ∧ (heartbeatAll x1 x2).fresh = x1.fresh ∧ (heartbeatAll x1 x2).out = x1.out ∧ (heartbeatAll x1 x2).snaps = x1.snaps ∧ (heartbeatAll x1 x2).id = x1.id ∧ (heartbeatAll x1 x2).psg = x1.psg ∧ (heartbeatAll x1 x2).cham = x1.cham ∧ (heartbeatAll x1 x2).kst = x1.kst ∧ (heartbeatAll x1 x2).mbx = x1.mbx ∧ (heartbeatAll x1 x2).str = x1.str ∧ (heartbeatAll x1 x2).lan = x1.lan ∧ (heartbeatAll x1 x2).bb = x1.bb ∧ (heartbeatAll x1 x2).tim = x1.tim ∧ (heartbeatAll x1 x2).lcy = x1.lcy ∧ (heartbeatAll x1 x2).die = x1.die ∧ (heartbeatAll x1 x2).rng = x1.rng ∧ (heartbeatAll x1 x2).pke = x1.pke ∧ (heartbeatAll x1 x2).eng = x1.eng ∧ (heartbeatAll x1 x2).host = x1.host ∧ (heartbeatAll x1 x2).geo = x1.geo ∧ (heartbeatAll x1 x2).flash = x1.flash ∧ (heartbeatAll x1 x2).wld = x1.wld ∧ (heartbeatAll x1 x2).ctl = x1.ctl := by unfold heartbeatAll; (repeat' split) <;> simp

@[simp ↓] theorem reproposeRecord_frame (x1 x2) :
    (reproposeRecord x1 x2).pending = x1.pending ∧ (reproposeRecord x1 x2).now = x1.now ∧ (reproposeRecord x1 x2).out = x1.out ∧ (reproposeRecord x1 x2).snaps = x1.snaps ∧ (reproposeRecord x1 x2).id = x1.id ∧ (reproposeRecord x1 x2).psg = x1.psg ∧ (reproposeRecord x1 x2).cham = x1.cham ∧ (reproposeRecord x1 x2).mbx = x1.mbx ∧ (reproposeRecord x1 x2).str = x1.str ∧ (reproposeRecord x1 x2).lan = x1.lan ∧ (reproposeRecord x1 x2).bb = x1.bb ∧ (reproposeRecord x1 x2).tim = x1.tim ∧ (reproposeRecord x1 x2).lcy = x1.lcy ∧ (reproposeRecord x1 x2).die = x1.die ∧ (reproposeRecord x1 x2).rng = x1.rng ∧ (reproposeRecord x1 x2).pke = x1.pke ∧ (reproposeRecord x1 x2).eng = x1.eng ∧ (reproposeRecord x1 x2).host = x1.host ∧ (reproposeRecord x1 x2).geo = x1.geo ∧ (reproposeRecord x1 x2).wld = x1.wld ∧ (reproposeRecord x1 x2).ctl = x1.ctl := by unfold reproposeRecord; (repeat' split) <;> simp

@[simp ↓] theorem becomePrimary_frame (x1 x2 x3) :
    (becomePrimary x1 x2 x3).pending = x1.pending ∧ (becomePrimary x1 x2 x3).now = x1.now ∧ (becomePrimary x1 x2 x3).snaps = x1.snaps ∧ (becomePrimary x1 x2 x3).psg = x1.psg ∧ (becomePrimary x1 x2 x3).cham = x1.cham ∧ (becomePrimary x1 x2 x3).lan = x1.lan ∧ (becomePrimary x1 x2 x3).bb = x1.bb ∧ (becomePrimary x1 x2 x3).tim = x1.tim ∧ (becomePrimary x1 x2 x3).lcy = x1.lcy ∧ (becomePrimary x1 x2 x3).die = x1.die ∧ (becomePrimary x1 x2 x3).rng = x1.rng ∧ (becomePrimary x1 x2 x3).pke = x1.pke := by unfold becomePrimary; (repeat' split) <;> simp

@[simp ↓] theorem countVotes_frame (x1 x2) :
    (countVotes x1 x2).pending = x1.pending ∧ (countVotes x1 x2).now = x1.now ∧ (countVotes x1 x2).snaps = x1.snaps ∧ (countVotes x1 x2).psg = x1.psg ∧ (countVotes x1 x2).cham = x1.cham ∧ (countVotes x1 x2).lan = x1.lan ∧ (countVotes x1 x2).bb = x1.bb ∧ (countVotes x1 x2).tim = x1.tim ∧ (countVotes x1 x2).lcy = x1.lcy ∧ (countVotes x1 x2).die = x1.die ∧ (countVotes x1 x2).rng = x1.rng ∧ (countVotes x1 x2).pke = x1.pke := by unfold countVotes; (repeat' split) <;> simp

@[simp ↓] theorem decline_frame (x1 x2 x3 x4 x5) :
    (decline x1 x2 x3 x4 x5).pending = x1.pending ∧ (decline x1 x2 x3 x4 x5).now = x1.now ∧ (decline x1 x2 x3 x4 x5).fresh = x1.fresh ∧ (decline x1 x2 x3 x4 x5).out = x1.out ∧ (decline x1 x2 x3 x4 x5).snaps = x1.snaps ∧ (decline x1 x2 x3 x4 x5).id = x1.id ∧ (decline x1 x2 x3 x4 x5).psg = x1.psg ∧ (decline x1 x2 x3 x4 x5).cham = x1.cham ∧ (decline x1 x2 x3 x4 x5).kst = x1.kst ∧ (decline x1 x2 x3 x4 x5).mbx = x1.mbx ∧ (decline x1 x2 x3 x4 x5).str = x1.str ∧ (decline x1 x2 x3 x4 x5).lan = x1.lan ∧ (decline x1 x2 x3 x4 x5).bb = x1.bb ∧ (decline x1 x2 x3 x4 x5).tim = x1.tim ∧ (decline x1 x2 x3 x4 x5).lcy = x1.lcy ∧ (decline x1 x2 x3 x4 x5).die = x1.die ∧ (decline x1 x2 x3 x4 x5).rng = x1.rng ∧ (decline x1 x2 x3 x4 x5).pke = x1.pke ∧ (decline x1 x2 x3 x4 x5).eng = x1.eng ∧ (decline x1 x2 x3 x4 x5).host = x1.host ∧ (decline x1 x2 x3 x4 x5).geo = x1.geo ∧ (decline x1 x2 x3 x4 x5).flash = x1.flash ∧ (decline x1 x2 x3 x4 x5).wld = x1.wld ∧ (decline x1 x2 x3 x4 x5).ctl = x1.ctl := by unfold decline; simp

@[simp ↓] theorem replaceSigned_frame (x1 x2) :
    (replaceSigned x1 x2).pending = x1.pending ∧ (replaceSigned x1 x2).now = x1.now ∧ (replaceSigned x1 x2).fresh = x1.fresh ∧ (replaceSigned x1 x2).out = x1.out ∧ (replaceSigned x1 x2).snaps = x1.snaps ∧ (replaceSigned x1 x2).id = x1.id ∧ (replaceSigned x1 x2).psg = x1.psg ∧ (replaceSigned x1 x2).cham = x1.cham ∧ (replaceSigned x1 x2).mbx = x1.mbx ∧ (replaceSigned x1 x2).str = x1.str ∧ (replaceSigned x1 x2).lan = x1.lan ∧ (replaceSigned x1 x2).bb = x1.bb ∧ (replaceSigned x1 x2).tim = x1.tim ∧ (replaceSigned x1 x2).lcy = x1.lcy ∧ (replaceSigned x1 x2).die = x1.die ∧ (replaceSigned x1 x2).rng = x1.rng ∧ (replaceSigned x1 x2).pke = x1.pke ∧ (replaceSigned x1 x2).eng = x1.eng ∧ (replaceSigned x1 x2).host = x1.host ∧ (replaceSigned x1 x2).geo = x1.geo ∧ (replaceSigned x1 x2).wld = x1.wld ∧ (replaceSigned x1 x2).kar = x1.kar ∧ (replaceSigned x1 x2).ctl = x1.ctl := by unfold replaceSigned; simp

@[simp ↓] theorem signChange_frame (x1 x2 x3) :
    (signChange x1 x2 x3).pending = x1.pending ∧ (signChange x1 x2 x3).now = x1.now ∧ (signChange x1 x2 x3).out = x1.out ∧ (signChange x1 x2 x3).snaps = x1.snaps ∧ (signChange x1 x2 x3).id = x1.id ∧ (signChange x1 x2 x3).psg = x1.psg ∧ (signChange x1 x2 x3).cham = x1.cham ∧ (signChange x1 x2 x3).mbx = x1.mbx ∧ (signChange x1 x2 x3).str = x1.str ∧ (signChange x1 x2 x3).lan = x1.lan ∧ (signChange x1 x2 x3).bb = x1.bb ∧ (signChange x1 x2 x3).tim = x1.tim ∧ (signChange x1 x2 x3).lcy = x1.lcy ∧ (signChange x1 x2 x3).die = x1.die ∧ (signChange x1 x2 x3).rng = x1.rng ∧ (signChange x1 x2 x3).pke = x1.pke ∧ (signChange x1 x2 x3).eng = x1.eng ∧ (signChange x1 x2 x3).host = x1.host ∧ (signChange x1 x2 x3).geo = x1.geo ∧ (signChange x1 x2 x3).wld = x1.wld ∧ (signChange x1 x2 x3).ctl = x1.ctl := by unfold signChange; dsimp only; (repeat' split) <;> (try have := memberSign_frame_of ‹_›) <;> simp [*]

@[simp ↓] theorem newReplica_frame (x1 x2 x3) :
    (newReplica x1 x2 x3).pending = x1.pending ∧ (newReplica x1 x2 x3).now = x1.now ∧ (newReplica x1 x2 x3).fresh = x1.fresh ∧ (newReplica x1 x2 x3).out = x1.out ∧ (newReplica x1 x2 x3).snaps = x1.snaps ∧ (newReplica x1 x2 x3).id = x1.id ∧ (newReplica x1 x2 x3).psg = x1.psg ∧ (newReplica x1 x2 x3).cham = x1.cham ∧ (newReplica x1 x2 x3).kst = x1.kst ∧ (newReplica x1 x2 x3).mbx = x1.mbx ∧ (newReplica x1 x2 x3).str = x1.str ∧ (newReplica x1 x2 x3).lan = x1.lan ∧ (newReplica x1 x2 x3).bb = x1.bb ∧ (newReplica x1 x2 x3).tim = x1.tim ∧ (newReplica x1 x2 x3).lcy = x1.lcy ∧ (newReplica x1 x2 x3).die = x1.die ∧ (newReplica x1 x2 x3).rng = x1.rng ∧ (newReplica x1 x2 x3).pke = x1.pke ∧ (newReplica x1 x2 x3).eng = x1.eng ∧ (newReplica x1 x2 x3).host = x1.host ∧ (newReplica x1 x2 x3).geo = x1.geo ∧ (newReplica x1 x2 x3).wld = x1.wld ∧ (newReplica x1 x2 x3).kar = x1.kar ∧ (newReplica x1 x2 x3).ctl = x1.ctl := by unfold newReplica; (repeat' split) <;> simp

@[simp ↓] theorem takeCommitted_frame (x1 x2 x3) :
    (takeCommitted x1 x2 x3).1.pending = x1.pending ∧ (takeCommitted x1 x2 x3).1.now = x1.now ∧ (takeCommitted x1 x2 x3).1.fresh = x1.fresh ∧ (takeCommitted x1 x2 x3).1.snaps = x1.snaps ∧ (takeCommitted x1 x2 x3).1.psg = x1.psg ∧ (takeCommitted x1 x2 x3).1.cham = x1.cham ∧ (takeCommitted x1 x2 x3).1.lan = x1.lan ∧ (takeCommitted x1 x2 x3).1.bb = x1.bb ∧ (takeCommitted x1 x2 x3).1.tim = x1.tim ∧ (takeCommitted x1 x2 x3).1.lcy = x1.lcy ∧ (takeCommitted x1 x2 x3).1.die = x1.die ∧ (takeCommitted x1 x2 x3).1.rng = x1.rng ∧ (takeCommitted x1 x2 x3).1.pke = x1.pke := by unfold takeCommitted; (repeat' split) <;> simp

theorem takeCommitted_frame_of {x1 x2 x3 x t} (h : takeCommitted x1 x2 x3 = (t, x)) :
    t.pending = x1.pending ∧ t.now = x1.now ∧ t.fresh = x1.fresh ∧ t.snaps = x1.snaps ∧ t.psg = x1.psg ∧ t.cham = x1.cham ∧ t.lan = x1.lan ∧ t.bb = x1.bb ∧ t.tim = x1.tim ∧ t.lcy = x1.lcy ∧ t.die = x1.die ∧ t.rng = x1.rng ∧ t.pke = x1.pke := by
  have e := takeCommitted_frame x1 x2 x3; rw [h] at e; exact e

@[simp ↓] theorem endWait_frame (x1 x2 x3) :
    (endWait x1 x2 x3).pending = x1.pending ∧ (endWait x1 x2 x3).now = x1.now ∧ (endWait x1 x2 x3).fresh = x1.fresh ∧ (endWait x1 x2 x3).snaps = x1.snaps ∧ (endWait x1 x2 x3).id = x1.id ∧ (endWait x1 x2 x3).psg = x1.psg ∧ (endWait x1 x2 x3).cham = x1.cham ∧ (endWait x1 x2 x3).lan = x1.lan ∧ (endWait x1 x2 x3).bb = x1.bb ∧ (endWait x1 x2 x3).tim = x1.tim ∧ (endWait x1 x2 x3).lcy = x1.lcy ∧ (endWait x1 x2 x3).die = x1.die ∧ (endWait x1 x2 x3).rng = x1.rng ∧ (endWait x1 x2 x3).pke = x1.pke ∧ (endWait x1 x2 x3).geo = x1.geo ∧ (endWait x1 x2 x3).flash = x1.flash := by unfold endWait; (repeat' split) <;> simp

@[simp ↓] theorem abandonAdded_frame (x1 x2 x3 x4) :
    (abandonAdded x1 x2 x3 x4).pending = x1.pending ∧ (abandonAdded x1 x2 x3 x4).now = x1.now ∧ (abandonAdded x1 x2 x3 x4).snaps = x1.snaps ∧ (abandonAdded x1 x2 x3 x4).id = x1.id ∧ (abandonAdded x1 x2 x3 x4).psg = x1.psg ∧ (abandonAdded x1 x2 x3 x4).cham = x1.cham ∧ (abandonAdded x1 x2 x3 x4).lan = x1.lan ∧ (abandonAdded x1 x2 x3 x4).bb = x1.bb ∧ (abandonAdded x1 x2 x3 x4).tim = x1.tim ∧ (abandonAdded x1 x2 x3 x4).lcy = x1.lcy ∧ (abandonAdded x1 x2 x3 x4).die = x1.die ∧ (abandonAdded x1 x2 x3 x4).rng = x1.rng ∧ (abandonAdded x1 x2 x3 x4).pke = x1.pke ∧ (abandonAdded x1 x2 x3 x4).geo = x1.geo := by unfold abandonAdded; (repeat' split) <;> simp

@[simp ↓] theorem giveUpJoin_frame (x1 x2 x3) :
    (giveUpJoin x1 x2 x3).pending = x1.pending ∧ (giveUpJoin x1 x2 x3).now = x1.now ∧ (giveUpJoin x1 x2 x3).fresh = x1.fresh ∧ (giveUpJoin x1 x2 x3).snaps = x1.snaps ∧ (giveUpJoin x1 x2 x3).psg = x1.psg ∧ (giveUpJoin x1 x2 x3).cham = x1.cham ∧ (giveUpJoin x1 x2 x3).lan = x1.lan ∧ (giveUpJoin x1 x2 x3).bb = x1.bb ∧ (giveUpJoin x1 x2 x3).tim = x1.tim ∧ (giveUpJoin x1 x2 x3).lcy = x1.lcy ∧ (giveUpJoin x1 x2 x3).die = x1.die ∧ (giveUpJoin x1 x2 x3).rng = x1.rng ∧ (giveUpJoin x1 x2 x3).pke = x1.pke ∧ (giveUpJoin x1 x2 x3).geo = x1.geo := by unfold giveUpJoin; simp

@[simp ↓] theorem finishJoin_frame (x1 x2 x3) :
    (finishJoin x1 x2 x3).pending = x1.pending ∧ (finishJoin x1 x2 x3).now = x1.now ∧ (finishJoin x1 x2 x3).fresh = x1.fresh ∧ (finishJoin x1 x2 x3).snaps = x1.snaps ∧ (finishJoin x1 x2 x3).psg = x1.psg ∧ (finishJoin x1 x2 x3).cham = x1.cham ∧ (finishJoin x1 x2 x3).lan = x1.lan ∧ (finishJoin x1 x2 x3).bb = x1.bb ∧ (finishJoin x1 x2 x3).tim = x1.tim ∧ (finishJoin x1 x2 x3).lcy = x1.lcy ∧ (finishJoin x1 x2 x3).die = x1.die ∧ (finishJoin x1 x2 x3).rng = x1.rng ∧ (finishJoin x1 x2 x3).pke = x1.pke ∧ (finishJoin x1 x2 x3).geo = x1.geo := by unfold finishJoin; (repeat' split) <;> simp

end Sys2Proof.Machine
end

