-- ==== Sys2Proof/Laws/Frames/KarstCmds.lean ====
section
/-!
SUPPORT. What the operations of Machine/KarstCmds.lean leave unchanged: for each, every part of the state that it does not touch.
-/

set_option Elab.async false

set_option linter.all false
set_option maxRecDepth 2000

namespace Sys2Proof.Machine

@[simp ↓] theorem putMember_frame (x1 x2 x3 x4) :
    (putMember x1 x2 x3 x4).pending = x1.pending ∧ (putMember x1 x2 x3 x4).now = x1.now ∧ (putMember x1 x2 x3 x4).out = x1.out ∧ (putMember x1 x2 x3 x4).snaps = x1.snaps ∧ (putMember x1 x2 x3 x4).id = x1.id ∧ (putMember x1 x2 x3 x4).psg = x1.psg ∧ (putMember x1 x2 x3 x4).cham = x1.cham ∧ (putMember x1 x2 x3 x4).mbx = x1.mbx ∧ (putMember x1 x2 x3 x4).str = x1.str ∧ (putMember x1 x2 x3 x4).lan = x1.lan ∧ (putMember x1 x2 x3 x4).bb = x1.bb ∧ (putMember x1 x2 x3 x4).tim = x1.tim ∧ (putMember x1 x2 x3 x4).lcy = x1.lcy ∧ (putMember x1 x2 x3 x4).rng = x1.rng ∧ (putMember x1 x2 x3 x4).pke = x1.pke ∧ (putMember x1 x2 x3 x4).eng = x1.eng ∧ (putMember x1 x2 x3 x4).host = x1.host ∧ (putMember x1 x2 x3 x4).geo = x1.geo ∧ (putMember x1 x2 x3 x4).flash = x1.flash ∧ (putMember x1 x2 x3 x4).wld = x1.wld ∧ (putMember x1 x2 x3 x4).kar = x1.kar ∧ (putMember x1 x2 x3 x4).ctl = x1.ctl := by unfold putMember; simp

@[simp ↓] theorem makeMember_frame (x1 x2) :
    (makeMember x1 x2).2.pending = x1.pending ∧ (makeMember x1 x2).2.now = x1.now ∧ (makeMember x1 x2).2.out = x1.out ∧ (makeMember x1 x2).2.snaps = x1.snaps ∧ (makeMember x1 x2).2.id = x1.id ∧ (makeMember x1 x2).2.psg = x1.psg ∧ (makeMember x1 x2).2.cham = x1.cham ∧ (makeMember x1 x2).2.mbx = x1.mbx ∧ (makeMember x1 x2).2.str = x1.str ∧ (makeMember x1 x2).2.lan = x1.lan ∧ (makeMember x1 x2).2.bb = x1.bb ∧ (makeMember x1 x2).2.tim = x1.tim ∧ (makeMember x1 x2).2.lcy = x1.lcy ∧ (makeMember x1 x2).2.rng = x1.rng ∧ (makeMember x1 x2).2.pke = x1.pke ∧ (makeMember x1 x2).2.eng = x1.eng ∧ (makeMember x1 x2).2.host = x1.host ∧ (makeMember x1 x2).2.geo = x1.geo ∧ (makeMember x1 x2).2.flash = x1.flash ∧ (makeMember x1 x2).2.wld = x1.wld ∧ (makeMember x1 x2).2.kar = x1.kar ∧ (makeMember x1 x2).2.ctl = x1.ctl := by unfold makeMember; simp

theorem makeMember_frame_of {x1 x2 x t} (h : makeMember x1 x2 = (x, t)) :
    t.pending = x1.pending ∧ t.now = x1.now ∧ t.out = x1.out ∧ t.snaps = x1.snaps ∧ t.id = x1.id ∧ t.psg = x1.psg ∧ t.cham = x1.cham ∧ t.mbx = x1.mbx ∧ t.str = x1.str ∧ t.lan = x1.lan ∧ t.bb = x1.bb ∧ t.tim = x1.tim ∧ t.lcy = x1.lcy ∧ t.rng = x1.rng ∧ t.pke = x1.pke ∧ t.eng = x1.eng ∧ t.host = x1.host ∧ t.geo = x1.geo ∧ t.flash = x1.flash ∧ t.wld = x1.wld ∧ t.kar = x1.kar ∧ t.ctl = x1.ctl := by
  have e := makeMember_frame x1 x2; rw [h] at e; exact e

@[simp ↓] theorem karChange_frame (x1 x2 x3 x4) :
    (karChange x1 x2 x3 x4).pending = x1.pending ∧ (karChange x1 x2 x3 x4).now = x1.now ∧ (karChange x1 x2 x3 x4).snaps = x1.snaps ∧ (karChange x1 x2 x3 x4).psg = x1.psg ∧ (karChange x1 x2 x3 x4).cham = x1.cham ∧ (karChange x1 x2 x3 x4).lan = x1.lan ∧ (karChange x1 x2 x3 x4).bb = x1.bb ∧ (karChange x1 x2 x3 x4).tim = x1.tim ∧ (karChange x1 x2 x3 x4).lcy = x1.lcy ∧ (karChange x1 x2 x3 x4).die = x1.die ∧ (karChange x1 x2 x3 x4).rng = x1.rng ∧ (karChange x1 x2 x3 x4).pke = x1.pke := by unfold karChange; (repeat' split) <;> simp

@[simp ↓] theorem karWrite_frame (x1 x2) :
    (karWrite x1 x2).pending = x1.pending ∧ (karWrite x1 x2).now = x1.now ∧ (karWrite x1 x2).fresh = x1.fresh ∧ (karWrite x1 x2).out = x1.out ∧ (karWrite x1 x2).snaps = x1.snaps ∧ (karWrite x1 x2).id = x1.id ∧ (karWrite x1 x2).psg = x1.psg ∧ (karWrite x1 x2).cham = x1.cham ∧ (karWrite x1 x2).kst = x1.kst ∧ (karWrite x1 x2).mbx = x1.mbx ∧ (karWrite x1 x2).str = x1.str ∧ (karWrite x1 x2).lan = x1.lan ∧ (karWrite x1 x2).bb = x1.bb ∧ (karWrite x1 x2).tim = x1.tim ∧ (karWrite x1 x2).lcy = x1.lcy ∧ (karWrite x1 x2).die = x1.die ∧ (karWrite x1 x2).rng = x1.rng ∧ (karWrite x1 x2).pke = x1.pke ∧ (karWrite x1 x2).eng = x1.eng ∧ (karWrite x1 x2).host = x1.host ∧ (karWrite x1 x2).geo = x1.geo ∧ (karWrite x1 x2).flash = x1.flash ∧ (karWrite x1 x2).wld = x1.wld ∧ (karWrite x1 x2).ctl = x1.ctl := by unfold karWrite; (repeat' split) <;> simp

end Sys2Proof.Machine
end

