-- ==== Sys2Proof/Laws/Frames/Migration.lean ====
section
/-!
SUPPORT. What the operations of Machine/Migration.lean leave unchanged: for each, every part of the state that it does not touch.
-/

set_option Elab.async false

set_option linter.all false
set_option maxRecDepth 2000

namespace Sys2Proof.Machine

@[simp ↓] theorem migrationBlob_frame (x1 x2 x3 x4) :
    (migrationBlob x1 x2 x3 x4).2.pending = x1.pending ∧ (migrationBlob x1 x2 x3 x4).2.now = x1.now ∧ (migrationBlob x1 x2 x3 x4).2.out = x1.out ∧ (migrationBlob x1 x2 x3 x4).2.snaps = x1.snaps ∧ (migrationBlob x1 x2 x3 x4).2.id = x1.id ∧ (migrationBlob x1 x2 x3 x4).2.psg = x1.psg ∧ (migrationBlob x1 x2 x3 x4).2.cham = x1.cham ∧ (migrationBlob x1 x2 x3 x4).2.kst = x1.kst ∧ (migrationBlob x1 x2 x3 x4).2.mbx = x1.mbx ∧ (migrationBlob x1 x2 x3 x4).2.str = x1.str ∧ (migrationBlob x1 x2 x3 x4).2.lan = x1.lan ∧ (migrationBlob x1 x2 x3 x4).2.bb = x1.bb ∧ (migrationBlob x1 x2 x3 x4).2.tim = x1.tim ∧ (migrationBlob x1 x2 x3 x4).2.lcy = x1.lcy ∧ (migrationBlob x1 x2 x3 x4).2.die = x1.die ∧ (migrationBlob x1 x2 x3 x4).2.rng = x1.rng ∧ (migrationBlob x1 x2 x3 x4).2.pke = x1.pke ∧ (migrationBlob x1 x2 x3 x4).2.eng = x1.eng ∧ (migrationBlob x1 x2 x3 x4).2.host = x1.host ∧ (migrationBlob x1 x2 x3 x4).2.geo = x1.geo ∧ (migrationBlob x1 x2 x3 x4).2.flash = x1.flash ∧ (migrationBlob x1 x2 x3 x4).2.wld = x1.wld ∧ (migrationBlob x1 x2 x3 x4).2.kar = x1.kar ∧ (migrationBlob x1 x2 x3 x4).2.ctl = x1.ctl := by unfold migrationBlob; simp

theorem migrationBlob_frame_of {x1 x2 x3 x4 x t} (h : migrationBlob x1 x2 x3 x4 = (x, t)) :
    t.pending = x1.pending ∧ t.now = x1.now ∧ t.out = x1.out ∧ t.snaps = x1.snaps ∧ t.id = x1.id ∧ t.psg = x1.psg ∧ t.cham = x1.cham ∧ t.kst = x1.kst ∧ t.mbx = x1.mbx ∧ t.str = x1.str ∧ t.lan = x1.lan ∧ t.bb = x1.bb ∧ t.tim = x1.tim ∧ t.lcy = x1.lcy ∧ t.die = x1.die ∧ t.rng = x1.rng ∧ t.pke = x1.pke ∧ t.eng = x1.eng ∧ t.host = x1.host ∧ t.geo = x1.geo ∧ t.flash = x1.flash ∧ t.wld = x1.wld ∧ t.kar = x1.kar ∧ t.ctl = x1.ctl := by
  have e := migrationBlob_frame x1 x2 x3 x4; rw [h] at e; exact e

@[simp ↓] theorem loseSessions_frame (x1 x2) :
    (loseSessions x1 x2).pending = x1.pending ∧ (loseSessions x1 x2).now = x1.now ∧ (loseSessions x1 x2).fresh = x1.fresh ∧ (loseSessions x1 x2).out = x1.out ∧ (loseSessions x1 x2).snaps = x1.snaps ∧ (loseSessions x1 x2).id = x1.id ∧ (loseSessions x1 x2).psg = x1.psg ∧ (loseSessions x1 x2).cham = x1.cham ∧ (loseSessions x1 x2).mbx = x1.mbx ∧ (loseSessions x1 x2).str = x1.str ∧ (loseSessions x1 x2).lan = x1.lan ∧ (loseSessions x1 x2).bb = x1.bb ∧ (loseSessions x1 x2).tim = x1.tim ∧ (loseSessions x1 x2).lcy = x1.lcy ∧ (loseSessions x1 x2).die = x1.die ∧ (loseSessions x1 x2).rng = x1.rng ∧ (loseSessions x1 x2).pke = x1.pke ∧ (loseSessions x1 x2).eng = x1.eng ∧ (loseSessions x1 x2).geo = x1.geo ∧ (loseSessions x1 x2).flash = x1.flash ∧ (loseSessions x1 x2).wld = x1.wld ∧ (loseSessions x1 x2).kar = x1.kar ∧ (loseSessions x1 x2).ctl = x1.ctl := by unfold loseSessions; simp

@[simp ↓] theorem restoreFunction_frame (x1 x2 x3) :
    (restoreFunction x1 x2 x3).pending = x1.pending ∧ (restoreFunction x1 x2 x3).now = x1.now ∧ (restoreFunction x1 x2 x3).fresh = x1.fresh ∧ (restoreFunction x1 x2 x3).out = x1.out ∧ (restoreFunction x1 x2 x3).snaps = x1.snaps ∧ (restoreFunction x1 x2 x3).id = x1.id ∧ (restoreFunction x1 x2 x3).psg = x1.psg ∧ (restoreFunction x1 x2 x3).cham = x1.cham ∧ (restoreFunction x1 x2 x3).kst = x1.kst ∧ (restoreFunction x1 x2 x3).mbx = x1.mbx ∧ (restoreFunction x1 x2 x3).str = x1.str ∧ (restoreFunction x1 x2 x3).lan = x1.lan ∧ (restoreFunction x1 x2 x3).bb = x1.bb ∧ (restoreFunction x1 x2 x3).tim = x1.tim ∧ (restoreFunction x1 x2 x3).lcy = x1.lcy ∧ (restoreFunction x1 x2 x3).die = x1.die ∧ (restoreFunction x1 x2 x3).rng = x1.rng ∧ (restoreFunction x1 x2 x3).pke = x1.pke ∧ (restoreFunction x1 x2 x3).eng = x1.eng ∧ (restoreFunction x1 x2 x3).geo = x1.geo ∧ (restoreFunction x1 x2 x3).flash = x1.flash ∧ (restoreFunction x1 x2 x3).wld = x1.wld ∧ (restoreFunction x1 x2 x3).kar = x1.kar ∧ (restoreFunction x1 x2 x3).ctl = x1.ctl := by unfold restoreFunction; simp

end Sys2Proof.Machine
end

