-- ==== Sys2Proof/Laws/Frames/RegRead.lean ====
section
/-!
SUPPORT. What the operations of Machine/RegRead.lean leave unchanged: for each, every part of the state that it does not touch.
-/

set_option Elab.async false

set_option linter.all false
set_option maxRecDepth 2000

namespace Sys2Proof.Machine

@[simp ↓] theorem latch_frame (x1 x2) :
    (latch x1 x2).pending = x1.pending ∧ (latch x1 x2).now = x1.now ∧ (latch x1 x2).fresh = x1.fresh ∧ (latch x1 x2).out = x1.out ∧ (latch x1 x2).id = x1.id ∧ (latch x1 x2).psg = x1.psg ∧ (latch x1 x2).cham = x1.cham ∧ (latch x1 x2).kst = x1.kst ∧ (latch x1 x2).mbx = x1.mbx ∧ (latch x1 x2).str = x1.str ∧ (latch x1 x2).lan = x1.lan ∧ (latch x1 x2).bb = x1.bb ∧ (latch x1 x2).tim = x1.tim ∧ (latch x1 x2).lcy = x1.lcy ∧ (latch x1 x2).die = x1.die ∧ (latch x1 x2).rng = x1.rng ∧ (latch x1 x2).pke = x1.pke ∧ (latch x1 x2).eng = x1.eng ∧ (latch x1 x2).host = x1.host ∧ (latch x1 x2).geo = x1.geo ∧ (latch x1 x2).flash = x1.flash ∧ (latch x1 x2).wld = x1.wld ∧ (latch x1 x2).kar = x1.kar ∧ (latch x1 x2).ctl = x1.ctl := by unfold latch; simp

@[simp ↓] theorem clearRead_frame (x1 x2) :
    (clearRead x1 x2).pending = x1.pending ∧ (clearRead x1 x2).now = x1.now ∧ (clearRead x1 x2).fresh = x1.fresh ∧ (clearRead x1 x2).out = x1.out ∧ (clearRead x1 x2).snaps = x1.snaps ∧ (clearRead x1 x2).id = x1.id ∧ (clearRead x1 x2).cham = x1.cham ∧ (clearRead x1 x2).kst = x1.kst ∧ (clearRead x1 x2).mbx = x1.mbx ∧ (clearRead x1 x2).str = x1.str ∧ (clearRead x1 x2).lan = x1.lan ∧ (clearRead x1 x2).bb = x1.bb ∧ (clearRead x1 x2).tim = x1.tim ∧ (clearRead x1 x2).lcy = x1.lcy ∧ (clearRead x1 x2).die = x1.die ∧ (clearRead x1 x2).rng = x1.rng ∧ (clearRead x1 x2).pke = x1.pke ∧ (clearRead x1 x2).eng = x1.eng ∧ (clearRead x1 x2).host = x1.host ∧ (clearRead x1 x2).flash = x1.flash ∧ (clearRead x1 x2).wld = x1.wld ∧ (clearRead x1 x2).kar = x1.kar ∧ (clearRead x1 x2).ctl = x1.ctl := by unfold clearRead; simp

theorem readValue_frame_of {x1 x2}{x t} (h : (Sys2Proof.Machine.readValue x1 x2) = some (x, t)) :
    t.pending = x1.pending ∧ t.now = x1.now ∧ t.fresh = x1.fresh ∧ t.out = x1.out ∧ t.id = x1.id ∧ t.cham = x1.cham ∧ t.kst = x1.kst ∧ t.mbx = x1.mbx ∧ t.str = x1.str ∧ t.lan = x1.lan ∧ t.bb = x1.bb ∧ t.tim = x1.tim ∧ t.lcy = x1.lcy ∧ t.die = x1.die ∧ t.rng = x1.rng ∧ t.pke = x1.pke ∧ t.eng = x1.eng ∧ t.host = x1.host ∧ t.flash = x1.flash ∧ t.wld = x1.wld ∧ t.kar = x1.kar ∧ t.ctl = x1.ctl := by
  unfold readValue at h
  (repeat' split at h) <;> (first | contradiction | (cases h; simp) | (obtain ⟨_, _, h⟩ := Option.map_eq_some_iff.mp h; cases h; simp))

@[simp ↓] theorem refuseRead_frame (x1 x2 x3) :
    (refuseRead x1 x2 x3).1.pending = x1.pending ∧ (refuseRead x1 x2 x3).1.now = x1.now ∧ (refuseRead x1 x2 x3).1.fresh = x1.fresh ∧ (refuseRead x1 x2 x3).1.out = x1.out ∧ (refuseRead x1 x2 x3).1.snaps = x1.snaps ∧ (refuseRead x1 x2 x3).1.id = x1.id ∧ (refuseRead x1 x2 x3).1.psg = x1.psg ∧ (refuseRead x1 x2 x3).1.cham = x1.cham ∧ (refuseRead x1 x2 x3).1.kst = x1.kst ∧ (refuseRead x1 x2 x3).1.mbx = x1.mbx ∧ (refuseRead x1 x2 x3).1.lan = x1.lan ∧ (refuseRead x1 x2 x3).1.bb = x1.bb ∧ (refuseRead x1 x2 x3).1.tim = x1.tim ∧ (refuseRead x1 x2 x3).1.lcy = x1.lcy ∧ (refuseRead x1 x2 x3).1.die = x1.die ∧ (refuseRead x1 x2 x3).1.rng = x1.rng ∧ (refuseRead x1 x2 x3).1.pke = x1.pke ∧ (refuseRead x1 x2 x3).1.eng = x1.eng ∧ (refuseRead x1 x2 x3).1.host = x1.host ∧ (refuseRead x1 x2 x3).1.geo = x1.geo ∧ (refuseRead x1 x2 x3).1.flash = x1.flash ∧ (refuseRead x1 x2 x3).1.kar = x1.kar ∧ (refuseRead x1 x2 x3).1.ctl = x1.ctl := by unfold refuseRead; simp

theorem refuseRead_frame_of {x1 x2 x3 x t} (h : refuseRead x1 x2 x3 = (t, x)) :
    t.pending = x1.pending ∧ t.now = x1.now ∧ t.fresh = x1.fresh ∧ t.out = x1.out ∧ t.snaps = x1.snaps ∧ t.id = x1.id ∧ t.psg = x1.psg ∧ t.cham = x1.cham ∧ t.kst = x1.kst ∧ t.mbx = x1.mbx ∧ t.lan = x1.lan ∧ t.bb = x1.bb ∧ t.tim = x1.tim ∧ t.lcy = x1.lcy ∧ t.die = x1.die ∧ t.rng = x1.rng ∧ t.pke = x1.pke ∧ t.eng = x1.eng ∧ t.host = x1.host ∧ t.geo = x1.geo ∧ t.flash = x1.flash ∧ t.kar = x1.kar ∧ t.ctl = x1.ctl := by
  have e := refuseRead_frame x1 x2 x3; rw [h] at e; exact e

@[simp ↓] theorem readRegister_frame (x1 x2 x3) :
    (readRegister x1 x2 x3).1.pending = x1.pending ∧ (readRegister x1 x2 x3).1.now = x1.now ∧ (readRegister x1 x2 x3).1.fresh = x1.fresh ∧ (readRegister x1 x2 x3).1.id = x1.id ∧ (readRegister x1 x2 x3).1.cham = x1.cham ∧ (readRegister x1 x2 x3).1.lan = x1.lan ∧ (readRegister x1 x2 x3).1.bb = x1.bb ∧ (readRegister x1 x2 x3).1.tim = x1.tim ∧ (readRegister x1 x2 x3).1.lcy = x1.lcy ∧ (readRegister x1 x2 x3).1.die = x1.die ∧ (readRegister x1 x2 x3).1.rng = x1.rng ∧ (readRegister x1 x2 x3).1.pke = x1.pke ∧ (readRegister x1 x2 x3).1.eng = x1.eng ∧ (readRegister x1 x2 x3).1.host = x1.host ∧ (readRegister x1 x2 x3).1.flash = x1.flash ∧ (readRegister x1 x2 x3).1.kar = x1.kar ∧ (readRegister x1 x2 x3).1.ctl = x1.ctl := by fun_cases readRegister <;> (try have := refuseRead_frame_of ‹_›) <;> (try have := takeRspWord_frame_of ‹_›) <;> (try have := readValue_frame_of ‹_›) <;> simp_all

theorem readRegister_frame_of {x1 x2 x3 x t} (h : readRegister x1 x2 x3 = (t, x)) :
    t.pending = x1.pending ∧ t.now = x1.now ∧ t.fresh = x1.fresh ∧ t.id = x1.id ∧ t.cham = x1.cham ∧ t.lan = x1.lan ∧ t.bb = x1.bb ∧ t.tim = x1.tim ∧ t.lcy = x1.lcy ∧ t.die = x1.die ∧ t.rng = x1.rng ∧ t.pke = x1.pke ∧ t.eng = x1.eng ∧ t.host = x1.host ∧ t.flash = x1.flash ∧ t.kar = x1.kar ∧ t.ctl = x1.ctl := by
  have e := readRegister_frame x1 x2 x3; rw [h] at e; exact e

end Sys2Proof.Machine
end

