-- ==== Sys2Proof/Laws/Frames/RegWrite.lean ====
section
/-!
SUPPORT. What the operations of Machine/RegWrite.lean leave unchanged: for each, every part of the state that it does not touch.
-/

set_option Elab.async false

set_option linter.all false
set_option maxRecDepth 2000

namespace Sys2Proof.Machine

@[simp ↓] theorem onBit_pending (x1 x2 x3 x4) (hx3 : ∀ y1, (x3 y1).pending = y1.pending) : (onBit x1 x2 x3 x4).pending = x4.pending := by unfold onBit; (repeat' split) <;> simp [*]

@[simp ↓] theorem onBit_now (x1 x2 x3 x4) (hx3 : ∀ y1, (x3 y1).now = y1.now) : (onBit x1 x2 x3 x4).now = x4.now := by unfold onBit; (repeat' split) <;> simp [*]

@[simp ↓] theorem onBit_fresh (x1 x2 x3 x4) (hx3 : ∀ y1, (x3 y1).fresh = y1.fresh) : (onBit x1 x2 x3 x4).fresh = x4.fresh := by unfold onBit; (repeat' split) <;> simp [*]

@[simp ↓] theorem onBit_out (x1 x2 x3 x4) (hx3 : ∀ y1, (x3 y1).out = y1.out) : (onBit x1 x2 x3 x4).out = x4.out := by unfold onBit; (repeat' split) <;> simp [*]

@[simp ↓] theorem onBit_snaps (x1 x2 x3 x4) (hx3 : ∀ y1, (x3 y1).snaps = y1.snaps) : (onBit x1 x2 x3 x4).snaps = x4.snaps := by unfold onBit; (repeat' split) <;> simp [*]

@[simp ↓] theorem onBit_id (x1 x2 x3 x4) (hx3 : ∀ y1, (x3 y1).id = y1.id) : (onBit x1 x2 x3 x4).id = x4.id := by unfold onBit; (repeat' split) <;> simp [*]

@[simp ↓] theorem onBit_psg (x1 x2 x3 x4) (hx3 : ∀ y1, (x3 y1).psg = y1.psg) : (onBit x1 x2 x3 x4).psg = x4.psg := by unfold onBit; (repeat' split) <;> simp [*]

@[simp ↓] theorem onBit_cham (x1 x2 x3 x4) (hx3 : ∀ y1, (x3 y1).cham = y1.cham) : (onBit x1 x2 x3 x4).cham = x4.cham := by unfold onBit; (repeat' split) <;> simp [*]

@[simp ↓] theorem onBit_kst (x1 x2 x3 x4) (hx3 : ∀ y1, (x3 y1).kst = y1.kst) : (onBit x1 x2 x3 x4).kst = x4.kst := by unfold onBit; (repeat' split) <;> simp [*]

@[simp ↓] theorem onBit_mbx (x1 x2 x3 x4) (hx3 : ∀ y1, (x3 y1).mbx = y1.mbx) : (onBit x1 x2 x3 x4).mbx = x4.mbx := by unfold onBit; (repeat' split) <;> simp [*]

@[simp ↓] theorem onBit_str (x1 x2 x3 x4) (hx3 : ∀ y1, (x3 y1).str = y1.str) : (onBit x1 x2 x3 x4).str = x4.str := by unfold onBit; (repeat' split) <;> simp [*]

@[simp ↓] theorem onBit_lan (x1 x2 x3 x4) (hx3 : ∀ y1, (x3 y1).lan = y1.lan) : (onBit x1 x2 x3 x4).lan = x4.lan := by unfold onBit; (repeat' split) <;> simp [*]

@[simp ↓] theorem onBit_bb (x1 x2 x3 x4) (hx3 : ∀ y1, (x3 y1).bb = y1.bb) : (onBit x1 x2 x3 x4).bb = x4.bb := by unfold onBit; (repeat' split) <;> simp [*]

@[simp ↓] theorem onBit_tim (x1 x2 x3 x4) (hx3 : ∀ y1, (x3 y1).tim = y1.tim) : (onBit x1 x2 x3 x4).tim = x4.tim := by unfold onBit; (repeat' split) <;> simp [*]

@[simp ↓] theorem onBit_lcy (x1 x2 x3 x4) (hx3 : ∀ y1, (x3 y1).lcy = y1.lcy) : (onBit x1 x2 x3 x4).lcy = x4.lcy := by unfold onBit; (repeat' split) <;> simp [*]

@[simp ↓] theorem onBit_die (x1 x2 x3 x4) (hx3 : ∀ y1, (x3 y1).die = y1.die) : (onBit x1 x2 x3 x4).die = x4.die := by unfold onBit; (repeat' split) <;> simp [*]

@[simp ↓] theorem onBit_rng (x1 x2 x3 x4) (hx3 : ∀ y1, (x3 y1).rng = y1.rng) : (onBit x1 x2 x3 x4).rng = x4.rng := by unfold onBit; (repeat' split) <;> simp [*]

@[simp ↓] theorem onBit_pke (x1 x2 x3 x4) (hx3 : ∀ y1, (x3 y1).pke = y1.pke) : (onBit x1 x2 x3 x4).pke = x4.pke := by unfold onBit; (repeat' split) <;> simp [*]

@[simp ↓] theorem onBit_eng (x1 x2 x3 x4) (hx3 : ∀ y1, (x3 y1).eng = y1.eng) : (onBit x1 x2 x3 x4).eng = x4.eng := by unfold onBit; (repeat' split) <;> simp [*]

@[simp ↓] theorem onBit_host (x1 x2 x3 x4) (hx3 : ∀ y1, (x3 y1).host = y1.host) : (onBit x1 x2 x3 x4).host = x4.host := by unfold onBit; (repeat' split) <;> simp [*]

@[simp ↓] theorem onBit_geo (x1 x2 x3 x4) (hx3 : ∀ y1, (x3 y1).geo = y1.geo) : (onBit x1 x2 x3 x4).geo = x4.geo := by unfold onBit; (repeat' split) <;> simp [*]

@[simp ↓] theorem onBit_flash (x1 x2 x3 x4) (hx3 : ∀ y1, (x3 y1).flash = y1.flash) : (onBit x1 x2 x3 x4).flash = x4.flash := by unfold onBit; (repeat' split) <;> simp [*]

@[simp ↓] theorem onBit_wld (x1 x2 x3 x4) (hx3 : ∀ y1, (x3 y1).wld = y1.wld) : (onBit x1 x2 x3 x4).wld = x4.wld := by unfold onBit; (repeat' split) <;> simp [*]

@[simp ↓] theorem onBit_kar (x1 x2 x3 x4) (hx3 : ∀ y1, (x3 y1).kar = y1.kar) : (onBit x1 x2 x3 x4).kar = x4.kar := by unfold onBit; (repeat' split) <;> simp [*]

@[simp ↓] theorem onBit_ctl (x1 x2 x3 x4) (hx3 : ∀ y1, (x3 y1).ctl = y1.ctl) : (onBit x1 x2 x3 x4).ctl = x4.ctl := by unfold onBit; (repeat' split) <;> simp [*]

theorem inRange_pending_of {x1 x2 x3}{t} (hx3 : x3.pending = x1.pending) (h : (Sys2Proof.Machine.inRange x1 x2 x3) = some t) : t.pending = x1.pending := by unfold inRange at h; (repeat' split at h) <;> simp_all

theorem inRange_now_of {x1 x2 x3}{t} (hx3 : x3.now = x1.now) (h : (Sys2Proof.Machine.inRange x1 x2 x3) = some t) : t.now = x1.now := by unfold inRange at h; (repeat' split at h) <;> simp_all

theorem inRange_fresh_of {x1 x2 x3}{t} (hx3 : x3.fresh = x1.fresh) (h : (Sys2Proof.Machine.inRange x1 x2 x3) = some t) : t.fresh = x1.fresh := by unfold inRange at h; (repeat' split at h) <;> simp_all

theorem inRange_out_of {x1 x2 x3}{t} (hx3 : x3.out = x1.out) (h : (Sys2Proof.Machine.inRange x1 x2 x3) = some t) : t.out = x1.out := by unfold inRange at h; (repeat' split at h) <;> simp_all

theorem inRange_snaps_of {x1 x2 x3}{t} (hx3 : x3.snaps = x1.snaps) (h : (Sys2Proof.Machine.inRange x1 x2 x3) = some t) : t.snaps = x1.snaps := by unfold inRange at h; (repeat' split at h) <;> simp_all

theorem inRange_id_of {x1 x2 x3}{t} (hx3 : x3.id = x1.id) (h : (Sys2Proof.Machine.inRange x1 x2 x3) = some t) : t.id = x1.id := by unfold inRange at h; (repeat' split at h) <;> simp_all

theorem inRange_psg_of {x1 x2 x3}{t} (hx3 : x3.psg = x1.psg) (h : (Sys2Proof.Machine.inRange x1 x2 x3) = some t) : t.psg = x1.psg := by unfold inRange at h; (repeat' split at h) <;> simp_all

theorem inRange_cham_of {x1 x2 x3}{t} (hx3 : x3.cham = x1.cham) (h : (Sys2Proof.Machine.inRange x1 x2 x3) = some t) : t.cham = x1.cham := by unfold inRange at h; (repeat' split at h) <;> simp_all

theorem inRange_kst_of {x1 x2 x3}{t} (hx3 : x3.kst = x1.kst) (h : (Sys2Proof.Machine.inRange x1 x2 x3) = some t) : t.kst = x1.kst := by unfold inRange at h; (repeat' split at h) <;> simp_all

theorem inRange_mbx_of {x1 x2 x3}{t} (hx3 : x3.mbx = x1.mbx) (h : (Sys2Proof.Machine.inRange x1 x2 x3) = some t) : t.mbx = x1.mbx := by unfold inRange at h; (repeat' split at h) <;> simp_all

theorem inRange_str_of {x1 x2 x3}{t} (hx3 : x3.str = x1.str) (h : (Sys2Proof.Machine.inRange x1 x2 x3) = some t) : t.str = x1.str := by unfold inRange at h; (repeat' split at h) <;> simp_all

theorem inRange_lan_of {x1 x2 x3}{t} (hx3 : x3.lan = x1.lan) (h : (Sys2Proof.Machine.inRange x1 x2 x3) = some t) : t.lan = x1.lan := by unfold inRange at h; (repeat' split at h) <;> simp_all

theorem inRange_bb_of {x1 x2 x3}{t} (hx3 : x3.bb = x1.bb) (h : (Sys2Proof.Machine.inRange x1 x2 x3) = some t) : t.bb = x1.bb := by unfold inRange at h; (repeat' split at h) <;> simp_all

theorem inRange_tim_of {x1 x2 x3}{t} (hx3 : x3.tim = x1.tim) (h : (Sys2Proof.Machine.inRange x1 x2 x3) = some t) : t.tim = x1.tim := by unfold inRange at h; (repeat' split at h) <;> simp_all

theorem inRange_lcy_of {x1 x2 x3}{t} (hx3 : x3.lcy = x1.lcy) (h : (Sys2Proof.Machine.inRange x1 x2 x3) = some t) : t.lcy = x1.lcy := by unfold inRange at h; (repeat' split at h) <;> simp_all

theorem inRange_die_of {x1 x2 x3}{t} (hx3 : x3.die = x1.die) (h : (Sys2Proof.Machine.inRange x1 x2 x3) = some t) : t.die = x1.die := by unfold inRange at h; (repeat' split at h) <;> simp_all

theorem inRange_rng_of {x1 x2 x3}{t} (hx3 : x3.rng = x1.rng) (h : (Sys2Proof.Machine.inRange x1 x2 x3) = some t) : t.rng = x1.rng := by unfold inRange at h; (repeat' split at h) <;> simp_all

theorem inRange_pke_of {x1 x2 x3}{t} (hx3 : x3.pke = x1.pke) (h : (Sys2Proof.Machine.inRange x1 x2 x3) = some t) : t.pke = x1.pke := by unfold inRange at h; (repeat' split at h) <;> simp_all

theorem inRange_eng_of {x1 x2 x3}{t} (hx3 : x3.eng = x1.eng) (h : (Sys2Proof.Machine.inRange x1 x2 x3) = some t) : t.eng = x1.eng := by unfold inRange at h; (repeat' split at h) <;> simp_all

theorem inRange_host_of {x1 x2 x3}{t} (hx3 : x3.host = x1.host) (h : (Sys2Proof.Machine.inRange x1 x2 x3) = some t) : t.host = x1.host := by unfold inRange at h; (repeat' split at h) <;> simp_all

theorem inRange_geo_of {x1 x2 x3}{t} (hx3 : x3.geo = x1.geo) (h : (Sys2Proof.Machine.inRange x1 x2 x3) = some t) : t.geo = x1.geo := by unfold inRange at h; (repeat' split at h) <;> simp_all

theorem inRange_flash_of {x1 x2 x3}{t} (hx3 : x3.flash = x1.flash) (h : (Sys2Proof.Machine.inRange x1 x2 x3) = some t) : t.flash = x1.flash := by unfold inRange at h; (repeat' split at h) <;> simp_all

theorem inRange_wld_of {x1 x2 x3}{t} (hx3 : x3.wld = x1.wld) (h : (Sys2Proof.Machine.inRange x1 x2 x3) = some t) : t.wld = x1.wld := by unfold inRange at h; (repeat' split at h) <;> simp_all

theorem inRange_kar_of {x1 x2 x3}{t} (hx3 : x3.kar = x1.kar) (h : (Sys2Proof.Machine.inRange x1 x2 x3) = some t) : t.kar = x1.kar := by unfold inRange at h; (repeat' split at h) <;> simp_all

theorem inRange_ctl_of {x1 x2 x3}{t} (hx3 : x3.ctl = x1.ctl) (h : (Sys2Proof.Machine.inRange x1 x2 x3) = some t) : t.ctl = x1.ctl := by unfold inRange at h; (repeat' split at h) <;> simp_all

theorem idWrite_frame_of {x1 x2 x3}{t} (h : (Sys2Proof.Machine.idWrite x1 x2 x3) = some t) :
    t.pending = x1.pending ∧ t.now = x1.now ∧ t.bb = x1.bb ∧ t.flash = x1.flash := by unfold idWrite at h; (repeat' split at h) <;> (first | contradiction | (cases h; simp) | (simp only [Option.map_eq_some_iff, Option.bind_eq_some_iff] at h; obtain ⟨_, _, rfl⟩ := h; simp))

theorem boxWrite_frame_of {x1 x2 x3 x4}{t} (h : (Sys2Proof.Machine.boxWrite x1 x2 x3 x4) = some t) :
    t.pending = x1.pending ∧ t.now = x1.now ∧ t.fresh = x1.fresh ∧ t.snaps = x1.snaps ∧ t.id = x1.id ∧ t.psg = x1.psg ∧ t.cham = x1.cham ∧ t.str = x1.str ∧ t.lan = x1.lan ∧ t.bb = x1.bb ∧ t.tim = x1.tim ∧ t.lcy = x1.lcy ∧ t.die = x1.die ∧ t.rng = x1.rng ∧ t.pke = x1.pke ∧ t.eng = x1.eng ∧ t.host = x1.host ∧ t.geo = x1.geo ∧ t.flash = x1.flash ∧ t.wld = x1.wld ∧ t.kar = x1.kar ∧ t.ctl = x1.ctl := by unfold boxWrite at h; (repeat' split at h) <;> (first | contradiction | (cases h; simp) | (simp only [Option.map_eq_some_iff, Option.bind_eq_some_iff] at h; obtain ⟨_, _, rfl⟩ := h; simp))

theorem mbxWrite_frame_of {x1 x2 x3}{t} (h : (Sys2Proof.Machine.mbxWrite x1 x2 x3) = some t) :
    t.pending = x1.pending ∧ t.now = x1.now ∧ t.fresh = x1.fresh ∧ t.out = x1.out ∧ t.snaps = x1.snaps ∧ t.id = x1.id ∧ t.psg = x1.psg ∧ t.cham = x1.cham ∧ t.kst = x1.kst ∧ t.str = x1.str ∧ t.lan = x1.lan ∧ t.bb = x1.bb ∧ t.tim = x1.tim ∧ t.lcy = x1.lcy ∧ t.die = x1.die ∧ t.rng = x1.rng ∧ t.pke = x1.pke ∧ t.eng = x1.eng ∧ t.host = x1.host ∧ t.geo = x1.geo ∧ t.flash = x1.flash ∧ t.wld = x1.wld ∧ t.kar = x1.kar ∧ t.ctl = x1.ctl := by unfold mbxWrite at h; (repeat' split at h) <;> (first | contradiction | (cases h; simp) | (simp only [Option.map_eq_some_iff, Option.bind_eq_some_iff] at h; obtain ⟨_, _, rfl⟩ := h; simp))

@[simp ↓] theorem writeTmp_frame (x1 x2 x3) :
    (writeTmp x1 x2 x3).pending = x1.pending ∧ (writeTmp x1 x2 x3).now = x1.now ∧ (writeTmp x1 x2 x3).fresh = x1.fresh ∧ (writeTmp x1 x2 x3).snaps = x1.snaps ∧ (writeTmp x1 x2 x3).id = x1.id ∧ (writeTmp x1 x2 x3).cham = x1.cham ∧ (writeTmp x1 x2 x3).kst = x1.kst ∧ (writeTmp x1 x2 x3).str = x1.str ∧ (writeTmp x1 x2 x3).bb = x1.bb ∧ (writeTmp x1 x2 x3).tim = x1.tim ∧ (writeTmp x1 x2 x3).die = x1.die ∧ (writeTmp x1 x2 x3).pke = x1.pke ∧ (writeTmp x1 x2 x3).geo = x1.geo ∧ (writeTmp x1 x2 x3).flash = x1.flash ∧ (writeTmp x1 x2 x3).kar = x1.kar ∧ (writeTmp x1 x2 x3).ctl = x1.ctl := by unfold writeTmp; dsimp only; (repeat' split) <;> (try have := draw_frame_of ‹_›) <;> simp [*]

theorem lanWrite_frame_of {x1 x2 x3}{t} (h : (Sys2Proof.Machine.lanWrite x1 x2 x3) = some t) :
    t.pending = x1.pending ∧ t.now = x1.now ∧ t.snaps = x1.snaps ∧ t.geo = x1.geo ∧ t.flash = x1.flash ∧ t.kar = x1.kar := by unfold lanWrite at h; (repeat' split at h) <;> (first | contradiction | (cases h; simp) | (simp only [Option.map_eq_some_iff, Option.bind_eq_some_iff] at h; obtain ⟨_, _, rfl⟩ := h; simp))

theorem strWrite_pending_of {x1 x2 x3}{t} (h : (Sys2Proof.Machine.strWrite x1 x2 x3) = some t) : t.pending = x1.pending := by
  unfold strWrite at h; split at h
  · exact inRange_pending_of (by simp) h
  · obtain ⟨i, _, h⟩ := Option.bind_eq_some_iff.mp h; exact inRange_pending_of (by simp) h

theorem strWrite_now_of {x1 x2 x3}{t} (h : (Sys2Proof.Machine.strWrite x1 x2 x3) = some t) : t.now = x1.now := by
  unfold strWrite at h; split at h
  · exact inRange_now_of (by simp) h
  · obtain ⟨i, _, h⟩ := Option.bind_eq_some_iff.mp h; exact inRange_now_of (by simp) h

theorem strWrite_fresh_of {x1 x2 x3}{t} (h : (Sys2Proof.Machine.strWrite x1 x2 x3) = some t) : t.fresh = x1.fresh := by
  unfold strWrite at h; split at h
  · exact inRange_fresh_of (by simp) h
  · obtain ⟨i, _, h⟩ := Option.bind_eq_some_iff.mp h; exact inRange_fresh_of (by simp) h

theorem strWrite_out_of {x1 x2 x3}{t} (h : (Sys2Proof.Machine.strWrite x1 x2 x3) = some t) : t.out = x1.out := by
  unfold strWrite at h; split at h
  · exact inRange_out_of (by simp) h
  · obtain ⟨i, _, h⟩ := Option.bind_eq_some_iff.mp h; exact inRange_out_of (by simp) h

theorem strWrite_snaps_of {x1 x2 x3}{t} (h : (Sys2Proof.Machine.strWrite x1 x2 x3) = some t) : t.snaps = x1.snaps := by
  unfold strWrite at h; split at h
  · exact inRange_snaps_of (by simp) h
  · obtain ⟨i, _, h⟩ := Option.bind_eq_some_iff.mp h; exact inRange_snaps_of (by simp) h

theorem strWrite_id_of {x1 x2 x3}{t} (h : (Sys2Proof.Machine.strWrite x1 x2 x3) = some t) : t.id = x1.id := by
  unfold strWrite at h; split at h
  · exact inRange_id_of (by simp) h
  · obtain ⟨i, _, h⟩ := Option.bind_eq_some_iff.mp h; exact inRange_id_of (by simp) h

theorem strWrite_psg_of {x1 x2 x3}{t} (h : (Sys2Proof.Machine.strWrite x1 x2 x3) = some t) : t.psg = x1.psg := by
  unfold strWrite at h; split at h
  · exact inRange_psg_of (by simp) h
  · obtain ⟨i, _, h⟩ := Option.bind_eq_some_iff.mp h; exact inRange_psg_of (by simp) h

theorem strWrite_cham_of {x1 x2 x3}{t} (h : (Sys2Proof.Machine.strWrite x1 x2 x3) = some t) : t.cham = x1.cham := by
  unfold strWrite at h; split at h
  · exact inRange_cham_of (by simp) h
  · obtain ⟨i, _, h⟩ := Option.bind_eq_some_iff.mp h; exact inRange_cham_of (by simp) h

theorem strWrite_kst_of {x1 x2 x3}{t} (h : (Sys2Proof.Machine.strWrite x1 x2 x3) = some t) : t.kst = x1.kst := by
  unfold strWrite at h; split at h
  · exact inRange_kst_of (by simp) h
  · obtain ⟨i, _, h⟩ := Option.bind_eq_some_iff.mp h; exact inRange_kst_of (by simp) h

theorem strWrite_mbx_of {x1 x2 x3}{t} (h : (Sys2Proof.Machine.strWrite x1 x2 x3) = some t) : t.mbx = x1.mbx := by
  unfold strWrite at h; split at h
  · exact inRange_mbx_of (by simp) h
  · obtain ⟨i, _, h⟩ := Option.bind_eq_some_iff.mp h; exact inRange_mbx_of (by simp) h

theorem strWrite_lan_of {x1 x2 x3}{t} (h : (Sys2Proof.Machine.strWrite x1 x2 x3) = some t) : t.lan = x1.lan := by
  unfold strWrite at h; split at h
  · exact inRange_lan_of (by simp) h
  · obtain ⟨i, _, h⟩ := Option.bind_eq_some_iff.mp h; exact inRange_lan_of (by simp) h

theorem strWrite_bb_of {x1 x2 x3}{t} (h : (Sys2Proof.Machine.strWrite x1 x2 x3) = some t) : t.bb = x1.bb := by
  unfold strWrite at h; split at h
  · exact inRange_bb_of (by simp) h
  · obtain ⟨i, _, h⟩ := Option.bind_eq_some_iff.mp h; exact inRange_bb_of (by simp) h

theorem strWrite_tim_of {x1 x2 x3}{t} (h : (Sys2Proof.Machine.strWrite x1 x2 x3) = some t) : t.tim = x1.tim := by
  unfold strWrite at h; split at h
  · exact inRange_tim_of (by simp) h
  · obtain ⟨i, _, h⟩ := Option.bind_eq_some_iff.mp h; exact inRange_tim_of (by simp) h

theorem strWrite_lcy_of {x1 x2 x3}{t} (h : (Sys2Proof.Machine.strWrite x1 x2 x3) = some t) : t.lcy = x1.lcy := by
  unfold strWrite at h; split at h
  · exact inRange_lcy_of (by simp) h
  · obtain ⟨i, _, h⟩ := Option.bind_eq_some_iff.mp h; exact inRange_lcy_of (by simp) h

theorem strWrite_die_of {x1 x2 x3}{t} (h : (Sys2Proof.Machine.strWrite x1 x2 x3) = some t) : t.die = x1.die := by
  unfold strWrite at h; split at h
  · exact inRange_die_of (by simp) h
  · obtain ⟨i, _, h⟩ := Option.bind_eq_some_iff.mp h; exact inRange_die_of (by simp) h

theorem strWrite_rng_of {x1 x2 x3}{t} (h : (Sys2Proof.Machine.strWrite x1 x2 x3) = some t) : t.rng = x1.rng := by
  unfold strWrite at h; split at h
  · exact inRange_rng_of (by simp) h
  · obtain ⟨i, _, h⟩ := Option.bind_eq_some_iff.mp h; exact inRange_rng_of (by simp) h

theorem strWrite_pke_of {x1 x2 x3}{t} (h : (Sys2Proof.Machine.strWrite x1 x2 x3) = some t) : t.pke = x1.pke := by
  unfold strWrite at h; split at h
  · exact inRange_pke_of (by simp) h
  · obtain ⟨i, _, h⟩ := Option.bind_eq_some_iff.mp h; exact inRange_pke_of (by simp) h

theorem strWrite_eng_of {x1 x2 x3}{t} (h : (Sys2Proof.Machine.strWrite x1 x2 x3) = some t) : t.eng = x1.eng := by
  unfold strWrite at h; split at h
  · exact inRange_eng_of (by simp) h
  · obtain ⟨i, _, h⟩ := Option.bind_eq_some_iff.mp h; exact inRange_eng_of (by simp) h

theorem strWrite_host_of {x1 x2 x3}{t} (h : (Sys2Proof.Machine.strWrite x1 x2 x3) = some t) : t.host = x1.host := by
  unfold strWrite at h; split at h
  · exact inRange_host_of (by simp) h
  · obtain ⟨i, _, h⟩ := Option.bind_eq_some_iff.mp h; exact inRange_host_of (by simp) h

theorem strWrite_geo_of {x1 x2 x3}{t} (h : (Sys2Proof.Machine.strWrite x1 x2 x3) = some t) : t.geo = x1.geo := by
  unfold strWrite at h; split at h
  · exact inRange_geo_of (by simp) h
  · obtain ⟨i, _, h⟩ := Option.bind_eq_some_iff.mp h; exact inRange_geo_of (by simp) h

theorem strWrite_flash_of {x1 x2 x3}{t} (h : (Sys2Proof.Machine.strWrite x1 x2 x3) = some t) : t.flash = x1.flash := by
  unfold strWrite at h; split at h
  · exact inRange_flash_of (by simp) h
  · obtain ⟨i, _, h⟩ := Option.bind_eq_some_iff.mp h; exact inRange_flash_of (by simp) h

theorem strWrite_wld_of {x1 x2 x3}{t} (h : (Sys2Proof.Machine.strWrite x1 x2 x3) = some t) : t.wld = x1.wld := by
  unfold strWrite at h; split at h
  · exact inRange_wld_of (by simp) h
  · obtain ⟨i, _, h⟩ := Option.bind_eq_some_iff.mp h; exact inRange_wld_of (by simp) h

theorem strWrite_kar_of {x1 x2 x3}{t} (h : (Sys2Proof.Machine.strWrite x1 x2 x3) = some t) : t.kar = x1.kar := by
  unfold strWrite at h; split at h
  · exact inRange_kar_of (by simp) h
  · obtain ⟨i, _, h⟩ := Option.bind_eq_some_iff.mp h; exact inRange_kar_of (by simp) h

theorem strWrite_ctl_of {x1 x2 x3}{t} (h : (Sys2Proof.Machine.strWrite x1 x2 x3) = some t) : t.ctl = x1.ctl := by
  unfold strWrite at h; split at h
  · exact inRange_ctl_of (by simp) h
  · obtain ⟨i, _, h⟩ := Option.bind_eq_some_iff.mp h; exact inRange_ctl_of (by simp) h

theorem lcyWrite_frame_of {x1 x2 x3}{t} (h : (Sys2Proof.Machine.lcyWrite x1 x2 x3) = some t) :
    t.pending = x1.pending ∧ t.now = x1.now ∧ t.snaps = x1.snaps ∧ t.id = x1.id ∧ t.cham = x1.cham ∧ t.kst = x1.kst ∧ t.lan = x1.lan ∧ t.bb = x1.bb ∧ t.tim = x1.tim ∧ t.rng = x1.rng ∧ t.pke = x1.pke ∧ t.eng = x1.eng ∧ t.geo = x1.geo ∧ t.flash = x1.flash ∧ t.kar = x1.kar ∧ t.ctl = x1.ctl := by unfold lcyWrite at h; (repeat' split at h) <;> (first | contradiction | (cases h; simp) | (simp only [Option.map_eq_some_iff, Option.bind_eq_some_iff] at h; obtain ⟨_, _, rfl⟩ := h; simp))

theorem rngRegWrite_pending_of {x1 x2 x3}{t} (h : (Sys2Proof.Machine.rngRegWrite x1 x2 x3) = some t) : t.pending = x1.pending := by unfold rngRegWrite at h; dsimp only at h; (repeat' split at h) <;> (try have := inRange_pending_of ‹_›) <;> (try have := drawFree_frame_of ‹_›) <;> (first | contradiction | (cases h; simp [*]) | (simp only [Option.map_eq_some_iff, Option.bind_eq_some_iff] at h; obtain ⟨_, _, rfl⟩ := h; simp [*]))

theorem rngRegWrite_now_of {x1 x2 x3}{t} (h : (Sys2Proof.Machine.rngRegWrite x1 x2 x3) = some t) : t.now = x1.now := by unfold rngRegWrite at h; dsimp only at h; (repeat' split at h) <;> (try have := inRange_now_of ‹_›) <;> (try have := drawFree_frame_of ‹_›) <;> (first | contradiction | (cases h; simp [*]) | (simp only [Option.map_eq_some_iff, Option.bind_eq_some_iff] at h; obtain ⟨_, _, rfl⟩ := h; simp [*]))

theorem rngRegWrite_snaps_of {x1 x2 x3}{t} (h : (Sys2Proof.Machine.rngRegWrite x1 x2 x3) = some t) : t.snaps = x1.snaps := by unfold rngRegWrite at h; dsimp only at h; (repeat' split at h) <;> (try have := inRange_snaps_of ‹_›) <;> (try have := drawFree_frame_of ‹_›) <;> (first | contradiction | (cases h; simp [*]) | (simp only [Option.map_eq_some_iff, Option.bind_eq_some_iff] at h; obtain ⟨_, _, rfl⟩ := h; simp [*]))

theorem rngRegWrite_psg_of {x1 x2 x3}{t} (h : (Sys2Proof.Machine.rngRegWrite x1 x2 x3) = some t) : t.psg = x1.psg := by unfold rngRegWrite at h; dsimp only at h; (repeat' split at h) <;> (try have := inRange_psg_of ‹_›) <;> (try have := drawFree_frame_of ‹_›) <;> (first | contradiction | (cases h; simp [*]) | (simp only [Option.map_eq_some_iff, Option.bind_eq_some_iff] at h; obtain ⟨_, _, rfl⟩ := h; simp [*]))

theorem rngRegWrite_cham_of {x1 x2 x3}{t} (h : (Sys2Proof.Machine.rngRegWrite x1 x2 x3) = some t) : t.cham = x1.cham := by unfold rngRegWrite at h; dsimp only at h; (repeat' split at h) <;> (try have := inRange_cham_of ‹_›) <;> (try have := drawFree_frame_of ‹_›) <;> (first | contradiction | (cases h; simp [*]) | (simp only [Option.map_eq_some_iff, Option.bind_eq_some_iff] at h; obtain ⟨_, _, rfl⟩ := h; simp [*]))

theorem rngRegWrite_kst_of {x1 x2 x3}{t} (h : (Sys2Proof.Machine.rngRegWrite x1 x2 x3) = some t) : t.kst = x1.kst := by unfold rngRegWrite at h; dsimp only at h; (repeat' split at h) <;> (try have := inRange_kst_of ‹_›) <;> (try have := drawFree_frame_of ‹_›) <;> (first | contradiction | (cases h; simp [*]) | (simp only [Option.map_eq_some_iff, Option.bind_eq_some_iff] at h; obtain ⟨_, _, rfl⟩ := h; simp [*]))

theorem rngRegWrite_bb_of {x1 x2 x3}{t} (h : (Sys2Proof.Machine.rngRegWrite x1 x2 x3) = some t) : t.bb = x1.bb := by unfold rngRegWrite at h; dsimp only at h; (repeat' split at h) <;> (try have := inRange_bb_of ‹_›) <;> (try have := drawFree_frame_of ‹_›) <;> (first | contradiction | (cases h; simp [*]) | (simp only [Option.map_eq_some_iff, Option.bind_eq_some_iff] at h; obtain ⟨_, _, rfl⟩ := h; simp [*]))

theorem rngRegWrite_tim_of {x1 x2 x3}{t} (h : (Sys2Proof.Machine.rngRegWrite x1 x2 x3) = some t) : t.tim = x1.tim := by unfold rngRegWrite at h; dsimp only at h; (repeat' split at h) <;> (try have := inRange_tim_of ‹_›) <;> (try have := drawFree_frame_of ‹_›) <;> (first | contradiction | (cases h; simp [*]) | (simp only [Option.map_eq_some_iff, Option.bind_eq_some_iff] at h; obtain ⟨_, _, rfl⟩ := h; simp [*]))

theorem rngRegWrite_lcy_of {x1 x2 x3}{t} (h : (Sys2Proof.Machine.rngRegWrite x1 x2 x3) = some t) : t.lcy = x1.lcy := by unfold rngRegWrite at h; dsimp only at h; (repeat' split at h) <;> (try have := inRange_lcy_of ‹_›) <;> (try have := drawFree_frame_of ‹_›) <;> (first | contradiction | (cases h; simp [*]) | (simp only [Option.map_eq_some_iff, Option.bind_eq_some_iff] at h; obtain ⟨_, _, rfl⟩ := h; simp [*]))

theorem rngRegWrite_die_of {x1 x2 x3}{t} (h : (Sys2Proof.Machine.rngRegWrite x1 x2 x3) = some t) : t.die = x1.die := by unfold rngRegWrite at h; dsimp only at h; (repeat' split at h) <;> (try have := inRange_die_of ‹_›) <;> (try have := drawFree_frame_of ‹_›) <;> (first | contradiction | (cases h; simp [*]) | (simp only [Option.map_eq_some_iff, Option.bind_eq_some_iff] at h; obtain ⟨_, _, rfl⟩ := h; simp [*]))

theorem rngRegWrite_pke_of {x1 x2 x3}{t} (h : (Sys2Proof.Machine.rngRegWrite x1 x2 x3) = some t) : t.pke = x1.pke := by unfold rngRegWrite at h; dsimp only at h; (repeat' split at h) <;> (try have := inRange_pke_of ‹_›) <;> (try have := drawFree_frame_of ‹_›) <;> (first | contradiction | (cases h; simp [*]) | (simp only [Option.map_eq_some_iff, Option.bind_eq_some_iff] at h; obtain ⟨_, _, rfl⟩ := h; simp [*]))

theorem rngRegWrite_eng_of {x1 x2 x3}{t} (h : (Sys2Proof.Machine.rngRegWrite x1 x2 x3) = some t) : t.eng = x1.eng := by unfold rngRegWrite at h; dsimp only at h; (repeat' split at h) <;> (try have := inRange_eng_of ‹_›) <;> (try have := drawFree_frame_of ‹_›) <;> (first | contradiction | (cases h; simp [*]) | (simp only [Option.map_eq_some_iff, Option.bind_eq_some_iff] at h; obtain ⟨_, _, rfl⟩ := h; simp [*]))

theorem rngRegWrite_geo_of {x1 x2 x3}{t} (h : (Sys2Proof.Machine.rngRegWrite x1 x2 x3) = some t) : t.geo = x1.geo := by unfold rngRegWrite at h; dsimp only at h; (repeat' split at h) <;> (try have := inRange_geo_of ‹_›) <;> (try have := drawFree_frame_of ‹_›) <;> (first | contradiction | (cases h; simp [*]) | (simp only [Option.map_eq_some_iff, Option.bind_eq_some_iff] at h; obtain ⟨_, _, rfl⟩ := h; simp [*]))

theorem rngRegWrite_flash_of {x1 x2 x3}{t} (h : (Sys2Proof.Machine.rngRegWrite x1 x2 x3) = some t) : t.flash = x1.flash := by unfold rngRegWrite at h; dsimp only at h; (repeat' split at h) <;> (try have := inRange_flash_of ‹_›) <;> (try have := drawFree_frame_of ‹_›) <;> (first | contradiction | (cases h; simp [*]) | (simp only [Option.map_eq_some_iff, Option.bind_eq_some_iff] at h; obtain ⟨_, _, rfl⟩ := h; simp [*]))

theorem rngRegWrite_kar_of {x1 x2 x3}{t} (h : (Sys2Proof.Machine.rngRegWrite x1 x2 x3) = some t) : t.kar = x1.kar := by unfold rngRegWrite at h; dsimp only at h; (repeat' split at h) <;> (try have := inRange_kar_of ‹_›) <;> (try have := drawFree_frame_of ‹_›) <;> (first | contradiction | (cases h; simp [*]) | (simp only [Option.map_eq_some_iff, Option.bind_eq_some_iff] at h; obtain ⟨_, _, rfl⟩ := h; simp [*]))

theorem rngRegWrite_ctl_of {x1 x2 x3}{t} (h : (Sys2Proof.Machine.rngRegWrite x1 x2 x3) = some t) : t.ctl = x1.ctl := by unfold rngRegWrite at h; dsimp only at h; (repeat' split at h) <;> (try have := inRange_ctl_of ‹_›) <;> (try have := drawFree_frame_of ‹_›) <;> (first | contradiction | (cases h; simp [*]) | (simp only [Option.map_eq_some_iff, Option.bind_eq_some_iff] at h; obtain ⟨_, _, rfl⟩ := h; simp [*]))

theorem kstWrite_frame_of {x1 x2 x3}{t} (h : (Sys2Proof.Machine.kstWrite x1 x2 x3) = some t) :
    t.pending = x1.pending ∧ t.now = x1.now ∧ t.fresh = x1.fresh ∧ t.out = x1.out ∧ t.snaps = x1.snaps ∧ t.id = x1.id ∧ t.psg = x1.psg ∧ t.cham = x1.cham ∧ t.mbx = x1.mbx ∧ t.str = x1.str ∧ t.lan = x1.lan ∧ t.bb = x1.bb ∧ t.tim = x1.tim ∧ t.lcy = x1.lcy ∧ t.die = x1.die ∧ t.rng = x1.rng ∧ t.pke = x1.pke ∧ t.eng = x1.eng ∧ t.host = x1.host ∧ t.geo = x1.geo ∧ t.flash = x1.flash ∧ t.wld = x1.wld ∧ t.kar = x1.kar ∧ t.ctl = x1.ctl := by unfold kstWrite at h; (repeat' split at h) <;> (first | contradiction | (cases h; simp) | (simp only [Option.map_eq_some_iff, Option.bind_eq_some_iff] at h; obtain ⟨_, _, rfl⟩ := h; simp))

theorem svcWrite_frame_of {x1 x2 x3}{t} (h : (Sys2Proof.Machine.svcWrite x1 x2 x3) = some t) :
    t.pending = x1.pending ∧ t.now = x1.now ∧ t.fresh = x1.fresh ∧ t.snaps = x1.snaps ∧ t.id = x1.id ∧ t.cham = x1.cham ∧ t.kst = x1.kst ∧ t.lan = x1.lan ∧ t.bb = x1.bb ∧ t.tim = x1.tim ∧ t.lcy = x1.lcy ∧ t.die = x1.die ∧ t.rng = x1.rng ∧ t.pke = x1.pke ∧ t.geo = x1.geo ∧ t.flash = x1.flash ∧ t.kar = x1.kar := by unfold svcWrite at h; (repeat' split at h) <;> (first | contradiction | (cases h; simp) | (simp only [Option.map_eq_some_iff, Option.bind_eq_some_iff] at h; obtain ⟨_, _, rfl⟩ := h; simp))

theorem dgsWrite_frame_of {x1 x2 x3}{t} (h : (Sys2Proof.Machine.dgsWrite x1 x2 x3) = some t) :
    t.pending = x1.pending ∧ t.now = x1.now ∧ t.fresh = x1.fresh ∧ t.out = x1.out ∧ t.snaps = x1.snaps ∧ t.psg = x1.psg ∧ t.cham = x1.cham ∧ t.kst = x1.kst ∧ t.mbx = x1.mbx ∧ t.str = x1.str ∧ t.lan = x1.lan ∧ t.bb = x1.bb ∧ t.tim = x1.tim ∧ t.lcy = x1.lcy ∧ t.die = x1.die ∧ t.rng = x1.rng ∧ t.pke = x1.pke ∧ t.host = x1.host ∧ t.geo = x1.geo ∧ t.flash = x1.flash ∧ t.wld = x1.wld ∧ t.kar = x1.kar ∧ t.ctl = x1.ctl := by unfold dgsWrite at h; (repeat' split at h) <;> (first | contradiction | (cases h; simp) | (simp only [Option.map_eq_some_iff, Option.bind_eq_some_iff] at h; obtain ⟨_, _, rfl⟩ := h; simp))

theorem pkeWrite_frame_of {x1 x2 x3}{t} (h : (Sys2Proof.Machine.pkeWrite x1 x2 x3) = some t) :
    t.pending = x1.pending ∧ t.now = x1.now ∧ t.snaps = x1.snaps ∧ t.kst = x1.kst ∧ t.lan = x1.lan ∧ t.bb = x1.bb ∧ t.rng = x1.rng ∧ t.eng = x1.eng ∧ t.geo = x1.geo ∧ t.flash = x1.flash ∧ t.kar = x1.kar := by unfold pkeWrite at h; (repeat' split at h) <;> (first | contradiction | (cases h; simp) | (simp only [Option.map_eq_some_iff, Option.bind_eq_some_iff] at h; obtain ⟨_, _, rfl⟩ := h; simp))

@[simp ↓] theorem vlogWrite_frame (x1 x2) :
    (vlogWrite x1 x2).pending = x1.pending ∧ (vlogWrite x1 x2).now = x1.now ∧ (vlogWrite x1 x2).fresh = x1.fresh ∧ (vlogWrite x1 x2).out = x1.out ∧ (vlogWrite x1 x2).snaps = x1.snaps ∧ (vlogWrite x1 x2).id = x1.id ∧ (vlogWrite x1 x2).cham = x1.cham ∧ (vlogWrite x1 x2).kst = x1.kst ∧ (vlogWrite x1 x2).mbx = x1.mbx ∧ (vlogWrite x1 x2).str = x1.str ∧ (vlogWrite x1 x2).lan = x1.lan ∧ (vlogWrite x1 x2).bb = x1.bb ∧ (vlogWrite x1 x2).tim = x1.tim ∧ (vlogWrite x1 x2).lcy = x1.lcy ∧ (vlogWrite x1 x2).die = x1.die ∧ (vlogWrite x1 x2).rng = x1.rng ∧ (vlogWrite x1 x2).pke = x1.pke ∧ (vlogWrite x1 x2).eng = x1.eng ∧ (vlogWrite x1 x2).host = x1.host ∧ (vlogWrite x1 x2).geo = x1.geo ∧ (vlogWrite x1 x2).flash = x1.flash ∧ (vlogWrite x1 x2).wld = x1.wld ∧ (vlogWrite x1 x2).kar = x1.kar ∧ (vlogWrite x1 x2).ctl = x1.ctl := by unfold vlogWrite; simp

@[simp ↓] theorem tailWrite_frame (x1 x2) :
    (tailWrite x1 x2).pending = x1.pending ∧ (tailWrite x1 x2).now = x1.now ∧ (tailWrite x1 x2).fresh = x1.fresh ∧ (tailWrite x1 x2).out = x1.out ∧ (tailWrite x1 x2).snaps = x1.snaps ∧ (tailWrite x1 x2).id = x1.id ∧ (tailWrite x1 x2).cham = x1.cham ∧ (tailWrite x1 x2).kst = x1.kst ∧ (tailWrite x1 x2).mbx = x1.mbx ∧ (tailWrite x1 x2).str = x1.str ∧ (tailWrite x1 x2).lan = x1.lan ∧ (tailWrite x1 x2).bb = x1.bb ∧ (tailWrite x1 x2).tim = x1.tim ∧ (tailWrite x1 x2).lcy = x1.lcy ∧ (tailWrite x1 x2).die = x1.die ∧ (tailWrite x1 x2).rng = x1.rng ∧ (tailWrite x1 x2).pke = x1.pke ∧ (tailWrite x1 x2).eng = x1.eng ∧ (tailWrite x1 x2).host = x1.host ∧ (tailWrite x1 x2).geo = x1.geo ∧ (tailWrite x1 x2).flash = x1.flash ∧ (tailWrite x1 x2).wld = x1.wld ∧ (tailWrite x1 x2).kar = x1.kar ∧ (tailWrite x1 x2).ctl = x1.ctl := by unfold tailWrite; extract_lets past; generalize past x1.psg.vlogHead = a; generalize past (BitVec.toNat x2) = b; simp

theorem wireWrite_pending_of {x1 x2 x3 x4 x5}{t} (h : (Sys2Proof.Machine.wireWrite x1 x2 x3 x4 x5) = some t) : t.pending = x1.pending := by
  revert h; unfold wireWrite
  exact some_ite (P := fun t => t.pending = x1.pending) (some_some (by simp)) (some_ite (some_map fun a => by split <;> simp) some_none) t

theorem wireWrite_now_of {x1 x2 x3 x4 x5}{t} (h : (Sys2Proof.Machine.wireWrite x1 x2 x3 x4 x5) = some t) : t.now = x1.now := by
  revert h; unfold wireWrite
  exact some_ite (P := fun t => t.now = x1.now) (some_some (by simp)) (some_ite (some_map fun a => by split <;> simp) some_none) t

theorem wireWrite_snaps_of {x1 x2 x3 x4 x5}{t} (h : (Sys2Proof.Machine.wireWrite x1 x2 x3 x4 x5) = some t) : t.snaps = x1.snaps := by
  revert h; unfold wireWrite
  exact some_ite (P := fun t => t.snaps = x1.snaps) (some_some (by simp)) (some_ite (some_map fun a => by split <;> simp) some_none) t

theorem wireWrite_id_of {x1 x2 x3 x4 x5}{t} (h : (Sys2Proof.Machine.wireWrite x1 x2 x3 x4 x5) = some t) : t.id = x1.id := by
  revert h; unfold wireWrite
  exact some_ite (P := fun t => t.id = x1.id) (some_some (by simp)) (some_ite (some_map fun a => by split <;> simp) some_none) t

theorem wireWrite_cham_of {x1 x2 x3 x4 x5}{t} (h : (Sys2Proof.Machine.wireWrite x1 x2 x3 x4 x5) = some t) : t.cham = x1.cham := by
  revert h; unfold wireWrite
  exact some_ite (P := fun t => t.cham = x1.cham) (some_some (by simp)) (some_ite (some_map fun a => by split <;> simp) some_none) t

theorem wireWrite_kst_of {x1 x2 x3 x4 x5}{t} (h : (Sys2Proof.Machine.wireWrite x1 x2 x3 x4 x5) = some t) : t.kst = x1.kst := by
  revert h; unfold wireWrite
  exact some_ite (P := fun t => t.kst = x1.kst) (some_some (by simp)) (some_ite (some_map fun a => by split <;> simp) some_none) t

theorem wireWrite_lan_of {x1 x2 x3 x4 x5}{t} (h : (Sys2Proof.Machine.wireWrite x1 x2 x3 x4 x5) = some t) : t.lan = x1.lan := by
  revert h; unfold wireWrite
  exact some_ite (P := fun t => t.lan = x1.lan) (some_some (by simp)) (some_ite (some_map fun a => by split <;> simp) some_none) t

theorem wireWrite_bb_of {x1 x2 x3 x4 x5}{t} (h : (Sys2Proof.Machine.wireWrite x1 x2 x3 x4 x5) = some t) : t.bb = x1.bb := by
  revert h; unfold wireWrite
  exact some_ite (P := fun t => t.bb = x1.bb) (some_some (by simp)) (some_ite (some_map fun a => by split <;> simp) some_none) t

theorem wireWrite_tim_of {x1 x2 x3 x4 x5}{t} (h : (Sys2Proof.Machine.wireWrite x1 x2 x3 x4 x5) = some t) : t.tim = x1.tim := by
  revert h; unfold wireWrite
  exact some_ite (P := fun t => t.tim = x1.tim) (some_some (by simp)) (some_ite (some_map fun a => by split <;> simp) some_none) t

theorem wireWrite_lcy_of {x1 x2 x3 x4 x5}{t} (h : (Sys2Proof.Machine.wireWrite x1 x2 x3 x4 x5) = some t) : t.lcy = x1.lcy := by
  revert h; unfold wireWrite
  exact some_ite (P := fun t => t.lcy = x1.lcy) (some_some (by simp)) (some_ite (some_map fun a => by split <;> simp) some_none) t

theorem wireWrite_rng_of {x1 x2 x3 x4 x5}{t} (h : (Sys2Proof.Machine.wireWrite x1 x2 x3 x4 x5) = some t) : t.rng = x1.rng := by
  revert h; unfold wireWrite
  exact some_ite (P := fun t => t.rng = x1.rng) (some_some (by simp)) (some_ite (some_map fun a => by split <;> simp) some_none) t

theorem wireWrite_pke_of {x1 x2 x3 x4 x5}{t} (h : (Sys2Proof.Machine.wireWrite x1 x2 x3 x4 x5) = some t) : t.pke = x1.pke := by
  revert h; unfold wireWrite
  exact some_ite (P := fun t => t.pke = x1.pke) (some_some (by simp)) (some_ite (some_map fun a => by split <;> simp) some_none) t

theorem wireWrite_eng_of {x1 x2 x3 x4 x5}{t} (h : (Sys2Proof.Machine.wireWrite x1 x2 x3 x4 x5) = some t) : t.eng = x1.eng := by
  revert h; unfold wireWrite
  exact some_ite (P := fun t => t.eng = x1.eng) (some_some (by simp)) (some_ite (some_map fun a => by split <;> simp) some_none) t

theorem wireWrite_geo_of {x1 x2 x3 x4 x5}{t} (h : (Sys2Proof.Machine.wireWrite x1 x2 x3 x4 x5) = some t) : t.geo = x1.geo := by
  revert h; unfold wireWrite
  exact some_ite (P := fun t => t.geo = x1.geo) (some_some (by simp)) (some_ite (some_map fun a => by split <;> simp) some_none) t

theorem wireWrite_flash_of {x1 x2 x3 x4 x5}{t} (h : (Sys2Proof.Machine.wireWrite x1 x2 x3 x4 x5) = some t) : t.flash = x1.flash := by
  revert h; unfold wireWrite
  exact some_ite (P := fun t => t.flash = x1.flash) (some_some (by simp)) (some_ite (some_map fun a => by split <;> simp) some_none) t

theorem wireWrite_kar_of {x1 x2 x3 x4 x5}{t} (h : (Sys2Proof.Machine.wireWrite x1 x2 x3 x4 x5) = some t) : t.kar = x1.kar := by
  revert h; unfold wireWrite
  exact some_ite (P := fun t => t.kar = x1.kar) (some_some (by simp)) (some_ite (some_map fun a => by split <;> simp) some_none) t

theorem wireWrite_ctl_of {x1 x2 x3 x4 x5}{t} (h : (Sys2Proof.Machine.wireWrite x1 x2 x3 x4 x5) = some t) : t.ctl = x1.ctl := by
  revert h; unfold wireWrite
  exact some_ite (P := fun t => t.ctl = x1.ctl) (some_some (by simp)) (some_ite (some_map fun a => by split <;> simp) some_none) t

theorem psgWrite_pending_of {x1 x2 x3 x4}{t} (h : (Sys2Proof.Machine.psgWrite x1 x2 x3 x4) = some t) : t.pending = x1.pending := by
  revert h; unfold psgWrite
  exact some_ite (P := fun t => t.pending = x1.pending) (fun t h => inRange_pending_of (by simp) h) (some_ite (some_some (by simp)) (some_ite (some_some (by simp)) (some_ite (fun t h => wireWrite_pending_of h) some_none))) t

theorem psgWrite_now_of {x1 x2 x3 x4}{t} (h : (Sys2Proof.Machine.psgWrite x1 x2 x3 x4) = some t) : t.now = x1.now := by
  revert h; unfold psgWrite
  exact some_ite (P := fun t => t.now = x1.now) (fun t h => inRange_now_of (by simp) h) (some_ite (some_some (by simp)) (some_ite (some_some (by simp)) (some_ite (fun t h => wireWrite_now_of h) some_none))) t

theorem psgWrite_snaps_of {x1 x2 x3 x4}{t} (h : (Sys2Proof.Machine.psgWrite x1 x2 x3 x4) = some t) : t.snaps = x1.snaps := by
  revert h; unfold psgWrite
  exact some_ite (P := fun t => t.snaps = x1.snaps) (fun t h => inRange_snaps_of (by simp) h) (some_ite (some_some (by simp)) (some_ite (some_some (by simp)) (some_ite (fun t h => wireWrite_snaps_of h) some_none))) t

theorem psgWrite_id_of {x1 x2 x3 x4}{t} (h : (Sys2Proof.Machine.psgWrite x1 x2 x3 x4) = some t) : t.id = x1.id := by
  revert h; unfold psgWrite
  exact some_ite (P := fun t => t.id = x1.id) (fun t h => inRange_id_of (by simp) h) (some_ite (some_some (by simp)) (some_ite (some_some (by simp)) (some_ite (fun t h => wireWrite_id_of h) some_none))) t

theorem psgWrite_cham_of {x1 x2 x3 x4}{t} (h : (Sys2Proof.Machine.psgWrite x1 x2 x3 x4) = some t) : t.cham = x1.cham := by
  revert h; unfold psgWrite
  exact some_ite (P := fun t => t.cham = x1.cham) (fun t h => inRange_cham_of (by simp) h) (some_ite (some_some (by simp)) (some_ite (some_some (by simp)) (some_ite (fun t h => wireWrite_cham_of h) some_none))) t

theorem psgWrite_kst_of {x1 x2 x3 x4}{t} (h : (Sys2Proof.Machine.psgWrite x1 x2 x3 x4) = some t) : t.kst = x1.kst := by
  revert h; unfold psgWrite
  exact some_ite (P := fun t => t.kst = x1.kst) (fun t h => inRange_kst_of (by simp) h) (some_ite (some_some (by simp)) (some_ite (some_some (by simp)) (some_ite (fun t h => wireWrite_kst_of h) some_none))) t

theorem psgWrite_lan_of {x1 x2 x3 x4}{t} (h : (Sys2Proof.Machine.psgWrite x1 x2 x3 x4) = some t) : t.lan = x1.lan := by
  revert h; unfold psgWrite
  exact some_ite (P := fun t => t.lan = x1.lan) (fun t h => inRange_lan_of (by simp) h) (some_ite (some_some (by simp)) (some_ite (some_some (by simp)) (some_ite (fun t h => wireWrite_lan_of h) some_none))) t

theorem psgWrite_bb_of {x1 x2 x3 x4}{t} (h : (Sys2Proof.Machine.psgWrite x1 x2 x3 x4) = some t) : t.bb = x1.bb := by
  revert h; unfold psgWrite
  exact some_ite (P := fun t => t.bb = x1.bb) (fun t h => inRange_bb_of (by simp) h) (some_ite (some_some (by simp)) (some_ite (some_some (by simp)) (some_ite (fun t h => wireWrite_bb_of h) some_none))) t

theorem psgWrite_tim_of {x1 x2 x3 x4}{t} (h : (Sys2Proof.Machine.psgWrite x1 x2 x3 x4) = some t) : t.tim = x1.tim := by
  revert h; unfold psgWrite
  exact some_ite (P := fun t => t.tim = x1.tim) (fun t h => inRange_tim_of (by simp) h) (some_ite (some_some (by simp)) (some_ite (some_some (by simp)) (some_ite (fun t h => wireWrite_tim_of h) some_none))) t

theorem psgWrite_lcy_of {x1 x2 x3 x4}{t} (h : (Sys2Proof.Machine.psgWrite x1 x2 x3 x4) = some t) : t.lcy = x1.lcy := by
  revert h; unfold psgWrite
  exact some_ite (P := fun t => t.lcy = x1.lcy) (fun t h => inRange_lcy_of (by simp) h) (some_ite (some_some (by simp)) (some_ite (some_some (by simp)) (some_ite (fun t h => wireWrite_lcy_of h) some_none))) t

theorem psgWrite_rng_of {x1 x2 x3 x4}{t} (h : (Sys2Proof.Machine.psgWrite x1 x2 x3 x4) = some t) : t.rng = x1.rng := by
  revert h; unfold psgWrite
  exact some_ite (P := fun t => t.rng = x1.rng) (fun t h => inRange_rng_of (by simp) h) (some_ite (some_some (by simp)) (some_ite (some_some (by simp)) (some_ite (fun t h => wireWrite_rng_of h) some_none))) t

theorem psgWrite_pke_of {x1 x2 x3 x4}{t} (h : (Sys2Proof.Machine.psgWrite x1 x2 x3 x4) = some t) : t.pke = x1.pke := by
  revert h; unfold psgWrite
  exact some_ite (P := fun t => t.pke = x1.pke) (fun t h => inRange_pke_of (by simp) h) (some_ite (some_some (by simp)) (some_ite (some_some (by simp)) (some_ite (fun t h => wireWrite_pke_of h) some_none))) t

theorem psgWrite_eng_of {x1 x2 x3 x4}{t} (h : (Sys2Proof.Machine.psgWrite x1 x2 x3 x4) = some t) : t.eng = x1.eng := by
  revert h; unfold psgWrite
  exact some_ite (P := fun t => t.eng = x1.eng) (fun t h => inRange_eng_of (by simp) h) (some_ite (some_some (by simp)) (some_ite (some_some (by simp)) (some_ite (fun t h => wireWrite_eng_of h) some_none))) t

theorem psgWrite_geo_of {x1 x2 x3 x4}{t} (h : (Sys2Proof.Machine.psgWrite x1 x2 x3 x4) = some t) : t.geo = x1.geo := by
  revert h; unfold psgWrite
  exact some_ite (P := fun t => t.geo = x1.geo) (fun t h => inRange_geo_of (by simp) h) (some_ite (some_some (by simp)) (some_ite (some_some (by simp)) (some_ite (fun t h => wireWrite_geo_of h) some_none))) t

theorem psgWrite_flash_of {x1 x2 x3 x4}{t} (h : (Sys2Proof.Machine.psgWrite x1 x2 x3 x4) = some t) : t.flash = x1.flash := by
  revert h; unfold psgWrite
  exact some_ite (P := fun t => t.flash = x1.flash) (fun t h => inRange_flash_of (by simp) h) (some_ite (some_some (by simp)) (some_ite (some_some (by simp)) (some_ite (fun t h => wireWrite_flash_of h) some_none))) t

theorem psgWrite_kar_of {x1 x2 x3 x4}{t} (h : (Sys2Proof.Machine.psgWrite x1 x2 x3 x4) = some t) : t.kar = x1.kar := by
  revert h; unfold psgWrite
  exact some_ite (P := fun t => t.kar = x1.kar) (fun t h => inRange_kar_of (by simp) h) (some_ite (some_some (by simp)) (some_ite (some_some (by simp)) (some_ite (fun t h => wireWrite_kar_of h) some_none))) t

theorem psgWrite_ctl_of {x1 x2 x3 x4}{t} (h : (Sys2Proof.Machine.psgWrite x1 x2 x3 x4) = some t) : t.ctl = x1.ctl := by
  revert h; unfold psgWrite
  exact some_ite (P := fun t => t.ctl = x1.ctl) (fun t h => inRange_ctl_of (by simp) h) (some_ite (some_some (by simp)) (some_ite (some_some (by simp)) (some_ite (fun t h => wireWrite_ctl_of h) some_none))) t

theorem portWrite_pending_of {x1 x2 x3 x4}{t} (h : (Sys2Proof.Machine.portWrite x1 x2 x3 x4) = some t) : t.pending = x1.pending := by
  revert h; unfold portWrite; dsimp only
  exact some_ite (P := fun t => t.pending = x1.pending) (some_some (by simp)) (some_ite (some_some (by simp)) (some_ite (some_some (by simp)) some_none)) t

theorem portWrite_now_of {x1 x2 x3 x4}{t} (h : (Sys2Proof.Machine.portWrite x1 x2 x3 x4) = some t) : t.now = x1.now := by
  revert h; unfold portWrite; dsimp only
  exact some_ite (P := fun t => t.now = x1.now) (some_some (by simp)) (some_ite (some_some (by simp)) (some_ite (some_some (by simp)) some_none)) t

theorem portWrite_snaps_of {x1 x2 x3 x4}{t} (h : (Sys2Proof.Machine.portWrite x1 x2 x3 x4) = some t) : t.snaps = x1.snaps := by
  revert h; unfold portWrite; dsimp only
  exact some_ite (P := fun t => t.snaps = x1.snaps) (some_some (by simp)) (some_ite (some_some (by simp)) (some_ite (some_some (by simp)) some_none)) t

theorem portWrite_kst_of {x1 x2 x3 x4}{t} (h : (Sys2Proof.Machine.portWrite x1 x2 x3 x4) = some t) : t.kst = x1.kst := by
  revert h; unfold portWrite; dsimp only
  exact some_ite (P := fun t => t.kst = x1.kst) (some_some (by simp)) (some_ite (some_some (by simp)) (some_ite (some_some (by simp)) some_none)) t

theorem portWrite_lan_of {x1 x2 x3 x4}{t} (h : (Sys2Proof.Machine.portWrite x1 x2 x3 x4) = some t) : t.lan = x1.lan := by
  revert h; unfold portWrite; dsimp only
  exact some_ite (P := fun t => t.lan = x1.lan) (some_some (by simp)) (some_ite (some_some (by simp)) (some_ite (some_some (by simp)) some_none)) t

theorem portWrite_bb_of {x1 x2 x3 x4}{t} (h : (Sys2Proof.Machine.portWrite x1 x2 x3 x4) = some t) : t.bb = x1.bb := by
  revert h; unfold portWrite; dsimp only
  exact some_ite (P := fun t => t.bb = x1.bb) (some_some (by simp)) (some_ite (some_some (by simp)) (some_ite (some_some (by simp)) some_none)) t

theorem portWrite_rng_of {x1 x2 x3 x4}{t} (h : (Sys2Proof.Machine.portWrite x1 x2 x3 x4) = some t) : t.rng = x1.rng := by
  revert h; unfold portWrite; dsimp only
  exact some_ite (P := fun t => t.rng = x1.rng) (some_some (by simp)) (some_ite (some_some (by simp)) (some_ite (some_some (by simp)) some_none)) t

theorem portWrite_eng_of {x1 x2 x3 x4}{t} (h : (Sys2Proof.Machine.portWrite x1 x2 x3 x4) = some t) : t.eng = x1.eng := by
  revert h; unfold portWrite; dsimp only
  exact some_ite (P := fun t => t.eng = x1.eng) (some_some (by simp)) (some_ite (some_some (by simp)) (some_ite (some_some (by simp)) some_none)) t

theorem portWrite_geo_of {x1 x2 x3 x4}{t} (h : (Sys2Proof.Machine.portWrite x1 x2 x3 x4) = some t) : t.geo = x1.geo := by
  revert h; unfold portWrite; dsimp only
  exact some_ite (P := fun t => t.geo = x1.geo) (some_some (by simp)) (some_ite (some_some (by simp)) (some_ite (some_some (by simp)) some_none)) t

theorem portWrite_flash_of {x1 x2 x3 x4}{t} (h : (Sys2Proof.Machine.portWrite x1 x2 x3 x4) = some t) : t.flash = x1.flash := by
  revert h; unfold portWrite; dsimp only
  exact some_ite (P := fun t => t.flash = x1.flash) (some_some (by simp)) (some_ite (some_some (by simp)) (some_ite (some_some (by simp)) some_none)) t

theorem portWrite_kar_of {x1 x2 x3 x4}{t} (h : (Sys2Proof.Machine.portWrite x1 x2 x3 x4) = some t) : t.kar = x1.kar := by
  revert h; unfold portWrite; dsimp only
  exact some_ite (P := fun t => t.kar = x1.kar) (some_some (by simp)) (some_ite (some_some (by simp)) (some_ite (some_some (by simp)) some_none)) t

@[simp ↓] theorem chanWrite_frame (x1 x2) :
    (chanWrite x1 x2).pending = x1.pending ∧ (chanWrite x1 x2).now = x1.now ∧ (chanWrite x1 x2).fresh = x1.fresh ∧ (chanWrite x1 x2).out = x1.out ∧ (chanWrite x1 x2).snaps = x1.snaps ∧ (chanWrite x1 x2).id = x1.id ∧ (chanWrite x1 x2).psg = x1.psg ∧ (chanWrite x1 x2).cham = x1.cham ∧ (chanWrite x1 x2).kst = x1.kst ∧ (chanWrite x1 x2).mbx = x1.mbx ∧ (chanWrite x1 x2).str = x1.str ∧ (chanWrite x1 x2).lan = x1.lan ∧ (chanWrite x1 x2).bb = x1.bb ∧ (chanWrite x1 x2).tim = x1.tim ∧ (chanWrite x1 x2).lcy = x1.lcy ∧ (chanWrite x1 x2).die = x1.die ∧ (chanWrite x1 x2).rng = x1.rng ∧ (chanWrite x1 x2).pke = x1.pke ∧ (chanWrite x1 x2).eng = x1.eng ∧ (chanWrite x1 x2).host = x1.host ∧ (chanWrite x1 x2).flash = x1.flash ∧ (chanWrite x1 x2).wld = x1.wld ∧ (chanWrite x1 x2).kar = x1.kar ∧ (chanWrite x1 x2).ctl = x1.ctl := by unfold chanWrite; simp

theorem geoWrite_frame_of {x1 x2 x3}{t} (h : (Sys2Proof.Machine.geoWrite x1 x2 x3) = some t) :
    t.pending = x1.pending ∧ t.now = x1.now ∧ t.fresh = x1.fresh ∧ t.out = x1.out ∧ t.snaps = x1.snaps ∧ t.id = x1.id ∧ t.psg = x1.psg ∧ t.cham = x1.cham ∧ t.kst = x1.kst ∧ t.mbx = x1.mbx ∧ t.str = x1.str ∧ t.lan = x1.lan ∧ t.bb = x1.bb ∧ t.tim = x1.tim ∧ t.lcy = x1.lcy ∧ t.die = x1.die ∧ t.rng = x1.rng ∧ t.pke = x1.pke ∧ t.eng = x1.eng ∧ t.host = x1.host ∧ t.flash = x1.flash ∧ t.wld = x1.wld ∧ t.kar = x1.kar ∧ t.ctl = x1.ctl := by unfold geoWrite at h; (repeat' split at h) <;> (first | contradiction | (cases h; simp) | (simp only [Option.map_eq_some_iff, Option.bind_eq_some_iff] at h; obtain ⟨_, _, rfl⟩ := h; simp))

theorem timWrite_frame_of {x1 x2 x3}{t} (h : (Sys2Proof.Machine.timWrite x1 x2 x3) = some t) :
    t.pending = x1.pending ∧ t.now = x1.now ∧ t.fresh = x1.fresh ∧ t.out = x1.out ∧ t.snaps = x1.snaps ∧ t.psg = x1.psg ∧ t.cham = x1.cham ∧ t.kst = x1.kst ∧ t.mbx = x1.mbx ∧ t.lan = x1.lan ∧ t.bb = x1.bb ∧ t.lcy = x1.lcy ∧ t.die = x1.die ∧ t.rng = x1.rng ∧ t.pke = x1.pke ∧ t.eng = x1.eng ∧ t.host = x1.host ∧ t.geo = x1.geo ∧ t.flash = x1.flash ∧ t.wld = x1.wld ∧ t.kar = x1.kar ∧ t.ctl = x1.ctl := by unfold timWrite at h; (repeat' split at h) <;> (first | contradiction | (cases h; simp) | (simp only [Option.map_eq_some_iff, Option.bind_eq_some_iff] at h; obtain ⟨_, _, rfl⟩ := h; simp))

theorem chamWrite_frame_of {x1 x2 x3}{t} (h : (Sys2Proof.Machine.chamWrite x1 x2 x3) = some t) :
    t.pending = x1.pending ∧ t.now = x1.now ∧ t.fresh = x1.fresh ∧ t.snaps = x1.snaps ∧ t.id = x1.id ∧ t.kst = x1.kst ∧ t.mbx = x1.mbx ∧ t.lan = x1.lan ∧ t.bb = x1.bb ∧ t.die = x1.die ∧ t.rng = x1.rng ∧ t.eng = x1.eng ∧ t.host = x1.host ∧ t.geo = x1.geo ∧ t.flash = x1.flash := by unfold chamWrite at h; (repeat' split at h) <;> (first | contradiction | (cases h; simp) | (simp only [Option.map_eq_some_iff, Option.bind_eq_some_iff] at h; obtain ⟨_, _, rfl⟩ := h; simp))

@[simp ↓] theorem mpuWrite_frame (x1 x2 x3) :
    (mpuWrite x1 x2 x3).pending = x1.pending ∧ (mpuWrite x1 x2 x3).now = x1.now ∧ (mpuWrite x1 x2 x3).fresh = x1.fresh ∧ (mpuWrite x1 x2 x3).out = x1.out ∧ (mpuWrite x1 x2 x3).snaps = x1.snaps ∧ (mpuWrite x1 x2 x3).id = x1.id ∧ (mpuWrite x1 x2 x3).psg = x1.psg ∧ (mpuWrite x1 x2 x3).cham = x1.cham ∧ (mpuWrite x1 x2 x3).kst = x1.kst ∧ (mpuWrite x1 x2 x3).mbx = x1.mbx ∧ (mpuWrite x1 x2 x3).str = x1.str ∧ (mpuWrite x1 x2 x3).lan = x1.lan ∧ (mpuWrite x1 x2 x3).bb = x1.bb ∧ (mpuWrite x1 x2 x3).tim = x1.tim ∧ (mpuWrite x1 x2 x3).lcy = x1.lcy ∧ (mpuWrite x1 x2 x3).die = x1.die ∧ (mpuWrite x1 x2 x3).rng = x1.rng ∧ (mpuWrite x1 x2 x3).pke = x1.pke ∧ (mpuWrite x1 x2 x3).eng = x1.eng ∧ (mpuWrite x1 x2 x3).host = x1.host ∧ (mpuWrite x1 x2 x3).geo = x1.geo ∧ (mpuWrite x1 x2 x3).flash = x1.flash ∧ (mpuWrite x1 x2 x3).kar = x1.kar ∧ (mpuWrite x1 x2 x3).ctl = x1.ctl := by unfold mpuWrite; simp

theorem wldWrite_frame_of {x1 x2 x3 x4}{t} (h : (Sys2Proof.Machine.wldWrite x1 x2 x3 x4) = some t) :
    t.pending = x1.pending ∧ t.now = x1.now ∧ t.fresh = x1.fresh ∧ t.snaps = x1.snaps ∧ t.cham = x1.cham ∧ t.bb = x1.bb ∧ t.rng = x1.rng ∧ t.flash = x1.flash ∧ t.kar = x1.kar := by unfold wldWrite at h; (repeat' split at h) <;> (first | contradiction | (cases h; simp) | (simp only [Option.map_eq_some_iff, Option.bind_eq_some_iff] at h; obtain ⟨_, _, rfl⟩ := h; simp))

theorem blockWrite_pending_of {x1 x2 x3 x4}{t} (h : (Sys2Proof.Machine.blockWrite x1 x2 x3 x4) = some t) : t.pending = x1.pending := by
  revert h; unfold blockWrite
  exact some_ite (P := fun t => t.pending = x1.pending) (fun t h => (idWrite_frame_of h).1) (some_ite (fun t h => (boxWrite_frame_of h).1) (some_ite (fun t h => (mbxWrite_frame_of h).1) (some_ite (fun t h => (lanWrite_frame_of h).1) (some_ite (fun t h => strWrite_pending_of h) (some_ite (fun t h => (lcyWrite_frame_of h).1) (some_ite (fun t h => rngRegWrite_pending_of h) (some_ite (fun t h => (kstWrite_frame_of h).1) (some_ite (fun t h => (svcWrite_frame_of h).1) (some_ite (fun t h => (dgsWrite_frame_of h).1) (some_ite (fun t h => (pkeWrite_frame_of h).1) (some_ite some_none (some_ite (fun t h => psgWrite_pending_of h) (some_ite (fun t h => portWrite_pending_of h) (some_ite some_none (some_ite (fun t h => (geoWrite_frame_of h).1) (some_ite (fun t h => (timWrite_frame_of h).1) (some_ite (fun t h => (chamWrite_frame_of h).1) (some_ite (fun t h => (wldWrite_frame_of h).1) some_none)))))))))))))))))) t

theorem blockWrite_now_of {x1 x2 x3 x4}{t} (h : (Sys2Proof.Machine.blockWrite x1 x2 x3 x4) = some t) : t.now = x1.now := by
  revert h; unfold blockWrite
  exact some_ite (P := fun t => t.now = x1.now) (fun t h => (idWrite_frame_of h).2.1) (some_ite (fun t h => (boxWrite_frame_of h).2.1) (some_ite (fun t h => (mbxWrite_frame_of h).2.1) (some_ite (fun t h => (lanWrite_frame_of h).2.1) (some_ite (fun t h => strWrite_now_of h) (some_ite (fun t h => (lcyWrite_frame_of h).2.1) (some_ite (fun t h => rngRegWrite_now_of h) (some_ite (fun t h => (kstWrite_frame_of h).2.1) (some_ite (fun t h => (svcWrite_frame_of h).2.1) (some_ite (fun t h => (dgsWrite_frame_of h).2.1) (some_ite (fun t h => (pkeWrite_frame_of h).2.1) (some_ite some_none (some_ite (fun t h => psgWrite_now_of h) (some_ite (fun t h => portWrite_now_of h) (some_ite some_none (some_ite (fun t h => (geoWrite_frame_of h).2.1) (some_ite (fun t h => (timWrite_frame_of h).2.1) (some_ite (fun t h => (chamWrite_frame_of h).2.1) (some_ite (fun t h => (wldWrite_frame_of h).2.1) some_none)))))))))))))))))) t

theorem blockWrite_flash_of {x1 x2 x3 x4}{t} (h : (Sys2Proof.Machine.blockWrite x1 x2 x3 x4) = some t) : t.flash = x1.flash := by
  revert h; unfold blockWrite
  exact some_ite (P := fun t => t.flash = x1.flash) (fun t h => (idWrite_frame_of h).2.2.2) (some_ite (fun t h => (boxWrite_frame_of h).2.2.2.2.2.2.2.2.2.2.2.2.2.2.2.2.2.2.1) (some_ite (fun t h => (mbxWrite_frame_of h).2.2.2.2.2.2.2.2.2.2.2.2.2.2.2.2.2.2.2.2.1) (some_ite (fun t h => (lanWrite_frame_of h).2.2.2.2.1) (some_ite (fun t h => strWrite_flash_of h) (some_ite (fun t h => (lcyWrite_frame_of h).2.2.2.2.2.2.2.2.2.2.2.2.2.1) (some_ite (fun t h => rngRegWrite_flash_of h) (some_ite (fun t h => (kstWrite_frame_of h).2.2.2.2.2.2.2.2.2.2.2.2.2.2.2.2.2.2.2.2.1) (some_ite (fun t h => (svcWrite_frame_of h).2.2.2.2.2.2.2.2.2.2.2.2.2.2.2.1) (some_ite (fun t h => (dgsWrite_frame_of h).2.2.2.2.2.2.2.2.2.2.2.2.2.2.2.2.2.2.2.1) (some_ite (fun t h => (pkeWrite_frame_of h).2.2.2.2.2.2.2.2.2.1) (some_ite some_none (some_ite (fun t h => psgWrite_flash_of h) (some_ite (fun t h => portWrite_flash_of h) (some_ite some_none (some_ite (fun t h => (geoWrite_frame_of h).2.2.2.2.2.2.2.2.2.2.2.2.2.2.2.2.2.2.2.2.1) (some_ite (fun t h => (timWrite_frame_of h).2.2.2.2.2.2.2.2.2.2.2.2.2.2.2.2.2.2.1) (some_ite (fun t h => (chamWrite_frame_of h).2.2.2.2.2.2.2.2.2.2.2.2.2.2) (some_ite (fun t h => (wldWrite_frame_of h).2.2.2.2.2.2.2.1) some_none)))))))))))))))))) t

theorem sharedWrite_frame_of {x1 x2 x3 x4}{t} (h : (Sys2Proof.Machine.sharedWrite x1 x2 x3 x4) = some t) :
    t.pending = x1.pending ∧ t.now = x1.now ∧ t.fresh = x1.fresh ∧ t.out = x1.out ∧ t.snaps = x1.snaps ∧ t.psg = x1.psg ∧ t.cham = x1.cham ∧ t.kst = x1.kst ∧ t.mbx = x1.mbx ∧ t.lan = x1.lan ∧ t.bb = x1.bb ∧ t.tim = x1.tim ∧ t.lcy = x1.lcy ∧ t.die = x1.die ∧ t.rng = x1.rng ∧ t.host = x1.host ∧ t.geo = x1.geo ∧ t.flash = x1.flash ∧ t.kar = x1.kar ∧ t.ctl = x1.ctl := by unfold sharedWrite at h; (repeat' split at h) <;> (first | contradiction | (cases h; simp) | (simp only [Option.map_eq_some_iff, Option.bind_eq_some_iff] at h; obtain ⟨_, _, rfl⟩ := h; simp))

@[simp ↓] theorem writeRegister_pending (x1 x2 x3 x4) : (writeRegister x1 x2 x3 x4).pending = x1.pending := by
  unfold writeRegister
  split
  · exact (sharedWrite_frame_of ‹_›).1
  · (repeat' split) <;> (first | simp | (cases h : blockWrite x1 x2 x3 x4 with | none => rfl | some t => exact blockWrite_pending_of h))

@[simp ↓] theorem writeRegister_now (x1 x2 x3 x4) : (writeRegister x1 x2 x3 x4).now = x1.now := by
  unfold writeRegister
  split
  · exact (sharedWrite_frame_of ‹_›).2.1
  · (repeat' split) <;> (first | simp | (cases h : blockWrite x1 x2 x3 x4 with | none => rfl | some t => exact blockWrite_now_of h))

@[simp ↓] theorem writeRegister_flash (x1 x2 x3 x4) : (writeRegister x1 x2 x3 x4).flash = x1.flash := by
  unfold writeRegister
  split
  · exact (sharedWrite_frame_of ‹_›).2.2.2.2.2.2.2.2.2.2.2.2.2.2.2.2.2.1
  · (repeat' split) <;> (first | simp | (cases h : blockWrite x1 x2 x3 x4 with | none => rfl | some t => exact blockWrite_flash_of h))

@[simp ↓] theorem writeFunction_frame (x1 x2 x3 x4) :
    (writeFunction x1 x2 x3 x4).pending = x1.pending ∧ (writeFunction x1 x2 x3 x4).now = x1.now ∧ (writeFunction x1 x2 x3 x4).fresh = x1.fresh ∧ (writeFunction x1 x2 x3 x4).snaps = x1.snaps ∧ (writeFunction x1 x2 x3 x4).id = x1.id ∧ (writeFunction x1 x2 x3 x4).psg = x1.psg ∧ (writeFunction x1 x2 x3 x4).cham = x1.cham ∧ (writeFunction x1 x2 x3 x4).kst = x1.kst ∧ (writeFunction x1 x2 x3 x4).mbx = x1.mbx ∧ (writeFunction x1 x2 x3 x4).lan = x1.lan ∧ (writeFunction x1 x2 x3 x4).bb = x1.bb ∧ (writeFunction x1 x2 x3 x4).tim = x1.tim ∧ (writeFunction x1 x2 x3 x4).lcy = x1.lcy ∧ (writeFunction x1 x2 x3 x4).die = x1.die ∧ (writeFunction x1 x2 x3 x4).rng = x1.rng ∧ (writeFunction x1 x2 x3 x4).pke = x1.pke ∧ (writeFunction x1 x2 x3 x4).eng = x1.eng ∧ (writeFunction x1 x2 x3 x4).geo = x1.geo ∧ (writeFunction x1 x2 x3 x4).flash = x1.flash ∧ (writeFunction x1 x2 x3 x4).kar = x1.kar ∧ (writeFunction x1 x2 x3 x4).ctl = x1.ctl := by fun_cases writeFunction <;> (try have := bar2Write_frame_of ‹_›) <;> simp_all

@[simp ↓] theorem readFunction_frame (x1 x2 x3) :
    (readFunction x1 x2 x3).1.pending = x1.pending ∧ (readFunction x1 x2 x3).1.now = x1.now ∧ (readFunction x1 x2 x3).1.fresh = x1.fresh ∧ (readFunction x1 x2 x3).1.out = x1.out ∧ (readFunction x1 x2 x3).1.snaps = x1.snaps ∧ (readFunction x1 x2 x3).1.id = x1.id ∧ (readFunction x1 x2 x3).1.psg = x1.psg ∧ (readFunction x1 x2 x3).1.cham = x1.cham ∧ (readFunction x1 x2 x3).1.kst = x1.kst ∧ (readFunction x1 x2 x3).1.mbx = x1.mbx ∧ (readFunction x1 x2 x3).1.lan = x1.lan ∧ (readFunction x1 x2 x3).1.bb = x1.bb ∧ (readFunction x1 x2 x3).1.tim = x1.tim ∧ (readFunction x1 x2 x3).1.lcy = x1.lcy ∧ (readFunction x1 x2 x3).1.die = x1.die ∧ (readFunction x1 x2 x3).1.rng = x1.rng ∧ (readFunction x1 x2 x3).1.pke = x1.pke ∧ (readFunction x1 x2 x3).1.eng = x1.eng ∧ (readFunction x1 x2 x3).1.host = x1.host ∧ (readFunction x1 x2 x3).1.geo = x1.geo ∧ (readFunction x1 x2 x3).1.flash = x1.flash ∧ (readFunction x1 x2 x3).1.kar = x1.kar ∧ (readFunction x1 x2 x3).1.ctl = x1.ctl := by unfold readFunction; (repeat' split) <;> simp

theorem readFunction_frame_of {x1 x2 x3 x t} (h : readFunction x1 x2 x3 = (t, x)) :
    t.pending = x1.pending ∧ t.now = x1.now ∧ t.fresh = x1.fresh ∧ t.out = x1.out ∧ t.snaps = x1.snaps ∧ t.id = x1.id ∧ t.psg = x1.psg ∧ t.cham = x1.cham ∧ t.kst = x1.kst ∧ t.mbx = x1.mbx ∧ t.lan = x1.lan ∧ t.bb = x1.bb ∧ t.tim = x1.tim ∧ t.lcy = x1.lcy ∧ t.die = x1.die ∧ t.rng = x1.rng ∧ t.pke = x1.pke ∧ t.eng = x1.eng ∧ t.host = x1.host ∧ t.geo = x1.geo ∧ t.flash = x1.flash ∧ t.kar = x1.kar ∧ t.ctl = x1.ctl := by
  have e := readFunction_frame x1 x2 x3; rw [h] at e; exact e

@[simp ↓] theorem i3cWrite_frame (x1 x2 x3) :
    (i3cWrite x1 x2 x3).pending = x1.pending ∧ (i3cWrite x1 x2 x3).now = x1.now ∧ (i3cWrite x1 x2 x3).flash = x1.flash := by unfold i3cWrite; simp

@[simp ↓] theorem i3cWrites_pending (x1 x2 x3) : (i3cWrites x1 x2 x3).pending = x1.pending := by
  induction x3 generalizing x1 x2 with
  | nil => simp [i3cWrites]
  | cons d t ih => simp [i3cWrites, ih]

@[simp ↓] theorem i3cWrites_now (x1 x2 x3) : (i3cWrites x1 x2 x3).now = x1.now := by
  induction x3 generalizing x1 x2 with
  | nil => simp [i3cWrites]
  | cons d t ih => simp [i3cWrites, ih]

@[simp ↓] theorem i3cWrites_flash (x1 x2 x3) : (i3cWrites x1 x2 x3).flash = x1.flash := by
  induction x3 generalizing x1 x2 with
  | nil => simp [i3cWrites]
  | cons d t ih => simp [i3cWrites, ih]

end Sys2Proof.Machine
end

