-- ==== Sys2Proof/Laws/Frames/Debug.lean ====
section
/-!
SUPPORT. What the operations of Machine/Debug.lean leave unchanged: for each, every part of the state that it does not touch.
-/

set_option Elab.async false

set_option linter.all false
set_option maxRecDepth 2000

namespace Sys2Proof.Machine

@[simp ↓] theorem countDap_frame (x1) :
    (countDap x1).pending = x1.pending ∧ (countDap x1).now = x1.now ∧ (countDap x1).fresh = x1.fresh ∧ (countDap x1).out = x1.out ∧ (countDap x1).snaps = x1.snaps ∧ (countDap x1).id = x1.id ∧ (countDap x1).psg = x1.psg ∧ (countDap x1).cham = x1.cham ∧ (countDap x1).kst = x1.kst ∧ (countDap x1).mbx = x1.mbx ∧ (countDap x1).str = x1.str ∧ (countDap x1).lan = x1.lan ∧ (countDap x1).bb = x1.bb ∧ (countDap x1).tim = x1.tim ∧ (countDap x1).die = x1.die ∧ (countDap x1).rng = x1.rng ∧ (countDap x1).pke = x1.pke ∧ (countDap x1).eng = x1.eng ∧ (countDap x1).host = x1.host ∧ (countDap x1).geo = x1.geo ∧ (countDap x1).flash = x1.flash ∧ (countDap x1).wld = x1.wld ∧ (countDap x1).kar = x1.kar ∧ (countDap x1).ctl = x1.ctl := by unfold countDap; simp

@[simp ↓] theorem dapRead_frame (x1 x2 x3) :
    (dapRead x1 x2 x3).1.pending = x1.pending ∧ (dapRead x1 x2 x3).1.now = x1.now ∧ (dapRead x1 x2 x3).1.fresh = x1.fresh ∧ (dapRead x1 x2 x3).1.out = x1.out ∧ (dapRead x1 x2 x3).1.snaps = x1.snaps ∧ (dapRead x1 x2 x3).1.id = x1.id ∧ (dapRead x1 x2 x3).1.psg = x1.psg ∧ (dapRead x1 x2 x3).1.cham = x1.cham ∧ (dapRead x1 x2 x3).1.kst = x1.kst ∧ (dapRead x1 x2 x3).1.mbx = x1.mbx ∧ (dapRead x1 x2 x3).1.lan = x1.lan ∧ (dapRead x1 x2 x3).1.bb = x1.bb ∧ (dapRead x1 x2 x3).1.tim = x1.tim ∧ (dapRead x1 x2 x3).1.die = x1.die ∧ (dapRead x1 x2 x3).1.rng = x1.rng ∧ (dapRead x1 x2 x3).1.pke = x1.pke ∧ (dapRead x1 x2 x3).1.eng = x1.eng ∧ (dapRead x1 x2 x3).1.host = x1.host ∧ (dapRead x1 x2 x3).1.geo = x1.geo ∧ (dapRead x1 x2 x3).1.flash = x1.flash ∧ (dapRead x1 x2 x3).1.kar = x1.kar ∧ (dapRead x1 x2 x3).1.ctl = x1.ctl := by unfold dapRead; (repeat' split) <;> simp

theorem dapRead_frame_of {x1 x2 x3 x t} (h : dapRead x1 x2 x3 = (t, x)) :
    t.pending = x1.pending ∧ t.now = x1.now ∧ t.fresh = x1.fresh ∧ t.out = x1.out ∧ t.snaps = x1.snaps ∧ t.id = x1.id ∧ t.psg = x1.psg ∧ t.cham = x1.cham ∧ t.kst = x1.kst ∧ t.mbx = x1.mbx ∧ t.lan = x1.lan ∧ t.bb = x1.bb ∧ t.tim = x1.tim ∧ t.die = x1.die ∧ t.rng = x1.rng ∧ t.pke = x1.pke ∧ t.eng = x1.eng ∧ t.host = x1.host ∧ t.geo = x1.geo ∧ t.flash = x1.flash ∧ t.kar = x1.kar ∧ t.ctl = x1.ctl := by
  have e := dapRead_frame x1 x2 x3; rw [h] at e; exact e

@[simp ↓] theorem dapWrite_frame (x1 x2 x3) :
    (dapWrite x1 x2 x3).pending = x1.pending ∧ (dapWrite x1 x2 x3).now = x1.now ∧ (dapWrite x1 x2 x3).fresh = x1.fresh ∧ (dapWrite x1 x2 x3).out = x1.out ∧ (dapWrite x1 x2 x3).snaps = x1.snaps ∧ (dapWrite x1 x2 x3).id = x1.id ∧ (dapWrite x1 x2 x3).psg = x1.psg ∧ (dapWrite x1 x2 x3).cham = x1.cham ∧ (dapWrite x1 x2 x3).kst = x1.kst ∧ (dapWrite x1 x2 x3).mbx = x1.mbx ∧ (dapWrite x1 x2 x3).lan = x1.lan ∧ (dapWrite x1 x2 x3).bb = x1.bb ∧ (dapWrite x1 x2 x3).tim = x1.tim ∧ (dapWrite x1 x2 x3).die = x1.die ∧ (dapWrite x1 x2 x3).rng = x1.rng ∧ (dapWrite x1 x2 x3).pke = x1.pke ∧ (dapWrite x1 x2 x3).eng = x1.eng ∧ (dapWrite x1 x2 x3).host = x1.host ∧ (dapWrite x1 x2 x3).geo = x1.geo ∧ (dapWrite x1 x2 x3).flash = x1.flash ∧ (dapWrite x1 x2 x3).kar = x1.kar := by unfold dapWrite; (repeat' split) <;> simp

@[simp ↓] theorem haltWorld_frame (x1 x2) :
    (haltWorld x1 x2).pending = x1.pending ∧ (haltWorld x1 x2).now = x1.now ∧ (haltWorld x1 x2).fresh = x1.fresh ∧ (haltWorld x1 x2).out = x1.out ∧ (haltWorld x1 x2).snaps = x1.snaps ∧ (haltWorld x1 x2).id = x1.id ∧ (haltWorld x1 x2).psg = x1.psg ∧ (haltWorld x1 x2).cham = x1.cham ∧ (haltWorld x1 x2).kst = x1.kst ∧ (haltWorld x1 x2).mbx = x1.mbx ∧ (haltWorld x1 x2).str = x1.str ∧ (haltWorld x1 x2).lan = x1.lan ∧ (haltWorld x1 x2).bb = x1.bb ∧ (haltWorld x1 x2).tim = x1.tim ∧ (haltWorld x1 x2).die = x1.die ∧ (haltWorld x1 x2).rng = x1.rng ∧ (haltWorld x1 x2).pke = x1.pke ∧ (haltWorld x1 x2).eng = x1.eng ∧ (haltWorld x1 x2).host = x1.host ∧ (haltWorld x1 x2).geo = x1.geo ∧ (haltWorld x1 x2).flash = x1.flash ∧ (haltWorld x1 x2).wld = x1.wld ∧ (haltWorld x1 x2).kar = x1.kar ∧ (haltWorld x1 x2).ctl = x1.ctl := by unfold haltWorld; simp

end Sys2Proof.Machine
end

