-- ==== Sys2Proof/Laws/Frames/Carriers.lean ====
section
/-!
SUPPORT. What the operations of Machine/Carriers.lean leave unchanged: for each, every part of the state that it does not touch.
-/

set_option Elab.async false

set_option linter.all false
set_option maxRecDepth 2000

namespace Sys2Proof.Machine

@[simp ↓] theorem pushOutstanding_frame (x1 x2 x3) :
    (pushOutstanding x1 x2 x3).pending = x1.pending ∧ (pushOutstanding x1 x2 x3).now = x1.now ∧ (pushOutstanding x1 x2 x3).fresh = x1.fresh ∧ (pushOutstanding x1 x2 x3).out = x1.out ∧ (pushOutstanding x1 x2 x3).snaps = x1.snaps ∧ (pushOutstanding x1 x2 x3).id = x1.id ∧ (pushOutstanding x1 x2 x3).psg = x1.psg ∧ (pushOutstanding x1 x2 x3).cham = x1.cham ∧ (pushOutstanding x1 x2 x3).kst = x1.kst ∧ (pushOutstanding x1 x2 x3).str = x1.str ∧ (pushOutstanding x1 x2 x3).lan = x1.lan ∧ (pushOutstanding x1 x2 x3).bb = x1.bb ∧ (pushOutstanding x1 x2 x3).tim = x1.tim ∧ (pushOutstanding x1 x2 x3).lcy = x1.lcy ∧ (pushOutstanding x1 x2 x3).die = x1.die ∧ (pushOutstanding x1 x2 x3).rng = x1.rng ∧ (pushOutstanding x1 x2 x3).pke = x1.pke ∧ (pushOutstanding x1 x2 x3).eng = x1.eng ∧ (pushOutstanding x1 x2 x3).host = x1.host ∧ (pushOutstanding x1 x2 x3).geo = x1.geo ∧ (pushOutstanding x1 x2 x3).flash = x1.flash ∧ (pushOutstanding x1 x2 x3).wld = x1.wld ∧ (pushOutstanding x1 x2 x3).kar = x1.kar ∧ (pushOutstanding x1 x2 x3).ctl = x1.ctl := by unfold pushOutstanding; simp

@[simp ↓] theorem answerDiscarded_frame (x1 x2 x3 x4) :
    (answerDiscarded x1 x2 x3 x4).pending = x1.pending ∧ (answerDiscarded x1 x2 x3 x4).now = x1.now ∧ (answerDiscarded x1 x2 x3 x4).fresh = x1.fresh ∧ (answerDiscarded x1 x2 x3 x4).out = x1.out ∧ (answerDiscarded x1 x2 x3 x4).snaps = x1.snaps ∧ (answerDiscarded x1 x2 x3 x4).id = x1.id ∧ (answerDiscarded x1 x2 x3 x4).psg = x1.psg ∧ (answerDiscarded x1 x2 x3 x4).cham = x1.cham ∧ (answerDiscarded x1 x2 x3 x4).kst = x1.kst ∧ (answerDiscarded x1 x2 x3 x4).str = x1.str ∧ (answerDiscarded x1 x2 x3 x4).lan = x1.lan ∧ (answerDiscarded x1 x2 x3 x4).bb = x1.bb ∧ (answerDiscarded x1 x2 x3 x4).tim = x1.tim ∧ (answerDiscarded x1 x2 x3 x4).lcy = x1.lcy ∧ (answerDiscarded x1 x2 x3 x4).die = x1.die ∧ (answerDiscarded x1 x2 x3 x4).rng = x1.rng ∧ (answerDiscarded x1 x2 x3 x4).pke = x1.pke ∧ (answerDiscarded x1 x2 x3 x4).eng = x1.eng ∧ (answerDiscarded x1 x2 x3 x4).host = x1.host ∧ (answerDiscarded x1 x2 x3 x4).geo = x1.geo ∧ (answerDiscarded x1 x2 x3 x4).flash = x1.flash ∧ (answerDiscarded x1 x2 x3 x4).wld = x1.wld ∧ (answerDiscarded x1 x2 x3 x4).kar = x1.kar ∧ (answerDiscarded x1 x2 x3 x4).ctl = x1.ctl := by unfold answerDiscarded; simp

@[simp ↓] theorem updBoxSession_frame (x1 x2 x3 x4) :
    (updBoxSession x1 x2 x3 x4).pending = x1.pending ∧ (updBoxSession x1 x2 x3 x4).now = x1.now ∧ (updBoxSession x1 x2 x3 x4).fresh = x1.fresh ∧ (updBoxSession x1 x2 x3 x4).out = x1.out ∧ (updBoxSession x1 x2 x3 x4).snaps = x1.snaps ∧ (updBoxSession x1 x2 x3 x4).id = x1.id ∧ (updBoxSession x1 x2 x3 x4).psg = x1.psg ∧ (updBoxSession x1 x2 x3 x4).cham = x1.cham ∧ (updBoxSession x1 x2 x3 x4).kst = x1.kst ∧ (updBoxSession x1 x2 x3 x4).str = x1.str ∧ (updBoxSession x1 x2 x3 x4).lan = x1.lan ∧ (updBoxSession x1 x2 x3 x4).bb = x1.bb ∧ (updBoxSession x1 x2 x3 x4).tim = x1.tim ∧ (updBoxSession x1 x2 x3 x4).lcy = x1.lcy ∧ (updBoxSession x1 x2 x3 x4).die = x1.die ∧ (updBoxSession x1 x2 x3 x4).rng = x1.rng ∧ (updBoxSession x1 x2 x3 x4).pke = x1.pke ∧ (updBoxSession x1 x2 x3 x4).eng = x1.eng ∧ (updBoxSession x1 x2 x3 x4).host = x1.host ∧ (updBoxSession x1 x2 x3 x4).geo = x1.geo ∧ (updBoxSession x1 x2 x3 x4).flash = x1.flash ∧ (updBoxSession x1 x2 x3 x4).wld = x1.wld ∧ (updBoxSession x1 x2 x3 x4).kar = x1.kar ∧ (updBoxSession x1 x2 x3 x4).ctl = x1.ctl := by unfold updBoxSession; simp

@[simp ↓] theorem countMacFail_frame (x1 x2 x3) :
    (countMacFail x1 x2 x3).pending = x1.pending ∧ (countMacFail x1 x2 x3).now = x1.now ∧ (countMacFail x1 x2 x3).fresh = x1.fresh ∧ (countMacFail x1 x2 x3).out = x1.out ∧ (countMacFail x1 x2 x3).snaps = x1.snaps ∧ (countMacFail x1 x2 x3).id = x1.id ∧ (countMacFail x1 x2 x3).psg = x1.psg ∧ (countMacFail x1 x2 x3).cham = x1.cham ∧ (countMacFail x1 x2 x3).str = x1.str ∧ (countMacFail x1 x2 x3).lan = x1.lan ∧ (countMacFail x1 x2 x3).bb = x1.bb ∧ (countMacFail x1 x2 x3).tim = x1.tim ∧ (countMacFail x1 x2 x3).lcy = x1.lcy ∧ (countMacFail x1 x2 x3).die = x1.die ∧ (countMacFail x1 x2 x3).rng = x1.rng ∧ (countMacFail x1 x2 x3).pke = x1.pke ∧ (countMacFail x1 x2 x3).eng = x1.eng ∧ (countMacFail x1 x2 x3).host = x1.host ∧ (countMacFail x1 x2 x3).geo = x1.geo ∧ (countMacFail x1 x2 x3).flash = x1.flash ∧ (countMacFail x1 x2 x3).wld = x1.wld ∧ (countMacFail x1 x2 x3).kar = x1.kar ∧ (countMacFail x1 x2 x3).ctl = x1.ctl := by unfold countMacFail; simp

end Sys2Proof.Machine
end

