-- ==== Sys2Proof/Laws/Kept.lean ====
section
/-!
SUPPORT. Three parts of the state that few operations touch: the page owner table (R379), the settings of the protection units
(R383) and the life-cycle state in force (R401).  For each operation that touches the worlds block or the life-cycle block
elsewhere, these laws say that it leaves these parts as they are.
-/

set_option Elab.async false

set_option linter.all false
set_option maxRecDepth 2000

namespace Sys2Proof.Machine

@[simp ↓] theorem ite_Worlds_pages (c : Prop) [Decidable c] (a b : Worlds) :
    (if c then a else b).pages = if c then a.pages else b.pages := by split <;> rfl

@[simp ↓] theorem st_ite_wld_pages (c : Prop) [Decidable c] (a b : State) :
    (if c then a else b).wld.pages = if c then a.wld.pages else b.wld.pages := by split <;> rfl

@[simp ↓] theorem st_foldl_wld_pages {α} (l : List α) (f : State → α → State) (s : State)
    (h : ∀ s x, (f s x).wld.pages = s.wld.pages) : (l.foldl f s).wld.pages = s.wld.pages := by
  induction l generalizing s with
  | nil => rfl
  | cons x t ih => rw [List.foldl_cons, ih, h]

@[simp ↓] theorem st_foldr_wld_pages {α} (l : List α) (f : α → State → State) (s : State)
    (h : ∀ x s, (f x s).wld.pages = s.wld.pages) : (l.foldr f s).wld.pages = s.wld.pages := by
  induction l with
  | nil => rfl
  | cons x t ih => rw [List.foldr_cons, h, ih]

@[simp ↓] theorem ite_Worlds_mpu (c : Prop) [Decidable c] (a b : Worlds) :
    (if c then a else b).mpu = if c then a.mpu else b.mpu := by split <;> rfl

@[simp ↓] theorem st_ite_wld_mpu (c : Prop) [Decidable c] (a b : State) :
    (if c then a else b).wld.mpu = if c then a.wld.mpu else b.wld.mpu := by split <;> rfl

@[simp ↓] theorem st_foldl_wld_mpu {α} (l : List α) (f : State → α → State) (s : State)
    (h : ∀ s x, (f s x).wld.mpu = s.wld.mpu) : (l.foldl f s).wld.mpu = s.wld.mpu := by
  induction l generalizing s with
  | nil => rfl
  | cons x t ih => rw [List.foldl_cons, ih, h]

@[simp ↓] theorem st_foldr_wld_mpu {α} (l : List α) (f : α → State → State) (s : State)
    (h : ∀ x s, (f x s).wld.mpu = s.wld.mpu) : (l.foldr f s).wld.mpu = s.wld.mpu := by
  induction l with
  | nil => rfl
  | cons x t ih => rw [List.foldr_cons, h, ih]

@[simp ↓] theorem ite_LifeCycle_state (c : Prop) [Decidable c] (a b : LifeCycle) :
    (if c then a else b).state = if c then a.state else b.state := by split <;> rfl

@[simp ↓] theorem st_ite_lcy_state (c : Prop) [Decidable c] (a b : State) :
    (if c then a else b).lcy.state = if c then a.lcy.state else b.lcy.state := by split <;> rfl

@[simp ↓] theorem st_foldl_lcy_state {α} (l : List α) (f : State → α → State) (s : State)
    (h : ∀ s x, (f s x).lcy.state = s.lcy.state) : (l.foldl f s).lcy.state = s.lcy.state := by
  induction l generalizing s with
  | nil => rfl
  | cons x t ih => rw [List.foldl_cons, ih, h]

@[simp ↓] theorem st_foldr_lcy_state {α} (l : List α) (f : α → State → State) (s : State)
    (h : ∀ x s, (f x s).lcy.state = s.lcy.state) : (l.foldr f s).lcy.state = s.lcy.state := by
  induction l with
  | nil => rfl
  | cons x t ih => rw [List.foldr_cons, h, ih]

@[simp ↓] theorem wrapNew_wld_pages (x1 x2 x3) : (wrapNew x1 x2 x3).2.wld.pages = x1.wld.pages := by unfold wrapNew; simp

theorem wrapNew_wld_pages_of {x1 x2 x3 x t} (h : wrapNew x1 x2 x3 = (x, t)) : t.wld.pages = x1.wld.pages := by
  have e := wrapNew_wld_pages x1 x2 x3; rw [h] at e; exact e

@[simp ↓] theorem wrapNew_wld_mpu (x1 x2 x3) : (wrapNew x1 x2 x3).2.wld.mpu = x1.wld.mpu := by unfold wrapNew; simp

theorem wrapNew_wld_mpu_of {x1 x2 x3 x t} (h : wrapNew x1 x2 x3 = (x, t)) : t.wld.mpu = x1.wld.mpu := by
  have e := wrapNew_wld_mpu x1 x2 x3; rw [h] at e; exact e

@[simp ↓] theorem wrapNew_lcy_state (x1 x2 x3) : (wrapNew x1 x2 x3).2.lcy.state = x1.lcy.state := by unfold wrapNew; simp

theorem wrapNew_lcy_state_of {x1 x2 x3 x t} (h : wrapNew x1 x2 x3 = (x, t)) : t.lcy.state = x1.lcy.state := by
  have e := wrapNew_lcy_state x1 x2 x3; rw [h] at e; exact e

@[simp ↓] theorem sendVector_wld_pages (x1 x2 x3) : (sendVector x1 x2 x3).wld.pages = x1.wld.pages := by unfold sendVector; simp

@[simp ↓] theorem sendVector_wld_mpu (x1 x2 x3) : (sendVector x1 x2 x3).wld.mpu = x1.wld.mpu := by unfold sendVector; simp

@[simp ↓] theorem sendVector_lcy_state (x1 x2 x3) : (sendVector x1 x2 x3).lcy.state = x1.lcy.state := by unfold sendVector; simp

@[simp ↓] theorem answerCall_wld_pages (x1 x2 x3) : (answerCall x1 x2 x3).wld.pages = x1.wld.pages := by unfold answerCall; simp

@[simp ↓] theorem answerCall_wld_mpu (x1 x2 x3) : (answerCall x1 x2 x3).wld.mpu = x1.wld.mpu := by unfold answerCall; simp

@[simp ↓] theorem answer_wld_pages (x1 x2 x3) : (answer x1 x2 x3).wld.pages = x1.wld.pages := by unfold answer; (repeat' split) <;> simp

@[simp ↓] theorem answer_wld_mpu (x1 x2 x3) : (answer x1 x2 x3).wld.mpu = x1.wld.mpu := by unfold answer; (repeat' split) <;> simp

@[simp ↓] theorem answerStatus_wld_pages (x1 x2 x3) : (answerStatus x1 x2 x3).wld.pages = x1.wld.pages := by unfold answerStatus; simp

@[simp ↓] theorem answerStatus_wld_mpu (x1 x2 x3) : (answerStatus x1 x2 x3).wld.mpu = x1.wld.mpu := by unfold answerStatus; simp

@[simp ↓] theorem violation_wld_pages (x1 x2) : (violation x1 x2).wld.pages = x1.wld.pages := by unfold violation; simp

@[simp ↓] theorem violation_wld_mpu (x1 x2) : (violation x1 x2).wld.mpu = x1.wld.mpu := by unfold violation; simp

@[simp ↓] theorem refuseAccess_wld_pages (x1 x2 x3 x4 x5) : (refuseAccess x1 x2 x3 x4 x5).wld.pages = x1.wld.pages := by unfold refuseAccess; simp

@[simp ↓] theorem refuseAccess_wld_mpu (x1 x2 x3 x4 x5) : (refuseAccess x1 x2 x3 x4 x5).wld.mpu = x1.wld.mpu := by unfold refuseAccess; simp

@[simp ↓] theorem lockedWrite_wld_pages (x1 x2 x3) : (lockedWrite x1 x2 x3).wld.pages = x1.wld.pages := by unfold lockedWrite; simp

@[simp ↓] theorem lockedWrite_wld_mpu (x1 x2 x3) : (lockedWrite x1 x2 x3).wld.mpu = x1.wld.mpu := by unfold lockedWrite; simp

@[simp ↓] theorem refuseTransfer_wld_pages (x1 x2 x3 x4 x5 x6) : (refuseTransfer x1 x2 x3 x4 x5 x6).wld.pages = x1.wld.pages := by unfold refuseTransfer; simp

@[simp ↓] theorem refuseTransfer_wld_mpu (x1 x2 x3 x4 x5 x6) : (refuseTransfer x1 x2 x3 x4 x5 x6).wld.mpu = x1.wld.mpu := by unfold refuseTransfer; simp

@[simp ↓] theorem ctlRead_wld_pages (x1 x2 x3 x4) : (ctlRead x1 x2 x3 x4).1.wld.pages = x1.wld.pages := by unfold ctlRead; (repeat' split) <;> simp

theorem ctlRead_wld_pages_of {x1 x2 x3 x4 x t} (h : ctlRead x1 x2 x3 x4 = (t, x)) : t.wld.pages = x1.wld.pages := by
  have e := ctlRead_wld_pages x1 x2 x3 x4; rw [h] at e; exact e

@[simp ↓] theorem ctlRead_wld_mpu (x1 x2 x3 x4) : (ctlRead x1 x2 x3 x4).1.wld.mpu = x1.wld.mpu := by unfold ctlRead; (repeat' split) <;> simp

theorem ctlRead_wld_mpu_of {x1 x2 x3 x4 x t} (h : ctlRead x1 x2 x3 x4 = (t, x)) : t.wld.mpu = x1.wld.mpu := by
  have e := ctlRead_wld_mpu x1 x2 x3 x4; rw [h] at e; exact e

@[simp ↓] theorem ctlWrite_wld_pages (x1 x2 x3 x4) : (ctlWrite x1 x2 x3 x4).wld.pages = x1.wld.pages := by unfold ctlWrite; (repeat' split) <;> simp

@[simp ↓] theorem ctlWrite_wld_mpu (x1 x2 x3 x4) : (ctlWrite x1 x2 x3 x4).wld.mpu = x1.wld.mpu := by unfold ctlWrite; (repeat' split) <;> simp

@[simp ↓] theorem trace_lcy_state (x1 x2 x3) : (trace x1 x2 x3).lcy.state = x1.lcy.state := by unfold trace; simp

@[simp ↓] theorem writeRecord_wld_pages (x1 x2 x3 x4 x5) : (writeRecord x1 x2 x3 x4 x5).wld.pages = x1.wld.pages := by unfold writeRecord; simp

@[simp ↓] theorem writeRecord_wld_mpu (x1 x2 x3 x4 x5) : (writeRecord x1 x2 x3 x4 x5).wld.mpu = x1.wld.mpu := by unfold writeRecord; simp

@[simp ↓] theorem writeRecord_lcy_state (x1 x2 x3 x4 x5) : (writeRecord x1 x2 x3 x4 x5).lcy.state = x1.lcy.state := by unfold writeRecord; simp

@[simp ↓] theorem finalVerdict_wld_pages (x1 x2 x3 x4 x5 x6) : (finalVerdict x1 x2 x3 x4 x5 x6).wld.pages = x1.wld.pages := by unfold finalVerdict; simp

@[simp ↓] theorem finalVerdict_wld_mpu (x1 x2 x3 x4 x5 x6) : (finalVerdict x1 x2 x3 x4 x5 x6).wld.mpu = x1.wld.mpu := by unfold finalVerdict; simp

@[simp ↓] theorem finalVerdict_lcy_state (x1 x2 x3 x4 x5 x6) : (finalVerdict x1 x2 x3 x4 x5 x6).lcy.state = x1.lcy.state := by unfold finalVerdict; simp

@[simp ↓] theorem leave_wld_pages (x1 x2 x3) : (leave x1 x2 x3).wld.pages = x1.wld.pages := by unfold leave; (repeat' split) <;> simp

@[simp ↓] theorem leave_wld_mpu (x1 x2 x3) : (leave x1 x2 x3).wld.mpu = x1.wld.mpu := by unfold leave; (repeat' split) <;> simp

@[simp ↓] theorem leave_lcy_state (x1 x2 x3) : (leave x1 x2 x3).lcy.state = x1.lcy.state := by unfold leave; (repeat' split) <;> simp

@[simp ↓] theorem releaseLine_wld_pages (x1 x2) : (releaseLine x1 x2).wld.pages = x1.wld.pages := by unfold releaseLine; simp

@[simp ↓] theorem releaseLine_wld_mpu (x1 x2) : (releaseLine x1 x2).wld.mpu = x1.wld.mpu := by unfold releaseLine; simp

@[simp ↓] theorem releaseLine_lcy_state (x1 x2) : (releaseLine x1 x2).lcy.state = x1.lcy.state := by unfold releaseLine; simp

@[simp ↓] theorem refuseHeld_wld_pages (x1 x2 x3 x4 x5) : (refuseHeld x1 x2 x3 x4 x5).wld.pages = x1.wld.pages := by unfold refuseHeld; simp

@[simp ↓] theorem refuseHeld_wld_mpu (x1 x2 x3 x4 x5) : (refuseHeld x1 x2 x3 x4 x5).wld.mpu = x1.wld.mpu := by unfold refuseHeld; simp

@[simp ↓] theorem refuseHeld_lcy_state (x1 x2 x3 x4 x5) : (refuseHeld x1 x2 x3 x4 x5).lcy.state = x1.lcy.state := by unfold refuseHeld; simp

@[simp ↓] theorem judgeKey_wld_pages (x1 x2 x3) : (judgeKey x1 x2 x3).wld.pages = x1.wld.pages := by unfold judgeKey; (try dsimp only); (repeat' split) <;> (try have := dispatch_frame_of ‹_›) <;> simp [*]

@[simp ↓] theorem judgeKey_wld_mpu (x1 x2 x3) : (judgeKey x1 x2 x3).wld.mpu = x1.wld.mpu := by unfold judgeKey; (try dsimp only); (repeat' split) <;> (try have := dispatch_frame_of ‹_›) <;> simp [*]

@[simp ↓] theorem judgeKey_lcy_state (x1 x2 x3) : (judgeKey x1 x2 x3).lcy.state = x1.lcy.state := by unfold judgeKey; (try dsimp only); (repeat' split) <;> (try have := dispatch_frame_of ‹_›) <;> simp [*]

@[simp ↓] theorem finishSwaps_wld_pages (x1 x2) : (finishSwaps x1 x2).wld.pages = x1.wld.pages := by unfold finishSwaps; (try dsimp only); (repeat' split)  <;> simp [*]

@[simp ↓] theorem finishSwaps_wld_mpu (x1 x2) : (finishSwaps x1 x2).wld.mpu = x1.wld.mpu := by unfold finishSwaps; (try dsimp only); (repeat' split)  <;> simp [*]

@[simp ↓] theorem settleSwaps_wld_pages (x1 x2) : (settleSwaps x1 x2).wld.pages = x1.wld.pages := by unfold settleSwaps; simp

@[simp ↓] theorem settleSwaps_wld_mpu (x1 x2) : (settleSwaps x1 x2).wld.mpu = x1.wld.mpu := by unfold settleSwaps; simp

@[simp ↓] theorem answerCommit_wld_pages (x1 x2 x3 x4) : (answerCommit x1 x2 x3 x4).wld.pages = x1.wld.pages := by unfold answerCommit; simp

@[simp ↓] theorem answerCommit_wld_mpu (x1 x2 x3 x4) : (answerCommit x1 x2 x3 x4).wld.mpu = x1.wld.mpu := by unfold answerCommit; simp

@[simp ↓] theorem requestCommit_wld_pages (x1 x2 x3) : (requestCommit x1 x2 x3).wld.pages = x1.wld.pages := by unfold requestCommit; (repeat' split) <;> simp

@[simp ↓] theorem requestCommit_wld_mpu (x1 x2 x3) : (requestCommit x1 x2 x3).wld.mpu = x1.wld.mpu := by unfold requestCommit; (repeat' split) <;> simp

@[simp ↓] theorem isolateWire_wld_pages (x1 x2) : (isolateWire x1 x2).wld.pages = x1.wld.pages := by unfold isolateWire; (try dsimp only); (repeat' split)  <;> simp [*]

@[simp ↓] theorem isolateWire_wld_mpu (x1 x2) : (isolateWire x1 x2).wld.mpu = x1.wld.mpu := by unfold isolateWire; (try dsimp only); (repeat' split)  <;> simp [*]

@[simp ↓] theorem endBypass_wld_pages (x1) : (endBypass x1).wld.pages = x1.wld.pages := by unfold endBypass; simp

@[simp ↓] theorem endBypass_wld_mpu (x1) : (endBypass x1).wld.mpu = x1.wld.mpu := by unfold endBypass; simp

@[simp ↓] theorem instCalls_wld_pages (x1 x2 x3 x4) : (instCalls x1 x2 x3 x4).2.wld.pages = x1.wld.pages := by unfold instCalls; simp

theorem instCalls_wld_pages_of {x1 x2 x3 x4 x t} (h : instCalls x1 x2 x3 x4 = (x, t)) : t.wld.pages = x1.wld.pages := by
  have e := instCalls_wld_pages x1 x2 x3 x4; rw [h] at e; exact e

@[simp ↓] theorem instCalls_wld_mpu (x1 x2 x3 x4) : (instCalls x1 x2 x3 x4).2.wld.mpu = x1.wld.mpu := by unfold instCalls; simp

theorem instCalls_wld_mpu_of {x1 x2 x3 x4 x t} (h : instCalls x1 x2 x3 x4 = (x, t)) : t.wld.mpu = x1.wld.mpu := by
  have e := instCalls_wld_mpu x1 x2 x3 x4; rw [h] at e; exact e

@[simp ↓] theorem instCalls_lcy_state (x1 x2 x3 x4) : (instCalls x1 x2 x3 x4).2.lcy.state = x1.lcy.state := by unfold instCalls; simp

theorem instCalls_lcy_state_of {x1 x2 x3 x4 x t} (h : instCalls x1 x2 x3 x4 = (x, t)) : t.lcy.state = x1.lcy.state := by
  have e := instCalls_lcy_state x1 x2 x3 x4; rw [h] at e; exact e

@[simp ↓] theorem countRefused_lcy_state (x1 x2 x3) : (countRefused x1 x2 x3).lcy.state = x1.lcy.state := by unfold countRefused; simp

@[simp ↓] theorem deliverDraw_wld_pages (x1 x2 x3) : (deliverDraw x1 x2 x3).wld.pages = x1.wld.pages := by unfold deliverDraw; (repeat' split) <;> simp

@[simp ↓] theorem deliverDraw_wld_mpu (x1 x2 x3) : (deliverDraw x1 x2 x3).wld.mpu = x1.wld.mpu := by unfold deliverDraw; (repeat' split) <;> simp

@[simp ↓] theorem refuseDraw_wld_pages (x1 x2) : (refuseDraw x1 x2).wld.pages = x1.wld.pages := by unfold refuseDraw; (repeat' split) <;> simp

@[simp ↓] theorem refuseDraw_wld_mpu (x1 x2) : (refuseDraw x1 x2).wld.mpu = x1.wld.mpu := by unfold refuseDraw; (repeat' split) <;> simp

@[simp ↓] theorem refuseWaiting_wld_pages (x1 x2) : (refuseWaiting x1 x2).wld.pages = x1.wld.pages := by unfold refuseWaiting; simp

@[simp ↓] theorem refuseWaiting_wld_mpu (x1 x2) : (refuseWaiting x1 x2).wld.mpu = x1.wld.mpu := by unfold refuseWaiting; simp

@[simp ↓] theorem refuseWaiting_lcy_state (x1 x2) : (refuseWaiting x1 x2).lcy.state = x1.lcy.state := by unfold refuseWaiting; simp

@[simp ↓] theorem drainExhausted_wld_pages (x1 x2) : (drainExhausted x1 x2).wld.pages = x1.wld.pages := by unfold drainExhausted; simp

@[simp ↓] theorem drainExhausted_wld_mpu (x1 x2) : (drainExhausted x1 x2).wld.mpu = x1.wld.mpu := by unfold drainExhausted; simp

@[simp ↓] theorem disapprove_wld_pages (x1) : (disapprove x1).wld.pages = x1.wld.pages := by unfold disapprove; simp

@[simp ↓] theorem disapprove_wld_mpu (x1) : (disapprove x1).wld.mpu = x1.wld.mpu := by unfold disapprove; simp

@[simp ↓] theorem disapprove_lcy_state (x1) : (disapprove x1).lcy.state = x1.lcy.state := by unfold disapprove; simp

@[simp ↓] theorem failRng_wld_pages (x1) : (failRng x1).wld.pages = x1.wld.pages := by unfold failRng; simp

@[simp ↓] theorem failRng_wld_mpu (x1) : (failRng x1).wld.mpu = x1.wld.mpu := by unfold failRng; simp

@[simp ↓] theorem serveCall_wld_pages (x1 x2) : (serveCall x1 x2).wld.pages = x1.wld.pages := by unfold serveCall; (try dsimp only); (repeat' split) <;> (try have := instCalls_frame_of ‹_›) <;> (try have := instCalls_wld_pages_of ‹_›) <;> simp [*]

@[simp ↓] theorem serveCall_wld_mpu (x1 x2) : (serveCall x1 x2).wld.mpu = x1.wld.mpu := by unfold serveCall; (try dsimp only); (repeat' split) <;> (try have := instCalls_frame_of ‹_›) <;> (try have := instCalls_wld_mpu_of ‹_›) <;> simp [*]

@[simp ↓] theorem serveCall_lcy_state (x1 x2) : (serveCall x1 x2).lcy.state = x1.lcy.state := by unfold serveCall; (try dsimp only); (repeat' split) <;> (try have := instCalls_frame_of ‹_›) <;> (try have := instCalls_lcy_state_of ‹_›) <;> simp [*]

@[simp ↓] theorem serveAhead_wld_pages (x1 x2 x3 x4) : (serveAhead x1 x2 x3 x4).wld.pages = x3.wld.pages := by fun_induction serveAhead <;> simp_all

@[simp ↓] theorem serveAhead_wld_mpu (x1 x2 x3 x4) : (serveAhead x1 x2 x3 x4).wld.mpu = x3.wld.mpu := by fun_induction serveAhead <;> simp_all

@[simp ↓] theorem serveAhead_lcy_state (x1 x2 x3 x4) : (serveAhead x1 x2 x3 x4).lcy.state = x3.lcy.state := by fun_induction serveAhead <;> simp_all

@[simp ↓] theorem queueDraw_wld_pages (x1 x2 x3 x4) : (queueDraw x1 x2 x3 x4).wld.pages = x1.wld.pages := by unfold queueDraw; simp

@[simp ↓] theorem queueDraw_wld_mpu (x1 x2 x3 x4) : (queueDraw x1 x2 x3 x4).wld.mpu = x1.wld.mpu := by unfold queueDraw; simp

@[simp ↓] theorem failFewCells_wld_pages (x1) : (failFewCells x1).wld.pages = x1.wld.pages := by unfold failFewCells; simp

@[simp ↓] theorem failFewCells_wld_mpu (x1) : (failFewCells x1).wld.mpu = x1.wld.mpu := by unfold failFewCells; simp

@[simp ↓] theorem endCellTest_wld_pages (x1 x2) : (endCellTest x1 x2).wld.pages = x1.wld.pages := by unfold endCellTest; (try dsimp only); (repeat' split)  <;> simp [*]

@[simp ↓] theorem endCellTest_wld_mpu (x1 x2) : (endCellTest x1 x2).wld.mpu = x1.wld.mpu := by unfold endCellTest; (try dsimp only); (repeat' split)  <;> simp [*]

@[simp ↓] theorem cellSample_wld_pages (x1 x2 x3) : (cellSample x1 x2 x3).wld.pages = x1.wld.pages := by unfold cellSample; simp

@[simp ↓] theorem cellSample_wld_mpu (x1 x2 x3) : (cellSample x1 x2 x3).wld.mpu = x1.wld.mpu := by unfold cellSample; simp

@[simp ↓] theorem countJob_wld_pages (x1 x2 x3) : (countJob x1 x2 x3).wld.pages = x1.wld.pages := by unfold countJob; simp

@[simp ↓] theorem countJob_wld_mpu (x1 x2 x3) : (countJob x1 x2 x3).wld.mpu = x1.wld.mpu := by unfold countJob; simp

@[simp ↓] theorem countJob_lcy_state (x1 x2 x3) : (countJob x1 x2 x3).lcy.state = x1.lcy.state := by unfold countJob; simp

@[simp ↓] theorem countVerifications_wld_pages (x1 x2) : (countVerifications x1 x2).wld.pages = x1.wld.pages := by unfold countVerifications; simp

@[simp ↓] theorem countVerifications_wld_mpu (x1 x2) : (countVerifications x1 x2).wld.mpu = x1.wld.mpu := by unfold countVerifications; simp

@[simp ↓] theorem countVerifications_lcy_state (x1 x2) : (countVerifications x1 x2).lcy.state = x1.lcy.state := by unfold countVerifications; simp

@[simp ↓] theorem command_wld_pages (x1 x2 x3 x4) (hx4 : ∀ y1, (x4 y1).wld.pages = y1.wld.pages) : (command x1 x2 x3 x4).wld.pages = x1.wld.pages := by unfold command; (repeat' split) <;> simp [*]

@[simp ↓] theorem command_wld_mpu (x1 x2 x3 x4) (hx4 : ∀ y1, (x4 y1).wld.mpu = y1.wld.mpu) : (command x1 x2 x3 x4).wld.mpu = x1.wld.mpu := by unfold command; (repeat' split) <;> simp [*]

@[simp ↓] theorem command_lcy_state (x1 x2 x3 x4) (hx4 : ∀ y1, (x4 y1).lcy.state = y1.lcy.state) : (command x1 x2 x3 x4).lcy.state = x1.lcy.state := by unfold command; (repeat' split) <;> simp [*]

@[simp ↓] theorem consumeNonces_lcy_state (x1 x2 x3) : (consumeNonces x1 x2 x3).lcy.state = x1.lcy.state := by unfold consumeNonces; simp

@[simp ↓] theorem judgeQuorum_lcy_state (x1 x2 x3) : (judgeQuorum x1 x2 x3).1.lcy.state = x1.lcy.state := by unfold judgeQuorum; simp

theorem judgeQuorum_lcy_state_of {x1 x2 x3 x t} (h : judgeQuorum x1 x2 x3 = (t, x)) : t.lcy.state = x1.lcy.state := by
  have e := judgeQuorum_lcy_state x1 x2 x3; rw [h] at e; exact e

@[simp ↓] theorem withQuorum_wld_pages (x1 x2 x3 x4) (hx4 : ∀ y1 y2, (x4 y1 y2).wld.pages = y1.wld.pages) : (withQuorum x1 x2 x3 x4).wld.pages = x1.wld.pages := by unfold withQuorum; (try dsimp only); (repeat' split) <;> (try have := judgeQuorum_frame_of ‹_›) <;> simp [*]

@[simp ↓] theorem withQuorum_wld_mpu (x1 x2 x3 x4) (hx4 : ∀ y1 y2, (x4 y1 y2).wld.mpu = y1.wld.mpu) : (withQuorum x1 x2 x3 x4).wld.mpu = x1.wld.mpu := by unfold withQuorum; (try dsimp only); (repeat' split) <;> (try have := judgeQuorum_frame_of ‹_›) <;> simp [*]

@[simp ↓] theorem withQuorum_lcy_state (x1 x2 x3 x4) (hx4 : ∀ y1 y2, (x4 y1 y2).lcy.state = y1.lcy.state) : (withQuorum x1 x2 x3 x4).lcy.state = x1.lcy.state := by unfold withQuorum; (try dsimp only); (repeat' split) <;> (try have := judgeQuorum_frame_of ‹_›) <;> (try have := judgeQuorum_lcy_state_of ‹_›) <;> simp [*]

@[simp ↓] theorem withCritical_wld_pages (x1 x2 x3 x4 x5) (hx5 : ∀ y1 y2, (x5 y1 y2).wld.pages = y1.wld.pages) : (withCritical x1 x2 x3 x4 x5).wld.pages = x1.wld.pages := by unfold withCritical; (repeat' split) <;> simp [*]

@[simp ↓] theorem withCritical_wld_mpu (x1 x2 x3 x4 x5) (hx5 : ∀ y1 y2, (x5 y1 y2).wld.mpu = y1.wld.mpu) : (withCritical x1 x2 x3 x4 x5).wld.mpu = x1.wld.mpu := by unfold withCritical; (repeat' split) <;> simp [*]

@[simp ↓] theorem withCritical_lcy_state (x1 x2 x3 x4 x5) (hx5 : ∀ y1 y2, (x5 y1 y2).lcy.state = y1.lcy.state) : (withCritical x1 x2 x3 x4 x5).lcy.state = x1.lcy.state := by unfold withCritical; (repeat' split) <;> simp [*]

@[simp ↓] theorem withRoutine_wld_pages (x1 x2 x3 x4 x5) (hx5 : ∀ y1 y2, (x5 y1 y2).wld.pages = y1.wld.pages) : (withRoutine x1 x2 x3 x4 x5).wld.pages = x1.wld.pages := by unfold withRoutine; (repeat' split) <;> simp [*]

@[simp ↓] theorem withRoutine_wld_mpu (x1 x2 x3 x4 x5) (hx5 : ∀ y1 y2, (x5 y1 y2).wld.mpu = y1.wld.mpu) : (withRoutine x1 x2 x3 x4 x5).wld.mpu = x1.wld.mpu := by unfold withRoutine; (repeat' split) <;> simp [*]

@[simp ↓] theorem withRoutine_lcy_state (x1 x2 x3 x4 x5) (hx5 : ∀ y1 y2, (x5 y1 y2).lcy.state = y1.lcy.state) : (withRoutine x1 x2 x3 x4 x5).lcy.state = x1.lcy.state := by unfold withRoutine; (repeat' split) <;> simp [*]

@[simp ↓] theorem answerOk_wld_pages (x1 x2 x3 x4) : (answerOk x1 x2 x3 x4).wld.pages = x1.wld.pages := by unfold answerOk; simp

@[simp ↓] theorem answerOk_wld_mpu (x1 x2 x3 x4) : (answerOk x1 x2 x3 x4).wld.mpu = x1.wld.mpu := by unfold answerOk; simp

@[simp ↓] theorem refuseOr_wld_pages (x1 x2 x3 x4) (hx4 : x4.wld.pages = x1.wld.pages) : (refuseOr x1 x2 x3 x4).wld.pages = x1.wld.pages := by unfold refuseOr; (repeat' split) <;> simp [*]

@[simp ↓] theorem refuseOr_wld_mpu (x1 x2 x3 x4) (hx4 : x4.wld.mpu = x1.wld.mpu) : (refuseOr x1 x2 x3 x4).wld.mpu = x1.wld.mpu := by unfold refuseOr; (repeat' split) <;> simp [*]

@[simp ↓] theorem refuseOr_lcy_state (x1 x2 x3 x4) (hx4 : x4.lcy.state = x1.lcy.state) : (refuseOr x1 x2 x3 x4).lcy.state = x1.lcy.state := by unfold refuseOr; (repeat' split) <;> simp [*]

@[simp ↓] theorem putDieKey_wld_pages (x1 x2 x3) : (putDieKey x1 x2 x3).wld.pages = x1.wld.pages := by unfold putDieKey; simp

@[simp ↓] theorem putDieKey_wld_mpu (x1 x2 x3) : (putDieKey x1 x2 x3).wld.mpu = x1.wld.mpu := by unfold putDieKey; simp

@[simp ↓] theorem putDieKey_lcy_state (x1 x2 x3) : (putDieKey x1 x2 x3).lcy.state = x1.lcy.state := by unfold putDieKey; simp

@[simp ↓] theorem putDieAttr_wld_pages (x1 x2 x3) : (putDieAttr x1 x2 x3).wld.pages = x1.wld.pages := by unfold putDieAttr; (repeat' split) <;> simp

@[simp ↓] theorem putDieAttr_wld_mpu (x1 x2 x3) : (putDieAttr x1 x2 x3).wld.mpu = x1.wld.mpu := by unfold putDieAttr; (repeat' split) <;> simp

@[simp ↓] theorem putDieAttr_lcy_state (x1 x2 x3) : (putDieAttr x1 x2 x3).lcy.state = x1.lcy.state := by unfold putDieAttr; (repeat' split) <;> simp

@[simp ↓] theorem putDomain0_wld_pages (x1 x2) : (putDomain0 x1 x2).wld.pages = x1.wld.pages := by unfold putDomain0; simp

@[simp ↓] theorem putDomain0_wld_mpu (x1 x2) : (putDomain0 x1 x2).wld.mpu = x1.wld.mpu := by unfold putDomain0; simp

@[simp ↓] theorem putDomain0_lcy_state (x1 x2) : (putDomain0 x1 x2).lcy.state = x1.lcy.state := by unfold putDomain0; simp

@[simp ↓] theorem answerBusy_wld_pages (x1 x2 x3) : (answerBusy x1 x2 x3).wld.pages = x1.wld.pages := by unfold answerBusy; simp

@[simp ↓] theorem answerBusy_wld_mpu (x1 x2 x3) : (answerBusy x1 x2 x3).wld.mpu = x1.wld.mpu := by unfold answerBusy; simp

@[simp ↓] theorem answerRoom_wld_pages (x1 x2 x3) : (answerRoom x1 x2 x3).wld.pages = x1.wld.pages := by unfold answerRoom; simp

@[simp ↓] theorem answerRoom_wld_mpu (x1 x2 x3) : (answerRoom x1 x2 x3).wld.mpu = x1.wld.mpu := by unfold answerRoom; simp

@[simp ↓] theorem storeKey_wld_pages (x1 x2 x3 x4 x5) : (storeKey x1 x2 x3 x4 x5).wld.pages = x1.wld.pages := by unfold storeKey; (try dsimp only); (repeat' split) <;> (try have := makeRoom_wld_of ‹_›) <;> (try have := makeRoom_lcy_of ‹_›) <;> simp [*]

@[simp ↓] theorem storeKey_wld_mpu (x1 x2 x3 x4 x5) : (storeKey x1 x2 x3 x4 x5).wld.mpu = x1.wld.mpu := by unfold storeKey; (try dsimp only); (repeat' split) <;> (try have := makeRoom_wld_of ‹_›) <;> (try have := makeRoom_lcy_of ‹_›) <;> simp [*]

@[simp ↓] theorem editDomain_wld_pages (x1 x2 x3 x4 x5) : (editDomain x1 x2 x3 x4 x5).wld.pages = x1.wld.pages := by unfold editDomain; (repeat' split) <;> simp

@[simp ↓] theorem editDomain_wld_mpu (x1 x2 x3 x4 x5) : (editDomain x1 x2 x3 x4 x5).wld.mpu = x1.wld.mpu := by unfold editDomain; (repeat' split) <;> simp

@[simp ↓] theorem refuseBelow_wld_pages (x1 x2 x3 x4 x5) : (refuseBelow x1 x2 x3 x4 x5).wld.pages = x1.wld.pages := by unfold refuseBelow; simp

@[simp ↓] theorem refuseBelow_wld_mpu (x1 x2 x3 x4 x5) : (refuseBelow x1 x2 x3 x4 x5).wld.mpu = x1.wld.mpu := by unfold refuseBelow; simp

@[simp ↓] theorem refuseBelow_lcy_state (x1 x2 x3 x4 x5) : (refuseBelow x1 x2 x3 x4 x5).lcy.state = x1.lcy.state := by unfold refuseBelow; simp

@[simp ↓] theorem jobRead_wld_pages (x1 x2 x3 x4 x5) : (jobRead x1 x2 x3 x4 x5).1.wld.pages = x1.wld.pages := by unfold jobRead; simp

theorem jobRead_wld_pages_of {x1 x2 x3 x4 x5 x t} (h : jobRead x1 x2 x3 x4 x5 = (t, x)) : t.wld.pages = x1.wld.pages := by
  have e := jobRead_wld_pages x1 x2 x3 x4 x5; rw [h] at e; exact e

@[simp ↓] theorem jobRead_wld_mpu (x1 x2 x3 x4 x5) : (jobRead x1 x2 x3 x4 x5).1.wld.mpu = x1.wld.mpu := by unfold jobRead; simp

theorem jobRead_wld_mpu_of {x1 x2 x3 x4 x5 x t} (h : jobRead x1 x2 x3 x4 x5 = (t, x)) : t.wld.mpu = x1.wld.mpu := by
  have e := jobRead_wld_mpu x1 x2 x3 x4 x5; rw [h] at e; exact e

@[simp ↓] theorem jobWrite_wld_pages (x1 x2 x3 x4) : (jobWrite x1 x2 x3 x4).wld.pages = x1.wld.pages := by unfold jobWrite; simp

@[simp ↓] theorem jobWrite_wld_mpu (x1 x2 x3 x4) : (jobWrite x1 x2 x3 x4).wld.mpu = x1.wld.mpu := by unfold jobWrite; simp

@[simp ↓] theorem jobWrite_lcy_state (x1 x2 x3 x4) : (jobWrite x1 x2 x3 x4).lcy.state = x1.lcy.state := by unfold jobWrite; simp

@[simp ↓] theorem readOperands_wld_pages (x1 x2 x3 x4) : (readOperands x1 x2 x3 x4).1.wld.pages = x1.wld.pages := by
  induction x3 generalizing x1 x4 with
  | nil => simp [readOperands]
  | cons d t ih => simp [readOperands, ih] <;> (try (split <;> simp))

theorem readOperands_wld_pages_of {x1 x2 x3 x4 x t} (h : readOperands x1 x2 x3 x4 = (t, x)) : t.wld.pages = x1.wld.pages := by
  have e := readOperands_wld_pages x1 x2 x3 x4; rw [h] at e; exact e

@[simp ↓] theorem readOperands_wld_mpu (x1 x2 x3 x4) : (readOperands x1 x2 x3 x4).1.wld.mpu = x1.wld.mpu := by
  induction x3 generalizing x1 x4 with
  | nil => simp [readOperands]
  | cons d t ih => simp [readOperands, ih] <;> (try (split <;> simp))

theorem readOperands_wld_mpu_of {x1 x2 x3 x4 x t} (h : readOperands x1 x2 x3 x4 = (t, x)) : t.wld.mpu = x1.wld.mpu := by
  have e := readOperands_wld_mpu x1 x2 x3 x4; rw [h] at e; exact e

@[simp ↓] theorem readFrags_wld_pages (x1 x2 x3 x4) : (readFrags x1 x2 x3 x4).1.wld.pages = x1.wld.pages := by
  induction x3 generalizing x1 x4 with
  | nil => simp [readFrags]
  | cons d t ih => simp [readFrags, ih] <;> (try (split <;> simp))

theorem readFrags_wld_pages_of {x1 x2 x3 x4 x t} (h : readFrags x1 x2 x3 x4 = (t, x)) : t.wld.pages = x1.wld.pages := by
  have e := readFrags_wld_pages x1 x2 x3 x4; rw [h] at e; exact e

@[simp ↓] theorem readFrags_wld_mpu (x1 x2 x3 x4) : (readFrags x1 x2 x3 x4).1.wld.mpu = x1.wld.mpu := by
  induction x3 generalizing x1 x4 with
  | nil => simp [readFrags]
  | cons d t ih => simp [readFrags, ih] <;> (try (split <;> simp))

theorem readFrags_wld_mpu_of {x1 x2 x3 x4 x t} (h : readFrags x1 x2 x3 x4 = (t, x)) : t.wld.mpu = x1.wld.mpu := by
  have e := readFrags_wld_mpu x1 x2 x3 x4; rw [h] at e; exact e

@[simp ↓] theorem readList_wld_pages (x1 x2 x3 x4 x5) : (readList x1 x2 x3 x4 x5).1.wld.pages = x1.wld.pages := by unfold readList; simp

theorem readList_wld_pages_of {x1 x2 x3 x4 x5 x t} (h : readList x1 x2 x3 x4 x5 = (t, x)) : t.wld.pages = x1.wld.pages := by
  have e := readList_wld_pages x1 x2 x3 x4 x5; rw [h] at e; exact e

@[simp ↓] theorem readList_wld_mpu (x1 x2 x3 x4 x5) : (readList x1 x2 x3 x4 x5).1.wld.mpu = x1.wld.mpu := by unfold readList; simp

theorem readList_wld_mpu_of {x1 x2 x3 x4 x5 x t} (h : readList x1 x2 x3 x4 x5 = (t, x)) : t.wld.mpu = x1.wld.mpu := by
  have e := readList_wld_mpu x1 x2 x3 x4 x5; rw [h] at e; exact e

@[simp ↓] theorem fetchPke_wld_pages (x1 x2) : (fetchPke x1 x2).1.wld.pages = x1.wld.pages := by unfold fetchPke; simp

theorem fetchPke_wld_pages_of {x1 x2 x t} (h : fetchPke x1 x2 = (t, x)) : t.wld.pages = x1.wld.pages := by
  have e := fetchPke_wld_pages x1 x2; rw [h] at e; exact e

@[simp ↓] theorem fetchPke_wld_mpu (x1 x2) : (fetchPke x1 x2).1.wld.mpu = x1.wld.mpu := by unfold fetchPke; simp

theorem fetchPke_wld_mpu_of {x1 x2 x t} (h : fetchPke x1 x2 = (t, x)) : t.wld.mpu = x1.wld.mpu := by
  have e := fetchPke_wld_mpu x1 x2; rw [h] at e; exact e

@[simp ↓] theorem fetchPke_lcy_state (x1 x2) : (fetchPke x1 x2).1.lcy.state = x1.lcy.state := by unfold fetchPke; simp

theorem fetchPke_lcy_state_of {x1 x2 x t} (h : fetchPke x1 x2 = (t, x)) : t.lcy.state = x1.lcy.state := by
  have e := fetchPke_lcy_state x1 x2; rw [h] at e; exact e

@[simp ↓] theorem fetchSvc_wld_pages (x1 x2) : (fetchSvc x1 x2).1.wld.pages = x1.wld.pages := by unfold fetchSvc; simp

theorem fetchSvc_wld_pages_of {x1 x2 x t} (h : fetchSvc x1 x2 = (t, x)) : t.wld.pages = x1.wld.pages := by
  have e := fetchSvc_wld_pages x1 x2; rw [h] at e; exact e

@[simp ↓] theorem fetchSvc_wld_mpu (x1 x2) : (fetchSvc x1 x2).1.wld.mpu = x1.wld.mpu := by unfold fetchSvc; simp

theorem fetchSvc_wld_mpu_of {x1 x2 x t} (h : fetchSvc x1 x2 = (t, x)) : t.wld.mpu = x1.wld.mpu := by
  have e := fetchSvc_wld_mpu x1 x2; rw [h] at e; exact e

@[simp ↓] theorem fetchSvc_lcy_state (x1 x2) : (fetchSvc x1 x2).1.lcy.state = x1.lcy.state := by unfold fetchSvc; simp

theorem fetchSvc_lcy_state_of {x1 x2 x t} (h : fetchSvc x1 x2 = (t, x)) : t.lcy.state = x1.lcy.state := by
  have e := fetchSvc_lcy_state x1 x2; rw [h] at e; exact e

@[simp ↓] theorem fetchDigest_wld_pages (x1 x2) : (fetchDigest x1 x2).1.wld.pages = x1.wld.pages := by unfold fetchDigest; simp

theorem fetchDigest_wld_pages_of {x1 x2 x t} (h : fetchDigest x1 x2 = (t, x)) : t.wld.pages = x1.wld.pages := by
  have e := fetchDigest_wld_pages x1 x2; rw [h] at e; exact e

@[simp ↓] theorem fetchDigest_wld_mpu (x1 x2) : (fetchDigest x1 x2).1.wld.mpu = x1.wld.mpu := by unfold fetchDigest; simp

theorem fetchDigest_wld_mpu_of {x1 x2 x t} (h : fetchDigest x1 x2 = (t, x)) : t.wld.mpu = x1.wld.mpu := by
  have e := fetchDigest_wld_mpu x1 x2; rw [h] at e; exact e

@[simp ↓] theorem fetchDigest_lcy_state (x1 x2) : (fetchDigest x1 x2).1.lcy.state = x1.lcy.state := by unfold fetchDigest; simp

theorem fetchDigest_lcy_state_of {x1 x2 x t} (h : fetchDigest x1 x2 = (t, x)) : t.lcy.state = x1.lcy.state := by
  have e := fetchDigest_lcy_state x1 x2; rw [h] at e; exact e

@[simp ↓] theorem keepEnd_wld_pages (x1 x2 x3 x4) : (keepEnd x1 x2 x3 x4).wld.pages = x1.wld.pages := by unfold keepEnd; (repeat' split) <;> simp

@[simp ↓] theorem keepEnd_wld_mpu (x1 x2 x3 x4) : (keepEnd x1 x2 x3 x4).wld.mpu = x1.wld.mpu := by unfold keepEnd; (repeat' split) <;> simp

@[simp ↓] theorem keepEnd_lcy_state (x1 x2 x3 x4) : (keepEnd x1 x2 x3 x4).lcy.state = x1.lcy.state := by unfold keepEnd; (repeat' split) <;> simp

@[simp ↓] theorem endJob_wld_pages (x1 x2 x3 x4) : (endJob x1 x2 x3 x4).wld.pages = x1.wld.pages := by unfold endJob; (repeat' split) <;> simp

@[simp ↓] theorem endJob_wld_mpu (x1 x2 x3 x4) : (endJob x1 x2 x3 x4).wld.mpu = x1.wld.mpu := by unfold endJob; (repeat' split) <;> simp

@[simp ↓] theorem storeResult_wld_pages (x1 x2 x3 x4 x5 x6) : (storeResult x1 x2 x3 x4 x5 x6).wld.pages = x1.wld.pages := by unfold storeResult; (try dsimp only); (repeat' split) <;> (try have := makeRoom_wld_of ‹_›) <;> (try have := makeRoom_lcy_of ‹_›) <;> simp [*]

@[simp ↓] theorem storeResult_wld_mpu (x1 x2 x3 x4 x5 x6) : (storeResult x1 x2 x3 x4 x5 x6).wld.mpu = x1.wld.mpu := by unfold storeResult; (try dsimp only); (repeat' split) <;> (try have := makeRoom_wld_of ‹_›) <;> (try have := makeRoom_lcy_of ‹_›) <;> simp [*]

@[simp ↓] theorem endPkeEarly_wld_pages (x1 x2 x3) : (endPkeEarly x1 x2 x3).wld.pages = x1.wld.pages := by unfold endPkeEarly; simp

@[simp ↓] theorem endPkeEarly_wld_mpu (x1 x2 x3) : (endPkeEarly x1 x2 x3).wld.mpu = x1.wld.mpu := by unfold endPkeEarly; simp

@[simp ↓] theorem endPkeUnstarted_wld_pages (x1 x2 x3) : (endPkeUnstarted x1 x2 x3).wld.pages = x1.wld.pages := by unfold endPkeUnstarted; simp

@[simp ↓] theorem endPkeUnstarted_wld_mpu (x1 x2 x3) : (endPkeUnstarted x1 x2 x3).wld.mpu = x1.wld.mpu := by unfold endPkeUnstarted; simp

@[simp ↓] theorem endPkeUnstarted_lcy_state (x1 x2 x3) : (endPkeUnstarted x1 x2 x3).lcy.state = x1.lcy.state := by unfold endPkeUnstarted; simp

@[simp ↓] theorem pushDigest_wld_pages (x1 x2) : (pushDigest x1 x2).wld.pages = x1.wld.pages := by unfold pushDigest; (try dsimp only); (repeat' split) <;> (try have := newJob_frame_of ‹_›) <;> simp [*]

@[simp ↓] theorem pushDigest_wld_mpu (x1 x2) : (pushDigest x1 x2).wld.mpu = x1.wld.mpu := by unfold pushDigest; (try dsimp only); (repeat' split) <;> (try have := newJob_frame_of ‹_›) <;> simp [*]

@[simp ↓] theorem pushDigest_lcy_state (x1 x2) : (pushDigest x1 x2).lcy.state = x1.lcy.state := by unfold pushDigest; (try dsimp only); (repeat' split) <;> (try have := newJob_frame_of ‹_›) <;> simp [*]

@[simp ↓] theorem endSvc_wld_pages (x1 x2 x3 x4 x5 x6 x7 x8 x9) : (endSvc x1 x2 x3 x4 x5 x6 x7 x8 x9).wld.pages = x1.wld.pages := by unfold endSvc; simp

@[simp ↓] theorem endSvc_wld_mpu (x1 x2 x3 x4 x5 x6 x7 x8 x9) : (endSvc x1 x2 x3 x4 x5 x6 x7 x8 x9).wld.mpu = x1.wld.mpu := by unfold endSvc; simp

@[simp ↓] theorem lockEngine_wld_pages (x1 x2) : (lockEngine x1 x2).wld.pages = x1.wld.pages := by unfold lockEngine; (try dsimp only); (repeat' split) <;> (try have := fetchSvc_frame_of ‹_›) <;> (try have := fetchSvc_wld_pages_of ‹_›) <;> simp [*]

@[simp ↓] theorem lockEngine_wld_mpu (x1 x2) : (lockEngine x1 x2).wld.mpu = x1.wld.mpu := by unfold lockEngine; (try dsimp only); (repeat' split) <;> (try have := fetchSvc_frame_of ‹_›) <;> (try have := fetchSvc_wld_mpu_of ‹_›) <;> simp [*]

@[simp ↓] theorem laterSegment_wld_pages (x1 x2) : (laterSegment x1 x2).wld.pages = x1.wld.pages := by unfold laterSegment; (try dsimp only); (repeat' split) <;> (try have := fetchSvc_frame_of ‹_›) <;> (try have := fetchSvc_wld_pages_of ‹_›) <;> simp [*]

@[simp ↓] theorem laterSegment_wld_mpu (x1 x2) : (laterSegment x1 x2).wld.mpu = x1.wld.mpu := by unfold laterSegment; (try dsimp only); (repeat' split) <;> (try have := fetchSvc_frame_of ‹_›) <;> (try have := fetchSvc_wld_mpu_of ‹_›) <;> simp [*]

@[simp ↓] theorem endDigestEarly_wld_pages (x1 x2 x3) : (endDigestEarly x1 x2 x3).wld.pages = x1.wld.pages := by unfold endDigestEarly; simp

@[simp ↓] theorem endDigestEarly_wld_mpu (x1 x2 x3) : (endDigestEarly x1 x2 x3).wld.mpu = x1.wld.mpu := by unfold endDigestEarly; simp

@[simp ↓] theorem endEarly_wld_pages (x1 x2 x3) : (endEarly x1 x2 x3).wld.pages = x1.wld.pages := by unfold endEarly; (repeat' split) <;> simp

@[simp ↓] theorem endEarly_wld_mpu (x1 x2 x3) : (endEarly x1 x2 x3).wld.mpu = x1.wld.mpu := by unfold endEarly; (repeat' split) <;> simp

@[simp ↓] theorem endAbortedAtSource_wld_pages (x1 x2) : (endAbortedAtSource x1 x2).wld.pages = x1.wld.pages := by unfold endAbortedAtSource; (repeat' split) <;> simp

@[simp ↓] theorem endAbortedAtSource_wld_mpu (x1 x2) : (endAbortedAtSource x1 x2).wld.mpu = x1.wld.mpu := by unfold endAbortedAtSource; (repeat' split) <;> simp

@[simp ↓] theorem endAbortedAtSource_lcy_state (x1 x2) : (endAbortedAtSource x1 x2).lcy.state = x1.lcy.state := by unfold endAbortedAtSource; (repeat' split) <;> simp

@[simp ↓] theorem refuseAtSources_wld_pages (x1 x2) : (refuseAtSources x1 x2).wld.pages = x1.wld.pages := by unfold refuseAtSources; simp

@[simp ↓] theorem refuseAtSources_wld_mpu (x1 x2) : (refuseAtSources x1 x2).wld.mpu = x1.wld.mpu := by unfold refuseAtSources; simp

@[simp ↓] theorem refuseAtSources_lcy_state (x1 x2) : (refuseAtSources x1 x2).lcy.state = x1.lcy.state := by unfold refuseAtSources; simp

@[simp ↓] theorem enterFamily_wld_pages (x1 x2) : (enterFamily x1 x2).wld.pages = x1.wld.pages := by unfold enterFamily; (try dsimp only); (repeat' split) <;> (try have := fetchPke_frame_of ‹_›) <;> (try have := fetchPke_wld_pages_of ‹_›) <;> (try have := fetchDigest_frame_of ‹_›) <;> (try have := fetchDigest_wld_pages_of ‹_›) <;> simp [*]

@[simp ↓] theorem enterFamily_wld_mpu (x1 x2) : (enterFamily x1 x2).wld.mpu = x1.wld.mpu := by unfold enterFamily; (try dsimp only); (repeat' split) <;> (try have := fetchPke_frame_of ‹_›) <;> (try have := fetchPke_wld_mpu_of ‹_›) <;> (try have := fetchDigest_frame_of ‹_›) <;> (try have := fetchDigest_wld_mpu_of ‹_›) <;> simp [*]

@[simp ↓] theorem admitJob_wld_pages (x1 x2 x3) : (admitJob x1 x2 x3).1.wld.pages = x1.wld.pages := by unfold admitJob; (try dsimp only); (repeat' split) <;> (try have := takeUse_frame_of ‹_›) <;> simp [*]

theorem admitJob_wld_pages_of {x1 x2 x3 x t} (h : admitJob x1 x2 x3 = (t, x)) : t.wld.pages = x1.wld.pages := by
  have e := admitJob_wld_pages x1 x2 x3; rw [h] at e; exact e

@[simp ↓] theorem admitJob_wld_mpu (x1 x2 x3) : (admitJob x1 x2 x3).1.wld.mpu = x1.wld.mpu := by unfold admitJob; (try dsimp only); (repeat' split) <;> (try have := takeUse_frame_of ‹_›) <;> simp [*]

theorem admitJob_wld_mpu_of {x1 x2 x3 x t} (h : admitJob x1 x2 x3 = (t, x)) : t.wld.mpu = x1.wld.mpu := by
  have e := admitJob_wld_mpu x1 x2 x3; rw [h] at e; exact e

@[simp ↓] theorem admitNext_wld_pages (x1 x2) : (admitNext x1 x2).wld.pages = x1.wld.pages := by
  induction x2 generalizing x1 with
  | nil => simp [admitNext]
  | cons d t ih => unfold admitNext; dsimp only; (repeat' split) <;> (try have := admitJob_wld_pages_of ‹_›) <;> simp [*]

@[simp ↓] theorem admitNext_wld_mpu (x1 x2) : (admitNext x1 x2).wld.mpu = x1.wld.mpu := by
  induction x2 generalizing x1 with
  | nil => simp [admitNext]
  | cons d t ih => unfold admitNext; dsimp only; (repeat' split) <;> (try have := admitJob_wld_mpu_of ‹_›) <;> simp [*]

@[simp ↓] theorem passUnclassed_wld_pages (x1 x2 x3) : (passUnclassed x1 x2 x3).wld.pages = x1.wld.pages := by unfold passUnclassed; simp

@[simp ↓] theorem passUnclassed_wld_mpu (x1 x2 x3) : (passUnclassed x1 x2 x3).wld.mpu = x1.wld.mpu := by unfold passUnclassed; simp

@[simp ↓] theorem passUnclassed_lcy_state (x1 x2 x3) : (passUnclassed x1 x2 x3).lcy.state = x1.lcy.state := by unfold passUnclassed; simp

theorem unparsed_wld_pages_of {x1 x2 x3}{t} (h : (unparsed x1 x2 x3) = some t) : t.wld.pages = x1.wld.pages := by unfold unparsed at h; (try dsimp only at h); (repeat' split at h)  <;> (first | contradiction | (cases h; simp [*]) | (simp only [Option.map_eq_some_iff, Option.bind_eq_some_iff] at h; obtain ⟨_, _, rfl⟩ := h; simp [*]))

theorem unparsed_wld_mpu_of {x1 x2 x3}{t} (h : (unparsed x1 x2 x3) = some t) : t.wld.mpu = x1.wld.mpu := by unfold unparsed at h; (try dsimp only at h); (repeat' split at h)  <;> (first | contradiction | (cases h; simp [*]) | (simp only [Option.map_eq_some_iff, Option.bind_eq_some_iff] at h; obtain ⟨_, _, rfl⟩ := h; simp [*]))

theorem unparsed_lcy_state_of {x1 x2 x3}{t} (h : (unparsed x1 x2 x3) = some t) : t.lcy.state = x1.lcy.state := by unfold unparsed at h; (try dsimp only at h); (repeat' split at h)  <;> (first | contradiction | (cases h; simp [*]) | (simp only [Option.map_eq_some_iff, Option.bind_eq_some_iff] at h; obtain ⟨_, _, rfl⟩ := h; simp [*]))

@[simp ↓] theorem enterDirection_wld_pages (x1 x2 x3) : (enterDirection x1 x2 x3).wld.pages = x1.wld.pages := by unfold enterDirection; (try dsimp only); (repeat' split) <;> (try have := unparsed_frame_of ‹_›) <;> (try have := unparsed_wld_pages_of ‹_›) <;> simp [*]

@[simp ↓] theorem enterDirection_wld_mpu (x1 x2 x3) : (enterDirection x1 x2 x3).wld.mpu = x1.wld.mpu := by unfold enterDirection; (try dsimp only); (repeat' split) <;> (try have := unparsed_frame_of ‹_›) <;> (try have := unparsed_wld_mpu_of ‹_›) <;> simp [*]

@[simp ↓] theorem enterDirection_lcy_state (x1 x2 x3) : (enterDirection x1 x2 x3).lcy.state = x1.lcy.state := by unfold enterDirection; (try dsimp only); (repeat' split) <;> (try have := unparsed_frame_of ‹_›) <;> (try have := unparsed_lcy_state_of ‹_›) <;> simp [*]

@[simp ↓] theorem receiveFrame_wld_pages (x1 x2 x3) : (receiveFrame x1 x2 x3).wld.pages = x1.wld.pages := by unfold receiveFrame; (try dsimp only); (repeat' split)  <;> simp [*]

@[simp ↓] theorem receiveFrame_wld_mpu (x1 x2 x3) : (receiveFrame x1 x2 x3).wld.mpu = x1.wld.mpu := by unfold receiveFrame; (try dsimp only); (repeat' split)  <;> simp [*]

@[simp ↓] theorem receiveFrame_lcy_state (x1 x2 x3) : (receiveFrame x1 x2 x3).lcy.state = x1.lcy.state := by unfold receiveFrame; (try dsimp only); (repeat' split)  <;> simp [*]

@[simp ↓] theorem drainRx_wld_pages (x1 x2) : (drainRx x1 x2).wld.pages = x1.wld.pages := by unfold drainRx; simp

@[simp ↓] theorem drainRx_wld_mpu (x1 x2) : (drainRx x1 x2).wld.mpu = x1.wld.mpu := by unfold drainRx; simp

@[simp ↓] theorem drainRx_lcy_state (x1 x2) : (drainRx x1 x2).lcy.state = x1.lcy.state := by unfold drainRx; simp

@[simp ↓] theorem refuseEarly_wld_pages (x1 x2 x3 x4) : (refuseEarly x1 x2 x3 x4).wld.pages = x1.wld.pages := by unfold refuseEarly; simp

@[simp ↓] theorem refuseEarly_wld_mpu (x1 x2 x3 x4) : (refuseEarly x1 x2 x3 x4).wld.mpu = x1.wld.mpu := by unfold refuseEarly; simp

@[simp ↓] theorem refuseEarly_lcy_state (x1 x2 x3 x4) : (refuseEarly x1 x2 x3 x4).lcy.state = x1.lcy.state := by unfold refuseEarly; simp

@[simp ↓] theorem holdFrame_wld_pages (x1 x2 x3 x4) : (holdFrame x1 x2 x3 x4).wld.pages = x1.wld.pages := by unfold holdFrame; (try dsimp only); (repeat' split) <;> (try have := findOrInsert_frame_of ‹_›) <;> simp [*]

@[simp ↓] theorem holdFrame_wld_mpu (x1 x2 x3 x4) : (holdFrame x1 x2 x3 x4).wld.mpu = x1.wld.mpu := by unfold holdFrame; (try dsimp only); (repeat' split) <;> (try have := findOrInsert_frame_of ‹_›) <;> simp [*]

@[simp ↓] theorem holdFrame_lcy_state (x1 x2 x3 x4) : (holdFrame x1 x2 x3 x4).lcy.state = x1.lcy.state := by unfold holdFrame; (try dsimp only); (repeat' split) <;> (try have := findOrInsert_frame_of ‹_›) <;> simp [*]

@[simp ↓] theorem judgeCommand_wld_pages (x1 x2 x3) : (judgeCommand x1 x2 x3).wld.pages = x1.wld.pages := by unfold judgeCommand; (try dsimp only); (repeat' split)  <;> simp [*]

@[simp ↓] theorem judgeCommand_wld_mpu (x1 x2 x3) : (judgeCommand x1 x2 x3).wld.mpu = x1.wld.mpu := by unfold judgeCommand; (try dsimp only); (repeat' split)  <;> simp [*]

@[simp ↓] theorem judgeCommand_lcy_state (x1 x2 x3) : (judgeCommand x1 x2 x3).lcy.state = x1.lcy.state := by unfold judgeCommand; (try dsimp only); (repeat' split)  <;> simp [*]

@[simp ↓] theorem classify_wld_pages (x1 x2 x3) : (classify x1 x2 x3).wld.pages = x1.wld.pages := by unfold classify; simp

@[simp ↓] theorem classify_wld_mpu (x1 x2 x3) : (classify x1 x2 x3).wld.mpu = x1.wld.mpu := by unfold classify; simp

@[simp ↓] theorem classify_lcy_state (x1 x2 x3) : (classify x1 x2 x3).lcy.state = x1.lcy.state := by unfold classify; simp

@[simp ↓] theorem forFrames_wld_pages (x1 x2 x3) (hx3 : ∀ y1 y2 y3, (x3 y1 y2 y3).wld.pages = y1.wld.pages) : (forFrames x1 x2 x3).wld.pages = x1.wld.pages := by unfold forFrames; apply st_foldl_wld_pages; intros; (repeat' split) <;> simp [*]

@[simp ↓] theorem forFrames_wld_mpu (x1 x2 x3) (hx3 : ∀ y1 y2 y3, (x3 y1 y2 y3).wld.mpu = y1.wld.mpu) : (forFrames x1 x2 x3).wld.mpu = x1.wld.mpu := by unfold forFrames; apply st_foldl_wld_mpu; intros; (repeat' split) <;> simp [*]

@[simp ↓] theorem forFrames_lcy_state (x1 x2 x3) (hx3 : ∀ y1 y2 y3, (x3 y1 y2 y3).lcy.state = y1.lcy.state) : (forFrames x1 x2 x3).lcy.state = x1.lcy.state := by unfold forFrames; apply st_foldl_lcy_state; intros; (repeat' split) <;> simp [*]

@[simp ↓] theorem countPageFail_wld_pages (x1) : (countPageFail x1).wld.pages = x1.wld.pages := by unfold countPageFail; simp

@[simp ↓] theorem countPageFail_wld_mpu (x1) : (countPageFail x1).wld.mpu = x1.wld.mpu := by unfold countPageFail; simp

@[simp ↓] theorem countPageFail_lcy_state (x1) : (countPageFail x1).lcy.state = x1.lcy.state := by unfold countPageFail; simp

@[simp ↓] theorem endPaging_wld_pages (x1 x2 x3) (hx3 : ∀ y1 y2 y3, (x3 y1 y2 y3).wld.pages = y1.wld.pages) : (endPaging x1 x2 x3).wld.pages = x1.wld.pages := by unfold endPaging; (repeat' split) <;> simp [*]

@[simp ↓] theorem endPaging_wld_mpu (x1 x2 x3) (hx3 : ∀ y1 y2 y3, (x3 y1 y2 y3).wld.mpu = y1.wld.mpu) : (endPaging x1 x2 x3).wld.mpu = x1.wld.mpu := by unfold endPaging; (repeat' split) <;> simp [*]

@[simp ↓] theorem endPaging_lcy_state (x1 x2 x3) (hx3 : ∀ y1 y2 y3, (x3 y1 y2 y3).lcy.state = y1.lcy.state) : (endPaging x1 x2 x3).lcy.state = x1.lcy.state := by unfold endPaging; (repeat' split) <;> simp [*]

@[simp ↓] theorem failPaging_wld_pages (x1 x2) : (failPaging x1 x2).wld.pages = x1.wld.pages := by unfold failPaging; simp

@[simp ↓] theorem failPaging_wld_mpu (x1 x2) : (failPaging x1 x2).wld.mpu = x1.wld.mpu := by unfold failPaging; simp

@[simp ↓] theorem failPaging_lcy_state (x1 x2) : (failPaging x1 x2).lcy.state = x1.lcy.state := by unfold failPaging; simp

@[simp ↓] theorem expire_wld_pages (x1 x2 x3) : (expire x1 x2 x3).wld.pages = x1.wld.pages := by unfold expire; simp

@[simp ↓] theorem expire_wld_mpu (x1 x2 x3) : (expire x1 x2 x3).wld.mpu = x1.wld.mpu := by unfold expire; simp

@[simp ↓] theorem expire_lcy_state (x1 x2 x3) : (expire x1 x2 x3).lcy.state = x1.lcy.state := by unfold expire; simp

@[simp ↓] theorem setLink_wld_pages (x1 x2 x3) : (setLink x1 x2 x3).wld.pages = x1.wld.pages := by unfold setLink; simp

@[simp ↓] theorem setLink_wld_mpu (x1 x2 x3) : (setLink x1 x2 x3).wld.mpu = x1.wld.mpu := by unfold setLink; simp

@[simp ↓] theorem disablePort_wld_pages (x1 x2) : (disablePort x1 x2).wld.pages = x1.wld.pages := by unfold disablePort; simp

@[simp ↓] theorem disablePort_wld_mpu (x1 x2) : (disablePort x1 x2).wld.mpu = x1.wld.mpu := by unfold disablePort; simp

@[simp ↓] theorem writePortCfg_wld_pages (x1 x2 x3) : (writePortCfg x1 x2 x3).wld.pages = x1.wld.pages := by unfold writePortCfg; simp

@[simp ↓] theorem writePortCfg_wld_mpu (x1 x2 x3) : (writePortCfg x1 x2 x3).wld.mpu = x1.wld.mpu := by unfold writePortCfg; simp

@[simp ↓] theorem countLane_wld_pages (x1 x2 x3 x4) : (countLane x1 x2 x3 x4).wld.pages = x1.wld.pages := by unfold countLane; simp

@[simp ↓] theorem countLane_wld_mpu (x1 x2 x3 x4) : (countLane x1 x2 x3 x4).wld.mpu = x1.wld.mpu := by unfold countLane; simp

@[simp ↓] theorem countLane_lcy_state (x1 x2 x3 x4) : (countLane x1 x2 x3 x4).lcy.state = x1.lcy.state := by unfold countLane; simp

@[simp ↓] theorem untilServing_wld_pages (x1 x2 x3 x4 x5) (hx5 : x5.wld.pages = x1.wld.pages) : (untilServing x1 x2 x3 x4 x5).wld.pages = x1.wld.pages := by unfold untilServing; (repeat' split) <;> simp [*]

@[simp ↓] theorem untilServing_wld_mpu (x1 x2 x3 x4 x5) (hx5 : x5.wld.mpu = x1.wld.mpu) : (untilServing x1 x2 x3 x4 x5).wld.mpu = x1.wld.mpu := by unfold untilServing; (repeat' split) <;> simp [*]

@[simp ↓] theorem untilServing_lcy_state (x1 x2 x3 x4 x5) (hx5 : x5.lcy.state = x1.lcy.state) : (untilServing x1 x2 x3 x4 x5).lcy.state = x1.lcy.state := by unfold untilServing; (repeat' split) <;> simp [*]

@[simp ↓] theorem eraseKey_wld_pages (x1 x2 x3 x4 x5) : (eraseKey x1 x2 x3 x4 x5).wld.pages = x1.wld.pages := by unfold eraseKey; simp

@[simp ↓] theorem eraseKey_wld_mpu (x1 x2 x3 x4 x5) : (eraseKey x1 x2 x3 x4 x5).wld.mpu = x1.wld.mpu := by unfold eraseKey; simp

@[simp ↓] theorem withKeyQuorum_wld_pages (x1 x2 x3 x4 x5) (hx5 : ∀ y1 y2, (x5 y1 y2).wld.pages = y1.wld.pages) : (withKeyQuorum x1 x2 x3 x4 x5).wld.pages = x1.wld.pages := by unfold withKeyQuorum; (repeat' split) <;> simp [*]

@[simp ↓] theorem withKeyQuorum_wld_mpu (x1 x2 x3 x4 x5) (hx5 : ∀ y1 y2, (x5 y1 y2).wld.mpu = y1.wld.mpu) : (withKeyQuorum x1 x2 x3 x4 x5).wld.mpu = x1.wld.mpu := by unfold withKeyQuorum; (repeat' split) <;> simp [*]

@[simp ↓] theorem withKeyQuorum_lcy_state (x1 x2 x3 x4 x5) (hx5 : ∀ y1 y2, (x5 y1 y2).lcy.state = y1.lcy.state) : (withKeyQuorum x1 x2 x3 x4 x5).lcy.state = x1.lcy.state := by unfold withKeyQuorum; (repeat' split) <;> simp [*]

@[simp ↓] theorem setAttr_wld_pages (x1 x2 x3 x4 x5) : (setAttr x1 x2 x3 x4 x5).wld.pages = x1.wld.pages := by unfold setAttr; simp

@[simp ↓] theorem setAttr_wld_mpu (x1 x2 x3 x4 x5) : (setAttr x1 x2 x3 x4 x5).wld.mpu = x1.wld.mpu := by unfold setAttr; simp

@[simp ↓] theorem importValue_wld_pages (x1 x2 x3) : (importValue x1 x2 x3).wld.pages = x1.wld.pages := by unfold importValue; (try dsimp only); (repeat' split)  <;> simp [*]

@[simp ↓] theorem importValue_wld_mpu (x1 x2 x3) : (importValue x1 x2 x3).wld.mpu = x1.wld.mpu := by unfold importValue; (try dsimp only); (repeat' split)  <;> simp [*]

@[simp ↓] theorem withLength_wld_pages (x1 x2 x3 x4) (hx4 : x4.wld.pages = x1.wld.pages) : (withLength x1 x2 x3 x4).wld.pages = x1.wld.pages := by unfold withLength; (repeat' split) <;> simp [*]

@[simp ↓] theorem withLength_wld_mpu (x1 x2 x3 x4) (hx4 : x4.wld.mpu = x1.wld.mpu) : (withLength x1 x2 x3 x4).wld.mpu = x1.wld.mpu := by unfold withLength; (repeat' split) <;> simp [*]

@[simp ↓] theorem withLength_lcy_state (x1 x2 x3 x4) (hx4 : x4.lcy.state = x1.lcy.state) : (withLength x1 x2 x3 x4).lcy.state = x1.lcy.state := by unfold withLength; (repeat' split) <;> simp [*]

@[simp ↓] theorem endSegments_wld_pages (x1 x2 x3 x4) : (endSegments x1 x2 x3 x4).wld.pages = x1.wld.pages := by unfold endSegments; simp

@[simp ↓] theorem endSegments_wld_mpu (x1 x2 x3 x4) : (endSegments x1 x2 x3 x4).wld.mpu = x1.wld.mpu := by unfold endSegments; simp

@[simp ↓] theorem countSvc_wld_pages (x1 x2 x3) : (countSvc x1 x2 x3).wld.pages = x1.wld.pages := by unfold countSvc; simp

@[simp ↓] theorem countSvc_wld_mpu (x1 x2 x3) : (countSvc x1 x2 x3).wld.mpu = x1.wld.mpu := by unfold countSvc; simp

@[simp ↓] theorem countSvc_lcy_state (x1 x2 x3) : (countSvc x1 x2 x3).lcy.state = x1.lcy.state := by unfold countSvc; simp

@[simp ↓] theorem releaseSvc_wld_pages (x1 x2 x3) : (releaseSvc x1 x2 x3).wld.pages = x1.wld.pages := by unfold releaseSvc; (repeat' split) <;> simp

@[simp ↓] theorem releaseSvc_wld_mpu (x1 x2 x3) : (releaseSvc x1 x2 x3).wld.mpu = x1.wld.mpu := by unfold releaseSvc; (repeat' split) <;> simp

@[simp ↓] theorem stopSvc_wld_pages (x1 x2 x3 x4) : (stopSvc x1 x2 x3 x4).wld.pages = x1.wld.pages := by unfold stopSvc; (repeat' split) <;> simp

@[simp ↓] theorem stopSvc_wld_mpu (x1 x2 x3 x4) : (stopSvc x1 x2 x3 x4).wld.mpu = x1.wld.mpu := by unfold stopSvc; (repeat' split) <;> simp

@[simp ↓] theorem failSegment_wld_pages (x1 x2 x3 x4 x5 x6) : (failSegment x1 x2 x3 x4 x5 x6).wld.pages = x1.wld.pages := by unfold failSegment; simp

@[simp ↓] theorem failSegment_wld_mpu (x1 x2 x3 x4 x5 x6) : (failSegment x1 x2 x3 x4 x5 x6).wld.mpu = x1.wld.mpu := by unfold failSegment; simp

@[simp ↓] theorem endSegment_wld_pages (x1 x2 x3 x4) : (endSegment x1 x2 x3 x4).wld.pages = x1.wld.pages := by unfold endSegment; (repeat' split) <;> simp

@[simp ↓] theorem endSegment_wld_mpu (x1 x2 x3 x4) : (endSegment x1 x2 x3 x4).wld.mpu = x1.wld.mpu := by unfold endSegment; (repeat' split) <;> simp

@[simp ↓] theorem abortMessage_wld_pages (x1 x2 x3) : (abortMessage x1 x2 x3).wld.pages = x1.wld.pages := by unfold abortMessage; (repeat' split) <;> simp

@[simp ↓] theorem abortMessage_wld_mpu (x1 x2 x3) : (abortMessage x1 x2 x3).wld.mpu = x1.wld.mpu := by unfold abortMessage; (repeat' split) <;> simp

@[simp ↓] theorem releaseHoldsOf_wld_pages (x1 x2) : (releaseHoldsOf x1 x2).wld.pages = x1.wld.pages := by unfold releaseHoldsOf; (try dsimp only); (repeat' split)  <;> (first | simp [*] | (rw [st_foldl_wld_pages _ _ _ (by intros; (repeat' split)  <;> simp [*])]; try simp [*]) | (rw [st_foldr_wld_pages _ _ _ (by intros; (repeat' split)  <;> simp [*])]; try simp [*]) | (simp [*]; rw [st_foldl_wld_pages _ _ _ (by intros; (repeat' split)  <;> simp [*])]; try simp [*]) | (simp [*]; (repeat' split)  <;> simp [*]))

@[simp ↓] theorem releaseHoldsOf_wld_mpu (x1 x2) : (releaseHoldsOf x1 x2).wld.mpu = x1.wld.mpu := by unfold releaseHoldsOf; (try dsimp only); (repeat' split)  <;> (first | simp [*] | (rw [st_foldl_wld_mpu _ _ _ (by intros; (repeat' split)  <;> simp [*])]; try simp [*]) | (rw [st_foldr_wld_mpu _ _ _ (by intros; (repeat' split)  <;> simp [*])]; try simp [*]) | (simp [*]; rw [st_foldl_wld_mpu _ _ _ (by intros; (repeat' split)  <;> simp [*])]; try simp [*]) | (simp [*]; (repeat' split)  <;> simp [*]))

@[simp ↓] theorem suspendSvcs_wld_pages (x1) : (suspendSvcs x1).wld.pages = x1.wld.pages := by unfold suspendSvcs; simp

@[simp ↓] theorem suspendSvcs_wld_mpu (x1) : (suspendSvcs x1).wld.mpu = x1.wld.mpu := by unfold suspendSvcs; simp

@[simp ↓] theorem failSvc_wld_pages (x1 x2) : (failSvc x1 x2).wld.pages = x1.wld.pages := by unfold failSvc; simp

@[simp ↓] theorem failSvc_wld_mpu (x1 x2) : (failSvc x1 x2).wld.mpu = x1.wld.mpu := by unfold failSvc; simp

@[simp ↓] theorem bindLocally_wld_pages (x1 x2 x3 x4 x5) : (bindLocally x1 x2 x3 x4 x5).wld.pages = x1.wld.pages := by unfold bindLocally; (repeat' split) <;> simp

@[simp ↓] theorem bindLocally_wld_mpu (x1 x2 x3 x4 x5) : (bindLocally x1 x2 x3 x4 x5).wld.mpu = x1.wld.mpu := by unfold bindLocally; (repeat' split) <;> simp

@[simp ↓] theorem bindLocally_lcy_state (x1 x2 x3 x4 x5) : (bindLocally x1 x2 x3 x4 x5).lcy.state = x1.lcy.state := by unfold bindLocally; (repeat' split) <;> simp

@[simp ↓] theorem bindPart_wld_pages (x1 x2 x3 x4 x5) : (bindPart x1 x2 x3 x4 x5).wld.pages = x1.wld.pages := by unfold bindPart; (repeat' split) <;> simp

@[simp ↓] theorem bindPart_wld_mpu (x1 x2 x3 x4 x5) : (bindPart x1 x2 x3 x4 x5).wld.mpu = x1.wld.mpu := by unfold bindPart; (repeat' split) <;> simp

@[simp ↓] theorem bindPart_lcy_state (x1 x2 x3 x4 x5) : (bindPart x1 x2 x3 x4 x5).lcy.state = x1.lcy.state := by unfold bindPart; (repeat' split) <;> simp

@[simp ↓] theorem bindAgain_wld_pages (x1 x2 x3) : (bindAgain x1 x2 x3).wld.pages = x1.wld.pages := by unfold bindAgain; (repeat' split) <;> simp

@[simp ↓] theorem bindAgain_wld_mpu (x1 x2 x3) : (bindAgain x1 x2 x3).wld.mpu = x1.wld.mpu := by unfold bindAgain; (repeat' split) <;> simp

@[simp ↓] theorem bindAgain_lcy_state (x1 x2 x3) : (bindAgain x1 x2 x3).lcy.state = x1.lcy.state := by unfold bindAgain; (repeat' split) <;> simp

@[simp ↓] theorem rebindPart_wld_pages (x1 x2 x3) : (rebindPart x1 x2 x3).wld.pages = x1.wld.pages := by unfold rebindPart; (try dsimp only); (repeat' split)  <;> simp [*]

@[simp ↓] theorem rebindPart_wld_mpu (x1 x2 x3) : (rebindPart x1 x2 x3).wld.mpu = x1.wld.mpu := by unfold rebindPart; (try dsimp only); (repeat' split)  <;> simp [*]

@[simp ↓] theorem rebindPart_lcy_state (x1 x2 x3) : (rebindPart x1 x2 x3).lcy.state = x1.lcy.state := by unfold rebindPart; (try dsimp only); (repeat' split)  <;> simp [*]

@[simp ↓] theorem freeDelivered_wld_pages (x1) : (freeDelivered x1).wld.pages = x1.wld.pages := by unfold freeDelivered; simp

@[simp ↓] theorem freeDelivered_wld_mpu (x1) : (freeDelivered x1).wld.mpu = x1.wld.mpu := by unfold freeDelivered; simp

@[simp ↓] theorem freeDelivered_lcy_state (x1) : (freeDelivered x1).lcy.state = x1.lcy.state := by unfold freeDelivered; simp

@[simp ↓] theorem assignPassage_wld_pages (x1) : (assignPassage x1).wld.pages = x1.wld.pages := by unfold assignPassage; (try dsimp only); (repeat' split)  <;> simp [*]

@[simp ↓] theorem assignPassage_wld_mpu (x1) : (assignPassage x1).wld.mpu = x1.wld.mpu := by unfold assignPassage; (try dsimp only); (repeat' split)  <;> simp [*]

@[simp ↓] theorem assignPassage_lcy_state (x1) : (assignPassage x1).lcy.state = x1.lcy.state := by unfold assignPassage; (try dsimp only); (repeat' split)  <;> simp [*]

@[simp ↓] theorem endPassage_wld_pages (x1 x2 x3) : (endPassage x1 x2 x3).wld.pages = x1.wld.pages := by unfold endPassage; (try dsimp only); (repeat' split)  <;> simp [*]

@[simp ↓] theorem endPassage_wld_mpu (x1 x2 x3) : (endPassage x1 x2 x3).wld.mpu = x1.wld.mpu := by unfold endPassage; (try dsimp only); (repeat' split)  <;> simp [*]

@[simp ↓] theorem endPassage_lcy_state (x1 x2 x3) : (endPassage x1 x2 x3).lcy.state = x1.lcy.state := by unfold endPassage; (try dsimp only); (repeat' split)  <;> simp [*]

@[simp ↓] theorem unwait_wld_pages (x1 x2) : (unwait x1 x2).wld.pages = x1.wld.pages := by unfold unwait; simp

@[simp ↓] theorem unwait_wld_mpu (x1 x2) : (unwait x1 x2).wld.mpu = x1.wld.mpu := by unfold unwait; simp

@[simp ↓] theorem unwait_lcy_state (x1 x2) : (unwait x1 x2).lcy.state = x1.lcy.state := by unfold unwait; simp

@[simp ↓] theorem failPkeDigest_wld_pages (x1 x2 x3) : (failPkeDigest x1 x2 x3).wld.pages = x1.wld.pages := by unfold failPkeDigest; (repeat' split) <;> simp

@[simp ↓] theorem failPkeDigest_wld_mpu (x1 x2 x3) : (failPkeDigest x1 x2 x3).wld.mpu = x1.wld.mpu := by unfold failPkeDigest; (repeat' split) <;> simp

@[simp ↓] theorem failPkeDigest_lcy_state (x1 x2 x3) : (failPkeDigest x1 x2 x3).lcy.state = x1.lcy.state := by unfold failPkeDigest; (repeat' split) <;> simp

@[simp ↓] theorem endPkeDigest_wld_pages (x1 x2 x3) : (endPkeDigest x1 x2 x3).wld.pages = x1.wld.pages := by unfold endPkeDigest; (repeat' split) <;> simp

@[simp ↓] theorem endPkeDigest_wld_mpu (x1 x2 x3) : (endPkeDigest x1 x2 x3).wld.mpu = x1.wld.mpu := by unfold endPkeDigest; (repeat' split) <;> simp

@[simp ↓] theorem endPkeDigest_lcy_state (x1 x2 x3) : (endPkeDigest x1 x2 x3).lcy.state = x1.lcy.state := by unfold endPkeDigest; (repeat' split) <;> simp

@[simp ↓] theorem unwaitDigest_wld_pages (x1 x2) : (unwaitDigest x1 x2).wld.pages = x1.wld.pages := by unfold unwaitDigest; simp

@[simp ↓] theorem unwaitDigest_wld_mpu (x1 x2) : (unwaitDigest x1 x2).wld.mpu = x1.wld.mpu := by unfold unwaitDigest; simp

@[simp ↓] theorem unwaitDigest_lcy_state (x1 x2) : (unwaitDigest x1 x2).lcy.state = x1.lcy.state := by unfold unwaitDigest; simp

@[simp ↓] theorem beginDigest_wld_pages (x1 x2 x3 x4 x5 x6) : (beginDigest x1 x2 x3 x4 x5 x6).wld.pages = x1.wld.pages := by unfold beginDigest; (try dsimp only); (repeat' split)  <;> simp [*]

@[simp ↓] theorem beginDigest_wld_mpu (x1 x2 x3 x4 x5 x6) : (beginDigest x1 x2 x3 x4 x5 x6).wld.mpu = x1.wld.mpu := by unfold beginDigest; (try dsimp only); (repeat' split)  <;> simp [*]

@[simp ↓] theorem beginDigest_lcy_state (x1 x2 x3 x4 x5 x6) : (beginDigest x1 x2 x3 x4 x5 x6).lcy.state = x1.lcy.state := by unfold beginDigest; (try dsimp only); (repeat' split)  <;> simp [*]

@[simp ↓] theorem failService_wld_pages (x1 x2 x3 x4 x5 x6) : (failService x1 x2 x3 x4 x5 x6).wld.pages = x1.wld.pages := by unfold failService; simp

@[simp ↓] theorem failService_wld_mpu (x1 x2 x3 x4 x5 x6) : (failService x1 x2 x3 x4 x5 x6).wld.mpu = x1.wld.mpu := by unfold failService; simp

@[simp ↓] theorem endService_wld_pages (x1 x2 x3 x4 x5) : (endService x1 x2 x3 x4 x5).wld.pages = x1.wld.pages := by unfold endService; simp

@[simp ↓] theorem endService_wld_mpu (x1 x2 x3 x4 x5) : (endService x1 x2 x3 x4 x5).wld.mpu = x1.wld.mpu := by unfold endService; simp

@[simp ↓] theorem endAborted_wld_pages (x1 x2) : (endAborted x1 x2).wld.pages = x1.wld.pages := by unfold endAborted; apply st_foldl_wld_pages; intros; (repeat' split)  <;> simp [*]

@[simp ↓] theorem endAborted_wld_mpu (x1 x2) : (endAborted x1 x2).wld.mpu = x1.wld.mpu := by unfold endAborted; apply st_foldl_wld_mpu; intros; (repeat' split)  <;> simp [*]

theorem abortDigest_wld_pages_of {x1 x2 x3}{t} (h : (abortDigest x1 x2 x3) = some t) : t.wld.pages = x1.wld.pages := by unfold abortDigest at h; (try dsimp only at h); (repeat' split at h)  <;> (first | contradiction | (cases h; simp [*]) | (simp only [Option.map_eq_some_iff, Option.bind_eq_some_iff] at h; obtain ⟨_, _, rfl⟩ := h; simp [*]))

theorem abortDigest_wld_mpu_of {x1 x2 x3}{t} (h : (abortDigest x1 x2 x3) = some t) : t.wld.mpu = x1.wld.mpu := by unfold abortDigest at h; (try dsimp only at h); (repeat' split at h)  <;> (first | contradiction | (cases h; simp [*]) | (simp only [Option.map_eq_some_iff, Option.bind_eq_some_iff] at h; obtain ⟨_, _, rfl⟩ := h; simp [*]))

@[simp ↓] theorem clearContexts_wld_pages (x1 x2 x3 x4) : (clearContexts x1 x2 x3 x4).wld.pages = x1.wld.pages := by unfold clearContexts; dsimp only; apply Eq.trans (st_foldl_wld_pages _ _ _ (by intros; (repeat' split)  <;> simp [*])); (repeat' split)  <;> simp [*]

@[simp ↓] theorem clearContexts_wld_mpu (x1 x2 x3 x4) : (clearContexts x1 x2 x3 x4).wld.mpu = x1.wld.mpu := by unfold clearContexts; dsimp only; apply Eq.trans (st_foldl_wld_mpu _ _ _ (by intros; (repeat' split)  <;> simp [*])); (repeat' split)  <;> simp [*]

@[simp ↓] theorem failDigest_wld_pages (x1 x2) : (failDigest x1 x2).wld.pages = x1.wld.pages := by unfold failDigest; simp

@[simp ↓] theorem failDigest_wld_mpu (x1 x2) : (failDigest x1 x2).wld.mpu = x1.wld.mpu := by unfold failDigest; simp

@[simp ↓] theorem suspendDigests_wld_pages (x1) : (suspendDigests x1).wld.pages = x1.wld.pages := by unfold suspendDigests; simp

@[simp ↓] theorem suspendDigests_wld_mpu (x1) : (suspendDigests x1).wld.mpu = x1.wld.mpu := by unfold suspendDigests; simp

@[simp ↓] theorem failEngine_wld_pages (x1 x2 x3) : (failEngine x1 x2 x3).wld.pages = x1.wld.pages := by unfold failEngine; (repeat' split) <;> simp

@[simp ↓] theorem failEngine_wld_mpu (x1 x2 x3) : (failEngine x1 x2 x3).wld.mpu = x1.wld.mpu := by unfold failEngine; (repeat' split) <;> simp

@[simp ↓] theorem moveDraws_wld_pages (x1 x2) : (moveDraws x1 x2).wld.pages = x1.wld.pages := by unfold moveDraws; simp

@[simp ↓] theorem moveDraws_wld_mpu (x1 x2) : (moveDraws x1 x2).wld.mpu = x1.wld.mpu := by unfold moveDraws; simp

@[simp ↓] theorem failUnit_wld_pages (x1 x2) : (failUnit x1 x2).wld.pages = x1.wld.pages := by unfold failUnit; simp

@[simp ↓] theorem failUnit_wld_mpu (x1 x2) : (failUnit x1 x2).wld.mpu = x1.wld.mpu := by unfold failUnit; simp

@[simp ↓] theorem startKat_wld_pages (x1 x2 x3 x4) : (startKat x1 x2 x3 x4).wld.pages = x1.wld.pages := by unfold startKat; simp

@[simp ↓] theorem startKat_wld_mpu (x1 x2 x3 x4) : (startKat x1 x2 x3 x4).wld.mpu = x1.wld.mpu := by unfold startKat; simp

@[simp ↓] theorem startKat_lcy_state (x1 x2 x3 x4) : (startKat x1 x2 x3 x4).lcy.state = x1.lcy.state := by unfold startKat; simp

@[simp ↓] theorem settleKat_wld_pages (x1) : (settleKat x1).wld.pages = x1.wld.pages := by unfold settleKat; (repeat' split) <;> simp

@[simp ↓] theorem settleKat_wld_mpu (x1) : (settleKat x1).wld.mpu = x1.wld.mpu := by unfold settleKat; (repeat' split) <;> simp

@[simp ↓] theorem startTests_wld_pages (x1 x2 x3) : (startTests x1 x2 x3).wld.pages = x1.wld.pages := by unfold startTests; simp

@[simp ↓] theorem startTests_wld_mpu (x1 x2 x3) : (startTests x1 x2 x3).wld.mpu = x1.wld.mpu := by unfold startTests; simp

@[simp ↓] theorem askRandom_wld_pages (x1 x2 x3 x4 x5) : (askRandom x1 x2 x3 x4 x5).wld.pages = x1.wld.pages := by unfold askRandom; simp

@[simp ↓] theorem askRandom_wld_mpu (x1 x2 x3 x4 x5) : (askRandom x1 x2 x3 x4 x5).wld.mpu = x1.wld.mpu := by unfold askRandom; simp

@[simp ↓] theorem endRingEarly_wld_pages (x1 x2 x3 x4 x5) : (endRingEarly x1 x2 x3 x4 x5).wld.pages = x1.wld.pages := by unfold endRingEarly; (repeat' split) <;> simp

@[simp ↓] theorem endRingEarly_wld_mpu (x1 x2 x3 x4 x5) : (endRingEarly x1 x2 x3 x4 x5).wld.mpu = x1.wld.mpu := by unfold endRingEarly; (repeat' split) <;> simp

@[simp ↓] theorem endRingEarly_lcy_state (x1 x2 x3 x4 x5) : (endRingEarly x1 x2 x3 x4 x5).lcy.state = x1.lcy.state := by unfold endRingEarly; (repeat' split) <;> simp

@[simp ↓] theorem disableQueues_wld_pages (x1 x2) : (disableQueues x1 x2).wld.pages = x1.wld.pages := by unfold disableQueues; simp

@[simp ↓] theorem disableQueues_wld_mpu (x1 x2) : (disableQueues x1 x2).wld.mpu = x1.wld.mpu := by unfold disableQueues; simp

@[simp ↓] theorem enterRoot_wld_pages (x1 x2 x3) : (enterRoot x1 x2 x3).wld.pages = x1.wld.pages := by unfold enterRoot; simp

@[simp ↓] theorem enterRoot_wld_mpu (x1 x2 x3) : (enterRoot x1 x2 x3).wld.mpu = x1.wld.mpu := by unfold enterRoot; simp

@[simp ↓] theorem enterRoot_lcy_state (x1 x2 x3) : (enterRoot x1 x2 x3).lcy.state = x1.lcy.state := by unfold enterRoot; simp

@[simp ↓] theorem failPageIn_wld_pages (x1 x2) : (failPageIn x1 x2).wld.pages = x1.wld.pages := by unfold failPageIn; simp

@[simp ↓] theorem failPageIn_wld_mpu (x1 x2) : (failPageIn x1 x2).wld.mpu = x1.wld.mpu := by unfold failPageIn; simp

@[simp ↓] theorem failPageIn_lcy_state (x1 x2) : (failPageIn x1 x2).lcy.state = x1.lcy.state := by unfold failPageIn; simp

@[simp ↓] theorem resolveWaiting_wld_pages (x1 x2) : (resolveWaiting x1 x2).wld.pages = x1.wld.pages := by unfold resolveWaiting; simp

@[simp ↓] theorem resolveWaiting_wld_mpu (x1 x2) : (resolveWaiting x1 x2).wld.mpu = x1.wld.mpu := by unfold resolveWaiting; simp

@[simp ↓] theorem resolveWaiting_lcy_state (x1 x2) : (resolveWaiting x1 x2).lcy.state = x1.lcy.state := by unfold resolveWaiting; simp

@[simp ↓] theorem pageRecord_wld_pages (x1 x2) : (pageRecord x1 x2).wld.pages = x1.wld.pages := by unfold pageRecord; (try dsimp only); (repeat' split) <;> (try have := makeRoom_wld_of ‹_›) <;> (try have := makeRoom_lcy_of ‹_›) <;> simp [*]

@[simp ↓] theorem pageRecord_wld_mpu (x1 x2) : (pageRecord x1 x2).wld.mpu = x1.wld.mpu := by unfold pageRecord; (try dsimp only); (repeat' split) <;> (try have := makeRoom_wld_of ‹_›) <;> (try have := makeRoom_lcy_of ‹_›) <;> simp [*]

@[simp ↓] theorem pageRecord_lcy_state (x1 x2) : (pageRecord x1 x2).lcy.state = x1.lcy.state := by unfold pageRecord; (try dsimp only); (repeat' split) <;> (try have := makeRoom_wld_of ‹_›) <;> (try have := makeRoom_lcy_of ‹_›) <;> simp [*]

@[simp ↓] theorem failPageIns_wld_pages (x1) : (failPageIns x1).wld.pages = x1.wld.pages := by unfold failPageIns; simp

@[simp ↓] theorem failPageIns_wld_mpu (x1) : (failPageIns x1).wld.mpu = x1.wld.mpu := by unfold failPageIns; simp

@[simp ↓] theorem failPageIns_lcy_state (x1) : (failPageIns x1).lcy.state = x1.lcy.state := by unfold failPageIns; simp

@[simp ↓] theorem finishDestroy_wld_pages (x1 x2) : (finishDestroy x1 x2).wld.pages = x1.wld.pages := by unfold finishDestroy; simp

@[simp ↓] theorem finishDestroy_wld_mpu (x1 x2) : (finishDestroy x1 x2).wld.mpu = x1.wld.mpu := by unfold finishDestroy; simp

@[simp ↓] theorem afterOp_wld_pages (x1 x2) : (afterOp x1 x2).wld.pages = x1.wld.pages := by unfold afterOp; (try dsimp only); (repeat' split) <;> (try have := makeRoom_wld_of ‹_›) <;> (try have := makeRoom_lcy_of ‹_›) <;> simp [*]

@[simp ↓] theorem afterOp_wld_mpu (x1 x2) : (afterOp x1 x2).wld.mpu = x1.wld.mpu := by unfold afterOp; (try dsimp only); (repeat' split) <;> (try have := makeRoom_wld_of ‹_›) <;> (try have := makeRoom_lcy_of ‹_›) <;> simp [*]

@[simp ↓] theorem answerChange_wld_pages (x1 x2) : (answerChange x1 x2).wld.pages = x1.wld.pages := by unfold answerChange; dsimp only; (repeat' split) <;> simp [*] <;> (apply st_foldl_wld_pages; intros; (repeat' split) <;> simp [*])

@[simp ↓] theorem answerChange_wld_mpu (x1 x2) : (answerChange x1 x2).wld.mpu = x1.wld.mpu := by unfold answerChange; dsimp only; (repeat' split) <;> simp [*] <;> (apply st_foldl_wld_mpu; intros; (repeat' split) <;> simp [*])

@[simp ↓] theorem answerRemount_wld_pages (x1) : (answerRemount x1).wld.pages = x1.wld.pages := by unfold answerRemount; (repeat' split) <;> simp

@[simp ↓] theorem answerRemount_wld_mpu (x1) : (answerRemount x1).wld.mpu = x1.wld.mpu := by unfold answerRemount; (repeat' split) <;> simp

@[simp ↓] theorem declineLent_wld_pages (x1 x2) : (declineLent x1 x2).wld.pages = x1.wld.pages := by unfold declineLent; simp

@[simp ↓] theorem declineLent_wld_mpu (x1 x2) : (declineLent x1 x2).wld.mpu = x1.wld.mpu := by unfold declineLent; simp

@[simp ↓] theorem declineLent_lcy_state (x1 x2) : (declineLent x1 x2).lcy.state = x1.lcy.state := by unfold declineLent; simp

@[simp ↓] theorem linkDown_wld_pages (x1 x2 x3) : (linkDown x1 x2 x3).wld.pages = x1.wld.pages := by unfold linkDown; simp

@[simp ↓] theorem linkDown_wld_mpu (x1 x2 x3) : (linkDown x1 x2 x3).wld.mpu = x1.wld.mpu := by unfold linkDown; simp

@[simp ↓] theorem linkDown_lcy_state (x1 x2 x3) : (linkDown x1 x2 x3).lcy.state = x1.lcy.state := by unfold linkDown; simp

@[simp ↓] theorem refreshLink_wld_pages (x1 x2) : (refreshLink x1 x2).wld.pages = x1.wld.pages := by unfold refreshLink; (repeat' split) <;> simp

@[simp ↓] theorem refreshLink_wld_mpu (x1 x2) : (refreshLink x1 x2).wld.mpu = x1.wld.mpu := by unfold refreshLink; (repeat' split) <;> simp

@[simp ↓] theorem refreshLink_lcy_state (x1 x2) : (refreshLink x1 x2).lcy.state = x1.lcy.state := by unfold refreshLink; (repeat' split) <;> simp

@[simp ↓] theorem refreshLinks_wld_pages (x1) : (refreshLinks x1).wld.pages = x1.wld.pages := by unfold refreshLinks; simp

@[simp ↓] theorem refreshLinks_wld_mpu (x1) : (refreshLinks x1).wld.mpu = x1.wld.mpu := by unfold refreshLinks; simp

@[simp ↓] theorem refreshLinks_lcy_state (x1) : (refreshLinks x1).lcy.state = x1.lcy.state := by unfold refreshLinks; simp

@[simp ↓] theorem answeredPart_wld_pages (x1 x2 x3 x4) : (answeredPart x1 x2 x3 x4).wld.pages = x1.wld.pages := by unfold answeredPart; (repeat' split) <;> simp

@[simp ↓] theorem answeredPart_wld_mpu (x1 x2 x3 x4) : (answeredPart x1 x2 x3 x4).wld.mpu = x1.wld.mpu := by unfold answeredPart; (repeat' split) <;> simp

@[simp ↓] theorem answeredPart_lcy_state (x1 x2 x3 x4) : (answeredPart x1 x2 x3 x4).lcy.state = x1.lcy.state := by unfold answeredPart; (repeat' split) <;> simp

@[simp ↓] theorem lentAnswerArrives_wld_pages (x1 x2 x3 x4) : (lentAnswerArrives x1 x2 x3 x4).wld.pages = x1.wld.pages := by unfold lentAnswerArrives; (repeat' split) <;> simp

@[simp ↓] theorem lentAnswerArrives_wld_mpu (x1 x2 x3 x4) : (lentAnswerArrives x1 x2 x3 x4).wld.mpu = x1.wld.mpu := by unfold lentAnswerArrives; (repeat' split) <;> simp

@[simp ↓] theorem lentAnswerArrives_lcy_state (x1 x2 x3 x4) : (lentAnswerArrives x1 x2 x3 x4).lcy.state = x1.lcy.state := by unfold lentAnswerArrives; (repeat' split) <;> simp

@[simp ↓] theorem messageEffect_wld_pages (x1 x2 x3) : (messageEffect x1 x2 x3).wld.pages = x1.wld.pages := by unfold messageEffect; (repeat' split) <;> simp

@[simp ↓] theorem messageEffect_wld_mpu (x1 x2 x3) : (messageEffect x1 x2 x3).wld.mpu = x1.wld.mpu := by unfold messageEffect; (repeat' split) <;> simp

@[simp ↓] theorem messageEffect_lcy_state (x1 x2 x3) : (messageEffect x1 x2 x3).lcy.state = x1.lcy.state := by unfold messageEffect; (repeat' split) <;> simp

@[simp ↓] theorem writeChamberCfg_wld_pages (x1 x2) : (writeChamberCfg x1 x2).wld.pages = x1.wld.pages := by unfold writeChamberCfg; simp

@[simp ↓] theorem writeChamberCfg_wld_mpu (x1 x2) : (writeChamberCfg x1 x2).wld.mpu = x1.wld.mpu := by unfold writeChamberCfg; simp

@[simp ↓] theorem writeChamberCfg_lcy_state (x1 x2) : (writeChamberCfg x1 x2).lcy.state = x1.lcy.state := by unfold writeChamberCfg; simp

@[simp ↓] theorem startBound_wld_pages (x1 x2 x3) : (startBound x1 x2 x3).wld.pages = x1.wld.pages := by unfold startBound; (try dsimp only); (repeat' split)  <;> simp [*]

@[simp ↓] theorem startBound_wld_mpu (x1 x2 x3) : (startBound x1 x2 x3).wld.mpu = x1.wld.mpu := by unfold startBound; (try dsimp only); (repeat' split)  <;> simp [*]

@[simp ↓] theorem startBound_lcy_state (x1 x2 x3) : (startBound x1 x2 x3).lcy.state = x1.lcy.state := by unfold startBound; (try dsimp only); (repeat' split)  <;> simp [*]

@[simp ↓] theorem startStaged_wld_pages (x1 x2 x3 x4) : (startStaged x1 x2 x3 x4).wld.pages = x1.wld.pages := by unfold startStaged; simp

@[simp ↓] theorem startStaged_wld_mpu (x1 x2 x3 x4) : (startStaged x1 x2 x3 x4).wld.mpu = x1.wld.mpu := by unfold startStaged; simp

@[simp ↓] theorem rebindJobs_wld_pages (x1 x2 x3) : (rebindJobs x1 x2 x3).wld.pages = x1.wld.pages := by unfold rebindJobs; dsimp only; apply st_foldl_wld_pages; intros; (repeat' split)  <;> simp [*]

@[simp ↓] theorem rebindJobs_wld_mpu (x1 x2 x3) : (rebindJobs x1 x2 x3).wld.mpu = x1.wld.mpu := by unfold rebindJobs; dsimp only; apply st_foldl_wld_mpu; intros; (repeat' split)  <;> simp [*]

@[simp ↓] theorem rebindJobs_lcy_state (x1 x2 x3) : (rebindJobs x1 x2 x3).lcy.state = x1.lcy.state := by unfold rebindJobs; dsimp only; apply st_foldl_lcy_state; intros; (repeat' split)  <;> simp [*]

@[simp ↓] theorem failPke_wld_pages (x1 x2 x3 x4 x5 x6) : (failPke x1 x2 x3 x4 x5 x6).wld.pages = x1.wld.pages := by unfold failPke; simp

@[simp ↓] theorem failPke_wld_mpu (x1 x2 x3 x4 x5 x6) : (failPke x1 x2 x3 x4 x5 x6).wld.mpu = x1.wld.mpu := by unfold failPke; simp

@[simp ↓] theorem finishPke_wld_pages (x1 x2 x3 x4) : (finishPke x1 x2 x3 x4).wld.pages = x1.wld.pages := by unfold finishPke; simp

@[simp ↓] theorem finishPke_wld_mpu (x1 x2 x3 x4) : (finishPke x1 x2 x3 x4).wld.mpu = x1.wld.mpu := by unfold finishPke; simp

@[simp ↓] theorem finishCurve_wld_pages (x1 x2 x3) : (finishCurve x1 x2 x3).wld.pages = x1.wld.pages := by unfold finishCurve; (repeat' split) <;> simp

@[simp ↓] theorem finishCurve_wld_mpu (x1 x2 x3) : (finishCurve x1 x2 x3).wld.mpu = x1.wld.mpu := by unfold finishCurve; (repeat' split) <;> simp

@[simp ↓] theorem unloadCore_wld_pages (x1 x2) : (unloadCore x1 x2).wld.pages = x1.wld.pages := by unfold unloadCore; simp

@[simp ↓] theorem unloadCore_wld_mpu (x1 x2) : (unloadCore x1 x2).wld.mpu = x1.wld.mpu := by unfold unloadCore; simp

@[simp ↓] theorem unloadCore_lcy_state (x1 x2) : (unloadCore x1 x2).lcy.state = x1.lcy.state := by unfold unloadCore; simp

@[simp ↓] theorem coreFree_wld_pages (x1 x2 x3) : (coreFree x1 x2 x3).wld.pages = x1.wld.pages := by unfold coreFree; simp

@[simp ↓] theorem coreFree_wld_mpu (x1 x2 x3) : (coreFree x1 x2 x3).wld.mpu = x1.wld.mpu := by unfold coreFree; simp

@[simp ↓] theorem coreFree_lcy_state (x1 x2 x3) : (coreFree x1 x2 x3).lcy.state = x1.lcy.state := by unfold coreFree; simp

@[simp ↓] theorem deliver_wld_pages (x1 x2 x3) : (deliver x1 x2 x3).wld.pages = x1.wld.pages := by unfold deliver; (repeat' split) <;> simp

@[simp ↓] theorem deliver_wld_mpu (x1 x2 x3) : (deliver x1 x2 x3).wld.mpu = x1.wld.mpu := by unfold deliver; (repeat' split) <;> simp

@[simp ↓] theorem stoppedCounts_wld_pages (x1 x2) : (stoppedCounts x1 x2).1.wld.pages = x1.wld.pages := by unfold stoppedCounts; simp

theorem stoppedCounts_wld_pages_of {x1 x2 x t} (h : stoppedCounts x1 x2 = (t, x)) : t.wld.pages = x1.wld.pages := by
  have e := stoppedCounts_wld_pages x1 x2; rw [h] at e; exact e

@[simp ↓] theorem stoppedCounts_wld_mpu (x1 x2) : (stoppedCounts x1 x2).1.wld.mpu = x1.wld.mpu := by unfold stoppedCounts; simp

theorem stoppedCounts_wld_mpu_of {x1 x2 x t} (h : stoppedCounts x1 x2 = (t, x)) : t.wld.mpu = x1.wld.mpu := by
  have e := stoppedCounts_wld_mpu x1 x2; rw [h] at e; exact e

@[simp ↓] theorem stoppedCounts_lcy_state (x1 x2) : (stoppedCounts x1 x2).1.lcy.state = x1.lcy.state := by unfold stoppedCounts; simp

theorem stoppedCounts_lcy_state_of {x1 x2 x t} (h : stoppedCounts x1 x2 = (t, x)) : t.lcy.state = x1.lcy.state := by
  have e := stoppedCounts_lcy_state x1 x2; rw [h] at e; exact e

theorem abortPke_wld_pages_of {x1 x2 x3}{t} (h : (abortPke x1 x2 x3) = some t) : t.wld.pages = x1.wld.pages := by unfold abortPke at h; (repeat' split at h) <;> (first | contradiction | (cases h; simp) | (simp only [Option.map_eq_some_iff, Option.bind_eq_some_iff] at h; obtain ⟨_, _, rfl⟩ := h; simp))

theorem abortPke_wld_mpu_of {x1 x2 x3}{t} (h : (abortPke x1 x2 x3) = some t) : t.wld.mpu = x1.wld.mpu := by unfold abortPke at h; (repeat' split at h) <;> (first | contradiction | (cases h; simp) | (simp only [Option.map_eq_some_iff, Option.bind_eq_some_iff] at h; obtain ⟨_, _, rfl⟩ := h; simp))

@[simp ↓] theorem settlePool_wld_pages (x1) : (settlePool x1).wld.pages = x1.wld.pages := by unfold settlePool; (try dsimp only); (repeat' split)  <;> simp [*]

@[simp ↓] theorem settlePool_wld_mpu (x1) : (settlePool x1).wld.mpu = x1.wld.mpu := by unfold settlePool; (try dsimp only); (repeat' split)  <;> simp [*]

@[simp ↓] theorem requestPool_wld_pages (x1 x2 x3) : (requestPool x1 x2 x3).wld.pages = x1.wld.pages := by unfold requestPool; (repeat' split) <;> simp

@[simp ↓] theorem requestPool_wld_mpu (x1 x2 x3) : (requestPool x1 x2 x3).wld.mpu = x1.wld.mpu := by unfold requestPool; (repeat' split) <;> simp

@[simp ↓] theorem takeCoreOffline_wld_pages (x1 x2) : (takeCoreOffline x1 x2).wld.pages = x1.wld.pages := by unfold takeCoreOffline; simp

@[simp ↓] theorem takeCoreOffline_wld_mpu (x1 x2) : (takeCoreOffline x1 x2).wld.mpu = x1.wld.mpu := by unfold takeCoreOffline; simp

@[simp ↓] theorem takeCoreOffline_lcy_state (x1 x2) : (takeCoreOffline x1 x2).lcy.state = x1.lcy.state := by unfold takeCoreOffline; simp

@[simp ↓] theorem present_wld_pages (x1 x2 x3 x4 x5 x6) (hx6 : ∀ y1 y2, (x6 y1 y2).wld.pages = y1.wld.pages) : (present x1 x2 x3 x4 x5 x6).wld.pages = x1.wld.pages := by unfold present; (repeat' split) <;> simp [*]

@[simp ↓] theorem present_wld_mpu (x1 x2 x3 x4 x5 x6) (hx6 : ∀ y1 y2, (x6 y1 y2).wld.mpu = y1.wld.mpu) : (present x1 x2 x3 x4 x5 x6).wld.mpu = x1.wld.mpu := by unfold present; (repeat' split) <;> simp [*]

@[simp ↓] theorem present_lcy_state (x1 x2 x3 x4 x5 x6) (hx6 : ∀ y1 y2, (x6 y1 y2).lcy.state = y1.lcy.state) : (present x1 x2 x3 x4 x5 x6).lcy.state = x1.lcy.state := by unfold present; (repeat' split) <;> simp [*]

theorem abortSegment_wld_pages_of {x1 x2 x3}{t} (h : (abortSegment x1 x2 x3) = some t) : t.wld.pages = x1.wld.pages := by unfold abortSegment at h; (repeat' split at h) <;> (first | contradiction | (cases h; simp) | (simp only [Option.map_eq_some_iff, Option.bind_eq_some_iff] at h; obtain ⟨_, _, rfl⟩ := h; simp))

theorem abortSegment_wld_mpu_of {x1 x2 x3}{t} (h : (abortSegment x1 x2 x3) = some t) : t.wld.mpu = x1.wld.mpu := by unfold abortSegment at h; (repeat' split at h) <;> (first | contradiction | (cases h; simp) | (simp only [Option.map_eq_some_iff, Option.bind_eq_some_iff] at h; obtain ⟨_, _, rfl⟩ := h; simp))

theorem abortDraw_wld_pages_of {x1 x2}{t} (h : (abortDraw x1 x2) = some t) : t.wld.pages = x1.wld.pages := by unfold abortDraw at h; (try dsimp only at h); (repeat' split at h)  <;> (first | contradiction | (cases h; simp [*]) | (simp only [Option.map_eq_some_iff, Option.bind_eq_some_iff] at h; obtain ⟨_, _, rfl⟩ := h; simp [*]))

theorem abortDraw_wld_mpu_of {x1 x2}{t} (h : (abortDraw x1 x2) = some t) : t.wld.mpu = x1.wld.mpu := by unfold abortDraw at h; (try dsimp only at h); (repeat' split at h)  <;> (first | contradiction | (cases h; simp [*]) | (simp only [Option.map_eq_some_iff, Option.bind_eq_some_iff] at h; obtain ⟨_, _, rfl⟩ := h; simp [*]))

@[simp ↓] theorem bar4Write_wld_pages (x1 x2 x3 x4) : (bar4Write x1 x2 x3 x4).wld.pages = x1.wld.pages := by unfold bar4Write; simp

@[simp ↓] theorem bar4Write_wld_mpu (x1 x2 x3 x4) : (bar4Write x1 x2 x3 x4).wld.mpu = x1.wld.mpu := by unfold bar4Write; simp

@[simp ↓] theorem bar4Write_lcy_state (x1 x2 x3 x4) : (bar4Write x1 x2 x3 x4).lcy.state = x1.lcy.state := by unfold bar4Write; simp

@[simp ↓] theorem admin_wld_pages (x1 x2 x3 x4 x5) (hx5 : ∀ y1 y2 y3, (x5 y1 y2 y3).wld.pages = y1.wld.pages) : (admin x1 x2 x3 x4 x5).wld.pages = x1.wld.pages := by unfold admin; (repeat' split) <;> simp [*]

@[simp ↓] theorem admin_wld_mpu (x1 x2 x3 x4 x5) (hx5 : ∀ y1 y2 y3, (x5 y1 y2 y3).wld.mpu = y1.wld.mpu) : (admin x1 x2 x3 x4 x5).wld.mpu = x1.wld.mpu := by unfold admin; (repeat' split) <;> simp [*]

@[simp ↓] theorem admin_lcy_state (x1 x2 x3 x4 x5) (hx5 : ∀ y1 y2 y3, (x5 y1 y2 y3).lcy.state = y1.lcy.state) : (admin x1 x2 x3 x4 x5).lcy.state = x1.lcy.state := by unfold admin; (repeat' split) <;> simp [*]

@[simp ↓] theorem wrongPort_wld_pages (x1 x2 x3 x4 x5) : (wrongPort x1 x2 x3 x4 x5).wld.pages = x1.wld.pages := by unfold wrongPort; simp

@[simp ↓] theorem wrongPort_wld_mpu (x1 x2 x3 x4 x5) : (wrongPort x1 x2 x3 x4 x5).wld.mpu = x1.wld.mpu := by unfold wrongPort; simp

@[simp ↓] theorem takePacket_wld_pages (x1 x2 x3 x4) : (takePacket x1 x2 x3 x4).wld.pages = x1.wld.pages := by unfold takePacket; simp

@[simp ↓] theorem takePacket_wld_mpu (x1 x2 x3 x4) : (takePacket x1 x2 x3 x4).wld.mpu = x1.wld.mpu := by unfold takePacket; simp

@[simp ↓] theorem openNew_wld_pages (x1 x2 x3 x4 x5 x6 x7) : (openNew x1 x2 x3 x4 x5 x6 x7).wld.pages = x1.wld.pages := by unfold openNew; simp

@[simp ↓] theorem openNew_wld_mpu (x1 x2 x3 x4 x5 x6 x7) : (openNew x1 x2 x3 x4 x5 x6 x7).wld.mpu = x1.wld.mpu := by unfold openNew; simp

@[simp ↓] theorem updPair_wld_pages (x1 x2 x3) : (updPair x1 x2 x3).wld.pages = x1.wld.pages := by unfold updPair; simp

@[simp ↓] theorem updPair_wld_mpu (x1 x2 x3) : (updPair x1 x2 x3).wld.mpu = x1.wld.mpu := by unfold updPair; simp

@[simp ↓] theorem setPage_wld_mpu (x1 x2 x3) : (setPage x1 x2 x3).wld.mpu = x1.wld.mpu := by unfold setPage; simp

@[simp ↓] theorem writePage_wld_mpu (x1 x2 x3 x4) : (writePage x1 x2 x3 x4).wld.mpu = x1.wld.mpu := by unfold writePage; simp

@[simp ↓] theorem loadImage_wld_mpu (x1 x2 x3) : (loadImage x1 x2 x3).wld.mpu = x1.wld.mpu := by unfold loadImage; simp

@[simp ↓] theorem startSecure_wld_mpu (x1 x2 x3) : (startSecure x1 x2 x3).wld.mpu = x1.wld.mpu := by unfold startSecure; simp

@[simp ↓] theorem bootSecure_wld_mpu (x1) : (bootSecure x1).wld.mpu = x1.wld.mpu := by unfold bootSecure; simp

@[simp ↓] theorem haltSecure_wld_pages (x1) : (haltSecure x1).wld.pages = x1.wld.pages := by unfold haltSecure; simp

@[simp ↓] theorem haltSecure_wld_mpu (x1) : (haltSecure x1).wld.mpu = x1.wld.mpu := by unfold haltSecure; simp

@[simp ↓] theorem downRings_wld_pages (x1) : (downRings x1).wld.pages = x1.wld.pages := by unfold downRings; simp

@[simp ↓] theorem downRings_wld_mpu (x1) : (downRings x1).wld.mpu = x1.wld.mpu := by unfold downRings; simp

@[simp ↓] theorem downRings_lcy_state (x1) : (downRings x1).lcy.state = x1.lcy.state := by unfold downRings; simp

@[simp ↓] theorem stopSecure_lcy_state (x1) : (stopSecure x1).lcy.state = x1.lcy.state := by unfold stopSecure; simp

@[simp ↓] theorem restartSecure_wld_mpu (x1 x2) : (restartSecure x1 x2).wld.mpu = x1.wld.mpu := by unfold restartSecure; simp

@[simp ↓] theorem secureDown_lcy_state (x1 x2) : (secureDown x1 x2).lcy.state = x1.lcy.state := by unfold secureDown; simp

@[simp ↓] theorem secureReady_wld_pages (x1) : (secureReady x1).wld.pages = x1.wld.pages := by unfold secureReady; simp

@[simp ↓] theorem secureReady_wld_mpu (x1) : (secureReady x1).wld.mpu = x1.wld.mpu := by unfold secureReady; simp

@[simp ↓] theorem startNormal_wld_mpu (x1 x2) : (startNormal x1 x2).wld.mpu = x1.wld.mpu := by unfold startNormal; simp

@[simp ↓] theorem bootNormal_wld_mpu (x1) : (bootNormal x1).wld.mpu = x1.wld.mpu := by unfold bootNormal; simp

@[simp ↓] theorem stopNormal_wld_pages (x1) : (stopNormal x1).wld.pages = x1.wld.pages := by unfold stopNormal; simp

@[simp ↓] theorem stopNormal_wld_mpu (x1) : (stopNormal x1).wld.mpu = x1.wld.mpu := by unfold stopNormal; simp

@[simp ↓] theorem restartNormal_wld_mpu (x1) : (restartNormal x1).wld.mpu = x1.wld.mpu := by unfold restartNormal; simp

@[simp ↓] theorem confirm_wld_pages (x1 x2) : (confirm x1 x2).wld.pages = x1.wld.pages := by unfold confirm; simp

@[simp ↓] theorem confirm_wld_mpu (x1 x2) : (confirm x1 x2).wld.mpu = x1.wld.mpu := by unfold confirm; simp

@[simp ↓] theorem confirmSecure_wld_pages (x1) : (confirmSecure x1).wld.pages = x1.wld.pages := by unfold confirmSecure; simp

@[simp ↓] theorem confirmSecure_wld_mpu (x1) : (confirmSecure x1).wld.mpu = x1.wld.mpu := by unfold confirmSecure; simp

@[simp ↓] theorem deliverCall_wld_pages (x1 x2 x3) : (deliverCall x1 x2 x3).wld.pages = x1.wld.pages := by unfold deliverCall; simp

@[simp ↓] theorem deliverCall_wld_mpu (x1 x2 x3) : (deliverCall x1 x2 x3).wld.mpu = x1.wld.mpu := by unfold deliverCall; simp

@[simp ↓] theorem dropCall_wld_pages (x1 x2) : (dropCall x1 x2).wld.pages = x1.wld.pages := by unfold dropCall; simp

@[simp ↓] theorem dropCall_wld_mpu (x1 x2) : (dropCall x1 x2).wld.mpu = x1.wld.mpu := by unfold dropCall; simp

@[simp ↓] theorem answerInternal_wld_pages (x1 x2) : (answerInternal x1 x2).wld.pages = x1.wld.pages := by unfold answerInternal; simp

@[simp ↓] theorem answerInternal_wld_mpu (x1 x2) : (answerInternal x1 x2).wld.mpu = x1.wld.mpu := by unfold answerInternal; simp

@[simp ↓] theorem stopFirmware_wld_pages (x1) : (stopFirmware x1).wld.pages = x1.wld.pages := by unfold stopFirmware; simp

@[simp ↓] theorem stopFirmware_wld_mpu (x1) : (stopFirmware x1).wld.mpu = x1.wld.mpu := by unfold stopFirmware; simp

@[simp ↓] theorem stopFirmware_lcy_state (x1) : (stopFirmware x1).lcy.state = x1.lcy.state := by unfold stopFirmware; simp

@[simp ↓] theorem takePower_wld_pages (x1 x2 x3) : (takePower x1 x2 x3).wld.pages = x1.wld.pages := by unfold takePower; simp

@[simp ↓] theorem takePower_wld_mpu (x1 x2 x3) : (takePower x1 x2 x3).wld.mpu = x1.wld.mpu := by unfold takePower; simp

@[simp ↓] theorem powerRequest_wld_pages (x1 x2 x3 x4) : (powerRequest x1 x2 x3 x4).wld.pages = x1.wld.pages := by unfold powerRequest; simp

@[simp ↓] theorem powerRequest_wld_mpu (x1 x2 x3 x4) : (powerRequest x1 x2 x3 x4).wld.mpu = x1.wld.mpu := by unfold powerRequest; simp

@[simp ↓] theorem writeOwner_wld_pages (x1 x2 x3) : (writeOwner x1 x2 x3).wld.pages = x1.wld.pages := by unfold writeOwner; simp

@[simp ↓] theorem writeOwner_wld_mpu (x1 x2 x3) : (writeOwner x1 x2 x3).wld.mpu = x1.wld.mpu := by unfold writeOwner; simp

@[simp ↓] theorem resumeWorld_wld_pages (x1 x2) : (resumeWorld x1 x2).wld.pages = x1.wld.pages := by unfold resumeWorld; (repeat' split) <;> simp

@[simp ↓] theorem resumeWorld_wld_mpu (x1 x2) : (resumeWorld x1 x2).wld.mpu = x1.wld.mpu := by unfold resumeWorld; (repeat' split) <;> simp

@[simp ↓] theorem resumeWorld_lcy_state (x1 x2) : (resumeWorld x1 x2).lcy.state = x1.lcy.state := by unfold resumeWorld; (repeat' split) <;> simp

@[simp ↓] theorem endCertificate_wld_pages (x1 x2) : (endCertificate x1 x2).wld.pages = x1.wld.pages := by unfold endCertificate; (repeat' split) <;> simp

@[simp ↓] theorem endCertificate_wld_mpu (x1 x2) : (endCertificate x1 x2).wld.mpu = x1.wld.mpu := by unfold endCertificate; (repeat' split) <;> simp

@[simp ↓] theorem endCertificate_lcy_state (x1 x2) : (endCertificate x1 x2).lcy.state = x1.lcy.state := by unfold endCertificate; (repeat' split) <;> simp

@[simp ↓] theorem refuseSuspended_wld_pages (x1) : (refuseSuspended x1).wld.pages = x1.wld.pages := by unfold refuseSuspended; simp

@[simp ↓] theorem refuseSuspended_wld_mpu (x1) : (refuseSuspended x1).wld.mpu = x1.wld.mpu := by unfold refuseSuspended; simp

@[simp ↓] theorem refuseSuspended_lcy_state (x1) : (refuseSuspended x1).lcy.state = x1.lcy.state := by unfold refuseSuspended; simp

@[simp ↓] theorem takeSuspend_wld_pages (x1) : (takeSuspend x1).wld.pages = x1.wld.pages := by unfold takeSuspend; simp

@[simp ↓] theorem takeSuspend_wld_mpu (x1) : (takeSuspend x1).wld.mpu = x1.wld.mpu := by unfold takeSuspend; simp

@[simp ↓] theorem takeSuspend_lcy_state (x1) : (takeSuspend x1).lcy.state = x1.lcy.state := by unfold takeSuspend; simp

@[simp ↓] theorem countDecision_wld_pages (x1) : (countDecision x1).wld.pages = x1.wld.pages := by unfold countDecision; simp

@[simp ↓] theorem countDecision_wld_mpu (x1) : (countDecision x1).wld.mpu = x1.wld.mpu := by unfold countDecision; simp

@[simp ↓] theorem countDecision_lcy_state (x1) : (countDecision x1).lcy.state = x1.lcy.state := by unfold countDecision; simp

@[simp ↓] theorem raiseAll_lcy_state (x1 x2 x3) : (raiseAll x1 x2 x3).lcy.state = x1.lcy.state := by unfold raiseAll; (try dsimp only); (repeat' split)  <;> simp [*]

@[simp ↓] theorem logPins_wld_pages (x1 x2) : (logPins x1 x2).wld.pages = x1.wld.pages := by unfold logPins; simp

@[simp ↓] theorem logPins_wld_mpu (x1 x2) : (logPins x1 x2).wld.mpu = x1.wld.mpu := by unfold logPins; simp

@[simp ↓] theorem logPins_lcy_state (x1 x2) : (logPins x1 x2).lcy.state = x1.lcy.state := by unfold logPins; simp

@[simp ↓] theorem delayXclk_wld_pages (x1 x2) : (delayXclk x1 x2).wld.pages = x1.wld.pages := by unfold delayXclk; simp

@[simp ↓] theorem delayXclk_wld_mpu (x1 x2) : (delayXclk x1 x2).wld.mpu = x1.wld.mpu := by unfold delayXclk; simp

@[simp ↓] theorem delayXclk_lcy_state (x1 x2) : (delayXclk x1 x2).lcy.state = x1.lcy.state := by unfold delayXclk; simp

@[simp ↓] theorem delayNclk_wld_pages (x1 x2) : (delayNclk x1 x2).wld.pages = x1.wld.pages := by unfold delayNclk; simp

@[simp ↓] theorem delayNclk_wld_mpu (x1 x2) : (delayNclk x1 x2).wld.mpu = x1.wld.mpu := by unfold delayNclk; simp

@[simp ↓] theorem delayNclk_lcy_state (x1 x2) : (delayNclk x1 x2).lcy.state = x1.lcy.state := by unfold delayNclk; simp

@[simp ↓] theorem resumeClock_wld_pages (x1 x2) : (resumeClock x1 x2).wld.pages = x1.wld.pages := by unfold resumeClock; simp

@[simp ↓] theorem resumeClock_wld_mpu (x1 x2) : (resumeClock x1 x2).wld.mpu = x1.wld.mpu := by unfold resumeClock; simp

@[simp ↓] theorem resumeClock_lcy_state (x1 x2) : (resumeClock x1 x2).lcy.state = x1.lcy.state := by unfold resumeClock; simp

@[simp ↓] theorem wiped_lcy_state (x1) : (wiped x1).lcy.state = x1.lcy.state := by unfold wiped; simp

@[simp ↓] theorem startReset_lcy_state (x1 x2) : (startReset x1 x2).lcy.state = x1.lcy.state := by unfold startReset; simp

@[simp ↓] theorem losePower_lcy_state (x1) : (losePower x1).lcy.state = x1.lcy.state := by unfold losePower; simp

@[simp ↓] theorem holdWires_wld_pages (x1 x2) : (holdWires x1 x2).wld.pages = x1.wld.pages := by unfold holdWires; simp

@[simp ↓] theorem holdWires_wld_mpu (x1 x2) : (holdWires x1 x2).wld.mpu = x1.wld.mpu := by unfold holdWires; simp

@[simp ↓] theorem holdWires_lcy_state (x1 x2) : (holdWires x1 x2).lcy.state = x1.lcy.state := by unfold holdWires; simp

@[simp ↓] theorem twinDecides_wld_pages (x1 x2 x3) (hx3 : ∀ y1, (x3 y1).wld.pages = y1.wld.pages) : (twinDecides x1 x2 x3).wld.pages = x1.wld.pages := by unfold twinDecides; (repeat' split) <;> simp [*]

@[simp ↓] theorem twinDecides_wld_mpu (x1 x2 x3) (hx3 : ∀ y1, (x3 y1).wld.mpu = y1.wld.mpu) : (twinDecides x1 x2 x3).wld.mpu = x1.wld.mpu := by unfold twinDecides; (repeat' split) <;> simp [*]

@[simp ↓] theorem twinDecides_lcy_state (x1 x2 x3) (hx3 : ∀ y1, (x3 y1).lcy.state = y1.lcy.state) : (twinDecides x1 x2 x3).lcy.state = x1.lcy.state := by unfold twinDecides; (repeat' split) <;> simp [*]

@[simp ↓] theorem applyRights_wld_pages (x1) : (applyRights x1).wld.pages = x1.wld.pages := by unfold applyRights; simp

@[simp ↓] theorem applyRights_wld_mpu (x1) : (applyRights x1).wld.mpu = x1.wld.mpu := by unfold applyRights; simp

@[simp ↓] theorem applyRights_lcy_state (x1) : (applyRights x1).lcy.state = x1.lcy.state := by unfold applyRights; simp

@[simp ↓] theorem selectIr_lcy_state (x1 x2) : (selectIr x1 x2).lcy.state = x1.lcy.state := by unfold selectIr; simp

@[simp ↓] theorem actBypass_lcy_state (x1 x2) : (actBypass x1 x2).lcy.state = x1.lcy.state := by unfold actBypass; simp

@[simp ↓] theorem shiftBoundary_lcy_state (x1 x2 x3) : (shiftBoundary x1 x2 x3).lcy.state = x1.lcy.state := by unfold shiftBoundary; simp

@[simp ↓] theorem shiftFree_wld_pages (x1 x2) : (shiftFree x1 x2).wld.pages = x1.wld.pages := by unfold shiftFree; simp

@[simp ↓] theorem shiftFree_wld_mpu (x1 x2) : (shiftFree x1 x2).wld.mpu = x1.wld.mpu := by unfold shiftFree; simp

@[simp ↓] theorem shiftFree_lcy_state (x1 x2) : (shiftFree x1 x2).lcy.state = x1.lcy.state := by unfold shiftFree; simp

@[simp ↓] theorem softReset_lcy_state (x1 x2) : (softReset x1 x2).lcy.state = x1.lcy.state := by unfold softReset; simp

@[simp ↓] theorem passChange_wld_pages (x1 x2) : (passChange x1 x2).wld.pages = x1.wld.pages := by unfold passChange; (repeat' split) <;> simp

@[simp ↓] theorem passChange_wld_mpu (x1 x2) : (passChange x1 x2).wld.mpu = x1.wld.mpu := by unfold passChange; (repeat' split) <;> simp

@[simp ↓] theorem takeOut_wld_pages (x1 x2 x3) : (takeOut x1 x2 x3).wld.pages = x1.wld.pages := by unfold takeOut; simp

@[simp ↓] theorem takeOut_wld_mpu (x1 x2 x3) : (takeOut x1 x2 x3).wld.mpu = x1.wld.mpu := by unfold takeOut; simp

@[simp ↓] theorem receive_wld_pages (x1 x2 x3 x4 x5) (hx5 : ∀ y1 y2, (x5 y1 y2).wld.pages = y1.wld.pages) : (receive x1 x2 x3 x4 x5).wld.pages = x1.wld.pages := by unfold receive; (try dsimp only); (repeat' split)  <;> simp [*]

@[simp ↓] theorem receive_wld_mpu (x1 x2 x3 x4 x5) (hx5 : ∀ y1 y2, (x5 y1 y2).wld.mpu = y1.wld.mpu) : (receive x1 x2 x3 x4 x5).wld.mpu = x1.wld.mpu := by unfold receive; (try dsimp only); (repeat' split)  <;> simp [*]

@[simp ↓] theorem receive_lcy_state (x1 x2 x3 x4 x5) (hx5 : ∀ y1 y2, (x5 y1 y2).lcy.state = y1.lcy.state) : (receive x1 x2 x3 x4 x5).lcy.state = x1.lcy.state := by unfold receive; (try dsimp only); (repeat' split)  <;> simp [*]

@[simp ↓] theorem giveUpJoin_lcy_state (x1 x2 x3) : (giveUpJoin x1 x2 x3).lcy.state = x1.lcy.state := by unfold giveUpJoin; simp

@[simp ↓] theorem onWire_wld_pages (x1 x2 x3) (hx3 : ∀ y1, (x3 y1).wld.pages = x1.wld.pages) : (onWire x1 x2 x3).wld.pages = x1.wld.pages := by unfold onWire; (repeat' split) <;> simp [*]

@[simp ↓] theorem onWire_wld_mpu (x1 x2 x3) (hx3 : ∀ y1, (x3 y1).wld.mpu = x1.wld.mpu) : (onWire x1 x2 x3).wld.mpu = x1.wld.mpu := by unfold onWire; (repeat' split) <;> simp [*]

@[simp ↓] theorem onWire_lcy_state (x1 x2 x3) (hx3 : ∀ y1, (x3 y1).lcy.state = x1.lcy.state) : (onWire x1 x2 x3).lcy.state = x1.lcy.state := by unfold onWire; (repeat' split) <;> simp [*]

@[simp ↓] theorem refuseRead_wld_pages (x1 x2 x3) : (refuseRead x1 x2 x3).1.wld.pages = x1.wld.pages := by unfold refuseRead; simp

theorem refuseRead_wld_pages_of {x1 x2 x3 x t} (h : refuseRead x1 x2 x3 = (t, x)) : t.wld.pages = x1.wld.pages := by
  have e := refuseRead_wld_pages x1 x2 x3; rw [h] at e; exact e

@[simp ↓] theorem refuseRead_wld_mpu (x1 x2 x3) : (refuseRead x1 x2 x3).1.wld.mpu = x1.wld.mpu := by unfold refuseRead; simp

theorem refuseRead_wld_mpu_of {x1 x2 x3 x t} (h : refuseRead x1 x2 x3 = (t, x)) : t.wld.mpu = x1.wld.mpu := by
  have e := refuseRead_wld_mpu x1 x2 x3; rw [h] at e; exact e

@[simp ↓] theorem readRegister_wld_pages (x1 x2 x3) : (readRegister x1 x2 x3).1.wld.pages = x1.wld.pages := by unfold readRegister; (try dsimp only); (repeat' split) <;> (try have := refuseRead_frame_of ‹_›) <;> (try have := refuseRead_wld_pages_of ‹_›) <;> (try have := takeRspWord_frame_of ‹_›) <;> (try have := readValue_frame_of ‹_›) <;> simp [*]

theorem readRegister_wld_pages_of {x1 x2 x3 x t} (h : readRegister x1 x2 x3 = (t, x)) : t.wld.pages = x1.wld.pages := by
  have e := readRegister_wld_pages x1 x2 x3; rw [h] at e; exact e

@[simp ↓] theorem readRegister_wld_mpu (x1 x2 x3) : (readRegister x1 x2 x3).1.wld.mpu = x1.wld.mpu := by unfold readRegister; (try dsimp only); (repeat' split) <;> (try have := refuseRead_frame_of ‹_›) <;> (try have := refuseRead_wld_mpu_of ‹_›) <;> (try have := takeRspWord_frame_of ‹_›) <;> (try have := readValue_frame_of ‹_›) <;> simp [*]

theorem readRegister_wld_mpu_of {x1 x2 x3 x t} (h : readRegister x1 x2 x3 = (t, x)) : t.wld.mpu = x1.wld.mpu := by
  have e := readRegister_wld_mpu x1 x2 x3; rw [h] at e; exact e

@[simp ↓] theorem onBit_wld_pages (x1 x2 x3 x4) (hx3 : ∀ y1, (x3 y1).wld.pages = y1.wld.pages) : (onBit x1 x2 x3 x4).wld.pages = x4.wld.pages := by unfold onBit; (repeat' split) <;> simp [*]

@[simp ↓] theorem onBit_wld_mpu (x1 x2 x3 x4) (hx3 : ∀ y1, (x3 y1).wld.mpu = y1.wld.mpu) : (onBit x1 x2 x3 x4).wld.mpu = x4.wld.mpu := by unfold onBit; (repeat' split) <;> simp [*]

@[simp ↓] theorem onBit_lcy_state (x1 x2 x3 x4) (hx3 : ∀ y1, (x3 y1).lcy.state = y1.lcy.state) : (onBit x1 x2 x3 x4).lcy.state = x4.lcy.state := by unfold onBit; (repeat' split) <;> simp [*]

theorem inRange_wld_pages_of {x1 x2 x3}{t} (hx3 : x3.wld.pages = x1.wld.pages) (h : (inRange x1 x2 x3) = some t) : t.wld.pages = x1.wld.pages := by unfold inRange at h; (repeat' split at h) <;> simp_all

theorem inRange_wld_mpu_of {x1 x2 x3}{t} (hx3 : x3.wld.mpu = x1.wld.mpu) (h : (inRange x1 x2 x3) = some t) : t.wld.mpu = x1.wld.mpu := by unfold inRange at h; (repeat' split at h) <;> simp_all

theorem inRange_lcy_state_of {x1 x2 x3}{t} (hx3 : x3.lcy.state = x1.lcy.state) (h : (inRange x1 x2 x3) = some t) : t.lcy.state = x1.lcy.state := by unfold inRange at h; (repeat' split at h) <;> simp_all

theorem idWrite_lcy_state_of {x1 x2 x3}{t} (h : (idWrite x1 x2 x3) = some t) : t.lcy.state = x1.lcy.state := by unfold idWrite at h; (repeat' split at h) <;> (first | contradiction | (cases h; simp) | (simp only [Option.map_eq_some_iff, Option.bind_eq_some_iff] at h; obtain ⟨_, _, rfl⟩ := h; simp))

theorem lcyWrite_wld_pages_of {x1 x2 x3}{t} (h : (lcyWrite x1 x2 x3) = some t) : t.wld.pages = x1.wld.pages := by unfold lcyWrite at h; (repeat' split at h) <;> (first | contradiction | (cases h; simp) | (simp only [Option.map_eq_some_iff, Option.bind_eq_some_iff] at h; obtain ⟨_, _, rfl⟩ := h; simp))

theorem lcyWrite_wld_mpu_of {x1 x2 x3}{t} (h : (lcyWrite x1 x2 x3) = some t) : t.wld.mpu = x1.wld.mpu := by unfold lcyWrite at h; (repeat' split at h) <;> (first | contradiction | (cases h; simp) | (simp only [Option.map_eq_some_iff, Option.bind_eq_some_iff] at h; obtain ⟨_, _, rfl⟩ := h; simp))

theorem lcyWrite_lcy_state_of {x1 x2 x3}{t} (h : (lcyWrite x1 x2 x3) = some t) : t.lcy.state = x1.lcy.state := by unfold lcyWrite at h; (repeat' split at h) <;> (first | contradiction | (cases h; simp) | (simp only [Option.map_eq_some_iff, Option.bind_eq_some_iff] at h; obtain ⟨_, _, rfl⟩ := h; simp))

theorem rngRegWrite_wld_pages_of {x1 x2 x3}{t} (h : (rngRegWrite x1 x2 x3) = some t) : t.wld.pages = x1.wld.pages := by unfold rngRegWrite at h; (try dsimp only at h); (repeat' split at h) <;> (try have := inRange_wld_of ‹_›) <;> (try have := inRange_lcy_of ‹_›) <;> (try have := inRange_wld_pages_of ‹_›) <;> (try have := drawFree_frame_of ‹_›) <;> (first | contradiction | (cases h; simp [*]) | (simp only [Option.map_eq_some_iff, Option.bind_eq_some_iff] at h; obtain ⟨_, _, rfl⟩ := h; simp [*]))

theorem rngRegWrite_wld_mpu_of {x1 x2 x3}{t} (h : (rngRegWrite x1 x2 x3) = some t) : t.wld.mpu = x1.wld.mpu := by unfold rngRegWrite at h; (try dsimp only at h); (repeat' split at h) <;> (try have := inRange_wld_of ‹_›) <;> (try have := inRange_lcy_of ‹_›) <;> (try have := inRange_wld_mpu_of ‹_›) <;> (try have := drawFree_frame_of ‹_›) <;> (first | contradiction | (cases h; simp [*]) | (simp only [Option.map_eq_some_iff, Option.bind_eq_some_iff] at h; obtain ⟨_, _, rfl⟩ := h; simp [*]))

theorem svcWrite_wld_pages_of {x1 x2 x3}{t} (h : (svcWrite x1 x2 x3) = some t) : t.wld.pages = x1.wld.pages := by unfold svcWrite at h; (repeat' split at h) <;> (first | contradiction | (cases h; simp) | (simp only [Option.map_eq_some_iff, Option.bind_eq_some_iff] at h; obtain ⟨_, _, rfl⟩ := h; simp))

theorem svcWrite_wld_mpu_of {x1 x2 x3}{t} (h : (svcWrite x1 x2 x3) = some t) : t.wld.mpu = x1.wld.mpu := by unfold svcWrite at h; (repeat' split at h) <;> (first | contradiction | (cases h; simp) | (simp only [Option.map_eq_some_iff, Option.bind_eq_some_iff] at h; obtain ⟨_, _, rfl⟩ := h; simp))

theorem pkeWrite_wld_pages_of {x1 x2 x3}{t} (h : (pkeWrite x1 x2 x3) = some t) : t.wld.pages = x1.wld.pages := by unfold pkeWrite at h; (repeat' split at h) <;> (first | contradiction | (cases h; simp) | (simp only [Option.map_eq_some_iff, Option.bind_eq_some_iff] at h; obtain ⟨_, _, rfl⟩ := h; simp))

theorem pkeWrite_wld_mpu_of {x1 x2 x3}{t} (h : (pkeWrite x1 x2 x3) = some t) : t.wld.mpu = x1.wld.mpu := by unfold pkeWrite at h; (repeat' split at h) <;> (first | contradiction | (cases h; simp) | (simp only [Option.map_eq_some_iff, Option.bind_eq_some_iff] at h; obtain ⟨_, _, rfl⟩ := h; simp))

theorem pkeWrite_lcy_state_of {x1 x2 x3}{t} (h : (pkeWrite x1 x2 x3) = some t) : t.lcy.state = x1.lcy.state := by unfold pkeWrite at h; (repeat' split at h) <;> (first | contradiction | (cases h; simp) | (simp only [Option.map_eq_some_iff, Option.bind_eq_some_iff] at h; obtain ⟨_, _, rfl⟩ := h; simp))

theorem wireWrite_wld_pages_of {x1 x2 x3 x4 x5}{t} (h : (wireWrite x1 x2 x3 x4 x5) = some t) : t.wld.pages = x1.wld.pages := by
  revert h; unfold wireWrite
  exact some_ite (P := fun t => t.wld.pages = x1.wld.pages) (some_some (by simp)) (some_ite (some_map fun a => by split <;> simp) some_none) t

theorem wireWrite_wld_mpu_of {x1 x2 x3 x4 x5}{t} (h : (wireWrite x1 x2 x3 x4 x5) = some t) : t.wld.mpu = x1.wld.mpu := by
  revert h; unfold wireWrite
  exact some_ite (P := fun t => t.wld.mpu = x1.wld.mpu) (some_some (by simp)) (some_ite (some_map fun a => by split <;> simp) some_none) t

theorem wireWrite_lcy_state_of {x1 x2 x3 x4 x5}{t} (h : (wireWrite x1 x2 x3 x4 x5) = some t) : t.lcy.state = x1.lcy.state := by
  revert h; unfold wireWrite
  exact some_ite (P := fun t => t.lcy.state = x1.lcy.state) (some_some (by simp)) (some_ite (some_map fun a => by split <;> simp) some_none) t

theorem psgWrite_wld_pages_of {x1 x2 x3 x4}{t} (h : (psgWrite x1 x2 x3 x4) = some t) : t.wld.pages = x1.wld.pages := by
  revert h; unfold psgWrite
  exact some_ite (P := fun t => t.wld.pages = x1.wld.pages) (fun t h => inRange_wld_pages_of (by simp) h) (some_ite (some_some (by simp)) (some_ite (some_some (by simp)) (some_ite (fun t h => wireWrite_wld_pages_of h) some_none))) t

theorem psgWrite_wld_mpu_of {x1 x2 x3 x4}{t} (h : (psgWrite x1 x2 x3 x4) = some t) : t.wld.mpu = x1.wld.mpu := by
  revert h; unfold psgWrite
  exact some_ite (P := fun t => t.wld.mpu = x1.wld.mpu) (fun t h => inRange_wld_mpu_of (by simp) h) (some_ite (some_some (by simp)) (some_ite (some_some (by simp)) (some_ite (fun t h => wireWrite_wld_mpu_of h) some_none))) t

theorem psgWrite_lcy_state_of {x1 x2 x3 x4}{t} (h : (psgWrite x1 x2 x3 x4) = some t) : t.lcy.state = x1.lcy.state := by
  revert h; unfold psgWrite
  exact some_ite (P := fun t => t.lcy.state = x1.lcy.state) (fun t h => inRange_lcy_state_of (by simp) h) (some_ite (some_some (by simp)) (some_ite (some_some (by simp)) (some_ite (fun t h => wireWrite_lcy_state_of h) some_none))) t

theorem portWrite_wld_pages_of {x1 x2 x3 x4}{t} (h : (portWrite x1 x2 x3 x4) = some t) : t.wld.pages = x1.wld.pages := by
  revert h; unfold portWrite; dsimp only
  exact some_ite (P := fun t => t.wld.pages = x1.wld.pages) (some_some (by simp)) (some_ite (some_some (by simp)) (some_ite (some_some (by simp)) some_none)) t

theorem portWrite_wld_mpu_of {x1 x2 x3 x4}{t} (h : (portWrite x1 x2 x3 x4) = some t) : t.wld.mpu = x1.wld.mpu := by
  revert h; unfold portWrite; dsimp only
  exact some_ite (P := fun t => t.wld.mpu = x1.wld.mpu) (some_some (by simp)) (some_ite (some_some (by simp)) (some_ite (some_some (by simp)) some_none)) t

theorem portWrite_lcy_state_of {x1 x2 x3 x4}{t} (h : (portWrite x1 x2 x3 x4) = some t) : t.lcy.state = x1.lcy.state := by
  revert h; unfold portWrite; dsimp only
  exact some_ite (P := fun t => t.lcy.state = x1.lcy.state) (some_some (by simp)) (some_ite (some_some (by simp)) (some_ite (some_some (by simp)) some_none)) t

theorem chamWrite_wld_pages_of {x1 x2 x3}{t} (h : (chamWrite x1 x2 x3) = some t) : t.wld.pages = x1.wld.pages := by unfold chamWrite at h; (repeat' split at h) <;> (first | contradiction | (cases h; simp) | (simp only [Option.map_eq_some_iff, Option.bind_eq_some_iff] at h; obtain ⟨_, _, rfl⟩ := h; simp))

theorem chamWrite_wld_mpu_of {x1 x2 x3}{t} (h : (chamWrite x1 x2 x3) = some t) : t.wld.mpu = x1.wld.mpu := by unfold chamWrite at h; (repeat' split at h) <;> (first | contradiction | (cases h; simp) | (simp only [Option.map_eq_some_iff, Option.bind_eq_some_iff] at h; obtain ⟨_, _, rfl⟩ := h; simp))

theorem chamWrite_lcy_state_of {x1 x2 x3}{t} (h : (chamWrite x1 x2 x3) = some t) : t.lcy.state = x1.lcy.state := by unfold chamWrite at h; (repeat' split at h) <;> (first | contradiction | (cases h; simp) | (simp only [Option.map_eq_some_iff, Option.bind_eq_some_iff] at h; obtain ⟨_, _, rfl⟩ := h; simp))

@[simp ↓] theorem mpuWrite_wld_pages (x1 x2 x3) : (mpuWrite x1 x2 x3).wld.pages = x1.wld.pages := by unfold mpuWrite; simp

theorem wldWrite_lcy_state_of {x1 x2 x3 x4}{t} (h : (wldWrite x1 x2 x3 x4) = some t) : t.lcy.state = x1.lcy.state := by unfold wldWrite at h; (repeat' split at h) <;> (first | contradiction | (cases h; simp) | (simp only [Option.map_eq_some_iff, Option.bind_eq_some_iff] at h; obtain ⟨_, _, rfl⟩ := h; simp))

theorem sharedWrite_wld_pages_of {x1 x2 x3 x4}{t} (h : (sharedWrite x1 x2 x3 x4) = some t) : t.wld.pages = x1.wld.pages := by unfold sharedWrite at h; (repeat' split at h) <;> (first | contradiction | (cases h; simp) | (simp only [Option.map_eq_some_iff, Option.bind_eq_some_iff] at h; obtain ⟨_, _, rfl⟩ := h; simp))

theorem sharedWrite_wld_mpu_of {x1 x2 x3 x4}{t} (h : (sharedWrite x1 x2 x3 x4) = some t) : t.wld.mpu = x1.wld.mpu := by unfold sharedWrite at h; (repeat' split at h) <;> (first | contradiction | (cases h; simp) | (simp only [Option.map_eq_some_iff, Option.bind_eq_some_iff] at h; obtain ⟨_, _, rfl⟩ := h; simp))

@[simp ↓] theorem writeFunction_wld_pages (x1 x2 x3 x4) : (writeFunction x1 x2 x3 x4).wld.pages = x1.wld.pages := by unfold writeFunction; (try dsimp only); (repeat' split) <;> (try have := bar2Write_frame_of ‹_›) <;> simp [*]

@[simp ↓] theorem writeFunction_wld_mpu (x1 x2 x3 x4) : (writeFunction x1 x2 x3 x4).wld.mpu = x1.wld.mpu := by unfold writeFunction; (try dsimp only); (repeat' split) <;> (try have := bar2Write_frame_of ‹_›) <;> simp [*]

@[simp ↓] theorem readFunction_wld_pages (x1 x2 x3) : (readFunction x1 x2 x3).1.wld.pages = x1.wld.pages := by unfold readFunction; (repeat' split) <;> simp

theorem readFunction_wld_pages_of {x1 x2 x3 x t} (h : readFunction x1 x2 x3 = (t, x)) : t.wld.pages = x1.wld.pages := by
  have e := readFunction_wld_pages x1 x2 x3; rw [h] at e; exact e

@[simp ↓] theorem readFunction_wld_mpu (x1 x2 x3) : (readFunction x1 x2 x3).1.wld.mpu = x1.wld.mpu := by unfold readFunction; (repeat' split) <;> simp

theorem readFunction_wld_mpu_of {x1 x2 x3 x t} (h : readFunction x1 x2 x3 = (t, x)) : t.wld.mpu = x1.wld.mpu := by
  have e := readFunction_wld_mpu x1 x2 x3; rw [h] at e; exact e

@[simp ↓] theorem countDap_wld_pages (x1) : (countDap x1).wld.pages = x1.wld.pages := by unfold countDap; simp

@[simp ↓] theorem countDap_wld_mpu (x1) : (countDap x1).wld.mpu = x1.wld.mpu := by unfold countDap; simp

@[simp ↓] theorem countDap_lcy_state (x1) : (countDap x1).lcy.state = x1.lcy.state := by unfold countDap; simp

@[simp ↓] theorem dapRead_wld_pages (x1 x2 x3) : (dapRead x1 x2 x3).1.wld.pages = x1.wld.pages := by unfold dapRead; (repeat' split) <;> simp

theorem dapRead_wld_pages_of {x1 x2 x3 x t} (h : dapRead x1 x2 x3 = (t, x)) : t.wld.pages = x1.wld.pages := by
  have e := dapRead_wld_pages x1 x2 x3; rw [h] at e; exact e

@[simp ↓] theorem dapRead_wld_mpu (x1 x2 x3) : (dapRead x1 x2 x3).1.wld.mpu = x1.wld.mpu := by unfold dapRead; (repeat' split) <;> simp

theorem dapRead_wld_mpu_of {x1 x2 x3 x t} (h : dapRead x1 x2 x3 = (t, x)) : t.wld.mpu = x1.wld.mpu := by
  have e := dapRead_wld_mpu x1 x2 x3; rw [h] at e; exact e

@[simp ↓] theorem dapRead_lcy_state (x1 x2 x3) : (dapRead x1 x2 x3).1.lcy.state = x1.lcy.state := by unfold dapRead; (repeat' split) <;> simp

theorem dapRead_lcy_state_of {x1 x2 x3 x t} (h : dapRead x1 x2 x3 = (t, x)) : t.lcy.state = x1.lcy.state := by
  have e := dapRead_lcy_state x1 x2 x3; rw [h] at e; exact e

@[simp ↓] theorem dapWrite_wld_pages (x1 x2 x3) : (dapWrite x1 x2 x3).wld.pages = x1.wld.pages := by unfold dapWrite; (repeat' split) <;> simp

@[simp ↓] theorem dapWrite_wld_mpu (x1 x2 x3) : (dapWrite x1 x2 x3).wld.mpu = x1.wld.mpu := by unfold dapWrite; (repeat' split) <;> simp

@[simp ↓] theorem dapWrite_lcy_state (x1 x2 x3) : (dapWrite x1 x2 x3).lcy.state = x1.lcy.state := by unfold dapWrite; (repeat' split) <;> simp

@[simp ↓] theorem haltWorld_lcy_state (x1 x2) : (haltWorld x1 x2).lcy.state = x1.lcy.state := by unfold haltWorld; simp

end Sys2Proof.Machine
end

