-- ==== Sys2Proof/Laws/Memory.lean ====
section
/-!
SUPPORT. Laws of memory: every operation on control memory keeps the canonical form, a byte reads back as it was written,
and a write leaves every other byte alone.
-/

set_option Elab.async false

namespace Sys2Proof.Machine

/-! ## The canonical form, said of one cell and its tail -/

/-- Every offset of a memory lies above `a`. -/
def Memory.above (a : Nat) (m : List Host.Cell) : Prop := ∀ c ∈ m, a < c.1

theorem Memory.wf_cons {a : Nat} {b : Byte} {m : List Host.Cell} :
    Memory.wf ((a, b) :: m) = true ↔ b ≠ 0 ∧ Memory.above a m ∧ Memory.wf m = true := by
  induction m generalizing a b with
  | nil => simp [Memory.wf, Memory.above]
  | cons c t ih =>
    obtain ⟨k, v⟩ := c
    have hk := ih (a := k) (b := v)
    simp only [Memory.wf, Bool.and_eq_true, decide_eq_true_eq, Memory.above, List.mem_cons, forall_eq_or_imp]
    constructor
    · rintro ⟨⟨hb, hlt⟩, hw⟩
      refine ⟨hb, ⟨hlt, fun c hc => ?_⟩, hw⟩
      exact Nat.lt_trans hlt ((hk.mp hw).2.1 c hc)
    · rintro ⟨hb, ⟨hlt, _⟩, hw⟩
      exact ⟨⟨hb, hlt⟩, hw⟩

theorem Memory.wf_nil : Memory.wf [] = true := rfl

theorem Memory.above_cons {k j : Nat} {v : Byte} {m : List Host.Cell} (hj : k < j) (h : Memory.above k m) :
    Memory.above k ((j, v) :: m) := by
  intro c hc
  rcases List.mem_cons.mp hc with rfl | hc
  · exact hj
  · exact h c hc

theorem memWrite_above {k a : Nat} {b : Byte} {m : List Host.Cell} (hk : k < a) (h : Memory.above k m) :
    Memory.above k (memWrite m a b) := by
  induction m with
  | nil =>
    unfold memWrite
    split <;> simp [Memory.above, hk]
  | cons c t ih =>
    obtain ⟨j, v⟩ := c
    have hj : k < j := h (j, v) List.mem_cons_self
    have ht : Memory.above k t := fun c hc => h c (List.mem_cons_of_mem _ hc)
    unfold memWrite
    (repeat' split) <;> first
      | exact h
      | exact ht
      | exact Memory.above_cons hk h
      | exact Memory.above_cons hk ht
      | exact Memory.above_cons hj (ih ht)

/-- Writing a byte keeps the canonical form. -/
theorem memWrite_wf {m : List Host.Cell} {a : Nat} {b : Byte} (h : Memory.wf m = true) :
    Memory.wf (memWrite m a b) = true := by
  induction m with
  | nil =>
    unfold memWrite
    split <;> simp_all [Memory.wf]
  | cons c t ih =>
    obtain ⟨k, v⟩ := c
    obtain ⟨hv, hab, hw⟩ := Memory.wf_cons.mp h
    unfold memWrite
    by_cases h1 : a < k
    · by_cases hb : b = 0
      · simp [h1, hb, h]
      · simp only [h1, hb, if_true, if_false]
        refine Memory.wf_cons.mpr ⟨hb, ?_, h⟩
        intro c hc
        rcases List.mem_cons.mp hc with rfl | hc
        · exact h1
        · exact Nat.lt_trans h1 (hab c hc)
    · by_cases h2 : k = a
      · by_cases hb : b = 0
        · rw [if_neg h1, if_pos h2, if_pos hb]; exact hw
        · rw [if_neg h1, if_pos h2, if_neg hb]
          exact Memory.wf_cons.mpr ⟨hb, h2 ▸ hab, hw⟩
      · simp only [h1, h2, if_false]
        exact Memory.wf_cons.mpr ⟨hv, memWrite_above (by omega) hab, ih hw⟩

/-- Writing a byte string keeps the canonical form. -/
theorem memStore_wf {m : List Host.Cell} {a : Nat} {bs : Bytes} (h : Memory.wf m = true) :
    Memory.wf (memStore m a bs) = true := by
  induction bs generalizing m a with
  | nil => exact h
  | cons b t ih => exact ih (memWrite_wf h)

/-- Dropping cells keeps the canonical form. -/
theorem filter_wf {m : List Host.Cell} {p : Host.Cell → Bool} (h : Memory.wf m = true) :
    Memory.wf (m.filter p) = true := by
  induction m with
  | nil => exact h
  | cons c t ih =>
    obtain ⟨k, v⟩ := c
    obtain ⟨hv, hab, hw⟩ := Memory.wf_cons.mp h
    rw [List.filter_cons]
    split
    · exact Memory.wf_cons.mpr ⟨hv, fun c hc => hab c ((List.mem_filter.mp hc).1), ih hw⟩
    · exact ih hw

/-! ## Reading after writing -/

@[simp] theorem memRead_nil (a : Nat) : memRead [] a = 0 := rfl

theorem memRead_cons (k : Nat) (v : Byte) (t : List Host.Cell) (a : Nat) :
    memRead ((k, v) :: t) a = if k = a then v else memRead t a := by
  unfold memRead
  rw [List.find?_cons]
  by_cases h : k = a
  · simp [h]
  · rw [if_neg h, beq_eq_false_iff_ne.mpr h]

theorem memRead_below {m : List Host.Cell} {a : Nat} (h : Memory.above a m) : memRead m a = 0 := by
  induction m with
  | nil => rfl
  | cons c t ih =>
    obtain ⟨k, v⟩ := c
    simp only [Memory.above, List.mem_cons, forall_eq_or_imp] at h
    rw [memRead_cons, if_neg (by omega)]
    exact ih h.2

/-- A byte reads back as it was written. -/
theorem memRead_memWrite_same {m : List Host.Cell} {a : Nat} {b : Byte} (h : Memory.wf m = true) :
    memRead (memWrite m a b) a = b := by
  induction m with
  | nil =>
    unfold memWrite
    split
    · simp_all
    · simp [memRead_cons]
  | cons c t ih =>
    obtain ⟨k, v⟩ := c
    obtain ⟨_, hab, hw⟩ := Memory.wf_cons.mp h
    unfold memWrite
    by_cases h1 : a < k
    · by_cases hb : b = 0
      · simp only [h1, hb, if_true]
        refine (memRead_below ?_).trans rfl
        intro c hc
        rcases List.mem_cons.mp hc with rfl | hc
        · exact h1
        · exact Nat.lt_trans h1 (hab c hc)
      · rw [if_pos h1, if_neg hb, memRead_cons, if_pos rfl]
    · by_cases h2 : k = a
      · by_cases hb : b = 0
        · rw [if_neg h1, if_pos h2, if_pos hb, memRead_below (h2 ▸ hab), hb]
        · rw [if_neg h1, if_pos h2, if_neg hb, memRead_cons, if_pos rfl]
      · rw [if_neg h1, if_neg h2, memRead_cons, if_neg h2, ih hw]

/-- A write leaves every other byte alone. -/
theorem memRead_memWrite_other {m : List Host.Cell} {a c : Nat} {b : Byte} (hc : c ≠ a) :
    memRead (memWrite m a b) c = memRead m c := by
  induction m with
  | nil =>
    unfold memWrite
    split
    · rfl
    · simp [memRead_cons, Ne.symm hc]
  | cons d t ih =>
    obtain ⟨k, v⟩ := d
    unfold memWrite
    by_cases h1 : a < k
    · by_cases hb : b = 0
      · rw [if_pos h1, if_pos hb]
      · rw [if_pos h1, if_neg hb, memRead_cons, if_neg (Ne.symm hc)]
    · by_cases h2 : k = a
      · by_cases hb : b = 0
        · rw [if_neg h1, if_pos h2, if_pos hb, memRead_cons, if_neg (h2 ▸ Ne.symm hc)]
        · rw [if_neg h1, if_pos h2, if_neg hb, memRead_cons, memRead_cons, if_neg (Ne.symm hc), if_neg (h2 ▸ Ne.symm hc)]
      · rw [if_neg h1, if_neg h2, memRead_cons, memRead_cons, ih]

/-- A stored byte string leaves every byte outside it alone. -/
theorem memRead_memStore_outside {m : List Host.Cell} {a c : Nat} {bs : Bytes} (h : c < a ∨ a + bs.length ≤ c) :
    memRead (memStore m a bs) c = memRead m c := by
  induction bs generalizing m a with
  | nil => rfl
  | cons b t ih =>
    simp only [List.length_cons] at h
    unfold memStore
    rw [ih (by omega), memRead_memWrite_other (by omega)]

/-- What is stored reads back. -/
theorem memLoad_memStore {m : List Host.Cell} {a : Nat} {bs : Bytes} (h : Memory.wf m = true) :
    memLoad (memStore m a bs) a bs.length = bs := by
  induction bs generalizing m a with
  | nil => rfl
  | cons b t ih =>
    show memRead (memStore (memWrite m a b) (a + 1) t) a :: memLoad (memStore (memWrite m a b) (a + 1) t) (a + 1) t.length = b :: t
    rw [memRead_memStore_outside (by omega), memRead_memWrite_same h, ih (memWrite_wf h)]

end Sys2Proof.Machine
end

