-- ==== Sys2Proof/Laws/Table.lean ====
section
/-!
SUPPORT. Laws of the sparse tables: what is put at an index reads back, and every other index reads as before.
-/

set_option Elab.async false

namespace Sys2Proof

variable {α : Type}

@[simp] theorem Tbl.look_put_same (t : Tbl α) (k : Nat) (a : α) : (t.put k a).look k = some a := by
  induction t with
  | nil => simp [Tbl.put, Tbl.look]
  | cons e t ih =>
    obtain ⟨j, b⟩ := e
    unfold Tbl.put
    split
    · simp [Tbl.look]
    · split
      · simp [Tbl.look]
      · rename_i h; simp [Tbl.look, h, ih]

@[simp] theorem Tbl.look_put_other (t : Tbl α) {k n : Nat} (a : α) (h : n ≠ k) : (t.put k a).look n = t.look n := by
  induction t with
  | nil => simp [Tbl.put, Tbl.look, Ne.symm h]
  | cons e t ih =>
    obtain ⟨j, b⟩ := e
    unfold Tbl.put
    split
    · rw [Tbl.look, if_neg (Ne.symm h)]
    · split
      · rename_i hj; subst hj; simp [Tbl.look, Ne.symm h]
      · simp [Tbl.look, ih]

theorem Tbl.look_put (t : Tbl α) (k n : Nat) (a : α) : (t.put k a).look n = if n = k then some a else t.look n := by
  by_cases h : n = k
  · subst h; simp
  · simp [h]

@[simp] theorem Tbl.look_del_same (t : Tbl α) (k : Nat) : (t.del k).look k = none := by
  induction t with
  | nil => rfl
  | cons e t ih =>
    obtain ⟨j, b⟩ := e
    unfold Tbl.del
    split
    · exact ih
    · rename_i h; rw [Tbl.look, if_neg h, ih]

@[simp] theorem Tbl.look_del_other (t : Tbl α) {k n : Nat} (h : n ≠ k) : (t.del k).look n = t.look n := by
  induction t with
  | nil => rfl
  | cons e t ih =>
    obtain ⟨j, b⟩ := e
    unfold Tbl.del
    split
    · rename_i hj; rw [ih, Tbl.look, if_neg (by omega)]
    · rw [Tbl.look, Tbl.look, ih]

@[simp] theorem Tbl.get_put_same (t : Tbl α) (d : α) (k : Nat) (a : α) : (t.put k a).get d k = a := by simp [Tbl.get]

@[simp] theorem Tbl.get_put_other (t : Tbl α) (d : α) {k n : Nat} (a : α) (h : n ≠ k) :
    (t.put k a).get d n = t.get d n := by simp [Tbl.get, h]

theorem Tbl.get_put (t : Tbl α) (d : α) (k n : Nat) (a : α) : (t.put k a).get d n = if n = k then a else t.get d n := by
  by_cases h : n = k
  · subst h; simp
  · simp [h]

@[simp] theorem Tbl.get_del_same (t : Tbl α) (d : α) (k : Nat) : (t.del k).get d k = d := by simp [Tbl.get]

@[simp] theorem Tbl.get_del_other (t : Tbl α) (d : α) {k n : Nat} (h : n ≠ k) : (t.del k).get d n = t.get d n := by
  simp [Tbl.get, h]

@[simp] theorem Tbl.get_set_same [DecidableEq α] (t : Tbl α) (d : α) (k : Nat) (a : α) : (t.set d k a).get d k = a := by
  unfold Tbl.set
  split
  · rename_i h; rw [Tbl.get_del_same, h]
  · exact Tbl.get_put_same t d k a

@[simp] theorem Tbl.get_set_other [DecidableEq α] (t : Tbl α) (d : α) {k n : Nat} (a : α) (h : n ≠ k) :
    (t.set d k a).get d n = t.get d n := by
  unfold Tbl.set
  split
  · exact Tbl.get_del_other t d h
  · exact Tbl.get_put_other t d a h

@[simp] theorem Tbl.get_upd_same (t : Tbl α) (d : α) (k : Nat) (f : α → α) : (t.upd d k f).get d k = f (t.get d k) :=
  Tbl.get_put_same t d k _

@[simp] theorem Tbl.get_upd_other (t : Tbl α) (d : α) {k n : Nat} (f : α → α) (h : n ≠ k) :
    (t.upd d k f).get d n = t.get d n := Tbl.get_put_other t d _ h

@[simp] theorem Tbl.get_nil (d : α) (k : Nat) : Tbl.get ([] : Tbl α) d k = d := rfl

end Sys2Proof
end

