-- ==== Sys2Proof/WellFormed.lean ====
section
/-!
DEFINITION. Well-formed commands: the operands lie within the fields that carry them (R64, R137, R248, R251, R264, R271, R316, R344,
R352, R354, R358, R375, R464, R468, R473).  The machine itself is total: it judges ill-formed operands by the spec's own checks, or
they can come from no carrier.
-/

namespace Sys2Proof

/-- A number fits a field of `n` bits. -/
def fits (n x : Nat) : Bool := decide (x < 2 ^ n)

/-- Mailboxes MB0 to MB5 carry commands, and a session number has 16 bits (R344, R358); functions, queues and pairs are numbered as
R308, R312 and R371 have them. -/
def Caller.wf : Caller → Bool
  | .session mb n => decide (mb < 6) && fits 16 n
  | .function f q => decide (f < 1024) && decide (q < 4096)
  | .firmware p => decide (p < 4)
  | .secure p => decide (p < 4)
  | .tap => true

/-- The fields of an approval record's header (R271). -/
def Approval.wf (r : Approval) : Bool :=
  fits 32 r.magic && fits 16 r.format && fits 16 r.sigLen && fits 16 r.domain && fits 8 r.officer && fits 8 r.sigAlg && fits 16 r.code
    && fits 16 r.reserved && r.digest.length == 48 && r.nonce.length == 32 && fits 64 r.expiry && r.serial.length == 16
    && fits 64 r.reserved2

/-- An item's TYPE has 16 bits, and a value lies within an envelope (R352, R354). -/
def Item.wf (i : Item) : Bool := fits 16 i.type && decide (i.value.length ≤ 262112)

/-- A body lies within an envelope (R352). -/
def Body.wf : Body → Bool
  | .items l => l.all Item.wf
  | .raw b => decide (b.length ≤ 262112)

/-- A command: its sender, the envelope's DOMAIN, its body, and at most 32 approval records (R352). -/
def Cmd.wf (c : Cmd) : Bool :=
  c.caller.wf && fits 16 c.domain && c.body.wf && decide (c.records.length ≤ 32) && c.records.all Approval.wf

/-- A cell that is read: a channel of the eight and one of 2^32 cells (R286, R289). -/
def CellRead.wf : CellRead → Bool
  | .good => true
  | .repaired c _ l => decide (c < 8) && decide (l.length ≤ 28) && l.all (fits 32 ·)
  | .lost c _ => fits 32 c

/-- A flash target: 4 on each of 8 channels (R283). -/
def Target.wf (x : Target) : Bool := decide (x.channel < 8) && decide (x.number < 4) && fits 8 x.maker && fits 8 x.planes

/-- What a mount finds. -/
def MountFacts.wf (f : MountFacts) : Bool :=
  f.targets.all Target.wf && f.found.all (fun e => fits 64 e.1 && e.2.length == 48) && f.nodes.wf

/-- A chamber message (R124, R130 to R137). -/
def ChamberMsg.wf : ChamberMsg → Bool
  | .hello serial id nonce => serial.length == 16 && fits 4 id && nonce.length == 16
  | .proof _ => true
  | .heartbeat _ => true
  | .heartbeatRequest => true
  | .pairQuery w => decide (w < 72)
  | .pairAnswer w _ _ => decide (w < 72)
  | .job id keyRef alg _ _ _ _ => fits 32 id && fits 32 keyRef && fits 8 alg
  | .jobAnswer id _ => fits 32 id

/-- A register access: the register space of 64 MiB, a BAR2 of 128 KiB, or a BAR4 of 16 KiB on PF0 and 8 KiB on a VF (R20, R310). -/
def RegTarget.wf : RegTarget → Bool
  | .device _ a => fits 26 a
  | .function _ o => fits 17 o
  | .vectors f o => fits (if f = 0 then 14 else 13) o

/-- An access of the debug access port: an offset in the cores' address space, or a register's address. -/
def DapOp.wf : DapOp → Bool
  | .read a n => fits 64 a && fits 32 n
  | .write a _ => fits 64 a
  | .readRegister a => fits 26 a
  | .writeRegister a _ => fits 26 a
  | .halt _ => true
  | .resume _ => true
  | .step _ => true
  | .readContext _ n => decide (n < 2 ^ 32)
  | .readTrace => true

/-- A sample's readings are of the sources of R423. -/
def Sample.wf (x : Sample) : Bool := x.levels.all (fun r => decide (r.source < 24)) && x.trips.all fun e => decide (e.1 < 24)

/-- The fields of an Announce (R438). -/
def Announce.wf (m : Announce) : Bool :=
  fits 8 m.domain && fits 80 m.sourceId && fits 64 m.grandmaster && fits 8 m.priority1 && fits 8 m.clockClass
    && fits 8 m.clockAccuracy && fits 16 m.variance && fits 8 m.priority2 && fits 16 m.stepsRemoved

/-- The fields of a Sync (R439). -/
def Sync.wf (m : Sync) : Bool := fits 8 m.domain && fits 80 m.sourceId && fits 16 m.seq

/-- The fields of a Follow_Up (R439). -/
def FollowUp.wf (m : FollowUp) : Bool := fits 8 m.domain && fits 80 m.sourceId && fits 16 m.seq

/-- The fields of a Pdelay_Resp (R438). -/
def PdelayResp.wf (m : PdelayResp) : Bool := fits 8 m.domain && fits 16 m.seq

/-- The fields of an OFFER or ACCEPT (R468). -/
def KarHello.wf (h : KarHello) : Bool :=
  fits 16 h.member && h.serial.length == 16 && h.karstId.length == 16 && fits 64 h.rosterVersion && h.nonce.length == 32
    && h.xKey.length == 32

/-- The header of a change record (R473). -/
def Change.wf (c : Change) : Bool :=
  c.karstId.length == 16 && fits 16 c.domain && fits 16 c.proposer && fits 64 c.version && fits 64 c.term && c.prev.length == 48

/-- A signature entry names a member (R473). -/
def SigEntry.wf (e : SigEntry) : Bool := fits 16 e.member

/-- A roster entry (R464). -/
def RosterEntry.wf (e : RosterEntry) : Bool := fits 16 e.member && e.serial.length == 16 && e.keyDigest.length == 48 && fits 64 e.version

/-- A command whose operands lie within the fields that carry them. -/
def Instr.wf : Instr → Bool
  | .frameReceive _ _ _ _ _ | .walkStart _ _ | .walkEnd _ _ | .pageInRequest _ => true
  | .pageInComplete handle cell _ => fits 32 handle && cell.wf
  | .pageInTimeout handle _ => fits 32 handle
  | .laneJobStart _ _ | .laneTagResult _ _ | .laneKnownAnswer _ _ _ | .laneParityError _ _ | .digestBlockEnd _ _
  | .digestJobAssign _ _ | .digestJobComplete _ _ _ | .coreJobStart _ _ | .coreStatusDelivered _ _ _ | .coreWatchdog _ _
  | .coreZeroingEnd _ _ | .coreSelfTestEnd _ _ _ | .corePoolSwitch _ _ | .serviceJobStage _ | .twinDecision _ _
  | .comparatorBDecide _ _ _ | .holdTimerTick _ | .frameTransmit _ _ | .flowRetireCheck _ | .linkStateChange _ _ _
  | .portCfgWrite _ _ _ | .wireCommit _ _ | .wireDiscard _ _ => true
  | .psgTableLoad c _ | .psgTableUnload c | .psgWireStage c | .psgWireCommit c | .psgWireDiscard c | .psgFlowRead c
  | .psgFlowFlush c | .psgInject c | .psgCountersRead c | .psgKeyPrefetch c | .psgPuntForward c | .psgDnp3Challenge c => c.wf
  | .chamberMessageReceive _ msg seq mac _ => msg.wf && fits 32 seq && mac.length == 16
  | .heartbeatSend _ | .heartbeatMiss _ _ | .linkRetry _ | .chamberAlertEdge _ | .heartbeatRequestTimeout _ _
  | .chamberSyncChange _ _ | .pairCheck _ => true
  | .pairCheckAnswer _ msg seq mac _ => msg.wf && fits 32 seq && mac.length == 16
  | .pairCheckTimeout _ _ => true
  | .lentJobArrival _ msg seq mac _ | .lentResultArrival _ msg seq mac _ => msg.wf && fits 32 seq && mac.length == 16
  | .karChamberSet c | .karLendSet c | .karChamberRead c | .pkeJob c | .pkeJobAbort c | .pkeCurveLoad c | .pkeCurveUnload c
  | .pkeCurveRead c | .pkePolicySet c | .pkePolicyGet c | .pkePoolStage c | .pkePoolCommit c | .pkePoolDiscard c
  | .pkeCoreRetest c | .pkeStatusRead c => c.wf
  | .poolCommit _ | .poolDiscard _ | .coreRetest _ _ | .coreTakeOffline _ _ => true
  | .svcMac c => c.wf
  | .svcSegmentStart _ _ | .svcSegmentEnd _ _ | .svcIdleTimeout _ _ => true
  | .svcAbort c => c.wf
  | .forceRelease _ _ => true
  | .dgsJob c | .dgsResultRead c | .dgsAbort c | .dgsCfgSet c | .svcCfgSet c | .engStatusRead c => c.wf
  | .laneRetest _ _ | .laneTakeOffline _ _ | .dgsRetest _ _ | .dgsTakeOffline _ _ | .engineSelfTestEnd _ _ _
  | .maskReseedRequest _ _ | .maskReseedLoad _ _ | .maskGeneratorStarved _ _ | .noiseSample _ _ | .spanEnd _ _
  | .drbgGenerateCall _ _ | .drbgReseed _ _ | .rngStartup _ _ _ | .rngStartupTimeout _ => true
  | .katStart _ unit _ => fits 4 unit
  | .testSrcEnable _ _ => true
  | .rngGenerate c | .rngStatusRead c | .rngCfgSet c | .rngCellRetest c | .rngKatRun c | .rngTestSource c | .kstGenerate c
  | .kstDestroy c | .kstAttrSet c | .kstAttrGet c | .kstAttest c | .kstCertRead c | .kstTransportOpen c
  | .kstTransportAccept c | .kstImport c | .kstTransportClose c => c.wf
  | .transportExpiry id _ => fits 32 id
  | .kstExport c | .kstDerive c | .kstDomainCreate c | .kstDomainDestroy c | .kstDomainRead c | .kstDomainSet c
  | .kstMaskSet c | .kstOfficerEnrol c | .kstOfficerRemove c | .kstCredSet c | .kstFuncAssign c | .kstQuorumOpen c
  | .kstQuorumCancel c => c.wf
  | .nonceExpiry _ => true
  | .kstDomain0Setup c | .kstRootRenew c | .kstStatusRead c => c.wf
  | .keyStoreReady _ | .geoCommit _ | .geoCommitComplete _ => true
  | .geoMount facts _ => facts.wf
  | .scrubStripe outcome _ _ => outcome.wf
  | .flashBlockFailure _ _ | .flashChannelFailure _ _ => true
  | .geoStatusRead c | .geoFormat c | .geoRemount c | .geoScrubSet c | .geoFlashInfo c => c.wf
  | .sqDoorbell _ _ | .producerWordRead _ _ _ _ => true
  | .entryFetch _ _ entry _ => entry.all fun b => b.length == 64
  | .dmaReadTimeout _ _ _ | .jobAdmission _ | .completionWrite _ _ _ _ _ | .msixMessage _ _ _ | .cqHeadWrite _ _ _
  | .qpEnable _ _ _ | .publicKeyJob _ _ _ _ | .serviceMacSegment _ _ _ _ | .digestJob _ _ _ _ | .randomBytes _ _ _
  | .commandEntry _ _ _ _ _ | .abortEntry _ _ _ | .qpCreate _ _ | .qpDestroy _ _ | .qpModify _ _ | .qpQuery _ _ | .vfLimits _
  | .vfFreeze _ | .vfSave _ | .vfRestore _ _ | .vfResume _ | .vfReset _ | .functionLevelReset _ _ | .pciePerst _
  | .pcieLinkUp _ _ => true
  | .hqFuncRead c | .hqStatusRead c => c.wf
  | .requestPacketWrite _ _ _ _ _ | .responsePacketRead _ _ _ | .i3cRegisterWrite _ _ _ | .i3cRegisterRead _ _
  | .reqHdrWrite _ _ _ | .reqDataWrite _ _ _ | .rspDataRead _ _ | .rspRewind _ _ | .envelopeReassembly _ _ _
  | .reassemblyTimeout _ _ | .interimResponse _ _ | .finalResponseWrite _ _ | .noticeWrite _ _ => true
  | .sessionIdleTimeout _ session _ => fits 16 session
  | .offerExpiry offer _ => fits 32 offer
  | .mbxInfo c | .mbxSessionOffer c | .mbxSessionOpen c | .mbxSessionClose c | .mbxSessionList c | .mbxPortSet c
  | .mbxCfgSet c | .mbxStatusRead c => c.wf
  | .entdaa _ _ | .setdasa _ _ _ | .setnewda _ _ | .rstdaa _ | .enec _ | .disec _ | .getpid _ | .getbcr _ | .getdcr _
  | .getstatus _ | .getmwl _ | .getmrl _ | .setmwl _ _ | .setmrl _ _ | .getmxds _ | .getcaps _ | .enthdr0 _ | .rstact _ _ => true
  | .worldPoll _ token _ => fits 32 token
  | .fwConfirm _ _ => true
  | .worldCall _ _ address responseAddress responseMax _ _ => fits 64 address && fits 64 responseAddress && fits 64 responseMax
  | .worldReturn _ _ | .callLimitExpiry _ _ | .sharedQuantumEnd _ _ | .lockstepMismatch _ _ _ | .eccDoubleError _ _ _
  | .pageOwnerWrite _ _ _ | .swKick _ _ | .swReady _ _ | .swRestart _ _ | .nwKick _ _ | .secureWatchdogExpiry _
  | .secureException _ | .normalWatchdogExpiry _ | .normalException _ | .clockOff _ _ _ | .clockOn _ _ _ | .powerOff _ _ _
  | .powerOn _ _ _ | .powerRequestTaken _ _ | .pwrOwnerWrite _ _ _ _ | .fwConfirmWrite _ _ | .normalWorldStart _ => true
  | .wldStatusRead c | .wldFwStage c | .wldFwActivate c | .wldNwRestart c | .wldFwKeySet c | .wldViolRead c
  | .lcyStatusRead c | .lcyNonce c | .lcyTransition c | .lcyTestExit c | .lcyDebugUnlock c | .lcyDebugLock c | .lcyLogRead c => c.wf
  | .dbgLock _ _ _ | .debugCertExpiry _ | .tapExtest _ _ _ | .samplePreload _ _ _ | .tapIdcode _ _ | .tapClamp _ _
  | .tapHighz _ _ | .lcyCmd _ | .tapDap _ _ | .scanCtrl _ _ | .tapBypass _ _ => true
  | .dapAccess op _ => op.wf
  | .lanternSample sample _ => sample.wf
  | .zeroizeSecondDecision _ _ | .detectorSelfTest _ _ | .holdExpiry _ | .faultAlarm _ _ _ | .pllLockLost _ _ => true
  | .lanStatusRead c | .lanAlarmSet c | .lanPinSet c | .lanClear c | .lanBatlogRead c | .lanDetectorTest c => c.wf
  | .syncReceive _ msg _ | .followUpReceive _ msg _ | .announceReceive _ msg _ => msg.wf
  | .pdelayReqReceive _ domain seq _ => fits 8 domain && fits 16 seq
  | .pdelayRespReceive _ msg _ => msg.wf
  | .pdelayReqSend _ _ | .holdoverStart _ | .holdoverExpiry _ | .ppsInEdge _ _ | .ppsMissing _ | .wholeSecond _
  | .correlationWrite _ => true
  | .timStatusRead c | .timCfgSet c | .timSet c => c.wf
  | .accumulatorClose _ | .tokenRefill _ | .strataRecordWrite _ _ _ | .strataScan _ => true
  | .strStatusRead c | .strRead c | .strAccumRead c | .strCfgSet c | .strCodeSet c | .karFound c | .karJoin c | .karAdmit c
  | .karRevokeMember c | .karLeave c | .karDomainReplicate c | .karReplicaSet c | .karDomainRead c | .karStatusRead c
  | .karCfgSet c | .karOutTake c | .karInGive c | .karFrameSend c => c.wf
  | .karOffer sender hello _ | .karAccept sender hello _ => fits 16 sender && hello.wf
  | .karHeartbeat sender domain term version _ => fits 16 sender && fits 16 domain && fits 64 term && fits 64 version
  | .karPropose sender change sig _ => fits 16 sender && change.wf && sig.wf
  | .karSigned sender domain version term sig _ => fits 16 sender && fits 16 domain && fits 64 version && fits 64 term && sig.wf
  | .karCommit sender change sigs _ => fits 16 sender && change.wf && sigs.all SigEntry.wf
  | .karDecline sender domain version _ holder _ => fits 16 sender && fits 16 domain && fits 64 version && fits 32 holder
  | .karForward sender id domain _ _ _ => fits 16 sender && fits 32 id && fits 16 domain
  | .voteRequest sender domain term signedTerm signedVersion _ => fits 16 sender && fits 16 domain && fits 64 term && fits 64 signedTerm && fits 64 signedVersion
  | .karVote sender domain term _ => fits 16 sender && fits 16 domain && fits 64 term
  | .catchupRequest sender domain version _ => fits 16 sender && fits 16 domain && fits 64 version
  | .karCatchup sender domain records _ => fits 16 sender && fits 16 domain && (records.all fun e => e.1.wf && e.2.all SigEntry.wf)
  | .karRevoke sender change sigs _ => fits 16 sender && change.wf && sigs.all SigEntry.wf
  | .rosterPoll sender version _ => fits 16 sender && fits 64 version
  | .karRoster sender version entries _ _ => fits 16 sender && fits 64 version && entries.all RosterEntry.wf
  | .primaryHeartbeatSend domain _ | .primaryTimeout domain _ _ => fits 16 domain
  | .messageResend _ | .commitTimeout _ | .rosterPollTimer _ => true
  | .sessionRenewal peer _ | .oldKeyExpiry peer _ => fits 16 peer
  | .mainPgRise _ _ | .mainPgFall _ | .vstbyWindowChange _ _ | .sysReset _ | .softwareReset _ _ _ | .configRestore _ _ => true
  | .registerWrite target _ _ _ | .registerRead target _ _ => target.wf
  | .internalResetRelease _ _ | .vbatWindowChange _ _ | .pcieLinkDown _ | .pllLockGained _ _ | .engineParityError _ _
  | .engineKnownAnswer _ _ _ | .tapReset _ => true

end Sys2Proof
end

