-- ==== Sys2Proof/Tests/Slice0.lean ====
section
/-!
SUPPORT. Tests: an ill-formed term for each check of WellFormed, a few values that the spec gives, and for every statement with hypotheses a
state and operands that meet them together (one theorem `witness_…` for each, with one conjunct for each clause).
-/

set_option Elab.async false

namespace Sys2Proof.Tests

open Sys2Proof Sys2Proof.Machine Sys2Proof.Claims

/-- A mailbox with four sessions: officer and operator of domain 0, officer and tenant of domain 1. -/
def desk : Mailbox := { nextSession := 5, sessions := [
  (1, { domain := 0, role := .officer, credential := 0, requestKey := [], responseKey := [], lastAt := 0 }),
  (2, { domain := 0, role := .operator, credential := 0, requestKey := [], responseKey := [], lastAt := 0 }),
  (3, { domain := 1, role := .officer, credential := 0, requestKey := [], responseKey := [], lastAt := 0 }),
  (4, { domain := 1, role := .tenant, credential := 0, requestKey := [], responseKey := [], lastAt := 0 })] }

/-- The secure world up, the key store ready, and sessions open. -/
def up : State := { id := { clk := 0xFF }, wld := { secureUp := true }, kst := { ready := true, domainsLoaded := true }, mbx := { boxes := [(0, desk)] } }

/-- The items a command must carry, zeros where none is given. -/
def least (code : Nat) (l : List Item) : List Item := (itemRules code).flatMap fun r =>
  let given := l.filter (·.type == r.1)
  given ++ List.replicate (r.2.1 - given.length) { type := r.1, value := zeros ((itemFixed.lookup r.1).getD 16) }

/-- A command of session `n` of mailbox 0, of domain 0 for sessions 1 and 2 and of domain 1 for the others. -/
def ask (n code : Nat) (l : List Item := []) : Cmd :=
  { caller := .session 0 n, domain := if n ≤ 2 then 0 else 1, reply := .log,
    body := .items (least code l), records := [], coreFaults := 0, upset := false }

/-- A command whose body is bytes. -/
def askRaw (n : Nat) (b : Bytes) : Cmd := { ask n 0 with body := .raw b }

/-- A command of the normal world's firmware. -/
def askFirm (code : Nat) (l : List Item := []) : Cmd := { ask 1 code l with caller := .firmware 0 }

/-- An item of `n` bytes with value `v`. -/
def it (ty n v : Nat) : Item := { type := ty, value := leBytes n v }

/-- An officer's credential with an Ed25519 key. -/
def cred : Credential := { sigAlg := 0x32, key := zeros 32 }

/-- An active domain with three officers, thresholds 2 and 1, and quotas. -/
def someDomain : Domain := { state := .active, officers := [(0, cred), (1, cred), (2, cred)], mCrit := 2, mRoutine := 1, slotQuota := 100, longQuota := 100 }

/-- Plain AES key attributes of domain 1. -/
def aesAttr : Attr := { type := 1, usage := 0x0C, length := 16, domain := 1, origin := 0, exportable := false, quorum := false, session := false, maskRef := 0, curveIndex := 0, notAfter := 0, usesLeft := 0xFFFFFF }

/-- The handle of a key of domain 1. -/
def key1 : Nat := 2 ^ 22 + 5

/-- The device at work: the vault and the DRBG instances serve, domains 0 and 1 are active, and the key `key1` is in slot 0. -/
def works : State := { up with
  id := { ready := 0x20D, clk := 0xFF }
  kst := { ready := true, domainsLoaded := true, root := some (zeros 32), domains := [(0, someDomain), (1, someDomain)],
           slots := [(0, { handle := key1, attr := aesAttr, value := zeros 16 })] }
  geo := { state := .normal, channels := (List.range 8).map fun c => (c, { state := 1 }) }
  flash := { formatted := true, capacityMib := 100000, reserveLeft := 10, reservePages := 100, spareLeft := 5 }
  rng := { ready := true, seeding := true, katDone := true, instances := (List.range 8).map fun i => (i, { state := 1 }) }
  lcy := { state := 4 }
  die := { attestation := some ({ iv := [], cipher := [], tag := [] }, { iv := [], cipher := [], tag := [] }), domain0 := some someDomain } }

/-! ## WellFormed: each check refuses an ill-formed term -/

/-- A well-formed approval record. -/
def approval : Approval :=
  { magic := 0, format := 1, sigLen := 64, domain := 1, officer := 0, sigAlg := 0x32, code := 0x0214, reserved := 0, digest := zeros 48,
    nonce := zeros 32, expiry := 0, serial := zeros 16, reserved2 := 0, signature := [] }

/-- A well-formed flash target. -/
def target : Target :=
  { channel := 7, number := 3, maker := 0, model := 0, pageSize := 16384, spareBytes := 0, luns := 1, blocks := 0, planes := 0, pagesPerBlock := 0, lpddr4 := 0, ddr3 := 0 }

/-- A well-formed Announce. -/
def announce : Announce :=
  { domain := 0, sourceId := 0, grandmaster := 0, priority1 := 0, clockClass := 0, clockAccuracy := 0, variance := 0, priority2 := 0,
    stepsRemoved := 0 }

/-- A well-formed Sync. -/
def sync : Sync := { domain := 0, sourceId := 0, seq := 0, logInterval := 0, twoStep := false, origin := 0, correction := 0 }

/-- A well-formed Follow_Up. -/
def followUp : FollowUp := { domain := 0, sourceId := 0, seq := 0, origin := 0, correction := 0 }

/-- A well-formed Pdelay_Resp. -/
def pdelayResp : PdelayResp := { domain := 0, seq := 0, followUp := false, twoStep := false, stamp := 0, correction := 0 }

/-- A well-formed OFFER. -/
def offer : KarHello :=
  { member := 0, serial := zeros 16, karstId := zeros 16, rosterVersion := 0, nonce := zeros 32, kem := [], xKey := zeros 32, sig := [] }

/-- A well-formed change record. -/
def record : Change :=
  { karstId := zeros 16, domain := 0, proposer := 0, version := 0, term := 0, prev := zeros 48, body := .roster [] }

/-- A well-formed signature entry. -/
def entry : SigEntry := { member := 0, sig := [] }

/-- A well-formed roster entry. -/
def member : RosterEntry := { member := 0, serial := zeros 16, keyDigest := zeros 48, live := true, version := 0 }

theorem test_wf_well_formed_terms_pass :
    (ask 1 0x0201).wf = true ∧ approval.wf = true ∧ target.wf = true ∧ announce.wf = true ∧ sync.wf = true ∧ followUp.wf = true ∧
      pdelayResp.wf = true ∧ offer.wf = true ∧ record.wf = true ∧ entry.wf = true ∧ member.wf = true := by decide +kernel

theorem test_wf_caller : ∀ k ∈ [Caller.session 6 0, .session 0 65536, .function 1024 0, .function 0 4096, .firmware 4],
    k.wf = false ∧ (Instr.kstGenerate { ask 1 0x0201 with caller := k }).wf = false := by decide +kernel

theorem test_wf_approval : ∀ r ∈ [{ approval with magic := 2 ^ 32 }, { approval with format := 65536 }, { approval with sigLen := 65536 },
    { approval with domain := 65536 }, { approval with officer := 256 }, { approval with sigAlg := 256 }, { approval with code := 65536 },
    { approval with reserved := 65536 }, { approval with digest := zeros 47 }, { approval with nonce := zeros 31 },
    { approval with expiry := 2 ^ 64 }, { approval with serial := zeros 17 }, { approval with reserved2 := 2 ^ 64 }],
    r.wf = false ∧ (Instr.geoFormat { ask 1 0x0602 with records := [r] }).wf = false := by decide +kernel

theorem test_wf_command : ∀ c ∈ [{ ask 1 0x0201 with domain := 65536 }, { ask 1 0x0201 with records := List.replicate 33 approval },
    { ask 1 0x0201 with body := .items [{ type := 65536, value := [] }] }],
    c.wf = false ∧ (Instr.lcyNonce c).wf = false := by decide +kernel

theorem test_wf_body_lengths (b : Bytes) (h : 262112 < b.length) :
    (Body.raw b).wf = false ∧ (Item.wf { type := 1, value := b }) = false := by
  refine ⟨decide_eq_false (by omega), ?_⟩
  simp [Item.wf]; omega

theorem test_wf_flash : (CellRead.repaired 8 false []).wf = false ∧ (CellRead.repaired 0 false (List.replicate 29 0)).wf = false ∧
    (CellRead.repaired 0 false [2 ^ 32]).wf = false ∧ (CellRead.lost (2 ^ 32) false).wf = false ∧
    (∀ x ∈ [{ target with channel := 8 }, { target with number := 4 }, { target with maker := 256 }, { target with planes := 256 }],
      x.wf = false ∧ (Instr.geoMount { targets := [x], trainsLpddr4 := 0, trainsDdr3 := 0, found := none, nodes := .good } 0).wf = false) ∧
    (MountFacts.wf { targets := [], trainsLpddr4 := 0, trainsDdr3 := 0, found := some (2 ^ 64, zeros 48), nodes := .good }) = false ∧
    (MountFacts.wf { targets := [], trainsLpddr4 := 0, trainsDdr3 := 0, found := some (1, zeros 47), nodes := .good }) = false ∧
    (MountFacts.wf { targets := [], trainsLpddr4 := 0, trainsDdr3 := 0, found := none, nodes := .repaired 8 false [] }) = false := by decide +kernel

theorem test_wf_chamber : (∀ m ∈ [ChamberMsg.hello (zeros 15) 0 (zeros 16), .hello (zeros 16) 16 (zeros 16), .hello (zeros 16) 0 (zeros 15),
    .pairQuery 72, .pairAnswer 72 0 0, .job (2 ^ 32) 0 0 0 [] [] [], .job 0 (2 ^ 32) 0 0 [] [] [], .job 0 0 256 0 [] [] [],
    .jobAnswer (2 ^ 32) none], m.wf = false) ∧
    (Instr.chamberMessageReceive 0 (.pairQuery 72) 0 (zeros 16) 0).wf = false ∧
    (Instr.chamberMessageReceive 0 .heartbeatRequest (2 ^ 32) (zeros 16) 0).wf = false ∧
    (Instr.pairCheckAnswer 0 .heartbeatRequest 0 (zeros 15) 0).wf = false ∧
    (Instr.lentJobArrival 0 .heartbeatRequest (2 ^ 32) (zeros 16) 0).wf = false ∧
    (Instr.lentResultArrival 0 .heartbeatRequest 0 (zeros 17) 0).wf = false := by decide +kernel

theorem test_wf_accesses : (∀ r ∈ [RegTarget.device .i3c (2 ^ 26), .function 0 (2 ^ 17)],
      r.wf = false ∧ (Instr.registerRead r 4 0).wf = false) ∧
    (∀ o ∈ [DapOp.read (2 ^ 64) 0, .read 0 (2 ^ 32), .write (2 ^ 64) [], .readRegister (2 ^ 26), .writeRegister (2 ^ 26) 0],
      o.wf = false ∧ (Instr.dapAccess o 0).wf = false) := by decide +kernel

theorem test_wf_samples : (∀ x ∈ [Sample.mk [{ source := 24, unit := 0, second := false, zone := 0, value := 0 }] [] 0 false,
    .mk [] [(24, 0, false)] 0 false], x.wf = false ∧ (Instr.lanternSample x 0).wf = false) := by decide +kernel

theorem test_wf_time_messages :
    (∀ m ∈ [{ announce with domain := 256 }, { announce with sourceId := 2 ^ 80 }, { announce with grandmaster := 2 ^ 64 },
      { announce with priority1 := 256 }, { announce with clockClass := 256 }, { announce with clockAccuracy := 256 },
      { announce with variance := 65536 }, { announce with priority2 := 256 }, { announce with stepsRemoved := 65536 }], m.wf = false) ∧
    (∀ m ∈ [{ sync with domain := 256 }, { sync with sourceId := 2 ^ 80 }, { sync with seq := 65536 }], m.wf = false) ∧
    (∀ m ∈ [{ followUp with domain := 256 }, { followUp with sourceId := 2 ^ 80 }, { followUp with seq := 65536 }], m.wf = false) ∧
    (∀ m ∈ [{ pdelayResp with domain := 256 }, { pdelayResp with seq := 65536 }], m.wf = false) ∧
    (Instr.pdelayReqReceive 0 256 0 0).wf = false ∧ (Instr.pdelayReqReceive 0 0 65536 0).wf = false := by decide +kernel

theorem test_wf_karst_terms :
    (∀ h ∈ [{ offer with member := 65536 }, { offer with serial := zeros 15 }, { offer with karstId := zeros 15 },
      { offer with rosterVersion := 2 ^ 64 }, { offer with nonce := zeros 31 }, { offer with xKey := zeros 31 }], h.wf = false) ∧
    (∀ c ∈ [{ record with karstId := zeros 15 }, { record with domain := 65536 }, { record with proposer := 65536 },
      { record with version := 2 ^ 64 }, { record with term := 2 ^ 64 }, { record with prev := zeros 47 }], c.wf = false) ∧
    (SigEntry.wf { entry with member := 65536 }) = false ∧
    (∀ e ∈ [{ member with member := 65536 }, { member with serial := zeros 15 }, { member with keyDigest := zeros 47 },
      { member with version := 2 ^ 64 }], e.wf = false) := by decide +kernel

theorem test_wf_karst_messages :
    ∀ i ∈ [Instr.karOffer 65536 offer 0, .karAccept 0 { offer with serial := [] } 0, .karHeartbeat 65536 0 0 0 0, .karHeartbeat 0 65536 0 0 0,
      .karHeartbeat 0 0 (2 ^ 64) 0 0, .karHeartbeat 0 0 0 (2 ^ 64) 0, .karPropose 0 { record with prev := [] } entry 0,
      .karPropose 0 record { entry with member := 65536 } 0, .karSigned 0 0 (2 ^ 64) 0 entry 0, .karSigned 0 0 0 (2 ^ 64) entry 0,
      .karCommit 0 record [{ entry with member := 65536 }] 0, .karDecline 0 0 0 .notReady (2 ^ 32) 0, .karForward 0 (2 ^ 32) 0 none none 0,
      .karForward 0 0 65536 none none 0, .voteRequest 0 0 (2 ^ 64) 0 0 0, .voteRequest 0 0 0 (2 ^ 64) 0 0, .voteRequest 0 0 0 0 (2 ^ 64) 0,
      .karVote 0 65536 0 0, .catchupRequest 0 0 (2 ^ 64) 0, .karCatchup 0 0 [(record, [{ entry with member := 65536 }])] 0,
      .karRevoke 65536 record [] 0, .rosterPoll 0 (2 ^ 64) 0, .karRoster 0 0 [{ member with serial := [] }] [] 0,
      .primaryHeartbeatSend 65536 0, .primaryTimeout 65536 0 0, .sessionRenewal 65536 0, .oldKeyExpiry 65536 0],
      i.wf = false := by decide +kernel

theorem test_wf_numbers :
    ∀ i ∈ [Instr.pageInComplete (2 ^ 32) .good 0, .pageInComplete 0 (.repaired 8 false []) 0, .pageInTimeout (2 ^ 32) 0,
      .katStart (.secure 0) 16 true, .transportExpiry (2 ^ 32) 0, .scrubStripe (.repaired 8 false []) false 0,
      .entryFetch 0 0 (some (zeros 63)) 0, .sessionIdleTimeout 0 65536 0, .offerExpiry (2 ^ 32) 0, .worldPoll 0 (2 ^ 32) 0,
      .worldCall 0 [] (2 ^ 64) 0 0 { coreFaults := 0, upset := false, facts := [], data := [] } 0,
      .worldCall 0 [] 0 (2 ^ 64) 0 { coreFaults := 0, upset := false, facts := [], data := [] } 0,
      .worldCall 0 [] 0 0 (2 ^ 64) { coreFaults := 0, upset := false, facts := [], data := [] } 0], i.wf = false := by decide +kernel

/-! ## Values that the spec and its standards give -/

/-- The check value of the CRC-32 of IEEE 802.3 for the nine digits (R35). -/
theorem test_crc32_check_value : crc32 (asciiBytes "123456789") = 0xCBF43926 := by decide +kernel

/-- IDCODE reads 0x1414447B (R412). -/
theorem test_idcode : (match exec (.tapIdcode (List.replicate 32 false) 0) State.reset with
    | .next u => u.out
    | _ => []) = [.tap ((List.range 32).map fun k => (0x1414447B : Nat).testBit k)] := by decide +kernel

/-- The table spells no command by bits. -/
theorem test_no_words : decodeTableWord 32 0 = none ∧ (State.reset.withFetchWord 32 0).pending = [] := ⟨rfl, rfl⟩

/-- A read of 8 bits returns 0 and is recorded as a violation with reason 4 (R21, R387). -/
theorem test_narrow_read_refused : (match exec (.registerRead (.device (.secure 0) 0) 1 0) State.reset with
    | .next u => (u.out, u.wld.violations.map (·.reason))
    | _ => ([], [])) = ([.read 0], [4]) := by decide +kernel

/-! ## Witnesses of the statements -/

/-- Port 0 enabled with its link up. -/
def portUp (q : Port) : State := { id := { clk := 0xFF }, psg := { restored := true, ports := [(0, { q with cfg := 0x08000005, linkUp := true })] } }

/-- A received frame of these bytes. -/
def rx (bs : Bytes) : RxFrame := { bytes := bs, sec := 0, ns := 0, unlocked := false, injected := false, severity := 0 }

theorem witness_FramesEnterAndLeavePorts :
    (∃ (p : Fin 144) (s : State), (port s p).enable = true ∧ (port s p).linkUp = true) ∧
    (∃ (p : Fin 144) (bs : Bytes) (sfd : _) (s : State) (c : _), stopped s 0 = false ∧ (port s p).enable = true ∧ (port s p).linkUp = true ∧ receiveDiscard (port s p) bs sfd = some c) ∧
    (∃ (p : Fin 144) (bs : Bytes) (s : State), stopped s 0 = true ∧ (port s p).enable = true ∧ (port s p).linkUp = true ∧ rxEntries (port s p).rxQ + (bs.length + 7) / 8 ≤ 64) ∧
    (∃ (p : Fin 144) (bs : Bytes) (sfd : _) (s : State), stopped s 0 = false ∧ (port s p).enable = true ∧ (port s p).linkUp = true ∧ receiveDiscard (port s p) bs sfd = none ∧ (port s p).walk.isSome = true ∧ parseRoom (port s p) bs.length = true) ∧
    (∃ (p : Fin 144) (s : State) (e : _) (rest : _), stopped s 0 = false ∧ (port s p).enable = true ∧ (port s p).linkUp = true ∧ (port s p).egress = e :: rest) := ⟨
  ⟨0, portUp {}, by decide +kernel⟩,
  ⟨0, [], 0, portUp {}, 0x108, by decide +kernel⟩,
  ⟨0, zeros 512, { portUp {} with id := {} }, by decide +kernel⟩,
  ⟨0, zeros 60 ++ leBytes 4 (crc32 (zeros 60)).toNat, 0, portUp { walk := some { frame := rx [], bank := {}, gen := 1 } }, by decide +kernel⟩,
  ⟨0, portUp { egress := [{ bytes := [], own := false }] }, { bytes := [], own := false }, [], by decide +kernel⟩⟩

theorem witness_PortAndShadowWrites :
    (∃ (p : Fin 144) (s : State), (port s p).enable = true) ∧
    (∃ (p : Fin 144) (s : State), (port s p).enable = false) ∧
    (∃ (m : Master) (p : Fin 144) (v : _) (s : State), m.isSecure = true ∧ (port s p).enable = false ∧ bit v 0 = true ∧ field v 2 1 ≠ 3 ∧ 64 ≤ field v 29 16 ∧ field v 29 16 ≤ 9600) ∧
    (∃ (m : Master) (w : Fin 72) (s : State), m.isSecure = true ∧ (wire s w).pending = none ∧ (wire s w).locked = false) := ⟨
  ⟨0, portUp {}, by decide +kernel⟩,
  ⟨143, {}, by decide +kernel⟩,
  ⟨.secure 0, 0, 0x04B00001, {}, by decide +kernel⟩,
  ⟨.secure 3, 71, {}, by decide +kernel⟩⟩

theorem witness_WalksAndCommits :
    (∃ (p : Fin 144) (t : _) (s : State) (f : _) (rest : _), stopped s 0 = false ∧ (port s p).walk = none ∧ (port s p).parseQ = f :: rest ∧ unparsed (updPort (finishSwaps (takeSwaps (advance s t) p) (wireOf p)) p fun q => { q with parseQ := rest }) p f = none) ∧
    (∃ (p : Fin 144) (s : State) (w : _), stopped s 0 = false ∧ (port s p).walk = some w) ∧
    (∃ (m : Master) (w : Fin 72) (s : State), m.isSecure = true ∧ s.lcy.state ≠ 6 ∧ commitCheck s w = none) ∧
    (∃ (m : Master) (w : Fin 72) (s : State) (st : _) (f : _), m.isSecure = true ∧ s.lcy.state ≠ 6 ∧ commitCheck s w = some (st, f)) := ⟨
  ⟨143, 0, { id := { clk := 0xFF }, psg := { ports := [(143, { bank := { tables := 0 }, parseQ := [rx []] })] } }, rx [], [], by decide +kernel⟩,
  ⟨0, portUp { walk := some { frame := rx [], bank := {}, gen := 1 } }, { frame := rx [], bank := {}, gen := 1 }, by decide +kernel⟩,
  ⟨.secure 0, 71, { psg := { restored := true } }, by decide +kernel⟩,
  ⟨.secure 0, 0, {}, .busyLocked, 0, by decide +kernel⟩⟩

/-- One page-in of key 7, asked for at reset. -/
def paging (pg : PageIn) (serves : Bool := true) : State :=
  { up with psg := { pageIns := [pg] }, id := { ready := if serves then 0x201 else 1, clk := 0xFF } }

/-- A held frame 5 at a stage. -/
def held (st : Stage) : Held := { id := 5, rx := rx [], desc := { frameLen := 0, port := 1 }, bank := {}, walkEnd := 0, deadline := 0, stage := st }

/-- Port 1 holding frame 5. -/
def holding (st : Stage) : State := { id := { clk := 0xFF }, psg := { ports := [(1, { line := [held st] })] } }

/-- A page-in of a key of domain 1, with the vault as given. -/
def pagingKey (l : Tbl KeyRec) : State :=
  { works with psg := { pageIns := [pageOf] }, flash := { works.flash with objects := l } }
where
  /-- The page-in. -/
  pageOf : PageIn := { handle := key1 + 1, askedAt := 0, taken := true }

theorem witness_PageInsAreTakenAndEnd :
    (∃ (s : State) (pg : _), secureUp s = true ∧ s.psg.pageIns.find? (!·.taken) = some pg) ∧
    (∃ (handle : _) (t : _) (s : State) (pg : _) (k : _) (w : _) (n : _), makeRoom (advance s t) handle k.value.length = some (w, n) ∧ stopped s 1 = false ∧ s.psg.pageIns.find? (·.handle == handle) = some pg ∧ pg.taken = true ∧ pg.stale = false ∧ secureUp s = true ∧ vaultServes s = true ∧ suspended s = false ∧ (domain s (handleDomain handle)).state = .active ∧ withdrawn s handle = false ∧ s.flash.objects.look handle = some k ∧ slotOf s handle = none) ∧
    (∃ (handle : _) (s : State) (pg : _), stopped s 1 = false ∧ s.psg.pageIns.find? (·.handle == handle) = some pg ∧ pg.taken = true ∧ pg.stale = false ∧ secureUp s = true ∧ vaultServes s = true ∧ suspended s = false ∧ s.flash.objects.look handle = none) ∧
    (∃ (handle : _) (s : State) (pg : _), stopped s 1 = false ∧ s.psg.pageIns.find? (·.handle == handle) = some pg ∧ pg.taken = true ∧ (secureUp s = false ∨ vaultServes s = false)) ∧
    (∃ (handle : _) (s : State) (pg : _), stopped s 1 = false ∧ s.psg.pageIns.find? (·.handle == handle) = some pg ∧ pg.taken = true ∧ secureUp s = true ∧ vaultServes s = true ∧ pg.stale = true) ∧
    (∃ (handle : _) (t : _) (s : State) (pg : _), s.psg.pageIns.find? (·.handle == handle) = some pg ∧ pg.askedAt + 500 * usT ≤ (advance s t).now) := ⟨
  ⟨paging { handle := 7, askedAt := 0 }, { handle := 7, askedAt := 0 }, by decide +kernel⟩,
  ⟨key1 + 1, 0, pagingKey [(key1 + 1, { attr := aesAttr, value := zeros 16 })], pagingKey.pageOf, { attr := aesAttr, value := zeros 16 }, _, _, rfl, by decide +kernel⟩,
  ⟨key1 + 1, pagingKey [], pagingKey.pageOf, by decide +kernel⟩,
  ⟨7, { paging { handle := 7, askedAt := 0, taken := true } with wld := {} }, { handle := 7, askedAt := 0, taken := true }, by decide +kernel⟩,
  ⟨7, paging { handle := 7, askedAt := 0, taken := true, stale := true }, { handle := 7, askedAt := 0, taken := true, stale := true }, by decide +kernel⟩,
  ⟨7, 500 * usT, paging { handle := 7, askedAt := 0 }, { handle := 7, askedAt := 0 }, by decide +kernel⟩⟩

theorem witness_TwinComparatorsDecide :
    (∃ (frame : _) (s : State) (p : _) (h : _) (r : _), stopped s 0 = false ∧ portOfFrame s frame = some p ∧ findHeld s p frame = some h ∧ h.stage = .result r ∧ flowDeciding (port s p) h = false) ∧
    (∃ (frame : _) (s : State) (p : _) (h : _) (a : _) (at_ : _), stopped s 0 = false ∧ portOfFrame s frame = some p ∧ findHeld s p frame = some h ∧ h.stage = .decidedA a at_) ∧
    (∃ (frame : _) (s : State) (p : _) (h : _) (a : _) (at_ : _), stopped s 0 = false ∧ portOfFrame s frame = some p ∧ findHeld s p frame = some h ∧ h.stage = .decidedA a at_ ∧ a.verdict = .accept) ∧
    (∃ (frame : _) (s : State) (p : _) (h : _) (a : _) (at_ : _), stopped s 0 = false ∧ portOfFrame s frame = some p ∧ findHeld s p frame = some h ∧ h.stage = .decidedA a at_ ∧ a.verdict ≠ .accept) := ⟨
  ⟨5, holding (.result { verdict := .tag }), 1, held (.result { verdict := .tag }), { verdict := .tag }, by decide +kernel⟩,
  ⟨5, holding (.decidedA { verdict := .tag } 9), 1, held (.decidedA { verdict := .tag } 9), { verdict := .tag }, 9, by decide +kernel⟩,
  ⟨5, holding (.decidedA { verdict := .accept } 9), 1, held (.decidedA { verdict := .accept } 9), { verdict := .accept }, 9, by decide +kernel⟩,
  ⟨5, holding (.decidedA { verdict := .replay } 9), 1, held (.decidedA { verdict := .replay } 9), { verdict := .replay }, 9, by decide +kernel⟩⟩

theorem witness_HoldTimerAndFlowRetirement :
    (∃ (s : State), stopped s 0 = false) ∧
    (∃ (t : _) (s : State), stopped s 0 = false ∧ overdue (advance s t) = []) ∧
    (∃ (s : State), stopped s 0 = false) := ⟨
  ⟨holding .hmac, by decide +kernel⟩,
  ⟨0, { id := { clk := 0xFF } }, by decide +kernel⟩,
  ⟨holding .hmac, by decide +kernel⟩⟩

/-- Frame 5 of port 1 waits on lane 1 of its port for the key 7, which is in the key store. -/
def laneState (x : Lane) : State :=
  let a : Attr := { type := 1, usage := 0, length := 16, domain := 0, origin := 0, exportable := false, quorum := false, session := false, maskRef := 0, curveIndex := 0, notAfter := 0, usesLeft := 0 }
  { id := { clk := 0xFF }, psg := { ports := [(1, { line := [laneFrame a], lane1 := x })] },
    kst := { slots := [(0, { handle := 7, attr := a, value := zeros 16 })] } }
where
  /-- The frame. -/
  laneFrame (a : Attr) : Held := { held (.onLane 1) with keyAttr := some a, trailer := { keyRef := 7, alg := 1 } }

/-- A job on a lane, started at reset. -/
def running : LaneRun := { job := { frame := 5, blocks := 4 }, gmac := false, handle := 7, key := zeros 16, covered := [], startedAt := 0 }

theorem witness_LanesRunTheirJobs :
    (∃ (e : Fin 288) (t : _) (s : State) (j : _) (rest : _) (h : _) (k : _), findHeld s (e / 2) j.frame = some h ∧ fetchKey s h = some k ∧ (lane s (e / 2) (e % 2)).queue = j :: rest ∧ (lane s (e / 2) (e % 2)).state = .idle ∧ stopped s 1 = false ∧ starved (advance s t) e = false ∧ (lane s (e / 2) (e % 2)).mask.seed.isSome = true ∧ suspended s = false ∧ katDue (advance s t) (lane s (e / 2) (e % 2)).katAt = false) ∧
    (∃ (e : Fin 288) (t : _) (s : State) (r : _) (h : _) (l : _), findHeld s (e / 2) r.job.frame = some h ∧ h.stage = .onLane l ∧ stopped s 0 = false ∧ stopped s 1 = false ∧ (lane s (e / 2) (e % 2)).running = some r ∧ r.startedAt + (64 + tagCycles r.gmac (aesRounds r.key) r.job.blocks) * xclkT ≤ (advance s t).now) ∧
    (∃ (e : Fin 288) (t : _) (s : State) (r : _), stopped s 0 = false ∧ stopped s 1 = false ∧ (lane s (e / 2) (e % 2)).running = some r ∧ findHeld s (e / 2) r.job.frame = none ∧ r.startedAt + (64 + tagCycles r.gmac (aesRounds r.key) r.job.blocks) * xclkT ≤ (advance s t).now) ∧
    (∃ (e : Fin 288) (t : _) (s : State), stopped s 1 = false ∧ (lane s (e / 2) (e % 2)).state = .idle ∧ katDue (advance s t) (lane s (e / 2) (e % 2)).katAt = true) ∧
    (∃ (e : Fin 288) (t : _) (s : State), stopped s 1 = false ∧ (lane s (e / 2) (e % 2)).state = .idle ∧ katDue (advance s t) (lane s (e / 2) (e % 2)).katAt = true) ∧
    (∃ (e : Fin 288) (s : State), (lane s (e / 2) (e % 2)).state ≠ .failed ∧ (lane s (e / 2) (e % 2)).state ≠ .offline) ∧
    (∃ (m : Master) (e : Fin 288) (s : State), m.isSecure = true ∧ ((lane s (e / 2) (e % 2)).state = .idle ∨ (lane s (e / 2) (e % 2)).state = .failed)) ∧
    (∃ (m : Master) (e : Fin 288) (s : State), m.isSecure = true ∧ (lane s (e / 2) (e % 2)).running.isSome = true) ∧
    (∃ (m : Master) (e : Fin 288) (s : State), m.isSecure = true ∧ (lane s (e / 2) (e % 2)).running = none) := ⟨
  ⟨3, 0, laneState { state := .idle, queue := [{ frame := 5, blocks := 4 }], mask := { seed := some [] } }, { frame := 5, blocks := 4 }, [], _, zeros 16, rfl, rfl, by decide +kernel⟩,
  ⟨3, 100 * usT, laneState { state := .busy, running := some running }, running, _, 1, rfl, rfl, by decide +kernel⟩,
  ⟨3, 100 * usT, laneState { state := .busy, running := some { running with job := { frame := 9, blocks := 4 } } }, { running with job := { frame := 9, blocks := 4 } }, by decide +kernel⟩,
  ⟨3, 10 * msT, laneState { state := .idle }, by decide +kernel⟩,
  ⟨3, 10 * msT, laneState { state := .idle }, by decide +kernel⟩,
  ⟨287, {}, by decide +kernel⟩,
  ⟨.secure 0, 3, laneState { state := .failed }, by decide +kernel⟩,
  ⟨.secure 0, 3, laneState { state := .busy, running := some running }, by decide +kernel⟩,
  ⟨.secure 0, 287, {}, by decide +kernel⟩⟩

theorem witness_MaskGeneratorsReseed :
    (∃ (e : Fin 320) (t : _) (s : State) (i : _), stopped s 1 = false ∧ maskWants (advance s t) e = true ∧ s.rng.failed = false ∧ homeOf s (e % 8) = some i ∧ ((inst s i).state = 1 ∨ (inst s i).state = 2)) ∧
    (∃ (e : Fin 320) (t : _) (s : State) (i : _), stopped s 1 = false ∧ maskWants (advance s t) e = true ∧ s.rng.failed = false ∧ homeOf s (e % 8) = some i ∧ ((inst s i).state = 0 ∨ (inst s i).state = 5)) ∧
    (∃ (e : Fin 320) (s : State) (b : _), stopped s 1 = false ∧ (maskGen s e).next = some b ∧ 288 ≤ e.val) ∧
    (∃ (e : Fin 320) (s : State) (b : _), stopped s 1 = false ∧ (maskGen s e).next = some b ∧ e.val < 288) ∧
    (∃ (e : Fin 320) (t : _) (s : State), stopped s 1 = false ∧ starved (advance s t) e = true ∧ e.val < 288) ∧
    (∃ (e : Fin 320) (t : _) (s : State), stopped s 1 = false ∧ starved (advance s t) e = true ∧ 288 ≤ e.val) := ⟨
  ⟨319, 0, { rng := { instances := [(7, { state := 1 })] }, id := { ready := 9, clk := 0xFF } }, 7, by decide +kernel⟩,
  ⟨319, 0, { id := { ready := 9, clk := 0xFF } }, 7, by decide +kernel⟩,
  ⟨319, { id := { clk := 0xFF }, eng := { svcs := [(31, { mask := { next := some [1] } })] } }, [1], by decide +kernel⟩,
  ⟨3, laneState { mask := { next := some [1] } }, [1], by decide +kernel⟩,
  ⟨3, 0, laneState { mask := { blocks := 1048576 } }, by decide +kernel⟩,
  ⟨319, 0, { id := { clk := 0xFF }, eng := { svcs := [(31, { mask := { blocks := 1048576 } })] } }, by decide +kernel⟩⟩

theorem witness_TablesLoadAndUnload :
    (∃ (c : Cmd) (t : Fin 16) (s : State), admitted s c 0x0701 = true ∧ selectingWire s t = none) ∧
    (∃ (c : Cmd) (t : Fin 16) (s : State) (w : _), admitted s c 0x0701 = true ∧ selectingWire s t = some w) ∧
    (∃ (c : Cmd) (s : State), admitted s c 0x0702 = true ∧ c.nat 8 ≤ 15 ∧ bit s.psg.resident (c.nat 8) = true ∧ selectingWire s (c.nat 8) = none) ∧
    (∃ (c : Cmd) (s : State) (w : _), admitted s c 0x0702 = true ∧ c.nat 8 ≤ 15 ∧ bit s.psg.resident (c.nat 8) = true ∧ selectingWire s (c.nat 8) = some w) := ⟨
  ⟨askRaw 1 [], 15, up, by decide +kernel⟩,
  ⟨askRaw 1 [], 0, { up with psg := { wires := [(0, { active := { tables := 0x8000 } })] } }, 0, by decide +kernel⟩,
  ⟨ask 1 0x0702 [it 8 1 15], { up with psg := { resident := 0x8000 } }, by decide +kernel⟩,
  ⟨ask 1 0x0702 [it 8 1 0], { up with psg := { resident := 1, wires := [(71, { shadow := { tables := 0x0080 } })] } }, 71, by decide +kernel⟩⟩

theorem witness_WireCommandsStageCommitAndDiscard :
    (∃ (c : Cmd) (s : State), admitted s c 0x0710 = true ∧ c.nat 5 ≤ 71 ∧ (c.regWrites.all fun e => stageOffset e.1) = true ∧ shadowClosed (wire s (c.nat 5)) = false) ∧
    (∃ (c : Cmd) (s : State), admitted s c 0x0711 = true ∧ c.nat 5 ≤ 71 ∧ needsGrant (wire s (c.nat 5)).active (wire s (c.nat 5)).shadow = false ∧ c.records = []) ∧
    (∃ (c : Cmd) (s : State), admitted s c 0x0711 = true ∧ c.nat 5 ≤ 71 ∧ needsGrant (wire s (c.nat 5)).active (wire s (c.nat 5)).shadow = true ∧ commitCheck (updWire s (c.nat 5) fun x => { x with grant := true }) (c.nat 5) = none) ∧
    (∃ (c : Cmd) (s : State), admitted s c 0x0712 = true ∧ c.nat 5 ≤ 71 ∧ shadowClosed (wire s (c.nat 5)) = false) := ⟨
  ⟨ask 2 0x0710 [it 5 2 71, it 0x16 8 0x1000000200], up, by decide +kernel⟩,
  ⟨ask 2 0x0711 [it 5 2 71], up, by decide +kernel⟩,
  ⟨ask 2 0x0711 [it 5 2 0], { up with psg := { restored := true, wires := [(0, { shadow := { mode := 9 } })] } }, by decide +kernel⟩,
  ⟨ask 2 0x0712, up, by decide +kernel⟩⟩

theorem witness_FlowCommandsReadFlushAndPrefetch :
    (∃ (c : Cmd) (s : State), admitted s c 0x0720 = true ∧ c.nat 0x29 ≤ 16383) ∧
    (∃ (c : Cmd) (s : State), admitted s c 0x0721 = true ∧ c.nat 0x2A < 2 ^ 72 ∧ c.nat 0x27 ≤ 1 ∧ busyFlowWire s (c.nat 0x2A) = none) ∧
    (∃ (c : Cmd) (s : State) (w : _), admitted s c 0x0721 = true ∧ c.nat 0x2A < 2 ^ 72 ∧ c.nat 0x27 ≤ 1 ∧ busyFlowWire s (c.nat 0x2A) = some w) ∧
    (∃ (c : Cmd) (s : State), admitted s c 0x0730 = true ∧ c.nat 5 ≤ 71) ∧
    (∃ (c : Cmd) (s : State), admitted s c 0x0731 = true ∧ (c.values 1).length ≤ 64) ∧
    (∃ (c : Cmd) (s : State) (b : _) (n : _) (a : _) (k : _), resolve s (leNat b) = .hit n a k ∧ admitted s c 0x0731 = true ∧ c.values 1 = [b]) ∧
    (∃ (c : Cmd) (s : State) (b : _), admitted s c 0x0731 = true ∧ c.values 1 = [b] ∧ resolve s (leNat b) = .miss ∧ (vaultRecord s (leNat b)).isSome = true) := ⟨
  ⟨ask 2 0x0720 [it 0x29 2 16383], up, by decide +kernel⟩,
  ⟨ask 1 0x0721 [it 0x27 4 1, it 0x2A 16 (2 ^ 71)], up, by decide +kernel⟩,
  ⟨ask 1 0x0721 [it 0x27 4 0, it 0x2A 16 1], { up with psg := { flows := [(3, { key := [], wire := 0, sideLan := 0, inFlight := 1 })] } }, 0, by decide +kernel⟩,
  ⟨ask 2 0x0730, up, by decide +kernel⟩,
  ⟨ask 2 0x0731 (List.replicate 64 (it 1 4 9)), up, by decide +kernel⟩,
  ⟨ask 2 0x0731 [it 1 4 key1], works, leBytes 4 key1, _, _, _, rfl, by decide +kernel⟩,
  ⟨ask 2 0x0731 [it 1 4 (key1 + 1)], pagingKey [(key1 + 1, { attr := aesAttr, value := zeros 16 })], leBytes 4 (key1 + 1), by decide +kernel⟩⟩

theorem witness_InjectedPuntedAndChallenge :
    (∃ (c : Cmd) (s : State), admitted s c 0x0740 = true ∧ c.nat 5 ≤ 71 ∧ c.nat 6 ≤ 1 ∧ 64 ≤ (c.bytes 0x2B).length ∧ (c.bytes 0x2B).length ≤ (port s (2 * c.nat 5 + c.nat 6)).maxFrame ∧ parseFull s (2 * c.nat 5 + c.nat 6) (c.bytes 0x2B).length = false) ∧
    (∃ (c : Cmd) (s : State) (x : _), admitted s c 0x0741 = true ∧ s.psg.puntQ.find? (·.handle == c.nat 0x2C) = some x ∧ s.lcy.isolateAll = false ∧ (wire s (wireOf x.port)).active.modeOf ≠ 2 ∧ (wire s (wireOf x.port)).active.modeOf ≠ 3) ∧
    (∃ (c : Cmd) (s : State), admitted s c 0x0741 = true ∧ s.psg.puntQ.find? (·.handle == c.nat 0x2C) = none) ∧
    (∃ (c : Cmd) (s : State), admitted s c 0x0742 = true ∧ c.nat 0x2D < 1024 ∧ (c.bytes 0x2E).length ≤ 248) := ⟨
  ⟨askFirm 0x0740 [it 5 2 71, it 6 1 1, it 0x2B 64 0], up, by decide +kernel⟩,
  ⟨askFirm 0x0741 [it 0x2C 4 8], { up with psg := { puntQ := [{ handle := 8, port := 143, bytes := [] }] } }, { handle := 8, port := 143, bytes := [] }, by decide +kernel⟩,
  ⟨askFirm 0x0741, up, by decide +kernel⟩,
  ⟨askFirm 0x0742 [it 0x2D 2 1023, it 0x2E 248 0], up, by decide +kernel⟩⟩

/-- Function 1 assigned to domain 1, with one job of its queue 1. -/
def ring (j : RingJob) : State :=
  { up with kst := { ready := true, domains := [(1, { state := .active, functions := [1] })] }, host := { linkUp := true, vfs := 1, funcs := [(1, { queues := [(1, { created := true, enabled := true, jobs := [j] })] })] } }

/-- A job of an opcode with these bytes. -/
def rjob (op : Nat) (b : Bytes) : RingJob := { id := 4, opcode := op, tag := 9, relaxed := false, fence := false, resultAddr := 0, bytes := b }

/-- The front end on, with an address. -/
def bus : State := { up with mbx := { mgmtEn := true, addrValid := true, boxes := [(0, desk)] } }

/-- The probe's instruction in the TAP, under a live certificate, with one page of the normal world. -/
def probe : State := { lcy := { state := 4, cert := some { rights := 0x47, id := 1, dapKey := 0, notAfter := 0, wires := 0 }, tap := { ir := 0x21 } }, wld := { pages := [(0, 1)] } }

/-- The header and footer of an envelope of MBX_INFO, 32 bytes. -/
def infoCall : Bytes := leBytes 4 0x4E45564D ++ leBytes 4 0x0101 ++ leBytes 4 32 ++ zeros 20

theorem witness_EngineAndWorldStatusReads :
    (∃ (c : Cmd) (s : State), admitted s c 0x0341 = true) ∧
    (∃ (c : Cmd) (s : State), admitted s c 0x0430 = true) ∧
    (∃ (c : Cmd) (s : State), admitted s c 0x0510 = true) ∧
    (∃ (c : Cmd) (s : State), admitted s c 0x0260 = true) ∧
    (∃ (c : Cmd) (s : State), admitted s c 0x0601 = true) ∧
    (∃ (c : Cmd) (s : State), admitted s c 0x0880 = true) ∧
    (∃ (c : Cmd) (s : State), admitted s c 0x0801 = true) := ⟨
  ⟨ask 2 0x0341, up, by decide +kernel⟩,
  ⟨ask 2 0x0430, up, by decide +kernel⟩,
  ⟨ask 2 0x0510, up, by decide +kernel⟩,
  ⟨ask 2 0x0260, up, by decide +kernel⟩,
  ⟨ask 2 0x0601, up, by decide +kernel⟩,
  ⟨ask 2 0x0880, up, by decide +kernel⟩,
  ⟨ask 2 0x0801, up, by decide +kernel⟩⟩

theorem witness_BoxTimeAndAlarmReadsAndAttest :
    (∃ (c : Cmd) (s : State), admitted s c 0x0901 = true) ∧
    (∃ (c : Cmd) (s : State), admitted s c 0x0910 = true) ∧
    (∃ (c : Cmd) (s : State), admitted s c 0x0A01 = true) ∧
    (∃ (c : Cmd) (s : State), admitted s c 0x0112 = true) ∧
    (∃ (c : Cmd) (s : State), c.caller ≠ .tap ∧ gate s c 0x0101 = none ∧ itemsFault 0x0101 c.body = false) ∧
    (∃ (c : Cmd) (s : State), admitted s c 0x0205 = true ∧ s.kst.ready = true ∧ suspended s = false ∧ s.die.attestation.isSome = true ∧ c.value 1 = none ∧ c.value 0x12 = none) := ⟨
  ⟨ask 2 0x0901, up, by decide +kernel⟩,
  ⟨ask 2 0x0910, up, by decide +kernel⟩,
  ⟨ask 2 0x0A01, up, by decide +kernel⟩,
  ⟨ask 2 0x0112, up, by decide +kernel⟩,
  ⟨ask 0 0x0101, {}, by decide +kernel⟩,
  ⟨ask 4 0x0205, { up with die := { attestation := works.die.attestation } }, by decide +kernel⟩⟩

theorem witness_RegisterAccesses :
    (∃ (m : Master) (a : _) (v : _) (t : _) (s : State), a % 4 = 0 ∧ 2 ≤ blockRight m a ∧ sharedWrite (advance s t) m a v = none ∧ boxOf a = none ∧ writeBarred (advance s t) a = false ∧ ((secureOnly a = true → m.isSecure = true))) ∧
    (∃ (a : _) (size : _), (size ≠ 4 ∨ a % 4 ≠ 0)) ∧
    (∃ (f : Fin 1024) (off : _) (s : State), funcEnabled s f = true ∧ off % 4 = 0) ∧
    (∃ (m : _) (a : _) (t : _) (s : State) (v : _) (u' : _), a % 4 = 0 ∧ blockRight m a ≠ 0 ∧ boxOf a = none ∧ readValue (advance s t) a = some (v, u')) ∧
    (∃ (m : _) (a : _) (size : _), (size ≠ 4 ∨ a % 4 ≠ 0 ∨ blockRight m a = 0)) ∧
    (∃ (f : Fin 1024) (off : _) (t : _) (s : State) (v : _), funcEnabled s f = true ∧ off % 4 = 0 ∧ bar2Read (advance s t) f off = some v) ∧
    (∃ (s : State), i3cOn s = true) ∧
    (∃ (s : State), i3cOn s = true) ∧
    (∃ (s : State), i3cOn s = true) := ⟨
  ⟨.i3c, 0x10800, 0, 0, {}, rfl, by decide +kernel, rfl, rfl, by decide +kernel, by decide +kernel⟩,
  ⟨2, 4, by decide +kernel⟩,
  ⟨1023, 0x8000, { host := { vfs := 1023 } }, by decide +kernel⟩,
  ⟨.dap, 0x400000, 0, {}, 0x08000004, {}, rfl, by decide +kernel, rfl, by decide +kernel⟩,
  ⟨.i3c, 0x400000, 4, by decide +kernel⟩,
  ⟨1023, 8, 0, { host := { vfs := 1023 } }, 4095, by decide +kernel⟩,
  ⟨bus, by decide +kernel⟩,
  ⟨bus, by decide +kernel⟩,
  ⟨bus, by decide +kernel⟩⟩

theorem witness_CarriersTakeTheirCommands :
    (∃ (n : Fin 6) (s : State) (h : _) (rest : _), (mailbox s n).req.words = h :: rest ∧ (mailbox s n).outstanding.length < 16 ∧ (mailbox s n).moveTo = none ∧ firmwareRuns s = true ∧ bit h 12 = true ∧ bit h 13 = false ∧ (mailbox s n).assembly = none) ∧
    (∃ (f : Fin 1024) (q : Fin 4096) (t : _) (s : State) (j : RingJob), nextJob (advance s t) f q = some j ∧ j.opcode = 5 ∧ 28 ≤ j.bytes.length ∧ (funcDomain s f).isSome = true ∧ ringCommands.contains (leAt j.bytes 0 2) = true ∧ leAt j.bytes 2 2 = 0 ∧ leAt j.bytes 4 4 ≤ 65536) ∧
    (∃ (p : Fin 4) (t : _) (s : State), normalRuns (advance s t) p = true ∧ callOf s p = none ∧ secureUp s = false) ∧
    (∃ (p : Fin 4) (e : _) (a : _) (t : _) (s : State), normalRuns (advance s t) p = true ∧ callOf s p = none ∧ secureUp s = true ∧ callPage s a e.length = true ∧ formFault (e.take (leAt e 8 4)) = none ∧ envSession e = 0 ∧ isCommand (envCode (e.take (leAt e 8 4))) = true) ∧
    (∃ (a : _) (n : _) (t : _) (s : State), s.lcy.tap.ir = 0x21 ∧ dapFault (advance s t) a n false = none) ∧
    (∃ (a : _) (b : Bytes) (t : _) (s : State), s.lcy.tap.ir = 0x21 ∧ dapFault (advance s t) a b.length true = none) ∧
    (∃ (w : _) (t : _) (s : State), s.lcy.tap.ir = 0x21 ∧ hasRight (advance s t) (haltRight w) = true) ∧
    (∃ (w : _) (t : _) (s : State), s.lcy.tap.ir = 0x21 ∧ hasRight (advance s t) (haltRight w) = false) := ⟨
  ⟨5, { mbx := { boxes := [(5, { req := { words := [0x1000, 0] } })] } }, 0x1000, [0], by decide +kernel⟩,
  ⟨1, 1, 0, ring (rjob 5 (leBytes 8 (0x0201 + 65536 * 2 ^ 32) ++ zeros 20)), rjob 5 (leBytes 8 (0x0201 + 65536 * 2 ^ 32) ++ zeros 20), by decide +kernel⟩,
  ⟨3, 0, { wld := { normalUp := true } }, by decide +kernel⟩,
  ⟨3, infoCall, 0x100000000, 0, { up with wld := { secureUp := true, normalUp := true, pages := [(0, 1)] } }, by decide +kernel⟩,
  ⟨0, 1, 0, probe, by decide +kernel⟩,
  ⟨0, [], 0, probe, by decide +kernel⟩,
  ⟨true, 0, probe, by decide +kernel⟩,
  ⟨true, 0, { lcy := { state := 4, tap := { ir := 0x21 } } }, by decide +kernel⟩⟩

/-- Session `n` waits for its envelope of SEQUENCE 9. -/
def asked (n : Nat) : Mailbox := { desk with outstanding := [{ id := 6, tag := 0, code := 0x0410, seq := 9, domain := 1, session := n, macSession := 0, takenAt := 0 }] }

/-- Plain key attributes of a type and a length. -/
def attrs (ty n : Nat) : Attr := { type := ty, usage := 0xFF, length := n, domain := 1, origin := 0, exportable := false, quorum := false, session := false, maskRef := 0, curveIndex := 0, notAfter := 0, usesLeft := 0xFFFFFF }

/-- A digest job of an operation. -/
def digJob (op : Nat) : DigJob :=
  { id := 3, caller := .session 0 4, domain := 1, reply := .envelope 6, block := { op := op, algo := 0x10, flags := 0, outLen := 0, fragCount := 0, totalLen := 0, keyHandle := 0, destHandle := 0, destAttr := attrs 0 0, dataAddress := 0, reserved := 0, frags := [], expected := [] } }

/-- Digest engine `d` in a state, with contexts. -/
def dig (d : Nat) (x : Digest) : State := { id := { ready := 3, clk := 0xFF }, psg := { ports := [(1, { line := [hmacFrame] })] }, eng := { digests := [(d, x)], digestWait := [digJob 1] }, kst := { slots := [(0, { handle := 7, attr := attrs 4 32, value := zeros 32 })] } }
where
  /-- A frame under the HMAC key 7. -/
  hmacFrame : Held := { held .hmac with keyAttr := some (attrs 4 32), trailer := { keyRef := 7 } }

/-- A context of a user with nothing left to run. -/
def ctxOf (u : DigestUser) : Ctx := { user := u, algo := 0, blocks := 0, readyAt := 0 }

/-- Service engine `e` with a hold, in a state in which it is idle. -/
def mac (e : Nat) (h : Hold) : State := { up with eng := { svcs := [(e, { state := .idle, hold := some h, mask := { seed := some [] } })] } }

/-- A hold of session 4. -/
def hold4 : Hold := { user := userId (.session 0 4), caller := .session 0 4, ticket := 7, op := 0, algo := 0, tagLen := 16, handle := 3, key := some (zeros 16) }

/-- A segment job. -/
def segJob : SvcJob := { id := 3, caller := .session 0 4, domain := 1, reply := .log, block := { op := 0, algo := 0, flags := 0, engine := 0, ticket := 0, tagLen := 16, keyHandle := 3, iv := [], segLen := 0, fragCount := 0, listAddress := 0, tagAddress := 0, reserved := 0, frags := [], expected := [] } }

/-- The same as the last segment of a generated MAC. -/
def lastJob : SvcJob := { segJob with block := { segJob.block with op := 1, flags := 2 } }

/-- The hold of session 4 while a segment runs. -/
def runs (j : SvcJob) : Hold := { hold4 with running := some { job := j, startAt := 0, endAt := 1, blocks := 1, mismatch := false } }

theorem witness_EngineJobsAreSubmitted :
    (∃ (c : Cmd) (s : State), admitted s c 0x0410 = true ∧ c.body.bytes.length = 64) ∧
    (∃ (c : Cmd) (s : State), admitted s c 0x0401 = true ∧ c.body.bytes.length = 64) ∧
    (∃ (c : Cmd) (s : State), admitted s c 0x0220 = true ∧ (c.bytes 0x19).length ≠ 0 ∧ (c.bytes 0x19).length ≤ 64 ∧ (c.bytes 0x1A).length ≤ 256 ∧ 1 ≤ c.nat 0x18 ∧ c.nat 0x18 ≤ 4) := ⟨
  ⟨askRaw 4 (zeros 64), up, by decide +kernel⟩,
  ⟨askRaw 4 (zeros 64), up, by decide +kernel⟩,
  ⟨ask 3 0x0220 [it 0x18 1 4, it 0x19 64 1, it 0x1A 256 0], up, by decide +kernel⟩⟩

theorem witness_DigestContextsRun :
    (∃ (t : _) (s : State) (j : _) (rest : _) (d : _) (c : _), chooseCtx (advance s t) false = some (d, c) ∧ stopped s 1 = false ∧ s.eng.digestWait = j :: rest ∧ j.block.op = 1 ∧ j.block.keyHandle = 0 ∧ j.pke = none) ∧
    (∃ (t : _) (s : State) (r : _) (rest : _) (d : _) (c : _) (p : _) (h : _) (k : _), chooseCtx (advance s t) true = some (d, c) ∧ stopped s 1 = false ∧ suspended s = false ∧ s.psg.digestQ = r :: rest ∧ portOfFrame s r.frame = some p ∧ findHeld s p r.frame = some h ∧ h.stage = .hmac ∧ fetchKey s h = some k) ∧
    (∃ (s : State), suspended s = true) ∧
    (∃ (d : Fin 64) (t : _) (s : State) (c : _), stopped s 1 = false ∧ (digestEngine s d).state = .busy ∧ (digestEngine s d).current = some c ∧ (digestEngine s d).blockEnd ≤ (advance s t).now) ∧
    (∃ (d : Fin 64) (c : Fin 8) (t : _) (s : State) (x : _) (r : _) (p : _) (h : _), stopped s 0 = false ∧ stopped s 1 = false ∧ (digestEngine s d).ctxs.look c = some x ∧ x.done = none ∧ x.storing = false ∧ x.blocks = 0 ∧ x.readyAt ≤ (advance s t).now ∧ (digestEngine s d).current ≠ some c.val ∧ x.user = .passage r ∧ portOfFrame s r.frame = some p ∧ findHeld s p r.frame = some h ∧ h.stage = .hmac) ∧
    (∃ (d : Fin 64) (c : Fin 8) (t : _) (s : State) (x : _) (j : _), stopped s 1 = false ∧ (digestEngine s d).ctxs.look c = some x ∧ x.done = none ∧ x.storing = false ∧ x.blocks = 0 ∧ x.readyAt ≤ (advance s t).now ∧ (digestEngine s d).current ≠ some c.val ∧ x.user = .service j ∧ x.final = .ok ∧ j.block.op = 1 ∧ j.block.toSlot = false ∧ j.derive = none ∧ j.pke = none) ∧
    (∃ (d : Fin 64) (c : Fin 8) (t : _) (s : State) (x : _) (j : _), stopped s 1 = false ∧ (digestEngine s d).ctxs.look c = some x ∧ x.done = none ∧ x.storing = false ∧ x.blocks = 0 ∧ x.readyAt ≤ (advance s t).now ∧ (digestEngine s d).current ≠ some c.val ∧ x.user = .service j ∧ x.final = .ok ∧ j.block.op = 3 ∧ j.derive = none ∧ j.pke = none ∧ (hmac j.block.algo x.key x.msg).take j.block.outLen ≠ j.block.expected) := ⟨
  ⟨0, dig 63 { state := .idle }, digJob 1, [], 63, _, rfl, by decide +kernel⟩,
  ⟨0, { dig 63 { state := .idle } with psg := { digestQ := [{ frame := 5, part := 0 }], ports := [(1, { line := [dig.hmacFrame] })] } }, { frame := 5, part := 0 }, [], 63, _, 1, dig.hmacFrame, zeros 32, rfl, by decide +kernel⟩,
  ⟨{ lan := { severity := 2 } }, by decide +kernel⟩,
  ⟨63, 0, dig 63 { state := .busy, current := some 7, ctxs := [(7, ctxOf (.service (digJob 1)))] }, 7, by decide +kernel⟩,
  ⟨63, 7, 0, dig 63 { ctxs := [(7, ctxOf (.passage { frame := 5, part := 0 }))] }, ctxOf (.passage { frame := 5, part := 0 }), { frame := 5, part := 0 }, 1, dig.hmacFrame, by decide +kernel⟩,
  ⟨0, 7, 0, dig 0 { ctxs := [(7, ctxOf (.service (digJob 1)))] }, ctxOf (.service (digJob 1)), digJob 1, by decide +kernel⟩,
  ⟨0, 7, 0, dig 0 { ctxs := [(7, ctxOf (.service { digJob 3 with block := { (digJob 3).block with expected := [0] } }))] }, ctxOf (.service { digJob 3 with block := { (digJob 3).block with expected := [0] } }), { digJob 3 with block := { (digJob 3).block with expected := [0] } }, by decide +kernel⟩⟩

theorem witness_DigestCommandsAnswer :
    (∃ (c : Cmd) (s : State) (r : _), admitted s c 0x0411 = true ∧ jobRef s c.caller (c.nat 0x11) = some r ∧ digestPending s r = true) ∧
    (∃ (c : Cmd) (s : State) (x : _), admitted s c 0x0411 = true ∧ jobRef s c.caller (c.nat 0x11) = none ∧ (s.eng.results.reverse.find? fun x => x.caller == c.caller && x.seq == c.nat 0x11) = some x) ∧
    (∃ (c : Cmd) (s : State) (r : _) (j : _), admitted s c 0x0412 = true ∧ jobRef s c.caller (c.nat 0x11) = some r ∧ (source s 0).jobs = [] ∧ s.eng.digestWait.find? (·.reply == r) = some j) ∧
    (∃ (c : Cmd) (s : State), admitted s c 0x0412 = true ∧ jobRef s c.caller (c.nat 0x11) = none) ∧
    (∃ (c : Cmd) (s : State) (v : _), admitted s c 0x0420 = true ∧ c.regWrites = [(0x1800, v)] ∧ 2 ≤ field v 6 0 ∧ field v 6 0 ≤ 64) ∧
    (∃ (c : Cmd) (s : State) (v : _), admitted s c 0x0421 = true ∧ c.regWrites = [(0x8000, v)] ∧ 1 ≤ field v 13 0 ∧ field v 13 0 ≤ 10000) ∧
    (∃ (c : Cmd) (s : State) (v : _), admitted s c 0x0421 = true ∧ c.regWrites = [(0x8000, v)] ∧ (field v 13 0 = 0 ∨ 10000 < field v 13 0)) := ⟨
  ⟨ask 4 0x0411 [it 0x11 8 9], { up with mbx := { boxes := [(0, asked 4)] }, eng := { digestWait := [digJob 1] } }, .envelope 6, by decide +kernel⟩,
  ⟨ask 4 0x0411 [it 0x11 8 8], { up with mbx := { boxes := [(0, asked 4)] }, eng := { results := [{ caller := .session 0 4, seq := 8, block := [], result := [] }] } }, { caller := .session 0 4, seq := 8, block := [], result := [] }, by decide +kernel⟩,
  ⟨ask 4 0x0412 [it 0x11 8 9], { up with mbx := { boxes := [(0, asked 4)] }, eng := { digestWait := [digJob 1] } }, .envelope 6, digJob 1, by decide +kernel⟩,
  ⟨ask 4 0x0412 [it 0x11 8 8], { up with mbx := { boxes := [(0, asked 4)] } }, by decide +kernel⟩,
  ⟨ask 1 0x0420 [it 0x16 8 0x4000001800], up, 64, by decide +kernel⟩,
  ⟨ask 1 0x0421 [it 0x16 8 0x271000008000], up, 10000, by decide +kernel⟩,
  ⟨ask 1 0x0421 [it 0x16 8 0x271100008000], up, 10001, by decide +kernel⟩⟩

theorem witness_EngineFaultsAndTests :
    (∃ (m : Master) (d : Fin 64) (s : State), m.isSecure = true ∧ (digestEngine s d).state = .failed) ∧
    (∃ (m : Master), m.isSecure = false) ∧
    (∃ (m : Master) (d : Fin 64) (s : State), m.isSecure = true ∧ (digestEngine s d).state = .busy ∧ (digestEngine s d).ctxs ≠ []) ∧
    (∃ (m : Master) (d : Fin 64) (s : State), m.isSecure = true ∧ (digestEngine s d).state = .failed) ∧
    (∃ (d : Fin 64) (t : _) (s : State), bit s.id.ready 1 = true ∧ stopped s 1 = false ∧ ((digestEngine s d).state = .selfTest ∨ (digestEngine s d).state = .failed) ∧ testDue (advance s t) (digestEngine s d).testFrom 4096 = true) ∧
    (∃ (e : Fin 32) (t : _) (s : State), bit s.id.ready 1 = true ∧ stopped s 1 = false ∧ ((svc s e).state = .selfTest ∨ (svc s e).state = .failed) ∧ testDue (advance s t) (svc s e).testFrom 2048 = true) ∧
    (∃ (d : Fin 64) (s : State), (digestEngine s d).state ≠ .failed ∧ (digestEngine s d).state ≠ .offline) ∧
    (∃ (e : Fin 32) (s : State), (svc s e).state ≠ .failed ∧ (svc s e).state ≠ .offline) ∧
    (∃ (d : Fin 64) (t : _) (s : State), stopped s 1 = false ∧ (digestEngine s d).state = .idle ∧ (digestEngine s d).current = none ∧ katDue (advance s t) (digestEngine s d).katAt = true) ∧
    (∃ (e : Fin 32) (t : _) (s : State), stopped s 1 = false ∧ (svc s e).state = .idle ∧ katDue (advance s t) (svc s e).katAt = true) := ⟨
  ⟨.secure 0, 63, dig 63 { state := .failed }, by decide +kernel⟩,
  ⟨.pf0, by decide +kernel⟩,
  ⟨.secure 0, 63, dig 63 { state := .busy, ctxs := [(7, ctxOf (.service (digJob 1)))] }, by decide +kernel⟩,
  ⟨.secure 0, 63, dig 63 { state := .failed }, by decide +kernel⟩,
  ⟨63, 4096 * xclkT, dig 63 { testFrom := some 0 }, by decide +kernel⟩,
  ⟨31, 2048 * xclkT, { up with id := { ready := 3, clk := 0xFF }, eng := { svcs := [(31, { testFrom := some 0 })] } }, by decide +kernel⟩,
  ⟨63, {}, by decide +kernel⟩,
  ⟨31, {}, by decide +kernel⟩,
  ⟨63, 10 * msT, dig 63 { state := .idle }, by decide +kernel⟩,
  ⟨31, 10 * msT, mac 31 hold4, by decide +kernel⟩⟩

theorem witness_ServiceMacSegmentsAndLocks :
    (∃ (e : Fin 32) (t : _) (s : State) (h : _) (j : _) (rest : _) (k : _), (svc s e).hold = some h ∧ h.running = none ∧ h.queue = j :: rest ∧ h.key = some k ∧ suspended s = false ∧ katDue (advance s t) (svc s e).katAt = false ∧ (svc s e).state = .idle ∧ (svc s e).mask.seed.isSome = true ∧ starved (advance s t) (288 + e) = false ∧ stopped s 1 = false) ∧
    (∃ (e : Fin 32) (t : _) (s : State) (h : _) (r : _), stopped s 1 = false ∧ (svc s e).hold = some h ∧ h.running = some r ∧ r.endAt ≤ (advance s t).now ∧ r.mismatch = false ∧ r.job.block.last = false ∧ r.job.derive = none) ∧
    (∃ (e : Fin 32) (t : _) (s : State) (h : _) (r : _), stopped s 1 = false ∧ (svc s e).hold = some h ∧ h.running = some r ∧ r.endAt ≤ (advance s t).now ∧ r.mismatch = false ∧ r.job.block.last = true ∧ r.job.block.op = 1 ∧ r.job.derive = none ∧ h.queue = []) ∧
    (∃ (e : Fin 32) (t : _) (s : State) (h : _) (f : _), stopped s 1 = false ∧ (svc s e).hold = some h ∧ h.idleFrom = some f ∧ h.queue = [] ∧ f + idleLimit s ≤ (advance s t).now) ∧
    (∃ (c : Cmd) (s : State) (h : _), admitted s c 0x0402 = true ∧ leAt (c.bytes 0x10) 0 1 < 32 ∧ (svc s (leAt (c.bytes 0x10) 0 1)).hold = some h ∧ h.ticket = leAt (c.bytes 0x10) 2 2 ∧ h.user = userId c.caller ∧ h.running = none ∧ h.queue = []) ∧
    (∃ (c : Cmd) (s : State) (h : _), admitted s c 0x0402 = true ∧ leAt (c.bytes 0x10) 0 1 < 32 ∧ (svc s (leAt (c.bytes 0x10) 0 1)).hold = some h ∧ h.ticket = leAt (c.bytes 0x10) 2 2 ∧ h.user ≠ userId c.caller) ∧
    (∃ (m : Master) (e : Fin 32) (s : State) (h : _), m.isSecure = true ∧ (svc s e).hold = some h ∧ h.running = none ∧ h.queue = []) := ⟨
  ⟨31, 0, mac 31 { hold4 with queue := [segJob] }, { hold4 with queue := [segJob] }, segJob, [], zeros 16, by decide +kernel⟩,
  ⟨31, 1, mac 31 (runs segJob), runs segJob, { job := segJob, startAt := 0, endAt := 1, blocks := 1, mismatch := false }, by decide +kernel⟩,
  ⟨31, 1, mac 31 (runs lastJob), runs lastJob, { job := lastJob, startAt := 0, endAt := 1, blocks := 1, mismatch := false }, by decide +kernel⟩,
  ⟨31, 10 * msT, mac 31 { hold4 with idleFrom := some 0 }, { hold4 with idleFrom := some 0 }, 0, by decide +kernel⟩,
  ⟨ask 4 0x0402 [it 0x10 4 (31 + 7 * 65536)], mac 31 hold4, hold4, by decide +kernel⟩,
  ⟨ask 3 0x0402 [it 0x10 4 (31 + 7 * 65536)], mac 31 hold4, hold4, by decide +kernel⟩,
  ⟨.secure 0, 31, mac 31 hold4, hold4, by decide +kernel⟩⟩

/-- A verification job of session 4. -/
def pkeJobOf (op : Nat) : PkeJob :=
  { id := 3, caller := .session 0 4, domain := 1, reply := .envelope 6, block := { op := op, algo := 0x31, flags := 2, curveIndex := 0, hash := 0, sizeWords := 0, keyHandle := 0, destHandle := 0, destAttr := attrs 0 0, saltLen := 0, reserved := 0, operands := [] } }

/-- Core `n` as given, with a job bound to it where one is named. -/
def coreState (n : Nat) (x : Core) (b : List BoundJob := []) : State := { up with psg := { bound := b }, pke := { cores := [(n, x)] } }

/-- A run of Passage's job. -/
def runOf (u : CoreUser) (stop : Option Status) : CoreRun := { user := u, startAt := 0, cycles := 100, op := 2, algo := 0x31, key := [], stop := stop }

/-- A bound job of core 0. -/
def boundOf : BoundJob := { frame := 5, part := 0, core := 0, start := 0, finish := 0 }

/-- A curve record of a 160-bit field. -/
def curveRec : Bytes := leBytes 16 160 ++ leBytes 72 (2 ^ 159 + 1) ++ zeros 360

/-- Core 95 of the service pool idle, and a verification with its digests made waiting for it. -/
def stagedAt : State :=
  { coreState 95 { state := .idle } with pke := { cores := [(95, { state := .idle })], waiting := [{ pkeJobOf 2 with digests := [[], []] }], active := [0, 0, 0] } }

/-- Core 0 with the only part of frame 5 of port 1 bound to it. -/
def ownBound : State :=
  { laneState {} with psg := { bound := [boundOf], ports := [(1, { line := [signed] })] }, kst := { slots := [(0, { handle := 7, attr := attrs 0x72 32, value := zeros 32 })] }, pke := { cores := [(0, { state := .idle })] } }
where
  /-- The frame. -/
  signed : Held := { held (.signature [{ alg := 0x32, key := zeros 32, sig := zeros 64, state := .bound 0 }]) with keyAttr := some (attrs 0x72 32), trailer := { keyRef := 7 } }

theorem witness_PublicKeyJobsWaitAndStage :
    (∃ (c : Cmd) (s : State), admitted s c 0x0301 = true ∧ c.body.bytes.length = 64 + 16 * leAt c.body.bytes 0x20 1) ∧
    (∃ (c : Cmd) (s : State) (r : _) (j : _), admitted s c 0x0302 = true ∧ jobRef s c.caller (c.nat 0x11) = some r ∧ (source s 0).jobs = [] ∧ s.pke.waiting.find? (·.reply == r) = some j) ∧
    (∃ (c : Cmd) (s : State), admitted s c 0x0302 = true ∧ jobRef s c.caller (c.nat 0x11) = none) ∧
    (∃ (t : _) (s : State) (n : _) (j : _) (rest : _) (m : _) (k : _), stopped s 2 = false ∧ ((∀ c, (Machine.core s c).staged.all (·.key.isSome) = true)) ∧ (serviceCores (advance s t)).find? (fun n => (Machine.core s n).staged.isNone) = some n ∧ s.pke.waiting = j :: rest ∧ digestsDone j = true ∧ pkeKey (advance s t) j = .got m k ∧ drawSize j (jobCurve s j.block) = 0) := ⟨
  ⟨askRaw 4 (zeros 64), up, by decide +kernel⟩,
  ⟨ask 4 0x0302 [it 0x11 8 9], { up with mbx := { boxes := [(0, asked 4)] }, pke := { waiting := [pkeJobOf 2] } }, .envelope 6, pkeJobOf 2, by decide +kernel⟩,
  ⟨ask 4 0x0302 [it 0x11 8 8], up, by decide +kernel⟩,
  ⟨0, stagedAt, 95, { pkeJobOf 2 with digests := [[], []] }, [], 0, [], by decide +kernel, fun c => by by_cases h : 95 = c <;> simp [Machine.core, stagedAt, coreState, Tbl.get, Tbl.look, h], by decide +kernel, rfl, by decide +kernel, rfl, by decide +kernel⟩⟩

theorem witness_CoresRunTheirJobs :
    (∃ (n : Fin 96) (t : _) (s : State) (b : _) (p : _), stopped s 2 = false ∧ (Machine.core s n).state = .idle ∧ (Machine.core s n).running = none ∧ suspended s = false ∧ s.psg.bound.find? (·.core == n.val) = some b ∧ b.start ≤ (advance s t).now ∧ b.lentFrom = some p) ∧
    (∃ (n : Fin 96) (t : _) (s : State) (b : _) (p : _) (h : _) (x : _) (v : _), fetchKey s h = some v ∧ stopped s 2 = false ∧ (Machine.core s n).state = .idle ∧ (Machine.core s n).running = none ∧ suspended s = false ∧ s.psg.bound.find? (·.core == n.val) = some b ∧ b.start ≤ (advance s t).now ∧ b.lentFrom = none ∧ portOfFrame s b.frame = some p ∧ findHeld s p b.frame = some h ∧ partAt h b.part = some x) ∧
    (∃ (n : Fin 96) (s : State) (j : _) (k : _), stopped s 2 = false ∧ (Machine.core s n).state = .idle ∧ (Machine.core s n).running = none ∧ s.psg.bound.find? (·.core == n.val) = none ∧ (Machine.core s n).staged = some j ∧ j.key = some k) ∧
    (∃ (n : Fin 96) (t : _) (s : State) (r : _), stopped s 2 = false ∧ (Machine.core s n).running = some r ∧ r.stop = none ∧ r.startAt + r.cycles * nclkT = (advance s t).now) ∧
    (∃ (n : Fin 96) (t : _) (s : State) (r : _) (j : _), stopped s 2 = false ∧ (Machine.core s n).running = some r ∧ r.stop = none ∧ r.startAt + r.cycles * nclkT = (advance s t).now ∧ r.user = .service j ∧ j.curve = none ∧ hasDest j.block.op = false) ∧
    (∃ (n : Fin 96) (t : _) (s : State) (r : _), (Machine.core s n).running = some r ∧ (advance s t).now ≠ r.startAt + r.cycles * nclkT ∧ r.stop = none) ∧
    (∃ (n : Fin 96) (i : Fin 12) (t : _) (s : State) (r : _) (f : _) (p : _), stopped s 2 = false ∧ (Machine.core s n).running = some r ∧ r.stop = none ∧ r.startAt + r.cycles * nclkT = (advance s t).now ∧ rowFits r i = true ∧ r.user = .passage f p) ∧
    (∃ (n : Fin 96) (t : _) (s : State) (r : _) (f : _) (p : _), stopped s 2 = false ∧ (Machine.core s n).running = some r ∧ r.stop = none ∧ r.startAt + (r.cycles + 64) * nclkT ≤ (advance s t).now ∧ r.user = .passage f p) ∧
    (∃ (n : Fin 96) (t : _) (s : State) (r : _) (st : _) (f : _) (p : _), stopped s 2 = false ∧ (Machine.core s n).running = some r ∧ r.stop = some st ∧ r.stopAt + 2048 * nclkT ≤ (advance s t).now ∧ r.user = .passage f p ∧ (Machine.core s n).takeOffline = false) ∧
    (∃ (n : Fin 96) (t : _) (s : State) (r : _) (st : _) (j : _), stopped s 2 = false ∧ (Machine.core s n).running = some r ∧ r.stop = some st ∧ r.stopAt + 2048 * nclkT ≤ (advance s t).now ∧ r.user = .service j ∧ j.curve = none) ∧
    (∃ (n : Fin 96) (t : _) (s : State) (r : _) (st : _), (Machine.core s n).running = some r ∧ r.stop = some st ∧ (advance s t).now < r.stopAt + 2048 * nclkT) := ⟨
  ⟨0, 0, coreState 0 { state := .idle } [{ boundOf with lentFrom := some 1 }], { boundOf with lentFrom := some 1 }, 1, by decide +kernel⟩,
  ⟨0, 0, ownBound, boundOf, 1, ownBound.signed, { alg := 0x32, key := zeros 32, sig := zeros 64, state := .bound 0 }, _, rfl, by decide +kernel⟩,
  ⟨95, coreState 95 { state := .idle, staged := some { pkeJobOf 2 with key := some [] } }, { pkeJobOf 2 with key := some [] }, [], by decide +kernel⟩,
  ⟨95, 100 * nclkT, coreState 95 { state := .busy, running := some (runOf (.passage 5 0) none) }, runOf (.passage 5 0) none, by decide +kernel⟩,
  ⟨95, 100 * nclkT, coreState 95 { state := .busy, running := some (runOf (.service (pkeJobOf 2)) none) }, runOf (.service (pkeJobOf 2)) none, pkeJobOf 2, by decide +kernel⟩,
  ⟨95, 0, coreState 95 { state := .busy, running := some (runOf (.passage 5 0) none) }, runOf (.passage 5 0) none, by decide +kernel⟩,
  ⟨95, 11, 100 * nclkT, coreState 95 { state := .busy, running := some (runOf (.passage 5 0) none) }, runOf (.passage 5 0) none, 5, 0, by decide +kernel⟩,
  ⟨95, 164 * nclkT, coreState 95 { state := .busy, running := some (runOf (.passage 5 0) none) }, runOf (.passage 5 0) none, 5, 0, by decide +kernel⟩,
  ⟨95, 2048 * nclkT, coreState 95 { state := .zeroing, running := some (runOf (.passage 5 0) (some .ok)) }, runOf (.passage 5 0) (some .ok), .ok, 5, 0, by decide +kernel⟩,
  ⟨95, 2048 * nclkT, coreState 95 { state := .zeroing, running := some (runOf (.service (pkeJobOf 2)) (some .ok)) }, runOf (.service (pkeJobOf 2)) (some .ok), .ok, pkeJobOf 2, by decide +kernel⟩,
  ⟨95, 0, coreState 95 { state := .zeroing, running := some (runOf (.passage 5 0) (some .ok)) }, runOf (.passage 5 0) (some .ok), .ok, by decide +kernel⟩⟩

theorem witness_CoresTestAndSwitch :
    (∃ (n : Fin 96) (t : _) (s : State) (e : _), stopped s 2 = false ∧ ((Machine.core s n).state = .selfTest ∨ (Machine.core s n).state = .failed) ∧ coreTestEnd s n = some e ∧ e ≤ (advance s t).now) ∧
    (∃ (n : Fin 96) (s : State), stopped s 2 = false ∧ (Machine.core s n).moving = true ∧ (Machine.core s n).running = none ∧ (Machine.core s n).staged = none ∧ s.psg.bound.any (·.core == n.val) = false) ∧
    (∃ (m : Master) (n : Fin 96) (s : State), m.isSecure = true ∧ (Machine.core s n).state = .failed) ∧
    (∃ (m : Master), m.isSecure = false) ∧
    (∃ (m : Master) (n : Fin 96) (s : State) (r : _), m.isSecure = true ∧ (Machine.core s n).running = some r) ∧
    (∃ (m : Master) (n : Fin 96) (s : State), m.isSecure = true ∧ (Machine.core s n).running = none ∧ s.psg.bound = []) ∧
    (∃ (c : Cmd) (s : State), admitted s c 0x0340 = true ∧ c.nat 9 ≤ 95 ∧ (Machine.core s (c.nat 9)).state = .idle ∧ coreLoaded s (c.nat 9) = false) ∧
    (∃ (c : Cmd) (s : State), admitted s c 0x0340 = true ∧ c.nat 9 ≤ 95 ∧ (Machine.core s (c.nat 9)).state = .busy) := ⟨
  ⟨95, 1800000 * nclkT, coreState 95 { testFrom := some 0 }, 1800000 * nclkT, by decide +kernel⟩,
  ⟨95, coreState 95 { state := .idle, moving := true }, by decide +kernel⟩,
  ⟨.secure 0, 95, coreState 95 { state := .failed }, by decide +kernel⟩,
  ⟨.i3c, by decide +kernel⟩,
  ⟨.secure 0, 95, coreState 95 { state := .busy, running := some (runOf (.passage 5 0) none) }, runOf (.passage 5 0) none, by decide +kernel⟩,
  ⟨.secure 0, 95, coreState 95 { state := .idle }, by decide +kernel⟩,
  ⟨ask 2 0x0340 [it 9 1 95], coreState 95 { state := .idle }, by decide +kernel⟩,
  ⟨ask 2 0x0340 [it 9 1 95], coreState 95 { state := .busy }, by decide +kernel⟩⟩

theorem witness_PoolsAreCommitted :
    (∃ (c : Cmd) (s : State), admitted s c 0x0330 = true ∧ s.pke.target = none) ∧
    (∃ (c : Cmd) (s : State) (m : _), admitted s c 0x0330 = true ∧ s.pke.target = some m) ∧
    (∃ (c : Cmd) (s : State), admitted s c 0x0331 = true ∧ poolCheck { s with pke := { s.pke with grant := true } } = none) ∧
    (∃ (c : Cmd) (s : State) (st : _), admitted s c 0x0331 = true ∧ poolCheck { s with pke := { s.pke with grant := true } } = some st) ∧
    (∃ (c : Cmd) (s : State), admitted s c 0x0332 = true ∧ s.pke.target = none) ∧
    (∃ (m : Master) (s : State) (st : _), m.isSecure = true ∧ poolCheck s = some st) ∧
    (∃ (m : Master) (s : State), m.isSecure = true ∧ poolCheck s = none) ∧
    (∃ (m : Master) (s : State), m.isSecure = true ∧ s.pke.target = none) ∧
    (∃ (m : Master), m.isSecure = false) := ⟨
  ⟨ask 1 0x0330, up, by decide +kernel⟩,
  ⟨ask 1 0x0330, { up with pke := { target := some [1, 2, 3] } }, [1, 2, 3], by decide +kernel⟩,
  ⟨ask 1 0x0331, up, by decide +kernel⟩,
  ⟨ask 1 0x0331, { up with pke := { target := some [1, 2, 3] } }, .busyLocked, by decide +kernel⟩,
  ⟨ask 1 0x0332, up, by decide +kernel⟩,
  ⟨.secure 0, {}, .quorumMissing, by decide +kernel⟩,
  ⟨.secure 0, { pke := { grant := true } }, by decide +kernel⟩,
  ⟨.secure 0, {}, by decide +kernel⟩,
  ⟨.dap, by decide +kernel⟩⟩

theorem witness_CurvesAndPolicies :
    (∃ (c : Cmd) (s : State), admitted s c 0x0310 = true ∧ c.body.bytes.length = 448 ∧ curveFormed c.body.bytes = true ∧ (domain s c.domain).policy = 1 ∧ (s.pke.curves.free 0 256).isSome = true) ∧
    (∃ (c : Cmd) (s : State), admitted s c 0x0310 = true ∧ c.body.bytes.length ≠ 448) ∧
    (∃ (c : Cmd) (s : State), admitted s c 0x0311 = true ∧ leastOf (curveGate s c (c.nat 0x1D) ++ [(curveUsed s c.domain (c.nat 0x1D), .busyLocked)]) = none) ∧
    (∃ (c : Cmd) (s : State) (x : _), admitted s c 0x0312 = true ∧ leastOf (curveGate s c (c.nat 0x1D)) = none ∧ curve s (c.nat 0x1D) = some x) ∧
    (∃ (c : Cmd) (s : State), admitted s c 0x0320 = true ∧ c.nat 0x1C ≤ 1) ∧
    (∃ (c : Cmd) (s : State), admitted s c 0x0320 = true ∧ 1 < c.nat 0x1C) ∧
    (∃ (c : Cmd) (s : State), admitted s c 0x0321 = true) := ⟨
  ⟨{ askRaw 3 curveRec with domain := 1 }, { up with kst := { ready := true, domainsLoaded := true, domains := [(1, { state := .active, policy := 1 })] } }, by decide +kernel⟩,
  ⟨askRaw 3 (zeros 447), up, by decide +kernel⟩,
  ⟨ask 3 0x0311 [it 0x1D 1 255], { up with pke := { curves := [(255, { domain := 1, record := [] })] } }, by decide +kernel⟩,
  ⟨ask 4 0x0312 [it 0x1D 1 255], { up with pke := { curves := [(255, { domain := 1, record := [] })] } }, { domain := 1, record := [] }, by decide +kernel⟩,
  ⟨ask 3 0x0320 [it 0x1C 1 1], up, by decide +kernel⟩,
  ⟨ask 3 0x0320 [it 0x1C 1 2], up, by decide +kernel⟩,
  ⟨ask 4 0x0321, up, by decide +kernel⟩⟩

/-- Instance 7 with a request queued. -/
def drbgState (x : Instance) : State := { id := { clk := 0xFF }, rng := { katDone := true, fifo := [[1]], instances := [(7, x)] } }

/-- A request for mask generator 0. -/
def want : DrawReq := { who := .mask 0, size := 32 }

/-- The end of a known-answer test of instance 7 comes due. -/
def katWas (p : Bool) : State := { rng := { katStatus := 1, katUnit := 7, katRun := some { unit := 7, passes := p, endsAt := 1 } } }

theorem witness_NoiseCellsSample :
    (∃ (s : State), s.rng.sampling = true ∧ s.rng.katRun = none ∧ s.rng.testSource = false) ∧
    (∃ (s : State), s.rng.sampling = true ∧ s.rng.katRun = none ∧ s.rng.testSource = true) ∧
    (∃ (s : State), s.rng.sampling = false ∧ s.rng.katRun = none) ∧
    (∃ (t : _) (s : State) (k : _), s.rng.sampling = false ∧ s.rng.katRun = some k ∧ k.endsAt ≤ (advance s t).now ∧ k.passes = true) ∧
    (∃ (t : _) (s : State) (k : _), s.rng.sampling = false ∧ s.rng.katRun = some k ∧ k.endsAt ≤ (advance s t).now ∧ k.passes = false ∧ k.unit < 8 ∧ k.reply = none ∧ (inst s k.unit).priority = [] ∧ (inst s k.unit).normal = []) ∧
    (∃ (c : Fin 16) (s : State), (cell s c).spanPos = 65536) ∧
    (∃ (c : Fin 16) (s : State), (cell s c).spanPos ≠ 65536) := ⟨
  ⟨{ rng := { sampling := true } }, by decide +kernel⟩,
  ⟨{ rng := { sampling := true, testSource := true } }, by decide +kernel⟩,
  ⟨{}, by decide +kernel⟩,
  ⟨1, katWas true, { unit := 7, passes := true, endsAt := 1 }, by decide +kernel⟩,
  ⟨1, katWas false, { unit := 7, passes := false, endsAt := 1 }, by decide +kernel⟩,
  ⟨15, { rng := { cells := [(15, { spanPos := 65536 })] } }, by decide +kernel⟩,
  ⟨15, {}, by decide +kernel⟩⟩

theorem witness_InstancesServeAndReseed :
    (∃ (i : Fin 8) (s : State) (r : _) (p : _), stopped s 1 = false ∧ s.rng.katRun = none ∧ (inst s i).state = 1 ∧ s.rng.failed = false ∧ s.rng.testSource = false ∧ nextDraw (inst s i) = some (r, p) ∧ 2 ^ 24 < (inst s i).calls + callsFor r.size ∧ r.got = []) ∧
    (∃ (i : Fin 8) (s : State) (r : _) (p : _), stopped s 1 = false ∧ s.rng.katRun = none ∧ (inst s i).state = 1 ∧ s.rng.failed = false ∧ s.rng.testSource = false ∧ nextDraw (inst s i) = some (r, p) ∧ (inst s i).calls + callsFor r.size ≤ 2 ^ 24 ∧ r.got = [] ∧ r.size ≤ 512) ∧
    (∃ (s : State), s.rng.katRun = none ∧ s.rng.failed = true) ∧
    (∃ (i : Fin 8) (s : State) (e : _) (rest : _), stopped s 1 = false ∧ s.rng.katRun = none ∧ seedNext s = some i.val ∧ s.rng.fifo = e :: rest ∧ s.rng.katDone = true ∧ s.rng.failed = false) ∧
    (∃ (s : State), s.rng.katRun = none ∧ s.rng.fifo = []) := ⟨
  ⟨7, drbgState { state := 1, calls := 2 ^ 24, normal := [want] }, want, false, by decide +kernel⟩,
  ⟨7, drbgState { state := 1, calls := 2 ^ 24 - 1, priority := [want] }, want, true, by decide +kernel⟩,
  ⟨{ rng := { failed := true } }, by decide +kernel⟩,
  ⟨7, { id := { clk := 0xFF }, rng := { katDone := true, fifo := [[1]], instances := (List.range 7).map (fun i => (i, { state := 1 })) ++ [(7, { state := 1, askedAt := some 3 })] } }, [1], [], by decide +kernel⟩,
  ⟨{}, by decide +kernel⟩⟩

theorem witness_RngStartsAndIsTested :
    (∃ (s : State), stopped s 1 = false ∧ s.rng.katRun = none ∧ s.rng.testSource = false ∧ s.rng.katDone = true ∧ s.rng.failed = false ∧ ((∀ c < 16, (cell s c).state ≠ 0))) ∧
    (∃ (s : State), stopped s 1 = false ∧ s.rng.katRun = none ∧ s.rng.testSource = false ∧ s.rng.katDone = false) ∧
    (∃ (t : _) (s : State), bit s.id.ready 3 = false ∧ s.rng.testSource = false ∧ s.rng.resumed = false ∧ s.id.bootAt + 8 * msT ≤ (advance s t).now) ∧
    (∃ (s : State), bit s.id.ready 3 = true) ∧
    (∃ (m : Master) (k : _) (s : State), m.isSecure = true ∧ k ≤ 8 ∧ s.rng.katRun = none) ∧
    (∃ (m : Master), m.isSecure = false) ∧
    (∃ (m : Master) (s : State), m.isSecure = true ∧ s.lcy.state = 2) ∧
    (∃ (m : Master) (s : State), (m.isSecure = false ∨ s.lcy.state ≠ 2)) := ⟨
  ⟨{ id := { clk := 2 }, rng := { katDone := true, cells := (List.range 16).map fun i => (i, { state := 1 }) } }, by decide +kernel⟩,
  ⟨{ id := { clk := 2 } }, by decide +kernel⟩,
  ⟨8 * msT, {}, by decide +kernel⟩,
  ⟨{ id := { ready := 9 } }, by decide +kernel⟩,
  ⟨.secure 0, 8, {}, by decide +kernel⟩,
  ⟨.pf0, by decide +kernel⟩,
  ⟨.secure 0, { lcy := { state := 2 } }, by decide +kernel⟩,
  ⟨.secure 0, {}, by decide +kernel⟩⟩

theorem witness_RngCommandsAnswer :
    (∃ (c : Cmd) (s : State), admitted s c 0x0501 = true ∧ 1 ≤ c.nat 0x1B ∧ c.nat 0x1B ≤ 4096) ∧
    (∃ (c : Cmd) (s : State), admitted s c 0x0501 = true ∧ (c.nat 0x1B = 0 ∨ 4096 < c.nat 0x1B)) ∧
    (∃ (c : Cmd) (s : State) (v : _), admitted s c 0x0511 = true ∧ c.regWrites = [(8, v)] ∧ 1 ≤ field v 14 0 ∧ field v 14 0 ≤ 16384) ∧
    (∃ (c : Cmd) (s : State), admitted s c 0x0512 = true ∧ c.nat 0x0A ≤ 15 ∧ (cell s (c.nat 0x0A)).state = 2) ∧
    (∃ (c : Cmd) (s : State), admitted s c 0x0512 = true ∧ (15 < c.nat 0x0A ∨ (cell s (c.nat 0x0A)).state ≠ 2)) ∧
    (∃ (c : Cmd) (s : State), admitted s c 0x0513 = true ∧ c.nat 0x0B ≤ 8 ∧ s.rng.katRun = none) ∧
    (∃ (c : Cmd) (s : State), admitted s c 0x0513 = true ∧ s.rng.katRun.isSome = true) ∧
    (∃ (c : Cmd) (s : State), admitted s c 0x0514 = true ∧ s.lcy.state = 2 ∧ c.value 0x37 = none) ∧
    (∃ (c : Cmd) (s : State), admitted s c 0x0514 = true ∧ s.lcy.state ≠ 2) := ⟨
  ⟨askFirm 0x0501 [it 0x1B 4 4096], works, by decide +kernel⟩,
  ⟨askFirm 0x0501 [it 0x1B 4 4097], works, by decide +kernel⟩,
  ⟨ask 1 0x0511 [it 0x16 8 0x400000000008], up, 0x4000, by decide +kernel⟩,
  ⟨ask 2 0x0512 [it 0x0A 1 15], { up with rng := { cells := [(15, { state := 2 })] } }, by decide +kernel⟩,
  ⟨ask 2 0x0512 [it 0x0A 1 15], up, by decide +kernel⟩,
  ⟨ask 2 0x0513 [it 0x0B 1 8], up, by decide +kernel⟩,
  ⟨ask 2 0x0513 [it 0x0B 1 8], { up with rng := { katRun := some { unit := 8, passes := true, endsAt := 1 } } }, by decide +kernel⟩,
  ⟨ask 1 0x0514, { up with lcy := { state := 2 } }, by decide +kernel⟩,
  ⟨ask 1 0x0514, works, by decide +kernel⟩⟩

/-- A change that erases the key `key1`. -/
def erase1 : VaultChange := { ops := [.eraseKey key1], reply := none }

/-- The vault at work, with the key `key1` in it and a change that erases it waiting. -/
def erasing : State :=
  { works with geo := { state := .normal, gathered := [erase1] }, flash := { works.flash with objects := [(key1, { attr := aesAttr, value := zeros 16 })] } }

/-- A mount that finds a matching target on each channel, and the committed root of epoch 1. -/
def mountAll : MountFacts :=
  { targets := (List.range 8).map fun c => { channel := c, number := 0, maker := 1, model := 1, pageSize := 16384, spareBytes := 1536, luns := 1, blocks := 1024, planes := 2, pagesPerBlock := 256, lpddr4 := 24, ddr3 := 12 },
    trainsLpddr4 := 0xFF, trainsDdr3 := 0, found := some (1, zeros 48), nodes := .good }

/-- A device whose vault mounts, with an anchor of epoch 1. -/
def mounts : State :=
  { works with geo := { state := .mounting }, bb := { anchor0 := { epoch := 1, root := zeros 48 } } }

theorem witness_VaultCommits :
    (∃ (t : _) (s : State) (kept : _) (x : _), judgeChanges (advance s t) (fitStripe 0 s.geo.gathered).1 (flashContent s.flash) = (kept, [], x) ∧ stopped s 1 = false ∧ s.geo.committing = [] ∧ s.geo.gathered ≠ [] ∧ (s.geo.gathered.all fun c => (replicatedIn s c).isNone) = true ∧ secureUp s = true ∧ s.geo.state = .normal ∧ (anchorNow s.bb).epoch < 2 ^ 64 - 1 ∧ kept ≠ []) ∧
    (∃ (s : State), s.geo.committing ≠ [] ∧ (s.geo.gathered.all fun c => (replicatedIn s c).isNone) = true) ∧
    (∃ (s : State) (x : _), stopped s 1 = false ∧ s.flash.next = some x) ∧
    (∃ (s : State), s.flash.next = none) := ⟨
  ⟨0, erasing, _, _, rfl, by decide +kernel⟩,
  ⟨{ works with geo := { state := .normal, committing := [erase1] } }, by decide +kernel⟩,
  ⟨{ id := { clk := 0xFF }, flash := { next := some (flashContent {}) } }, flashContent {}, by decide +kernel⟩,
  ⟨{}, by decide +kernel⟩⟩

theorem witness_VaultMountsAndFormats :
    (∃ (s : State), s.geo.state ≠ .mounting) ∧
    (∃ (s : State), stopped s 1 = false ∧ s.geo.state = .mounting ∧ s.kst.root = none ∧ s.geo.remount = none) ∧
    (∃ (f : _) (s : State), stopped s 1 = false ∧ s.geo.state = .mounting ∧ s.kst.root.isSome = true ∧ s.geo.remount = none ∧ (anchorNow s.bb).epoch ≠ 0 ∧ s.bb.integrity = none ∧ f.found = some ((anchorNow s.bb).epoch, (anchorNow s.bb).root) ∧ f.nodes = .good ∧ 7 ≤ ((List.range 8).filter fun c => (mountChannel s f c).state == 1 || (mountChannel s f c).state == 2).length) ∧
    (∃ (c : Cmd) (s : State), admitted s c 0x0603 = true ∧ (s.geo.state = .notMounted ∨ s.geo.state = .integrityFailed) ∧ s.kst.ready = true) ∧
    (∃ (c : Cmd) (s : State), admitted s c 0x0603 = true ∧ s.geo.state = .normal) ∧
    (∃ (c : Cmd) (s : State), admitted s c 0x0602 = true ∧ formatGate s (c.nat 0x28) = none) ∧
    (∃ (c : Cmd) (s : State), admitted s c 0x0602 = true ∧ formatGate s (c.nat 0x28) = some .lifecycleForbids) := ⟨
  ⟨{}, by decide +kernel⟩,
  ⟨{ id := { clk := 0xFF }, geo := { state := .mounting } }, by decide +kernel⟩,
  ⟨mountAll, mounts, by decide +kernel⟩,
  ⟨ask 2 0x0603, up, by decide +kernel⟩,
  ⟨ask 2 0x0603, works, by decide +kernel⟩,
  ⟨ask 1 0x0602 [it 0x28 1 20], { works with kst := { ready := true, domainsLoaded := true, root := some (zeros 32) } }, by decide +kernel⟩,
  ⟨ask 1 0x0602 [it 0x28 1 7], { works with lcy := { state := 2 }, kst := { ready := true, domainsLoaded := true, root := some (zeros 32) } }, by decide +kernel⟩⟩

theorem witness_FlashFailuresAndScrub :
    (∃ (s : State), stopped s 1 = false ∧ vaultServes s = true ∧ scrubMbps s ≠ 0) ∧
    (∃ (s : State), stopped s 1 = false ∧ vaultServes s = true ∧ scrubMbps s ≠ 0) ∧
    (∃ (s : State), 0 < s.flash.spareLeft) ∧
    (∃ (s : State), s.flash.spareLeft = 0 ∧ s.geo.state = .normal) ∧
    (∃ (c : Fin 8) (t : _) (s : State), (channel s c).state = 1 ∧ s.geo.state = .normal ∧ 7 ≤ usableChannels (updChannel (advance s t) c fun x => { x with state := 3 })) ∧
    (∃ (c : Fin 8) (t : _) (s : State), (channel s c).state = 1 ∧ s.geo.state = .normal ∧ usableChannels (updChannel (advance s t) c fun x => { x with state := 3 }) ≤ 6) ∧
    (∃ (c : Cmd) (s : State) (v : _), admitted s c 0x0604 = true ∧ c.regWrites = [(4, v)] ∧ field v 13 0 ≤ 10000) ∧
    (∃ (c : Cmd) (s : State) (v : _), admitted s c 0x0604 = true ∧ c.regWrites = [(4, v)] ∧ 10000 < field v 13 0) ∧
    (∃ (c : Cmd) (s : State), admitted s c 0x0605 = true) := ⟨
  ⟨works, by decide +kernel⟩,
  ⟨works, by decide +kernel⟩,
  ⟨works, by decide +kernel⟩,
  ⟨{ geo := { state := .normal } }, by decide +kernel⟩,
  ⟨7, 0, works, by decide +kernel⟩,
  ⟨7, 0, { works with geo := { state := .normal, channels := (List.range 6).map (fun c => (c, { state := 1 })) ++ [(7, { state := 1 })] } }, by decide +kernel⟩,
  ⟨ask 1 0x0604 [it 0x16 8 0x271000000004], works, 10000, by decide +kernel⟩,
  ⟨ask 1 0x0604 [it 0x16 8 0x271100000004], works, 10001, by decide +kernel⟩,
  ⟨ask 2 0x0605, works, by decide +kernel⟩⟩

/-- A transport of session 4. -/
def transport : Transport := { id := 7, owner := .session 0 4, domain := 1, offer := [], kemSecret := [], xSecret := [], openedAt := 0 }

/-- The transport open. -/
def carrying : State := { works with kst := { works.kst with transports := [transport] } }

/-- The head of a key blob of the key after `key1` over transport 7: its attribute word and its length. -/
def blobHead (attr n : Nat) : Bytes := leBytes 4 0x50574B53 ++ leBytes 2 1 ++ leBytes 2 n ++ leBytes 4 7 ++ leBytes 4 1 ++ leBytes 16 attr ++ leBytes 4 (key1 + 1) ++ zeros 12

/-- The attribute word of an AES key of domain 1, and of a P-256 private key. -/
def blobAes : Nat := 0xFFFFFF000000000000000100100C01
/-- The attribute word of a P-256 private key of domain 1. -/
def blobEc : Nat := 0xFFFFFF000000000000000100200141

/-- A key blob with zeros for ciphertext and tag. -/
def blob : Bytes := blobHead blobAes 16 ++ zeros 32

/-- A key blob that seals `n` zeros under the empty key. -/
def sealedBlob (attr n : Nat) : Bytes :=
  blobHead attr n ++ ((gcmSeal [] (zeros 12) (blobHead attr n) (zeros n)).1 ++ (gcmSeal [] (zeros 12) (blobHead attr n) (zeros n)).2)

/-- The transport agreed by session 3 under the empty key. -/
def agreed : State :=
  { carrying with kst := { carrying.kst with transports := [{ transport with owner := .session 0 3, key := some [] }], root := some (zeros 32) } }

theorem parted (a b : Bytes) (n : Nat) (ha : a.length = n) (hb : b.length = 16) :
    (a ++ b).take n = a ∧ ((a ++ b).drop n).take 16 = b := by
  subst ha
  simp [← hb]

theorem sealedBlob_aes : blobKey agreed (readBlob (sealedBlob blobAes 16)) = some (zeros 16) := by
  obtain ⟨e, f⟩ := parted (gcmSeal [] (zeros 12) (blobHead blobAes 16) (zeros 16)).1 (gcmSeal [] (zeros 12) (blobHead blobAes 16) (zeros 16)).2 16 ((gcmSeal_length ..).trans (zeros_length _)) (gcmTag_length ..)
  change gcmOpen [] (zeros 12) (blobHead blobAes 16) (List.take 16 ((gcmSeal [] (zeros 12) (blobHead blobAes 16) (zeros 16)).1 ++ (gcmSeal [] (zeros 12) (blobHead blobAes 16) (zeros 16)).2)) (List.take 16 (List.drop 16 ((gcmSeal [] (zeros 12) (blobHead blobAes 16) (zeros 16)).1 ++ (gcmSeal [] (zeros 12) (blobHead blobAes 16) (zeros 16)).2))) = _
  rw [e, f, gcmOpen_gcmSeal]

theorem sealedBlob_ec : blobKey agreed (readBlob (sealedBlob blobEc 32)) = some (zeros 32) := by
  obtain ⟨e, f⟩ := parted (gcmSeal [] (zeros 12) (blobHead blobEc 32) (zeros 32)).1 (gcmSeal [] (zeros 12) (blobHead blobEc 32) (zeros 32)).2 32 ((gcmSeal_length ..).trans (zeros_length _)) (gcmTag_length ..)
  change gcmOpen [] (zeros 12) (blobHead blobEc 32) (List.take 32 ((gcmSeal [] (zeros 12) (blobHead blobEc 32) (zeros 32)).1 ++ (gcmSeal [] (zeros 12) (blobHead blobEc 32) (zeros 32)).2)) (List.take 16 (List.drop 32 ((gcmSeal [] (zeros 12) (blobHead blobEc 32) (zeros 32)).1 ++ (gcmSeal [] (zeros 12) (blobHead blobEc 32) (zeros 32)).2))) = _
  rw [e, f, gcmOpen_gcmSeal]

theorem sealedBlob_aes_passes : importGate agreed (askRaw 3 (sealedBlob blobAes 16)) (askRaw 3 (sealedBlob blobAes 16)).body.bytes.length (readBlob (sealedBlob blobAes 16)) = none := by
  have h : (askRaw 3 (sealedBlob blobAes 16)).body.bytes.length = 80 := by
    change (blobHead blobAes 16 ++ _).length = 80
    rw [List.length_append, List.length_append, gcmSeal_length, zeros_length]
    change _ + (16 + (gcmTag ..).length) = 80
    rw [gcmTag_length]
    decide +kernel
  rw [h]
  decide +kernel

theorem sealedBlob_ec_passes : importGate agreed (askRaw 3 (sealedBlob blobEc 32)) (askRaw 3 (sealedBlob blobEc 32)).body.bytes.length (readBlob (sealedBlob blobEc 32)) = none := by
  have h : (askRaw 3 (sealedBlob blobEc 32)).body.bytes.length = 96 := by
    change (blobHead blobEc 32 ++ _).length = 96
    rw [List.length_append, List.length_append, gcmSeal_length, zeros_length]
    change _ + (32 + (gcmTag ..).length) = 96
    rw [gcmTag_length]
    decide +kernel
  rw [h]
  decide +kernel

theorem witness_KeysAreMadeNarrowedAndErased :
    (∃ (c : Cmd) (s : State) (v : _) (b : Bytes), draw s 1 false (attrOf (c.bytes 3)).length = (v, .ok b) ∧ admitted s c 0x0201 = true ∧ generateGate s c (c.nat 2) { attrOf (c.bytes 3) with origin := 0 } = none) ∧
    (∃ (c : Cmd) (s : State) (st : _), admitted s c 0x0201 = true ∧ generateGate s c (c.nat 2) { attrOf (c.bytes 3) with origin := 0 } = some st) ∧
    (∃ (c : Cmd) (s : State) (a : _), admitted s c 0x0202 = true ∧ changeKeyGate s c (c.nat 1) (fun _ => memberKey s (c.nat 1)) = none ∧ keyAttr s (c.nat 1) = some a ∧ a.quorum = false ∧ outsideVault (c.nat 1) a = true) ∧
    (∃ (c : Cmd) (s : State) (a : _), admitted s c 0x0202 = true ∧ changeKeyGate s c (c.nat 1) (fun _ => memberKey s (c.nat 1)) = none ∧ keyAttr s (c.nat 1) = some a ∧ a.quorum = false ∧ outsideVault (c.nat 1) a = false) ∧
    (∃ (c : Cmd) (s : State) (a : _), admitted s c 0x0203 = true ∧ changeKeyGate s c (c.nat 1) (fun _ => false) = none ∧ keyAttr s (c.nat 1) = some a ∧ a.quorum = false ∧ narrows a { attrOf (c.bytes 3) with origin := a.origin } = true) ∧
    (∃ (c : Cmd) (s : State) (a : _), admitted s c 0x0203 = true ∧ changeKeyGate s c (c.nat 1) (fun _ => false) = none ∧ keyAttr s (c.nat 1) = some a ∧ narrows a { attrOf (c.bytes 3) with origin := a.origin } = false) ∧
    (∃ (c : Cmd) (s : State) (a : _), admitted s c 0x0204 = true ∧ s.kst.ready = true ∧ s.lan.severity < 4 ∧ handleDomain (c.nat 1) = c.domain ∧ keyAttr s (c.nat 1) = some a) := ⟨
  ⟨ask 3 0x0201 [it 2 4 (key1 + 1), it 3 16 0xFFFFFF000000000000000100100C01], works, _, _, rfl, by decide +kernel⟩,
  ⟨ask 3 0x0201 [it 2 4 key1, it 3 16 0xFFFFFF000000000000000100100C01], works, .invalidParameter, by decide +kernel⟩,
  ⟨ask 3 0x0202 [it 1 4 key1], { works with kst := { works.kst with slots := [(0, { handle := key1, attr := { aesAttr with session := true }, value := zeros 16 })] } }, { aesAttr with session := true }, by decide +kernel⟩,
  ⟨ask 3 0x0202 [it 1 4 key1], works, aesAttr, by decide +kernel⟩,
  ⟨ask 3 0x0203 [it 1 4 key1, it 3 16 0xFFFFFF000000000000000100100401], works, aesAttr, by decide +kernel⟩,
  ⟨ask 3 0x0203 [it 1 4 key1, it 3 16 0xFFFFFF000000000000000100101C01], works, aesAttr, by decide +kernel⟩,
  ⟨ask 4 0x0204 [it 1 4 key1], works, aesAttr, by decide +kernel⟩⟩

theorem witness_TransportsOpenAndClose :
    (∃ (c : Cmd) (s : State), admitted s c 0x0206 = true ∧ s.kst.ready = true ∧ s.die.attestation.isSome = true) ∧
    (∃ (c : Cmd) (s : State) (v : _) (b : Bytes), draw s 1 false 128 = (v, .ok b) ∧ admitted s c 0x0210 = true ∧ s.kst.ready = true ∧ suspended s = false ∧ s.die.attestation.isSome = true ∧ s.kst.transports.length < 8) ∧
    (∃ (c : Cmd) (s : State), admitted s c 0x0210 = true ∧ s.kst.ready = true ∧ suspended s = false ∧ s.die.attestation.isSome = true ∧ 8 ≤ s.kst.transports.length) ∧
    (∃ (c : Cmd) (s : State) (t : _), admitted s c 0x0211 = true ∧ s.kst.ready = true ∧ suspended s = false ∧ findTransport s (c.nat 0x12) = some t ∧ t.owner = c.caller ∧ t.key = none) ∧
    (∃ (c : Cmd) (s : State) (t : _), admitted s c 0x0213 = true ∧ s.kst.ready = true ∧ findTransport s (c.nat 0x12) = some t ∧ t.owner = c.caller) ∧
    (∃ (c : Cmd) (s : State) (t : _), admitted s c 0x0213 = true ∧ s.kst.ready = true ∧ findTransport s (c.nat 0x12) = some t ∧ t.owner ≠ c.caller) ∧
    (∃ (id : _) (t : _) (s : State) (x : _), findTransport s id = some x ∧ x.openedAt + 600 * secT ≤ (advance s t).now) ∧
    (∃ (id : _) (t : _) (s : State) (x : _), findTransport s id = some x ∧ (advance s t).now < x.openedAt + 600 * secT) := ⟨
  ⟨ask 4 0x0206, works, by decide +kernel⟩,
  ⟨ask 3 0x0210, works, _, _, rfl, by decide +kernel⟩,
  ⟨ask 3 0x0210, { works with kst := { works.kst with transports := List.replicate 8 transport } }, by decide +kernel⟩,
  ⟨{ ask 3 0x0211 [it 0x12 4 7] with caller := .session 0 3 }, { carrying with kst := { carrying.kst with transports := [{ transport with owner := .session 0 3 }] } }, { transport with owner := .session 0 3 }, by decide +kernel⟩,
  ⟨ask 3 0x0213 [it 0x12 4 7], { carrying with kst := { carrying.kst with transports := [{ transport with owner := .session 0 3 }] } }, { transport with owner := .session 0 3 }, by decide +kernel⟩,
  ⟨ask 3 0x0213 [it 0x12 4 7], carrying, transport, by decide +kernel⟩,
  ⟨7, 600 * secT, carrying, transport, by decide +kernel⟩,
  ⟨7, 600 * secT - 1, carrying, transport, by decide +kernel⟩⟩

theorem witness_KeysAreImportedAndExported :
    (∃ (c : Cmd) (s : State) (b : _), admitted s c 0x0212 = true ∧ s.kst.ready = true ∧ suspended s = false ∧ b = readBlob c.body.bytes ∧ importGate s c c.body.bytes.length b = none) ∧
    (∃ (c : Cmd) (s : State) (b : _) (k : _), admitted s c 0x0212 = true ∧ s.kst.ready = true ∧ suspended s = false ∧ b = readBlob c.body.bytes ∧ importGate s c c.body.bytes.length b = none ∧ blobKey s b = some k ∧ keyExcluded (((s.pke.curves.look b.attr.curveIndex).map (·.record)).getD []) b.attr.type k = true) ∧
    (∃ (c : Cmd) (s : State) (b : _) (k : _), admitted s c 0x0212 = true ∧ s.kst.ready = true ∧ suspended s = false ∧ b = readBlob c.body.bytes ∧ importGate s c c.body.bytes.length b = none ∧ blobKey s b = some k ∧ keyExcluded (((s.pke.curves.look b.attr.curveIndex).map (·.record)).getD []) b.attr.type k = false ∧ rootNeeded s b.attr = false ∧ roomGate s b.handle b.attr k.length = none ∧ outsideVault b.handle b.attr = false) ∧
    (∃ (c : Cmd) (s : State) (st : _), admitted s c 0x0212 = true ∧ s.kst.ready = true ∧ suspended s = false ∧ importGate s c c.body.bytes.length (readBlob c.body.bytes) = some st) ∧
    (∃ (c : Cmd) (s : State) (i : _) (x : _), admitted s c 0x0214 = true ∧ slotOf s (c.nat 1) = some (i, x) ∧ x.attr.usesLeft = unlimited) ∧
    (∃ (c : Cmd) (s : State), admitted s c 0x0214 = true ∧ slotOf s (c.nat 1) = none) ∧
    (∃ (c : Cmd) (s : State), admitted s c 0x0214 = true ∧ s.kst.ready = false) := ⟨
  ⟨askRaw 3 blob, agreed, readBlob blob, by decide +kernel⟩,
  ⟨askRaw 3 (sealedBlob blobEc 32), agreed, readBlob (sealedBlob blobEc 32), zeros 32, by decide +kernel, by decide +kernel, by decide +kernel, rfl, sealedBlob_ec_passes, sealedBlob_ec, by decide +kernel⟩,
  ⟨askRaw 3 (sealedBlob blobAes 16), agreed, readBlob (sealedBlob blobAes 16), zeros 16, by decide +kernel, by decide +kernel, by decide +kernel, rfl, sealedBlob_aes_passes, sealedBlob_aes, by decide +kernel, by decide +kernel, by decide +kernel, by decide +kernel⟩,
  ⟨askRaw 3 blob, carrying, .invalidParameter, by decide +kernel⟩,
  ⟨ask 3 0x0214 [it 1 4 key1], works, 0, { handle := key1, attr := aesAttr, value := zeros 16 }, by decide +kernel⟩,
  ⟨ask 3 0x0214 [it 1 4 (key1 + 1)], works, by decide +kernel⟩,
  ⟨ask 3 0x0214, { works with kst := { domainsLoaded := true } }, by decide +kernel⟩⟩

/-- An officer's key item: number, Ed25519, 32 bytes. -/
def officerItem (n : Nat) : Item := { type := 0x1E, value := [BitVec.ofNat 8 n, 0x32, 0, 0] ++ zeros 32 }

/-- The device at work with no domain but 0 on record. -/
def alone : State := { works with kst := { works.kst with domains := [(0, someDomain)] } }

/-- A nonce of domain 0. -/
def nonce0 : Nonce := { value := zeros 32, domain := 0, code := 0, digest := [], deadline := 0, opener := .session 0 1 }

theorem witness_DomainsAreMadeReadAndDestroyed :
    (∃ (c : Cmd) (s : State), admitted s c 0x0230 = true ∧ createGate s c = none ∧ drawWaits s 1 32 = false) ∧
    (∃ (c : Cmd) (s : State) (st : _), admitted s c 0x0230 = true ∧ createGate s c = some st) ∧
    (∃ (c : Cmd) (s : State), admitted s c 0x0231 = true ∧ s.kst.ready = true ∧ s.kst.domainsLoaded = true ∧ s.lan.severity < 4 ∧ c.nat 4 ≠ 0 ∧ (domain s (c.nat 4)).state = .active ∧ changeGate s = none) ∧
    (∃ (c : Cmd) (s : State), admitted s c 0x0232 = true ∧ s.kst.ready = true ∧ s.lan.severity < 4 ∧ domainKnown s c.domain = true ∧ ((c.domain ≠ 0 → vaultAway s = false))) ∧
    (∃ (c : Cmd) (s : State) (b : Bytes), admitted s c 0x0233 = true ∧ s.kst.ready = true ∧ c.domain = 0 ∧ c.value 0x21 = some b ∧ c.value 0x22 = none ∧ thresholdsOk (thresholds b) (domain s 0).officers.length = true) ∧
    (∃ (c : Cmd) (s : State), admitted s c 0x0234 = true ∧ s.kst.ready = true ∧ c.domain = 0 ∧ allZero (slice (c.bytes 0x23) 1 3) = true) := ⟨
  ⟨ask 1 0x0230 [it 4 2 1023, officerItem 0, officerItem 15, it 0x21 4 0x0202, it 0x22 8 (65280 + 8192 * 2 ^ 32)], alone, by decide +kernel⟩,
  ⟨ask 1 0x0230 [it 4 2 0, officerItem 0, officerItem 15, it 0x21 4 0x0202, it 0x22 8 1], alone, .invalidParameter, by decide +kernel⟩,
  ⟨ask 1 0x0231 [it 4 2 1], works, by decide +kernel⟩,
  ⟨ask 4 0x0232, works, by decide +kernel⟩,
  ⟨ask 1 0x0233 [it 0x21 4 0x0103], works, leBytes 4 0x0103, by decide +kernel⟩,
  ⟨ask 1 0x0234, works, by decide +kernel⟩⟩

theorem witness_OfficersCredentialsAndFunctions :
    (∃ (c : Cmd) (s : State), admitted s c 0x0238 = true ∧ s.kst.ready = true ∧ c.domain = 0 ∧ (officerKey (c.bytes 0x1E)).2.2 = true ∧ (domain s 0).officers.length < 16 ∧ (domain s 0).officers.look (officerKey (c.bytes 0x1E)).1 = none) ∧
    (∃ (c : Cmd) (s : State), admitted s c 0x0239 = true ∧ s.kst.ready = true ∧ c.domain = 0 ∧ ((domain s 0).officers.look (c.nat 0x1F)).isSome = true ∧ thresholdsOk ((domain s 0).mCrit, (domain s 0).mRoutine) ((domain s 0).officers.length - 1) = true) ∧
    (∃ (c : Cmd) (s : State), admitted s c 0x0239 = true ∧ s.kst.ready = true ∧ c.domain = 0 ∧ thresholdsOk ((domain s 0).mCrit, (domain s 0).mRoutine) ((domain s 0).officers.length - 1) = false) ∧
    (∃ (c : Cmd) (s : State) (b : _), admitted s c 0x023A = true ∧ s.kst.ready = true ∧ c.domain = 0 ∧ c.bytes 0x20 = b ∧ slice b 0 1 = [2] ∧ leNat (slice b 1 1) < 16 ∧ credAlgs.contains (leNat (slice b 2 1)) = true ∧ allZero (slice b 3 1) = true ∧ c.nat 0x27 = 0) ∧
    (∃ (c : Cmd) (s : State), admitted s c 0x023C = true ∧ s.kst.ready = true ∧ c.domain = 0 ∧ functionDomain s (c.nat 0x0E) = none ∧ c.nat 0x0E ≤ 1023 ∧ c.nat 0x27 = 0) ∧
    (∃ (c : Cmd) (s : State) (d : _), admitted s c 0x023C = true ∧ s.kst.ready = true ∧ c.domain = 0 ∧ functionDomain s (c.nat 0x0E) = some d ∧ d ≠ 0 ∧ c.nat 0x0E ≤ 1023 ∧ c.nat 0x27 = 0) := ⟨
  ⟨ask 1 0x0238 [officerItem 15], works, by decide +kernel⟩,
  ⟨ask 1 0x0239 [it 0x1F 1 2], works, by decide +kernel⟩,
  ⟨ask 1 0x0239 [it 0x1F 1 2], { works with kst := { works.kst with domains := [(0, { someDomain with mCrit := 3 })] } }, by decide +kernel⟩,
  ⟨ask 1 0x023A [{ type := 0x20, value := [2, 15, 0x32, 0] ++ zeros 32 }], works, [2, 15, 0x32, 0] ++ zeros 32, by decide +kernel⟩,
  ⟨ask 1 0x023C [it 0x0E 2 1023], works, by decide +kernel⟩,
  ⟨ask 1 0x023C [it 0x0E 2 1023], { works with kst := { works.kst with domains := [(0, someDomain), (1, { someDomain with functions := [1023] })] } }, 1, by decide +kernel⟩⟩

theorem witness_QuorumNonces :
    (∃ (c : Cmd) (s : State) (v : _) (b : Bytes), draw s 1 false 32 = (v, .ok b) ∧ admitted s c 0x0240 = true ∧ s.kst.ready = true ∧ c.nat 4 = 0 ∧ c.domain = 0 ∧ s.kst.nonces.length < 64 ∧ (domain s 0).state = .active) ∧
    (∃ (c : Cmd) (s : State), admitted s c 0x0240 = true ∧ s.kst.ready = true ∧ c.nat 4 = 0 ∧ c.domain = 0 ∧ (domain s 0).state = .active ∧ 64 ≤ s.kst.nonces.length) ∧
    (∃ (c : Cmd) (s : State), admitted s c 0x0241 = true ∧ s.kst.ready = true ∧ (s.kst.nonces.any fun n => n.value == c.bytes 0x13 && n.domain == c.domain) = true) := ⟨
  ⟨ask 1 0x0240, works, _, _, rfl, by decide +kernel⟩,
  ⟨ask 1 0x0240, { works with kst := { works.kst with nonces := List.replicate 64 nonce0 } }, by decide +kernel⟩,
  ⟨ask 1 0x0241, { works with kst := { works.kst with nonces := [nonce0] } }, by decide +kernel⟩⟩

theorem witness_KeyStoreStartsAndRenews :
    (∃ (c : Cmd) (s : State), admitted s c 0x0250 = true ∧ s.kst.ready = true ∧ s.die.domain0 = none ∧ s.lcy.state = 3 ∧ officerKeysOk ((c.values 0x1E).map officerKey) = true ∧ thresholdsOk (thresholds (c.bytes 0x21)) ((c.values 0x1E).map officerKey).length = true) ∧
    (∃ (c : Cmd) (s : State) (d : _), admitted s c 0x0250 = true ∧ s.kst.ready = true ∧ s.die.domain0 = some d ∧ s.lcy.state = 3 ∧ officerKeysOk ((c.values 0x1E).map officerKey) = true ∧ thresholdsOk (thresholds (c.bytes 0x21)) ((c.values 0x1E).map officerKey).length = true) ∧
    (∃ (c : Cmd) (s : State), admitted s c 0x0251 = true ∧ s.kst.ready = true ∧ s.lcy.state = 4 ∧ drawWaits s 1 64 = false) ∧
    (∃ (s : State), stopped s 1 = false ∧ s.kst.ready = false ∧ keyStoreState s = true ∧ bit s.id.ready 1 = true ∧ allZero s.bb.root = false ∧ s.bb.rootCheck ≠ Config.checkWord s.bb.root ∧ s.lcy.state ≠ 2 ∧ rootDue s = false) ∧
    (∃ (s : State), stopped s 1 = false ∧ s.kst.ready = false ∧ keyStoreState s = true ∧ bit s.id.ready 1 = true ∧ allZero s.bb.root = false ∧ s.bb.rootCheck = Config.checkWord s.bb.root ∧ s.lcy.state ≠ 2 ∧ rootDue s = false) ∧
    (∃ (t : _) (s : State) (w : _) (b : _), draw (advance s t) 1 false 64 = (w, .ok b) ∧ stopped s 1 = false ∧ s.kst.ready = true ∧ keyStoreState s = true ∧ bit s.id.ready 1 = true ∧ rootDue s = true) := ⟨
  ⟨ask 0 0x0250 [officerItem 0, officerItem 1, it 0x21 4 0x0102], { alone with lcy := { state := 3 }, die := {} }, by decide +kernel⟩,
  ⟨ask 0 0x0250 [officerItem 0, officerItem 1, it 0x21 4 0x0102], { alone with lcy := { state := 3 } }, someDomain, by decide +kernel⟩,
  ⟨ask 1 0x0251, works, by decide +kernel⟩,
  ⟨{ id := { ready := 3, clk := 0xFF }, lcy := { state := 4 }, bb := { root := [1], rootCheck := Config.checkWord [1] + 1 } }, by decide +kernel, by decide +kernel, by decide +kernel, by decide +kernel, by decide +kernel, by simp, by decide +kernel, by decide +kernel⟩,
  ⟨{ id := { ready := 3, clk := 0xFF }, lcy := { state := 5 }, bb := { root := [1], rootCheck := Config.checkWord [1] } }, by decide +kernel, by decide +kernel, by decide +kernel, by decide +kernel, by decide +kernel, rfl, by decide +kernel, by decide +kernel⟩,
  ⟨0, { works with id := { ready := 3, clk := 0xFF }, lcy := { state := 3 }, die := {} }, _, _, rfl, by decide +kernel⟩⟩

/-- A chamber port, port 1 of wire 0, with a link, a heartbeat key, and its link up. -/
def chamberState (l : Link) : State := { works with
  psg := { restored := true, wires := [(0, { active := { mode := 0x308 }, pairAskedAt := some 0 })], ports := [(1, { cfg := 0x08000005, linkUp := true })] }
  cham := { cfg := 0x105, links := [(1, l)], out := [{ frame := 5, part := 1, port := 1 }] }
  kst := { works.kst with slots := [(5, { handle := 5, attr := { aesAttr with type := 2, usage := 0x10 }, value := zeros 32 })] } }

/-- The same with an Ed25519 verification key of Passage in slot 6, core 0 idle and jobs accepted from other members. -/
def lender : State := { chamberState { state := 2 } with
  kst := { works.kst with slots := [(6, { handle := 6, attr := { aesAttr with type := 0x90, usage := 0x82, length := 32, domain := 0 }, value := zeros 32 })] }
  cham := { cfg := 0x106, lend := 0x80040100, links := [(1, { state := 2 })] }
  pke := { cores := [(0, { state := .idle })] } }

theorem lender_key : lentKey (refreshLinks (advance lender 0)) 6 0x32 ((Config.sha384 (zeros 32)).take 16) = some (zeros 32) := by
  have h : resolve (refreshLinks (advance lender 0)) 6 = .hit 6 { aesAttr with type := 0x90, usage := 0x82, length := 32, domain := 0 } (zeros 32) := by
    decide +kernel
  rw [lentKey, h]
  simp only [beq_self_eq_true, Bool.and_true]
  decide +kernel

theorem lender_binds : tryBind (refreshLinks (advance lender 0)) none ((refreshLinks (advance lender 0)).now + 340 * nsT)
    ((refreshLinks (advance lender 0)).now + 10 * msT + decisionTime) (coreTime 0x32) = .ok (0, 340 * nsT, 340 * nsT + coreTime 0x32) := by
  have h : bindCore (refreshLinks (advance lender 0)) none = some 0 := by decide +kernel
  simp only [tryBind, h]
  rw [if_neg (by decide +kernel), if_neg (by decide +kernel)]
  exact congrArg Except.ok (by decide +kernel)

/-- The link's port with frame 5 held, whose second part is lent over it. -/
def borrower : State := { chamberState { state := 2 } with
  psg := { (chamberState { state := 2 }).psg with ports := [(1, { cfg := 0x08000005, linkUp := true, line := [{ held .paging with deadline := 1 }] })] } }

/-- Wire 0 paired with wire 0 of member 0. -/
def paired : State := { chamberState { state := 2 } with
  psg := { (chamberState { state := 2 }).psg with wires := [(0, { active := { mode := 0x308, pair := 0x8000 }, pairAskedAt := some 0 })] } }

theorem witness_ChamberMessagesAreChecked :
    (∃ (p : Fin 144) (seq : _) (t : _) (s : State) (v : _), refreshLinks (advance s t) = v ∧ isChamber v p = true ∧ linkUp v p = true ∧ stopped s 0 = false ∧ (link v p).rxSeq < seq) ∧
    (∃ (p : Fin 144) (b : _) (seq : _) (mac : _) (t : _) (s : State) (v : _), refreshLinks (advance s t) = v ∧ isChamber v p = true ∧ linkUp v p = true ∧ stopped s 0 = false ∧ (seq ≤ (link v p).rxSeq ∨ mac ≠ messageMac (link v p).key (.heartbeat b) seq)) ∧
    (∃ (p : Fin 144) (seq : _) (t : _) (s : State) (v : _), refreshLinks (advance s t) = v ∧ isChamber v p = true ∧ linkUp v p = true ∧ stopped s 0 = false ∧ (link v p).rxSeq < seq) ∧
    (∃ (p : Fin 144) (seq : _) (t : _) (s : State) (v : _), refreshLinks (advance s t) = v ∧ isChamber v p = true ∧ linkUp v p = true ∧ stopped s 0 = false ∧ (link v p).rxSeq < seq) ∧
    (∃ (p : Fin 144) (peer : _) (t : _) (s : State) (v : _) (k : _), refreshLinks (advance s t) = v ∧ isChamber v p = true ∧ linkBar v p = none ∧ (link v p).state = 1 ∧ chamberKey v (chamberSlot v) = some k ∧ stopped s 0 = false ∧ peer ≠ v.id.chamberId) ∧
    (∃ (p : Fin 144) (peer : _) (t : _) (s : State) (v : _), refreshLinks (advance s t) = v ∧ isChamber v p = true ∧ linkBar v p = none ∧ linkUp v p = false ∧ peer = v.id.chamberId ∧ stopped s 0 = false) ∧
    (∃ (p : Fin 144) (t : _) (s : State) (v : _), refreshLinks (advance s t) = v ∧ isChamber v p = true ∧ (link v p).state = 1 ∧ stopped s 0 = false ∧ (link v p).key ≠ []) ∧
    (∃ (p : Fin 144) (n : _) (seq : _) (t : _) (s : State) (v : _) (w : Fin 72) (a : _), refreshLinks (advance s t) = v ∧ isChamber v p = true ∧ linkUp v p = true ∧ (wire v w).active.paired = true ∧ (wire v w).active.partnerWire = n ∧ (wire v w).active.partnerMember = (link v p).peer ∧ (wire v w).pairAskedAt = some a ∧ stopped s 0 = false ∧ (link v p).rxSeq < seq ∧ v.now ≤ a + 100 * usT) ∧
    (∃ (p : Fin 144) (seq : _) (t : _) (s : State) (v : _), refreshLinks (advance s t) = v ∧ isChamber v p = true ∧ linkUp v p = true ∧ acceptEn v = false ∧ stopped s 0 = false ∧ (link v p).rxSeq < seq) ∧
    (∃ (p : Fin 144) (k : _) (a : _) (b : _) (f : _) (seq : _) (t : _) (s : State) (v : _) (x : _) (n : _) (start : _) (finish : _), stopped s 0 = false ∧ refreshLinks (advance s t) = v ∧ isChamber v p = true ∧ linkUp v p = true ∧ (link v p).rxSeq < seq ∧ acceptEn v = true ∧ poolQueued v < acceptLimit v ∧ isSigAlg a = true ∧ lentKey v k a f = some x ∧ tryBind v none (v.now + 340 * nsT) (v.now + b + decisionTime) (coreTime a) = .ok (n, start, finish)) ∧
    (∃ (p : Fin 144) (j : _) (st : Status) (seq : _) (t : _) (s : State) (v : _) (q : _) (h : _), refreshLinks (advance s t) = v ∧ isChamber v p = true ∧ linkUp v p = true ∧ (v.cham.out.any fun x => x.frame == j / 2 && x.part == j % 2 && x.port == p.val) = true ∧ portOfFrame v (j / 2) = some q ∧ findHeld v q (j / 2) = some h ∧ stopped s 0 = false ∧ (link v p).rxSeq < seq ∧ v.now < h.deadline ∧ (st = .ok ∨ st = .invalidSignature ∨ st = .invalidKey)) ∧
    (∃ (p : Fin 144) (j : _) (seq : _) (t : _) (s : State) (v : _), refreshLinks (advance s t) = v ∧ isChamber v p = true ∧ linkUp v p = true ∧ (v.cham.out.any fun x => x.frame == j / 2 && x.part == j % 2 && x.port == p.val) = true ∧ stopped s 0 = false ∧ (link v p).rxSeq < seq) := ⟨
  ⟨1, 1, 0, chamberState { state := 2 }, _, rfl, rfl, rfl, by decide +kernel⟩,
  ⟨1, [], 0, [], 0, chamberState { state := 2 }, _, rfl, rfl, rfl, by decide +kernel⟩,
  ⟨1, 1, 0, chamberState { state := 2 }, _, rfl, rfl, rfl, by decide +kernel⟩,
  ⟨1, 1, 0, chamberState { state := 2 }, _, rfl, rfl, rfl, by decide +kernel⟩,
  ⟨1, 2, 0, chamberState { state := 1 }, _, _, rfl, rfl, rfl, rfl, rfl, by decide +kernel⟩,
  ⟨1, 0, 0, chamberState { state := 1 }, _, rfl, rfl, rfl, rfl, rfl, by decide +kernel⟩,
  ⟨1, 0, chamberState { state := 1, key := [1] }, _, rfl, rfl, rfl, by decide +kernel⟩,
  ⟨1, 0, 1, 0, paired, _, 0, 0, rfl, rfl, rfl, rfl, rfl, rfl, rfl, by decide +kernel⟩,
  ⟨1, 1, 0, chamberState { state := 2 }, _, rfl, rfl, rfl, rfl, by decide +kernel⟩,
  ⟨1, 6, 0x32, 10 * msT, (Config.sha384 (zeros 32)).take 16, 1, 0, lender, refreshLinks (advance lender 0), zeros 32, 0, 340 * nsT, 340 * nsT + coreTime 0x32, by decide +kernel, rfl, by decide +kernel, by decide +kernel, by decide +kernel, by decide +kernel, by decide +kernel, by decide +kernel, lender_key, lender_binds⟩,
  ⟨1, 11, .invalidKey, 1, 0, borrower, _, 1, { held .paging with deadline := 1 }, rfl, rfl, rfl, rfl, rfl, rfl, by decide +kernel⟩,
  ⟨1, 11, 1, 0, chamberState { state := 2 }, _, rfl, rfl, rfl, rfl, by decide +kernel⟩⟩

theorem witness_ChamberLinksAreKept :
    (∃ (t : _) (s : State) (v : _), refreshLinks (advance s t) = v ∧ stopped s 0 = false) ∧
    (∃ (p : Fin 144) (t : _) (s : State), stopped s 0 = false ∧ linkUp s p = true ∧ (link s p).heardAt + ((link s p).missed + 1) * 10 * usT ≤ (advance s t).now ∧ (link s p).missed < 2) ∧
    (∃ (p : Fin 144) (t : _) (s : State), stopped s 0 = false ∧ linkUp s p = true ∧ (link s p).heardAt + ((link s p).missed + 1) * 10 * usT ≤ (advance s t).now ∧ 2 ≤ (link s p).missed) ∧
    (∃ (t : _) (s : State) (v : _), refreshLinks (advance s t) = v ∧ stopped s 0 = false) ∧
    (∃ (t : _) (s : State), stopped s 0 = false ∧ s.cham.alertLowUntil ≤ (advance s t).now) ∧
    (∃ (t : _) (s : State), (advance s t).now < s.cham.alertLowUntil) ∧
    (∃ (p : Fin 144) (t : _) (s : State) (a : _), stopped s 0 = false ∧ (link s p).askedAt = some a ∧ linkUp s p = true ∧ a + 5 * usT ≤ (advance s t).now) := ⟨
  ⟨0, chamberState { state := 2 }, _, rfl, by decide +kernel⟩,
  ⟨1, 20 * usT, chamberState { state := 2, missed := 1 }, by decide +kernel⟩,
  ⟨1, 30 * usT, chamberState { state := 2, missed := 2 }, by decide +kernel⟩,
  ⟨0, chamberState {}, _, rfl, by decide +kernel⟩,
  ⟨0, { id := { clk := 0xFF } }, by decide +kernel⟩,
  ⟨0, { cham := { alertLowUntil := 1 } }, by decide +kernel⟩,
  ⟨1, 5 * usT, chamberState { state := 2, askedAt := some 0 }, 0, by decide +kernel⟩⟩

theorem witness_PairChecksAndChamberCommands :
    (∃ (s : State), stopped s 0 = false) ∧
    (∃ (w : Fin 72) (t : _) (s : State) (a : _), stopped s 0 = false ∧ (wire s w).pairAskedAt = some a ∧ a + 100 * usT ≤ (advance s t).now) ∧
    (∃ (w : Fin 72) (t : _) (s : State) (a : _), (wire s w).pairAskedAt = some a ∧ (advance s t).now < a + 100 * usT) ∧
    (∃ (c : Cmd) (s : State) (v : _), admitted s c 0x0B80 = true ∧ c.regWrites = [(0, v)] ∧ (chamberKey s (field v 7 0)).isSome = true) ∧
    (∃ (c : Cmd) (s : State) (v : _), admitted s c 0x0B80 = true ∧ c.regWrites = [(0, v)] ∧ chamberKey s (field v 7 0) = none) ∧
    (∃ (c : Cmd) (s : State) (v : _), admitted s c 0x0B81 = true ∧ c.regWrites = [(0x10, v)] ∧ lendOk v = true) ∧
    (∃ (c : Cmd) (s : State), admitted s c 0x0B82 = true) := ⟨
  ⟨{ id := { clk := 0xFF } }, by decide +kernel⟩,
  ⟨0, 100 * usT, chamberState {}, 0, by decide +kernel⟩,
  ⟨0, 100 * usT - 1, chamberState {}, 0, by decide +kernel⟩,
  ⟨ask 1 0x0B80 [it 0x16 8 (5 * 2 ^ 32)], chamberState {}, 5, by decide +kernel⟩,
  ⟨ask 1 0x0B80 [it 0x16 8 (6 * 2 ^ 32)], chamberState {}, 6, by decide +kernel⟩,
  ⟨ask 1 0x0B81 [it 0x16 8 (0x400400 * 2 ^ 32 + 0x10)], works, 0x400400, by decide +kernel⟩,
  ⟨ask 2 0x0B82, works, by decide +kernel⟩⟩

/-- Queue `q` of function 1. -/
def ringQ (q : Nat) (x : Queue) : State := { up with host := { linkUp := true, vfs := 1, funcs := [(1, { queues := [(q, { x with created := true })] })] } }

/-- A job of a source waits for admission, with cores and digest engines at work. -/
def admitting (j : WaitJob) : State := { works with
  eng := { sources := [(0, { jobs := [(0, j)] })], digests := [(0, { state := .idle })] }, pke := { active := [0, 0, 0], cores := [(95, { state := .idle })] } }

/-- A verification under Ed25519 with an inline key. -/
def verifyJob : PkeJob := { pkeJobOf 2 with block := { (pkeJobOf 2).block with algo := 0x10, destAttr := attrOf [], operands :=
  [{ id := 1, output := false, address := 0, length := 3, reserved := 0, data := [] }, { id := 2, output := false, address := 0, length := 64, reserved := 0, data := [] }, { id := 3, output := false, address := 0, length := 32, reserved := 0, data := [] }] } }

/-- A SHA-2 digest of one fragment. -/
def hashJob : DigJob := { digJob 1 with block := { (digJob 1).block with algo := 1, destAttr := attrOf [], fragCount := 1 } }

theorem witness_RingsFetchEntries :
    (∃ (f : Fin 1024) (q : Fin 4096) (s : State), funcEnabled s f = true ∧ (queue s f q).created = true ∧ (queue s f q).enabled = true) ∧
    (∃ (f : Fin 1024) (q : Fin 4096) (s : State), funcEnabled s f = true ∧ (queue s f q).created = false) ∧
    (∃ (f : Fin 1024) (q : Fin 4096) (w : _) (t : _) (s : State), stopped s 4 = false ∧ fetches (advance s t) f q = true ∧ (queue s f q).doorbell = true ∧ (queue s f q).sqFetch = (queue s f q).piSeen ∧ (field w 15 0 + 65536 - (queue s f q).sqFetch) % 65536 ≤ 2 ^ (queue s f q).sqLog) ∧
    (∃ (f : Fin 1024) (q : Fin 4096) (w : _) (t : _) (s : State), stopped s 4 = false ∧ fetches (advance s t) f q = true ∧ (queue s f q).doorbell = true ∧ (queue s f q).sqFetch = (queue s f q).piSeen ∧ 2 ^ (queue s f q).sqLog < (field w 15 0 + 65536 - (queue s f q).sqFetch) % 65536) ∧
    (∃ (f : Fin 1024) (q : Fin 4096) (t : _) (s : State), stopped s 4 = false ∧ fetches (advance s t) f q = true ∧ (queue s f q).sqFetch ≠ (queue s f q).piSeen ∧ (queue s f q).jobs.length < 256 ∧ hostWaiting s < 256 ∧ cqFull (queue s f q) = false) ∧
    (∃ (f : Fin 1024) (q : Fin 4096) (e : _) (t : _) (s : State), stopped s 4 = false ∧ fetches (advance s t) f q = true ∧ (queue s f q).sqFetch ≠ (queue s f q).piSeen ∧ (queue s f q).jobs.length < 256 ∧ hostWaiting s < 256 ∧ cqFull (queue s f q) = false ∧ (queue s f q).chain = none ∧ e.length = 64 ∧ leAt e 1 1 = 3 ∧ leAt e 2 1 = 0 ∧ leAt e 3 1 = 0 ∧ q.val ≠ 0 ∧ 1 ≤ leAt e 0 1 ∧ leAt e 0 1 ≤ 6) ∧
    (∃ (f : Fin 1024) (q : Fin 4096) (s : State), (queue s f q).created = true) ∧
    (∃ (f : Fin 1024) (q : Fin 4096) (s : State) (j : _), (queue s f q).created = true ∧ (queue s f q).jobs = [j] ∧ j.presented = false ∧ j.finished = none) ∧
    (∃ (f : Fin 1024) (q : Fin 4096) (t : _) (s : State), stopped s 4 = false ∧ fetches (advance s t) f q = true ∧ (queue s f q).sqFetch ≠ (queue s f q).piSeen ∧ (queue s f q).jobs.length < 256 ∧ hostWaiting s < 256 ∧ cqFull (queue s f q) = false) := ⟨
  ⟨1, 4095, ringQ 4095 { enabled := true }, by decide +kernel⟩,
  ⟨1, 4094, ringQ 4095 {}, by decide +kernel⟩,
  ⟨1, 4095, 15, 0, ringQ 4095 { enabled := true, doorbell := true }, by decide +kernel⟩,
  ⟨1, 4095, 17, 0, ringQ 4095 { enabled := true, doorbell := true }, by decide +kernel⟩,
  ⟨1, 0, 0, ringQ 0 { enabled := true, piSeen := 1 }, by decide +kernel⟩,
  ⟨1, 4095, leBytes 64 0x0306, 0, ringQ 4095 { enabled := true, piSeen := 1 }, by decide +kernel⟩,
  ⟨1, 4095, ringQ 4095 {}, by decide +kernel⟩,
  ⟨1, 4095, ringQ 4095 { jobs := [rjob 1 (zeros 64)] }, rjob 1 (zeros 64), by decide +kernel⟩,
  ⟨1, 4095, 0, ringQ 4095 { enabled := true, piSeen := 1 }, by decide +kernel⟩⟩

theorem witness_RingJobsArePutForward :
    (∃ (f : Fin 1024) (q : Fin 4096) (t : _) (s : State) (j : RingJob), nextJob (advance s t) f q = some j ∧ j.opcode = 1 ∧ 64 + 16 * leAt j.bytes 0x20 1 ≤ j.bytes.length) ∧
    (∃ (f : Fin 1024) (q : Fin 4096) (t : _) (s : State) (j : RingJob), nextJob (advance s t) f q = some j ∧ j.opcode = 2 ∧ 64 ≤ j.bytes.length) ∧
    (∃ (f : Fin 1024) (q : Fin 4096) (t : _) (s : State) (j : RingJob), nextJob (advance s t) f q = some j ∧ j.opcode = 3 ∧ 64 ≤ j.bytes.length) ∧
    (∃ (f : Fin 1024) (q : Fin 4096) (t : _) (s : State) (j : RingJob), nextJob (advance s t) f q = some j ∧ j.opcode = 4 ∧ 1 ≤ leAt j.bytes 0 4 ∧ leAt j.bytes 0 4 ≤ 4096 ∧ leAt j.bytes 4 4 = 0 ∧ (funcDomain (advance s t) f).isSome = true) ∧
    (∃ (f : Fin 1024) (q : Fin 4096) (s : State) (a : _), ((queue s f q).jobs.find? fun j => j.opcode == 6 && !j.presented && j.finished.isNone) = some a ∧ a.fence = true) ∧
    (∃ (f : Fin 1024) (q : Fin 4096) (s : State) (a : _) (j : _), (queue s f q).jobs = [j, a] ∧ a.opcode = 6 ∧ a.presented = false ∧ a.finished = none ∧ a.fence = false ∧ a.relaxed = false ∧ leAt a.bytes 0 2 = q.val ∧ leAt a.bytes 2 2 = 0 ∧ j.opcode = 1 ∧ j.finished = none ∧ j.presented = false ∧ j.tag = leAt a.bytes 4 4 ∧ j.id ≠ a.id) := ⟨
  ⟨1, 1, 0, ring (rjob 1 (zeros 64)), rjob 1 (zeros 64), by decide +kernel⟩,
  ⟨1, 1, 0, ring (rjob 2 (zeros 64)), rjob 2 (zeros 64), by decide +kernel⟩,
  ⟨1, 1, 0, ring (rjob 3 (zeros 64)), rjob 3 (zeros 64), by decide +kernel⟩,
  ⟨1, 1, 0, ring (rjob 4 (leBytes 8 4096)), rjob 4 (leBytes 8 4096), by decide +kernel⟩,
  ⟨1, 1, ring { rjob 6 [] with fence := true }, { rjob 6 [] with fence := true }, by decide +kernel⟩,
  ⟨1, 1, ringQ 1 { jobs := [{ rjob 1 [] with id := 3 }, rjob 6 (leBytes 8 0x900000001)] }, rjob 6 (leBytes 8 0x900000001), { rjob 1 [] with id := 3 }, by decide +kernel⟩⟩

theorem witness_RingsComplete :
    (∃ (f : Fin 1024) (q : Fin 4096) (s : State) (j : _) (e : _), stopped s 4 = false ∧ (queue s f q).created = true ∧ cqFull (queue s f q) = false ∧ (queue s f q).jobs = [j] ∧ j.finished = some e ∧ j.resultAddr = 0 ∧ j.opcode ≠ 5 ∧ e.outs = [] ∧ (queue s f q).closing = none ∧ (func s f).freezing = none) ∧
    (∃ (f : Fin 1024) (q : Fin 4096) (s : State), cqFull (queue s f q) = true) ∧
    (∃ (f : Fin 1024) (q : Fin 4096) (v : _) (s : State), funcEnabled s f = true ∧ (func s f).frozen = false ∧ (queue s f q).created = true ∧ (field v 15 0 + 65536 - (queue s f q).cqHead) % 65536 ≤ cqUsed (queue s f q)) ∧
    (∃ (f : Fin 1024) (q : Fin 4096) (v : _) (s : State), funcEnabled s f = true ∧ (func s f).frozen = false ∧ (queue s f q).created = true ∧ cqUsed (queue s f q) < (field v 15 0 + 65536 - (queue s f q).cqHead) % 65536) ∧
    (∃ (f : Fin 1024) (q : Fin 4096) (s : State), stopped s 4 = false ∧ (queue s f q).created = true ∧ (queue s f q).intEn = true ∧ 0 < (queue s f q).unsignalled ∧ (queue s f q).coalesceCount ≤ (queue s f q).unsignalled ∧ vectorMasked (func s f) (queue s f q).vector = false) ∧
    (∃ (f : Fin 1024) (q : Fin 4096) (s : State), stopped s 4 = false ∧ (queue s f q).created = true ∧ (queue s f q).intEn = true ∧ 0 < (queue s f q).unsignalled ∧ (queue s f q).coalesceCount ≤ (queue s f q).unsignalled ∧ vectorMasked (func s f) (queue s f q).vector = true) ∧
    (∃ (f : Fin 1024) (q : Fin 4096) (s : State), funcEnabled s f = true ∧ (func s f).frozen = false ∧ (queue s f q).created = true ∧ (queue s f q).error = false) ∧
    (∃ (f : Fin 1024) (s : State), funcEnabled s f = true ∧ (func s f).frozen = true) := ⟨
  ⟨1, 1, ring { rjob 1 [] with finished := some { status := .ok } }, { rjob 1 [] with finished := some { status := .ok } }, { status := .ok }, by decide +kernel⟩,
  ⟨1, 1, ringQ 1 { cqTail := 16 }, by decide +kernel⟩,
  ⟨1, 1, 16, ringQ 1 { cqTail := 16 }, by decide +kernel⟩,
  ⟨1, 1, 17, ringQ 1 { cqTail := 16 }, by decide +kernel⟩,
  ⟨1, 1, { up with host := { linkUp := true, vfs := 1, funcs := [(1, { vectors := [(3, 0)], queues := [(1, { created := true, intEn := true, unsignalled := 1 })] })] } }, by decide +kernel⟩,
  ⟨1, 1, ringQ 1 { intEn := true, unsignalled := 1 }, by decide +kernel⟩,
  ⟨1, 1, ringQ 1 {}, by decide +kernel⟩,
  ⟨1, { host := { vfs := 1, funcs := [(1, { frozen := true })] } }, by decide +kernel⟩⟩

theorem witness_JobsAreAdmittedInTurn :
    (∃ (t : _) (s : State) (q : _) (j : _), s.eng.taken < weightOf s s.eng.turn ∧ nextOf (advance s t) s.eng.turn = some (q, .pke j) ∧ familyFull (advance s t) (.pke j) = false ∧ admissionGate (advance s t) (.pke j) = none ∧ (WaitJob.pke j).handle = 0) ∧
    (∃ (t : _) (s : State) (q : _) (j : _), s.eng.taken < weightOf s s.eng.turn ∧ nextOf (advance s t) s.eng.turn = some (q, .digest j) ∧ familyFull (advance s t) (.digest j) = false ∧ admissionGate (advance s t) (.digest j) = none ∧ (WaitJob.digest j).handle = 0 ∧ fragsReserved (fetchDigest (unsubmit (advance s t) s.eng.turn fun x => x.id == j.id) j).2.block.frags = false) ∧
    (∃ (t : _) (s : State) (q : _) (j : _) (st : _), s.eng.taken < weightOf s s.eng.turn ∧ nextOf (advance s t) s.eng.turn = some (q, j) ∧ familyFull (advance s t) j = false ∧ admissionGate (advance s t) j = some st) ∧
    (∃ (s : State), s.eng.sources = []) := ⟨
  ⟨0, admitting (.pke verifyJob), 0, verifyJob, by decide +kernel⟩,
  ⟨0, admitting (.digest hashJob), 0, hashJob, by decide +kernel⟩,
  ⟨0, admitting (.digest (digJob 1)), 0, .digest (digJob 1), .invalidParameter, by decide +kernel⟩,
  ⟨{}, by decide +kernel⟩⟩

/-- A job of QP0 of function `f`, with function 1 as given. -/
def admin (f : Nat) (op : Nat) (v : Nat) (g : Func := {}) : State :=
  { works with kst := { works.kst with domains := [(0, someDomain), (1, { someDomain with functions := [1] })] }, host := { linkUp := true, vfs := 1, funcs := if f = 0 then [(0, { queues := [(0, { created := true, enabled := true, jobs := [rjob op (leBytes 64 v)] })] }), (1, g)]
    else [(1, { g with queues := (0, { created := true, enabled := true, jobs := [rjob op (leBytes 64 v)] }) :: g.queues })] } }

theorem witness_QueuesAreMadeAndChanged :
    (∃ (f : Fin 1024) (t : _) (s : State) (v : _) (j : RingJob) (n : _), advance s t = v ∧ AdminJob v f 0x80 34 j ∧ leAt j.bytes 0 2 = n ∧ (queue (putForward v f 0 j) f n).created = false ∧ 1 ≤ n ∧ n ≤ 4095 ∧ createdQueues (putForward v f 0 j) f < (func (putForward v f 0 j) f).maxQueues ∧ freeContexts (putForward v f 0 j) ≠ 0 ∧ 4 ≤ leAt j.bytes 2 1 ∧ leAt j.bytes 2 1 ≤ 15 ∧ 4 ≤ leAt j.bytes 3 1 ∧ leAt j.bytes 3 1 ≤ 15 ∧ vectorOk f (leAt j.bytes 4 2) = true ∧ leAt j.bytes 6 1 ≠ 0 ∧ leAt j.bytes 7 1 = 0 ∧ leAt j.bytes 8 2 ≤ 1000 ∧ leAt j.bytes 10 8 % 4096 = 0 ∧ leAt j.bytes 18 8 % 4096 = 0 ∧ leAt j.bytes 26 8 % 4 = 0) ∧
    (∃ (f : Fin 1024) (t : _) (s : State) (v : _) (j : RingJob), advance s t = v ∧ AdminJob v f 0x80 34 j ∧ 1 ≤ leAt j.bytes 0 2 ∧ (func (putForward v f 0 j) f).maxQueues ≤ createdQueues (putForward v f 0 j) f) ∧
    (∃ (f : Fin 1024) (t : _) (s : State) (v : _) (j : RingJob), advance s t = v ∧ AdminJob v f 0x81 2 j ∧ leAt j.bytes 0 2 = 0) ∧
    (∃ (f : Fin 1024) (t : _) (s : State) (v : _) (j : RingJob) (n : _), advance s t = v ∧ AdminJob v f 0x81 2 j ∧ leAt j.bytes 0 2 = n ∧ (queue (putForward v f 0 j) f n).created = true ∧ (queue (putForward v f 0 j) f n).closing = none ∧ 1 ≤ n ∧ n ≤ 4095) ∧
    (∃ (f : Fin 1024) (t : _) (s : State) (v : _) (j : RingJob) (n : _), advance s t = v ∧ AdminJob v f 0x81 2 j ∧ leAt j.bytes 0 2 = n ∧ (queue (putForward v f 0 j) f n).created = true ∧ (queue (putForward v f 0 j) f n).closing = none ∧ (queue (putForward v f 0 j) f n).jobs = [] ∧ (queue (putForward v f 0 j) f n).errorDue = false ∧ 1 ≤ n ∧ n ≤ 4095) ∧
    (∃ (f : Fin 1024) (t : _) (s : State) (v : _) (j : RingJob) (n : _), advance s t = v ∧ AdminJob v f 0x82 7 j ∧ leAt j.bytes 0 2 = n ∧ (queue (putForward v f 0 j) f n).created = true ∧ vectorOk f (leAt j.bytes 2 2) = true ∧ leAt j.bytes 4 1 ≠ 0 ∧ leAt j.bytes 5 2 ≤ 1000) ∧
    (∃ (f : Fin 1024) (t : _) (s : State) (v : _) (j : RingJob) (n : _), advance s t = v ∧ AdminJob v f 0x83 10 j ∧ leAt j.bytes 0 2 = n ∧ (queue (putForward v f 0 j) f n).created = true) := ⟨
  ⟨1, 0, admin 1 0x80 0x40000000000002000000000000000100003e80001000f0f040fff, _, rjob 0x80 (leBytes 64 0x40000000000002000000000000000100003e80001000f0f040fff), _, rfl, ⟨⟨rfl, rfl⟩, by decide +kernel⟩, rfl, rfl, by decide +kernel⟩,
  ⟨1, 0, admin 1 0x80 1 { maxQueues := 0 }, _, rjob 0x80 (leBytes 64 1), rfl, ⟨⟨rfl, rfl⟩, by decide +kernel⟩, by decide +kernel⟩,
  ⟨1, 0, admin 1 0x81 0, _, rjob 0x81 (leBytes 64 0), rfl, ⟨⟨rfl, rfl⟩, by decide +kernel⟩, by decide +kernel⟩,
  ⟨1, 0, admin 1 0x81 4095 { queues := [(4095, { created := true })] }, _, rjob 0x81 (leBytes 64 4095), _, rfl, ⟨⟨rfl, rfl⟩, by decide +kernel⟩, rfl, rfl, rfl, by decide +kernel⟩,
  ⟨1, 0, admin 1 0x81 4095 { queues := [(4095, { created := true })] }, _, rjob 0x81 (leBytes 64 4095), _, rfl, ⟨⟨rfl, rfl⟩, by decide +kernel⟩, rfl, rfl, rfl, rfl, rfl, by decide +kernel⟩,
  ⟨1, 0, admin 1 0x82 0x3e80100010001 { queues := [(1, { created := true })] }, _, rjob 0x82 (leBytes 64 0x3e80100010001), _, rfl, ⟨⟨rfl, rfl⟩, by decide +kernel⟩, rfl, rfl, by decide +kernel⟩,
  ⟨1, 0, admin 1 0x83 0, _, rjob 0x83 (leBytes 64 0), _, rfl, ⟨⟨rfl, rfl⟩, by decide +kernel⟩, rfl, rfl⟩⟩

theorem witness_VirtualFunctionsAreManaged :
    (∃ (t : _) (s : State) (v : _) (j : RingJob) (n : _), advance s t = v ∧ AdminJob v 0 0x90 5 j ∧ leAt j.bytes 0 2 = n ∧ isVf n = true ∧ leAt j.bytes 2 2 ≤ 4095 ∧ 1 ≤ leAt j.bytes 4 1 ∧ leAt j.bytes 4 1 ≤ 16) ∧
    (∃ (t : _) (s : State) (v : _) (j : RingJob) (n : _), advance s t = v ∧ AdminJob v 0 0x91 2 j ∧ leAt j.bytes 0 2 = n ∧ isVf n = true ∧ (func (putForward v 0 0 j) n).freezing = none ∧ (func (putForward v 0 0 j) n).queues = []) ∧
    (∃ (t : _) (s : State) (v : _) (j : RingJob) (n : _), advance s t = v ∧ AdminJob v 0 0x94 2 j ∧ leAt j.bytes 0 2 = n ∧ isVf n = true ∧ (func (putForward v 0 0 j) n).frozen = true) ∧
    (∃ (t : _) (s : State) (v : _) (j : RingJob) (n : _), advance s t = v ∧ AdminJob v 0 0x95 3 j ∧ leAt j.bytes 0 2 = n ∧ isVf n = true ∧ leAt j.bytes 2 1 = 0) ∧
    (∃ (t : _) (s : State) (v : _) (j : RingJob) (n : _), advance s t = v ∧ AdminJob v 0 0x92 14 j ∧ leAt j.bytes 0 2 = n ∧ isVf n = true ∧ (func (putForward v 0 0 j) n).frozen = true ∧ (funcDomain (putForward v 0 0 j) n).isSome = true ∧ drawWaits (putForward v 0 0 j) 1 32 = false ∧ secureUp s = true) ∧
    (∃ (t : _) (s : State) (v : _) (j : RingJob) (b : Bytes) (n : _) (st : _), advance s t = v ∧ Presents v 0 0 0x93 j ∧ leAt j.bytes 0 2 = n ∧ restoreGate (putForward v 0 0 j) n (leAt j.bytes 10 4) (b.take (leAt j.bytes 10 4)) = some st ∧ allZero (j.bytes.drop 14) = true) ∧
    (∃ (t : _) (s : State) (v : _) (j : RingJob) (b : Bytes) (c : _) (n : _) (w : _), advance s t = v ∧ Presents v 0 0 0x93 j ∧ leAt j.bytes 0 2 = n ∧ b.take (leAt j.bytes 10 4) = c ∧ putForward v 0 0 j = w ∧ allZero (j.bytes.drop 14) = true) ∧
    (∃ (t : _) (s : State) (v : _) (j : RingJob) (n : _) (x : _), advance s t = v ∧ AdminJob v 0 0x91 2 j ∧ leAt j.bytes 0 2 = n ∧ isVf n = true ∧ (func (putForward v 0 0 j) n).freezing = some x) := ⟨
  ⟨0, admin 0 0x90 0x100fff0001, _, rjob 0x90 (leBytes 64 0x100fff0001), _, rfl, ⟨⟨rfl, rfl⟩, by decide +kernel⟩, rfl, rfl, by decide +kernel⟩,
  ⟨0, admin 0 0x91 1, _, rjob 0x91 (leBytes 64 1), _, rfl, ⟨⟨rfl, rfl⟩, by decide +kernel⟩, rfl, rfl, rfl, rfl⟩,
  ⟨0, admin 0 0x94 1 { frozen := true }, _, rjob 0x94 (leBytes 64 1), _, rfl, ⟨⟨rfl, rfl⟩, by decide +kernel⟩, rfl, rfl, rfl⟩,
  ⟨0, admin 0 0x95 1, _, rjob 0x95 (leBytes 64 1), _, rfl, ⟨⟨rfl, rfl⟩, by decide +kernel⟩, rfl, rfl, by decide +kernel⟩,
  ⟨0, admin 0 0x92 1 { frozen := true }, _, rjob 0x92 (leBytes 64 1), _, rfl, ⟨⟨rfl, rfl⟩, by decide +kernel⟩, rfl, rfl, rfl, rfl, rfl, by decide +kernel⟩,
  ⟨0, admin 0 0x93 1, _, rjob 0x93 (leBytes 64 1), [], _, _, rfl, ⟨rfl, rfl⟩, rfl, rfl, by decide +kernel⟩,
  ⟨0, admin 0 0x93 1, _, rjob 0x93 (leBytes 64 1), [], _, _, _, rfl, ⟨rfl, rfl⟩, rfl, rfl, rfl, by decide +kernel⟩,
  ⟨0, admin 0 0x91 1 { freezing := some 0 }, _, rjob 0x91 (leBytes 64 1), _, _, rfl, ⟨⟨rfl, rfl⟩, by decide +kernel⟩, rfl, rfl, rfl⟩⟩

theorem witness_HostLinkAndResets :
    (∃ (f : Fin 1024), f.val ≠ 0) ∧
    (∃ (s : State) (y : _), s.host.funcs = [(0, y)]) ∧
    (∃ (c : Cmd) (s : State), admitted s c 0x0C01 = true ∧ c.nat 0x0E ≤ 1023) ∧
    (∃ (c : Cmd) (s : State), admitted s c 0x0C02 = true) := ⟨
  ⟨1023, by decide +kernel⟩,
  ⟨{ host := { funcs := [(0, { err := 1 })] } }, { err := 1 }, by decide +kernel⟩,
  ⟨ask 2 0x0C01 [it 0x0E 2 1023], works, by decide +kernel⟩,
  ⟨ask 2 0x0C02, works, by decide +kernel⟩⟩

/-- Mailbox `n` on the bus. -/
def boxed (n : Nat) (x : Mailbox) : State := { bus with mbx := { mgmtEn := true, addrValid := true, boxes := [(n, x)] } }

/-- A waiting envelope. -/
def waiting (a : Option Answer) : Outstanding := { id := 6, tag := 0, code := 0x0101, seq := 9, domain := 0, session := 1, macSession := 0, takenAt := 0, answer := a }

theorem witness_RequestPacketsAreCommittedOrRewound :
    (∃ (c : Byte) (h : _) (s : State), i3cOn s = true ∧ c.toNat < 6 ∧ (mailbox s c.toNat).port = 0 ∧ (mailbox s c.toNat).req.tentative = [] ∧ (mailbox s c.toNat).req.words.length + 3 ≤ 4096 ∧ headerOk h = true ∧ field h 10 0 = 1) ∧
    (∃ (c : Byte) (ws : List Word) (s : State), i3cOn s = true ∧ c.toNat < 6 ∧ (mailbox s c.toNat).port = 0 ∧ ws ≠ []) ∧
    (∃ (s : State), i3cOn s = false) ∧
    (∃ (m : _) (n : Fin 8) (s : State), reaches s m n = true ∧ n.val ≤ 5 ∧ (mailbox s n).packet = none ∧ (mailbox s n).req.tentative = [] ∧ (mailbox s n).req.words.length < 4096) ∧
    (∃ (n : Fin 8) (s : State), (mailbox s n).port ≠ 1) ∧
    (∃ (m : _) (n : Fin 8) (s : State), reaches s m n = true ∧ n.val ≤ 5 ∧ (mailbox s n).packet = none) ∧
    (∃ (m : _) (n : Fin 8) (s : State) (p : _), reaches s m n = true ∧ n.val ≤ 5 ∧ (mailbox s n).packet = some p ∧ p.count + 1 < packetWords p.header ∧ (mailbox s n).req.words.length + (mailbox s n).req.tentative.length < 4096) := ⟨
  ⟨5, 0x01000001, boxed 5 {}, by decide +kernel⟩,
  ⟨5, [0], boxed 5 {}, by decide +kernel⟩,
  ⟨up, by decide +kernel⟩,
  ⟨.pf0, 5, boxed 5 { port := 1, req := { words := List.replicate 4095 0 } }, by decide +kernel⟩,
  ⟨7, boxed 7 {}, by decide +kernel⟩,
  ⟨.i3c, 5, boxed 5 {}, by decide +kernel⟩,
  ⟨.i3c, 0, boxed 0 { packet := some { header := 1, count := 1, bad := false }, req := { tentative := [1] } }, { header := 1, count := 1, bad := false }, by decide +kernel⟩⟩

theorem witness_ResponsesAndNoticesAreRead :
    (∃ (n : Fin 8) (k : _) (s : State), i3cOn s = true ∧ (mailbox s n).port = 0 ∧ (mailbox s n).rsp.words ≠ [] ∧ k < (frontPacket (mailbox s n).rsp).length) ∧
    (∃ (n : Fin 8) (k : _) (s : State), i3cOn s = true ∧ (mailbox s n).port = 0 ∧ (mailbox s n).rsp.words ≠ [] ∧ n.val ≠ 6 ∧ (frontPacket (mailbox s n).rsp).length ≤ k ∧ (mailbox s n).moveTo = none) ∧
    (∃ (n : Fin 8) (s : State), i3cOn s = true ∧ (mailbox s n).port = 0 ∧ (mailbox s n).rsp.words = []) ∧
    (∃ (m : _) (n : Fin 8) (s : State), reaches s m n = true ∧ (mailbox s n).rsp.readPos + 1 < (frontPacket (mailbox s n).rsp).length) ∧
    (∃ (m : _) (n : Fin 8) (s : State), reaches s m n = true) ∧
    (∃ (s : State) (p : _) (l : _), secureUp s = true ∧ s.lan.notices = p :: l ∧ (packetOf 3 0 false false (wordsOf p)).length + 3 ≤ rspFree s 6) ∧
    (∃ (s : State) (p : _) (l : _), secureUp s = true ∧ s.lan.notices = p :: l ∧ rspFree s 6 < (packetOf 3 0 false false (wordsOf p)).length + 3) ∧
    (∃ (s : State) (a : _) (r : _) (l : _) (k : _), (mailbox s 7).noticeSeq = k ∧ secureUp s = true ∧ s.str.notices = (a, r) :: l ∧ (wordsOf r).length + 6 ≤ rspFree s 7) := ⟨
  ⟨7, 2, boxed 7 { rsp := { words := [1, 0, 0] } }, by decide +kernel⟩,
  ⟨7, 3, boxed 7 { rsp := { words := [1, 0, 0] } }, by decide +kernel⟩,
  ⟨7, boxed 7 {}, by decide +kernel⟩,
  ⟨.i3c, 7, boxed 7 { rsp := { words := [1, 0, 0], readPos := 1 } }, by decide +kernel⟩,
  ⟨.i3c, 0, bus, by decide +kernel⟩,
  ⟨{ up with lan := { notices := [zeros 8] } }, zeros 8, [], by decide +kernel⟩,
  ⟨{ up with lan := { notices := [zeros 8] }, mbx := { boxes := [(6, { rsp := { words := List.replicate 4096 0 } })] } }, zeros 8, [], by decide +kernel⟩,
  ⟨{ up with str := { notices := [(0, [])] } }, 0, [], [], _, rfl, by decide +kernel⟩⟩

theorem witness_ResponsesAndTimeouts :
    (∃ (n : Fin 6) (s : State) (o : _) (l : _) (a : _), firmwareRuns s = true ∧ (mailbox s n).sending = [] ∧ (mailbox s n).outstanding = o :: l ∧ o.answer = some a) ∧
    (∃ (n : Fin 6) (s : State) (ws : List Word) (l : _), firmwareRuns s = true ∧ (mailbox s n).sending = ws :: l ∧ ws.length ≤ rspFree s n) ∧
    (∃ (s : State), firmwareRuns s = false) ∧
    (∃ (n : Fin 6) (s : State) (o : _) (l : _), (mailbox s n).sending = [] ∧ (mailbox s n).outstanding = o :: l ∧ o.answer = none) ∧
    (∃ (n : Fin 6) (t : _) (s : State) (o : _) (l : _), (mailbox s n).sending = [] ∧ (mailbox s n).outstanding = o :: l ∧ o.answer = none ∧ o.interim = false ∧ o.takenAt + msT ≤ (advance s t).now ∧ secureUp s = true) ∧
    (∃ (n : Fin 6) (s : State) (o : _) (l : _), (mailbox s n).outstanding = o :: l ∧ o.interim = true) ∧
    (∃ (n : Fin 6) (t : _) (s : State) (a : _), firmwareRuns s = true ∧ (mailbox s n).assembly = some a ∧ a.lastAt + secT ≤ (advance s t).now) ∧
    (∃ (n : Fin 6) (t : _) (s : State) (a : _), (mailbox s n).assembly = some a ∧ (advance s t).now < a.lastAt + secT) ∧
    (∃ (n : Fin 6) (k : _) (t : _) (s : State) (x : _), openSession s n k = some x ∧ x.lastAt + sessionIdle s * secT ≤ (advance s t).now ∧ (mailbox s n).outstanding = []) ∧
    (∃ (n : Fin 6) (k : _) (t : _) (s : State) (x : _), openSession s n k = some x ∧ (advance s t).now < x.lastAt + sessionIdle s * secT) := ⟨
  ⟨5, boxed 5 { outstanding := [waiting (some { status := .ok })] }, waiting (some { status := .ok }), [], { status := .ok }, by decide +kernel⟩,
  ⟨5, boxed 5 { sending := [[1]] }, [1], [], by decide +kernel⟩,
  ⟨{ wld := { pairs := (List.range 4).map fun p => (p, { online := false }) } }, by decide +kernel⟩,
  ⟨5, boxed 5 { outstanding := [waiting none] }, waiting none, [], by decide +kernel⟩,
  ⟨5, msT, boxed 5 { outstanding := [waiting none] }, waiting none, [], by decide +kernel⟩,
  ⟨5, boxed 5 { outstanding := [{ waiting none with interim := true }] }, { waiting none with interim := true }, [], by decide +kernel⟩,
  ⟨5, secT, boxed 5 { assembly := some { tag := 0, code := 0, bytes := [], fragments := 1, lastAt := 0 } }, { tag := 0, code := 0, bytes := [], fragments := 1, lastAt := 0 }, by decide +kernel⟩,
  ⟨5, secT - 1, boxed 5 { assembly := some { tag := 0, code := 0, bytes := [], fragments := 1, lastAt := 0 } }, { tag := 0, code := 0, bytes := [], fragments := 1, lastAt := 0 }, by decide +kernel⟩,
  ⟨5, 4, 900 * secT, boxed 5 desk, _, rfl, by decide +kernel⟩,
  ⟨5, 4, 900 * secT - 1, boxed 5 desk, _, rfl, by decide +kernel⟩⟩

/-- The body of MBX_SESSION_OPEN for offer 7, as officer `n` of domain 0. -/
def openBody (n : Nat) : Bytes := leBytes 8 (7 + 2 ^ 48 + n * 2 ^ 56) ++ zeros 1120

/-- An offer waits, with domain 0 set up. -/
def offered : State := { works with mbx := { works.mbx with offers := [{ id := 7, nonce := [], offer := [], kemSecret := [], xSecret := [], openedAt := 0 }] } }

theorem witness_SessionCommands :
    (∃ (c : Cmd) (s : State) (v : _) (b : Bytes), draw s 1 false 128 = (v, .ok b) ∧ admitted s c 0x0102 = true ∧ s.kst.ready = true ∧ suspended s = false ∧ s.die.attestation.isSome = true ∧ s.mbx.offers.length < 8) ∧
    (∃ (c : Cmd) (s : State), admitted s c 0x0103 = true ∧ c.body.bytes.length ≠ 1128) ∧
    (∃ (c : Cmd) (s : State) (o : _), s.mbx.offers.find? (·.id == leAt c.body.bytes 0 4) = some o ∧ admitted s c 0x0103 = true ∧ c.body.bytes.length = 1128) ∧
    (∃ (c : Cmd) (s : State) (mb : _) (n : _) (o : _) (k : _) (v : _), s.mbx.offers.find? (·.id == leAt c.body.bytes 0 4) = some o ∧ v = { s with mbx := { s.mbx with offers := s.mbx.offers.filter (·.id != o.id) } } ∧ admitted s c 0x0103 = true ∧ c.body.bytes.length = 1128 ∧ c.caller = .session mb n ∧ leAt c.body.bytes 4 2 = 0 ∧ (domain s 0).state = .active ∧ leAt c.body.bytes 6 1 = 1 ∧ credentialOf s 0 .officer (leAt c.body.bytes 7 1) = some k) ∧
    (∃ (c : Cmd) (s : State) (mb : _) (n : _), admitted s c 0x0104 = true ∧ c.caller = .session mb n) ∧
    (∃ (c : Cmd) (s : State), admitted s c 0x0105 = true) ∧
    (∃ (c : Cmd) (s : State), admitted s c 0x0110 = true ∧ c.nat 0x0C ≤ 7 ∧ c.nat 0x0D ≤ 2 ∧ c.reply = .log) ∧
    (∃ (c : Cmd) (s : State) (v : _), admitted s c 0x0111 = true ∧ c.regWrites = [(4, v)] ∧ 60 ≤ field v 16 0 ∧ field v 16 0 ≤ 86400) := ⟨
  ⟨ask 0 0x0102, works, _, _, rfl, by decide +kernel⟩,
  ⟨askRaw 0 (zeros 1127), works, by decide +kernel⟩,
  ⟨askRaw 0 (openBody 2), offered, _, rfl, by decide +kernel⟩,
  ⟨askRaw 0 (openBody 2), offered, 0, 0, _, cred, _, rfl, rfl, by decide +kernel⟩,
  ⟨ask 4 0x0104, works, 0, 4, by decide +kernel⟩,
  ⟨ask 1 0x0105, works, by decide +kernel⟩,
  ⟨ask 1 0x0110 [it 0x0C 1 7, it 0x0D 1 2], works, by decide +kernel⟩,
  ⟨ask 1 0x0111 [it 0x16 8 0x1518000000004], works, 86400, by decide +kernel⟩⟩

theorem witness_I3cAddressAndModeCodes :
    (∃ (s : State), s.mbx.mgmtEn = true ∧ s.mbx.addrValid = false) ∧
    (∃ (s : State), s.mbx.addrValid = true) ∧
    (∃ (st : BitVec 7) (s : State), s.mbx.mgmtEn = true ∧ s.mbx.addrValid = false ∧ st.toNat = 0x50 + s.id.chamberId) ∧
    (∃ (st : BitVec 7) (s : State), st.toNat ≠ 0x50 + s.id.chamberId) ∧
    (∃ (s : State), i3cOn s = true) ∧
    (∃ (s : State), i3cOn s = true) ∧
    (∃ (s : State), i3cOn s = true) ∧
    (∃ (s : State), i3cOn s = true) ∧
    (∃ (s : State), i3cOn s = true) ∧
    (∃ (a : Byte) (s : State), i3cOn s = true ∧ (a = 1 ∨ a = 2)) ∧
    (∃ (s : State), i3cOn s = false) := ⟨
  ⟨{ mbx := { mgmtEn := true } }, by decide +kernel⟩,
  ⟨bus, by decide +kernel⟩,
  ⟨0x50, { mbx := { mgmtEn := true } }, by decide +kernel⟩,
  ⟨0x51, {}, by decide +kernel⟩,
  ⟨bus, by decide +kernel⟩,
  ⟨bus, by decide +kernel⟩,
  ⟨bus, by decide +kernel⟩,
  ⟨bus, by decide +kernel⟩,
  ⟨bus, by decide +kernel⟩,
  ⟨2, bus, by decide +kernel⟩,
  ⟨{}, by decide +kernel⟩⟩

theorem witness_I3cReadCodes :
    (∃ (s : State), i3cOn s = true) ∧
    (∃ (s : State), i3cOn s = true) ∧
    (∃ (s : State), i3cOn s = true) ∧
    (∃ (s : State), i3cOn s = true) ∧
    (∃ (s : State), i3cOn s = true) ∧
    (∃ (s : State), i3cOn s = true) ∧
    (∃ (v : BitVec 16) (s : State), i3cOn s = true ∧ 4105 ≤ v.toNat) ∧
    (∃ (v : BitVec 16), v.toNat < 4105) ∧
    (∃ (v : BitVec 16) (s : State), i3cOn s = true ∧ 4104 ≤ v.toNat) ∧
    (∃ (v : BitVec 16), v.toNat < 4104) ∧
    (∃ (s : State), i3cOn s = true) ∧
    (∃ (s : State), i3cOn s = true) := ⟨
  ⟨bus, by decide +kernel⟩,
  ⟨bus, by decide +kernel⟩,
  ⟨bus, by decide +kernel⟩,
  ⟨bus, by decide +kernel⟩,
  ⟨bus, by decide +kernel⟩,
  ⟨bus, by decide +kernel⟩,
  ⟨4105, bus, by decide +kernel⟩,
  ⟨4104, by decide +kernel⟩,
  ⟨4104, bus, by decide +kernel⟩,
  ⟨4103, by decide +kernel⟩,
  ⟨bus, by decide +kernel⟩,
  ⟨bus, by decide +kernel⟩⟩

/-- The secure world runs; both worlds' firmware stands. -/
def firm (w : Worlds) : State := { works with wld := { w with secureUp := true, running := true } }

/-- A secure call of pair 0. -/
def call0 (pending : Bool) (a : Option Answer) : SecureCall :=
  { token := 9, pair := 0, seq := 1, code := 0x0101, domain := 0, unapproved := false, address := 0, room := 64, startAt := 0, pending := pending, answer := a }

theorem witness_SecureWorldIsKeptUp :
    (∃ (m : Master), m.isSecure = true) ∧
    (∃ (m : Master) (s : State), m.isSecure = true ∧ s.wld.running = true) ∧
    (∃ (m : Master) (s : State), m.isSecure = true ∧ s.wld.running = true ∧ ((∀ a b c, s.wld.restartTimes ≠ [a, b, c]))) ∧
    (∃ (t : _) (s : State) (a : _) (b : _) (c : _), s.wld.running = true ∧ s.wld.restartTimes = [a, b, c] ∧ (advance s t).now ≤ a + 600 * secT) ∧
    (∃ (s : State), s.wld.running = true ∧ ((∀ a b c, s.wld.restartTimes ≠ [a, b, c]))) ∧
    (∃ (t : _) (s : State), s.lcy.halted.look 1 = none ∧ s.wld.secureKick + field s.wld.cfg 13 0 * msT ≤ (advance s t).now ∧ s.wld.running = true) ∧
    (∃ (t : _) (s : State), (advance s t).now < s.wld.secureKick + field s.wld.cfg 13 0 * msT) ∧
    (∃ (m : Master) (p : Fin 8192) (s : State), m.isSecure = true ∧ bit (pageEntry s p) 8 = false) ∧
    (∃ (m : Master) (s : State), m.isSecure = true ∧ s.wld.running = true ∧ s.wld.trialSecure = true) ∧
    (∃ (m : Master), m.isNormal = true) := ⟨
  ⟨.secure 3, by decide +kernel⟩,
  ⟨.secure 3, firm {}, by decide +kernel⟩,
  ⟨.secure 3, firm {}, by decide +kernel, by decide +kernel, fun _ _ _ h => nomatch h⟩,
  ⟨600 * secT, firm { restartTimes := [0, 1, 2] }, 0, 1, 2, by decide +kernel⟩,
  ⟨firm {}, by decide +kernel, fun _ _ _ h => nomatch h⟩,
  ⟨100 * msT, firm {}, by decide +kernel⟩,
  ⟨100 * msT - 1, firm {}, by decide +kernel⟩,
  ⟨.secure 0, 8191, {}, by decide +kernel⟩,
  ⟨.secure 0, firm { trialSecure := true }, by decide +kernel⟩,
  ⟨.normal 3, by decide +kernel⟩⟩

theorem witness_NormalWorldAndSecureCalls :
    (∃ (t : _) (s : State), field s.wld.cfg 29 16 ≠ 0 ∧ s.wld.normalUp = true ∧ s.lcy.halted.look 0 = none ∧ s.wld.normalKick + field s.wld.cfg 29 16 * msT ≤ (advance s t).now) ∧
    (∃ (s : State), field s.wld.cfg 29 16 = 0) ∧
    (∃ (s : State), s.wld.normalUp = true ∧ s.wld.trialNormal = true) ∧
    (∃ (s : State), s.wld.normalUp = false ∧ s.wld.normalTried = false ∧ firmwareRuns s = true ∧ secureUp s = true ∧ normalAllowed s = true) ∧
    (∃ (s : State), s.wld.normalTried = true) ∧
    (∃ (p : Fin 4) (s : State), normalRuns s p = true ∧ s.wld.trialNormal = true) ∧
    (∃ (p : Fin 4) (s : State) (c : _) (a : _), callOf s p = some c ∧ c.answer = some a) ∧
    (∃ (p : Fin 4) (k : _) (s : State) (c : _) (a : _), normalRuns s p = true ∧ (s.wld.calls.find? fun c => c.token == k && c.pending && !c.dropped) = some c ∧ c.answer = some a) ∧
    (∃ (p : Fin 4) (k : _) (s : State) (c : _), normalRuns s p = true ∧ (s.wld.calls.find? fun c => c.token == k && c.pending && !c.dropped) = some c ∧ c.answer = none) ∧
    (∃ (p : Fin 4) (k : _) (s : State), normalRuns s p = true ∧ (s.wld.calls.find? fun c => c.token == k && c.pending && !c.dropped) = none) ∧
    (∃ (p : Fin 4) (t : _) (s : State) (c : _), callOf s p = some c ∧ c.answer = none ∧ secureHome s p = false ∧ c.startAt + callLimit s ≤ (advance s t).now) ∧
    (∃ (p : Fin 4) (t : _) (s : State), sharedPair s = some p.val ∧ (pair s p).quantumAt + 500 * usT ≤ (advance s t).now) ∧
    (∃ (p : Fin 4) (s : State), (pair s p).online = true) ∧
    (∃ (p : Fin 4) (s : State), onlinePairs s = [p.val]) ∧
    (∃ (m : Fin 13), 3 < m.val) ∧
    (∃ (m : Fin 13) (s : State), m.val ≤ 3 ∧ s.wld.running = true) ∧
    (∃ (m : Fin 13), m.val ≤ 3) := ⟨
  ⟨100 * msT, firm { normalUp := true, cfg := 0x640064 }, by decide +kernel⟩,
  ⟨{}, by decide +kernel⟩,
  ⟨firm { normalUp := true, trialNormal := true }, by decide +kernel⟩,
  ⟨firm {}, by decide +kernel⟩,
  ⟨firm { normalTried := true }, by decide +kernel⟩,
  ⟨3, firm { normalUp := true, trialNormal := true }, by decide +kernel⟩,
  ⟨0, firm { calls := [call0 false (some { status := .ok })] }, call0 false (some { status := .ok }), { status := .ok }, by decide +kernel⟩,
  ⟨3, 9, firm { normalUp := true, calls := [call0 true (some { status := .ok })] }, call0 true (some { status := .ok }), { status := .ok }, by decide +kernel⟩,
  ⟨3, 9, firm { normalUp := true, calls := [call0 true none] }, call0 true none, by decide +kernel⟩,
  ⟨3, 8, firm { normalUp := true, calls := [call0 true none] }, by decide +kernel⟩,
  ⟨0, 500 * usT, firm { home := 2, calls := [call0 false none] }, call0 false none, by decide +kernel⟩,
  ⟨3, 500 * usT, firm { pairs := [(0, { online := false }), (1, { online := false }), (2, { online := false })] }, by decide +kernel⟩,
  ⟨3, {}, by decide +kernel⟩,
  ⟨3, { wld := { pairs := [(0, { online := false }), (1, { online := false }), (2, { online := false })] } }, by decide +kernel⟩,
  ⟨12, by decide +kernel⟩,
  ⟨3, firm {}, by decide +kernel⟩,
  ⟨3, by decide +kernel⟩⟩

theorem witness_PowerAndFirmware :
    (∃ (m : Master) (n : Fin 256) (s : State), m.isSecure = true ∧ n.val ≤ 191 ∧ unitHeld s n = false ∧ s.wld.clkOff.contains n.val = false) ∧
    (∃ (m : Master) (n : Fin 256) (s : State), m.isSecure = true ∧ n.val ≤ 191 ∧ unitHeld s n = false ∧ s.wld.clkOff.contains n.val = true) ∧
    (∃ (m : Master) (n : Fin 256) (s : State), m.isSecure = true ∧ n.val ≤ 191 ∧ unitHeld s n = false ∧ s.wld.pwrOff.contains n.val = false) ∧
    (∃ (m : Master) (n : Fin 256) (s : State), m.isSecure = true ∧ n.val ≤ 191 ∧ unitHeld s n = false ∧ s.wld.pwrOff.contains n.val = true) ∧
    (∃ (m : Master) (n : Fin 256) (s : State), m.isSecure = true ∧ n.val ≤ 31 ∧ unitHeld s n = false ∧ s.wld.pwrOff.contains n.val = true) ∧
    (∃ (m : Master) (n : Fin 256) (s : State), m.isSecure = true ∧ n.val ≤ 191 ∧ unitHeld s n = true ∧ s.wld.clkOff.contains n.val = false) ∧
    (∃ (n : Fin 192) (s : State) (a : _) (b : _), s.wld.pwrPending.look n = some (a, b) ∧ unitHeld s n = false) ∧
    (∃ (n : Fin 192) (s : State) (b : _), s.wld.pwrPending.look n = some (2, b) ∧ unitHeld s n = false) ∧
    (∃ (m : Master), m.isSecure = true) ∧
    (∃ (c : Cmd) (s : State) (w : _) (slot : _) (off : _) (data : _), admitted s c 0x0881 = true ∧ w = leNat ((c.bytes 0x2F).take 1) ∧ 1 ≤ w ∧ w ≤ 2 ∧ leNat (slice (c.bytes 0x2F) 1 1) ≤ 1 ∧ leNat (slice (c.bytes 0x2F) 2 2) = 0 ∧ off = leNat (slice (c.bytes 0x2F) 4 4) ∧ data = (c.bytes 0x2F).drop 8 ∧ off + data.length ≤ slotSize w ∧ slot = 1 - (if w = 1 then s.wld.bootedSecure else s.wld.bootedNormal)) ∧
    (∃ (c : Cmd) (s : State), admitted s c 0x0882 = true ∧ 1 ≤ leNat ((c.bytes 0x30).take 1) ∧ leNat ((c.bytes 0x30).take 1) ≤ 2 ∧ leNat ((c.bytes 0x30).drop 1) ≤ 1 ∧ (image s (leNat ((c.bytes 0x30).take 1)) (leNat ((c.bytes 0x30).drop 1))).stagedOk = true ∧ s.lcy.state ≠ 1 ∧ s.lcy.state ≠ 6 ∧ inTest s = false) ∧
    (∃ (c : Cmd) (s : State), admitted s c 0x0883 = true) ∧
    (∃ (c : Cmd) (s : State), admitted s c 0x0884 = true ∧ lmsKeyOk (c.bytes 0x31) = true) ∧
    (∃ (c : Cmd) (s : State), admitted s c 0x0885 = true) := ⟨
  ⟨.secure 0, 191, {}, by decide +kernel⟩,
  ⟨.secure 0, 191, { wld := { clkOff := [191] } }, by decide +kernel⟩,
  ⟨.secure 0, 191, {}, by decide +kernel⟩,
  ⟨.secure 0, 191, { wld := { pwrOff := [191] } }, by decide +kernel⟩,
  ⟨.secure 0, 31, { wld := { pwrOff := [31] } }, by decide +kernel⟩,
  ⟨.secure 0, 191, { wld := { owner := [(5, 0x80000000)] } }, by decide +kernel⟩,
  ⟨191, { wld := { pwrPending := [(191, (3, false))] } }, 3, false, by decide +kernel⟩,
  ⟨191, { wld := { pwrPending := [(191, (2, false))] } }, false, by decide +kernel⟩,
  ⟨.secure 0, by decide +kernel⟩,
  ⟨ask 1 0x0881 [it 0x2F 72 (2 + 256 + (8 * 2 ^ 20 - 64) * 2 ^ 32)], works, 2, 1, 8 * 2 ^ 20 - 64, zeros 64, by decide +kernel⟩,
  ⟨ask 1 0x0882 [it 0x30 2 0x0102], { works with die := { works.die with normalB := { stagedOk := true } } }, by decide +kernel⟩,
  ⟨ask 2 0x0883, works, by decide +kernel⟩,
  ⟨ask 1 0x0884 [{ type := 0x31, value := [0, 0, 0, 7, 0, 0, 0, 3] ++ zeros 48 }], works, by decide +kernel⟩,
  ⟨ask 2 0x0885, works, by decide +kernel⟩⟩

/-- An accumulator of index 40, due at reset. -/
def accum : Accum := { openTick := 0, closeAt := 0, interval := 1, prompt := false, firstSec := 0, firstNs := 0, firstDetail := 0, lastSec := 0, lastNs := 0, lastDetail := 0 }

/-- A closed accumulator. -/
def closed : Closed := { index := 40, accum := accum, closeTick := 0, resetClose := false, lcyState := 4 }

/-- The clock follows port 3, whose delay is known. -/
def timing (x : TimeUnit) (d : PeerDelay := { delay := some 10 }) : State :=
  { tim := { x with cfg := 0x0501, ptpPorts := 0xFFFFFF03, gmPort := 3, gmSource := 9, delays := [(3, d)] } }

theorem witness_StrataRecords :
    (∃ (t : _) (s : State) (i : _) (a : _), s.str.accums = [(i, a)] ∧ a.closeAt ≤ (advance s t).now ∧ s.str.tokens ≠ 0) ∧
    (∃ (t : _) (s : State) (i : _) (a : _), s.str.accums = [(i, a)] ∧ a.closeAt ≤ (advance s t).now ∧ s.str.tokens = 0) ∧
    (∃ (t : _) (s : State), s.str.accums = [] ∧ 64 ≤ strBudget s ∧ s.str.refillAt + 3600 * secT / strBudget s ≤ (advance s t).now) ∧
    (∃ (t : _) (s : State), (advance s t).now < s.str.refillAt + 3600 * secT / strBudget s) ∧
    (∃ (s : State) (c : _) (rest : _), s.str.ready = true ∧ s.str.closed = c :: rest) ∧
    (∃ (s : State) (c : _) (rest : _), s.str.ready = true ∧ s.str.closed = c :: rest) ∧
    (∃ (s : State), s.str.ready = false ∧ bit s.id.ready 1 = true) ∧
    (∃ (c : Cmd) (s : State), admitted s c 0x0A02 = true ∧ c.body.bytes.length = 10 ∧ s.str.ready = true ∧ 1 ≤ leAt c.body.bytes 8 2 ∧ leAt c.body.bytes 8 2 ≤ 64) ∧
    (∃ (c : Cmd) (s : State), admitted s c 0x0A03 = true) ∧
    (∃ (c : Cmd) (s : State) (v : _), admitted s c 0x0A10 = true ∧ c.regWrites = [(4, v)] ∧ 64 ≤ field v 13 0 ∧ field v 13 0 ≤ 8192) ∧
    (∃ (c : Cmd) (s : State) (v : _) (i : _), admitted s c 0x0A11 = true ∧ c.regWrites = [(0x100 + 4 * i, v)] ∧ i ≤ 43 ∧ 1 ≤ field v 11 0 ∧ field v 11 0 ≤ 3600) := ⟨
  ⟨0, { str := { accums := [(40, accum)] } }, 40, accum, by decide +kernel⟩,
  ⟨0, { str := { accums := [(40, accum)], tokens := 0 } }, 40, accum, by decide +kernel⟩,
  ⟨3600 * secT, {}, by decide +kernel⟩,
  ⟨0, {}, by decide +kernel⟩,
  ⟨{ str := { ready := true, closed := [closed] } }, closed, [], by decide +kernel⟩,
  ⟨{ str := { ready := true, closed := [closed] } }, closed, [], by decide +kernel⟩,
  ⟨{ id := { ready := 3 } }, by decide +kernel⟩,
  ⟨askRaw 2 (leBytes 10 (64 * 2 ^ 64)), { works with str := { ready := true } }, by decide +kernel⟩,
  ⟨ask 2 0x0A03, works, by decide +kernel⟩,
  ⟨ask 1 0x0A10 [it 0x16 8 0x200000000004], works, 8192, by decide +kernel⟩,
  ⟨ask 1 0x0A11 [it 0x16 8 0xE10000001AC], works, 3600, 43, by decide +kernel⟩⟩

theorem witness_TimeMessages :
    (∃ (p : Fin 144) (t : _) (s : State), isPtpPort s p = true ∧ ((∀ w, (peerDelay s p).lastSend = some w → w + secT ≤ (advance s t).now))) ∧
    (∃ (p : Fin 144) (d : _) (s : State), isPtpPort s p = true ∧ d = timDomain s) ∧
    (∃ (p : Fin 144) (d : _) (s : State), (isPtpPort s p = false ∨ d ≠ timDomain s)) ∧
    (∃ (p : Fin 144) (m : PdelayResp) (s : State) (t1 : _), isPtpPort s p = true ∧ m.domain = timDomain s ∧ (peerDelay s p).sentAt = some t1 ∧ m.seq = (peerDelay s p).seq ∧ m.followUp = false ∧ m.twoStep = false) ∧
    (∃ (p : Fin 144) (m : PdelayResp) (s : State) (t1 : _) (t2 : _) (t4 : _) (c : _), isPtpPort s p = true ∧ m.domain = timDomain s ∧ (peerDelay s p).sentAt = some t1 ∧ m.seq = (peerDelay s p).seq ∧ m.followUp = true ∧ (peerDelay s p).response = some (t2, t4, c)) ∧
    (∃ (p : Fin 144) (m : Announce) (s : State), isPtpPort s p = true ∧ m.domain = timDomain s ∧ delayValid s p = true ∧ m.stepsRemoved < 255 ∧ s.tim.heard = []) ∧
    (∃ (p : Fin 144) (m : Sync) (s : State), isPtpPort s p = true ∧ m.domain = timDomain s ∧ timSource s = 1 ∧ s.tim.heard = [] ∧ fromMaster s p m.sourceId = true ∧ delayValid s p = true ∧ m.twoStep = true) ∧
    (∃ (p : Fin 144) (m : Sync) (s : State) (d : _), isPtpPort s p = true ∧ m.domain = timDomain s ∧ timSource s = 1 ∧ s.tim.heard = [] ∧ fromMaster s p m.sourceId = true ∧ delayValid s p = true ∧ m.twoStep = false ∧ (peerDelay s p).delay = some d) ∧
    (∃ (p : Fin 144) (m : FollowUp) (s : State) (d : _) (q : _), isPtpPort s p = true ∧ m.domain = timDomain s ∧ timSource s = 1 ∧ s.tim.pendingSync = some q ∧ fromMaster s p m.sourceId = true ∧ q.sourceId = m.sourceId ∧ q.seq = m.seq ∧ (peerDelay s p).delay = some d) := ⟨
  ⟨3, 0, timing {}, by decide +kernel, fun _ h => nomatch h⟩,
  ⟨3, 5, timing {}, by decide +kernel⟩,
  ⟨3, 4, timing {}, by decide +kernel⟩,
  ⟨3, { domain := 5, seq := 7, followUp := false, twoStep := false, stamp := 0, correction := 0 }, timing {} { seq := 7, sentAt := some 1 }, 1, by decide +kernel⟩,
  ⟨3, { domain := 5, seq := 7, followUp := true, twoStep := false, stamp := 0, correction := 0 }, timing {} { seq := 7, sentAt := some 1, response := some (2, 3, 0) }, 1, 2, 3, 0, by decide +kernel⟩,
  ⟨3, { domain := 5, sourceId := 9, grandmaster := 9, priority1 := 1, clockClass := 6, clockAccuracy := 0, variance := 0, priority2 := 0, stepsRemoved := 254 }, timing {}, by decide +kernel⟩,
  ⟨3, { domain := 5, sourceId := 9, seq := 1, logInterval := 0, twoStep := true, origin := 0, correction := 0 }, timing {}, by decide +kernel⟩,
  ⟨3, { domain := 5, sourceId := 9, seq := 1, logInterval := 0, twoStep := false, origin := 0, correction := 0 }, timing {}, 10, by decide +kernel⟩,
  ⟨3, { domain := 5, sourceId := 9, seq := 1, origin := 0, correction := 0 }, timing { pendingSync := some { sourceId := 9, seq := 1, ingress := 0, correction := 0 } }, 10, { sourceId := 9, seq := 1, ingress := 0, correction := 0 }, by decide +kernel⟩⟩

theorem witness_TimeKeeping :
    (∃ (t : _) (s : State) (w : _), s.tim.lastUsed = some w ∧ timSource s = 1 ∧ w + s.tim.syncInterval * 3 / 2 ≤ (advance s t).now) ∧
    (∃ (t : _) (s : State) (w : _), s.tim.lastUsed = some w ∧ s.tim.locked = true ∧ w + holdover s ≤ (advance s t).now) ∧
    (∃ (r : _) (s : State), timSource s = 2 ∧ r ≠ bit s.tim.ppsCfg 2 ∧ s.tim.setSec = none) ∧
    (∃ (t : _) (s : State), timSource s = 2 ∧ s.tim.holdover = false ∧ s.tim.lastUsed.getD s.tim.sourceAt + 2 * secT ≤ (advance s t).now) ∧
    (∃ (t : _) (s : State), devSec (advance s t) ≠ s.tim.corrSec ∧ bit s.tim.ppsCfg 0 = true ∧ s.tim.locked = true) ∧
    (∃ (t : _) (s : State), devSec (advance s t) ≠ s.tim.corrSec ∧ bit s.tim.ppsCfg 0 = false) ∧
    (∃ (t : _) (s : State) (w : _), s.tim.corrWrittenAt = some w ∧ s.tim.locked = true ∧ w + 1024 * secT ≤ (advance s t).now) ∧
    (∃ (c : Cmd) (s : State) (v : _), admitted s c 0x0911 = true ∧ c.regWrites = [(0x2C, v)] ∧ timRangeOk 0x2C v = true) ∧
    (∃ (c : Cmd) (s : State) (a : _) (v : _), admitted s c 0x0911 = true ∧ (a, v) ∈ c.regWrites ∧ timRangeOk a v = false) ∧
    (∃ (c : Cmd) (s : State), admitted s c 0x0912 = true ∧ timSource s = 2) := ⟨
  ⟨0, timing { lastUsed := some 0 }, 0, by decide +kernel⟩,
  ⟨60 * secT, timing { lastUsed := some 0, locked := true }, 0, by decide +kernel⟩,
  ⟨true, { tim := { cfg := 2 } }, by decide +kernel⟩,
  ⟨2 * secT, { tim := { cfg := 2 } }, by decide +kernel⟩,
  ⟨2 * secT, { id := { clk := 0xFF }, tim := { ppsCfg := 0x6401, locked := true } }, by decide +kernel⟩,
  ⟨2 * secT, { id := { clk := 0xFF }, tim := { ppsCfg := 0x6400 } }, by decide +kernel⟩,
  ⟨1024 * secT, { tim := { corrWrittenAt := some 0, locked := true } }, 0, by decide +kernel⟩,
  ⟨ask 1 0x0911 [it 0x16 8 0x1000E100000002C], works, 0x1000E10, by decide +kernel⟩,
  ⟨ask 1 0x0911 [it 0x16 8 0x1000E110000002C], works, 0x2C, 0x1000E11, by decide +kernel⟩,
  ⟨ask 1 0x0912, { works with tim := { cfg := 2 } }, by decide +kernel⟩⟩

theorem witness_LanternWatches :
    (∃ (t : _) (s : State), (advance s t).now < s.lan.sampledAt + sampleT) ∧
    (∃ (t : _) (s : State), s.lan.power = .run ∧ s.lan.sampledAt + sampleT ≤ (advance s t).now ∧ s.lan.faultQ ≠ []) ∧
    (∃ (x : Sample) (t : _) (s : State) (src : _) (k : _) (h : _), s.lan.power = .run ∧ s.lan.sampledAt + sampleT ≤ (advance s t).now ∧ s.lan.faultQ = [] ∧ s.lan.holds = [] ∧ x.levels = [] ∧ x.trips = [] ∧ src ≤ 6 ∧ k / 1024 = src ∧ (k, h) ∈ s.lan.history ∧ (medianZone h = 4 ∨ medianZone h = 0)) ∧
    (∃ (l : List (Nat × Bool)) (s : State), 1024 ≤ s.lan.samples ∧ s.lan.power = .run ∧ bit s.lan.active 7 = false ∧ ((∃ e ∈ l, e.1 ≤ 5))) ∧
    (∃ (s : State), s.lan.power = .run) ∧
    (∃ (s : State) (z : _), s.lan.zeroizing = some z ∧ z.entry = none) ∧
    (∃ (s : State) (z : _) (q : _), s.lan.zeroizing = some z ∧ z.entry = some q) ∧
    (∃ (c : Fin 8) (s : State), c ≠ 3 ∧ bit s.id.clk c = true) := ⟨
  ⟨sampleT - 1, {}, by decide +kernel⟩,
  ⟨sampleT, { lan := { faultQ := [(1, 0)] } }, by decide +kernel⟩,
  ⟨{ levels := [], trips := [], pins := 0, upset := false }, sampleT, { lan := { history := [(6 * 1024, [4, 4, 4])] } }, 6, 6 * 1024, [4, 4, 4], by decide +kernel⟩,
  ⟨[(5, true)], { lan := { samples := 1024 } }, by decide +kernel⟩,
  ⟨{}, by decide +kernel⟩,
  ⟨{ lan := { zeroizing := some { source := 1, entry := none } } }, { source := 1, entry := none }, by decide +kernel⟩,
  ⟨{ lan := { zeroizing := some { source := 1, entry := some 3 } } }, { source := 1, entry := some 3 }, 3, by decide +kernel⟩,
  ⟨7, { id := { clk := 0xFF } }, by decide +kernel⟩⟩

theorem witness_LanternCommands :
    (∃ (c : Cmd) (s : State) (x : _) (v : _), admitted s c 0x0902 = true ∧ c.regWrites = [(0x100 + 4 * x, v)] ∧ sourceOk (0x100 + 4 * x) v = true ∧ lowersSource s x v = false) ∧
    (∃ (c : Cmd) (s : State) (x : _) (v : _), admitted s c 0x0902 = true ∧ c.regWrites = [(0x100 + 4 * x, v)] ∧ sourceOk (0x100 + 4 * x) v = true ∧ lowersSource s x v = true) ∧
    (∃ (c : Cmd) (s : State) (n : _) (v : _), admitted s c 0x0903 = true ∧ c.regWrites = [(0x200 + 4 * n, v)] ∧ n ≤ 7 ∧ pairOk (tmpCfg (setTmp s n v) (2 * (n / 2))) (tmpCfg (setTmp s n v) (2 * (n / 2) + 1)) = true ∧ pairArmed (setTmp s n v) (n / 2) = false ∧ lowersPin s (0x200 + 4 * n, v) = false) ∧
    (∃ (c : Cmd) (s : State) (n : _) (v : _), admitted s c 0x0903 = true ∧ c.regWrites = [(0x200 + 4 * n, v)] ∧ n ≤ 7 ∧ pairOk (tmpCfg (setTmp s n v) (2 * (n / 2))) (tmpCfg (setTmp s n v) (2 * (n / 2) + 1)) = true ∧ pairArmed (setTmp s n v) (n / 2) = false ∧ lowersPin s (0x200 + 4 * n, v) = true) ∧
    (∃ (c : Cmd) (s : State) (k : _) (a : _) (b : _) (v : _) (x : _), draw s 1 false 4 = (v, .ok x) ∧ admitted s c 0x0903 = true ∧ c.regWrites = [(0x200 + 8 * k, a), (0x204 + 8 * k, b)] ∧ k ≤ 3 ∧ field a 2 0 = 3 ∧ field b 2 0 = 4 ∧ pinMode s (2 * k) = 0 ∧ pinMode s (2 * k + 1) = 0 ∧ bit (tmpCfg s (2 * k)) 3 = false ∧ bit (tmpCfg s (2 * k + 1)) 3 = false) ∧
    (∃ (c : Cmd) (s : State), admitted s c 0x0904 = true) ∧
    (∃ (c : Cmd) (s : State), admitted s c 0x0905 = true) ∧
    (∃ (c : Cmd) (s : State), admitted s c 0x0906 = true) := ⟨
  ⟨ask 1 0x0902 [it 0x16 8 0x400000100], works, 0, 4, by decide +kernel⟩,
  ⟨ask 1 0x0902 [it 0x16 8 0x100000100], { works with lan := { srcCfg := [(0, 2)] } }, 0, 1, by decide +kernel⟩,
  ⟨ask 1 0x0903 [it 0x16 8 0x10000021C], works, 7, 1, by decide +kernel⟩,
  ⟨ask 1 0x0903 [it 0x16 8 0x00000021C], { works with lan := { tmpCfg := [(7, 1)] } }, 7, 0, by decide +kernel⟩,
  ⟨ask 1 0x0903 [it 0x16 8 (0x218 + 3 * 2 ^ 32), it 0x16 8 (0x21C + 4 * 2 ^ 32)], works, 3, 3, 4, _, _, rfl, by decide +kernel⟩,
  ⟨ask 1 0x0904, works, by decide +kernel⟩,
  ⟨ask 2 0x0905, works, by decide +kernel⟩,
  ⟨ask 2 0x0906, works, by decide +kernel⟩⟩

/-- A debug certificate of right 0 for PRODUCTION, valid from tick 0 to tick 1000. -/
def cert : Bytes := leBytes 4 0x54434244 ++ leBytes 4 0x10001 ++ zeros 16 ++ leBytes 4 1 ++ [4, 1, 0, 0] ++ leBytes 8 0 ++ leBytes 8 1000 ++ zeros 80

/-- A live certificate until tick 5. -/
def live : LiveCert := { rights := 1, id := 1, dapKey := 0, notAfter := 5, wires := 0 }

/-- An empty restore record. -/
def restore0 : Restore := { tables := [], banks := [], bypassByCert := [], ports := [], poolMap := [], chamber := 0, lend := 0, tim := [], vlog := 0 }

/-- The device at work before its restore, with the empty record under a seal. -/
def restoring (x : Sealed) : State := { works with die := { works.die with restore := some (restore0, x) } }

theorem restore_sound : restoreSound (restoring (wrap (wrapKey works) [] restore0.bytes)) (restore0, wrap (wrapKey works) [] restore0.bytes) = true := by
  have h := unwrap_wrap (wrapKey works) [] restore0.bytes
  change ((wrap (wrapKey works) [] restore0.bytes).unwrap (wrapKey works) == _) = true
  rw [h]
  decide +kernel

theorem restore_unsound : restoreSound (restoring (wrap (wrapKey works) [] (restore0.bytes ++ [0]))) (restore0, wrap (wrapKey works) [] (restore0.bytes ++ [0])) = false := by
  have h := unwrap_wrap (wrapKey works) [] (restore0.bytes ++ [0])
  change ((wrap (wrapKey works) [] (restore0.bytes ++ [0])).unwrap (wrapKey works) == _) = false
  rw [h]
  decide +kernel

theorem witness_LifeCycleCommands :
    (∃ (c : Cmd) (s : State) (st : _), admitted s c 0x0810 = true ∧ c.body.bytes.length = 8 ∧ allZero (c.body.bytes.drop 2) = true ∧ ((0x10 ≤ leAt c.body.bytes 0 1 ∧ leAt c.body.bytes 0 1 ≤ 0x1F → leAt c.body.bytes 1 1 = leAt c.body.bytes 0 1 - 0x10)) ∧ transitionGate s c (leAt c.body.bytes 0 1) = some st) ∧
    (∃ (c : Cmd) (s : State), c.caller = .tap ∧ s.lcy.tap.ir = 0x20 ∧ firmwareRuns s = true ∧ domainKnown s c.domain = true ∧ itemsFault 0x0810 c.body = false ∧ c.body.bytes = [2, 0, 0, 0, 0, 0, 0, 0] ∧ s.lcy.state = 1 ∧ s.die.serialFused = true ∧ suspended s = false ∧ c.facts = []) ∧
    (∃ (c : Cmd) (s : State), c.caller = .tap ∧ s.lcy.tap.ir = 0x20 ∧ firmwareRuns s = true ∧ domainKnown s c.domain = true ∧ itemsFault 0x0811 c.body = false ∧ inTest s = true ∧ c.facts.getD 1 0 = 0) ∧
    (∃ (c : Cmd) (s : State) (v : _) (b : _), draw s 1 false 32 = (v, .ok b) ∧ admitted s c 0x0802 = true) ∧
    (∃ (c : Cmd) (s : State), admitted s c 0x0830 = true) ∧
    (∃ (c : Cmd) (s : State), admitted s c 0x0820 = true ∧ c.body.bytes.length = 128 ∧ unlockGate s c.body.bytes = none ∧ c.facts.headD 1 = 1) ∧
    (∃ (c : Cmd) (s : State) (st : _), admitted s c 0x0820 = true ∧ c.body.bytes.length = 128 ∧ unlockGate s c.body.bytes = some st) ∧
    (∃ (c : Cmd) (s : State) (x : _), admitted s c 0x0821 = true ∧ s.lcy.cert = some x) ∧
    (∃ (m : Master) (v : _), m.isSecure = true ∧ bit v 0 = true) ∧
    (∃ (t : _) (s : State) (x : _), s.lcy.cert = some x ∧ x.notAfter < lanternTick (advance s t)) ∧
    (∃ (t : _) (s : State) (x : _), s.lcy.cert = some x ∧ lanternTick (advance s t) ≤ x.notAfter) := ⟨
  ⟨askRaw 1 (leBytes 8 1), works, .lifecycleForbids, by decide +kernel⟩,
  ⟨{ askRaw 1 (leBytes 8 2) with caller := .tap }, { lcy := { tap := { ir := 0x20 } } }, by decide +kernel⟩,
  ⟨{ ask 1 0 with caller := .tap, body := .items [] }, { lcy := { state := 0x1F, origin := 3, tap := { ir := 0x20 } } }, by decide +kernel⟩,
  ⟨ask 1 0x0802, works, _, _, rfl, by decide +kernel⟩,
  ⟨ask 2 0x0830, works, by decide +kernel⟩,
  ⟨askRaw 1 cert, works, by decide +kernel⟩,
  ⟨askRaw 1 (zeros 128), works, .invalidParameter, by decide +kernel⟩,
  ⟨ask 2 0x0821, { works with lcy := { cert := some live } }, live, by decide +kernel⟩,
  ⟨.secure 0, 1, by decide +kernel⟩,
  ⟨6 * secT, { lcy := { cert := some live } }, live, by decide +kernel⟩,
  ⟨0, { lcy := { cert := some live } }, live, by decide +kernel⟩⟩

theorem witness_TapInstructions :
    (∃ (s : State), boundaryAllowed s = true) ∧
    (∃ (s : State), boundaryAllowed s = false) ∧
    (∃ (l : List Bool), l.length = 32) ∧
    (∃ (s : State), boundaryAllowed s = true) ∧
    (∃ (s : State), boundaryAllowed s = true) ∧
    (∃ (s : State), boundaryAllowed s = false) ∧
    (∃ (s : State), rightsInForce s ≠ 0) ∧
    (∃ (s : State), rightsInForce s = 0) ∧
    (∃ (s : State), hasRight s 7 = true) ∧
    (∃ (s : State), hasRight s 7 = false) := ⟨
  ⟨{}, by decide +kernel⟩,
  ⟨{ lcy := { state := 4 } }, by decide +kernel⟩,
  ⟨List.replicate 32 true, by decide +kernel⟩,
  ⟨{ lcy := { state := 2 } }, by decide +kernel⟩,
  ⟨{ lcy := { state := 0x1F } }, by decide +kernel⟩,
  ⟨{ lcy := { state := 3 } }, by decide +kernel⟩,
  ⟨{}, by decide +kernel⟩,
  ⟨{ lcy := { state := 4 } }, by decide +kernel⟩,
  ⟨{}, by decide +kernel⟩,
  ⟨{ lcy := { state := 2 } }, by decide +kernel⟩⟩

theorem witness_PowerAndResets :
    (∃ (x : Straps) (s : State), s.lan.mainGood = false ∧ x.locks = true) ∧
    (∃ (s : State), s.lan.mainGood = true) ∧
    (∃ (s : State), s.lan.mainGood = false) ∧
    (∃ (s : State), s.lan.vbat = true ∧ s.lan.mainGood = false) ∧
    (∃ (s : State), s.lan.standbyOk = false) ∧
    (∃ (s : State), s.lan.standbyOk = false ∧ s.lan.mainGood = false) ∧
    (∃ (s : State), s.lan.mainGood = true) ∧
    (∃ (m : Master), m.isSecure = true) ∧
    (∃ (m : Master), m.isSecure = true) ∧
    (∃ (x : Straps) (s : State), s.lan.mainGood = true ∧ bit s.id.ready 1 = false ∧ x.locks = true) ∧
    (∃ (t : _) (s : State) (r : _) (x : _) (w : _), secureUp s = true ∧ s.psg.restored = false ∧ s.kst.root.isSome = true ∧ s.die.restore = some (r, x) ∧ restoreSound s (r, x) = true ∧ w = drawSeeds { advance s t with psg := { (advance s t).psg with restored := true } }) ∧
    (∃ (t : _) (s : State) (r : _) (x : _) (w : _), secureUp s = true ∧ s.psg.restored = false ∧ s.kst.root.isSome = true ∧ s.die.restore = some (r, x) ∧ restoreSound s (r, x) = false ∧ w = drawSeeds { advance s t with psg := { (advance s t).psg with restored := true } }) ∧
    (∃ (s : State), secureUp s = true ∧ s.psg.restored = false ∧ s.kst.root.isSome = true ∧ s.die.restore = none) ∧
    (∃ (s : State), secureUp s = false) := ⟨
  ⟨{ chamberId := 15, mgmtEn := true, locks := true }, { lan := { mainGood := false } }, by decide +kernel⟩,
  ⟨{}, by decide +kernel⟩,
  ⟨{ lan := { mainGood := false } }, by decide +kernel⟩,
  ⟨{ lan := { mainGood := false } }, by decide +kernel⟩,
  ⟨{ lan := { standbyOk := false } }, by decide +kernel⟩,
  ⟨{ lan := { standbyOk := false, mainGood := false } }, by decide +kernel⟩,
  ⟨{}, by decide +kernel⟩,
  ⟨.secure 3, by decide +kernel⟩,
  ⟨.secure 3, by decide +kernel⟩,
  ⟨{ chamberId := 15, mgmtEn := true, locks := true }, {}, by decide +kernel⟩,
  ⟨0, restoring (wrap (wrapKey works) [] restore0.bytes), restore0, wrap (wrapKey works) [] restore0.bytes, _, by decide +kernel, by decide +kernel, by decide +kernel, rfl, restore_sound, rfl⟩,
  ⟨0, restoring (wrap (wrapKey works) [] (restore0.bytes ++ [0])), restore0, wrap (wrapKey works) [] (restore0.bytes ++ [0]), _, by decide +kernel, by decide +kernel, by decide +kernel, rfl, restore_unsound, rfl⟩,
  ⟨works, by decide +kernel⟩,
  ⟨{}, by decide +kernel⟩⟩

/-- The Karst on: three live members, domain 1 replicated as given, this device being member 0. -/
def karstOn (r : RepDomain) (i : List KarIn := []) (k : Karst := {}) : State :=
  { works with
    kar := { k with inbound := i }
    flash := { works.flash with karst := three r } }
where
  /-- The stored Karst record. -/
  three (r : RepDomain) : KarStore :=
    { state := 2, nextMember := 3, domains := [(1, r), (0xFFFF, { version := 5, replicas := [0, 1, 2] })], roster := (List.range 3).map liveOne }
  /-- A live member. -/
  liveOne (m : Nat) : Nat × RosterEntry := (m, { member := m, serial := leBytes 16 (m + 1), keyDigest := [], live := true, version := 1 })

/-- The message `m` of member `p` waits inbound. -/
def inb (p : Nat) (m : KarMsg) : List KarIn := [{ sender := p, dest := 0, type := karType m, session := 0, urgent := false, payload := Config.karBody m }]

/-- Domain 1 of members 0, 1, 2 at version 4, with primary `q`. -/
def rep (q : Nat) : RepDomain := { version := 4, term := 2, primary := q, replicas := [0, 1, 2] }

/-- The change of version 5 of domain 1 by member `q`: a destruction of nothing. -/
def change (q : Nat) : Change := { karstId := zeros 16, domain := 1, proposer := q, version := 5, term := 2, prev := zeros 48, body := .command 0x0202 none [] }

/-- A hello of member 1. -/
def hello : KarHello := { member := 1, serial := zeros 16, karstId := zeros 16, rosterVersion := 5, nonce := [], kem := [], xKey := [], sig := [] }

/-- A message queued for member 1, to which a session stands. -/
def queued : KarOut := { dest := 1, msg := .rosterPoll 5 }

/-- A session. -/
def peerSession : KarSession := { id := 1, keys := [], openedAt := 0 }

/-- An offer out to member 1. -/
def offering : KarOffering := { madeAt := 0, hello := hello, kemSecret := [], xSecret := [] }

/-- An ask that ends at one second. -/
def asking : KarAsk := { dest := 1, domain := 1, msg := .rosterPoll 5, sentAt := 0, ends := secT }

/-- Ethernet, IPv4 and UDP headers to the Karst's port. -/
def udpHead : Bytes := zeros 12 ++ [8, 0, 0x45] ++ zeros 8 ++ [17] ++ zeros 10 ++ [0, 0, 0x10, 0x30] ++ zeros 4

theorem witness_KarstChangesAreProposed :
    (∃ (c : Cmd) (s : State), admitted s c 0x0B01 = true ∧ leastOf (memberConditions s ++ [(s.geo.state != .normal, .notReady), (karState s != 0, .busyLocked)]) = none ∧ drawWaits s 3 16 = false ∧ drawWaits s 1 128 = false) ∧
    (∃ (c : Cmd) (s : State), admitted s c 0x0B02 = true ∧ leastOf (memberConditions s ++ [(karState s == 1 || karState s == 2, .busyLocked), (s.die.attestation.isNone, .notReady)]) = none ∧ drawWaits s 1 128 = false) ∧
    (∃ (c : Cmd) (s : State), admitted s c 0x0B03 = true ∧ karActive s = true ∧ inCouncil s = true ∧ c.body.bytes.take 16 = s.flash.karst.id ∧ (s.flash.karst.roster.any fun e => e.2.live && e.2.serial == slice c.body.bytes 16 16) = false ∧ freeMember s < 16384) ∧
    (∃ (c : Cmd) (s : State), admitted s c 0x0B04 = true ∧ karActive s = true ∧ inCouncil s = true ∧ (liveMember s (c.nat 0x0F)).isSome = true) ∧
    (∃ (c : Cmd) (s : State), admitted s c 0x0B05 = true ∧ karActive s = true) ∧
    (∃ (c : Cmd) (s : State), admitted s c 0x0B05 = true ∧ karActive s = false) ∧
    (∃ (c : Cmd) (s : State), admitted s c 0x0B10 = true ∧ karActive s = true ∧ c.domain ≠ 0 ∧ repDomain s c.domain = none ∧ membersOk s (namedMembers c) = true ∧ (namedMembers c).contains (selfNo s) = true) ∧
    (∃ (c : Cmd) (s : State), admitted s c 0x0B11 = true ∧ karActive s = true ∧ isReplica s c.domain (selfNo s) = true ∧ membersOk s (namedMembers c) = true) := ⟨
  ⟨ask 1 0x0B01, works, by decide +kernel⟩,
  ⟨ask 1 0x0B02, works, by decide +kernel⟩,
  ⟨askRaw 1 (zeros 32), karstOn (rep 0), by decide +kernel⟩,
  ⟨ask 1 0x0B04 [it 0x0F 2 2], karstOn (rep 0), by decide +kernel⟩,
  ⟨ask 1 0x0B05, karstOn (rep 0), by decide +kernel⟩,
  ⟨ask 1 0x0B05, works, by decide +kernel⟩,
  ⟨ask 3 0x0B10 [it 0x0F 2 0, it 0x0F 2 1, it 0x0F 2 2], { karstOn (rep 0) with flash := { works.flash with karst := { (karstOn (rep 0)).flash.karst with domains := [] } } }, by decide +kernel⟩,
  ⟨ask 3 0x0B11 [it 0x0F 2 0, it 0x0F 2 1, it 0x0F 2 2], karstOn (rep 0), by decide +kernel⟩⟩

theorem witness_KarstTransport :
    (∃ (c : Cmd) (s : State) (r : _), admitted s c 0x0B12 = true ∧ karState s = 2 ∧ repDomain s c.domain = some r) ∧
    (∃ (c : Cmd) (s : State), admitted s c 0x0B20 = true) ∧
    (∃ (c : Cmd) (s : State) (v : _), admitted s c 0x0B21 = true ∧ c.regWrites = [(0x1024, v)] ∧ 500 ≤ field v 15 0 ∧ field v 15 0 ≤ 60000 ∧ 100 ≤ field v 31 16 ∧ field v 31 16 ≤ 60000) ∧
    (∃ (c : Cmd) (s : State) (e : _), admitted s c 0x0B21 = true ∧ e ∈ c.regWrites ∧ karWriteMask e.1 e.2 = none) ∧
    (∃ (c : Cmd) (s : State), admitted s c 0x0B40 = true ∧ s.kar.outUrgent = [] ∧ s.kar.outNormal = []) ∧
    (∃ (c : Cmd) (s : State) (e : _) (rest : _), admitted s c 0x0B40 = true ∧ s.kar.outUrgent = e :: rest ∧ s.kar.outNormal = [] ∧ ((∀ x ∈ e :: rest, sendable s x = true))) ∧
    (∃ (c : Cmd) (s : State) (ty : _) (n : _), admitted s c 0x0B41 = true ∧ ty = beNat (slice c.body.bytes 3 1) ∧ isHandshake ty = true ∧ n = beNat (slice c.body.bytes 22 2) ∧ c.body.bytes.length = 24 + n ∧ n ≤ 8192 ∧ be16 c.body.bytes 0 = 0x4B41 ∧ beNat (slice c.body.bytes 2 1) = 1 ∧ beNat (slice c.body.bytes 20 2) = 2 ^ 15) ∧
    (∃ (c : Cmd) (s : State) (n : _), admitted s c 0x0B41 = true ∧ isHandshake (beNat (slice c.body.bytes 3 1)) = false ∧ n = beNat (slice c.body.bytes 22 2) ∧ c.body.bytes.length = 40 + n ∧ n ≤ 8192 ∧ be16 c.body.bytes 0 = 0x4B41 ∧ beNat (slice c.body.bytes 2 1) = 1 ∧ sessionKeys s (beNat (slice c.body.bytes 16 2)) (beNat (slice c.body.bytes 4 4)) = none) ∧
    (∃ (c : Cmd) (s : State) (n : _) (src : _) (id : _) (seq : _) (k : _) (rx : _), admitted s c 0x0B41 = true ∧ isHandshake (beNat (slice c.body.bytes 3 1)) = false ∧ n = beNat (slice c.body.bytes 22 2) ∧ c.body.bytes.length = 40 + n ∧ n ≤ 8192 ∧ be16 c.body.bytes 0 = 0x4B41 ∧ beNat (slice c.body.bytes 2 1) = 1 ∧ id = beNat (slice c.body.bytes 4 4) ∧ seq = beNat (slice c.body.bytes 8 8) ∧ src = beNat (slice c.body.bytes 16 2) ∧ beNat (slice c.body.bytes 20 2) = 2 ^ 15 ∧ sessionKeys s src id = some (k, rx)) ∧
    (∃ (c : Cmd) (s : State) (msg : _) (v : _) (ip : _) (udp : _), admitted s c 0x0B42 = true ∧ s.kar.taken.look (c.nat 0x34) = some msg ∧ karPort s (c.nat 7) = true ∧ isChamber s (c.nat 7) = false ∧ (wire s (wireOf (c.nat 7))).active.modeOf < 2 ∧ udpPlace (c.bytes 0x35) = some (v, ip, udp) ∧ be16 (c.bytes 0x35) (udp + 2) = field s.kar.cfg 15 0 ∧ (c.bytes 0x35).length + msg.length + 4 ≤ (port s (c.nat 7)).maxFrame) ∧
    (∃ (c : Cmd) (s : State) (msg : _), admitted s c 0x0B42 = true ∧ s.kar.taken.look (c.nat 0x34) = some msg ∧ karPort s (c.nat 7) = false ∧ (c.bytes 0x35).length + msg.length + 4 ≤ (port s (c.nat 7)).maxFrame) := ⟨
  ⟨ask 4 0x0B12, karstOn (rep 0), rep 0, by decide +kernel⟩,
  ⟨ask 2 0x0B20, works, by decide +kernel⟩,
  ⟨ask 1 0x0B21 [it 0x16 8 0xEA60EA6000001024], works, 0xEA60EA60, by decide +kernel⟩,
  ⟨ask 1 0x0B21 [it 0x16 8 0x00001024], works, (0x1024, 0), by decide +kernel⟩,
  ⟨askFirm 0x0B40, works, by decide +kernel⟩,
  ⟨askFirm 0x0B40, karstOn (rep 0) [] { outUrgent := [queued], sessions := [(1, peerSession)] }, queued, [], by decide +kernel⟩,
  ⟨{ askFirm 0 with body := .raw ([0x4B, 0x41, 1, 1] ++ zeros 16 ++ [0x80, 0, 0, 0]) }, works, 1, 0, by decide +kernel⟩,
  ⟨{ askFirm 0 with body := .raw ([0x4B, 0x41, 1, 3] ++ zeros 36) }, works, 0, by decide +kernel⟩,
  ⟨{ askFirm 0 with body := .raw ([0x4B, 0x41, 1, 3, 0, 0, 0, 1, 0, 0, 0, 0, 0, 0, 0, 1, 0, 1, 0, 0, 0x80, 0, 0, 0] ++ zeros 16) }, karstOn (rep 0) [] { sessions := [(1, peerSession)] }, 0, 1, 1, 1, [], 0, by decide +kernel⟩,
  ⟨askFirm 0x0B42 [it 7 2 5, it 0x34 4 9, { type := 0x35, value := udpHead }], karstOn (rep 0) [] { ports := 0xFFFFFF05, taken := [(9, [1])] }, [1], 4, 14, 34, by decide +kernel⟩,
  ⟨askFirm 0x0B42 [it 7 2 6, it 0x34 4 9, { type := 0x35, value := udpHead }], karstOn (rep 0) [] { ports := 0xFFFFFF05, taken := [(9, [1])] }, [1], by decide +kernel⟩⟩

theorem witness_KarstReplication :
    (∃ (p : _) (d : _) (g : _) (s : State) (r : _) (n : _), Received s p (.heartbeat d g n) ∧ repDomain s d = some r ∧ r.term = g ∧ r.primary = p ∧ n ≤ r.version) ∧
    (∃ (p : _) (c : Change) (g : _) (s : State) (r : _), Received s p (.propose c g) ∧ repDomain s c.domain = some r ∧ c.term < r.term ∧ ((∀ l x, c.body ≠ .replicaSet l x))) ∧
    (∃ (p : _) (c : Change) (g : SigEntry) (s : State) (r : _) (k : _), Received s p (.propose c g) ∧ repDomain s c.domain = some r ∧ c.term = r.term ∧ c.proposer = r.primary ∧ c.karstId = s.flash.karst.id ∧ r.signed = [] ∧ c.version = r.version + 1 ∧ c.prev = r.head ∧ g.member = c.proposer ∧ c.body = .command k none [] ∧ suspended s = false ∧ s.geo.state ≠ .readOnly) ∧
    (∃ (p : _) (d : _) (n : _) (g : _) (x : _) (b : _) (s : State) (r : _) (c : Change) (l : _), Received s p (.signed d n g x b) ∧ repDomain s d = some r ∧ r.signed = [(c, l)] ∧ c.version = n ∧ c.term = g ∧ x.member = p ∧ (l.map (·.member)).contains p = false ∧ r.primary = selfNo s ∧ c.domain = d ∧ r.term = g ∧ isMajority r.replicas (r.replicas.countP ((l ++ [x]).map (·.member)).contains) = false) ∧
    (∃ (p : _) (d : _) (n : _) (g : _) (x : _) (b : _) (s : State) (r : _) (c : Change) (l : _) (k : _) (cmd : _), Received s p (.signed d n g x b) ∧ repDomain s d = some r ∧ r.signed = [(c, l)] ∧ c.version = n ∧ c.term = g ∧ x.member = p ∧ (l.map (·.member)).contains p = false ∧ r.primary = selfNo s ∧ c.domain = d ∧ r.term = g ∧ c.body = .command k cmd [] ∧ s.kar.waits = [] ∧ isMajority r.replicas (r.replicas.countP ((l ++ [x]).map (·.member)).contains) = true) ∧
    (∃ (p : _) (c : Change) (l : _) (s : State) (r : _) (k : _) (cmd : _), Received s p (.commit c l) ∧ repDomain s c.domain = some r ∧ c.term ≤ r.term ∧ c.version = r.version + 1 ∧ c.prev = r.head ∧ c.body = .command k cmd []) ∧
    (∃ (p : _) (c : Change) (l : _) (s : State) (r : _), Received s p (.commit c l) ∧ repDomain s c.domain = some r ∧ c.term ≤ r.term ∧ r.version + 1 < c.version) ∧
    (∃ (p : _) (c : Change) (l : _) (s : State) (r : _), Received s p (.commit c l) ∧ repDomain s c.domain = some r ∧ c.term ≤ r.term ∧ c.version ≤ r.version) ∧
    (∃ (p : _) (d : _) (n : _) (h : _) (s : State), Received s p (.decline d n .notReady h)) ∧
    (∃ (p : _) (d : _) (n : _) (st : _) (h : _) (s : State), Received s p (.decline d n st h) ∧ st ≠ .notReady ∧ repDomain s d = none) ∧
    (∃ (p : _) (i : _) (d : _) (b : _) (s : State), Received s p (.forward i d (some b) none) ∧ repDomain s d = none) ∧
    (∃ (p : _) (i : _) (d : _) (b : _) (t : _) (s : State) (r : _) (w : _), Received s p (.forward i d (some b) none) ∧ w = { advance s t with kar := { s.kar with inbound := [] } } ∧ takeGate w d b = none ∧ repDomain s d = some r ∧ isReplica s d (selfNo s) = true ∧ r.primary = selfNo s) ∧
    (∃ (p : _) (i : _) (d : _) (st : _) (s : State) (x : _), Received s p (.forward i d none (some st)) ∧ s.kar.waits = [x] ∧ x.forwarded = i ∧ x.domain = d ∧ i ≠ 0) ∧
    (∃ (p : _) (d : _) (g : _) (st : _) (sv : _) (s : State) (r : _), Received s p (.voteRequest d g st sv) ∧ repDomain s d = some r ∧ isReplica s d p = true ∧ r.term < g ∧ r.voted < g ∧ rankAtLeast (st, sv) (signedRank r) = true) ∧
    (∃ (p : _) (d : _) (g : _) (st : _) (sv : _) (s : State) (r : _), Received s p (.voteRequest d g st sv) ∧ repDomain s d = some r ∧ g ≤ r.voted) ∧
    (∃ (p : _) (d : _) (g : _) (s : State) (r : _), Received s p (.vote d g) ∧ repDomain s d = some r ∧ (karDomain s d).candidate = g ∧ (karDomain s d).votes.contains p = false ∧ isMajority r.replicas (r.replicas.countP ((karDomain s d).votes ++ [p]).contains) = false) ∧
    (∃ (p : _) (d : _) (g : _) (s : State) (r : _), Received s p (.vote d g) ∧ repDomain s d = some r ∧ (karDomain s d).candidate = g ∧ g ≠ 0 ∧ r.signed = [] ∧ (karDomain s d).votes.contains p = false ∧ isMajority r.replicas (r.replicas.countP ((karDomain s d).votes ++ [p]).contains) = true) := ⟨
  ⟨1, 1, 2, karstOn (rep 1) (inb 1 (.heartbeat 1 2 4)), rep 1, 4, ⟨⟨_, rfl, rfl, rfl, rfl⟩, by decide +kernel⟩, by decide +kernel⟩,
  ⟨1, { change 1 with term := 1 }, { member := 1, sig := [] }, karstOn (rep 1) (inb 1 (.propose { change 1 with term := 1 } { member := 1, sig := [] })), rep 1, ⟨⟨_, rfl, rfl, rfl, rfl⟩, by decide +kernel⟩, rfl, by decide +kernel, fun _ _ h => nomatch h⟩,
  ⟨1, change 1, { member := 1, sig := [] }, karstOn (rep 1) (inb 1 (.propose (change 1) { member := 1, sig := [] })), rep 1, 0x0202, ⟨⟨_, rfl, rfl, rfl, rfl⟩, by decide +kernel⟩, by decide +kernel⟩,
  ⟨1, 1, 5, 2, { member := 1, sig := [] }, false, karstOn { rep 0 with replicas := [0, 1, 2, 3, 4], signed := [(change 0, [{ member := 0, sig := [] }])] } (inb 1 (.signed 1 5 2 { member := 1, sig := [] } false)), { rep 0 with replicas := [0, 1, 2, 3, 4], signed := [(change 0, [{ member := 0, sig := [] }])] }, change 0, [{ member := 0, sig := [] }], ⟨⟨_, rfl, rfl, rfl, rfl⟩, by decide +kernel⟩, by decide +kernel⟩,
  ⟨1, 1, 5, 2, { member := 1, sig := [] }, false, karstOn { rep 0 with signed := [(change 0, [{ member := 0, sig := [] }])] } (inb 1 (.signed 1 5 2 { member := 1, sig := [] } false)), { rep 0 with signed := [(change 0, [{ member := 0, sig := [] }])] }, change 0, [{ member := 0, sig := [] }], 0x0202, none, ⟨⟨_, rfl, rfl, rfl, rfl⟩, by decide +kernel⟩, by decide +kernel⟩,
  ⟨1, change 1, [], karstOn (rep 1) (inb 1 (.commit (change 1) [])), rep 1, 0x0202, none, ⟨⟨_, rfl, rfl, rfl, rfl⟩, by decide +kernel⟩, by decide +kernel⟩,
  ⟨1, { change 1 with version := 6 }, [], karstOn (rep 1) (inb 1 (.commit { change 1 with version := 6 } [])), rep 1, ⟨⟨_, rfl, rfl, rfl, rfl⟩, by decide +kernel⟩, by decide +kernel⟩,
  ⟨1, { change 1 with version := 4 }, [], karstOn (rep 1) (inb 1 (.commit { change 1 with version := 4 } [])), rep 1, ⟨⟨_, rfl, rfl, rfl, rfl⟩, by decide +kernel⟩, by decide +kernel⟩,
  ⟨1, 1, 5, 2, karstOn (rep 0) (inb 1 (.decline 1 5 .notReady 2)), ⟨⟨_, rfl, rfl, rfl, rfl⟩, by decide +kernel⟩⟩,
  ⟨1, 7, 5, .busyLocked, 2, karstOn (rep 0) (inb 1 (.decline 7 5 .busyLocked 2)), ⟨⟨_, rfl, rfl, rfl, rfl⟩, by decide +kernel⟩, by decide +kernel⟩,
  ⟨1, 9, 7, .command 0x0202 none [], karstOn (rep 0) (inb 1 (.forward 9 7 (some (.command 0x0202 none [])) none)), ⟨⟨_, rfl, rfl, rfl, rfl⟩, by decide +kernel⟩, by decide +kernel⟩,
  ⟨1, 9, 1, .command 0x0202 none [], 0, karstOn (rep 0) (inb 1 (.forward 9 1 (some (.command 0x0202 none [])) none)), rep 0, _, ⟨⟨_, rfl, rfl, rfl, rfl⟩, by decide +kernel⟩, rfl, rfl, by decide +kernel⟩,
  ⟨1, 9, 1, .notReady, karstOn (rep 1) (inb 1 (.forward 9 1 none (some .notReady))) { waits := [{ domain := 1, version := 5, forwarded := 9, deadline := secT, change := { ops := [], reply := none } }] }, { domain := 1, version := 5, forwarded := 9, deadline := secT, change := { ops := [], reply := none } }, ⟨⟨_, rfl, rfl, rfl, rfl⟩, by decide +kernel⟩, by decide +kernel⟩,
  ⟨1, 1, 3, 0, 4, karstOn (rep 1) (inb 1 (.voteRequest 1 3 0 4)), rep 1, ⟨⟨_, rfl, rfl, rfl, rfl⟩, by decide +kernel⟩, by decide +kernel⟩,
  ⟨1, 1, 2, 2, 4, karstOn { rep 1 with voted := 2 } (inb 1 (.voteRequest 1 2 2 4)), { rep 1 with voted := 2 }, ⟨⟨_, rfl, rfl, rfl, rfl⟩, by decide +kernel⟩, by decide +kernel⟩,
  ⟨1, 1, 3, karstOn { rep 2 with replicas := [0, 1, 2, 3, 4] } (inb 1 (.vote 1 3)) { domains := [(1, { candidate := 3, votes := [0] })] }, { rep 2 with replicas := [0, 1, 2, 3, 4] }, ⟨⟨_, rfl, rfl, rfl, rfl⟩, by decide +kernel⟩, by decide +kernel⟩,
  ⟨1, 1, 3, karstOn (rep 2) (inb 1 (.vote 1 3)) { domains := [(1, { candidate := 3, votes := [0] })] }, rep 2, ⟨⟨_, rfl, rfl, rfl, rfl⟩, by decide +kernel⟩, by decide +kernel⟩⟩

theorem witness_KarstCatchUpAndSessions :
    (∃ (p : _) (d : _) (n : _) (s : State) (r : _), Received s p (.catchupRequest d n) ∧ repDomain s d = some r) ∧
    (∃ (p : _) (d : _) (c : Change) (l : _) (s : State) (r : _) (k : _) (cmd : _), Received s p (.catchup d [(c, l)]) ∧ repDomain s d = some r ∧ c.domain = d ∧ c.version = r.version + 1 ∧ c.prev = r.head ∧ c.body = .command k cmd []) ∧
    (∃ (p : _) (c : Change) (l : _) (s : State) (r : _) (m : _), Received s p (.revoke c l) ∧ c.domain = rosterNo ∧ repDomain s rosterNo = some r ∧ c.body = .revoke [] [m] ∧ r.version + 1 < c.version ∧ isReplica s rosterNo (selfNo s) = false ∧ (liveMember s m).isSome = true ∧ m ≠ selfNo s) ∧
    (∃ (p : _) (n : _) (s : State), Received s p (.rosterPoll n) ∧ n < rosterVersion s) ∧
    (∃ (p : _) (n : _) (s : State), Received s p (.rosterPoll n) ∧ rosterVersion s ≤ n) ∧
    (∃ (p : _) (n : _) (l : _) (d : _) (s : State), Received s p (.roster n l d) ∧ n ≤ rosterVersion s) ∧
    (∃ (p : _) (n : _) (e : _) (s : State), Received s p (.roster n [e] []) ∧ rosterVersion s < n ∧ e.live = true) ∧
    (∃ (p : _) (h : KarHello) (s : State), Received s p (.offer h) ∧ h.member ≠ p) ∧
    (∃ (p : _) (h : KarHello) (s : State), Received s p (.offer h) ∧ h.member = p ∧ s.kar.offering = [] ∧ sessionRoom s p = true) ∧
    (∃ (p : _) (h : _) (s : State), Received s p (.accept h) ∧ s.kar.offering.look p = none) ∧
    (∃ (p : _) (h : KarHello) (s : State) (o : _), Received s p (.accept h) ∧ s.kar.offering.look p = some o ∧ h.member = p ∧ sessionRoom s p = true) := ⟨
  ⟨1, 1, 3, karstOn (rep 0) (inb 1 (.catchupRequest 1 3)), rep 0, ⟨⟨_, rfl, rfl, rfl, rfl⟩, by decide +kernel⟩, by decide +kernel⟩,
  ⟨1, 1, change 1, [], karstOn (rep 1) (inb 1 (.catchup 1 [(change 1, [])])), rep 1, 0x0202, none, ⟨⟨_, rfl, rfl, rfl, rfl⟩, by decide +kernel⟩, by decide +kernel⟩,
  ⟨1, { change 1 with domain := 0xFFFF, version := 7, body := .revoke [] [2] }, [], { karstOn (rep 1) (inb 1 (.revoke { change 1 with domain := 0xFFFF, version := 7, body := .revoke [] [2] } [])) with flash := { works.flash with karst := { (karstOn (rep 1)).flash.karst with domains := [(0xFFFF, { version := 5, replicas := [1, 2] })] } } }, { version := 5, replicas := [1, 2] }, 2, ⟨⟨_, rfl, rfl, rfl, rfl⟩, by decide +kernel⟩, by decide +kernel⟩,
  ⟨1, 4, karstOn (rep 0) (inb 1 (.rosterPoll 4)), ⟨⟨_, rfl, rfl, rfl, rfl⟩, by decide +kernel⟩, by decide +kernel⟩,
  ⟨1, 5, karstOn (rep 0) (inb 1 (.rosterPoll 5)), ⟨⟨_, rfl, rfl, rfl, rfl⟩, by decide +kernel⟩, by decide +kernel⟩,
  ⟨1, 5, [], [], karstOn (rep 0) (inb 1 (.roster 5 [] [])), ⟨⟨_, rfl, rfl, rfl, rfl⟩, by decide +kernel⟩, by decide +kernel⟩,
  ⟨1, 6, { member := 3, serial := zeros 16, keyDigest := [], live := true, version := 6 }, karstOn (rep 0) (inb 1 (.roster 6 [{ member := 3, serial := zeros 16, keyDigest := [], live := true, version := 6 }] [])), ⟨⟨_, rfl, rfl, rfl, rfl⟩, by decide +kernel⟩, by decide +kernel⟩,
  ⟨2, hello, karstOn (rep 0) (inb 2 (.offer hello)), ⟨⟨_, rfl, rfl, rfl, rfl⟩, by decide +kernel⟩, by decide +kernel⟩,
  ⟨1, hello, karstOn (rep 0) (inb 1 (.offer hello)), ⟨⟨_, rfl, rfl, rfl, rfl⟩, by decide +kernel⟩, by decide +kernel⟩,
  ⟨1, hello, karstOn (rep 0) (inb 1 (.accept hello)), ⟨⟨_, rfl, rfl, rfl, rfl⟩, by decide +kernel⟩, by decide +kernel⟩,
  ⟨1, hello, karstOn (rep 0) (inb 1 (.accept hello)) { offering := [(1, offering)] }, offering, ⟨⟨_, rfl, rfl, rfl, rfl⟩, by decide +kernel⟩, by decide +kernel⟩⟩

theorem witness_KarstTimers :
    (∃ (d : _) (t : _) (s : State) (r : _), secureUp s = true ∧ karActive s = true ∧ repDomain s d = some r ∧ r.primary = selfNo s ∧ (karDomain s d).lastSend + primaryTime s / 4 ≤ (advance s t).now) ∧
    (∃ (d : _) (j : _) (t : _) (s : State) (r : _), secureUp s = true ∧ karActive s = true ∧ suspended s = false ∧ repDomain s d = some r ∧ isReplica s d (selfNo s) = true ∧ r.primary ≠ selfNo s ∧ j ≤ primaryTime s / 2 ∧ max (karDomain s d).lastHeard s.id.bootAt + primaryTime s + j ≤ (advance s t).now ∧ isMajority r.replicas (r.replicas.countP [selfNo s].contains) = false) ∧
    (∃ (d : _) (s : State) (r : _), repDomain s d = some r ∧ r.primary = selfNo s) ∧
    (∃ (t : _) (s : State) (a : _), secureUp s = true ∧ karActive s = true ∧ s.kar.asks = [a] ∧ (advance s t).now < a.ends ∧ a.sentAt + 200 * msT ≤ (advance s t).now ∧ s.kar.outUrgent = [] ∧ s.kar.outNormal = []) ∧
    (∃ (t : _) (s : State) (a : _), secureUp s = true ∧ karActive s = true ∧ s.kar.asks = [a] ∧ a.ends ≤ (advance s t).now) ∧
    (∃ (t : _) (s : State) (w : _), secureUp s = true ∧ s.kar.waits = [w] ∧ w.deadline ≤ (advance s t).now) ∧
    (∃ (t : _) (s : State) (m : _), secureUp s = true ∧ karActive s = true ∧ s.kar.polledAt + field s.kar.poll 11 0 * secT ≤ (advance s t).now ∧ (council s).find? (· != selfNo s) = some m) ∧
    (∃ (p : _) (t : _) (s : State) (x : _), secureUp s = true ∧ karState s ≠ 0 ∧ s.kar.sessions.look p = some x ∧ x.openedAt + 86400 * secT ≤ (advance s t).now) ∧
    (∃ (p : _) (t : _) (s : State) (x : _), s.kar.sessions.look p = some x ∧ (advance s t).now < x.openedAt + 86400 * secT ∧ max x.txSeq x.rxSeq < 2 ^ 32) ∧
    (∃ (p : _) (s : State) (x : _), s.kar.sessions.look p = some x) := ⟨
  ⟨1, 1 * secT, karstOn (rep 0), rep 0, by decide +kernel⟩,
  ⟨1, 0, 10 * secT, karstOn (rep 1), rep 1, by decide +kernel⟩,
  ⟨1, karstOn (rep 0), rep 0, by decide +kernel⟩,
  ⟨200 * msT, karstOn (rep 0) [] { asks := [asking] }, asking, by decide +kernel⟩,
  ⟨secT, karstOn (rep 0) [] { asks := [asking] }, asking, by decide +kernel⟩,
  ⟨secT, karstOn (rep 0) [] { waits := [{ domain := 1, version := 5, deadline := secT, change := { ops := [], reply := none } }] }, { domain := 1, version := 5, deadline := secT, change := { ops := [], reply := none } }, by decide +kernel⟩,
  ⟨60 * secT, karstOn (rep 0), 1, by decide +kernel⟩,
  ⟨1, 86400 * secT, karstOn (rep 0) [] { sessions := [(1, peerSession)] }, peerSession, by decide +kernel⟩,
  ⟨1, 86400 * secT - 1, karstOn (rep 0) [] { sessions := [(1, peerSession)] }, peerSession, by decide +kernel⟩,
  ⟨1, { kar := { sessions := [(1, peerSession)] } }, peerSession, by decide +kernel⟩⟩



end Sys2Proof.Tests
end

section
/-!
The scope statements: no command stops the block (O3), and the ID block reads the same to every master that may read it (O10).
-/

namespace Sys2Proof.Machine

/-! ## No command faults or is refused -/

/-- The block carries on: the outcome is a next state, neither a fault nor a refusal. -/
def Continues (o : Outcome) : Prop := ∃ u, o = .next u

theorem continues_next (u : State) : Continues (.next u) := ⟨u, rfl⟩

/-- The block carries on from a guard when it does from both of its sides. -/
theorem continues_ite (c : Prop) [Decidable c] (a b : Outcome) :
    Continues (if c then a else b) = if c then Continues a else Continues b := apply_ite Continues c a b

/-- Every branch of every command's meaning ends in a next state. The commands fall into four kinds, by what their outcome is decided on. -/
theorem exec_continues (c : Instr) (s : State) : Continues (exec c s) := by
  cases c
  -- decided on the kind of an operand
  case engineSelfTestEnd x _ _ | engineKnownAnswer x _ _ | scrubStripe x _ _ | dapAccess x _ | registerWrite x _ _ _ =>
    cases x <;> simp only [exec, execEngineSelfTestEnd, execEngineKnownAnswer, execScrubStripe, execDapAccess, execRegisterWrite,
      ↓continues_next, ↓continues_ite, ite_self]
  -- decided on whether the state holds what the command is about
  case
    walkStart | walkEnd | pageInRequest | pageInComplete | pageInTimeout | laneJobStart | laneTagResult | digestJobComplete | coreJobStart |
    coreStatusDelivered | coreWatchdog | coreZeroingEnd | twinDecision | comparatorBDecide | frameTransmit | heartbeatRequestTimeout |
    pairCheckAnswer | pairCheckTimeout | lentJobArrival | lentResultArrival | svcSegmentStart | svcSegmentEnd | svcIdleTimeout |
    maskReseedLoad | geoCommit | geoCommitComplete | producerWordRead | entryFetch | completionWrite | abortEntry | reassemblyTimeout |
    interimResponse | finalResponseWrite | noticeWrite | sessionIdleTimeout | worldPoll | worldReturn | callLimitExpiry | lockstepMismatch |
    powerRequestTaken | debugCertExpiry | zeroizeSecondDecision | holdoverStart | holdoverExpiry | correlationWrite | primaryHeartbeatSend |
    primaryTimeout | rosterPollTimer | sessionRenewal | configRestore | registerRead =>
    dsimp only [exec,
      execWalkStart, execWalkEnd, execPageInRequest, execPageInComplete, execPageInTimeout, execLaneJobStart, execLaneTagResult,
      execDigestJobComplete, execCoreJobStart, execCoreStatusDelivered, execCoreWatchdog, execCoreZeroingEnd, execTwinDecision,
      execComparatorBDecide, execFrameTransmit, execHeartbeatRequestTimeout, execPairCheckAnswer, execPairCheckTimeout, execLentJobArrival,
      execLentResultArrival, execSvcSegmentStart, execSvcSegmentEnd, execSvcIdleTimeout, execMaskReseedLoad, execGeoCommit,
      execGeoCommitComplete, execProducerWordRead, execEntryFetch, execCompletionWrite, execAbortEntry, execReassemblyTimeout,
      execInterimResponse, execFinalResponseWrite, execNoticeWrite, execSessionIdleTimeout, execWorldPoll, execWorldReturn,
      execCallLimitExpiry, execLockstepMismatch, execPowerRequestTaken, execDebugCertExpiry, execZeroizeSecondDecision, execHoldoverStart,
      execHoldoverExpiry, execCorrelationWrite, execPrimaryHeartbeatSend, execPrimaryTimeout, execRosterPollTimer, execSessionRenewal,
      execConfigRestore, execRegisterRead]
    repeat' split
    all_goals exact continues_next _
  -- decided on guards alone
  case
    frameReceive | laneParityError | digestBlockEnd | coreSelfTestEnd | corePoolSwitch | holdTimerTick | flowRetireCheck | portCfgWrite |
    wireCommit | wireDiscard | chamberMessageReceive | heartbeatSend | heartbeatMiss | linkRetry | chamberAlertEdge | pairCheck |
    poolCommit | poolDiscard | coreRetest | coreTakeOffline | forceRelease | laneRetest | laneTakeOffline | dgsRetest | dgsTakeOffline |
    maskGeneratorStarved | noiseSample | spanEnd | drbgGenerateCall | drbgReseed | rngStartup | rngStartupTimeout | katStart |
    testSrcEnable | keyStoreReady | geoMount | flashChannelFailure | dmaReadTimeout | msixMessage | requestPacketWrite |
    responsePacketRead | i3cRegisterWrite | i3cRegisterRead | reqHdrWrite | reqDataWrite | rspDataRead | rspRewind | envelopeReassembly |
    fwConfirm | worldCall | sharedQuantumEnd | eccDoubleError | pageOwnerWrite | nwKick | secureWatchdogExpiry | normalWatchdogExpiry |
    normalException | pwrOwnerWrite | normalWorldStart | dbgLock | scanCtrl | lanternSample | detectorSelfTest | holdExpiry | pllLockLost |
    pdelayReqSend | ppsInEdge | ppsMissing | wholeSecond | tokenRefill | strataRecordWrite | strataScan | messageResend | commitTimeout |
    mainPgRise | mainPgFall | sysReset | softwareReset | internalResetRelease | pllLockGained =>
    simp only [exec, ↓continues_next, ↓continues_ite, ite_self,
      execFrameReceive, execLaneParityError, execDigestBlockEnd, execCoreSelfTestEnd, execCorePoolSwitch, execHoldTimerTick,
      execFlowRetireCheck, execPortCfgWrite, execWireCommit, execWireDiscard, execChamberMessageReceive, execHeartbeatSend,
      execHeartbeatMiss, execLinkRetry, execChamberAlertEdge, execPairCheck, execPoolCommit, execPoolDiscard, execCoreRetest,
      execCoreTakeOffline, execForceRelease, execLaneRetest, execLaneTakeOffline, execDgsRetest, execDgsTakeOffline,
      execMaskGeneratorStarved, execNoiseSample, execSpanEnd, execDrbgGenerateCall, execDrbgReseed, execRngStartup, execRngStartupTimeout,
      execKatStart, execTestSrcEnable, execKeyStoreReady, execGeoMount, execFlashChannelFailure, execDmaReadTimeout, execMsixMessage,
      execRequestPacketWrite, execResponsePacketRead, execI3cRegisterWrite, execI3cRegisterRead, execReqHdrWrite, execReqDataWrite,
      execRspDataRead, execRspRewind, execEnvelopeReassembly, execFwConfirm, execWorldCall, execSharedQuantumEnd, execEccDoubleError,
      execPageOwnerWrite, execNwKick, execSecureWatchdogExpiry, execNormalWatchdogExpiry, execNormalException, execPwrOwnerWrite,
      execNormalWorldStart, execDbgLock, execScanCtrl, execLanternSample, execDetectorSelfTest, execHoldExpiry, execPllLockLost,
      execPdelayReqSend, execPpsInEdge, execPpsMissing, execWholeSecond, execTokenRefill, execStrataRecordWrite, execStrataScan,
      execMessageResend, execCommitTimeout, execMainPgRise, execMainPgFall, execSysReset, execSoftwareReset, execInternalResetRelease,
      execPllLockGained]
  -- all others answer a next state at once
  all_goals exact continues_next _

/-- Settles O3: the outcome of every command, split by what it is decided on, is a next state. -/
theorem everyCommandIsCarriedOut : Obligations.EveryCommandIsCarriedOut := exec_continues

/-! ## The ID block (R1, R19, R20) -/

theorem blockRight_id_ne_zero {m : Master} {a : Nat} (hm : m ≠ .dap) (ha : a < 0x10000) : blockRight m a ≠ 0 := by
  cases m with
  | dap => exact absurd rfl hm
  | secure _ | normal _ | pf0 | i3c => simp [blockRight, ha]

theorem boxOf_id {a : Nat} (ha : a < 0x10000) : boxOf a = none := by
  simp [boxOf, show ¬ 0x10000 ≤ a by omega]

theorem wideReg_id (s : State) {a : Nat} (ha : a < 0x10000) : wideReg s a = none := by
  simp [wideReg, show a < 0x20000 by omega]

theorem notMem_timShadows_id {a : Nat} (ha : a < 0x10000) : a ∉ timShadows := by
  have hall : ∀ x ∈ timShadows, 0x10000 ≤ x := by decide
  exact fun h => absurd (hall a h) (by omega)

theorem plainReg_id (s : State) {a : Nat} (h4 : a % 4 = 0) (ha : a < 0x10000) : plainReg s a = idReg s a := by
  simp [plainReg, h4, ha]

theorem clearRead_id (s : State) {a : Nat} (ha : a < 0x10000) : clearRead s a = s := by
  simp [clearRead, show a ≠ 0x200228 by omega, show a ≠ 0x2000028 by omega, show ¬ 0x280000 ≤ a by omega]

/-- No register of the ID block is a counter's half or clears as it is read. -/
theorem readValue_id (s : State) {a : Nat} (h4 : a % 4 = 0) (ha : a < 0x10000) :
    readValue s a = (idReg s a).map fun v => (v, s) := by
  have hlow : (if 4 ≤ a then wideReg s (a - 4) else none) = none := by
    rw [wideReg_id s (show a - 4 < 0x10000 by omega), ite_self]
  simp [readValue, h4, notMem_timShadows_id ha, wideReg_id s ha, hlow, plainReg_id s h4 ha, clearRead_id s ha,
    show a ≠ 0x2100050 by omega, show a ≠ 0x2100008 by omega]

/-- Every master but a debug probe reads the ID block. -/
theorem readRegister_id {s : State} {m : Master} {a : Nat} {v : Word} (hm : m ≠ .dap) (h4 : a % 4 = 0) (ha : a < 0x10000)
    (hv : idReg s a = some v) : readRegister s m a = (s, v) := by
  simp [readRegister, blockRight_id_ne_zero hm ha, boxOf_id ha, readValue_id s h4 ha, hv]

theorem registerRead_id {s : State} {m : Master} {a : Nat} {v : Word} {t : Time} (hm : m ≠ .dap) (h4 : a % 4 = 0)
    (ha : a < 0x10000) (hv : idReg (advance s t) a = some v) :
    exec (.registerRead (.device m a) 4 t) s = .next (emit (advance s t) (.read v)) := by
  show execRegisterRead (.device m a) 4 t s = _
  simp [execRegisterRead, h4, readRegister_id hm h4 ha hv]

/-- Settles O10: the two addresses lie in the ID block, whose registers there are constants. -/
theorem identificationRegisters : Obligations.IdentificationRegisters := by
  intro m t s hm
  exact ⟨⟨_, registerRead_id hm rfl (by decide) rfl, rfl⟩, ⟨_, registerRead_id hm rfl (by decide) rfl, rfl⟩⟩

end Sys2Proof.Machine
end

section
/-!
What a row leaves as it was, as the frame statements ask for it: the rules that their proofs share. A row's meaning is taken apart down
to the operations that Laws/Frames speaks of.
-/

set_option Elab.async false

namespace Sys2Proof.Machine

open Claims (Framed touched)

/-- Every part of the state but those of `l` is the same in `u` as in `s`. -/
def Kept (l : List Claims.Part) (s u : State) : Prop := ∀ p, p ∉ l → p.same s u

/-- The row leaves every part as it was but those that `touched` names for it. -/
def Leaves (i : Instr) : Prop := ∀ p, p ∉ touched i → Framed i p.same

/-- Whatever state the outcome carries on with meets `P`. -/
def Gives (P : State → Prop) (o : Outcome) : Prop := ∀ u, o = .next u → P u

@[simp] theorem gives_next (P : State → Prop) (u : State) : Gives P (.next u) ↔ P u := by simp [Gives]

theorem leaves_of_kept {i : Instr} (h : ∀ s, Gives (Kept (touched i) s) (exec i s)) : Leaves i :=
  fun p hp s u hu => h s u hu p hp

theorem forall_part {P : Claims.Part → Prop} : (∀ p, P p) ↔
    P .now ∧ P .fresh ∧ P .snaps ∧ P .out ∧ P .id ∧ P .psg ∧ P .cham ∧ P .kst ∧ P .mbx ∧ P .str ∧ P .lan ∧ P .bb ∧ P .tim ∧ P .lcy ∧
    P .lcyState ∧ P .die ∧ P .rng ∧ P .pke ∧ P .eng ∧ P .host ∧ P .geo ∧ P .flash ∧ P .wld ∧ P .pages ∧ P .units ∧ P .kar ∧ P .ctl := by
  constructor
  · intro h
    simp only [h, and_self]
  · rintro h p
    cases p <;> simp only [h]

/-- Part by part: what the frame laws of the operations decide. -/
@[simp] theorem kept_iff (l : List Claims.Part) (s u : State) : Kept l s u ↔
    (.now ∉ l → u.now = s.now) ∧ (.fresh ∉ l → u.fresh = s.fresh) ∧ (.snaps ∉ l → u.snaps = s.snaps) ∧ (.out ∉ l → u.out = s.out) ∧
    (.id ∉ l → u.id = s.id) ∧ (.psg ∉ l → u.psg = s.psg) ∧ (.cham ∉ l → u.cham = s.cham) ∧ (.kst ∉ l → u.kst = s.kst) ∧
    (.mbx ∉ l → u.mbx = s.mbx) ∧ (.str ∉ l → u.str = s.str) ∧ (.lan ∉ l → u.lan = s.lan) ∧ (.bb ∉ l → u.bb = s.bb) ∧
    (.tim ∉ l → u.tim = s.tim) ∧ (.lcy ∉ l → u.lcy = s.lcy) ∧ (.lcyState ∉ l → u.lcy.state = s.lcy.state) ∧
    (.die ∉ l → u.die = s.die) ∧ (.rng ∉ l → u.rng = s.rng) ∧ (.pke ∉ l → u.pke = s.pke) ∧ (.eng ∉ l → u.eng = s.eng) ∧
    (.host ∉ l → u.host = s.host) ∧ (.geo ∉ l → u.geo = s.geo) ∧ (.flash ∉ l → u.flash = s.flash) ∧ (.wld ∉ l → u.wld = s.wld) ∧
    (.pages ∉ l → u.wld.pages = s.wld.pages) ∧ (.units ∉ l → u.wld.mpu = s.wld.mpu) ∧ (.kar ∉ l → u.kar = s.kar) ∧
    (.ctl ∉ l → u.ctl = s.ctl) := forall_part

theorem kept_refl (l : List Claims.Part) (s : State) : Kept l s s := by simp

theorem kept_mono {l m : List Claims.Part} {s u : State} (h : l ⊆ m) (hk : Kept l s u) : Kept m s u := fun p hp => hk p fun hl => hp (h hl)

/-- The parts that an answer to a command may change: where the answer goes, by the four ways of `Reply`. -/
abbrev answerParts : List Claims.Part := [.out, .mbx, .host, .wld]

theorem answer_kept (s : State) (r : Reply) (a : Answer) : Kept answerParts s (answer s r a) := by simp

theorem answerStatus_kept (s : State) (r : Reply) (st : Status) : Kept answerParts s (answerStatus s r st) := answer_kept s r _

/-- A command is passed over, answered with a status, or let through to its own rules. -/
theorem command_cases (s : State) (c : Cmd) (code : Nat) (k : State → State) :
    command s c code k = s ∨ (∃ st, command s c code k = answerStatus s c.reply st) ∨ command s c code k = k s := by
  unfold command
  split
  · exact .inl rfl
  split
  · exact .inr (.inl ⟨_, rfl⟩)
  split
  · exact .inr (.inl ⟨_, rfl⟩)
  split
  · exact .inr (.inl ⟨_, rfl⟩)
  split
  · exact .inr (.inl ⟨_, rfl⟩)
  · exact .inr (.inr rfl)

theorem command_kept {l : List Claims.Part} {s : State} {c : Cmd} {code : Nat} {k : State → State} (hl : answerParts ⊆ l)
    (hk : Kept l s (k s)) : Kept l s (command s c code k) := by
  obtain h | ⟨st, h⟩ | h := command_cases s c code k
  · rw [h]; exact kept_refl l s
  · rw [h]; exact kept_mono hl (answerStatus_kept s c.reply st)
  · rw [h]; exact hk

/-- A command row changes no more than its answer and its own rules do. -/
theorem leaves_of_command {i : Instr} {c : Cmd} {code : Nat} {k : State → State → State}
    (he : ∀ s, exec i s = .next (command s c code (k s))) (hl : answerParts ⊆ touched i)
    (hk : ∀ s, Kept (touched i) s (k s s)) : Leaves i := by
  refine leaves_of_kept fun s => ?_
  rw [he s, gives_next]
  exact command_kept hl (hk s)

end Sys2Proof.Machine
end

section
/-!
Frames that Laws/Frames leaves out: the life cycle under the operations of the random number generator, and the life cycle, the page owner
table and the protection units under the operations that draw random bytes or stage jobs.
-/

set_option Elab.async false

namespace Sys2Proof.Machine

/-! ### The random number generator and the life cycle -/

@[simp ↓] theorem countRefused_lcy (s : State) (i k : Nat) : (countRefused s i k).lcy = s.lcy := rfl

@[simp ↓] theorem refuseWaiting_lcy (s : State) (i : Nat) : (refuseWaiting s i).lcy = s.lcy := by simp [refuseWaiting]

@[simp ↓] theorem serveCall_lcy (s : State) (i : Nat) : (serveCall s i).lcy = s.lcy := by
  unfold serveCall
  dsimp only [instCalls]
  repeat' split
  all_goals simp

@[simp ↓] theorem serveAhead_lcy (p : Bool) (n : Nat) (s : State) (i : Nat) : (serveAhead p n s i).lcy = s.lcy := by
  induction n generalizing s with
  | zero => rfl
  | succ n ih => simp [serveAhead, ih]

@[simp ↓] theorem draw_lcy (s : State) (h : Nat) (p : Bool) (n : Nat) : (draw s h p n).1.lcy = s.lcy := by
  simp [draw]

@[simp ↓] theorem queueDraw_lcy (s : State) (h : Nat) (p : Bool) (r : DrawReq) : (queueDraw s h p r).lcy = s.lcy := by
  simp [queueDraw]

@[simp ↓] theorem moveDraws_lcy (s : State) (i : Nat) : (moveDraws s i).lcy = s.lcy := by simp [moveDraws]

@[simp ↓] theorem failRng_lcy (s : State) : (failRng s).lcy = s.lcy := by simp [failRng]

@[simp ↓] theorem failUnit_lcy (s : State) (u : Nat) : (failUnit s u).lcy = s.lcy := by simp [failUnit]

@[simp ↓] theorem failFewCells_lcy (s : State) : (failFewCells s).lcy = s.lcy := by simp [failFewCells]

@[simp ↓] theorem endCellTest_lcy (s : State) (c : Nat) : (endCellTest s c).lcy = s.lcy := by
  unfold endCellTest
  dsimp only
  split <;> simp

@[simp ↓] theorem cellSample_lcy (s : State) (c : Nat) (b : Bool) : (cellSample s c b).lcy = s.lcy := by
  unfold cellSample
  simp

@[simp ↓] theorem startTests_lcy (s : State) (a : Bool) (b : BitVec 8) : (startTests s a b).lcy = s.lcy := by
  simp [startTests]

@[simp ↓] theorem settleKat_lcy (s : State) : (settleKat s).lcy = s.lcy := by
  unfold settleKat
  repeat' split
  all_goals simp
@[simp ↓] theorem askRandom_lcy (s : State) (c r n a) : (askRandom s c r n a).lcy = s.lcy := by
  simp [askRandom]

/-! ### Operations that draw random bytes: the life cycle, the page owner table and the protection units -/

@[simp ↓] theorem draw_guards (s : State) (h : Nat) (p : Bool) (n : Nat) :
    (draw s h p n).1.lcy = s.lcy ∧ (draw s h p n).1.wld.pages = s.wld.pages ∧ (draw s h p n).1.wld.mpu = s.wld.mpu := by simp [draw]

theorem draw_guards_of {s t : State} {h : Nat} {p : Bool} {n : Nat} {x : Except Status Bytes} (e : draw s h p n = (t, x)) :
    t.lcy = s.lcy ∧ t.wld.pages = s.wld.pages ∧ t.wld.mpu = s.wld.mpu := by
  simpa only [e] using draw_guards s h p n

@[simp ↓] theorem countSkew_guards (s : State) :
    (countSkew s).lcy = s.lcy ∧ (countSkew s).wld.pages = s.wld.pages ∧ (countSkew s).wld.mpu = s.wld.mpu := by
  unfold countSkew
  split
  · simp
  split
  all_goals
    rename_i e
    simp [draw_guards_of e]

@[simp ↓] theorem handshakeNonce_guards (s : State) :
    (handshakeNonce s).1.lcy = s.lcy ∧ (handshakeNonce s).1.wld.pages = s.wld.pages ∧ (handshakeNonce s).1.wld.mpu = s.wld.mpu := by
  unfold handshakeNonce
  split
  all_goals
    rename_i e
    simp [draw_guards_of e]

theorem handshakeNonce_guards_of {s t : State} {x : Option Bytes} (e : handshakeNonce s = (t, x)) :
    t.lcy = s.lcy ∧ t.wld.pages = s.wld.pages ∧ t.wld.mpu = s.wld.mpu := by
  simpa only [e] using handshakeNonce_guards s

@[simp ↓] theorem startHandshake_guards (s : State) (p : Nat) :
    (startHandshake s p).lcy = s.lcy ∧ (startHandshake s p).wld.pages = s.wld.pages ∧ (startHandshake s p).wld.mpu = s.wld.mpu := by
  unfold startHandshake
  split
  · simp
  split
  all_goals
    rename_i e
    simp [handshakeNonce_guards_of e]

@[simp ↓] theorem helloArrives_guards (s : State) (p : Nat) (serial : Bytes) (peer : Nat) (nonce : Bytes) :
    (helloArrives s p serial peer nonce).lcy = s.lcy ∧ (helloArrives s p serial peer nonce).wld.pages = s.wld.pages ∧
      (helloArrives s p serial peer nonce).wld.mpu = s.wld.mpu := by
  unfold helloArrives
  dsimp only
  repeat' split
  all_goals simp

@[simp ↓] theorem receiveMessage_guards (s : State) (p : Nat) (msg : ChamberMsg) (seq : Nat) (mac : Bytes) :
    (receiveMessage s p msg seq mac).lcy.state = s.lcy.state ∧
    (receiveMessage s p msg seq mac).wld.pages = s.wld.pages ∧ (receiveMessage s p msg seq mac).wld.mpu = s.wld.mpu := by
  unfold receiveMessage
  repeat' split
  all_goals simp

/-! ### Staging and assignment of jobs -/

@[simp ↓] theorem stageDraw_guards (s : State) (n : Nat) (j : PkeJob) (size : Nat) :
    (stageDraw s n j size).1.lcy = s.lcy ∧ (stageDraw s n j size).1.wld.pages = s.wld.pages ∧
      (stageDraw s n j size).1.wld.mpu = s.wld.mpu := by
  unfold stageDraw
  split
  · simp
  split
  · simp
  split
  all_goals
    rename_i e
    simp [draw_guards_of e]

@[simp ↓] theorem fillStaging_guards (s : State) (n : Nat) (j : PkeJob) :
    (fillStaging s n j).1.lcy = s.lcy ∧ (fillStaging s n j).1.wld.pages = s.wld.pages ∧ (fillStaging s n j).1.wld.mpu = s.wld.mpu := by
  unfold fillStaging
  dsimp only
  repeat' split
  all_goals simp

theorem fillStaging_guards_of {s t : State} {n : Nat} {j : PkeJob} {x : Staging} (e : fillStaging s n j = (t, x)) :
    t.lcy = s.lcy ∧ t.wld.pages = s.wld.pages ∧ t.wld.mpu = s.wld.mpu := by
  simpa only [e] using fillStaging_guards s n j

@[simp ↓] theorem restage_guards (s : State) (n : Nat) :
    (restage s n).lcy = s.lcy ∧ (restage s n).wld.pages = s.wld.pages ∧ (restage s n).wld.mpu = s.wld.mpu := by
  unfold restage
  dsimp only
  split
  · simp
  split
  · simp
  split
  all_goals
    rename_i e
    simp [fillStaging_guards_of e]

@[simp ↓] theorem stageFrom_guards (n : Nat) (l : List PkeJob) (s : State) :
    (stageFrom n l s).lcy = s.lcy ∧ (stageFrom n l s).wld.pages = s.wld.pages ∧ (stageFrom n l s).wld.mpu = s.wld.mpu := by
  induction l generalizing s with
  | nil => simp [stageFrom]
  | cons j t ih =>
    unfold stageFrom
    split
    all_goals
      rename_i e
      simp [fillStaging_guards_of e, ih]

@[simp ↓] theorem assignService_guards (d c : Nat) (l : List DigJob) (s : State) :
    (assignService d c l s).wld.pages = s.wld.pages ∧ (assignService d c l s).wld.mpu = s.wld.mpu := by
  induction l generalizing s with
  | nil => simp [assignService]
  | cons j t ih =>
    unfold assignService
    dsimp only
    repeat' split
    all_goals simp [ih]

/-- A staged job's core begins it, and nothing else happens. -/
@[simp ↓] theorem startStaged_kst_mbx_host (s : State) (n : Nat) (j : PkeJob) (k : Bytes) : (startStaged s n j k).kst = s.kst ∧
    (startStaged s n j k).mbx = s.mbx ∧ (startStaged s n j k).host = s.host := by
  simp [startStaged]

@[simp ↓] theorem beginFirst_guards (s : State) (e : Nat) (h : Hold) (j : SvcJob) (rest : List SvcJob) :
    (beginFirst s e h j rest).lcy = s.lcy ∧ (beginFirst s e h j rest).wld.pages = s.wld.pages ∧
      (beginFirst s e h j rest).wld.mpu = s.wld.mpu := by
  unfold beginFirst
  split
  · simp
  · simp
  split
  · simp
  split
  all_goals
    rename_i e
    simp [draw_guards_of e]

end Sys2Proof.Machine
end

section
/-!
The frames of the rows of the frame path, the lanes and the chamber, and of the engines and the random number generator (O16). A command row
goes by `leaves_of_command`; the others branch on guards and on what the state holds, and each branch by the frames of its operations.
-/

set_option Elab.async false

namespace Sys2Proof.Machine

open Claims (touched)

/-! ### The frame path -/

@[simp] theorem frameReceive_leaves (port frame sfd overflow t) : Leaves (.frameReceive port frame sfd overflow t) :=
  leaves_of_kept fun s => by dsimp only [exec, execFrameReceive]; (repeat' split) <;> simp [touched]

@[simp] theorem walkStart_leaves (p t) : Leaves (.walkStart p t) := by
  refine leaves_of_kept fun s => ?_
  dsimp only [exec, execWalkStart]
  split
  · simp [touched]
  split
  · simp [touched]
  · simp [touched]
  split
  · rename_i e
    simp [touched, unparsed_frame_of e, unparsed_lcy_state_of e, unparsed_wld_pages_of e, unparsed_wld_mpu_of e]
  · simp [touched]

@[simp] theorem walkEnd_leaves (port t) : Leaves (.walkEnd port t) :=
  leaves_of_kept fun s => by dsimp only [exec, execWalkEnd]; (repeat' split) <;> simp [touched]

@[simp] theorem pageInTimeout_leaves (handle t) : Leaves (.pageInTimeout handle t) :=
  leaves_of_kept fun s => by dsimp only [exec, execPageInTimeout]; (repeat' split) <;> simp [touched]

@[simp] theorem twinDecision_leaves (frame t) : Leaves (.twinDecision frame t) :=
  leaves_of_kept fun s => by dsimp only [exec, execTwinDecision]; (repeat' split) <;> simp [touched]

@[simp] theorem comparatorBDecide_leaves (frame k upset) : Leaves (.comparatorBDecide frame k upset) :=
  leaves_of_kept fun s => by dsimp only [exec, execComparatorBDecide]; (repeat' split) <;> simp [touched]

@[simp] theorem holdTimerTick_leaves (t) : Leaves (.holdTimerTick t) :=
  leaves_of_kept fun s => by dsimp only [exec, execHoldTimerTick]; (repeat' split) <;> simp [touched]

@[simp] theorem frameTransmit_leaves (port t) : Leaves (.frameTransmit port t) :=
  leaves_of_kept fun s => by dsimp only [exec, execFrameTransmit]; (repeat' split) <;> simp [touched]

@[simp] theorem flowRetireCheck_leaves (t) : Leaves (.flowRetireCheck t) :=
  leaves_of_kept fun s => by dsimp only [exec, execFlowRetireCheck]; (repeat' split) <;> simp [touched]

/-! ### The lanes and their mask generators -/

@[simp] theorem laneJobStart_leaves (lane t) : Leaves (.laneJobStart lane t) :=
  leaves_of_kept fun s => by dsimp only [exec, execLaneJobStart]; (repeat' split) <;> simp [touched]

@[simp] theorem laneTagResult_leaves (lane t) : Leaves (.laneTagResult lane t) :=
  leaves_of_kept fun s => by dsimp only [exec, execLaneTagResult]; (repeat' split) <;> simp [touched]

@[simp] theorem laneKnownAnswer_leaves (lane correct t) : Leaves (.laneKnownAnswer lane correct t) :=
  leaves_of_kept fun s => by dsimp only [exec, execLaneKnownAnswer]; (repeat' split) <;> simp [touched]

@[simp] theorem laneParityError_leaves (lane t) : Leaves (.laneParityError lane t) :=
  leaves_of_kept fun s => by dsimp only [exec, execLaneParityError]; (repeat' split) <;> simp [touched]

@[simp] theorem laneRetest_leaves (master lane) : Leaves (.laneRetest master lane) :=
  leaves_of_kept fun s => by dsimp only [exec, execLaneRetest]; (repeat' split) <;> simp [touched]

@[simp] theorem laneTakeOffline_leaves (master lane) : Leaves (.laneTakeOffline master lane) :=
  leaves_of_kept fun s => by dsimp only [exec, execLaneTakeOffline]; (repeat' split) <;> simp [touched]

@[simp] theorem maskReseedRequest_leaves (engine t) : Leaves (.maskReseedRequest engine t) :=
  leaves_of_kept fun s => by dsimp only [exec, execMaskReseedRequest]; (repeat' split) <;> simp [touched]

@[simp] theorem maskReseedLoad_leaves (engine t) : Leaves (.maskReseedLoad engine t) :=
  leaves_of_kept fun s => by dsimp only [exec, execMaskReseedLoad]; (repeat' split) <;> simp [touched]

@[simp] theorem maskGeneratorStarved_leaves (engine t) : Leaves (.maskGeneratorStarved engine t) :=
  leaves_of_kept fun s => by dsimp only [exec, execMaskGeneratorStarved]; (repeat' split) <;> simp [touched]

/-! ### Ports and wires by register -/

@[simp] theorem linkStateChange_leaves (port locked t) : Leaves (.linkStateChange port locked t) :=
  leaves_of_kept fun s => by dsimp only [exec, execLinkStateChange]; simp [touched]

@[simp] theorem portCfgWrite_leaves (master port value) : Leaves (.portCfgWrite master port value) :=
  leaves_of_kept fun s => by dsimp only [exec, execPortCfgWrite]; (repeat' split) <;> simp [touched]

@[simp] theorem wireCommit_leaves (master wire) : Leaves (.wireCommit master wire) :=
  leaves_of_kept fun s => by dsimp only [exec, execWireCommit]; (repeat' split) <;> simp [touched]

@[simp] theorem wireDiscard_leaves (master wire) : Leaves (.wireDiscard master wire) :=
  leaves_of_kept fun s => by dsimp only [exec, execWireDiscard]; (repeat' split) <;> simp [touched]

/-! ### The commands of Passage -/

@[simp] theorem psgTableLoad_leaves (c table) : Leaves (.psgTableLoad c table) :=
  leaves_of_command (fun _ => rfl) (by simp [touched]) fun s => by dsimp only; (repeat' split) <;> simp [touched]

@[simp] theorem psgTableUnload_leaves (c) : Leaves (.psgTableUnload c) :=
  leaves_of_command (fun _ => rfl) (by simp [touched]) fun s => by dsimp only; (repeat' split) <;> simp [touched]

@[simp] theorem psgWireStage_leaves (c) : Leaves (.psgWireStage c) :=
  leaves_of_command (fun _ => rfl) (by simp [touched]) fun s => by simp [touched]

@[simp] theorem psgWireCommit_leaves (c) : Leaves (.psgWireCommit c) := by
  refine leaves_of_command (fun _ => rfl) (by simp [touched]) fun s => ?_
  unfold onWire
  dsimp only
  split
  · simp [touched]
  split
  · simp [touched]
  split
  all_goals
    rename_i e
    simp [touched, judgeQuorum_frame_of e, judgeQuorum_lcy_state_of e]

@[simp] theorem psgWireDiscard_leaves (c) : Leaves (.psgWireDiscard c) :=
  leaves_of_command (fun _ => rfl) (by simp [touched]) fun s => by simp [touched]

@[simp] theorem psgFlowFlush_leaves (c) : Leaves (.psgFlowFlush c) :=
  leaves_of_command (fun _ => rfl) (by simp [touched]) fun s => by dsimp only; (repeat' split) <;> simp [touched]

@[simp] theorem psgInject_leaves (c) : Leaves (.psgInject c) :=
  leaves_of_command (fun _ => rfl) (by simp [touched]) fun s => by dsimp only; (repeat' split) <;> simp [touched]

@[simp] theorem psgKeyPrefetch_leaves (c) : Leaves (.psgKeyPrefetch c) :=
  leaves_of_command (fun _ => rfl) (by simp [touched]) fun s => by dsimp only; (repeat' split) <;> simp [touched]

@[simp] theorem psgPuntForward_leaves (c) : Leaves (.psgPuntForward c) :=
  leaves_of_command (fun _ => rfl) (by simp [touched]) fun s => by dsimp only; (repeat' split) <;> simp [touched]

@[simp] theorem psgDnp3Challenge_leaves (c) : Leaves (.psgDnp3Challenge c) :=
  leaves_of_command (fun _ => rfl) (by simp [touched]) fun s => by dsimp only; (repeat' split) <;> simp [touched]

/-! ### The chamber -/

@[simp] theorem chamberMessageReceive_leaves (port msg seq mac t) : Leaves (.chamberMessageReceive port msg seq mac t) :=
  leaves_of_kept fun s => by dsimp only [exec, execChamberMessageReceive]; (repeat' split) <;> simp [touched]

@[simp] theorem heartbeatSend_leaves (t) : Leaves (.heartbeatSend t) :=
  leaves_of_kept fun s => by dsimp only [exec, execHeartbeatSend]; (repeat' split) <;> simp [touched]

@[simp] theorem heartbeatMiss_leaves (port t) : Leaves (.heartbeatMiss port t) :=
  leaves_of_kept fun s => by dsimp only [exec, execHeartbeatMiss]; (repeat' split) <;> simp [touched]

@[simp] theorem linkRetry_leaves (t) : Leaves (.linkRetry t) :=
  leaves_of_kept fun s => by dsimp only [exec, execLinkRetry]; (repeat' split) <;> simp [touched]

@[simp] theorem heartbeatRequestTimeout_leaves (port t) : Leaves (.heartbeatRequestTimeout port t) :=
  leaves_of_kept fun s => by dsimp only [exec, execHeartbeatRequestTimeout]; (repeat' split) <;> simp [touched]

@[simp] theorem pairCheck_leaves (t) : Leaves (.pairCheck t) :=
  leaves_of_kept fun s => by dsimp only [exec, execPairCheck]; (repeat' split) <;> simp [touched]

@[simp] theorem pairCheckAnswer_leaves (port msg seq mac t) : Leaves (.pairCheckAnswer port msg seq mac t) :=
  leaves_of_kept fun s => by dsimp only [exec, execPairCheckAnswer]; (repeat' split) <;> simp [touched]

@[simp] theorem pairCheckTimeout_leaves (wire t) : Leaves (.pairCheckTimeout wire t) :=
  leaves_of_kept fun s => by dsimp only [exec, execPairCheckTimeout]; (repeat' split) <;> simp [touched]

@[simp] theorem lentJobArrival_leaves (port msg seq mac t) : Leaves (.lentJobArrival port msg seq mac t) :=
  leaves_of_kept fun s => by dsimp only [exec, execLentJobArrival]; (repeat' split) <;> simp [touched]

@[simp] theorem lentResultArrival_leaves (port msg seq mac t) : Leaves (.lentResultArrival port msg seq mac t) :=
  leaves_of_kept fun s => by dsimp only [exec, execLentResultArrival]; (repeat' split) <;> simp [touched]

@[simp] theorem karChamberSet_leaves (cmd) : Leaves (.karChamberSet cmd) :=
  leaves_of_command (fun _ => rfl) (by simp [touched]) fun s => by (repeat' split) <;> simp [touched]

@[simp] theorem karLendSet_leaves (cmd) : Leaves (.karLendSet cmd) :=
  leaves_of_command (fun _ => rfl) (by simp [touched]) fun s => by dsimp only; (repeat' split) <;> simp [touched]

/-! ### The digest engines -/

@[simp] theorem digestBlockEnd_leaves (engine t) : Leaves (.digestBlockEnd engine t) :=
  leaves_of_kept fun s => by dsimp only [exec, execDigestBlockEnd]; (repeat' split) <;> simp [touched]

@[simp] theorem digestJobAssign_leaves (passage t) : Leaves (.digestJobAssign passage t) :=
  leaves_of_kept fun s => by dsimp only [exec, execDigestJobAssign]; (repeat' split) <;> simp [touched]

@[simp] theorem digestJobComplete_leaves (engine context t) : Leaves (.digestJobComplete engine context t) :=
  leaves_of_kept fun s => by dsimp only [exec, execDigestJobComplete]; (repeat' split) <;> simp [touched]

@[simp] theorem dgsJob_leaves (cmd) : Leaves (.dgsJob cmd) :=
  leaves_of_command (fun _ => rfl) (by simp [touched]) fun s => by dsimp only; simp [touched]

@[simp] theorem dgsAbort_leaves (c) : Leaves (.dgsAbort c) := by
  refine leaves_of_command (fun _ => rfl) (by simp [touched]) fun s => ?_
  split
  · rename_i e
    obtain ⟨r, -, e⟩ := Option.bind_eq_some_iff.mp e
    simp [touched, abortDigest_frame_of e, abortDigest_wld_pages_of e, abortDigest_wld_mpu_of e]
  · simp [touched]

@[simp] theorem dgsCfgSet_leaves (cmd) : Leaves (.dgsCfgSet cmd) :=
  leaves_of_command (fun _ => rfl) (by simp [touched]) fun s => by dsimp only; (repeat' split) <;> simp [touched]

@[simp] theorem dgsRetest_leaves (master engine) : Leaves (.dgsRetest master engine) :=
  leaves_of_kept fun s => by dsimp only [exec, execDgsRetest]; (repeat' split) <;> simp [touched]

@[simp] theorem dgsTakeOffline_leaves (master engine) : Leaves (.dgsTakeOffline master engine) :=
  leaves_of_kept fun s => by dsimp only [exec, execDgsTakeOffline]; (repeat' split) <;> simp [touched]

@[simp] theorem kstDerive_leaves (cmd) : Leaves (.kstDerive cmd) :=
  leaves_of_command (fun _ => rfl) (by simp [touched]) fun s => by dsimp only; (repeat' split) <;> simp [touched]

/-! ### The public-key cores and their pools -/

@[simp] theorem coreJobStart_leaves (core t) : Leaves (.coreJobStart core t) :=
  leaves_of_kept fun s => by dsimp only [exec, execCoreJobStart]; (repeat' split) <;> simp [touched]

@[simp] theorem coreStatusDelivered_leaves (core invariant t) : Leaves (.coreStatusDelivered core invariant t) :=
  leaves_of_kept fun s => by dsimp only [exec, execCoreStatusDelivered]; (repeat' split) <;> simp [touched]

@[simp] theorem coreWatchdog_leaves (core t) : Leaves (.coreWatchdog core t) :=
  leaves_of_kept fun s => by dsimp only [exec, execCoreWatchdog]; (repeat' split) <;> simp [touched]

@[simp] theorem coreZeroingEnd_leaves (core t) : Leaves (.coreZeroingEnd core t) :=
  leaves_of_kept fun s => by dsimp only [exec, execCoreZeroingEnd]; (repeat' split) <;> simp [touched]

@[simp] theorem coreSelfTestEnd_leaves (core passes t) : Leaves (.coreSelfTestEnd core passes t) :=
  leaves_of_kept fun s => by dsimp only [exec, execCoreSelfTestEnd]; (repeat' split) <;> simp [touched]

@[simp] theorem corePoolSwitch_leaves (core t) : Leaves (.corePoolSwitch core t) :=
  leaves_of_kept fun s => by dsimp only [exec, execCorePoolSwitch]; (repeat' split) <;> simp [touched]

@[simp] theorem serviceJobStage_leaves (t) : Leaves (.serviceJobStage t) :=
  leaves_of_kept fun s => by dsimp only [exec, execServiceJobStage]; (repeat' split) <;> simp [touched]

@[simp] theorem pkeJob_leaves (cmd) : Leaves (.pkeJob cmd) :=
  leaves_of_command (fun _ => rfl) (by simp [touched]) fun s => by dsimp only; (repeat' split) <;> simp [touched]

@[simp] theorem pkeJobAbort_leaves (c) : Leaves (.pkeJobAbort c) := by
  refine leaves_of_command (fun _ => rfl) (by simp [touched]) fun s => ?_
  split
  · rename_i e
    obtain ⟨r, -, e⟩ := Option.bind_eq_some_iff.mp e
    simp [touched, abortPke_frame_of e, abortPke_wld_pages_of e, abortPke_wld_mpu_of e]
  · simp [touched]

@[simp] theorem pkeCurveLoad_leaves (cmd) : Leaves (.pkeCurveLoad cmd) :=
  leaves_of_command (fun _ => rfl) (by simp [touched]) fun s => by dsimp only; (repeat' split) <;> simp [touched]

@[simp] theorem pkeCurveUnload_leaves (cmd) : Leaves (.pkeCurveUnload cmd) :=
  leaves_of_command (fun _ => rfl) (by simp [touched]) fun s => by dsimp only; (repeat' split) <;> simp [touched]

@[simp] theorem pkePolicySet_leaves (cmd) : Leaves (.pkePolicySet cmd) :=
  leaves_of_command (fun _ => rfl) (by simp [touched]) fun s => by dsimp only; (repeat' split) <;> simp [touched]

@[simp] theorem pkePoolStage_leaves (cmd) : Leaves (.pkePoolStage cmd) :=
  leaves_of_command (fun _ => rfl) (by simp [touched]) fun s => by dsimp only; (repeat' split) <;> simp [touched]

@[simp] theorem pkePoolCommit_leaves (c) : Leaves (.pkePoolCommit c) := by
  refine leaves_of_command (fun _ => rfl) (by simp [touched]) fun s => ?_
  dsimp only
  split
  · simp [touched]
  split
  all_goals
    rename_i e
    simp [touched, judgeQuorum_frame_of e, judgeQuorum_lcy_state_of e]

@[simp] theorem pkePoolDiscard_leaves (cmd) : Leaves (.pkePoolDiscard cmd) :=
  leaves_of_command (fun _ => rfl) (by simp [touched]) fun s => by simp [touched]

@[simp] theorem pkeCoreRetest_leaves (cmd) : Leaves (.pkeCoreRetest cmd) :=
  leaves_of_command (fun _ => rfl) (by simp [touched]) fun s => by dsimp only; (repeat' split) <;> simp [touched]

@[simp] theorem poolCommit_leaves (master) : Leaves (.poolCommit master) :=
  leaves_of_kept fun s => by dsimp only [exec, execPoolCommit]; (repeat' split) <;> simp [touched]

@[simp] theorem poolDiscard_leaves (master) : Leaves (.poolDiscard master) :=
  leaves_of_kept fun s => by dsimp only [exec, execPoolDiscard]; (repeat' split) <;> simp [touched]

@[simp] theorem coreRetest_leaves (master core) : Leaves (.coreRetest master core) :=
  leaves_of_kept fun s => by dsimp only [exec, execCoreRetest]; (repeat' split) <;> simp [touched]

@[simp] theorem coreTakeOffline_leaves (master core) : Leaves (.coreTakeOffline master core) :=
  leaves_of_kept fun s => by dsimp only [exec, execCoreTakeOffline]; (repeat' split) <;> simp [touched]

/-! ### The service MAC engines -/

@[simp] theorem svcMac_leaves (cmd) : Leaves (.svcMac cmd) :=
  leaves_of_command (fun _ => rfl) (by simp [touched]) fun s => by dsimp only; simp [touched]

@[simp] theorem svcSegmentStart_leaves (engine t) : Leaves (.svcSegmentStart engine t) :=
  leaves_of_kept fun s => by dsimp only [exec, execSvcSegmentStart]; (repeat' split) <;> simp [touched]

@[simp] theorem svcSegmentEnd_leaves (engine t) : Leaves (.svcSegmentEnd engine t) :=
  leaves_of_kept fun s => by dsimp only [exec, execSvcSegmentEnd]; (repeat' split) <;> simp [touched]

@[simp] theorem svcIdleTimeout_leaves (engine t) : Leaves (.svcIdleTimeout engine t) :=
  leaves_of_kept fun s => by dsimp only [exec, execSvcIdleTimeout]; (repeat' split) <;> simp [touched]

@[simp] theorem svcAbort_leaves (cmd) : Leaves (.svcAbort cmd) :=
  leaves_of_command (fun _ => rfl) (by simp [touched]) fun s => by dsimp only; (repeat' split) <;> simp [touched]

@[simp] theorem forceRelease_leaves (master engine) : Leaves (.forceRelease master engine) :=
  leaves_of_kept fun s => by dsimp only [exec, execForceRelease]; (repeat' split) <;> simp [touched]

@[simp] theorem svcCfgSet_leaves (cmd) : Leaves (.svcCfgSet cmd) :=
  leaves_of_command (fun _ => rfl) (by simp [touched]) fun s => by dsimp only; (repeat' split) <;> simp [touched]

/-! ### What the engines share -/

@[simp] theorem engineSelfTestEnd_leaves (unit passes t) : Leaves (.engineSelfTestEnd unit passes t) :=
  leaves_of_kept fun s => by dsimp only [exec, execEngineSelfTestEnd]; (repeat' split) <;> simp [touched]

@[simp] theorem engineParityError_leaves (unit t) : Leaves (.engineParityError unit t) :=
  leaves_of_kept fun s => by dsimp only [exec, execEngineParityError]; simp [touched]

@[simp] theorem engineKnownAnswer_leaves (unit correct t) : Leaves (.engineKnownAnswer unit correct t) :=
  leaves_of_kept fun s => by dsimp only [exec, execEngineKnownAnswer]; (repeat' split) <;> simp [touched]

@[simp] theorem jobAdmission_leaves (t) : Leaves (.jobAdmission t) :=
  leaves_of_kept fun s => by dsimp only [exec, execJobAdmission]; simp [touched]

/-! ### The random number generator -/

@[simp] theorem noiseSample_leaves (bits t) : Leaves (.noiseSample bits t) :=
  leaves_of_kept fun s => by dsimp only [exec, execNoiseSample]; (repeat' split) <;> simp [touched]

@[simp] theorem spanEnd_leaves (cell t) : Leaves (.spanEnd cell t) :=
  leaves_of_kept fun s => by dsimp only [exec, execSpanEnd]; (repeat' split) <;> simp [touched]

@[simp] theorem drbgGenerateCall_leaves (inst t) : Leaves (.drbgGenerateCall inst t) :=
  leaves_of_kept fun s => by dsimp only [exec, execDrbgGenerateCall]; (repeat' split) <;> simp [touched]

@[simp] theorem drbgReseed_leaves (inst t) : Leaves (.drbgReseed inst t) :=
  leaves_of_kept fun s => by dsimp only [exec, execDrbgReseed]; (repeat' split) <;> simp [touched]

@[simp] theorem rngStartup_leaves (conditionerOk instancesOk t) : Leaves (.rngStartup conditionerOk instancesOk t) :=
  leaves_of_kept fun s => by dsimp only [exec, execRngStartup]; (repeat' split) <;> simp [touched]

@[simp] theorem rngStartupTimeout_leaves (t) : Leaves (.rngStartupTimeout t) :=
  leaves_of_kept fun s => by dsimp only [exec, execRngStartupTimeout]; (repeat' split) <;> simp [touched]

@[simp] theorem katStart_leaves (master unit passes) : Leaves (.katStart master unit passes) :=
  leaves_of_kept fun s => by dsimp only [exec, execKatStart]; (repeat' split) <;> simp [touched]

@[simp] theorem testSrcEnable_leaves (master enable) : Leaves (.testSrcEnable master enable) :=
  leaves_of_kept fun s => by dsimp only [exec, execTestSrcEnable]; (repeat' split) <;> simp [touched]

@[simp] theorem rngGenerate_leaves (cmd) : Leaves (.rngGenerate cmd) :=
  leaves_of_command (fun _ => rfl) (by simp [touched]) fun s => by dsimp only; (repeat' split) <;> simp [touched]

@[simp] theorem rngCfgSet_leaves (cmd) : Leaves (.rngCfgSet cmd) :=
  leaves_of_command (fun _ => rfl) (by simp [touched]) fun s => by simp [touched]

@[simp] theorem rngCellRetest_leaves (cmd) : Leaves (.rngCellRetest cmd) :=
  leaves_of_command (fun _ => rfl) (by simp [touched]) fun s => by dsimp only; (repeat' split) <;> simp [touched]

@[simp] theorem rngKatRun_leaves (cmd) : Leaves (.rngKatRun cmd) :=
  leaves_of_command (fun _ => rfl) (by simp [touched]) fun s => by dsimp only; (repeat' split) <;> simp [touched]

@[simp] theorem rngTestSource_leaves (cmd) : Leaves (.rngTestSource cmd) :=
  leaves_of_command (fun _ => rfl) (by simp [touched]) fun s => by dsimp only; (repeat' split) <;> simp [touched]

/-! ### The families -/

theorem leaves_of_passage {i : Instr} (h : Claims.passage i = true) : Leaves i := by
  cases i
  case
    frameReceive | walkStart | walkEnd | pageInTimeout | laneJobStart | laneTagResult | laneKnownAnswer | laneParityError |
    twinDecision | comparatorBDecide | holdTimerTick | frameTransmit | flowRetireCheck | linkStateChange | portCfgWrite | wireCommit |
    wireDiscard | psgTableLoad | psgTableUnload | psgWireStage | psgWireCommit | psgWireDiscard | psgFlowFlush | psgInject |
    psgKeyPrefetch | psgPuntForward | psgDnp3Challenge | chamberMessageReceive | heartbeatSend | heartbeatMiss | linkRetry |
    heartbeatRequestTimeout | pairCheck | pairCheckAnswer | pairCheckTimeout | lentJobArrival | lentResultArrival | karChamberSet |
    karLendSet | laneRetest | laneTakeOffline | maskReseedRequest | maskReseedLoad | maskGeneratorStarved => simp
  all_goals exact absurd h Bool.false_ne_true

theorem leaves_of_engines {i : Instr} (h : Claims.engines i = true) : Leaves i := by
  cases i
  case
    digestBlockEnd | digestJobAssign | digestJobComplete | coreJobStart | coreStatusDelivered | coreWatchdog | coreZeroingEnd |
    coreSelfTestEnd | corePoolSwitch | serviceJobStage | pkeJob | pkeJobAbort | pkeCurveLoad | pkeCurveUnload | pkePolicySet |
    pkePoolStage | pkePoolCommit | pkePoolDiscard | pkeCoreRetest | poolCommit | poolDiscard | coreRetest | coreTakeOffline | svcMac |
    svcSegmentStart | svcSegmentEnd | svcIdleTimeout | svcAbort | forceRelease | dgsJob | dgsAbort | dgsCfgSet | svcCfgSet | dgsRetest
    | dgsTakeOffline | engineSelfTestEnd | noiseSample | spanEnd | drbgGenerateCall | drbgReseed | rngStartup | rngStartupTimeout |
    katStart | testSrcEnable | rngGenerate | rngCfgSet | rngCellRetest | rngKatRun | rngTestSource | kstDerive | jobAdmission |
    engineParityError | engineKnownAnswer => simp
  all_goals exact absurd h Bool.false_ne_true

/-- Settles O16: row by row, from the frames of the operations that the row's meaning is made of. -/
theorem framePathAndEngineFrame : Obligations.FramePathAndEngineFrame :=
  ⟨fun _ p hi hp => leaves_of_passage hi p hp, fun _ p hi hp => leaves_of_engines hi p hp⟩

end Sys2Proof.Machine
end


section
/-!
What the statements of the frame path's rows and commands share (O22, O26, O27): a command that is let through ends as its own rules say, a
quorum that is met leaves its command's rules to run, and what a wire or a port reads after an update.
-/

set_option Elab.async false

namespace Sys2Proof.Machine

open Claims (Runs UnderQuorum AnsweredOk admitted)

/-! ### Commands that are let through, and quorums -/

theorem command_of_admitted {s : State} {c : Cmd} {code : Nat} (h : admitted s c code = true) (k : State → State) :
    command s c code k = k s := by
  simp only [admitted, Bool.and_eq_true, bne_iff_ne, ne_eq, Option.isNone_iff_eq_none, Bool.not_eq_true'] at h
  obtain ⟨⟨⟨⟨htap, hup⟩, hgate⟩, hknown⟩, hitems⟩ := h
  simp [command, htap, hup, hgate, hknown, hitems]

/-- An admitted command ends in the state that its own rules give. -/
theorem runs_of_admitted {i : Instr} {s : State} {c : Cmd} {code : Nat} {k : State → State} {P : State → Prop}
    (he : exec i s = .next (command s c code k)) (ha : admitted s c code = true) (hP : P (k s)) : Runs i s P :=
  ⟨k s, by rw [he, command_of_admitted ha], hP⟩

theorem runs_of_next {i : Instr} {s u : State} {P : State → Prop} (he : exec i s = .next u) (hP : P u) : Runs i s P := ⟨u, he, hP⟩

theorem withQuorum_met {s v : State} {c : Cmd} {q : Quorum} {reasons : List Nat} {k : State → List Nat → State}
    (h : judgeQuorum s c q = (v, reasons, none)) : withQuorum s c q k = k v reasons := by
  simp [withQuorum, h]

/-- A quorum that is not met is refused with its reason codes, and nothing else: what is left to show is the case where it is met. -/
theorem underQuorum_withQuorum {s : State} {c : Cmd} {q : Quorum} {k : State → List Nat → State} {P : State → List Nat → Prop}
    (h : ∀ v reasons, judgeQuorum s c q = (v, reasons, none) → P v reasons) : UnderQuorum s c q (withQuorum s c q k) P := by
  unfold UnderQuorum withQuorum
  rcases hj : judgeQuorum s c q with ⟨v, reasons, _ | st⟩
  · exact h v reasons hj
  · rfl

theorem answeredOk_answerOk (v : State) (c : Cmd) (reasons : List Nat) (items : List RItem) :
    AnsweredOk (answerOk v c reasons items) c items := ⟨v, reasons, rfl⟩

theorem onWire_of_le {s : State} {c : Cmd} (h : c.nat 5 ≤ 71) (k : Nat → State) : onWire s c k = k (c.nat 5) := by
  simp [onWire, Nat.not_lt.mpr h]

/-! ### Wires and ports -/

@[simp] theorem wire_updWire_same (s : State) (w : Nat) (f : Wire → Wire) : wire (updWire s w f) w = f (wire s w) := by
  simp [wire, updWire]

@[simp] theorem port_updPort_same (s : State) (p : Nat) (f : Port → Port) : port (updPort s p f) p = f (port s p) := by
  simp [port, updPort]

@[simp] theorem port_advance (s : State) (t : Time) (p : Nat) : port (advance s t) p = port s p := by simp [port]

@[simp] theorem stopped_advance (s : State) (t : Time) (i : Nat) : stopped (advance s t) i = stopped s i := by simp [stopped]

@[simp] theorem wire_answerOk (s : State) (c : Cmd) (reasons : List Nat) (items : List RItem) (w : Nat) :
    wire (answerOk s c reasons items) w = wire s w := by simp [wire]

end Sys2Proof.Machine
end

section
/-!
Walks and wire commits (O22).
-/

set_option Elab.async false

namespace Sys2Proof.Machine

open Claims (Runs)

/-- A free lane takes the frame at the head of its parse queue, where the frame needs a walk. -/
theorem exec_walkStart_takes {p : Fin 144} {t : Time} {s r : State} {f : RxFrame} {rest : List RxFrame} (hc : stopped s 0 = false)
    (hw : (port s p).walk = none) (hq : (port s p).parseQ = f :: rest)
    (hr : updPort (finishSwaps (takeSwaps (advance s t) p) (wireOf p)) p (fun q => { q with parseQ := rest }) = r)
    (hu : unparsed r p f = none) :
    exec (.walkStart p t) s = .next (updPort r p fun q => { q with walk := some { frame := f, bank := q.bank, gen := q.gen } }) := by
  simp only [exec, execWalkStart, stopped_advance, port_advance, hc, hw, hq, hr, hu]
  rfl

theorem runs_walkStart {p : Fin 144} {t : Time} {s : State} {f : RxFrame} {rest : List RxFrame} (hc : stopped s 0 = false)
    (hw : (port s p).walk = none) (hq : (port s p).parseQ = f :: rest)
    (hu : unparsed (updPort (finishSwaps (takeSwaps (advance s t) p) (wireOf p)) p fun q => { q with parseQ := rest }) p f = none) :
    Runs (.walkStart p t) s fun u => (port u p).parseQ = rest ∧ ∃ w, (port u p).walk = some w ∧ w.frame = f :=
  runs_of_next (exec_walkStart_takes hc hw hq rfl hu) (by simp)

theorem runs_walkEnd {p : Fin 144} {t : Time} {s : State} {w : Walk} (hc : stopped s 0 = false) (hw : (port s p).walk = some w) :
    Runs (.walkEnd p t) s fun u => ∃ h s' v, v = refreshLocked (classify s' p h) (wireOf p) ∧
      u = (if (port v p).parseQ.isEmpty then settleSwaps v (wireOf p) else v) ∧
      h.id = s.psg.nextFrame ∧ h.rx = w.frame ∧ h.bank = w.bank ∧ h.walkEnd = (advance s t).now ∧
      (port s' p).walk = none ∧ s'.psg.nextFrame = s.psg.nextFrame + 1 := by
  refine runs_of_next (u := _) (by simp only [exec, execWalkEnd, stopped_advance, port_advance, hc, hw]; rfl) ?_
  refine ⟨_, _, _, rfl, rfl, ?_, rfl, rfl, rfl, ?_, ?_⟩
  · simp
  · simp [port, updPort]
  · simp [updPort]

/-- Outside SCRAP a commit that passes its checks asks for the whole SHADOW bank under the next generation (R65, R66). -/
theorem requestCommit_passed {s : State} {w : Nat} {reply : Option Reply} (hl : s.lcy.state ≠ 6) (hk : commitCheck s w = none) :
    requestCommit s w reply = settleSwaps (updWire s w fun x => { x with
      grant := false, waiter := reply,
      pending := some { bank := x.shadow, gen := nextGen x.gen, takenA := false, takenB := false } }) w := by
  simp [requestCommit, hl, hk]

theorem requestCommit_refused {s : State} {w f : Nat} {st : Status} (hl : s.lcy.state ≠ 6) (hk : commitCheck s w = some (st, f)) :
    requestCommit s w none = updWire s w fun x => { x with grant := false, commitStatus := Status.code st, commitField := f } := by
  simp [requestCommit, hl, hk]

theorem exec_wireCommit_secure {m : Master} {w : Fin 72} {s : State} (hm : m.isSecure = true) :
    exec (.wireCommit m w) s = .next (requestCommit s w none) := by
  simp [exec, execWireCommit, hm]

/-- Settles O22: walks by the two rows' equations, wire commits by what `requestCommit` makes of its check. -/
theorem walksAndCommits : Obligations.WalksAndCommits := by
  refine ⟨fun p t s f rest hc hw hq hu => runs_walkStart hc hw hq hu, fun p t s w hc hw => runs_walkEnd hc hw,
    fun m w s hm hl hk => ?_, fun m w s st f hm hl hk => ?_⟩
  · exact runs_of_next (exec_wireCommit_secure hm) (requestCommit_passed hl hk)
  · refine runs_of_next (exec_wireCommit_secure hm) ?_
    simp [requestCommit_refused hl hk]

end Sys2Proof.Machine
end

section
/-!
Flowstone tables and wire banks (O26).
-/

set_option Elab.async false

namespace Sys2Proof.Machine

open Claims (Runs UnderQuorum AnsweredOk admitted)

/-! ### Flowstone tables -/

theorem runs_psgTableLoad {c : Cmd} {t : Fin 16} {s : State} (ha : admitted s c 0x0701 = true) (hs : selectingWire s t = none) :
    Runs (.psgTableLoad c t) s fun u => imageFault c.body.bytes = none → UnderQuorum s c (tableQuorum s c) u fun v _ =>
      AnsweredOk u c [] ∧ u.psg.resident = setBit v.psg.resident t true ∧
        u.psg.tables = v.psg.tables.put t (imageTable c.body.bytes) := by
  refine runs_of_admitted rfl ha fun hi => ?_
  simp only [hs, hi]
  refine underQuorum_withQuorum fun v reasons hj => ?_
  rw [withQuorum_met hj]
  exact ⟨answeredOk_answerOk .., by simp, by simp⟩

theorem runs_psgTableLoad_selected {c : Cmd} {t : Fin 16} {s : State} {w : Nat} (ha : admitted s c 0x0701 = true)
    (hs : selectingWire s t = some w) : Runs (.psgTableLoad c t) s fun u => u = answerBusy s c.reply w :=
  runs_of_admitted rfl ha (by simp only [hs])

theorem runs_psgTableUnload {c : Cmd} {s : State} (ha : admitted s c 0x0702 = true) (ht : c.nat 8 ≤ 15)
    (hr : bit s.psg.resident (c.nat 8) = true) (hs : selectingWire s (c.nat 8) = none) :
    Runs (.psgTableUnload c) s fun u => AnsweredOk u c [] ∧ u.psg.resident = setBit s.psg.resident (c.nat 8) false ∧
      u.psg.tables = s.psg.tables.del (c.nat 8) := by
  refine runs_of_admitted rfl ha ?_
  simp only [hs, hr, Nat.not_lt.mpr ht, decide_false, Bool.not_true, Bool.or_self, Bool.false_eq_true, if_false]
  exact ⟨answeredOk_answerOk .., by simp, by simp⟩

theorem runs_psgTableUnload_selected {c : Cmd} {s : State} {w : Nat} (ha : admitted s c 0x0702 = true)
    (hs : selectingWire s (c.nat 8) = some w) : Runs (.psgTableUnload c) s fun u => u = answerBusy s c.reply w :=
  runs_of_admitted rfl ha (by simp only [hs])

/-! ### Wire banks -/

theorem runs_psgWireStage {c : Cmd} {s : State} (ha : admitted s c 0x0710 = true) (hw : c.nat 5 ≤ 71)
    (ho : (c.regWrites.all fun e => stageOffset e.1) = true) (hc : shadowClosed (wire s (c.nat 5)) = false) :
    Runs (.psgWireStage c) s fun u => AnsweredOk u c [] ∧
      (wire u (c.nat 5)).shadow = (wire s (c.nat 5)).shadow.writes c.regWrites ∧
      (wire u (c.nat 5)).active = (wire s (c.nat 5)).active := by
  have ho' : (c.regWrites.any fun e => !stageOffset e.1) = false := by
    rw [List.any_eq_not_all_not]; simpa using ho
  refine runs_of_admitted rfl ha ?_
  simp only [onWire_of_le hw, ho', hc, Bool.false_eq_true, if_false]
  exact ⟨answeredOk_answerOk .., by simp, by simp⟩

theorem runs_psgWireCommit_free {c : Cmd} {s : State} (ha : admitted s c 0x0711 = true) (hw : c.nat 5 ≤ 71)
    (hg : needsGrant (wire s (c.nat 5)).active (wire s (c.nat 5)).shadow = false) (hr : c.records = []) :
    Runs (.psgWireCommit c) s fun u => u = requestCommit (updWire s (c.nat 5) fun x => { x with grant := false, reasons := [] })
      (c.nat 5) (some c.reply) := by
  refine runs_of_admitted rfl ha ?_
  simp [onWire_of_le hw, hg, hr]

theorem runs_psgWireCommit_granted {c : Cmd} {s : State} (ha : admitted s c 0x0711 = true) (hw : c.nat 5 ≤ 71)
    (hg : needsGrant (wire s (c.nat 5)).active (wire s (c.nat 5)).shadow = true)
    (hk : commitCheck (updWire s (c.nat 5) fun x => { x with grant := true }) (c.nat 5) = none) :
    Runs (.psgWireCommit c) s fun u => ∀ v reasons, judgeQuorum s c (wireQuorum s c (c.nat 5)) = (v, reasons, none) →
      u = requestCommit (updWire v (c.nat 5) fun x => { x with grant := true, reasons := reasons }) (c.nat 5) (some c.reply) := by
  refine runs_of_admitted rfl ha fun v reasons hj => ?_
  simp [onWire_of_le hw, hg, hk, hj]

theorem wire_discardShadow {s : State} {w : Nat} (hc : shadowClosed (wire s w) = false) :
    wire (discardShadow s w) w = { wire s w with shadow := (wire s w).active } := by
  rw [shadowClosed] at hc
  simp only [discardShadow, wire_updWire_same, hc]
  rfl

theorem runs_psgWireDiscard {c : Cmd} {s : State} (ha : admitted s c 0x0712 = true) (hw : c.nat 5 ≤ 71)
    (hc : shadowClosed (wire s (c.nat 5)) = false) :
    Runs (.psgWireDiscard c) s fun u => AnsweredOk u c [] ∧ (wire u (c.nat 5)).shadow = (wire s (c.nat 5)).active ∧
      (wire u (c.nat 5)).active = (wire s (c.nat 5)).active := by
  refine runs_of_admitted rfl ha ?_
  simp only [onWire_of_le hw, hc, Bool.false_eq_true, if_false]
  exact ⟨answeredOk_answerOk .., by simp [wire_discardShadow hc], by simp [wire_discardShadow hc]⟩

/-- Settles O26: each command by its own rules once it is let through. That the row names the table, that a load may replace a resident
table and that the grant is judged last are the model's choices (log entries 30, 111 and 24). -/
theorem tablesAndWireBanks : Obligations.TablesAndWireBanks :=
  ⟨⟨fun _ _ _ ha hs => runs_psgTableLoad ha hs, fun _ _ _ _ ha hs => runs_psgTableLoad_selected ha hs,
      fun _ _ ha ht hr hs => runs_psgTableUnload ha ht hr hs, fun _ _ _ ha _ _ hs => runs_psgTableUnload_selected ha hs⟩,
    ⟨fun _ _ ha hw ho hc => runs_psgWireStage ha hw ho hc, fun _ _ ha hw hg hr => runs_psgWireCommit_free ha hw hg hr,
      fun _ _ ha hw hg hk => runs_psgWireCommit_granted ha hw hg hk, fun _ _ ha hw hc => runs_psgWireDiscard ha hw hc⟩⟩

end Sys2Proof.Machine
end

section
/-!
Flow commands, prefetches, and frames injected and forwarded (O27).
-/

set_option Elab.async false

namespace Sys2Proof.Machine

open Claims (Runs UnderQuorum AnsweredOk admitted)

/-! ### Flow contexts and counters -/

theorem runs_psgFlowRead {c : Cmd} {s : State} (ha : admitted s c 0x0720 = true) (hi : c.nat 0x29 ≤ 16383) :
    Runs (.psgFlowRead c) s fun u => u = answerOk s c [] [.blob (flowBytes s (c.nat 0x29))] :=
  runs_of_admitted rfl ha (by simp only [Nat.not_lt.mpr hi, if_false])

/-- A wire's bit of a mask, as the model reads it. -/
theorem testBit_eq_beq (n i : Nat) : n.testBit i = (n / 2 ^ i % 2 == 1) := Nat.testBit_eq_decide_div_mod_eq

theorem runs_psgFlowFlush {c : Cmd} {s : State} (ha : admitted s c 0x0721 = true) (hm : c.nat 0x2A < 2 ^ 72) (hf : c.nat 0x27 ≤ 1)
    (hb : busyFlowWire s (c.nat 0x2A) = none) :
    Runs (.psgFlowFlush c) s fun u => UnderQuorum s c (plainQuorum s c 0x0721 [routine s 0]) u fun v _ => AnsweredOk u c [] ∧
      u.psg.flows = v.psg.flows.keep fun _ f => !((c.nat 0x2A).testBit f.wire && (c.nat 0x27 == 0 || f.pinned)) := by
  refine runs_of_admitted rfl ha ?_
  simp only [Nat.not_le.mpr hm, Nat.not_lt.mpr hf, decide_false, Bool.or_self, Bool.false_eq_true, if_false, hb, withRoutine]
  refine underQuorum_withQuorum fun v reasons hj => ?_
  rw [withQuorum_met hj]
  exact ⟨answeredOk_answerOk .., by simp only [testBit_eq_beq, answerOk_frame]⟩

theorem runs_psgFlowFlush_busy {c : Cmd} {s : State} {w : Nat} (ha : admitted s c 0x0721 = true) (hm : c.nat 0x2A < 2 ^ 72)
    (hf : c.nat 0x27 ≤ 1) (hb : busyFlowWire s (c.nat 0x2A) = some w) :
    Runs (.psgFlowFlush c) s fun u => u = answerBusy s c.reply w := by
  refine runs_of_admitted rfl ha ?_
  simp only [Nat.not_le.mpr hm, Nat.not_lt.mpr hf, decide_false, Bool.or_self, Bool.false_eq_true, if_false, hb]

theorem runs_psgCountersRead {c : Cmd} {s : State} (ha : admitted s c 0x0730 = true) (hw : c.nat 5 ≤ 71) :
    Runs (.psgCountersRead c) s fun u => ∃ items, u = answerOk s c [] items ∧ items.length = 64 ∧
      ∀ i < 32, ∀ k < 2, .reg (0x280000 + c.nat 5 * 0x200 + 8 * i + 4 * k)
        (BitVec.ofNat 32 (verdictCount s (c.nat 5) i / 2 ^ (32 * k))) ∈ items := by
  refine runs_of_admitted rfl ha ⟨_, onWire_of_le hw _, by simp, fun i hi k hk => ?_⟩
  refine List.mem_map.mpr ⟨2 * i + k, by simp; omega, ?_⟩
  rw [show (2 * i + k) / 2 = i by omega, show (2 * i + k) % 2 = k by omega,
    show 0x280000 + c.nat 5 * 0x200 + 4 * (2 * i + k) = 0x280000 + c.nat 5 * 0x200 + 8 * i + 4 * k by omega]

/-! ### Prefetching of keys -/

theorem prefetchAll_length (s : State) (l : List Nat) : (prefetchAll s l).2.length = l.length := by
  induction l generalizing s with
  | nil => rfl
  | cons h t ih => simp [prefetchAll, ih]

theorem prefetch_of_hit {s : State} {h n : Nat} {a : Attr} {k : Bytes} (hr : resolve s h = .hit n a k) :
    prefetch s h = (touchSlot s n, .ok) := by
  simp only [prefetch, hr]

theorem prefetch_of_stored {s : State} {h : Nat} (hr : resolve s h = .miss) (hv : (vaultRecord s h).isSome = true) :
    prefetch s h = (askPageIn s h, .ok) := by
  simp only [prefetch, hr, hv, if_true]

theorem exists_pageIn_askPageIn (s : State) (h : Nat) : ∃ pg ∈ (askPageIn s h).psg.pageIns, pg.handle = h := by
  unfold askPageIn
  split
  · rename_i hq
    obtain ⟨pg, hmem, heq⟩ := List.any_eq_true.mp hq
    exact ⟨pg, hmem, by simpa using heq⟩
  · exact ⟨_, List.mem_append_right _ (List.mem_singleton.mpr rfl), rfl⟩

/-- A prefetch is answered with what each of its keys gives. -/
theorem runs_psgKeyPrefetch {c : Cmd} {s : State} {P : State → Prop} (ha : admitted s c 0x0731 = true) (hl : (c.values 1).length ≤ 64)
    (hP : P (answerOk (prefetchAll s ((c.values 1).map leNat)).1 c [] [.statuses (prefetchAll s ((c.values 1).map leNat)).2])) :
    Runs (.psgKeyPrefetch c) s P :=
  runs_of_admitted rfl ha (by simpa only [Nat.not_lt.mpr hl, if_false] using hP)

theorem runs_psgKeyPrefetch_statuses {c : Cmd} {s : State} (ha : admitted s c 0x0731 = true) (hl : (c.values 1).length ≤ 64) :
    Runs (.psgKeyPrefetch c) s fun u => ∃ l, AnsweredOk u c [.statuses l] ∧ l.length = (c.values 1).length :=
  runs_psgKeyPrefetch ha hl ⟨_, answeredOk_answerOk .., by rw [prefetchAll_length, List.length_map]⟩

theorem runs_psgKeyPrefetch_hit {c : Cmd} {s : State} {b : Bytes} {n : Nat} {a : Attr} {k : Bytes} (ha : admitted s c 0x0731 = true)
    (hb : c.values 1 = [b]) (hr : resolve s (leNat b) = .hit n a k) :
    Runs (.psgKeyPrefetch c) s fun u => u = answerOk (touchSlot s n) c [] [.statuses [.ok]] :=
  runs_psgKeyPrefetch ha (by simp [hb]) (by simp [hb, prefetchAll, prefetch_of_hit hr])

theorem runs_psgKeyPrefetch_stored {c : Cmd} {s : State} {b : Bytes} (ha : admitted s c 0x0731 = true) (hb : c.values 1 = [b])
    (hr : resolve s (leNat b) = .miss) (hv : (vaultRecord s (leNat b)).isSome = true) :
    Runs (.psgKeyPrefetch c) s fun u => AnsweredOk u c [.statuses [.ok]] ∧ ∃ pg ∈ u.psg.pageIns, pg.handle = leNat b := by
  refine runs_psgKeyPrefetch ha (by simp [hb]) ?_
  simp only [hb, List.map_cons, List.map_nil, prefetchAll, prefetch_of_stored hr hv]
  exact ⟨answeredOk_answerOk .., by simpa using exists_pageIn_askPageIn s (leNat b)⟩

/-! ### Injected and punted frames, and challenges -/

theorem runs_psgInject {c : Cmd} {s : State} (ha : admitted s c 0x0740 = true) (hw : c.nat 5 ≤ 71) (hs : c.nat 6 ≤ 1)
    (hmin : 64 ≤ (c.bytes 0x2B).length) (hmax : (c.bytes 0x2B).length ≤ (port s (2 * c.nat 5 + c.nat 6)).maxFrame)
    (hroom : parseFull s (2 * c.nat 5 + c.nat 6) (c.bytes 0x2B).length = false) :
    Runs (.psgInject c) s fun u => ∃ f : RxFrame, f.bytes = c.bytes 0x2B ∧ f.injected = true ∧
      u = answerOk (enterDirection s (2 * c.nat 5 + c.nat 6) f) c [] [] := by
  refine runs_of_admitted rfl ha
    ⟨{ bytes := c.bytes 0x2B, sec := devSec s, ns := devNs s, unlocked := !s.tim.locked, injected := true,
       severity := s.lan.severity }, rfl, rfl, ?_⟩
  simp [onWire_of_le hw, hroom, Nat.not_lt.mpr hs, Nat.not_lt.mpr hmin, Nat.not_lt.mpr hmax]

theorem runs_psgPuntForward {c : Cmd} {s : State} {x : Punt} (ha : admitted s c 0x0741 = true)
    (hx : s.psg.puntQ.find? (·.handle == c.nat 0x2C) = some x) (hi : s.lcy.isolateAll = false)
    (h2 : (wire s (wireOf x.port)).active.modeOf ≠ 2) (h3 : (wire s (wireOf x.port)).active.modeOf ≠ 3) :
    Runs (.psgPuntForward c) s fun u => ∃ v, u = answerOk (egressJoin v (otherPort x.port) x.bytes false) c [] [] ∧
      v = { s with psg := { s.psg with puntQ := s.psg.puntQ.filter (·.handle != x.handle) } } :=
  runs_of_admitted rfl ha ⟨_, by simp only [hx, hi, h2, h3, decide_false, Bool.or_self, Bool.false_eq_true, if_false], rfl⟩

theorem runs_psgPuntForward_unknown {c : Cmd} {s : State} (ha : admitted s c 0x0741 = true)
    (hx : s.psg.puntQ.find? (·.handle == c.nat 0x2C) = none) :
    Runs (.psgPuntForward c) s fun u => u = answerStatus s c.reply .invalidParameter :=
  runs_of_admitted rfl ha (by simp only [hx])

theorem runs_psgDnp3Challenge {c : Cmd} {s : State} (ha : admitted s c 0x0742 = true) (hn : c.nat 0x2D < 1024)
    (hl : (c.bytes 0x2E).length ≤ 248) :
    Runs (.psgDnp3Challenge c) s fun u => AnsweredOk u c [] ∧ ((u.psg.assocs.get {} (c.nat 0x2D)).message = c.bytes 0x2E ∧
      (u.psg.assocs.get {} (c.nat 0x2D)).count = ((s.psg.assocs.get {} (c.nat 0x2D)).count + 1) % 2 ^ 32) := by
  refine runs_of_admitted rfl ha ?_
  simp only [Nat.not_lt.mpr hl, Nat.not_le.mpr hn, if_false]
  exact ⟨answeredOk_answerOk .., by simp⟩

/-- Settles O27: each command by its own rules once it is let through. The statuses of a prefetch and the forwarding of a frame to a port
that has become a chamber link are the model's choices (log entries 26, 113, 114 and 118). -/
theorem flowAndFrameCommands : Obligations.FlowAndFrameCommands :=
  ⟨⟨fun _ _ ha hi => runs_psgFlowRead ha hi, fun _ _ ha hm hf hb => runs_psgFlowFlush ha hm hf hb,
      fun _ _ _ ha hm hf hb => runs_psgFlowFlush_busy ha hm hf hb, fun _ _ ha hw => runs_psgCountersRead ha hw,
      fun _ _ ha hl => runs_psgKeyPrefetch_statuses ha hl, fun _ _ _ _ _ _ ha hb hr => runs_psgKeyPrefetch_hit ha hb hr,
      fun _ _ _ ha hb hr hv => runs_psgKeyPrefetch_stored ha hb hr hv⟩,
    ⟨fun _ _ ha hw hs hmin hmax hroom => runs_psgInject ha hw hs hmin hmax hroom,
      fun _ _ _ ha hx hi h2 h3 => runs_psgPuntForward ha hx hi h2 h3, fun _ _ ha hx => runs_psgPuntForward_unknown ha hx,
      fun _ _ ha hn hl => runs_psgDnp3Challenge ha hn hl⟩⟩

end Sys2Proof.Machine
end

section
/-!
What the registers read right after reset (O9).
-/

set_option Elab.async false

namespace Sys2Proof.Machine

/-! ### The page owner table as registers of the worlds block (R379, R398) -/

/-- The worlds block holds no counter of more than 32 bits. -/
theorem wideReg_worlds (s : State) {a : Nat} (ha : 0x3000000 ≤ a) : wideReg s a = none := by
  simp (disch := omega) only [wideReg, if_neg]

theorem plainReg_worlds (s : State) {a : Nat} (h4 : a % 4 = 0) (ha : 0x3000000 ≤ a) (hb : a < 0x4000000) :
    plainReg s a = wldReg s (a - 0x3000000) := by
  simp (disch := omega) only [plainReg, if_neg, if_pos]

theorem notMem_timShadows_worlds {a : Nat} (ha : 0x3000000 ≤ a) : a ∉ timShadows := by
  have hall : ∀ x ∈ timShadows, x < 0x3000000 := by decide
  exact fun h => absurd (hall a h) (by omega)

theorem clearRead_worlds (s : State) {a : Nat} (ha : 0x3000000 ≤ a) : clearRead s a = s := by
  simp [clearRead, show a ≠ 0x200228 by omega, show a ≠ 0x2000028 by omega, show ¬ a < 0x289000 by omega]

/-- No register of the worlds block past its first is a counter's half or clears as it is read. -/
theorem readValue_worlds (s : State) {a : Nat} (h4 : a % 4 = 0) (ha : 0x3000004 ≤ a) (hb : a < 0x4000000) :
    readValue s a = (wldReg s (a - 0x3000000)).map fun v => (v, s) := by
  have hlow : (if 4 ≤ a then wideReg s (a - 4) else none) = none := by
    rw [wideReg_worlds s (show 0x3000000 ≤ a - 4 by omega), ite_self]
  simp [readValue, h4, notMem_timShadows_worlds (a := a) (by omega), wideReg_worlds s (a := a) (by omega), hlow,
    plainReg_worlds s h4 (by omega) hb, clearRead_worlds s (a := a) (by omega), show a ≠ 0x2100050 by omega, show a ≠ 0x2100008 by omega]

theorem wldReg_page (s : State) {p : Nat} (hp : p < 8192) : wldReg s (0x10000 + 4 * p) = some (pageEntry s p) := by
  have hi : (0x10000 + 4 * p - 0x10000) / 4 = p := by omega
  simp (disch := omega) only [wldReg, if_neg, if_pos, hi, Bool.or_eq_true, Bool.and_eq_true, decide_eq_true_eq]

theorem readValue_page (s : State) {p : Nat} (hp : p < 8192) : readValue s (0x3010000 + 4 * p) = some (pageEntry s p, s) := by
  rw [readValue_worlds s (by omega) (by omega) (by omega), show 0x3010000 + 4 * p - 0x3000000 = 0x10000 + 4 * p by omega,
    wldReg_page s hp]
  rfl

/-! ### The registers of the list -/

/-- Each register of the list is read in the state after reset, where everything that it shows is a literal. -/
theorem readValue_reset_of_mem : ∀ e ∈ Claims.resetValues, (readValue State.reset e.1).map (·.1) = some (BitVec.ofNat 32 e.2) := by
  decide +kernel

/-- Settles O9: the list by reading each of its registers, the page owner table by the entry that every state shows. -/
theorem resetRegisterValues : Obligations.ResetRegisterValues :=
  ⟨readValue_reset_of_mem, fun p hp => by rw [readValue_page _ hp]; rfl⟩

end Sys2Proof.Machine
end

section
/-!
Page-ins: taken in order, ended with a key or without one, failed, or run once more (O23).
-/

set_option Elab.async false

namespace Sys2Proof.Machine

open Claims (Runs)

/-! ### What the passing of time leaves of the vault and the key store -/

@[simp] theorem secureUp_advance (s : State) (t : Time) : secureUp (advance s t) = secureUp s := by simp [secureUp]

@[simp] theorem vaultServes_advance (s : State) (t : Time) : vaultServes (advance s t) = vaultServes s := by simp [vaultServes]

@[simp] theorem suspended_advance (s : State) (t : Time) : suspended (advance s t) = suspended s := by simp [suspended]

@[simp] theorem domain_advance (s : State) (t : Time) (d : Nat) : domain (advance s t) d = domain s d := by simp [domain]

@[simp] theorem withdrawn_advance (s : State) (t : Time) (h : Nat) : withdrawn (advance s t) h = withdrawn s h := by simp [withdrawn]

@[simp] theorem slotOf_advance (s : State) (t : Time) (h : Nat) : slotOf (advance s t) h = slotOf s h := by simp [slotOf]

/-! ### How a page-in ends -/

theorem handle_of_find {l : List PageIn} {handle : Nat} {pg : PageIn} (h : l.find? (·.handle == handle) = some pg) :
    pg.handle = handle := by simpa using List.find?_some h

theorem closePageIn_pageIns (s : State) (pg : PageIn) :
    (closePageIn s pg).psg.pageIns = s.psg.pageIns.filter (·.handle != pg.handle) := rfl

theorem closePageIn_pageMax (s : State) (pg : PageIn) :
    (closePageIn s pg).psg.pageMax = max s.psg.pageMax (min ((s.now - pg.askedAt) / usT) 65535) := rfl

theorem countPageFail_pageInFail (s : State) : (countPageFail s).geo.pageInFail = sat64 s.geo.pageInFail := rfl

/-- A page-in that ends leaves the list, and its frames are judged again in a state that differs in Passage and Geode alone. -/
theorem resolveWaiting_eq (s : State) (pg : PageIn) : ∃ v, resolveWaiting s pg = endPaging v pg.handle judgeKey ∧ v.kst = s.kst ∧
    v.psg.pageIns = s.psg.pageIns.filter (·.handle != pg.handle) := ⟨_, rfl, rfl, rfl⟩

theorem failPageIn_eq (s : State) (pg : PageIn) : ∃ v, failPageIn s pg = failPaging v pg.handle ∧
    v.geo.pageInFail = sat64 s.geo.pageInFail ∧ v.psg.pageIns = s.psg.pageIns.filter (·.handle != pg.handle) := ⟨_, rfl, rfl, rfl⟩

theorem look_writeSlot (s : State) (n h : Nat) (k : KeyRec) (r : Nat) :
    ∃ x, (writeSlot s n h k r).kst.slots.look n = some x ∧ x.handle = h ∧ x.attr = k.attr ∧ x.value = k.value :=
  ⟨_, Tbl.look_put_same .., rfl, rfl, rfl⟩

theorem mem_absent_enterAbsent (s : State) (h : Nat) : h ∈ (enterAbsent s h).kst.absent := by simp [enterAbsent]

/-- A live key's record that has been read goes into the slot that room is made in. -/
theorem pageRecord_stored {s w : State} {pg : PageIn} {k : KeyRec} {n : Nat} (hs : suspended s = false)
    (hd : (domain s (handleDomain pg.handle)).state = .active) (hw : withdrawn s pg.handle = false)
    (hk : s.flash.objects.look pg.handle = some k) (hn : slotOf s pg.handle = none)
    (hr : makeRoom s pg.handle k.value.length = some (w, n)) :
    pageRecord s pg = resolveWaiting (writeSlot w n pg.handle k 0) pg := by
  simp [pageRecord, hs, hd, hw, hk, hn, hr]

theorem pageRecord_absent {s : State} {pg : PageIn} (hs : suspended s = false) (hk : s.flash.objects.look pg.handle = none) :
    pageRecord s pg = resolveWaiting (enterAbsent s pg.handle) pg := by
  simp [pageRecord, hs, hk]

/-! ### The three rows -/

theorem runs_pageInRequest {t : Time} {s : State} {pg : PageIn} (hu : secureUp s = true) (hf : s.psg.pageIns.find? (!·.taken) = some pg) :
    Runs (.pageInRequest t) s fun u => u.psg.pageIns =
      s.psg.pageIns.map fun x => if x.handle == pg.handle then { x with taken := true } else x := by
  refine runs_of_next (u := { advance s t with psg := { (advance s t).psg with pageIns := (advance s t).psg.pageIns.map fun x =>
    if x.handle == pg.handle then { x with taken := true } else x } }) ?_ (by simp)
  simp [exec, execPageInRequest, hu, hf]

section
variable {handle : Nat} {r : CellRead} {t : Time} {s : State} {pg : PageIn}
  (hf : s.psg.pageIns.find? (·.handle == handle) = some pg)
include hf

theorem runs_pageInTimeout (hl : pg.askedAt + 500 * usT ≤ (advance s t).now) :
    Runs (.pageInTimeout handle t) s fun u => ∃ s', u = failPaging s' handle ∧
      s'.psg.pageIns = s.psg.pageIns.filter (·.handle != handle) ∧ s'.geo.pageInFail = sat64 s.geo.pageInFail ∧
      s'.psg.pageMax = max s.psg.pageMax (min (((advance s t).now - pg.askedAt) / usT) 65535) := by
  refine runs_of_next (u := failPaging (closePageIn (countPageFail (advance s t)) pg) handle) ?_ ⟨_, rfl, ?_, ?_, ?_⟩
  · simp [exec, execPageInTimeout, hf, Nat.not_lt.mpr hl]
  · rw [closePageIn_pageIns, handle_of_find hf]; simp
  · simp [countPageFail_pageInFail]
  · rw [closePageIn_pageMax]; simp

variable (hc : stopped s 1 = false) (ht : pg.taken = true)
include hc ht

theorem exec_pageInComplete_unserved (hu : secureUp s = false ∨ vaultServes s = false) :
    exec (.pageInComplete handle r t) s = .next (failPageIn (advance s t) pg) := by
  have hu' : (!secureUp s || !vaultServes s) = true := by rcases hu with h | h <;> simp [h]
  simp only [exec, execPageInComplete, advance_frame, stopped_advance, secureUp_advance, vaultServes_advance, hf, hc, ht, hu']
  rfl

theorem runs_pageInComplete_unserved (hu : secureUp s = false ∨ vaultServes s = false) :
    Runs (.pageInComplete handle r t) s fun u => ∃ v, u = failPaging v handle ∧ v.geo.pageInFail = sat64 s.geo.pageInFail ∧
      v.psg.pageIns = s.psg.pageIns.filter (·.handle != handle) := by
  obtain ⟨v, he, hg, hp⟩ := failPageIn_eq (advance s t) pg
  rw [handle_of_find hf] at he hp
  exact runs_of_next (exec_pageInComplete_unserved hf hc ht hu) ⟨v, he, by simpa using hg, by simpa using hp⟩

variable (hu : secureUp s = true) (hv : vaultServes s = true)
include hu hv

theorem runs_pageInComplete_stale (hs : pg.stale = true) :
    Runs (.pageInComplete handle r t) s fun u => u.psg.pageIns =
      s.psg.pageIns.map fun x => if x.handle == handle then { x with stale := false } else x := by
  refine runs_of_next (u := { advance s t with psg := { (advance s t).psg with pageIns := (advance s t).psg.pageIns.map fun x =>
    if x.handle == handle then { x with stale := false } else x } }) ?_ (by simp)
  simp [exec, execPageInComplete, hf, hc, ht, hu, hv, hs]

variable (hst : pg.stale = false)
include hst

theorem exec_pageInComplete_good : exec (.pageInComplete handle .good t) s = .next (pageRecord (advance s t) pg) := by
  simp [exec, execPageInComplete, hf, hc, ht, hu, hv, hst]

variable (hsu : suspended s = false)
include hsu

theorem runs_pageInComplete_stored {k : KeyRec} {w : State} {n : Nat} (hd : (domain s (handleDomain handle)).state = .active)
    (hw : withdrawn s handle = false) (hk : s.flash.objects.look handle = some k) (hn : slotOf s handle = none)
    (hr : makeRoom (advance s t) handle k.value.length = some (w, n)) :
    Runs (.pageInComplete handle .good t) s fun u => ∃ v x, u = endPaging v handle judgeKey ∧ v.kst.slots.look n = some x ∧
      x.handle = handle ∧ x.attr = k.attr ∧ x.value = k.value ∧ v.psg.pageIns = s.psg.pageIns.filter (·.handle != handle) := by
  obtain rfl := handle_of_find hf
  obtain ⟨x, hx, hxh, hxa, hxv⟩ := look_writeSlot w n pg.handle k 0
  obtain ⟨v, he, hkst, hp⟩ := resolveWaiting_eq (writeSlot w n pg.handle k 0) pg
  have hwp : w.psg = s.psg := by simpa using makeRoom_psg_of hr
  refine runs_of_next (exec_pageInComplete_good hf hc ht hu hv hst) ⟨v, x, ?_, by rw [hkst, hx], hxh, hxa, hxv, ?_⟩
  · rw [pageRecord_stored (by simpa using hsu) (by simpa using hd) (by simpa using hw) (by simpa using hk) (by simpa using hn) hr, he]
  · simpa [hwp] using hp

theorem runs_pageInComplete_absent (hk : s.flash.objects.look handle = none) :
    Runs (.pageInComplete handle .good t) s fun u => ∃ v, u = endPaging v handle judgeKey ∧ handle ∈ v.kst.absent ∧
      v.psg.pageIns = s.psg.pageIns.filter (·.handle != handle) := by
  obtain rfl := handle_of_find hf
  obtain ⟨v, he, hkst, hp⟩ := resolveWaiting_eq (enterAbsent (advance s t) pg.handle) pg
  refine runs_of_next (exec_pageInComplete_good hf hc ht hu hv hst) ⟨v, ?_, ?_, by simpa using hp⟩
  · rw [pageRecord_absent (by simpa using hsu) (by simpa using hk), he]
  · rw [hkst]; exact mem_absent_enterAbsent _ _

end

/-- Settles O23: the page-in that is asked for, and the branch of its row that its marks, the vault and the record lead to. -/
theorem pageInsAreTakenAndEnd : Obligations.PageInsAreTakenAndEnd :=
  ⟨fun _ _ _ hu hf => runs_pageInRequest hu hf,
    fun _ _ _ _ _ _ _ hc hf ht hst hu hv hsu hd hw hk hn hr => runs_pageInComplete_stored hf hc ht hu hv hst hsu hd hw hk hn hr,
    fun _ _ _ _ hc hf ht hst hu hv hsu hk => runs_pageInComplete_absent hf hc ht hu hv hst hsu hk,
    fun _ _ _ _ _ hc hf ht hu => runs_pageInComplete_unserved hf hc ht hu,
    fun _ _ _ _ _ hc hf ht hu hv hs => runs_pageInComplete_stale hf hc ht hu hv hs,
    fun _ _ _ _ hf hl => runs_pageInTimeout hf hl⟩

end Sys2Proof.Machine
end

section
/-!
Decisions of the comparators, the hold timer, and the retirement of flows (O24).
-/

set_option Elab.async false

namespace Sys2Proof.Machine

open Claims (Runs)

/-! ### The skew generator leaves the twin-fault counter alone

A draw may deliver seeds to mask generators of lanes, which lie in the ports; nothing else of Passage changes. -/

@[simp ↓] theorem updMask_twinFault (s : State) (e : Nat) (f : Mask → Mask) :
    (updMask s e f).psg.twinFault = s.psg.twinFault := by
  unfold updMask
  split
  · rfl
  · rfl

@[simp ↓] theorem deliverDraw_twinFault (s : State) (r : DrawReq) (b : Bytes) :
    (deliverDraw s r b).psg.twinFault = s.psg.twinFault := by
  unfold deliverDraw
  split <;> simp

@[simp ↓] theorem refuseDraw_twinFault (s : State) (r : DrawReq) : (refuseDraw s r).psg.twinFault = s.psg.twinFault := by
  unfold refuseDraw
  split <;> simp [maskRefused]

theorem refuseDraws_twinFault (l : List DrawReq) (s : State) : (l.foldl refuseDraw s).psg.twinFault = s.psg.twinFault := by
  induction l generalizing s with
  | nil => rfl
  | cons r l ih => rw [List.foldl_cons, ih, refuseDraw_twinFault]

@[simp ↓] theorem drainExhausted_twinFault (s : State) (i : Nat) : (drainExhausted s i).psg.twinFault = s.psg.twinFault := by
  unfold drainExhausted
  split
  · exact refuseDraws_twinFault _ _
  · rfl

@[simp ↓] theorem serveCall_twinFault (s : State) (i : Nat) : (serveCall s i).psg.twinFault = s.psg.twinFault := by
  unfold serveCall
  dsimp only [instCalls]
  repeat' split
  all_goals simp

@[simp ↓] theorem serveAhead_twinFault (p : Bool) (n : Nat) (s : State) (i : Nat) :
    (serveAhead p n s i).psg.twinFault = s.psg.twinFault := by
  induction n generalizing s with
  | zero => rfl
  | succ n ih =>
    unfold serveAhead
    split
    · rfl
    · rw [ih, serveCall_twinFault]

@[simp ↓] theorem draw_twinFault (s : State) (h : Nat) (p : Bool) (n : Nat) : (draw s h p n).1.psg.twinFault = s.psg.twinFault := by
  unfold draw
  dsimp only [instCalls]
  repeat' split
  all_goals simp

@[simp ↓] theorem countSkew_twinFault (s : State) : (countSkew s).psg.twinFault = s.psg.twinFault := by
  have hd := draw_twinFault s 0 true 32
  unfold countSkew
  split
  · rfl
  split <;> (rename_i e; rw [e] at hd; exact hd)

theorem countSkew_of_lt {s : State} (h : s.psg.skewDraws + 1 < 65536) :
    countSkew s = { s with psg := { s.psg with skewDraws := s.psg.skewDraws + 1 } } := if_pos h

/-! ### The two comparators (R108, R109) -/

theorem findHeld_advance (s : State) (t : Time) (p id : Nat) : findHeld (advance s t) p id = findHeld s p id := by simp [findHeld]

theorem portOfFrame_advance (s : State) (t : Time) (id : Nat) : portOfFrame (advance s t) id = portOfFrame s id := by simp [portOfFrame]

theorem exec_twinDecision_decides {frame : Nat} {t : Time} {s : State} {p : Nat} {h : Held} {r : Ruling} (hc : stopped s 0 = false)
    (hp : portOfFrame s frame = some p) (hf : findHeld s p frame = some h) (hs : h.stage = .result r)
    (hd : flowDeciding (port s p) h = false) :
    exec (.twinDecision frame t) s = .next (updHeld (advance s t) p frame
      fun x => { x with stage := .decidedA (decideFrame (advance s t) h r) (advance s t).now }) := by
  simp only [exec, execTwinDecision, stopped_advance, portOfFrame_advance, findHeld_advance, port_advance, hc, hp, hf, hs, hd]
  rfl

/-- Comparator B's decision on a frame that comparator A has decided, once the skew generator has counted it in the state `v`. -/
def decideB (v : State) (p frame : Nat) (h : Held) (a : Ruling) (upset : Bool) : State :=
  if upset then refuseHeld (faultAlarm { v with psg := { v.psg with twinFault := sat32 v.psg.twinFault } } 1 p) p h { verdict := .fault } false
  else if a.verdict = .accept then
    releaseLine (updHeld (updFlow v h.flow (acceptFlow h)) p frame fun x => { x with stage := .accepted v.now }) p
  else refuseHeld v p h a (a.cause == 8 && a.verdict == .keyUnknown)

theorem exec_comparatorBDecide_decides {frame : Nat} {k : Fin 15} {upset : Bool} {s : State} {p : Nat} {h : Held} {a : Ruling} {at_ : Time}
    (hc : stopped s 0 = false) (hp : portOfFrame s frame = some p) (hf : findHeld s p frame = some h) (hs : h.stage = .decidedA a at_) :
    exec (.comparatorBDecide frame k upset) s =
      .next (decideB (countSkew (advance s (at_ + (k.val + 1) * cclkT))) p frame h a upset) := by
  have hnow (v : State) : (updFlow v h.flow (acceptFlow h)).now = v.now := by simp
  simp only [exec, execComparatorBDecide, hc, hp, hf, hs, hnow, decideB, Bool.false_eq_true, if_false]
  split
  · rfl
  split
  · rfl
  · rfl

section
variable {frame : Nat} {k : Fin 15} {s : State} {p : Nat} {h : Held} {a : Ruling} {at_ : Time} (hc : stopped s 0 = false)
  (hp : portOfFrame s frame = some p) (hf : findHeld s p frame = some h) (hs : h.stage = .decidedA a at_)
include hc hp hf hs

theorem runs_comparatorBDecide_differs :
    Runs (.comparatorBDecide frame k true) s fun u => ∃ s', u = refuseHeld (faultAlarm s' 1 p) p h { verdict := .fault } false ∧
      s'.psg.twinFault = sat32 s.psg.twinFault ∧
      (s.psg.skewDraws + 1 < 65536 → s'.psg.skewDraws = s.psg.skewDraws + 1 ∧ s'.psg.ports = s.psg.ports) ∧
      s'.now = (advance s (at_ + (k.val + 1) * cclkT)).now := by
  refine runs_of_next (exec_comparatorBDecide_decides hc hp hf hs) ⟨_, rfl, by simp, fun hlt => ?_, by simp⟩
  rw [countSkew_of_lt (by simpa using hlt)]
  simp

theorem runs_comparatorBDecide_accepts (ha : a.verdict = .accept) :
    Runs (.comparatorBDecide frame k false) s fun u => ∃ s', u = releaseLine (updHeld (updFlow s' h.flow (acceptFlow h)) p frame
        fun x => { x with stage := .accepted s'.now }) p ∧
      s'.psg.twinFault = s.psg.twinFault ∧ s'.now = (advance s (at_ + (k.val + 1) * cclkT)).now :=
  runs_of_next (exec_comparatorBDecide_decides hc hp hf hs)
    ⟨countSkew (advance s (at_ + (k.val + 1) * cclkT)), by simp [decideB, ha], by simp, by simp⟩

theorem runs_comparatorBDecide_refuses (ha : a.verdict ≠ .accept) :
    Runs (.comparatorBDecide frame k false) s fun u => ∃ s', u = refuseHeld s' p h a (a.cause == 8 && a.verdict == .keyUnknown) ∧
      s'.psg.twinFault = s.psg.twinFault :=
  runs_of_next (exec_comparatorBDecide_decides hc hp hf hs)
    ⟨countSkew (advance s (at_ + (k.val + 1) * cclkT)), by simp [decideB, ha], by simp⟩

end

/-! ### The hold timer and the retirement of flows (R101, R58) -/

/-- The state in which a tick of the hold timer looks at the held frames. -/
def noteTick (s : State) (t : Time) : State :=
  { advance s t with psg := { (advance s t).psg with holdTickAt := (advance s t).now } }

theorem exec_holdTimerTick {t : Time} {s : State} (hc : stopped s 0 = false) :
    exec (.holdTimerTick t) s = .next (forFrames (noteTick s t) (overdue (noteTick s t)) expire) := by
  simp only [exec, execHoldTimerTick, stopped_advance, hc]
  rfl

theorem overdue_noteTick (s : State) (t : Time) : overdue (noteTick s t) = overdue (advance s t) := rfl

theorem runs_holdTimerTick_none {t : Time} {s : State} (hc : stopped s 0 = false) (ho : overdue (advance s t) = []) :
    Runs (.holdTimerTick t) s fun u => u.psg.ports = s.psg.ports ∧ u.cham = s.cham ∧ u.out = s.out := by
  refine runs_of_next (exec_holdTimerTick hc) ?_
  rw [overdue_noteTick, ho]
  simp [forFrames, noteTick]

theorem runs_flowRetireCheck {t : Time} {s : State} (hc : stopped s 0 = false) :
    Runs (.flowRetireCheck t) s fun u =>
      u.psg.flows = s.psg.flows.keep (fun _ f => !retires (advance s t) f) ∧ u.psg.flowCheckAt = (advance s t).now :=
  runs_of_next (u := { advance s t with psg := { (advance s t).psg with
      flows := (advance s t).psg.flows.keep fun _ f => !retires (advance s t) f, flowCheckAt := (advance s t).now } })
    (by simp only [exec, execFlowRetireCheck, stopped_advance, hc]; rfl) (by simp)

/-- Settles O24: comparator A by its row's equation, comparator B by the three outcomes of `decideB`, and the timer and the check by what they
make of the state at their moment. -/
theorem decisionsAndHolds : Obligations.DecisionsAndHolds :=
  ⟨⟨fun _ _ _ _ _ _ hc hp hf hs hd => runs_of_next (exec_twinDecision_decides hc hp hf hs hd) rfl,
      fun _ _ _ _ _ _ _ hc hp hf hs => runs_comparatorBDecide_differs hc hp hf hs,
      fun _ _ _ _ _ _ _ hc hp hf hs ha => runs_comparatorBDecide_accepts hc hp hf hs ha,
      fun _ _ _ _ _ _ _ hc hp hf hs ha => runs_comparatorBDecide_refuses hc hp hf hs ha⟩,
    ⟨fun t s hc => runs_of_next (exec_holdTimerTick hc) ⟨noteTick s t, rfl, rfl⟩,
      fun _ _ hc ho => runs_holdTimerTick_none hc ho, fun _ _ hc => runs_flowRetireCheck hc⟩⟩

end Sys2Proof.Machine
end

section
/-!
Chamber links and pairs: what their operations read and leave, shared by the statements of the chamber's messages and of its links (O41, O42).
-/

set_option Elab.async false

namespace Sys2Proof.Machine

/-! ### A link after an update -/

@[simp] theorem link_updLink_same (s : State) (p : Nat) (f : Link → Link) : link (updLink s p f) p = f (link s p) := by
  simp [link, updLink]

@[simp] theorem link_setEvent (s : State) (i p : Nat) : link (setEvent s i) p = link s p := rfl

@[simp] theorem link_advance (s : State) (t : Time) (p : Nat) : link (advance s t) p = link s p := by simp [link]

@[simp] theorem linkUp_advance (s : State) (t : Time) (p : Nat) : linkUp (advance s t) p = linkUp s p := by simp [linkUp]

@[simp] theorem stopped_refreshLinks (s : State) (i : Nat) : stopped (refreshLinks s) i = stopped s i := by simp [stopped]

@[simp] theorem stopped_setEvent (s : State) (i n : Nat) : stopped (setEvent s i) n = stopped s n := rfl

theorem linkUp_iff (s : State) (p : Nat) : linkUp s p = true ↔ (link s p).state = 2 := by simp [linkUp]

theorem linkUp_of_state_one {s : State} {p : Nat} (h : (link s p).state = 1) : linkUp s p = false := by simp [linkUp, h]

theorem bit_setEvent (s : State) {i : Nat} (hi : i < 32) : bit (setEvent s i).cham.event i = true := by
  have hbit : bit (setEvent s i).cham.event i = (setEvent s i).cham.event.toNat.testBit i := (testBit_eq_beq _ _).symm
  have hpow : 2 ^ i % 4294967296 = 2 ^ i := Nat.mod_eq_of_lt (Nat.pow_lt_pow_right (a := 2) (n := 32) (by decide) hi)
  rw [hbit]
  simp [setEvent, hpow]

/-! ### A wire after its pair check -/

theorem wire_updWire_other (s : State) {w n : Nat} (f : Wire → Wire) (h : n ≠ w) : wire (updWire s w f) n = wire s n := by
  simp [wire, updWire, h]

@[simp] theorem wire_event (s : State) (i v d w : Nat) : wire (event s i v d) w = wire s w := by simp [wire]

@[simp] theorem wire_advance (s : State) (t : Time) (w : Nat) : wire (advance s t) w = wire s w := by simp [wire]

/-- Strata's record of a change leaves the wires as they are. -/
theorem wire_setPairOk (s : State) (w n : Nat) (ok : Bool) :
    wire (setPairOk s w ok) n = wire (updWire s w fun x => { x with pairOk := ok, pairAskedAt := none }) n := by
  unfold setPairOk
  dsimp only
  split
  · rfl
  · exact wire_event ..

@[simp] theorem wire_setPairOk_same (s : State) (w : Nat) (ok : Bool) :
    wire (setPairOk s w ok) w = { wire s w with pairOk := ok, pairAskedAt := none } := by
  rw [wire_setPairOk, wire_updWire_same]

theorem wire_setPairOk_other (s : State) {w n : Nat} (ok : Bool) (h : n ≠ w) : wire (setPairOk s w ok) n = wire s n := by
  rw [wire_setPairOk, wire_updWire_other _ _ h]

/-- A pair's soundness is judged from the wire's own ACTIVE bank and the device's number (R124). -/
theorem pairSound_congr {s v : State} {w : Nat} (hw : (wire v w).active = (wire s w).active) (hi : v.id = s.id) (m q : Word) :
    pairSound v w m q = pairSound s w m q := by
  simp only [pairSound, hw, hi]

@[simp] theorem wire_pairAnswered_same (s : State) (w : Nat) (l : Bool) (m q : Word) :
    wire (pairAnswered s w l m q) w = { wire s w with
      pairLocal := l, unreachable := false, partnerMode := field m 1 0, pairOk := pairSound s w m q, pairAskedAt := none } := by
  simp only [pairAnswered, wire_setPairOk_same, wire_updWire_same]
  rw [pairSound_congr (s := s) (by simp) (by simp)]

theorem wire_pairAnswered_other (s : State) {w n : Nat} (l : Bool) (m q : Word) (h : n ≠ w) :
    wire (pairAnswered s w l m q) n = wire s n := by
  simp only [pairAnswered]
  rw [wire_setPairOk_other _ _ h, wire_updWire_other _ _ h]

/-- An answer for other wires leaves this one as it is. -/
theorem wire_foldl_pairAnswered_other {l : List Nat} {n : Nat} (hn : n ∉ l) (s : State) (m q : Word) :
    wire (l.foldl (fun s w => pairAnswered s w false m q) s) n = wire s n := by
  induction l generalizing s with
  | nil => rfl
  | cons w l ih =>
    obtain ⟨hw, hl⟩ := List.ne_and_not_mem_of_not_mem_cons hn
    rw [List.foldl_cons, ih hl, wire_pairAnswered_other _ _ _ _ hw]

/-- An answer for several wires, each of them once, makes of each what an answer for it alone makes of it. -/
theorem wire_foldl_pairAnswered_same {l : List Nat} {n : Nat} (hl : l.Nodup) (hn : n ∈ l) (s : State) (m q : Word) :
    wire (l.foldl (fun s w => pairAnswered s w false m q) s) n = wire (pairAnswered s n false m q) n := by
  induction l generalizing s with
  | nil => exact absurd hn List.not_mem_nil
  | cons w l ih =>
    obtain ⟨hw, hd⟩ := List.nodup_cons.mp hl
    rw [List.foldl_cons]
    by_cases he : n = w
    · subst he
      exact wire_foldl_pairAnswered_other hw _ m q
    · have hs := wire_pairAnswered_other s false m q he
      rw [ih hd ((List.mem_cons.mp hn).resolve_left he), wire_pairAnswered_same, wire_pairAnswered_same, hs,
        pairSound_congr (s := s) (by rw [hs]) (by simp)]

end Sys2Proof.Machine
end

section
/-!
Messages at a chamber port (O41).
-/

set_option Elab.async false

namespace Sys2Proof.Machine

open Claims (Runs)

/-! ### What a message must pass (R130) -/

/-- The messages that go over a link that is up, under its CMAC: all but those of the handshake. -/
def carriesMac : ChamberMsg → Bool
  | .hello _ _ _ => false
  | .proof _ => false
  | _ => true

/-- The sequence of the last message taken on a link. -/
def noteSeq (s : State) (p seq : Nat) : State := updLink s p fun l => { l with rxSeq := seq }

@[simp] theorem link_noteSeq (s : State) (p seq : Nat) : link (noteSeq s p seq) p = { link s p with rxSeq := seq } := by
  simp [noteSeq]

section
variable {v : State} {p : Nat} {msg : ChamberMsg} {seq : Nat} (hp : isChamber v p = true)
include hp

/-- A message on a link that is up is judged by its CMAC and its sequence. -/
theorem receiveMessage_of_linkUp {mac : Bytes} (hm : carriesMac msg = true) (hu : linkUp v p = true) :
    receiveMessage v p msg seq mac =
      if authentic v p msg seq mac then messageEffect (noteSeq v p seq) p msg else discardMessage v := by
  cases msg
  case hello | proof => exact absurd hm Bool.false_ne_true
  all_goals
    simp only [receiveMessage, hp, hu, Bool.not_true, Bool.false_eq_true, if_false]
    cases authentic v p _ seq mac <;> rfl

theorem receiveMessage_taken (hm : carriesMac msg = true) (hu : linkUp v p = true) (hq : (link v p).rxSeq < seq) :
    receiveMessage v p msg seq (messageMac (link v p).key msg seq) = messageEffect (noteSeq v p seq) p msg := by
  rw [receiveMessage_of_linkUp hp hm hu, if_pos (by simp [authentic, hq])]

theorem receiveMessage_discarded {mac : Bytes} (hm : carriesMac msg = true) (hu : linkUp v p = true)
    (hx : seq ≤ (link v p).rxSeq ∨ mac ≠ messageMac (link v p).key msg seq) : receiveMessage v p msg seq mac = discardMessage v := by
  have ha : authentic v p msg seq mac = false := by
    rcases hx with h | h
    · simp [authentic, Nat.not_lt.mpr h]
    · simp [authentic, h]
  rw [receiveMessage_of_linkUp hp hm hu, ha]
  rfl

theorem receiveMessage_hello {serial nonce mac : Bytes} {peer : Nat} :
    receiveMessage v p (.hello serial peer nonce) seq mac = helloArrives v p serial peer nonce := by
  simp only [receiveMessage, hp]
  rfl

theorem receiveMessage_proof {m mac : Bytes} : receiveMessage v p (.proof m) seq mac = proofArrives v p m := by
  simp only [receiveMessage, hp]
  rfl

end

/-! ### The handshake (R128, R130) -/

/-- A hello's numbers and nonce stand on the link that it came over. -/
def noteHello (s : State) (p : Nat) (serial : Bytes) (peer : Nat) (nonce : Bytes) : State :=
  updLink s p fun l => { l with peer := peer, peerNonce := nonce, peerSerial := serial }

/-- The link key is derived. -/
def setLinkKey (s : State) (p : Nat) (key : Bytes) : State := updLink s p fun l => { l with key := key }

@[simp] theorem link_noteHello (s : State) (p : Nat) (serial : Bytes) (peer : Nat) (nonce : Bytes) :
    link (noteHello s p serial peer nonce) p = { link s p with peer := peer, peerNonce := nonce, peerSerial := serial } := by
  simp [noteHello]

@[simp] theorem link_setLinkKey (s : State) (p : Nat) (key : Bytes) : link (setLinkKey s p key) p = { link s p with key := key } := by
  simp [setLinkKey]

/-- The nonces, serial numbers and CHAMBER_IDs make a link's context, and its key is no part of it. -/
theorem linkContext_key (s : State) (l : Link) (key : Bytes) : linkContext s { l with key := key } = linkContext s l := rfl

/-- A hello in the middle of a handshake brings the link key, and the proof goes out. -/
theorem helloArrives_answered {s : State} {p peer : Nat} {serial nonce k : Bytes} (hb : linkBar s p = none) (hl : (link s p).state = 1)
    (hn : peer ≠ s.id.chamberId) (hk : chamberKey s (chamberSlot s) = some k) :
    ∃ w ctx, ctx = linkContext s (link w p) ∧ (link w p).peer = peer ∧ (link w p).peerNonce = nonce ∧
      (link w p).peerSerial = serial ∧ (link w p).key = kdf 4 k [] ctx 32 ∧
      helloArrives s p serial peer nonce = sendPlain w p (.proof (proofMac (link w p).key s.id.serial ctx)) := by
  have hk' (f : Link → Link) : chamberKey (updLink s p f) (chamberSlot (updLink s p f)) = some k := hk
  refine ⟨setLinkKey (noteHello s p serial peer nonce) p (kdf 4 k [] (linkContext s (link (noteHello s p serial peer nonce) p)) 32),
    linkContext s (link (noteHello s p serial peer nonce) p), ?_⟩
  rw [link_setLinkKey, linkContext_key]
  refine ⟨rfl, by simp, by simp, by simp, rfl, ?_⟩
  simp only [helloArrives, hb, linkUp_of_state_one hl, hn, hl, hk', if_true, if_false]
  rfl

theorem helloArrives_own {s : State} {p peer : Nat} {serial nonce : Bytes} (hb : linkBar s p = none) (hu : linkUp s p = false)
    (hn : peer = s.id.chamberId) :
    helloArrives s p serial peer nonce = setEvent (updLink s p fun _ => { peer := peer, state := 0, reason := 4 }) 2 := by
  simp [helloArrives, hb, hu, hn]

theorem link_proofArrives {s : State} {p : Nat} (m : Bytes) (hl : (link s p).state = 1) (hk : (link s p).key ≠ []) :
    if m = proofMac (link s p).key (link s p).peerSerial (linkContext s (link s p)) then
      (link (proofArrives s p m) p).state = 2 ∧ (link (proofArrives s p m) p).rxSeq = 0 ∧ (link (proofArrives s p m) p).txSeq = 0
    else (link (proofArrives s p m) p).state = 0 ∧ (link (proofArrives s p m) p).reason = 3 ∧
      (link (proofArrives s p m) p).key = [] := by
  split
  next hm => simp [proofArrives, hl, hk, hm]
  next hm => simp [proofArrives, hl, hk, hm]

/-! ### Heartbeats (R131, R132) -/

theorem link_messageEffect_heartbeat (s : State) (p : Nat) (b : Bytes) :
    link (messageEffect s p (.heartbeat b)) p = { link s p with missed := 0, askedAt := none, heardAt := s.now } :=
  link_updLink_same s p fun l => { l with missed := 0, askedAt := none, heardAt := s.now }

/-- The advertisement that a heartbeat carries stands for the link's member. -/
theorem look_messageEffect_heartbeat (s : State) (p : Nat) (b : Bytes) :
    (messageEffect s p (.heartbeat b)).cham.adverts.look (link s p).peer = some (readAdvert b s.now) := by
  simp [messageEffect]

/-! ### Pair answers (R124) -/

/-- An answer in time for a wire that waits for it sets PAIR_OK as the conditions of R124 say. -/
theorem wire_pairAnswerArrives {s : State} {p n w : Nat} {a : Time} (m q : Word) (hw : w < 72) (hp : (wire s w).active.paired = true)
    (hn : (wire s w).active.partnerWire = n) (hm : (wire s w).active.partnerMember = (link s p).peer)
    (ha : (wire s w).pairAskedAt = some a) (ht : s.now ≤ a + 100 * usT) :
    wire (pairAnswerArrives s p n m q) w = wire (pairAnswered s w false m q) w :=
  wire_foldl_pairAnswered_same (List.nodup_range.filter _) (by simp [hw, hp, hn, hm, ha, ht]) s m q

/-! ### Lent jobs (R136, R137) -/

theorem lentArrives_closed {s : State} {p job ref alg : Nat} {budget : Time} {fp digest sig : Bytes} (h : acceptEn s = false) :
    lentArrives s p job ref alg budget fp digest sig = sendMessage s p (.jobAnswer job none) := by
  simp [lentArrives, h, answerLent]

/-- The job that a lender binds under its own copy of the key. -/
def lentBound (s : State) (p job alg : Nat) (budget : Time) (key digest sig : Bytes) (n : Nat) (start finish : Time) : BoundJob :=
  { frame := job, part := 0, core := n, start := start, finish := finish, lentFrom := some p, deadline := s.now + budget, alg := alg,
    key := key, digest := digest, sig := sig }

/-- One more job is lent to this device. -/
def countLentIn (s : State) : State := { s with cham := { s.cham with lentIn := sat64 s.cham.lentIn } }

theorem lentArrives_bound {s : State} {p job ref alg n : Nat} {budget start finish : Time} {fp digest sig x : Bytes}
    (he : acceptEn s = true) (hl : poolQueued s < acceptLimit s) (ha : isSigAlg alg = true) (hk : lentKey s ref alg fp = some x)
    (hb : tryBind s none (s.now + 340 * nsT) (s.now + budget + decisionTime) (coreTime alg) = .ok (n, start, finish)) :
    lentArrives s p job ref alg budget fp digest sig =
      enterBound (countLentIn s) (lentBound s p job alg budget x digest sig n start finish) := by
  simp only [lentArrives, he, ha, hk, hb, Nat.not_le.mpr hl]
  rfl

theorem core_enterBound (s : State) (b : BoundJob) : (core (enterBound s b) b.core).busyUntil = b.finish := by
  simp [enterBound, core, updCore]

theorem enterBound_bound (s : State) (b : BoundJob) : (enterBound s b).psg.bound = s.psg.bound ++ [b] := rfl

/-- A lent part is no longer out, and its end is counted: with the lender's status, or DECLINED. -/
def closeLent (s : State) (p frame i : Nat) (final : Bool) : State :=
  { s with cham := { s.cham with
    out := s.cham.out.filter fun j => !(j.frame == frame && j.part == i && j.port == p)
    lentOut := if final then sat64 s.cham.lentOut else s.cham.lentOut
    declined := if final then s.cham.declined else sat64 s.cham.declined } }

section
variable {s : State} {p job : Nat} (ho : (s.cham.out.any fun j => j.frame == job / 2 && j.part == job % 2 && j.port == p) = true)
include ho

theorem lentAnswerArrives_declined :
    lentAnswerArrives s p job none = bindAgain (closeLent s p (job / 2) (job % 2) false) (job / 2) (job % 2) := by
  simp only [lentAnswerArrives, ho]
  rfl

theorem lentAnswerArrives_final {st : Status} (hs : st = .ok ∨ st = .invalidSignature ∨ st = .invalidKey) :
    lentAnswerArrives s p job (some st) = answeredPart (closeLent s p (job / 2) (job % 2) true) (job / 2) (job % 2) st := by
  rcases hs with rfl | rfl | rfl <;> (simp only [lentAnswerArrives, ho]; rfl)

end

theorem answeredPart_in_time {s : State} {frame i q : Nat} {st : Status} {h : Held} (hq : portOfFrame s frame = some q)
    (hh : findHeld s q frame = some h) (hd : s.now < h.deadline) : answeredPart s frame i st = partDone s frame i st true := by
  simp [answeredPart, hq, hh, Nat.not_le.mpr hd]

/-! ### The four rows -/

section
variable {p : Fin 144} {seq : Nat} {mac : Bytes} {t : Time} {s : State} (hc : stopped s 0 = false)
include hc

theorem exec_chamberMessageReceive (msg : ChamberMsg) : exec (.chamberMessageReceive p msg seq mac t) s =
    .next (receiveMessage (refreshLinks (advance s t)) p msg seq mac) := by
  simp only [exec, execChamberMessageReceive, stopped_advance, hc]
  rfl

theorem exec_pairCheckAnswer (n : Nat) (m q : Word) : exec (.pairCheckAnswer p (.pairAnswer n m q) seq mac t) s =
    .next (receiveMessage (refreshLinks (advance s t)) p (.pairAnswer n m q) seq mac) := by
  simp only [exec, execPairCheckAnswer, stopped_advance, hc]
  rfl

theorem exec_lentJobArrival (j k a b : Nat) (f d g : Bytes) : exec (.lentJobArrival p (.job j k a b f d g) seq mac t) s =
    .next (receiveMessage (refreshLinks (advance s t)) p (.job j k a b f d g) seq mac) := by
  simp only [exec, execLentJobArrival, stopped_advance, hc]
  rfl

theorem exec_lentResultArrival (j : Nat) (st : Option Status) : exec (.lentResultArrival p (.jobAnswer j st) seq mac t) s =
    .next (receiveMessage (refreshLinks (advance s t)) p (.jobAnswer j st) seq mac) := by
  simp only [exec, execLentResultArrival, stopped_advance, hc]
  rfl

end

section
variable {p : Fin 144} {seq : Nat} {t : Time} {s v : State} (hc : stopped s 0 = false) (hv : refreshLinks (advance s t) = v)
  (hp : isChamber v p = true)
include hc hv hp

theorem runs_hello {serial nonce mac k : Bytes} {peer : Nat} (hb : linkBar v p = none) (hl : (link v p).state = 1)
    (hn : peer ≠ v.id.chamberId) (hk : chamberKey v (chamberSlot v) = some k) :
    Runs (.chamberMessageReceive p (.hello serial peer nonce) seq mac t) s fun u => ∃ w ctx, ctx = linkContext v (link w p) ∧
      (link w p).peer = peer ∧ (link w p).peerNonce = nonce ∧ (link w p).peerSerial = serial ∧ (link w p).key = kdf 4 k [] ctx 32 ∧
      u = sendPlain w p (.proof (proofMac (link w p).key v.id.serial ctx)) := by
  refine runs_of_next (exec_chamberMessageReceive hc _) ?_
  rw [hv, receiveMessage_hello hp]
  exact helloArrives_answered hb hl hn hk

theorem runs_hello_own {serial nonce mac : Bytes} {peer : Nat} (hb : linkBar v p = none) (hu : linkUp v p = false)
    (hn : peer = v.id.chamberId) :
    Runs (.chamberMessageReceive p (.hello serial peer nonce) seq mac t) s fun u => (link u p).state = 0 ∧ (link u p).reason = 4 ∧
      bit u.cham.event 2 = true := by
  refine runs_of_next (exec_chamberMessageReceive hc _) ?_
  rw [hv, receiveMessage_hello hp, helloArrives_own hb hu hn]
  exact ⟨by simp, by simp, bit_setEvent _ (by decide)⟩

theorem runs_proof {m mac : Bytes} (hl : (link v p).state = 1) (hk : (link v p).key ≠ []) :
    Runs (.chamberMessageReceive p (.proof m) seq mac t) s fun u =>
      if m = proofMac (link v p).key (link v p).peerSerial (linkContext v (link v p)) then
        (link u p).state = 2 ∧ (link u p).rxSeq = 0 ∧ (link u p).txSeq = 0
      else (link u p).state = 0 ∧ (link u p).reason = 3 ∧ (link u p).key = [] := by
  refine runs_of_next (exec_chamberMessageReceive hc _) ?_
  rw [hv, receiveMessage_proof hp]
  exact link_proofArrives m hl hk

variable (hu : linkUp v p = true)
include hu

theorem runs_heartbeat_discarded {b mac : Bytes} (hx : seq ≤ (link v p).rxSeq ∨ mac ≠ messageMac (link v p).key (.heartbeat b) seq) :
    Runs (.chamberMessageReceive p (.heartbeat b) seq mac t) s fun u => u = discardMessage v ∧
      u.cham.authFail = sat64 v.cham.authFail ∧ u.cham.links = v.cham.links := by
  refine runs_of_next (exec_chamberMessageReceive hc _) ?_
  rw [hv, receiveMessage_discarded hp rfl hu hx]
  exact ⟨rfl, rfl, rfl⟩

variable (hq : (link v p).rxSeq < seq)
include hq

/-- A message that passes is taken: the row does what the message says once its sequence stands. -/
theorem runs_taken {msg : ChamberMsg} {P : State → Prop} (hm : carriesMac msg = true) (hP : P (messageEffect (noteSeq v p seq) p msg)) :
    Runs (.chamberMessageReceive p msg seq (messageMac (link v p).key msg seq) t) s P := by
  refine runs_of_next (exec_chamberMessageReceive hc _) ?_
  rwa [hv, receiveMessage_taken hp hm hu hq]

theorem runs_heartbeat (b : Bytes) :
    Runs (.chamberMessageReceive p (.heartbeat b) seq (messageMac (link v p).key (.heartbeat b) seq) t) s fun u =>
      (link u p).rxSeq = seq ∧ (link u p).missed = 0 ∧ (link u p).askedAt = none ∧ (link u p).heardAt = v.now ∧
        u.cham.adverts.look (link v p).peer = some (readAdvert b v.now) := by
  refine runs_taken hc hv hp hu hq rfl ?_
  have hpeer : (link (noteSeq v p seq) p).peer = (link v p).peer := by rw [link_noteSeq]
  rw [← hpeer, look_messageEffect_heartbeat, link_messageEffect_heartbeat, link_noteSeq]
  exact ⟨rfl, rfl, rfl, rfl, rfl⟩

theorem runs_heartbeatRequest :
    Runs (.chamberMessageReceive p .heartbeatRequest seq (messageMac (link v p).key .heartbeatRequest seq) t) s fun u =>
      ∃ w, w.psg = v.psg ∧ (link w p).rxSeq = seq ∧ u = sendMessage w p (.heartbeat (advertBytes w)) :=
  runs_taken hc hv hp hu hq rfl ⟨noteSeq v p seq, rfl, by simp, rfl⟩

theorem runs_pairQuery (n : Nat) :
    Runs (.chamberMessageReceive p (.pairQuery n) seq (messageMac (link v p).key (.pairQuery n) seq) t) s fun u =>
      ∃ w, (link w p).rxSeq = seq ∧ u = sendMessage w p (.pairAnswer n (wire v n).active.mode (wire v n).active.pair) :=
  runs_taken hc hv hp hu hq rfl ⟨noteSeq v p seq, by simp, rfl⟩

theorem runs_pairAnswer {n : Nat} {w : Fin 72} {a : Time} (m q : Word) (hpair : (wire v w).active.paired = true)
    (hn : (wire v w).active.partnerWire = n) (hm : (wire v w).active.partnerMember = (link v p).peer)
    (ha : (wire v w).pairAskedAt = some a) (ht : v.now ≤ a + 100 * usT) :
    Runs (.pairCheckAnswer p (.pairAnswer n m q) seq (messageMac (link v p).key (.pairAnswer n m q) seq) t) s fun u =>
      (wire u w).pairOk = pairSound v w m q ∧ (wire u w).pairAskedAt = none ∧ (wire u w).unreachable = false ∧
        (wire u w).partnerMode = field m 1 0 := by
  refine runs_of_next (exec_pairCheckAnswer hc _ _ _) ?_
  rw [hv, receiveMessage_taken hp rfl hu hq, messageEffect,
    wire_pairAnswerArrives (s := noteSeq v p seq) m q w.isLt hpair hn (by rw [link_noteSeq]; exact hm) ha ht, wire_pairAnswered_same]
  exact ⟨rfl, rfl, rfl, rfl⟩

theorem runs_lentJob_declined (j k a b : Nat) (f d g : Bytes) (he : acceptEn v = false) :
    Runs (.lentJobArrival p (.job j k a b f d g) seq (messageMac (link v p).key (.job j k a b f d g) seq) t) s fun u =>
      ∃ w, (link w p).rxSeq = seq ∧ u = sendMessage w p (.jobAnswer j none) ∧ u.psg.bound = v.psg.bound := by
  refine runs_of_next (exec_lentJobArrival hc _ _ _ _ _ _ _) ⟨noteSeq v p seq, by simp, ?_⟩
  rw [hv, receiveMessage_taken hp rfl hu hq, messageEffect, lentArrives_closed (s := noteSeq v p seq) he]
  exact ⟨rfl, by simp [noteSeq]⟩

theorem runs_lentJob_bound {j k a n : Nat} {b start finish : Time} {f d g x : Bytes} (he : acceptEn v = true)
    (hl : poolQueued v < acceptLimit v) (ha : isSigAlg a = true) (hk : lentKey v k a f = some x)
    (hb : tryBind v none (v.now + 340 * nsT) (v.now + b + decisionTime) (coreTime a) = .ok (n, start, finish)) :
    Runs (.lentJobArrival p (.job j k a b f d g) seq (messageMac (link v p).key (.job j k a b f d g) seq) t) s fun u =>
      u.cham.lentIn = sat64 v.cham.lentIn ∧ (core u n).busyUntil = finish ∧ ∃ y : BoundJob, u.psg.bound = v.psg.bound ++ [y] ∧
        y.frame = j ∧ y.core = n ∧ y.start = start ∧ y.finish = finish ∧ y.lentFrom = some p.val ∧ y.deadline = v.now + b ∧
        y.key = x ∧ y.digest = d ∧ y.sig = g := by
  refine runs_of_next (exec_lentJobArrival hc _ _ _ _ _ _ _) ?_
  rw [hv, receiveMessage_taken hp rfl hu hq, messageEffect, lentArrives_bound (s := noteSeq v p seq) he hl ha hk hb]
  exact ⟨rfl, core_enterBound _ (lentBound _ p j a b x d g n start finish),
    lentBound (noteSeq v p seq) p j a b x d g n start finish, rfl, rfl, rfl, rfl, rfl, rfl, rfl, rfl, rfl, rfl⟩

section
variable {j : Nat} (ho : (v.cham.out.any fun x => x.frame == j / 2 && x.part == j % 2 && x.port == p.val) = true)
include ho

theorem runs_lentResult_final {st : Status} {q : Nat} {h : Held} (hf : portOfFrame v (j / 2) = some q)
    (hh : findHeld v q (j / 2) = some h) (hd : v.now < h.deadline) (hs : st = .ok ∨ st = .invalidSignature ∨ st = .invalidKey) :
    Runs (.lentResultArrival p (.jobAnswer j (some st)) seq (messageMac (link v p).key (.jobAnswer j (some st)) seq) t) s fun u =>
      ∃ w, u = partDone w (j / 2) (j % 2) st true ∧ w.psg = v.psg ∧ w.cham.lentOut = sat64 v.cham.lentOut ∧
        w.cham.out = v.cham.out.filter fun x => !(x.frame == j / 2 && x.part == j % 2 && x.port == p.val) := by
  refine runs_of_next (exec_lentResultArrival hc _ _) ⟨closeLent (noteSeq v p seq) p (j / 2) (j % 2) true, ?_, rfl, rfl, rfl⟩
  rw [hv, receiveMessage_taken hp rfl hu hq, messageEffect, lentAnswerArrives_final (s := noteSeq v p seq) ho hs,
    answeredPart_in_time (s := closeLent (noteSeq v p seq) p (j / 2) (j % 2) true) hf hh hd]

theorem runs_lentResult_declined :
    Runs (.lentResultArrival p (.jobAnswer j none) seq (messageMac (link v p).key (.jobAnswer j none) seq) t) s fun u =>
      ∃ w, u = bindAgain w (j / 2) (j % 2) ∧ w.psg = v.psg ∧ w.cham.declined = sat64 v.cham.declined ∧
        w.cham.out = v.cham.out.filter fun x => !(x.frame == j / 2 && x.part == j % 2 && x.port == p.val) := by
  refine runs_of_next (exec_lentResultArrival hc _ _) ⟨closeLent (noteSeq v p seq) p (j / 2) (j % 2) false, ?_, rfl, rfl, rfl⟩
  rw [hv, receiveMessage_taken hp rfl hu hq, messageEffect, lentAnswerArrives_declined (s := noteSeq v p seq) ho]

end

end

/-- Settles O41: each message by what `receiveMessage` makes of it. The empty label and the proof's CMAC (log entry 29), the 32 bytes of the
link key (entry 117) and the budget that leaves out the borrower's decision (entry 116) are the model's choices. -/
theorem chamberMessagesAreChecked : Obligations.ChamberMessagesAreChecked :=
  ⟨fun _ b _ _ _ _ hc hv hp hu hq => runs_heartbeat hc hv hp hu hq b,
    fun _ _ _ _ _ _ _ hc hv hp hu hx => runs_heartbeat_discarded hc hv hp hu hx,
    fun _ _ _ _ _ hc hv hp hu hq => runs_heartbeatRequest hc hv hp hu hq,
    fun _ n _ _ _ _ hc hv hp hu hq => runs_pairQuery hc hv hp hu hq n,
    fun _ _ _ _ _ _ _ _ _ _ hc hv hp hb hl hn hk => runs_hello hc hv hp hb hl hn hk,
    fun _ _ _ _ _ _ _ _ _ hc hv hp hb hu hn => runs_hello_own hc hv hp hb hu hn,
    fun _ _ _ _ _ _ _ hc hv hp hl hk => runs_proof hc hv hp hl hk,
    fun _ _ m q _ _ _ _ hc hv hp hu hs _ _ hw hn hm ha ht => runs_pairAnswer hc hv hp hu hs m q hw hn hm ha ht,
    fun _ j k a b f d g _ _ _ _ hc hv hp hu hq he => runs_lentJob_declined hc hv hp hu hq j k a b f d g he,
    fun _ _ _ _ _ _ _ _ _ _ _ _ hc hv hp hu hq _ _ _ _ he hl ha hk hb => runs_lentJob_bound hc hv hp hu hq he hl ha hk hb,
    fun _ _ _ _ _ _ _ hc hv hp hu hq _ _ ho hf hh hd hs => runs_lentResult_final hc hv hp hu hq ho hf hh hd hs,
    fun _ _ _ _ _ _ hc hv hp hu hq ho => runs_lentResult_declined hc hv hp hu hq ho⟩

end Sys2Proof.Machine
end

section
/-!
Chamber links over time, pair checks, and the chamber's commands (O42).
-/

set_option Elab.async false

namespace Sys2Proof.Machine

open Claims (Runs UnderQuorum AnsweredOk admitted)

/-! ### Heartbeats and board signals (R131, R133) -/

theorem runs_heartbeatSend {t : Time} {s v : State} (hc : stopped s 0 = false) (hv : refreshLinks (advance s t) = v) :
    Runs (.heartbeatSend t) s fun u => u = (upLinks v).foldl (fun s p => sendMessage s p (.heartbeat (advertBytes s))) v := by
  subst hv
  exact runs_of_next (by simp only [exec, execHeartbeatSend, stopped_refreshLinks, stopped_advance, hc]; rfl) rfl

theorem runs_linkRetry {t : Time} {s v : State} (hc : stopped s 0 = false) (hv : refreshLinks (advance s t) = v) :
    Runs (.linkRetry t) s fun u =>
      u = ((chamberPorts v).filter fun p => !linkUp v p && (link v p).reason != 4).foldl startHandshake v := by
  subst hv
  exact runs_of_next (by simp only [exec, execLinkRetry, stopped_refreshLinks, stopped_advance, hc]; rfl) rfl

section
variable {p : Fin 144} {t : Time} {s : State} (hc : stopped s 0 = false) (hu : linkUp s p = true)
include hc hu

/-- A heartbeat that has failed to arrive counts, and the third in a row takes the link DOWN. -/
theorem exec_heartbeatMiss_due (ht : (link s p).heardAt + ((link s p).missed + 1) * 10 * usT ≤ (advance s t).now) :
    exec (.heartbeatMiss p t) s = .next (if 3 ≤ (link s p).missed + 1 then linkDown (advance s t) p 5
      else updLink (advance s t) p fun l => { l with missed := l.missed + 1 }) := by
  simp only [exec, execHeartbeatMiss, link_advance, linkUp_advance, stopped_advance, hc, hu, Nat.not_lt.mpr ht, Bool.not_true,
    Bool.or_self, decide_false, Bool.false_eq_true, if_false]
  split <;> rfl

theorem runs_heartbeatMiss_counted (ht : (link s p).heardAt + ((link s p).missed + 1) * 10 * usT ≤ (advance s t).now)
    (hm : (link s p).missed < 2) :
    Runs (.heartbeatMiss p t) s fun u => (link u p).missed = (link s p).missed + 1 ∧ (link u p).state = 2 := by
  refine runs_of_next (exec_heartbeatMiss_due hc hu ht) ?_
  rw [if_neg (by omega), link_updLink_same, link_advance]
  exact ⟨rfl, (linkUp_iff s p).mp hu⟩

theorem runs_heartbeatMiss_third (ht : (link s p).heardAt + ((link s p).missed + 1) * 10 * usT ≤ (advance s t).now)
    (hm : 2 ≤ (link s p).missed) : Runs (.heartbeatMiss p t) s fun u => u = linkDown (advance s t) p 5 :=
  runs_of_next (exec_heartbeatMiss_due hc hu ht) (if_pos (by omega))

theorem runs_heartbeatRequestTimeout {a : Time} (ha : (link s p).askedAt = some a) (ht : a + 5 * usT ≤ (advance s t).now) :
    Runs (.heartbeatRequestTimeout p t) s fun u => u = linkDown (advance s t) p 5 :=
  runs_of_next
    (by simp only [exec, execHeartbeatRequestTimeout, link_advance, linkUp_advance, stopped_advance, hc, hu, ha, Nat.not_lt.mpr ht]; rfl) rfl

end

theorem runs_chamberAlertEdge_driven {t : Time} {s : State} (hc : stopped s 0 = false) (ht : s.cham.alertLowUntil ≤ (advance s t).now) :
    Runs (.chamberAlertEdge t) s fun u => u = (upLinks (setEvent (advance s t) 0)).foldl (fun s p =>
      updLink (sendMessage s p .heartbeatRequest) p fun l => { l with askedAt := some s.now }) (setEvent (advance s t) 0) := by
  have hlow : ¬ (setEvent (advance s t) 0).now < (setEvent (advance s t) 0).cham.alertLowUntil := by simpa [setEvent] using ht
  exact runs_of_next (by simp only [exec, execChamberAlertEdge, stopped_setEvent, stopped_advance, hc, hlow]; rfl) rfl

theorem runs_chamberAlertEdge_own {t : Time} {s : State} (ht : (advance s t).now < s.cham.alertLowUntil) :
    Runs (.chamberAlertEdge t) s fun u => u = setEvent (advance s t) 0 := by
  have hlow : (setEvent (advance s t) 0).now < (setEvent (advance s t) 0).cham.alertLowUntil := by simpa [setEvent] using ht
  exact runs_of_next (by simp only [exec, execChamberAlertEdge, hlow]; rfl) rfl

theorem runs_chamberSyncChange (h : Bool) (t : Time) (s : State) :
    Runs (.chamberSyncChange h t) s fun u => u.cham.syncHigh = (h && s.cham.syncReleased) :=
  runs_of_next rfl (by simp)

/-! ### Pair checks (R124) -/

theorem runs_pairCheck {t : Time} {s : State} (hc : stopped s 0 = false) :
    Runs (.pairCheck t) s fun u => u = (List.range 72).foldl checkPair (advance s t) :=
  runs_of_next (by simp only [exec, execPairCheck, stopped_advance, hc]; rfl) rfl

section
variable {w : Fin 72} {t : Time} {s : State} {a : Time} (ha : (wire s w).pairAskedAt = some a)
include ha

theorem runs_pairCheckTimeout_late (hc : stopped s 0 = false) (ht : a + 100 * usT ≤ (advance s t).now) :
    Runs (.pairCheckTimeout w t) s fun u =>
      (wire u w).unreachable = true ∧ (wire u w).pairOk = false ∧ (wire u w).pairAskedAt = none := by
  refine runs_of_next (u := setPairOk (updWire (advance s t) w fun x => { x with unreachable := true }) w false) ?_ ?_
  · simp only [exec, execPairCheckTimeout, wire_advance, stopped_advance, ha, hc, Nat.not_lt.mpr ht]
    rfl
  · rw [wire_setPairOk_same, wire_updWire_same]
    exact ⟨rfl, rfl, rfl⟩

theorem runs_pairCheckTimeout_early (ht : (advance s t).now < a + 100 * usT) :
    Runs (.pairCheckTimeout w t) s fun u => u = advance s t :=
  runs_of_next (by simp [exec, execPairCheckTimeout, ha, ht]) rfl

end

/-! ### The chamber's commands (R138, R139) -/

theorem runs_karChamberSet {c : Cmd} {s : State} {v : Word} (ha : admitted s c 0x0B80 = true) (hw : c.regWrites = [(0, v)])
    (hk : (chamberKey s (field v 7 0)).isSome = true) :
    Runs (.karChamberSet c) s fun u => UnderQuorum s c (plainQuorum s c 0x0B80 [critical s 0]) u fun w reasons =>
      u = answerOk (writeRestore (writeChamberCfg w v)) c reasons [] := by
  have hk' : (chamberKey s (field v 7 0)).isNone = false := by simpa [Option.isNone_eq_false_iff] using hk
  refine runs_of_admitted rfl ha ?_
  simp only [hw, hk', Bool.false_eq_true, if_false]
  exact underQuorum_withQuorum fun w reasons hj => by rw [withCritical, withQuorum_met hj]

theorem runs_karChamberSet_noKey {c : Cmd} {s : State} {v : Word} (ha : admitted s c 0x0B80 = true) (hw : c.regWrites = [(0, v)])
    (hk : chamberKey s (field v 7 0) = none) : Runs (.karChamberSet c) s fun u => u = answerStatus s c.reply .invalidKey :=
  runs_of_admitted rfl ha (by simp [hw, hk])

theorem runs_karLendSet {c : Cmd} {s : State} {v : Word} (ha : admitted s c 0x0B81 = true) (hw : c.regWrites = [(0x10, v)])
    (hl : lendOk v = true) :
    Runs (.karLendSet c) s fun u => AnsweredOk u c [] ∧ u.cham.lend = storeMasked s.cham.lend v lendMask := by
  refine runs_of_admitted rfl ha ?_
  simp only [hw, hl, Bool.not_true, Bool.false_eq_true, if_false]
  exact ⟨answeredOk_answerOk .., by simp⟩

theorem runs_karChamberRead {c : Cmd} {s : State} (ha : admitted s c 0x0B82 = true) :
    Runs (.karChamberRead c) s fun u => ∃ items, u = answerOk s c [] items ∧
      (∀ e ∈ chamberRegs s, .reg (0x2200000 + e.1) e.2 ∈ items) ∧
      ∀ w < 72, .reg (wireStatusBase w + 0x118) (pairStatus s w) ∈ items :=
  runs_of_admitted rfl ha ⟨_, rfl, fun e he => List.mem_append_left _ (List.mem_map.mpr ⟨e, he, rfl⟩),
    fun w hw => List.mem_append_right _ (List.mem_map.mpr ⟨w, List.mem_range.mpr hw, rfl⟩)⟩

/-- Settles O42: the rows by their own equations at the moment that they are judged at, the commands by their rules once they are let through. -/
theorem chamberLinksAndPairs : Obligations.ChamberLinksAndPairs :=
  ⟨⟨fun _ _ _ hc hv => runs_heartbeatSend hc hv, fun _ _ _ hc hu ht hm => runs_heartbeatMiss_counted hc hu ht hm,
      fun _ _ _ hc hu ht hm => runs_heartbeatMiss_third hc hu ht hm, fun _ _ _ hc hv => runs_linkRetry hc hv,
      fun _ _ hc ht => runs_chamberAlertEdge_driven hc ht, fun _ _ ht => runs_chamberAlertEdge_own ht,
      fun _ _ _ _ hc ha hu ht => runs_heartbeatRequestTimeout hc hu ha ht, runs_chamberSyncChange⟩,
    ⟨fun _ _ hc => runs_pairCheck hc, fun _ _ _ _ hc ha ht => runs_pairCheckTimeout_late ha hc ht,
      fun _ _ _ _ ha ht => runs_pairCheckTimeout_early ha ht, fun _ _ _ ha hw hk => runs_karChamberSet ha hw hk,
      fun _ _ _ ha hw hk => runs_karChamberSet_noKey ha hw hk, fun _ _ _ ha hw hl => runs_karLendSet ha hw hl,
      fun _ _ ha => runs_karChamberRead ha⟩⟩

end Sys2Proof.Machine
end

section
/-!
What the statements of the public-key engine share (O14, O32, O33): a core after an update, and the checks of a command whose chapter gives
them no order.
-/

set_option Elab.async false

namespace Sys2Proof.Machine

/-! ### A core after an update -/

theorem core_of_pke_eq {s u : State} (h : u.pke = s.pke) (n : Nat) : core u n = core s n := by rw [core, core, h]

@[simp] theorem core_updCore_same (s : State) (n : Nat) (f : Core → Core) : core (updCore s n f) n = f (core s n) := by
  simp [core, updCore]

theorem core_updCore_other (s : State) {n k : Nat} (f : Core → Core) (h : k ≠ n) : core (updCore s n f) k = core s k := by
  simp [core, updCore, h]

/-- What an update of one core leaves of the engine: all but the list of its cores. -/
theorem updCore_pke (s : State) (n : Nat) (f : Core → Core) :
    (updCore s n f).pke = { s.pke with cores := s.pke.cores.put n (f (core s n)) } := rfl

@[simp] theorem core_advance (s : State) (t : Time) (n : Nat) : core (advance s t) n = core s n := core_of_pke_eq (by simp) n

theorem refreshPke_pke (s : State) : (refreshPke s).pke = s.pke := rfl

@[simp] theorem core_refreshPke (s : State) (n : Nat) : core (refreshPke s) n = core s n := core_of_pke_eq (by simp) n

@[simp] theorem core_answerOk (s : State) (c : Cmd) (reasons : List Nat) (items : List RItem) (n : Nat) :
    core (answerOk s c reasons items) n = core s n := core_of_pke_eq (by simp) n

/-! ### Checks in no given order (R8) -/

theorem foldl_isSome {α β : Type} {f : Option β → α → Option β} (hf : ∀ o a, (f o a).isSome = true) (l : List α) {o : Option β}
    (ho : o.isSome = true) : (l.foldl f o).isSome = true := by
  induction l generalizing o with
  | nil => exact ho
  | cons a l ih => exact ih (hf o a)

/-- A check that fails stops the command, whichever others fail with it. -/
theorem leastOf_ne_none_of_mem {l : List (Bool × Status)} {st : Status} (h : (true, st) ∈ l) : leastOf l ≠ none := by
  obtain ⟨a, t, ht⟩ : ∃ a t, (l.filter (·.1)).map (·.2) = a :: t := by
    refine List.exists_cons_of_ne_nil fun he => ?_
    have hmem : st ∈ (l.filter (·.1)).map (·.2) := List.mem_map.mpr ⟨_, List.mem_filter.mpr ⟨h, rfl⟩, rfl⟩
    simp [he] at hmem
  rw [leastOf, ht, List.foldl_cons, ← Option.isSome_iff_ne_none]
  refine foldl_isSome (fun o b => ?_) t rfl
  cases o with
  | none => rfl
  | some best => dsimp only; split <;> rfl

end Sys2Proof.Machine
end

section
/-!
Core pools, loaded curves and policies (O14, O33).
-/

set_option Elab.async false

namespace Sys2Proof.Machine

open Claims (Runs UnderQuorum AnsweredOk admitted)

/-! ### Staging and discarding the SHADOW map (R181, R182) -/

theorem runs_pkePoolStage {c : Cmd} {s : State} (ha : admitted s c 0x0330 = true) (ht : s.pke.target = none) :
    Runs (.pkePoolStage c) s fun u =>
      AnsweredOk u c [] ∧ u.pke.shadow = mapWords (c.bytes 0x17) ∧ u.pke.active = s.pke.active := by
  refine runs_of_admitted rfl ha ?_
  simp only [ht, Option.isSome_none, Bool.false_eq_true, if_false]
  exact ⟨answeredOk_answerOk .., by simp, by simp⟩

theorem runs_pkePoolStage_pending {c : Cmd} {s : State} {m : List Word} (ha : admitted s c 0x0330 = true)
    (ht : s.pke.target = some m) : Runs (.pkePoolStage c) s fun u => u = answerBusy s c.reply 0xFFFFFFFF :=
  runs_of_admitted rfl ha (by simp only [ht, Option.isSome_some, if_true])

theorem discardPool_eq {s : State} (ht : s.pke.target = none) :
    discardPool s = { s with pke := { s.pke with shadow := s.pke.active } } := by
  simp [discardPool, ht]

theorem runs_pkePoolDiscard {c : Cmd} {s : State} (ha : admitted s c 0x0332 = true) (ht : s.pke.target = none) :
    Runs (.pkePoolDiscard c) s fun u => AnsweredOk u c [] ∧ u.pke.shadow = s.pke.active := by
  refine runs_of_admitted rfl ha ?_
  simp only [ht, Option.isSome_none, Bool.false_eq_true, if_false]
  exact ⟨answeredOk_answerOk .., by simp [discardPool_eq ht]⟩

theorem runs_poolDiscard {m : Master} {s : State} (hm : m.isSecure = true) (ht : s.pke.target = none) :
    Runs (.poolDiscard m) s fun u => u.pke.shadow = s.pke.active ∧ u.pke.active = s.pke.active :=
  runs_of_next (u := discardPool s) (by simp [exec, execPoolDiscard, hm]) (by simp [discardPool_eq ht])

theorem runs_poolDiscard_refused {m : Master} {s : State} (hm : m.isSecure = false) :
    Runs (.poolDiscard m) s fun u => u = refuseAccess s m 0x100820 true :=
  runs_of_next (by simp [exec, execPoolDiscard, hm]) rfl

/-! ### A commit of the pools (R170, R171) -/

/-- A core whose pool the map `m` changes begins to move. -/
def startMove (m : List Word) (s : State) (n : Nat) : State :=
  if mapBit s.pke.active n ≠ mapBit m n then updCore s n fun c => { c with moving := true } else s

/-- The state that takes up a commit of the SHADOW map: it is the target, and the answer waits for the last move. -/
def takeUpPool (s : State) (reply : Option Reply) (reasons : List Nat) : State :=
  { s with pke := { s.pke with commitErr := 0, grant := false, target := some s.pke.shadow, waiter := reply, reasons := reasons } }

/-- A passed commit is the moves of the cores under the new target, then the completion where none had to move. -/
theorem requestPool_passed {s : State} {reply : Option Reply} {reasons : List Nat} (h : poolCheck s = none) :
    requestPool s reply reasons = settlePool (refreshPke ((List.range 96).foldl (startMove s.pke.shadow) (takeUpPool s reply reasons))) := by
  rw [requestPool, h]
  rfl

theorem requestPool_refused {s : State} {reasons : List Nat} {st : Status} (h : poolCheck s = some st) :
    requestPool s none reasons = { s with pke := { s.pke with commitErr := Status.code st, grant := false } } := by
  rw [requestPool, h]

/-- Of the engine, the moves change the list of its cores alone. -/
theorem exists_pke_foldl_startMove (m : List Word) (l : List Nat) (s : State) :
    ∃ cores, (l.foldl (startMove m) s).pke = { s.pke with cores := cores } := by
  induction l generalizing s with
  | nil => exact ⟨s.pke.cores, rfl⟩
  | cons k l ih =>
    obtain ⟨cores, he⟩ := ih (startMove m s k)
    refine ⟨cores, ?_⟩
    rw [List.foldl_cons, he]
    unfold startMove
    split <;> rfl

theorem moving_startMove_of_moving {m : List Word} {s : State} {n : Nat} (k : Nat) (h : (core s n).moving = true) :
    (core (startMove m s k) n).moving = true := by
  unfold startMove
  split
  · by_cases hk : n = k
    · subst hk; simp
    · rwa [core_updCore_other _ _ hk]
  · exact h

theorem moving_foldl_startMove_of_moving {m : List Word} {s : State} {n : Nat} (l : List Nat) (h : (core s n).moving = true) :
    (core (l.foldl (startMove m) s) n).moving = true := by
  induction l generalizing s with
  | nil => exact h
  | cons k l ih => exact ih (moving_startMove_of_moving k h)

theorem active_startMove (m : List Word) (s : State) (k : Nat) : (startMove m s k).pke.active = s.pke.active := by
  unfold startMove
  split <;> rfl

/-- Every core of the list whose pool changes is moving after the moves. -/
theorem moving_foldl_startMove {m : List Word} {s : State} {n : Nat} {l : List Nat} (hn : n ∈ l)
    (h : mapBit s.pke.active n ≠ mapBit m n) : (core (l.foldl (startMove m) s) n).moving = true := by
  induction l generalizing s with
  | nil => exact absurd hn List.not_mem_nil
  | cons k l ih =>
    rcases List.mem_cons.mp hn with rfl | hl
    · refine moving_foldl_startMove_of_moving l ?_
      rw [startMove, if_pos h]
      simp
    · exact ih hl (by rwa [active_startMove])

theorem exec_poolCommit_secure {m : Master} {s : State} (hm : m.isSecure = true) :
    exec (.poolCommit m) s = .next (requestPool s none []) := by
  simp [exec, execPoolCommit, hm]

theorem runs_poolCommit_refused {m : Master} {s : State} {st : Status} (hm : m.isSecure = true) (h : poolCheck s = some st) :
    Runs (.poolCommit m) s fun u => u.pke.commitErr = Status.code st ∧ u.pke.grant = false ∧ u.pke.active = s.pke.active ∧
      u.pke.target = s.pke.target := by
  refine runs_of_next (exec_poolCommit_secure hm) ?_
  rw [requestPool_refused h]
  exact ⟨rfl, rfl, rfl, rfl⟩

theorem runs_poolCommit_passed {m : Master} {s : State} (hm : m.isSecure = true) (h : poolCheck s = none) :
    Runs (.poolCommit m) s fun u => ∃ v, u = settlePool v ∧ v.pke.target = some s.pke.shadow ∧ v.pke.commitErr = 0 ∧
      v.pke.grant = false ∧ ∀ n < 96, mapBit s.pke.active n ≠ mapBit s.pke.shadow n → (core v n).moving = true := by
  refine runs_of_next (exec_poolCommit_secure hm) ?_
  rw [requestPool_passed h]
  obtain ⟨cores, he⟩ := exists_pke_foldl_startMove s.pke.shadow (List.range 96) (takeUpPool s none [])
  have hp : (refreshPke ((List.range 96).foldl (startMove s.pke.shadow) (takeUpPool s none []))).pke =
      { (takeUpPool s none []).pke with cores := cores } := (refreshPke_pke _).trans he
  refine ⟨_, rfl, by rw [hp]; rfl, by rw [hp]; rfl, by rw [hp]; rfl, fun n hn hb => ?_⟩
  rw [core_refreshPke]
  exact moving_foldl_startMove (List.mem_range.mpr hn) hb

/-- Where the earlier checks pass, a met quorum sets GRANT and the commit is asked for. -/
theorem runs_pkePoolCommit_granted {c : Cmd} {s : State} (ha : admitted s c 0x0331 = true)
    (hk : poolCheck { s with pke := { s.pke with grant := true } } = none) :
    Runs (.pkePoolCommit c) s fun u => ∀ v reasons, judgeQuorum s c (poolQuorum s c) = (v, reasons, none) →
      u = requestPool { v with pke := { v.pke with grant := true } } (some c.reply) reasons := by
  refine runs_of_admitted rfl ha fun v reasons hj => ?_
  simp only [hk, hj, Option.isSome_none, Bool.false_eq_true, if_false]

theorem runs_pkePoolCommit_refused {c : Cmd} {s : State} {st : Status} (ha : admitted s c 0x0331 = true)
    (hk : poolCheck { s with pke := { s.pke with grant := true } } = some st) :
    Runs (.pkePoolCommit c) s fun u => u = requestPool { s with pke := { s.pke with grant := false } } (some c.reply) [] :=
  runs_of_admitted rfl ha (by simp only [hk, Option.isSome_some, if_true])

/-! ### Loaded curves (R174, R177) -/

theorem runs_pkeCurveLoad {c : Cmd} {s : State} (ha : admitted s c 0x0310 = true) (hl : c.body.bytes.length = 448)
    (hf : curveFormed c.body.bytes = true) (hp : (domain s c.domain).policy = 1) (hr : (s.pke.curves.free 0 256).isSome = true) :
    Runs (.pkeCurveLoad c) s fun u => ∃ v : State, ∃ j : PkeJob, u = submit v c.caller (.pke j) ∧ v.eng.sources = s.eng.sources ∧
      j.curve = some c.body.bytes ∧ j.domain = c.domain ∧ j.reply = c.reply ∧ v.pke = s.pke := by
  have hr' : (s.pke.curves.free 0 256).isNone = false := by simpa [Option.isNone_eq_false_iff] using hr
  refine runs_of_admitted rfl ha ?_
  simp only [hl, hf, hp, hr', ne_eq, not_true_eq_false, decide_false, Bool.not_true, Bool.and_false]
  exact ⟨(newJob s).2, _, rfl, rfl, rfl, rfl, rfl, rfl⟩

theorem runs_pkeCurveLoad_length {c : Cmd} {s : State} (ha : admitted s c 0x0310 = true) (hl : c.body.bytes.length ≠ 448) :
    Runs (.pkeCurveLoad c) s fun u => ∃ st, u = answerStatus s c.reply st := by
  refine runs_of_admitted rfl ha ?_
  dsimp only
  split
  · exact ⟨_, rfl⟩
  · rename_i hk
    exact absurd hk (leastOf_ne_none_of_mem (st := .invalidLength) (by simp [hl]))

theorem runs_pkeCurveUnload {c : Cmd} {s : State} (ha : admitted s c 0x0311 = true)
    (hk : leastOf (curveGate s c (c.nat 0x1D) ++ [(curveUsed s c.domain (c.nat 0x1D), .busyLocked)]) = none) :
    Runs (.pkeCurveUnload c) s fun u => AnsweredOk u c [] ∧ u.pke.curves = s.pke.curves.del (c.nat 0x1D) := by
  refine runs_of_admitted rfl ha ?_
  simp only [hk]
  exact ⟨answeredOk_answerOk .., by simp⟩

theorem curveGate_own {s : State} {c : Cmd} {i : Nat} {x : Curve} (hx : curve s i = some x) (hd : x.domain = c.domain) :
    curveGate s c i = [(false, .notPermitted)] := by
  simp [curveGate, hx, hd]

theorem runs_pkeCurveUnload_named {c : Cmd} {s : State} {x : Curve} (ha : admitted s c 0x0311 = true)
    (hx : curve s (c.nat 0x1D) = some x) (hd : x.domain = c.domain) (hu : curveUsed s c.domain (c.nat 0x1D) = true) :
    Runs (.pkeCurveUnload c) s fun u => u = answerBusy s c.reply 0xFFFFFFFF := by
  have hk : leastOf (curveGate s c (c.nat 0x1D) ++ [(curveUsed s c.domain (c.nat 0x1D), .busyLocked)]) = some .busyLocked := by
    rw [curveGate_own hx hd, hu]
    rfl
  refine runs_of_admitted rfl ha ?_
  simp only [hk, answerRoom, if_true]

theorem runs_pkeCurveRead {c : Cmd} {s : State} {x : Curve} (ha : admitted s c 0x0312 = true)
    (hk : leastOf (curveGate s c (c.nat 0x1D)) = none) (hx : curve s (c.nat 0x1D) = some x) :
    Runs (.pkeCurveRead c) s fun u => u = answerOk s c [] [.blob x.record] :=
  runs_of_admitted rfl ha (by simp only [hk, hx])

/-! ### The policy for loaded curves (R173) -/

theorem runs_pkePolicySet {c : Cmd} {s : State} (ha : admitted s c 0x0320 = true) (hp : c.nat 0x1C ≤ 1) :
    Runs (.pkePolicySet c) s fun u => UnderQuorum s c (plainQuorum s c 0x0320 [critical s c.domain]) u fun v reasons =>
      u = editDomain v c c.domain [.policy (c.nat 0x1C)] reasons := by
  refine runs_of_admitted rfl ha ?_
  simp only [Nat.not_lt.mpr hp, if_false]
  exact underQuorum_withQuorum fun v reasons hj => by rw [withCritical, withQuorum_met hj]

theorem runs_pkePolicySet_unknown {c : Cmd} {s : State} (ha : admitted s c 0x0320 = true) (hp : 1 < c.nat 0x1C) :
    Runs (.pkePolicySet c) s fun u => u = answerStatus s c.reply .invalidParameter :=
  runs_of_admitted rfl ha (by simp only [hp, if_true])

/-- Settles O14: the one check that fails is the last, and its status answers the command. -/
theorem namedCurvesStayLoaded : Obligations.NamedCurvesStayLoaded := fun c s x ha hx hd hu => by
  obtain ⟨u, he, rfl⟩ := runs_pkeCurveUnload_named ha hx hd hu
  exact runs_of_next he ⟨⟨_, rfl⟩, by simp⟩

/-- Settles O33: each command by its own rules once it is let through, a passed commit by the moves that it starts. That PKE_POOL_STAGE
names no holder is the model's choice (log entry 25), and that the commit is judged as if GRANT were set (log entry 24). -/
theorem poolsCurvesAndPolicies : Obligations.PoolsCurvesAndPolicies :=
  ⟨⟨fun _ _ ha ht => runs_pkePoolStage ha ht, fun _ _ _ ha ht => runs_pkePoolStage_pending ha ht,
      fun _ _ ha hk => runs_pkePoolCommit_granted ha hk, fun _ _ _ ha hk => runs_pkePoolCommit_refused ha hk,
      fun _ _ ha ht => runs_pkePoolDiscard ha ht, fun _ _ _ hm h => runs_poolCommit_refused hm h,
      fun _ _ hm h => runs_poolCommit_passed hm h, fun _ _ hm ht => runs_poolDiscard hm ht, fun _ _ hm => runs_poolDiscard_refused hm⟩,
    ⟨fun _ _ ha hl hf hp hr => runs_pkeCurveLoad ha hl hf hp hr, fun _ _ ha hl => runs_pkeCurveLoad_length ha hl,
      fun _ _ ha hk => runs_pkeCurveUnload ha hk, fun _ _ _ ha hk hx => runs_pkeCurveRead ha hk hx,
      fun _ _ ha hp => runs_pkePolicySet ha hp, fun _ _ ha hp => runs_pkePolicySet_unknown ha hp,
      fun _ _ ha => runs_of_admitted rfl ha rfl⟩⟩

end Sys2Proof.Machine
end

section
/-!
The public-key cores and the jobs that wait for them (O32).
-/

set_option Elab.async false

namespace Sys2Proof.Machine

open Claims (Runs AnsweredOk admitted)

/-! ### Jobs submitted and aborted (R153, R166) -/

theorem runs_pkeJob {c : Cmd} {s : State} (ha : admitted s c 0x0301 = true)
    (hl : c.body.bytes.length = 64 + 16 * leAt c.body.bytes 0x20 1) :
    Runs (.pkeJob c) s fun u => ∃ v : State, ∃ j : PkeJob, u = submit v c.caller (.pke j) ∧ v.eng.sources = s.eng.sources ∧
      v.eng.nextJob = s.eng.nextJob + 1 ∧ j.id = s.eng.nextJob ∧ j.block = readJobBlock c.body.bytes ∧
      j.curve = none ∧ j.caller = c.caller ∧ j.reply = c.reply ∧ j.domain = c.domain := by
  refine runs_of_admitted rfl ha ?_
  simp only [ne_eq, hl, not_true_eq_false, if_false]
  exact ⟨(newJob s).2, _, rfl, rfl, rfl, rfl, rfl, rfl, rfl, rfl, rfl⟩

theorem pkeAtSource_eq_none {s : State} {n : Nat} (h : (source s n).jobs = []) (r : Reply) : pkeAtSource s n r = none := by
  simp [pkeAtSource, h]

/-- A job that waits in the dispatcher, past its source, ends at once. -/
theorem abortPke_waiting {s : State} {r : Reply} {j : PkeJob} (hs : (source s 0).jobs = [])
    (hj : s.pke.waiting.find? (·.reply == r) = some j) :
    abortPke s 0 r = some (endPkeUnstarted (unwait s j.id) j .aborted) := by
  simp only [abortPke, pkeAtSource_eq_none hs, hj]

theorem runs_pkeJobAbort_waiting {c : Cmd} {s : State} {r : Reply} {j : PkeJob} (ha : admitted s c 0x0302 = true)
    (hr : jobRef s c.caller (c.nat 0x11) = some r) (hs : (source s 0).jobs = []) (hj : s.pke.waiting.find? (·.reply == r) = some j) :
    Runs (.pkeJobAbort c) s fun u => AnsweredOk u c [] ∧ u.pke.waiting = s.pke.waiting.filter (·.id != j.id) := by
  refine runs_of_admitted rfl ha ?_
  simp only [hr, Option.bind_some, abortPke_waiting hs hj]
  exact ⟨answeredOk_answerOk .., by simp [unwait]⟩

theorem runs_pkeJobAbort_unknown {c : Cmd} {s : State} (ha : admitted s c 0x0302 = true)
    (hr : jobRef s c.caller (c.nat 0x11) = none) :
    Runs (.pkeJobAbort c) s fun u => u = answerStatus s c.reply .invalidParameter :=
  runs_of_admitted rfl ha (by simp only [hr, Option.bind_none])

/-! ### Staging (R145, R154, R172) -/

/-- A core whose staged job holds its key has nothing to stage again. -/
theorem restage_of_keyed {s : State} {n : Nat} (h : (core s n).staged.all (·.key.isSome) = true) : restage s n = s := by
  unfold restage
  dsimp only
  split
  · rfl
  · rename_i j hj
    rw [hj] at h
    rw [Option.all_some] at h
    simp [h]

theorem foldl_restage_of_keyed {s : State} (h : ∀ n, (core s n).staged.all (·.key.isSome) = true) (l : List Nat) :
    l.foldl restage s = s := by
  induction l with
  | nil => rfl
  | cons n l ih => rw [List.foldl_cons, restage_of_keyed (h n), ih]

theorem jobCurve_of_pke_eq {s u : State} (h : u.pke = s.pke) (b : JobBlock) : jobCurve u b = jobCurve s b := by
  simp only [jobCurve, curve, h]

/-- A job with its digests made, its key at hand and nothing to draw fills the staging buffer; its key counts as used. -/
theorem fillStaging_got {s : State} {n m : Nat} {j : PkeJob} {k : Bytes} (hd : digestsDone j = true) (hk : pkeKey s j = .got m k)
    (hz : drawSize j (jobCurve s j.block) = 0) :
    ∃ v, fillStaging s n j = (v, .full { j with key := some k }) ∧ v.pke = s.pke := by
  refine ⟨if j.block.keyHandle = 0 then s else touchSlot s m, ?_, by split <;> simp⟩
  have hc : jobCurve (if j.block.keyHandle = 0 then s else touchSlot s m) j.block = jobCurve s j.block :=
    jobCurve_of_pke_eq (by split <;> simp) _
  simp [fillStaging, hd, hk, hc, hz, stageDraw]

/-- The job at the head of the queue, once its staging buffer is filled, leaves the queue for its core. -/
theorem stageFrom_full {s v : State} {n : Nat} {j k : PkeJob} {rest : List PkeJob} (h : fillStaging s n j = (v, .full k)) :
    stageFrom n (j :: rest) s = updCore (unwait v j.id) n fun c => { c with staged := some k } := by
  simp only [stageFrom, h]

theorem core_unwait (s : State) (id n : Nat) : core (unwait s id) n = core s n := rfl

theorem runs_serviceJobStage {t : Time} {s : State} {n : Nat} {j : PkeJob} {rest : List PkeJob} {m : Nat} {k : Bytes}
    (hc : stopped s 2 = false) (hst : ∀ c, (core s c).staged.all (·.key.isSome) = true)
    (hn : (serviceCores (advance s t)).find? (fun n => (core s n).staged.isNone) = some n) (hw : s.pke.waiting = j :: rest)
    (hd : digestsDone j = true) (hk : pkeKey (advance s t) j = .got m k) (hz : drawSize j (jobCurve s j.block) = 0) :
    Runs (.serviceJobStage t) s fun u => u.pke.waiting = (j :: rest).filter (·.id != j.id) ∧
      (core u n).staged = some { j with key := some k } ∧ (core u n).state = (core s n).state := by
  have hpke : (advance s t).pke = s.pke := by simp
  obtain ⟨v, hf, hv⟩ := fillStaging_got (n := n) hd hk (by rwa [jobCurve_of_pke_eq hpke])
  refine runs_of_next (u := stageFrom n (j :: rest) (advance s t)) ?_ ?_
  · have hfold := foldl_restage_of_keyed (s := advance s t) (by simpa using hst)
    simp only [exec, execServiceJobStage, stopped_advance, hc, hfold, core_advance, hn, hpke, hw]
    rfl
  · rw [stageFrom_full hf]
    refine ⟨?_, by simp, ?_⟩
    · simp [updCore_pke, unwait, hv, hw]
    · rw [core_updCore_same, core_unwait, core_of_pke_eq (hv.trans hpke)]

/-! ### Starting (R93, R136, R145) -/

theorem core_unbind (s : State) (b : BoundJob) (n : Nat) : core (unbind s b) n = core s n := rfl

theorem core_beginCore (s : State) (n : Nat) (r : CoreRun) :
    core (beginCore s n r) n = { core s n with state := .busy, running := some r } := core_updCore_same ..

/-- A borrowed job runs under the key that was resolved at its arrival. -/
theorem startBound_borrowed {s : State} {n p : Nat} {b : BoundJob} (hb : b.lentFrom = some p) :
    ∃ r, startBound s n b = beginCore (unbind s b) n r ∧ r.user = .borrowed p b.frame ∧ r.startAt = s.now ∧
      r.cycles = verifyCycles b.alg ∧ r.key = b.key := by
  simp only [startBound, hb]
  exact ⟨_, rfl, rfl, rfl, rfl, rfl⟩

/-- A frame's own job runs under the key that its slot now holds. -/
theorem startBound_own {s : State} {n p : Nat} {b : BoundJob} {h : Held} {x : Part} {v : Bytes} (hb : b.lentFrom = none)
    (hp : portOfFrame s b.frame = some p) (hh : findHeld s p b.frame = some h) (hx : partAt h b.part = some x)
    (hv : fetchKey s h = some v) :
    ∃ r, startBound s n b = beginCore (unbind s b) n r ∧ r.user = .passage b.frame b.part ∧ r.startAt = s.now ∧
      r.cycles = verifyCycles x.alg ∧ r.digest = x.digest := by
  have hp' : portOfFrame (unbind s b) b.frame = some p := hp
  have hh' : findHeld (unbind s b) p b.frame = some h := hh
  have hv' : fetchKey (unbind s b) h = some v := hv
  simp only [startBound, hb, hp', hh', hx, hv']
  exact ⟨_, rfl, rfl, rfl, rfl, rfl⟩

theorem startStaged_eq (s : State) (n : Nat) (j : PkeJob) (k : Bytes) :
    ∃ r, startStaged s n j k = beginCore (updCore s n fun c => { c with staged := none }) n r ∧ r.user = .service j ∧
      r.startAt = s.now ∧ r.key = k := ⟨_, rfl, rfl, rfl, rfl⟩

theorem fetchKey_advance (s : State) (t : Time) (h : Held) : fetchKey (advance s t) h = fetchKey s h := by simp [fetchKey]

section
variable {n : Fin 96} {t : Time} {s : State} (hc : stopped s 2 = false) (hi : (core s n).state = .idle)
  (hr : (core s n).running = none)
include hc hi hr

theorem exec_coreJobStart_bound {b : BoundJob} (hsu : suspended s = false) (hb : s.psg.bound.find? (·.core == n.val) = some b)
    (ht : b.start ≤ (advance s t).now) : exec (.coreJobStart n t) s = .next (startBound (advance s t) n b) := by
  simp [exec, execCoreJobStart, hc, hi, hr, hsu, hb, Nat.not_lt.mpr ht]

theorem exec_coreJobStart_staged {j : PkeJob} {k : Bytes} (hb : s.psg.bound.find? (·.core == n.val) = none)
    (hj : (core s n).staged = some j) (hk : j.key = some k) :
    exec (.coreJobStart n t) s = .next (startStaged (advance s t) n j k) := by
  simp [exec, execCoreJobStart, hc, hi, hr, hb, hj, hk]

theorem runs_coreJobStart_borrowed {b : BoundJob} {p : Nat} (hsu : suspended s = false)
    (hb : s.psg.bound.find? (·.core == n.val) = some b) (ht : b.start ≤ (advance s t).now) (hl : b.lentFrom = some p) :
    Runs (.coreJobStart n t) s fun u => (core u n).state = .busy ∧ ∃ r, (core u n).running = some r ∧
      r.user = .borrowed p b.frame ∧ r.startAt = (advance s t).now ∧ r.cycles = verifyCycles b.alg ∧ r.key = b.key := by
  obtain ⟨r, he, hrun⟩ := startBound_borrowed (s := advance s t) (n := n) hl
  refine runs_of_next (exec_coreJobStart_bound hc hi hr hsu hb ht) ?_
  rw [he, core_beginCore]
  exact ⟨rfl, r, rfl, hrun⟩

theorem runs_coreJobStart_own {b : BoundJob} {p : Nat} {h : Held} {x : Part} {v : Bytes} (hsu : suspended s = false)
    (hb : s.psg.bound.find? (·.core == n.val) = some b) (ht : b.start ≤ (advance s t).now) (hl : b.lentFrom = none)
    (hp : portOfFrame s b.frame = some p) (hh : findHeld s p b.frame = some h) (hx : partAt h b.part = some x)
    (hv : fetchKey s h = some v) :
    Runs (.coreJobStart n t) s fun u => (core u n).state = .busy ∧ ∃ r, (core u n).running = some r ∧
      r.user = .passage b.frame b.part ∧ r.startAt = (advance s t).now ∧ r.cycles = verifyCycles x.alg ∧ r.digest = x.digest := by
  obtain ⟨r, he, hrun⟩ := startBound_own (s := advance s t) (n := n) hl (by rwa [portOfFrame_advance]) (by rwa [findHeld_advance]) hx
    (by rwa [fetchKey_advance])
  refine runs_of_next (exec_coreJobStart_bound hc hi hr hsu hb ht) ?_
  rw [he, core_beginCore]
  exact ⟨rfl, r, rfl, hrun⟩

theorem runs_coreJobStart_staged {j : PkeJob} {k : Bytes} (hb : s.psg.bound.find? (·.core == n.val) = none)
    (hj : (core s n).staged = some j) (hk : j.key = some k) :
    Runs (.coreJobStart n t) s fun u => (core u n).state = .busy ∧ (core u n).staged = none ∧ ∃ r, (core u n).running = some r ∧
      r.user = .service j ∧ r.startAt = (advance s t).now ∧ r.key = k := by
  obtain ⟨r, he, hrun⟩ := startStaged_eq (advance s t) n j k
  refine runs_of_next (exec_coreJobStart_staged hc hi hr hb hj hk) ?_
  rw [he, core_beginCore, core_updCore_same]
  exact ⟨rfl, rfl, r, rfl, hrun⟩

end

/-! ### Statuses, faults and the watchdog (R152, R155, R161 to R163) -/

/-- Row 0 of R161 names no operation: every invariant holds. -/
theorem rowFits_zero (r : CoreRun) : rowFits r 0 = false := by
  unfold rowFits
  split <;> simp

theorem exists_failPke_eq (s : State) (n : Nat) (r : CoreRun) (j : PkeJob) (st : Status) (cycles : Nat) :
    ∃ e, failPke s n r j st cycles = endJob s j.caller j.reply e ∧ e.status = st ∧ e.outs = zeroOuts j.block :=
  ⟨_, rfl, rfl, rfl⟩

/-- A job that stores no key ends with the status of its operation, and with zeroed outputs where that is not OK. -/
theorem exists_finishPke_eq (s : State) (n : Nat) (r : CoreRun) {j : PkeJob} (hd : hasDest j.block.op = false) :
    ∃ v, (v = s ∨ v = event s 1 3 0x0301) ∧ ∃ e, finishPke s n r j = endJob v j.caller j.reply e ∧
      e.status = resultStatus j (jobResult j r.record r.key) ∧ (e.status ≠ .ok → e.outs = zeroOuts j.block) := by
  unfold finishPke
  by_cases hok : resultStatus j (jobResult j r.record r.key) = .ok
  · simp only [hok, hd, ne_eq, not_true_eq_false, if_false, Bool.false_eq_true]
    exact ⟨s, .inl rfl, _, rfl, rfl, fun h => absurd rfl h⟩
  · simp only [ne_eq, hok, not_false_eq_true, if_true]
    obtain ⟨e, he, hst, hout⟩ := exists_failPke_eq
      (if resultStatus j (jobResult j r.record r.key) = .internal then event s 1 3 0x0301 else s) n r j
      (resultStatus j (jobResult j r.record r.key)) r.cycles
    refine ⟨_, ?_, e, he, hst, fun _ => hout⟩
    split
    · exact .inr rfl
    · exact .inl rfl

theorem core_countJob_same (s : State) (n k : Nat) : core (countJob s n k) n =
    { core s n with jobs := satAdd 64 (core s n).jobs 1, busy := satAdd 64 (core s n).busy k } := core_updCore_same ..

section
variable {n : Fin 96} {t : Time} {s : State} {r : CoreRun} (hr : (core s n).running = some r) (hs : r.stop = none)
include hr hs

theorem runs_coreStatusDelivered_other {i : Fin 12} (ht : (advance s t).now ≠ r.startAt + r.cycles * nclkT) :
    Runs (.coreStatusDelivered n i t) s fun u => u = advance s t :=
  runs_of_next (by simp [exec, execCoreStatusDelivered, hr, hs, ht]) rfl

variable (hc : stopped s 2 = false)
include hc

theorem exec_coreStatusDelivered_sound (ht : r.startAt + r.cycles * nclkT = (advance s t).now) :
    exec (.coreStatusDelivered n 0 t) s = .next (deliver (coreFree (advance s t) n r.cycles) n r) := by
  simp [exec, execCoreStatusDelivered, hr, hs, hc, ht, rowFits_zero]

theorem runs_coreStatusDelivered_service {j : PkeJob} (ht : r.startAt + r.cycles * nclkT = (advance s t).now)
    (hu : r.user = .service j) (hj : j.curve = none) (hd : hasDest j.block.op = false) :
    Runs (.coreStatusDelivered n 0 t) s fun u => ∃ v, (v = coreFree (advance s t) n r.cycles ∨
        v = event (coreFree (advance s t) n r.cycles) 1 3 0x0301) ∧
      ∃ e, u = endJob v j.caller j.reply e ∧ e.status = resultStatus j (jobResult j r.record r.key) ∧
        (e.status ≠ .ok → e.outs = zeroOuts j.block) := by
  refine runs_of_next (exec_coreStatusDelivered_sound hr hs hc ht) ?_
  simp only [deliver, hu, hj]
  exact exists_finishPke_eq _ n r hd

theorem runs_coreStatusDelivered_fault {i : Fin 12} {f p : Nat} (ht : r.startAt + r.cycles * nclkT = (advance s t).now)
    (hi : rowFits r i = true) (hu : r.user = .passage f p) :
    Runs (.coreStatusDelivered n i t) s fun u => ∃ v, u = rebindJobs (faultCore v n i) n (some r) ∧
      (core v n).jobs = satAdd 64 (core s n).jobs 1 := by
  refine runs_of_next (u := rebindJobs (faultCore (countJob (advance s t) n r.cycles) n i) n (some r)) ?_ ⟨_, rfl, ?_⟩
  · simp [exec, execCoreStatusDelivered, hr, hs, hc, ht, hi, hu]
  · rw [core_countJob_same, core_advance]

theorem runs_coreWatchdog {f p : Nat} (ht : r.startAt + (r.cycles + 64) * nclkT ≤ (advance s t).now) (hu : r.user = .passage f p) :
    Runs (.coreWatchdog n t) s fun u => ∃ v, u = rebindJobs (dropCore v n false) n (some r) ∧
      (core v n).busy = satAdd 64 (core s n).busy (r.cycles + 64) ∧ (core v n).watchdogs = (core s n).watchdogs := by
  refine runs_of_next (u := rebindJobs (dropCore (updCore (advance s t) n
    fun c => { c with busy := satAdd 64 c.busy (r.cycles + 64) }) n false) n (some r)) ?_ ⟨_, rfl, ?_, ?_⟩
  · simp [exec, execCoreWatchdog, hr, hs, hc, hu, Nat.not_lt.mpr ht]
  all_goals rw [core_updCore_same, core_advance]

end

/-! ### The end of a stopped core's zeroing (R166, R168) -/

theorem core_coreFree {s : State} {n : Nat} (k : Nat) (ho : (core s n).takeOffline = false) :
    (core (coreFree s n k) n).state = .idle ∧ (core (coreFree s n k) n).running = none := by
  simp [coreFree, ho]

theorem core_stoppedCounts (s : State) (r : CoreRun) (n : Nat) : core (stoppedCounts s r).1 n = core s n := rfl

section
variable {n : Fin 96} {t : Time} {s : State} {r : CoreRun} {st : Status} (hr : (core s n).running = some r) (hs : r.stop = some st)
include hr hs

theorem runs_coreZeroingEnd_early (ht : (advance s t).now < r.stopAt + 2048 * nclkT) :
    Runs (.coreZeroingEnd n t) s fun u => u = advance s t :=
  runs_of_next (by simp [exec, execCoreZeroingEnd, hr, hs, zeroingTime, ht]) rfl

variable (hc : stopped s 2 = false) (ht : r.stopAt + 2048 * nclkT ≤ (advance s t).now)
include hc ht

/-- The core is free, and a check of Passage leaves it at that: its frame has no part any more. -/
theorem runs_coreZeroingEnd_passage {f p : Nat} (hu : r.user = .passage f p) (ho : (core s n).takeOffline = false) :
    Runs (.coreZeroingEnd n t) s fun u => (core u n).state = .idle ∧ (core u n).running = none := by
  have he : ∃ k, exec (.coreZeroingEnd n t) s = .next (stoppedCounts (coreFree (advance s t) n k) r).1 := by
    simp only [exec, execCoreZeroingEnd, core_advance, stopped_advance, hr, hs, hc, zeroingTime, Nat.not_lt.mpr ht, stoppedCounts, hu]
    exact ⟨_, rfl⟩
  obtain ⟨k, he⟩ := he
  refine runs_of_next he ?_
  rw [core_stoppedCounts]
  exact core_coreFree k (by rwa [core_advance])

theorem runs_coreZeroingEnd_service {j : PkeJob} (hu : r.user = .service j) (hj : j.curve = none) :
    Runs (.coreZeroingEnd n t) s fun u => ∃ v e, u = endJob v j.caller j.reply e ∧ e.status = st ∧ e.outs = zeroOuts j.block := by
  have he : ∃ v x k, exec (.coreZeroingEnd n t) s = .next (failPke v n x j st k) := by
    simp only [exec, execCoreZeroingEnd, core_advance, stopped_advance, hr, hs, hc, zeroingTime, Nat.not_lt.mpr ht, stoppedCounts, hu, hj]
    exact ⟨_, _, _, rfl⟩
  obtain ⟨v, x, k, he⟩ := he
  exact runs_of_next he ⟨v, exists_failPke_eq ..⟩

end

/-! ### Self-tests and pool switches (R171, R179) -/

theorem coreTestEnd_advance (s : State) (t : Time) (n : Nat) : coreTestEnd (advance s t) n = coreTestEnd s n := by
  simp [coreTestEnd]

theorem runs_coreSelfTestEnd {n : Fin 96} {p : Bool} {t : Time} {s : State} {e : Time} (hc : stopped s 2 = false)
    (hs : (core s n).state = .selfTest ∨ (core s n).state = .failed) (he : coreTestEnd s n = some e) (ht : e ≤ (advance s t).now) :
    Runs (.coreSelfTestEnd n p t) s fun u => (core u n).state = if p then .idle else .offline := by
  refine runs_of_next (u := refreshPke (updCore (advance s t) n fun c => { c with state := if p then .idle else .offline })) ?_
    (by simp)
  have hs' : ((core s n).state == .selfTest || (core s n).state == .failed) = true := by simpa using hs
  simp [exec, execCoreSelfTestEnd, coreTestEnd_advance, hc, hs', he, ht]

theorem runs_corePoolSwitch {n : Fin 96} {t : Time} {s : State} (hc : stopped s 2 = false) (hm : (core s n).moving = true)
    (hr : (core s n).running = none) (hst : (core s n).staged = none) (hb : s.psg.bound.any (·.core == n.val) = false) :
    Runs (.corePoolSwitch n t) s fun u => ∃ v, u = settlePool v ∧ (core v n).moving = false ∧ (core v n).switched = true ∧
      v.pke.target = s.pke.target := by
  refine runs_of_next (u := settlePool (refreshPke (updCore (advance s t) n fun c => { c with moving := false, switched := true }))) ?_
    ⟨_, rfl, by simp, by simp, by simp [updCore_pke]⟩
  simp only [exec, execCorePoolSwitch, core_advance, stopped_advance, advance_frame, hc, hm, hr, hst, hb]
  rfl

/-! ### RETEST and TAKE_OFFLINE (R163, R179, R180, R182) -/

theorem state_retestCore {s : State} {n : Nat}
    (h : (core s n).state = .failed ∨ (core s n).state = .idle ∧ coreLoaded s n = false) :
    (core (retestCore s n) n).state = .selfTest := by
  have h' : ((core s n).state = .failed || ((core s n).state = .idle && !coreLoaded s n)) = true := by simpa using h
  simp [retestCore, h']

theorem runs_coreRetest_failed {m : Master} {n : Fin 96} {s : State} (hm : m.isSecure = true) (hs : (core s n).state = .failed) :
    Runs (.coreRetest m n) s fun u => (core u n).state = .selfTest :=
  runs_of_next (u := retestCore s n) (by simp [exec, execCoreRetest, hm]) (state_retestCore (.inl hs))

theorem runs_coreRetest_refused {m : Master} {n : Fin 96} {s : State} (hm : m.isSecure = false) :
    Runs (.coreRetest m n) s fun u => u = refuseAccess s m (0x100004 + n * 0x1000) true :=
  runs_of_next (by simp [exec, execCoreRetest, hm]) rfl

theorem runs_pkeCoreRetest_idle {c : Cmd} {s : State} (ha : admitted s c 0x0340 = true) (hn : c.nat 9 ≤ 95)
    (hs : (core s (c.nat 9)).state = .idle) (hl : coreLoaded s (c.nat 9) = false) :
    Runs (.pkeCoreRetest c) s fun u => AnsweredOk u c [] ∧ (core u (c.nat 9)).state = .selfTest := by
  refine runs_of_admitted rfl ha ?_
  simp only [Nat.not_lt.mpr hn, hs, hl, reduceCtorEq, decide_false, Bool.or_self, Bool.false_eq_true, if_false]
  exact ⟨answeredOk_answerOk .., by rw [core_answerOk]; exact state_retestCore (.inr ⟨hs, hl⟩)⟩

theorem runs_pkeCoreRetest_busy {c : Cmd} {s : State} (ha : admitted s c 0x0340 = true) (hn : c.nat 9 ≤ 95)
    (hs : (core s (c.nat 9)).state = .busy) : Runs (.pkeCoreRetest c) s fun u => u = answerBusy s c.reply 0xFFFFFFFF :=
  runs_of_admitted rfl ha (by simp [Nat.not_lt.mpr hn, hs])

theorem exec_coreTakeOffline_secure {m : Master} {n : Fin 96} {s : State} (hm : m.isSecure = true) :
    exec (.coreTakeOffline m n) s = .next (takeCoreOffline s n) := by
  simp [exec, execCoreTakeOffline, hm]

theorem runs_coreTakeOffline_running {m : Master} {n : Fin 96} {s : State} {r : CoreRun} (hm : m.isSecure = true)
    (hr : (core s n).running = some r) :
    Runs (.coreTakeOffline m n) s fun u => (core u n).takeOffline = true ∧ (core u n).running = some r :=
  runs_of_next (exec_coreTakeOffline_secure hm) (by simp [takeCoreOffline, hr])

/-- Where nothing is bound to any core and none runs, no job is bound again. -/
theorem rebindJobs_of_none_bound {s : State} (n : Nat) (h : s.psg.bound = []) :
    rebindJobs s n none = updCore s n fun c => { c with busyUntil := 0 } := by
  have hs : { s with psg := { s.psg with bound := [] } } = s := by rw [← h]
  simp [rebindJobs, h, hs]

/-- The staged job leaves its buffer for the head of the dispatcher's queue. -/
theorem core_unloadCore_same (s : State) (n : Nat) : core (unloadCore s n) n = { core s n with staged := none } :=
  core_updCore_same s n fun c => { c with staged := none }

theorem waiting_unloadCore (s : State) (n : Nat) :
    (unloadCore s n).pke.waiting = ((core s n).staged.map unstaged).toList ++ s.pke.waiting := rfl

theorem runs_coreTakeOffline_idle {m : Master} {n : Fin 96} {s : State} (hm : m.isSecure = true) (hr : (core s n).running = none)
    (hb : s.psg.bound = []) :
    Runs (.coreTakeOffline m n) s fun u => (core u n).state = .offline ∧
      u.pke.waiting = ((core s n).staged.map unstaged).toList ++ s.pke.waiting := by
  refine runs_of_next (exec_coreTakeOffline_secure hm) ?_
  have hb' : (unloadCore (updCore s n fun c => { c with state := .offline }) n).psg.bound = [] := by simpa using hb
  rw [takeCoreOffline, hr, if_neg (by simp), rebindJobs_of_none_bound n hb']
  exact ⟨by simp [core_unloadCore_same], by simp [updCore_pke, waiting_unloadCore]⟩

/-- Settles O32: each row by the branch that its core and the moment lead to, the commands by their rules once they are let through. That
PKE_CORE_RETEST names no holder of a busy core is the model's choice (log entry 25). -/
theorem publicKeyCoresRun : Obligations.PublicKeyCoresRun :=
  ⟨⟨fun _ _ ha hl => runs_pkeJob ha hl, fun _ _ _ _ ha hr hs hj => runs_pkeJobAbort_waiting ha hr hs hj,
      fun _ _ ha hr => runs_pkeJobAbort_unknown ha hr,
      fun _ _ _ _ _ _ _ hc hst hn hw hd hk hz => runs_serviceJobStage hc hst hn hw hd hk hz⟩,
    ⟨fun _ _ _ _ _ hc hi hr hsu hb ht hl => runs_coreJobStart_borrowed hc hi hr hsu hb ht hl,
      fun _ _ _ _ _ _ _ _ hc hi hr hsu hb ht hl hp hh hx hv => runs_coreJobStart_own hc hi hr hsu hb ht hl hp hh hx hv,
      fun _ _ _ _ _ hc hi hr hb hj hk => runs_coreJobStart_staged hc hi hr hb hj hk,
      fun _ _ _ _ hc hr hs ht => runs_of_next (exec_coreStatusDelivered_sound hr hs hc ht) rfl,
      fun _ _ _ _ _ hc hr hs ht hu hj hd => runs_coreStatusDelivered_service hr hs hc ht hu hj hd,
      fun _ _ _ _ _ hr ht hs => runs_coreStatusDelivered_other hr hs ht,
      fun _ _ _ _ _ _ _ hc hr hs ht hi hu => runs_coreStatusDelivered_fault hr hs hc ht hi hu,
      fun _ _ _ _ _ _ hc hr hs ht hu => runs_coreWatchdog hr hs hc ht hu,
      fun _ _ _ _ _ _ _ hc hr hs ht hu ho => runs_coreZeroingEnd_passage hr hs hc ht hu ho,
      fun _ _ _ _ _ _ hc hr hs ht hu hj => runs_coreZeroingEnd_service hr hs hc ht hu hj,
      fun _ _ _ _ _ hr hs ht => runs_coreZeroingEnd_early hr hs ht⟩,
    ⟨fun _ _ _ _ _ hc hs he ht => runs_coreSelfTestEnd hc hs he ht, fun _ _ _ hc hm hr hst hb => runs_corePoolSwitch hc hm hr hst hb,
      fun _ _ _ hm hs => runs_coreRetest_failed hm hs, fun _ _ _ hm => runs_coreRetest_refused hm,
      fun _ _ _ _ hm hr => runs_coreTakeOffline_running hm hr, fun _ _ _ hm hr hb => runs_coreTakeOffline_idle hm hr hb,
      fun _ _ ha hn hs hl => runs_pkeCoreRetest_idle ha hn hs hl, fun _ _ ha hn hs => runs_pkeCoreRetest_busy ha hn hs⟩⟩

end Sys2Proof.Machine
end

section
/-!
The status reads and the attestation (O28): a block's registers are read item by item, so that a read of more registers answers those of
fewer.
-/

set_option Elab.async false

namespace Sys2Proof.Machine

open Claims (Runs AnsweredOk admitted)

/-! ### Registers as items -/

theorem regItems_subset (s : State) {l m : List Nat} (h : l ⊆ m) : regItems s l ⊆ regItems s m := fun _ hx =>
  let ⟨a, ha, hx⟩ := List.mem_flatMap.mp hx
  List.mem_flatMap.mpr ⟨a, h ha, hx⟩

theorem regItems_append (s : State) (l m : List Nat) : regItems s (l ++ m) = regItems s l ++ regItems s m := List.flatMap_append

/-- What `f` gives for an index below `k` is among what it gives for all of them. -/
theorem subset_flatMap_range {α : Type} (f : Nat → List α) {k n : Nat} (hn : n < k) : f n ⊆ (List.range k).flatMap f :=
  fun _ hx => List.mem_flatMap.mpr ⟨n, List.mem_range.mpr hn, hx⟩

/-! ### The public-key engine and the service engines (R182, R217) -/

/-- Core 0 stands first in the answer and the others after the pool registers. -/
theorem runs_pkeStatusRead {c : Cmd} {s : State} (ha : admitted s c 0x0341 = true) :
    Runs (.pkeStatusRead c) s fun u => ∃ items, u = answerOk s c [] items ∧ ∀ (n : Fin 96),
      (regItems s [0x100000 + n * 0x1000, 0x100008 + n * 0x1000] ++ regItems s (wordsFrom 0x100800 0x4C)) ⊆ items := by
  refine runs_of_admitted rfl ha ⟨_, rfl, fun n => ?_⟩
  rw [← regItems_append]
  refine regItems_subset s (List.append_subset.mpr ⟨?_, ?_⟩)
  · obtain ⟨_ | k, hk⟩ := n
    · exact List.subset_append_of_subset_left _ (List.subset_append_left _ _)
    · exact List.subset_append_of_subset_right _
        (subset_flatMap_range (fun n => [0x100000 + (n + 1) * 0x1000, 0x100008 + (n + 1) * 0x1000]) (by omega))
  · exact List.subset_append_of_subset_left _ (List.subset_append_right _ _)

theorem runs_engStatusRead {c : Cmd} {s : State} (ha : admitted s c 0x0430 = true) :
    Runs (.engStatusRead c) s fun u => ∃ items, u = answerOk s c [] items ∧
      (∀ e : Fin 32, regItems s [0x7000C + e * 0x400, 0x70010 + e * 0x400] ⊆ items) ∧
      (∀ d : Fin 64, regItems s [digestBase d, digestBase d + 8] ⊆ items) ∧
      (∀ l : Fin 288, regItems s [laneBase l, laneBase l + 8] ⊆ items) := by
  refine runs_of_admitted rfl ha ⟨_, rfl, fun e => ?_, fun d => ?_, fun l => ?_⟩ <;> refine regItems_subset s ?_
  · exact List.subset_append_of_subset_left _ (List.subset_append_of_subset_left _
      (subset_flatMap_range (fun e => [0x7000C + e * 0x400, 0x70010 + e * 0x400]) e.isLt))
  · exact List.subset_append_of_subset_left _ (List.subset_append_of_subset_right _
      (subset_flatMap_range (fun d => [digestBase d, digestBase d + 8]) d.isLt))
  · exact List.subset_append_of_subset_right _ (subset_flatMap_range (fun l => [laneBase l, laneBase l + 8]) l.isLt)

/-! ### Device time, the mailboxes and the identity registers (R367, R445) -/

theorem runs_timStatusRead {c : Cmd} {s : State} (ha : admitted s c 0x0910 = true) :
    Runs (.timStatusRead c) s fun u => ∃ items, u = answerOk s c [] items ∧ regItems s (wordsFrom 0x2100014 0x34) ⊆ items ∧
      .reg 0x2100008 (numWord (devNs s)) ∈ items ∧ .reg 0x210000C (numWord (devSec s)) ∈ items := by
  refine runs_of_admitted rfl ha ⟨_, rfl, ?_, ?_, ?_⟩
  · exact List.subset_append_of_subset_left _ (List.subset_append_of_subset_left _ (List.subset_append_right _ _))
  all_goals simp

theorem runs_mbxStatusRead {c : Cmd} {s : State} (ha : admitted s c 0x0112 = true) :
    Runs (.mbxStatusRead c) s fun u => ∃ items, u = answerOk s c [] items ∧
      (∀ n : Fin 8, ∀ v, boxReg s n 0 = some v → .reg (boxBase n) v ∈ items) ∧ regItems s (wordsFrom 0x10800 0xC) ⊆ items := by
  refine runs_of_admitted rfl ha ⟨_, rfl, fun n v hv => List.mem_append_left _ ?_, List.subset_append_right _ _⟩
  refine List.mem_flatMap.mpr ⟨n, List.mem_range.mpr n.isLt, List.mem_flatMap.mpr ⟨0, by decide, ?_⟩⟩
  simp [hv]

/-- The monitor answers MBX_INFO itself (R364): it needs neither the secure world nor the domain records. -/
theorem command_info {s : State} {c : Cmd} (htap : c.caller ≠ .tap) (hg : gate s c 0x0101 = none)
    (hi : itemsFault 0x0101 c.body = false) (k : State → State) : command s c 0x0101 k = k s := by
  simp [command, htap, hg, hi]

theorem runs_mbxInfo {c : Cmd} {s : State} (htap : c.caller ≠ .tap) (hg : gate s c 0x0101 = none)
    (hi : itemsFault 0x0101 c.body = false) :
    Runs (.mbxInfo c) s fun u => ∃ items, u = answerOk s c [] items ∧ regItems s (wordsFrom 0 0x30) ⊆ items ∧
      .blob (leBytes 1 s.lcy.state) ∈ items ∧ ∀ n : Fin 8, .item 0x0D (leBytes 1 (mailbox s n).port) ∈ items := by
  refine runs_of_next (congrArg Host.Outcome.next (command_info htap hg hi _)) ⟨_, rfl, ?_, ?_, fun n => ?_⟩
  · exact List.subset_append_of_subset_left _ (List.subset_append_of_subset_left _ (List.subset_append_left _ _))
  · simp
  · refine List.mem_append_left _ (List.mem_append_right _ (List.mem_map.mpr ⟨n, List.mem_range.mpr n.isLt, rfl⟩))

/-! ### Attestation (R263) -/

theorem attest_kst (s : State) (kind d h : Nat) (k : Option KeyRec) (digest nonce : Bytes) :
    (attest s kind d h k digest nonce).2.kst = { s.kst with attests := (s.kst.attests + 1) % 2 ^ 64 } := by
  simp [attest]

/-- An attestation that names no key and no transport asks for the attestation keys and a key store in use alone. -/
theorem runs_kstAttest {c : Cmd} {s : State} (ha : admitted s c 0x0205 = true) (hr : s.kst.ready = true) (hs : suspended s = false)
    (hk : s.die.attestation.isSome = true) (h1 : c.value 1 = none) (h2 : c.value 0x12 = none) :
    Runs (.kstAttest c) s fun u => (∃ b, AnsweredOk u c [.blob b]) ∧ u.kst.attests = (s.kst.attests + 1) % 2 ^ 64 ∧
      u.kst.slots = s.kst.slots ∧ u.geo = s.geo := by
  have hk' : s.die.attestation.isNone = false := by simpa [Option.isNone_eq_false_iff] using hk
  refine runs_of_admitted rfl ha ?_
  simp only [h1, h2, useConditions, hr, hs, hk', Option.isSome_none, Bool.false_and, Bool.not_true]
  exact ⟨⟨_, answeredOk_answerOk ..⟩, by simp [leastOf, attest_kst], by simp [leastOf, attest_kst], by simp [leastOf]⟩

/-- Settles O28: each read by what it puts into its answer, which is given in the state as it was. That a read latches and clears nothing
is the model's choice (log entry 69), as are the items of MBX_INFO and MBX_STATUS_READ (log entry 56). -/
theorem statusReadsAnswerAndChangeNothing : Obligations.StatusReadsAnswerAndChangeNothing :=
  ⟨⟨fun _ _ ha => runs_pkeStatusRead ha, fun _ _ ha => runs_engStatusRead ha, fun _ _ ha => runs_of_admitted rfl ha rfl,
      fun _ _ ha => runs_of_admitted rfl ha rfl, fun _ _ ha => runs_of_admitted rfl ha rfl,
      fun _ _ ha => runs_of_admitted rfl ha rfl, fun _ _ ha => runs_of_admitted rfl ha rfl⟩,
    ⟨fun _ _ ha => runs_of_admitted rfl ha rfl, fun _ _ ha => runs_timStatusRead ha, fun _ _ ha => runs_of_admitted rfl ha rfl,
      fun _ _ ha => runs_mbxStatusRead ha, fun _ _ ht hg hi => runs_mbxInfo ht hg hi,
      fun _ _ ha hr hs hk h1 h2 => runs_kstAttest ha hr hs hk h1 h2⟩⟩

end Sys2Proof.Machine
end

section
/-!
What the statements of the service MAC and digest engines share (O30, O31): an engine after an update.
-/

set_option Elab.async false

namespace Sys2Proof.Machine

/-! ### A digest engine after an update -/

theorem digestEngine_of_eng_eq {s u : State} (h : u.eng = s.eng) (d : Nat) : digestEngine u d = digestEngine s d := by
  rw [digestEngine, digestEngine, h]

@[simp] theorem digestEngine_updDigest_same (s : State) (d : Nat) (f : Digest → Digest) :
    digestEngine (updDigest s d f) d = f (digestEngine s d) := by
  simp [digestEngine, updDigest]

@[simp] theorem digestEngine_advance (s : State) (t : Time) (d : Nat) : digestEngine (advance s t) d = digestEngine s d :=
  digestEngine_of_eng_eq (by simp) d

@[simp] theorem digestEngine_refreshDigest (s : State) (d : Nat) : digestEngine (refreshDigest s) d = digestEngine s d :=
  digestEngine_of_eng_eq (by simp) d

/-- An update of one engine leaves the jobs that wait for the engines as they were. -/
theorem digestWait_updDigest (s : State) (d : Nat) (f : Digest → Digest) : (updDigest s d f).eng.digestWait = s.eng.digestWait := rfl

/-- An engine that runs a context has nothing to settle. -/
theorem settleDigest_of_ctxs {s : State} {d : Nat} (h : (digestEngine s d).ctxs ≠ []) : settleDigest s d = s := by
  simp [settleDigest, h]

/-! ### A service MAC engine after an update -/

theorem svc_of_eng_eq {s u : State} (h : u.eng = s.eng) (e : Nat) : svc u e = svc s e := by rw [svc, svc, h]

@[simp] theorem svc_updSvc_same (s : State) (e : Nat) (f : Svc → Svc) : svc (updSvc s e f) e = f (svc s e) := by simp [svc, updSvc]

@[simp] theorem svc_advance (s : State) (t : Time) (e : Nat) : svc (advance s t) e = svc s e := svc_of_eng_eq (by simp) e

@[simp] theorem svc_refreshSvc (s : State) (e : Nat) : svc (refreshSvc s) e = svc s e := svc_of_eng_eq (by simp) e

@[simp] theorem svc_answerOk (s : State) (c : Cmd) (reasons : List Nat) (items : List RItem) (e : Nat) :
    svc (answerOk s c reasons items) e = svc s e := svc_of_eng_eq (by simp) e

/-- The mask generator of a service MAC engine stands behind those of the 288 lanes (R186). -/
theorem updMask_svc (s : State) (e : Nat) (f : Mask → Mask) :
    updMask s (288 + e) f = updSvc s e fun x => { x with mask := f x.mask } := by
  rw [updMask, if_neg (Nat.not_lt.mpr (Nat.le_add_right 288 e)), Nat.add_sub_cancel_left]

/-- Counting blocks changes the counts of the engine and of its mask generator alone. -/
theorem svc_countSvc_same (s : State) (e n : Nat) : svc (countSvc s e n) e = { svc s e with
    blocks := satAdd 64 (svc s e).blocks n
    mask := { (svc s e).mask with blocks := (svc s e).mask.blocks + n - (svc s e).mask.before, before := 0 } } := by
  simp [countSvc, countMask, updMask_svc]

/-! ### Bodies of a fixed length -/

theorem withLength_of_length {s k : State} {c : Cmd} {n : Nat} (h : c.body.bytes.length = n) : withLength s c n k = k := if_pos h

end Sys2Proof.Machine
end

section
/-!
Digest and service MAC jobs: submitted, run and answered (O30).
-/

set_option Elab.async false

namespace Sys2Proof.Machine

open Claims (Runs AnsweredOk admitted)

/-! ### Jobs put at their caller's source (R193, R206, R208, R261) -/

theorem runs_dgsJob {c : Cmd} {s : State} (ha : admitted s c 0x0410 = true) (hl : c.body.bytes.length = 64) :
    Runs (.dgsJob c) s fun u => ∃ v : State, ∃ j : DigJob, u = submit v c.caller (.digest j) ∧
      v.eng.sources = s.eng.sources ∧ v.eng.nextJob = s.eng.nextJob + 1 ∧ j.id = s.eng.nextJob ∧
      j.block = readDigest c.body.bytes ∧ j.caller = c.caller ∧ j.reply = c.reply ∧ j.domain = c.domain :=
  runs_of_admitted rfl ha ⟨(newJob s).2, _, withLength_of_length hl, rfl, rfl, rfl, rfl, rfl, rfl, rfl⟩

theorem runs_svcMac {c : Cmd} {s : State} (ha : admitted s c 0x0401 = true) (hl : c.body.bytes.length = 64) :
    Runs (.svcMac c) s fun u => ∃ v : State, ∃ j : SvcJob, u = submit v c.caller (.svc j) ∧
      v.eng.sources = s.eng.sources ∧ v.eng.nextJob = s.eng.nextJob + 1 ∧ j.id = s.eng.nextJob ∧
      j.block = readSegment c.body.bytes ∧ j.caller = c.caller ∧ j.reply = c.reply ∧ j.domain = c.domain :=
  runs_of_admitted rfl ha ⟨(newJob s).2, _, withLength_of_length hl, rfl, rfl, rfl, rfl, rfl, rfl, rfl⟩

/-- The engine job of a derivation: the PRF decides its family. -/
def deriveJob (s : State) (c : Cmd) : WaitJob :=
  if c.nat 0x18 = 4 then .svc (deriveSegment c s.eng.nextJob (deriveSpec c)) else .digest (deriveDigest c s.eng.nextJob (deriveSpec c))

theorem exec_kstDerive_admitted {c : Cmd} {s : State} (ha : admitted s c 0x0220 = true) (hl : (c.bytes 0x19).length ≠ 0)
    (hl' : (c.bytes 0x19).length ≤ 64) (hx : (c.bytes 0x1A).length ≤ 256) (hp : 1 ≤ c.nat 0x18) (hp' : c.nat 0x18 ≤ 4) :
    exec (.kstDerive c) s = .next (submit (newJob s).2 c.caller (deriveJob s c)) := by
  have he : (deriveSpec c).label.isEmpty = false := by
    rw [List.isEmpty_eq_false_iff, ← List.length_pos_iff]
    exact Nat.pos_of_ne_zero hl
  have hlen : ((deriveSpec c).label.isEmpty || decide (64 < (deriveSpec c).label.length) ||
      decide (256 < (deriveSpec c).context.length)) = false := by
    simp only [he, Bool.false_or, Bool.or_eq_false_iff, decide_eq_false_iff_not, Nat.not_lt]
    exact ⟨hl', hx⟩
  have hprf : ((deriveSpec c).prf = 0 || decide (4 < (deriveSpec c).prf)) = false := by
    simp only [Bool.or_eq_false_iff, decide_eq_false_iff_not, Nat.not_lt]
    exact ⟨Nat.ne_of_gt hp, hp'⟩
  show execKstDerive c s = _
  simp only [execKstDerive, command_of_admitted ha, hlen, hprf, Bool.false_eq_true, if_false]
  rfl

theorem runs_kstDerive {c : Cmd} {s : State} (ha : admitted s c 0x0220 = true) (hl : (c.bytes 0x19).length ≠ 0)
    (hl' : (c.bytes 0x19).length ≤ 64) (hx : (c.bytes 0x1A).length ≤ 256) (hp : 1 ≤ c.nat 0x18) (hp' : c.nat 0x18 ≤ 4) :
    Runs (.kstDerive c) s fun u => u.eng.nextJob = s.eng.nextJob + 1 ∧ ∃ v j, u = submit v c.caller j ∧ v.eng.sources = s.eng.sources ∧
      match j with
      | .svc x => c.nat 0x18 = 4 ∧ x.derive = some (deriveSpec c)
      | .digest x => c.nat 0x18 ≠ 4 ∧ x.derive = some (deriveSpec c) ∧ x.block.algo = c.nat 0x18
      | .pke _ => False := by
  refine runs_of_next (exec_kstDerive_admitted ha hl hl' hx hp hp') ⟨rfl, (newJob s).2, _, rfl, rfl, ?_⟩
  by_cases h : c.nat 0x18 = 4
  · rw [deriveJob, if_pos h]
    exact ⟨h, rfl⟩
  · rw [deriveJob, if_neg h]
    exact ⟨h, rfl, rfl⟩

/-! ### Contexts taken (R95, R205) -/

/-- A plain digest job needs no key. -/
theorem digestKey_plain {s : State} {j : DigJob} (hk : j.block.keyHandle = 0) (hp : j.pke = none) : digestKey s j = .got 0 [] := by
  simp [digestKey, digestOwner, hk, hp]

/-- The first of the waiting jobs, where it needs no key, takes the context. -/
theorem assignService_plain {s : State} {d c : Nat} {j : DigJob} (rest : List DigJob) (hk : j.block.keyHandle = 0) (hp : j.pke = none) :
    assignService d c (j :: rest) s = takeCtx (unwaitDigest s j.id) d c (serviceCtx (unwaitDigest s j.id) j []) := by
  simp [assignService, digestKey_plain hk hp, beginDigest, hk, hp]

@[simp] theorem digestEngine_takeCtx_same (s : State) (d c : Nat) (x : Ctx) :
    digestEngine (takeCtx s d c x) d = { digestEngine s d with state := .busy, ctxs := (digestEngine s d).ctxs.put c x } :=
  digestEngine_updDigest_same ..

theorem runs_digestJobAssign_service {t : Time} {s : State} {j : DigJob} {rest : List DigJob} {d c : Nat} (hc : stopped s 1 = false)
    (hw : s.eng.digestWait = j :: rest) (hx : chooseCtx (advance s t) false = some (d, c)) (hk : j.block.keyHandle = 0)
    (hp : j.pke = none) :
    Runs (.digestJobAssign false t) s fun u => u.eng.digestWait = (j :: rest).filter (·.id != j.id) ∧ (digestEngine u d).state = .busy ∧
      ∃ x, (digestEngine u d).ctxs.look c = some x ∧ x.user = .service j ∧ x.key = [] := by
  refine runs_of_next (u := takeCtx (unwaitDigest (advance s t) j.id) d c (serviceCtx (unwaitDigest (advance s t) j.id) j [])) ?_ ?_
  · simp [exec, execDigestJobAssign, hc, hx, hw, assignService_plain rest hk hp]
  · refine ⟨?_, by simp, serviceCtx (unwaitDigest (advance s t) j.id) j [], by simp, rfl, rfl⟩
    simp [takeCtx, digestWait_updDigest, unwaitDigest, hw]

/-- The context of an HMAC check of Passage runs under the key that the frame's slot now holds. -/
theorem passageCtx_hmac {s : State} {h : Held} {k : Bytes} (r : FrameRef) (hs : h.stage = .hmac) (hk : fetchKey s h = some k) :
    ∃ x, passageCtx s h r = some x ∧ x.user = .passage r ∧ x.key = k ∧ x.algo = 1 := by
  simp only [passageCtx, hs, hk]
  exact ⟨_, rfl, rfl, rfl, rfl⟩

theorem assignPassage_hmac {s : State} {r : FrameRef} {rest : List FrameRef} {d c p : Nat} {h : Held} {k : Bytes}
    (hq : s.psg.digestQ = r :: rest) (hx : chooseCtx s true = some (d, c)) (hp : portOfFrame s r.frame = some p)
    (hf : findHeld s p r.frame = some h) (hs : h.stage = .hmac) (hk : fetchKey s h = some k) :
    ∃ x, assignPassage s = takeCtx { s with psg := { s.psg with digestQ := rest } } d c x ∧ x.user = .passage r ∧ x.key = k ∧
      x.algo = 1 := by
  obtain ⟨x, hctx, hx'⟩ := passageCtx_hmac (s := { s with psg := { s.psg with digestQ := rest } }) r hs hk
  refine ⟨x, ?_, hx'⟩
  have hp' : portOfFrame { s with psg := { s.psg with digestQ := rest } } r.frame = some p := hp
  have hf' : findHeld { s with psg := { s.psg with digestQ := rest } } p r.frame = some h := hf
  simp only [assignPassage, hq, hx, hp', hf', hctx]

theorem runs_digestJobAssign_passage {t : Time} {s : State} {r : FrameRef} {rest : List FrameRef} {d c p : Nat} {h : Held} {k : Bytes}
    (hc : stopped s 1 = false) (hsu : suspended s = false) (hq : s.psg.digestQ = r :: rest)
    (hx : chooseCtx (advance s t) true = some (d, c)) (hp : portOfFrame s r.frame = some p) (hf : findHeld s p r.frame = some h)
    (hs : h.stage = .hmac) (hk : fetchKey s h = some k) :
    Runs (.digestJobAssign true t) s fun u => u.psg.digestQ = rest ∧
      ∃ x, (digestEngine u d).ctxs.look c = some x ∧ x.user = .passage r ∧ x.key = k ∧ x.algo = 1 := by
  obtain ⟨x, he, hx'⟩ := assignPassage_hmac (s := advance s t) (by simpa using hq) hx (by rwa [portOfFrame_advance])
    (by rwa [findHeld_advance]) hs (by rwa [fetchKey_advance])
  refine runs_of_next (u := assignPassage (advance s t)) (by simp [exec, execDigestJobAssign, hc, hsu]) ?_
  rw [he]
  exact ⟨rfl, x, by simp, hx'⟩

theorem runs_digestJobAssign_suspended {t : Time} {s : State} (hsu : suspended s = true) :
    Runs (.digestJobAssign true t) s fun u => u = advance s t :=
  runs_of_next (by simp [exec, execDigestJobAssign, hsu]) rfl

/-! ### Blocks that end (R204) -/

theorem finishBlock_eq {s : State} {d c : Nat} (h : (digestEngine s d).current = some c) :
    finishBlock s d = updDigest s d fun e => { e with
      current := none
      blocks := satAdd 64 e.blocks 1
      ctxs := e.ctxs.map fun k => (k.1, if k.1 = c then { k.2 with blocks := k.2.blocks - 1, ran := k.2.ran + 1 } else k.2) } := by
  simp only [finishBlock, h]

theorem runs_digestBlockEnd {d : Fin 64} {t : Time} {s : State} {c : Nat} (hc : stopped s 1 = false)
    (hs : (digestEngine s d).state = .busy) (hr : (digestEngine s d).current = some c)
    (ht : (digestEngine s d).blockEnd ≤ (advance s t).now) :
    Runs (.digestBlockEnd d t) s fun u => ∃ v, u = startBlock (endAborted v d) d ∧
      (digestEngine v d).blocks = satAdd 64 (digestEngine s d).blocks 1 ∧ (digestEngine v d).current = none ∧
      (digestEngine v d).ctxs = (digestEngine s d).ctxs.map fun k =>
        (k.1, if k.1 = c then { k.2 with blocks := k.2.blocks - 1, ran := k.2.ran + 1 } else k.2) := by
  refine runs_of_next (u := startBlock (endAborted (finishBlock (advance s t) d) d) d) ?_ ⟨_, rfl, ?_⟩
  · simp [exec, execDigestBlockEnd, hc, hs, Nat.not_lt.mpr ht]
  · rw [finishBlock_eq (c := c) (by rwa [digestEngine_advance]), digestEngine_updDigest_same, digestEngine_advance]
    exact ⟨rfl, rfl, rfl⟩

/-! ### Jobs that finish (R98, R209) -/

/-- The end of an HMAC check of Passage is the comparison of its tag with the frame's. -/
theorem endPassage_hmac {s : State} {x : Ctx} {r : FrameRef} {p : Nat} {h : Held} (hp : portOfFrame s r.frame = some p)
    (hf : findHeld s p r.frame = some h) (hs : h.stage = .hmac) :
    endPassage s x r = updHeld s p h.id fun y => { y with
      stage := .result { verdict := if (hmac 1 x.key x.msg).take h.trailer.auth.length == h.trailer.auth then .accept else .tag } } := by
  simp only [endPassage, hp, hf, hs]

/-- The end of a plain digest answers its bytes. -/
theorem endService_digest (s : State) (d c : Nat) (x : Ctx) {j : DigJob} (ho : j.block.op = 1) (hs : j.block.toSlot = false)
    (hd : j.derive = none) (hp : j.pke = none) :
    ∃ e : JobEnd, endService s d c x j = freeDelivered (endJob s j.caller j.reply e) ∧ e.status = .ok ∧
      e.outs = [(j.block.dataAddress, Config.digest j.block.algo x.msg j.block.outBytes)] := by
  simp only [endService, ho, hs, hd, hp]
  exact ⟨_, rfl, rfl, rfl⟩

/-- A service job that ends with a status other than OK writes nothing. -/
theorem failService_eq (s : State) (d c : Nat) (x : Ctx) {j : DigJob} (st : Status) (hp : j.pke = none) :
    ∃ e : JobEnd, failService s d c x j st = freeDelivered (endJob s j.caller j.reply e) ∧ e.status = st ∧ e.outs = [] := by
  simp only [failService, hp]
  exact ⟨_, rfl, rfl, rfl⟩

/-- An HMAC check whose tag differs fails. -/
theorem endService_mismatch (s : State) (d c : Nat) (x : Ctx) {j : DigJob} (ho : j.block.op = 3) (hd : j.derive = none)
    (hp : j.pke = none) (hm : (hmac j.block.algo x.key x.msg).take j.block.outLen ≠ j.block.expected) :
    endService s d c x j = failService s d c x j .tagMismatch := by
  simp [endService, ho, hd, hp, hm]

section
variable {d : Fin 64} {c : Fin 8} {t : Time} {s : State} {x : Ctx} (hc : stopped s 1 = false)
  (hx : (digestEngine s d).ctxs.look c = some x) (hd : x.done = none) (hst : x.storing = false) (hb : x.blocks = 0)
  (ht : x.readyAt ≤ (advance s t).now) (hr : (digestEngine s d).current ≠ some c.val)
include hc hx hd hst hb ht hr

theorem exec_digestJobComplete_passage {r : FrameRef} (hk : stopped s 0 = false) (hu : x.user = .passage r) :
    exec (.digestJobComplete d c t) s = .next (endPassage (freeContext (advance s t) d c) x r) := by
  simp [exec, execDigestJobComplete, resultsHeld, hc, hx, hd, hst, hb, Nat.not_lt.mpr ht, hr, hk, hu]

theorem exec_digestJobComplete_service {j : DigJob} (hu : x.user = .service j) (hf : x.final = .ok) :
    exec (.digestJobComplete d c t) s = .next (endService (advance s t) d c x j) := by
  simp [exec, execDigestJobComplete, hc, hx, hd, hst, hb, Nat.not_lt.mpr ht, hr, hu, hf]

theorem runs_digestJobComplete_passage {r : FrameRef} {p : Nat} {h : Held} (hk : stopped s 0 = false) (hu : x.user = .passage r)
    (hp : portOfFrame s r.frame = some p) (hf : findHeld s p r.frame = some h) (hs : h.stage = .hmac) :
    Runs (.digestJobComplete d c t) s fun u => u = updHeld (freeContext (advance s t) d c) p h.id fun y => { y with
      stage := .result { verdict := if (hmac 1 x.key x.msg).take h.trailer.auth.length == h.trailer.auth
        then .accept else .tag } } :=
  runs_of_next (exec_digestJobComplete_passage hc hx hd hst hb ht hr hk hu)
    (endPassage_hmac (by simpa [portOfFrame] using hp) (by simpa [findHeld, port] using hf) hs)

theorem runs_digestJobComplete_digest {j : DigJob} (hu : x.user = .service j) (hf : x.final = .ok) (ho : j.block.op = 1)
    (hs : j.block.toSlot = false) (hde : j.derive = none) (hp : j.pke = none) :
    Runs (.digestJobComplete d c t) s fun u => ∃ e : JobEnd, u = freeDelivered (endJob (advance s t) j.caller j.reply e) ∧
      e.status = .ok ∧ e.outs = [(j.block.dataAddress, Config.digest j.block.algo x.msg j.block.outBytes)] :=
  runs_of_next (exec_digestJobComplete_service hc hx hd hst hb ht hr hu hf) (endService_digest _ d c x ho hs hde hp)

theorem runs_digestJobComplete_mismatch {j : DigJob} (hu : x.user = .service j) (hf : x.final = .ok) (ho : j.block.op = 3)
    (hde : j.derive = none) (hp : j.pke = none) (hm : (hmac j.block.algo x.key x.msg).take j.block.outLen ≠ j.block.expected) :
    Runs (.digestJobComplete d c t) s fun u => ∃ e : JobEnd, u = freeDelivered (endJob (advance s t) j.caller j.reply e) ∧
      e.status = .tagMismatch ∧ e.outs = [] := by
  refine runs_of_next (exec_digestJobComplete_service hc hx hd hst hb ht hr hu hf) ?_
  rw [endService_mismatch _ d c x ho hde hp hm]
  exact failService_eq _ d c x .tagMismatch hp

end

/-! ### Results read, jobs aborted and the two settings (R211, R217) -/

theorem runs_dgsResultRead_pending {c : Cmd} {s : State} {r : Reply} (ha : admitted s c 0x0411 = true)
    (hr : jobRef s c.caller (c.nat 0x11) = some r) (hp : digestPending s r = true) :
    Runs (.dgsResultRead c) s fun u => u = answer s c.reply { status := .resultNotReady, items := [.blob (zeros 32)] } :=
  runs_of_admitted rfl ha (by simp only [hr, hp, if_true])

theorem runs_dgsResultRead_done {c : Cmd} {s : State} {x : DigResult} (ha : admitted s c 0x0411 = true)
    (hr : jobRef s c.caller (c.nat 0x11) = none)
    (hx : (s.eng.results.reverse.find? fun x => x.caller == c.caller && x.seq == c.nat 0x11) = some x) :
    Runs (.dgsResultRead c) s fun u => u = answerOk s c [] [.blob x.block] :=
  runs_of_admitted rfl ha (by simp only [hr, execDgsResultRead.done, hx])

/-- A job that ends before it took a context leaves the engines as they were. -/
theorem endDigestEarly_eng (s : State) (j : DigJob) (st : Status) : (endDigestEarly s j st).eng = s.eng := by
  unfold endDigestEarly endJob
  dsimp only [keepEnd]
  split <;> simp

/-- A job that waits in the dispatcher, past its source, ends at once. -/
theorem abortDigest_waiting {s : State} {r : Reply} {j : DigJob} (hs : (source s 0).jobs = [])
    (hj : s.eng.digestWait.find? (·.reply == r) = some j) :
    abortDigest s 0 r = some (endDigestEarly (unwaitDigest s j.id) j .aborted) := by
  simp only [abortDigest, hs, hj, List.findSome?_nil]
  rfl

theorem runs_dgsAbort_waiting {c : Cmd} {s : State} {r : Reply} {j : DigJob} (ha : admitted s c 0x0412 = true)
    (hr : jobRef s c.caller (c.nat 0x11) = some r) (hs : (source s 0).jobs = []) (hj : s.eng.digestWait.find? (·.reply == r) = some j) :
    Runs (.dgsAbort c) s fun u => AnsweredOk u c [] ∧ u.eng.digestWait = s.eng.digestWait.filter (·.id != j.id) := by
  refine runs_of_admitted rfl ha ?_
  simp only [hr, Option.bind_some, abortDigest_waiting hs hj]
  exact ⟨answeredOk_answerOk .., by simp [endDigestEarly_eng, unwaitDigest]⟩

theorem runs_dgsAbort_unknown {c : Cmd} {s : State} (ha : admitted s c 0x0412 = true) (hr : jobRef s c.caller (c.nat 0x11) = none) :
    Runs (.dgsAbort c) s fun u => u = answerStatus s c.reply .invalidParameter :=
  runs_of_admitted rfl ha (by simp only [hr, Option.bind_none])

theorem runs_dgsCfgSet {c : Cmd} {s : State} {v : Word} (ha : admitted s c 0x0420 = true) (hw : c.regWrites = [(0x1800, v)])
    (h2 : 2 ≤ field v 6 0) (h64 : field v 6 0 ≤ 64) :
    Runs (.dgsCfgSet c) s fun u => AnsweredOk u c [] ∧ u.eng.dgsCfg = BitVec.ofNat 32 (field v 6 0) := by
  refine runs_of_admitted rfl ha ?_
  simp only [hw, h2, h64, decide_true, Bool.and_self, if_true]
  exact ⟨answeredOk_answerOk .., by simp⟩

theorem runs_svcCfgSet {c : Cmd} {s : State} {v : Word} (ha : admitted s c 0x0421 = true) (hw : c.regWrites = [(0x8000, v)])
    (h1 : 1 ≤ field v 13 0) (h10k : field v 13 0 ≤ 10000) :
    Runs (.svcCfgSet c) s fun u => AnsweredOk u c [] ∧ u.eng.svcCfg = BitVec.ofNat 32 (field v 13 0) := by
  refine runs_of_admitted rfl ha ?_
  simp only [hw, h1, h10k, decide_true, Bool.and_self, if_true]
  exact ⟨answeredOk_answerOk .., by simp⟩

theorem runs_svcCfgSet_outside {c : Cmd} {s : State} {v : Word} (ha : admitted s c 0x0421 = true) (hw : c.regWrites = [(0x8000, v)])
    (ho : field v 13 0 = 0 ∨ 10000 < field v 13 0) :
    Runs (.svcCfgSet c) s fun u => u = answerStatus s c.reply .invalidParameter := by
  have hout : (decide (1 ≤ field v 13 0) && decide (field v 13 0 ≤ 10000)) = false := by
    simp only [Bool.and_eq_false_iff, decide_eq_false_iff_not]
    omega
  exact runs_of_admitted rfl ha (by simp only [hw, hout, Bool.false_eq_true, if_false])

/-- Settles O30: the commands by their rules once they are let through, each row by the branch that its engine, its context and the moment
lead to. That no context is assigned to a job of Passage while a response of S2 or above stands is the model's choice (log entry 33). -/
theorem engineJobsRunAndAnswer : Obligations.EngineJobsRunAndAnswer :=
  ⟨⟨fun _ _ ha hl => runs_dgsJob ha hl, fun _ _ ha hl => runs_svcMac ha hl,
      fun _ _ ha hl hl' hx hp hp' => runs_kstDerive ha hl hl' hx hp hp'⟩,
    ⟨fun _ _ _ _ _ _ hc hw hx _ hk hp => runs_digestJobAssign_service hc hw hx hk hp,
      fun _ _ _ _ _ _ _ _ _ hc hsu hq hx hp hf hs hk => runs_digestJobAssign_passage hc hsu hq hx hp hf hs hk,
      fun _ _ hsu => runs_digestJobAssign_suspended hsu,
      fun _ _ _ _ hc hs hr ht => runs_digestBlockEnd hc hs hr ht,
      fun _ _ _ _ _ _ _ _ hk hc hx hd hst hb ht hr hu hp hf hs =>
        runs_digestJobComplete_passage hc hx hd hst hb ht hr hk hu hp hf hs,
      fun _ _ _ _ _ _ hc hx hd hst hb ht hr hu hf ho hs hde hp =>
        runs_digestJobComplete_digest hc hx hd hst hb ht hr hu hf ho hs hde hp,
      fun _ _ _ _ _ _ hc hx hd hst hb ht hr hu hf ho hde hp hm =>
        runs_digestJobComplete_mismatch hc hx hd hst hb ht hr hu hf ho hde hp hm⟩,
    ⟨fun _ _ _ ha hr hp => runs_dgsResultRead_pending ha hr hp, fun _ _ _ ha hr hx => runs_dgsResultRead_done ha hr hx,
      fun _ _ _ _ ha hr hs hj => runs_dgsAbort_waiting ha hr hs hj, fun _ _ ha hr => runs_dgsAbort_unknown ha hr,
      fun _ _ _ ha hw h2 h64 => runs_dgsCfgSet ha hw h2 h64, fun _ _ _ ha hw h1 h10k => runs_svcCfgSet ha hw h1 h10k,
      fun _ _ _ ha hw ho => runs_svcCfgSet_outside ha hw ho⟩⟩

end Sys2Proof.Machine
end

section
/-!
Engines that fail and are tested, and the segments and locks of the service MAC engines (O31).
-/

set_option Elab.async false

namespace Sys2Proof.Machine

open Claims (Runs AnsweredOk admitted)

/-! ### RETEST and TAKE_OFFLINE (R215, R217) -/

theorem exec_dgsRetest_secure {m : Master} {d : Fin 64} {s : State} (hm : m.isSecure = true) :
    exec (.dgsRetest m d) s = .next (retestDigest s d) := by
  simp [exec, execDgsRetest, hm]

theorem exec_dgsTakeOffline_secure {m : Master} {d : Fin 64} {s : State} (hm : m.isSecure = true) :
    exec (.dgsTakeOffline m d) s = .next (takeDigestOffline s d) := by
  simp [exec, execDgsTakeOffline, hm]

theorem runs_dgsRetest_failed {m : Master} {d : Fin 64} {s : State} (hm : m.isSecure = true) (hs : (digestEngine s d).state = .failed) :
    Runs (.dgsRetest m d) s fun u => (digestEngine u d).state = .selfTest ∧ (digestEngine u d).testFrom = some s.now :=
  runs_of_next (exec_dgsRetest_secure hm) (by simp [retestDigest, hs])

theorem runs_dgsRetest_refused {m : Master} {d : Fin 64} {s : State} (hm : m.isSecure = false) :
    Runs (.dgsRetest m d) s fun u => u = refuseAccess s m (digestBase d + 4) true :=
  runs_of_next (by simp [exec, execDgsRetest, hm]) rfl

/-- An engine with contexts in use goes on, and the write is kept until they are free. -/
theorem runs_dgsTakeOffline_busy {m : Master} {d : Fin 64} {s : State} (hm : m.isSecure = true) (hs : (digestEngine s d).state = .busy)
    (hx : (digestEngine s d).ctxs ≠ []) :
    Runs (.dgsTakeOffline m d) s fun u => (digestEngine u d).takeOffline = true ∧ (digestEngine u d).state = .busy := by
  have he : takeDigestOffline s d = updDigest s d fun e => { e with takeOffline := true } := by
    simp [takeDigestOffline, hs, settleDigest_of_ctxs, hx]
  exact runs_of_next (exec_dgsTakeOffline_secure hm) (by simp [he, hs])

theorem runs_dgsTakeOffline_failed {m : Master} {d : Fin 64} {s : State} (hm : m.isSecure = true)
    (hs : (digestEngine s d).state = .failed) :
    Runs (.dgsTakeOffline m d) s fun u => (digestEngine u d).state = .offline :=
  runs_of_next (exec_dgsTakeOffline_secure hm) (by simp [takeDigestOffline, hs])

/-! ### Self-tests, parity errors and known answers (R190, R202, R215, R216) -/

theorem runs_engineSelfTestEnd_digest {d : Fin 64} {p : Bool} {t : Time} {s : State} (hb : bit s.id.ready 1 = true)
    (hc : stopped s 1 = false) (hs : (digestEngine s d).state = .selfTest ∨ (digestEngine s d).state = .failed)
    (ht : testDue (advance s t) (digestEngine s d).testFrom 4096 = true) :
    Runs (.engineSelfTestEnd (.digest d) p t) s fun u => (digestEngine u d).state = if p then .idle else .offline := by
  refine runs_of_next (u := refreshDigest (updDigest (advance s t) d fun x =>
    { x with state := if p then .idle else .offline, katAt := (advance s t).now })) ?_ (by simp)
  have hs' : ((digestEngine s d).state ≠ .selfTest && (digestEngine s d).state ≠ .failed) = false := by
    rcases hs with h | h <;> simp [h]
  simp only [exec, execEngineSelfTestEnd, digestEngine_advance, stopped_advance, advance_frame, hb, hc, hs', ht]
  rfl

theorem runs_engineSelfTestEnd_svc {e : Fin 32} {p : Bool} {t : Time} {s : State} (hb : bit s.id.ready 1 = true)
    (hc : stopped s 1 = false) (hs : (svc s e).state = .selfTest ∨ (svc s e).state = .failed)
    (ht : testDue (advance s t) (svc s e).testFrom 2048 = true) :
    Runs (.engineSelfTestEnd (.svc e) p t) s fun u =>
      (svc u e).state = if p then (if (svc s e).mask.seed.isSome then .idle else .unseeded) else .offline := by
  refine runs_of_next (u := refreshSvc (updSvc (advance s t) e fun x =>
    { x with state := if !p then .offline else if (svc s e).mask.seed.isSome then .idle else .unseeded, katAt := (advance s t).now }))
    ?_ (by cases p <;> simp)
  have hs' : ((svc s e).state ≠ .selfTest && (svc s e).state ≠ .failed) = false := by
    rcases hs with h | h <;> simp [h]
  simp only [exec, execEngineSelfTestEnd, svc_advance, stopped_advance, advance_frame, hb, hc, hs', ht]
  rfl

theorem runs_engineParityError_digest {d : Fin 64} {t : Time} {s : State} (hf : (digestEngine s d).state ≠ .failed)
    (ho : (digestEngine s d).state ≠ .offline) :
    Runs (.engineParityError (.digest d) t) s fun u => ∃ v, u = refreshDigest (faultAlarm v 5 d) ∧
      ((digestEngine v d).state = .failed ∨ (digestEngine v d).state = .offline) := by
  refine runs_of_next (u := failDigest (advance s t) d) (by simp [exec, execEngineParityError, failEngine, hf, ho]) ⟨_, rfl, ?_⟩
  rw [digestEngine_updDigest_same]
  dsimp only
  split
  · exact .inr rfl
  · exact .inl rfl

theorem runs_engineParityError_svc {e : Fin 32} {t : Time} {s : State} (hf : (svc s e).state ≠ .failed) (ho : (svc s e).state ≠ .offline) :
    Runs (.engineParityError (.svc e) t) s fun u => u = failSvc (advance s t) e :=
  runs_of_next (by simp [exec, execEngineParityError, failEngine, hf, ho]) rfl

theorem runs_engineKnownAnswer_right {d : Fin 64} {t : Time} {s : State} (hc : stopped s 1 = false)
    (hs : (digestEngine s d).state = .idle) (hr : (digestEngine s d).current = none)
    (hk : katDue (advance s t) (digestEngine s d).katAt = true) :
    Runs (.engineKnownAnswer (.digest d) true t) s fun u => (digestEngine u d).katAt = (advance s t).now ∧
      (digestEngine u d).blocks = satAdd 64 (digestEngine s d).blocks 1 :=
  runs_of_next (u := updDigest (advance s t) d fun x => { x with katAt := (advance s t).now, blocks := satAdd 64 x.blocks 1 })
    (by simp [exec, execEngineKnownAnswer, hc, hs, hr, hk]) (by simp)

theorem runs_engineKnownAnswer_wrong {e : Fin 32} {t : Time} {s : State} (hc : stopped s 1 = false) (hs : (svc s e).state = .idle)
    (hk : katDue (advance s t) (svc s e).katAt = true) :
    Runs (.engineKnownAnswer (.svc e) false t) s fun u => u = failSvc (advance s t) e :=
  runs_of_next (by simp [exec, execEngineKnownAnswer, hc, hs, hk]) rfl

/-! ### Segments (R188, R197, R201) -/

/-- A segment begins: its engine is busy, and the message runs it under the key with the rest of its segments queued. -/
theorem svc_beginSegment (s : State) (e : Nat) (h : Hold) (j : SvcJob) (rest : List SvcJob) (k iv : Bytes) :
    ∃ r, svc (beginSegment s e h j rest k iv) e = { svc s e with
        state := .busy
        hold := some { h with key := some k, iv := iv, queue := rest, running := some r, idleFrom := none } } ∧
      r.job = j ∧ r.startAt = s.now :=
  ⟨_, svc_updSvc_same .., rfl, rfl⟩

theorem runs_svcSegmentStart {e : Fin 32} {t : Time} {s : State} {h : Hold} {j : SvcJob} {rest : List SvcJob} {k : Bytes}
    (hh : (svc s e).hold = some h) (hr : h.running = none) (hq : h.queue = j :: rest) (hk : h.key = some k) (hsu : suspended s = false)
    (ha : katDue (advance s t) (svc s e).katAt = false) (hs : (svc s e).state = .idle) (hm : (svc s e).mask.seed.isSome = true)
    (hst : starved (advance s t) (288 + e) = false) (hc : stopped s 1 = false) :
    Runs (.svcSegmentStart e t) s fun u => (svc u e).state = .busy ∧ ∃ h' r, (svc u e).hold = some h' ∧ h'.running = some r ∧
      h'.queue = rest ∧ h'.key = some k ∧ h'.idleFrom = none ∧ r.job = j ∧ r.startAt = (advance s t).now := by
  have hm' : (svc s e).mask.seed.isNone = false := by simpa [Option.isNone_eq_false_iff] using hm
  refine runs_of_next (u := beginSegment (advance s t) e h j rest k h.iv) ?_ ?_
  · simp [exec, execSvcSegmentStart, hh, hr, hq, hk, hsu, ha, hs, hm', hst, hc]
  · obtain ⟨r, hb, hj, hfrom⟩ := svc_beginSegment (advance s t) e h j rest k h.iv
    rw [hb]
    exact ⟨rfl, _, r, rfl, rfl, rfl, rfl, rfl, hj, hfrom⟩

/-- The bytes of a message once a segment has run. -/
def dataAfter (h : Hold) (r : SvcRun) : Bytes := h.data ++ (fragsFault r.job.block.segLen 0 r.job.block.frags).1

/-- The state in which a segment's result goes out: its engine is idle, and the message has its bytes. -/
def takeSegment (s : State) (e : Nat) (h : Hold) (r : SvcRun) : State :=
  countSvc (updSvc s e fun x => { x with
    state := .idle
    hold := some { h with data := dataAfter h r, running := none, idleFrom := if h.queue.isEmpty then some s.now else none } }) e r.blocks

theorem svc_takeSegment (s : State) (e : Nat) (h : Hold) (r : SvcRun) : (svc (takeSegment s e h r) e).state = .idle ∧
    ∃ h', (svc (takeSegment s e h r) e).hold = some h' ∧ h'.running = none ∧ h'.data = dataAfter h r ∧ h'.queue = h.queue := by
  rw [takeSegment, svc_countSvc_same, svc_updSvc_same]
  exact ⟨rfl, _, rfl, rfl, rfl, rfl⟩

/-- A segment of no derivation answers its outcome, and ends its message where it is the LAST or its fragments do not add up. -/
theorem endSegment_of_outcome (s : State) (e : Nat) {h : Hold} {r : SvcRun} {st : Status} {tag : Bytes} (hd : r.job.derive = none)
    (ho : segmentOutcome h r (dataAfter h r) = (st, tag)) :
    endSegment s e h r =
      let u := endSvc (takeSegment s e h r) r.job st e h.ticket 0 (dataAfter h r).length r.iv tag
      if r.job.block.last || st = .lengthMismatch then releaseSvc u e .aborted else u := by
  rw [dataAfter] at ho
  simp only [endSegment, ho, hd]
  rfl

theorem segmentOutcome_notLast {r : SvcRun} (h : Hold) (data : Bytes) (hm : r.mismatch = false) (hl : r.job.block.last = false) :
    segmentOutcome h r data = (.ok, []) := by
  simp [segmentOutcome, hm, hl]

theorem segmentOutcome_tag {r : SvcRun} (h : Hold) (data : Bytes) (hm : r.mismatch = false) (hl : r.job.block.last = true)
    (ho : r.job.block.op = 1) : segmentOutcome h r data = (.ok, (messageTag h data).take r.job.block.tagLen) := by
  simp [segmentOutcome, hm, hl, ho]

theorem endSegment_notLast (s : State) (e : Nat) {h : Hold} {r : SvcRun} (hm : r.mismatch = false) (hl : r.job.block.last = false)
    (hd : r.job.derive = none) :
    endSegment s e h r = endSvc (takeSegment s e h r) r.job .ok e h.ticket 0 (dataAfter h r).length r.iv [] := by
  rw [endSegment_of_outcome s e hd (segmentOutcome_notLast h _ hm hl)]
  simp [hl]

/-- The LAST segment of a message that makes a tag answers it and ends the message. -/
theorem endSegment_tag (s : State) (e : Nat) {h : Hold} {r : SvcRun} (hm : r.mismatch = false) (hl : r.job.block.last = true)
    (ho : r.job.block.op = 1) (hd : r.job.derive = none) :
    endSegment s e h r = releaseSvc (endSvc (takeSegment s e h r) r.job .ok e h.ticket 0 (dataAfter h r).length r.iv
      ((messageTag h (dataAfter h r)).take r.job.block.tagLen)) e .aborted := by
  rw [endSegment_of_outcome s e hd (segmentOutcome_tag h _ hm hl ho)]
  simp [hl]

section
variable {e : Fin 32} {t : Time} {s : State} {h : Hold} {r : SvcRun} (hc : stopped s 1 = false) (hh : (svc s e).hold = some h)
  (hr : h.running = some r) (ht : r.endAt ≤ (advance s t).now) (hm : r.mismatch = false)
include hc hh hr ht

theorem exec_svcSegmentEnd : exec (.svcSegmentEnd e t) s = .next (endSegment (advance s t) e h r) := by
  simp [exec, execSvcSegmentEnd, hc, hh, hr, Nat.not_lt.mpr ht]

include hm

theorem runs_svcSegmentEnd_notLast (hl : r.job.block.last = false) (hd : r.job.derive = none) :
    Runs (.svcSegmentEnd e t) s fun u => ∃ v data, data = h.data ++ (fragsFault r.job.block.segLen 0 r.job.block.frags).1 ∧
      u = endSvc v r.job .ok e h.ticket 0 data.length r.iv [] ∧ (svc v e).state = .idle ∧
      ∃ h', (svc v e).hold = some h' ∧ h'.running = none ∧ h'.data = data ∧ h'.queue = h.queue :=
  runs_of_next (exec_svcSegmentEnd hc hh hr ht)
    ⟨takeSegment (advance s t) e h r, dataAfter h r, rfl, endSegment_notLast _ _ hm hl hd, svc_takeSegment ..⟩

theorem runs_svcSegmentEnd_last (hl : r.job.block.last = true) (ho : r.job.block.op = 1) (hd : r.job.derive = none) :
    Runs (.svcSegmentEnd e t) s fun u => ∃ v data, data = h.data ++ (fragsFault r.job.block.segLen 0 r.job.block.frags).1 ∧
      u = releaseSvc (endSvc v r.job .ok e h.ticket 0 data.length r.iv ((messageTag h data).take r.job.block.tagLen)) e .aborted :=
  runs_of_next (exec_svcSegmentEnd hc hh hr ht)
    ⟨takeSegment (advance s t) e h r, dataAfter h r, rfl, endSegment_tag _ _ hm hl ho hd⟩

end

/-! ### Locks released (R188, R198, R199) -/

/-- The release of a message with no segment queued changes its engine alone. -/
theorem releaseSvc_of_none_queued {s : State} {e : Nat} {h : Hold} (st : Status) (hh : (svc s e).hold = some h) (hq : h.queue = []) :
    releaseSvc s e st = updSvc s e fun x => { x with
      hold := none, state := if x.state = .busy then .idle else x.state, zeroUntil := s.now + zeroTime } := by
  simp only [releaseSvc, hh, hq]
  rfl

/-- The engine is free and zeroes itself. -/
theorem svc_releaseSvc {s : State} {e : Nat} {h : Hold} (st : Status) (hh : (svc s e).hold = some h) (hq : h.queue = []) :
    (svc (releaseSvc s e st) e).hold = none ∧ (svc (releaseSvc s e st) e).zeroUntil = s.now + 32 * xclkT := by
  rw [releaseSvc_of_none_queued st hh hq, svc_updSvc_same]
  exact ⟨rfl, rfl⟩

theorem svcTimeouts_releaseSvc {s : State} {e : Nat} {h : Hold} (st : Status) (hh : (svc s e).hold = some h) (hq : h.queue = []) :
    (releaseSvc s e st).eng.svcTimeouts = s.eng.svcTimeouts := by
  rw [releaseSvc_of_none_queued st hh hq]
  rfl

/-- Where no segment runs, the stop of a message is its release. -/
theorem stopSvc_of_none_running {s : State} {e : Nat} {h : Hold} (st queued : Status) (hh : (svc s e).hold = some h)
    (hr : h.running = none) : stopSvc s e st queued = releaseSvc s e queued := by
  simp only [stopSvc, hh, hr]

/-- The state that has counted one expiry of the idle timer. -/
def countIdleTimeout (s : State) : State := { s with eng := { s.eng with svcTimeouts := sat32 s.eng.svcTimeouts } }

theorem runs_svcIdleTimeout {e : Fin 32} {t : Time} {s : State} {h : Hold} {f : Time} (hc : stopped s 1 = false)
    (hh : (svc s e).hold = some h) (hf : h.idleFrom = some f) (hq : h.queue = []) (ht : f + idleLimit s ≤ (advance s t).now) :
    Runs (.svcIdleTimeout e t) s fun u => (svc u e).hold = none ∧ u.eng.svcTimeouts = sat32 s.eng.svcTimeouts ∧
      (svc u e).zeroUntil = (advance s t).now + 32 * xclkT := by
  have hh' : (svc (countIdleTimeout (advance s t)) e).hold = some h := by rwa [← svc_advance s t e] at hh
  refine runs_of_next (u := releaseSvc (countIdleTimeout (advance s t)) e .aborted) ?_ ?_
  · have hl : idleLimit (advance s t) = idleLimit s := by simp [idleLimit]
    simp only [exec, execSvcIdleTimeout, svc_advance, hh, Option.bind_some, hf, hl, Nat.not_lt.mpr ht, stopped_advance, hc]
    rfl
  · obtain ⟨hfree, hzero⟩ := svc_releaseSvc .aborted hh' hq
    exact ⟨hfree, (svcTimeouts_releaseSvc .aborted hh' hq).trans (by simp [countIdleTimeout]), hzero⟩

section
variable {c : Cmd} {s : State} {h : Hold} (ha : admitted s c 0x0402 = true) (he : leAt (c.bytes 0x10) 0 1 < 32)
  (hh : (svc s (leAt (c.bytes 0x10) 0 1)).hold = some h) (ht : h.ticket = leAt (c.bytes 0x10) 2 2)
include ha he hh ht

theorem runs_svcAbort_holder (hu : h.user = userId c.caller) (hr : h.running = none) (hq : h.queue = []) :
    Runs (.svcAbort c) s fun u => AnsweredOk u c [] ∧ (svc u (leAt (c.bytes 0x10) 0 1)).hold = none := by
  refine runs_of_admitted rfl ha ?_
  simp only [he, hh, ht, hu, hr, abortMessage, if_true, Option.filter_some, beq_self_eq_true, ne_eq, not_true_eq_false, if_false]
  refine ⟨answeredOk_answerOk .., ?_⟩
  rw [svc_answerOk]
  exact (svc_releaseSvc .aborted hh hq).1

theorem runs_svcAbort_other (hu : h.user ≠ userId c.caller) :
    Runs (.svcAbort c) s fun u => u = answerStatus s c.reply .notPermitted :=
  runs_of_admitted rfl ha (by
    simp only [he, hh, ht, hu, if_true, Option.filter_some, beq_self_eq_true, ne_eq, not_false_eq_true])

end

theorem runs_forceRelease {m : Master} {e : Fin 32} {s : State} {h : Hold} (hm : m.isSecure = true) (hh : (svc s e).hold = some h)
    (hr : h.running = none) (hq : h.queue = []) :
    Runs (.forceRelease m e) s fun u => (svc u e).hold = none ∧ (svc u e).zeroUntil = s.now + 32 * xclkT :=
  runs_of_next (u := releaseSvc s e .aborted) (by simp [exec, execForceRelease, hm, stopSvc_of_none_running, hh, hr])
    (svc_releaseSvc .aborted hh hq)

/-- Settles O31: each row by the branch that its engine and the moment lead to, a segment's end by what its message has taken, and every
release by the one lemma about a message with no segment queued. -/
theorem enginesFailTestAndSegment : Obligations.EnginesFailTestAndSegment :=
  ⟨⟨fun _ _ _ hm hs => runs_dgsRetest_failed hm hs, fun _ _ _ hm => runs_dgsRetest_refused hm,
      fun _ _ _ hm hs hx => runs_dgsTakeOffline_busy hm hs hx, fun _ _ _ hm hs => runs_dgsTakeOffline_failed hm hs,
      fun _ _ _ _ hb hc hs ht => runs_engineSelfTestEnd_digest hb hc hs ht,
      fun _ _ _ _ hb hc hs ht => runs_engineSelfTestEnd_svc hb hc hs ht,
      fun _ _ _ hf ho => runs_engineParityError_digest hf ho, fun _ _ _ hf ho => runs_engineParityError_svc hf ho,
      fun _ _ _ hc hs hr hk => runs_engineKnownAnswer_right hc hs hr hk, fun _ _ _ hc hs hk => runs_engineKnownAnswer_wrong hc hs hk⟩,
    ⟨fun _ _ _ _ _ _ _ hh hr hq hk hsu ha hs hm hst hc => runs_svcSegmentStart hh hr hq hk hsu ha hs hm hst hc,
      fun _ _ _ _ _ hc hh hr ht hm hl hd => runs_svcSegmentEnd_notLast hc hh hr ht hm hl hd,
      fun _ _ _ _ _ hc hh hr ht hm hl ho hd _ => runs_svcSegmentEnd_last hc hh hr ht hm hl ho hd,
      fun _ _ _ _ _ hc hh hf hq ht => runs_svcIdleTimeout hc hh hf hq ht,
      fun _ _ _ ha he hh ht hu hr hq => runs_svcAbort_holder ha he hh ht hu hr hq,
      fun _ _ _ ha he hh ht hu => runs_svcAbort_other ha he hh ht hu,
      fun _ _ _ _ hm hh hr hq => runs_forceRelease hm hh hr hq⟩⟩

end Sys2Proof.Machine
end

section
/-!
Noise cells, known-answer tests that end, and the generate calls and reseeds of the DRBG instances (O34).
-/

set_option Elab.async false

namespace Sys2Proof.Machine

open Claims (Runs)

/-! ### Cells and instances after an update -/

theorem cell_of_rng_eq {s u : State} (h : u.rng = s.rng) (c : Nat) : cell u c = cell s c := by rw [cell, cell, h]

theorem inst_of_rng_eq {s u : State} (h : u.rng = s.rng) (i : Nat) : inst u i = inst s i := by rw [inst, inst, h]

@[simp] theorem cell_advance (s : State) (t : Time) (c : Nat) : cell (advance s t) c = cell s c := cell_of_rng_eq (by simp) c

@[simp] theorem inst_advance (s : State) (t : Time) (i : Nat) : inst (advance s t) i = inst s i := inst_of_rng_eq (by simp) i

@[simp] theorem cell_updCell_same (s : State) (c : Nat) (f : Cell → Cell) : cell (updCell s c f) c = f (cell s c) := by
  simp [cell, updCell]

@[simp] theorem inst_updInst_same (s : State) (i : Nat) (f : Instance → Instance) : inst (updInst s i f) i = f (inst s i) := by
  simp [inst, updInst]

/-- Of the generator the end of start-up changes nothing but its READY (R233). -/
theorem refreshReady_rng (s : State) : ∃ b, (refreshReady s).rng = { s.rng with ready := b } := by
  unfold refreshReady
  dsimp only
  split
  · exact ⟨true, rfl⟩
  · exact ⟨s.rng.ready, rfl⟩

@[simp] theorem inst_refreshReady (s : State) (i : Nat) : inst (refreshReady s) i = inst s i := by
  obtain ⟨b, h⟩ := refreshReady_rng s
  rw [inst, inst, h]

@[simp] theorem fifo_refreshReady (s : State) : (refreshReady s).rng.fifo = s.rng.fifo := by
  obtain ⟨b, h⟩ := refreshReady_rng s
  rw [h]

/-! ### The flags of the generator that a fault leaves -/

/-- Whether samples are taken, whether the known-answer tests of start-up are done, and whether the test source is on. -/
def rngFlags (s : State) : Bool × Bool × Bool := (s.rng.sampling, s.rng.katDone, s.rng.testSource)

theorem rngFlags_of_rng_eq {s u : State} (h : u.rng = s.rng) : rngFlags u = rngFlags s := by rw [rngFlags, rngFlags, h]

/-- What every step of a fold leaves as it is, the fold leaves as it is. -/
theorem foldl_keeps {α β : Type} (g : State → β) {f : State → α → State} (hf : ∀ s x, g (f s x) = g s) (l : List α) (s : State) :
    g (l.foldl f s) = g s := by
  induction l generalizing s with
  | nil => rfl
  | cons x l ih => rw [List.foldl_cons, ih, hf]

theorem rngFlags_updCell (s : State) (c : Nat) (f : Cell → Cell) : rngFlags (updCell s c f) = rngFlags s := rfl

theorem rngFlags_updInst (s : State) (i : Nat) (f : Instance → Instance) : rngFlags (updInst s i f) = rngFlags s := rfl

theorem rngFlags_event (s : State) (i v d : Nat) : rngFlags (event s i v d) = rngFlags s := rngFlags_of_rng_eq (by simp only [event_frame])

theorem rngFlags_refuseDraw (s : State) (r : DrawReq) : rngFlags (refuseDraw s r) = rngFlags s := rngFlags_of_rng_eq (by simp)

theorem rngFlags_queueDraw (s : State) (h : Nat) (p : Bool) (r : DrawReq) : rngFlags (queueDraw s h p r) = rngFlags s := by
  unfold queueDraw
  dsimp only
  split
  · exact rngFlags_refuseDraw _ r
  · rfl

theorem rngFlags_moveDraws (s : State) (i : Nat) : rngFlags (moveDraws s i) = rngFlags s := by
  unfold moveDraws
  dsimp only
  exact (foldl_keeps rngFlags (fun s (r : DrawReq) => rngFlags_queueDraw s i false { r with got := [] }) _ _).trans
    (foldl_keeps rngFlags (fun s (r : DrawReq) => rngFlags_queueDraw s i true { r with got := [] }) _ _)

theorem rngFlags_refuseWaiting (s : State) (i : Nat) : rngFlags (refuseWaiting s i) = rngFlags s :=
  foldl_keeps rngFlags rngFlags_refuseDraw _ _

theorem rngFlags_failRng (s : State) : rngFlags (failRng s) = rngFlags s := by
  unfold failRng
  split
  · rfl
  · exact foldl_keeps rngFlags rngFlags_refuseWaiting _ _

theorem rngFlags_refreshSeeding (s : State) : rngFlags (refreshSeeding s) = rngFlags s := by
  have hskip : rngFlags ((List.range 16).foldl (fun s c => updCell s c fun x => { x with skip := !x.block.isEmpty }) s) = rngFlags s :=
    foldl_keeps rngFlags (fun s c => rngFlags_updCell s c _) _ s
  unfold refreshSeeding
  dsimp only
  split
  · rfl
  · split
    · split
      · exact (rngFlags_event ..).trans hskip
      · exact hskip
    · split
      · rfl
      · exact rngFlags_event ..

theorem rngFlags_failUnit (s : State) (u : Nat) : rngFlags (failUnit s u) = rngFlags s := by
  unfold failUnit
  dsimp only
  split
  · exact rngFlags_refreshSeeding _
  · split
    · exact (rngFlags_failRng _).trans (rngFlags_moveDraws _ u)
    · exact rngFlags_moveDraws _ u

/-! ### Known-answer tests that end (R236, R237, R241) -/

theorem settleKat_of_none {s : State} (h : s.rng.katRun = none) : settleKat s = s := by simp [settleKat, h]

theorem settleKat_advance_of_none {s : State} (h : s.rng.katRun = none) (t : Time) : settleKat (advance s t) = advance s t :=
  settleKat_of_none (by simp [h])

theorem katHolds_of_none {s : State} (h : s.rng.katRun = none) (i : Nat) : katHolds s i = false := by simp [katHolds, h]

/-- The state in which the outcome of a test stands in the registers, before a failed unit is dealt with. -/
def recordKat (s : State) (st : Status) : State := { s with rng := { s.rng with katStatus := Status.code st, katRun := none } }

theorem rng_settleKat_passed {s : State} {k : KatRun} (hk : s.rng.katRun = some k) (hd : k.endsAt ≤ s.now) (hp : k.passes = true) :
    (settleKat s).rng = (recordKat s .ok).rng := by
  simp only [settleKat, hk, Nat.not_lt.mpr hd, hp, if_true, if_false]
  cases k.reply with
  | none => rfl
  | some r => simp [recordKat]

theorem settleKat_failed {s : State} {k : KatRun} (hk : s.rng.katRun = some k) (hd : k.endsAt ≤ s.now) (hp : k.passes = false)
    (hr : k.reply = none) : settleKat s = failUnit (recordKat s .faultDetected) k.unit := by
  simp [settleKat, hk, Nat.not_lt.mpr hd, hp, hr, recordKat]

/-- An instance that is FAILED from now on, its working state gone and its alarm on the way. -/
def markFailed (s : State) (i : Nat) : State :=
  updInst (faultAlarm s 6 i) i fun x => { x with state := 4, drbg := {}, askedAt := none }

theorem inst_markFailed_same (s : State) (i : Nat) :
    inst (markFailed s i) i = { inst s i with state := 4, drbg := {}, askedAt := none } := by
  rw [markFailed, inst_updInst_same, inst_of_rng_eq (s := s) (u := faultAlarm s 6 i) (by simp)]

/-- An instance that fails with no request waiting is FAILED and raises its alarm; with it the whole generator may fail (R234). -/
theorem failUnit_idle {s : State} {i : Nat} (hi : i < 8) (hp : (inst s i).priority = []) (hn : (inst s i).normal = []) :
    ∃ v, (failUnit s i = v ∨ failUnit s i = failRng v) ∧ (inst v i).state = 4 ∧ v.rng.katRun = s.rng.katRun ∧
      v.rng.katStatus = s.rng.katStatus ∧ v.lan.faultQ = s.lan.faultQ ++ [(6, i)] := by
  have hm : moveDraws (markFailed s i) i = updInst (markFailed s i) i fun x => { x with priority := [], normal := [] } := by
    simp [moveDraws, inst_markFailed_same, hp, hn]
  have hu : failUnit s i = moveDraws (markFailed s i) i ∨ failUnit s i = failRng (moveDraws (markFailed s i) i) := by
    simp only [failUnit, Nat.ne_of_lt hi, if_false]
    split
    · exact .inr rfl
    · exact .inl rfl
  rw [hm] at hu
  exact ⟨_, hu, by simp [inst_markFailed_same], rfl, rfl, rfl⟩

/-! ### Samples and spans (R219, R225, R241) -/

theorem exec_noiseSample_idle {bits : BitVec 16} {t : Time} {s : State} (h : (settleKat (advance s t)).rng.sampling = false) :
    exec (.noiseSample bits t) s = .next (settleKat (advance s t)) := by
  simp [exec, execNoiseSample, h]

theorem runs_noiseSample_bits {bits : BitVec 16} {t : Time} {s : State} (hs : s.rng.sampling = true) (hk : s.rng.katRun = none)
    (ht : s.rng.testSource = false) :
    Runs (.noiseSample bits t) s fun u => u = (List.range 16).foldl (fun s c => cellSample s c (bits.getLsbD c)) (advance s t) :=
  runs_of_next (by simp [exec, execNoiseSample, settleKat_advance_of_none hk, hs, ht]) rfl

/-- The pattern memory moves on to its next sample. -/
def nextPattern (s : State) : State := { s with rng := { s.rng with patternPos := (s.rng.patternPos + 1) % 32768 } }

theorem nextPattern_rng (s : State) :
    (nextPattern s).rng = { s.rng with patternPos := (s.rng.patternPos + 1) % 32768 } := rfl

/-- While the test source is on, every cell takes the bit at which the pattern stands (log entry 41). -/
theorem runs_noiseSample_pattern {bits : BitVec 16} {t : Time} {s : State} (hs : s.rng.sampling = true) (hk : s.rng.katRun = none)
    (ht : s.rng.testSource = true) :
    Runs (.noiseSample bits t) s fun u =>
      ∃ v, v = (List.range 16).foldl (fun s' c => cellSample s' c (patternBit s)) (advance s t) ∧
        u.rng.patternPos = (v.rng.patternPos + 1) % 32768 ∧ u.rng.cells = v.rng.cells ∧ u.rng.fifo = v.rng.fifo := by
  have hb : patternBit (advance s t) = patternBit s := by simp [patternBit]
  have he : exec (.noiseSample bits t) s =
      .next (nextPattern ((List.range 16).foldl (fun s' c => cellSample s' c (patternBit s)) (advance s t))) := by
    simp only [exec, execNoiseSample, settleKat_advance_of_none hk, advance_frame, hs, ht, hb, Bool.not_true, Bool.false_eq_true, if_false,
      if_true, nextPattern]
  exact runs_of_next he ⟨_, rfl, by simp only [nextPattern_rng, and_self]⟩

theorem runs_noiseSample_unlocked {bits : BitVec 16} {t : Time} {s : State} (hs : s.rng.sampling = false) (hk : s.rng.katRun = none) :
    Runs (.noiseSample bits t) s fun u => u = advance s t := by
  have he := settleKat_advance_of_none hk t
  exact runs_of_next (exec_noiseSample_idle (by simp [he, hs])) he

section
variable {bits : BitVec 16} {t : Time} {s : State} {k : KatRun} (hs : s.rng.sampling = false) (hk : s.rng.katRun = some k)
  (hd : k.endsAt ≤ (advance s t).now)
include hs hk hd

/-- A test whose cycles have passed ends at this row, the next event of the generator (log entry 120). -/
theorem runs_noiseSample_katPassed (hp : k.passes = true) :
    Runs (.noiseSample bits t) s fun u => u.rng.katRun = none ∧ u.rng.katStatus = 0 ∧ u.rng.instances = s.rng.instances := by
  have he := rng_settleKat_passed (s := advance s t) (by simp [hk]) hd hp
  exact runs_of_next (exec_noiseSample_idle (by simp [he, recordKat, hs])) (by simp [he, recordKat, Status.code])

theorem runs_noiseSample_katFailed (hp : k.passes = false) (hu : k.unit < 8) (hr : k.reply = none)
    (hq : (inst s k.unit).priority = []) (hn : (inst s k.unit).normal = []) :
    Runs (.noiseSample bits t) s fun u => ∃ v, (u = v ∨ u = failRng v) ∧ (inst v k.unit).state = 4 ∧ v.rng.katRun = none ∧
      v.rng.katStatus = Status.code .faultDetected ∧ v.lan.faultQ = s.lan.faultQ ++ [(6, k.unit)] := by
  have he := settleKat_failed (s := advance s t) (by simp [hk]) hd hp hr
  have hi : inst (recordKat (advance s t) .faultDetected) k.unit = inst s k.unit := inst_advance s t k.unit
  have hf := congrArg Prod.fst (rngFlags_failUnit (recordKat (advance s t) .faultDetected) k.unit)
  obtain ⟨v, hv, h4, hrun, hst, hlan⟩ := failUnit_idle hu (hi ▸ hq) (hi ▸ hn)
  refine runs_of_next (exec_noiseSample_idle ?_) ⟨v, he ▸ hv, h4, hrun, hst, by simpa [recordKat] using hlan⟩
  rw [he]
  exact hf.trans (by simp [rngFlags, recordKat, hs])

end

theorem runs_spanEnd_whole {c : Fin 16} {t : Time} {s : State} (h : (cell s c).spanPos = 65536) :
    Runs (.spanEnd c t) s fun u => cell u c = endSpan (cell s c) :=
  runs_of_next (u := updCell (advance s t) c endSpan) (by simp [exec, execSpanEnd, h]) (by simp)

theorem runs_spanEnd_early {c : Fin 16} {t : Time} {s : State} (h : (cell s c).spanPos ≠ 65536) :
    Runs (.spanEnd c t) s fun u => u = advance s t :=
  runs_of_next (by simp [exec, execSpanEnd, h]) rfl

/-! ### Generate calls (R227, R231) -/

/-- What one call of an instance leaves: the generator's next state, and one more call counted. -/
theorem inst_instCalls (s : State) (i k n : Nat) : (inst (instCalls s i k n).2 i).drbg = ((inst s i).drbg.request k n).2 ∧
    (inst (instCalls s i k n).2 i).calls = (inst s i).calls + k := by
  simp [instCalls, countCalls]

section
variable {i : Fin 8} {t : Time} {s : State} {r : DrawReq} {p : Bool}

theorem exec_drbgGenerateCall (hc : stopped s 1 = false) (hk : s.rng.katRun = none) (hi : (inst s i).state = 1)
    (hf : s.rng.failed = false) (ht : s.rng.testSource = false) :
    exec (.drbgGenerateCall i t) s = .next (serveCall (advance s t) i) := by
  have hh : katHolds (advance s t) i = false := katHolds_of_none (by simp [hk]) i
  simp [exec, execDrbgGenerateCall, settleKat_advance_of_none hk, hh, hc, hi, hf, ht]

theorem serveCall_refused {s : State} {i : Nat} (hd : nextDraw (inst s i) = some (r, p))
    (h : 2 ^ 24 < (inst s i).calls + callsFor r.size) (hg : r.got = []) :
    serveCall s i = refuseDraw (countRefused (putDraw s i p none) i 1) r := by
  simp only [serveCall, hd, hg, List.isEmpty_nil, Bool.true_and, decide_eq_true_eq, if_pos h]

theorem serveCall_whole {s : State} {i : Nat} (hd : nextDraw (inst s i) = some (r, p))
    (h : (inst s i).calls + callsFor r.size ≤ 2 ^ 24) (hg : r.got = []) (h512 : r.size ≤ 512)
    (hb : r.size ≤ ((inst s i).drbg.request 1 r.size).1.length) :
    serveCall s i = drainExhausted (deliverDraw (putDraw (instCalls s i 1 r.size).2 i p none) r
      ((inst s i).drbg.request 1 r.size).1) i := by
  have hs : min 512 (r.size - ([] : Bytes).length) = r.size := by simp [h512]
  have hi : (instCalls s i 1 r.size).1 = ((inst s i).drbg.request 1 r.size).1 := rfl
  simp only [serveCall, hd, hg, hs, hi, List.isEmpty_nil, Bool.true_and, decide_eq_true_eq, if_neg (Nat.not_lt.mpr h),
    List.nil_append, if_pos hb]

theorem runs_drbgGenerateCall_refused (hc : stopped s 1 = false) (hk : s.rng.katRun = none) (hi : (inst s i).state = 1)
    (hf : s.rng.failed = false) (ht : s.rng.testSource = false) (hd : nextDraw (inst s i) = some (r, p))
    (h : 2 ^ 24 < (inst s i).calls + callsFor r.size) (hg : r.got = []) :
    Runs (.drbgGenerateCall i t) s fun u => u = refuseDraw (countRefused (putDraw (advance s t) i p none) i 1) r :=
  runs_of_next (exec_drbgGenerateCall hc hk hi hf ht)
    (serveCall_refused (by rwa [inst_advance]) (by rwa [inst_advance]) hg)

theorem runs_drbgGenerateCall_served (hc : stopped s 1 = false) (hk : s.rng.katRun = none) (hi : (inst s i).state = 1)
    (hf : s.rng.failed = false) (ht : s.rng.testSource = false) (hd : nextDraw (inst s i) = some (r, p))
    (h : (inst s i).calls + callsFor r.size ≤ 2 ^ 24) (hg : r.got = []) (h512 : r.size ≤ 512) :
    Runs (.drbgGenerateCall i t) s fun u => ∀ b d, (inst s i).drbg.request 1 r.size = (b, d) → r.size ≤ b.length →
      ∃ v, u = drainExhausted (deliverDraw (putDraw v i p none) r b) i ∧ (inst v i).drbg = d ∧
        (inst v i).calls = (inst s i).calls + 1 := by
  refine runs_of_next (exec_drbgGenerateCall hc hk hi hf ht) fun b d hq hb => ⟨(instCalls (advance s t) i 1 r.size).2, ?_, ?_⟩
  · rw [serveCall_whole (by rwa [inst_advance]) (by rwa [inst_advance]) hg h512 (by rwa [inst_advance, hq]), inst_advance, hq]
  · have hv := inst_instCalls (advance s t) i 1 r.size
    rwa [inst_advance, hq] at hv

theorem runs_drbgGenerateCall_failed (hk : s.rng.katRun = none) (hf : s.rng.failed = true) :
    Runs (.drbgGenerateCall i t) s fun u => u = advance s t :=
  runs_of_next (by simp [exec, execDrbgGenerateCall, settleKat_advance_of_none hk, hf]) rfl

/-! ### Reseeds (R221, R226, R230) -/

theorem seedNext_advance (s : State) (t : Time) : seedNext (advance s t) = seedNext s := by simp [seedNext, asksSeed]

theorem seedInstance_of_cons {s : State} {e : Bytes} {rest : List Bytes} (h : s.rng.fifo = e :: rest) (i : Nat) :
    (seedInstance s i).rng.fifo = rest ∧ inst (seedInstance s i) i = { inst s i with
      drbg := if (inst s i).state = 0 then drbgInstantiate e s.id.serial i else (inst s i).drbg.update e
      state := 1, calls := 0, askedAt := none,
      reseeds := if (inst s i).state = 0 then (inst s i).reseeds else sat64 (inst s i).reseeds } := by
  rw [seedInstance, h]
  exact ⟨rfl, inst_updInst_same ..⟩

theorem runs_drbgReseed_oldest {e : Bytes} {rest : List Bytes} (hc : stopped s 1 = false) (hk : s.rng.katRun = none)
    (hn : seedNext s = some i.val) (hq : s.rng.fifo = e :: rest) (hd : s.rng.katDone = true) (hf : s.rng.failed = false) :
    Runs (.drbgReseed i t) s fun u => u.rng.fifo = rest ∧ (inst u i).state = 1 ∧ (inst u i).calls = 0 ∧ (inst u i).askedAt = none ∧
      (inst u i).drbg = (if (inst s i).state = 0 then drbgInstantiate e s.id.serial i else (inst s i).drbg.update e) := by
  have he : exec (.drbgReseed i t) s = .next (refreshReady (seedInstance (advance s t) i)) := by
    simp [exec, execDrbgReseed, settleKat_advance_of_none hk, seedNext_advance, hc, hn, hq, hd, hf]
  refine runs_of_next he ?_
  obtain ⟨hfifo, hinst⟩ := seedInstance_of_cons (s := advance s t) (e := e) (rest := rest) (by simp [hq]) i
  simp [hfifo, hinst]

theorem runs_drbgReseed_empty (hk : s.rng.katRun = none) (hq : s.rng.fifo = []) :
    Runs (.drbgReseed i t) s fun u => u = advance s t :=
  runs_of_next (by simp [exec, execDrbgReseed, settleKat_advance_of_none hk, hq]) rfl

end

/-- Settles O34: samples, spans and seeds by the branch that the generator's flags lead to, a failed test by what a unit's failure leaves,
and a generate call by what one call of an instance does. One pattern bit for all cells is the model's choice (log entry 41), and so is a
test that ends at the generator's next event (log entry 120). -/
theorem noiseAndInstances : Obligations.NoiseAndInstances :=
  ⟨⟨fun _ _ _ hs hk ht => runs_noiseSample_bits hs hk ht, fun _ _ _ hs hk ht => runs_noiseSample_pattern hs hk ht,
      fun _ _ _ hs hk => runs_noiseSample_unlocked hs hk, fun _ _ _ _ hs hk hd hp => runs_noiseSample_katPassed hs hk hd hp,
      fun _ _ _ _ hs hk hd hp hu hr hq hn => runs_noiseSample_katFailed hs hk hd hp hu hr hq hn,
      fun _ _ _ h => runs_spanEnd_whole h, fun _ _ _ h => runs_spanEnd_early h⟩,
    ⟨fun _ _ _ _ _ hc hk hi hf ht hd h hg => runs_drbgGenerateCall_refused hc hk hi hf ht hd h hg,
      fun _ _ _ _ _ hc hk hi hf ht hd h hg h512 => runs_drbgGenerateCall_served hc hk hi hf ht hd h hg h512,
      fun _ _ _ hk hf => runs_drbgGenerateCall_failed hk hf,
      fun _ _ _ _ _ hc hk hn hq hd hf => runs_drbgReseed_oldest hc hk hn hq hd hf,
      fun _ _ _ hk hq => runs_drbgReseed_empty hk hq⟩⟩

end Sys2Proof.Machine
end

section
/-!
The start-up and the tests of the random number generator, and what its commands answer (O35).
-/

set_option Elab.async false

namespace Sys2Proof.Machine

open Claims (Runs UnderQuorum AnsweredOk admitted)

/-! ### A generator that fails (R234) -/

theorem failed_refuseWaiting (s : State) (i : Nat) : (refuseWaiting s i).rng.failed = s.rng.failed :=
  foldl_keeps (·.rng.failed) (f := refuseDraw) (fun s r => by simp) _ _

theorem failed_refuseAll (l : List Nat) (s : State) : (l.foldl refuseWaiting s).rng.failed = s.rng.failed :=
  foldl_keeps (·.rng.failed) (f := refuseWaiting) failed_refuseWaiting l s

@[simp] theorem failed_failRng (s : State) : (failRng s).rng.failed = true := by
  unfold failRng
  split
  · assumption
  · simp only [failed_refuseAll, faultAlarm_frame, disapprove_frame, setReady_frame]

/-! ### Start-up (R233, R234) -/

/-- The known-answer tests of start-up are done once they have run, whatever they find. -/
theorem rngFlags_startTests (s : State) (ok : Bool) (oks : BitVec 8) :
    rngFlags (startTests s ok oks) = (s.rng.sampling, true, s.rng.testSource) := by
  have hunit (s : State) (i : Nat) : rngFlags (if oks.getLsbD i then s else failUnit s i) = rngFlags s := by
    split
    · rfl
    · exact rngFlags_failUnit s i
  have hunits (s : State) :
      rngFlags ((List.range 8).foldl (fun s i => if oks.getLsbD i then s else failUnit s i) s) = rngFlags s :=
    foldl_keeps rngFlags hunit (List.range 8) s
  cases ok with
  | true =>
    simp only [startTests, if_true, hunits]
    rfl
  | false =>
    simp only [startTests, Bool.false_eq_true, if_false, rngFlags_failRng, hunits, rngFlags_failUnit]
    rfl

theorem katDone_startTests (s : State) (ok : Bool) (oks : BitVec 8) : (startTests s ok oks).rng.katDone = true :=
  congrArg (·.2.1) (rngFlags_startTests s ok oks)

theorem failed_startTests (s : State) (oks : BitVec 8) : (startTests s false oks).rng.failed = true := failed_failRng _

section
variable {oks : BitVec 8} {t : Time} {s : State} (hc : stopped s 1 = false) (hk : s.rng.katRun = none) (ht : s.rng.testSource = false)
include hc hk ht

theorem runs_rngStartup_tested {ok : Bool} (hd : s.rng.katDone = true) (hf : s.rng.failed = false)
    (hcells : ∀ c < 16, (cell s c).state ≠ 0) :
    Runs (.rngStartup ok oks t) s fun u => u = refreshReady (instantiate (advance s t)) := by
  have hall : ((List.range 16).all fun c => (cell s c).state ≠ 0) = true := by
    simpa only [List.all_eq_true, List.mem_range, decide_eq_true_eq] using hcells
  refine runs_of_next ?_ rfl
  simp only [exec, execRngStartup, settleKat_advance_of_none hk, stopped_advance, advance_frame, cell_advance, hc, ht, hd, hf, hall,
    Bool.or_self, Bool.not_true, Bool.false_eq_true, if_true, if_false]

theorem runs_rngStartup_conditionerFails (hd : s.rng.katDone = false) :
    Runs (.rngStartup false oks t) s fun u => u.rng.failed = true ∧ u.rng.katDone = true := by
  refine runs_of_next (u := startTests (advance s t) false oks) ?_ ⟨failed_startTests _ oks, katDone_startTests _ false oks⟩
  simp only [exec, execRngStartup, settleKat_advance_of_none hk, stopped_advance, advance_frame, hc, ht, hd, failed_startTests,
    Bool.or_true, Bool.or_self, Bool.false_eq_true, if_true, if_false]

end

theorem runs_rngStartupTimeout_late {t : Time} {s : State} (hb : bit s.id.ready 3 = false) (ht : s.rng.testSource = false)
    (hr : s.rng.resumed = false) (hl : s.id.bootAt + 8 * msT ≤ (advance s t).now) :
    Runs (.rngStartupTimeout t) s fun u => u.rng.failed = true :=
  runs_of_next (u := failRng (advance s t)) (by simp [exec, execRngStartupTimeout, hb, ht, hr, Nat.not_lt.mpr hl])
    (failed_failRng _)

theorem runs_rngStartupTimeout_ready {t : Time} {s : State} (hb : bit s.id.ready 3 = true) :
    Runs (.rngStartupTimeout t) s fun u => u = advance s t :=
  runs_of_next (by simp [exec, execRngStartupTimeout, hb]) rfl

/-! ### Known-answer tests on request (R236, R241) -/

theorem runs_katStart {m : Master} {k : Nat} {p : Bool} {s : State} (hm : m.isSecure = true) (h8 : k ≤ 8) (hk : s.rng.katRun = none) :
    Runs (.katStart m k p) s fun u => u.rng.katStatus = Status.code .pending ∧ u.rng.katUnit = k ∧ u.rng.instances = s.rng.instances ∧
      u.rng.katRun = some { unit := k, passes := p, endsAt := s.now + (if k = 8 then 128 else 512) * xclkT, reply := none } :=
  runs_of_next (u := startKat s k p none) (by simp [exec, execKatStart, hm, hk, Nat.not_lt.mpr h8]) ⟨rfl, rfl, rfl, rfl⟩

theorem runs_katStart_refused {m : Master} {k : Nat} {p : Bool} {s : State} (hm : m.isSecure = false) :
    Runs (.katStart m k p) s fun u => u = refuseAccess s m 0x50D00 true :=
  runs_of_next (by simp [exec, execKatStart, hm]) rfl

/-! ### The test source (R238, R241) -/

theorem testSource_refreshSeeding (s : State) : (refreshSeeding s).rng.testSource = s.rng.testSource :=
  congrArg (·.2.2) (rngFlags_refreshSeeding s)

theorem testSource_updCells (f : Cell → Cell) (l : List Nat) (s : State) :
    (l.foldl (fun s c => updCell s c f) s).rng.testSource = s.rng.testSource :=
  congrArg (·.2.2) (foldl_keeps rngFlags (fun s c => rngFlags_updCell s c f) l s)

@[simp] theorem testSource_setTestSource (s : State) (on : Bool) : (setTestSource s on).rng.testSource = on := by
  by_cases h : s.rng.testSource = on
  · rw [setTestSource, if_pos h, h]
  · cases on with
    | true => simp only [setTestSource, if_neg h, if_true, testSource_refreshSeeding, setReady_frame]
    | false =>
      simp only [setTestSource, if_neg h, Bool.false_eq_true, if_false, testSource_refreshSeeding, setReady_frame, testSource_updCells]

theorem runs_testSrcEnable {m : Master} {on : Bool} {s : State} (hm : m.isSecure = true) (hl : s.lcy.state = 2) :
    Runs (.testSrcEnable m on) s fun u => u.rng.testSource = on :=
  runs_of_next (u := setTestSource s on) (by simp [exec, execTestSrcEnable, hm, hl]) (testSource_setTestSource s on)

theorem runs_testSrcEnable_refused {m : Master} {on : Bool} {s : State} (h : m.isSecure = false ∨ s.lcy.state ≠ 2) :
    Runs (.testSrcEnable m on) s fun u => u = refuseAccess s m 0x50C00 true :=
  runs_of_next (if_pos (by simpa using h)) rfl

/-! ### The commands (R239, R242) -/

section
variable {c : Cmd} {s : State}

theorem runs_rngGenerate (ha : admitted s c 0x0501 = true) (h1 : 1 ≤ c.nat 0x1B) (h4096 : c.nat 0x1B ≤ 4096) :
    Runs (.rngGenerate c) s fun u => u = askRandom s c.caller c.reply (c.nat 0x1B) 0 := by
  have hn : ¬(c.nat 0x1B = 0 ∨ 4096 < c.nat 0x1B) := by omega
  exact runs_of_admitted rfl ha (if_neg (by simpa using hn))

theorem runs_rngGenerate_outside (ha : admitted s c 0x0501 = true) (hn : c.nat 0x1B = 0 ∨ 4096 < c.nat 0x1B) :
    Runs (.rngGenerate c) s fun u => u = answerStatus s c.reply .invalidLength :=
  runs_of_admitted rfl ha (if_pos (by simpa using hn))

theorem runs_rngCfgSet {v : Word} (ha : admitted s c 0x0511 = true) (hw : c.regWrites = [(8, v)]) (h1 : 1 ≤ field v 14 0)
    (hmax : field v 14 0 ≤ 16384) :
    Runs (.rngCfgSet c) s fun u => UnderQuorum s c (plainQuorum s c 0x0511 [routine s 0]) u fun w _ => AnsweredOk u c [] ∧
      u.rng.reseedCfg = storeMasked w.rng.reseedCfg v 0x7FFF ∧ u.rng.cfg = w.rng.cfg := by
  have hok : c.regWrites.all rngWriteOk = true := by simp [hw, rngWriteOk, h1, hmax]
  refine runs_of_admitted rfl ha ?_
  simp only [hok, Bool.not_true, Bool.false_eq_true, if_false, withRoutine]
  refine underQuorum_withQuorum fun w reasons hj => ?_
  rw [withQuorum_met hj, hw]
  exact ⟨answeredOk_answerOk .., by simp [rngWrite], by simp [rngWrite]⟩

theorem runs_rngCellRetest (ha : admitted s c 0x0512 = true) (hn : c.nat 0x0A ≤ 15) (hs : (cell s (c.nat 0x0A)).state = 2) :
    Runs (.rngCellRetest c) s fun u => (cell u (c.nat 0x0A)).state = 3 ∧ (cell u (c.nat 0x0A)).testPos = 0 ∧
      (cell u (c.nat 0x0A)).retestFor = some c.reply :=
  runs_of_admitted rfl ha (by simp [Nat.not_lt.mpr hn, hs])

theorem runs_rngCellRetest_refused (ha : admitted s c 0x0512 = true) (h : 15 < c.nat 0x0A ∨ (cell s (c.nat 0x0A)).state ≠ 2) :
    Runs (.rngCellRetest c) s fun u => u = answerStatus s c.reply .invalidParameter :=
  runs_of_admitted rfl ha (if_pos (by simpa using h))

theorem runs_rngKatRun (ha : admitted s c 0x0513 = true) (hu : c.nat 0x0B ≤ 8) (hk : s.rng.katRun = none) :
    Runs (.rngKatRun c) s fun u => ∃ k, u.rng.katRun = some k ∧ k.unit = c.nat 0x0B ∧ k.reply = some c.reply ∧
      k.passes = (c.facts.headD 1 == 1) ∧ u.rng.katStatus = Status.code .pending :=
  runs_of_admitted rfl ha (by simp [hk, Nat.not_lt.mpr hu, startKat])

theorem runs_rngKatRun_busy (ha : admitted s c 0x0513 = true) (hk : s.rng.katRun.isSome = true) :
    Runs (.rngKatRun c) s fun u => u = answerBusy s c.reply 0xFFFFFFFF :=
  runs_of_admitted rfl ha (by simp only [hk, if_true])

theorem runs_rngTestSource (ha : admitted s c 0x0514 = true) (hl : s.lcy.state = 2) (hv : c.value 0x37 = none) :
    Runs (.rngTestSource c) s fun u => AnsweredOk u c [] ∧ u.rng.testSource = (c.nat 0x36 % 2 == 1) := by
  refine runs_of_admitted rfl ha ?_
  simp only [hl, hv, ne_eq, not_true_eq_false, if_false]
  exact ⟨answeredOk_answerOk .., by simp⟩

theorem runs_rngTestSource_refused (ha : admitted s c 0x0514 = true) (hl : s.lcy.state ≠ 2) :
    Runs (.rngTestSource c) s fun u => u = answerStatus s c.reply .lifecycleForbids :=
  runs_of_admitted rfl ha (by simp only [hl, ne_eq, not_false_eq_true, if_true])

end

/-- Settles O35: the start-up rows by the flags that they wait for, the tests and the test source by what they set, and the commands by
their own rules once they are let through. The model's choices are HOLDER 0xFFFFFFFF of a known-answer run (log entry 25) and the start-up
and test conventions (log entries 41 and 120). -/
theorem rngStartsAndAnswers : Obligations.RngStartsAndAnswers :=
  ⟨⟨fun _ _ _ _ hc hk ht hd hf hcells => runs_rngStartup_tested hc hk ht hd hf hcells,
      fun _ _ _ hc hk ht hd => runs_rngStartup_conditionerFails hc hk ht hd,
      fun _ _ hb ht hr hl => runs_rngStartupTimeout_late hb ht hr hl, fun _ _ hb => runs_rngStartupTimeout_ready hb,
      fun _ _ _ _ hm h8 hk => runs_katStart hm h8 hk, fun _ _ _ _ hm => runs_katStart_refused hm,
      fun _ _ _ hm hl => runs_testSrcEnable hm hl, fun _ _ _ h => runs_testSrcEnable_refused h⟩,
    ⟨fun _ _ ha h1 h4096 => runs_rngGenerate ha h1 h4096, fun _ _ ha hn => runs_rngGenerate_outside ha hn,
      fun _ _ _ ha hw h1 hmax => runs_rngCfgSet ha hw h1 hmax, fun _ _ ha hn hs => runs_rngCellRetest ha hn hs,
      fun _ _ ha h => runs_rngCellRetest_refused ha h, fun _ _ ha hu hk => runs_rngKatRun ha hu hk,
      fun _ _ ha hk => runs_rngKatRun_busy ha hk, fun _ _ ha hl hv => runs_rngTestSource ha hl hv,
      fun _ _ ha hl => runs_rngTestSource_refused ha hl⟩⟩

end Sys2Proof.Machine
end

section
/-!
What the statements of the management mailboxes share (O47 to O49): a mailbox after an update, and a packet put into its response FIFO.
-/

set_option Elab.async false

namespace Sys2Proof.Machine

/-! ### A mailbox after an update -/

theorem mailbox_of_boxes_eq {s u : State} (h : u.mbx.boxes = s.mbx.boxes) (n : Nat) : mailbox u n = mailbox s n := by
  rw [mailbox, mailbox, h]

theorem mailbox_of_mbx_eq {s u : State} (h : u.mbx = s.mbx) (n : Nat) : mailbox u n = mailbox s n :=
  mailbox_of_boxes_eq (congrArg MailboxBlock.boxes h) n

@[simp] theorem mailbox_updMailbox_same (s : State) (n : Nat) (f : Mailbox → Mailbox) :
    mailbox (updMailbox s n f) n = f (mailbox s n) := by
  simp [mailbox, updMailbox]

theorem mailbox_updMailbox_other (s : State) {n m : Nat} (f : Mailbox → Mailbox) (h : m ≠ n) :
    mailbox (updMailbox s n f) m = mailbox s m := by
  simp [mailbox, updMailbox, h]

@[simp] theorem mailbox_advance (s : State) (t : Time) (n : Nat) : mailbox (advance s t) n = mailbox s n :=
  mailbox_of_mbx_eq (by simp) n

@[simp] theorem mailbox_emit (s : State) (o : Out) (n : Nat) : mailbox (emit s o) n = mailbox s n := rfl

@[simp] theorem mailbox_alertPin (s : State) (was : Bool) (n : Nat) : mailbox (alertPin s was) n = mailbox s n :=
  mailbox_of_mbx_eq (by simp) n

@[simp] theorem mailbox_sendVector (s : State) (f v n : Nat) : mailbox (sendVector s f v) n = mailbox s n :=
  mailbox_of_mbx_eq (by simp) n

@[simp] theorem out_emit (s : State) (o : Out) : (emit s o).out = s.out ++ [o] := rfl

@[simp] theorem i3cOn_advance (s : State) (t : Time) : i3cOn (advance s t) = i3cOn s := by simp [i3cOn]

@[simp] theorem firmwareRuns_advance (s : State) (t : Time) : firmwareRuns (advance s t) = firmwareRuns s := by simp [firmwareRuns]

@[simp] theorem rspFree_advance (s : State) (t : Time) (n : Nat) : rspFree (advance s t) n = rspFree s n := by simp [rspFree]

/-! ### A packet put into a response FIFO (R346, R351) -/

/-- The notice of a packet's arrival changes nothing of its mailbox but what counts in-band interrupts. -/
theorem mailbox_notify_same (s : State) (n : Nat) :
    ∃ merged waits, mailbox (notify s n) n = { mailbox s n with ibiMerged := merged, ibiWaiting := waits } := by
  unfold notify
  dsimp only
  split
  · exact ⟨_, _, mailbox_sendVector ..⟩
  split
  · exact ⟨_, _, rfl⟩
  split
  · exact ⟨_, _, mailbox_updMailbox_same ..⟩
  · exact ⟨_, _, (mailbox_emit ..).trans (mailbox_updMailbox_same ..)⟩

/-- A packet goes behind the words of its FIFO, and nothing else of the mailbox changes but what counts in-band interrupts. -/
theorem mailbox_putPacket_same (s : State) (n : Nat) (ws : List Word) :
    ∃ wr merged waits, mailbox (putPacket s n ws) n = { mailbox s n with
      rsp := { (mailbox s n).rsp with words := (mailbox s n).rsp.words ++ ws, wr := wr }, ibiMerged := merged, ibiWaiting := waits } := by
  unfold putPacket
  dsimp only
  obtain ⟨merged, waits, h⟩ := mailbox_notify_same (alertPin (updMailbox s n fun b => { b with
    rsp := { b.rsp with words := b.rsp.words ++ ws, wr := (b.rsp.wr + ws.length) % (2 * fifoWords n) } })
    (!(mailbox s 6).rsp.words.isEmpty)) n
  exact ⟨_, merged, waits, by rw [h, mailbox_alertPin, mailbox_updMailbox_same]⟩

end Sys2Proof.Machine
end

section
/-!
Request packets, responses read and notices (O47).
-/

set_option Elab.async false

namespace Sys2Proof.Machine

open Claims (Runs)

/-! ### Packets that are being written (R345, R346) -/

/-- The mailbox with a packet opened under the header `h`. -/
def openPacket (b : Mailbox) (h : Word) (bad : Bool) : Mailbox := { b with packet := some { header := h, count := 0, bad := bad } }

section
variable {b : Mailbox} {p : OpenPacket}

theorem takeWord_of_room (hp : b.packet = some p) (hr : b.req.words.length + b.req.tentative.length < 4096) (v : Word) :
    takeWord b v = { b with
      req := { b.req with tentative := b.req.tentative ++ [v] }, packet := some { p with count := p.count + 1 } } := by
  simp [takeWord, hp, Nat.not_le.mpr hr]

/-- Words that the FIFO has room for are all taken. -/
theorem foldl_takeWord_of_room {ws : List Word} (hp : b.packet = some p)
    (hr : b.req.words.length + b.req.tentative.length + ws.length ≤ 4096) :
    ws.foldl takeWord b = { b with
      req := { b.req with tentative := b.req.tentative ++ ws }, packet := some { p with count := p.count + ws.length } } := by
  induction ws generalizing b p with
  | nil => simp [← hp]
  | cons v ws ih =>
    rw [List.length_cons] at hr
    rw [List.foldl_cons, takeWord_of_room hp (by omega), ih rfl (by simp only [List.length_append, List.length_singleton]; omega)]
    simp [Nat.add_comm 1, Nat.add_assoc]

/-- However a word of a bad packet is taken, the packet stays bad, and neither the committed words nor the count of bad packets change. -/
theorem takeWord_of_bad (hp : b.packet = some p) (hb : p.bad = true) (v : Word) :
    (takeWord b v).packet = some { p with count := p.count + 1 } ∧ (takeWord b v).req.words = b.req.words ∧
      (takeWord b v).badCount = b.badCount := by
  simp only [takeWord, hp, hb, Bool.true_or, true_and, and_true]
  split <;> rfl

theorem foldl_takeWord_of_bad (ws : List Word) (hp : b.packet = some p) (hb : p.bad = true) :
    (ws.foldl takeWord b).packet = some { p with count := p.count + ws.length } ∧ (ws.foldl takeWord b).req.words = b.req.words ∧
      (ws.foldl takeWord b).badCount = b.badCount := by
  induction ws generalizing b p with
  | nil => exact ⟨hp, rfl, rfl⟩
  | cons v ws ih =>
    obtain ⟨hpacket, hwords, hcount⟩ := takeWord_of_bad hp hb v
    obtain ⟨hpacket', hwords', hcount'⟩ := ih hpacket hb
    rw [List.foldl_cons]
    exact ⟨by simp [hpacket', Nat.add_comm 1, Nat.add_assoc], hwords'.trans hwords, hcount'.trans hcount⟩

end

/-- The words of a packet: its header, its payload and their CRC (R345). -/
def sealed (h : Word) (payload : List Word) : List Word := h :: payload ++ [crc32 (bytesOf (h :: payload))]

@[simp] theorem length_sealed (h : Word) (payload : List Word) : (sealed h payload).length = payload.length + 2 := by simp [sealed]

/-- A packet of the length that its header gives, closed by its CRC, is sound. -/
theorem packetSound_sealed {h : Word} {payload : List Word} (hh : headerOk h = true) (hl : field h 10 0 = payload.length) :
    packetSound { header := h, count := payload.length + 2, bad := false } (sealed h payload) = true := by
  have hlast : (sealed h payload).getLastD 0 = crc32 (bytesOf (sealed h payload).dropLast) := by
    rw [sealed, List.dropLast_concat, List.getLastD_concat]
  rw [packetSound, hlast]
  simp [hh, packetWords, hl]

section
variable {s : State} {n : Nat} {p : OpenPacket}

theorem endPacket_of_sound (hp : (mailbox s n).packet = some p) (hs : packetSound p (mailbox s n).req.tentative = true) :
    endPacket s n = emit (updMailbox s n commitPacket) (.requestInterrupt n) := by
  simp [endPacket, hp, hs]

theorem endPacket_of_bad (hp : (mailbox s n).packet = some p) (hb : p.bad = true) : endPacket s n = updMailbox s n rewindPacket := by
  simp [endPacket, hp, packetSound, hb]

/-- A packet is not settled before its last word. -/
theorem settlePacket_of_short (hp : (mailbox s n).packet = some p) (hc : p.count < packetWords p.header) : settlePacket s n = s := by
  simp [settlePacket, hp, Nat.not_le.mpr hc]

theorem takePacket_of_port (h : (mailbox s n).port = 0) (ws : List Word) (whole : Bool) :
    takePacket s n ws whole = endPacket (updMailbox s n fun b => ws.foldl takeWord (openPacket b (ws.headD 0) (!whole))) n := by
  simp [takePacket, h, openPacket]

end

/-! ### Packets over I3C (R343, R346) -/

/-- Past its command byte an I3C write is a matter of its mailbox. -/
theorem exec_requestPacketWrite_mailbox {c : Byte} {s : State} (hi : i3cOn s = true) (hc : c.toNat < 6) (ws : List Word)
    (whole fault : Bool) (t : Time) :
    ∃ v, exec (.requestPacketWrite c ws whole fault t) s = .next (takePacket v c.toNat ws (whole && !fault)) ∧ v.out = s.out ∧
      mailbox v c.toNat = mailbox s c.toNat := by
  refine ⟨{ advance s t with mbx := { (advance s t).mbx with
    protocolErr := (advance s t).mbx.protocolErr || fault || !(c.toNat < 6 || otherTransfer c.toNat) } }, ?_, ?_, ?_⟩
  · simp [exec, execRequestPacketWrite, hi, hc]
  · simp
  · exact mailbox_of_boxes_eq (by simp) _

/-- An I3C write of a whole packet, of whatever length its header gives, is committed. -/
theorem runs_requestPacketWrite_sealed {c : Byte} {h : Word} {t : Time} {s : State} (payload : List Word) (hi : i3cOn s = true)
    (hc : c.toNat < 6) (hport : (mailbox s c.toNat).port = 0) (hten : (mailbox s c.toNat).req.tentative = [])
    (hroom : (mailbox s c.toNat).req.words.length + (payload.length + 2) ≤ 4096) (hh : headerOk h = true)
    (hl : field h 10 0 = payload.length) :
    Runs (.requestPacketWrite c (sealed h payload) true false t) s fun u =>
      (mailbox u c.toNat).req.words = (mailbox s c.toNat).req.words ++ sealed h payload ∧
        (mailbox u c.toNat).badCount = (mailbox s c.toNat).badCount ∧ u.out = s.out ++ [.requestInterrupt c.toNat] := by
  obtain ⟨v, he, hout, hbox⟩ := exec_requestPacketWrite_mailbox hi hc (sealed h payload) true false t
  refine runs_of_next he ?_
  have htaken := foldl_takeWord_of_room (b := openPacket (mailbox s c.toNat) h false) (ws := sealed h payload) rfl
    (by simpa [openPacket, hten] using hroom)
  rw [takePacket_of_port (by rw [hbox, hport])]
  have hv : mailbox (updMailbox v c.toNat fun b => (sealed h payload).foldl takeWord
      (openPacket b ((sealed h payload).headD 0) (!(true && !false)))) c.toNat = { mailbox s c.toNat with
        req := { (mailbox s c.toNat).req with tentative := sealed h payload }
        packet := some { header := h, count := payload.length + 2, bad := false } } := by
    rw [mailbox_updMailbox_same, hbox]
    exact htaken.trans (by simp [openPacket, hten])
  rw [endPacket_of_sound (congrArg Mailbox.packet hv) (by rw [hv]; exact packetSound_sealed hh hl)]
  exact ⟨by rw [mailbox_emit, mailbox_updMailbox_same, hv]; rfl, by rw [mailbox_emit, mailbox_updMailbox_same, hv]; rfl, by simp [hout]⟩

theorem runs_requestPacketWrite_cut {c : Byte} {fault : Bool} {t : Time} {s : State} (ws : List Word) (hi : i3cOn s = true)
    (hc : c.toNat < 6) (hport : (mailbox s c.toNat).port = 0) :
    Runs (.requestPacketWrite c ws false fault t) s fun u => (mailbox u c.toNat).req.words = (mailbox s c.toNat).req.words ∧
      (mailbox u c.toNat).req.tentative = [] ∧ (mailbox u c.toNat).badCount = sat32 (mailbox s c.toNat).badCount ∧
        (mailbox u c.toNat).badPacket = true := by
  obtain ⟨v, he, -, hbox⟩ := exec_requestPacketWrite_mailbox hi hc ws false fault t
  refine runs_of_next he ?_
  obtain ⟨hpacket, hwords, hcount⟩ := foldl_takeWord_of_bad (b := openPacket (mailbox s c.toNat) (ws.headD 0) true) ws rfl rfl
  rw [takePacket_of_port (by rw [hbox, hport]), endPacket_of_bad (by rw [mailbox_updMailbox_same, hbox]; exact hpacket) rfl]
  simp only [mailbox_updMailbox_same, hbox]
  exact ⟨hwords, rfl, congrArg sat32 hcount, rfl⟩

theorem runs_requestPacketWrite_off {c : Byte} {ws : List Word} {whole fault : Bool} {t : Time} {s : State} (hi : i3cOn s = false) :
    Runs (.requestPacketWrite c ws whole fault t) s fun u => u = advance s t :=
  runs_of_next (by simp [exec, execRequestPacketWrite, hi]) rfl

/-! ### Packets over the registers (R344, R348) -/

section
variable {m : Master} {n : Fin 8} {v : Word} {s : State}

theorem runs_reqHdrWrite (hr : reaches s m n = true) (hn : n.val ≤ 5) (hp : (mailbox s n).packet = none)
    (hten : (mailbox s n).req.tentative = []) (hroom : (mailbox s n).req.words.length < 4096) :
    Runs (.reqHdrWrite m n v) s fun u => (mailbox u n).req.tentative = [v] ∧ (mailbox u n).req.words = (mailbox s n).req.words ∧
      (mailbox u n).packet = some { header := v, count := 1, bad := false } := by
  have he : exec (.reqHdrWrite m n v) s = .next (settlePacket (updMailbox s n fun b => takeWord (openPacket b v false) v) n) := by
    simp [exec, execReqHdrWrite, hr, Nat.not_lt.mpr hn, writeHdr, hp, openPacket]
  have hv : mailbox (updMailbox s n fun b => takeWord (openPacket b v false) v) n = { mailbox s n with
      req := { (mailbox s n).req with tentative := [v] }, packet := some { header := v, count := 1, bad := false } } := by
    rw [mailbox_updMailbox_same, takeWord_of_room rfl (by simpa [openPacket, hten] using hroom)]
    simp [openPacket, hten]
  rw [settlePacket_of_short (congrArg Mailbox.packet hv) (by simp [packetWords])] at he
  exact runs_of_next he (by simp [hv])

theorem runs_reqHdrWrite_wrongPort (hp : (mailbox s n).port ≠ 1) :
    Runs (.reqHdrWrite .pf0 n v) s fun u => (mailbox u n).wrongPort = true ∧ (mailbox u n).req = (mailbox s n).req := by
  refine runs_of_next (u := wrongPort s .pf0 n (boxBase n + 8) true) (by simp [exec, execReqHdrWrite, reaches, hp]) ?_
  have hbox : mailbox (refuseAccess s .pf0 (boxBase n + 8) true) n = mailbox s n := mailbox_of_mbx_eq (by simp) n
  simp [wrongPort, hbox]

theorem exec_reqDataWrite (hr : reaches s m n = true) (hn : n.val ≤ 5) : exec (.reqDataWrite m n v) s = .next (writeData s n v) := by
  simp [exec, execReqDataWrite, hr, Nat.not_lt.mpr hn]

theorem runs_reqDataWrite_closed (hr : reaches s m n = true) (hn : n.val ≤ 5) (hp : (mailbox s n).packet = none) :
    Runs (.reqDataWrite m n v) s fun u => (mailbox u n).badPacket = true ∧ (mailbox u n).req = (mailbox s n).req :=
  runs_of_next (exec_reqDataWrite hr hn) (by simp [writeData, hp])

theorem runs_reqDataWrite_open {p : OpenPacket} (hr : reaches s m n = true) (hn : n.val ≤ 5) (hp : (mailbox s n).packet = some p)
    (hc : p.count + 1 < packetWords p.header) (hroom : (mailbox s n).req.words.length + (mailbox s n).req.tentative.length < 4096) :
    Runs (.reqDataWrite m n v) s fun u => (mailbox u n).req.tentative = (mailbox s n).req.tentative ++ [v] ∧
      (mailbox u n).packet = some { p with count := p.count + 1 } := by
  have htaken := takeWord_of_room hp hroom v
  refine runs_of_next (exec_reqDataWrite hr hn) ?_
  simp only [writeData, hp, Option.isNone_some, Bool.false_eq_true, if_false]
  rw [settlePacket_of_short (p := { p with count := p.count + 1 }) (by simp [htaken]) hc]
  simp [htaken]

end

/-! ### Responses read over I3C and over the registers (R347) -/

theorem frontPacket_ne_nil {f : Fifo} (h : f.words ≠ []) : frontPacket f ≠ [] := by
  simp [frontPacket, packetWords, h]

theorem frontPacket_of_nil {f : Fifo} (h : f.words = []) : frontPacket f = [] := by
  simp [frontPacket, h]

/-- Reading a packet of any mailbox but MB6 to its end takes it off its FIFO and leaves MGMT_ALERT_N as it was. -/
theorem dropFront_other {s : State} {n : Nat} (hn : n ≠ 6) (hm : (mailbox s n).moveTo = none) :
    (dropFront s n).out = s.out ∧
      (mailbox (dropFront s n) n).rsp.words = (mailbox s n).rsp.words.drop (frontPacket (mailbox s n).rsp).length := by
  simp [dropFront, settleMove, hm, alertPin, mailbox_updMailbox_other _ _ (Ne.symm hn)]

section
variable {n : Fin 8} {k : Nat} {t : Time} {s : State}

/-- What an I3C read of a mailbox begins with: a waiting in-band interrupt counts as taken. -/
def ibiTaken (s : State) (t : Time) (n : Nat) : State := updMailbox (advance s t) n fun b => { b with ibiWaiting := false }

theorem ibiTaken_frame (s : State) (t : Time) (n : Nat) :
    mailbox (ibiTaken s t n) n = { mailbox s n with ibiWaiting := false } ∧ (ibiTaken s t n).out = s.out := by
  simp [ibiTaken]

theorem exec_responsePacketRead_packet (hi : i3cOn s = true) (hp : (mailbox s n).port = 0) (hw : (mailbox s n).rsp.words ≠ []) :
    exec (.responsePacketRead n k t) s = .next (if k < (frontPacket (mailbox s n).rsp).length
      then emit (ibiTaken s t n) (.packet n ((frontPacket (mailbox s n).rsp).take k))
      else dropFront (emit (ibiTaken s t n) (.packet n ((frontPacket (mailbox s n).rsp).take k))) n) := by
  simp [exec, execResponsePacketRead, hi, hp, frontPacket_ne_nil hw, ibiTaken]

theorem runs_responsePacketRead_part (hi : i3cOn s = true) (hp : (mailbox s n).port = 0) (hw : (mailbox s n).rsp.words ≠ [])
    (hk : k < (frontPacket (mailbox s n).rsp).length) :
    Runs (.responsePacketRead n k t) s fun u => u.out = s.out ++ [.packet n ((frontPacket (mailbox s n).rsp).take k)] ∧
      (mailbox u n).rsp = (mailbox s n).rsp := by
  obtain ⟨hbox, hout⟩ := ibiTaken_frame s t n
  refine runs_of_next (exec_responsePacketRead_packet hi hp hw) ?_
  simp [hk, hbox, hout]

theorem runs_responsePacketRead_whole (hi : i3cOn s = true) (hp : (mailbox s n).port = 0) (hw : (mailbox s n).rsp.words ≠ [])
    (hn : n.val ≠ 6) (hk : (frontPacket (mailbox s n).rsp).length ≤ k) (hm : (mailbox s n).moveTo = none) :
    Runs (.responsePacketRead n k t) s fun u => u.out = s.out ++ [.packet n ((frontPacket (mailbox s n).rsp).take k)] ∧
      (mailbox u n).rsp.words = (mailbox s n).rsp.words.drop (frontPacket (mailbox s n).rsp).length := by
  obtain ⟨hbox, hout⟩ := ibiTaken_frame s t n
  refine runs_of_next (exec_responsePacketRead_packet hi hp hw) ?_
  obtain ⟨hdout, hdrop⟩ := dropFront_other (s := emit (ibiTaken s t n) (.packet n ((frontPacket (mailbox s n).rsp).take k))) hn
    (by simp [hbox, hm])
  rw [if_neg (Nat.not_lt.mpr hk)]
  exact ⟨by simp [hdout, hout], by simp [hdrop, hbox]⟩

theorem runs_responsePacketRead_empty (hi : i3cOn s = true) (hp : (mailbox s n).port = 0) (hw : (mailbox s n).rsp.words = []) :
    Runs (.responsePacketRead n k t) s fun u => u.out = s.out ++ [.packet n [0]] :=
  runs_of_next (u := emit (ibiTaken s t n) (.packet n [0]))
    (by simp [exec, execResponsePacketRead, hi, hp, frontPacket_of_nil hw, ibiTaken]) (by simp [(ibiTaken_frame s t n).2])

theorem runs_rspDataRead {m : Master} (hr : reaches s m n = true)
    (hp : (mailbox s n).rsp.readPos + 1 < (frontPacket (mailbox s n).rsp).length) :
    Runs (.rspDataRead m n) s fun u => u.out = s.out ++ [.read ((frontPacket (mailbox s n).rsp).getD (mailbox s n).rsp.readPos 0)] ∧
      (mailbox u n).rsp.readPos = (mailbox s n).rsp.readPos + 1 ∧ (mailbox u n).rsp.words = (mailbox s n).rsp.words := by
  have hne : frontPacket (mailbox s n).rsp ≠ [] := List.ne_nil_of_length_pos (by omega)
  have hword : takeRspWord s n = (updMailbox s n fun b => { b with rsp := { b.rsp with readPos := b.rsp.readPos + 1 } },
      (frontPacket (mailbox s n).rsp).getD (mailbox s n).rsp.readPos 0) := by
    simp [takeRspWord, hne, Nat.not_le.mpr hp]
  exact runs_of_next (by simp [exec, execRspDataRead, hr, hword]; rfl) (by simp)

theorem runs_rspRewind {m : Master} (hr : reaches s m n = true) :
    Runs (.rspRewind m n) s fun u => (mailbox u n).rsp.readPos = 0 ∧ (mailbox u n).rsp.words = (mailbox s n).rsp.words :=
  runs_of_next (u := rewindRsp s n) (by simp [exec, execRspRewind, hr]) (by simp [rewindRsp])

end

/-! ### Notices (R349, R350) -/

section
variable {s : State} {n seq : Nat} {payload : List Word}

theorem mailbox_writeNotice_of_room (hr : (packetOf 3 0 false false payload).length + 3 ≤ rspFree s n) :
    ∃ wr merged waits, mailbox (writeNotice s n seq payload) n = { mailbox s n with
      rsp := { (mailbox s n).rsp with words := (mailbox s n).rsp.words ++ packetOf 3 0 false false payload, wr := wr }
      gapLast := false, ibiMerged := merged, ibiWaiting := waits } := by
  obtain ⟨wr, merged, waits, h⟩ := mailbox_putPacket_same (updMailbox s n fun b => { b with gapLast := false }) n
    (packetOf 3 0 false false payload)
  exact ⟨wr, merged, waits, by simp [writeNotice, hr, h]⟩

/-- A notice that does not fit is dropped and counted, whether a gap packet goes out for it or not. -/
theorem mailbox_writeNotice_of_full (hr : rspFree s n < (packetOf 3 0 false false payload).length + 3) :
    (mailbox (writeNotice s n seq payload) n).noticeDropped = true ∧
      (mailbox (writeNotice s n seq payload) n).noticeLost = sat32 (mailbox s n).noticeLost := by
  simp only [writeNotice, Nat.not_le.mpr hr, if_false]
  split
  · obtain ⟨wr, merged, waits, h⟩ := mailbox_putPacket_same (updMailbox s n fun b => { b with
      noticeLost := sat32 b.noticeLost, noticeDropped := true, gapLast := true }) n
      (packetOf 4 0 false false [BitVec.ofNat 32 seq])
    simp [h]
  · simp

end

section
variable {t : Time} {s : State}

/-- The oldest notice of Lantern goes to MB6. -/
theorem exec_noticeWrite_lantern {p : Bytes} {l : List Bytes} (hu : secureUp s = true) (hl : s.lan.notices = p :: l) :
    ∃ v, exec (.noticeWrite false t) s = .next (writeNotice v 6 (leNat (p.take 2)) (wordsOf p)) ∧ v.lan.notices = l ∧
      mailbox v 6 = mailbox s 6 := by
  refine ⟨{ advance s t with lan := { (advance s t).lan with notices := l } }, ?_, rfl, mailbox_of_mbx_eq (by simp) 6⟩
  simp [exec, execNoticeWrite, hu, hl]

theorem runs_noticeWrite_lantern {p : Bytes} {l : List Bytes} (hu : secureUp s = true) (hl : s.lan.notices = p :: l)
    (hr : (packetOf 3 0 false false (wordsOf p)).length + 3 ≤ rspFree s 6) :
    Runs (.noticeWrite false t) s fun u => u.lan.notices = l ∧
      (mailbox u 6).rsp.words = (mailbox s 6).rsp.words ++ packetOf 3 0 false false (wordsOf p) := by
  obtain ⟨v, he, hv, hbox⟩ := exec_noticeWrite_lantern (t := t) hu hl
  obtain ⟨wr, merged, waits, h⟩ := mailbox_writeNotice_of_room (s := v) (n := 6) (seq := leNat (p.take 2)) (payload := wordsOf p)
    (by rwa [rspFree, hbox])
  exact runs_of_next he ⟨by simp [hv], by simp [h, hbox]⟩

theorem runs_noticeWrite_lantern_full {p : Bytes} {l : List Bytes} (hu : secureUp s = true) (hl : s.lan.notices = p :: l)
    (hr : rspFree s 6 < (packetOf 3 0 false false (wordsOf p)).length + 3) :
    Runs (.noticeWrite false t) s fun u => u.lan.notices = l ∧ (mailbox u 6).noticeDropped = true ∧
      (mailbox u 6).noticeLost = sat32 (mailbox s 6).noticeLost := by
  obtain ⟨v, he, hv, hbox⟩ := exec_noticeWrite_lantern (t := t) hu hl
  obtain ⟨hdropped, hlost⟩ := mailbox_writeNotice_of_full (s := v) (n := 6) (seq := leNat (p.take 2)) (payload := wordsOf p)
    (by rwa [rspFree, hbox])
  exact runs_of_next he ⟨by simp [hv], hdropped, by rw [hlost, hbox]⟩

/-- The oldest notice of Strata goes to MB7 under that mailbox's next number. -/
theorem exec_noticeWrite_strata {a : Nat} {r : Bytes} {l : List (Nat × Bytes)} (hu : secureUp s = true)
    (hl : s.str.notices = (a, r) :: l) :
    ∃ v, exec (.noticeWrite true t) s = .next (writeNotice v 7 (mailbox s 7).noticeSeq
        (BitVec.ofNat 32 ((mailbox s 7).noticeSeq + a * 2 ^ 16) :: wordsOf r)) ∧ v.str.notices = l ∧
      mailbox v 7 = { mailbox s 7 with noticeSeq := ((mailbox s 7).noticeSeq + 1) % 65536 } := by
  have hbox : mailbox { advance s t with str := { (advance s t).str with notices := l } } 7 = mailbox s 7 :=
    mailbox_of_mbx_eq (by simp) 7
  refine ⟨updMailbox { advance s t with str := { (advance s t).str with notices := l } } 7
    fun b => { b with noticeSeq := (b.noticeSeq + 1) % 65536 }, ?_, by simp, by rw [mailbox_updMailbox_same, hbox]⟩
  simp [exec, execNoticeWrite, hu, hl, mailbox, updMailbox]

theorem runs_noticeWrite_strata {a k : Nat} {r : Bytes} {l : List (Nat × Bytes)} (hu : secureUp s = true)
    (hl : s.str.notices = (a, r) :: l) (hk : (mailbox s 7).noticeSeq = k) (hr : (wordsOf r).length + 6 ≤ rspFree s 7) :
    Runs (.noticeWrite true t) s fun u => u.str.notices = l ∧ (mailbox u 7).noticeSeq = (k + 1) % 65536 ∧
      (mailbox u 7).rsp.words =
        (mailbox s 7).rsp.words ++ packetOf 3 0 false false (BitVec.ofNat 32 (k + a * 2 ^ 16) :: wordsOf r) := by
  subst hk
  obtain ⟨v, he, hv, hbox⟩ := exec_noticeWrite_strata (t := t) hu hl
  have hroom : (packetOf 3 0 false false (BitVec.ofNat 32 ((mailbox s 7).noticeSeq + a * 2 ^ 16) :: wordsOf r)).length + 3 ≤
      rspFree v 7 := by
    simpa [rspFree, hbox, packetOf] using hr
  obtain ⟨wr, merged, waits, h⟩ := mailbox_writeNotice_of_room (seq := (mailbox s 7).noticeSeq) hroom
  exact runs_of_next he ⟨by simp only [writeNotice_frame, hv], by rw [h, hbox], by rw [h, hbox]⟩

end

/-- Settles O47: a packet by the words that its FIFO takes and by what ends it, a read by what it takes off the FIFO, a notice by whether
it fits. -/
theorem mailboxPacketsMove : Obligations.MailboxPacketsMove :=
  ⟨⟨fun _ _ _ _ hi hc hp ht hr hh hl w => runs_requestPacketWrite_sealed [w] hi hc hp ht hr hh hl,
      fun _ ws _ _ _ hi hc hp _ => runs_requestPacketWrite_cut ws hi hc hp, fun _ _ _ _ _ _ hi => runs_requestPacketWrite_off hi,
      fun _ _ _ _ hr hn hp ht hroom => runs_reqHdrWrite hr hn hp ht hroom, fun _ _ _ hp => runs_reqHdrWrite_wrongPort hp,
      fun _ _ _ _ hr hn hp => runs_reqDataWrite_closed hr hn hp,
      fun _ _ _ _ _ hr hn hp hc hroom => runs_reqDataWrite_open hr hn hp hc hroom⟩,
    ⟨fun _ _ _ _ hi hp hw hk => runs_responsePacketRead_part hi hp hw hk,
      fun _ _ _ _ hi hp hw hn hk hm => runs_responsePacketRead_whole hi hp hw hn hk hm,
      fun _ _ _ _ hi hp hw => runs_responsePacketRead_empty hi hp hw, fun _ _ _ hr hp => runs_rspDataRead hr hp,
      fun _ _ _ hr => runs_rspRewind hr, fun _ _ _ _ hu hl hr => runs_noticeWrite_lantern hu hl hr,
      fun _ _ _ _ hu hl hr => runs_noticeWrite_lantern_full hu hl hr,
      fun _ _ _ _ _ _ hu hl hk hr => runs_noticeWrite_strata hu hl hk hr⟩⟩

end Sys2Proof.Machine
end

section
/-!
Responses written, and what times out (O48).
-/

set_option Elab.async false

namespace Sys2Proof

/-- Entries that are changed in place are found at their own index. -/
theorem Tbl.look_map {α β : Type} (t : Tbl α) (f : Nat → α → β) (k : Nat) :
    Tbl.look (t.map fun e => (e.1, f e.1 e.2)) k = (t.look k).map (f k) := by
  induction t with
  | nil => rfl
  | cons e t ih =>
    obtain ⟨j, a⟩ := e
    by_cases h : j = k
    · subst h; simp [Tbl.look]
    · simpa [Tbl.look, h] using ih

theorem Tbl.look_eq_none {α : Type} {t : Tbl α} {k : Nat} (h : ∀ e ∈ t, e.1 ≠ k) : t.look k = none := by
  induction t with
  | nil => rfl
  | cons e t ih =>
    obtain ⟨j, a⟩ := e
    rw [Tbl.look, if_neg (h _ List.mem_cons_self), ih fun e he => h e (List.mem_cons_of_mem _ he)]

end Sys2Proof

namespace Sys2Proof.Machine

open Claims (Runs)

/-! ### Sessions that close (R359) -/

/-- The sessions that a close leaves a mailbox: those that it does not hit, and for their last answers those with commands outstanding. -/
def sessionsLeft (b : Mailbox) (p : Nat → Session → Bool) : Tbl Session :=
  (b.sessions.map fun x => (x.1, if p x.1 x.2 then { x.2 with closing := true } else x.2)).filter fun x =>
    !x.2.closing || b.outstanding.any fun o => o.session == x.1 || o.macSession == x.1

theorem mailbox_closeSessionsBy (s : State) (p : Nat → Nat → Session → Bool) (n : Nat) :
    mailbox (closeSessionsBy s p) n = { mailbox s n with sessions := sessionsLeft (mailbox s n) (p n) } := by
  have h := Tbl.look_map s.mbx.boxes (fun k b => { b with sessions := sessionsLeft b (p k) }) n
  have hbox : mailbox (closeSessionsBy s p) n =
      (Tbl.look (s.mbx.boxes.map fun e => (e.1, { e.2 with sessions := sessionsLeft e.2 (p e.1) })) n).getD (mailboxReset n) := rfl
  rw [hbox, h, mailbox, Tbl.get]
  cases s.mbx.boxes.look n with
  | some b => rfl
  | none => rfl

theorem sessions_closeSessionsBy (s : State) (p : Nat → Nat → Session → Bool) (n : Nat) :
    (mailbox (closeSessionsBy s p) n).sessions = sessionsLeft (mailbox s n) (p n) :=
  congrArg Mailbox.sessions (mailbox_closeSessionsBy s p n)

/-- A session that is hit goes at once where no command is outstanding. -/
theorem look_sessionsLeft_of_idle {b : Mailbox} {p : Nat → Session → Bool} {k : Nat} (ho : b.outstanding = [])
    (hp : ∀ x, p k x = true) : (sessionsLeft b p).look k = none := by
  refine Tbl.look_eq_none fun e he => ?_
  simp only [sessionsLeft, ho, List.any_nil, Bool.or_false, List.mem_filter, List.mem_map] at he
  obtain ⟨⟨x, -, rfl⟩, hopen⟩ := he
  rintro rfl
  simp [hp] at hopen

/-! ### Responses (R346, R352, R362, R363) -/

section
variable {n : Fin 6} {t : Time} {s : State}

/-- The packet next in line is written once it fits. -/
theorem sendNext_of_room {s : State} {n : Nat} {ws : List Word} {l : List (List Word)} (hs : (mailbox s n).sending = ws :: l)
    (hr : ws.length ≤ rspFree s n) : sendNext s n = putPacket (updMailbox s n fun b => { b with sending := l }) n ws := by
  simp [sendNext, hs, hr]

theorem runs_finalResponseWrite_answered {o : Outstanding} {l : List Outstanding} {a : Answer} (hf : firmwareRuns s = true)
    (hs : (mailbox s n).sending = []) (ho : (mailbox s n).outstanding = o :: l) (ha : o.answer = some a) :
    Runs (.finalResponseWrite n t) s fun u => u = sendNext (freeDelivered (dropClosing (updMailbox (advance s t) n fun b =>
      { b with outstanding := l, sending := envelopePackets o.tag (responseBytes (advance s t) n o a.status (finalFlags o a)
        (a.items.flatMap RItem.bytes) a.reasons) }))) n :=
  runs_of_next (by simp [exec, execFinalResponseWrite, hf, hs, ho, ha]) rfl

theorem runs_finalResponseWrite_sending {ws : List Word} {l : List (List Word)} (hf : firmwareRuns s = true)
    (hs : (mailbox s n).sending = ws :: l) (hr : ws.length ≤ rspFree s n) :
    Runs (.finalResponseWrite n t) s fun u => (mailbox u n).sending = l ∧ (mailbox u n).rsp.words = (mailbox s n).rsp.words ++ ws := by
  have he : exec (.finalResponseWrite n t) s = .next (sendNext (advance s t) n) := by simp [exec, execFinalResponseWrite, hf, hs]
  rw [sendNext_of_room (by rw [mailbox_advance, hs]) (by rwa [rspFree_advance])] at he
  obtain ⟨wr, merged, waits, h⟩ := mailbox_putPacket_same (updMailbox (advance s t) n fun b => { b with sending := l }) n ws
  exact runs_of_next he ⟨by rw [h, mailbox_updMailbox_same], by rw [h, mailbox_updMailbox_same, mailbox_advance]⟩

theorem runs_finalResponseWrite_stopped (hf : firmwareRuns s = false) : Runs (.finalResponseWrite n t) s fun u => u = advance s t :=
  runs_of_next (by simp [exec, execFinalResponseWrite, hf]) rfl

theorem runs_finalResponseWrite_unanswered {o : Outstanding} {l : List Outstanding} (hs : (mailbox s n).sending = [])
    (ho : (mailbox s n).outstanding = o :: l) (ha : o.answer = none) : Runs (.finalResponseWrite n t) s fun u => u = advance s t :=
  runs_of_next (by simp [exec, execFinalResponseWrite, hs, ho, ha]) rfl

theorem runs_interimResponse_due {o : Outstanding} {l : List Outstanding} (hs : (mailbox s n).sending = [])
    (ho : (mailbox s n).outstanding = o :: l) (ha : o.answer = none) (hi : o.interim = false)
    (ht : o.takenAt + msT ≤ (advance s t).now) (hu : secureUp s = true) :
    Runs (.interimResponse n t) s fun u => u = sendNext (updMailbox (advance s t) n fun b => { b with
      outstanding := { o with interim := true } :: l, sending := envelopePackets o.tag (responseBytes (advance s t) n o
        (if o.rngWait || heldForRng (advance s t) (.envelope o.id) then .rngStarting else .pending) 5 [] []) }) n :=
  runs_of_next (by simp [exec, execInterimResponse, hs, ho, ha, hi, Nat.not_lt.mpr ht, hu]) rfl

theorem runs_interimResponse_given {o : Outstanding} {l : List Outstanding} (ho : (mailbox s n).outstanding = o :: l)
    (hi : o.interim = true) : Runs (.interimResponse n t) s fun u => u = advance s t :=
  runs_of_next (by simp [exec, execInterimResponse, ho, hi]) rfl

/-! ### What times out (R353, R357, R359) -/

theorem runs_reassemblyTimeout_due {a : Assembly} (hf : firmwareRuns s = true) (ha : (mailbox s n).assembly = some a)
    (ht : a.lastAt + secT ≤ (advance s t).now) :
    Runs (.reassemblyTimeout n t) s fun u => (mailbox u n).assembly = none ∧ (mailbox u n).badCount = sat32 (mailbox s n).badCount :=
  runs_of_next (u := updMailbox (advance s t) n fun b => { b with assembly := none, badCount := sat32 b.badCount })
    (by simp [exec, execReassemblyTimeout, hf, ha, Nat.not_lt.mpr ht]) (by simp)

theorem runs_reassemblyTimeout_early {a : Assembly} (ha : (mailbox s n).assembly = some a) (ht : (advance s t).now < a.lastAt + secT) :
    Runs (.reassemblyTimeout n t) s fun u => u = advance s t :=
  runs_of_next (by simp [exec, execReassemblyTimeout, ha, ht]) rfl

theorem openSession_advance (s : State) (t : Time) (mb k : Nat) : openSession (advance s t) mb k = openSession s mb k := by
  simp [openSession]

theorem sessionIdle_advance (s : State) (t : Time) : sessionIdle (advance s t) = sessionIdle s := by simp [sessionIdle]

theorem runs_sessionIdleTimeout_due {k : Nat} {x : Session} (hx : openSession s n k = some x)
    (ht : x.lastAt + sessionIdle s * secT ≤ (advance s t).now) (ho : (mailbox s n).outstanding = []) :
    Runs (.sessionIdleTimeout n k t) s fun u => (mailbox u n).sessions.look k = none := by
  refine runs_of_next (u := closeSessionsBy (advance s t) fun mb j _ => mb == n.val && j == k)
    (by simp [exec, execSessionIdleTimeout, openSession_advance, hx, sessionIdle_advance, Nat.not_lt.mpr ht]) ?_
  rw [sessions_closeSessionsBy, mailbox_advance]
  refine look_sessionsLeft_of_idle ho fun x => ?_
  simp

theorem runs_sessionIdleTimeout_early {k : Nat} {x : Session} (hx : openSession s n k = some x)
    (ht : (advance s t).now < x.lastAt + sessionIdle s * secT) : Runs (.sessionIdleTimeout n k t) s fun u => u = advance s t :=
  runs_of_next (by simp [exec, execSessionIdleTimeout, openSession_advance, hx, sessionIdle_advance, ht]) rfl

theorem runs_offerExpiry (id : Nat) (t : Time) (s : State) :
    Runs (.offerExpiry id t) s fun u =>
      u.mbx.offers = s.mbx.offers.filter fun o => o.id != id || decide ((advance s t).now < o.openedAt + 60 * secT) :=
  runs_of_next rfl (by simp)

end

/-- Settles O48: a response by what stands at the front of its mailbox, a time-out by whether its moment has come. -/
theorem mailboxResponsesAndTimeouts : Obligations.MailboxResponsesAndTimeouts :=
  ⟨fun _ _ _ _ _ _ hf hs ho ha => runs_finalResponseWrite_answered hf hs ho ha,
    fun _ _ _ _ _ hf hs hr => runs_finalResponseWrite_sending hf hs hr, fun _ _ _ hf => runs_finalResponseWrite_stopped hf,
    fun _ _ _ _ _ hs ho ha => runs_finalResponseWrite_unanswered hs ho ha,
    fun _ _ _ _ _ hs ho ha hi ht hu => runs_interimResponse_due hs ho ha hi ht hu,
    fun _ _ _ _ _ ho hi => runs_interimResponse_given ho hi, fun _ _ _ _ hf ha ht => runs_reassemblyTimeout_due hf ha ht,
    fun _ _ _ _ ha ht => runs_reassemblyTimeout_early ha ht, fun _ _ _ _ _ hx ht ho => runs_sessionIdleTimeout_due hx ht ho,
    fun _ _ _ _ _ hx ht => runs_sessionIdleTimeout_early hx ht, runs_offerExpiry⟩

end Sys2Proof.Machine
end

section
/-!
Sessions offered, opened, closed and listed, and mailboxes bound to ports (O49).
-/

set_option Elab.async false

namespace Sys2Proof.Machine

open Claims (Runs UnderQuorum AnsweredOk admitted)

/-! ### What of the mailbox block no answer and no draw changes -/

/-- The open offers, the number of the next, and the register that holds SESSION_IDLE_S. -/
def sessionDesk (s : State) : List Offer × Nat × Word := (s.mbx.offers, s.mbx.nextOffer, s.mbx.sessionCfg)

theorem sessionDesk_of_mbx_eq {s u : State} (h : u.mbx = s.mbx) : sessionDesk u = sessionDesk s := by rw [sessionDesk, sessionDesk, h]

theorem sessionDesk_answer (s : State) (r : Reply) (a : Answer) : sessionDesk (answer s r a) = sessionDesk s := by
  cases r with
  | envelope id => rfl
  | ring id => rfl
  | call token => rfl
  | log => rfl

theorem sessionDesk_answerOk (s : State) (c : Cmd) (reasons : List Nat) (items : List RItem) :
    sessionDesk (answerOk s c reasons items) = sessionDesk s := sessionDesk_answer ..

theorem sessionDesk_answerStatus (s : State) (r : Reply) (st : Status) : sessionDesk (answerStatus s r st) = sessionDesk s :=
  sessionDesk_answer ..

theorem sessionDesk_countRefused (s : State) (i k : Nat) : sessionDesk (countRefused s i k) = sessionDesk s :=
  sessionDesk_of_mbx_eq (by simp)

theorem sessionDesk_instCalls (s : State) (i k n : Nat) : sessionDesk (instCalls s i k n).2 = sessionDesk s :=
  sessionDesk_of_mbx_eq (by simp)

theorem sessionDesk_refuseDraw (s : State) (r : DrawReq) : sessionDesk (refuseDraw s r) = sessionDesk s := by
  unfold refuseDraw
  split
  · exact sessionDesk_of_mbx_eq (by simp)
  · exact sessionDesk_answerStatus ..

theorem sessionDesk_deliverDraw (s : State) (r : DrawReq) (b : Bytes) : sessionDesk (deliverDraw s r b) = sessionDesk s := by
  unfold deliverDraw
  split
  · exact sessionDesk_of_mbx_eq (by simp)
  · rfl
  · exact sessionDesk_answer ..

theorem sessionDesk_drainExhausted (s : State) (i : Nat) : sessionDesk (drainExhausted s i) = sessionDesk s := by
  unfold drainExhausted
  split
  · exact foldl_keeps sessionDesk sessionDesk_refuseDraw _ _
  · rfl

theorem sessionDesk_serveCall (s : State) (i : Nat) : sessionDesk (serveCall s i) = sessionDesk s := by
  unfold serveCall
  split
  · rfl
  split
  · exact sessionDesk_refuseDraw ..
  · dsimp only
    rw [sessionDesk_drainExhausted]
    split
    · exact (sessionDesk_deliverDraw ..).trans (sessionDesk_of_mbx_eq (by simp))
    · exact sessionDesk_of_mbx_eq (by simp)

theorem sessionDesk_serveAhead (p : Bool) (fuel : Nat) (s : State) (i : Nat) : sessionDesk (serveAhead p fuel s i) = sessionDesk s := by
  induction fuel generalizing s with
  | zero => rfl
  | succ fuel ih =>
    unfold serveAhead
    split
    · rfl
    · rw [ih, sessionDesk_serveCall]

theorem sessionDesk_draw (s : State) (h : Nat) (p : Bool) (n : Nat) : sessionDesk (draw s h p n).1 = sessionDesk s := by
  unfold draw
  dsimp only
  split
  · rfl
  split
  · rfl
  split
  · rw [sessionDesk_countRefused, sessionDesk_serveAhead]
  · rw [sessionDesk_drainExhausted, sessionDesk_instCalls, sessionDesk_serveAhead]

theorem sessionDesk_openNew (s : State) (c : Cmd) (mb d index : Nat) (role : Role) (keys : Bytes) :
    sessionDesk (openNew s c mb d index role keys) = sessionDesk s := sessionDesk_answerOk ..

section
variable {c : Cmd} {s : State}

/-! ### Offers (R357) -/

theorem withDraw_of_ok {v : State} {home n : Nat} {b : Bytes} {k : State → Bytes → State} (r : Reply)
    (h : draw s home false n = (v, .ok b)) : withDraw s r home n k = k v b := by
  simp [withDraw, h]

/-- The bytes that go out for the offer made of `b`, and the state in which it is kept. -/
def keepOffer (v : State) (b : Bytes) : Bytes × State :=
  let ((body, sig, kem, x), s) := makeOffer v v.mbx.nextOffer b
  let o : Offer := { id := v.mbx.nextOffer, nonce := slice b 96 32, offer := body, kemSecret := kem, xSecret := x, openedAt := s.now }
  (body ++ sig ++ s.die.certificates,
    { s with mbx := { s.mbx with offers := s.mbx.offers ++ [o], nextOffer := (v.mbx.nextOffer + 1) % 2 ^ 32 } })

theorem mbx_keepOffer (v : State) (b : Bytes) :
    (keepOffer v b).2.mbx.nextOffer = (v.mbx.nextOffer + 1) % 2 ^ 32 ∧ ∃ o : Offer, (keepOffer v b).2.mbx.offers = v.mbx.offers ++ [o] ∧
      o.id = v.mbx.nextOffer ∧ o.nonce = slice b 96 32 ∧ o.openedAt = v.now := by
  have hmbx : (makeOffer v v.mbx.nextOffer b).2.mbx = v.mbx := by simp
  have hnow : (makeOffer v v.mbx.nextOffer b).2.now = v.now := by simp
  exact ⟨rfl, _, congrArg (fun m : MailboxBlock => m.offers ++ [_]) hmbx, rfl, rfl, hnow⟩

theorem exec_mbxSessionOffer {v : State} {b : Bytes} (ha : admitted s c 0x0102 = true) (hr : s.kst.ready = true)
    (hs : suspended s = false) (hk : s.die.attestation.isSome = true) (ho : s.mbx.offers.length < 8)
    (hd : draw s 1 false 128 = (v, .ok b)) :
    exec (.mbxSessionOffer c) s = .next (answerOk (keepOffer v b).2 c [] [.blob (keepOffer v b).1]) := by
  have hk' : s.die.attestation.isNone = false := by simpa [Option.isNone_eq_false_iff] using hk
  have hfree : leastOf (useConditions s ++ [(s.die.attestation.isNone, .notReady), (decide (8 ≤ s.mbx.offers.length), .busyLocked)]) =
      none := by
    simp [leastOf, useConditions, hr, hs, hk', ho]
  have he : exec (.mbxSessionOffer c) s = .next (command s c 0x0102 _) := rfl
  rw [he, command_of_admitted ha]
  simp only [hfree, withDraw_of_ok c.reply hd]
  rfl

theorem runs_mbxSessionOffer {v : State} {b : Bytes} (ha : admitted s c 0x0102 = true) (hr : s.kst.ready = true)
    (hs : suspended s = false) (hk : s.die.attestation.isSome = true) (ho : s.mbx.offers.length < 8)
    (hd : draw s 1 false 128 = (v, .ok b)) :
    Runs (.mbxSessionOffer c) s fun u => (∃ x, AnsweredOk u c [.blob x]) ∧ ∃ w : State,
      w.mbx.nextOffer = (s.mbx.nextOffer + 1) % 2 ^ 32 ∧ ∃ o : Offer, w.mbx.offers = s.mbx.offers ++ [o] ∧ o.id = s.mbx.nextOffer ∧
        o.nonce = slice b 96 32 ∧ o.openedAt = s.now ∧ u.mbx.offers = w.mbx.offers := by
  have hdesk : sessionDesk v = sessionDesk s := by simpa only [hd] using sessionDesk_draw s 1 false 128
  have hnow : v.now = s.now := (draw_frame_of hd).2.1
  simp only [sessionDesk, Prod.mk.injEq] at hdesk
  obtain ⟨hoffers, hnext, -⟩ := hdesk
  obtain ⟨hcount, o, hkept, hid, hnonce, hopened⟩ := mbx_keepOffer v b
  refine runs_of_next (exec_mbxSessionOffer ha hr hs hk ho hd) ⟨⟨_, answeredOk_answerOk ..⟩, (keepOffer v b).2, ?_⟩
  exact ⟨by rw [hcount, hnext], o, by rw [hkept, hoffers], hid.trans hnext, hnonce, hopened.trans hnow,
    congrArg (·.1) (sessionDesk_answerOk ..)⟩

/-! ### Opening (R357) -/

theorem runs_mbxSessionOpen_length (ha : admitted s c 0x0103 = true) (hl : c.body.bytes.length ≠ 1128) :
    Runs (.mbxSessionOpen c) s fun u => u = answerStatus s c.reply .invalidLength :=
  runs_of_admitted rfl ha (if_pos hl)

/-- The state in which an offer is consumed. -/
def withoutOffer (s : State) (o : Offer) : State := { s with mbx := { s.mbx with offers := s.mbx.offers.filter (·.id != o.id) } }

/-- The mailbox that an opening comes over. -/
def openingBox (c : Cmd) : Nat :=
  match c.caller with
  | .session mb _ => mb
  | _ => 0

/-- How an opening ends whose proof screens VALID. -/
def openProved (s : State) (c : Cmd) (o : Offer) (d index : Nat) (role : Role) : State :=
  let b := c.body.bytes
  let x := x25519 o.xSecret (slice b 1096 32)
  if allZero x then answerStatus s c.reply .invalidKey
  else if 16 ≤ openCount s (openingBox c) || 65535 < (mailbox s (openingBox c)).nextSession then answerBusy s c.reply 0xFFFFFFFF
  else openNew s c (openingBox c) d index role (kdf 2 (Config.kemDecaps o.kemSecret (slice b 8 1088) ++ x)
    (asciiBytes "SNX4144 SESSION") (Config.sha384 (o.offer ++ slice b 8 1088 ++ slice b 1096 32)) 64)

/-- A proof that is judged goes one way where it screens VALID, and another with the reason code of any other. -/
def byProof (p : State × Nat) (valid : State → State) (invalid : State → Nat → State) : State :=
  match p with
  | (s, 0) => valid s
  | (s, code) => invalid s code

theorem byProof_valid (s : State) (valid : State → State) (invalid : State → Nat → State) :
    byProof (s, 0) valid invalid = valid s := rfl

theorem sessionDesk_byProof {p : State × Nat} {valid : State → State} {invalid : State → Nat → State}
    (hv : ∀ s, sessionDesk (valid s) = sessionDesk s) (hi : ∀ s code, sessionDesk (invalid s code) = sessionDesk s) :
    sessionDesk (byProof p valid invalid) = sessionDesk p.1 := by
  obtain ⟨s, _ | code⟩ := p
  · exact hv s
  · exact hi s (code + 1)

/-- How an opening ends once its offer is consumed. -/
def openUnder (s : State) (c : Cmd) (o : Offer) : State :=
  let d := leAt c.body.bytes 4 2
  let index := leAt c.body.bytes 7 1
  if (domain s d).state ≠ .active || !domainKnown s d then answerStatus s c.reply .notReady
  else match (roleOf (leAt c.body.bytes 6 1)).bind fun r => (credentialOf s d r index).map fun k => (r, k) with
    | none => answerStatus s c.reply .notPermitted
    | some (role, k) => byProof (judgeProof s c o d index k) (fun s => openProved s c o d index role) fun s code =>
        answer s c.reply { status := .notPermitted, reasons := [code] }

theorem exec_mbxSessionOpen_offer {o : Offer} (ha : admitted s c 0x0103 = true) (hl : c.body.bytes.length = 1128)
    (ho : s.mbx.offers.find? (·.id == leAt c.body.bytes 0 4) = some o) :
    exec (.mbxSessionOpen c) s = .next (openUnder (withoutOffer s o) c o) := by
  have he : exec (.mbxSessionOpen c) s = .next (command s c 0x0103 _) := rfl
  rw [he, command_of_admitted ha]
  simp only [hl, ho, ne_eq, not_true_eq_false, if_false]
  rfl

theorem sessionDesk_openProved (s : State) (c : Cmd) (o : Offer) (d index : Nat) (role : Role) :
    sessionDesk (openProved s c o d index role) = sessionDesk s := by
  unfold openProved
  dsimp only
  split
  · exact sessionDesk_answerStatus ..
  split
  · exact sessionDesk_answer ..
  · exact sessionDesk_openNew ..

theorem sessionDesk_openUnder (s : State) (c : Cmd) (o : Offer) : sessionDesk (openUnder s c o) = sessionDesk s := by
  unfold openUnder
  dsimp only
  split
  · exact sessionDesk_answerStatus ..
  split
  · exact sessionDesk_answerStatus ..
  · rw [sessionDesk_byProof (fun s => sessionDesk_openProved ..) fun s code => sessionDesk_answer ..]
    exact sessionDesk_of_mbx_eq (by simp)

theorem runs_mbxSessionOpen_consumes {o : Offer} (ha : admitted s c 0x0103 = true) (hl : c.body.bytes.length = 1128)
    (ho : s.mbx.offers.find? (·.id == leAt c.body.bytes 0 4) = some o) :
    Runs (.mbxSessionOpen c) s fun u => u.mbx.offers = s.mbx.offers.filter (·.id != o.id) :=
  runs_of_next (exec_mbxSessionOpen_offer ha hl ho) (congrArg (·.1) (sessionDesk_openUnder (withoutOffer s o) c o))

theorem runs_mbxSessionOpen_proved {o : Offer} {mb n : Nat} {k : Credential} (ha : admitted s c 0x0103 = true)
    (hl : c.body.bytes.length = 1128) (hc : c.caller = .session mb n)
    (ho : s.mbx.offers.find? (·.id == leAt c.body.bytes 0 4) = some o) (hd : leAt c.body.bytes 4 2 = 0)
    (hst : (domain s 0).state = .active) (hrole : leAt c.body.bytes 6 1 = 1)
    (hk : credentialOf s 0 .officer (leAt c.body.bytes 7 1) = some k) :
    Runs (.mbxSessionOpen c) s fun u => ∀ w x, judgeProof (withoutOffer s o) c o 0 (leAt c.body.bytes 7 1) k = (w, 0) →
      x25519 o.xSecret (slice c.body.bytes 1096 32) = x → (allZero x = true → u = answerStatus w c.reply .invalidKey) ∧
      (allZero x = false → openCount w mb < 16 → (mailbox w mb).nextSession ≤ 65535 →
        u = openNew w c mb 0 (leAt c.body.bytes 7 1) .officer (kdf 2 (Config.kemDecaps o.kemSecret (slice c.body.bytes 8 1088) ++ x)
          (asciiBytes "SNX4144 SESSION") (Config.sha384 (o.offer ++ slice c.body.bytes 8 1088 ++ slice c.body.bytes 1096 32)) 64)) := by
  have hst' : (domain (withoutOffer s o) 0).state = .active := hst
  have hk' : credentialOf (withoutOffer s o) 0 .officer (leAt c.body.bytes 7 1) = some k := hk
  have hbox : openingBox c = mb := by rw [openingBox, hc]
  have hunder : openUnder (withoutOffer s o) c o = byProof (judgeProof (withoutOffer s o) c o 0 (leAt c.body.bytes 7 1) k)
      (fun s => openProved s c o 0 (leAt c.body.bytes 7 1) .officer)
      fun s code => answer s c.reply { status := .notPermitted, reasons := [code] } := by
    simp [openUnder, hd, hst', domainKnown, hrole, roleOf, hk']
  refine runs_of_next (exec_mbxSessionOpen_offer ha hl ho) fun w x hj hx => ?_
  rw [hunder, hj, byProof_valid, openProved, hx, hbox]
  refine ⟨fun hz => if_pos hz, fun hz hroom hnext => ?_⟩
  simp [hz, Nat.not_le.mpr hroom, Nat.not_lt.mpr hnext]

/-! ### Closing, listing, and the two settings (R359, R367) -/

theorem runs_mbxSessionClose {mb n : Nat} (ha : admitted s c 0x0104 = true) (hc : c.caller = .session mb n) :
    Runs (.mbxSessionClose c) s fun u => u = closeSessionsBy (answerOk s c [] []) fun k j _ => k == mb && j == n :=
  runs_of_admitted rfl ha (by simp only [hc])

theorem runs_mbxSessionList (ha : admitted s c 0x0105 = true) :
    Runs (.mbxSessionList c) s fun u => ∃ items, u = answerOk s c [] items ∧
      items.length = ((List.range 6).map fun mb => openCount s mb).sum :=
  runs_of_admitted rfl ha ⟨_, rfl, by simp [List.length_flatMap, openCount, Tbl.count, Tbl.keep]⟩

theorem runs_mbxPortSet (ha : admitted s c 0x0110 = true) (hn : c.nat 0x0C ≤ 7) (hp : c.nat 0x0D ≤ 2) (hr : c.reply = .log) :
    Runs (.mbxPortSet c) s fun u => UnderQuorum s c (plainQuorum s c 0x0110 [routine s 0]) u fun v reasons =>
      u = movePort (answerOk v c reasons []) (c.nat 0x0C) (c.nat 0x0D) := by
  refine runs_of_admitted rfl ha ?_
  simp only [Nat.not_lt.mpr hn, Nat.not_lt.mpr hp, decide_false, Bool.or_self, Bool.false_eq_true, if_false, withRoutine]
  refine underQuorum_withQuorum fun v reasons hj => ?_
  rw [withQuorum_met hj, hr]

theorem runs_mbxCfgSet {v : Word} (ha : admitted s c 0x0111 = true) (hw : c.regWrites = [(4, v)]) (h60 : 60 ≤ field v 16 0)
    (hmax : field v 16 0 ≤ 86400) :
    Runs (.mbxCfgSet c) s fun u => AnsweredOk u c [] ∧ u.mbx.sessionCfg = storeMasked s.mbx.sessionCfg v 0x1FFFF := by
  refine runs_of_admitted rfl ha ?_
  simp only [hw, h60, hmax, decide_true, Bool.and_self, if_true]
  exact ⟨answeredOk_answerOk .., congrArg (·.2.2) (sessionDesk_answerOk ..)⟩

end

/-- Settles O49: each command by its own rules once it is let through; whatever becomes of an opening, no answer touches the offers.
INVALID_LENGTH for an MBX_SESSION_OPEN body of another length is the model's choice (log entry 58). -/
theorem mailboxSessionsAreManaged : Obligations.MailboxSessionsAreManaged :=
  ⟨fun _ _ _ _ ha hr hs hk ho hd => runs_mbxSessionOffer ha hr hs hk ho hd, fun _ _ ha hl => runs_mbxSessionOpen_length ha hl,
    fun _ _ _ ha hl ho => runs_mbxSessionOpen_consumes ha hl ho,
    fun _ _ _ _ _ _ _ ha hl hc ho hd hst hrole hk hv => hv ▸ runs_mbxSessionOpen_proved ha hl hc ho hd hst hrole hk,
    fun _ _ _ _ ha hc => runs_mbxSessionClose ha hc, fun _ _ ha => runs_mbxSessionList ha,
    fun _ _ ha hn hp hr => runs_mbxPortSet ha hn hp hr, fun _ _ _ ha hw h60 hmax => runs_mbxCfgSet ha hw h60 hmax⟩

end Sys2Proof.Machine
end

section
/-!
The I3C common command codes (O50).
-/

set_option Elab.async false

namespace Sys2Proof.Machine

open Claims (Runs)

section
variable {t : Time} {s : State}

/-! ### The codes that a target with its address answers (R341, R342) -/

theorem ccc_of_on (hi : i3cOn s = true) (k : State → State) : ccc s t k = .next (k (advance s t)) := by
  simp [ccc, hi]

theorem ccc_of_off (hi : i3cOn s = false) (k : State → State) : ccc s t k = .next (advance s t) := by
  simp [ccc, hi]

/-- A code of a target that is on does what it says, once the moment has come. -/
theorem runs_of_ccc {i : Instr} {k : State → State} {P : State → Prop} (he : exec i s = ccc s t k) (hi : i3cOn s = true)
    (hP : P (k (advance s t))) : Runs i s P :=
  runs_of_next (he.trans (ccc_of_on hi k)) hP

/-- What a code leaves as it is whether it acts or not, it leaves so whether the target is on or off. -/
theorem runs_of_ccc_keeps {α : Type} {i : Instr} {k : State → State} {f : State → α} (he : exec i s = ccc s t k)
    (hk : ∀ v, f (k v) = f v) (ha : f (advance s t) = f s) : Runs i s fun u => f u = f s := by
  cases hi : i3cOn s with
  | true => exact runs_of_ccc he hi ((hk _).trans ha)
  | false => exact runs_of_next (he.trans (ccc_of_off hi k)) ha

/-! ### Addresses (R341, R342) -/

theorem runs_entdaa {a : BitVec 7} (hm : s.mbx.mgmtEn = true) (hv : s.mbx.addrValid = false) :
    Runs (.entdaa a t) s fun u => u.mbx.dynAddr = a.toNat ∧ u.mbx.addrValid = true :=
  runs_of_next (u := setDynamic (advance s t) a.toNat) (by simp [exec, execEntdaa, hm, hv]) ⟨rfl, rfl⟩

theorem runs_entdaa_addressed {a : BitVec 7} (hv : s.mbx.addrValid = true) : Runs (.entdaa a t) s fun u => u = advance s t :=
  runs_of_next (by simp [exec, execEntdaa, hv]) rfl

theorem runs_setdasa {st a : BitVec 7} (hm : s.mbx.mgmtEn = true) (hv : s.mbx.addrValid = false)
    (hst : st.toNat = 0x50 + s.id.chamberId) :
    Runs (.setdasa st a t) s fun u => u.mbx.dynAddr = a.toNat ∧ u.mbx.addrValid = true :=
  runs_of_next (u := setDynamic (advance s t) a.toNat) (by simp [exec, execSetdasa, hm, hv, hst]) ⟨rfl, rfl⟩

theorem runs_setdasa_other {st a : BitVec 7} (hst : st.toNat ≠ 0x50 + s.id.chamberId) :
    Runs (.setdasa st a t) s fun u => u = advance s t :=
  runs_of_next (by simp [exec, execSetdasa, hst]) rfl

/-! ### The reset of the front end (R489) -/

theorem runs_rstact {a : Byte} (hi : i3cOn s = true) (ha : a = 1 ∨ a = 2) :
    Runs (.rstact a t) s fun u => u.mbx.addrValid = false ∧ u.mbx.ibiEn = false ∧ u.mbx.hdr = false ∧ u.mbx.boxes = s.mbx.boxes ∧
      u.mbx.mgmtEn = s.mbx.mgmtEn := by
  refine runs_of_ccc (rfl : execRstact a t s = _) hi ?_
  simp only [decide_eq_true_eq, Bool.or_eq_true, ha, if_true, advance_frame, and_self]

theorem runs_rstact_off {a : Byte} (hi : i3cOn s = false) : Runs (.rstact a t) s fun u => u = advance s t :=
  runs_of_next (ccc_of_off hi _) rfl

/-! ### Reads, and the two maximum lengths (R342) -/

theorem runs_getpid (hi : i3cOn s = true) : Runs (.getpid t) s fun u =>
    u = emit (advance s t) (.i3c (beBytes 6 (0x0A5E * 2 ^ 33 + 0x4144 * 2 ^ 16 + s.id.chamberId * 2 ^ 12))) :=
  runs_of_ccc (rfl : execGetpid t s = _) hi (by simp only [provisionalId, advance_frame])

theorem runs_setmwl {v : BitVec 16} (hi : i3cOn s = true) (hv : 4105 ≤ v.toNat) :
    Runs (.setmwl v t) s fun u => u.mbx.mwl = v.toNat :=
  runs_of_ccc (rfl : execSetmwl v t s = _) hi (by simp only [Nat.not_lt.mpr hv, if_false])

theorem runs_setmwl_short {v : BitVec 16} (hv : v.toNat < 4105) : Runs (.setmwl v t) s fun u => u.mbx.mwl = s.mbx.mwl :=
  runs_of_ccc_keeps (f := (·.mbx.mwl)) (rfl : execSetmwl v t s = _) (fun w => by simp only [hv, if_true]) (by simp only [advance_frame])

theorem runs_setmrl {v : BitVec 16} (hi : i3cOn s = true) (hv : 4104 ≤ v.toNat) :
    Runs (.setmrl v t) s fun u => u.mbx.mrl = v.toNat :=
  runs_of_ccc (rfl : execSetmrl v t s = _) hi (by simp only [Nat.not_lt.mpr hv, if_false])

theorem runs_setmrl_short {v : BitVec 16} (hv : v.toNat < 4104) : Runs (.setmrl v t) s fun u => u.mbx.mrl = s.mbx.mrl :=
  runs_of_ccc_keeps (f := (·.mbx.mrl)) (rfl : execSetmrl v t s = _) (fun w => by simp only [hv, if_true]) (by simp only [advance_frame])

end

/-- Settles O50: a code by what it does once the target has its address, an assignment by whether it has one yet. The interrupt payload
byte 1 of GETMRL, the order of the bytes of its answers, and MGMT_EN as it stays over RSTACT are the model's choices (log entry 59). -/
theorem i3cCommonCommands : Obligations.I3cCommonCommands :=
  ⟨⟨fun _ _ _ hm hv => runs_entdaa hm hv, fun _ _ _ hv => runs_entdaa_addressed hv, fun _ _ _ _ hm hv hst => runs_setdasa hm hv hst,
      fun _ _ _ _ hst => runs_setdasa_other hst, fun a t s hi => runs_of_ccc (rfl : execSetnewda a t s = _) hi ⟨rfl, rfl⟩,
      fun t s hi => runs_of_ccc (rfl : execRstdaa t s = _) hi ⟨rfl, rfl⟩,
      fun t s hi => runs_of_ccc (rfl : execEnec t s = _) hi rfl,
      fun t s hi => runs_of_ccc (rfl : execDisec t s = _) hi rfl,
      fun t s hi => runs_of_ccc (rfl : execEnthdr0 t s = _) hi rfl,
      fun _ _ _ hi ha => runs_rstact hi ha, fun _ _ _ hi => runs_rstact_off hi⟩,
    ⟨fun _ _ hi => runs_getpid hi,
      fun t s hi => runs_of_ccc (rfl : execGetbcr t s = _) hi rfl,
      fun t s hi => runs_of_ccc (rfl : execGetdcr t s = _) hi rfl,
      fun t s hi => runs_of_ccc (rfl : execGetstatus t s = _) hi (by simp only [advance_frame]),
      fun t s hi => runs_of_ccc (rfl : execGetmwl t s = _) hi (by simp only [advance_frame]),
      fun t s hi => runs_of_ccc (rfl : execGetmrl t s = _) hi (by simp only [advance_frame]), fun _ _ _ hi hv => runs_setmwl hi hv,
      fun _ _ _ hv => runs_setmwl_short hv, fun _ _ _ hi hv => runs_setmrl hi hv, fun _ _ _ hv => runs_setmrl_short hv,
      fun t s hi => runs_of_ccc (rfl : execGetmxds t s = _) hi rfl,
      fun t s hi => runs_of_ccc (rfl : execGetcaps t s = _) hi rfl⟩⟩

end Sys2Proof.Machine
end
